-- ==== Sys2Proof/Word.lean ====
section
/-!
DEFINITION. The word types of the device: what the spec treats as bits is a bit vector, indices and addresses used as
keys are natural numbers.
-/
namespace Sys2Proof

/-- A byte of memory or of a record (00_scope, Notation and units: little-endian bytes). -/
abbrev Byte := BitVec 8

/-- A 32-bit register or instruction word (R7). -/
abbrev Word := BitVec 32

/-- A 64-bit quantity: Quartz time, a digest, a counter pair (R13). -/
abbrev DWord := BitVec 64

/-- A table keyed by a natural number, kept sorted by key with no key twice. -/
abbrev Tbl (α : Type) := List (Nat × α)

end Sys2Proof
end

