-- ==== Sys2Proof/Types.lean ====
section
/-!
DEFINITION. The operand types of commands: requester paths, core and array names.
-/
namespace Sys2Proof

/-- R516: the requester paths of a register access or a management request. vf is the context page of a function. -/
inductive Requester where
  | mgmtA
  | mgmtB
  | fabric (node : Nat)
  | pf (port : Nat)
  | vf (port func : Nat)
  | internal
  deriving DecidableEq, Repr

/-- A physical array, 0 to 17. -/
abbrev ArrayId := Fin 18

/-- A context, 0 to 511. -/
abbrev CtxId := Fin 512

/-- A core ID: [19:16] logical array, [15:8] row, [7:0] column (00_scope, Identifiers). -/
abbrev CoreId := BitVec 20

/-- A fabric port, 0 to 31. -/
abbrev FabPort := Fin 32

/-- A host port, 0 to 7. -/
abbrev HostPortId := Fin 8

/-- A power domain, 0 to 333 (R27). -/
abbrev DomainId := Fin 334

/-- A site code, 0 to 17. -/
abbrev SiteId := Fin 18

/-- A waiter on a sync counter (R293): a core's wait, or a controller's. -/
inductive Waiter where
  | core (id : CoreId)
  | ctrl (p : ArrayId)
  deriving DecidableEq, Repr

/-- R407, R408, R411: what a configuration request addresses: the identity dword; Command (bit 1 memory, bit 2 Bus Master Enable); a
base address register; Device Control (bit 4 Enable Relaxed Ordering, bits 7:5 Max Payload Size, bits 14:12 Max Read Request
Size, bit 15 Initiate Function Level Reset); Device Control 2; SR-IOV Control (bit 0 VF Enable), NumVFs and TotalVFs; ATS Control
(bit 15 Enable); MSI-X Control (bit 15 Enable); power management (bits 1:0, 3 for D3hot); Device Serial Number (low, high);
anything else by its offset. -/
inductive CfgItem where
  | identity
  | command
  | bar (i : Fin 6)
  | deviceControl
  | deviceControl2
  | sriovControl
  | numVfs
  | totalVfs
  | atsControl
  | msixControl
  | pmControl
  | serial (high : Bool)
  | other (off : Nat)
  deriving DecidableEq, Repr

/-- R21, R490, R498: a lane of a seam bundle; link: the trunk link (2 × pair + lane) that the bundle carries, if any. -/
structure SeamLane where
  seg : Fin 12
  bundle : BitVec 8
  group : BitVec 8
  lane : Fin 33
  link : Option (Fin 54)
  deriving DecidableEq, Repr

/-- R183: the completion of a chain: its array, and the hardware errors in the elements it writes, as (flattened index, difference). -/
structure ChainDone where
  array : ArrayId
  upset : List (Nat × Nat)
  deriving DecidableEq, Repr

/-- R349, R355: the hardware errors of a replay: in the witness path, as (row, difference), and in what the attached chains write, as
(chain, flattened index, difference). -/
structure ReplayFaults where
  wit : List (Nat × Nat)
  chains : List (Nat × Nat × Nat)
  deriving DecidableEq, Repr

/-- R261, R262: a walk: its array, the micro-cache of the unit that asks (3: none), the context. -/
structure WalkFor where
  array : ArrayId
  micro : Fin 4
  ctx : CtxId
  deriving DecidableEq, Repr

/-- R245, R274: what a scrub pass finds: words whose stored bits changed since the last pass, as (address, the syndrome that the change
gives, the pass reached it after the change); of a pass over HBM the error counts of its stacks and the rows repaired softly. -/
structure ScrubFinds where
  upsets : List (Nat × BitVec 8 × Bool)
  ecs : List (SiteId × Nat)
  rows : List (SiteId × Fin 64 × Word)
  deriving DecidableEq, Repr

/-- R245: a lane of a pseudo-channel. -/
structure HbmLane where
  pc : Fin 64
  lane : BitVec 8
  deriving DecidableEq, Repr

/-- R417, R437: a flit, and whether it is a control flit that carries the peer's wake command (the spec lays out no payload of a control
flit). -/
structure FlitIn where
  bytes : List Byte
  wake : Bool
  deriving DecidableEq, Repr

/-- A trunk router: 0 to 17 of the physical arrays, 18 + k of site k (R18, R20, R22). -/
abbrev RouterId := Fin 36

/-- R250, R251: a trunk packet: its source and destination routers, whether it is a response, its context and generation, its sequence
number, the poison mask of one bit per 8 payload bytes, the payload of 0 to 4 flits, and the address its first payload byte is bound
for. -/
structure TrunkPacket where
  src : RouterId
  dst : RouterId
  rsp : Bool
  ctx : Nat
  gen : Nat
  seq : Nat
  poison : BitVec 32
  data : List Byte
  pa : Nat
  deriving DecidableEq, Repr

/-- R250: what a trunk packet's header names besides its poison mask and payload. -/
structure PacketHead where
  src : RouterId
  dst : RouterId
  rsp : Bool
  ctx : Nat
  gen : Nat
  seq : Nat
  deriving DecidableEq, Repr

/-- R484, R487, R488: what a bring-up stage ended with: result (0 pass, 1 pass with repair, 2 pass degraded, 3 fail, 4 a restart from
stage 2 is asked for), duration in µs, failing unit, detail, location, the stage data words of bytes 64 to 127, arrays and dies that
passed, fabric ports up, seam lanes that failed training (stage 5), repairs made as (kind, target bytes), log copies that failed their
header check (stage 2), invalid boot pointer records (stage 1), arrays whose clock mesh failed its test (stage 6). In stage 1 detail bits 0 to 2 say that the trial slot, the active slot,
the other slot fail R534. -/
structure StageEnd where
  result : Nat
  micros : Nat
  unit : Nat
  detail : Nat
  location : Nat
  data : List Nat
  arrays : Nat
  dies : Nat
  ports : Nat
  lanes : List SeamLane
  repairs : List (Nat × List Nat)
  badLogs : Nat
  badRecs : Nat
  mesh : Nat
  deriving DecidableEq, Repr

end Sys2Proof
end

