-- ==== Sys2Proof/Syntax.lean ====
section
/-!
DEFINITION. The commands of the device: one constructor for each row of spec/opcode_table.json, in its order. Where a
command is an instruction of a core or of a controller, its operands are the unit and the instruction words; where it is
an event, its operands are what the outside world supplies with it (notes/assumptions/1 to 3).
-/
namespace Sys2Proof

/-- The commands. -/
inductive Instr where
  /-- R7: A 32-bit write to a register that has no row of its own sets its fields according to their access types. -/
  | registerWrite (req : Requester) (off : Nat) (be : BitVec 4) (v : Word)
  /-- R8: A read of an RC field returns its value and then clears the field. -/
  | rcRead (req : Requester) (off : Nat)
  /-- R13: A read of a _LO register captures the whole 64-bit value into the requester's latch and returns bits [31:0]. -/
  | loReadCapture (req : Requester) (lo : Nat)
  /-- R13: A write to a writable _LO register is held in the requester's latch. -/
  | loWriteLatch (req : Requester) (lo : Nat) (v : Word)
  /-- R13: A write to a _HI register commits the latched or live low half together with the new high half in one cycle. -/
  | hiWriteCommit (req : Requester) (hi : Nat) (v : Word)
  /-- R14: A host 64-bit access is performed as two 32-bit accesses, the lower address first. -/
  | host64bitAccess (req : Requester) (off : Nat) (write : Option DWord)
  /-- R19: A UCIe module that fails lane repair is retired; the site continues at lower bandwidth and a class 0x0E event is posted. -/
  | ucieModuleRetire (k : SiteId) (m : Fin 16)
  /-- R496: At a tile boundary, an in-service remap claims and wakes a spare and copies controller state, edge store, slates and counters to it. -/
  | remapStart (p : ArrayId)
  /-- R26: When the copies and the zero fill are complete, the logical-to-physical map switches, the queue resumes and phys_mapped changes. -/
  | remapMapSwitch (p : ArrayId)
  /-- R205: The load instruction moves a stationary block from the edge store into the active set, optionally also into a park slot. -/
  | loadBlock (p : ArrayId) (w : Word)
  /-- R205: The load.s instruction moves a stationary block into the shadow set, optionally also into a park slot. -/
  | loadS (p : ArrayId) (w : Word)
  /-- R205: The unpark instruction moves park slot contents into the shadow set, with the scales read from the scale region. -/
  | unpark (p : ArrayId) (w : Word)
  /-- R206: The swap instruction enqueues one swap token, and faults if the token could never run. -/
  | swapSets (p : ArrayId) (w : Word)
  /-- R207: The drain instruction sets the drain configuration for the passes enqueued after it. -/
  | drain (p : ArrayId) (w0 w1 : Word)
  /-- R208: The pass instruction enqueues a normal array-mode pass after the issue-time format and shape checks. -/
  | pass (p : ArrayId) (w0 w1 : Word)
  /-- R208: The pass instruction with t set enqueues a transposed block step of a group. -/
  | passT (p : ArrayId) (w0 w1 : Word)
  /-- R210: The gang.cfg instruction enqueues a gang configuration of size, split, stagger and reduction region. -/
  | gangCfg (p : ArrayId) (w : Word)
  /-- R210: A queued gang.cfg takes effect once every earlier entry has completed. -/
  | gangCfgEffect (p : ArrayId)
  /-- R211: The reduce instruction runs the K-split reduction tree over the members' record tiles. -/
  | reduceTree (p : ArrayId) (w0 w1 : Word)
  /-- R88: A queued load, load.s, unpark scale phase or transposed input stream starts once the north feed is free. -/
  | northFeedTransferStart (p : ArrayId)
  /-- R87: A north-feed transfer completes, making its target set valid with its witness weights and owner tag. -/
  | northFeedTransferComplete (p : ArrayId)
  /-- R89: A queued swap token runs through the grid once the shadow set is valid, exchanging the active and shadow sets. -/
  | swapTokenStart (p : ArrayId)
  /-- R80: A queued pass starts streaming activation rows when a staging slot is free and its other start conditions hold. -/
  | passStart (p : ArrayId)
  /-- R111: Four cycles after the last result row, the witness difference decides whether the tile passes or is held. -/
  | tileVerdict (p : ArrayId) (slot : Fin 3) (wit : List (Nat × Nat))
  /-- R105: Once its verdict and its dependencies allow, a tile clears the uncommitted mark, releases its held inputs, retires its slot and starts staged transfers. -/
  | tileCommit (p : ArrayId) (slot : Fin 3)
  /-- R117: An arriving level transfer is combined into the receiver's record tile. -/
  | ksplitLevelArrival (p : ArrayId)
  /-- R119: When the grace time expires before the tile boundary, the streaming pass is aborted and its slot freed. -/
  | passGraceAbort (p : ArrayId)
  /-- R120: An aborted or faulted tile restarts from its held inputs, reloading its stationary source when needed. -/
  | tileRestart (p : ArrayId)
  /-- R127: The core.load instruction broadcasts a program over Mica to a rectangle of cores and arms them. -/
  | coreLoad (p : ArrayId) (w0 w1 : Word)
  /-- R212: The core.run instruction enqueues a core-mode run with a 32-bit argument. -/
  | coreRun (p : ArrayId) (w : Word)
  /-- R144: The core.stop instruction stops every core of the run within 8 cycles. -/
  | coreStop (p : ArrayId) (w : Word)
  /-- R128: At a tile boundary, all armed cores start at address 0, 8 cycles after core.run. -/
  | coreRunStart (p : ArrayId)
  /-- R130: Six cycles after every core has halted and all mesh traffic and fills have drained, the run ends with its status. -/
  | coreRunEnd (p : ArrayId)
  /-- R145: When the grace time expires, the run is frozen at instruction boundaries and each core's state is captured. -/
  | coreRunFreeze (p : ArrayId)
  /-- R138: A class-0 send enters the target's receive queue, or is refused when 12 or more entries are occupied. -/
  | meshSendArrival (n : Nat)
  /-- R138: A refusal of a send returns to the sender, which keeps the send in its buffer. -/
  | meshSendRefusal (n : Nat)
  /-- R138: Sixteen cycles after a refusal, the sender re-sends the refused send. -/
  | sendRetry (core : CoreId) (slot : Nat)
  /-- R139: A put message writes the target slate and may signal a counter or enter a notification. -/
  | meshPutArrival (n : Nat)
  /-- R141: A notification held at a full ejection port enters the queue when an entry frees. -/
  | notificationRelease (core : CoreId)
  /-- R139: A get request at the target's shared port returns the units as class-2 replies. -/
  | meshGetRequest (n : Nat)
  /-- R139: A get reply is written to the requester's region, with completion signalled after the last one. -/
  | meshGetReply (n : Nat)
  /-- R135: An asynchronous slate fill or copy completes and signals its counter. -/
  | slateFillComplete (core : CoreId)
  /-- R140: A blocked recv or recv.t returns once a matching entry exists. -/
  | recvSatisfied (core : CoreId)
  /-- R293: A blocked wait or qwait is satisfied once the counter meets its threshold, and the threshold is subtracted. -/
  | waitSatisfied (unit : Waiter)
  /-- R148: A core fence releases once earlier puts are written and earlier sends are accepted. -/
  | coreFenceRelease (core : CoreId)
  /-- R148: Gexa-C nop does nothing. -/
  | gexaCNop (core : CoreId) (w : Word)
  /-- R148: Gexa-C halt halts the core until run end. -/
  | gexaCHalt (core : CoreId) (w : Word)
  /-- R148: Gexa-C fence stalls until earlier puts and sends complete. -/
  | gexaCFence (core : CoreId) (w : Word)
  /-- R148: Gexa-C trap raises core fault 0x07 with its code. -/
  | gexaCTrap (core : CoreId) (w : Word)
  /-- R148: Gexa-C scalar add. -/
  | gexaCAdd (core : CoreId) (w : Word)
  /-- R148: Gexa-C scalar subtract. -/
  | gexaCSub (core : CoreId) (w : Word)
  /-- R148: Gexa-C scalar and. -/
  | gexaCAnd (core : CoreId) (w : Word)
  /-- R148: Gexa-C scalar or. -/
  | gexaCOr (core : CoreId) (w : Word)
  /-- R148: Gexa-C scalar xor. -/
  | gexaCXor (core : CoreId) (w : Word)
  /-- R148: Gexa-C scalar and-not. -/
  | gexaCAndn (core : CoreId) (w : Word)
  /-- R148: Gexa-C scalar shift left by register. -/
  | gexaCShl (core : CoreId) (w : Word)
  /-- R148: Gexa-C scalar logical shift right by register. -/
  | gexaCShr (core : CoreId) (w : Word)
  /-- R148: Gexa-C scalar arithmetic shift right by register. -/
  | gexaCSra (core : CoreId) (w : Word)
  /-- R148: Gexa-C signed minimum. -/
  | gexaCMin (core : CoreId) (w : Word)
  /-- R148: Gexa-C signed maximum. -/
  | gexaCMax (core : CoreId) (w : Word)
  /-- R148: Gexa-C unsigned minimum. -/
  | gexaCMinu (core : CoreId) (w : Word)
  /-- R148: Gexa-C unsigned maximum. -/
  | gexaCMaxu (core : CoreId) (w : Word)
  /-- R148: Gexa-C low 32 bits of the product. -/
  | gexaCMul (core : CoreId) (w : Word)
  /-- R148: Gexa-C high 32 bits of the unsigned product. -/
  | gexaCMulhu (core : CoreId) (w : Word)
  /-- R148: Gexa-C set if less than, signed. -/
  | gexaCSlt (core : CoreId) (w : Word)
  /-- R148: Gexa-C set if less than, unsigned. -/
  | gexaCSltu (core : CoreId) (w : Word)
  /-- R148: Gexa-C set if equal. -/
  | gexaCSeq (core : CoreId) (w : Word)
  /-- R148: Gexa-C set if not equal. -/
  | gexaCSne (core : CoreId) (w : Word)
  /-- R148: Gexa-C count of leading zeros. -/
  | gexaCClz (core : CoreId) (w : Word)
  /-- R148: Gexa-C count of set bits. -/
  | gexaCPopc (core : CoreId) (w : Word)
  /-- R148: Gexa-C add immediate. -/
  | gexaCAddi (core : CoreId) (w : Word)
  /-- R148: Gexa-C and immediate. -/
  | gexaCAndi (core : CoreId) (w : Word)
  /-- R148: Gexa-C or immediate. -/
  | gexaCOri (core : CoreId) (w : Word)
  /-- R148: Gexa-C xor immediate. -/
  | gexaCXori (core : CoreId) (w : Word)
  /-- R148: Gexa-C shift left immediate. -/
  | gexaCShli (core : CoreId) (w : Word)
  /-- R148: Gexa-C logical shift right immediate. -/
  | gexaCShri (core : CoreId) (w : Word)
  /-- R148: Gexa-C arithmetic shift right immediate. -/
  | gexaCSrai (core : CoreId) (w : Word)
  /-- R148: Gexa-C set if less than immediate, signed. -/
  | gexaCSlti (core : CoreId) (w : Word)
  /-- R148: Gexa-C set if less than immediate, unsigned. -/
  | gexaCSltui (core : CoreId) (w : Word)
  /-- R148: Gexa-C set if equal to immediate. -/
  | gexaCSeqi (core : CoreId) (w : Word)
  /-- R148: Gexa-C load of a sign-extended 23-bit immediate. -/
  | gexaCLi (core : CoreId) (w : Word)
  /-- R148: Gexa-C load of an immediate into the upper 16 bits. -/
  | gexaCLih (core : CoreId) (w : Word)
  /-- R148: Gexa-C scalar select. -/
  | gexaCSel (core : CoreId) (w : Word)
  /-- R148: Gexa-C unconditional branch. -/
  | gexaCB (core : CoreId) (w : Word)
  /-- R148: Gexa-C branch if zero. -/
  | gexaCBz (core : CoreId) (w : Word)
  /-- R148: Gexa-C branch if not zero. -/
  | gexaCBnz (core : CoreId) (w : Word)
  /-- R148: Gexa-C branch if less than, signed. -/
  | gexaCBlt (core : CoreId) (w : Word)
  /-- R148: Gexa-C branch if greater or equal, signed. -/
  | gexaCBge (core : CoreId) (w : Word)
  /-- R148: Gexa-C branch if less than, unsigned. -/
  | gexaCBltu (core : CoreId) (w : Word)
  /-- R148: Gexa-C branch if greater or equal, unsigned. -/
  | gexaCBgeu (core : CoreId) (w : Word)
  /-- R148: Gexa-C branch if equal. -/
  | gexaCBeq (core : CoreId) (w : Word)
  /-- R149: Gexa-C loop starts a hardware loop with a count taken from a register. -/
  | gexaCLoop (core : CoreId) (w : Word)
  /-- R148: Gexa-C read of a system value. -/
  | gexaCSysr (core : CoreId) (w : Word)
  /-- R149: Gexa-C 32-bit slate load. -/
  | gexaCLdW (core : CoreId) (w : Word)
  /-- R149: Gexa-C 16-bit zero-extending slate load. -/
  | gexaCLdHu (core : CoreId) (w : Word)
  /-- R149: Gexa-C 8-bit zero-extending slate load. -/
  | gexaCLdBu (core : CoreId) (w : Word)
  /-- R149: Gexa-C vector register slate load. -/
  | gexaCLdV (core : CoreId) (w : Word)
  /-- R149: Gexa-C slate load of accumulator lanes 0–7. -/
  | gexaCLdAl (core : CoreId) (w : Word)
  /-- R149: Gexa-C slate load of accumulator lanes 8–15. -/
  | gexaCLdAh (core : CoreId) (w : Word)
  /-- R149: Gexa-C slate load of a whole accumulator. -/
  | gexaCLdA (core : CoreId) (w : Word)
  /-- R149: Gexa-C 32-bit slate store. -/
  | gexaCStW (core : CoreId) (w : Word)
  /-- R149: Gexa-C 16-bit slate store. -/
  | gexaCStH (core : CoreId) (w : Word)
  /-- R149: Gexa-C 8-bit slate store. -/
  | gexaCStB (core : CoreId) (w : Word)
  /-- R149: Gexa-C vector register slate store. -/
  | gexaCStV (core : CoreId) (w : Word)
  /-- R149: Gexa-C slate store of accumulator lanes 0–7. -/
  | gexaCStAl (core : CoreId) (w : Word)
  /-- R149: Gexa-C slate store of accumulator lanes 8–15. -/
  | gexaCStAh (core : CoreId) (w : Word)
  /-- R149: Gexa-C slate store of a whole accumulator. -/
  | gexaCStA (core : CoreId) (w : Word)
  /-- R149: Per-lane vector add. -/
  | vopAdd (core : CoreId) (w : Word)
  /-- R149: Per-lane vector subtract. -/
  | vopSub (core : CoreId) (w : Word)
  /-- R149: Per-lane saturating vector add. -/
  | vopAdds (core : CoreId) (w : Word)
  /-- R149: Per-lane saturating vector subtract. -/
  | vopSubs (core : CoreId) (w : Word)
  /-- R149: Per-lane signed vector minimum. -/
  | vopMin (core : CoreId) (w : Word)
  /-- R149: Per-lane signed vector maximum. -/
  | vopMax (core : CoreId) (w : Word)
  /-- R149: Per-lane unsigned vector minimum. -/
  | vopMinu (core : CoreId) (w : Word)
  /-- R149: Per-lane unsigned vector maximum. -/
  | vopMaxu (core : CoreId) (w : Word)
  /-- R149: Per-lane vector and. -/
  | vopAnd (core : CoreId) (w : Word)
  /-- R149: Per-lane vector or. -/
  | vopOr (core : CoreId) (w : Word)
  /-- R149: Per-lane vector xor. -/
  | vopXor (core : CoreId) (w : Word)
  /-- R149: Per-lane vector shift left. -/
  | vopShl (core : CoreId) (w : Word)
  /-- R149: Per-lane vector logical shift right. -/
  | vopShr (core : CoreId) (w : Word)
  /-- R149: Per-lane vector arithmetic shift right. -/
  | vopSra (core : CoreId) (w : Word)
  /-- R149: Per-lane vector absolute value. -/
  | vopAbs (core : CoreId) (w : Word)
  /-- R149: Per-lane vector multiply, keeping the low half. -/
  | vopMul (core : CoreId) (w : Word)
  /-- R149: Vector add with a broadcast scalar. -/
  | vopsAdd (core : CoreId) (w : Word)
  /-- R149: Vector subtract with a broadcast scalar. -/
  | vopsSub (core : CoreId) (w : Word)
  /-- R149: Saturating vector add with a broadcast scalar. -/
  | vopsAdds (core : CoreId) (w : Word)
  /-- R149: Saturating vector subtract with a broadcast scalar. -/
  | vopsSubs (core : CoreId) (w : Word)
  /-- R149: Vector signed minimum with a broadcast scalar. -/
  | vopsMin (core : CoreId) (w : Word)
  /-- R149: Vector signed maximum with a broadcast scalar. -/
  | vopsMax (core : CoreId) (w : Word)
  /-- R149: Vector unsigned minimum with a broadcast scalar. -/
  | vopsMinu (core : CoreId) (w : Word)
  /-- R149: Vector unsigned maximum with a broadcast scalar. -/
  | vopsMaxu (core : CoreId) (w : Word)
  /-- R149: Vector and with a broadcast scalar. -/
  | vopsAnd (core : CoreId) (w : Word)
  /-- R149: Vector or with a broadcast scalar. -/
  | vopsOr (core : CoreId) (w : Word)
  /-- R149: Vector xor with a broadcast scalar. -/
  | vopsXor (core : CoreId) (w : Word)
  /-- R149: Vector shift left by a broadcast scalar. -/
  | vopsShl (core : CoreId) (w : Word)
  /-- R149: Vector logical shift right by a broadcast scalar. -/
  | vopsShr (core : CoreId) (w : Word)
  /-- R149: Vector arithmetic shift right by a broadcast scalar. -/
  | vopsSra (core : CoreId) (w : Word)
  /-- R149: Vector absolute value, scalar form. -/
  | vopsAbs (core : CoreId) (w : Word)
  /-- R149: Vector multiply by a broadcast scalar. -/
  | vopsMul (core : CoreId) (w : Word)
  /-- R149: Per-lane compare, equal. -/
  | vcmpEq (core : CoreId) (w : Word)
  /-- R149: Per-lane compare, not equal. -/
  | vcmpNe (core : CoreId) (w : Word)
  /-- R149: Per-lane compare, less than, signed. -/
  | vcmpLt (core : CoreId) (w : Word)
  /-- R149: Per-lane compare, less or equal, signed. -/
  | vcmpLe (core : CoreId) (w : Word)
  /-- R149: Per-lane compare, greater than, signed. -/
  | vcmpGt (core : CoreId) (w : Word)
  /-- R149: Per-lane compare, greater or equal, signed. -/
  | vcmpGe (core : CoreId) (w : Word)
  /-- R149: Per-lane compare, less than, unsigned. -/
  | vcmpLtu (core : CoreId) (w : Word)
  /-- R149: Per-lane compare, less or equal, unsigned. -/
  | vcmpLeu (core : CoreId) (w : Word)
  /-- R149: Per-lane compare, greater than, unsigned. -/
  | vcmpGtu (core : CoreId) (w : Word)
  /-- R149: Per-lane compare, greater or equal, unsigned. -/
  | vcmpGeu (core : CoreId) (w : Word)
  /-- R149: Per-lane vector select. -/
  | vsel (core : CoreId) (w : Word)
  /-- R149: Multiply-accumulate of vector lanes into an accumulator. -/
  | vmac (core : CoreId) (w : Word)
  /-- R149: Multiply of vector lanes into an accumulator. -/
  | vmul (core : CoreId) (w : Word)
  /-- R149: Clears an accumulator. -/
  | aclr (core : CoreId) (w : Word)
  /-- R149: Reads one accumulator lane into a scalar register. -/
  | aget (core : CoreId) (w : Word)
  /-- R149: Writes a scalar into one accumulator lane. -/
  | aput (core : CoreId) (w : Word)
  /-- R149: Per-lane accumulator add. -/
  | aadd (core : CoreId) (w : Word)
  /-- R149: Per-lane accumulator subtract. -/
  | asub (core : CoreId) (w : Word)
  /-- R149: Sets accumulator lane i to ca + i. -/
  | aiota (core : CoreId) (w : Word)
  /-- R149: Saturating narrow of accumulator lanes 0–7 to 16 bits. -/
  | anarrowLo (core : CoreId) (w : Word)
  /-- R149: Saturating narrow of accumulator lanes 8–15 to 16 bits. -/
  | anarrowHi (core : CoreId) (w : Word)
  /-- R149: Zero-extends .h lanes into accumulator lanes 0–7. -/
  | awiden (core : CoreId) (w : Word)
  /-- R149: Sums the 16 accumulator lanes into a scalar. -/
  | asum (core : CoreId) (w : Word)
  /-- R150: Lane-wise compare-exchange between two vectors. -/
  | vcx (core : CoreId) (w : Word)
  /-- R150: Sorts all lanes of a vector. -/
  | vsrtSort (core : CoreId) (w : Word)
  /-- R150: Bitonic half-cleaner step. -/
  | vsrtStep (core : CoreId) (w : Word)
  /-- R150: Reverses the vector lanes. -/
  | vsrtRev (core : CoreId) (w : Word)
  /-- R149: Permutes lanes by index. -/
  | vpermPerm (core : CoreId) (w : Word)
  /-- R149: Broadcasts one lane to all lanes. -/
  | vpermBcast (core : CoreId) (w : Word)
  /-- R149: Moves lanes up with zero fill. -/
  | vpermUp (core : CoreId) (w : Word)
  /-- R149: Moves lanes down with zero fill. -/
  | vpermDown (core : CoreId) (w : Word)
  /-- R149: Splats a scalar into all lanes. -/
  | vpermSplat (core : CoreId) (w : Word)
  /-- R149: Signed maximum reduction of a vector. -/
  | vredMaxs (core : CoreId) (w : Word)
  /-- R149: Signed minimum reduction of a vector. -/
  | vredMins (core : CoreId) (w : Word)
  /-- R149: Unsigned maximum reduction of a vector. -/
  | vredMaxu (core : CoreId) (w : Word)
  /-- R149: Unsigned minimum reduction of a vector. -/
  | vredMinu (core : CoreId) (w : Word)
  /-- R149: Signed sum reduction of a vector. -/
  | vredSum (core : CoreId) (w : Word)
  /-- R149: Lowest lane holding the unsigned maximum. -/
  | vredArgmaxu (core : CoreId) (w : Word)
  /-- R149: Number of non-zero lanes. -/
  | vredCnt (core : CoreId) (w : Word)
  /-- R149: Lowest non-zero lane, or the lane count when there is none. -/
  | vredFirst (core : CoreId) (w : Word)
  /-- R151: Converts BF16 lanes to order-preserving keys. -/
  | vcvtKey (core : CoreId) (w : Word)
  /-- R151: Converts keys back to BF16 lanes. -/
  | vcvtUnkey (core : CoreId) (w : Word)
  /-- R149: Converts E4M3 lanes 0–7 to BF16. -/
  | vcvtE4Lo (core : CoreId) (w : Word)
  /-- R149: Converts E4M3 lanes 8–15 to BF16. -/
  | vcvtE4Hi (core : CoreId) (w : Word)
  /-- R149: Converts E5M2 lanes 0–7 to BF16. -/
  | vcvtE5Lo (core : CoreId) (w : Word)
  /-- R149: Converts E5M2 lanes 8–15 to BF16. -/
  | vcvtE5Hi (core : CoreId) (w : Word)
  /-- R149: Sign-extends int8 lanes 0–7 to int16. -/
  | vcvtSxLo (core : CoreId) (w : Word)
  /-- R149: Sign-extends int8 lanes 8–15 to int16. -/
  | vcvtSxHi (core : CoreId) (w : Word)
  /-- R149: Converts BF16 lanes to saturating E4M3. -/
  | vcvtBfE4 (core : CoreId) (w : Word)
  /-- R135: Starts an asynchronous slate fill at the shared port. -/
  | sfill (core : CoreId) (w : Word)
  /-- R135: Starts an asynchronous slate copy at the shared port. -/
  | scopy (core : CoreId) (w : Word)
  /-- R138: Sends a class-0 message of a vector register to a target core. -/
  | send (core : CoreId) (w : Word)
  /-- R139: Puts 16 bytes into a target core's slate. -/
  | putV (core : CoreId) (w : Word)
  /-- R139: Puts 64 bytes, as four messages, into a target core's slate. -/
  | putA (core : CoreId) (w : Word)
  /-- R152: Requests 1 to 32 units of 16 bytes from a target core. -/
  | get (core : CoreId) (w : Word)
  /-- R140: Takes the oldest receive-queue entry, blocking while the queue is empty. -/
  | recv (core : CoreId) (w : Word)
  /-- R151: Non-blocking receive that returns all ones when the queue is empty. -/
  | recvN (core : CoreId) (w : Word)
  /-- R140: Takes the oldest entry with a matching tag, blocking until one exists. -/
  | recvT (core : CoreId) (w : Word)
  /-- R143: A core adds a signed increment to a counter named by a target word. -/
  | gexaCSig (core : CoreId) (w : Word)
  /-- R151: A core blocks on a counter threshold. -/
  | gexaCWait (core : CoreId) (w : Word)
  /-- R213: The vc instruction enqueues a vector chain from a chain record. -/
  | vcChain (p : ArrayId) (w0 w1 : Word)
  /-- R181: A chain leaves the queue, has its record and descriptors checked, and starts processing. -/
  | chainStart (p : ArrayId)
  /-- R183: A chain completes when its last write is performed or deferred, and signals its counter. -/
  | chainComplete (e : ChainDone)
  /-- R168: When an attached tile's outputs do not commit, the chain reruns on the committed outputs. -/
  | chainRerun (e : ChainDone)
  /-- R195: Controller add. -/
  | gexaSAdd (p : ArrayId) (w : Word)
  /-- R195: Controller subtract. -/
  | gexaSSub (p : ArrayId) (w : Word)
  /-- R195: Controller and. -/
  | gexaSAnd (p : ArrayId) (w : Word)
  /-- R195: Controller or. -/
  | gexaSOr (p : ArrayId) (w : Word)
  /-- R195: Controller xor. -/
  | gexaSXor (p : ArrayId) (w : Word)
  /-- R195: Controller and-not. -/
  | gexaSAndn (p : ArrayId) (w : Word)
  /-- R195: Controller shift left. -/
  | gexaSShl (p : ArrayId) (w : Word)
  /-- R195: Controller logical shift right. -/
  | gexaSShr (p : ArrayId) (w : Word)
  /-- R195: Controller arithmetic shift right. -/
  | gexaSSra (p : ArrayId) (w : Word)
  /-- R195: Controller signed minimum. -/
  | gexaSMin (p : ArrayId) (w : Word)
  /-- R195: Controller signed maximum. -/
  | gexaSMax (p : ArrayId) (w : Word)
  /-- R195: Controller unsigned minimum. -/
  | gexaSMinu (p : ArrayId) (w : Word)
  /-- R195: Controller unsigned maximum. -/
  | gexaSMaxu (p : ArrayId) (w : Word)
  /-- R195: Controller low 64 bits of the product. -/
  | gexaSMul (p : ArrayId) (w : Word)
  /-- R195: Controller high 64 bits of the unsigned product. -/
  | gexaSMulhu (p : ArrayId) (w : Word)
  /-- R195: Controller unsigned divide. -/
  | gexaSDivu (p : ArrayId) (w : Word)
  /-- R195: Controller unsigned remainder. -/
  | gexaSRemu (p : ArrayId) (w : Word)
  /-- R195: Controller count of leading zeros. -/
  | gexaSClz (p : ArrayId) (w : Word)
  /-- R195: Controller count of set bits. -/
  | gexaSPopc (p : ArrayId) (w : Word)
  /-- R195: Controller add immediate. -/
  | gexaSAddi (p : ArrayId) (w : Word)
  /-- R195: Controller and immediate. -/
  | gexaSAndi (p : ArrayId) (w : Word)
  /-- R195: Controller or immediate. -/
  | gexaSOri (p : ArrayId) (w : Word)
  /-- R195: Controller xor immediate. -/
  | gexaSXori (p : ArrayId) (w : Word)
  /-- R195: Controller shift left immediate. -/
  | gexaSShli (p : ArrayId) (w : Word)
  /-- R195: Controller logical shift right immediate. -/
  | gexaSShri (p : ArrayId) (w : Word)
  /-- R195: Controller arithmetic shift right immediate. -/
  | gexaSSrai (p : ArrayId) (w : Word)
  /-- R195: Controller load of a sign-extended 21-bit immediate. -/
  | gexaSLi (p : ArrayId) (w : Word)
  /-- R195: Shifts a register left by 16 and ors in an immediate. -/
  | shlor (p : ArrayId) (w : Word)
  /-- R195: Compares two registers into a predicate. -/
  | cmp (p : ArrayId) (w : Word)
  /-- R195: Compares a register with an immediate into a predicate. -/
  | cmpi (p : ArrayId) (w : Word)
  /-- R195: Predicate and. -/
  | pand (p : ArrayId) (w : Word)
  /-- R195: Predicate or. -/
  | predOr (p : ArrayId) (w : Word)
  /-- R195: Predicate xor. -/
  | pxor (p : ArrayId) (w : Word)
  /-- R195: Predicate and-not. -/
  | pandn (p : ArrayId) (w : Word)
  /-- R195: Predicate not. -/
  | pnot (p : ArrayId) (w : Word)
  /-- R195: Sets a predicate when a register is non-zero. -/
  | pnz (p : ArrayId) (w : Word)
  /-- R195: Controller select on a predicate. -/
  | gexaSSel (p : ArrayId) (w : Word)
  /-- R195: Branches on a predicate, optionally negated. -/
  | br (p : ArrayId) (w : Word)
  /-- R195: Jump and link, PC-relative. -/
  | jal (p : ArrayId) (w : Word)
  /-- R195: Jump and link through a register. -/
  | jalr (p : ArrayId) (w : Word)
  /-- R195: Controller read of a system value. -/
  | gexaSSysr (p : ArrayId) (w : Word)
  /-- R196: Controller 64-bit load. -/
  | gexaSLdD (p : ArrayId) (w : Word)
  /-- R196: Controller zero-extending 32-bit load. -/
  | gexaSLdW (p : ArrayId) (w : Word)
  /-- R196: Controller 64-bit store. -/
  | gexaSStD (p : ArrayId) (w : Word)
  /-- R196: Controller 32-bit store. -/
  | gexaSStW (p : ArrayId) (w : Word)
  /-- R196: Data for a stalled controller load or dld return, or a poisoned return raises a data-access fault. -/
  | loadDataReturn (p : ArrayId)
  /-- R192: An instruction-cache line fill returns, or a poisoned fill gives a fetch fault. -/
  | fetchLineFill (p : ArrayId)
  /-- R202: Loads a 64-byte descriptor into a descriptor register. -/
  | dld (p : ArrayId) (w : Word)
  /-- R202: Stores a descriptor register to memory. -/
  | dst (p : ArrayId) (w : Word)
  /-- R202: Sets one field of a descriptor register. -/
  | dset (p : ArrayId) (w : Word)
  /-- R202: Reads one field of a descriptor register. -/
  | dget (p : ArrayId) (w : Word)
  /-- R202: Advances a descriptor's base. -/
  | dadv (p : ArrayId) (w : Word)
  /-- R214: Enqueues a DMA copy between two descriptors of equal format and extents. -/
  | dmaCopy (p : ArrayId) (w0 w1 : Word)
  /-- R214: Enqueues a DMA fill of a destination with a value. -/
  | dmaFill (p : ArrayId) (w0 w1 : Word)
  /-- R215: Enqueues a DMA gather of rows by index. -/
  | dmaGather (p : ArrayId) (w0 w1 : Word)
  /-- R215: Enqueues a DMA scatter of rows by index. -/
  | dmaScatter (p : ArrayId) (w0 w1 : Word)
  /-- R214: A queued DMA transfer starts, with at most 8 in progress at once. -/
  | dmaStart (p : ArrayId)
  /-- R214: A DMA transfer completes when every write is performed, and signals its counter. -/
  | dmaComplete (p : ArrayId) (n : Nat)
  /-- R216: Reads a window record and opens the window with an incremented generation. -/
  | winOpen (p : ArrayId) (w : Word)
  /-- R270: Closes a window at the end of its cycle. -/
  | winClose (p : ArrayId) (w : Word)
  /-- R270: win.close completes once the last access admitted before the close has been performed. -/
  | winCloseComplete (p : ArrayId) (w : Fin 64)
  /-- R216: Reads a window's producer counter. -/
  | winCtr (p : ArrayId) (w : Word)
  /-- R216: Reads a window's generation. -/
  | winGen (p : ArrayId) (w : Word)
  /-- R217: A controller adds an increment to a counter named by a target word. -/
  | gexaSSig (p : ArrayId) (w : Word)
  /-- R218: The controller blocks until a counter reaches a threshold, then subtracts it. -/
  | gexaSWait (p : ArrayId) (w : Word)
  /-- R218: Reads a controller counter. -/
  | cntRd (p : ArrayId) (w : Word)
  /-- R218: Enqueues a counter wait into the array, vector or DMA queue. -/
  | qwait (p : ArrayId) (w : Word)
  /-- R218: A qwait entry at the head of its queue is satisfied and releases the queue. -/
  | qwaitSatisfied (p : ArrayId) (q : Fin 3)
  /-- R219: Reads local Quartz time. -/
  | now (p : ArrayId) (w : Word)
  /-- R219: Blocks issue until local Quartz reaches a time. -/
  | waitUntil (p : ArrayId) (w : Word)
  /-- R219: Long form of wait.until with an offset. -/
  | waitUntilOff (p : ArrayId) (w0 w1 : Word)
  /-- R219: A blocked wait.until releases when local Quartz reaches its time. -/
  | waitUntilRelease (p : ArrayId) (t : DWord)
  /-- R219: Sets the pending launch time. -/
  | launchAt (p : ArrayId) (w : Word)
  /-- R219: Long form of launch.at with an offset. -/
  | launchAtOff (p : ArrayId) (w0 w1 : Word)
  /-- R318: A launchable entry starts at the first local edge at or after T + rank × stagger. -/
  | launchTimeReached (p : ArrayId) (q : Fin 3) (t : DWord)
  /-- R221: Raises the controller's checking level, or marks the next tile for replay. -/
  | chkMode (p : ArrayId) (w : Word)
  /-- R221: Blocks until every earlier pass, reduce and chain has committed or been discarded. -/
  | chkCommit (p : ArrayId) (w : Word)
  /-- R221: As chk.commit, then closes the current step on the array. -/
  | chkCommitStep (p : ArrayId) (w : Word)
  /-- R221: A blocked chk.commit or chk.commit.step releases once its tiles have committed. -/
  | chkCommitRelease (p : ArrayId)
  /-- R221: Discards a held unresolved tile and its dependants, freeing their slots. -/
  | chkRelease (p : ArrayId) (w : Word)
  /-- R222: Controller no operation. -/
  | gexaSNop (p : ArrayId) (w : Word)
  /-- R222: Offers the array to the dispatcher at the next tile boundary. -/
  | yieldArray (p : ArrayId) (w : Word)
  /-- R222: Stops issue and waits for all work of the program to finish. -/
  | endProgram (p : ArrayId) (w : Word)
  /-- R222: When every queue is empty and all work has completed, the program's end is reported to the dispatcher. -/
  | programEndReport (p : ArrayId)
  /-- R222: Raises a software fault with a code and stops the program. -/
  | softFault (p : ArrayId) (w : Word)
  /-- R223: Blocks until earlier stores are performed. -/
  | fenceSt (p : ArrayId) (w : Word)
  /-- R223: Blocks until earlier array commands have completed. -/
  | fenceArr (p : ArrayId) (w : Word)
  /-- R223: Blocks until earlier chains have completed. -/
  | fenceVec (p : ArrayId) (w : Word)
  /-- R223: Blocks until earlier DMA transfers have completed. -/
  | fenceDma (p : ArrayId) (w : Word)
  /-- R223: Blocks until all earlier work has completed. -/
  | fenceAll (p : ArrayId) (w : Word)
  /-- R223: Invalidates the instruction cache and refetches. -/
  | fenceI (p : ArrayId) (w : Word)
  /-- R223: Invalidates the data cache. -/
  | cinv (p : ArrayId) (w : Word)
  /-- R223: A blocked fence releases when its condition holds, invalidating the data cache where required. -/
  | fenceRelease (p : ArrayId)
  /-- R245: A lane whose error count passes the threshold is repaired in service while its channel holds requests. -/
  | hbmLaneRepair (site : SiteId) (pc : Fin 64)
  /-- R254: A router checks a trunk packet's CRC and asks for replay on error. -/
  | trunkPacketReceive (h : PacketHead) (poison : BitVec 32) (data : List Byte) (pa : Nat) (r : RouterId) (crc : Word)
  /-- R274: Scrub reads each word once per interval, corrects it or poisons it in place. -/
  | scrubPass (m : Fin 3) (f : ScrubFinds)
  /-- R263: A write to MMU_INV starts a translation invalidation for one context or all contexts. -/
  | mmuInv (req : Requester) (v : Word)
  /-- R263: When every translated access through removed entries has been performed, MMU_INV_STATUS.busy clears. -/
  | mmuInvComplete
  /-- R261: A page-table walk finishes with a leaf or a translation fault. -/
  | pageWalkComplete (w : WalkFor) (va : BitVec 48)
  /-- R265: MMU_FAULT_RESUME with retry retries every stalled access of the context. -/
  | mmuFaultResumeRetry (req : Requester) (c : CtxId)
  /-- R265: MMU_FAULT_RESUME with abort faults the context. -/
  | mmuFaultResumeAbort (req : Requester) (c : CtxId)
  /-- R264: A host ATS invalidation request completes after accesses using the translation have been sent. -/
  | atsInvalidation (h : HostPortId) (fn page pages : Nat)
  /-- R264: A host answer to an ATS translation request fills the address translation cache or gives a fault. -/
  | atsTranslationCompletion (h : HostPortId) (fn page : Nat) (ok : Bool)
  /-- R269: The owner's window unit checks an arriving access and performs or refuses it. -/
  | windowAccessArrival (n : Nat)
  /-- R292: A signal or completion increment is applied to a counter in the bank's order. -/
  | signalArrival (n : Nat) (also : List Nat) (bad : Option (Option (Fin 9)))
  /-- R296: A signal for a non-resident context is diverted to the dispatcher and added to its saved counters. -/
  | signalDivert (n : Nat)
  /-- R340: A write of QTZ_FLINT_INJECT.go raises a halt with cause 15, or is refused. -/
  | flintInject (req : Requester) (v : Word)
  /-- R306: Within the Flint budget, every unit of the masked arrays stops. -/
  | flintGating
  /-- R308: Within 2 µs, the halted arrays apply the R119 outcomes, post the event and release gating. -/
  | flintHaltRelease
  /-- R313: Every 65,536 ticks, a correction beat lets each island measure and slew away its offset. -/
  | quartzBeat (offs : List (Nat × Int))
  /-- R313: Every 1 s, tree branch delays are recalibrated by round trip. -/
  | treeDelayCalibration
  /-- R310: A write of QTZ_CTL.step steps the master to QTZ_SET, or is refused. -/
  | quartzStep (req : Requester) (v : Word)
  /-- R325: A write of QTZ_CTL.ref_req requests a hitless switch to a qualified reference. -/
  | refSelectRequest (req : Requester) (v : Word)
  /-- R322: Every 1 ms each present reference is measured against the witness and the 1 s averages are updated. -/
  | refSample (t : DWord) (a b : Option Int)
  /-- R324: A reference absent for 10 µs is disqualified. -/
  | refClockAbsent (ref : Fin 2)
  /-- R328: The leader, and each re-originating device, sends a time frame every 2^23 ticks. -/
  | timeFrameSend (t : DWord)
  /-- R433: A received time frame updates the follower's servo. -/
  | timeFrameReceive (port : FabPort) (frame : List Byte) (rx : DWord)
  /-- R328: Every 2^26 ticks, each hop sends a delay request. -/
  | delayExchangeStart (t : DWord)
  /-- R433: A received delay request is answered with a delay response carrying t2 and t3. -/
  | delayRequestReceive (port : FabPort) (frame : List Byte) (t2 t3 : DWord)
  /-- R433: A received delay response updates the measured link delay. -/
  | delayResponseReceive (port : FabPort) (frame : List Byte) (t4 : DWord)
  /-- R331: After eight consecutive missing frames, fabric time is declared lost. -/
  | fabricTimeLost (t : DWord)
  /-- R332: The array oscillator moves one frequency code toward its target, at most once per 16 cycles. -/
  | freqCodeStep (p : ArrayId)
  /-- R333: A strip drooping more than 3 % below its setpoint stretches the array clock. -/
  | stripDroop (p : ArrayId) (strip : Fin 16)
  /-- R334: 1 µs after a stretch ends, the frequency-locked loop resumes. -/
  | fllUnfreeze (p : ArrayId)
  /-- R335: Critical-path monitors adjust a strip setpoint by at most 2.5 mV per ms. -/
  | cpmAdjust (d : Fin 288) (up : Bool)
  /-- R336: A clock mesh fault raises a Flint halt, and the array restarts strip-clocked. -/
  | clockMeshFault (p : ArrayId)
  /-- R345: No partner within partner_wait_ms leaves the tile unresolved. -/
  | partnerWaitExpiry (p : ArrayId) (slot : Fin 3)
  /-- R348: At its next tile boundary the partner loads the replay block through its ring and streams the replay. -/
  | replayStart (p : ArrayId) (slot : Fin 3)
  /-- R349: A replay or third execution delivers its hash and verdict, and the disagreement is resolved. -/
  | replayComplete (p : ArrayId) (slot : Fin 3) (upset : List (Nat × Nat × Nat)) (f : ReplayFaults)
  /-- R353: Strikes older than 24 h leave the sliding window. -/
  | strikeWindowExpiry (p : ArrayId)
  /-- R348: A spare that has held no replay for 100 µs returns to retention. -/
  | spareRetentionReturn (p : ArrayId)
  /-- R358: When every array has closed step s, W_s is formed and digest records are sent to the peers. -/
  | stepDigestForm (c : CtxId)
  /-- R362: A peer's digest record is compared with the device's own for agreement. -/
  | digestRecordArrival (c : CtxId) (peer : Fin 8) (slot : Fin 64)
  /-- R362: A peer record missing 1 s after the device's own posts code 0x0B. -/
  | peerDigestTimeout (c : CtxId) (peer : Fin 8) (t : DWord)
  /-- R385: The dispatcher discards unstarted work and resets fetch to the last agreed rewind point. -/
  | contextRewind (c : CtxId)
  /-- R359: CHK_RDE_CTL.go starts a region digest request, or is dropped while busy. -/
  | regionDigestGo (req : Requester) (v : Word)
  /-- R359: A region digest finishes with a digest, or with poisoned set. -/
  | regionDigestComplete
  /-- R359: CHK_RDE_INTERVAL expiry repeats the last request. -/
  | regionDigestInterval
  /-- R366: CHK_PYR_CTL.go queues a Pyrite run. -/
  | pyriteQueue (req : Requester) (v : Word)
  /-- R366: A queued Pyrite run starts once its target array backs no logical array. -/
  | pyriteRunStart (sigOk : Bool)
  /-- R367: A Pyrite run ends as pass, repaired or fail, updating the array state. -/
  | pyriteRunEnd (result : Fin 3) (fails row col : Nat) (repairs : List (Nat × List Nat))
  /-- R368: CHK_KAK_CTL.go starts the known-answer kernels, or is refused. -/
  | knownAnswerStart (req : Requester) (v : Word) (sigOk : Bool)
  /-- R368: The kernels finish, and a mismatch marks an array suspect. -/
  | knownAnswerComplete (mismatch : Option (Fin 256 × Fin 16))
  /-- R376: Writing DSP_CTX_CTL.enable = 1 checks the binding and enables the context. -/
  | contextEnable (req : Requester) (c : CtxId) (v : Word)
  /-- R377: Clearing enable runs the reset sequence and ends in state 0. -/
  | contextDisable (req : Requester) (c : CtxId) (v : Word)
  /-- R395: DSP_CTX_CTL.reset starts the context reset sequence. -/
  | contextReset (req : Requester) (c : CtxId) (v : Word)
  /-- R395: A tenant write of CP_CTL.reset requests the context reset. -/
  | cpResetRequest (req : Requester) (c : CtxId) (v : Word)
  /-- R395: When in-flight work has ended or 200 µs have passed, the reset closes windows, checks counters, invalidates and bumps the generation. -/
  | resetTransferWaitEnd (c : CtxId) (expired : Bool)
  /-- R379: A CP_DOORBELL write sets the tail, or is refused. -/
  | doorbell (req : Requester) (c : CtxId) (v : Word)
  /-- R380: The dispatcher fetches the next command while fetch differs from tail and the bound allows. -/
  | commandFetch (c : CtxId)
  /-- R381: The nop command does nothing. -/
  | cmdNop (c : CtxId) (index : Word)
  /-- R382: The run command writes run argument records and starts programs on its mask. -/
  | cmdRun (c : CtxId) (index : Word) (rank : Fin 16)
  /-- R383: The time command waits until Quartz reaches T. -/
  | cmdTime (c : CtxId) (index : Word)
  /-- R383: When Quartz reaches T, the time command completes. -/
  | cmdTimeExpiry (c : CtxId) (index : Word) (t : DWord)
  /-- R383: The write command performs an 8-byte store once earlier commands have completed. -/
  | cmdWrite (c : CtxId) (index : Word)
  /-- R386: A write of DSP_PART_CTL with valid = 1 creates a partition, or is dropped. -/
  | partitionCreate (req : Requester) (q : Fin 16) (v : Word)
  /-- R386: A write of valid = 0 destroys a partition no context names. -/
  | partitionDestroy (req : Requester) (q : Fin 16) (v : Word)
  /-- R388: At the end of a quantum, the dispatcher switches to the next ready context of equal priority. -/
  | quantumExpiry (q : Fin 16)
  /-- R390: An array finishes saving the outgoing context and starts restoring the incoming one. -/
  | switchSaveComplete (p : ArrayId)
  /-- R391: Restore completes and the incoming context issues its first instruction. -/
  | switchRestoreComplete (p : ArrayId)
  /-- R397: A write of CP_EVT_RD or DSP_DEV_EVT_RD consumes records, or is dropped. -/
  | evtRdWrite (req : Requester) (ring : Option CtxId) (v : Word)
  /-- R398: At the end of the 10 µs limit, one event covers the crossings that were held back. -/
  | watermarkHoldoffExpiry (ring : Option CtxId) (cmd : Bool)
  /-- R415: PERST_L assertion resets the port and faults the contexts bound to its functions. -/
  | hostPerstAssert (h : HostPortId)
  /-- R414: PERST_L deassertion after stage 8 starts link training. -/
  | hostPerstDeassert (h : HostPortId) (t : DWord)
  /-- R415: A Hot Reset or Link Down acts as PERST_L. -/
  | hostHotReset (h : HostPortId)
  /-- R406: The host link trains to a rate and width. -/
  | hostLinkUp (h : HostPortId) (speed width : Nat)
  /-- R415: A VF FLR resets that VF and its bound context. -/
  | vfFlr (h : HostPortId) (fn : Fin 512)
  /-- R415: A PF FLR resets the PF and every context bound to the port. -/
  | pfFlr (h : HostPortId)
  /-- R414: A configuration request is served, or answered with Request Retry Status before 100 ms. -/
  | hostConfigRequest (h : HostPortId) (fn : Fin 512) (write : Bool) (item : CfgItem) (v : Word) (t : DWord)
  /-- R413: An inbound register or context-page read is served, or completed with CA or UR. -/
  | hostInboundRead (h : HostPortId) (fn : Fin 512) (bar : Fin 6) (off n : Nat) (fbe lbe : BitVec 4)
  /-- R413: An inbound write is performed as 32-bit accesses, or dropped. -/
  | hostInboundWrite (h : HostPortId) (fn : Fin 512) (bar : Fin 6) (off : Nat) (data : List Word) (fbe lbe : BitVec 4) (ep : Bool)
  /-- R412: A completion for a device-issued read returns data, or poison on an error. -/
  | hostReadCompletion (h : HostPortId) (fn : Fin 512) (off len : Nat) (data : List Byte) (status : Fin 3) (ep : Bool)
  /-- R412: A device-issued read times out and returns poisoned. -/
  | hostCompletionTimeout (h : HostPortId) (fn : Fin 512) (off len : Nat)
  /-- R420: A received flit is checked for CRC and sequence, acks and credits are processed, and a nak is sent on error. -/
  | flitReceive (port : FabPort) (flit : FlitIn) (corrected : Nat) (uncorrectable : Bool)
  /-- R420: An unacknowledged flit 4 µs old triggers a replay. -/
  | flitReplayTimeout (port : FabPort) (t : DWord)
  /-- R420: Link training completes and the port comes up, possibly degraded. -/
  | fabricLinkTrained (port : FabPort) (lanes : BitVec 8) (lowRate : Bool) (peer : BitVec 16) (peerPort : FabPort)
  /-- R422: A window write packet arrives and is checked and performed, or refused. -/
  | fabricWindowWrite (port : FabPort) (pkt : List Byte)
  /-- R422: A window read packet arrives and is answered with read data or a refusal. -/
  | fabricWindowRead (port : FabPort) (pkt : List Byte)
  /-- R422: A write acknowledgement arrives and completes its request. -/
  | fabricWriteAck (port : FabPort) (pkt : List Byte)
  /-- R422: Read data arrive and complete a window read. -/
  | fabricReadData (port : FabPort) (pkt : List Byte)
  /-- R422: A refusal arrives, and the writer's transfer completes with an error. -/
  | fabricRefusal (port : FabPort) (pkt : List Byte)
  /-- R424: An expired transaction timer reissues the request, or fails it after two reissues. -/
  | transactionTimeout (slot : Fin 8192) (t : DWord)
  /-- R423: A window unit drops a pair's state 20 ms after its last write. -/
  | pairStateExpiry (n : Nat) (t : DWord)
  /-- R428: A discovery query is forwarded, or answered at its last hop. -/
  | discoveryQuery (port : FabPort) (frame : List Byte)
  /-- R428: A discovery assign sets the node ID, or is refused while locked. -/
  | discoveryAssign (port : FabPort) (frame : List Byte)
  /-- R428: A discovery route write sets routing entries, or is refused. -/
  | discoveryRouteWrite (port : FabPort) (frame : List Byte)
  /-- R428: A discovery response is forwarded back along rpath. -/
  | discoveryResponse (port : FabPort) (frame : List Byte)
  /-- R427: A write of FAB_NODE assigns the node as a discovery assign does. -/
  | fabNodeWrite (req : Requester) (v : Word)
  /-- R431: At a slot start, the scheduled queue may send; stale slots are skipped. -/
  | scheduleSlotStart (port : FabPort) (e : Fin 4096) (cycle : Nat) (t : DWord)
  /-- R432: At a slot end, the queue stops starting packets. -/
  | scheduleSlotEnd (port : FabPort) (t : DWord)
  /-- R435: A lane group above the error rate for 1 s drops the port to 4 lanes. -/
  | fabricDegrade (port : FabPort) (good : Fin 2)
  /-- R436: After idle_us of idleness, the port quiesces lanes and steps its rail down. -/
  | lowrateIdleEntry (port : FabPort) (t : DWord)
  /-- R436: A write of lowrate_req enters low-rate idle without waiting. -/
  | lowrateReq (req : Requester) (port : FabPort) (v : Word)
  /-- R438: A SerDes rail step completes, and any waiting wake or LOS handling proceeds. -/
  | railStepComplete (port : FabPort)
  /-- R437: A write of wake_req wakes the port. -/
  | wakeReq (req : Requester) (port : FabPort) (v : Word)
  /-- R437: 25 µs before a wake slot, the port starts waking. -/
  | wakeSlotLead (port : FabPort) (e : Fin 4096) (cycle : Nat) (t : DWord)
  /-- R437: The port is back at full rate and posts code 0x10. -/
  | portWakeComplete (port : FabPort) (lanes : BitVec 8)
  /-- R438: Qualified loss of signal takes the link down and fails or reissues its transactions. -/
  | fabricLos (port : FabPort)
  /-- R440: A new job-abort frame is forwarded and faults the local contexts of the job. -/
  | jobAbortFrame (port : FabPort) (frame : List Byte)
  /-- R440: A job-abort record is forgotten after 10 ms. -/
  | abortRecordExpiry (n : Nat) (t : DWord)
  /-- R448: Input below 40 V for 10 µs posts a warning. -/
  | inputUndervoltageWarn (mv cur : Nat)
  /-- R448: Input under 36 V stops the arrays, reduces draw, records the fail and ramps down. -/
  | powerFail (mv cur : Nat)
  /-- R448: Input above 60 V for 10 µs posts a warning. -/
  | inputOvervoltageWarn (mv cur : Nat)
  /-- R448: Input above 66 V for 10 µs shuts the device down. -/
  | overvoltageShutdown (mv cur : Nat)
  /-- R448: Input held within 44–60 V for 100 ms restarts bring-up from stage 0. -/
  | inputRecovery (slotId : Fin 16) (recov : Bool)
  /-- R447: A stage-one module with over-current or reverse current is isolated and C_max falls. -/
  | moduleIsolate (m : Fin 24)
  /-- R454: A domain ramps to its setpoint over 200 µs under half current limit. -/
  | domainSoftStart (d : DomainId)
  /-- R454: At 100 µs, a domain short latches the phase group off. -/
  | softStartCheck (d : DomainId) (mv ma : Nat) (inLimit : Bool) (t : DWord)
  /-- R455: At 10, 20 and 30 ms a latched-off domain retries its soft start. -/
  | domainRetry (d : DomainId) (t : DWord)
  /-- R456: An over-current or under-voltage latches a running domain off and stops its array or device. -/
  | domainOvercurrent (d : DomainId) (mv ma : Nat) (t : DWord)
  /-- R457: A spare or array idle for 100 µs outside partitions enters retention. -/
  | retentionEntry (p : ArrayId)
  /-- R457: An array leaves retention within 2 µs when claimed. -/
  | retentionWake (p : ArrayId)
  /-- R458: A 10 µs input-current average above 380 A lowers codes by 8. -/
  | currentLimitSample (mv cur : Nat)
  /-- R459: A sample above 400 A gates every array clock with retention within 1 µs. -/
  | hardBrake (mv cur : Nat)
  /-- R459: After 10 µs at or below 360 A, the arrays resume 64 ns apart. -/
  | hardBrakeRelease (mv cur : Nat) (t : DWord)
  /-- R461: At T' − 200 ns, strip setpoints rise by the learned droop offset. -/
  | prepositionStart (p : ArrayId)
  /-- R465: Every 100 µs the loop computes C_eff and partition shares, and chooses codes. -/
  | capLoop (obs : List (Nat × Nat × Nat × Nat)) (droops : List (Nat × Nat)) (stretched : Nat)
  /-- R463: A write of PWR_CAP_GRANT sets the grant, or is dropped out of range. -/
  | capGrantWrite (req : Requester) (v : Word)
  /-- R466: THROT_REQ_L asserted for 1 µs applies C_rack at once. -/
  | throtReqAssert
  /-- R466: Deassertion lets C_rack lapse at the next loop. -/
  | throtReqDeassert
  /-- R466: A write of PWR_RACK.req applies or removes C_rack by register. -/
  | rackReq (req : Requester) (v : Word)
  /-- R473: Every 10 µs, sensors are read and the thermal throttle responses are applied. -/
  | thermalSample (readings : List (Nat × Nat × Bool))
  /-- R453: Every 24 powered hours, field offsets are written from monitor adjustments. -/
  | dailyOffsetUpdate
  /-- R477: A write of PWR_VMIN.clear resets a domain's minimum record. -/
  | vminClear (req : Requester) (d : DomainId) (v : Word)
  /-- R478: Every 1 ms, input energy is divided among contexts, partitions and the device. -/
  | energyAttribution (e : Nat) (arrays : List (Nat × Nat × Nat)) (traffic : List (Nat × Nat)) (dev : Nat)
  /-- R471: At each 2^29-tick boundary, members send slack frames. -/
  | poolIntervalBoundary (stalled resident : Nat)
  /-- R471: At boundary plus 1 ms, a qualifying member lowers its cap and sends a loan. -/
  | poolLoanDecision
  /-- R471: A slack frame from a member is recorded. -/
  | poolSlackFrame (frame : List Byte)
  /-- R471: A loan frame is accepted or refused by the borrower. -/
  | poolLoanFrame (frame : List Byte)
  /-- R471: An accept frame confirms a loan to the lender. -/
  | poolAcceptFrame (frame : List Byte)
  /-- R471: A refuse frame restores the lender's cap at once. -/
  | poolRefuseFrame (frame : List Byte)
  /-- R471: A recall frame makes the borrower drop the loan and release it. -/
  | poolRecallFrame (frame : List Byte)
  /-- R471: A release frame restores the lender's cap. -/
  | poolReleaseFrame (frame : List Byte)
  /-- R471: At lease end, a borrower drops an unrenewed loan. -/
  | poolLeaseEnd (t : DWord)
  /-- R471: At lease end plus 100 ms without a release, the lender restores its cap. -/
  | poolLenderTimeout (t : DWord)
  /-- R556: VIN rising through 36 V brings up the standby rail. -/
  | powerOn
  /-- R556: A COLD_RST_L pulse of at least 1 µs drops DEV_READY and stops every array. -/
  | coldRstLAssert
  /-- R556: Deassertion samples the straps and starts stage 0. -/
  | coldRstLDeassert (slotId : Fin 16) (recov : Bool)
  /-- R484: A bring-up stage ends, writes its report, and starts the next stage, restarts or fails. -/
  | bringupStageEnd (t : DWord) (e : StageEnd)
  /-- R503: BRP_RESET kind 1 disables contexts, resets the device domains and reruns stages 6, 10 and 11. -/
  | deviceReset (req : Requester) (v : Word)
  /-- R504: BRP_RESET kind 2 resets a field's services and arrays, or is refused. -/
  | fieldReset (req : Requester) (v : Word) (mesh test : Bool)
  /-- R504: BRP_RESET kind 3 resets one array with its self-test, or is refused. -/
  | arrayReset (req : Requester) (v : Word) (mesh test : Bool)
  /-- R498: A lane with more than 16 parity errors in 1 s is mapped to its spare, or the group fails. -/
  | seamLaneMonitor (seg : Fin 12) (bundle group : BitVec 8) (lane : Fin 33) (errs : Nat) (link : Option (Fin 54))
  /-- R499: 16 consecutive bad transfers retire a management bus for a field. -/
  | mgmtBusRetire (bus : Fin 2) (field : Fin 9)
  /-- R500: The primary dispatcher sends a heartbeat every 1 µs. -/
  | dispatcherHeartbeat (t : DWord)
  /-- R500: After 10 µs without a heartbeat, or on a reported error, the standby takes over. -/
  | dispatcherFailover (reported : Bool) (t : DWord)
  /-- R501: Repair command 1 sets a row's skip columns. -/
  | repairSetShiftMap (req : Requester) (v : Word)
  /-- R501: Repair command 2 sets a strip's skipped row. -/
  | repairSetRowMap (req : Requester) (v : Word)
  /-- R501: Repair command 3 retires an array. -/
  | repairRetireArray (req : Requester) (v : Word)
  /-- R501: Repair command 4 records a revocation of a log entry. -/
  | repairRevoke (req : Requester) (v : Word)
  /-- R501: Repair command 5 starts a 50 ms self-test of an isolated module. -/
  | repairTestModule (req : Requester) (v : Word)
  /-- R501: A passing module test returns the module to service and recomputes C_max. -/
  | moduleTestComplete (pass : Bool)
  /-- R506: Every 10 µs the detector samples the wait-for graph and progress counters. -/
  | hangSample (cycles : List (List (Nat × Nat)))
  /-- R509: A context without progress for limit_ms posts 0x0A 0x02 and may be faulted. -/
  | watchdogExpiry (c : CtxId)
  /-- R517: The target takes part in dynamic address assignment. -/
  | entdaa (t : Fin 2) (addr : Fin 128)
  /-- R517: The target drops its dynamic address and that path's ownership. -/
  | rstdaa (t : Fin 2)
  /-- R517: Enables in-band interrupt and hot-join events. -/
  | enec (t : Fin 2) (ibi hotJoin : Bool)
  /-- R517: Disables in-band interrupt and hot-join events. -/
  | disec (t : Fin 2) (ibi hotJoin : Bool)
  /-- R519: Returns the provisioned ID. -/
  | getpid (t : Fin 2)
  /-- R519: Returns the BCR, 0x07. -/
  | getbcr (t : Fin 2)
  /-- R519: Returns the DCR, 0xCC. -/
  | getdcr (t : Fin 2)
  /-- R517: Returns the target status. -/
  | getstatus (t : Fin 2)
  /-- R517: Returns the maximum read length. -/
  | getmrl (t : Fin 2)
  /-- R517: Sets the maximum read length, 69 to 260 bytes. -/
  | setmrl (t : Fin 2) (n : Nat)
  /-- R517: Returns the maximum write length. -/
  | getmwl (t : Fin 2)
  /-- R517: Sets the maximum write length. -/
  | setmwl (t : Fin 2) (n : Nat)
  /-- R517: Returns the maximum data speed. -/
  | getmxds (t : Fin 2)
  /-- R517: Resets only the target's own logic, never the device. -/
  | rstact (t : Fin 2) (action : Nat)
  /-- R518: A target powering up after address assignment requests hot-join. -/
  | i3cHotJoin (t : Fin 2)
  /-- R521: Sets the path's MCTP EID. -/
  | setEndpointId (req : Requester) (eid : Nat)
  /-- R522: Returns the path's EID. -/
  | getEndpointId (req : Requester)
  /-- R522: Returns the supported MCTP versions. -/
  | getMctpVersionSupport
  /-- R522: Returns the supported message types. -/
  | getMessageTypeSupport
  /-- R522: Returns the UUID derived from the serial number. -/
  | getEndpointUuid
  /-- R522: PLDM GetTID. -/
  | getTid (req : Requester)
  /-- R522: PLDM SetTID. -/
  | setTid (req : Requester) (tid : Nat)
  /-- R522: PLDM GetPLDMTypes. -/
  | getPldmTypes (req : Requester)
  /-- R522: PLDM GetPLDMCommands. -/
  | getPldmCommands (req : Requester) (ty : Nat)
  /-- R522: PLDM GetPLDMVersion. -/
  | getPldmVersion (req : Requester) (ty : Nat)
  /-- R522: Returns PDR repository information. -/
  | getPdrRepositoryInfo (req : Requester)
  /-- R522: Returns a PDR. -/
  | getPdr (req : Requester) (n : Nat)
  /-- R523: Returns a numeric sensor reading. -/
  | getSensorReading (req : Requester) (id : Nat)
  /-- R523: Returns state sensor readings. -/
  | getStateSensorReadings (req : Requester) (id : Nat)
  /-- R523: Sets the grant or rack floor effecter, owner only. -/
  | setNumericEffecterValue (req : Requester) (id v : Nat)
  /-- R523: Returns an effecter value. -/
  | getNumericEffecterValue (req : Requester) (id : Nat)
  /-- R523: Registers the PLDM event receiver. -/
  | setEventReceiver (req : Requester)
  /-- R522: Negotiates the event message buffer size. -/
  | eventMessageBufferSize (req : Requester) (n : Nat)
  /-- R522: Returns firmware device identifiers. -/
  | queryDeviceIdentifiers (req : Requester)
  /-- R522: Returns firmware parameters. -/
  | getFirmwareParameters (req : Requester)
  /-- R535: Starts an update into the inactive slot. -/
  | requestUpdate (req : Requester)
  /-- R522: Takes the component table of an update. -/
  | passComponentTable (req : Requester)
  /-- R535: Starts the download of a component. -/
  | updateComponent (req : Requester) (id : Nat)
  /-- R535: Image data answering RequestFirmwareData are written to the target slot. -/
  | firmwareDataResponse (req : Requester) (off : Nat) (data : List Byte)
  /-- R535: The download ends and verification starts. -/
  | transferComplete (req : Requester) (last : Bool)
  /-- R534: Verification of the downloaded image ends, setting the slot to state 3 or 6. -/
  | fwVerifyComplete (sig hash : Bool)
  /-- R535: The verification result exchange of DSP0267. -/
  | verifyComplete (req : Requester)
  /-- R535: Records a trial of the verified slot in the boot pointer. -/
  | activateFirmware (req : Requester)
  /-- R522: Returns the update status. -/
  | getStatus (req : Requester)
  /-- R535: Cancels the component download. -/
  | cancelUpdateComponent (req : Requester)
  /-- R535: Cancels the update and empties the target slot. -/
  | cancelUpdate (req : Requester)
  /-- R525: A PLDM claim of ownership is accepted or refused. -/
  | claimOwnership (req : Requester) (prio id : Nat)
  /-- R527: The owner releases ownership. -/
  | releaseOwnership (req : Requester) (id : Nat)
  /-- R527: The owner names a successor for a pending handover. -/
  | handOver (req : Requester) (kind path node id : Nat)
  /-- R522: Returns owner, ID and remaining lease. -/
  | getOwner (req : Requester)
  /-- R522: Reads a BAR0 register through management. -/
  | readRegister (req : Requester) (off : Nat)
  /-- R522: Writes a BAR0 register through management, subject to ownership. -/
  | writeRegister (req : Requester) (off : Nat) (v : Word)
  /-- R543: Returns up to 60 lifetime words. -/
  | readLifetime (req : Requester) (space first count : Nat)
  /-- R537: The owner confirms a trial boot after stage 11. -/
  | confirmFirmware (req : Requester)
  /-- R522: The PLDM command requests a cold reset 10 ms after the response. -/
  | coldReset (req : Requester)
  /-- R524: SPDM GET_VERSION. -/
  | getVersion (req : Requester)
  /-- R524: SPDM GET_CAPABILITIES. -/
  | getCapabilities (req : Requester)
  /-- R524: SPDM NEGOTIATE_ALGORITHMS, ECDSA P-384 only. -/
  | negotiateAlgorithms (req : Requester) (ecdsaP384 sha384 : Bool)
  /-- R524: SPDM GET_DIGESTS. -/
  | getDigests (req : Requester)
  /-- R524: SPDM GET_CERTIFICATE from slot 0. -/
  | getCertificate (req : Requester) (slot off len : Nat)
  /-- R524: SPDM CHALLENGE. -/
  | challenge (req : Requester) (nonce : Nat)
  /-- R524: SPDM signed GET_MEASUREMENTS. -/
  | getMeasurements (req : Requester) (idx nonce : Nat)
  /-- R525: MGT_CLAIM_CTL op 0 claims ownership for the PF path. -/
  | claimCtlClaim (req : Requester) (v : Word)
  /-- R527: MGT_CLAIM_CTL op 1 releases ownership. -/
  | claimCtlRelease (req : Requester) (v : Word)
  /-- R527: MGT_CLAIM_CTL op 2 names a successor. -/
  | claimCtlHandOver (req : Requester) (v : Word)
  /-- R526: An unrenewed 30 s lease lapses, leaving no owner. -/
  | leaseLapse (t : DWord)
  /-- R527: A handover not taken up within 5 s is cancelled. -/
  | handoverExpiry (t : DWord)
  /-- R537: MGT_FW_CTL.confirm confirms the trial. -/
  | fwCtlConfirm (req : Requester) (v : Word)
  /-- R535: MGT_FW_CTL.activate activates a verified slot. -/
  | fwCtlActivate (req : Requester) (v : Word)
  /-- R535: MGT_FW_CTL.cancel cancels the update. -/
  | fwCtlCancel (req : Requester) (v : Word)
  /-- R536: MGT_FW_CTL.cold_req requests the cold reset that activates firmware. -/
  | fwCtlColdReq (req : Requester) (v : Word)
  /-- R537: An unconfirmed trial after 600 s posts 0x08 and causes a cold reset. -/
  | trialWindowExpiry
  /-- R542: Every 60 s, buffered lifetime entries and counters are written to flash. -/
  | lifetimeFlush
  /-- R101: A pass's last activation row enters grid row 0, so the tile leaves the executing state and the array reaches a tile boundary. -/
  | tileBoundary (p : ArrayId) (upset : List (Nat × Nat × Nat))
  /-- R138: A class-2 acknowledgement of an accepted send reaches the sender, which removes the send from its send buffer. -/
  | sendAcknowledgement (n : Nat)
  /-- R454: At 200 µs a domain's soft-start ramp reaches its setpoint and the domain leaves state Ramping for On. -/
  | domainRampComplete (d : DomainId)
  /-- R438: Signal returns on a down fabric port that is watching lane 0, and the port starts low-rate training. -/
  | fabricSignalDetect (port : FabPort)
  /-- R333: Every strip is back within 2 % of its setpoint, so the array clock ends its stretch and returns to the target period. -/
  | droopRecovery (p : ArrayId)
  /-- R477: A domain voltage excursion of at least 2 ns sets a new minimum record, and below V_tt posts class 0x07 code 0x0C. -/
  | domainVminExcursion (d : DomainId) (v : Nat) (t : DWord)
  /-- R245: An in-service HBM lane repair finishes and the channel releases the requests it held by back-pressure. -/
  | hbmLaneRepairComplete (site : SiteId) (x : HbmLane)
  /-- R522: 10 ms after the ColdReset response the device performs the requested cold reset. -/
  | coldResetDelayExpiry (t : DWord)
  /-- R443: A host port link detects a correctable error, counts it in HST_CE and posts class 0x0E code 0x09. -/
  | correctableLinkError (h : HostPortId)
  deriving DecidableEq, Repr

end Sys2Proof
end

