-- ==== Sys2Proof/Decode.lean ====
section
/-!
DEFINITION. The command that a word of the command table spells. spec/opcode_table.json gives none of its rows bits: no word spells a
command (notes/assumptions/1). The instruction words that commands carry as operands are taken apart by their meanings.
-/
namespace Sys2Proof

/-- The command of a word of nbits bits. -/
def decodeTableWord (_nbits _w : Nat) : Option Instr := none

end Sys2Proof
end

