-- ==== Sys2Proof/Machine/Bits.lean ====
section
/-!
DEFINITION. Bit fields, sign extension, byte order, keyed tables and list updates: the helpers every other file uses.
-/
namespace Sys2Proof.Machine

/-- Bits [hi:lo] of a natural number (00_scope: bit ranges, both ends inclusive). -/
def bitsOf (v hi lo : Nat) : Nat := (v >>> lo) % 2 ^ (hi + 1 - lo)

/-- Bit i of a natural number. -/
def bitOf (v i : Nat) : Bool := v.testBit i

/-- Bits [hi:lo] of v replaced by the low bits of x. -/
def setBits (v hi lo x : Nat) : Nat :=
  v - (bitsOf v hi lo) * 2 ^ lo + (x % 2 ^ (hi + 1 - lo)) * 2 ^ lo

/-- A w-bit pattern read as a two's-complement integer. -/
def toSigned (w v : Nat) : Int :=
  let v := v % 2 ^ w
  if 2 ^ (w - 1) ≤ v then (v : Int) - (2 : Int) ^ w else (v : Int)

/-- An integer wrapped into w bits. -/
def wrapInt (w : Nat) (x : Int) : Nat := (x % (2 : Int) ^ w).toNat

/-- An integer clamped into [lo, hi]. -/
def clampInt (lo hi x : Int) : Int := if x < lo then lo else if hi < x then hi else x

/-- Sign extension of the low w bits to n bits. -/
def signExt (w n v : Nat) : Nat := wrapInt n (toSigned w v)

/-- A saturating increment of a w-bit counter. -/
def satAdd (w a b : Nat) : Nat := if a + b < 2 ^ w then a + b else 2 ^ w - 1

/-- One if true, zero if false. -/
def b2n (b : Bool) : Nat := if b then 1 else 0

/-- n bytes of v, least significant first. -/
def bytesOf : Nat → Nat → List Byte
  | 0, _ => []
  | n + 1, v => BitVec.ofNat 8 v :: bytesOf n (v / 256)

/-- The little-endian value of a list of bytes. -/
def ofBytes : List Byte → Nat
  | [] => 0
  | b :: bs => b.toNat + 256 * ofBytes bs

/-- n bytes at offset o of a list, zero where the list has ended. -/
def sliceBytes (bs : List Byte) (o n : Nat) : List Byte :=
  let t := (bs.drop o).take n
  t ++ List.replicate (n - t.length) 0#8

/-- The little-endian value of n bytes at offset o. -/
def leAt (bs : List Byte) (o n : Nat) : Nat := ofBytes (sliceBytes bs o n)

/-- The number of one bits among the low n bits. -/
def popCount : Nat → Nat → Nat
  | 0, _ => 0
  | n + 1, v => v % 2 + popCount n (v / 2)

/-- The number of leading zeros of the low n bits. -/
def clz : Nat → Nat → Nat
  | 0, _ => 0
  | n + 1, v => if v.testBit n then 0 else 1 + clz n v

/-- The lowest set bit among n bits, n when there is none. -/
def lowestBit : Nat → Nat → Nat
  | 0, _ => 0
  | n + 1, v => if v % 2 = 1 then 0 else 1 + lowestBit n (v / 2)

/-- floor(log2 v), 0 for 0. -/
def log2Floor (v : Nat) : Nat := Nat.log2 v

/-- Look a key up in a table. -/
def tblFind {α : Type} : Tbl α → Nat → Option α
  | [], _ => none
  | (k, v) :: t, i => if k = i then some v else if i < k then none else tblFind t i

/-- The value at a key, the default where the table lists none. -/
def tblGet {α : Type} (d : α) (t : Tbl α) (i : Nat) : α := (tblFind t i).getD d

/-- Store a value at a key, keeping the keys rising. -/
def tblPut {α : Type} : Tbl α → Nat → α → Tbl α
  | [], i, x => [(i, x)]
  | (k, v) :: t, i, x =>
    if i < k then (i, x) :: (k, v) :: t
    else if i = k then (i, x) :: t
    else (k, v) :: tblPut t i x

/-- Remove a key. -/
def tblDel {α : Type} : Tbl α → Nat → Tbl α
  | [], _ => []
  | (k, v) :: t, i =>
    if i < k then (k, v) :: t
    else if i = k then t
    else (k, v) :: tblDel t i

/-- Store a value at a key in canonical form: an entry equal to what an unlisted key reads as is not listed. -/
def tblSet {α : Type} [DecidableEq α] (d : α) (t : Tbl α) (i : Nat) (x : α) : Tbl α :=
  if x = d then tblDel t i else tblPut t i x

/-- The keys of a table rise strictly from above the bound. -/
def tblRisesFrom {α : Type} : Option Nat → Tbl α → Bool
  | _, [] => true
  | none, (k, _) :: t => tblRisesFrom (some k) t
  | some b, (k, _) :: t => decide (b < k) && tblRisesFrom (some k) t

/-- Element i of a list, the default past its end. -/
def nth {α : Type} (d : α) : List α → Nat → α
  | [], _ => d
  | x :: _, 0 => x
  | _ :: xs, n + 1 => nth d xs n

/-- Replace element i of a list, padding with the default where the list is shorter. -/
def setNth {α : Type} (d : α) : List α → Nat → α → List α
  | [], 0, x => [x]
  | [], n + 1, x => d :: setNth d [] n x
  | _ :: ys, 0, x => x :: ys
  | y :: ys, n + 1, x => y :: setNth d ys n x

/-- Remove the first element that meets a test. -/
def removeFirst {α : Type} (p : α → Bool) : List α → List α
  | [] => []
  | x :: xs => if p x then xs else x :: removeFirst p xs

/-- The sum of f over 0 to n − 1. -/
def sumTo (n : Nat) (f : Nat → Nat) : Nat := (List.range n).foldl (fun a i => a + f i) 0

/-- A number from its bits: bit i set where f i holds, for i below n. -/
def packBits (n : Nat) (f : Nat → Bool) : Nat := (List.range n).foldl (fun a i => if f i then a + 2 ^ i else a) 0

/-- The quotient of two naturals rounded up. -/
def ceilDiv (a b : Nat) : Nat := (a + b - 1) / b

/-- A list cut into pieces of n, the last one shorter. -/
def chunks {α : Type} (n : Nat) (l : List α) : List (List α) :=
  (List.range (ceilDiv l.length n)).map (fun i => (l.drop (i * n)).take n)

end Sys2Proof.Machine
end

