-- ==== Sys2Proof/Machine/Formats.lean ====
section
/-!
DEFINITION. Number formats (02_arithmetic R40 to R46): format codes, element layouts, special codes, and the exact value
of an element. A finite value is a sign, a magnitude and a power of two; nothing is rounded here.
-/
namespace Sys2Proof.Machine

/-- The formats of R40's table, in its order. -/
inductive Fmt where
  | fp4 | mxfp4 | int4 | e4m3 | e5m2 | mxe4m3 | mxe5m2 | mxe3m2 | mxe2m3 | mxint8 | int8
  | bf16 | fp16 | fp32 | int32 | record
  deriving DecidableEq, Repr

/-- R40: the format a 5-bit code names; none for a reserved code. -/
def fmtOfCode : Nat → Option Fmt
  | 0x01 => some .fp4 | 0x02 => some .mxfp4 | 0x03 => some .int4 | 0x04 => some .e4m3
  | 0x05 => some .e5m2 | 0x06 => some .mxe4m3 | 0x07 => some .mxe5m2 | 0x08 => some .mxe3m2
  | 0x09 => some .mxe2m3 | 0x0A => some .mxint8 | 0x0B => some .int8 | 0x0C => some .bf16
  | 0x0D => some .fp16 | 0x0E => some .fp32 | 0x10 => some .int32 | 0x11 => some .record
  | _ => none

/-- R40: the code of a format. -/
def fmtCode : Fmt → Nat
  | .fp4 => 0x01 | .mxfp4 => 0x02 | .int4 => 0x03 | .e4m3 => 0x04 | .e5m2 => 0x05 | .mxe4m3 => 0x06
  | .mxe5m2 => 0x07 | .mxe3m2 => 0x08 | .mxe2m3 => 0x09 | .mxint8 => 0x0A | .int8 => 0x0B | .bf16 => 0x0C
  | .fp16 => 0x0D | .fp32 => 0x0E | .int32 => 0x10 | .record => 0x11

/-- R40: bits of one element. -/
def fmtBits : Fmt → Nat
  | .fp4 => 4 | .mxfp4 => 4 | .int4 => 4 | .mxe3m2 => 6 | .mxe2m3 => 6
  | .bf16 => 16 | .fp16 => 16 | .fp32 => 32 | .int32 => 32 | .record => 128
  | _ => 8

/-- R40: formats with an E8M0 scale for each block of 32 elements. -/
def fmtMx : Fmt → Bool
  | .mxfp4 | .mxe4m3 | .mxe5m2 | .mxe3m2 | .mxe2m3 | .mxint8 => true
  | _ => false

/-- R40, Array operand column: formats an array operation may read. -/
def fmtOperand : Fmt → Bool
  | .int32 | .record => false
  | _ => true

/-- R40, Drain output column. -/
def fmtDrain : Fmt → Bool
  | .fp4 | .int4 | .int8 => false
  | _ => true

/-- The format groups of the operand pair table (R47): 4-bit, 8-bit, 16-bit, FP32. -/
inductive FmtGroup where
  | g4 | g8 | g16 | g32 | none
  deriving DecidableEq, Repr

/-- The group of a format. -/
def fmtGroup : Fmt → FmtGroup
  | .fp4 | .mxfp4 | .int4 => .g4
  | .bf16 | .fp16 => .g16
  | .fp32 => .g32
  | .int32 | .record => .none
  | _ => .g8

/-- R47: the pairs (activation, stationary) that are allowed. -/
def pairAllowed (a w : Fmt) : Bool :=
  match fmtGroup a, fmtGroup w with
  | .g4, .g4 | .g4, .g8 | .g8, .g4 | .g8, .g8 | .g16, .g16 | .g32, .g32 => true
  | _, _ => false

/-- R47: products per core per cycle in normal mode (FP32 counts its three passes: 8/3 rounded down). -/
def pairRate (a w : Fmt) : Nat :=
  match fmtGroup a, fmtGroup w with
  | .g4, .g4 => 32
  | .g4, .g8 | .g8, .g4 | .g8, .g8 => 16
  | .g16, .g16 => 8
  | .g32, .g32 => 2
  | _, _ => 0

/-- A value as R41 and R53 give it: finite with an exact magnitude mag × 2^exp, an infinity, or NaN. -/
inductive FVal where
  | fin (neg : Bool) (mag : Nat) (exp : Int)
  | inf (neg : Bool)
  | nan
  deriving DecidableEq, Repr

/-- R41, R42: the layout of a floating-point element: exponent bits, mantissa bits, bias, whether the top exponent
holds infinities and NaNs (IEEE), whether all ones is the only NaN (E4M3). -/
structure FloatLay where
  ebits : Nat
  mbits : Nat
  bias : Int
  ieee : Bool
  e4m3 : Bool
  deriving DecidableEq, Repr

/-- The float layout of a format; none for the integer formats and the record. -/
def fmtLay : Fmt → Option FloatLay
  | .fp4 | .mxfp4 => some ⟨2, 1, 1, false, false⟩
  | .mxe3m2 => some ⟨3, 2, 3, false, false⟩
  | .mxe2m3 => some ⟨2, 3, 1, false, false⟩
  | .e4m3 | .mxe4m3 => some ⟨4, 3, 7, false, true⟩
  | .e5m2 | .mxe5m2 => some ⟨5, 2, 15, true, false⟩
  | .bf16 => some ⟨8, 7, 127, true, false⟩
  | .fp16 => some ⟨5, 10, 15, true, false⟩
  | .fp32 => some ⟨8, 23, 127, true, false⟩
  | _ => none

/-- R41, R42, R45: the exact value of a floating-point code. -/
def decodeFloat (l : FloatLay) (bits : Nat) : FVal :=
  let neg := bits.testBit (l.ebits + l.mbits)
  let e := bitsOf bits (l.ebits + l.mbits - 1) l.mbits
  let m := bits % 2 ^ l.mbits
  if l.ieee && e == 2 ^ l.ebits - 1 then (if m = 0 then .inf neg else .nan)
  else if l.e4m3 && e == 2 ^ l.ebits - 1 && m == 2 ^ l.mbits - 1 then .nan
  else if e = 0 then .fin neg m (1 - l.bias - l.mbits)
  else .fin neg (2 ^ l.mbits + m) ((e : Int) - l.bias - l.mbits)

/-- An integer as a value, times 2^exp. -/
def intVal (x : Int) (exp : Int) : FVal := .fin (decide (x < 0)) x.natAbs exp

/-- R41 to R43: the value of an element's code before its block scale. -/
def decodeElem (f : Fmt) (bits : Nat) : FVal :=
  match fmtLay f with
  | some l => decodeFloat l bits
  | none =>
    match f with
    | .int4 => intVal (toSigned 4 bits) 0
    | .mxint8 => intVal (toSigned 8 bits) (-6)
    | .int32 => intVal (toSigned 32 bits) 0
    | _ => intVal (toSigned 8 bits) 0

/-- R43: an element under its block's E8M0 scale; 0xFF makes it NaN. -/
def scaleElem (v : FVal) (x : Nat) : FVal :=
  if x = 0xFF then .nan
  else match v with
    | .fin n m e => .fin n m (e + (x : Int) - 127)
    | w => w

/-- R44: element i of a packed byte string. 4-bit: two a byte, low first; 6-bit: four to three bytes. -/
def packedElem (f : Fmt) (bs : List Byte) (i : Nat) : Nat :=
  match fmtBits f with
  | 4 => bitsOf (leAt bs (i / 2) 1) (4 * (i % 2) + 3) (4 * (i % 2))
  | 6 => bitsOf (leAt bs (3 * (i / 4)) 3) (6 * (i % 4) + 5) (6 * (i % 4))
  | n => leAt bs (i * (n / 8)) (n / 8)

/-- R44: the bytes n packed elements take. -/
def packedBytes (f : Fmt) (n : Nat) : Nat :=
  match fmtBits f with
  | 4 => ceilDiv n 2
  | 6 => 3 * ceilDiv n 4
  | b => n * (b / 8)

/-- R44: element codes packed into bytes. -/
def packElems (f : Fmt) (cs : List Nat) : List Byte :=
  match fmtBits f with
  | 4 => (chunks 2 cs).flatMap (fun g => bytesOf 1 (nth 0 g 0 % 16 + 16 * (nth 0 g 1 % 16)))
  | 6 => (chunks 4 cs).flatMap (fun g =>
      bytesOf 3 (nth 0 g 0 % 64 + 64 * (nth 0 g 1 % 64) + 4096 * (nth 0 g 2 % 64) + 262144 * (nth 0 g 3 % 64)))
  | b => cs.flatMap (fun c => bytesOf (b / 8) c)

/-- The exact product of two values (R48, R53): NaN and infinity rules included. -/
def mulVal : FVal → FVal → FVal
  | .nan, _ => .nan
  | _, .nan => .nan
  | .inf a, .inf b => .inf (a != b)
  | .inf a, .fin b m _ => if m = 0 then .nan else .inf (a != b)
  | .fin a m _, .inf b => if m = 0 then .nan else .inf (a != b)
  | .fin a m e, .fin b n f => .fin (a != b) (m * n) (e + f)

/-- The signed integer m × 2^k rounded toward minus infinity to an integer. -/
def floorShift (neg : Bool) (m : Nat) (k : Int) : Int :=
  if 0 ≤ k then
    let v : Int := ((m * 2 ^ k.toNat : Nat) : Int)
    if neg then -v else v
  else
    let d := 2 ^ (-k).toNat
    if neg then -((ceilDiv m d : Nat) : Int) else ((m / d : Nat) : Int)

/-- Whether m × 2^k is no integer. -/
def lostBits (m : Nat) (k : Int) : Bool := if 0 ≤ k then false else m % 2 ^ (-k).toNat != 0

/-- R67: rounding modes; 0b11 is reserved. -/
inductive Rnd where
  | rne | rtz | sr
  deriving DecidableEq, Repr

/-- R67: the rounding mode of a 2-bit code. -/
def rndOfCode : Nat → Option Rnd
  | 0 => some .rne
  | 1 => some .rtz
  | 2 => some .sr
  | _ => none

/-- R68, R72: the magnitude m × 2^k rounded to an integer, r being the 24-bit random value. -/
def roundMag (rnd : Rnd) (r : Nat) (m : Nat) (k : Int) : Nat :=
  if 0 ≤ k then m * 2 ^ k.toNat
  else
    let d := 2 ^ (-k).toNat
    let q := m / d
    let f := m % d
    match rnd with
    | .rtz => q
    | .rne => if 2 * f > d ∨ (2 * f = d ∧ q % 2 = 1) then q + 1 else q
    | .sr => if (f * 2 ^ 24) / d + r ≥ 2 ^ 24 then q + 1 else q

/-- The exponent floor(log2 |v|) of a non-zero magnitude m × 2^e. -/
def magExp (m : Nat) (e : Int) : Int := (log2Floor m : Int) + e

/-- The largest finite code of a float layout (R42), without its sign. -/
def maxCode (l : FloatLay) : Nat :=
  if l.ieee then (2 ^ l.ebits - 1) * 2 ^ l.mbits - 1
  else if l.e4m3 then 2 ^ (l.ebits + l.mbits) - 2
  else 2 ^ (l.ebits + l.mbits) - 1

/-- The code of infinity, or of NaN in E4M3, or of the largest finite element where the format has neither (R69). -/
def infCode (l : FloatLay) : Nat :=
  if l.ieee then (2 ^ l.ebits - 1) * 2 ^ l.mbits
  else if l.e4m3 then 2 ^ (l.ebits + l.mbits) - 1
  else maxCode l

/-- The canonical NaN code of a float layout (R70): the quiet NaN, 0x7F in E4M3. -/
def nanCode (l : FloatLay) : Nat :=
  if l.ieee then (2 ^ l.ebits - 1) * 2 ^ l.mbits + 2 ^ (l.mbits - 1)
  else 2 ^ (l.ebits + l.mbits) - 1

/-- R68: the code, without sign, that the magnitude m × 2^e rounds to, before any overflow rule; a code above
maxCode says that the rounded magnitude exceeds the largest finite value (R69). -/
def roundCode (l : FloatLay) (rnd : Rnd) (r : Nat) (m : Nat) (e : Int) : Nat :=
  if m = 0 then 0
  else
    let emin : Int := 1 - l.bias
    let ex := if magExp m e < emin then emin else magExp m e
    let u := ex - l.mbits
    let q := roundMag rnd r m (e - u)
    -- q counts units of 2^u: below 2^mbits it is subnormal; adding the exponent field makes codes run on
    (ex - emin).toNat * 2 ^ l.mbits + q

/-- R68, R69: a finite value converted to a floating-point format. sat chooses saturation. -/
def encodeFloat (l : FloatLay) (rnd : Rnd) (sat : Bool) (r : Nat) (neg : Bool) (m : Nat) (e : Int) : Nat :=
  let sign := if neg && m != 0 then 2 ^ (l.ebits + l.mbits) else 0
  let c := roundCode l rnd r m e
  if c ≤ maxCode l then sign + c
  else if rnd = .rtz ∨ sat then sign + maxCode l
  else if l.e4m3 then infCode l
  else sign + infCode l

/-- A value converted to a floating-point format, special states by R70. -/
def encodeVal (l : FloatLay) (rnd : Rnd) (sat : Bool) (r : Nat) : FVal → Nat
  | .fin n m e => encodeFloat l rnd sat r n m e
  | .inf n =>
    let sign := if n then 2 ^ (l.ebits + l.mbits) else 0
    if sat then sign + maxCode l else if l.e4m3 then infCode l else sign + infCode l
  | .nan => nanCode l

/-- R68: a finite value converted to a w-bit signed integer, rounded and then saturated. -/
def encodeInt (w : Nat) (rnd : Rnd) (r : Nat) (neg : Bool) (m : Nat) (e : Int) : Nat :=
  let q : Int := (roundMag rnd r m e : Int)
  let q := if neg then -q else q
  wrapInt w (clampInt (-(2 : Int) ^ (w - 1)) ((2 : Int) ^ (w - 1) - 1) q)

/-- R73: mix, modulo 2^64. -/
def mix64 (z : Nat) : Nat :=
  let z := z % 2 ^ 64
  let z := ((z ^^^ (z >>> 30)) * 0xBF58476D1CE4E5B9) % 2 ^ 64
  let z := ((z ^^^ (z >>> 27)) * 0x94D049BB133111EB) % 2 ^ 64
  z ^^^ (z >>> 31)

/-- R73: the 24-bit random value of an output. -/
def srRandom (key osn m n : Nat) : Nat :=
  let h := mix64 (key + osn * 0x9E3779B97F4A7C15)
  let h := mix64 (h ^^^ ((m * 2 ^ 32) % 2 ^ 64) ^^^ n)
  h >>> 40

/-- R71: emax of the MX element formats. -/
def fmtEmax : Fmt → Int
  | .mxe4m3 => 8 | .mxe5m2 => 15 | .mxe3m2 => 4 | .mxe2m3 => 2 | .mxfp4 => 2
  | _ => 0

/-- R71: the block scale for a largest finite magnitude (zero when there is none); none is the code 0xFF. -/
def mxScale (f : Fmt) (sat : Bool) (amaxM : Nat) (amaxE : Int) : Option Nat :=
  if amaxM = 0 then some 0
  else
    let x := magExp amaxM amaxE - fmtEmax f
    if x < -127 then some 0
    else if 127 < x then (if sat then some 254 else none)
    else some (x + 127).toNat

/-- R70, R71: one element of an MX block with scale code x, after the scale is chosen. -/
def mxElem (f : Fmt) (rnd : Rnd) (sat : Bool) (r x : Nat) (v : FVal) : Nat :=
  match fmtLay f with
  | some l =>
    match v with
    | .fin n m e => encodeFloat l rnd true r n m (e - ((x : Int) - 127))
    | .inf n => encodeVal l rnd sat r (.inf n)
    | .nan => nanCode l
  | none =>
    match v with
    | .fin n m e =>
      let q : Int := (roundMag rnd r m (e - ((x : Int) - 127) + 6) : Int)
      wrapInt 8 (clampInt (-127) 127 (if n then -q else q))
    | .inf n => if n then 0x81 else 0x7F
    | .nan => 0

/-- The larger of two magnitudes, exactly. -/
def magMax (a b : Nat × Int) : Nat × Int :=
  let k := if a.2 < b.2 then a.2 else b.2
  if a.1 * 2 ^ (a.2 - k).toNat < b.1 * 2 ^ (b.2 - k).toNat then b else a

/-- R70: non-finite values that make a block's scale 0xFF: NaN in the formats without a NaN element, and infinity
with sat = 0 in MXFP6, MXFP4 and MXINT8. -/
def mxPoisons (f : Fmt) (sat : Bool) : FVal → Bool
  | .fin .. => false
  | .inf _ => !sat && !(f == .mxe4m3 || f == .mxe5m2)
  | .nan => !(f == .mxe4m3 || f == .mxe5m2)

/-- R71: a block of values made into a scale code and element codes. rs gives each element's random value. -/
def mxBlock (f : Fmt) (rnd : Rnd) (sat : Bool) (vs : List (FVal × Nat)) : Nat × List Nat :=
  let amax := vs.foldl (fun a v => match v.1 with | .fin _ m e => magMax a (m, e) | _ => a) (0, 0)
  let bad := vs.any (fun v => mxPoisons f sat v.1)
  match bad, mxScale f sat amax.1 amax.2 with
  | false, some x => (x, vs.map (fun v => mxElem f rnd sat v.2 x v.1))
  | _, _ => (0xFF, vs.map (fun _ => 0))

/-- A value converted to a format that is not MX and not the record (R70). -/
def encodePlain (f : Fmt) (rnd : Rnd) (sat : Bool) (r : Nat) (v : FVal) : Nat :=
  match fmtLay f with
  | some l => encodeVal l rnd sat r v
  | none =>
    match v with
    | .fin n m e => encodeInt 32 rnd r n m e
    | .inf n => if n then 0x80000000 else 0x7FFFFFFF
    | .nan => 0x80000000

/-- R61, R62: the BF16 halves of an FP32 code, as values: hi and lo. -/
def splitFp32 (bits : Nat) : FVal × FVal :=
  match decodeElem .fp32 bits with
  | .fin n m e =>
    if m = 0 then (.fin n 0 e, .fin false 0 0)
    else
      let lb : FloatLay := ⟨8, 7, 127, true, false⟩
      let c := roundCode lb .rne 0 m e
      let hiC := if c ≤ maxCode lb then c else maxCode lb
      match decodeFloat lb hiC with
      | .fin _ hm he =>
        -- x − hi is exact; both are multiples of 2^k
        let k := if e < he then e else he
        let d : Int := ((m * 2 ^ (e - k).toNat : Nat) : Int) - ((hm * 2 ^ (he - k).toNat : Nat) : Int)
        let loC := encodeFloat lb .rne true 0 (if d < 0 then !n else n) d.natAbs k
        (.fin n hm he, decodeFloat lb loC)
      | v => (v, .fin false 0 0)
  | v => (v, .fin false 0 0)

end Sys2Proof.Machine
end

