-- ==== Sys2Proof/Machine/Flags.lean ====
section
/-!
DEFINITION. The accumulation window, its flags and special states, partial records and drain conversion
(02_arithmetic R48 to R72). Every flag computation of array mode is here.
-/
namespace Sys2Proof.Machine

/-- R53: the special state of an output. -/
inductive Special where
  | finite | posInf | negInf | nan
  deriving DecidableEq, Repr

/-- R58: the two bits of a special state. -/
def specialCode : Special → Nat
  | .finite => 0 | .posInf => 1 | .negInf => 2 | .nan => 3

/-- R58: the special state of two bits. -/
def specialOfCode : Nat → Special
  | 0 => .finite | 1 => .posInf | 2 => .negInf | _ => .nan

/-- R53: combination of special states; commutative and associative. -/
def specialJoin : Special → Special → Special
  | .finite, x => x
  | x, .finite => x
  | .posInf, .posInf => .posInf
  | .negInf, .negInf => .negInf
  | _, _ => .nan

/-- R50 to R53: the accumulator of one output: its 120-bit value, its inexact and ovf conditions, its special state. -/
structure Acc where
  val : BitVec 120
  inexact : Bool
  ovf : Bool
  special : Special
  deriving DecidableEq, Repr

/-- The empty accumulator: an output that starts from zero. -/
def Acc.zero : Acc := ⟨0#120, false, false, .finite⟩

/-- R50: the window's bounds, in grid units. -/
def windowMax : Int := (2 : Int) ^ 103 - 1

/-- R50: the window's lower bound. -/
def windowMin : Int := -(2 : Int) ^ 103

/-- R50: whether an integer of grid units lies in the window. -/
def inWindow (x : Int) : Bool := decide (windowMin ≤ x) && decide (x ≤ windowMax)

/-- R49: the exponent of the grid of an anchor. -/
def gridExp (anchor : Int) : Int := anchor - 80

/-- R49 to R53: one product added to an accumulator under an anchor. -/
def accAddProduct (anchor : Int) (a : Acc) (p : FVal) : Acc :=
  match p with
  | .fin n m e =>
    let k := e - gridExp anchor
    let q := floorShift n m k
    { a with
      val := a.val + BitVec.ofInt 120 q
      inexact := a.inexact || lostBits m k
      ovf := a.ovf || !inWindow q }
  | .inf n => { a with special := specialJoin a.special (if n then .negInf else .posInf) }
  | .nan => { a with special := specialJoin a.special .nan }

/-- R59: two accumulators combined. -/
def accJoin (a b : Acc) : Acc :=
  { val := a.val + b.val
    inexact := a.inexact || b.inexact
    ovf := a.ovf || b.ovf
    special := specialJoin a.special b.special }

/-- R58: the partial record of an accumulator. -/
def recOfAcc (anchor : Int) (a : Acc) : BitVec 128 :=
  BitVec.ofNat 128 (a.val.toNat + b2n a.inexact * 2 ^ 120 + b2n a.ovf * 2 ^ 121
    + specialCode a.special * 2 ^ 122 + wrapInt 4 anchor * 2 ^ 124)

/-- R58: the accumulator a partial record carries. -/
def accOfRec (r : BitVec 128) : Acc :=
  { val := BitVec.ofNat 120 r.toNat
    inexact := r.toNat.testBit 120
    ovf := r.toNat.testBit 121
    special := specialOfCode (bitsOf r.toNat 123 122) }

/-- R60: whether a record's anchor_chk matches the anchor it is consumed under. -/
def recAnchorOk (anchor : Int) (r : BitVec 128) : Bool := bitsOf r.toNat 127 124 == wrapInt 4 anchor

/-- R52, R54: an accumulator as a drain to a converted form reads it: ovf also when the 120-bit value lies outside
the window, and then saturated by its sign. -/
def accForDrain (a : Acc) : Acc :=
  let v := a.val.toInt
  let ovf := a.ovf || !inWindow v
  { a with
    ovf := ovf
    val := if ovf then BitVec.ofInt 120 (if 0 ≤ v then windowMax else windowMin) else a.val }

/-- The value a converted drain rounds (R68, R70). -/
def accValue (anchor : Int) (a : Acc) : FVal :=
  match a.special with
  | .posInf => .inf false
  | .negInf => .inf true
  | .nan => .nan
  | .finite =>
    let v := (accForDrain a).val.toInt
    .fin (decide (v < 0)) v.natAbs (gridExp anchor)

/-- R55: the sticky flags of a tile. -/
structure TileFlags where
  inexact : Bool
  overflow : Bool
  special : Bool
  deriving DecidableEq, Repr

/-- No flag set. -/
def TileFlags.none : TileFlags := ⟨false, false, false⟩

/-- R55: the flags one output adds, for a drain to a record or to a converted form. -/
def flagsOfAcc (toRecord : Bool) (a : Acc) : TileFlags :=
  { inexact := a.inexact
    overflow := if toRecord then a.ovf else (accForDrain a).ovf
    special := decide (a.special ≠ .finite) }

/-- Flags combined by OR. -/
def flagsJoin (a b : TileFlags) : TileFlags :=
  ⟨a.inexact || b.inexact, a.overflow || b.overflow, a.special || b.special⟩

/-- R67: a drain configuration. -/
structure DrainCfg where
  fmt : Fmt
  rnd : Rnd
  sat : Bool
  deriving DecidableEq, Repr

/-- A finite value itself, zero for a special one (R62: it contributes nothing to a cross pass). -/
def finOrZero : FVal → FVal
  | .fin n m e => .fin n m e
  | _ => .fin false 0 0

/-- R43, R61, R77: the factors of an activation element, one for each pass over it. -/
def actParts (f : Fmt) (code scale : Nat) : List FVal :=
  match f with
  | .fp32 => let (h, l) := splitFp32 code; [h, l, finOrZero h]
  | _ => [if fmtMx f then scaleElem (decodeElem f code) scale else decodeElem f code]

/-- R43, R61, R77: the factors of a stationary element, one for each pass over it. -/
def staParts (f : Fmt) (code scale : Nat) : List FVal :=
  match f with
  | .fp32 => let (h, l) := splitFp32 code; [h, finOrZero h, l]
  | _ => [if fmtMx f then scaleElem (decodeElem f code) scale else decodeElem f code]

/-- R48, R61: the products that two elements send to the accumulator. -/
def operandProducts (fa fw : Fmt) (ca cw xa xw : Nat) : List FVal :=
  List.zipWith mulVal (actParts fa ca xa) (staParts fw cw xw)

/-- R108: the modulus of the witness check. -/
def witM : Nat := 2 ^ 24 - 1

/-- R108: the residue of a non-negative m × 2^e. -/
def resMag (m : Nat) (e : Int) : Nat := (m % witM) * 2 ^ (e % 24).toNat % witM

/-- R108: the residue of a value, measured in grid units of exponent g; a special value counts zero (R109). -/
def resVal (g : Int) : FVal → Nat
  | .fin n m e => let r := resMag m (e - g); if n then (witM - r) % witM else r
  | _ => 0

/-- R108: the residue of an integer of grid units. -/
def resInt (x : Int) : Nat := (x % (witM : Int)).toNat

/-- R110: the loss of one finite product floored onto the grid: res(p/g − P). -/
def resLoss (anchor : Int) : FVal → Nat
  | .fin n m e =>
    let g := gridExp anchor
    (resVal g (.fin n m e) + (witM - resInt (floorShift n m (e - g)))) % witM
  | _ => 0

/-- R111: a difference read as a signed residue in −8,388,607 to 8,388,607. -/
def resSigned (d : Nat) : Int :=
  let d := d % witM
  if d ≤ 8388607 then (d : Int) else (d : Int) - (witM : Int)

/-- R111: whether one row's difference passes, given the tile's inexact flag. -/
def deltaPasses (inexact : Bool) (d : Nat) : Bool :=
  if inexact then decide (-256 ≤ resSigned d) && decide (resSigned d ≤ 256) else d % witM == 0

end Sys2Proof.Machine
end

