-- ==== Sys2Proof/Machine/StateCore.lean ====
section
/-!
DEFINITION. The state of one core in core mode (R124) and the messages of the mesh (R137 to R142).
-/
namespace Sys2Proof.Machine

/-- One level of a hardware loop (R149): first and last address of the body, iterations left. -/
structure LoopLvl where
  start : Nat
  stop : Nat
  left : Nat
  deriving DecidableEq, Repr

/-- R140: a receive-queue entry: 32-bit header, 16-byte data. -/
structure RxEntry where
  header : Word
  data : BitVec 128
  deriving DecidableEq, Repr

/-- R138: a send in the send buffer: target core, tag, data. waiting: it is in the mesh; otherwise refused and to be
sent again. -/
structure SendSlot where
  target : Nat
  tag : Nat
  data : BitVec 128
  waiting : Bool
  deriving DecidableEq, Repr

/-- What a core waits for. -/
inductive CoreBlock where
  | no
  | wait (k thr : Nat)
  | recv (vd ce : Nat)
  | recvT (tag vd ce : Nat)
  | fence
  deriving DecidableEq, Repr

/-- R139: what follows the last byte of a put or a get: nothing, a counter of the core named, or a notification. -/
inductive Completion where
  | none
  | counter (k : Nat)
  | notify (tag : Nat)
  deriving DecidableEq, Repr

/-- A slate fill or copy in progress at a core's shared port (R135). copySrc: none for a fill of the value. stored: the words of its range, by
number, that a store has written since it began. -/
structure SlateOp where
  dst : Nat
  len : Nat
  copySrc : Option Nat
  value : DWord
  signal : Option Nat
  stored : List Nat
  deriving DecidableEq, Repr

/-- R124: one core. status: 0 not started, 1 running, 2 halted, 3 stopped by a fault or core.stop, 4 frozen. late: another core's fault has
stopped it, and it may still issue the instruction of the cycle of that fault (R144). -/
structure CoreState where
  cregs : Tbl Word
  vregs : Tbl (BitVec 128)
  accs : Tbl (BitVec 512)
  pc : Nat
  loops : List LoopLvl
  counters : Tbl (BitVec 16)
  lastSrc : Tbl Word
  rx : List RxEntry
  heldNote : List (Nat × Nat)
  sends : List SendSlot
  prog : List Word
  armed : Bool
  status : Nat
  late : Bool
  block : CoreBlock
  fills : List SlateOp
  putsOut : Nat
  getsOut : Nat
  startTime : DWord
  timeHi : Word
  deriving DecidableEq, Repr

/-- A core after array reset. -/
def CoreState.reset : CoreState :=
  { cregs := [], vregs := [], accs := [], pc := 0, loops := [], counters := [], lastSrc := [], rx := [], heldNote := [], sends := [],
    prog := [], armed := false, status := 0, late := false, block := .no, fills := [], putsOut := 0, getsOut := 0, startTime := 0#64,
    timeHi := 0#32 }

/-- A message in the mesh, or between arrays on the trunk (R138, R139, R142). -/
inductive MeshMsg where
  | send (src dst tag : Nat) (data : BitVec 128)
  | put (src dst off : Nat) (data : BitVec 128) (last : Bool) (done : Completion)
  | getReq (src dst remote local_ len : Nat) (done : Completion)
  | getReply (src dst off : Nat) (data : BitVec 128) (bad : Bool) (last : Bool) (done : Completion)
  | sendAck (src dst tag : Nat) (data : BitVec 128)
  | refusal (src dst tag : Nat) (data : BitVec 128)
  deriving DecidableEq, Repr

end Sys2Proof.Machine
end

