-- ==== Sys2Proof/Machine/CoreOps.lean ====
section
/-!
DEFINITION. What the instructions of Gexa-C compute inside one core (04_core_mode R147 to R153): register access,
scalar and lane arithmetic, sorting, reductions, conversions, the program counter and hardware loops. Everything here
works on one core; memory, mesh and signals are in GexaC.
-/
namespace Sys2Proof.Machine

/-- What an instruction does inside a core: a next core, or a core fault with its cause (R146) and the address,
target word or trap code concerned. -/
inductive CoreOut where
  | ok (c : CoreState)
  | fault (cause addr : Nat)
  deriving DecidableEq, Repr

/-- R124: scalar register i; c0 reads 0. -/
def CoreState.cget (c : CoreState) (i : Nat) : Nat := if i = 0 then 0 else (tblGet 0#32 c.cregs i).toNat

/-- R124: write scalar register i; a write to c0 is discarded. -/
def CoreState.cset (c : CoreState) (i v : Nat) : CoreState :=
  if i = 0 then c else { c with cregs := tblPut c.cregs i (BitVec.ofNat 32 v) }

/-- Vector register i as a number. -/
def CoreState.vget (c : CoreState) (i : Nat) : Nat := (tblGet 0#128 c.vregs i).toNat

/-- Write vector register i. -/
def CoreState.vset (c : CoreState) (i v : Nat) : CoreState :=
  { c with vregs := tblPut c.vregs i (BitVec.ofNat 128 v) }

/-- Accumulator i as a number. -/
def CoreState.aget (c : CoreState) (i : Nat) : Nat := (tblGet 0#512 c.accs i).toNat

/-- Write accumulator i. -/
def CoreState.aset (c : CoreState) (i v : Nat) : CoreState :=
  { c with accs := tblPut c.accs i (BitVec.ofNat 512 v) }

/-- Sync counter k, in two's complement (R293 keeps it within range). -/
def CoreState.kget (c : CoreState) (k : Nat) : BitVec 16 := tblGet 0#16 c.counters k

/-- Write sync counter k. -/
def CoreState.kset (c : CoreState) (k : Nat) (v : BitVec 16) : CoreState :=
  { c with counters := tblPut c.counters k v }

/-- R145: a word of the saved-state layout of a core; none: the 24 bytes whose layout the spec does not give. -/
def CoreState.savedWord (c : CoreState) (i : Nat) : Option Nat :=
  if i < 15 then some (c.cget (i + 1))
  else if i < 47 then some (bitsOf (tblGet 0#128 c.vregs ((i - 15) / 4)).toNat (32 * ((i - 15) % 4) + 31) (32 * ((i - 15) % 4)))
  else if i < 111 then some (bitsOf (tblGet 0#512 c.accs ((i - 47) / 16)).toNat (32 * ((i - 47) % 16) + 31) (32 * ((i - 47) % 16)))
  else if i < 117 then none
  else if i < 119 then some ((tblGet 0#16 c.counters (2 * (i - 117))).toNat + 65536 * (tblGet 0#16 c.counters (2 * (i - 117) + 1)).toNat)
  else if i < 199 then
    match c.rx[(i - 119) / 5]? with
    | some e => some (if (i - 119) % 5 = 0 then e.header.toNat else bitsOf e.data.toNat (32 * ((i - 119) % 5 - 1) + 31) (32 * ((i - 119) % 5 - 1)))
    | none => some 0
  else if i < 223 then
    match c.sends[(i - 199) / 6]? with
    | some e => some (match (i - 199) % 6 with | 4 => e.target | 5 => e.tag | k => bitsOf e.data.toNat (32 * k + 31) (32 * k))
    | none => some 0
  else some 0

/-- R145: the 1,024-byte image of a frozen core; fr gives the words whose layout the spec does not give. -/
def CoreState.image (c : CoreState) (fr : Nat) : List Byte :=
  (List.range 256).flatMap (fun i => bytesOf 4 ((c.savedWord i).getD (fr / 2 ^ (32 * (i - 111)))))

/-- Fields of format R (04_core_mode, Instruction formats). -/
def fD (w : Word) : Nat := bitsOf w.toNat 26 23
/-- Field a, [22:19]. -/
def fA (w : Word) : Nat := bitsOf w.toNat 22 19
/-- Field b, [18:15]. -/
def fB (w : Word) : Nat := bitsOf w.toNat 18 15
/-- Field e, [14:11]. -/
def fE (w : Word) : Nat := bitsOf w.toNat 14 11
/-- Field sz, [10:8]. -/
def fSz (w : Word) : Nat := bitsOf w.toNat 10 8
/-- Field fn, [7:0]. -/
def fFn (w : Word) : Nat := bitsOf w.toNat 7 0
/-- Format I immediate, sign-extended to 32 bits. -/
def fImm15 (w : Word) : Nat := signExt 15 32 (bitsOf w.toNat 14 0)
/-- Format L immediate, [22:0]. -/
def fImm23 (w : Word) : Nat := bitsOf w.toNat 22 0

/-- Lane i of width lw of a register value. -/
def laneOf (lw v i : Nat) : Nat := bitsOf v (lw * i + lw - 1) (lw * i)

/-- The lanes of a register value, n of width lw, lane 0 first. -/
def lanesOf (lw n v : Nat) : List Nat := (List.range n).map (laneOf lw v)

/-- A register value from its lanes, lane 0 lowest. -/
def ofLanes (lw : Nat) : List Nat → Nat
  | [] => 0
  | x :: xs => x % 2 ^ lw + 2 ^ lw * ofLanes lw xs

/-- Lanes i and above of a replaced by those of a list. -/
def putLanes (lw n v at_ : Nat) (xs : List Nat) : Nat :=
  ofLanes lw ((List.range n).map (fun i => if at_ ≤ i ∧ i < at_ + xs.length then nth 0 xs (i - at_) else laneOf lw v i))

/-- The lane width of sz 0 (.b) and 1 (.h); none for another sz. -/
def laneWidth : Nat → Option Nat
  | 0 => some 8
  | 1 => some 16
  | _ => none

/-- Lanes of width lw in a vector register. -/
def laneCount (lw : Nat) : Nat := 128 / lw

/-- A lane condition as a mask of lw ones or zeros. -/
def maskLane (lw : Nat) (b : Bool) : Nat := if b then 2 ^ lw - 1 else 0

/-- Signed extremes, on w-bit patterns. -/
def sMin (w a b : Nat) : Nat := if toSigned w a ≤ toSigned w b then a else b
/-- Signed maximum. -/
def sMax (w a b : Nat) : Nat := if toSigned w a ≤ toSigned w b then b else a

/-- Bitwise complement of w bits. -/
def notW (w a : Nat) : Nat := 2 ^ w - 1 - a % 2 ^ w

/-- Arithmetic shift right of a w-bit pattern. -/
def sraW (w a n : Nat) : Nat := wrapInt w (toSigned w a / (2 : Int) ^ n)

/-- R149: the lane operations of vop and vops, by fn 0x0 to 0xF, on lanes of width lw. adds and subs saturate to the
signed range of the lane (notes/assumptions/30). -/
def vopLane (fn lw a b : Nat) : Nat :=
  let smin : Int := -(2 : Int) ^ (lw - 1)
  let smax : Int := (2 : Int) ^ (lw - 1) - 1
  let sh := b % lw
  match fn with
  | 0x0 => (a + b) % 2 ^ lw
  | 0x1 => (a + (2 ^ lw - b)) % 2 ^ lw
  | 0x2 => wrapInt lw (clampInt smin smax (toSigned lw a + toSigned lw b))
  | 0x3 => wrapInt lw (clampInt smin smax (toSigned lw a - toSigned lw b))
  | 0x4 => sMin lw a b
  | 0x5 => sMax lw a b
  | 0x6 => Nat.min a b
  | 0x7 => Nat.max a b
  | 0x8 => a &&& b
  | 0x9 => a ||| b
  | 0xA => a ^^^ b
  | 0xB => (a <<< sh) % 2 ^ lw
  | 0xC => a >>> sh
  | 0xD => sraW lw a sh
  | 0xE => (toSigned lw a).natAbs % 2 ^ lw
  | _ => (a * b) % 2 ^ lw

/-- R149: the relations of vcmp, by fn 0x0 to 0x9. -/
def vcmpLane (fn lw a b : Nat) : Bool :=
  match fn with
  | 0x0 => a == b
  | 0x1 => a != b
  | 0x2 => decide (toSigned lw a < toSigned lw b)
  | 0x3 => decide (toSigned lw a ≤ toSigned lw b)
  | 0x4 => decide (toSigned lw b < toSigned lw a)
  | 0x5 => decide (toSigned lw b ≤ toSigned lw a)
  | 0x6 => decide (a < b)
  | 0x7 => decide (a ≤ b)
  | 0x8 => decide (b < a)
  | _ => decide (b ≤ a)

/-- The exact sum of two values, zero signs by IEEE 754 under round to nearest: opposite zeros give +0. -/
def addVal : FVal → FVal → FVal
  | .nan, _ => .nan
  | _, .nan => .nan
  | .inf a, .inf b => if a = b then .inf a else .nan
  | .inf a, _ => .inf a
  | _, .inf b => .inf b
  | .fin a m e, .fin b n f =>
    let k := if e < f then e else f
    let x : Int := ((m * 2 ^ (e - k).toNat : Nat) : Int)
    let y : Int := ((n * 2 ^ (f - k).toNat : Nat) : Int)
    let t := (if a then -x else x) + (if b then -y else y)
    if t = 0 then .fin (a && b && m == 0 && n == 0) 0 k else .fin (decide (t < 0)) t.natAbs k

/-- A value rounded to a float layout with IEEE signs: a zero keeps its sign. -/
def encodeSigned (l : FloatLay) (rnd : Rnd) (sat : Bool) (r : Nat) (v : FVal) : Nat :=
  match v with
  | .fin n 0 _ => if n then 2 ^ (l.ebits + l.mbits) else 0
  | v => encodeVal l rnd sat r v

/-- The layout of FP32. -/
def layFp32 : FloatLay := ⟨8, 23, 127, true, false⟩
/-- The layout of BF16. -/
def layBf16 : FloatLay := ⟨8, 7, 127, true, false⟩
/-- The layout of FP8 E4M3. -/
def layE4 : FloatLay := ⟨4, 3, 7, false, true⟩
/-- The layout of FP8 E5M2. -/
def layE5 : FloatLay := ⟨5, 2, 15, true, false⟩

/-- R149: one FP32 lane: one round-to-nearest-even of product plus lane, subnormals kept. -/
def fmaLane (l : FloatLay) (a b acc : Nat) : Nat :=
  encodeSigned layFp32 .rne false 0
    (addVal (mulVal (decodeFloat l a) (decodeFloat l b)) (decodeFloat layFp32 acc))

/-- R149: vmac and vmul: the accumulator after multiplying va by vb under sz; keep = false is vmul, whose floating product is joined with
-0, which keeps its sign (R46). none for a reserved sz. -/
def vmacAcc (sz : Nat) (keep : Bool) (acc va vb : Nat) : Option Nat :=
  let old (i : Nat) := if keep then laneOf 32 acc i else 0
  let oldF (i : Nat) := if keep then laneOf 32 acc i else 0x80000000
  match sz with
  | 0 => some (ofLanes 32 ((List.range 16).map (fun i =>
      wrapInt 32 (toSigned 8 (laneOf 8 va i) * toSigned 8 (laneOf 8 vb i) + (old i : Int)))))
  | 1 => some (putLanes 32 16 acc 0 ((List.range 8).map (fun i =>
      wrapInt 32 (toSigned 16 (laneOf 16 va i) * toSigned 16 (laneOf 16 vb i) + (old i : Int)))))
  | 2 => some (putLanes 32 16 acc 0 ((List.range 8).map (fun i => fmaLane layBf16 (laneOf 16 va i) (laneOf 16 vb i) (oldF i))))
  | 3 => some (ofLanes 32 ((List.range 16).map (fun i => fmaLane layE4 (laneOf 8 va i) (laneOf 8 vb i) (oldF i))))
  | 4 => some (ofLanes 32 ((List.range 16).map (fun i => fmaLane layE5 (laneOf 8 va i) (laneOf 8 vb i) (oldF i))))
  | _ => none

/-- R150: whether (key x, payload p) ranks before (key y, payload q) under the sort flags. -/
def ranksBefore (flags lw : Nat) (x y : Nat × Nat) : Bool :=
  let sgn := flags.testBit 0
  let kv := flags.testBit 1
  let desc := flags.testBit 2
  let lt (a b : Nat) : Bool := if sgn then decide (toSigned lw a < toSigned lw b) else decide (a < b)
  if desc then lt y.1 x.1 || (kv && x.1 == y.1 && decide (x.2 < y.2))
  else lt x.1 y.1 || (kv && x.1 == y.1 && decide (y.2 < x.2))

/-- Insertion of one keyed lane into a ranked list, after its equals. -/
def rankInsert (flags lw : Nat) (x : Nat × Nat) : List (Nat × Nat) → List (Nat × Nat)
  | [] => [x]
  | y :: ys => if ranksBefore flags lw x y then x :: y :: ys else y :: rankInsert flags lw x ys

/-- The lanes in rank order. -/
def rankSort (flags lw : Nat) (l : List (Nat × Nat)) : List (Nat × Nat) :=
  l.foldl (fun acc x => rankInsert flags lw x acc) []

/-- R125: the payload lanes of vector register v: lanes 0–7 or 8–15 of its accumulator. -/
def payloadLanes (c : CoreState) (v : Nat) : List Nat :=
  (List.range 8).map (fun i => laneOf 32 (c.aget (v / 2)) (i + 8 * (v % 2)))

/-- R125: write the payload lanes of vector register v. -/
def setPayload (c : CoreState) (v : Nat) (ps : List Nat) : CoreState :=
  c.aset (v / 2) (putLanes 32 16 (c.aget (v / 2)) (8 * (v % 2)) ps)

/-- The keyed lanes of vector register v: payloads zero without kv. -/
def keyedLanes (c : CoreState) (kv : Bool) (lw v : Nat) : List (Nat × Nat) :=
  let ks := lanesOf lw (laneCount lw) (c.vget v)
  if kv then ks.zip (payloadLanes c v) else ks.map (fun k => (k, 0))

/-- Write keyed lanes into vector register v, and its payloads with kv. -/
def setKeyed (c : CoreState) (kv : Bool) (lw v : Nat) (l : List (Nat × Nat)) : CoreState :=
  let c := c.vset v (ofLanes lw (l.map Prod.fst))
  if kv then setPayload c v (l.map Prod.snd) else c

/-- R150: the lane width of a sort instruction: kv works on .h only; none is an illegal instruction. -/
def sortWidth (w : Word) : Option Nat :=
  match laneWidth (fSz w) with
  | some 8 => if (fFn w).testBit 1 then none else some 8
  | x => x

/-- R150: one half-cleaner step over lanes i and i + 2^e. -/
def halfClean (flags lw e : Nat) (l : List (Nat × Nat)) : List (Nat × Nat) :=
  (List.range l.length).map (fun i =>
    let j := if i.testBit e then i - 2 ^ e else i + 2 ^ e
    let x := nth (0, 0) l i
    let y := nth (0, 0) l j
    if i.testBit e then (if ranksBefore flags lw x y then y else x)
    else (if ranksBefore flags lw y x then y else x))

/-- R151: the order-preserving key of a BF16 lane. -/
def bfKey (x : Nat) : Nat :=
  let x := if x = 0x8000 then 0 else x
  match decodeFloat layBf16 x with
  | .nan => 0
  | _ => if x.testBit 15 then notW 16 x else x ^^^ 0x8000

/-- R151: the BF16 lane of a key. -/
def bfUnkey (k : Nat) : Nat :=
  if k = 0 then 0x7FC0 else if k.testBit 15 then k ^^^ 0x8000 else notW 16 k

/-- R149: the reductions of vred by fn 0x0 to 0x7, as 32-bit results. Extremes and sums are extended to 32 bits by
their signedness (notes/assumptions/31). -/
def vredVal (fn lw : Nat) (ls : List Nat) : Nat :=
  let n := ls.length
  let h := nth 0 ls 0
  match fn with
  | 0 => signExt lw 32 (ls.foldl (sMax lw) h)
  | 1 => signExt lw 32 (ls.foldl (sMin lw) h)
  | 2 => ls.foldl Nat.max 0
  | 3 => ls.foldl Nat.min h
  | 4 => wrapInt 32 (ls.foldl (fun a x => a + toSigned lw x) 0)
  | 5 => let m := ls.foldl Nat.max 0; (ls.findIdx? (fun x => x == m)).getD n
  | 6 => ls.foldl (fun a x => if x = 0 then a else a + 1) 0
  | _ => (ls.findIdx? (fun x => x != 0)).getD n

/-- R149: leave every innermost loop level whose body does not hold an address. -/
def dropLoops (t : Nat) : List LoopLvl → List LoopLvl
  | [] => []
  | l :: ls => if l.start ≤ t ∧ t ≤ l.stop then l :: ls else dropLoops t ls

/-- R149: the program counter and loop levels after the instruction at pc falls through: the loop-end branch. The
innermost level is the head of the list. -/
def fallThrough (pc : Nat) : List LoopLvl → Nat × List LoopLvl
  | [] => (pc + 1, [])
  | l :: ls =>
    if pc = l.stop then
      if 1 < l.left then (l.start, { l with left := l.left - 1 } :: ls) else fallThrough pc ls
    else (pc + 1, l :: ls)

/-- The core after an instruction that falls through. -/
def coreNext (c : CoreState) : CoreState :=
  let r := fallThrough c.pc c.loops
  { c with pc := r.1, loops := r.2 }

/-- The core after a taken branch (R149). -/
def coreJump (c : CoreState) (t : Nat) : CoreState := { c with pc := t, loops := dropLoops t c.loops }

/-- A scalar result into cd. -/
def setC (w : Word) (c : CoreState) (v : Nat) : CoreOut := .ok (coreNext (c.cset (fD w) v))

/-- A vector result into vd. -/
def setV (w : Word) (c : CoreState) (v : Nat) : CoreOut := .ok (coreNext (c.vset (fD w) v))

/-- A scalar instruction of format R on two registers. -/
def cBin (f : Nat → Nat → Nat) (w : Word) (c : CoreState) : CoreOut := setC w c (f (c.cget (fA w)) (c.cget (fB w)))

/-- A scalar instruction of format I. -/
def cImm (f : Nat → Nat → Nat) (w : Word) (c : CoreState) : CoreOut := setC w c (f (c.cget (fA w)) (fImm15 w))

/-- R148: a branch of format B: a in [26:23], b in [22:19], target in [5:0]. A target at or beyond the program length
is cause 0x04. -/
def cBranch (p : Nat → Nat → Bool) (w : Word) (c : CoreState) : CoreOut :=
  let t := bitsOf w.toNat 5 0
  if p (c.cget (fD w)) (c.cget (fA w)) then
    (if t < c.prog.length then .ok (coreJump c t) else .fault 0x04 0)
  else .ok (coreNext c)

/-- R149, R146: loop: runs pc + 1 to target ca times; ca in [26:23]. -/
def cLoop (w : Word) (c : CoreState) : CoreOut :=
  let t := bitsOf w.toNat 5 0
  let n := c.cget (fD w)
  if c.prog.length ≤ t then .fault 0x04 0
  else if t ≤ c.pc then .fault 0x05 0
  else if 2 ≤ c.loops.length then .fault 0x05 0
  else if c.loops.any (fun l => decide (l.stop < t)) then .fault 0x05 0
  else if n = 0 then .ok (let r := fallThrough t c.loops; { c with pc := r.1, loops := r.2 })
  else .ok { c with pc := c.pc + 1, loops := ⟨c.pc + 1, t, n⟩ :: c.loops }

/-- R149: vop: vd := va op vb per lane; another sz is an illegal instruction. -/
def cVop (fn : Nat) (w : Word) (c : CoreState) : CoreOut :=
  match laneWidth (fSz w) with
  | none => .fault 0x01 0
  | some lw => setV w c (ofLanes lw ((List.range (laneCount lw)).map (fun i =>
      vopLane fn lw (laneOf lw (c.vget (fA w)) i) (laneOf lw (c.vget (fB w)) i))))

/-- R149: vops: as vop with the low lane bits of cb in every lane. -/
def cVops (fn : Nat) (w : Word) (c : CoreState) : CoreOut :=
  match laneWidth (fSz w) with
  | none => .fault 0x01 0
  | some lw => setV w c (ofLanes lw ((List.range (laneCount lw)).map (fun i =>
      vopLane fn lw (laneOf lw (c.vget (fA w)) i) (c.cget (fB w) % 2 ^ lw))))

/-- R149: vcmp; fn[7] takes cb broadcast, and then b names a scalar register; without it b must name v0 to v7. -/
def cVcmp (fn : Nat) (w : Word) (c : CoreState) : CoreOut :=
  match laneWidth (fSz w) with
  | none => .fault 0x01 0
  | some lw =>
    let sc := (fFn w).testBit 7
    if !sc && decide (7 < fB w) then .fault 0x01 0
    else setV w c (ofLanes lw ((List.range (laneCount lw)).map (fun i =>
      let b := if sc then c.cget (fB w) % 2 ^ lw else laneOf lw (c.vget (fB w)) i
      maskLane lw (vcmpLane fn lw (laneOf lw (c.vget (fA w)) i) b))))

/-- R149: vsel: vd := ve lane ≠ 0 ? va : vb. -/
def cVsel (w : Word) (c : CoreState) : CoreOut :=
  match laneWidth (fSz w) with
  | none => .fault 0x01 0
  | some lw => setV w c (ofLanes lw ((List.range (laneCount lw)).map (fun i =>
      if laneOf lw (c.vget (fE w)) i ≠ 0 then laneOf lw (c.vget (fA w)) i else laneOf lw (c.vget (fB w)) i)))

/-- R149: vmac (keep) and vmul. -/
def cVmac (keep : Bool) (w : Word) (c : CoreState) : CoreOut :=
  match vmacAcc (fSz w) keep (c.aget (fD w)) (c.vget (fA w)) (c.vget (fB w)) with
  | none => .fault 0x01 0
  | some v => .ok (coreNext (c.aset (fD w) v))

/-- R149: aadd and asub: ad := aa ± ab per 32-bit lane. -/
def cAccBin (sub : Bool) (w : Word) (c : CoreState) : CoreOut :=
  .ok (coreNext (c.aset (fD w) (ofLanes 32 ((List.range 16).map (fun i =>
    vopLane (if sub then 1 else 0) 32 (laneOf 32 (c.aget (fA w)) i) (laneOf 32 (c.aget (fB w)) i))))))

/-- R149: anarrow: eight lanes of aa from lane o, saturated to signed 16 bits. -/
def cNarrow (o : Nat) (w : Word) (c : CoreState) : CoreOut :=
  setV w c (ofLanes 16 ((List.range 8).map (fun i =>
    wrapInt 16 (clampInt (-32768) 32767 (toSigned 32 (laneOf 32 (c.aget (fA w)) (i + o)))))))

/-- R150: vcx: the lane that ranks first stays in vd, the other in va. Without kv equal keys stay. -/
def cVcx (w : Word) (c : CoreState) : CoreOut :=
  match sortWidth w with
  | none => .fault 0x01 0
  | some lw =>
    let fl := fFn w
    let kv := fl.testBit 1
    let ps := (keyedLanes c kv lw (fD w)).zip (keyedLanes c kv lw (fA w))
    let rs := ps.map (fun p => if ranksBefore fl lw p.2 p.1 then (p.2, p.1) else p)
    .ok (coreNext (setKeyed (setKeyed c kv lw (fD w) (rs.map Prod.fst)) kv lw (fA w) (rs.map Prod.snd)))

/-- R149, R150: vsrt: va's lanes through f into vd. -/
def cVsrt (f : Nat → List (Nat × Nat) → List (Nat × Nat)) (w : Word) (c : CoreState) : CoreOut :=
  match sortWidth w with
  | none => .fault 0x01 0
  | some lw =>
    let kv := (fFn w).testBit 1
    .ok (coreNext (setKeyed c kv lw (fD w) (f lw (keyedLanes c kv lw (fA w)))))

/-- R149: vsrt.step: e at most 2 for .h and 3 for .b; a larger e is an illegal instruction. -/
def cVsrtStep (w : Word) (c : CoreState) : CoreOut :=
  let e := fE w
  if (fSz w = 1 ∧ 2 < e) ∨ 3 < e then .fault 0x01 0
  else cVsrt (fun lw l => halfClean (fFn w) lw e l) w c

/-- R149: vperm forms: lane i of the result from the lanes of va. -/
def cVperm (f : Nat → Nat → Nat → Nat) (w : Word) (c : CoreState) : CoreOut :=
  match laneWidth (fSz w) with
  | none => .fault 0x01 0
  | some lw => setV w c (ofLanes lw ((List.range (laneCount lw)).map (fun i => f lw (laneCount lw) i)))

/-- R149: vred forms. -/
def cVred (fn : Nat) (w : Word) (c : CoreState) : CoreOut :=
  match laneWidth (fSz w) with
  | none => .fault 0x01 0
  | some lw => setC w c (vredVal fn lw (lanesOf lw (laneCount lw) (c.vget (fA w))))

/-- R149, R151: vcvt forms from .h lanes to .h lanes. -/
def cCvtH (f : Nat → Nat) (w : Word) (c : CoreState) : CoreOut :=
  setV w c (ofLanes 16 ((lanesOf 16 8 (c.vget (fA w))).map f))

/-- R149: vcvt forms that widen .b lanes o to o + 7 into .h lanes. -/
def cCvtWiden (o : Nat) (f : Nat → Nat) (w : Word) (c : CoreState) : CoreOut :=
  setV w c (ofLanes 16 ((List.range 8).map (fun i => f (laneOf 8 (c.vget (fA w)) (i + o)))))

/-- R149: an FP8 lane as BF16, exact. -/
def fp8ToBf (l : FloatLay) (x : Nat) : Nat := encodeSigned layBf16 .rne false 0 (decodeFloat l x)

/-- R149: a BF16 lane as FP8 E4M3, round to nearest even, saturating, NaN to 0x7F. -/
def bfToE4 (x : Nat) : Nat :=
  match decodeFloat layBf16 x with
  | .nan => 0x7F
  | v => encodeSigned layE4 .rne true 0 v

end Sys2Proof.Machine
end

