-- ==== Sys2Proof/Config.lean ====
section
/-!
DEFINITION. The free values: what the spec leaves open. Each is a constant without a body, so no proof can use its value.
-/
namespace Sys2Proof.Config

/-- The open values of the device, one for each number drawn (notes/assumptions/6). -/
opaque freeValue : Nat → BitVec 512

/-- The open choices of one draw, by place: which of two values a location holds where the spec says either (R135, R182, R201), and what it
holds where the spec says undefined (R184) (notes/assumptions/6). -/
opaque freeAt : Nat → Nat → BitVec 512

/-- R171: where, inside the bounds the spec gives, a special function of the vector engine lands, by function code and
operand (notes/assumptions/7). -/
opaque sfu : Nat → Nat → BitVec 256

/-- R172: whether the rnd stage saturates, which the spec does not say (notes/assumptions/7). -/
opaque rndSat : Bool

/-- Cryptographic results the spec names by algorithm: digest, signature check and random bytes, by purpose and input
(notes/assumptions/8). -/
opaque crypto : Nat → List Nat → BitVec 512

/-- R452: the voltage code V_tt that test measured for a domain at a table point (notes/assumptions/9). -/
opaque vtt : Nat → Nat → BitVec 8

/-- R468: the test-time phase table: power in W of an array at a table point, by row (0 4-bit, 1 8-bit, 2 16-bit, 3 FP32, 4 core or
vector) (notes/assumptions/9). -/
opaque phasePower : Nat → Nat → BitVec 16

/-- R468: the test-time phase table: current step in A, by row and table point (notes/assumptions/9). -/
opaque phaseStep : Nat → Nat → BitVec 16

/-- R232: which odd-weight syndromes are columns of the code's data bits; the check bits' columns are the single bits
(notes/assumptions/114). -/
opaque dataColumn : Nat → Bool

/-- R250: the 32-byte header of a trunk packet, whose layout the spec does not give, from its source, destination, channel, context,
generation, sequence number and poison mask (notes/assumptions/115). -/
opaque trunkHeader : List Nat → BitVec 256

/-- R252: the link of a pair that the hash of source, destination and virtual channel selects (notes/assumptions/115). -/
opaque trunkHash : Nat → Nat → Bool → Bool

/-- R285, R103: where the drain of attn's transposed groups writes the scores, a region that the spec does not place, by work region and tile
parity (notes/assumptions/128). -/
opaque attnScores : Nat → Nat → BitVec 48

/-- R281: the words of the routine's instructions, by what they issue; the library's code is not in the spec (notes/assumptions/127). -/
opaque attnWord : Nat → Nat → BitVec 32

/-- R281: the addresses of the routine's instructions, by what they issue (notes/assumptions/127). -/
opaque attnPc : Nat → BitVec 48

end Sys2Proof.Config
end

