-- ==== Sys2Proof/Machine/Regs.lean ====
section
/-!
DEFINITION. The register map: one row per register line of the spec (00_scope R4, R123, R155, R188, R231, R276, R277,
R340, R341, R372 to R374, R403 to R405, R444, R445, R483, R514, R547), with its offset, its repeats, its fields, their
access types and reset values. Offsets are absolute in BAR0; the context page of context c (R405) stands at
0x0400_0000 + 0x1_0000 c, beyond BAR0, which is this model's own numbering (notes/assumptions/4).
-/
namespace Sys2Proof.Machine

/-- R8: access types. -/
inductive Access where
  | ro | rw | rwl | w1c | w1s | wo | rc
  deriving DecidableEq, Repr

/-- The reset domain of a register line; flash: held in flash through every reset. -/
inductive RegDom where
  | cold | device | context | array | flash
  deriving DecidableEq, Repr

/-- One field: its bits, its access type, its reset value, and whether it is a platform control (R529). -/
structure FieldSpec where
  hi : Nat
  lo : Nat
  ty : Access
  reset : Nat
  plat : Bool
  deriving DecidableEq, Repr

/-- Which half of a 64-bit pair a register is (R13). -/
inductive Half where
  | single | low | high
  deriving DecidableEq, Repr

/-- One register line: name, first offset, repeats (count, stride), half of a pair, reset domain, fields. -/
structure RegSpec where
  name : String
  base : Nat
  dims : List (Nat × Nat)
  half : Half
  dom : RegDom
  fields : List FieldSpec
  deriving DecidableEq, Repr

/-- Rows 0 to 39 of the register map. -/
def regRows0 : List RegSpec := [
  ⟨"GLB_IDENT", 0x0, [], .single, .cold, [⟨31, 16, .ro, 0, true⟩, ⟨15, 15, .ro, 0, true⟩, ⟨14, 8, .ro, 0, true⟩, ⟨7, 0, .ro, 0, true⟩]⟩,
  ⟨"GLB_ARRAYS", 0x4, [], .single, .cold, [⟨28, 24, .ro, 0, true⟩, ⟨17, 0, .ro, 0, true⟩]⟩,
  ⟨"GLB_SITE_A", 0x8, [], .single, .cold, [⟨31, 0, .ro, 0, true⟩]⟩,
  ⟨"GLB_SITE_B", 0xC, [], .single, .cold, [⟨31, 0, .ro, 0, true⟩]⟩,
  ⟨"GLB_SITE_C", 0x10, [], .single, .cold, [⟨7, 0, .ro, 0, true⟩]⟩,
  ⟨"GLB_HOST_EN", 0x14, [], .single, .cold, [⟨7, 0, .ro, 0, true⟩]⟩,
  ⟨"GLB_FABRIC_EN", 0x18, [], .single, .cold, [⟨31, 0, .ro, 0, true⟩]⟩,
  ⟨"GLB_MEM", 0x1C, [], .single, .cold, [⟨23, 16, .ro, 0, true⟩, ⟨15, 0, .ro, 0, true⟩]⟩,
  ⟨"QTZ_NOW_LO", 0x10000, [], .low, .cold, [⟨31, 0, .ro, 0, true⟩]⟩,
  ⟨"QTZ_NOW_HI", 0x10004, [], .high, .cold, [⟨31, 0, .ro, 0, true⟩]⟩,
  ⟨"QTZ_STATUS", 0x10008, [], .single, .cold, [⟨31, 30, .ro, 0, true⟩, ⟨29, 28, .ro, 0, true⟩, ⟨27, 26, .ro, 0, true⟩, ⟨25, 25, .ro, 0, true⟩, ⟨24, 24, .ro, 0, true⟩, ⟨23, 23, .ro, 0, true⟩, ⟨22, 22, .ro, 0, true⟩, ⟨13, 8, .ro, 0, true⟩]⟩,
  ⟨"QTZ_CTL", 0x1000C, [], .single, .cold, [⟨31, 31, .w1s, 0, true⟩, ⟨7, 7, .wo, 0, true⟩, ⟨6, 6, .rwl, 1, true⟩, ⟨5, 4, .wo, 0, true⟩]⟩,
  ⟨"QTZ_SET_LO", 0x10010, [], .low, .cold, [⟨31, 0, .rw, 0, true⟩]⟩,
  ⟨"QTZ_SET_HI", 0x10014, [], .high, .cold, [⟨31, 0, .rw, 0, true⟩]⟩,
  ⟨"QTZ_REF_A_PPM", 0x10018, [], .single, .cold, [⟨31, 0, .ro, 0, true⟩]⟩,
  ⟨"QTZ_REF_B_PPM", 0x1001C, [], .single, .cold, [⟨31, 0, .ro, 0, true⟩]⟩,
  ⟨"QTZ_REF_FLAGS", 0x10020, [], .single, .cold, [⟨5, 5, .w1c, 0, true⟩, ⟨4, 4, .w1c, 0, true⟩, ⟨3, 3, .w1c, 0, true⟩, ⟨2, 2, .w1c, 0, true⟩, ⟨1, 1, .w1c, 0, true⟩, ⟨0, 0, .w1c, 0, true⟩]⟩,
  ⟨"QTZ_REF_PEAK", 0x10024, [], .single, .cold, [⟨31, 16, .rc, 0, true⟩, ⟨15, 0, .rc, 0, true⟩]⟩,
  ⟨"QTZ_REF_CROSS", 0x10028, [], .single, .cold, [⟨31, 16, .rw, 0, true⟩, ⟨15, 0, .rw, 0, true⟩]⟩,
  ⟨"QTZ_SWITCHES", 0x1002C, [], .single, .cold, [⟨31, 0, .rw, 0, true⟩]⟩,
  ⟨"QTZ_HOLDOVER_US_LO", 0x10030, [], .low, .cold, [⟨31, 0, .ro, 0, true⟩]⟩,
  ⟨"QTZ_HOLDOVER_US_HI", 0x10034, [], .high, .cold, [⟨31, 0, .ro, 0, true⟩]⟩,
  ⟨"QTZ_ISL_LOCK_LO", 0x10038, [], .low, .cold, [⟨31, 0, .ro, 0, true⟩]⟩,
  ⟨"QTZ_ISL_LOCK_HI", 0x1003C, [], .high, .cold, [⟨31, 0, .ro, 0, true⟩]⟩,
  ⟨"QTZ_FAB_CTL", 0x10040, [], .single, .device, [⟨31, 31, .w1s, 0, true⟩, ⟨17, 16, .rwl, 0, true⟩, ⟨15, 0, .rwl, 0, true⟩]⟩,
  ⟨"QTZ_FAB_STATUS", 0x10044, [], .single, .device, [⟨31, 24, .ro, 0, true⟩, ⟨23, 19, .ro, 0, true⟩, ⟨18, 18, .ro, 0, true⟩, ⟨15, 0, .ro, 0, true⟩]⟩,
  ⟨"QTZ_FAB_OFS", 0x10048, [], .single, .device, [⟨31, 0, .ro, 0, true⟩]⟩,
  ⟨"QTZ_FLINT_STATUS", 0x10050, [], .single, .device, [⟨31, 28, .ro, 0, true⟩, ⟨17, 0, .ro, 0, true⟩]⟩,
  ⟨"QTZ_FLINT_TIME_LO", 0x10054, [], .low, .device, [⟨31, 0, .ro, 0, true⟩]⟩,
  ⟨"QTZ_FLINT_TIME_HI", 0x10058, [], .high, .device, [⟨31, 0, .ro, 0, true⟩]⟩,
  ⟨"QTZ_FLINT_CNT", 0x1005C, [], .single, .cold, [⟨31, 0, .rw, 0, true⟩]⟩,
  ⟨"QTZ_FLINT_INJECT", 0x10060, [], .single, .device, [⟨31, 31, .w1s, 0, true⟩, ⟨30, 30, .wo, 0, true⟩, ⟨17, 0, .rwl, 0, true⟩]⟩,
  ⟨"QTZ_SIG_FAULT_CNT", 0x10064, [], .single, .cold, [⟨31, 0, .rw, 0, true⟩]⟩,
  ⟨"QTZ_ISL_OFS", 0x10100, [(47, 0x4)], .single, .cold, [⟨31, 16, .rc, 0, true⟩, ⟨15, 0, .ro, 0, true⟩]⟩,
  ⟨"PWR_STATUS", 0x20000, [], .single, .cold, [⟨29, 24, .ro, 0, true⟩, ⟨23, 23, .ro, 0, true⟩, ⟨22, 22, .ro, 0, true⟩, ⟨21, 21, .ro, 0, true⟩, ⟨20, 20, .ro, 0, true⟩, ⟨19, 15, .ro, 0, true⟩]⟩,
  ⟨"PWR_CTL", 0x20004, [], .single, .cold, [⟨31, 31, .w1s, 0, true⟩, ⟨2, 2, .rwl, 1, true⟩, ⟨1, 1, .rwl, 1, true⟩, ⟨0, 0, .rwl, 1, true⟩]⟩,
  ⟨"PWR_TDP", 0x20008, [], .single, .cold, [⟨15, 0, .ro, 0, true⟩]⟩,
  ⟨"PWR_CAP_GRANT", 0x2000C, [], .single, .cold, [⟨15, 0, .rw, 0, true⟩]⟩,
  ⟨"PWR_CAP_EFF", 0x20010, [], .single, .cold, [⟨15, 0, .ro, 0, true⟩]⟩,
  ⟨"PWR_IN_V", 0x20014, [], .single, .cold, [⟨15, 0, .ro, 0, true⟩]⟩]

/-- Rows 40 to 79 of the register map. -/
def regRows1 : List RegSpec := [
  ⟨"PWR_IN_I", 0x20018, [], .single, .cold, [⟨15, 0, .ro, 0, true⟩]⟩,
  ⟨"PWR_IN_P", 0x2001C, [], .single, .cold, [⟨15, 0, .ro, 0, true⟩]⟩,
  ⟨"PWR_RACK", 0x20020, [], .single, .cold, [⟨31, 31, .w1s, 0, true⟩, ⟨30, 30, .rw, 0, true⟩, ⟨15, 0, .rwl, 3000, true⟩]⟩,
  ⟨"PWR_AGE", 0x20024, [], .single, .cold, [⟨31, 31, .w1s, 0, true⟩, ⟨15, 8, .rwl, 20, true⟩]⟩,
  ⟨"PWR_MOD", 0x20028, [], .single, .cold, [⟨23, 0, .ro, 0, true⟩]⟩,
  ⟨"PWR_SCALE", 0x2002C, [], .single, .cold, [⟨31, 0, .ro, 0x10000, true⟩]⟩,
  ⟨"PWR_ENERGY_IN_LO", 0x20030, [], .low, .cold, [⟨31, 0, .ro, 0, true⟩]⟩,
  ⟨"PWR_ENERGY_IN_HI", 0x20034, [], .high, .cold, [⟨31, 0, .ro, 0, true⟩]⟩,
  ⟨"PWR_ENERGY_DEV_LO", 0x20038, [], .low, .cold, [⟨31, 0, .ro, 0, true⟩]⟩,
  ⟨"PWR_ENERGY_DEV_HI", 0x2003C, [], .high, .cold, [⟨31, 0, .ro, 0, true⟩]⟩,
  ⟨"PWR_THR_LO", 0x20040, [(6, 0x8)], .low, .cold, [⟨31, 0, .ro, 0, true⟩]⟩,
  ⟨"PWR_THR_HI", 0x20044, [(6, 0x8)], .high, .cold, [⟨31, 0, .ro, 0, true⟩]⟩,
  ⟨"PWR_POOL_CTL", 0x20080, [], .single, .device, [⟨31, 31, .rw, 0, true⟩, ⟨5, 0, .rw, 0, true⟩]⟩,
  ⟨"PWR_POOL_ID", 0x20084, [], .single, .device, [⟨31, 0, .rw, 0, true⟩]⟩,
  ⟨"PWR_POOL_BOUNDS", 0x20088, [], .single, .device, [⟨31, 16, .rw, 0, true⟩, ⟨15, 0, .rw, 0, true⟩]⟩,
  ⟨"PWR_POOL_LOAN", 0x2008C, [], .single, .device, [⟨31, 0, .ro, 0, true⟩]⟩,
  ⟨"PWR_POOL_SLACK", 0x20090, [], .single, .device, [⟨15, 0, .ro, 0, true⟩]⟩,
  ⟨"PWR_POOL_MEM", 0x20100, [(32, 0x4)], .single, .device, [⟨31, 31, .rw, 0, true⟩, ⟨15, 0, .rw, 0, true⟩]⟩,
  ⟨"PWR_PART_CFG", 0x20200, [(16, 0x8)], .single, .device, [⟨31, 24, .rw, 1, true⟩, ⟨23, 16, .rw, 0x88, true⟩, ⟨15, 0, .rw, 0, true⟩]⟩,
  ⟨"PWR_PART_STATUS", 0x20204, [(16, 0x8)], .single, .device, [⟨31, 24, .ro, 0, true⟩, ⟨15, 0, .ro, 0, true⟩]⟩,
  ⟨"PWR_THERM_CTL", 0x20300, [], .single, .cold, [⟨31, 31, .w1s, 0, true⟩, ⟨15, 8, .rwl, 95, true⟩]⟩,
  ⟨"PWR_THERM_MAX", 0x20304, [], .single, .cold, [⟨24, 16, .ro, 0, true⟩, ⟨15, 0, .ro, 0, true⟩]⟩,
  ⟨"PWR_PROF_SEL", 0x20310, [], .single, .device, [⟨24, 16, .rw, 0, true⟩, ⟨5, 0, .rw, 0, true⟩]⟩,
  ⟨"PWR_PROF_DATA", 0x20314, [], .single, .device, [⟨31, 23, .ro, 0, true⟩, ⟨22, 19, .ro, 0, true⟩, ⟨15, 8, .ro, 0, true⟩, ⟨7, 0, .ro, 0, true⟩]⟩,
  ⟨"PWR_ARY", 0x20400, [(18, 0x4)], .single, .array, [⟨31, 24, .ro, 0, true⟩, ⟨23, 16, .ro, 0, true⟩, ⟨15, 8, .ro, 0, true⟩, ⟨7, 5, .ro, 7, true⟩, ⟨4, 4, .ro, 0, true⟩, ⟨3, 3, .ro, 0, true⟩, ⟨2, 2, .ro, 0, true⟩]⟩,
  ⟨"PWR_TEMP", 0x21000, [(306, 0x4)], .single, .cold, [⟨31, 16, .rc, 0, true⟩, ⟨15, 0, .ro, 0, true⟩]⟩,
  ⟨"PWR_DOM", 0x28000, [(334, 0x10)], .single, .device, [⟨31, 29, .ro, 0, true⟩, ⟨28, 26, .ro, 0, true⟩, ⟨23, 16, .ro, 0, true⟩, ⟨15, 8, .ro, 0, true⟩, ⟨7, 0, .ro, 0, true⟩]⟩,
  ⟨"PWR_VMIN", 0x28004, [(334, 0x10)], .single, .cold, [⟨31, 31, .wo, 0, true⟩, ⟨15, 0, .ro, 0xFFFF, true⟩]⟩,
  ⟨"PWR_VMIN_TIME_LO", 0x28008, [(334, 0x10)], .low, .cold, [⟨31, 0, .ro, 0, true⟩]⟩,
  ⟨"PWR_VMIN_TIME_HI", 0x2800C, [(334, 0x10)], .high, .cold, [⟨31, 0, .ro, 0, true⟩]⟩,
  ⟨"CHK_CTX_CTL", 0x40000, [(512, 0x40)], .single, .context, [⟨31, 31, .w1s, 0, true⟩, ⟨30, 29, .rwl, 0, true⟩, ⟨19, 16, .rw, 2, false⟩, ⟨15, 12, .rw, 0, false⟩, ⟨4, 4, .rw, 0, false⟩, ⟨3, 3, .rw, 0, false⟩, ⟨1, 0, .rw, 0, false⟩]⟩,
  ⟨"CHK_CTX_STATUS", 0x40004, [(512, 0x40)], .single, .context, [⟨31, 31, .ro, 0, false⟩, ⟨30, 30, .ro, 0, false⟩, ⟨29, 26, .ro, 0, false⟩, ⟨23, 16, .ro, 0, false⟩, ⟨15, 8, .ro, 0, false⟩, ⟨1, 0, .ro, 0, false⟩]⟩,
  ⟨"CHK_CTX_SEED_LO", 0x40008, [(512, 0x40)], .low, .context, [⟨31, 0, .rw, 0, false⟩]⟩,
  ⟨"CHK_CTX_SEED_HI", 0x4000C, [(512, 0x40)], .high, .context, [⟨31, 0, .rw, 0, false⟩]⟩,
  ⟨"CHK_CTX_RING", 0x40010, [(512, 0x40)], .single, .context, [⟨26, 16, .rw, 0, false⟩, ⟨9, 0, .rw, 0, false⟩]⟩,
  ⟨"CHK_CTX_DWIN", 0x40014, [(512, 0x40)], .single, .context, [⟨19, 16, .rw, 0, false⟩, ⟨5, 0, .rw, 0, false⟩]⟩,
  ⟨"CHK_CTX_RTAB_LO", 0x40018, [(512, 0x40)], .low, .context, [⟨31, 0, .rw, 0, false⟩]⟩,
  ⟨"CHK_CTX_RTAB_HI", 0x4001C, [(512, 0x40)], .high, .context, [⟨31, 0, .rw, 0, false⟩]⟩,
  ⟨"CHK_CTX_WDIG_LO", 0x40020, [(512, 0x40)], .low, .context, [⟨31, 0, .ro, 0, false⟩]⟩,
  ⟨"CHK_CTX_WDIG_HI", 0x40024, [(512, 0x40)], .high, .context, [⟨31, 0, .ro, 0, false⟩]⟩]

/-- Rows 80 to 119 of the register map. -/
def regRows2 : List RegSpec := [
  ⟨"CHK_CTX_STEP", 0x40028, [(512, 0x40)], .single, .context, [⟨31, 0, .ro, 0, false⟩]⟩,
  ⟨"CHK_CTX_AGREED", 0x4002C, [(512, 0x40)], .single, .context, [⟨31, 0, .ro, 0, false⟩]⟩,
  ⟨"CHK_CTX_REPLAYS", 0x40030, [(512, 0x40)], .single, .context, [⟨31, 0, .rw, 0, false⟩]⟩,
  ⟨"CHK_CTX_DISAGREE", 0x40034, [(512, 0x40)], .single, .context, [⟨31, 0, .rw, 0, false⟩]⟩,
  ⟨"CHK_CTX_RDIG_LO", 0x40038, [(512, 0x40)], .low, .context, [⟨31, 0, .ro, 0, false⟩]⟩,
  ⟨"CHK_CTX_RDIG_HI", 0x4003C, [(512, 0x40)], .high, .context, [⟨31, 0, .ro, 0, false⟩]⟩,
  ⟨"CHK_ARRAY", 0x48000, [(18, 0x4)], .single, .cold, [⟨31, 30, .ro, 0, true⟩, ⟨29, 29, .ro, 0, true⟩, ⟨28, 28, .ro, 0, true⟩, ⟨27, 27, .ro, 0, true⟩, ⟨23, 16, .ro, 0, true⟩, ⟨7, 0, .ro, 0, true⟩]⟩,
  ⟨"CHK_CFG", 0x4804C, [], .single, .cold, [⟨31, 31, .w1s, 0, true⟩, ⟨15, 0, .rwl, 10, true⟩]⟩,
  ⟨"CHK_REPLAYS_LO", 0x48050, [], .low, .cold, [⟨31, 0, .ro, 0, true⟩]⟩,
  ⟨"CHK_REPLAYS_HI", 0x48054, [], .high, .cold, [⟨31, 0, .ro, 0, true⟩]⟩,
  ⟨"CHK_RESOLVED", 0x48058, [], .single, .cold, [⟨31, 0, .rw, 0, true⟩]⟩,
  ⟨"CHK_UNRESOLVED", 0x4805C, [], .single, .cold, [⟨31, 0, .rw, 0, true⟩]⟩,
  ⟨"CHK_QUARANTINES", 0x48060, [], .single, .cold, [⟨31, 0, .rw, 0, true⟩]⟩,
  ⟨"CHK_RDE_CTL", 0x48100, [], .single, .device, [⟨31, 31, .wo, 0, false⟩, ⟨30, 30, .ro, 0, false⟩, ⟨29, 29, .rw, 0, false⟩, ⟨28, 28, .ro, 0, false⟩, ⟨8, 0, .rw, 0, false⟩]⟩,
  ⟨"CHK_RDE_VA_LO", 0x48104, [], .low, .device, [⟨31, 0, .rw, 0, false⟩]⟩,
  ⟨"CHK_RDE_VA_HI", 0x48108, [], .high, .device, [⟨31, 0, .rw, 0, false⟩]⟩,
  ⟨"CHK_RDE_LEN_LO", 0x4810C, [], .low, .device, [⟨31, 0, .rw, 0, false⟩]⟩,
  ⟨"CHK_RDE_LEN_HI", 0x48110, [], .high, .device, [⟨31, 0, .rw, 0, false⟩]⟩,
  ⟨"CHK_RDE_RES_LO", 0x48114, [], .low, .device, [⟨31, 0, .ro, 0, false⟩]⟩,
  ⟨"CHK_RDE_RES_HI", 0x48118, [], .high, .device, [⟨31, 0, .ro, 0, false⟩]⟩,
  ⟨"CHK_RDE_INTERVAL", 0x4811C, [], .single, .device, [⟨31, 0, .rw, 0, false⟩]⟩,
  ⟨"CHK_PYR_CTL", 0x48200, [], .single, .device, [⟨31, 31, .wo, 0, true⟩, ⟨30, 30, .rw, 0, true⟩, ⟨28, 24, .rw, 0, true⟩, ⟨23, 20, .rw, 0, true⟩, ⟨19, 16, .rw, 0, true⟩, ⟨15, 0, .rw, 0xFFFF, true⟩]⟩,
  ⟨"CHK_PYR_STATUS", 0x48204, [], .single, .device, [⟨31, 30, .ro, 0, true⟩, ⟨29, 28, .ro, 0, true⟩, ⟨27, 24, .ro, 0, true⟩, ⟨15, 0, .ro, 0, true⟩]⟩,
  ⟨"CHK_PYR_VERSION", 0x48208, [], .single, .cold, [⟨31, 16, .ro, 0, true⟩, ⟨15, 0, .ro, 0, true⟩]⟩,
  ⟨"CHK_PYR_FAIL", 0x4820C, [], .single, .device, [⟨24, 16, .ro, 0, true⟩, ⟨8, 0, .ro, 0, true⟩]⟩,
  ⟨"CHK_KAK_CTL", 0x48300, [], .single, .device, [⟨31, 31, .wo, 0, true⟩, ⟨7, 0, .rw, 0, true⟩]⟩,
  ⟨"CHK_KAK_STATUS", 0x48304, [], .single, .device, [⟨31, 30, .ro, 0, true⟩, ⟨29, 28, .ro, 0, true⟩, ⟨23, 16, .ro, 0, true⟩, ⟨3, 0, .ro, 0, true⟩]⟩,
  ⟨"DSP_CTX_CTL", 0x80000, [(512, 0x100)], .single, .cold, [⟨31, 31, .wo, 0, true⟩, ⟨30, 30, .rw, 0, true⟩, ⟨28, 26, .rw, 7, true⟩, ⟨25, 22, .rw, 0, true⟩, ⟨21, 20, .rw, 0, true⟩, ⟨19, 19, .rw, 0, true⟩, ⟨15, 8, .ro, 0, true⟩, ⟨3, 0, .ro, 0, true⟩]⟩,
  ⟨"DSP_CTX_RING_LO", 0x80004, [(512, 0x100)], .low, .cold, [⟨31, 12, .rw, 0, true⟩, ⟨4, 0, .rw, 6, true⟩]⟩,
  ⟨"DSP_CTX_RING_HI", 0x80008, [(512, 0x100)], .high, .cold, [⟨15, 0, .rw, 0, true⟩]⟩,
  ⟨"DSP_CTX_EVT_LO", 0x8000C, [(512, 0x100)], .low, .cold, [⟨31, 12, .rw, 0, true⟩]⟩,
  ⟨"DSP_CTX_EVT_HI", 0x80010, [(512, 0x100)], .high, .cold, [⟨15, 0, .rw, 0, true⟩]⟩,
  ⟨"DSP_CTX_BW", 0x80014, [(512, 0x100)], .single, .cold, [⟨31, 24, .rw, 1, true⟩, ⟨23, 16, .rw, 1, true⟩, ⟨15, 8, .rw, 1, true⟩]⟩,
  ⟨"DSP_CTX_BWMIN", 0x80018, [(512, 0x100)], .single, .cold, [⟨23, 16, .rw, 0, true⟩, ⟨15, 8, .rw, 0, true⟩, ⟨7, 0, .rw, 0, true⟩]⟩,
  ⟨"DSP_CTX_FUNC", 0x8001C, [(512, 0x100)], .single, .cold, [⟨31, 31, .rw, 0, true⟩, ⟨18, 16, .rw, 0, true⟩, ⟨8, 0, .rw, 0, true⟩]⟩,
  ⟨"DSP_CTX_SAVE_LO", 0x80020, [(512, 0x100)], .low, .cold, [⟨31, 16, .rw, 0, true⟩]⟩,
  ⟨"DSP_CTX_SAVE_HI", 0x80024, [(512, 0x100)], .high, .cold, [⟨15, 0, .rw, 0, true⟩]⟩,
  ⟨"DSP_CTX_SRKEY_LO", 0x80028, [(512, 0x100)], .low, .context, [⟨31, 0, .rw, 0, false⟩]⟩,
  ⟨"DSP_CTX_SRKEY_HI", 0x8002C, [(512, 0x100)], .high, .context, [⟨31, 0, .rw, 0, false⟩]⟩,
  ⟨"DSP_CTX_ENERGY_LO", 0x80030, [(512, 0x100)], .low, .cold, [⟨31, 0, .ro, 0, true⟩]⟩]

/-- Rows 120 to 159 of the register map. -/
def regRows3 : List RegSpec := [
  ⟨"DSP_CTX_ENERGY_HI", 0x80034, [(512, 0x100)], .high, .cold, [⟨31, 0, .ro, 0, true⟩]⟩,
  ⟨"DSP_CTX_RUNTIME_LO", 0x80038, [(512, 0x100)], .low, .cold, [⟨31, 0, .ro, 0, true⟩]⟩,
  ⟨"DSP_CTX_RUNTIME_HI", 0x8003C, [(512, 0x100)], .high, .cold, [⟨31, 0, .ro, 0, true⟩]⟩,
  ⟨"DSP_CTX_FETCH", 0x80040, [(512, 0x100)], .single, .context, [⟨31, 0, .ro, 0, true⟩]⟩,
  ⟨"DSP_CTX_REWIND", 0x80044, [(512, 0x100)], .single, .context, [⟨31, 0, .ro, 0, true⟩]⟩,
  ⟨"DSP_CTX_SWITCHES", 0x80048, [(512, 0x100)], .single, .cold, [⟨31, 16, .rw, 0, true⟩, ⟨15, 0, .rw, 0, true⟩]⟩,
  ⟨"DSP_CTX_STALE", 0x8004C, [(512, 0x100)], .single, .cold, [⟨31, 0, .rw, 0, true⟩]⟩,
  ⟨"DSP_CTX_ABORTS", 0x80050, [(512, 0x100)], .single, .cold, [⟨31, 0, .rw, 0, true⟩]⟩,
  ⟨"DSP_PART_CTL", 0xA0000, [(16, 0x20)], .single, .device, [⟨31, 31, .rw, 0, true⟩, ⟨25, 16, .ro, 0x3FF, true⟩, ⟨11, 8, .rw, 0, true⟩, ⟨2, 0, .rw, 0, true⟩]⟩,
  ⟨"DSP_PART_GRACE", 0xA0004, [(16, 0x20)], .single, .device, [⟨31, 16, .rw, 2, true⟩, ⟨9, 0, .rw, 8, true⟩]⟩,
  ⟨"DSP_PART_ENERGY_LO", 0xA0008, [(16, 0x20)], .low, .cold, [⟨31, 0, .ro, 0, true⟩]⟩,
  ⟨"DSP_PART_ENERGY_HI", 0xA000C, [(16, 0x20)], .high, .cold, [⟨31, 0, .ro, 0, true⟩]⟩,
  ⟨"DSP_DEV_EVT_LO", 0xA1000, [], .low, .cold, [⟨31, 16, .rw, 0, true⟩]⟩,
  ⟨"DSP_DEV_EVT_HI", 0xA1004, [], .high, .cold, [⟨15, 0, .rw, 0, true⟩]⟩,
  ⟨"DSP_DEV_EVT_WR", 0xA1008, [], .single, .device, [⟨31, 0, .ro, 0, true⟩]⟩,
  ⟨"DSP_DEV_EVT_RD", 0xA100C, [], .single, .device, [⟨31, 0, .rw, 0, true⟩]⟩,
  ⟨"DSP_DEV_EVT_WM", 0xA1010, [], .single, .device, [⟨10, 0, .rw, 768, true⟩]⟩,
  ⟨"DSP_DEV_EVT_STATUS", 0xA1014, [], .single, .device, [⟨1, 1, .w1c, 0, true⟩, ⟨0, 0, .w1c, 0, true⟩]⟩,
  ⟨"DSP_DEV_EVT_PEAK", 0xA1018, [], .single, .device, [⟨10, 0, .ro, 0, true⟩]⟩,
  ⟨"DSP_DEV_EVT_CROSS", 0xA101C, [], .single, .device, [⟨31, 0, .rw, 0, true⟩]⟩,
  ⟨"DSP_STATUS", 0xA1020, [], .single, .device, [⟨31, 31, .ro, 0, true⟩, ⟨9, 0, .ro, 0, true⟩]⟩,
  ⟨"MMU_ROOT_LO", 0x100000, [(512, 0x8)], .low, .context, [⟨31, 12, .rw, 0, true⟩, ⟨0, 0, .rw, 0, true⟩]⟩,
  ⟨"MMU_ROOT_HI", 0x100004, [(512, 0x8)], .high, .context, [⟨15, 0, .rw, 0, true⟩]⟩,
  ⟨"MMU_APT_LO", 0x101000, [(512, 0x8)], .low, .context, [⟨31, 11, .rw, 0, true⟩, ⟨0, 0, .rw, 0, true⟩]⟩,
  ⟨"MMU_APT_HI", 0x101004, [(512, 0x8)], .high, .context, [⟨15, 0, .rw, 0, true⟩]⟩,
  ⟨"MMU_ALLOC_ES", 0x102000, [(512, 0x10)], .single, .context, [⟨26, 16, .rw, 0, true⟩, ⟨9, 0, .rw, 0, true⟩]⟩,
  ⟨"MMU_ALLOC_SL", 0x102004, [(512, 0x10)], .single, .context, [⟨14, 8, .rw, 0, true⟩, ⟨5, 0, .rw, 0, true⟩]⟩,
  ⟨"MMU_ALLOC_PARK", 0x102008, [(512, 0x10)], .single, .context, [⟨16, 8, .rw, 0, true⟩, ⟨7, 0, .rw, 0, true⟩]⟩,
  ⟨"MMU_INV", 0x104000, [], .single, .device, [⟨31, 31, .wo, 0, true⟩, ⟨30, 30, .wo, 0, true⟩, ⟨29, 29, .wo, 0, true⟩, ⟨8, 0, .wo, 0, true⟩]⟩,
  ⟨"MMU_INV_VA_LO", 0x104004, [], .low, .device, [⟨31, 0, .rw, 0, true⟩]⟩,
  ⟨"MMU_INV_VA_HI", 0x104008, [], .high, .device, [⟨31, 0, .rw, 0, true⟩]⟩,
  ⟨"MMU_INV_PAGES", 0x10400C, [], .single, .device, [⟨31, 0, .rw, 0, true⟩]⟩,
  ⟨"MMU_INV_STATUS", 0x104010, [], .single, .device, [⟨0, 0, .ro, 0, true⟩]⟩,
  ⟨"MMU_FAULT_RESUME", 0x104020, [], .single, .device, [⟨31, 31, .wo, 0, true⟩, ⟨8, 0, .wo, 0, true⟩]⟩,
  ⟨"MMU_STALLED", 0x104040, [(16, 0x4)], .single, .device, [⟨31, 0, .ro, 0, true⟩]⟩,
  ⟨"MMU_SCRUB", 0x104080, [], .single, .cold, [⟨31, 16, .rw, 720, true⟩, ⟨15, 0, .rw, 720, true⟩]⟩,
  ⟨"MMU_HBM_CAP_LO", 0x104090, [], .low, .device, [⟨31, 0, .ro, 0, true⟩]⟩,
  ⟨"MMU_HBM_CAP_HI", 0x104094, [], .high, .device, [⟨31, 0, .ro, 0, true⟩]⟩,
  ⟨"MMU_HBM_RET_LO", 0x105000, [(18, 0x20)], .low, .cold, [⟨31, 0, .ro, 0, true⟩]⟩,
  ⟨"MMU_HBM_RET_HI", 0x105004, [(18, 0x20)], .high, .cold, [⟨31, 0, .ro, 0, true⟩]⟩]

/-- Rows 160 to 199 of the register map. -/
def regRows4 : List RegSpec := [
  ⟨"MMU_HBM_PEND_LO", 0x105008, [(18, 0x20)], .low, .cold, [⟨31, 0, .ro, 0, true⟩]⟩,
  ⟨"MMU_HBM_PEND_HI", 0x10500C, [(18, 0x20)], .high, .cold, [⟨31, 0, .ro, 0, true⟩]⟩,
  ⟨"MMU_HBM_CE", 0x105010, [(18, 0x20)], .single, .cold, [⟨31, 0, .rw, 0, true⟩]⟩,
  ⟨"MMU_HBM_UE", 0x105014, [(18, 0x20)], .single, .cold, [⟨31, 0, .rw, 0, true⟩]⟩,
  ⟨"MMU_HBM_SPARED", 0x105018, [(18, 0x20)], .single, .cold, [⟨31, 0, .ro, 0, true⟩]⟩,
  ⟨"ARY_STATUS", 0x200000, [(18, 0x10000)], .single, .array, [⟨24, 16, .ro, 0, true⟩, ⟨15, 15, .ro, 0, true⟩, ⟨14, 14, .ro, 0, true⟩, ⟨13, 13, .ro, 0, true⟩, ⟨12, 12, .ro, 0, true⟩, ⟨11, 11, .ro, 0, true⟩, ⟨10, 10, .ro, 0, true⟩, ⟨8, 8, .ro, 0, true⟩, ⟨7, 4, .ro, 0, true⟩, ⟨1, 0, .ro, 0, true⟩]⟩,
  ⟨"ARY_TILE_STATUS", 0x200010, [(18, 0x10000), (3, 0x4)], .single, .array, [⟨31, 23, .ro, 0, true⟩, ⟨22, 20, .ro, 0, true⟩, ⟨19, 19, .ro, 0, true⟩, ⟨18, 18, .ro, 0, true⟩, ⟨17, 17, .ro, 0, true⟩, ⟨16, 16, .ro, 0, true⟩, ⟨15, 15, .ro, 0, true⟩, ⟨14, 14, .ro, 0, true⟩, ⟨13, 13, .ro, 0, true⟩, ⟨12, 0, .ro, 0, true⟩]⟩,
  ⟨"ARY_TILE_OSN", 0x200020, [(18, 0x10000), (3, 0x4)], .single, .array, [⟨31, 0, .ro, 0, true⟩]⟩,
  ⟨"ARY_WIT_CTL", 0x200030, [(18, 0x10000)], .single, .array, [⟨31, 31, .w1s, 0, true⟩, ⟨23, 0, .rwl, 0, true⟩]⟩,
  ⟨"ARY_WIT_DELTA", 0x200034, [(18, 0x10000)], .single, .array, [⟨28, 27, .ro, 0, true⟩, ⟨23, 0, .ro, 0, true⟩]⟩,
  ⟨"ARY_WIT_ROW", 0x200038, [(18, 0x10000)], .single, .array, [⟨12, 0, .ro, 0, true⟩]⟩,
  ⟨"ARY_WIT_FAIL_CNT", 0x20003C, [(18, 0x10000)], .single, .array, [⟨31, 0, .rw, 0, true⟩]⟩,
  ⟨"ARY_PASS_CNT_LO", 0x200040, [(18, 0x10000)], .low, .array, [⟨31, 0, .ro, 0, true⟩]⟩,
  ⟨"ARY_PASS_CNT_HI", 0x200044, [(18, 0x10000)], .high, .array, [⟨31, 0, .ro, 0, true⟩]⟩,
  ⟨"ARY_STALL_LO", 0x200050, [(18, 0x10000), (7, 0x8)], .low, .array, [⟨31, 0, .ro, 0, true⟩]⟩,
  ⟨"ARY_STALL_HI", 0x200054, [(18, 0x10000), (7, 0x8)], .high, .array, [⟨31, 0, .ro, 0, true⟩]⟩,
  ⟨"ARY_GANG", 0x200090, [(18, 0x10000)], .single, .array, [⟨31, 24, .ro, 64, true⟩, ⟨17, 16, .ro, 0, true⟩, ⟨11, 8, .ro, 0, true⟩, ⟨2, 0, .ro, 0, true⟩]⟩,
  ⟨"ARY_PARK_OCC", 0x200100, [(18, 0x10000), (8, 0x4)], .single, .array, [⟨31, 0, .ro, 0, true⟩]⟩,
  ⟨"ARY_CM_STATUS", 0x200200, [(18, 0x10000)], .single, .array, [⟨31, 31, .ro, 0, true⟩, ⟨30, 30, .ro, 0, true⟩, ⟨29, 28, .ro, 0, true⟩, ⟨27, 27, .w1c, 0, true⟩, ⟨26, 24, .ro, 0, true⟩, ⟨16, 0, .ro, 0, true⟩]⟩,
  ⟨"ARY_CM_FAULT", 0x200204, [(18, 0x10000)], .single, .array, [⟨31, 24, .ro, 0, true⟩, ⟨19, 0, .ro, 0, true⟩]⟩,
  ⟨"ARY_CM_FAULT_INSN", 0x200208, [(18, 0x10000)], .single, .array, [⟨31, 0, .ro, 0, true⟩]⟩,
  ⟨"ARY_CM_RUNS", 0x20020C, [(18, 0x10000)], .single, .array, [⟨31, 0, .rw, 0, true⟩]⟩,
  ⟨"ARY_VE_STATUS", 0x200300, [(18, 0x10000)], .single, .array, [⟨31, 31, .ro, 0, true⟩, ⟨30, 30, .ro, 0, true⟩, ⟨29, 27, .ro, 0, true⟩, ⟨26, 22, .ro, 0, true⟩, ⟨21, 21, .ro, 0, true⟩, ⟨20, 20, .ro, 0, true⟩, ⟨19, 18, .ro, 0, true⟩, ⟨7, 4, .ro, 0, true⟩, ⟨3, 0, .ro, 0, true⟩]⟩,
  ⟨"ARY_VE_FAULT", 0x200304, [(18, 0x10000)], .single, .array, [⟨31, 24, .ro, 0, true⟩, ⟨23, 16, .ro, 0, true⟩, ⟨8, 0, .ro, 0, true⟩]⟩,
  ⟨"ARY_VE_FAULT_ELEM_LO", 0x200308, [(18, 0x10000)], .low, .array, [⟨31, 0, .ro, 0, true⟩]⟩,
  ⟨"ARY_VE_FAULT_ELEM_HI", 0x20030C, [(18, 0x10000)], .high, .array, [⟨31, 0, .ro, 0, true⟩]⟩,
  ⟨"ARY_VE_QREPORT", 0x200310, [(18, 0x10000)], .single, .array, [⟨31, 16, .ro, 0, true⟩, ⟨15, 8, .ro, 0, true⟩, ⟨7, 0, .ro, 0xFF, true⟩]⟩,
  ⟨"ARY_VE_CHAINS", 0x200314, [(18, 0x10000)], .single, .array, [⟨31, 0, .rw, 0, true⟩]⟩,
  ⟨"ARY_VE_ELEMS_LO", 0x200318, [(18, 0x10000)], .low, .array, [⟨31, 0, .ro, 0, true⟩]⟩,
  ⟨"ARY_VE_ELEMS_HI", 0x20031C, [(18, 0x10000)], .high, .array, [⟨31, 0, .ro, 0, true⟩]⟩,
  ⟨"ARY_VE_STALL_LO", 0x200320, [(18, 0x10000)], .low, .array, [⟨31, 0, .ro, 0, true⟩]⟩,
  ⟨"ARY_VE_STALL_HI", 0x200324, [(18, 0x10000)], .high, .array, [⟨31, 0, .ro, 0, true⟩]⟩,
  ⟨"ARY_AC_STATUS", 0x200400, [(18, 0x10000)], .single, .array, [⟨31, 30, .ro, 0, true⟩, ⟨29, 26, .ro, 0, true⟩, ⟨25, 25, .ro, 0, true⟩, ⟨24, 16, .ro, 0, true⟩, ⟨7, 0, .ro, 0, true⟩]⟩,
  ⟨"ARY_AC_PC_LO", 0x200404, [(18, 0x10000)], .low, .array, [⟨31, 0, .ro, 0, true⟩]⟩,
  ⟨"ARY_AC_PC_HI", 0x200408, [(18, 0x10000)], .high, .array, [⟨15, 0, .ro, 0, true⟩]⟩,
  ⟨"ARY_AC_FAULT", 0x20040C, [(18, 0x10000)], .single, .array, [⟨31, 24, .ro, 0, true⟩, ⟨23, 16, .ro, 0, true⟩, ⟨8, 0, .ro, 0, true⟩]⟩,
  ⟨"ARY_AC_FAULT_PC_LO", 0x200410, [(18, 0x10000)], .low, .array, [⟨31, 0, .ro, 0, true⟩]⟩,
  ⟨"ARY_AC_FAULT_PC_HI", 0x200414, [(18, 0x10000)], .high, .array, [⟨31, 0, .ro, 0, true⟩]⟩,
  ⟨"ARY_AC_FAULT_INSN", 0x200418, [(18, 0x10000), (2, 0x4)], .single, .array, [⟨31, 0, .ro, 0, true⟩]⟩,
  ⟨"ARY_AC_QUEUES", 0x200420, [(18, 0x10000)], .single, .array, [⟨21, 16, .ro, 0, true⟩, ⟨12, 8, .ro, 0, true⟩, ⟨5, 0, .ro, 0, true⟩]⟩]

/-- Rows 200 to 239 of the register map. -/
def regRows5 : List RegSpec := [
  ⟨"ARY_AC_RETIRED_LO", 0x200428, [(18, 0x10000)], .low, .array, [⟨31, 0, .ro, 0, true⟩]⟩,
  ⟨"ARY_AC_RETIRED_HI", 0x20042C, [(18, 0x10000)], .high, .array, [⟨31, 0, .ro, 0, true⟩]⟩,
  ⟨"ARY_AC_STALL_LO", 0x200430, [(18, 0x10000), (7, 0x8)], .low, .array, [⟨31, 0, .ro, 0, true⟩]⟩,
  ⟨"ARY_AC_STALL_HI", 0x200434, [(18, 0x10000), (7, 0x8)], .high, .array, [⟨31, 0, .ro, 0, true⟩]⟩,
  ⟨"ARY_AC_FAULT_CNT", 0x200470, [(18, 0x10000)], .single, .array, [⟨31, 0, .rw, 0, true⟩]⟩,
  ⟨"ARY_WIN_OPEN_LO", 0x200500, [(18, 0x10000)], .low, .array, [⟨31, 0, .ro, 0, true⟩]⟩,
  ⟨"ARY_WIN_OPEN_HI", 0x200504, [(18, 0x10000)], .high, .array, [⟨31, 0, .ro, 0, true⟩]⟩,
  ⟨"ARY_WIN_REFUSED", 0x200508, [(18, 0x10000)], .single, .array, [⟨31, 0, .rw, 0, true⟩]⟩,
  ⟨"ARY_ES_CE", 0x200510, [(18, 0x10000)], .single, .array, [⟨31, 0, .rw, 0, true⟩]⟩,
  ⟨"ARY_ES_UE", 0x200514, [(18, 0x10000)], .single, .array, [⟨31, 0, .rw, 0, true⟩]⟩,
  ⟨"ARY_SL_CE", 0x200518, [(18, 0x10000)], .single, .array, [⟨31, 0, .rw, 0, true⟩]⟩,
  ⟨"ARY_SL_UE", 0x20051C, [(18, 0x10000)], .single, .array, [⟨31, 0, .rw, 0, true⟩]⟩,
  ⟨"ARY_CLK_STATUS", 0x200600, [(18, 0x10000)], .single, .array, [⟨31, 31, .ro, 0, true⟩, ⟨30, 30, .ro, 0, true⟩, ⟨29, 29, .ro, 0, true⟩, ⟨28, 28, .ro, 0, true⟩, ⟨7, 0, .ro, 0, true⟩]⟩,
  ⟨"ARY_CLK_STRETCH_LO", 0x200604, [(18, 0x10000)], .low, .array, [⟨31, 0, .ro, 0, true⟩]⟩,
  ⟨"ARY_CLK_STRETCH_HI", 0x200608, [(18, 0x10000)], .high, .array, [⟨31, 0, .ro, 0, true⟩]⟩,
  ⟨"ARY_CLK_DROOP", 0x20060C, [(18, 0x10000)], .single, .array, [⟨15, 0, .w1c, 0, true⟩]⟩,
  ⟨"ARY_SYNC_NZ_LO", 0x200610, [(18, 0x10000)], .low, .array, [⟨31, 0, .ro, 0, true⟩]⟩,
  ⟨"ARY_SYNC_NZ_HI", 0x200614, [(18, 0x10000)], .high, .array, [⟨31, 0, .ro, 0, true⟩]⟩,
  ⟨"ARY_SYNC_CORE_NZ", 0x200618, [(18, 0x10000)], .single, .array, [⟨0, 0, .ro, 0, true⟩]⟩,
  ⟨"ARY_CHK_STATUS", 0x200700, [(18, 0x10000)], .single, .array, [⟨31, 31, .ro, 0, true⟩, ⟨30, 30, .ro, 0, true⟩, ⟨29, 28, .ro, 0, true⟩, ⟨8, 0, .ro, 0, true⟩]⟩,
  ⟨"ARY_CM_DIGEST_LO", 0x200708, [(18, 0x10000)], .low, .array, [⟨31, 0, .ro, 0, true⟩]⟩,
  ⟨"ARY_CM_DIGEST_HI", 0x20070C, [(18, 0x10000)], .high, .array, [⟨31, 0, .ro, 0, true⟩]⟩,
  ⟨"ARY_WDIG_LO", 0x200710, [(18, 0x10000)], .low, .array, [⟨31, 0, .ro, 0, true⟩]⟩,
  ⟨"ARY_WDIG_HI", 0x200714, [(18, 0x10000)], .high, .array, [⟨31, 0, .ro, 0, true⟩]⟩,
  ⟨"ARY_TILE_HASH_LO", 0x200718, [(18, 0x10000)], .low, .array, [⟨31, 0, .ro, 0, true⟩]⟩,
  ⟨"ARY_TILE_HASH_HI", 0x20071C, [(18, 0x10000)], .high, .array, [⟨31, 0, .ro, 0, true⟩]⟩,
  ⟨"FAB_PORT_STATUS", 0x400000, [(32, 0x1000)], .single, .device, [⟨31, 28, .ro, 0, true⟩, ⟨27, 24, .ro, 0, true⟩, ⟨23, 16, .ro, 0, true⟩, ⟨15, 15, .ro, 0, true⟩, ⟨14, 14, .ro, 0, true⟩]⟩,
  ⟨"FAB_PORT_CTL", 0x400004, [(32, 0x1000)], .single, .device, [⟨31, 31, .w1s, 0, true⟩, ⟨23, 16, .rwl, 20, true⟩, ⟨5, 5, .wo, 0, true⟩, ⟨4, 4, .wo, 0, true⟩, ⟨3, 3, .rwl, 1, true⟩, ⟨2, 2, .rwl, 1, true⟩, ⟨0, 0, .rwl, 1, true⟩]⟩,
  ⟨"FAB_PORT_PEER", 0x400008, [(32, 0x1000)], .single, .device, [⟨20, 16, .ro, 0, true⟩, ⟨15, 0, .ro, 0, true⟩]⟩,
  ⟨"FAB_PORT_FEC_CW_LO", 0x400010, [(32, 0x1000)], .low, .cold, [⟨31, 0, .ro, 0, true⟩]⟩,
  ⟨"FAB_PORT_FEC_CW_HI", 0x400014, [(32, 0x1000)], .high, .cold, [⟨31, 0, .ro, 0, true⟩]⟩,
  ⟨"FAB_PORT_FEC_UNC", 0x400018, [(32, 0x1000)], .single, .cold, [⟨31, 0, .rw, 0, true⟩]⟩,
  ⟨"FAB_PORT_REPLAY", 0x40001C, [(32, 0x1000)], .single, .cold, [⟨31, 0, .rw, 0, true⟩]⟩,
  ⟨"FAB_PORT_FAIL", 0x400020, [(32, 0x1000)], .single, .cold, [⟨31, 0, .rw, 0, true⟩]⟩,
  ⟨"FAB_PORT_OUT", 0x400024, [(32, 0x1000)], .single, .device, [⟨29, 16, .rc, 0, true⟩, ⟨13, 0, .ro, 0, true⟩]⟩,
  ⟨"FAB_PORT_TX_LO", 0x400028, [(32, 0x1000)], .low, .cold, [⟨31, 0, .ro, 0, true⟩]⟩,
  ⟨"FAB_PORT_TX_HI", 0x40002C, [(32, 0x1000)], .high, .cold, [⟨31, 0, .ro, 0, true⟩]⟩,
  ⟨"FAB_PORT_RX_LO", 0x400030, [(32, 0x1000)], .low, .cold, [⟨31, 0, .ro, 0, true⟩]⟩,
  ⟨"FAB_PORT_RX_HI", 0x400034, [(32, 0x1000)], .high, .cold, [⟨31, 0, .ro, 0, true⟩]⟩,
  ⟨"FAB_SCHED_CTL", 0x400040, [(32, 0x1000)], .single, .device, [⟨31, 31, .rw, 0, true⟩, ⟨30, 29, .rw, 0, true⟩, ⟨12, 0, .rw, 0, true⟩]⟩]

/-- Rows 240 to 279 of the register map. -/
def regRows6 : List RegSpec := [
  ⟨"FAB_SCHED_T0_LO", 0x400044, [(32, 0x1000)], .low, .device, [⟨31, 0, .rw, 0, true⟩]⟩,
  ⟨"FAB_SCHED_T0_HI", 0x400048, [(32, 0x1000)], .high, .device, [⟨31, 0, .rw, 0, true⟩]⟩,
  ⟨"FAB_SCHED_PERIOD_LO", 0x40004C, [(32, 0x1000)], .low, .device, [⟨31, 0, .rw, 0, true⟩]⟩,
  ⟨"FAB_SCHED_PERIOD_HI", 0x400050, [(32, 0x1000)], .high, .device, [⟨31, 0, .rw, 0, true⟩]⟩,
  ⟨"FAB_SCHED_SKIP", 0x400054, [(32, 0x1000)], .single, .device, [⟨31, 0, .rw, 0, true⟩]⟩,
  ⟨"FAB_SQ_SEL", 0x400100, [(32, 0x1000), (64, 0x4)], .single, .device, [⟨31, 31, .rw, 0, true⟩, ⟨30, 30, .rw, 0, true⟩, ⟨24, 16, .rw, 0, true⟩, ⟨15, 0, .rw, 0, true⟩]⟩,
  ⟨"FAB_ROUTE", 0x440000, [(32768, 0x4)], .single, .cold, [⟨31, 31, .rw, 0, true⟩, ⟨30, 30, .rw, 0, true⟩, ⟨29, 29, .rw, 0, true⟩, ⟨12, 8, .rw, 0, true⟩, ⟨4, 0, .rw, 0, true⟩]⟩,
  ⟨"FAB_NODE", 0x460000, [], .single, .cold, [⟨31, 31, .ro, 0, true⟩, ⟨15, 0, .rw, 0, true⟩]⟩,
  ⟨"FAB_FM_NODE", 0x460004, [], .single, .cold, [⟨15, 0, .ro, 0, true⟩]⟩,
  ⟨"FAB_CTL", 0x460008, [], .single, .cold, [⟨31, 31, .w1s, 0, true⟩]⟩,
  ⟨"FAB_TOUT", 0x46000C, [], .single, .device, [⟨13, 0, .rw, 100, true⟩]⟩,
  ⟨"FAB_TRANSIT", 0x460010, [], .single, .device, [⟨7, 0, .rw, 64, true⟩]⟩,
  ⟨"FAB_ABORT", 0x460014, [], .single, .device, [⟨7, 0, .rw, 16, true⟩]⟩,
  ⟨"FAB_REISSUED", 0x460020, [], .single, .cold, [⟨31, 0, .rw, 0, true⟩]⟩,
  ⟨"FAB_TIMEOUTS", 0x460024, [], .single, .cold, [⟨31, 0, .rw, 0, true⟩]⟩,
  ⟨"FAB_LINKLOST", 0x460028, [], .single, .cold, [⟨31, 0, .rw, 0, true⟩]⟩,
  ⟨"FAB_LATE", 0x46002C, [], .single, .cold, [⟨31, 0, .rw, 0, true⟩]⟩,
  ⟨"FAB_DUPS", 0x460030, [], .single, .cold, [⟨31, 0, .rw, 0, true⟩]⟩,
  ⟨"FAB_UNROUTABLE", 0x460034, [], .single, .cold, [⟨31, 0, .rw, 0, true⟩]⟩,
  ⟨"FAB_CTX_JOB", 0x461000, [(512, 0x8)], .single, .context, [⟨31, 0, .rw, 0, true⟩]⟩,
  ⟨"FAB_CTX_JOBCTL", 0x461004, [(512, 0x8)], .single, .context, [⟨2, 2, .rw, 1, true⟩, ⟨1, 1, .rw, 0, true⟩, ⟨0, 0, .rw, 1, true⟩]⟩,
  ⟨"FAB_SCHED_ENT_LO", 0x480000, [(32, 0x8000), (4096, 0x8)], .low, .device, [⟨31, 0, .rw, 0, true⟩]⟩,
  ⟨"FAB_SCHED_ENT_HI", 0x480004, [(32, 0x8000), (4096, 0x8)], .high, .device, [⟨31, 31, .rw, 0, true⟩, ⟨30, 30, .rw, 0, true⟩, ⟨29, 24, .rw, 0, true⟩, ⟨23, 8, .rw, 0, true⟩]⟩,
  ⟨"HST_STATUS", 0x600000, [(8, 0x10000)], .single, .device, [⟨31, 31, .ro, 0, true⟩, ⟨30, 30, .ro, 0, true⟩, ⟨29, 29, .ro, 0, true⟩, ⟨27, 24, .ro, 0, true⟩, ⟨20, 16, .ro, 0, true⟩, ⟨8, 0, .ro, 0, true⟩]⟩,
  ⟨"HST_ID", 0x600004, [(8, 0x10000)], .single, .cold, [⟨31, 16, .ro, 0, true⟩, ⟨15, 0, .ro, 0, true⟩]⟩,
  ⟨"HST_VF_BUDGET", 0x600008, [(8, 0x10000)], .single, .cold, [⟨31, 31, .w1s, 0, true⟩, ⟨8, 0, .rwl, 0, true⟩]⟩,
  ⟨"HST_NP_OUT", 0x60000C, [(8, 0x10000)], .single, .device, [⟨28, 16, .rc, 0, true⟩, ⟨12, 0, .ro, 0, true⟩]⟩,
  ⟨"HST_CPL_TOUT", 0x600010, [(8, 0x10000)], .single, .cold, [⟨31, 0, .rw, 0, true⟩]⟩,
  ⟨"HST_CPL_ERR", 0x600014, [(8, 0x10000)], .single, .cold, [⟨31, 0, .rw, 0, true⟩]⟩,
  ⟨"HST_LINK_DOWN", 0x600018, [(8, 0x10000)], .single, .cold, [⟨31, 0, .rw, 0, true⟩]⟩,
  ⟨"HST_CE", 0x60001C, [(8, 0x10000)], .single, .cold, [⟨31, 0, .rw, 0, true⟩]⟩,
  ⟨"HST_POISON_RX", 0x600020, [(8, 0x10000)], .single, .cold, [⟨31, 0, .rw, 0, true⟩]⟩,
  ⟨"HST_POISON_TX", 0x600024, [(8, 0x10000)], .single, .cold, [⟨31, 0, .rw, 0, true⟩]⟩,
  ⟨"HST_ATC_INV", 0x600028, [(8, 0x10000)], .single, .cold, [⟨31, 0, .rw, 0, true⟩]⟩,
  ⟨"HST_ATC_MISS", 0x60002C, [(8, 0x10000)], .single, .cold, [⟨31, 0, .rw, 0, true⟩]⟩,
  ⟨"HST_UCIE", 0x600030, [(8, 0x10000)], .single, .cold, [⟨31, 16, .ro, 0, true⟩, ⟨15, 0, .ro, 0, true⟩]⟩,
  ⟨"HST_UNBOUND", 0x600034, [(8, 0x10000)], .single, .cold, [⟨31, 0, .rw, 0, true⟩]⟩,
  ⟨"HST_TX_LO", 0x600038, [(8, 0x10000)], .low, .cold, [⟨31, 0, .ro, 0, true⟩]⟩,
  ⟨"HST_TX_HI", 0x60003C, [(8, 0x10000)], .high, .cold, [⟨31, 0, .ro, 0, true⟩]⟩,
  ⟨"HST_RX_LO", 0x600040, [(8, 0x10000)], .low, .cold, [⟨31, 0, .ro, 0, true⟩]⟩]

/-- Rows 280 to 319 of the register map. -/
def regRows7 : List RegSpec := [
  ⟨"HST_RX_HI", 0x600044, [(8, 0x10000)], .high, .cold, [⟨31, 0, .ro, 0, true⟩]⟩,
  ⟨"BRP_STATUS", 0x800000, [], .single, .cold, [⟨31, 28, .ro, 0, true⟩, ⟨27, 25, .ro, 0, true⟩, ⟨24, 23, .ro, 0, true⟩, ⟨22, 20, .ro, 0, true⟩, ⟨19, 19, .w1c, 0, true⟩, ⟨18, 18, .ro, 0, true⟩, ⟨17, 17, .ro, 0, true⟩, ⟨16, 16, .w1c, 0, true⟩]⟩,
  ⟨"BRP_CTL", 0x800004, [], .single, .cold, [⟨31, 31, .w1s, 0, true⟩, ⟨0, 0, .rwl, 0, true⟩]⟩,
  ⟨"BRP_BOOT", 0x800008, [], .single, .flash, [⟨31, 31, .w1s, 0, true⟩, ⟨17, 16, .rwl, 2, true⟩, ⟨15, 8, .rwl, 30, true⟩, ⟨7, 0, .rwl, 64, true⟩]⟩,
  ⟨"BRP_SINCE_FULL", 0x80000C, [], .single, .flash, [⟨31, 16, .ro, 0, true⟩, ⟨15, 0, .ro, 0, true⟩]⟩,
  ⟨"BRP_RESET", 0x800010, [], .single, .device, [⟨31, 31, .wo, 0, true⟩, ⟨30, 28, .wo, 0, true⟩, ⟨4, 0, .wo, 0, true⟩]⟩,
  ⟨"BRP_RPT_SEL", 0x800020, [], .single, .cold, [⟨11, 8, .rw, 0, true⟩, ⟨5, 0, .rw, 0, true⟩]⟩,
  ⟨"BRP_RPT_DATA", 0x800024, [], .single, .cold, [⟨31, 0, .ro, 0, true⟩]⟩,
  ⟨"BRP_MAP", 0x800100, [(16, 0x4)], .single, .cold, [⟨31, 31, .ro, 0, true⟩, ⟨4, 0, .ro, 0, true⟩]⟩,
  ⟨"BRP_ARY_GEN", 0x800200, [(18, 0x8)], .single, .cold, [⟨7, 0, .ro, 0, true⟩]⟩,
  ⟨"BRP_ARY_STALE", 0x800204, [(18, 0x8)], .single, .cold, [⟨31, 0, .rw, 0, true⟩]⟩,
  ⟨"BRP_REP_SEL", 0x800300, [], .single, .device, [⟨26, 18, .rw, 0, true⟩, ⟨4, 0, .rw, 0, true⟩]⟩,
  ⟨"BRP_REP_ROW", 0x800304, [], .single, .device, [⟨31, 27, .ro, 0, true⟩, ⟨26, 18, .ro, 0, true⟩, ⟨17, 17, .ro, 0, true⟩, ⟨16, 16, .ro, 0, true⟩]⟩,
  ⟨"BRP_REP_SKIP_LO", 0x800308, [], .low, .device, [⟨26, 18, .ro, 0, true⟩, ⟨17, 9, .ro, 0, true⟩, ⟨8, 0, .ro, 0, true⟩]⟩,
  ⟨"BRP_REP_SKIP_HI", 0x80030C, [], .high, .device, [⟨8, 0, .ro, 0, true⟩]⟩,
  ⟨"BRP_REP_CMD", 0x800310, [], .single, .device, [⟨31, 31, .wo, 0, true⟩, ⟨27, 24, .rw, 0, true⟩]⟩,
  ⟨"BRP_REP_ARG", 0x800314, [(3, 0x4)], .single, .device, [⟨31, 0, .rw, 0, true⟩]⟩,
  ⟨"BRP_REP_STATUS", 0x800320, [], .single, .device, [⟨31, 30, .ro, 0, true⟩, ⟨29, 28, .ro, 0, true⟩]⟩,
  ⟨"BRP_LOG_STATUS", 0x800400, [], .single, .flash, [⟨31, 31, .ro, 0, true⟩, ⟨30, 30, .ro, 0, true⟩, ⟨16, 0, .ro, 0, true⟩]⟩,
  ⟨"BRP_LOG_SEL", 0x800404, [], .single, .cold, [⟨16, 0, .rw, 0, true⟩]⟩,
  ⟨"BRP_LOG_DATA", 0x800408, [(8, 0x4)], .single, .cold, [⟨31, 0, .ro, 0, true⟩]⟩,
  ⟨"BRP_SEAM", 0x800500, [(12, 0x4)], .single, .cold, [⟨31, 24, .ro, 0, true⟩, ⟨23, 16, .ro, 0, true⟩, ⟨0, 0, .ro, 0, true⟩]⟩,
  ⟨"BRP_DBG_SEL", 0x800600, [], .single, .device, [⟨31, 27, .rw, 0, true⟩, ⟨26, 18, .rw, 0, true⟩, ⟨17, 9, .rw, 0, true⟩, ⟨8, 0, .rw, 0, true⟩]⟩,
  ⟨"BRP_DBG_DATA", 0x800604, [], .single, .device, [⟨31, 0, .ro, 0, true⟩]⟩,
  ⟨"BRP_DBG_STATUS", 0x800608, [], .single, .device, [⟨0, 0, .ro, 0, true⟩]⟩,
  ⟨"BRP_HANG_CTL", 0x800700, [], .single, .cold, [⟨31, 31, .w1s, 0, true⟩, ⟨0, 0, .rwl, 1, true⟩]⟩,
  ⟨"BRP_HANG_CNT", 0x800704, [], .single, .cold, [⟨31, 0, .rw, 0, true⟩]⟩,
  ⟨"BRP_WDOG_CNT", 0x800708, [], .single, .cold, [⟨31, 0, .rw, 0, true⟩]⟩,
  ⟨"BRP_DSP", 0x80070C, [], .single, .cold, [⟨31, 31, .ro, 0, true⟩, ⟨30, 30, .ro, 0, true⟩, ⟨15, 0, .ro, 0, true⟩]⟩,
  ⟨"BRP_MGB", 0x800710, [], .single, .cold, [⟨17, 9, .ro, 0, true⟩, ⟨8, 0, .ro, 0, true⟩]⟩,
  ⟨"BRP_WDOG", 0x810000, [(512, 0x4)], .single, .context, [⟨31, 31, .rw, 1, true⟩, ⟨15, 0, .rw, 100, true⟩]⟩,
  ⟨"MGT_STATUS", 0xA00000, [], .single, .cold, [⟨31, 28, .ro, 0, false⟩, ⟨27, 27, .ro, 0, false⟩, ⟨26, 25, .ro, 0, false⟩, ⟨24, 24, .ro, 0, false⟩, ⟨23, 20, .ro, 0, false⟩, ⟨19, 17, .ro, 0, false⟩, ⟨16, 14, .ro, 0, false⟩]⟩,
  ⟨"MGT_OWNER", 0xA00004, [], .single, .cold, [⟨31, 31, .ro, 0, false⟩, ⟨30, 28, .ro, 0, false⟩, ⟨27, 24, .ro, 0, false⟩, ⟨23, 16, .ro, 0, false⟩, ⟨15, 0, .ro, 0, false⟩]⟩,
  ⟨"MGT_OWNER_ID_LO", 0xA00008, [], .low, .cold, [⟨31, 0, .ro, 0, false⟩]⟩,
  ⟨"MGT_OWNER_ID_HI", 0xA0000C, [], .high, .cold, [⟨31, 0, .ro, 0, false⟩]⟩,
  ⟨"MGT_CLAIM_ID_LO", 0xA00010, [], .low, .cold, [⟨31, 0, .rw, 0, false⟩]⟩,
  ⟨"MGT_CLAIM_ID_HI", 0xA00014, [], .high, .cold, [⟨31, 0, .rw, 0, false⟩]⟩,
  ⟨"MGT_CLAIM_CTL", 0xA00018, [], .single, .cold, [⟨31, 31, .wo, 0, false⟩, ⟨30, 29, .wo, 0, false⟩, ⟨28, 26, .wo, 0, false⟩, ⟨25, 22, .wo, 0, false⟩, ⟨15, 8, .rw, 0, false⟩, ⟨1, 0, .ro, 0, false⟩]⟩,
  ⟨"MGT_CLAIM_NODE", 0xA0001C, [], .single, .cold, [⟨15, 0, .rw, 0, false⟩]⟩,
  ⟨"MGT_LEASE", 0xA00020, [], .single, .cold, [⟨31, 31, .ro, 0, false⟩, ⟨15, 0, .ro, 0, false⟩]⟩]

/-- Rows 320 to 355 of the register map. -/
def regRows8 : List RegSpec := [
  ⟨"MGT_FW_CTL", 0xA00030, [], .single, .cold, [⟨3, 3, .wo, 0, true⟩, ⟨2, 2, .wo, 0, true⟩, ⟨1, 1, .wo, 0, true⟩, ⟨0, 0, .wo, 0, true⟩]⟩,
  ⟨"MGT_FW_VER_A", 0xA00034, [], .single, .cold, [⟨31, 0, .ro, 0, false⟩]⟩,
  ⟨"MGT_FW_VER_B", 0xA00038, [], .single, .cold, [⟨31, 0, .ro, 0, false⟩]⟩,
  ⟨"MGT_FW_SVN", 0xA0003C, [], .single, .cold, [⟨31, 16, .ro, 0, false⟩, ⟨15, 0, .ro, 0, false⟩]⟩,
  ⟨"MGT_FW_TRIAL_MS", 0xA00040, [], .single, .cold, [⟨19, 0, .ro, 0, false⟩]⟩,
  ⟨"MGT_LIB_BASE_LO", 0xA00048, [], .low, .device, [⟨31, 0, .ro, 0, false⟩]⟩,
  ⟨"MGT_LIB_BASE_HI", 0xA0004C, [], .high, .device, [⟨31, 0, .ro, 0, false⟩]⟩,
  ⟨"MGT_LIB_ATTN", 0xA00050, [], .single, .device, [⟨31, 0, .ro, 0, false⟩]⟩,
  ⟨"MGT_I3C_A", 0xA00060, [], .single, .cold, [⟨31, 31, .ro, 0, false⟩, ⟨30, 24, .ro, 0, false⟩, ⟨23, 20, .ro, 0, false⟩, ⟨19, 19, .ro, 0, false⟩, ⟨10, 0, .ro, 0, false⟩]⟩,
  ⟨"MGT_I3C_B", 0xA00064, [], .single, .cold, [⟨31, 31, .ro, 0, false⟩, ⟨30, 24, .ro, 0, false⟩, ⟨23, 20, .ro, 0, false⟩, ⟨19, 19, .ro, 0, false⟩, ⟨10, 0, .ro, 0, false⟩]⟩,
  ⟨"MGT_EID", 0xA00068, [], .single, .cold, [⟨23, 16, .ro, 0, false⟩, ⟨15, 8, .ro, 0, false⟩, ⟨7, 0, .ro, 0, false⟩]⟩,
  ⟨"MGT_EVT_FWD", 0xA00070, [], .single, .cold, [⟨31, 31, .rw, 0, true⟩, ⟨29, 28, .rw, 1, true⟩, ⟨15, 0, .ro, 0, true⟩]⟩,
  ⟨"MGT_LT_SEL", 0xA00080, [], .single, .cold, [⟨31, 31, .rw, 0, false⟩, ⟨21, 0, .rw, 0, false⟩]⟩,
  ⟨"MGT_LT_DATA", 0xA00084, [], .single, .cold, [⟨31, 0, .ro, 0, false⟩]⟩,
  ⟨"MGT_LT_SEQ", 0xA00088, [], .single, .flash, [⟨31, 0, .ro, 0, false⟩]⟩,
  ⟨"MGT_LT_DEFER", 0xA0008C, [], .single, .flash, [⟨31, 0, .ro, 0, false⟩]⟩,
  ⟨"MGT_FUSE_SEL", 0xA000A0, [], .single, .cold, [⟨16, 16, .rw, 0, true⟩, ⟨11, 0, .rw, 0, true⟩]⟩,
  ⟨"MGT_FUSE_DATA", 0xA000A4, [], .single, .cold, [⟨31, 0, .ro, 0, true⟩]⟩,
  ⟨"CP_DOORBELL", 0x4000000, [(512, 0x10000)], .single, .context, [⟨31, 0, .wo, 0, false⟩]⟩,
  ⟨"CP_RING_HEAD", 0x4000004, [(512, 0x10000)], .single, .context, [⟨31, 0, .ro, 0, false⟩]⟩,
  ⟨"CP_STATUS", 0x4000008, [(512, 0x10000)], .single, .context, [⟨31, 28, .ro, 0, false⟩, ⟨23, 16, .ro, 0, false⟩, ⟨15, 8, .ro, 0, false⟩, ⟨7, 0, .ro, 0, false⟩]⟩,
  ⟨"CP_EVT_WR", 0x400000C, [(512, 0x10000)], .single, .context, [⟨31, 0, .ro, 0, false⟩]⟩,
  ⟨"CP_EVT_RD", 0x4000010, [(512, 0x10000)], .single, .context, [⟨31, 0, .rw, 0, false⟩]⟩,
  ⟨"CP_EVT_WM", 0x4000014, [(512, 0x10000)], .single, .context, [⟨6, 0, .rw, 48, false⟩]⟩,
  ⟨"CP_EVT_STATUS", 0x4000018, [(512, 0x10000)], .single, .context, [⟨3, 3, .w1c, 0, false⟩, ⟨2, 2, .ro, 0, false⟩, ⟨1, 1, .w1c, 0, false⟩, ⟨0, 0, .w1c, 0, false⟩]⟩,
  ⟨"CP_EVT_PEAK", 0x400001C, [(512, 0x10000)], .single, .context, [⟨6, 0, .ro, 0, false⟩]⟩,
  ⟨"CP_EVT_CROSS", 0x4000020, [(512, 0x10000)], .single, .context, [⟨31, 0, .rw, 0, false⟩]⟩,
  ⟨"CP_EVT_LOST", 0x4000024, [(512, 0x10000)], .single, .context, [⟨31, 0, .rw, 0, false⟩]⟩,
  ⟨"CP_CMD_CROSS", 0x4000028, [(512, 0x10000)], .single, .context, [⟨31, 0, .rw, 0, false⟩]⟩,
  ⟨"CP_ENERGY_LO", 0x4000030, [(512, 0x10000)], .low, .cold, [⟨31, 0, .ro, 0, false⟩]⟩,
  ⟨"CP_ENERGY_HI", 0x4000034, [(512, 0x10000)], .high, .cold, [⟨31, 0, .ro, 0, false⟩]⟩,
  ⟨"CP_NOW_LO", 0x4000038, [(512, 0x10000)], .low, .context, [⟨31, 0, .ro, 0, false⟩]⟩,
  ⟨"CP_NOW_HI", 0x400003C, [(512, 0x10000)], .high, .context, [⟨31, 0, .ro, 0, false⟩]⟩,
  ⟨"CP_SRKEY_LO", 0x4000040, [(512, 0x10000)], .low, .context, [⟨31, 0, .rw, 0, false⟩]⟩,
  ⟨"CP_SRKEY_HI", 0x4000044, [(512, 0x10000)], .high, .context, [⟨31, 0, .rw, 0, false⟩]⟩,
  ⟨"CP_CTL", 0x4000048, [(512, 0x10000)], .single, .context, [⟨0, 0, .wo, 0, false⟩]⟩]

/-- The register map. -/
def regMap : List RegSpec :=
  regRows0 ++ regRows1 ++ regRows2 ++ regRows3 ++ regRows4 ++ regRows5 ++ regRows6 ++ regRows7 ++ regRows8

/-- R4: offset of GLB_IDENT. -/
abbrev rGlbIdent : Nat := 0x0
/-- R4: offset of GLB_ARRAYS. -/
abbrev rGlbArrays : Nat := 0x4
/-- R4: offset of GLB_SITE_A. -/
abbrev rGlbSiteA : Nat := 0x8
/-- R4: offset of GLB_SITE_B. -/
abbrev rGlbSiteB : Nat := 0xC
/-- R4: offset of GLB_SITE_C. -/
abbrev rGlbSiteC : Nat := 0x10
/-- R4: offset of GLB_HOST_EN. -/
abbrev rGlbHostEn : Nat := 0x14
/-- R4: offset of GLB_FABRIC_EN. -/
abbrev rGlbFabricEn : Nat := 0x18
/-- R4: offset of GLB_MEM. -/
abbrev rGlbMem : Nat := 0x1C
/-- R340: offset of QTZ_NOW_LO (and _HI at + 4). -/
abbrev rQtzNow : Nat := 0x10000
/-- R340: offset of QTZ_STATUS. -/
abbrev rQtzStatus : Nat := 0x10008
/-- R340: offset of QTZ_CTL. -/
abbrev rQtzCtl : Nat := 0x1000C
/-- R340: offset of QTZ_SET_LO (and _HI at + 4). -/
abbrev rQtzSet : Nat := 0x10010
/-- R340: offset of QTZ_REF_A_PPM. -/
abbrev rQtzRefAPpm : Nat := 0x10018
/-- R340: offset of QTZ_REF_B_PPM. -/
abbrev rQtzRefBPpm : Nat := 0x1001C
/-- R340: offset of QTZ_REF_FLAGS. -/
abbrev rQtzRefFlags : Nat := 0x10020
/-- R340: offset of QTZ_REF_PEAK. -/
abbrev rQtzRefPeak : Nat := 0x10024
/-- R340: offset of QTZ_REF_CROSS. -/
abbrev rQtzRefCross : Nat := 0x10028
/-- R340: offset of QTZ_SWITCHES. -/
abbrev rQtzSwitches : Nat := 0x1002C
/-- R340: offset of QTZ_HOLDOVER_US_LO (and _HI at + 4). -/
abbrev rQtzHoldoverUs : Nat := 0x10030
/-- R340: offset of QTZ_ISL_LOCK_LO (and _HI at + 4). -/
abbrev rQtzIslLock : Nat := 0x10038
/-- R340: offset of QTZ_FAB_CTL. -/
abbrev rQtzFabCtl : Nat := 0x10040
/-- R340: offset of QTZ_FAB_STATUS. -/
abbrev rQtzFabStatus : Nat := 0x10044
/-- R340: offset of QTZ_FAB_OFS. -/
abbrev rQtzFabOfs : Nat := 0x10048
/-- R340: offset of QTZ_FLINT_STATUS. -/
abbrev rQtzFlintStatus : Nat := 0x10050
/-- R340: offset of QTZ_FLINT_TIME_LO (and _HI at + 4). -/
abbrev rQtzFlintTime : Nat := 0x10054
/-- R340: offset of QTZ_FLINT_CNT. -/
abbrev rQtzFlintCnt : Nat := 0x1005C
/-- R340: offset of QTZ_FLINT_INJECT. -/
abbrev rQtzFlintInject : Nat := 0x10060
/-- R340: offset of QTZ_SIG_FAULT_CNT. -/
abbrev rQtzSigFaultCnt : Nat := 0x10064
/-- R340: offset of QTZ_ISL_OFS. -/
abbrev rQtzIslOfs (p : Nat) : Nat := 0x10100 + 0x4 * p
/-- R483: offset of PWR_STATUS. -/
abbrev rPwrStatus : Nat := 0x20000
/-- R483: offset of PWR_CTL. -/
abbrev rPwrCtl : Nat := 0x20004
/-- R483: offset of PWR_TDP. -/
abbrev rPwrTdp : Nat := 0x20008
/-- R483: offset of PWR_CAP_GRANT. -/
abbrev rPwrCapGrant : Nat := 0x2000C
/-- R483: offset of PWR_CAP_EFF. -/
abbrev rPwrCapEff : Nat := 0x20010
/-- R483: offset of PWR_IN_V. -/
abbrev rPwrInV : Nat := 0x20014
/-- R483: offset of PWR_IN_I. -/
abbrev rPwrInI : Nat := 0x20018
/-- R483: offset of PWR_IN_P. -/
abbrev rPwrInP : Nat := 0x2001C
/-- R483: offset of PWR_RACK. -/
abbrev rPwrRack : Nat := 0x20020
/-- R483: offset of PWR_AGE. -/
abbrev rPwrAge : Nat := 0x20024
/-- R483: offset of PWR_MOD. -/
abbrev rPwrMod : Nat := 0x20028
/-- R483: offset of PWR_SCALE. -/
abbrev rPwrScale : Nat := 0x2002C
/-- R483: offset of PWR_ENERGY_IN_LO (and _HI at + 4). -/
abbrev rPwrEnergyIn : Nat := 0x20030
/-- R483: offset of PWR_ENERGY_DEV_LO (and _HI at + 4). -/
abbrev rPwrEnergyDev : Nat := 0x20038
/-- R483: offset of PWR_THR_LO (and _HI at + 4). -/
abbrev rPwrThr (p : Nat) : Nat := 0x20040 + 0x8 * p
/-- R483: offset of PWR_POOL_CTL. -/
abbrev rPwrPoolCtl : Nat := 0x20080
/-- R483: offset of PWR_POOL_ID. -/
abbrev rPwrPoolId : Nat := 0x20084
/-- R483: offset of PWR_POOL_BOUNDS. -/
abbrev rPwrPoolBounds : Nat := 0x20088
/-- R483: offset of PWR_POOL_LOAN. -/
abbrev rPwrPoolLoan : Nat := 0x2008C
/-- R483: offset of PWR_POOL_SLACK. -/
abbrev rPwrPoolSlack : Nat := 0x20090
/-- R483: offset of PWR_POOL_MEM. -/
abbrev rPwrPoolMem (p : Nat) : Nat := 0x20100 + 0x4 * p
/-- R483: offset of PWR_PART_CFG. -/
abbrev rPwrPartCfg (p : Nat) : Nat := 0x20200 + 0x8 * p
/-- R483: offset of PWR_PART_STATUS. -/
abbrev rPwrPartStatus (p : Nat) : Nat := 0x20204 + 0x8 * p
/-- R483: offset of PWR_THERM_CTL. -/
abbrev rPwrThermCtl : Nat := 0x20300
/-- R483: offset of PWR_THERM_MAX. -/
abbrev rPwrThermMax : Nat := 0x20304
/-- R483: offset of PWR_PROF_SEL. -/
abbrev rPwrProfSel : Nat := 0x20310
/-- R483: offset of PWR_PROF_DATA. -/
abbrev rPwrProfData : Nat := 0x20314
/-- R483: offset of PWR_ARY. -/
abbrev rPwrAry (p : Nat) : Nat := 0x20400 + 0x4 * p
/-- R483: offset of PWR_TEMP. -/
abbrev rPwrTemp (p : Nat) : Nat := 0x21000 + 0x4 * p
/-- R483: offset of PWR_DOM. -/
abbrev rPwrDom (p : Nat) : Nat := 0x28000 + 0x10 * p
/-- R483: offset of PWR_VMIN. -/
abbrev rPwrVmin (p : Nat) : Nat := 0x28004 + 0x10 * p
/-- R483: offset of PWR_VMIN_TIME_LO (and _HI at + 4). -/
abbrev rPwrVminTime (p : Nat) : Nat := 0x28008 + 0x10 * p
/-- R372: offset of CHK_CTX_CTL. -/
abbrev rChkCtxCtl (p : Nat) : Nat := 0x40000 + 0x40 * p
/-- R372: offset of CHK_CTX_STATUS. -/
abbrev rChkCtxStatus (p : Nat) : Nat := 0x40004 + 0x40 * p
/-- R372: offset of CHK_CTX_SEED_LO (and _HI at + 4). -/
abbrev rChkCtxSeed (p : Nat) : Nat := 0x40008 + 0x40 * p
/-- R372: offset of CHK_CTX_RING. -/
abbrev rChkCtxRing (p : Nat) : Nat := 0x40010 + 0x40 * p
/-- R372: offset of CHK_CTX_DWIN. -/
abbrev rChkCtxDwin (p : Nat) : Nat := 0x40014 + 0x40 * p
/-- R372: offset of CHK_CTX_RTAB_LO (and _HI at + 4). -/
abbrev rChkCtxRtab (p : Nat) : Nat := 0x40018 + 0x40 * p
/-- R372: offset of CHK_CTX_WDIG_LO (and _HI at + 4). -/
abbrev rChkCtxWdig (p : Nat) : Nat := 0x40020 + 0x40 * p
/-- R372: offset of CHK_CTX_STEP. -/
abbrev rChkCtxStep (p : Nat) : Nat := 0x40028 + 0x40 * p
/-- R372: offset of CHK_CTX_AGREED. -/
abbrev rChkCtxAgreed (p : Nat) : Nat := 0x4002C + 0x40 * p
/-- R372: offset of CHK_CTX_REPLAYS. -/
abbrev rChkCtxReplays (p : Nat) : Nat := 0x40030 + 0x40 * p
/-- R372: offset of CHK_CTX_DISAGREE. -/
abbrev rChkCtxDisagree (p : Nat) : Nat := 0x40034 + 0x40 * p
/-- R372: offset of CHK_CTX_RDIG_LO (and _HI at + 4). -/
abbrev rChkCtxRdig (p : Nat) : Nat := 0x40038 + 0x40 * p
/-- R373: offset of CHK_ARRAY. -/
abbrev rChkArray (p : Nat) : Nat := 0x48000 + 0x4 * p
/-- R373: offset of CHK_CFG. -/
abbrev rChkCfg : Nat := 0x4804C
/-- R373: offset of CHK_REPLAYS_LO (and _HI at + 4). -/
abbrev rChkReplays : Nat := 0x48050
/-- R373: offset of CHK_RESOLVED. -/
abbrev rChkResolved : Nat := 0x48058
/-- R373: offset of CHK_UNRESOLVED. -/
abbrev rChkUnresolved : Nat := 0x4805C
/-- R373: offset of CHK_QUARANTINES. -/
abbrev rChkQuarantines : Nat := 0x48060
/-- R373: offset of CHK_RDE_CTL. -/
abbrev rChkRdeCtl : Nat := 0x48100
/-- R373: offset of CHK_RDE_VA_LO (and _HI at + 4). -/
abbrev rChkRdeVa : Nat := 0x48104
/-- R373: offset of CHK_RDE_LEN_LO (and _HI at + 4). -/
abbrev rChkRdeLen : Nat := 0x4810C
/-- R373: offset of CHK_RDE_RES_LO (and _HI at + 4). -/
abbrev rChkRdeRes : Nat := 0x48114
/-- R373: offset of CHK_RDE_INTERVAL. -/
abbrev rChkRdeInterval : Nat := 0x4811C
/-- R373: offset of CHK_PYR_CTL. -/
abbrev rChkPyrCtl : Nat := 0x48200
/-- R373: offset of CHK_PYR_STATUS. -/
abbrev rChkPyrStatus : Nat := 0x48204
/-- R373: offset of CHK_PYR_VERSION. -/
abbrev rChkPyrVersion : Nat := 0x48208
/-- R373: offset of CHK_PYR_FAIL. -/
abbrev rChkPyrFail : Nat := 0x4820C
/-- R373: offset of CHK_KAK_CTL. -/
abbrev rChkKakCtl : Nat := 0x48300
/-- R373: offset of CHK_KAK_STATUS. -/
abbrev rChkKakStatus : Nat := 0x48304
/-- R403: offset of DSP_CTX_CTL. -/
abbrev rDspCtxCtl (p : Nat) : Nat := 0x80000 + 0x100 * p
/-- R403: offset of DSP_CTX_RING_LO (and _HI at + 4). -/
abbrev rDspCtxRing (p : Nat) : Nat := 0x80004 + 0x100 * p
/-- R403: offset of DSP_CTX_EVT_LO (and _HI at + 4). -/
abbrev rDspCtxEvt (p : Nat) : Nat := 0x8000C + 0x100 * p
/-- R403: offset of DSP_CTX_BW. -/
abbrev rDspCtxBw (p : Nat) : Nat := 0x80014 + 0x100 * p
/-- R403: offset of DSP_CTX_BWMIN. -/
abbrev rDspCtxBwmin (p : Nat) : Nat := 0x80018 + 0x100 * p
/-- R403: offset of DSP_CTX_FUNC. -/
abbrev rDspCtxFunc (p : Nat) : Nat := 0x8001C + 0x100 * p
/-- R403: offset of DSP_CTX_SAVE_LO (and _HI at + 4). -/
abbrev rDspCtxSave (p : Nat) : Nat := 0x80020 + 0x100 * p
/-- R403: offset of DSP_CTX_SRKEY_LO (and _HI at + 4). -/
abbrev rDspCtxSrkey (p : Nat) : Nat := 0x80028 + 0x100 * p
/-- R403: offset of DSP_CTX_ENERGY_LO (and _HI at + 4). -/
abbrev rDspCtxEnergy (p : Nat) : Nat := 0x80030 + 0x100 * p
/-- R403: offset of DSP_CTX_RUNTIME_LO (and _HI at + 4). -/
abbrev rDspCtxRuntime (p : Nat) : Nat := 0x80038 + 0x100 * p
/-- R403: offset of DSP_CTX_FETCH. -/
abbrev rDspCtxFetch (p : Nat) : Nat := 0x80040 + 0x100 * p
/-- R403: offset of DSP_CTX_REWIND. -/
abbrev rDspCtxRewind (p : Nat) : Nat := 0x80044 + 0x100 * p
/-- R403: offset of DSP_CTX_SWITCHES. -/
abbrev rDspCtxSwitches (p : Nat) : Nat := 0x80048 + 0x100 * p
/-- R403: offset of DSP_CTX_STALE. -/
abbrev rDspCtxStale (p : Nat) : Nat := 0x8004C + 0x100 * p
/-- R403: offset of DSP_CTX_ABORTS. -/
abbrev rDspCtxAborts (p : Nat) : Nat := 0x80050 + 0x100 * p
/-- R404: offset of DSP_PART_CTL. -/
abbrev rDspPartCtl (p : Nat) : Nat := 0xA0000 + 0x20 * p
/-- R404: offset of DSP_PART_GRACE. -/
abbrev rDspPartGrace (p : Nat) : Nat := 0xA0004 + 0x20 * p
/-- R404: offset of DSP_PART_ENERGY_LO (and _HI at + 4). -/
abbrev rDspPartEnergy (p : Nat) : Nat := 0xA0008 + 0x20 * p
/-- R404: offset of DSP_DEV_EVT_LO (and _HI at + 4). -/
abbrev rDspDevEvt : Nat := 0xA1000
/-- R404: offset of DSP_DEV_EVT_WR. -/
abbrev rDspDevEvtWr : Nat := 0xA1008
/-- R404: offset of DSP_DEV_EVT_RD. -/
abbrev rDspDevEvtRd : Nat := 0xA100C
/-- R404: offset of DSP_DEV_EVT_WM. -/
abbrev rDspDevEvtWm : Nat := 0xA1010
/-- R404: offset of DSP_DEV_EVT_STATUS. -/
abbrev rDspDevEvtStatus : Nat := 0xA1014
/-- R404: offset of DSP_DEV_EVT_PEAK. -/
abbrev rDspDevEvtPeak : Nat := 0xA1018
/-- R404: offset of DSP_DEV_EVT_CROSS. -/
abbrev rDspDevEvtCross : Nat := 0xA101C
/-- R404: offset of DSP_STATUS. -/
abbrev rDspStatus : Nat := 0xA1020
/-- R276: offset of MMU_ROOT_LO (and _HI at + 4). -/
abbrev rMmuRoot (p : Nat) : Nat := 0x100000 + 0x8 * p
/-- R276: offset of MMU_APT_LO (and _HI at + 4). -/
abbrev rMmuApt (p : Nat) : Nat := 0x101000 + 0x8 * p
/-- R276: offset of MMU_ALLOC_ES. -/
abbrev rMmuAllocEs (p : Nat) : Nat := 0x102000 + 0x10 * p
/-- R276: offset of MMU_ALLOC_SL. -/
abbrev rMmuAllocSl (p : Nat) : Nat := 0x102004 + 0x10 * p
/-- R276: offset of MMU_ALLOC_PARK. -/
abbrev rMmuAllocPark (p : Nat) : Nat := 0x102008 + 0x10 * p
/-- R276: offset of MMU_INV. -/
abbrev rMmuInv : Nat := 0x104000
/-- R276: offset of MMU_INV_VA_LO (and _HI at + 4). -/
abbrev rMmuInvVa : Nat := 0x104004
/-- R276: offset of MMU_INV_PAGES. -/
abbrev rMmuInvPages : Nat := 0x10400C
/-- R276: offset of MMU_INV_STATUS. -/
abbrev rMmuInvStatus : Nat := 0x104010
/-- R276: offset of MMU_FAULT_RESUME. -/
abbrev rMmuFaultResume : Nat := 0x104020
/-- R276: offset of MMU_STALLED. -/
abbrev rMmuStalled (p : Nat) : Nat := 0x104040 + 0x4 * p
/-- R276: offset of MMU_SCRUB. -/
abbrev rMmuScrub : Nat := 0x104080
/-- R276: offset of MMU_HBM_CAP_LO (and _HI at + 4). -/
abbrev rMmuHbmCap : Nat := 0x104090
/-- R276: offset of MMU_HBM_RET_LO (and _HI at + 4). -/
abbrev rMmuHbmRet (p : Nat) : Nat := 0x105000 + 0x20 * p
/-- R276: offset of MMU_HBM_PEND_LO (and _HI at + 4). -/
abbrev rMmuHbmPend (p : Nat) : Nat := 0x105008 + 0x20 * p
/-- R276: offset of MMU_HBM_CE. -/
abbrev rMmuHbmCe (p : Nat) : Nat := 0x105010 + 0x20 * p
/-- R276: offset of MMU_HBM_UE. -/
abbrev rMmuHbmUe (p : Nat) : Nat := 0x105014 + 0x20 * p
/-- R276: offset of MMU_HBM_SPARED. -/
abbrev rMmuHbmSpared (p : Nat) : Nat := 0x105018 + 0x20 * p
/-- R123: offset of ARY_STATUS. -/
abbrev rAryStatus (p : Nat) : Nat := 0x200000 + 0x10000 * p
/-- R123: offset of ARY_TILE_STATUS. -/
abbrev rAryTileStatus (p : Nat) (q : Nat) : Nat := 0x200010 + 0x10000 * p + 0x4 * q
/-- R123: offset of ARY_TILE_OSN. -/
abbrev rAryTileOsn (p : Nat) (q : Nat) : Nat := 0x200020 + 0x10000 * p + 0x4 * q
/-- R123: offset of ARY_WIT_CTL. -/
abbrev rAryWitCtl (p : Nat) : Nat := 0x200030 + 0x10000 * p
/-- R123: offset of ARY_WIT_DELTA. -/
abbrev rAryWitDelta (p : Nat) : Nat := 0x200034 + 0x10000 * p
/-- R123: offset of ARY_WIT_ROW. -/
abbrev rAryWitRow (p : Nat) : Nat := 0x200038 + 0x10000 * p
/-- R123: offset of ARY_WIT_FAIL_CNT. -/
abbrev rAryWitFailCnt (p : Nat) : Nat := 0x20003C + 0x10000 * p
/-- R123: offset of ARY_PASS_CNT_LO (and _HI at + 4). -/
abbrev rAryPassCnt (p : Nat) : Nat := 0x200040 + 0x10000 * p
/-- R123: offset of ARY_STALL_LO (and _HI at + 4). -/
abbrev rAryStall (p : Nat) (q : Nat) : Nat := 0x200050 + 0x10000 * p + 0x8 * q
/-- R123: offset of ARY_GANG. -/
abbrev rAryGang (p : Nat) : Nat := 0x200090 + 0x10000 * p
/-- R123: offset of ARY_PARK_OCC. -/
abbrev rAryParkOcc (p : Nat) (q : Nat) : Nat := 0x200100 + 0x10000 * p + 0x4 * q
/-- R155: offset of ARY_CM_STATUS. -/
abbrev rAryCmStatus (p : Nat) : Nat := 0x200200 + 0x10000 * p
/-- R155: offset of ARY_CM_FAULT. -/
abbrev rAryCmFault (p : Nat) : Nat := 0x200204 + 0x10000 * p
/-- R155: offset of ARY_CM_FAULT_INSN. -/
abbrev rAryCmFaultInsn (p : Nat) : Nat := 0x200208 + 0x10000 * p
/-- R155: offset of ARY_CM_RUNS. -/
abbrev rAryCmRuns (p : Nat) : Nat := 0x20020C + 0x10000 * p
/-- R188: offset of ARY_VE_STATUS. -/
abbrev rAryVeStatus (p : Nat) : Nat := 0x200300 + 0x10000 * p
/-- R188: offset of ARY_VE_FAULT. -/
abbrev rAryVeFault (p : Nat) : Nat := 0x200304 + 0x10000 * p
/-- R188: offset of ARY_VE_FAULT_ELEM_LO (and _HI at + 4). -/
abbrev rAryVeFaultElem (p : Nat) : Nat := 0x200308 + 0x10000 * p
/-- R188: offset of ARY_VE_QREPORT. -/
abbrev rAryVeQreport (p : Nat) : Nat := 0x200310 + 0x10000 * p
/-- R188: offset of ARY_VE_CHAINS. -/
abbrev rAryVeChains (p : Nat) : Nat := 0x200314 + 0x10000 * p
/-- R188: offset of ARY_VE_ELEMS_LO (and _HI at + 4). -/
abbrev rAryVeElems (p : Nat) : Nat := 0x200318 + 0x10000 * p
/-- R188: offset of ARY_VE_STALL_LO (and _HI at + 4). -/
abbrev rAryVeStall (p : Nat) : Nat := 0x200320 + 0x10000 * p
/-- R231: offset of ARY_AC_STATUS. -/
abbrev rAryAcStatus (p : Nat) : Nat := 0x200400 + 0x10000 * p
/-- R231: offset of ARY_AC_PC_LO (and _HI at + 4). -/
abbrev rAryAcPc (p : Nat) : Nat := 0x200404 + 0x10000 * p
/-- R231: offset of ARY_AC_FAULT. -/
abbrev rAryAcFault (p : Nat) : Nat := 0x20040C + 0x10000 * p
/-- R231: offset of ARY_AC_FAULT_PC_LO (and _HI at + 4). -/
abbrev rAryAcFaultPc (p : Nat) : Nat := 0x200410 + 0x10000 * p
/-- R231: offset of ARY_AC_FAULT_INSN. -/
abbrev rAryAcFaultInsn (p : Nat) (q : Nat) : Nat := 0x200418 + 0x10000 * p + 0x4 * q
/-- R231: offset of ARY_AC_QUEUES. -/
abbrev rAryAcQueues (p : Nat) : Nat := 0x200420 + 0x10000 * p
/-- R231: offset of ARY_AC_RETIRED_LO (and _HI at + 4). -/
abbrev rAryAcRetired (p : Nat) : Nat := 0x200428 + 0x10000 * p
/-- R231: offset of ARY_AC_STALL_LO (and _HI at + 4). -/
abbrev rAryAcStall (p : Nat) (q : Nat) : Nat := 0x200430 + 0x10000 * p + 0x8 * q
/-- R231: offset of ARY_AC_FAULT_CNT. -/
abbrev rAryAcFaultCnt (p : Nat) : Nat := 0x200470 + 0x10000 * p
/-- R277: offset of ARY_WIN_OPEN_LO (and _HI at + 4). -/
abbrev rAryWinOpen (p : Nat) : Nat := 0x200500 + 0x10000 * p
/-- R277: offset of ARY_WIN_REFUSED. -/
abbrev rAryWinRefused (p : Nat) : Nat := 0x200508 + 0x10000 * p
/-- R277: offset of ARY_ES_CE. -/
abbrev rAryEsCe (p : Nat) : Nat := 0x200510 + 0x10000 * p
/-- R277: offset of ARY_ES_UE. -/
abbrev rAryEsUe (p : Nat) : Nat := 0x200514 + 0x10000 * p
/-- R277: offset of ARY_SL_CE. -/
abbrev rArySlCe (p : Nat) : Nat := 0x200518 + 0x10000 * p
/-- R277: offset of ARY_SL_UE. -/
abbrev rArySlUe (p : Nat) : Nat := 0x20051C + 0x10000 * p
/-- R341: offset of ARY_CLK_STATUS. -/
abbrev rAryClkStatus (p : Nat) : Nat := 0x200600 + 0x10000 * p
/-- R341: offset of ARY_CLK_STRETCH_LO (and _HI at + 4). -/
abbrev rAryClkStretch (p : Nat) : Nat := 0x200604 + 0x10000 * p
/-- R341: offset of ARY_CLK_DROOP. -/
abbrev rAryClkDroop (p : Nat) : Nat := 0x20060C + 0x10000 * p
/-- R341: offset of ARY_SYNC_NZ_LO (and _HI at + 4). -/
abbrev rArySyncNz (p : Nat) : Nat := 0x200610 + 0x10000 * p
/-- R341: offset of ARY_SYNC_CORE_NZ. -/
abbrev rArySyncCoreNz (p : Nat) : Nat := 0x200618 + 0x10000 * p
/-- R374: offset of ARY_CHK_STATUS. -/
abbrev rAryChkStatus (p : Nat) : Nat := 0x200700 + 0x10000 * p
/-- R374: offset of ARY_CM_DIGEST_LO (and _HI at + 4). -/
abbrev rAryCmDigest (p : Nat) : Nat := 0x200708 + 0x10000 * p
/-- R374: offset of ARY_WDIG_LO (and _HI at + 4). -/
abbrev rAryWdig (p : Nat) : Nat := 0x200710 + 0x10000 * p
/-- R374: offset of ARY_TILE_HASH_LO (and _HI at + 4). -/
abbrev rAryTileHash (p : Nat) : Nat := 0x200718 + 0x10000 * p
/-- R444: offset of FAB_PORT_STATUS. -/
abbrev rFabPortStatus (p : Nat) : Nat := 0x400000 + 0x1000 * p
/-- R444: offset of FAB_PORT_CTL. -/
abbrev rFabPortCtl (p : Nat) : Nat := 0x400004 + 0x1000 * p
/-- R444: offset of FAB_PORT_PEER. -/
abbrev rFabPortPeer (p : Nat) : Nat := 0x400008 + 0x1000 * p
/-- R444: offset of FAB_PORT_FEC_CW_LO (and _HI at + 4). -/
abbrev rFabPortFecCw (p : Nat) : Nat := 0x400010 + 0x1000 * p
/-- R444: offset of FAB_PORT_FEC_UNC. -/
abbrev rFabPortFecUnc (p : Nat) : Nat := 0x400018 + 0x1000 * p
/-- R444: offset of FAB_PORT_REPLAY. -/
abbrev rFabPortReplay (p : Nat) : Nat := 0x40001C + 0x1000 * p
/-- R444: offset of FAB_PORT_FAIL. -/
abbrev rFabPortFail (p : Nat) : Nat := 0x400020 + 0x1000 * p
/-- R444: offset of FAB_PORT_OUT. -/
abbrev rFabPortOut (p : Nat) : Nat := 0x400024 + 0x1000 * p
/-- R444: offset of FAB_PORT_TX_LO (and _HI at + 4). -/
abbrev rFabPortTx (p : Nat) : Nat := 0x400028 + 0x1000 * p
/-- R444: offset of FAB_PORT_RX_LO (and _HI at + 4). -/
abbrev rFabPortRx (p : Nat) : Nat := 0x400030 + 0x1000 * p
/-- R444: offset of FAB_SCHED_CTL. -/
abbrev rFabSchedCtl (p : Nat) : Nat := 0x400040 + 0x1000 * p
/-- R444: offset of FAB_SCHED_T0_LO (and _HI at + 4). -/
abbrev rFabSchedT0 (p : Nat) : Nat := 0x400044 + 0x1000 * p
/-- R444: offset of FAB_SCHED_PERIOD_LO (and _HI at + 4). -/
abbrev rFabSchedPeriod (p : Nat) : Nat := 0x40004C + 0x1000 * p
/-- R444: offset of FAB_SCHED_SKIP. -/
abbrev rFabSchedSkip (p : Nat) : Nat := 0x400054 + 0x1000 * p
/-- R444: offset of FAB_SQ_SEL. -/
abbrev rFabSqSel (p : Nat) (q : Nat) : Nat := 0x400100 + 0x1000 * p + 0x4 * q
/-- R444: offset of FAB_ROUTE. -/
abbrev rFabRoute (p : Nat) : Nat := 0x440000 + 0x4 * p
/-- R444: offset of FAB_NODE. -/
abbrev rFabNode : Nat := 0x460000
/-- R444: offset of FAB_FM_NODE. -/
abbrev rFabFmNode : Nat := 0x460004
/-- R444: offset of FAB_CTL. -/
abbrev rFabCtl : Nat := 0x460008
/-- R444: offset of FAB_TOUT. -/
abbrev rFabTout : Nat := 0x46000C
/-- R444: offset of FAB_TRANSIT. -/
abbrev rFabTransit : Nat := 0x460010
/-- R444: offset of FAB_ABORT. -/
abbrev rFabAbort : Nat := 0x460014
/-- R444: offset of FAB_REISSUED. -/
abbrev rFabReissued : Nat := 0x460020
/-- R444: offset of FAB_TIMEOUTS. -/
abbrev rFabTimeouts : Nat := 0x460024
/-- R444: offset of FAB_LINKLOST. -/
abbrev rFabLinklost : Nat := 0x460028
/-- R444: offset of FAB_LATE. -/
abbrev rFabLate : Nat := 0x46002C
/-- R444: offset of FAB_DUPS. -/
abbrev rFabDups : Nat := 0x460030
/-- R444: offset of FAB_UNROUTABLE. -/
abbrev rFabUnroutable : Nat := 0x460034
/-- R444: offset of FAB_CTX_JOB. -/
abbrev rFabCtxJob (p : Nat) : Nat := 0x461000 + 0x8 * p
/-- R444: offset of FAB_CTX_JOBCTL. -/
abbrev rFabCtxJobctl (p : Nat) : Nat := 0x461004 + 0x8 * p
/-- R444: offset of FAB_SCHED_ENT_LO (and _HI at + 4). -/
abbrev rFabSchedEnt (p : Nat) (q : Nat) : Nat := 0x480000 + 0x8000 * p + 0x8 * q
/-- R445: offset of HST_STATUS. -/
abbrev rHstStatus (p : Nat) : Nat := 0x600000 + 0x10000 * p
/-- R445: offset of HST_ID. -/
abbrev rHstId (p : Nat) : Nat := 0x600004 + 0x10000 * p
/-- R445: offset of HST_VF_BUDGET. -/
abbrev rHstVfBudget (p : Nat) : Nat := 0x600008 + 0x10000 * p
/-- R445: offset of HST_NP_OUT. -/
abbrev rHstNpOut (p : Nat) : Nat := 0x60000C + 0x10000 * p
/-- R445: offset of HST_CPL_TOUT. -/
abbrev rHstCplTout (p : Nat) : Nat := 0x600010 + 0x10000 * p
/-- R445: offset of HST_CPL_ERR. -/
abbrev rHstCplErr (p : Nat) : Nat := 0x600014 + 0x10000 * p
/-- R445: offset of HST_LINK_DOWN. -/
abbrev rHstLinkDown (p : Nat) : Nat := 0x600018 + 0x10000 * p
/-- R445: offset of HST_CE. -/
abbrev rHstCe (p : Nat) : Nat := 0x60001C + 0x10000 * p
/-- R445: offset of HST_POISON_RX. -/
abbrev rHstPoisonRx (p : Nat) : Nat := 0x600020 + 0x10000 * p
/-- R445: offset of HST_POISON_TX. -/
abbrev rHstPoisonTx (p : Nat) : Nat := 0x600024 + 0x10000 * p
/-- R445: offset of HST_ATC_INV. -/
abbrev rHstAtcInv (p : Nat) : Nat := 0x600028 + 0x10000 * p
/-- R445: offset of HST_ATC_MISS. -/
abbrev rHstAtcMiss (p : Nat) : Nat := 0x60002C + 0x10000 * p
/-- R445: offset of HST_UCIE. -/
abbrev rHstUcie (p : Nat) : Nat := 0x600030 + 0x10000 * p
/-- R445: offset of HST_UNBOUND. -/
abbrev rHstUnbound (p : Nat) : Nat := 0x600034 + 0x10000 * p
/-- R445: offset of HST_TX_LO (and _HI at + 4). -/
abbrev rHstTx (p : Nat) : Nat := 0x600038 + 0x10000 * p
/-- R445: offset of HST_RX_LO (and _HI at + 4). -/
abbrev rHstRx (p : Nat) : Nat := 0x600040 + 0x10000 * p
/-- R514: offset of BRP_STATUS. -/
abbrev rBrpStatus : Nat := 0x800000
/-- R514: offset of BRP_CTL. -/
abbrev rBrpCtl : Nat := 0x800004
/-- R514: offset of BRP_BOOT. -/
abbrev rBrpBoot : Nat := 0x800008
/-- R514: offset of BRP_SINCE_FULL. -/
abbrev rBrpSinceFull : Nat := 0x80000C
/-- R514: offset of BRP_RESET. -/
abbrev rBrpReset : Nat := 0x800010
/-- R514: offset of BRP_RPT_SEL. -/
abbrev rBrpRptSel : Nat := 0x800020
/-- R514: offset of BRP_RPT_DATA. -/
abbrev rBrpRptData : Nat := 0x800024
/-- R514: offset of BRP_MAP. -/
abbrev rBrpMap (p : Nat) : Nat := 0x800100 + 0x4 * p
/-- R514: offset of BRP_ARY_GEN. -/
abbrev rBrpAryGen (p : Nat) : Nat := 0x800200 + 0x8 * p
/-- R514: offset of BRP_ARY_STALE. -/
abbrev rBrpAryStale (p : Nat) : Nat := 0x800204 + 0x8 * p
/-- R514: offset of BRP_REP_SEL. -/
abbrev rBrpRepSel : Nat := 0x800300
/-- R514: offset of BRP_REP_ROW. -/
abbrev rBrpRepRow : Nat := 0x800304
/-- R514: offset of BRP_REP_SKIP_LO (and _HI at + 4). -/
abbrev rBrpRepSkip : Nat := 0x800308
/-- R514: offset of BRP_REP_CMD. -/
abbrev rBrpRepCmd : Nat := 0x800310
/-- R514: offset of BRP_REP_ARG. -/
abbrev rBrpRepArg (p : Nat) : Nat := 0x800314 + 0x4 * p
/-- R514: offset of BRP_REP_STATUS. -/
abbrev rBrpRepStatus : Nat := 0x800320
/-- R514: offset of BRP_LOG_STATUS. -/
abbrev rBrpLogStatus : Nat := 0x800400
/-- R514: offset of BRP_LOG_SEL. -/
abbrev rBrpLogSel : Nat := 0x800404
/-- R514: offset of BRP_LOG_DATA. -/
abbrev rBrpLogData (p : Nat) : Nat := 0x800408 + 0x4 * p
/-- R514: offset of BRP_SEAM. -/
abbrev rBrpSeam (p : Nat) : Nat := 0x800500 + 0x4 * p
/-- R514: offset of BRP_DBG_SEL. -/
abbrev rBrpDbgSel : Nat := 0x800600
/-- R514: offset of BRP_DBG_DATA. -/
abbrev rBrpDbgData : Nat := 0x800604
/-- R514: offset of BRP_DBG_STATUS. -/
abbrev rBrpDbgStatus : Nat := 0x800608
/-- R514: offset of BRP_HANG_CTL. -/
abbrev rBrpHangCtl : Nat := 0x800700
/-- R514: offset of BRP_HANG_CNT. -/
abbrev rBrpHangCnt : Nat := 0x800704
/-- R514: offset of BRP_WDOG_CNT. -/
abbrev rBrpWdogCnt : Nat := 0x800708
/-- R514: offset of BRP_DSP. -/
abbrev rBrpDsp : Nat := 0x80070C
/-- R514: offset of BRP_MGB. -/
abbrev rBrpMgb : Nat := 0x800710
/-- R514: offset of BRP_WDOG. -/
abbrev rBrpWdog (p : Nat) : Nat := 0x810000 + 0x4 * p
/-- R547: offset of MGT_STATUS. -/
abbrev rMgtStatus : Nat := 0xA00000
/-- R547: offset of MGT_OWNER. -/
abbrev rMgtOwner : Nat := 0xA00004
/-- R547: offset of MGT_OWNER_ID_LO (and _HI at + 4). -/
abbrev rMgtOwnerId : Nat := 0xA00008
/-- R547: offset of MGT_CLAIM_ID_LO (and _HI at + 4). -/
abbrev rMgtClaimId : Nat := 0xA00010
/-- R547: offset of MGT_CLAIM_CTL. -/
abbrev rMgtClaimCtl : Nat := 0xA00018
/-- R547: offset of MGT_CLAIM_NODE. -/
abbrev rMgtClaimNode : Nat := 0xA0001C
/-- R547: offset of MGT_LEASE. -/
abbrev rMgtLease : Nat := 0xA00020
/-- R547: offset of MGT_FW_CTL. -/
abbrev rMgtFwCtl : Nat := 0xA00030
/-- R547: offset of MGT_FW_VER_A. -/
abbrev rMgtFwVerA : Nat := 0xA00034
/-- R547: offset of MGT_FW_VER_B. -/
abbrev rMgtFwVerB : Nat := 0xA00038
/-- R547: offset of MGT_FW_SVN. -/
abbrev rMgtFwSvn : Nat := 0xA0003C
/-- R547: offset of MGT_FW_TRIAL_MS. -/
abbrev rMgtFwTrialMs : Nat := 0xA00040
/-- R547: offset of MGT_LIB_BASE_LO (and _HI at + 4). -/
abbrev rMgtLibBase : Nat := 0xA00048
/-- R547: offset of MGT_LIB_ATTN. -/
abbrev rMgtLibAttn : Nat := 0xA00050
/-- R547: offset of MGT_I3C_A. -/
abbrev rMgtI3cA : Nat := 0xA00060
/-- R547: offset of MGT_I3C_B. -/
abbrev rMgtI3cB : Nat := 0xA00064
/-- R547: offset of MGT_EID. -/
abbrev rMgtEid : Nat := 0xA00068
/-- R547: offset of MGT_EVT_FWD. -/
abbrev rMgtEvtFwd : Nat := 0xA00070
/-- R547: offset of MGT_LT_SEL. -/
abbrev rMgtLtSel : Nat := 0xA00080
/-- R547: offset of MGT_LT_DATA. -/
abbrev rMgtLtData : Nat := 0xA00084
/-- R547: offset of MGT_LT_SEQ. -/
abbrev rMgtLtSeq : Nat := 0xA00088
/-- R547: offset of MGT_LT_DEFER. -/
abbrev rMgtLtDefer : Nat := 0xA0008C
/-- R547: offset of MGT_FUSE_SEL. -/
abbrev rMgtFuseSel : Nat := 0xA000A0
/-- R547: offset of MGT_FUSE_DATA. -/
abbrev rMgtFuseData : Nat := 0xA000A4
/-- R405: offset of CP_DOORBELL. -/
abbrev rCpDoorbell (p : Nat) : Nat := 0x4000000 + 0x10000 * p
/-- R405: offset of CP_RING_HEAD. -/
abbrev rCpRingHead (p : Nat) : Nat := 0x4000004 + 0x10000 * p
/-- R405: offset of CP_STATUS. -/
abbrev rCpStatus (p : Nat) : Nat := 0x4000008 + 0x10000 * p
/-- R405: offset of CP_EVT_WR. -/
abbrev rCpEvtWr (p : Nat) : Nat := 0x400000C + 0x10000 * p
/-- R405: offset of CP_EVT_RD. -/
abbrev rCpEvtRd (p : Nat) : Nat := 0x4000010 + 0x10000 * p
/-- R405: offset of CP_EVT_WM. -/
abbrev rCpEvtWm (p : Nat) : Nat := 0x4000014 + 0x10000 * p
/-- R405: offset of CP_EVT_STATUS. -/
abbrev rCpEvtStatus (p : Nat) : Nat := 0x4000018 + 0x10000 * p
/-- R405: offset of CP_EVT_PEAK. -/
abbrev rCpEvtPeak (p : Nat) : Nat := 0x400001C + 0x10000 * p
/-- R405: offset of CP_EVT_CROSS. -/
abbrev rCpEvtCross (p : Nat) : Nat := 0x4000020 + 0x10000 * p
/-- R405: offset of CP_EVT_LOST. -/
abbrev rCpEvtLost (p : Nat) : Nat := 0x4000024 + 0x10000 * p
/-- R405: offset of CP_CMD_CROSS. -/
abbrev rCpCmdCross (p : Nat) : Nat := 0x4000028 + 0x10000 * p
/-- R405: offset of CP_ENERGY_LO (and _HI at + 4). -/
abbrev rCpEnergy (p : Nat) : Nat := 0x4000030 + 0x10000 * p
/-- R405: offset of CP_NOW_LO (and _HI at + 4). -/
abbrev rCpNow (p : Nat) : Nat := 0x4000038 + 0x10000 * p
/-- R405: offset of CP_SRKEY_LO (and _HI at + 4). -/
abbrev rCpSrkey (p : Nat) : Nat := 0x4000040 + 0x10000 * p
/-- R405: offset of CP_CTL. -/
abbrev rCpCtl (p : Nat) : Nat := 0x4000048 + 0x10000 * p

end Sys2Proof.Machine
end

