-- ==== Sys2Proof/Machine/StateArray.lean ====
section
/-!
DEFINITION. The state of one physical array: its controller (R189), command queues, stationary sets and park slots
(R75 to R91), staging slots (R101 to R107), vector engine, DMA engine, windows and clock island.
-/
namespace Sys2Proof.Machine

/-- A stationary block in register form: its columns as (element code, scale code) pairs in K order (R75, R85), the
extents, format, owner and generation, and its weight-digest contribution (R205). src: the byte ranges it came from (for a
park slot's entry, its scale region); desc, scaleVa: the descriptor and scale region it was read with; fromSlot: it came
from a park slot. omega, vsum: its witness weights, computed once as it was loaded: for each contraction position, and for each column,
one residue for each part of the format (R109). -/
structure Block where
  fmt : Fmt
  k : Nat
  n : Nat
  cols : List (List (Nat × Nat))
  ctx : Nat
  gen : Nat
  digest : Nat
  src : List (Nat × Nat)
  desc : BitVec 512
  scaleVa : Nat
  fromSlot : Option Nat
  omega : List (List Nat)
  vsum : List (List Nat)
  deriving DecidableEq, Repr

/-- A drain configuration set by drain (R207): descriptors as 512-bit values, and the numbers of the registers they came from (R228).
acc: 0 none, 1 acc.m, 2 acc.d. -/
structure DrainSet where
  dO : BitVec 512
  dI : BitVec 512
  fmt : Fmt
  rnd : Rnd
  sat : Bool
  acc : Nat
  chain : Bool
  rO : Nat := 0xFF
  rI : Nat := 0xFF
  deriving DecidableEq, Repr

/-- A gang configuration (R210): split 0 none, 1 M, 2 N, 3 K; region is the descriptor that receives level transfers. -/
structure GangSet where
  log2 : Nat
  split : Nat
  stagger : Nat
  region : BitVec 512
  deriving DecidableEq, Repr

/-- R190: the gang configuration at program start. -/
def GangSet.start : GangSet := ⟨0, 0, 64, 0#512⟩

/-- A pass as issued (R208, R209): operands captured at issue (R191). rows is the member's row count M_i. -/
structure PassOp where
  osn : Nat
  rows : Nat
  m0 : Nat
  n0 : Nat
  dA : BitVec 512
  trans : Bool
  wsrc : Bool
  gend : Bool
  phase : Nat
  fa : Fmt
  fw : Fmt
  anchor : Int
  drain : DrainSet
  gang : GangSet
  rank : Nat
  level : Nat
  replay : Bool
  deriving DecidableEq, Repr

/-- A DMA transfer as issued (R214, R215): kind 0 copy, 1 fill, 2 gather, 3 scatter. -/
structure DmaOp where
  kind : Nat
  dD : BitVec 512
  dS : BitVec 512
  dX : BitVec 512
  value : DWord
  sigEn : Bool
  ctr : Nat
  inc : BitVec 16
  deriving DecidableEq, Repr

/-- A chain as issued (R213): the captured chain record (empty when it could not be read), completion record address, osn,
anchor, the descriptors its header names (A, B, D, R, C; R158) and the scalars its stages name (R159). -/
structure ChainOp where
  record : List Byte
  recVa : Nat
  compVa : Option Nat
  osn : Nat
  anchor : Int
  phase : Nat
  descs : List (BitVec 512)
  scalars : List Nat
  deriving DecidableEq, Repr

/-- What an entry of a controller queue does. -/
inductive QOp where
  | load (shadow : Bool) (dW : BitVec 512) (park : Bool) (slot scaleVa : Nat)
  | unpark (slot scaleVa : Nat)
  | swap
  | drainCfg
  | pass (op : PassOp)
  | gangCfg (g : GangSet)
  | reduce (dP dO : BitVec 512) (osn : Nat) (anchor : Int) (fmt : Fmt) (rnd : Rnd) (sat : Bool) (gang : GangSet) (level : Nat)
    (replay : Bool)
  | coreLoad (va n r0 r1 c0 c1 : Nat)
  | coreRun (arg : Word)
  | qwait (ctr thr : Nat)
  | chain (op : ChainOp)
  | dma (op : DmaOp)
  deriving DecidableEq, Repr

/-- A queue entry: issue order, the instruction that made it (for R228), its launch time (R219), the causes of a late
launch known so far (R320), its operation. due: the launch time that it has reached, T', and its rank, until it starts (R320). -/
structure QEntry where
  seq : Nat
  pc : Nat
  w0 : Word
  w1 : Word
  osn : Nat
  launch : Option DWord
  late : List Nat
  op : QOp
  due : Option (DWord × Nat) := none
  deriving DecidableEq, Repr

/-- The condition a blocked controller waits for (ARY_AC_STATUS.stall_cause, R218 to R223). record: the record that
the instruction at the program counter names is read through a window. stall: the instruction at the
program counter met a translation fault and is executed again (R265, R226). closing: a win.close completes when the
last access that its window admitted has been performed (R270). -/
inductive Blocked where
  | no
  | wait (ctr thr : Nat)
  | untilTime (t : DWord)
  | fence (kind : Nat)
  | commit (step : Bool)
  | loadData (va size dest : Nat) (desc : Bool)
  | record (va : Nat)
  | closing (w : Nat)
  | stall (cause : Nat)
  deriving DecidableEq, Repr

/-- A posted store: virtual address, the physical address it was translated to (R263), bytes. -/
structure PostedStore where
  va : Nat
  pa : Nat
  data : List Byte
  deriving DecidableEq, Repr

/-- R281: an attention record. zero: what its reserved bits hold, [31:23] of the positions and [31:24] of the counts apart. -/
structure AttnRec where
  qBase : Nat
  kvBase : Nat
  outBase : Nat
  workBase : Nat
  qPos0 : Nat
  kPos0 : Nat
  nQ : Nat
  nK : Nat
  heads : Nat
  causal : Bool
  part : Bool
  cont : Bool
  zero : Nat
  scale : Nat
  osnBase : Nat
  workSize : Nat
  deriving DecidableEq, Repr

/-- R281 to R286: attn, called and not returned: the address of its record, the record once it is read, the return address, the next item, the
operations issued so far, and the issue numbers of the softmax chain and the PV pass of each tile. -/
structure AttnRun where
  va : Nat
  record : Option AttnRec
  ret : Nat
  pos : Nat
  ops : Nat
  sm : Tbl Nat
  pv : Tbl Nat
  deriving DecidableEq, Repr

/-- R189: an array controller. state: 0 idle, 1 running, 2 saved, 3 faulted (ARY_AC_STATUS). gang: the configuration of the last gang.cfg
issued, which the passes issued after it take (R209); gangNow: the configuration in effect, mirrored in ARY_GANG (R210). recGot: the address
of a record that a window read has returned (R213, R216, R268). stallQ: the
cause for which the instruction at the program counter could not enter a queue or the store buffer (R225). faulting: a fault of the
program whose earlier work still completes; the context is faulted after that (R229). closed: steps that the array has closed and
whose digest is not formed yet, with the array's weight digest of each (R358). attn: the attention routine that the program has called (R281). -/
structure Ctrl where
  state : Nat
  blocked : Blocked
  sregs : Tbl DWord
  preds : BitVec 8
  dregs : Tbl (BitVec 512)
  pc : BitVec 48
  ctx : Nat
  gen : Nat
  launch : Option DWord
  launchLate : List Nat
  gang : GangSet
  gangNow : GangSet
  drain : Option DrainSet
  chkLevel : Nat
  chkNext : Bool
  step : Nat
  startTime : DWord
  retired : Nat
  ended : Bool
  yielding : Bool
  wdig : Nat
  closed : List (Nat × Nat)
  icache : List (Nat × List Byte)
  dcache : List (Nat × List Byte)
  stores : List PostedStore
  seq : Nat
  stallQ : Nat
  recGot : Option Nat
  faulting : Option (Nat × Nat)
  cmdIndex : Nat
  stepAt : Nat
  attn : Option AttnRun := none
  deriving DecidableEq, Repr

/-- R190: a controller at rest. p0 reads 1 whatever its bit holds. -/
def Ctrl.reset : Ctrl :=
  { state := 0, blocked := .no, sregs := [], preds := 0#8, dregs := [], pc := 0#48, ctx := 0, gen := 0,
    launch := none, launchLate := [], gang := GangSet.start, gangNow := GangSet.start, drain := none, chkLevel := 0, chkNext := false, step := 1,
    startTime := 0#64, retired := 0, ended := false, yielding := false, wdig := 0, closed := [], icache := [], dcache := [], stores := [],
    seq := 0, stallQ := 0, recGot := none, faulting := none, cmdIndex := 0, stepAt := 1 }

/-- A byte range of device memory, physical address and length. -/
structure Region where
  addr : Nat
  len : Nat
  deriving DecidableEq, Repr

/-- R345 to R352: the replay of a tile: sampled or dual execution (not resolving), or the resolution of a disagreement.
The partner, whether its pass streams, its result, and the third execution. chains: the third execution settles chains of the tile (R355). -/
structure Replay where
  resolving : Bool
  injected : Bool
  origFailed : Bool
  partner : Option Nat
  streaming : Bool
  done : Bool
  hash : Nat
  pass : Bool
  third : Option Nat
  thirdStreaming : Bool
  since : Nat
  chains : Bool := false
  deriving DecidableEq, Repr

/-- R101 to R107: a staging slot. state as ARY_TILE_STATUS: 0 free, 1 executing, 2 draining, 3 passed, 4 held,
5 aborted or discarded. For a transposed group, steps holds the block steps (pass, block) so far and openGroup says that
gend has not come. dest: ranges the drains write; held: held inputs; deps: sequence numbers of tiles it depends on;
accs: one list of accumulators per result row; wit: the witness partial of each row; init: its initial records (R93); staged: outputs that leave the edge
store are sent at commit; upset: hardware errors in accumulators (row, column, difference). transposed: its mode, kept until the slot is
reused (R107); replayedOn: the partner of its replay (R350); m0, n0: the bases of a reduced output, those of the passes whose records it combines (R95). -/
structure Tile where
  state : Nat
  seq : Nat
  osn : Nat
  ctx : Nat
  gen : Nat
  entry : Option QEntry
  steps : List (PassOp × Block)
  openGroup : Bool
  transposed : Bool
  m0 : Nat
  n0 : Nat
  rows : Nat
  gangK : Bool
  deps : List Nat
  witFail : Bool
  flags : TileFlags
  accs : List (List Acc)
  wit : List Nat
  init : List (List (BitVec 128))
  upset : List (Nat × Nat × Nat)
  dest : List Region
  staged : Bool
  held : List Region
  hash : Nat
  delta : Nat
  failRow : Nat
  anchorBad : Bool
  poisoned : Bool
  replay : Option Replay
  unresolved : Bool
  replayedOn : Option Nat := none
  deriving DecidableEq, Repr

/-- A free slot. -/
def Tile.free : Tile :=
  { state := 0, seq := 0, osn := 0, ctx := 0, gen := 0, entry := none, steps := [], openGroup := false, transposed := false, m0 := 0, n0 := 0, rows := 0,
    gangK := false, deps := [], witFail := false, flags := TileFlags.none, accs := [], wit := [], init := [], upset := [],
    dest := [], staged := false, held := [], hash := 0, delta := 0, failRow := 0, anchorBad := false, poisoned := false, replay := none,
    unresolved := false }

/-- R350, R95: what a committed record tile carries besides its records: the witness partials of its rows, the bases of the operation
that made it, and the partner that replayed it. -/
structure RecInfo where
  wit : List Nat
  m0 : Nat
  n0 : Nat
  replayedOn : Option Nat
  deriving DecidableEq, Repr

/-- A K-split reduction on this array (R117): its entry, the next level it receives, its record tile, the witness
partials of its rows (R350), the bases of its operation, the ranges of the member record tiles that it combines so far (R102), and the partner
that replayed this array's own member tile (R350). -/
structure RedState where
  entry : QEntry
  level : Nat
  tile : List (List Acc)
  wit : List Nat
  m0 : Nat
  n0 : Nat
  members : List Region
  replayedOn : Option Nat
  deriving DecidableEq, Repr

/-- R216, R268 to R271: an inbound window of an array. -/
structure Window where
  isOpen : Bool
  closing : Bool
  gen : Nat
  ctx : Nat
  record : List Byte
  counter : Nat
  seqs : Tbl Nat
  deriving DecidableEq, Repr

/-- A window that has never been opened. -/
def Window.shut : Window := ⟨false, false, 0, 0, [], 0, []⟩

/-- A write of a chain: virtual address, bytes, whether it is poisoned (R185). -/
structure ChainWrite where
  va : Nat
  data : List Byte
  bad : Bool
  deriving DecidableEq, Repr

/-- A lane value of the vector engine (R157) and whether it is poisoned (R185). -/
structure LaneV where
  code : Nat
  bad : Bool
  deriving DecidableEq, Repr

/-- R178, R184: what a chain has done: the fields of its completion record, the flattened index of its first poisoned element, and its
column accumulators. rows is also the number of the next row. -/
structure ChainProg where
  flags : Nat
  qmax : Nat
  qmin : Nat
  elems : Nat
  rows : Nat
  clamped : Nat
  firstBad : Option Nat
  cols : List (Option LaneV)
  deriving DecidableEq, Repr

/-- R178: the report at the start of a chain. -/
def ChainProg.start : ChainProg := ⟨0, 0, 0xFF, 0, 0, 0, none, []⟩

/-- A vector chain that runs, waits for a commit or runs again (R168, R181 to R184): its entry, owner, the tile it is attached to, and
writes that wait. prog: what it has done. coord: the bases of its drain source (R179). sent: every write has been performed, deferred or
sent (R183). ended: its completion record is final. after: the tiles whose outputs it runs again on (R168). hash: the hash of its outputs
(R355); second: the array that executed it a second time, and that hash; checked: the two, or a third, have settled it; upset: hardware
errors in the elements it wrote, as (flattened index, difference). -/
structure ChainRun where
  entry : QEntry
  ctx : Nat
  attached : Option Nat
  staged : List ChainWrite
  prog : ChainProg := ChainProg.start
  coord : Option (Nat × Nat) := none
  sent : Bool := false
  ended : Bool := false
  after : List Nat := []
  hash : Nat := 0
  second : Option (Nat × Nat) := none
  checked : Bool := false
  upset : List (Nat × Nat) := []
  deriving DecidableEq, Repr

/-- R188: the vector engine's own state beyond its registers. last: the bytes that the last chain wrote, with their values before and after
(R182). races: bytes that DMA writes have replaced while the running chain may read them, with their values before (R187). lastSeq: the
issue number of the last chain that left the queue. -/
structure VecEng where
  running : Option ChainRun
  frozen : Bool
  pendingSeq : List (Nat × ChainRun)
  reruns : List ChainRun
  last : List (Nat × Byte × Byte)
  races : List (Nat × Byte)
  lastSeq : Nat
  deriving DecidableEq, Repr

/-- A vector engine with no chain. -/
def VecEng.idle : VecEng := ⟨none, false, [], [], [], [], 0⟩

/-- R144, R146: the fault of a core that a run reports at its end: cause, core, program counter, instruction word, address, and the
Quartz time of its cycle. -/
structure CoreFaultRec where
  cause : Nat
  core : Nat
  pc : Nat
  insn : Word
  addr : Nat
  time : DWord
  deriving DecidableEq, Repr

/-- A core-mode run (R128 to R130, R144 to R146). seq: the issue number of its core.run. report: the fault that it reports. -/
structure RunState where
  running : Bool
  frozen : Bool
  arg : Word
  gen : Nat
  ctx : Nat
  osn : Nat
  faulted : Bool
  stopped : Bool
  seq : Nat
  report : Option CoreFaultRec
  deriving DecidableEq, Repr

/-- No run. -/
def RunState.idle : RunState :=
  { running := false, frozen := false, arg := 0#32, gen := 0, ctx := 0, osn := 0, faulted := false, stopped := false, seq := 0, report := none }

/-- One physical array beyond its registers. dmaSent: entries whose DMA writes are all sent. lastOsn: the osn of the last tile committed for
each context (R195, sysr 12). usedGrid, usedVec, usedCtrl: whether the grid, the vector engine, the controller have had work since the
array's reset, before which their stall counts are 0 (R123, R188, R231). -/
structure ArrayState where
  ctrl : Ctrl
  aq : List QEntry
  vq : List QEntry
  dq : List QEntry
  active : Option Block
  shadow : Option Block
  fp32Pair : Bool
  park : Tbl Block
  feed : Option QEntry
  tiles : List Tile
  restarts : List Tile
  red : Option RedState
  dmas : List QEntry
  vec : VecEng
  run : RunState
  counters : Tbl (BitVec 16)
  lastSrc : Tbl Word
  wins : Tbl Window
  dmaSent : List Nat
  halted : Bool
  gated : Bool
  brake : Bool
  stripClocked : Bool
  freqCode : Nat
  targetCode : Nat
  stretch : BitVec 16
  fllFrozen : Bool
  qtzOffset : Int
  qtzLocked : Bool
  recInfo : Tbl RecInfo
  lastOsn : Tbl Nat
  usedGrid : Bool
  usedVec : Bool
  usedCtrl : Bool
  streamEnd : Option Nat
  deriving DecidableEq, Repr

/-- An array after reset (array domain): nothing loaded, queues empty, controller at rest. -/
def ArrayState.reset : ArrayState :=
  { ctrl := Ctrl.reset, aq := [], vq := [], dq := [], active := none, shadow := none, fp32Pair := false, park := [],
    feed := none, tiles := [Tile.free, Tile.free, Tile.free], restarts := [], red := none, dmas := [],
    vec := VecEng.idle, run := RunState.idle, counters := [], lastSrc := [], wins := [],
    dmaSent := [], halted := false, gated := false, brake := false, stripClocked := false, freqCode := 0,
    targetCode := 0, stretch := 0#16, fllFrozen := false, qtzOffset := 0, qtzLocked := false,
    recInfo := [], lastOsn := [], usedGrid := false, usedVec := false, usedCtrl := false, streamEnd := none }

end Sys2Proof.Machine
end

