-- ==== Sys2Proof/Machine/StateMem.lean ====
section
/-!
DEFINITION. Memory-side state (07_memory): check state of words, cached translations, stalled accesses, trunk links, and
the path of a request that a trunk or site router sees.
-/
namespace Sys2Proof.Machine

/-- R232, R233: what the check byte of a 64-bit word says of it, with the syndrome of an error. Latent errors are found at the next
read. -/
inductive Check where
  | clean
  | correctable (syn : Nat)
  | uncorrectable (syn : Nat)
  | poisoned
  deriving DecidableEq, Repr

/-- Whether a word is poisoned or uncorrectable. -/
def Check.bad : Check → Bool
  | .clean => false
  | .correctable _ => false
  | .uncorrectable _ => true
  | .poisoned => true

/-- Whether an odd number of the eight bits of a syndrome is set. -/
def oddWeight (x : Nat) : Bool := (List.range 8).foldl (fun b i => b != x.testBit i) false

/-- R232: whether a syndrome is that of one column: odd weight, and a check bit's (a single bit) or a data bit's. -/
def isColumn (syn : Nat) : Bool := [1, 2, 4, 8, 16, 32, 64, 128].contains syn || (oddWeight syn && Config.dataColumn syn)

/-- R232, R233: what a syndrome says of a word. -/
def Check.ofSyn (syn : Nat) : Check :=
  if syn % 256 = 0 then .clean
  else if syn % 256 = 0xFF then .poisoned
  else if isColumn (syn % 256) then .correctable (syn % 256)
  else .uncorrectable (syn % 256)

/-- R262: what a cached entry holds: a leaf, a table entry of a level, an aperture entry. -/
inductive CacheKind where
  | leaf | table | aperture
  deriving DecidableEq, Repr

/-- R262: a cached entry: its kind, context, generation, first virtual address and size (of an aperture entry its number and 1), and the
entry itself. -/
structure TlbEntry where
  kind : CacheKind
  ctx : Nat
  gen : Nat
  va : Nat
  size : Nat
  leaf : Nat
  deriving DecidableEq, Repr

/-- The kind of an access (R257, R265 byte 17). -/
inductive AccKind where
  | read | write | fetch
  deriving DecidableEq, Repr

/-- R265: an access stalled by a translation fault: unit code of the payload, context, physical array, virtual address, kind, code. -/
structure Stalled where
  ctx : Nat
  unit : Nat
  array : Nat
  va : Nat
  kind : AccKind
  code : Nat
  deriving DecidableEq, Repr

/-- R263: an invalidation in progress. -/
structure InvReq where
  allCtx : Bool
  allVa : Bool
  ctx : Nat
  va : Nat
  pages : Nat
  deriving DecidableEq, Repr

/-- R252, R254: one trunk link: bad receptions of the packet in flight, failed. Keyed by 2 × pair + link; 54 + k is the link of site k's
router. -/
structure TrunkLink where
  attempts : Nat
  failed : Bool
  deriving DecidableEq, Repr

/-- R247, R248: error history of an HBM pseudo-channel: corrected and uncorrectable errors of the last 24 h as (line, time),
spared lines; and lane repair in progress (R245). -/
structure HbmPc where
  corrected : List (Nat × Nat)
  uncorr : List (Nat × Nat)
  spared : List Nat
  repairing : Bool
  deriving DecidableEq, Repr

/-- A pseudo-channel without history. -/
def HbmPc.reset : HbmPc := ⟨[], [], [], false⟩

/-- R268: an access sent through an aperture entry: the sender's physical array and entry, its context, the window it
names with the generation it claims, offset, data of a write with the poison mask of one bit per 8 bytes of the window (R250), size,
the aperture address. node: the owner's node, 0 for this device. admitted: the window unit has checked it and waits for a translation
(R269). va: the sender's virtual address of a write. src: the source node of an access that came from the fabric (0: this device), with its tag, sequence number and
context generation. -/
structure WinAcc where
  p : Nat
  seq : Nat
  ctx : Nat
  node : Nat
  array : Nat
  window : Nat
  gen : Nat
  off : Nat
  write : Bool
  data : List Byte
  poison : Nat
  size : Nat
  pa : Nat
  admitted : Bool
  va : Nat
  src : Option Nat
  tag : Nat
  seqno : Nat
  ctxGen : Nat
  deriving DecidableEq, Repr

/-- Memory-side state beyond the bytes themselves. tlb: the translation caches of R262, cache c of physical array p under 5 p + c (0
controller, 1 vector engine, 2 DMA and feeds, 3 the array's, 4 walk cache); atc: the host translations of a port as (function, page). winq: window accesses in flight; winData: bytes that window reads
returned, by context and aperture address. -/
structure MemState where
  check : Tbl Check
  tlb : Tbl (List TlbEntry)
  stalled : List Stalled
  inv : Option InvReq
  links : Tbl TrunkLink
  hbm : Tbl HbmPc
  activePcs : List Nat
  corrLimit : Tbl Nat
  atc : Tbl (List (Nat × Nat))
  winq : List WinAcc
  winData : Tbl Byte
  deriving DecidableEq, Repr

/-- Memory-side state after reset: every word clean, nothing cached, nothing stalled. -/
def MemState.reset : MemState := ⟨[], [], [], none, [], [], [], [], [], [], []⟩

end Sys2Proof.Machine
end

