-- ==== Sys2Proof/Machine/StateDev.lean ====
section
/-!
DEFINITION. The state of the device outside the arrays and cores: fuses, contexts and dispatch, Quartz and Flint,
checking, host ports, fabric ports, power, bring-up and repair, management and firmware, pins.
-/
namespace Sys2Proof.Machine

/-- The fuse image that identity and limits are loaded from (R1, R4, R489, R519). repairs: the test-time repair map as (kind, target) of R490: row and shift maps, seam
lanes, retired pseudo-channels (R276). A part's own; the reset value is that
of a non-derived HX-1M-B whose physical arrays 16 and 17 are spares (notes/assumptions/5). -/
structure Fuses where
  ident : Nat
  logicalCount : Nat
  mapping : List Nat
  siteA : Nat
  siteB : Nat
  siteC : Nat
  hostEn : Nat
  fabricEn : Nat
  mem : Nat
  tdp : Nat
  fusedOff : Nat
  totalVfs : Nat
  deviceId : Nat
  serial : DWord
  words : Tbl Word
  revoked : Nat
  repairs : List (Nat × List Nat)
  deriving DecidableEq, Repr

/-- The fuses of a non-derived HX-1M-B, stepping B0 (the identity register table of 00_scope). -/
def Fuses.hx1mB : Fuses :=
  { ident := 0x0A710110, logicalCount := 16, mapping := [0, 1, 2, 3, 4, 5, 6, 7, 8, 9, 10, 11, 12, 13, 14, 15],
    siteA := 0x65555555, siteB := 0x65555555, siteC := 0x66, hostEn := 0xF, fabricEn := 0xFFFF, mem := 0x003002A0,
    tdp := 12000, fusedOff := 0, totalVfs := 127, deviceId := 0x0A710000, serial := 0#64, words := [], revoked := 0, repairs := [] }

/-- An event record (R15). ctx none: it belongs to no context. payload: bytes 16 to 63 as one little-endian number. -/
structure EvRec where
  time : DWord
  cls : Nat
  code : Nat
  sev : Nat
  gen : Nat
  source : Nat
  ctx : Option Nat
  payload : Nat
  deriving DecidableEq, Repr

/-- What the dispatcher holds for one event ring beyond its registers (R398, R399, R565): the overflow buffer and the
spill in order, a blocked write, the 10 µs limits of codes 0x98 and 0x99 with the crossings they hold back, and the
records lost since the last code 0x9D. -/
structure Ring where
  waiting : List EvRec
  blocked : Bool
  hold98 : Bool
  held98 : Nat
  hold99 : Bool
  held99 : Nat
  lost : Nat
  deriving DecidableEq, Repr

/-- A ring with nothing waiting. -/
def Ring.reset : Ring := ⟨[], false, false, 0, false, 0, 0⟩

/-- R540, R541: an entry waiting for, or in, the lifetime ring: time in powered seconds, sequence, kind, body. -/
structure LifeEntry where
  secs : Nat
  seq : Nat
  kind : Nat
  body : List Byte
  deriving DecidableEq, Repr

/-- R540 to R543: the lifetime record: powered seconds, buffered and written entries, counters in memory and in the two
flash copies with their sequence numbers; the second and count of forwarded entries. gone: units of the ring overwritten so far. -/
structure LifeState where
  secs : Nat
  nextSeq : Nat
  buf : List LifeEntry
  ring : List LifeEntry
  gone : Nat
  ctr : Tbl Word
  copyA : Tbl Word
  copyB : Tbl Word
  seqA : Nat
  seqB : Nat
  fwdSec : Nat
  fwdCount : Nat
  deriving DecidableEq, Repr

/-- The lifetime record of a part that left test with nothing recorded. -/
def LifeState.reset : LifeState := ⟨0, 0, [], [], 0, [], [], [], 0, 0, 0, 0⟩

/-- R381: a fetched command: ring index, its 64 bytes, started, ranks that have still to start it, ranks that run it,
completed. -/
structure Cmd where
  index : Nat
  bytes : List Byte
  started : Bool
  todo : List Nat
  running : List Nat
  done : Bool
  deriving DecidableEq, Repr

/-- R226, R298, R391: what a switch saved from one array of a partition; slates: its slates lie in the save area. -/
structure SavedArr where
  ctrl : Ctrl
  aq : List QEntry
  vq : List QEntry
  dq : List QEntry
  vec : VecEng
  run : RunState
  cores : Tbl CoreState
  restart : List Tile
  red : Option RedState
  slates : Bool
  deriving DecidableEq, Repr

/-- R461, R468: an entry of a context's learned power profile: key, observations, droop offset in 2.5 mV, ratio in 1/128, peak step in A,
consecutive starts with a droop below 1 %. -/
structure Profile where
  key : Nat
  count : Nat
  droop : Nat
  ratio : Nat
  step : Nat
  low : Nat
  deriving DecidableEq, Repr

/-- R375 to R395: what the dispatcher holds for a context beyond its registers: the tail, the commands fetched and not
retired, a stopped fetch, saved arrays by rank, saved counters (core counters by core ID, controller counters at 2^20 plus the
logical array: R296, R298), and learned power profiles. -/
structure CtxState where
  tail : Nat
  cmds : List Cmd
  fetchStopped : Bool
  saved : Tbl SavedArr
  savedCounters : Tbl (Tbl (BitVec 16))
  profiles : List Profile
  resetTail : Nat
  deriving DecidableEq, Repr

/-- A context with no work. -/
def CtxState.reset : CtxState := ⟨0, [], false, [], [], [], 0⟩

/-- A signal in flight on the signal net (R297, R300): target word, increment, source word of the payload, context. -/
structure Signal where
  target : Word
  inc : Int
  src : Nat
  ctx : Nat
  gen : Nat
  deriving DecidableEq, Repr

/-- R305, R308: a Flint request: arrays, cause, detection time, and the event its detector posts (context, source,
address of the poisoned word). -/
structure FlintReq where
  mask : Nat
  cause : Nat
  time : DWord
  ctx : Option Nat
  source : Nat
  core : Nat
  addr : Nat
  array : Nat
  deriving DecidableEq, Repr

/-- The Flint net: requests not yet answered, and the arrays gated. -/
structure FlintState where
  reqs : List FlintReq
  gated : Nat
  deriving DecidableEq, Repr

/-- R387 to R390: the scheduling state of a partition: the contexts of a switch in progress, physical arrays that have still to
save and to restore, the last context scheduled, whether the switch is a full one, when the resident context became
resident, whether its quantum has ended, and the passes that the switch in progress has aborted (R402). -/
structure PartState where
  outgoing : Option Nat
  incoming : Option Nat
  saving : List Nat
  restoring : List Nat
  last : Nat
  full : Bool
  since : Nat
  sliced : Bool
  aborts : Nat
  deriving DecidableEq, Repr

/-- A partition at rest. -/
def PartState.reset : PartState := ⟨none, none, [], [], 511, false, 0, false, 0⟩

/-- R366: a Pyrite run queued or running: array, strip (none for the array configuration), voltage steps, groups. -/
structure PyrRun where
  array : Nat
  strip : Option Nat
  steps : Nat
  sets : Nat
  running : Bool
  deriving DecidableEq, Repr

/-- R358, R361: a closed step of a context: its number, digest, the region digest attached, the ring position its close
recorded (R363), the time it was formed, and how often it has been replayed. -/
structure OwnStep where
  step : Nat
  w : Nat
  rdig : Option Nat
  fetch : Nat
  time : Nat
  replays : Nat
  deriving DecidableEq, Repr

/-- R361: a digest record of a peer: the peer's table index, the step, its digests, the replay flag. -/
structure PeerRec where
  peer : Nat
  step : Nat
  w : Nat
  rdig : Option Nat
  replayed : Bool
  deriving DecidableEq, Repr

/-- R358 to R363: what the device holds to agree the steps of a context. prevW: own digests of earlier executions of a
replayed step, oldest first. silent: (peer, step) pairs reported silent. rewind: a rewind is due. gated: nodes whose window
writes are held. -/
structure StepState where
  own : List OwnStep
  recs : List PeerRec
  prevW : List (Nat × Nat)
  silent : List (Nat × Nat)
  rewind : Bool
  gated : List Nat
  deriving DecidableEq, Repr

/-- A context with no closed step. -/
def StepState.reset : StepState := ⟨[], [], [], [], false, []⟩

/-- R359: a region digest request: context, range, whether it waits for a step to close, the step it belongs to. -/
structure RdeRun where
  ctx : Nat
  va : Nat
  len : Nat
  waitStep : Bool
  forStep : Option Nat
  deriving DecidableEq, Repr

/-- Checking state of the device (10_integrity): times of strikes and witness-path faults by physical array (R353, R354),
arrays that must be remapped (1 suspect, 2 quarantined), Pyrite runs in order (R366), step agreement by context, the
region digest engine's request and the last one (R359), known-answer kernels running (R368). -/
structure Integ where
  strikes : Tbl (List Nat)
  wpaths : Tbl (List Nat)
  want : Tbl Nat
  pyr : List PyrRun
  steps : Tbl StepState
  rde : Option RdeRun
  rdeLast : Option RdeRun
  kak : Option Nat
  deriving DecidableEq, Repr

/-- No strike, nothing running. -/
def Integ.reset : Integ := ⟨[], [], [], [], [], none, none, none⟩

end Sys2Proof.Machine
end

