-- ==== Sys2Proof/Machine/StateFab.lean ====
section
/-!
DEFINITION. The state of host ports and fabric ports beyond their registers (12_host_fabric): functions and their
configuration, link-level retry and virtual channels, transactions, schedules, duplicate records and job aborts.
-/
namespace Sys2Proof.Machine

/-- R411, R264, R407: what configuration space holds for a function: Bus Master Enable, memory enable, Relaxed Ordering, ATS,
MSI-X enable, the power state D3hot. -/
structure HostFn where
  bme : Bool
  mem : Bool
  ro : Bool
  ats : Bool
  msix : Bool
  d3 : Bool
  deriving DecidableEq, Repr

/-- A function after a reset of its configuration. -/
def HostFn.reset : HostFn := ⟨false, false, false, false, false, false⟩

/-- R264, R411: a request that waits at a host port: function, context, virtual address, message; data: it may set Relaxed Ordering (R407); refused: the host has refused its
translation, and it is sent again on MMU_FAULT_RESUME (R265). -/
structure HostReq where
  fn : Nat
  ctx : Nat
  va : Nat
  msg : List Nat
  data : Bool
  refused : Bool
  deriving DecidableEq, Repr

/-- The page of a request's address in the host window. -/
def HostReq.page (r : HostReq) : Nat := nth 0 r.msg 2 / 4096

/-- R406 to R415: a host port: Max Payload Size and Max Read Request Size codes, VF Enable and NumVFs, the functions, the
VF budget that the last PERST_L assertion took (none: the reset value), the time PERST_L was released (none while it is asserted), MSI-X table words
and other configuration words, ATS requests that wait for an answer (function, page), requests that wait for Bus Master Enable, and
requests that wait for a translation (R264). -/
structure HostPort where
  mps : Nat
  mrrs : Nat
  vfEnable : Bool
  numVfs : Nat
  fns : Tbl HostFn
  budget : Option Nat
  released : Option Nat
  trained : Bool
  msix : Tbl Word
  cfg : Tbl Word
  atsOut : List (Nat × Nat)
  waiting : List HostReq
  atsWait : List HostReq
  deriving DecidableEq, Repr

/-- A host port in reset. -/
def HostPort.reset : HostPort := ⟨0, 2, false, 0, [], none, none, false, [], [], [], [], []⟩

/-- R431, R432: a packet that waits in a port: its channel, scheduled queue, bytes, and the transaction slot it belongs to. -/
structure TxItem where
  vc : Nat
  queue : Option Nat
  bytes : List Byte
  txn : Option Nat
  deriving DecidableEq, Repr

/-- R420: an unacknowledged flit: its fseq, channel, payload, the time it was sent. -/
structure TxFlit where
  seq : Nat
  vc : Nat
  bytes : List Byte
  time : Nat
  deriving DecidableEq, Repr

/-- R418 to R438: a fabric port: next flit numbers, replay buffer, credits by channel, whether it discards until a replay,
attempts of the oldest flit, packets that wait, the schedule slot in progress (slot, cycle), a wake
trigger or a loss of signal that waits for a rail step, the end of the step, idle start, event limits (time, held) of codes
0x04 and 0x05. -/
structure FabPortState where
  txSeq : Nat
  rxSeq : Nat
  unacked : List TxFlit
  credits : List Nat
  discarding : Bool
  attempts : Nat
  txq : List TxItem
  slot : Option (Nat × Nat)
  wakeWait : Bool
  losWait : Bool
  stepUp : Bool
  idleSince : Nat
  limits : Tbl (Nat × Nat)
  deriving DecidableEq, Repr

/-- R419: a port before its link is up. -/
def FabPortState.reset : FabPortState :=
  ⟨0, 0, [], [0, 0, 0, 0], false, 0, [], none, false, false, false, 0, []⟩

/-- R422 to R424: an outstanding request: slot and slot generation, the access, its sequence number, context generation,
port, when it was first sent, reissues so far, the generation of the array whose unit issued it (R505). -/
structure FabTxn where
  slot : Nat
  gen : Nat
  acc : WinAcc
  seqno : Nat
  ctxGen : Nat
  port : Nat
  sent : Option Nat
  tries : Nat
  aryGen : Nat
  deriving DecidableEq, Repr

/-- R423: what a window unit keeps for a (source node, source context) pair: array, pair, highest number performed, the
numbers performed of the 1,024 below it (bit i: highest − 1 − i), the time of the last write. -/
structure FabPair where
  array : Nat
  node : Nat
  ctx : Nat
  high : Nat
  below : Nat
  time : Nat
  deriving DecidableEq, Repr

/-- R440: a recorded job abort. -/
structure AbortRec where
  origin : Nat
  job : Nat
  aseq : Nat
  time : Nat
  deriving DecidableEq, Repr

/-- The fabric side of the device. seqs: next sequence number by 65536 × context + node. errs: (array, entry) whose
transfer met an error. -/
structure FabState where
  ports : Tbl FabPortState
  txns : List FabTxn
  slotGens : Tbl Nat
  seqs : Tbl Nat
  pairs : List FabPair
  aborts : List AbortRec
  hosts : Tbl HostPort
  errs : List (Nat × Nat)
  deriving DecidableEq, Repr

/-- The fabric side after reset. -/
def FabState.reset : FabState := ⟨[], [], [], [], [], [], [], []⟩

end Sys2Proof.Machine
end

