-- ==== Sys2Proof/Machine/StateSvc.lean ====
section
/-!
DEFINITION. The state of the service die beyond its registers: power delivery and thermal control (13_power), bring-up, repair and
hang detection (14_bringup_repair), ownership, firmware and the management interfaces (15_management), pins (16_package).
-/
namespace Sys2Proof.Machine

/-- R471: a pool loan: the other device, the amount in W, its lease end, whether the borrower accepted it. -/
structure Loan where
  peer : Nat
  watts : Nat
  lease : Nat
  ok : Bool
  deriving DecidableEq, Repr

/-- R471: a slack frame received: sender, interval, slack in 1/65,536, headroom in W. -/
structure Slack where
  node : Nat
  interval : Nat
  slack : Nat
  headroom : Nat
  deriving DecidableEq, Repr

/-- R461: a launch pre-positioned: array, context, phase key, launch time. -/
structure Prep where
  array : Nat
  ctx : Nat
  key : Nat
  time : Nat
  deriving DecidableEq, Repr

/-- R473: thermal control of an array: codes by which it is lowered, cap loops since the last rise, gated at 105 °C, and
whether an entry event stands. -/
structure Therm where
  red : Nat
  wait : Nat
  gated : Bool
  inThrottle : Bool
  fast : Bool
  deriving DecidableEq, Repr

/-- An array that is not hot. -/
def Therm.cool : Therm := ⟨0, 0, false, false, false⟩

/-- R446 to R479. down: 0 powered, 1 power fail, 2 over-voltage shutdown, 3 thermal trip, 4 COLD_RST_L asserted, 5 no input.
hist: input samples (mV, 10 mA), newest first, at most 16. latchAt: time of a domain's first latch; inService: domains
that latched off while on. current: codes by which the current limit lowers every array. pinReq: THROT_REQ_L is asserted.
brakeAt: when the hard brake engaged. brakeLoop: the brake held since the last cap loop. sites: bandwidth limits by site
(1 half, 2 quarter, 3 held). days: by array, (day, 100 µs loops, loops above code 136). adj: by strip, sum and count of
monitor adjustments of the day. ofs: field offsets in force by 12 × strip + point, in 2.5 mV; ofsNext: those of the next
bring-up; spent: points whose offset would pass +50 mV. inSum: power samples of the present 1 ms. attr: W attributed to arrays
in the last 1 ms. frac: fractions of a µJ carried by each energy counter, in 2^-32 µJ. lastEvent: time of the last event that has a
limit of one per 1 ms. bandSecs: seconds of the present hour in each temperature band, by 7 × array + band (R542). cycleMax: the
maximum that a fall of an array's temperature is measured from. -/
structure PowerState where
  down : Nat
  hist : List (Nat × Nat)
  latchAt : Tbl Nat
  inService : List Nat
  current : Nat
  pinReq : Bool
  brakeAt : Option Nat
  brakeLoop : Bool
  therm : Tbl Therm
  sites : Tbl Nat
  days : Tbl (List (Nat × Nat × Nat))
  adj : Tbl (Int × Nat)
  ofs : Tbl Int
  ofsNext : Tbl Int
  spent : List Nat
  attr : Nat
  frac : Tbl Nat
  lent : Option Loan
  borrowed : List Loan
  slacks : List Slack
  prep : List Prep
  lastEvent : Tbl Nat
  bandSecs : Tbl Nat
  cycleMax : Tbl Int
  deriving DecidableEq, Repr

/-- Power state after a cold reset of a part in its first powered hour. -/
def PowerState.reset : PowerState :=
  ⟨0, [], [], [], 0, false, none, false, [], [], [], [], [], [], [], 0, [], none, [], [], [], [], [], []⟩

/-- R490: a repair log entry. -/
structure LogEntry where
  seq : Nat
  kind : Nat
  reason : Nat
  stage : Nat
  hours : Nat
  target : List Nat
  deriving DecidableEq, Repr

/-- R496: an in-service remap: logical array, source and target arrays, and why: 1 suspect, 2 quarantine, 3 over-current, 4 before a
reset. -/
structure Remap where
  logical : Nat
  src : Nat
  dst : Nat
  why : Nat
  deriving DecidableEq, Repr

/-- R504: an array reset that waits for a remap: array, whether its mesh test and its self-test will pass, and the field whose reset
it belongs to. -/
structure WaitReset where
  array : Nat
  mesh : Bool
  test : Bool
  field : Option Nat
  deriving DecidableEq, Repr

/-- R484 to R509. reports: stage reports by stage. began: Quartz time at the start of the present stage. log: repair log entries in
order, the two copies agreeing. skips: skip columns by 512 × array + physical row; kmap: skipped row by strip; both as in
force. lastGood, reached: R486. remaps in progress; waits: array resets that wait; strips of latched domains that are off.
hang: the cycles of the last two samples, newest first, each a list of (node, progress counter). declared: cycles declared. beat:
the last heartbeat. repair: a repair command that waits. module: a module under test. seamSpares: (segment, bundle, group)
whose spare lane is used. marked: HBM pseudo-channels marked for retirement before the last cold reset (R248). slotId, recov: straps as sampled. -/
structure BrpState where
  reports : Tbl (List Byte)
  began : Nat
  log : List LogEntry
  skips : Tbl (List Nat)
  kmap : Tbl Nat
  lastGood : Bool
  reached : Bool
  remaps : List Remap
  waits : List WaitReset
  hang : List (List (List (Nat × Nat)))
  declared : List (List (Nat × Nat))
  beat : Nat
  repair : Bool
  module : Option Nat
  seamSpares : List (Nat × Nat × Nat)
  marked : List Nat
  badSites : List Nat
  slotId : Nat
  recov : Bool
  ready : Bool
  thermTrip : Bool
  pwrFail : Bool
  deriving DecidableEq, Repr

/-- Bring-up at the start of stage 0 of a part that has never been brought up. -/
def BrpState.reset : BrpState :=
  ⟨[], 0, [], [], [], false, false, [], [], [], [], 0, false, none, [], [], [], 15, false, false, false, false⟩

/-- R532: a boot pointer record. trial: 255 for none. -/
structure BootRec where
  seq : Nat
  active : Nat
  trial : Nat
  trials : Nat
  stateA : Nat
  stateB : Nat
  minSvn : Nat
  verA : Nat
  verB : Nat
  svnA : Nat
  svnB : Nat
  deriving DecidableEq, Repr

/-- R535: an update in progress: the agent's path as (kind, path, node), target slot, 1 download, 2 verification, 3 verified;
the component under download and whether the whole image has arrived. -/
structure Update where
  agent : Nat × Nat × Nat
  slot : Nat
  stage : Nat
  comp : Option Nat
  deriving DecidableEq, Repr

/-- R527: a pending handover: successor kind, path, node, ID, and its end. -/
structure Handover where
  kind : Nat
  path : Nat
  node : Nat
  id : Nat
  deadline : Nat
  deriving DecidableEq, Repr

/-- R517, R518: an I3C target: in-band interrupts and hot-join enabled, maximum read and write length. -/
structure I3cTarget where
  ibi : Bool
  hotJoin : Bool
  mrl : Nat
  mwl : Nat
  joined : Bool
  deriving DecidableEq, Repr

/-- A target after a reset of its logic. -/
def I3cTarget.reset : I3cTarget := ⟨false, true, 69, 69, false⟩

/-- R516 to R543. lease: when the owner's lease ends; hand: the pending handover; claimId, claimNode, claimPrio, claimResult:
each requester's claim registers. slots: image bytes by slot; recA, recB: the two boot pointer records (none: invalid);
trialFrom: when the confirmation window opened. coldAt: when a requested cold reset falls due;
coldReq: a cold reset is requested. PLDM and SPDM: terminus ID, event receiver, event buffer size, transfer
negotiation of SPDM. runSvn: security version of the running image. seen: state sensors as last told to the receiver (R523).
taken: versions of components that a download took over from the other slot, at 8 × slot + identifier (R533). -/
structure MgtState where
  lease : Nat
  hand : Option Handover
  claimId : Tbl Nat
  claimNode : Tbl Nat
  claimPrio : Tbl Nat
  claimResult : Tbl Nat
  slots : Tbl (Tbl Byte)
  recA : Option BootRec
  recB : Option BootRec
  update : Option Update
  trialFrom : Option Nat
  coldAt : Option Nat
  i3c : Tbl I3cTarget
  tid : Nat
  receiver : Option (Nat × Nat × Nat)
  bufSize : Nat
  spdm : Tbl Nat
  runSvn : Nat
  seen : List Nat
  taken : Tbl Nat
  deriving DecidableEq, Repr

/-- The boot pointer of a part that left test: slot A active. -/
def BootRec.fromTest : BootRec := ⟨1, 0, 255, 0, 4, 0, 0, 0, 0, 0, 0⟩

/-- Management state at the start of stage 0. -/
def MgtState.reset : MgtState :=
  ⟨0, none, [], [], [], [], [], some BootRec.fromTest, some { BootRec.fromTest with seq := 0 }, none, none, none, [], 0, none, 0, [], 0, [], []⟩

end Sys2Proof.Machine
end

