-- ==== Sys2Proof/Machine/StateTime.lean ====
section
/-!
DEFINITION. The state of Quartz time beyond its registers (09_sync_time): islands, frequency references, the servo of a fabric
follower, and the times that the clock rules measure from.
-/
namespace Sys2Proof.Machine

/-- R313 to R316: an island's copy: its offset from the master in ps, whether it is locked, consecutive beats within 500 ps,
consecutive missing beats. -/
structure Island where
  offset : Int
  locked : Bool
  good : Nat
  missing : Nat
  deriving DecidableEq, Repr

/-- An island that has seen no beat. -/
def Island.reset : Island := ⟨0, false, 0, 0⟩

/-- R322 to R325: a reference: whether its clock is present, whether it is disqualified, its samples newest first in 0.1 ppm
(at most 1,000), consecutive samples beyond 1,000 ppm, consecutive averages beyond 70 ppm, whether the average lies
beyond 35 ppm, consecutive 1 s averages within 35 ppm, samples of the present second, time of the last warning. -/
structure RefState where
  present : Bool
  disq : Bool
  samples : List Int
  over1000 : Nat
  over70 : Nat
  beyond : Bool
  back : Nat
  backN : Nat
  lastWarn : Option Nat
  deriving DecidableEq, Repr

/-- A reference not yet measured. -/
def RefState.reset : RefState := ⟨false, false, [], 0, 0, false, 0, 0, none⟩

/-- R328, R433: a port's link delay in ticks (none until an exchange completes), the exchange in progress (sequence, t1), the
last sequence, and what the last time frame said (hops, leader, degraded). -/
structure LinkTime where
  delay : Option Int
  asked : Option (Nat × Nat)
  seq : Nat
  frame : Option (Nat × Nat × Bool)
  deriving DecidableEq, Repr

/-- A port with no exchange. -/
def LinkTime.reset : LinkTime := ⟨none, none, 0, none⟩

/-- Time state. slew: the part of the master's rate, in 0.01 ppm, still to be removed after a change of source; corr: the
selected reference's samples of the last 60 s, newest first; servo: the correction in ticks that the follower's servo removes
before the next frame; lastFrame: time of the last frame used; fabOfs: the offset that it gave, own time less fabric time; frameSeq: sequence of the next frame sent; stretchAt,
cpmAt: time of the last stretch and of the last monitor adjustment by strip domain. -/
structure TimeState where
  islands : Tbl Island
  refs : Tbl RefState
  slew : Int
  corr : List Int
  servo : Int
  links : Tbl LinkTime
  lastFrame : Nat
  fabOfs : Int
  frameSeq : Nat
  stretchAt : Tbl Nat
  cpmAt : Tbl Nat
  deriving DecidableEq, Repr

/-- Time state after a cold reset. -/
def TimeState.reset : TimeState := ⟨[], [], 0, [], 0, [], 0, 0, 0, [], []⟩

end Sys2Proof.Machine
end

