-- ==== Sys2Proof/Machine/State.lean ====
section
/-!
DEFINITION. The state of the device, its reset, and the reasons a step can stop.
-/
namespace Sys2Proof.Machine

/-- Why a command stops with a fault. -/
inductive Fault where
  /-- Not raised: every condition the spec calls a fault of a program, a context or the device is taken by the device
  itself, and its effect is a next state. Safe. -/
  | none_
  deriving DecidableEq, Repr

/-- Why a command has no meaning here. -/
inductive Refusal where
  /-- Raised by Dispatch for a command whose meaning is not written. Safe. -/
  | notModelled (mnemonic : String)
  deriving DecidableEq, Repr

/-- A message the device sends on one of its ports, in the order it sends them. -/
structure OutMsg where
  port : String
  data : List Nat
  deriving DecidableEq, Repr

/-- The device. -/
structure State where
  pending : List Instr
  now : DWord
  fuses : Fuses
  regs : Tbl Word
  rdLatch : Tbl Word
  wrLatch : Tbl Word
  mem : List Host.Cell
  memst : MemState
  arrays : Tbl ArrayState
  cores : Tbl CoreState
  mesh : List MeshMsg
  rings : Tbl Ring
  life : LifeState
  ctxs : Tbl CtxState
  parts : Tbl PartState
  signals : List Signal
  flint : FlintState
  integ : Integ
  fab : FabState
  time : TimeState
  power : PowerState
  brp : BrpState
  mgt : MgtState
  reply : List Nat
  out : List OutMsg
  abortSeq : Nat
  fresh : Nat
  deriving DecidableEq, Repr

/-- The device right after a cold reset. -/
def State.reset : State :=
  { pending := [], now := 0#64, fuses := Fuses.hx1mB, regs := [], rdLatch := [], wrLatch := [], mem := [],
    memst := MemState.reset, arrays := [], cores := [], mesh := [], rings := [], life := LifeState.reset,
    ctxs := [], parts := [], signals := [], flint := ⟨[], 0⟩, integ := Integ.reset, fab := FabState.reset, time := TimeState.reset,
    power := PowerState.reset, brp := BrpState.reset, mgt := MgtState.reset, reply := [], out := [], abortSeq := 0, fresh := 0 }

end Sys2Proof.Machine
end

