-- ==== Sys2Proof/Machine/Ops.lean ====
section
/-!
DEFINITION. The named operations over the state: registers by offset and by field (R7, R8), arrays and cores, bytes and
words of memory with their check state (R232, R233), the logical-to-physical map (R25), and translation (R257 to R261).
-/
namespace Sys2Proof.Machine

/-- Whether the remainder of an offset names an element of a register's repeats. -/
def dimsHit : List (Nat × Nat) → Nat → Bool
  | [], r => r == 0
  | (n, st) :: ds, r => decide (r / st < n) && dimsHit ds (r % st)

/-- Whether a register line covers an offset. -/
def specHit (r : RegSpec) (off : Nat) : Bool := decide (r.base ≤ off) && dimsHit r.dims (off - r.base)

/-- The register line at an offset; none where no register lies (R8). -/
def findReg (off : Nat) : Option RegSpec := regMap.find? (fun r => specHit r off)

/-- A register's reset value from its fields. -/
def fieldsReset (fs : List FieldSpec) : Nat := fs.foldl (fun a f => setBits a f.hi f.lo f.reset) 0

/-- The reset value of the register at an offset. Values the spec takes from fuses before bring-up: TDP and the caps
(R483), the VF budget and identity of a host port (R408, R445), modules in service (R514); identity registers read 0
until stage 2 (R4). -/
def regReset (f : Fuses) (off : Nat) : Word :=
  if off = rPwrTdp ∨ off = rPwrCapGrant ∨ off = rPwrCapEff then BitVec.ofNat 32 f.tdp
  else if off = rPwrMod then 0xFFFFFF#32
  else
    match findReg off with
    | none => 0#32
    | some r =>
      if r.base = rHstVfBudget 0 then BitVec.ofNat 32 f.totalVfs
      else if r.base = rHstId 0 then BitVec.ofNat 32 f.deviceId
      else if r.base = rHstUcie 0 then 0xFFFF#32
      else BitVec.ofNat 32 (fieldsReset r.fields)

/-- The stored value of the register at an offset. -/
def State.reg (s : State) (off : Nat) : Word := tblGet (regReset s.fuses off) s.regs off

/-- Store a register's value. -/
def State.setReg (s : State) (off : Nat) (v : Word) : State := { s with regs := tblPut s.regs off v }

/-- Bits [hi:lo] of a register. -/
def State.fld (s : State) (off hi lo : Nat) : Nat := bitsOf (s.reg off).toNat hi lo

/-- Set bits [hi:lo] of a register, as hardware does. -/
def State.setFld (s : State) (off hi lo x : Nat) : State :=
  s.setReg off (BitVec.ofNat 32 (setBits (s.reg off).toNat hi lo x))

/-- One bit of a register. -/
def State.flag (s : State) (off i : Nat) : Bool := (s.reg off).toNat.testBit i

/-- Set one bit of a register, as hardware does. -/
def State.setFlag (s : State) (off i : Nat) (b : Bool) : State := s.setFld off i i (b2n b)

/-- Add to a 32-bit counter that saturates. -/
def State.bump (s : State) (off n : Nat) : State :=
  s.setReg off (BitVec.ofNat 32 (satAdd 32 (s.reg off).toNat n))

/-- A 64-bit pair (R13), _LO at the offset. -/
def State.reg64 (s : State) (off : Nat) : Nat := (s.reg off).toNat + 2 ^ 32 * (s.reg (off + 4)).toNat

/-- Store a 64-bit pair. -/
def State.setReg64 (s : State) (off v : Nat) : State :=
  (s.setReg off (BitVec.ofNat 32 v)).setReg (off + 4) (BitVec.ofNat 32 (v / 2 ^ 32))

/-- Add to a 64-bit pair, modulo 2^64. -/
def State.bump64 (s : State) (off n : Nat) : State := s.setReg64 off ((s.reg64 off + n) % 2 ^ 64)

/-- Physical array p. -/
def State.arr (s : State) (p : Nat) : ArrayState := tblGet ArrayState.reset s.arrays p

/-- Replace physical array p. -/
def State.setArr (s : State) (p : Nat) (a : ArrayState) : State := { s with arrays := tblPut s.arrays p a }

/-- Change physical array p. -/
def State.modArr (s : State) (p : Nat) (f : ArrayState → ArrayState) : State := s.setArr p (f (s.arr p))

/-- Change the controller of physical array p. -/
def State.modCtrl (s : State) (p : Nat) (f : Ctrl → Ctrl) : State :=
  s.modArr p (fun a => { a with ctrl := f a.ctrl })

/-- The core with a core ID. -/
def State.core (s : State) (id : Nat) : CoreState := tblGet CoreState.reset s.cores id

/-- Replace a core. -/
def State.setCore (s : State) (id : Nat) (c : CoreState) : State := { s with cores := tblPut s.cores id c }

/-- R25, BRP_MAP: the physical array that backs a logical array. -/
def State.physOf (s : State) (n : Nat) : Option Nat :=
  if n < 16 ∧ s.flag (rBrpMap n) 31 then some (s.fld (rBrpMap n) 4 0) else none

/-- R25: the logical array that a physical array backs. -/
def State.logOf (s : State) (p : Nat) : Option Nat :=
  (List.range 16).find? (fun n => s.physOf n == some p)

/-- A send on a port. -/
def State.emit (s : State) (port : String) (data : List Nat) : State := { s with out := s.out ++ [⟨port, data⟩] }

/-- A value the spec leaves open: the next free value (notes/assumptions/6). -/
def State.free (s : State) : Nat := (Config.freeValue s.fresh).toNat

/-- An open choice of a place, of the next draw (notes/assumptions/6). -/
def State.freeAt (s : State) (place : Nat) : Nat := (Config.freeAt s.fresh place).toNat

/-- The free value has been used. -/
def State.drawn (s : State) : State := { s with fresh := s.fresh + 1 }

/-- Answer a command with data. -/
def State.answer (s : State) (d : List Nat) : State := { s with reply := d }

/-- The byte at a device physical address; an address nothing has written reads 0. -/
def State.byte (s : State) (a : Nat) : Byte := tblGet 0#8 s.mem a

/-- n bytes from a device physical address. -/
def State.rdBytes (s : State) (a : Nat) : Nat → List Byte
  | 0 => []
  | n + 1 => s.byte a :: s.rdBytes (a + 1) n

/-- The little-endian value of n bytes of memory. -/
def State.rdLe (s : State) (a n : Nat) : Nat := ofBytes (s.rdBytes a n)

/-- Bytes stored in canonical form, without check effects. -/
def memPut : List Host.Cell → Nat → List Byte → List Host.Cell
  | m, _, [] => m
  | m, a, b :: bs => memPut (tblSet 0#8 m a b) (a + 1) bs

/-- The canonical form of memory: addresses strictly rising, and no entry equal to what an unlisted address reads as. -/
def Memory.wf : List Host.Cell → Bool
  | [] => true
  | [c] => c.2 != 0#8
  | c :: d :: m => c.2 != 0#8 && decide (c.1 < d.1) && Memory.wf (d :: m)

/-- R256: the first address of the edge store of a logical array. -/
def esBase (n : Nat) : Nat := 0x800000000000 + n * 0x100000000

/-- R256: the first address of the slate of a core ID. -/
def slateBase (id : Nat) : Nat := esBase (id / 65536) + 0x80000000 + (id % 65536) * 0x1000

/-- R256: what lies at a device physical address. -/
inductive Place where
  | hbm | edge (arr off : Nat) | slate (arr core off : Nat) | aperture (entry off : Nat) | regs (off : Nat)
  | host (off : Nat) | none
  deriving DecidableEq, Repr

/-- R246: bytes of HBM in service, C. Before stage 7 sets it, the capacity of the identity register is not yet known
and C is 0. -/
def State.hbmCap (s : State) : Nat := s.reg64 rMmuHbmCap

/-- R256: the place of an address, without asking which arrays exist. -/
def placeAt (cap a : Nat) : Place :=
  if a < cap then .hbm
  else if a < 0x800000000000 then .none
  else if a < 0x801000000000 then
    let n := (a - 0x800000000000) / 0x100000000
    let x := a % 0x100000000
    if x < 0x4000000 then .edge n x
    else if 0x80000000 ≤ x ∧ x < 0x90000000 then .slate n ((x - 0x80000000) / 0x1000) (x % 0x1000)
    else .none
  else if 0x900000000000 ≤ a ∧ a < 0xA00000000000 then
    .aperture ((a - 0x900000000000) / 0x1000000000) (a % 0x1000000000)
  else if 0xC00000000000 ≤ a ∧ a < 0xC00004000000 then .regs (a - 0xC00000000000)
  else if 0xE00000000000 ≤ a ∧ a < 0x1000000000000 then .host (a - 0xE00000000000)
  else .none

/-- R256: the place of an address on this part. -/
def State.place (s : State) (a : Nat) : Place := placeAt s.hbmCap a

/-- R456: whether an address lies in HBM whose site port has latched off. -/
def State.siteOff (s : State) (a : Nat) : Bool :=
  match s.place a with
  | .hbm =>
    let st := s.fld (rPwrDom (306 + nth 0 s.memst.activePcs ((a / 64) % Nat.max 1 s.memst.activePcs.length) / 64)) 31 29
    st == 4 || st == 5
  | _ => false

/-- R232, R233, R456: the check state of the 64-bit word that holds an address; what cannot be reached reads poisoned. -/
def State.checkAt (s : State) (a : Nat) : Check :=
  if s.siteOff a then .poisoned else tblGet Check.clean s.memst.check (a / 8)

/-- Set the check state of the word that holds an address. -/
def State.setCheck (s : State) (a : Nat) (c : Check) : State :=
  { s with memst := { s.memst with check := tblSet Check.clean s.memst.check (a / 8) c } }

/-- The words a byte range touches, by their first addresses. -/
def wordsOf (a n : Nat) : List Nat :=
  if n = 0 then [] else (List.range ((a + n - 1) / 8 - a / 8 + 1)).map (fun i => (a / 8 + i) * 8)

/-- R233: the check state of a word after bytes [a, a + n) were written: a whole word clears it; part of a bad word
leaves it poisoned. -/
def checkAfterWrite (a n w : Nat) : Check → Check
  | .clean => .clean
  | .correctable _ => .clean
  | _ => if a ≤ w ∧ w + 8 ≤ a + n then .clean else .poisoned

/-- R233: write bytes to memory; check states follow checkAfterWrite. -/
def State.wrBytes (s : State) (a : Nat) (bs : List Byte) : State :=
  let n := bs.length
  let ck := (wordsOf a n).foldl (fun t w =>
    tblSet Check.clean t (w / 8) (checkAfterWrite a n w (tblGet Check.clean t (w / 8)))) s.memst.check
  { s with mem := memPut s.mem a bs, memst := { s.memst with check := ck } }

/-- R233: poison every word of a range. -/
def State.poison (s : State) (a n : Nat) : State := (wordsOf a n).foldl (fun s w => s.setCheck w .poisoned) s

/-- Whether a range holds a word that is poisoned or uncorrectable. -/
def State.badIn (s : State) (a n : Nat) : Bool :=
  (wordsOf a n).any (fun w => (s.checkAt w).bad)

/-- The accessor of a translated access: context, its logical array (none for units of no array, R259), kind, and its micro-cache (R262: 0
controller, 1 vector engine, 2 DMA and feeds, 3 none). -/
structure Accessor where
  ctx : Nat
  array : Option Nat
  kind : AccKind
  micro : Nat
  deriving DecidableEq, Repr

/-- The outcome of a translation: a physical address, or a code of class 0x02 with the level reached, the entry read and
the address it was read from. -/
inductive Tr where
  | ok (pa : Nat)
  | fault (code level entry entryPa : Nat)
  deriving DecidableEq, Repr

/-- R257: page size by level of a leaf: 4 KiB, 2 MiB, 1 GiB. -/
def leafSize : Nat → Nat
  | 0 => 0x1000
  | 1 => 0x200000
  | _ => 0x40000000

/-- R257: whether an entry is malformed at a level. -/
def pteMalformed (level e : Nat) : Bool :=
  let table := e.testBit 1
  bitsOf e 63 48 != 0 || bitsOf e 11 9 != 0 || e.testBit 6
    || (table && (level == 0 || e.testBit 8 || e.testBit 7 || e.testBit 5))
    || (!table && (level == 3 || (e.testBit 5 && level != 0) || (bitsOf e 47 12 * 0x1000) % leafSize level != 0))

/-- R257: whether a leaf allows an access. -/
def pteAllows (k : AccKind) (e : Nat) : Bool :=
  match k with
  | .read => e.testBit 2
  | .write => e.testBit 3
  | .fetch => e.testBit 4

/-- The context a register block bound to a host port (DSP_CTX_FUNC): the port of its function, none when unbound. -/
def State.boundPort (s : State) (ctx : Nat) : Option Nat :=
  if s.flag (rDspCtxFunc ctx) 31 then some (s.fld (rDspCtxFunc ctx) 18 16) else none

/-- R261, R410: whether a table may be read at an address: HBM, or the host window of the bound function's port. -/
def State.walkAllowed (s : State) (ctx pa : Nat) : Bool :=
  match s.place pa with
  | .hbm => true
  | .host off => s.boundPort ctx == some (off / 0x40000000000)
  | _ => false

/-- R258: whether the 16 entries of a contiguous page agree with entry i of them. -/
def State.contigAgrees (s : State) (base i e : Nat) : Bool :=
  (List.range 16).all (fun j =>
    let x := s.rdLe (base + 8 * j) 8
    x.testBit 5 && x + i * 0x1000 == e + j * 0x1000)

/-- R259, R257: the physical address a leaf gives for an access. -/
def leafAddr (acc : Accessor) (level e va : Nat) (entryPa : Nat) : Tr :=
  let pa := bitsOf e 47 12 * 0x1000 + va % leafSize level
  if e.testBit 8 then
    match acc.array with
    | none => .fault 0x06 level e entryPa
    | some n =>
      if 0x800000000000 ≤ pa ∧ pa < 0x800100000000 then .ok (pa + n * 0x100000000)
      else .fault 0x06 level e entryPa
  else .ok pa

/-- R257 to R261: the walk from a table at an address, through the levels listed. -/
def State.walk (s : State) (acc : Accessor) (va : Nat) : Nat → Nat → Tr
  | table, level =>
    let idx := bitsOf va (12 + 9 * level + 8) (12 + 9 * level)
    let ea := table + 8 * idx
    let e := s.rdLe ea 8
    if !s.walkAllowed acc.ctx ea then .fault 0x04 level 0 ea
    else if s.badIn ea 8 then .fault 0x03 level 0 ea
    else if !e.testBit 0 then .fault 0x01 level e ea
    else if pteMalformed level e then .fault 0x06 level e ea
    else if e.testBit 1 then
      match level with
      | 0 => .fault 0x06 level e ea
      | l + 1 => s.walk acc va (bitsOf e 47 12 * 0x1000) l
    else if e.testBit 5 && s.badIn (table + 8 * (idx / 16 * 16)) 128 then .fault 0x03 level e ea
    else if e.testBit 5 && !s.contigAgrees (table + 8 * (idx / 16 * 16)) (idx % 16) e then .fault 0x05 level e ea
    else if !pteAllows acc.kind e then .fault 0x02 level e ea
    else leafAddr acc level e va ea

/-- R257: the root of a context's page table; none when it is not valid. -/
def State.rootOf (s : State) (ctx : Nat) : Option Nat :=
  if s.flag (rMmuRoot ctx) 0 then some (s.fld (rMmuRoot ctx) 31 12 * 0x1000 + s.fld (rMmuRoot ctx + 4) 15 0 * 2 ^ 32)
  else none

/-- The generation of a context (DSP_CTX_CTL). -/
def State.ctxGen (s : State) (ctx : Nat) : Nat := s.fld (rDspCtxCtl ctx) 15 8

/-- The partition a context is bound to. -/
def State.ctxPart (s : State) (ctx : Nat) : Nat := s.fld (rDspCtxCtl ctx) 25 22

/-- First logical array and size of a partition; size 0 when it does not exist (R386). -/
def State.partRange (s : State) (p : Nat) : Nat × Nat :=
  if s.flag (rDspPartCtl p) 31 then (s.fld (rDspPartCtl p) 11 8, 2 ^ s.fld (rDspPartCtl p) 2 0) else (0, 0)

/-- Whether a logical array belongs to a context's partition. -/
def State.inPartition (s : State) (ctx n : Nat) : Bool :=
  let r := s.partRange (s.ctxPart ctx)
  decide (r.1 ≤ n) && decide (n < r.1 + r.2)

/-- R242: a context's edge-store region: first byte and length. -/
def State.esAlloc (s : State) (ctx : Nat) : Nat × Nat :=
  (s.fld (rMmuAllocEs ctx) 9 0 * 0x10000, s.fld (rMmuAllocEs ctx) 26 16 * 0x10000)

/-- R234: a context's core-mode range of the slate: first byte and length. -/
def State.slAlloc (s : State) (ctx : Nat) : Nat × Nat :=
  (s.fld (rMmuAllocSl ctx) 5 0 * 64, s.fld (rMmuAllocSl ctx) 14 8 * 64)

/-- R234: a context's park range: first slot and count. -/
def State.parkAlloc (s : State) (ctx : Nat) : Nat × Nat :=
  (s.fld (rMmuAllocPark ctx) 7 0, s.fld (rMmuAllocPark ctx) 16 8)

/-- R260: whether a translated address lies in the context's allocations, or outside the slate and edge-store region. -/
def State.allocOk (s : State) (ctx pa : Nat) : Bool :=
  match s.place pa with
  | .edge n x => s.inPartition ctx n && decide ((s.esAlloc ctx).1 ≤ x) && decide (x < (s.esAlloc ctx).1 + (s.esAlloc ctx).2)
  | .slate n _ b =>
    s.inPartition ctx n &&
      ((decide ((s.slAlloc ctx).1 ≤ b) && decide (b < (s.slAlloc ctx).1 + (s.slAlloc ctx).2)) ||
       (decide ((s.parkAlloc ctx).1 * 16 ≤ b) && decide (b < ((s.parkAlloc ctx).1 + (s.parkAlloc ctx).2) * 16)))
  | .regs _ => false
  | _ => true

/-- R262: cache c of a physical array. -/
def State.cache (s : State) (p c : Nat) : List TlbEntry := tblGet [] s.memst.tlb (5 * p + c)

/-- R262: the physical array of an accessor's caches; a unit of no array has none. -/
def State.cacheArray (s : State) (acc : Accessor) : Option Nat := acc.array.bind s.physOf

/-- R262: whether a cached entry is one of a kind, context and generation that covers an address. -/
def State.cached (s : State) (k : CacheKind) (ctx va : Nat) (t : TlbEntry) : Bool :=
  t.kind == k && t.ctx == ctx && t.gen == s.ctxGen ctx && decide (t.va ≤ va) && decide (va < t.va + t.size)

/-- R262: the cached leaf for an access, if a walk has filled one: in its unit's micro-cache, or in its array's cache. -/
def State.tlbHit (s : State) (acc : Accessor) (va : Nat) : Option TlbEntry :=
  match s.cacheArray acc with
  | some p => ((if acc.micro < 3 then s.cache p acc.micro else []) ++ s.cache p 3).find? (s.cached .leaf acc.ctx va)
  | none => none

/-- R262: the lowest table that the walk cache of an access's array names for an address: the address and the level of its entries. -/
def State.walkHit (s : State) (acc : Accessor) (va : Nat) : Option (Nat × Nat) :=
  match s.cacheArray acc with
  | some p => ([1, 2, 3].findSome? (fun l => (s.cache p 4).find? (fun t => s.cached .table acc.ctx va t && t.size == 0x1000 * 512 ^ l))).map
      (fun t => (bitsOf t.leaf 47 12 * 0x1000, if t.size = 0x200000 then 0 else if t.size = 0x40000000 then 1 else 2))
  | none => none

/-- The level of a leaf of a size. -/
def levelOfSize (n : Nat) : Nat := if n = 0x1000 then 0 else if n = 0x200000 then 1 else 2

/-- R257 to R261: the translation of one virtual address for one access, before the checks of the place it lands in. -/
def State.translate (s : State) (acc : Accessor) (va : Nat) : Tr :=
  let va := va % 2 ^ 48
  match s.tlbHit acc va with
  | some t =>
    if pteAllows acc.kind t.leaf then leafAddr acc (levelOfSize t.size) t.leaf va 0
    else .fault 0x02 (levelOfSize t.size) t.leaf 0
  | none =>
    match s.rootOf acc.ctx with
    | none => .fault 0x01 3 0 0
    | some root => (match s.walkHit acc va with
      | some (table, level) => s.walk acc va table level
      | none => s.walk acc va root 3)

/-- R268, MMU_APT: the 64-bit aperture entry e of a context in memory; an invalid table gives none that may be used. -/
def State.apertureMem (s : State) (ctx e : Nat) : Nat :=
  if s.flag (rMmuApt ctx) 0 then s.rdLe (s.fld (rMmuApt ctx) 31 11 * 0x800 + s.fld (rMmuApt ctx + 4) 15 0 * 2 ^ 32 + 8 * e) 8 else 0

/-- R262, R268: the aperture entry of a context as physical array p sees it: from its cache, or from memory. -/
def State.aperture (s : State) (p : Option Nat) (ctx e : Nat) : Nat :=
  match p.bind (fun p => (s.cache p 3).find? (s.cached .aperture ctx e)) with
  | some t => t.leaf
  | none => s.apertureMem ctx e

/-- R268: an aperture entry that may be used. -/
def apertureOk (e : Nat) : Bool := bitsOf e 63 43 == 0 && e.testBit 42

/-- R256, R260, R265, R268: a translation with the checks of its landing place: unpopulated is code 0x09, outside the
context's allocations code 0x07, an aperture entry that may not be used code 0x0A. -/
def State.access (s : State) (acc : Accessor) (va : Nat) : Tr :=
  match s.translate acc va with
  | .ok pa =>
    if s.place pa == .none then .fault 0x09 0xFF pa 0
    else if (match s.place pa with | .host off => s.boundPort acc.ctx != some (off / 0x40000000000) | _ => false) then .fault 0x02 0xFF pa 0
    else if (match s.place pa with | .aperture e _ => !apertureOk (s.aperture (s.cacheArray acc) acc.ctx e) | _ => false) then .fault 0x0A 0xFF pa 0
    else if s.allocOk acc.ctx pa then .ok pa
    else .fault 0x07 0xFF pa 0
  | f => f

/-- Further bytes of a range within one page at which the place of its first byte may end: in a slate every 16 bytes, the unit of the park
range (the core-mode range is kept in units of 64, R234), elsewhere its last byte. -/
def State.spanPoints (s : State) (pa n : Nat) : List Nat :=
  match s.place pa with
  | .slate .. => (List.range ((pa + n - 1) / 16 - pa / 16)).map (fun i => (pa / 16 + i + 1) * 16)
  | _ => if n ≤ 1 then [] else [pa + n - 1]

/-- R256, R260: a translation of n bytes that do not cross a page, with the checks of every place they land in. -/
def State.accessN (s : State) (acc : Accessor) (va n : Nat) : Tr :=
  match s.access acc va with
  | .ok pa =>
    if (s.spanPoints pa n).any (fun x => s.place x == .none) then .fault 0x09 0xFF pa 0
    else if (s.spanPoints pa n).all (s.allocOk acc.ctx) then .ok pa
    else .fault 0x07 0xFF pa 0
  | f => f

/-- R13: the code of a requester, for its latches. -/
def reqCode : Requester → Nat
  | .mgmtA => 0
  | .mgmtB => 1
  | .internal => 2
  | .pf p => 16 + p
  | .fabric n => 65536 + n
  | .vf p f => 2 ^ 20 + p * 1024 + f

/-- R516: kind of a requester. -/
def reqKind : Requester → Nat
  | .mgmtA => 1 | .mgmtB => 2 | .fabric _ => 3 | .pf _ => 4 | .vf .. => 5 | .internal => 6

/-- R516: path index of a requester. -/
def reqPath : Requester → Nat
  | .pf p => p
  | .vf p _ => p
  | _ => 0

/-- R516: node of a requester. -/
def reqNode : Requester → Nat
  | .fabric n => n
  | _ => 0

end Sys2Proof.Machine
end

