-- ==== Sys2Proof/Machine/Events.lean ====
section
/-!
DEFINITION. Event records and their rings (00_scope R15 to R17, 11_contexts R397 to R399 and R565), the lifetime entries
they leave (R540, R541) and their forwarding (R523).
-/
namespace Sys2Proof.Machine

/-- R17: the source field: unit kind and index. -/
def srcOf (kind index : Nat) : Nat := kind * 4096 + index % 4096

/-- A payload from (byte offset in the record, bytes, value) parts. -/
def payloadOf (fs : List (Nat × Nat × Nat)) : Nat :=
  fs.foldl (fun a f => a + (f.2.2 % 2 ^ (8 * f.2.1)) * 2 ^ (8 * (f.1 - 16))) 0

/-- R15: the 64 bytes of a record. -/
def recBytes (r : EvRec) : List Byte :=
  bytesOf 64 (r.time.toNat + r.cls * 2 ^ 64 + r.code * 2 ^ 72 + r.sev * 2 ^ 80 + r.gen % 256 * 2 ^ 88
    + r.source * 2 ^ 96 + r.ctx.getD 0xFFFF * 2 ^ 112 + r.payload % 2 ^ 384 * 2 ^ 128)

/-- The key of the device ring among the rings. -/
def devRing : Nat := 512

/-- The ring state of a context, or of the device. -/
def State.ring (s : State) (k : Nat) : Ring := tblGet Ring.reset s.rings k

/-- Replace a ring's state. -/
def State.setRing (s : State) (k : Nat) (r : Ring) : State := { s with rings := tblPut s.rings k r }

/-- R397: records a ring holds. -/
def ringSize (k : Nat) : Nat := if k = devRing then 1024 else 64

/-- Register of the records written. -/
def ringWr (k : Nat) : Nat := if k = devRing then rDspDevEvtWr else rCpEvtWr k
/-- Register of the records consumed. -/
def ringRd (k : Nat) : Nat := if k = devRing then rDspDevEvtRd else rCpEvtRd k
/-- Status register. -/
def ringStatus (k : Nat) : Nat := if k = devRing then rDspDevEvtStatus else rCpEvtStatus k
/-- Peak register. -/
def ringPeak (k : Nat) : Nat := if k = devRing then rDspDevEvtPeak else rCpEvtPeak k
/-- Crossings register. -/
def ringCross (k : Nat) : Nat := if k = devRing then rDspDevEvtCross else rCpEvtCross k

/-- R397: the fill of a ring. -/
def State.ringFill (s : State) (k : Nat) : Nat :=
  ((s.reg (ringWr k)).toNat + (2 ^ 32 - (s.reg (ringRd k)).toNat)) % 2 ^ 32

/-- The watermark level of a ring. -/
def State.ringLevel (s : State) (k : Nat) : Nat := if k = devRing then s.fld rDspDevEvtWm 10 0 else s.fld (rCpEvtWm k) 6 0

/-- R397, R565: the device physical address of slot n of a ring; a fault stops a context's ring. -/
def State.ringAddr (s : State) (k n : Nat) : Tr :=
  if k = devRing then
    .ok (s.fld rDspDevEvt 31 16 * 0x10000 + s.fld (rDspDevEvt + 4) 15 0 * 2 ^ 32 + 64 * (n % 1024))
  else
    s.access ⟨k, none, .write, 3⟩
      (s.fld (rDspCtxEvt k) 31 12 * 0x1000 + s.fld (rDspCtxEvt k + 4) 15 0 * 2 ^ 32 + 64 * (n % 64))

/-- R541: whether an event enters the lifetime ring. -/
def lifeTakes (cls code sev : Nat) : Bool :=
  decide (1 ≤ sev) || (cls == 0x0B && decide (5 ≤ code) && decide (code ≤ 9))
    || (cls == 0x0C && (decide (code < 0x80) || (decide (0xA0 ≤ code) && decide (code ≤ 0xAD))))
    || (cls == 0x09 && ((decide (2 ≤ code) && decide (code ≤ 5)) || code == 0x0C))
    || (cls == 0x05 && decide (0x0D ≤ code) && decide (code ≤ 0x0F))
    || (cls == 0x07 && (code == 3 || code == 5))

/-- R541: buffer a lifetime entry. -/
def State.lifeAdd (s : State) (kind : Nat) (body : List Byte) : State :=
  { s with life := { s.life with
      nextSeq := s.life.nextSeq + 1
      buf := s.life.buf ++ [⟨s.life.secs, s.life.nextSeq, kind, body⟩] } }

/-- R542: add to a lifetime counter, saturating. -/
def State.lifeCount (s : State) (w n : Nat) : State :=
  { s with life := { s.life with ctr := tblPut s.life.ctr w (BitVec.ofNat 32 (satAdd 32 (tblGet 0#32 s.life.ctr w).toNat n)) } }

/-- R523: forward a device-ring record when MGT_EVT_FWD enables it, at most 100 a second; the rest are counted. -/
def State.forwardEvent (s : State) (r : EvRec) : State :=
  if s.flag rMgtEvtFwd 31 ∧ s.fld rMgtEvtFwd 29 28 ≤ r.sev then
    let sec := s.now.toNat / 64000000000
    let n := if s.life.fwdSec = sec then s.life.fwdCount else 0
    if n < 100 then
      { s.emit "pldm-event" ((recBytes r).map BitVec.toNat) with life := { s.life with fwdSec := sec, fwdCount := n + 1 } }
    else s.setFld rMgtEvtFwd 15 0 (satAdd 16 (s.fld rMgtEvtFwd 15 0) 1)
  else s

/-- A host port's own state. -/
def State.hport (s : State) (h : Nat) : HostPort := tblGet HostPort.reset s.fab.hosts h

/-- Replace a host port's state. -/
def State.setHport (s : State) (h : Nat) (x : HostPort) : State := { s with fab := { s.fab with hosts := tblPut s.fab.hosts h x } }

/-- The device physical address of an offset of a host window (R410). -/
def hostWindow (h off : Nat) : Nat := 0xE00000000000 + h * 0x40000000000 + off % 0x40000000000

/-- R411: a write of n bytes at an address, split at 4 KiB boundaries and at the Max Payload Size. Fuel: the bytes. -/
def payloadPieces (mps : Nat) : Nat → Nat → Nat → List (Nat × Nat)
  | 0, _, _ => []
  | f + 1, a, n =>
    if n = 0 then []
    else
      let k := Nat.min n (Nat.min mps (4096 - a % 4096))
      (a, k) :: payloadPieces mps f (a + k) (n - k)

/-- R407, R411: a write request leaves through a host port, translated or not, in packets of at most the Max Payload Size of the port's
physical function, data with Relaxed Ordering where the function enables it, and its bytes reach host memory. -/
def State.hostSend (s : State) (h : Nat) (r : HostReq) (translated : Bool) : State :=
  let o := nth 0 r.msg 2
  let bs := r.msg.drop 3
  let ro := r.data && (tblGet HostFn.reset (s.hport h).fns r.fn).ro
  let s := (payloadPieces (128 * 2 ^ (s.hport h).mps) bs.length o bs.length).foldl (fun s x =>
    s.emit "host" ([h, r.fn, b2n translated, b2n ro, nth 0 r.msg 0, nth 0 r.msg 1, x.1] ++ (bs.drop (x.1 - o)).take x.2)) s
  let a := hostWindow h o
  let s := s.wrBytes a ((r.msg.drop 3).map (BitVec.ofNat 8))
  if nth 0 r.msg 1 = 1 then s.poison a (r.msg.drop 3).length else s

/-- R264, R411: a request leaves through a host port with its function's Requester ID; while the function's Bus Master Enable is 0 it
waits. With ATS enabled it leaves translated, and waits at the port while its page has no translation (notes/assumptions/117). -/
def State.hostReq (s : State) (h : Nat) (r : HostReq) : State :=
  let x := s.hport h
  let y := tblGet HostFn.reset x.fns r.fn
  if !y.bme || y.d3 then s.setHport h { x with waiting := x.waiting ++ [r] }
  else if !y.ats then s.hostSend h r false
  else if (tblGet [] s.memst.atc h).contains (r.fn, r.page) then s.hostSend h r true
  else
    let s := s.setHport h { x with atsWait := x.atsWait ++ [{ r with refused := false }] }
    if x.atsOut.contains (r.fn, r.page) then s
    else
      ((s.setHport h { s.hport h with atsOut := x.atsOut ++ [(r.fn, r.page)] }).bump (rHstAtcMiss h) 1).emit "ats" [h, r.fn, r.page]

/-- R411: a request of a context to a host port; data: of data, not of event records. -/
def State.hostOut (s : State) (ctx h va : Nat) (data : Bool) (msg : List Nat) : State :=
  s.hostReq h ⟨s.fld (rDspCtxFunc ctx) 8 0, ctx, va, msg, data, false⟩

/-- R407, R409: raise an MSI-X vector of a function of a host port: the message of its table entry, or its pending bit while
MSI-X is off or the vector is masked. Table entry v of function fn stands at words 64 fn + 4 v, the pending bits at 65536 + fn. -/
def State.msixRaise (s : State) (h fn v : Nat) : State :=
  let x := s.hport h
  let w (i : Nat) := (tblGet (if i = 3 then 1#32 else 0#32) x.msix (64 * fn + 4 * v + i)).toNat
  if (tblGet HostFn.reset x.fns fn).msix && !(w 3).testBit 0 then s.emit "msix" [h, fn, v, w 0 + 2 ^ 32 * w 1, w 2]
  else s.setHport h { x with msix := tblPut x.msix (65536 + fn) (tblGet 0#32 x.msix (65536 + fn) ||| (1#32 <<< v)) }

/-- R409: raise a vector of a context's function; the device ring raises it on the physical function of every host port. -/
def State.msix (s : State) (k v : Nat) : State :=
  if k = devRing then (List.range 8).foldl (fun s h => if s.flag rGlbHostEn h then s.msixRaise h 0 v else s) s
  else match s.boundPort k with
    | some h => s.msixRaise h (s.fld (rDspCtxFunc k) 8 0) v
    | none => s

/-- What the dispatcher writes: into a host window it leaves through its port. -/
def State.hostCopy (s : State) (ctx pa : Nat) (bs : List Byte) : State :=
  match s.place pa with
  | .host off => s.hostOut ctx (off / 0x40000000000) pa false (1 :: 0 :: off % 0x40000000000 :: bs.map BitVec.toNat)
  | _ => s.wrBytes pa bs

/-- R397: write one record into a ring that has room; none when a translation fault stops the write (R565). -/
def State.ringWrite (s : State) (k : Nat) (r : EvRec) : Option State :=
  let n := (s.reg (ringWr k)).toNat
  match s.ringAddr k n with
  | .fault .. => none
  | .ok pa =>
    let s := (s.hostCopy k pa (recBytes r)).setReg (ringWr k) (BitVec.ofNat 32 (n + 1))
    let f := s.ringFill k
    some (if s.fld (ringPeak k) 10 0 < f then s.setFld (ringPeak k) 10 0 f else s)

/-- R401: the record of a context reset, which is never discarded for want of room (log entry 132). -/
def EvRec.resetDone (r : EvRec) : Bool := r.cls == 0x0C && r.code == 0x9B

/-- R399: hold a record back: overflow buffer of 16, then the spill of 512 for severity 2 and 3; a record of severity 0
or 1 beyond the buffer, or any beyond the spill, is lost. The device ring counts no loss (R399). -/
def State.ringHold (s : State) (k : Nat) (r : EvRec) : State :=
  let g := s.ring k
  if g.waiting.length < 16 ∨ (2 ≤ r.sev ∧ g.waiting.length < 528) ∨ r.resetDone then
    let s := s.setRing k { g with waiting := g.waiting ++ [r] }
    if 16 ≤ g.waiting.length ∧ k ≠ devRing then s.setFlag (rCpEvtStatus k) 2 true else s
  else
    let s := (s.setRing k { g with lost := g.lost + 1 }).setFlag (ringStatus k) 1 true
    if k = devRing then s else s.bump (rCpEvtLost k) 1

/-- R565: the record of a stopped event-ring write: class 0x02, unit 10, to the device ring. -/
def ringFaultRec (s : State) (k : Nat) (code level entry epa : Nat) : EvRec :=
  { time := s.now, cls := 0x02, code := code, sev := 2, gen := s.ctxGen k, source := srcOf 8 (b2n (s.flag rBrpDsp 31)),
    ctx := some k
    payload := payloadOf [(16, 1, 10), (17, 1, 1), (18, 1, if code = 7 ∨ 9 ≤ code then 0xFF else level), (19, 1, 0xFF),
      (24, 8, s.fld (rDspCtxEvt k) 31 12 * 0x1000 + s.fld (rDspCtxEvt k + 4) 15 0 * 2 ^ 32 + 64 * ((s.reg (ringWr k)).toNat % 64)),
      (32, 8, entry), (40, 8, epa)] }

/-- R262, R265: mark a context in MMU_STALLED. -/
def State.markStalled (s : State) (ctx : Nat) (b : Bool) : State := s.setFlag (rMmuStalled (ctx / 32)) (ctx % 32) b

/-- R397 to R399: put a record into a ring, without the crossing it may cause. -/
def State.ringPut (s : State) (k : Nat) (r : EvRec) : State :=
  let g := s.ring k
  if g.waiting ≠ [] ∨ g.blocked ∨ ringSize k ≤ s.ringFill k then s.ringHold k r
  else
    match s.ringWrite k r with
    | some t => t
    | none =>
      let tr := s.ringAddr k (s.reg (ringWr k)).toNat
      let s := ((s.ringHold k r).setRing k { (s.ringHold k r).ring k with blocked := true }).markStalled k true
      match tr with
      | .fault code level entry epa =>
        let d := ringFaultRec s k code level entry epa
        if (s.ring devRing).waiting ≠ [] ∨ 1024 ≤ s.ringFill devRing then s.ringHold devRing d
        else (s.ringWrite devRing d).getD s
      | .ok _ => s

/-- R398: a record of code 0x98 or 0x99 for a ring: fill and crossings covered. -/
def crossRec (s : State) (k code covered fill : Nat) : EvRec :=
  { time := s.now, cls := 0x0C, code := code, sev := 0, gen := if k = devRing then 0 else s.ctxGen k
    source := srcOf 8 (b2n (s.flag rBrpDsp 31)), ctx := if k = devRing then none else some k
    payload := payloadOf [(26, 2, covered), (32, 8, fill)] }

/-- R398: what a crossing does: hi_wm, the count, and the event with MSI-X vector 0 unless one was posted within 10 µs. -/
def State.ringCrossing (s : State) (k : Nat) : State :=
  let s := (s.setFlag (ringStatus k) 0 true).bump (ringCross k) 1
  let g := s.ring k
  if g.hold98 then s.setRing k { g with held98 := g.held98 + 1 }
  else ((s.setRing k { g with hold98 := true }).ringPut k (crossRec s k 0x98 1 (s.ringFill k))).msix k (if k = devRing then 3 else 0)

/-- R397, R398: put a record into a ring, with the watermark. -/
def State.ringPost (s : State) (k : Nat) (r : EvRec) : State :=
  let before := s.ringFill k
  let t := s.ringPut k r
  if before < s.ringLevel k ∧ t.ringLevel k ≤ t.ringFill k then t.ringCrossing k else t

/-- R15: a record for a context, or for the device. -/
def mkRec (s : State) (ctx : Option Nat) (cls code sev source payload : Nat) : EvRec :=
  { time := s.now, cls := cls, code := code, sev := sev, gen := match ctx with | some c => s.ctxGen c | none => 0
    source := source, ctx := ctx, payload := payload }

/-- R15, R541: post an event to its context's ring, or to the device ring when no context owns it; copy: an identical
copy also goes to the device ring. -/
def State.post (s : State) (ctx : Option Nat) (copy : Bool) (cls code sev source payload : Nat) : State :=
  let r := mkRec s ctx cls code sev source payload
  let s := if lifeTakes cls code sev then s.lifeAdd 0x01 (recBytes r) else s
  match ctx with
  | none => (s.ringPost devRing r).forwardEvent r
  | some c =>
    let s := s.ringPost c r
    if copy then (s.ringPost devRing r).forwardEvent r else s

/-- An event of the device. -/
def State.postDev (s : State) (cls code sev source payload : Nat) : State := s.post none false cls code sev source payload

/-- An event of a context. -/
def State.postCtx (s : State) (c cls code sev source payload : Nat) : State :=
  s.post (some c) false cls code sev source payload

/-- R399: move waiting records into a ring while it has room. Fuel: the records waiting. -/
def State.ringDrain (s : State) (k : Nat) : Nat → State
  | 0 => s
  | n + 1 =>
    match (s.ring k).waiting with
    | [] => s
    | r :: rs =>
      if (s.ring k).blocked ∨ ringSize k ≤ s.ringFill k then s
      else
        match s.ringWrite k r with
        | none => s
        | some t => (t.setRing k { t.ring k with waiting := rs }).ringDrain k n

/-- R399: after room appeared: drain, post code 0x9D for the records lost, and let a stalled context go on. -/
def State.ringRoom (s : State) (k : Nat) : State :=
  let s := s.ringDrain k ((s.ring k).waiting.length + 1)
  let g := s.ring k
  let s := if g.waiting.length ≤ 16 ∧ k ≠ devRing then s.setFlag (rCpEvtStatus k) 2 false else s
  if g.waiting = [] ∧ g.lost ≠ 0 ∧ s.ringFill k < ringSize k then
    let s := s.setRing k { s.ring k with lost := 0 }
    s.ringPost k { crossRec s k 0x9D 0 0 with payload := payloadOf [(26, 2, Nat.min g.lost 0xFFFF)] }
  else s

end Sys2Proof.Machine
end

