-- ==== Sys2Proof/Machine/LinkOps.lean ====
section
/-!
DEFINITION. Sending on a fabric port (12_host_fabric R418 to R420, R429, R431, R432): flits, credits, the replay buffer,
scheduled queues, and routing.
-/
namespace Sys2Proof.Machine

/-- R250: one bit of CRC-32C. -/
def crcBit (c : Nat) : Nat := if c % 2 = 1 then c / 2 ^^^ 0x82F63B78 else c / 2

/-- R250: one byte of CRC-32C. -/
def crcByte (c : Nat) (b : Byte) : Nat :=
  let x := c ^^^ b.toNat
  crcBit (crcBit (crcBit (crcBit (crcBit (crcBit (crcBit (crcBit x)))))))

/-- R250: CRC-32C of a byte string. -/
def crc32c (bs : List Byte) : Nat := bs.foldl crcByte 0xFFFFFFFF ^^^ 0xFFFFFFFF

/-- A fabric port's own state. -/
def State.fport (s : State) (f : Nat) : FabPortState := tblGet FabPortState.reset s.fab.ports f

/-- Replace a fabric port's state. -/
def State.setFport (s : State) (f : Nat) (x : FabPortState) : State := { s with fab := { s.fab with ports := tblPut s.fab.ports f x } }

/-- FAB_PORT_STATUS.state. -/
def State.fstate (s : State) (f : Nat) : Nat := s.fld (rFabPortStatus f) 31 28

/-- Whether a link is up, at any rate (R436, R437). -/
def State.linkUp (s : State) (f : Nat) : Bool := decide (3 ≤ s.fstate f) && decide (s.fstate f ≤ 7)

/-- R418: the bytes of a flit. kind: 0 data, 1 idle, 2 control, 3 timing. -/
def flitBytes (seq kind vc crVc cr ack : Nat) (nak : Bool) (payload : List Byte) : List Byte :=
  let h := bytesOf 8 (seq % 65536 + (kind * 64 + vc * 16) * 2 ^ 16 + (crVc * 64 + cr % 64) * 2 ^ 24 + (ack % 65536) * 2 ^ 32
    + b2n nak * 2 ^ 48)
  let b := h ++ sliceBytes payload 0 244
  b ++ bytesOf 4 (crc32c b)

/-- R420: the fseq of the last flit received in order. -/
def FabPortState.ack (x : FabPortState) : Nat := (x.rxSeq + 65535) % 65536

/-- Send a sequenced flit: it takes the next fseq, a credit, and a place in the replay buffer. -/
def State.flitSend (s : State) (f kind vc : Nat) (payload : List Byte) : State :=
  let x := s.fport f
  let s := s.emit "fabric" (f :: (flitBytes x.txSeq kind vc 0 0 x.ack false payload).map BitVec.toNat)
  s.setFport f { x with
    txSeq := (x.txSeq + 1) % 65536
    unacked := x.unacked ++ [⟨x.txSeq, vc, payload, s.now.toNat⟩]
    credits := setNth 0 x.credits vc (nth 0 x.credits vc - 1)
    idleSince := if vc < 2 then s.now.toNat else x.idleSince }

/-- R433: send a timing flit: no credit, no number of its own, never replayed. -/
def State.timingSend (s : State) (f : Nat) (payload : List Byte) : State :=
  let x := s.fport f
  s.emit "fabric" (f :: (flitBytes x.txSeq 3 2 0 0 x.ack false payload).map BitVec.toNat)

/-- A schedule entry of a port (R431). -/
def State.schedEnt (s : State) (f e : Nat) : Nat := s.reg64 (rFabSchedEnt f e)

/-- R432: whether the schedule lets a packet start now. others: a packet of the slot's queue waits. -/
def State.slotAllows (s : State) (f : Nat) (i : TxItem) (others : Bool) : Bool :=
  if i.vc ≠ 0 ∨ !s.flag (rFabSchedCtl f) 31 then true
  else
    let x := s.fport f
    match i.queue, x.slot with
    | some q, some (e, _) => bitsOf (s.schedEnt f e) 61 56 == q
    | some _, none => false
    | none, none => true
    | none, some _ => s.fld (rFabSchedCtl f) 30 29 == 1 && !others

/-- R436, R419, R420: whether a port can send a packet now. -/
def State.canSend (s : State) (f : Nat) (i : TxItem) : Bool :=
  let x := s.fport f
  let n := ceilDiv i.bytes.length 244
  let st := s.fstate f
  (if i.vc < 2 then st == 3 || st == 4 else s.linkUp f) && decide (n ≤ nth 0 x.credits i.vc) && decide (x.unacked.length + n ≤ 3200)

/-- R424: the timer of a transaction starts when its request is first sent. -/
def State.txnSent (s : State) (slot : Option Nat) : State :=
  match slot with
  | none => s
  | some k => { s with fab := { s.fab with
      txns := s.fab.txns.map (fun t => if t.slot = k ∧ t.sent.isNone then { t with sent := some s.now.toNat } else t) } }

/-- A packet leaves: its flits, and the bytes counted. -/
def State.packetOut (s : State) (f : Nat) (i : TxItem) : State :=
  let s := (chunks 244 i.bytes).foldl (fun s c => s.flitSend f 0 i.vc c) s
  (s.bump64 (rFabPortTx f) i.bytes.length).txnSent i.txn

/-- Packets that may go, in order; a packet that must wait holds those of its channel and queue behind it. -/
def State.portPump (s : State) (f : Nat) : State :=
  let q := (s.fport f).txq
  let s := s.setFport f { s.fport f with txq := [] }
  (q.foldl (fun (st : State × List (Nat × Option Nat)) i =>
    let s := st.1
    let slotQ := match (s.fport f).slot with | some (e, _) => some (bitsOf (s.schedEnt f e) 61 56) | none => none
    let others := q.any (fun j => j.vc == 0 && j.queue.isSome && j.queue == slotQ)
    if !st.2.contains (i.vc, i.queue) && s.canSend f i && s.slotAllows f i others then (s.packetOut f i, st.2)
    else (s.setFport f { s.fport f with txq := (s.fport f).txq ++ [i] }, (i.vc, i.queue) :: st.2)) (s, [])).1

/-- R432: the scheduled queue a request takes: the lowest whose selector matches its context and node. -/
def State.schedQueue (s : State) (f ctx node : Nat) : Option Nat :=
  if !s.flag (rFabSchedCtl f) 31 then none
  else (List.range 64).find? (fun q =>
    let v := (s.reg (rFabSqSel f q)).toNat
    v.testBit 31 && (v.testBit 30 || bitsOf v 24 16 == ctx) && bitsOf v 15 0 == node)

/-- R437: a wake trigger: a port in low-rate idle starts to wake; during a step down the trigger waits. -/
def State.wakePort (s : State) (f : Nat) : State :=
  if s.fstate f = 5 then (s.setFld (rFabPortStatus f) 31 28 7).setFport f { s.fport f with stepUp := true, wakeWait := false }
  else if s.fstate f = 6 then s.setFport f { s.fport f with wakeWait := true }
  else s

/-- A packet enters a port; a request or response wakes a port in low-rate idle (R437). -/
def State.portSend (s : State) (f vc : Nat) (queue txn : Option Nat) (bs : List Byte) : State :=
  let s := s.setFport f { s.fport f with txq := (s.fport f).txq ++ [⟨vc, queue, bs, txn⟩] }
  (if vc < 2 then s.wakePort f else s).portPump f

/-- R429: the port that a packet for a node takes; none when the node is unroutable. -/
def State.routeTo (s : State) (d : Nat) : Option Nat :=
  let e := (s.reg (rFabRoute (d % 32768))).toNat
  if !e.testBit 31 || bitsOf e 29 29 != d / 32768 then none
  else if s.linkUp (bitsOf e 4 0) then some (bitsOf e 4 0)
  else if e.testBit 30 && s.linkUp (bitsOf e 12 8) then some (bitsOf e 12 8)
  else none

/-- R427: whether the device's node is assigned; until then a packet that is no discovery frame is dropped with code 0x12. -/
def State.nodeKnown (s : State) : Bool := s.flag rFabNode 31

/-- The device's node. -/
def State.ownNode (s : State) : Nat := s.fld rFabNode 15 0

end Sys2Proof.Machine
end

