-- ==== Sys2Proof/Machine/RepairLog.lean ====
section
/-!
DEFINITION. The repair log (14_bringup_repair R490, R491) and the events of bring-up, repair and reset (R513).
-/
namespace Sys2Proof.Machine

/-- R513: the payload of a bring-up, repair or reset event. -/
def brpPayload (stage result unit loc seq logical phys : Nat) : Nat :=
  payloadOf [(16, 1, stage), (17, 1, result), (18, 2, unit), (20, 4, loc), (24, 4, seq), (28, 1, logical), (29, 1, phys)]

/-- R513: a bring-up, repair or reset event. -/
def State.brpEvent (s : State) (code sev pl : Nat) : State := s.postDev 0x0C code sev (srcOf 7 0) pl

/-- R490: the 32 bytes of a repair log entry. -/
def LogEntry.bytes (e : LogEntry) : List Byte :=
  let b := bytesOf 4 e.seq ++ bytesOf 4 (e.kind + 256 * e.reason + 65536 * e.stage) ++ bytesOf 4 e.hours ++ bytesOf 4 0
    ++ bytesOf 12 (e.target.foldr (fun x a => x % 256 + 256 * a) 0)
  b ++ bytesOf 4 (crc32c b)

/-- R490, R501: the entries that stand: no revocation names them. -/
def inForce (log : List LogEntry) : List LogEntry :=
  let gone := log.filterMap (fun e => if e.kind = 0x0E then some (nth 0 e.target 4 + 256 * nth 0 e.target 5 + 65536 * nth 0 e.target 6
    + 16777216 * nth 0 e.target 7) else none)
  log.filter (fun e => e.kind != 0x0E && !gone.contains e.seq)

/-- The bytes that tell the targets of shift, row and array maps apart (R491). -/
def LogEntry.mapKey (e : LogEntry) : List Nat :=
  e.target.take (if e.kind = 1 then 3 else if e.kind = 2 then 2 else 1)

/-- R491: a compacted log: revoked entries gone, the latest map of each target kept. -/
def compactLog (log : List LogEntry) : List LogEntry :=
  let l := inForce log
  l.filter (fun e => !(decide (e.kind ≤ 3) && l.any (fun d => d.kind == e.kind && d.mapKey == e.mapKey && decide (e.seq < d.seq))))

/-- The sequence number of the next repair log entry. -/
def State.logNext (s : State) : Nat := (s.brp.log.foldl (fun m e => Nat.max m e.seq) 0) + 1

/-- R490, R491: record a repair: reason 1 bring-up, 2 Pyrite run, 3 power control, 4 owner command, 5 strike or suspect remap, 6
monitor. A full log records nothing more. -/
def State.logAdd (s : State) (kind reason stage : Nat) (target : List Nat) : State :=
  let log := if 58924 < s.brp.log.length then compactLog s.brp.log else s.brp.log
  let e : LogEntry := ⟨s.logNext, kind, reason, if reason = 1 then stage else 0, s.life.secs / 3600, target⟩
  if 65472 ≤ log.length then
    ((s.setFlag rBrpLogStatus 31 true).setFlag rBrpStatus 17 true).brpEvent 0xAA 1 (brpPayload stage 0 0xFFFF 0 0 0xFF 0xFF)
  else
    let s := { s with brp := { s.brp with log := log ++ [e] } }
    (s.setFld rBrpLogStatus 16 0 (log.length + 1)).lifeAdd 0x03 e.bytes

/-- The 32-bit number of a log target, low byte first. -/
def le32 (v : Nat) : List Nat := [v % 256, v / 256 % 256, v / 65536 % 256, v / 16777216 % 256]

/-- R493: whether four skip columns are distinct columns of 0 to 259. -/
def skipsOk (skips : Nat) : Bool :=
  let l := (List.range 4).map (fun j => bitsOf skips (9 * j + 8) (9 * j))
  l.all (fun c => decide (c < 260)) && decide (l.eraseDups.length = 4)

/-- R492 to R494: whether a repair names what exists: a shift map distinct columns of a row, a row map a row of a strip. -/
def repairOk (kind : Nat) (t : List Nat) : Bool :=
  match kind with
  | 0x01 => decide (nth 0 t 0 < 18) && decide (nth 0 t 1 + 256 * nth 0 t 2 < 273) &&
      skipsOk (nth 0 t 4 + 256 * nth 0 t 5 + 65536 * nth 0 t 6 + 16777216 * nth 0 t 7 + 2 ^ 32 * nth 0 t 8)
  | 0x02 => decide (nth 0 t 0 < 18) && decide (nth 0 t 1 < 16) && decide (nth 0 t 2 < 17)
  | _ => true

/-- The group of a seam lane: segment, bundle, group. -/
def seamKey (x : SeamLane) : Nat × Nat × Nat := (x.seg.val, x.bundle.toNat, x.group.toNat)

/-- R490: the target bytes of a seam lane that is mapped out. -/
def seamTarget (x : SeamLane) : List Nat := [x.seg.val, x.bundle.toNat, x.group.toNat, x.lane.val]

end Sys2Proof.Machine
end

