-- ==== Sys2Proof/Machine/CtxOps.lean ====
section
/-!
DEFINITION. What a fault does to tiles, queues and contexts (03_array_mode R106, R119; 06_control_isa R229;
11_contexts R394), and which context owns an array (R375, R388).
-/
namespace Sys2Proof.Machine

/-- Whether an array's clock runs and no Flint halt holds it. -/
def ArrayState.runs (a : ArrayState) : Bool := !a.halted && !a.gated && !a.brake

/-- A context's dispatcher state. -/
def State.ctx (s : State) (c : Nat) : CtxState := tblGet CtxState.reset s.ctxs c

/-- Replace a context's dispatcher state. -/
def State.setCtx (s : State) (c : Nat) (x : CtxState) : State := { s with ctxs := tblPut s.ctxs c x }

/-- R375: the state code of a context. -/
def State.ctxState (s : State) (c : Nat) : Nat := s.fld (rDspCtxCtl c) 3 0

/-- R375: set the state code; CP_STATUS shows it too. -/
def State.setCtxState (s : State) (c x : Nat) : State :=
  (s.setFld (rDspCtxCtl c) 3 0 x).setFld (rCpStatus c) 31 28 x

/-- A partition's scheduling state. -/
def State.part (s : State) (p : Nat) : PartState := tblGet PartState.reset s.parts p

/-- Replace a partition's scheduling state. -/
def State.setPart (s : State) (p : Nat) (x : PartState) : State := { s with parts := tblPut s.parts p x }

/-- R404: the resident context of a partition. -/
def State.resident (s : State) (p : Nat) : Option Nat :=
  let r := s.fld (rDspPartCtl p) 25 16
  if s.flag (rDspPartCtl p) 31 ∧ r ≠ 0x3FF then some r else none

/-- R386: the partition that holds a logical array. -/
def State.partOfLog (s : State) (n : Nat) : Option Nat :=
  (List.range 16).find? (fun p => let r := s.partRange p; decide (r.1 ≤ n) && decide (n < r.1 + r.2))

/-- The partition of a physical array. -/
def State.partAt (s : State) (p : Nat) : Option Nat :=
  match s.logOf p with
  | none => none
  | some n => s.partOfLog n

/-- R226, R389: whether an array has a stop request and is not saved yet: no entry of its queues starts. -/
def State.stopping (s : State) (p : Nat) : Bool :=
  match s.partAt p with
  | some q => (s.part q).saving.contains p
  | none => false

/-- R387: the context resident on a physical array: during a switch the outgoing one until the array is saved, none until it is
restored, then the incoming one. -/
def State.residentAt (s : State) (p : Nat) : Option Nat :=
  match s.logOf p with
  | none => none
  | some n => match s.partOfLog n with
    | none => none
    | some q =>
      let x := s.part q
      if x.saving.contains p then x.outgoing
      else if x.restoring.contains p then none
      else if x.incoming.isSome then x.incoming
      else s.resident q

/-- The physical arrays of a context's partition, by rank. -/
def State.ctxArrays (s : State) (c : Nat) : List Nat :=
  let r := s.partRange (s.ctxPart c)
  (List.range r.2).filterMap (fun i => s.physOf (r.1 + i))

/-- R107, R119, R120: a tile as its restart keeps it: its operation, its rows and its held inputs, without any result. -/
def Tile.forRestart (t : Tile) : Tile :=
  { t with state := 5, accs := [], wit := [], upset := [], flags := TileFlags.none, hash := 0, anchorBad := false
           replay := none, witFail := false, init := if t.deps = [] then t.init else [] }

/-- R107: the slot of a tile that waits for its restart: state 5, free for reuse, its status standing until then. -/
def Tile.discarded (t : Tile) : Tile :=
  { t with state := 5, accs := [], wit := [], init := [], upset := [], dest := [], held := [], entry := none, steps := [], replay := none
           openGroup := false }

/-- R168: a chain that is to run again, from its first row, on the outputs of tiles. -/
def ChainRun.again (r : ChainRun) (seqs : List Nat) : ChainRun :=
  { r with staged := [], prog := ChainProg.start, sent := false, after := seqs.filter (fun q => r.attached != some q), hash := 0
           checked := false, upset := [] }

/-- R168: the chains that wait for the commit of tiles in a list run again instead, one of which some rows are done included. -/
def rerunChains (v : VecEng) (seqs : List Nat) : VecEng :=
  let hit := v.pendingSeq.filter (fun x => seqs.contains x.1)
  let ids := (hit.map (fun x => x.2.entry.seq)).eraseDups
  let runs := ids.filterMap (fun q => (hit.find? (fun x => x.2.entry.seq == q)).map Prod.snd)
  { v with pendingSeq := v.pendingSeq.filter (fun x => !ids.contains x.2.entry.seq)
           running := match v.running with | some r => if ids.contains r.entry.seq then none else some r | none => none
           reruns := v.reruns ++ ((runs.filter (fun r => !v.reruns.any (fun y => y.entry.seq == r.entry.seq))).map (fun r => r.again seqs)) }

/-- R355: the second execution of the chains attached to tiles counts no more: the tiles themselves execute again. -/
def forgetSecond (v : VecEng) (seqs : List Nat) : VecEng :=
  { v with reruns := v.reruns.map (fun r => match r.attached with | some q => if seqs.contains q then { r with second := none } else r | none => r) }

/-- A tile put among tiles by issue order. -/
def insertTile (t : Tile) : List Tile → List Tile
  | [] => [t]
  | x :: xs => if t.seq < x.seq then t :: x :: xs else x :: insertTile t xs

/-- R106, R119: move the tiles that meet a test out of their slots: their restarts wait in issue order, a producer before those that
depend on it. -/
def restartTiles (a : ArrayState) (p : Tile → Bool) : ArrayState :=
  { a with tiles := a.tiles.map (fun t => if p t then t.discarded else t)
           restarts := (a.tiles.filter p).foldl (fun l t => insertTile t.forRestart l) a.restarts
           vec := let seqs := (a.tiles.filter p).map (fun t => t.seq)
                  forgetSecond (rerunChains a.vec seqs) seqs }

/-- R119: a fault of the array: every uncommitted tile but one held after a failed verdict restarts. -/
def faultRestarts (t : Tile) : Bool := t.state == 1 || t.state == 2 || t.state == 3

/-- Whether the transfer in progress fills the shadow set. -/
def ArrayState.fillsShadow (a : ArrayState) : Bool :=
  match a.feed with
  | some e => (match e.op with | .load shadow .. => shadow | .unpark .. => true | _ => false)
  | none => false

/-- Whether the transfer in progress fills the active set. -/
def ArrayState.fillsActive (a : ArrayState) : Bool :=
  match a.feed with
  | some e => (match e.op with | .load shadow .. => !shadow | _ => false)
  | none => false

/-- R119: pre-emption past its grace, or a context fault: abort the streaming pass. Sets and park slots are kept; a
transfer into the shadow set is abandoned and leaves it invalid (R122). An abandoned transfer is not issued again
(notes/assumptions/103). -/
def abortArray (a : ArrayState) : ArrayState :=
  { restartTiles a (fun t => t.state == 1) with
    shadow := if a.fillsShadow then none else a.shadow
    feed := none }

/-- R119: a fault of the array: both sets invalid; a park slot being written is emptied (R122). -/
def faultArray (a : ArrayState) : ArrayState :=
  { restartTiles a faultRestarts with
    active := none
    shadow := none
    fp32Pair := false
    park := match a.feed with
      | some f => (match f.op with | .load _ _ true slot _ => tblDel a.park slot | _ => a.park)
      | none => a.park
    feed := none }

/-- ARY_PARK_OCC: set the occupancy bit of a park slot. -/
def State.setOcc (s : State) (p j : Nat) (b : Bool) : State := s.setFlag (rAryParkOcc p (j / 32)) (j % 32) b

/-- R119: the park slots of an array whose slate words fail their check. -/
def State.badSlots (s : State) (p : Nat) : List Nat :=
  s.memst.check.filterMap (fun e =>
    if e.2.bad then
      match s.place (8 * e.1) with
      | .slate n _ off => if s.physOf n == some p then some (off / 16) else none
      | _ => none
    else none)

/-- R348: whether a replay streams on an array as a partner. -/
def State.replayOn (s : State) (p : Nat) : Bool :=
  (List.range 18).any (fun q => (s.arr q).tiles.any (fun t => match t.replay with
    | some r => (r.streaming && r.partner == some p) || (r.thirdStreaming && r.third == some p)
    | none => false))

/-- R369: a replay that streams on array p is discarded, and a partner is chosen anew. -/
def Replay.without (p : Nat) (r : Replay) : Replay :=
  if r.thirdStreaming ∧ r.third = some p then { r with third := none, thirdStreaming := false }
  else if r.streaming ∧ r.partner = some p then { r with partner := none, streaming := false }
  else r

/-- R369: the replays that stream on array p are discarded. -/
def State.dropReplays (s : State) (p : Nat) : State :=
  (List.range 18).foldl (fun s q => s.modArr q (fun a =>
    { a with tiles := a.tiles.map (fun t => { t with replay := t.replay.map (fun r => r.without p) }) })) s

/-- R119, R369: a fault of array p, with its park slots kept where the check of their slate words is clean; a replay on it is discarded. -/
def State.faultArr (s : State) (p : Nat) : State :=
  let bad := (s.badSlots p).filter (fun j => ((s.arr p).park.any (fun e => e.1 == j)))
  bad.foldl (fun s j => s.setOcc p j false)
    ((s.dropReplays p).modArr p (fun a => let b := faultArray a; { b with park := b.park.filter (fun e => !bad.contains e.1) }))

/-- R394: discard the unstarted entries of an array's queues. -/
def discardQueues (a : ArrayState) : ArrayState := { a with aq := [], vq := [], dq := [] }

/-- R3: the sites whose kind is I/O die, enabled or not, by ordinal. -/
def State.ioSites (s : State) : List Nat :=
  (List.range 18).filter (fun i =>
    bitsOf (if i < 8 then s.fuses.siteA else if i < 16 then s.fuses.siteB else s.fuses.siteC) (4 * (i % 8) + 1) (4 * (i % 8)) == 2)

/-- R4, R18: whether GLB_SITE shows a site's die in service. -/
def State.siteOn (s : State) (k : Nat) : Bool :=
  s.flag (if k < 8 then rGlbSiteA else if k < 16 then rGlbSiteB else rGlbSiteC) (4 * (k % 8) + 2)

/-- R17: the source of a fabric port. -/
def State.portSource (s : State) (fp : Nat) : Nat := srcOf 6 (nth 0 s.ioSites (fp / 4) * 16 + 1 + fp % 4)

/-- R17: the source of a host port. -/
def State.hostSource (s : State) (h : Nat) : Nat := srcOf 6 (nth 0 s.ioSites h * 16)

/-- R436, R439: the fabric ports that carry frames: up, degraded, or in low-rate idle. -/
def State.upPorts (s : State) : List Nat :=
  (List.range 32).filter s.linkUp

/-- R442: a class 0x06 payload: port, cause, node, sequence or job, tag, window, occurrences. -/
def fabPayload (port cause node seq tag win occ : Nat) : Nat :=
  payloadOf [(16, 1, port), (17, 1, cause), (18, 2, node), (20, 4, seq), (24, 2, tag), (26, 2, win), (28, 4, occ)]

/-- R439: the job-abort frame. -/
def abortFrame (hops origin job aseq cause ctx time : Nat) : List Byte :=
  bytesOf 64 (0x20 + hops * 2 ^ 8 + origin * 2 ^ 16 + job * 2 ^ 32 + aseq * 2 ^ 64 + cause * 2 ^ 96 + ctx * 2 ^ 112
    + time * 2 ^ 128)

/-- R439: a qualifying fault of a context starts a job abort: one frame on every up port, and code 0x0D. -/
def State.jobAbort (s : State) (c : Nat) (failed : Bool) : State :=
  let job := (s.reg (rFabCtxJob c)).toNat
  if job = 0 ∨ s.flag (rFabCtxJobctl c) (if failed then 2 else 1) = false then s
  else
    let f := abortFrame (s.fld rFabAbort 7 0) (s.fld rFabNode 15 0) job s.abortSeq (if failed then 1 else 2) c s.now.toNat
    let s := s.upPorts.foldl (fun s p => s.portSend p 2 none none f) { s with abortSeq := s.abortSeq + 1 }
    s.postCtx c 0x06 0x0D 2 (s.portSource (s.upPorts.headD 0)) (fabPayload (s.upPorts.headD 0) 0 0 job 0 0 1)

/-- R231: the registers of the last fault of an array: ARY_AC_FAULT, its PC, its words, and the count. -/
def State.faultRegs (s : State) (p ctx code detail pc : Nat) (w0 w1 : Word) : State :=
  let s := (s.setFld (rAryAcFault p) 31 24 code).setFld (rAryAcFault p) 23 16 detail
  let s := (s.setFld (rAryAcFault p) 8 0 ctx).setReg64 (rAryAcFaultPc p) pc
  let s := (s.setReg (rAryAcFaultInsn p 0) w0).setReg (rAryAcFaultInsn p 1) w1
  s.bump (rAryAcFaultCnt p) 1

/-- R144: every core of the run of an array stops issuing, but for the instruction of the present cycle where a fault stopped them. -/
def State.stopRun (s : State) (p : Nat) (late : Bool) : State :=
  let n := (s.logOf p).getD 0
  { s with cores := s.cores.map (fun e => if e.1 / 65536 = n ∧ e.2.status = 1 then (e.1, { e.2 with status := 3, late := late, block := .no }) else e) }

/-- R144: the run of an array, if there is one, ends stopped. -/
def State.cutRun (s : State) (p : Nat) : State :=
  if (s.arr p).run.running then (s.modArr p (fun a => { a with run := { a.run with stopped := true } })).stopRun p false else s

/-- R394: the first fault of a context: fetching stops, its arrays stop without grace, unstarted entries go, code 0x9A
names the fault, and MSI-X vector 2 is raised. A running chain stops (R184), and CHAIN_COMPLETE ends it; a running run and a reduction
end. A context already faulted, free or resetting changes nothing more. The
partition is free for another context. -/
def State.ctxFault (s : State) (c cls code : Nat) : State :=
  let st := s.ctxState c
  if st = 5 ∨ st = 0 ∨ st = 6 then s
  else
    let s := ((s.setCtxState c 5).setFld (rCpStatus c) 15 8 cls).setFld (rCpStatus c) 7 0 code
    let s := s.setCtx c { s.ctx c with fetchStopped := true }
    let s := (s.ctxArrays c).foldl (fun s p =>
      if s.residentAt p = some c then
        (s.modArr p (fun a => let b := discardQueues (abortArray a)
          { b with ctrl := { b.ctrl with state := 3, stallQ := 0, faulting := none }, vec := { b.vec with frozen := b.vec.running.isSome }
                   red := none })).cutRun p
      else s) s
    let p := s.ctxPart c
    let s := if s.resident p = some c then s.setFld (rDspPartCtl p) 25 16 0x3FF else s
    let s := (s.postCtx c 0x0C 0x9A 2 (srcOf 8 (b2n (s.flag rBrpDsp 31))) (payloadOf [(24, 1, cls), (25, 1, code)])).msix c 2
    if cls = 6 ∧ code = 0x0E then s else s.jobAbort c (cls == 6 && (code == 7 || code == 8))

/-- R228: a fault of source kind 1 (controller): payload and event of class 0x0C. -/
def State.postCtrlFault (s : State) (p ctx code detail pc : Nat) (w0 w1 : Word) (reg soft osn addr : Nat) : State :=
  let s := s.postCtx ctx 0x0C code 2 (srcOf 1 p)
    (payloadOf [(16, 8, pc), (24, 4, w0.toNat), (28, 4, w1.toNat), (32, 1, detail), (33, 1, reg), (34, 2, soft),
      (36, 4, osn), (40, 8, addr)])
  s.faultRegs p ctx code detail pc w0 w1

/-- R106: the sequence numbers that depend on those of a list, in at most three rounds (R106: chains are three long). -/
def dependants (ts : List Tile) (seqs : List Nat) : Nat → List Nat
  | 0 => seqs
  | n + 1 =>
    dependants ts (seqs ++ (ts.filter (fun t => !seqs.contains t.seq && t.deps.any (fun d => seqs.contains d))).map (fun t => t.seq)) n

/-- R210: whether every array entry that has started has completed. -/
def ArrayState.arrayIdle (a : ArrayState) : Bool :=
  a.feed.isNone && a.red.isNone && a.restarts.isEmpty && !a.run.running && !a.run.frozen &&
    a.tiles.all (fun t => t.state == 0 || t.state == 5 || t.ctx != a.ctrl.ctx)

/-- R229: whether the entries of a controller's queues have completed: nothing queued, nothing that runs. A tile of an unresolved
disagreement and the tiles that depend on it stay held and are not waited for (R352). -/
def ArrayState.settled (a : ArrayState) : Bool :=
  let stuck := dependants a.tiles ((a.tiles.filter (fun t => t.unresolved && t.state == 4)).map (fun t => t.seq)) 3
  a.aq.isEmpty && a.vq.isEmpty && a.dq.isEmpty && a.dmas.isEmpty && a.vec.running.isNone && a.vec.reruns.all (fun r => r.ctx != a.ctrl.ctx)
    && (a.vec.pendingSeq.all (fun x => x.2.ctx != a.ctrl.ctx || stuck.contains x.1))
    && { a with tiles := a.tiles.filter (fun t => !stuck.contains t.seq) }.arrayIdle

/-- R229: once the earlier entries of a controller that took a fault have completed, its context is faulted
(notes/assumptions/104). -/
def State.settleFault (s : State) (p : Nat) : State :=
  let a := s.arr p
  match a.ctrl.faulting with
  | none => s
  | some f =>
    if !a.settled then s
    else (s.modCtrl p (fun c => { c with faulting := none })).ctxFault a.ctrl.ctx f.1 f.2

/-- R229: a controller stops issuing on a fault of class cls and code; its context is faulted once earlier entries have completed. A
fault while another waits changes nothing. -/
def State.stopIssue (s : State) (p cls code : Nat) : State :=
  (s.modCtrl p (fun c => { c with state := 3, stallQ := 0, faulting := some (c.faulting.getD (cls, code)) })).settleFault p

/-- R229: an issue-time fault: no effect, the PC stays, issue stops; entries already queued go on, and the context is faulted. -/
def State.issueFault (s : State) (p code detail : Nat) (w0 w1 : Word) (reg soft addr : Nat) : State :=
  let c := (s.arr p).ctrl
  (s.postCtrlFault p c.ctx code detail c.pc.toNat w0 w1 reg soft 0 addr).stopIssue p 0x0C code

/-- R229: everything of an array issued after an entry is discarded without effect: queue entries, a transfer, passes, chains and DMA
transfers; the tiles that depend on an unresolved one stay held (R352). -/
def ArrayState.dropLater (a : ArrayState) (seq : Nat) : ArrayState :=
  let keep := dependants a.tiles [seq] 3
  let gone (t : Tile) : Bool := decide (seq < t.seq) && t.ctx == a.ctrl.ctx && !keep.contains t.seq && (t.state == 1 || t.state == 2 || t.state == 3)
  let later (e : QEntry) : Bool := decide (seq < e.seq)
  let cut := match a.feed with | some e => later e | none => false
  { a with
    aq := a.aq.filter (fun x => decide (x.seq < seq))
    vq := a.vq.filter (fun x => decide (x.seq < seq))
    dq := a.dq.filter (fun x => decide (x.seq < seq))
    dmas := a.dmas.filter (fun x => !later x)
    feed := if cut then none else a.feed
    shadow := if cut && a.fillsShadow then none else a.shadow
    red := match a.red with | some r => if later r.entry then none else some r | none => none
    tiles := a.tiles.map (fun t => if gone t then Tile.free else t)
    restarts := a.restarts.filter (fun t => !(decide (seq < t.seq) && t.ctx == a.ctrl.ctx && !keep.contains t.seq))
    vec := { a.vec with
      running := match a.vec.running with | some r => if later r.entry then none else some r | none => none
      pendingSeq := a.vec.pendingSeq.filter (fun x => !(later x.2.entry && x.2.ctx == a.ctrl.ctx))
      reruns := a.vec.reruns.filter (fun r => !(later r.entry && r.ctx == a.ctrl.ctx)) } }

/-- R229: what a start-time or execution-time fault of the entry with a sequence number leaves of the array's work; issue stops. A run
issued later is stopped. -/
def State.dropAfter (s : State) (p seq cls code : Nat) : State :=
  let s := if seq < (s.arr p).run.seq then s.cutRun p else s
  (s.modArr p (fun a => a.dropLater seq)).stopIssue p cls code

/-- R229: a start-time or execution-time fault of a queue entry: later entries are discarded, earlier ones go on; issue
stops and the context is faulted. -/
def State.entryFault (s : State) (p : Nat) (e : QEntry) (code detail reg addr : Nat) : State :=
  let c := (s.arr p).ctrl
  (s.postCtrlFault p c.ctx code detail e.pc e.w0 e.w1 reg 0 e.osn addr).dropAfter p e.seq 0x0C code

end Sys2Proof.Machine
end

