-- ==== Sys2Proof/Machine/SyncOps.lean ====
section
/-!
DEFINITION. Sync counters and signals (09_sync_time R290 to R298), the Flint net's requests (R305), and the class 0x01
and 0x02 events of a memory access (07_memory R265, R272).
-/
namespace Sys2Proof.Machine

/-- Sources of a counter update (R338 payload, bytes 16 to 19): kind, combined bit, core ID or logical array. -/
def sigSrc (kind : Nat) (combined : Bool) (id : Nat) : Nat := kind * 2 ^ 28 + b2n combined * 2 ^ 27 + id % 2 ^ 20

/-- R294: post a counter event: kind 0 core or 1 controller, number, place, value, increment, sources. -/
def State.postCounter (s : State) (ctx code src kind num place value : Nat) (inc : Int) (rs ls : Nat) : State :=
  (s.postCtx ctx 0x03 code 2 src (
    let o := if kind = 0 then 20 else 16
    payloadOf ((if kind = 0 then [(16, 4, place)] else []) ++
      [(o, 1, kind), (o + 1, 1, num), (o + 4, 4, place), (o + 8, 2, value), (o + 12, 4, wrapInt 32 inc),
       (o + 16, 4, rs), (o + 20, 4, ls)]))).bump rQtzSigFaultCnt 1

/-- R155: ARY_CM_FAULT and ARY_CM_FAULT_INSN show the fault that a run reports. -/
def State.showCoreFault (s : State) (p : Nat) (f : CoreFaultRec) : State :=
  ((s.setFld (rAryCmFault p) 31 24 f.cause).setFld (rAryCmFault p) 19 0 f.core).setReg (rAryCmFaultInsn p) f.insn

/-- R144: a further core faults in the reporting cycle. -/
def State.extraFault (s : State) (p : Nat) : State :=
  s.setFld (rAryCmStatus p) 26 24 (satAdd 3 (s.fld (rAryCmStatus p) 26 24) 1)

/-- R144: the report of a run: a fault of the same cycle and a lower core ID takes its place. -/
def State.setReport (s : State) (p : Nat) (f : CoreFaultRec) : State :=
  (s.modArr p (fun a => { a with run := { a.run with faulted := true, report := some f } })).showCoreFault p f

/-- R144, R146: a core faults: the run ends faulted, and every core of the run stops issuing. The fault of the lowest core ID of a cycle is
reported, as the run ends, and the others are counted (notes/assumptions/111). -/
def State.coreFault (s : State) (id cause addr : Nat) (insn : Word) : State :=
  match s.physOf (id / 65536) with
  | none => s
  | some p =>
    let f : CoreFaultRec := ⟨cause, id, (s.core id).pc, insn, addr, s.now⟩
    let s := s.setCore id { s.core id with status := 3, late := false, block := .no }
    match (s.arr p).run.report with
    | some g =>
      let s := s.extraFault p
      if id < g.core then s.setReport p { f with time := g.time } else s
    | none =>
      if (s.arr p).run.faulted then s.extraFault p
      else (((s.setFld (rAryCmStatus p) 26 24 0).setReport p f).stopRun p true).dropAfter p (s.arr p).run.seq 0x0C 0x8A

/-- R146, R231: the fault that a run reports is posted to its context, with source kind 0. -/
def State.postCoreFault (s : State) (p : Nat) : State :=
  let r := (s.arr p).run
  match r.report with
  | none => s
  | some f =>
    (s.postCtx r.ctx 0x0C 0x8A 2 (srcOf 0 p)
      (payloadOf [(16, 4, f.core), (20, 1, f.cause), (21, 1, f.pc), (24, 4, f.insn.toNat), (28, 4, f.addr)])).faultRegs p r.ctx 0x8A f.cause f.pc
        f.insn 0#32

/-- A core's run ends faulted for a class 0x01 or 0x03 condition (R146), an execution-time fault of its core.run (R229). -/
def State.runFault (s : State) (p cls code : Nat) : State :=
  ((s.modArr p (fun a => { a with run := { a.run with faulted := true } })).stopRun p false).dropAfter p (s.arr p).run.seq cls code

/-- R290, R294: whether an addition keeps a counter within 0 to 32,767. -/
def counterFits (v : BitVec 16) (inc : Int) : Bool :=
  decide (0 ≤ (v.toNat : Int) + inc) && decide ((v.toNat : Int) + inc ≤ 32767)

/-- The sum, when it fits. -/
def counterSum (v : BitVec 16) (inc : Int) : BitVec 16 := BitVec.ofInt 16 ((v.toNat : Int) + inc)

/-- R294: add to core counter k of a core, or refuse the addition and end the run faulted. -/
def State.addCore (s : State) (id k : Nat) (inc : Int) (src : Nat) : State :=
  let c := s.core id
  let v := c.kget k
  if counterFits v inc then
    s.setCore id { c.kset k (counterSum v inc) with lastSrc := tblPut c.lastSrc k (BitVec.ofNat 32 src) }
  else
    match s.physOf (id / 65536) with
    | none => s
    | some p =>
      let code := if inc < 0 then 1 else 2
      let s := s.postCounter (s.arr p).run.ctx code (srcOf 0 p) 0 k id v.toNat inc src (tblGet 0#32 c.lastSrc k).toNat
      s.runFault p 0x03 code

/-- R294: add to controller counter k of a physical array, or refuse the addition: an execution-time fault (R229). -/
def State.addCtrl (s : State) (p k : Nat) (inc : Int) (src : Nat) : State :=
  let a := s.arr p
  let v := tblGet 0#16 a.counters k
  if counterFits v inc then
    s.setArr p { a with counters := tblPut a.counters k (counterSum v inc)
                        lastSrc := tblPut a.lastSrc k (BitVec.ofNat 32 src) }
  else
    let code := if inc < 0 then 1 else 2
    let n := (s.logOf p).getD 0
    let s := s.postCounter a.ctrl.ctx code (srcOf 1 p) 1 k (n * 65536) v.toNat inc src (tblGet 0#32 a.lastSrc k).toNat
    s.stopIssue p 0x03 code

/-- The target of a signal, decoded (R143): a core's counter, or a controller's. -/
inductive SigTarget where
  | core (id k : Nat)
  | ctrl (arr k : Nat)
  | bad
  deriving DecidableEq, Repr

/-- R143: decode a target word. -/
def sigTarget (w : Word) : SigTarget :=
  let v := w.toNat
  let k := bitsOf v 29 24
  if bitsOf v 23 20 ≠ 0 then .bad
  else match bitsOf v 31 30 with
    | 0 => if 3 < k then .bad else .core (bitsOf v 19 0) k
    | 1 => if bitsOf v 15 0 ≠ 0 then .bad else .ctrl (bitsOf v 19 16) k
    | _ => .bad

/-- The logical array of a target. -/
def SigTarget.array : SigTarget → Nat
  | .core id _ => id / 65536
  | .ctrl a _ => a
  | .bad => 16

/-- R143, R295: whether a context may signal a target. -/
def State.sigAllowed (s : State) (ctx : Nat) (t : SigTarget) : Bool :=
  match t with
  | .bad => false
  | t => (s.physOf t.array).isSome && s.inPartition ctx t.array

/-- R297: put a signal on the net. An increment of 0 changes nothing. -/
def State.sendSignal (s : State) (ctx : Nat) (target : Word) (inc : Int) (src : Nat) : State :=
  if inc = 0 then s
  else { s with signals := s.signals ++ [⟨target, inc, src, ctx, s.ctxGen ctx⟩] }

/-- R305: the mask of a Flint request: the arrays of the detecting array's gang, as configured in effect. -/
def State.gangMask (s : State) (p : Nat) : Nat :=
  let g := (s.arr p).ctrl.gangNow
  match s.logOf p with
  | none => 2 ^ p
  | some n =>
    if g.log2 = 0 then 2 ^ p
    else
      let b := n / 2 ^ g.log2 * 2 ^ g.log2
      packBits 18 (fun q => match s.logOf q with
        | none => false
        | some m => decide (b ≤ m) && decide (m < b + 2 ^ g.log2))

/-- R305: raise a Flint request; the affected tile cannot commit any more. -/
def State.flintRaise (s : State) (r : FlintReq) : State := { s with flint := { s.flint with reqs := s.flint.reqs ++ [r] } }

/-- R305: a Flint request of a unit of array p for a poisoned word. kind: source unit kind (0 core, 1 feed, drain or
bank, 3 vector engine). -/
def State.flintPoison (s : State) (p cause kind core addr : Nat) : State :=
  s.flintRaise { mask := s.gangMask p, cause := cause, time := s.now, ctx := s.residentAt p, source := srcOf kind p,
                 core := core, addr := addr, array := p }

/-- The codes of class 0x01 for a medium: corrected and uncorrectable (R272). -/
def mediumOf : Place → Nat
  | .slate .. => 0
  | .edge .. => 1
  | .hbm => 2
  | _ => 4

/-- R237, R246, R272: bank or pseudo-channel of a place. -/
def State.bankOf (s : State) (pa : Nat) : Nat :=
  match s.place pa with
  | .edge _ x => x / 256 % 64
  | .hbm => nth 0 s.memst.activePcs ((pa / 64) % Nat.max 1 s.memst.activePcs.length) % 64
  | _ => 0

/-- R17, R272: the reporting unit of a memory error: the core's slate (kind 0), the edge store's bank (kind 2), the HBM
site (kind 5). -/
def State.memSource (s : State) (pa : Nat) : Nat :=
  match s.place pa with
  | .slate n _ _ => srcOf 0 ((s.physOf n).getD 0)
  | .edge n x => srcOf 2 ((s.physOf n).getD 0 * 64 + x / 256 % 64)
  | .hbm => srcOf 5 (nth 0 s.memst.activePcs ((pa / 64) % Nat.max 1 s.memst.activePcs.length) / 64)
  | _ => srcOf 7 0

/-- R272: the payload of a memory event; class data starts at byte 20 for source kind 0. -/
def State.memPayload (s : State) (pa syn count : Nat) : Nat :=
  match s.place pa with
  | .slate n i _ => payloadOf [(16, 4, n * 65536 + i), (20, 8, pa / 8 * 8), (28, 1, syn), (29, 1, 0), (32, 4, count)]
  | p => payloadOf [(16, 8, pa / 8 * 8), (24, 1, syn), (25, 1, mediumOf p), (26, 2, s.bankOf pa), (28, 4, count)]

/-- Ticks of 24 h. -/
def dayTicks : Nat := 86400 * 64000000000

/-- R246: the pseudo-channel of an HBM address: 64 × site + channel. -/
def State.pcOf (s : State) (pa : Nat) : Nat := nth 0 s.memst.activePcs ((pa / 64) % Nat.max 1 s.memst.activePcs.length)

/-- R248: a pseudo-channel is marked for retirement, once. -/
def State.markRetire (s : State) (pc : Nat) : State :=
  let r := rMmuHbmPend (pc / 64) + 4 * (pc % 64 / 32)
  if s.flag r (pc % 32) then s
  else (s.setFlag r (pc % 32) true).postDev 0x01 0x41 1 (srcOf 5 (pc / 64))
    (payloadOf [(25, 1, 2), (26, 2, pc % 64), (28, 4, 1)])

/-- R247, R248, R490: an HBM error enters the history of its pseudo-channel: the fourth corrected error of a line in 24 h spares the
line, which is recorded (notes/assumptions/116), or marks the channel when its pool is full; a second uncorrectable line in 24 h marks it. -/
def State.hbmError (s : State) (pa : Nat) (unc : Bool) : State :=
  let pc := s.pcOf pa
  let h := tblGet HbmPc.reset s.memst.hbm pc
  let now := s.now.toNat
  let keep (l : List (Nat × Nat)) := l.filter (fun x => decide (now < x.2 + dayTicks))
  let line := pa / 64
  let put (s : State) (h : HbmPc) : State := { s with memst := { s.memst with hbm := tblPut s.memst.hbm pc h } }
  if unc then
    let u := keep h.uncorr ++ [(line, now)]
    let s := put s { h with uncorr := u }
    if u.any (fun x => x.1 != line) then s.markRetire pc else s
  else
    let c := keep h.corrected ++ [(line, now)]
    if (c.filter (fun x => x.1 == line)).length < 4 ∨ h.spared.contains line then put s { h with corrected := c }
    else if h.spared.length < 4096 then
      (((put s { h with corrected := c.filter (fun x => x.1 != line), spared := h.spared ++ [line] }).bump (rMmuHbmSpared (pc / 64)) 1).logAdd
        0x08 6 0 ([pc / 64, pc % 64, 0, 0] ++ le32 (line / Nat.max 1 s.memst.activePcs.length))).postDev 0x01 0x43 1 (srcOf 5 (pc / 64)) (payloadOf [(16, 8, line * 64), (25, 1, 2), (26, 2, pc % 64), (28, 4, 1)])
    else (put s { h with corrected := c }).markRetire pc

/-- The array's corrected or uncorrectable counter of a place (R277), or the HBM site's (R276). -/
def State.bumpMem (s : State) (pa : Nat) (unc : Bool) : State :=
  match s.place pa with
  | .slate n _ _ => match s.physOf n with
    | some p => (s.bump (if unc then rArySlUe p else rArySlCe p) 1).lifeCount (526 + 4 * p + b2n unc) 1
    | none => s
  | .edge n _ => match s.physOf n with
    | some p => (s.bump (if unc then rAryEsUe p else rAryEsCe p) 1).lifeCount (526 + 4 * p + (if unc then 3 else 2)) 1
    | none => s
  | .hbm =>
    let k := nth 0 s.memst.activePcs ((pa / 64) % Nat.max 1 s.memst.activePcs.length) / 64
    ((s.bump (if unc then rMmuHbmUe k else rMmuHbmCe k) 1).lifeCount (598 + 2 * k + b2n unc) 1).hbmError pa unc
  | _ => s

/-- R272: whether a corrected error of a source unit may be reported now, with the errors counted into the event; one that may not, at
most one a millisecond, is counted into the next. -/
def State.rateLimit (s : State) (unit : Nat) : Option Nat × State :=
  let held := tblGet 0 s.memst.corrLimit (2 * unit + 1)
  let last := tblGet 0 s.memst.corrLimit (2 * unit)
  let put (l : Tbl Nat) : State := { s with memst := { s.memst with corrLimit := l } }
  if last ≠ 0 ∧ s.now.toNat < last + 64000000 then (none, put (tblPut s.memst.corrLimit (2 * unit + 1) (held + 1)))
  else (some (held + 1), put (tblPut (tblPut s.memst.corrLimit (2 * unit) (s.now.toNat + 1)) (2 * unit + 1) 0))

/-- R17, R272: the source unit whose corrected errors share a limit: a core by its ID, any other unit by its source. -/
def State.limitUnit (s : State) (pa : Nat) : Nat :=
  match s.place pa with
  | .slate n i _ => 65536 + n * 65536 + i
  | _ => s.memSource pa

/-- R236, R272: a read finds a word's check state: a correctable word is written back clean, an uncorrectable one is
poisoned; each is counted and reported once. Corrected errors are reported at most once a millisecond and source. -/
def State.readCheck (s : State) (ctx : Option Nat) (pa : Nat) : State :=
  match s.checkAt pa with
  | .clean => s
  | .poisoned => s
  | .correctable syn =>
    let s := (s.setCheck pa .clean).bumpMem pa false
    (match s.rateLimit (s.limitUnit pa) with
    | (some n, s) => s.post ctx true 0x01 (mediumOf (s.place pa) + 1) 1 (s.memSource pa) (s.memPayload pa syn n)
    | (none, s) => s)
  | .uncorrectable syn =>
    let s := (s.setCheck pa .poisoned).bumpMem pa true
    s.post ctx true 0x01 (0x10 + mediumOf (s.place pa)) 2 (s.memSource pa) (s.memPayload pa syn 1)

/-- readCheck over every word of a range. -/
def State.readChecks (s : State) (ctx : Option Nat) (pa n : Nat) : State :=
  (wordsOf pa n).foldl (fun s w => s.readCheck ctx w) s

/-- R232, R233: the events of a write: a word that it writes in part is read first, and a bad one posts code 0x14. -/
def State.store (s : State) (ctx : Option Nat) (pa : Nat) (bs : List Byte) : State :=
  let n := bs.length
  let part := (wordsOf pa n).filter (fun w => !(decide (pa ≤ w) && decide (w + 8 ≤ pa + n)))
  let bad := part.filter (fun w => (s.checkAt w).bad)
  let s := part.foldl (fun s w => s.readCheck ctx w) s
  let s := s.wrBytes pa bs
  bad.foldl (fun s w => s.post ctx true 0x01 0x14 2 (s.memSource w) (s.memPayload w 0xFF 1)) s

/-- R265, R17: the source of a translation event by unit; 12 is the dispatcher. -/
def State.unitSource (s : State) (unit p : Nat) : Nat :=
  if unit = 5 ∨ unit = 6 then srcOf 3 p
  else if unit = 8 then s.hostSource p
  else if unit = 10 ∨ unit = 12 then srcOf 8 (b2n (s.flag rBrpDsp 31))
  else if unit = 11 then srcOf 4 4
  else srcOf 1 p

/-- R265: access byte of the payload. -/
def accCode : AccKind → Nat
  | .read => 0 | .write => 1 | .fetch => 2

/-- R265: a translation fault stalls the unit that made the access: the event, MMU_STALLED, and the stalled access. A walk that has found a
bad word reports it as any read does (R232). -/
def State.stallUnit (s : State) (ctx unit p va : Nat) (k : AccKind) (code level entry epa : Nat) : State :=
  let s := if code = 3 then s.readChecks (some ctx) epa 8 else s
  let s := s.postCtx ctx 0x02 code 2 (s.unitSource unit p)
    (payloadOf [(16, 1, unit), (17, 1, accCode k), (18, 1, if 7 ≤ code then 0xFF else level),
      (19, 1, if unit = 8 ∨ unit = 10 ∨ unit = 11 then 0xFF else (s.logOf p).getD 0xFF), (24, 8, va), (32, 8, entry), (40, 8, epa)])
  let s := s.markStalled ctx true
  { s with memst := { s.memst with stalled := s.memst.stalled ++ [⟨ctx, unit, p, va, k, code⟩] } }

/-- Whether two byte ranges meet. -/
def Region.meets (r : Region) (a n : Nat) : Bool := decide (r.addr < a + n) && decide (a < r.addr + r.len)

/-- The physical array whose edge store or slates hold an address. -/
def State.arrayAt (s : State) (pa : Nat) : Option Nat :=
  match s.place pa with
  | .edge a _ => s.physOf a
  | .slate a _ _ => s.physOf a
  | _ => none

/-- The tiles of the array whose edge store or slates hold an address: in their slots, and waiting to restart. -/
def State.tilesAt (s : State) (pa : Nat) : List Tile :=
  match s.arrayAt pa with
  | some p => (s.arr p).tiles.filter (fun t => t.state != 0) ++ (s.arr p).restarts
  | none => []

/-- R205: whether a range meets the scale region held for an occupied park slot. -/
def State.scaleHeld (s : State) (pa n : Nat) : Bool :=
  match s.arrayAt pa with
  | some p => (s.arr p).park.any (fun e => e.2.src.any (fun r => (Region.mk r.1 r.2).meets pa n))
  | none => false

/-- R243, R102: whether a write into a range meets a held input of some staging slot (a reduced output holds record tiles of other
arrays), or a scale region held for a park slot (R205). -/
def State.heldHit (s : State) (pa n : Nat) : Bool :=
  s.arrays.any (fun e => e.2.tiles.any (fun t => t.state != 0 && t.held.any (fun r => r.meets pa n)) ||
    e.2.restarts.any (fun t => t.held.any (fun r => r.meets pa n))) || s.scaleHeld pa n

/-- R104: whether a range meets an uncommitted output of a staging slot. -/
def State.uncommittedHit (s : State) (pa n : Nat) : Bool := (s.tilesAt pa).any (fun t => t.dest.any (fun r => r.meets pa n))

/-- R243: a refused write into a held range: class 0x02 code 0x08, and the context of the array's own units faults. -/
def State.heldRefuse (s : State) (ctx unit p va pa : Nat) : State :=
  let s := s.postCtx ctx 0x02 0x08 2 (s.unitSource unit p)
    (payloadOf [(16, 1, unit), (17, 1, 1), (18, 1, 0xFF), (19, 1, (s.logOf p).getD 0xFF), (24, 8, va), (32, 8, pa)])
  s.ctxFault ctx 0x02 0x08

end Sys2Proof.Machine
end

