-- ==== Sys2Proof/Machine/GexaC.lean ====
section
/-!
DEFINITION. When a core issues an instruction, and the instructions of Gexa-C that work inside one core
(04_core_mode R147 to R151).
-/
namespace Sys2Proof.Machine

/-- R147, R148: the instructions of Gexa-C: the bits that name each one, and their values. -/
def coreTable : List (Nat × Nat) :=
  [(0xF80000FF, 0x00000000), (0xF80000FF, 0x00000001), (0xF80000FF, 0x00000003), (0xF80000FF, 0x08000000),
    (0xF80000FF, 0x08000001), (0xF80000FF, 0x08000002), (0xF80000FF, 0x08000003), (0xF80000FF, 0x08000004),
    (0xF80000FF, 0x08000014), (0xF80000FF, 0x08000005), (0xF80000FF, 0x08000006), (0xF80000FF, 0x08000007),
    (0xF80000FF, 0x08000008), (0xF80000FF, 0x08000009), (0xF80000FF, 0x0800000A), (0xF80000FF, 0x0800000B),
    (0xF80000FF, 0x0800000C), (0xF80000FF, 0x0800000D), (0xF80000FF, 0x0800000E), (0xF80000FF, 0x0800000F),
    (0xF80000FF, 0x08000010), (0xF80000FF, 0x08000011), (0xF80000FF, 0x08000012), (0xF80000FF, 0x08000013)]
  ++ [(0xF8078000, 0x10000000), (0xF8078000, 0x10008000), (0xF8078000, 0x10010000), (0xF8078000, 0x10018000),
    (0xF8078000, 0x10020000), (0xF8078000, 0x10028000), (0xF8078000, 0x10030000), (0xF8078000, 0x10038000),
    (0xF8078000, 0x10040000), (0xF8078000, 0x10048000), (0xF8000000, 0x18000000), (0xF8000000, 0x20000000),
    (0xF80000FF, 0x28000000), (0xF8070000, 0x30000000), (0xF8070000, 0x30010000), (0xF8070000, 0x30020000),
    (0xF8070000, 0x30030000), (0xF8070000, 0x30040000), (0xF8070000, 0x30050000), (0xF8070000, 0x30060000),
    (0xF8070000, 0x30070000), (0xF8070000, 0x38000000), (0xF80000FF, 0x50000000), (0xF80000FF, 0x50000001)]
  ++ [(0xF80000FF, 0x50000002), (0xF80000FF, 0x50000003), (0xF80000FF, 0x50000004), (0xF80000FF, 0x50000005),
    (0xF80000FF, 0x50000006), (0xF80000FF, 0x50000007), (0xF80000FF, 0x50000008), (0xF80000FF, 0x50000009),
    (0xF80000FF, 0x5000000A), (0xF80000FF, 0x5000000B), (0xF80000FF, 0x5000000C), (0xF80000FF, 0x5000000D),
    (0xF80000FF, 0x5000000E), (0xF80000FF, 0x5000000F), (0xF80000FF, 0x58000000), (0xF80000FF, 0x58000001),
    (0xF80000FF, 0x58000002), (0xF80000FF, 0x58000003), (0xF80000FF, 0x58000004), (0xF80000FF, 0x58000005),
    (0xF80000FF, 0x58000006), (0xF80000FF, 0x58000007), (0xF80000FF, 0x58000008), (0xF80000FF, 0x58000009)]
  ++ [(0xF80000FF, 0x5800000A), (0xF80000FF, 0x5800000B), (0xF80000FF, 0x5800000C), (0xF80000FF, 0x5800000D),
    (0xF80000FF, 0x5800000E), (0xF80000FF, 0x5800000F), (0xF800007F, 0x60000000), (0xF800007F, 0x60000001),
    (0xF800007F, 0x60000002), (0xF800007F, 0x60000003), (0xF800007F, 0x60000004), (0xF800007F, 0x60000005),
    (0xF800007F, 0x60000006), (0xF800007F, 0x60000007), (0xF800007F, 0x60000008), (0xF800007F, 0x60000009),
    (0xF80000FF, 0x68000000), (0xF80000FF, 0x70000000), (0xF80000FF, 0x70000001), (0xF80000FF, 0x78000000),
    (0xF80000FF, 0x78000001), (0xF80000FF, 0x78000002), (0xF80000FF, 0x78000003), (0xF80000FF, 0x78000004)]
  ++ [(0xF80000FF, 0x78000005), (0xF80000FF, 0x78000006), (0xF80000FF, 0x78000007), (0xF80000FF, 0x78000008),
    (0xF80000FF, 0x78000009), (0xF8000000, 0x80000000), (0xF80000F0, 0x88000000), (0xF80000F0, 0x88000010),
    (0xF80000F0, 0x88000020), (0xF80000FF, 0x90000000), (0xF80000FF, 0x90000002), (0xF80000FF, 0x90000003),
    (0xF80000FF, 0x90000004), (0xF80000FF, 0x98000000), (0xF80000FF, 0x98000001), (0xF80000FF, 0x98000002),
    (0xF80000FF, 0x98000003), (0xF80000FF, 0x98000004), (0xF80000FF, 0x98000005), (0xF80000FF, 0x98000006),
    (0xF80000FF, 0x98000007), (0xF80000FF, 0xD8000000), (0xF80000FF, 0xD8000001), (0xF80000FF, 0xD8000002)]
  ++ [(0xF80000FF, 0xD8000003), (0xF80000FF, 0xD8000004), (0xF80000FF, 0xD8000005), (0xF80000FF, 0xD8000006),
    (0xF80000FF, 0xD8000007), (0xF80000FF, 0xD8000008), (0xF80000FF, 0x00000002), (0xF8078000, 0xD0000000),
    (0xF8070000, 0x40000000), (0xF8070000, 0x40010000), (0xF8070000, 0x40020000), (0xF8070000, 0x40030000),
    (0xF8070000, 0x40040000), (0xF8070000, 0x40050000), (0xF8070000, 0x40060000), (0xF8070000, 0x48000000),
    (0xF8070000, 0x48010000), (0xF8070000, 0x48020000), (0xF8070000, 0x48030000), (0xF8070000, 0x48040000),
    (0xF8070000, 0x48050000), (0xF8070000, 0x48060000), (0xF80000FF, 0x90000001), (0xF8000003, 0xE0000000)]
  ++ [(0xF8000003, 0xE0000001), (0xF8000000, 0xA0000000), (0xF8004000, 0xA8000000), (0xF8004000, 0xA8004000),
    (0xF8000000, 0xB0000000), (0xF80000FF, 0xB8000000), (0xF80000FF, 0xB8000001), (0xF80000FF, 0xB8000002),
    (0xF8000000, 0xC0000000), (0xF8000000, 0xC8000000)]

/-- The instruction that a word names, if R147 and R148 define it. -/
def coreKnown (w : Nat) : Bool := coreTable.any (fun e => w &&& e.1 == e.2)

/-- R144: whether a core that another core's fault has stopped may still issue the instruction of the cycle of that fault. -/
def State.coreLate (s : State) (id : Nat) : Bool :=
  let c := s.core id
  decide (c.status = 3) && c.late
    && (match s.physOf (id / 65536) with
      | some p => (match (s.arr p).run.report with | some f => s.now == f.time | none => false)
      | none => false)

/-- Whether a core issues instructions: it runs, it waits for nothing, and its array is not halted by the Flint net. -/
def State.coreIssues (s : State) (id : Nat) : Bool :=
  let c := s.core id
  (decide (c.status = 1) || s.coreLate id) && decide (c.block = .no)
    && (match s.physOf (id / 65536) with | some p => (s.arr p).runs | none => false)

/-- R144: a stopped core that has issued the instruction of the fault's cycle issues no more. -/
def State.coreSettled (s : State) (id : Nat) : State := s.setCore id { s.core id with late := false, block := .no }

/-- R124, R146: a core issues a word. It must be the word its program counter names; a program counter at or beyond the
program length is cause 0x04; a word no instruction has, or a reserved field that is not 0, is cause 0x01. The payload's
word of a fetch beyond the program is a free value. -/
def coreGate (core : CoreId) (w : Word) (mask mtch must0 : Nat) (s : State) (k : CoreState → State) : State :=
  let id := core.toNat
  let c := s.core id
  if !s.coreIssues id then s
  else if c.prog.length ≤ c.pc then s.drawn.coreFault id 0x04 0 (BitVec.ofNat 32 s.free)
  else if nth 0#32 c.prog c.pc ≠ w then s
  else if w.toNat &&& mask ≠ mtch then (if coreKnown w.toNat then s else s.coreFault id 0x01 0 w)
  else if w.toNat &&& must0 ≠ 0 then s.coreFault id 0x01 0 w
  else if s.coreLate id then (k c).coreSettled id
  else k c

/-- The outcome of an instruction inside a core, put back. -/
def corePut (id : Nat) (w : Word) (s : State) : CoreOut → State
  | .ok c => s.setCore id c
  | .fault cause a => s.coreFault id cause a w

/-- A core issues an instruction that works inside the core. -/
def coreInstr (core : CoreId) (w : Word) (mask mtch must0 : Nat) (body : Word → CoreState → CoreOut) (s : State) : State :=
  coreGate core w mask mtch must0 s (fun c => corePut core.toNat w s (body w c))

/-- R149: vperm bcast: all lanes := va lane e. A lane number beyond the register's lanes names no lane: the value is free. -/
def cBcast (fr : Nat) (w : Word) (c : CoreState) : CoreOut :=
  cVperm (fun lw n _ => if fE w < n then laneOf lw (c.vget (fA w)) (fE w) else fr % 2 ^ lw) w c

/-- The outcome of a command that always has a next state. -/
abbrev Out := Host.Outcome State Fault Refusal

/-- Nop: nothing but the next address. -/
def execGexaCNop (core : CoreId) (w : Word) (s : State) : Out :=
  .next (coreInstr core w 0xF80000FF 0x00000000 0x07FFFF00 (fun _ c => .ok (coreNext c)) s)

/-- Halt: the core halts until run end. -/
def execGexaCHalt (core : CoreId) (w : Word) (s : State) : Out :=
  .next (coreInstr core w 0xF80000FF 0x00000001 0x07FFFF00 (fun _ c => .ok { coreNext c with status := 2 }) s)

/-- Trap e: core fault 0x07 with code e. -/
def execGexaCTrap (core : CoreId) (w : Word) (s : State) : Out :=
  .next (coreInstr core w 0xF80000FF 0x00000003 0x07FF8700 (fun w _ => .fault 0x07 (fE w)) s)

/-- Add: cd := ca op cb. -/
def execGexaCAdd (core : CoreId) (w : Word) (s : State) : Out :=
  .next (coreInstr core w 0xF80000FF 0x08000000 0x00007F00 (cBin (fun a b => a + b)) s)

/-- Sub: cd := ca op cb. -/
def execGexaCSub (core : CoreId) (w : Word) (s : State) : Out :=
  .next (coreInstr core w 0xF80000FF 0x08000001 0x00007F00 (cBin (fun a b => a + (2 ^ 32 - b))) s)

/-- And: cd := ca op cb. -/
def execGexaCAnd (core : CoreId) (w : Word) (s : State) : Out :=
  .next (coreInstr core w 0xF80000FF 0x08000002 0x00007F00 (cBin (fun a b => a &&& b)) s)

/-- Or: cd := ca op cb. -/
def execGexaCOr (core : CoreId) (w : Word) (s : State) : Out :=
  .next (coreInstr core w 0xF80000FF 0x08000003 0x00007F00 (cBin (fun a b => a ||| b)) s)

/-- Xor: cd := ca op cb. -/
def execGexaCXor (core : CoreId) (w : Word) (s : State) : Out :=
  .next (coreInstr core w 0xF80000FF 0x08000004 0x00007F00 (cBin (fun a b => a ^^^ b)) s)

/-- Andn: cd := ca op cb. -/
def execGexaCAndn (core : CoreId) (w : Word) (s : State) : Out :=
  .next (coreInstr core w 0xF80000FF 0x08000014 0x00007F00 (cBin (fun a b => a &&& notW 32 b)) s)

/-- Shl: cd := ca op cb. -/
def execGexaCShl (core : CoreId) (w : Word) (s : State) : Out :=
  .next (coreInstr core w 0xF80000FF 0x08000005 0x00007F00 (cBin (fun a b => a <<< (b % 32))) s)

/-- Shr: cd := ca op cb. -/
def execGexaCShr (core : CoreId) (w : Word) (s : State) : Out :=
  .next (coreInstr core w 0xF80000FF 0x08000006 0x00007F00 (cBin (fun a b => a >>> (b % 32))) s)

/-- Sra: cd := ca op cb. -/
def execGexaCSra (core : CoreId) (w : Word) (s : State) : Out :=
  .next (coreInstr core w 0xF80000FF 0x08000007 0x00007F00 (cBin (fun a b => sraW 32 a (b % 32))) s)

/-- Min: cd := ca op cb. -/
def execGexaCMin (core : CoreId) (w : Word) (s : State) : Out :=
  .next (coreInstr core w 0xF80000FF 0x08000008 0x00007F00 (cBin (sMin 32)) s)

/-- Max: cd := ca op cb. -/
def execGexaCMax (core : CoreId) (w : Word) (s : State) : Out :=
  .next (coreInstr core w 0xF80000FF 0x08000009 0x00007F00 (cBin (sMax 32)) s)

/-- Minu: cd := ca op cb. -/
def execGexaCMinu (core : CoreId) (w : Word) (s : State) : Out :=
  .next (coreInstr core w 0xF80000FF 0x0800000A 0x00007F00 (cBin (Nat.min)) s)

/-- Maxu: cd := ca op cb. -/
def execGexaCMaxu (core : CoreId) (w : Word) (s : State) : Out :=
  .next (coreInstr core w 0xF80000FF 0x0800000B 0x00007F00 (cBin (Nat.max)) s)

/-- Mul: cd := ca op cb. -/
def execGexaCMul (core : CoreId) (w : Word) (s : State) : Out :=
  .next (coreInstr core w 0xF80000FF 0x0800000C 0x00007F00 (cBin (fun a b => a * b)) s)

/-- Mulhu: cd := ca op cb. -/
def execGexaCMulhu (core : CoreId) (w : Word) (s : State) : Out :=
  .next (coreInstr core w 0xF80000FF 0x0800000D 0x00007F00 (cBin (fun a b => a * b / 2 ^ 32)) s)

/-- Slt: cd := ca op cb. -/
def execGexaCSlt (core : CoreId) (w : Word) (s : State) : Out :=
  .next (coreInstr core w 0xF80000FF 0x0800000E 0x00007F00 (cBin (fun a b => b2n (decide (toSigned 32 a < toSigned 32 b)))) s)

/-- Sltu: cd := ca op cb. -/
def execGexaCSltu (core : CoreId) (w : Word) (s : State) : Out :=
  .next (coreInstr core w 0xF80000FF 0x0800000F 0x00007F00 (cBin (fun a b => b2n (decide (a < b)))) s)

/-- Seq: cd := ca op cb. -/
def execGexaCSeq (core : CoreId) (w : Word) (s : State) : Out :=
  .next (coreInstr core w 0xF80000FF 0x08000010 0x00007F00 (cBin (fun a b => b2n (a == b))) s)

/-- Sne: cd := ca op cb. -/
def execGexaCSne (core : CoreId) (w : Word) (s : State) : Out :=
  .next (coreInstr core w 0xF80000FF 0x08000011 0x00007F00 (cBin (fun a b => b2n (a != b))) s)

/-- Clz: leading zeros of ca, 32 for 0. -/
def execGexaCClz (core : CoreId) (w : Word) (s : State) : Out :=
  .next (coreInstr core w 0xF80000FF 0x08000012 0x0007FF00 (cBin (fun a _ => clz 32 a)) s)

/-- Popc: set bits of ca. -/
def execGexaCPopc (core : CoreId) (w : Word) (s : State) : Out :=
  .next (coreInstr core w 0xF80000FF 0x08000013 0x0007FF00 (cBin (fun a _ => popCount 32 a)) s)

/-- Addi with the sign-extended immediate. -/
def execGexaCAddi (core : CoreId) (w : Word) (s : State) : Out :=
  .next (coreInstr core w 0xF8078000 0x10000000 0x00000000 (cImm (fun a b => a + b)) s)

/-- Andi with the sign-extended immediate. -/
def execGexaCAndi (core : CoreId) (w : Word) (s : State) : Out :=
  .next (coreInstr core w 0xF8078000 0x10008000 0x00000000 (cImm (fun a b => a &&& b)) s)

/-- Ori with the sign-extended immediate. -/
def execGexaCOri (core : CoreId) (w : Word) (s : State) : Out :=
  .next (coreInstr core w 0xF8078000 0x10010000 0x00000000 (cImm (fun a b => a ||| b)) s)

/-- Xori with the sign-extended immediate. -/
def execGexaCXori (core : CoreId) (w : Word) (s : State) : Out :=
  .next (coreInstr core w 0xF8078000 0x10018000 0x00000000 (cImm (fun a b => a ^^^ b)) s)

/-- Shli with the sign-extended immediate. -/
def execGexaCShli (core : CoreId) (w : Word) (s : State) : Out :=
  .next (coreInstr core w 0xF8078000 0x10020000 0x00000000 (cImm (fun a b => a <<< (b % 32))) s)

/-- Shri with the sign-extended immediate. -/
def execGexaCShri (core : CoreId) (w : Word) (s : State) : Out :=
  .next (coreInstr core w 0xF8078000 0x10028000 0x00000000 (cImm (fun a b => a >>> (b % 32))) s)

/-- Srai with the sign-extended immediate. -/
def execGexaCSrai (core : CoreId) (w : Word) (s : State) : Out :=
  .next (coreInstr core w 0xF8078000 0x10030000 0x00000000 (cImm (fun a b => sraW 32 a (b % 32))) s)

/-- Slti with the sign-extended immediate. -/
def execGexaCSlti (core : CoreId) (w : Word) (s : State) : Out :=
  .next (coreInstr core w 0xF8078000 0x10038000 0x00000000 (cImm (fun a b => b2n (decide (toSigned 32 a < toSigned 32 b)))) s)

/-- Sltui with the sign-extended immediate. -/
def execGexaCSltui (core : CoreId) (w : Word) (s : State) : Out :=
  .next (coreInstr core w 0xF8078000 0x10040000 0x00000000 (cImm (fun a b => b2n (decide (a < b)))) s)

/-- Seqi with the sign-extended immediate. -/
def execGexaCSeqi (core : CoreId) (w : Word) (s : State) : Out :=
  .next (coreInstr core w 0xF8078000 0x10048000 0x00000000 (cImm (fun a b => b2n (a == b))) s)

/-- Li: cd := sext(imm23). -/
def execGexaCLi (core : CoreId) (w : Word) (s : State) : Out :=
  .next (coreInstr core w 0xF8000000 0x18000000 0x00000000 (fun w c => setC w c (signExt 23 32 (fImm23 w))) s)

/-- Lih: the upper half of cd. -/
def execGexaCLih (core : CoreId) (w : Word) (s : State) : Out :=
  .next (coreInstr core w 0xF8000000 0x20000000 0x007F0000 (fun w c => setC w c (setBits (c.cget (fD w)) 31 16 (bitsOf w.toNat 15 0))) s)

/-- Sel. -/
def execGexaCSel (core : CoreId) (w : Word) (s : State) : Out :=
  .next (coreInstr core w 0xF80000FF 0x28000000 0x00000700 (fun w c => setC w c (if c.cget (fE w) ≠ 0 then c.cget (fA w) else c.cget (fB w))) s)

/-- B: branch. -/
def execGexaCB (core : CoreId) (w : Word) (s : State) : Out :=
  .next (coreInstr core w 0xF8070000 0x30000000 0x07F8FFC0 (cBranch (fun _ _ => true)) s)

/-- Bz: branch. -/
def execGexaCBz (core : CoreId) (w : Word) (s : State) : Out :=
  .next (coreInstr core w 0xF8070000 0x30010000 0x0078FFC0 (cBranch (fun a _ => a == 0)) s)

/-- Bnz: branch. -/
def execGexaCBnz (core : CoreId) (w : Word) (s : State) : Out :=
  .next (coreInstr core w 0xF8070000 0x30020000 0x0078FFC0 (cBranch (fun a _ => a != 0)) s)

/-- Blt: branch. -/
def execGexaCBlt (core : CoreId) (w : Word) (s : State) : Out :=
  .next (coreInstr core w 0xF8070000 0x30030000 0x0000FFC0 (cBranch (fun a b => decide (toSigned 32 a < toSigned 32 b))) s)

/-- Bge: branch. -/
def execGexaCBge (core : CoreId) (w : Word) (s : State) : Out :=
  .next (coreInstr core w 0xF8070000 0x30040000 0x0000FFC0 (cBranch (fun a b => decide (toSigned 32 b ≤ toSigned 32 a))) s)

/-- Bltu: branch. -/
def execGexaCBltu (core : CoreId) (w : Word) (s : State) : Out :=
  .next (coreInstr core w 0xF8070000 0x30050000 0x0000FFC0 (cBranch (fun a b => decide (a < b))) s)

/-- Bgeu: branch. -/
def execGexaCBgeu (core : CoreId) (w : Word) (s : State) : Out :=
  .next (coreInstr core w 0xF8070000 0x30060000 0x0000FFC0 (cBranch (fun a b => decide (b ≤ a))) s)

/-- Beq: branch. -/
def execGexaCBeq (core : CoreId) (w : Word) (s : State) : Out :=
  .next (coreInstr core w 0xF8070000 0x30070000 0x0000FFC0 (cBranch (fun a b => a == b)) s)

/-- Loop. -/
def execGexaCLoop (core : CoreId) (w : Word) (s : State) : Out :=
  .next (coreInstr core w 0xF8070000 0x38000000 0x0078FFC0 (cLoop) s)

/-- Vop add per lane. -/
def execVopAdd (core : CoreId) (w : Word) (s : State) : Out :=
  .next (coreInstr core w 0xF80000FF 0x50000000 0x04447800 (cVop 0) s)

/-- Vop sub per lane. -/
def execVopSub (core : CoreId) (w : Word) (s : State) : Out :=
  .next (coreInstr core w 0xF80000FF 0x50000001 0x04447800 (cVop 1) s)

/-- Vop adds per lane. -/
def execVopAdds (core : CoreId) (w : Word) (s : State) : Out :=
  .next (coreInstr core w 0xF80000FF 0x50000002 0x04447800 (cVop 2) s)

/-- Vop subs per lane. -/
def execVopSubs (core : CoreId) (w : Word) (s : State) : Out :=
  .next (coreInstr core w 0xF80000FF 0x50000003 0x04447800 (cVop 3) s)

/-- Vop min per lane. -/
def execVopMin (core : CoreId) (w : Word) (s : State) : Out :=
  .next (coreInstr core w 0xF80000FF 0x50000004 0x04447800 (cVop 4) s)

/-- Vop max per lane. -/
def execVopMax (core : CoreId) (w : Word) (s : State) : Out :=
  .next (coreInstr core w 0xF80000FF 0x50000005 0x04447800 (cVop 5) s)

/-- Vop minu per lane. -/
def execVopMinu (core : CoreId) (w : Word) (s : State) : Out :=
  .next (coreInstr core w 0xF80000FF 0x50000006 0x04447800 (cVop 6) s)

/-- Vop maxu per lane. -/
def execVopMaxu (core : CoreId) (w : Word) (s : State) : Out :=
  .next (coreInstr core w 0xF80000FF 0x50000007 0x04447800 (cVop 7) s)

/-- Vop and per lane. -/
def execVopAnd (core : CoreId) (w : Word) (s : State) : Out :=
  .next (coreInstr core w 0xF80000FF 0x50000008 0x04447800 (cVop 8) s)

/-- Vop or per lane. -/
def execVopOr (core : CoreId) (w : Word) (s : State) : Out :=
  .next (coreInstr core w 0xF80000FF 0x50000009 0x04447800 (cVop 9) s)

/-- Vop xor per lane. -/
def execVopXor (core : CoreId) (w : Word) (s : State) : Out :=
  .next (coreInstr core w 0xF80000FF 0x5000000A 0x04447800 (cVop 10) s)

/-- Vop shl per lane. -/
def execVopShl (core : CoreId) (w : Word) (s : State) : Out :=
  .next (coreInstr core w 0xF80000FF 0x5000000B 0x04447800 (cVop 11) s)

/-- Vop shr per lane. -/
def execVopShr (core : CoreId) (w : Word) (s : State) : Out :=
  .next (coreInstr core w 0xF80000FF 0x5000000C 0x04447800 (cVop 12) s)

/-- Vop sra per lane. -/
def execVopSra (core : CoreId) (w : Word) (s : State) : Out :=
  .next (coreInstr core w 0xF80000FF 0x5000000D 0x04447800 (cVop 13) s)

/-- Vop abs per lane. -/
def execVopAbs (core : CoreId) (w : Word) (s : State) : Out :=
  .next (coreInstr core w 0xF80000FF 0x5000000E 0x04447800 (cVop 14) s)

/-- Vop mul per lane. -/
def execVopMul (core : CoreId) (w : Word) (s : State) : Out :=
  .next (coreInstr core w 0xF80000FF 0x5000000F 0x04447800 (cVop 15) s)

/-- Vops add per lane, scalar cb. -/
def execVopsAdd (core : CoreId) (w : Word) (s : State) : Out :=
  .next (coreInstr core w 0xF80000FF 0x58000000 0x04407800 (cVops 0) s)

/-- Vops sub per lane, scalar cb. -/
def execVopsSub (core : CoreId) (w : Word) (s : State) : Out :=
  .next (coreInstr core w 0xF80000FF 0x58000001 0x04407800 (cVops 1) s)

/-- Vops adds per lane, scalar cb. -/
def execVopsAdds (core : CoreId) (w : Word) (s : State) : Out :=
  .next (coreInstr core w 0xF80000FF 0x58000002 0x04407800 (cVops 2) s)

/-- Vops subs per lane, scalar cb. -/
def execVopsSubs (core : CoreId) (w : Word) (s : State) : Out :=
  .next (coreInstr core w 0xF80000FF 0x58000003 0x04407800 (cVops 3) s)

/-- Vops min per lane, scalar cb. -/
def execVopsMin (core : CoreId) (w : Word) (s : State) : Out :=
  .next (coreInstr core w 0xF80000FF 0x58000004 0x04407800 (cVops 4) s)

/-- Vops max per lane, scalar cb. -/
def execVopsMax (core : CoreId) (w : Word) (s : State) : Out :=
  .next (coreInstr core w 0xF80000FF 0x58000005 0x04407800 (cVops 5) s)

/-- Vops minu per lane, scalar cb. -/
def execVopsMinu (core : CoreId) (w : Word) (s : State) : Out :=
  .next (coreInstr core w 0xF80000FF 0x58000006 0x04407800 (cVops 6) s)

/-- Vops maxu per lane, scalar cb. -/
def execVopsMaxu (core : CoreId) (w : Word) (s : State) : Out :=
  .next (coreInstr core w 0xF80000FF 0x58000007 0x04407800 (cVops 7) s)

/-- Vops and per lane, scalar cb. -/
def execVopsAnd (core : CoreId) (w : Word) (s : State) : Out :=
  .next (coreInstr core w 0xF80000FF 0x58000008 0x04407800 (cVops 8) s)

/-- Vops or per lane, scalar cb. -/
def execVopsOr (core : CoreId) (w : Word) (s : State) : Out :=
  .next (coreInstr core w 0xF80000FF 0x58000009 0x04407800 (cVops 9) s)

/-- Vops xor per lane, scalar cb. -/
def execVopsXor (core : CoreId) (w : Word) (s : State) : Out :=
  .next (coreInstr core w 0xF80000FF 0x5800000A 0x04407800 (cVops 10) s)

/-- Vops shl per lane, scalar cb. -/
def execVopsShl (core : CoreId) (w : Word) (s : State) : Out :=
  .next (coreInstr core w 0xF80000FF 0x5800000B 0x04407800 (cVops 11) s)

/-- Vops shr per lane, scalar cb. -/
def execVopsShr (core : CoreId) (w : Word) (s : State) : Out :=
  .next (coreInstr core w 0xF80000FF 0x5800000C 0x04407800 (cVops 12) s)

/-- Vops sra per lane, scalar cb. -/
def execVopsSra (core : CoreId) (w : Word) (s : State) : Out :=
  .next (coreInstr core w 0xF80000FF 0x5800000D 0x04407800 (cVops 13) s)

/-- Vops abs per lane, scalar cb. -/
def execVopsAbs (core : CoreId) (w : Word) (s : State) : Out :=
  .next (coreInstr core w 0xF80000FF 0x5800000E 0x04407800 (cVops 14) s)

/-- Vops mul per lane, scalar cb. -/
def execVopsMul (core : CoreId) (w : Word) (s : State) : Out :=
  .next (coreInstr core w 0xF80000FF 0x5800000F 0x04407800 (cVops 15) s)

/-- Vcmp eq. -/
def execVcmpEq (core : CoreId) (w : Word) (s : State) : Out :=
  .next (coreInstr core w 0xF800007F 0x60000000 0x04407800 (cVcmp 0) s)

/-- Vcmp ne. -/
def execVcmpNe (core : CoreId) (w : Word) (s : State) : Out :=
  .next (coreInstr core w 0xF800007F 0x60000001 0x04407800 (cVcmp 1) s)

/-- Vcmp lt. -/
def execVcmpLt (core : CoreId) (w : Word) (s : State) : Out :=
  .next (coreInstr core w 0xF800007F 0x60000002 0x04407800 (cVcmp 2) s)

/-- Vcmp le. -/
def execVcmpLe (core : CoreId) (w : Word) (s : State) : Out :=
  .next (coreInstr core w 0xF800007F 0x60000003 0x04407800 (cVcmp 3) s)

/-- Vcmp gt. -/
def execVcmpGt (core : CoreId) (w : Word) (s : State) : Out :=
  .next (coreInstr core w 0xF800007F 0x60000004 0x04407800 (cVcmp 4) s)

/-- Vcmp ge. -/
def execVcmpGe (core : CoreId) (w : Word) (s : State) : Out :=
  .next (coreInstr core w 0xF800007F 0x60000005 0x04407800 (cVcmp 5) s)

/-- Vcmp ltu. -/
def execVcmpLtu (core : CoreId) (w : Word) (s : State) : Out :=
  .next (coreInstr core w 0xF800007F 0x60000006 0x04407800 (cVcmp 6) s)

/-- Vcmp leu. -/
def execVcmpLeu (core : CoreId) (w : Word) (s : State) : Out :=
  .next (coreInstr core w 0xF800007F 0x60000007 0x04407800 (cVcmp 7) s)

/-- Vcmp gtu. -/
def execVcmpGtu (core : CoreId) (w : Word) (s : State) : Out :=
  .next (coreInstr core w 0xF800007F 0x60000008 0x04407800 (cVcmp 8) s)

/-- Vcmp geu. -/
def execVcmpGeu (core : CoreId) (w : Word) (s : State) : Out :=
  .next (coreInstr core w 0xF800007F 0x60000009 0x04407800 (cVcmp 9) s)

/-- Vsel. -/
def execVsel (core : CoreId) (w : Word) (s : State) : Out :=
  .next (coreInstr core w 0xF80000FF 0x68000000 0x04444000 (cVsel) s)

/-- Vmac. -/
def execVmac (core : CoreId) (w : Word) (s : State) : Out :=
  .next (coreInstr core w 0xF80000FF 0x70000000 0x06447800 (cVmac true) s)

/-- Vmul. -/
def execVmul (core : CoreId) (w : Word) (s : State) : Out :=
  .next (coreInstr core w 0xF80000FF 0x70000001 0x06447800 (cVmac false) s)

/-- Aclr: ad := 0. -/
def execAclr (core : CoreId) (w : Word) (s : State) : Out :=
  .next (coreInstr core w 0xF80000FF 0x78000000 0x067FFF00 (fun w c => .ok (coreNext (c.aset (fD w) 0))) s)

/-- Aget: cd := lane cb[3:0] of aa. -/
def execAget (core : CoreId) (w : Word) (s : State) : Out :=
  .next (coreInstr core w 0xF80000FF 0x78000001 0x00607F00 (fun w c => setC w c (laneOf 32 (c.aget (fA w)) (c.cget (fB w) % 16))) s)

/-- Aput: lane cb[3:0] of ad := ca. -/
def execAput (core : CoreId) (w : Word) (s : State) : Out :=
  .next (coreInstr core w 0xF80000FF 0x78000002 0x06007F00 (fun w c => .ok (coreNext (c.aset (fD w) (putLanes 32 16 (c.aget (fD w)) (c.cget (fB w) % 16) [c.cget (fA w)])))) s)

/-- Aadd. -/
def execAadd (core : CoreId) (w : Word) (s : State) : Out :=
  .next (coreInstr core w 0xF80000FF 0x78000003 0x06667F00 (cAccBin false) s)

/-- Asub. -/
def execAsub (core : CoreId) (w : Word) (s : State) : Out :=
  .next (coreInstr core w 0xF80000FF 0x78000004 0x06667F00 (cAccBin true) s)

/-- Aiota: ad lane i := ca + i. -/
def execAiota (core : CoreId) (w : Word) (s : State) : Out :=
  .next (coreInstr core w 0xF80000FF 0x78000005 0x0607FF00 (fun w c => .ok (coreNext (c.aset (fD w) (ofLanes 32 ((List.range 16).map (fun i => c.cget (fA w) + i)))))) s)

/-- Anarrow.lo. -/
def execAnarrowLo (core : CoreId) (w : Word) (s : State) : Out :=
  .next (coreInstr core w 0xF80000FF 0x78000006 0x0467FF00 (cNarrow 0) s)

/-- Anarrow.hi. -/
def execAnarrowHi (core : CoreId) (w : Word) (s : State) : Out :=
  .next (coreInstr core w 0xF80000FF 0x78000007 0x0467FF00 (cNarrow 8) s)

/-- Awiden. -/
def execAwiden (core : CoreId) (w : Word) (s : State) : Out :=
  .next (coreInstr core w 0xF80000FF 0x78000008 0x0647FF00 (fun w c => .ok (coreNext (c.aset (fD w) (putLanes 32 16 (c.aget (fD w)) 0 (lanesOf 16 8 (c.vget (fA w))))))) s)

/-- Asum. -/
def execAsum (core : CoreId) (w : Word) (s : State) : Out :=
  .next (coreInstr core w 0xF80000FF 0x78000009 0x0067FF00 (fun w c => setC w c ((lanesOf 32 16 (c.aget (fA w))).foldl (fun a x => a + x) 0)) s)

/-- Vcx. -/
def execVcx (core : CoreId) (w : Word) (s : State) : Out :=
  .next (coreInstr core w 0xF8000000 0x80000000 0x0447F8F8 (cVcx) s)

/-- Vsrt.sort. -/
def execVsrtSort (core : CoreId) (w : Word) (s : State) : Out :=
  .next (coreInstr core w 0xF80000F0 0x88000000 0x0447F808 (fun w c => cVsrt (fun lw l => rankSort (fFn w) lw l) w c) s)

/-- Vsrt.step. -/
def execVsrtStep (core : CoreId) (w : Word) (s : State) : Out :=
  .next (coreInstr core w 0xF80000F0 0x88000010 0x04478008 (cVsrtStep) s)

/-- Vsrt.rev. -/
def execVsrtRev (core : CoreId) (w : Word) (s : State) : Out :=
  .next (coreInstr core w 0xF80000F0 0x88000020 0x0447F808 (cVsrt (fun _ l => l.reverse)) s)

/-- Vperm.perm. -/
def execVpermPerm (core : CoreId) (w : Word) (s : State) : Out :=
  .next (coreInstr core w 0xF80000FF 0x90000000 0x04447800 (fun w c => cVperm (fun lw n i => laneOf lw (c.vget (fA w)) (laneOf lw (c.vget (fB w)) i % n)) w c) s)

/-- Vperm.up. -/
def execVpermUp (core : CoreId) (w : Word) (s : State) : Out :=
  .next (coreInstr core w 0xF80000FF 0x90000002 0x04478000 (fun w c => cVperm (fun lw _ i => if i < fE w then 0 else laneOf lw (c.vget (fA w)) (i - fE w)) w c) s)

/-- Vperm.down. -/
def execVpermDown (core : CoreId) (w : Word) (s : State) : Out :=
  .next (coreInstr core w 0xF80000FF 0x90000003 0x04478000 (fun w c => cVperm (fun lw n i => if i + fE w < n then laneOf lw (c.vget (fA w)) (i + fE w) else 0) w c) s)

/-- Vperm.splat. -/
def execVpermSplat (core : CoreId) (w : Word) (s : State) : Out :=
  .next (coreInstr core w 0xF80000FF 0x90000004 0x0407F800 (fun w c => cVperm (fun lw _ _ => c.cget (fA w) % 2 ^ lw) w c) s)

/-- Vred.maxs. -/
def execVredMaxs (core : CoreId) (w : Word) (s : State) : Out :=
  .next (coreInstr core w 0xF80000FF 0x98000000 0x0047F800 (cVred 0) s)

/-- Vred.mins. -/
def execVredMins (core : CoreId) (w : Word) (s : State) : Out :=
  .next (coreInstr core w 0xF80000FF 0x98000001 0x0047F800 (cVred 1) s)

/-- Vred.maxu. -/
def execVredMaxu (core : CoreId) (w : Word) (s : State) : Out :=
  .next (coreInstr core w 0xF80000FF 0x98000002 0x0047F800 (cVred 2) s)

/-- Vred.minu. -/
def execVredMinu (core : CoreId) (w : Word) (s : State) : Out :=
  .next (coreInstr core w 0xF80000FF 0x98000003 0x0047F800 (cVred 3) s)

/-- Vred.sum. -/
def execVredSum (core : CoreId) (w : Word) (s : State) : Out :=
  .next (coreInstr core w 0xF80000FF 0x98000004 0x0047F800 (cVred 4) s)

/-- Vred.argmaxu. -/
def execVredArgmaxu (core : CoreId) (w : Word) (s : State) : Out :=
  .next (coreInstr core w 0xF80000FF 0x98000005 0x0047F800 (cVred 5) s)

/-- Vred.cnt. -/
def execVredCnt (core : CoreId) (w : Word) (s : State) : Out :=
  .next (coreInstr core w 0xF80000FF 0x98000006 0x0047F800 (cVred 6) s)

/-- Vred.first. -/
def execVredFirst (core : CoreId) (w : Word) (s : State) : Out :=
  .next (coreInstr core w 0xF80000FF 0x98000007 0x0047F800 (cVred 7) s)

/-- Vcvt Key. -/
def execVcvtKey (core : CoreId) (w : Word) (s : State) : Out :=
  .next (coreInstr core w 0xF80000FF 0xD8000000 0x0447FF00 (cCvtH bfKey) s)

/-- Vcvt Unkey. -/
def execVcvtUnkey (core : CoreId) (w : Word) (s : State) : Out :=
  .next (coreInstr core w 0xF80000FF 0xD8000001 0x0447FF00 (cCvtH bfUnkey) s)

/-- Vcvt E4Lo. -/
def execVcvtE4Lo (core : CoreId) (w : Word) (s : State) : Out :=
  .next (coreInstr core w 0xF80000FF 0xD8000002 0x0447FF00 (cCvtWiden 0 (fp8ToBf layE4)) s)

/-- Vcvt E4Hi. -/
def execVcvtE4Hi (core : CoreId) (w : Word) (s : State) : Out :=
  .next (coreInstr core w 0xF80000FF 0xD8000003 0x0447FF00 (cCvtWiden 8 (fp8ToBf layE4)) s)

/-- Vcvt E5Lo. -/
def execVcvtE5Lo (core : CoreId) (w : Word) (s : State) : Out :=
  .next (coreInstr core w 0xF80000FF 0xD8000004 0x0447FF00 (cCvtWiden 0 (fp8ToBf layE5)) s)

/-- Vcvt E5Hi. -/
def execVcvtE5Hi (core : CoreId) (w : Word) (s : State) : Out :=
  .next (coreInstr core w 0xF80000FF 0xD8000005 0x0447FF00 (cCvtWiden 8 (fp8ToBf layE5)) s)

/-- Vcvt SxLo. -/
def execVcvtSxLo (core : CoreId) (w : Word) (s : State) : Out :=
  .next (coreInstr core w 0xF80000FF 0xD8000006 0x0447FF00 (cCvtWiden 0 (signExt 8 16)) s)

/-- Vcvt SxHi. -/
def execVcvtSxHi (core : CoreId) (w : Word) (s : State) : Out :=
  .next (coreInstr core w 0xF80000FF 0xD8000007 0x0447FF00 (cCvtWiden 8 (signExt 8 16)) s)

/-- Vcvt BfE4. -/
def execVcvtBfE4 (core : CoreId) (w : Word) (s : State) : Out :=
  .next (coreInstr core w 0xF80000FF 0xD8000008 0x0447FF00 (fun w c => setV w c (ofLanes 8 ((lanesOf 16 8 (c.vget (fA w))).map bfToE4))) s)

/-- Vperm.bcast. -/
def execVpermBcast (core : CoreId) (w : Word) (s : State) : Out :=
  .next (coreInstr core w 0xF80000FF 0x90000001 0x04478000 (cBcast s.free) s.drawn)

end Sys2Proof.Machine
end

