-- ==== Sys2Proof/Machine/CoreMem.lean ====
section
/-!
DEFINITION. The instructions of Gexa-C that reach the slate, the mesh and the signal net (04_core_mode R133 to R143,
R149, R152, R153), and the events of the mesh (R138 to R141).
-/
namespace Sys2Proof.Machine

/-- The physical array of a core ID. -/
def State.corePhys (s : State) (id : Nat) : Nat := (s.physOf (id / 65536)).getD 0

/-- The context of a core's run. -/
def State.coreCtx (s : State) (id : Nat) : Nat := (s.arr (s.corePhys id)).run.ctx

/-- R133: the size of the core-mode region of a core's run. -/
def State.coreRegion (s : State) (id : Nat) : Nat := (s.slAlloc (s.coreCtx id)).2

/-- R133: the device physical address of an offset into the core-mode region of a core. -/
def State.slatePa (s : State) (id off : Nat) : Nat := slateBase id + (s.slAlloc (s.coreCtx id)).1 + off

/-- R136, R144, R305: a core consumes a poisoned word: the Flint request, and the run ends faulted. -/
def State.corePoison (s : State) (id pa : Nat) : State :=
  let p := s.corePhys id
  let s := (s.flintPoison p 2 0 id pa).modArr p (fun a => { a with run := { a.run with faulted := true } })
  s.stopRun p false

/-- R133: size and alignment of the slate access kinds 0 to 6. -/
def slateSize : Nat → Nat
  | 0 => 4 | 1 => 2 | 2 => 1 | 3 => 16 | 4 => 32 | 5 => 32 | _ => 64

/-- R133, R146: the cause of a bad slate address, bounds before alignment (notes/assumptions/32). -/
def slateBad (region size a : Nat) : Option Nat :=
  if region < a + size then some 0x02 else if a % size ≠ 0 then some 0x03 else none

/-- The slate address of a load or store: ca + off12. -/
def slateAddr (c : CoreState) (w : Word) : Nat := (c.cget (fA w) + bitsOf w.toNat 11 0) % 2 ^ 32

/-- R149: a post-increment by the access size. -/
def slateInc (w : Word) (size : Nat) (c : CoreState) : CoreState :=
  if w.toNat.testBit 15 then c.cset (fA w) (c.cget (fA w) + size) else c

/-- A loaded value put into its register, by kind. -/
def slateLoaded (kind d v : Nat) (c : CoreState) : CoreState :=
  match kind with
  | 0 => c.cset d v
  | 1 => c.cset d v
  | 2 => c.cset d v
  | 3 => c.vset d v
  | 4 => c.aset d (putLanes 32 16 (c.aget d) 0 (lanesOf 32 8 v))
  | 5 => c.aset d (putLanes 32 16 (c.aget d) 8 (lanesOf 32 8 v))
  | _ => c.aset d v

/-- The value a store writes, by kind. -/
def slateStored (kind d : Nat) (c : CoreState) : Nat :=
  match kind with
  | 3 => c.vget d
  | 4 => bitsOf (c.aget d) 255 0
  | 5 => bitsOf (c.aget d) 511 256
  | 6 => c.aget d
  | _ => c.cget d

/-- R135: whether a fill or copy in progress writes into a range of the region. -/
def SlateOp.meets (a size : Nat) (f : SlateOp) : Bool := decide (f.dst < a + size) && decide (a < f.dst + f.len)

/-- R135: the byte that a fill or copy in progress will leave at an offset of its range. -/
def State.fillByte (s : State) (id : Nat) (f : SlateOp) (o : Nat) : Byte :=
  match f.copySrc with
  | none => BitVec.ofNat 8 (f.value.toNat / 2 ^ (8 * ((o - f.dst) % 8)))
  | some src => s.byte (s.slatePa id (src + (o - f.dst)))

/-- R135: the value a load reads: a word in the range of a fill or copy in progress has its old or its new value. -/
def State.slateRead (s : State) (id : Nat) (c : CoreState) (a size : Nat) : Nat :=
  if c.fills.any (SlateOp.meets a size) then
    ofBytes ((List.range size).map (fun k => match c.fills.find? (SlateOp.meets (a + k) 1) with
      | none => s.byte (s.slatePa id a + k)
      | some f => if (s.freeAt ((a + k) / 8)).testBit 0 then s.fillByte id f (a + k) else s.byte (s.slatePa id a + k)))
  else s.rdLe (s.slatePa id a) size

/-- R135: a store into the range of a fill or copy in progress. -/
def slateTouch (a size : Nat) (c : CoreState) : CoreState :=
  { c with fills := c.fills.map (fun f =>
    if f.meets a size then { f with stored := f.stored ++ ((List.range (f.len / 8)).filter (fun j => SlateOp.meets a size { f with dst := f.dst + 8 * j, len := 8 })) }
    else f) }

/-- R135: what a fill or copy leaves in its range: a word that a store has written since may be kept or overwritten. -/
def State.fillLeaves (s : State) (id : Nat) (f : SlateOp) (bs : List Byte) : List Byte :=
  if f.stored = [] then bs
  else (List.range f.len).map (fun k =>
    if f.stored.contains (k / 8) && (s.freeAt (k / 8)).testBit 0 then s.byte (s.slatePa id f.dst + k) else nth 0#8 bs k)

/-- R149, R136: a slate load. A scalar load with post-increment whose data register is its base leaves a free value there:
the spec does not say which write stands (notes/assumptions/33). -/
def slateLoad (kind : Nat) (core : CoreId) (w : Word) (s : State) (c : CoreState) : State :=
  let id := core.toNat
  let size := slateSize kind
  let a := slateAddr c w
  match slateBad (s.coreRegion id) size a with
  | some cause => s.coreFault id cause a w
  | none =>
    let pa := s.slatePa id a
    let t := s.readChecks (some (s.coreCtx id)) pa size
    if t.badIn pa size then t.corePoison id pa
    else
      let c1 := slateLoaded kind (fD w) (t.slateRead id c a size) (slateInc w size c)
      if kind < 3 ∧ w.toNat.testBit 15 ∧ fD w = fA w then t.drawn.setCore id (coreNext (c1.cset (fD w) (t.free % 2 ^ 32)))
      else (if c.fills.any (SlateOp.meets a size) then t.drawn else t).setCore id (coreNext c1)

/-- R149, R134: a slate store. -/
def slateStore (kind : Nat) (core : CoreId) (w : Word) (s : State) (c : CoreState) : State :=
  let id := core.toNat
  let size := slateSize kind
  let a := slateAddr c w
  match slateBad (s.coreRegion id) size a with
  | some cause => s.coreFault id cause a w
  | none =>
    (s.store (some (s.coreCtx id)) (s.slatePa id a) (bytesOf size (slateStored kind (fD w) c))).setCore id
      (coreNext (slateInc w size (slateTouch a size c)))

/-- ld, kind 0. -/
def execGexaCLdW (core : CoreId) (w : Word) (s : State) : Out :=
  .next (coreGate core w 0xF8070000 0x40000000 0x00007000 s (slateLoad 0 core w s))

/-- ld, kind 1. -/
def execGexaCLdHu (core : CoreId) (w : Word) (s : State) : Out :=
  .next (coreGate core w 0xF8070000 0x40010000 0x00007000 s (slateLoad 1 core w s))

/-- ld, kind 2. -/
def execGexaCLdBu (core : CoreId) (w : Word) (s : State) : Out :=
  .next (coreGate core w 0xF8070000 0x40020000 0x00007000 s (slateLoad 2 core w s))

/-- ld, kind 3. -/
def execGexaCLdV (core : CoreId) (w : Word) (s : State) : Out :=
  .next (coreGate core w 0xF8070000 0x40030000 0x04007000 s (slateLoad 3 core w s))

/-- ld, kind 4. -/
def execGexaCLdAl (core : CoreId) (w : Word) (s : State) : Out :=
  .next (coreGate core w 0xF8070000 0x40040000 0x06007000 s (slateLoad 4 core w s))

/-- ld, kind 5. -/
def execGexaCLdAh (core : CoreId) (w : Word) (s : State) : Out :=
  .next (coreGate core w 0xF8070000 0x40050000 0x06007000 s (slateLoad 5 core w s))

/-- ld, kind 6. -/
def execGexaCLdA (core : CoreId) (w : Word) (s : State) : Out :=
  .next (coreGate core w 0xF8070000 0x40060000 0x06007000 s (slateLoad 6 core w s))

/-- st, kind 0. -/
def execGexaCStW (core : CoreId) (w : Word) (s : State) : Out :=
  .next (coreGate core w 0xF8070000 0x48000000 0x00007000 s (slateStore 0 core w s))

/-- st, kind 1. -/
def execGexaCStH (core : CoreId) (w : Word) (s : State) : Out :=
  .next (coreGate core w 0xF8070000 0x48010000 0x00007000 s (slateStore 1 core w s))

/-- st, kind 2. -/
def execGexaCStB (core : CoreId) (w : Word) (s : State) : Out :=
  .next (coreGate core w 0xF8070000 0x48020000 0x00007000 s (slateStore 2 core w s))

/-- st, kind 3. -/
def execGexaCStV (core : CoreId) (w : Word) (s : State) : Out :=
  .next (coreGate core w 0xF8070000 0x48030000 0x04007000 s (slateStore 3 core w s))

/-- st, kind 4. -/
def execGexaCStAl (core : CoreId) (w : Word) (s : State) : Out :=
  .next (coreGate core w 0xF8070000 0x48040000 0x06007000 s (slateStore 4 core w s))

/-- st, kind 5. -/
def execGexaCStAh (core : CoreId) (w : Word) (s : State) : Out :=
  .next (coreGate core w 0xF8070000 0x48050000 0x06007000 s (slateStore 5 core w s))

/-- st, kind 6. -/
def execGexaCStA (core : CoreId) (w : Word) (s : State) : Out :=
  .next (coreGate core w 0xF8070000 0x48060000 0x06007000 s (slateStore 6 core w s))

/-- The local Quartz time of a physical array's island (R309, R314): the master's time and the island's offset. -/
def State.localTime (s : State) (p : Nat) : DWord := s.now + BitVec.ofInt 64 (s.arr p).qtzOffset

/-- R148: the system values. Index 6 counts cycles, which the model does not: a free value (notes/assumptions/34). -/
def sysValue (s : State) (id : Nat) (c : CoreState) : Nat → Nat
  | 0 => id
  | 1 => id / 256 % 256
  | 2 => id % 256
  | 3 => (s.arr (s.corePhys id)).run.arg.toNat
  | 4 => (s.localTime (s.corePhys id)).toNat % 2 ^ 32
  | 5 => c.timeHi.toNat
  | 6 => s.free % 2 ^ 32
  | 7 => s.coreCtx id
  | 8 => s.coreRegion id
  | 9 => c.rx.length
  | 12 => (c.kget 0).toNat
  | 13 => (c.kget 1).toNat
  | 14 => (c.kget 2).toNat
  | 15 => (c.kget 3).toNat
  | _ => 0

/-- sysr: cd := system value imm15; index 4 captures the high half of local time. -/
def coreSysr (core : CoreId) (w : Word) (s : State) (c : CoreState) : State :=
  let id := core.toNat
  let i := bitsOf w.toNat 14 0
  let c1 := c.cset (fD w) (sysValue s id c i)
  let c2 := if i = 4 then { c1 with timeHi := BitVec.ofNat 32 ((s.localTime (s.corePhys id)).toNat / 2 ^ 32) } else c1
  (if i = 6 then s.drawn else s).setCore id (coreNext c2)

/-- sysr. -/
def execGexaCSysr (core : CoreId) (w : Word) (s : State) : Out :=
  .next (coreGate core w 0xF8078000 0xD0000000 0x00780000 s (coreSysr core w s))

/-- R142: whether a target core may be named by a core of a context: bits above the core ID are 0 (R153), the array
exists on this device and lies in the context's partition. -/
def State.meshTarget (s : State) (ctx t : Nat) : Bool :=
  decide (t < 2 ^ 20) && (s.physOf (t / 65536)).isSome && s.inPartition ctx (t / 65536)

/-- R142: whether a target core runs in a run of the same context. -/
def State.meshRuns (s : State) (ctx t : Nat) : Bool :=
  let a := s.arr (s.corePhys t)
  a.run.running && decide (a.run.ctx = ctx) && (decide ((s.core t).status = 1) || decide ((s.core t).status = 4))

/-- Put a message into the mesh. -/
def State.inject (s : State) (m : MeshMsg) : State := { s with mesh := s.mesh ++ [m] }

/-- send: class-0 message of vd; a full send buffer stalls the core. -/
def coreSend (core : CoreId) (w : Word) (s : State) (c : CoreState) : State :=
  let id := core.toNat
  let t := c.cget (fA w)
  let ctx := s.coreCtx id
  if !(s.meshTarget ctx t && s.meshRuns ctx t) then s.coreFault id 0x06 t w
  else if 4 ≤ c.sends.length then s
  else
    let d := BitVec.ofNat 128 (c.vget (fD w))
    (s.setCore id (coreNext { c with sends := c.sends ++ [⟨t, fFn w, d, true⟩] })).inject (.send id t (fFn w) d)

/-- send. -/
def execSend (core : CoreId) (w : Word) (s : State) : Out :=
  .next (coreGate core w 0xF8000000 0xA0000000 0x0407FF00 s (coreSend core w s))

/-- R139: the completion of a put, from e[2:1] and fn; none for an encoding R152 and R148 reserve. -/
def putDone (w : Word) : Option Completion :=
  let fn := fFn w
  match bitsOf w.toNat 13 12 with
  | 0 => if fn = 0 then some .none else none
  | 1 => if fn < 4 then some (.counter fn) else none
  | 2 => some (.notify fn)
  | _ => none

/-- put.v and put.a: n messages of 16 bytes; the source register is read at issue. -/
def corePutTo (n : Nat) (src : Nat) (core : CoreId) (w : Word) (s : State) (c : CoreState) : State :=
  let id := core.toNat
  let t := c.cget (fA w)
  let off := c.cget (fB w)
  match putDone w with
  | none => s.coreFault id 0x01 0 w
  | some done =>
    if !s.meshTarget (s.coreCtx id) t then s.coreFault id 0x06 t w
    else match slateBad (s.coreRegion id) (16 * n) off with
      | some cause => s.coreFault id cause off w
      | none =>
        (List.range n).foldl (fun s i =>
          s.inject (.put id t (off + 16 * i) (BitVec.ofNat 128 (bitsOf src (128 * i + 127) (128 * i))) (i + 1 == n)
            (if i + 1 = n then done else .none)))
          (s.setCore id (coreNext { c with putsOut := c.putsOut + n }))

/-- put.v. -/
def execPutV (core : CoreId) (w : Word) (s : State) : Out :=
  .next (coreGate core w 0xF8004000 0xA8000000 0x04000F00 s (fun c => corePutTo 1 (c.vget (fD w)) core w s c))

/-- put.a. -/
def execPutA (core : CoreId) (w : Word) (s : State) : Out :=
  .next (coreGate core w 0xF8004000 0xA8004000 0x06000F00 s (fun c => corePutTo 4 (c.aget (fD w)) core w s c))

/-- R152: the completion of a get; none for a reserved encoding. -/
def getDone (w : Word) (c : CoreState) : Option Completion :=
  let k := bitsOf w.toNat 6 5
  match bitsOf w.toNat 13 12 with
  | 0 => if fD w = 0 ∧ k = 0 then some .none else none
  | 1 => if fD w = 0 then some (.counter k) else none
  | 2 => if k = 0 then some (.notify (c.cget (fD w) % 256)) else none
  | _ => none

/-- get: remote offset cb[11:0], local offset cb[27:16], length fn[4:0] + 1 units of 16 bytes. -/
def coreGet (core : CoreId) (w : Word) (s : State) (c : CoreState) : State :=
  let id := core.toNat
  let t := c.cget (fA w)
  let o := c.cget (fB w)
  let rem := bitsOf o 11 0
  let loc := bitsOf o 27 16
  let len := bitsOf w.toNat 4 0 + 1
  match getDone w c with
  | none => s.coreFault id 0x01 0 w
  | some done =>
    if !s.meshTarget (s.coreCtx id) t then s.coreFault id 0x06 t w
    else if s.coreRegion id < rem + 16 * len then s.coreFault id 0x02 rem w
    else if s.coreRegion id < loc + 16 * len then s.coreFault id 0x02 loc w
    else if rem % 16 ≠ 0 then s.coreFault id 0x03 rem w
    else if loc % 16 ≠ 0 then s.coreFault id 0x03 loc w
    else (s.setCore id (coreNext { c with getsOut := c.getsOut + len })).inject (.getReq id t rem loc len done)

/-- get. -/
def execGet (core : CoreId) (w : Word) (s : State) : Out :=
  .next (coreGate core w 0xF8000000 0xB0000000 0x00004F80 s (coreGet core w s))

/-- R135, R153: sfill and scopy: range checks, then an operation in progress at the shared port. -/
def coreFill (copySrc : Option Nat) (dst value : Nat) (core : CoreId) (w : Word) (s : State) (c : CoreState) : State :=
  let id := core.toNat
  let len := c.cget (fB w)
  let sig := if w.toNat.testBit 4 then some (bitsOf w.toNat 3 2) else none
  let src := copySrc.getD dst
  if s.coreRegion id < dst + len then s.coreFault id 0x02 dst w
  else if s.coreRegion id < src + len then s.coreFault id 0x02 src w
  else if dst % 8 ≠ 0 then s.coreFault id 0x03 dst w
  else if src % 8 ≠ 0 then s.coreFault id 0x03 src w
  else if len % 8 ≠ 0 then s.coreFault id 0x03 len w
  else s.setCore id (coreNext { c with fills := c.fills ++ [⟨dst, len, copySrc, BitVec.ofNat 64 value, sig, []⟩] })

/-- sfill: cb bytes from offset ca with the low 64 bits of vd. -/
def execSfill (core : CoreId) (w : Word) (s : State) : Out :=
  .next (coreGate core w 0xF8000003 0xE0000000 0x04007FE0 s (fun c => coreFill none (c.cget (fA w)) (c.vget (fD w)) core w s c))

/-- scopy: cb bytes from offset ca to offset cd. -/
def execScopy (core : CoreId) (w : Word) (s : State) : Out :=
  .next (coreGate core w 0xF8000003 0xE0000001 0x00007FE0 s (fun c => coreFill (some (c.cget (fA w))) (c.cget (fD w)) 0 core w s c))

/-- R140: the header of an entry. -/
def rxHeader (tag : Nat) (note : Bool) (src : Nat) : Word := BitVec.ofNat 32 (tag % 256 * 2 ^ 24 + b2n note * 2 ^ 23 + src % 2 ^ 20)

/-- R140: a receive entry taken into vd and ce. -/
def takeEntry (c : CoreState) (e : RxEntry) (vd ce : Nat) : CoreState :=
  (c.vset vd e.data.toNat).cset ce e.header.toNat

/-- R140: recv: the oldest entry, or wait. -/
def coreRecv (core : CoreId) (w : Word) (s : State) (c : CoreState) : State :=
  match c.rx with
  | [] => s.setCore core.toNat { c with block := .recv (fD w) (fE w) }
  | e :: es => s.setCore core.toNat (coreNext (takeEntry { c with rx := es } e (fD w) (fE w)))

/-- recv. -/
def execRecv (core : CoreId) (w : Word) (s : State) : Out :=
  .next (coreGate core w 0xF80000FF 0xB8000000 0x047F8700 s (coreRecv core w s))

/-- R149: recv.n: as recv; an empty queue writes ce := 0xFFFF_FFFF and leaves vd. -/
def coreRecvN (core : CoreId) (w : Word) (s : State) (c : CoreState) : State :=
  match c.rx with
  | [] => s.setCore core.toNat (coreNext (c.cset (fE w) 0xFFFFFFFF))
  | e :: es => s.setCore core.toNat (coreNext (takeEntry { c with rx := es } e (fD w) (fE w)))

/-- recv.n. -/
def execRecvN (core : CoreId) (w : Word) (s : State) : Out :=
  .next (coreGate core w 0xF80000FF 0xB8000001 0x047F8700 s (coreRecvN core w s))

/-- R140: whether an entry has a tag. -/
def rxTagged (tag : Nat) (e : RxEntry) : Bool := e.header.toNat / 2 ^ 24 == tag

/-- R140: recv.t: the oldest entry with tag [18:11], or wait. The tag fills the fields of ce, so no header is written
(notes/assumptions/35). -/
def coreRecvT (core : CoreId) (w : Word) (s : State) (c : CoreState) : State :=
  let tag := bitsOf w.toNat 18 11
  match c.rx.find? (rxTagged tag) with
  | none => s.setCore core.toNat { c with block := .recvT tag (fD w) 0 }
  | some e => s.setCore core.toNat (coreNext (takeEntry { c with rx := removeFirst (rxTagged tag) c.rx } e (fD w) 0))

/-- recv.t. -/
def execRecvT (core : CoreId) (w : Word) (s : State) : Out :=
  .next (coreGate core w 0xF80000FF 0xB8000002 0x04780700 s (coreRecvT core w s))

/-- R143, R295: sig: the increment goes to the counter named by the target word in the register of [26:23]. -/
def coreSig (core : CoreId) (w : Word) (s : State) (c : CoreState) : State :=
  let id := core.toNat
  let t := BitVec.ofNat 32 (c.cget (fD w))
  let ctx := s.coreCtx id
  if !s.sigAllowed ctx (sigTarget t) then s.coreFault id 0x06 t.toNat w
  else (s.setCore id (coreNext c)).sendSignal ctx t (toSigned 16 (bitsOf w.toNat 15 0)) (sigSrc 0 false id)

/-- sig. -/
def execGexaCSig (core : CoreId) (w : Word) (s : State) : Out :=
  .next (coreGate core w 0xF8000000 0xC0000000 0x007F0000 s (coreSig core w s))

/-- R293: wait: subtract the threshold when the counter has reached it, else wait. Threshold 0 is cause 0x01 (R146). -/
def coreWait (core : CoreId) (w : Word) (s : State) (c : CoreState) : State :=
  let k := bitsOf w.toNat 26 25
  let thr := bitsOf w.toNat 14 0
  if thr = 0 then s.coreFault core.toNat 0x01 0 w
  else if thr ≤ (c.kget k).toNat then s.setCore core.toNat (coreNext (c.kset k (c.kget k - BitVec.ofNat 16 thr)))
  else s.setCore core.toNat { c with block := .wait k thr }

/-- wait. -/
def execGexaCWait (core : CoreId) (w : Word) (s : State) : Out :=
  .next (coreGate core w 0xF8000000 0xC8000000 0x01FF8000 s (coreWait core w s))

/-- R148: whether every earlier put of a core is written and every earlier send accepted. -/
def coreFenceClear (c : CoreState) : Bool := decide (c.putsOut = 0) && decide (c.sends = [])

/-- fence. -/
def execGexaCFence (core : CoreId) (w : Word) (s : State) : Out :=
  .next (coreGate core w 0xF80000FF 0x00000002 0x07FFFF00 s (fun c =>
    s.setCore core.toNat (if coreFenceClear c then coreNext c else { c with block := .fence })))

/-- A core whose fence waits goes on once its puts are written and its sends accepted. -/
def execCoreFenceRelease (core : CoreId) (s : State) : Out :=
  let c := s.core core.toNat
  .next (if c.block = .fence ∧ coreFenceClear c = true then s.setCore core.toNat (coreNext { c with block := .no }) else s)

/-- R140: a blocked recv or recv.t takes its entry. -/
def execRecvSatisfied (core : CoreId) (s : State) : Out :=
  let c := s.core core.toNat
  .next (match c.block with
    | .recv vd ce => (match c.rx with
      | [] => s
      | e :: es => s.setCore core.toNat (coreNext (takeEntry { c with rx := es, block := .no } e vd ce)))
    | .recvT tag vd ce => (match c.rx.find? (rxTagged tag) with
      | none => s
      | some e => s.setCore core.toNat
          (coreNext (takeEntry { c with rx := removeFirst (rxTagged tag) c.rx, block := .no } e vd ce)))
    | _ => s)

/-- R293: a core's blocked wait is satisfied. -/
def coreWaitDone (id : Nat) (s : State) : State :=
  let c := s.core id
  match c.block with
  | .wait k thr =>
    if thr ≤ (c.kget k).toNat then
      s.setCore id (coreNext { c.kset k (c.kget k - BitVec.ofNat 16 thr) with block := .no })
    else s
  | _ => s

/-- Source and destination of a message, with its class (R138). -/
def meshRoute : MeshMsg → Nat × Nat × Nat
  | .send s d _ _ => (s, d, 0)
  | .put s d _ _ _ _ => (s, d, 1)
  | .getReq s d _ _ _ _ => (s, d, 1)
  | .getReply s d _ _ _ _ _ => (s, d, 2)
  | .sendAck s d _ _ => (s, d, 2)
  | .refusal s d _ _ => (s, d, 2)

/-- R132: whether message n of the mesh may arrive now: messages of the put and get class, and the replies of gets, keep
their order between one sender and one target. -/
def meshInOrder (ms : List MeshMsg) (n : Nat) : Bool :=
  match ms.drop n with
  | [] => false
  | m :: _ => (meshRoute m).2.2 == 0 || (ms.take n).all (fun x => meshRoute x != meshRoute m)

/-- Message n of the mesh when it may arrive, and the mesh without it. -/
def State.meshTake (s : State) (n : Nat) : Option (MeshMsg × State) :=
  if meshInOrder s.mesh n then
    match s.mesh.drop n with
    | [] => none
    | m :: _ => some (m, { s with mesh := s.mesh.eraseIdx n })
  else none

/-- R138: a send arrives: it enters the queue when fewer than 12 entries are occupied, else it is refused. -/
def execMeshSendArrival (n : Nat) (s : State) : Out :=
  .next (match s.meshTake n with
    | some (.send src dst tag d, t) =>
      let c := t.core dst
      if c.rx.length < 12 then
        (t.setCore dst { c with rx := c.rx ++ [⟨rxHeader tag false src, d⟩] }).inject (.sendAck dst src tag d)
      else t.inject (.refusal dst src tag d)
    | _ => s)

/-- Mark the first waiting send-buffer slot that a reply answers. -/
def markRefused (dst tag : Nat) (d : BitVec 128) : List SendSlot → List SendSlot
  | [] => []
  | x :: xs => if x.target = dst ∧ x.tag = tag ∧ x.data = d ∧ x.waiting = true then { x with waiting := false } :: xs
      else x :: markRefused dst tag d xs

/-- R138: a refusal reaches the sender, which keeps the send. -/
def execMeshSendRefusal (n : Nat) (s : State) : Out :=
  .next (match s.meshTake n with
    | some (.refusal src dst tag d, t) =>
      let c := t.core dst
      t.setCore dst { c with sends := markRefused src tag d c.sends }
    | _ => s)

/-- R138: an acknowledgement reaches the sender and frees the send's slot. -/
def execSendAcknowledgement (n : Nat) (s : State) : Out :=
  .next (match s.meshTake n with
    | some (.sendAck src dst tag d, t) =>
      let c := t.core dst
      t.setCore dst { c with sends := removeFirst (fun x => x.target == src && x.tag == tag && x.data == d && x.waiting) c.sends }
    | _ => s)

/-- R138: a refused send is sent again; a frozen core sends none (R145). -/
def execSendRetry (core : CoreId) (slot : Nat) (s : State) : Out :=
  let c := s.core core.toNat
  .next (match c.sends[slot]? with
    | some x =>
      if x.waiting ∨ c.status = 4 then s
      else (s.setCore core.toNat { c with sends := c.sends.set slot { x with waiting := true } }).inject
        (.send core.toNat x.target x.tag x.data)
    | none => s)

/-- R139, R141: enter a notification, or hold it at the ejection port when all 16 entries are full. -/
def notifyCore (c : CoreState) (tag src : Nat) : CoreState :=
  if c.rx.length < 16 then { c with rx := c.rx ++ [⟨rxHeader tag true src, 0#128⟩] }
  else { c with heldNote := c.heldNote ++ [(tag, src)] }

/-- R139, R291: the completion of a put or get at core id, sent by src. -/
def State.complete (s : State) (id src : Nat) : Completion → State
  | .none => s
  | .counter k => s.addCore id k 1 (sigSrc 5 false src)
  | .notify tag => s.setCore id (notifyCore (s.core id) tag src)

/-- One outstanding put less. -/
def State.putLanded (s : State) (src : Nat) : State :=
  let c := s.core src
  s.setCore src { c with putsOut := c.putsOut - 1 }

/-- R139: a put message is written; after the last one its completion applies. A held notification at the target's port
lets no class-1 message in (R141). -/
def execMeshPutArrival (n : Nat) (s : State) : Out :=
  .next (match s.meshTake n with
    | some (.put src dst off d _ done, t) =>
      if (t.core dst).heldNote ≠ [] then s
      else ((t.store (some (t.coreCtx src)) (slateBase dst + (t.slAlloc (t.coreCtx src)).1 + off) (bytesOf 16 d.toNat)).putLanded
        src).complete dst src done
    | _ => s)

/-- R141: a held notification enters the queue when an entry has freed. -/
def execNotificationRelease (core : CoreId) (s : State) : Out :=
  let c := s.core core.toNat
  .next (match c.heldNote with
    | [] => s
    | (tag, src) :: r =>
      if c.rx.length < 16 then s.setCore core.toNat { c with rx := c.rx ++ [⟨rxHeader tag true src, 0#128⟩], heldNote := r }
      else s)

/-- R139, R236, R136: a get request at the target's shared port: its units return as class-2 replies. A bad word raises
the Flint halt of the target's array and ends the requester's run. -/
def execMeshGetRequest (n : Nat) (s : State) : Out :=
  .next (match s.meshTake n with
    | some (.getReq src dst rem loc len done, t) =>
      if (t.core dst).heldNote ≠ [] then s
      else
        let pa := slateBase dst + (t.slAlloc (t.coreCtx src)).1 + rem
        let t := t.readChecks (some (t.coreCtx src)) pa (16 * len)
        let t := if t.badIn pa (16 * len) then t.corePoison src pa else t
        (List.range len).foldl (fun t i =>
          t.inject (.getReply dst src (loc + 16 * i) (BitVec.ofNat 128 (t.rdLe (pa + 16 * i) 16)) (t.badIn (pa + 16 * i) 16)
            (i + 1 == len) (if i + 1 = len then done else .none))) t
    | _ => s)

/-- R139: a get reply is written to the requester's region; after the last one its completion applies. Data of a bad word
are not written (R136). -/
def execMeshGetReply (n : Nat) (s : State) : Out :=
  .next (match s.meshTake n with
    | some (.getReply src dst off d bad _ done, t) =>
      let c := t.core dst
      let t := t.setCore dst { c with getsOut := c.getsOut - 1 }
      let t := if bad then t else t.store (some (t.coreCtx dst)) (t.slatePa dst off) (bytesOf 16 d.toNat)
      t.complete dst src done
    | _ => s)

/-- R135, R236: the oldest fill or copy of a core completes: a fill writes its value, a copy the source as it stands; words stored since may be
kept. -/
def execSlateFillComplete (core : CoreId) (s : State) : Out :=
  let id := core.toNat
  let c := s.core id
  .next (match c.fills with
    | [] => s
    | f :: fs =>
      let s := s.setCore id { c with fills := fs }
      let ctx := some (s.coreCtx id)
      let done (s : State) : State := match f.signal with
        | some k => s.addCore id k 1 (sigSrc 6 false id)
        | none => s
      let land (s : State) (bs : List Byte) : State :=
        done ((if f.stored = [] then s else s.drawn).store ctx (s.slatePa id f.dst) (s.fillLeaves id f bs))
      match f.copySrc with
      | none => land s ((List.replicate (f.len / 8) (bytesOf 8 f.value.toNat)).flatten)
      | some a =>
        let pa := s.slatePa id a
        let s := s.readChecks ctx pa f.len
        if s.badIn pa f.len then s.corePoison id pa
        else land s (s.rdBytes pa f.len))

end Sys2Proof.Machine
end

