-- ==== Sys2Proof/Machine/FabOps.lean ====
section
/-!
DEFINITION. Window accesses on their way (07_memory R268; 12_host_fabric R421 to R425): transaction packets, sequence
numbers and slots, failures, and writes into host windows (R410, R412).
-/
namespace Sys2Proof.Machine

/-- R421: the header fields of a transaction packet. -/
structure Pkt where
  op : Nat
  flags : Nat
  dest : Nat
  src : Nat
  ctx : Nat
  ctxGen : Nat
  len : Nat
  tag : Nat
  seqStatus : Nat
  waddr : Nat
  poison : Nat
  rlen : Nat
  data : List Byte
  deriving DecidableEq, Repr

/-- R421: the bytes of a packet with its end-to-end CRC. -/
def Pkt.bytes (k : Pkt) : List Byte :=
  let h := bytesOf 28 (k.op + k.flags * 2 ^ 8 + k.dest * 2 ^ 16 + k.src * 2 ^ 32 + k.ctx * 2 ^ 48 + k.ctxGen % 256 * 2 ^ 64
    + k.len * 2 ^ 72 + k.tag * 2 ^ 80 + k.seqStatus * 2 ^ 96 + k.waddr * 2 ^ 128 + k.poison * 2 ^ 192 + k.rlen * 2 ^ 208)
  h ++ bytesOf 4 (crc32c (h ++ bytesOf 4 0 ++ k.data)) ++ k.data

/-- R421: a packet from its bytes, and whether its CRC holds. -/
def pktOf (bs : List Byte) : Pkt × Bool :=
  let h := leAt bs 0 32
  let len := bitsOf h 79 72
  let data := sliceBytes bs 32 (64 * len)
  ({ op := bitsOf h 7 0, flags := bitsOf h 15 8, dest := bitsOf h 31 16, src := bitsOf h 47 32, ctx := bitsOf h 56 48
     ctxGen := bitsOf h 71 64, len := len, tag := bitsOf h 95 80, seqStatus := bitsOf h 127 96, waddr := bitsOf h 191 128
     poison := bitsOf h 207 192, rlen := bitsOf h 215 208, data := data },
   crc32c (sliceBytes bs 0 28 ++ bytesOf 4 0 ++ data) == bitsOf h 255 224)

/-- R421: the window address of an access. -/
def WinAcc.waddr (a : WinAcc) : Nat := a.off % 2 ^ 36 + a.window * 2 ^ 36 + a.array * 2 ^ 42 + a.gen * 2 ^ 46

/-- R250, R421: the 64-byte units of n bytes of data for offset o that hold a word of a poison mask. -/
def unitMask (o n mask : Nat) : Nat :=
  packBits (ceilDiv n 64) (fun i =>
    let w := (64 * i + o % 8) / 8
    (List.range ((64 * i + 63 + o % 8) / 8 - w + 1)).any (fun j => mask.testBit (w + j)))

/-- R250, R421: the words of n bytes of data for offset o that lie in a poisoned 64-byte unit. -/
def wordMask (o n units : Nat) : Nat :=
  packBits ((o % 8 + n + 7) / 8) (fun j => units.testBit ((8 * j - o % 8) / 64) || units.testBit (Nat.min (n - 1) (8 * j + 7 - o % 8) / 64))

/-- R421: the request packet of a transaction. -/
def FabTxn.packet (t : FabTxn) (own : Nat) : Pkt :=
  let a := t.acc
  let units := ceilDiv a.size 64
  { op := if a.write then 1 else 2, flags := b2n (decide (0 < t.tries)), dest := a.node, src := own, ctx := a.ctx
    ctxGen := t.ctxGen, len := if a.write then units else 0, tag := t.slot + t.gen % 8 * 8192
    seqStatus := if a.write then t.seqno else 0, waddr := a.waddr, poison := if a.write then unitMask a.off a.size a.poison else 0
    rlen := if a.write then 0 else units, data := if a.write then sliceBytes a.data 0 (64 * units) else [] }

/-- R444: outstanding requests of a port, and their peak. -/
def State.portOut (s : State) (f : Nat) : State :=
  let n := (s.fab.txns.filter (fun t => t.port == f)).length
  let s := s.setFld (rFabPortOut f) 13 0 n
  if s.fld (rFabPortOut f) 29 16 < n then s.setFld (rFabPortOut f) 29 16 n else s

/-- R442: the transaction event payload. -/
def txnPayload (port : Nat) (t : FabTxn) : Nat :=
  fabPayload port 0 t.acc.node t.seqno (t.slot + t.gen % 8 * 8192) (t.acc.window + t.acc.array * 64) 1

/-- An access leaves the device's list, whatever its end; an error is remembered for its transfer. -/
def State.winDone (s : State) (a : WinAcc) (err : Bool) : State :=
  { s with memst := { s.memst with winq := removeFirst (fun x => x == a) s.memst.winq }
           fab := { s.fab with errs := if err then (s.fab.errs ++ [(a.p, a.seq)]).eraseDups else s.fab.errs } }

/-- R425: a transaction finally fails: code 0x07 timeout, 0x08 link lost, 0x0C unroutable. -/
def State.txnFail (s : State) (t : FabTxn) (code : Nat) : State :=
  let s := { s with fab := { s.fab with txns := s.fab.txns.filter (fun x => x.slot != t.slot) } }
  let s := (s.winDone t.acc true).portOut t.port
  let s := s.bump (if code = 7 then rFabTimeouts else if code = 8 then rFabLinklost else rFabUnroutable) 1
  let s := s.postCtx t.acc.ctx 0x06 code 2 (s.portSource t.port) (txnPayload t.port t)
  s.ctxFault t.acc.ctx 0x06 code

/-- The lowest transaction slot that is free. -/
def State.freeTxn (s : State) : Option Nat := (List.range 8192).find? (fun k => !s.fab.txns.any (fun t => t.slot == k))

/-- R361: digest records carry sequence marks from here on. -/
def digestSeq : Nat := 2 ^ 40

/-- R363: whether a diverged context's write to a gated peer is held. -/
def State.gateHeld (s : State) (a : WinAcc) : Bool :=
  let n (x : Nat) : Nat := if x = s.ownNode then 0 else x
  a.write && decide (a.seq < digestSeq) && a.src.isNone
    && ((tblFind s.integ.steps a.ctx).getD StepState.reset).gated.any (fun g => n g == n a.node)

/-- R361, R371: a digest payload. -/
def digestPayload (step w peerW node ctx replays : Nat) : Nat :=
  payloadOf [(16, 8, step), (24, 8, w), (32, 8, peerW), (40, 2, node), (42, 2, ctx), (44, 1, replays)]

/-- R361: the refusal of a digest record also posts class 0x05 code 0x0B. -/
def State.digestRefused (s : State) (a : WinAcc) : State :=
  if a.seq < digestSeq ∨ a.src.isSome then s
  else s.postCtx a.ctx 0x05 0x0B 0 (srcOf 7 0) (digestPayload (leAt a.data 0 4) (leAt a.data 8 8) 0 a.node 0 0)

/-- R422, R423: send a request for an access to another device; it waits where the port's or the pair's bound is met. -/
def State.fabIssue (s : State) (a : WinAcc) : State :=
  if s.gateHeld a then s else
  let node := a.node
  let pair := (s.fab.txns.filter (fun t => t.acc.write && t.acc.ctx == a.ctx && t.acc.node == node)).length
  match s.freeTxn with
  | none => s
  | some k =>
    let key := a.ctx * 65536 + node
    let n := tblGet 0 s.fab.seqs key
    let g := (tblGet 0 s.fab.slotGens k + 1) % 8
    match s.routeTo node with
    | none => s.txnFail ⟨k, g, a, n, s.ctxGen a.ctx, 0, none, 0, 0⟩ 0x0C
    | some f =>
      if (a.write ∧ 1024 ≤ pair) ∨ 8192 ≤ (s.fab.txns.filter (fun t => t.port == f)).length then s
      else
        let t : FabTxn := ⟨k, g, a, n, s.ctxGen a.ctx, f, none, 0, s.fld (rBrpAryGen a.p) 7 0⟩
        let s := { s with fab := { s.fab with
          txns := s.fab.txns ++ [t]
          slotGens := tblPut s.fab.slotGens k g
          seqs := if a.write then tblPut s.fab.seqs key ((n + 1) % 2 ^ 32) else s.fab.seqs } }
        (s.portSend f 0 (s.schedQueue f a.ctx node) (some k) (t.packet s.ownNode).bytes).portOut f

/-- Whether an access goes to another device. -/
def State.isRemote (s : State) (a : WinAcc) : Bool := a.src.isNone && a.node != 0 && a.node != s.ownNode

/-- Requests that wait are sent while they may be. -/
def State.fabPump (s : State) : State :=
  (s.memst.winq.filter (fun a => s.isRemote a && !s.fab.txns.any (fun t => t.acc == a))).foldl State.fabIssue s

/-- R268: send an access through an aperture entry; a write carries its bytes and its poison mask. -/
def State.sendWindow (s : State) (p seq ctx va pa : Nat) (write : Bool) (bs : List Byte) (poison size : Nat) : State :=
  match s.place pa with
  | .aperture e o =>
    let x := s.aperture (some p) ctx e
    let acc : WinAcc :=
      { p := p, seq := seq, ctx := ctx, node := bitsOf x 15 0, array := bitsOf x 19 16, window := bitsOf x 25 20
        gen := bitsOf x 41 26, off := o, write := write, data := bs, poison := poison, size := size, pa := pa, admitted := false, va := va
        src := none, tag := 0, seqno := 0, ctxGen := s.ctxGen ctx }
    let s := { s with memst := { s.memst with winq := s.memst.winq ++ [acc] } }
    if s.isRemote acc then s.fabIssue acc else s
  | _ => s

/-- R422: a range cut into accesses of at most 1,024 bytes. -/
def winPieces (pa n : Nat) : List (Nat × Nat) :=
  (List.range (ceilDiv n 1024)).map (fun i => (pa + 1024 * i, Nat.min 1024 (n - 1024 * i)))

/-- sendWindow for a range of any length. -/
def State.sendWindows (s : State) (p seq ctx va pa : Nat) (write : Bool) (bs : List Byte) (bad : Bool) (size : Nat) : State :=
  (winPieces pa size).foldl (fun s r =>
    s.sendWindow p seq ctx (va + (r.1 - pa)) r.1 write (if write then (bs.drop (r.1 - pa)).take r.2 else [])
      (if bad then 2 ^ ((r.1 % 8 + r.2 + 7) / 8) - 1 else 0) r.2) s

/-- R243, R265, R269: a refusal reaches the sender of an access of this device: an event of its unit for a held range (class 0x02), else a window
event. -/
def State.refusedAt (s : State) (a : WinAcc) (pl cls code : Nat) (here : Bool) : State :=
  if !here then s
  else if cls = 0x02 then
    let m := s.arr a.p
    let unit := if a.seq = 0 then 1 else if m.dmas.any (fun e => e.seq == a.seq) then 7 else if m.tiles.any (fun t => t.seq == a.seq) then 4
      else 6
    s.postCtx a.ctx cls code 2 (s.unitSource unit a.p)
      (payloadOf [(16, 1, unit), (17, 1, 1), (18, 1, 0xFF), (19, 1, (s.logOf a.p).getD 0xFF), (24, 8, a.va), (32, 8, a.pa)])
  else s.postCtx a.ctx cls code 2 (srcOf 1 a.p) pl

/-- The window accesses in flight that an entry of an array sent. -/
def State.windowsOf (s : State) (p seq : Nat) : List WinAcc :=
  s.memst.winq.filter (fun x => x.src.isNone && x.p == p && x.seq == seq)

/-- R411, R412, R272: a write into a host window leaves through its port; poisoned data set EP and are reported. -/
def State.hostWrite (s : State) (ctx va : Nat) (off : Nat) (bs : List Byte) (bad : Bool) : State :=
  let h := off / 0x40000000000
  let s := s.hostOut ctx h va true (1 :: b2n bad :: off % 0x40000000000 :: bs.map BitVec.toNat)
  let s := s.bump64 (rHstTx h) bs.length
  if bad then
    (s.bump (rHstPoisonTx h) 1).post (some ctx) true 0x01 0x31 2 (s.hostSource h)
      (payloadOf [(16, 8, 0xE00000000000 + off), (24, 1, 0xFF), (25, 1, 4), (28, 4, 1)])
  else s

end Sys2Proof.Machine
end

