-- ==== Sys2Proof/Machine/Operands.lean ====
section
/-!
DEFINITION. Operand forms: tensor descriptors (06_control_isa R199 to R202), where their elements lie (R200, R78), actual
lengths (R162), the translated byte ranges an operand touches, and reading and writing elements.
-/
namespace Sys2Proof.Machine

/-- R199: the fields of a tensor descriptor. -/
structure Desc where
  base : Nat
  code : Nat
  layout : Nat
  mxAxis : Nat
  alForm : Nat
  ext : List Nat
  stride : List Int
  len0 : Nat
  len1 : Nat
  off : Int
  table : Nat
  deriving DecidableEq, Repr

/-- R199: a descriptor from its 512 bits. -/
def descOf (b : BitVec 512) : Desc :=
  let v := b.toNat
  { base := bitsOf v 47 0
    code := bitsOf v 52 48
    layout := bitsOf v 54 53
    mxAxis := bitsOf v 57 55
    alForm := bitsOf v 59 58
    ext := (List.range 5).map (fun i => bitsOf v (95 + 32 * i) (64 + 32 * i))
    stride := (List.range 5).map (fun i => toSigned 40 (bitsOf v (263 + 40 * i) (224 + 40 * i)))
    len0 := bitsOf v 447 424
    len1 := bitsOf v 471 448
    off := toSigned 32 (bitsOf v 503 472)
    table := bitsOf v 471 424 }

/-- R202: the bits a field selector of dset and dget names, and whether dget sign-extends it. -/
def descField : Nat → Option (Nat × Nat × Bool)
  | 0x000 => some (47, 0, false)
  | 0x001 => some (59, 48, false)
  | 0x020 => some (447, 424, false)
  | 0x021 => some (471, 448, false)
  | 0x022 => some (503, 472, true)
  | 0x023 => some (471, 424, false)
  | f =>
    if 0x010 ≤ f ∧ f ≤ 0x014 then some (95 + 32 * (f - 0x010), 64 + 32 * (f - 0x010), false)
    else if 0x018 ≤ f ∧ f ≤ 0x01C then some (263 + 40 * (f - 0x018), 224 + 40 * (f - 0x018), true)
    else none

/-- The extent of dimension i. -/
def Desc.extOf (d : Desc) (i : Nat) : Nat := nth 1 d.ext i

/-- The format a descriptor names. -/
def Desc.fmt (d : Desc) : Option Fmt := fmtOfCode d.code

/-- R201: the detail of the first descriptor fault; none when the descriptor is well formed. A reserved format code is a
format fault, not one of these. -/
def Desc.fault (d : Desc) : Option Nat :=
  let mx : Bool := match d.fmt with | some f => fmtMx f | none => false
  let packed : Bool := match d.fmt with | some f => fmtBits f == 4 && !fmtMx f | none => false
  if d.ext.any (fun e => e == 0) then some 1
  else if 2 ≤ d.layout then some 2
  else if d.layout = 0 ∧ (d.mxAxis = 5 ∨ d.mxAxis = 6) then some 2
  else if d.layout = 0 ∧ mx = true ∧ d.mxAxis = 7 then some 2
  else if d.layout = 0 ∧ mx = false ∧ d.mxAxis ≠ 7 then some 2
  else if d.layout = 0 ∧ packed = true ∧ nth 0 d.stride 0 ≠ 0 then some 3
  else if d.alForm = 2 ∧ d.table % 8 ≠ 0 then some 4
  else none

/-- Where an element lies: the first byte of what holds it, how many bytes, its bits in them, and its scale byte. -/
structure ElemLoc where
  addr : Nat
  bytes : Nat
  bit : Nat
  width : Nat
  scale : Option Nat
  deriving DecidableEq, Repr

/-- A virtual address from a base and a signed byte offset, modulo 2^48. -/
def vaAdd (base : Nat) (o : Int) : Nat := wrapInt 48 ((base : Int) + o)

/-- R200: Σ i_d × stride_d over the dimensions other than the one left out. -/
def Desc.lineOff (d : Desc) (skip : Nat) (ix : List Nat) : Int :=
  ((List.range 5).filter (fun i => i != skip)).foldl (fun a i => a + ((nth 0 ix i : Nat) : Int) * nth 0 d.stride i) 0

/-- R200: the place of an element in the strided layout. -/
def Desc.loc (d : Desc) (f : Fmt) (ix : List Nat) : ElemLoc :=
  let w := fmtBits f
  if fmtMx f then
    let ia := nth 0 ix d.mxAxis
    let blk := vaAdd d.base (d.lineOff d.mxAxis ix + ((ia / 32 : Nat) : Int) * nth 0 d.stride d.mxAxis)
    let j := ia % 32
    let sc := some (vaAdd blk (4 * w : Nat))
    if w = 4 then ⟨vaAdd blk (j / 2 : Nat), 1, 4 * (j % 2), 4, sc⟩
    else if w = 6 then ⟨vaAdd blk (3 * (j / 4) : Nat), 3, 6 * (j % 4), 6, sc⟩
    else ⟨vaAdd blk (j : Nat), 1, 0, 8, sc⟩
  else if w = 4 then
    let i0 := nth 0 ix 0
    ⟨vaAdd d.base (d.lineOff 0 ix + ((i0 / 2 : Nat) : Int)), 1, 4 * (i0 % 2), 4, none⟩
  else ⟨vaAdd d.base (d.lineOff 5 ix), w / 8, 0, w, none⟩

/-- R75, R76: the chunk width of a stationary format. -/
def kappa (f : Fmt) : Nat :=
  match fmtGroup f with
  | .g4 => 32
  | .g8 => 16
  | _ => 8

/-- R78: the place of element (k, n) of a block in stationary layout. -/
def statLoc (base : Nat) (f : Fmt) (k n : Nat) : ElemLoc :=
  let kp := kappa f
  match f with
  | .fp32 => ⟨vaAdd base ((k / 8 * 8192 + n * 32 + k % 8 * 4 : Nat) : Int), 4, 0, 32, none⟩
  | _ =>
    let b := if fmtBits f = 6 then 8 else fmtBits f
    let a := vaAdd base ((k / kp * 4096 + n * 16 + k % kp * b / 8 : Nat) : Int)
    let sc := if fmtMx f then some (vaAdd base ((1048576 + k / 32 * 256 + n : Nat) : Int)) else none
    if b = 4 then ⟨a, 1, 4 * (k % kp % 2), 4, sc⟩
    else ⟨a, b / 8, 0, fmtBits f, sc⟩

/-- R78, R90: the scale byte of element (k, n) in a scale region that begins at va. -/
def scaleAt (va k n : Nat) : Nat := vaAdd va ((k / 32 * 256 + n : Nat) : Int)

/-- The byte ranges an element touches. -/
def ElemLoc.ranges (l : ElemLoc) : List (Nat × Nat) :=
  (l.addr, l.bytes) :: (match l.scale with | some a => [(a, 1)] | none => [])

/-- Every index tuple of an iteration space, dimension 0 fastest. -/
def indices : List Nat → List (List Nat)
  | [] => [[]]
  | e :: es => (indices es).flatMap (fun t => (List.range e).map (fun i => i :: t))

/-- A range cut at 4 KiB page boundaries. -/
def vaPieces (va n : Nat) : List (Nat × Nat) :=
  if n = 0 then []
  else (List.range ((va + n - 1) / 4096 - va / 4096 + 1)).map (fun i =>
    let lo := Nat.max va ((va / 4096 + i) * 4096)
    let hi := Nat.min (va + n) ((va / 4096 + i + 1) * 4096)
    (lo, hi - lo))

/-- The first access of a list of ranges that does not translate: its address and the outcome. -/
def State.firstFault (s : State) (acc : Accessor) (rs : List (Nat × Nat)) : Option (Nat × Tr) :=
  ((rs.flatMap (fun r => vaPieces r.1 r.2)).map (fun r => (r.1, s.accessN acc r.1 r.2))).find? (fun t =>
    match t.2 with | .ok _ => false | _ => true)

/-- R33, R34: a translation by a feed or a bank of array p, which reach the array's own edge store alone: anything else is refused as an
address outside what the unit may reach (notes/assumptions/105). -/
def State.edgeAccess (s : State) (p : Nat) (acc : Accessor) (va n : Nat) : Tr :=
  match s.accessN acc va n with
  | .ok pa => (match s.place pa with
    | .edge m _ => if s.physOf m == some p then .ok pa else .fault 0x07 0xFF pa 0
    | _ => .fault 0x07 0xFF pa 0)
  | f => f

/-- The first access of a list of ranges by a feed or a bank of array p that is refused. -/
def State.firstEdgeFault (s : State) (p : Nat) (acc : Accessor) (rs : List (Nat × Nat)) : Option (Nat × Tr) :=
  ((rs.flatMap (fun r => vaPieces r.1 r.2)).map (fun r => (r.1, s.edgeAccess p acc r.1 r.2))).find? (fun t =>
    match t.2 with | .ok _ => false | _ => true)

/-- The physical ranges of a list of virtual ranges; a piece that does not translate is left out. -/
def State.physRanges (s : State) (acc : Accessor) (rs : List (Nat × Nat)) : List (Nat × Nat) :=
  (rs.flatMap (fun r => vaPieces r.1 r.2)).filterMap (fun r =>
    match s.accessN acc r.1 r.2 with | .ok pa => some (pa, r.2) | _ => none)

/-- n bytes at a physical address as an accessor reads them: an aperture address gives what its window returned. -/
def State.rdPhys (s : State) (ctx pa n : Nat) : List Byte :=
  match s.place pa with
  | .aperture .. => (List.range n).map (fun i => tblGet 0#8 s.memst.winData (ctx * 2 ^ 48 + pa + i))
  | _ => s.rdBytes pa n

/-- The bytes of a virtual range. -/
def State.peek (s : State) (acc : Accessor) (va n : Nat) : List Byte :=
  (s.physRanges acc [(va, n)]).flatMap (fun r => s.rdPhys acc.ctx r.1 r.2)

/-- The code and scale of an element as memory holds them. -/
def State.peekElem (s : State) (acc : Accessor) (l : ElemLoc) : Nat × Nat :=
  (bitsOf (ofBytes (s.peek acc l.addr l.bytes)) (l.bit + l.width - 1) l.bit,
   match l.scale with | some a => ofBytes (s.peek acc a 1) | none => 127)

/-- The value of an element with its scale (R43). -/
def elemVal (f : Fmt) (c : Nat × Nat) : FVal :=
  if fmtMx f then scaleElem (decodeElem f c.1) c.2 else decodeElem f c.1

/-- R236, R241: the check effects of reading physical ranges. -/
def State.readRanges (s : State) (ctx : Option Nat) (rs : List (Nat × Nat)) : State :=
  rs.foldl (fun s r => s.readChecks ctx r.1 r.2) s

/-- The first bad word of physical ranges: the range it lies in. -/
def State.firstBad (s : State) (rs : List (Nat × Nat)) : Option Nat :=
  (rs.find? (fun r => s.badIn r.1 r.2)).map Prod.fst

/-- Physical ranges as regions. -/
def regionsOf (rs : List (Nat × Nat)) : List Region := rs.map (fun r => ⟨r.1, r.2⟩)

/-- R162: the lengths (L0, L1) that apply to a row with dimension-1 index i1 in outer block j. -/
def State.actualLen (s : State) (acc : Accessor) (d : Desc) (j i1 : Nat) : Nat × Nat :=
  let e0 := d.extOf 0
  let e1 := d.extOf 1
  let p0 := if d.len0 = 0xFFFFFF then e0 else Nat.min d.len0 e0
  let p1 := if d.len1 = 0xFFFFFF then e1 else Nat.min d.len1 e1
  match d.alForm with
  | 0 => (e0, e1)
  | 1 => (p0, p1)
  | 2 =>
    let b := s.peek acc (vaAdd d.table ((8 * j : Nat) : Int)) 8
    (Nat.min (leAt b 0 4) e0, Nat.min (leAt b 4 4) e1)
  | _ =>
    let x : Int := d.off + (i1 : Int) + 1
    (Nat.min p0 (if x < 0 then 0 else x.toNat), p1)

/-- The byte ranges of the length table that outer block j reads. -/
def Desc.tableRange (d : Desc) (j : Nat) : List (Nat × Nat) :=
  if d.alForm = 2 then [(vaAdd d.table ((8 * j : Nat) : Int), 8)] else []

/-- R200: the bytes that storing element codes writes. Sub-byte elements keep the rest of their byte: old gives the bytes
there now. -/
def storeElem (old : List Byte) (l : ElemLoc) (code : Nat) : List Byte :=
  bytesOf l.bytes (setBits (ofBytes old) (l.bit + l.width - 1) l.bit code)

/-- Write bytes at a virtual address that translates. -/
def State.poke (s : State) (acc : Accessor) (ctx : Option Nat) (va : Nat) (bs : List Byte) : State :=
  ((vaPieces va bs.length).foldl (fun (st : State × List Byte) r =>
    match st.1.accessN acc r.1 r.2 with
    | .ok pa => (st.1.store ctx pa (st.2.take r.2), st.2.drop r.2)
    | _ => (st.1, st.2.drop r.2)) (s, bs)).1

/-- Write one element's code, and its scale where it has one. -/
def State.pokeElem (s : State) (acc : Accessor) (ctx : Option Nat) (l : ElemLoc) (code scale : Nat) : State :=
  let s := s.poke acc ctx l.addr (storeElem (s.peek acc l.addr l.bytes) l code)
  match l.scale with
  | some a => s.poke acc ctx a (bytesOf 1 scale)
  | none => s

/-- Every byte range of a strided tensor. -/
def Desc.ranges (d : Desc) (f : Fmt) : List (Nat × Nat) := (indices d.ext).flatMap (fun ix => (d.loc f ix).ranges)

/-- The accessor of a unit of a physical array working for a context. -/
def State.unitAcc (s : State) (p ctx : Nat) (k : AccKind) : Accessor := ⟨ctx, s.logOf p, k, 2⟩

/-- The accessor of an array's controller (R262). -/
def State.ctrlAcc (s : State) (p ctx : Nat) (k : AccKind) : Accessor := ⟨ctx, s.logOf p, k, 0⟩

/-- The accessor of an array's vector engine (R262). -/
def State.vecAcc (s : State) (p ctx : Nat) (k : AccKind) : Accessor := ⟨ctx, s.logOf p, k, 1⟩

/-- Stall a unit on the access that faulted. -/
def State.stallTr (s : State) (ctx unit p va : Nat) (k : AccKind) : Tr → State
  | .ok _ => s
  | .fault code level entry epa => s.stallUnit ctx unit p va k code level entry epa

end Sys2Proof.Machine
end

