-- ==== Sys2Proof/Machine/CtrlOps.lean ====
section
/-!
DEFINITION. How an array controller fetches, issues and retires (06_control_isa R189 to R194), its registers, data cache
and store buffer (R196 to R198), window accesses it or its engines send (07_memory R268), and entering a queue (R224,
R225).
-/
namespace Sys2Proof.Machine

/-- R189: scalar register i; s0 reads 0. -/
def Ctrl.sget (c : Ctrl) (i : Nat) : Nat := if i = 0 then 0 else (tblGet 0#64 c.sregs i).toNat

/-- Write scalar register i; a write to s0 is discarded. -/
def Ctrl.sput (c : Ctrl) (i v : Nat) : Ctrl :=
  if i = 0 then c else { c with sregs := tblPut c.sregs i (BitVec.ofNat 64 v) }

/-- Predicate i; p0 reads 1. -/
def Ctrl.pget (c : Ctrl) (i : Nat) : Bool := if i = 0 then true else c.preds.toNat.testBit i

/-- Write predicate i; a write to p0 is discarded. -/
def Ctrl.pput (c : Ctrl) (i : Nat) (b : Bool) : Ctrl :=
  if i = 0 then c else { c with preds := BitVec.ofNat 8 (setBits c.preds.toNat i i (b2n b)) }

/-- Descriptor register i. -/
def Ctrl.dget (c : Ctrl) (i : Nat) : BitVec 512 := tblGet 0#512 c.dregs i

/-- Write descriptor register i. -/
def Ctrl.dput (c : Ctrl) (i : Nat) (v : BitVec 512) : Ctrl := { c with dregs := tblPut c.dregs i v }

/-- Base format fields. -/
def sD (w : Word) : Nat := bitsOf w.toNat 25 21
/-- srcA. -/
def sA (w : Word) : Nat := bitsOf w.toNat 20 16
/-- srcB. -/
def sB (w : Word) : Nat := bitsOf w.toNat 15 11
/-- fn or imm11. -/
def sFn (w : Word) : Nat := bitsOf w.toNat 10 0
/-- imm11, sign-extended to 64 bits. -/
def sImm (w : Word) : Nat := signExt 11 64 (bitsOf w.toNat 10 0)

/-- A line put into a cache of 64 sets, the oldest of its set leaving when the set is full. -/
def cachePut (ways line : Nat) (bs : List Byte) (c : List (Nat × List Byte)) : List (Nat × List Byte) :=
  let c := c.filter (fun e => e.1 != line)
  let same := c.filter (fun e => e.1 % 64 == line % 64)
  let c := if ways ≤ same.length then
      (match same.reverse with | e :: _ => c.filter (fun x => x.1 != e.1) | [] => c)
    else c
  (line, bs) :: c

/-- The bytes of a cached line. -/
def cacheGet (line : Nat) (c : List (Nat × List Byte)) : Option (List Byte) := (c.find? (fun e => e.1 == line)).map Prod.snd

/-- R197: the data cache is flash-invalidated. -/
def Ctrl.dropData (c : Ctrl) : Ctrl := { c with dcache := [] }

/-- What reading a word for the controller gives: bytes, a fault detail, a translation fault, or a wait. -/
inductive CtrlRead where
  | ok (bs : List Byte) (s : State)
  | bad (detail addr : Nat) (s : State)
  | tr (t : Tr)
  | wait
  deriving DecidableEq, Repr

/-- R192: the line that holds an instruction address, through the instruction cache. -/
def State.fetchLine (s : State) (p line : Nat) : CtrlRead :=
  let c := (s.arr p).ctrl
  match cacheGet line c.icache with
  | some bs => .ok bs s
  | none =>
    match s.access (s.ctrlAcc p c.ctx .fetch) (line * 64) with
    | .fault code level entry epa =>
      if code = 7 then .bad 2 entry s else .tr (.fault code level entry epa)
    | .ok pa =>
      match s.place pa with
      | .hbm | .host _ =>
        let s := s.readChecks (some c.ctx) pa 64
        if s.badIn pa 64 then .bad 3 pa s
        else
          let bs := s.rdBytes pa 64
          .ok bs (s.modCtrl p (fun c => { c with icache := cachePut 2 line bs c.icache }))
      | _ => .bad 2 pa s

/-- R192: the instruction word at an address. -/
def State.fetchWord (s : State) (p va : Nat) : CtrlRead :=
  match s.fetchLine p (va / 64) with
  | .ok bs s => .ok (sliceBytes bs (va % 64) 4) s
  | r => r

/-- Whether a controller issues instructions: it runs, it waits for nothing, it is not inside attn, it has not ended, its array is not halted. -/
def State.ctrlIssues (s : State) (p : Nat) : Bool :=
  let a := s.arr p
  decide (a.ctrl.state = 1) && decide (a.ctrl.blocked = .no) && a.ctrl.attn.isNone && !a.ctrl.ended && a.runs

/-- R194: the majors that name an instruction. -/
def majorKnown (m : Nat) : Bool := decide (m ≤ 0x22) || (decide (0x38 ≤ m) && decide (m ≤ 0x3E))

/-- R265: the controller stalls on a translation fault of unit 0 (fetch) or 1 (data). -/
def State.ctrlStall (s : State) (p unit va : Nat) (k : AccKind) (t : Tr) : State :=
  (s.stallTr (s.arr p).ctrl.ctx unit p va k t).modCtrl p (fun c => { c with blocked := .stall (if unit = 0 then 6 else 7) })

/-- R228: the number in the first register field that is out of range (R193). -/
def badField (w range0 : Word) : Nat :=
  let b := (w &&& range0).toNat
  if 2 ^ 21 ≤ b then sD w else if 2 ^ 16 ≤ b then sA w else sB w

/-- R191 to R193: a controller issues an instruction. The words must be those that its program counter names. known says
whether some instruction has this word; range0 are register-field bits that must be 0 (detail 4), must0 the other bits
that must be 0 (detail 3). -/
def ctrlGate (p : ArrayId) (w0 : Word) (w1 : Option Word) (known : Word → Bool) (mask mtch range0 must0 : Nat) (s : State)
    (k : State → State) : State :=
  let p := p.val
  if !s.ctrlIssues p then s
  else
    let pc := (s.arr p).ctrl.pc.toNat
    let x := w1.getD 0#32
    if pc % 4 ≠ 0 then s.issueFault p 0x81 1 w0 x 0xFF 0 pc
    else match s.fetchWord p pc with
      | .tr t => s.ctrlStall p 0 (pc / 64 * 64) .fetch t
      | .bad d a s => s.issueFault p 0x81 d w0 x 0xFF 0 a
      | .wait => s
      | .ok bs s =>
        if ofBytes bs ≠ w0.toNat then s
        else if w0.toNat &&& mask ≠ mtch then
          if known w0 then s
          else s.issueFault p 0x80 (if majorKnown (w0.toNat / 2 ^ 26) then 2 else 1) w0 x 0xFF 0 0
        else match w1 with
          | none =>
            if w0.toNat &&& must0 ≠ 0 then s.issueFault p 0x80 3 w0 x 0xFF 0 0
            else if w0.toNat &&& range0 ≠ 0 then s.issueFault p 0x80 4 w0 x (badField w0 range0) 0 0
            else k s
          | some w =>
            match s.fetchWord p (pc + 4) with
            | .tr t => s.ctrlStall p 0 ((pc + 4) / 64 * 64) .fetch t
            | .bad d a s => s.issueFault p 0x81 d w0 w 0xFF 0 a
            | .wait => s
            | .ok bs s =>
              if ofBytes bs ≠ w.toNat then s
              else if w0.toNat &&& must0 ≠ 0 then s.issueFault p 0x80 3 w0 x 0xFF 0 0
              else if w0.toNat &&& range0 ≠ 0 then s.issueFault p 0x80 4 w0 x (badField w0 range0) 0 0
              else k s

/-- An instruction retires: the program counter advances by n bytes, and it is counted. -/
def State.ctrlNext (s : State) (p n : Nat) : State :=
  (s.modCtrl p (fun c => { c with pc := c.pc + BitVec.ofNat 48 n, retired := c.retired + 1, stallQ := 0, recGot := none })).bump64 (rAryAcRetired p) 1

/-- A jump retires. -/
def State.ctrlJump (s : State) (p target : Nat) : State :=
  (s.modCtrl p (fun c => { c with pc := BitVec.ofNat 48 target, retired := c.retired + 1, stallQ := 0, recGot := none })).bump64 (rAryAcRetired p) 1

/-- Change a controller, then retire a base instruction. -/
def State.ctrlSet (s : State) (p : Nat) (f : Ctrl → Ctrl) : State := (s.modCtrl p f).ctrlNext p 4

/-- R257: the leaf entry that maps an address, from the caches or the tables; 0 where the walk finds none. -/
def State.leafEntry (s : State) (va : Nat) : Nat → Nat → Nat
  | table, level =>
    let e := s.rdLe (table + 8 * bitsOf va (12 + 9 * level + 8) (12 + 9 * level)) 8
    if !e.testBit 0 then 0
    else if e.testBit 1 then
      match level with
      | 0 => 0
      | l + 1 => s.leafEntry va (bitsOf e 47 12 * 0x1000) l
    else e

/-- R257: whether the page of an address carries nc. -/
def State.pageNc (s : State) (acc : Accessor) (va : Nat) : Bool :=
  match s.tlbHit acc va with
  | some t => t.leaf.testBit 7
  | none => match s.rootOf acc.ctx with
    | some root => (s.leafEntry va root 3).testBit 7
    | none => false

/-- A write by a unit of array p for a context, translated to an address: a held range refuses it (R243), an aperture sends it to its
window, a host window sends it to its port, and anything else is stored; bad: the data are poisoned. -/
def State.writePa (s : State) (p unit seq ctx va pa : Nat) (d : List Byte) (bad : Bool) : State :=
  match s.place pa with
  | .aperture .. => s.sendWindows p seq ctx va pa true d bad d.length
  | .host off =>
    s.hostWrite ctx va off d bad
  | _ =>
    if s.heldHit pa d.length then s.heldRefuse ctx unit p va pa
    else
      let s := s.store (some ctx) pa d
      if bad then s.poison pa d.length else s

/-- writePa for a range of virtual addresses, by pages. -/
def State.writeVaB (s : State) (p unit seq ctx va : Nat) (bs : List Byte) (bad : Bool) : State :=
  ((vaPieces va bs.length).foldl (fun (st : State × List Byte) r =>
    match st.1.accessN (st.1.unitAcc p ctx .write) r.1 r.2 with
    | .ok pa => (st.1.writePa p unit seq ctx r.1 pa (st.2.take r.2) bad, st.2.drop r.2)
    | _ => (st.1, st.2.drop r.2)) (s, bs)).1

/-- A write of data that are not poisoned. -/
def State.writeVa (s : State) (p unit seq ctx va : Nat) (bs : List Byte) : State := s.writeVaB p unit seq ctx va bs false

/-- R197, R224, R263: posted stores of a controller are performed in order, each where it was translated to. -/
def State.drainStores (s : State) (p : Nat) : State :=
  let c := (s.arr p).ctrl
  let s := s.modCtrl p (fun c => { c with stores := [] })
  c.stores.foldl (fun s x => s.writePa p 1 0 c.ctx x.va x.pa x.data false) s

/-- R197: bytes of a range as the store buffer overlays them. -/
def overlayStores (va : Nat) (bs : List Byte) (ps : List PostedStore) : List Byte :=
  ps.foldl (fun bs x => (List.range bs.length).map (fun i =>
    if x.va ≤ va + i ∧ va + i < x.va + x.data.length then nth 0#8 x.data (va + i - x.va) else nth 0#8 bs i)) bs

/-- R197: whether every store of a controller has been performed, those sent through a window included. -/
def State.storesDone (s : State) (p : Nat) : Bool := (s.arr p).ctrl.stores.isEmpty && (s.windowsOf p 0).all (fun x => !x.write)

/-- R196 to R198: a controller's read of a range that does not cross a cache line. A line that misses is filled as the store buffer
overlays it. -/
def State.ctrlRead (s : State) (p va n : Nat) : CtrlRead :=
  let c := (s.arr p).ctrl
  let acc := s.ctrlAcc p c.ctx .read
  match s.accessN acc va n with
  | .fault code level entry epa => if code = 7 then .bad 2 entry s else .tr (.fault code level entry epa)
  | .ok pa =>
    if s.uncommittedHit pa n then .wait
    else match s.place pa with
      | .hbm | .host _ =>
        if s.pageNc acc va then
          let s := s.readChecks (some c.ctx) pa n
          if s.badIn pa n then .bad 3 pa s else .ok (overlayStores va (s.rdBytes pa n) c.stores) s
        else match cacheGet (va / 64) c.dcache with
          | some bs => .ok (overlayStores va (sliceBytes bs (va % 64) n) c.stores) s
          | none =>
            let la := pa - va % 64
            let s := s.readChecks (some c.ctx) la 64
            if s.badIn la 64 then .bad 3 pa s
            else
              let bs := overlayStores (va / 64 * 64) (s.rdBytes la 64) c.stores
              .ok (sliceBytes bs (va % 64) n)
                (s.modCtrl p (fun c => { c with dcache := cachePut 4 (va / 64) bs c.dcache }))
      | .aperture .. => .wait
      | _ =>
        let s := s.readChecks (some c.ctx) pa n
        if s.badIn pa n then .bad 3 pa s else .ok (overlayStores va (s.rdBytes pa n) c.stores) s

/-- R213, R216, R268: a record that an instruction names, read like a load's data; from a window, once its data have arrived. -/
def State.recordRead (s : State) (p va n : Nat) : CtrlRead :=
  match s.ctrlRead p va n with
  | .wait =>
    let c := (s.arr p).ctrl
    (match s.access (s.ctrlAcc p c.ctx .read) va with
    | .ok pa => (match s.place pa with
      | .aperture .. =>
        if c.recGot ≠ some va then .wait
        else if s.badIn (c.ctx * 2 ^ 48 + pa) n then .bad 3 pa s
        else .ok (s.rdPhys c.ctx pa n) s
      | _ => .wait)
    | _ => .wait)
  | r => r

/-- R268: a record that lies behind a window is asked for, and the controller waits for it. -/
def State.recordAsk (s : State) (p va n : Nat) : State :=
  let c := (s.arr p).ctrl
  match s.access (s.ctrlAcc p c.ctx .read) va with
  | .ok pa => (match s.place pa with
    | .aperture .. => (s.sendWindow p 0 c.ctx va pa false [] 0 n).modCtrl p (fun c => { c with blocked := .record va })
    | _ => s)
  | _ => s

/-- A value loaded into its destination: a scalar register, or a descriptor register. -/
def Ctrl.loaded (c : Ctrl) (desc : Bool) (dest : Nat) (bs : List Byte) : Ctrl :=
  if desc then c.dput dest (BitVec.ofNat 512 (ofBytes bs)) else c.sput dest (ofBytes bs)

/-- R196: perform the load of an instruction at the program counter. again: the access has been sent before. -/
def State.ctrlLoad (s : State) (p : Nat) (w0 : Word) (va size dest : Nat) (desc again : Bool) : State :=
  if va % size ≠ 0 then s.issueFault p 0x87 1 w0 0 0xFF 0 va
  else match s.ctrlRead p va size with
    | .ok bs s => (s.modCtrl p (fun c => { c.loaded desc dest bs with blocked := .no })).ctrlNext p 4
    | .bad d a s => (s.modCtrl p (fun c => { c with blocked := .no })).issueFault p 0x87 d w0 0 0xFF 0 a
    | .tr t => s.ctrlStall p 1 va .read t
    | .wait =>
      let c := (s.arr p).ctrl
      match s.access (s.ctrlAcc p c.ctx .read) va with
      | .ok pa =>
        (match s.place pa with
        | .aperture .. =>
          if again then
            (if s.windowsOf p 0 = [] then
              if s.badIn (c.ctx * 2 ^ 48 + pa) size then (s.modCtrl p (fun c => { c with blocked := .no })).issueFault p 0x87 3 w0 0 0xFF 0 pa else
              (s.modCtrl p (fun c => { c.loaded desc dest (s.rdPhys c.ctx pa size) with blocked := .no })).ctrlNext p 4
            else s)
          else (s.sendWindow p 0 c.ctx va pa false [] 0 size).modCtrl p (fun c => { c with blocked := .loadData va size dest desc })
        | _ => s.modCtrl p (fun c => { c with blocked := .loadData va size dest desc }))
      | _ => s

/-- R225, R231: the instruction at the program counter waits for room: the cause shows until an instruction issues. -/
def State.stallIssue (s : State) (p cause : Nat) : State := s.modCtrl p (fun c => { c with stallQ := cause })

/-- R225: the bound of the store buffer. -/
def storeBound : Nat := 16

/-- R196, R197, R225: post a store; a full store buffer stalls it. -/
def State.ctrlStore (s : State) (p : Nat) (w0 : Word) (va size v : Nat) : State :=
  if va % size ≠ 0 then s.issueFault p 0x87 1 w0 0 0xFF 0 va
  else
    let c := (s.arr p).ctrl
    match s.accessN (s.ctrlAcc p c.ctx .write) va size with
    | .fault code level entry epa =>
      if code = 7 then s.issueFault p 0x87 2 w0 0 0xFF 0 entry
      else s.ctrlStall p 1 va .write (.fault code level entry epa)
    | .ok pa =>
      if storeBound ≤ c.stores.length then s.stallIssue p 7
      else
        let bs := bytesOf size v
        s.ctrlSet p (fun c => { c with
          stores := c.stores ++ [⟨va, pa, bs⟩]
          dcache := c.dcache.map (fun e => if e.1 = va / 64 then (e.1, overlayStores (e.1 * 64) e.2 [⟨va, pa, bs⟩]) else e) })

/-- Entries of a controller's queues: 0 array, 1 vector, 2 DMA. -/
def ArrayState.queue (a : ArrayState) : Nat → List QEntry
  | 0 => a.aq
  | 1 => a.vq
  | _ => a.dq

/-- Replace a queue. -/
def ArrayState.setQueue (a : ArrayState) (q : Nat) (l : List QEntry) : ArrayState :=
  match q with
  | 0 => { a with aq := l }
  | 1 => { a with vq := l }
  | _ => { a with dq := l }

/-- R225: the bound of a queue. -/
def queueBound : Nat → Nat
  | 1 => 16
  | _ => 32

end Sys2Proof.Machine
end

