-- ==== Sys2Proof/Machine/GexaS.lean ====
section
/-!
DEFINITION. The base instructions of Gexa-S that work inside the controller (06_control_isa R195, R202, R222): scalar,
predicate and branch instructions, descriptor fields, and nop.
-/
namespace Sys2Proof.Machine

/-- R193 to R223: the instructions of Gexa-S: the bits of word 0 that name each one, and their values. -/
def ctrlTable : List (Nat × Nat) :=
  [(0xFC0007FF, 0x04000000), (0xFC0007FF, 0x04000001), (0xFC0007FF, 0x04000002), (0xFC0007FF, 0x04000003),
    (0xFC0007FF, 0x04000004), (0xFC0007FF, 0x04000005), (0xFC0007FF, 0x04000006), (0xFC0007FF, 0x04000007),
    (0xFC0007FF, 0x04000008), (0xFC0007FF, 0x04000009), (0xFC0007FF, 0x0400000A), (0xFC0007FF, 0x0400000B),
    (0xFC0007FF, 0x0400000C), (0xFC0007FF, 0x0400000D), (0xFC0007FF, 0x0400000E), (0xFC0007FF, 0x0400000F),
    (0xFC0007FF, 0x04000010), (0xFC0007FF, 0x04000011), (0xFC0007FF, 0x04000012), (0xFC000000, 0x08000000),
    (0xFC000000, 0x0C000000), (0xFC000000, 0x10000000), (0xFC000000, 0x14000000), (0xFC0000C0, 0x18000000)]
  ++ [(0xFC0000C0, 0x18000040), (0xFC0000C0, 0x18000080), (0xFC000000, 0x1C000000), (0xFC000000, 0x20000000),
    (0xFC000700, 0x2C000000), (0xFC000700, 0x2C000100), (0xFC000700, 0x2C000200), (0xFC000700, 0x2C000300),
    (0xFC000700, 0x2C000400), (0xFC000700, 0x2C000500), (0xFC000000, 0x30000000), (0xFC000000, 0x60000000),
    (0xFC0007FF, 0x00000000), (0xFC000000, 0x24000000), (0xFC000000, 0x28000000), (0xFC000000, 0x34000000),
    (0xFC000000, 0x38000000), (0xFC000000, 0x3C000000), (0xFC000000, 0x88000000), (0xFC000000, 0x40000000),
    (0xFC000000, 0x44000000), (0xFC000000, 0x48000000), (0xFC000000, 0x4C000000), (0xFC000000, 0x50000000)]
  ++ [(0xFC000000, 0x54000000), (0xFC000000, 0x58000000), (0xFC000000, 0x5C000000), (0xFC000000, 0x68000000),
    (0xFC000000, 0x6C000000), (0xFC000000, 0x70000000), (0xFC000000, 0x84000000), (0xFC0007FF, 0x74000000),
    (0xFC0007FF, 0x74000001), (0xFC0007FF, 0x74000002), (0xFC000003, 0xF4000000), (0xFC000003, 0xF4000001),
    (0xFC000007, 0x7C000000), (0xFC000007, 0x7C000001), (0xFC000007, 0x7C000002), (0xFC000007, 0x7C000003),
    (0xFC0007FF, 0x00000001), (0xFC0007FF, 0x00000002), (0xFC0007FF, 0x00000003), (0xFC0007FF, 0x00000010),
    (0xFC0007FF, 0x00000011), (0xFC0007FF, 0x00000012), (0xFC0007FF, 0x00000013), (0xFC0007FF, 0x00000015)]
  ++ [(0xFC0007FF, 0x00000016), (0xFC0007FF, 0x00000020), (0xFC000700, 0x78000000), (0xFC000700, 0x78000100),
    (0xFC000700, 0x78000200), (0xFC000700, 0x78000300), (0xFC000700, 0x80000000), (0xFC000700, 0x80000100),
    (0xFC000700, 0x80000200), (0xFC0007FF, 0x64000000), (0xFC0007FF, 0x64000001), (0xFC0007FF, 0x64000002),
    (0xFC0007FF, 0x64000003), (0xFC000000, 0xE4000000), (0xFC000800, 0xE0000000), (0xFC000800, 0xE0000800),
    (0xFC000000, 0xE8000000), (0xFC000000, 0xF8000000), (0xFC000000, 0xEC000000), (0xFC0000E0, 0xF0000000),
    (0xFC0000E0, 0xF0000020), (0xFC0000E0, 0xF0000040), (0xFC0000E0, 0xF0000060)]

/-- The instruction that word 0 names, if R193 to R223 define it. -/
def ctrlKnown (w : Word) : Bool := ctrlTable.any (fun e => w.toNat &&& e.1 == e.2)

/-- A base instruction that changes only the controller's registers. -/
def ctrlInstr (p : ArrayId) (w : Word) (mask mtch range0 must0 : Nat) (body : Word → Ctrl → Ctrl) (s : State) : State :=
  ctrlGate p w none ctrlKnown mask mtch range0 must0 s (fun s => s.ctrlSet p.val (body w))

/-- Two registers. -/
def sBin (f : Nat → Nat → Nat) (w : Word) (c : Ctrl) : Ctrl := c.sput (sD w) (f (c.sget (sA w)) (c.sget (sB w)))

/-- A register and imm11. -/
def sImmOp (f : Nat → Nat → Nat) (w : Word) (c : Ctrl) : Ctrl := c.sput (sD w) (f (c.sget (sA w)) (sImm w))

/-- Shift by fn[5:0]. -/
def sShift (f : Nat → Nat → Nat) (w : Word) (c : Ctrl) : Ctrl :=
  c.sput (sD w) (f (c.sget (sA w)) (bitsOf w.toNat 5 0))

/-- Predicate operation. -/
def sPred (f : Bool → Bool → Bool) (w : Word) (c : Ctrl) : Ctrl := c.pput (sD w) (f (c.pget (sA w)) (c.pget (sB w)))

/-- R195: the conditions of cmp and cmpi, codes 0 to 6; none for a reserved code. -/
def sCond (cond a b : Nat) : Option Bool :=
  match cond with
  | 0 => some (a == b)
  | 1 => some (a != b)
  | 2 => some (decide (toSigned 64 a < toSigned 64 b))
  | 3 => some (decide (toSigned 64 b ≤ toSigned 64 a))
  | 4 => some (decide (a < b))
  | 5 => some (decide (b ≤ a))
  | 6 => some (a &&& b != 0)
  | _ => none

/-- A comparison into a predicate; a reserved condition is an illegal instruction, detail 2. -/
def sCmp (p : Nat) (w : Word) (r : Option Bool) (s : State) : State :=
  match r with
  | some b => s.ctrlSet p (fun c => c.pput (sD w) b)
  | none => s.issueFault p 0x80 2 w 0 0xFF 0 0

/-- Add: sd := sa op sb. -/
def execGexaSAdd (p : ArrayId) (w : Word) (s : State) : Out :=
  .next (ctrlInstr p w 0xFC0007FF 0x04000000 0x00000000 0x00000000 (sBin (fun a b => a + b)) s)

/-- Sub: sd := sa op sb. -/
def execGexaSSub (p : ArrayId) (w : Word) (s : State) : Out :=
  .next (ctrlInstr p w 0xFC0007FF 0x04000001 0x00000000 0x00000000 (sBin (fun a b => a + (2 ^ 64 - b))) s)

/-- And: sd := sa op sb. -/
def execGexaSAnd (p : ArrayId) (w : Word) (s : State) : Out :=
  .next (ctrlInstr p w 0xFC0007FF 0x04000002 0x00000000 0x00000000 (sBin (fun a b => a &&& b)) s)

/-- Or: sd := sa op sb. -/
def execGexaSOr (p : ArrayId) (w : Word) (s : State) : Out :=
  .next (ctrlInstr p w 0xFC0007FF 0x04000003 0x00000000 0x00000000 (sBin (fun a b => a ||| b)) s)

/-- Xor: sd := sa op sb. -/
def execGexaSXor (p : ArrayId) (w : Word) (s : State) : Out :=
  .next (ctrlInstr p w 0xFC0007FF 0x04000004 0x00000000 0x00000000 (sBin (fun a b => a ^^^ b)) s)

/-- Andn: sd := sa op sb. -/
def execGexaSAndn (p : ArrayId) (w : Word) (s : State) : Out :=
  .next (ctrlInstr p w 0xFC0007FF 0x04000005 0x00000000 0x00000000 (sBin (fun a b => a &&& notW 64 b)) s)

/-- Shl: sd := sa op sb. -/
def execGexaSShl (p : ArrayId) (w : Word) (s : State) : Out :=
  .next (ctrlInstr p w 0xFC0007FF 0x04000006 0x00000000 0x00000000 (sBin (fun a b => a <<< (b % 64))) s)

/-- Shr: sd := sa op sb. -/
def execGexaSShr (p : ArrayId) (w : Word) (s : State) : Out :=
  .next (ctrlInstr p w 0xFC0007FF 0x04000007 0x00000000 0x00000000 (sBin (fun a b => a >>> (b % 64))) s)

/-- Sra: sd := sa op sb. -/
def execGexaSSra (p : ArrayId) (w : Word) (s : State) : Out :=
  .next (ctrlInstr p w 0xFC0007FF 0x04000008 0x00000000 0x00000000 (sBin (fun a b => sraW 64 a (b % 64))) s)

/-- Min: sd := sa op sb. -/
def execGexaSMin (p : ArrayId) (w : Word) (s : State) : Out :=
  .next (ctrlInstr p w 0xFC0007FF 0x04000009 0x00000000 0x00000000 (sBin (sMin 64)) s)

/-- Max: sd := sa op sb. -/
def execGexaSMax (p : ArrayId) (w : Word) (s : State) : Out :=
  .next (ctrlInstr p w 0xFC0007FF 0x0400000A 0x00000000 0x00000000 (sBin (sMax 64)) s)

/-- Minu: sd := sa op sb. -/
def execGexaSMinu (p : ArrayId) (w : Word) (s : State) : Out :=
  .next (ctrlInstr p w 0xFC0007FF 0x0400000B 0x00000000 0x00000000 (sBin (Nat.min)) s)

/-- Maxu: sd := sa op sb. -/
def execGexaSMaxu (p : ArrayId) (w : Word) (s : State) : Out :=
  .next (ctrlInstr p w 0xFC0007FF 0x0400000C 0x00000000 0x00000000 (sBin (Nat.max)) s)

/-- Mul: sd := sa op sb. -/
def execGexaSMul (p : ArrayId) (w : Word) (s : State) : Out :=
  .next (ctrlInstr p w 0xFC0007FF 0x0400000D 0x00000000 0x00000000 (sBin (fun a b => a * b)) s)

/-- Mulhu: sd := sa op sb. -/
def execGexaSMulhu (p : ArrayId) (w : Word) (s : State) : Out :=
  .next (ctrlInstr p w 0xFC0007FF 0x0400000E 0x00000000 0x00000000 (sBin (fun a b => a * b / 2 ^ 64)) s)

/-- Divu: sd := sa op sb. -/
def execGexaSDivu (p : ArrayId) (w : Word) (s : State) : Out :=
  .next (ctrlInstr p w 0xFC0007FF 0x0400000F 0x00000000 0x00000000 (sBin (fun a b => if b = 0 then 2 ^ 64 - 1 else a / b)) s)

/-- Remu: sd := sa op sb. -/
def execGexaSRemu (p : ArrayId) (w : Word) (s : State) : Out :=
  .next (ctrlInstr p w 0xFC0007FF 0x04000010 0x00000000 0x00000000 (sBin (fun a b => if b = 0 then a else a % b)) s)

/-- Clz. -/
def execGexaSClz (p : ArrayId) (w : Word) (s : State) : Out :=
  .next (ctrlInstr p w 0xFC0007FF 0x04000011 0x00000000 0x0000F800 (sBin (fun a _ => clz 64 a)) s)

/-- Popc. -/
def execGexaSPopc (p : ArrayId) (w : Word) (s : State) : Out :=
  .next (ctrlInstr p w 0xFC0007FF 0x04000012 0x00000000 0x0000F800 (sBin (fun a _ => popCount 64 a)) s)

/-- Addi: sd := sa op sext(imm11). -/
def execGexaSAddi (p : ArrayId) (w : Word) (s : State) : Out :=
  .next (ctrlInstr p w 0xFC000000 0x08000000 0x00000000 0x0000F800 (sImmOp (fun a b => a + b)) s)

/-- Andi: sd := sa op sext(imm11). -/
def execGexaSAndi (p : ArrayId) (w : Word) (s : State) : Out :=
  .next (ctrlInstr p w 0xFC000000 0x0C000000 0x00000000 0x0000F800 (sImmOp (fun a b => a &&& b)) s)

/-- Ori: sd := sa op sext(imm11). -/
def execGexaSOri (p : ArrayId) (w : Word) (s : State) : Out :=
  .next (ctrlInstr p w 0xFC000000 0x10000000 0x00000000 0x0000F800 (sImmOp (fun a b => a ||| b)) s)

/-- Xori: sd := sa op sext(imm11). -/
def execGexaSXori (p : ArrayId) (w : Word) (s : State) : Out :=
  .next (ctrlInstr p w 0xFC000000 0x14000000 0x00000000 0x0000F800 (sImmOp (fun a b => a ^^^ b)) s)

/-- Shli: shift by fn[5:0]. -/
def execGexaSShli (p : ArrayId) (w : Word) (s : State) : Out :=
  .next (ctrlInstr p w 0xFC0000C0 0x18000000 0x00000000 0x0000FF00 (sShift (fun a b => a <<< b)) s)

/-- Shri: shift by fn[5:0]. -/
def execGexaSShri (p : ArrayId) (w : Word) (s : State) : Out :=
  .next (ctrlInstr p w 0xFC0000C0 0x18000040 0x00000000 0x0000FF00 (sShift (fun a b => a >>> b)) s)

/-- Srai: shift by fn[5:0]. -/
def execGexaSSrai (p : ArrayId) (w : Word) (s : State) : Out :=
  .next (ctrlInstr p w 0xFC0000C0 0x18000080 0x00000000 0x0000FF00 (sShift (fun a b => sraW 64 a b)) s)

/-- Li: sd := sext([20:0]). -/
def execGexaSLi (p : ArrayId) (w : Word) (s : State) : Out :=
  .next (ctrlInstr p w 0xFC000000 0x1C000000 0x00000000 0x00000000 (fun w c => c.sput (sD w) (signExt 21 64 (bitsOf w.toNat 20 0))) s)

/-- Shlor: sd := (sd << 16) or [15:0]. -/
def execShlor (p : ArrayId) (w : Word) (s : State) : Out :=
  .next (ctrlInstr p w 0xFC000000 0x20000000 0x00000000 0x001F0000 (fun w c => c.sput (sD w) (((c.sget (sD w)) <<< 16) ||| bitsOf w.toNat 15 0)) s)

/-- Pand. -/
def execPand (p : ArrayId) (w : Word) (s : State) : Out :=
  .next (ctrlInstr p w 0xFC000700 0x2C000000 0x0318C000 0x000000FF (sPred (fun a b => a && b)) s)

/-- Por. -/
def execPredOr (p : ArrayId) (w : Word) (s : State) : Out :=
  .next (ctrlInstr p w 0xFC000700 0x2C000100 0x0318C000 0x000000FF (sPred (fun a b => a || b)) s)

/-- Pxor. -/
def execPxor (p : ArrayId) (w : Word) (s : State) : Out :=
  .next (ctrlInstr p w 0xFC000700 0x2C000200 0x0318C000 0x000000FF (sPred (fun a b => a != b)) s)

/-- Pandn. -/
def execPandn (p : ArrayId) (w : Word) (s : State) : Out :=
  .next (ctrlInstr p w 0xFC000700 0x2C000300 0x0318C000 0x000000FF (sPred (fun a b => a && !b)) s)

/-- Pnot. -/
def execPnot (p : ArrayId) (w : Word) (s : State) : Out :=
  .next (ctrlInstr p w 0xFC000700 0x2C000400 0x03180000 0x0000F8FF (sPred (fun a _ => !a)) s)

/-- Pnz. -/
def execPnz (p : ArrayId) (w : Word) (s : State) : Out :=
  .next (ctrlInstr p w 0xFC000700 0x2C000500 0x03000000 0x0000F8FF (fun w c => c.pput (sD w) (c.sget (sA w) != 0)) s)

/-- Sel. -/
def execGexaSSel (p : ArrayId) (w : Word) (s : State) : Out :=
  .next (ctrlInstr p w 0xFC000000 0x30000000 0x00000000 0x000007F8 (fun w c => c.sput (sD w) (if c.pget (bitsOf w.toNat 2 0) then c.sget (sA w) else c.sget (sB w))) s)

/-- Dadv: dd.base := dd.base + sa + sext(imm11), modulo 2^48. -/
def execDadv (p : ArrayId) (w : Word) (s : State) : Out :=
  .next (ctrlInstr p w 0xFC000000 0x60000000 0x02000000 0x0000F800 (fun w c => c.dput (sD w) (BitVec.ofNat 512 (setBits (c.dget (sD w)).toNat 47 0 (bitsOf (c.dget (sD w)).toNat 47 0 + c.sget (sA w) + sImm w)))) s)

/-- Nop. -/
def execGexaSNop (p : ArrayId) (w : Word) (s : State) : Out :=
  .next (ctrlInstr p w 0xFC0007FF 0x00000000 0x00000000 0x03FFF800 (fun _ c => c) s)

/-- cmp: pd := sa cond sb. -/
def execCmp (p : ArrayId) (w : Word) (s : State) : Out :=
  .next (ctrlGate p w none ctrlKnown 0xFC000000 0x24000000 0x03000000 0x000007F0 s (fun s =>
    let c := (s.arr p.val).ctrl
    sCmp p.val w (sCond (bitsOf w.toNat 3 0) (c.sget (sA w)) (c.sget (sB w))) s))

/-- cmpi: pd := sa cond sext(fn[7:0]). -/
def execCmpi (p : ArrayId) (w : Word) (s : State) : Out :=
  .next (ctrlGate p w none ctrlKnown 0xFC000000 0x28000000 0x03000000 0x0000F800 s (fun s =>
    let c := (s.arr p.val).ctrl
    sCmp p.val w (sCond (bitsOf w.toNat 10 8) (c.sget (sA w)) (signExt 8 64 (bitsOf w.toNat 7 0))) s))

/-- br: branch when p xor neg. -/
def execBr (p : ArrayId) (w : Word) (s : State) : Out :=
  .next (ctrlGate p w none ctrlKnown 0xFC000000 0x34000000 0x00000000 0x00000000 s (fun s =>
    let c := (s.arr p.val).ctrl
    if c.pget (bitsOf w.toNat 25 23) != w.toNat.testBit 22 then
      s.ctrlJump p.val (wrapInt 48 ((c.pc.toNat : Int) + 4 * toSigned 22 (bitsOf w.toNat 21 0)))
    else s.ctrlNext p.val 4))

/-- dset: field f of dd := sa, truncated; a selector R202 does not list is a reserved fn. -/
def execDset (p : ArrayId) (w : Word) (s : State) : Out :=
  .next (ctrlGate p w none ctrlKnown 0xFC000000 0x58000000 0x02000000 0x0000F800 s (fun s =>
    match descField (sFn w) with
    | some (hi, lo, _) => s.ctrlSet p.val (fun c => c.dput (sD w) (BitVec.ofNat 512 (setBits (c.dget (sD w)).toNat hi lo (c.sget (sA w)))))
    | none => s.issueFault p.val 0x80 2 w 0 0xFF 0 0))

/-- dget: sd := field f of da; strides and off sign-extended. -/
def execDget (p : ArrayId) (w : Word) (s : State) : Out :=
  .next (ctrlGate p w none ctrlKnown 0xFC000000 0x5C000000 0x00100000 0x0000F800 s (fun s =>
    let c := (s.arr p.val).ctrl
    match descField (sFn w) with
    | some (hi, lo, sg) =>
      let v := bitsOf (c.dget (sA w)).toNat hi lo
      s.ctrlSet p.val (fun c => c.sput (sD w) (if sg then signExt (hi + 1 - lo) 64 v else v))
    | none => s.issueFault p.val 0x80 2 w 0 0xFF 0 0))

/-- ld.d: 64-bit load. -/
def execGexaSLdD (p : ArrayId) (w : Word) (s : State) : Out :=
  .next (ctrlGate p w none ctrlKnown 0xFC000000 0x40000000 0x00000000 0x0000F800 s (fun s =>
    let c := (s.arr p.val).ctrl
    s.ctrlLoad p.val w ((c.sget (sA w) + sImm w) % 2 ^ 64) 8 (sD w) false false))

/-- ld.w: 32-bit load, zero-extended. -/
def execGexaSLdW (p : ArrayId) (w : Word) (s : State) : Out :=
  .next (ctrlGate p w none ctrlKnown 0xFC000000 0x44000000 0x00000000 0x0000F800 s (fun s =>
    let c := (s.arr p.val).ctrl
    s.ctrlLoad p.val w ((c.sget (sA w) + sImm w) % 2 ^ 64) 4 (sD w) false false))

/-- st.d: 64-bit store. -/
def execGexaSStD (p : ArrayId) (w : Word) (s : State) : Out :=
  .next (ctrlGate p w none ctrlKnown 0xFC000000 0x48000000 0x00000000 0x0000F800 s (fun s =>
    let c := (s.arr p.val).ctrl
    s.ctrlStore p.val w ((c.sget (sA w) + sImm w) % 2 ^ 64) 8 (c.sget (sD w))))

/-- st.w: 32-bit store. -/
def execGexaSStW (p : ArrayId) (w : Word) (s : State) : Out :=
  .next (ctrlGate p w none ctrlKnown 0xFC000000 0x4C000000 0x00000000 0x0000F800 s (fun s =>
    let c := (s.arr p.val).ctrl
    s.ctrlStore p.val w ((c.sget (sA w) + sImm w) % 2 ^ 64) 4 (c.sget (sD w))))

/-- dld: dd := 64 bytes at sa + 64 × sext(imm11). -/
def execDld (p : ArrayId) (w : Word) (s : State) : Out :=
  .next (ctrlGate p w none ctrlKnown 0xFC000000 0x50000000 0x02000000 0x0000F800 s (fun s =>
    let c := (s.arr p.val).ctrl
    s.ctrlLoad p.val w ((c.sget (sA w) + 64 * sImm w) % 2 ^ 64) 64 (sD w) true false))

/-- dst: stores dd at the same kind of address. -/
def execDst (p : ArrayId) (w : Word) (s : State) : Out :=
  .next (ctrlGate p w none ctrlKnown 0xFC000000 0x54000000 0x02000000 0x0000F800 s (fun s =>
    let c := (s.arr p.val).ctrl
    s.ctrlStore p.val w ((c.sget (sA w) + 64 * sImm w) % 2 ^ 64) 64 (c.dget (sD w)).toNat))

end Sys2Proof.Machine
end

