-- ==== Sys2Proof/Machine/TileOps.lean ====
section
/-!
DEFINITION. What a tile computes (03_array_mode R75 to R95, R97 to R114): blocks, accumulators, witness partials, drains,
the tile hash (10_integrity R344), the weight digest (R357), replay partners (R345), and discarding dependants (R106).
-/
namespace Sys2Proof.Machine

/-- The columns a step multiplies by: the block's own, or its rows in transposed mode (R97). -/
def stepCols (trans : Bool) (b : Block) : List (List (Nat × Nat)) :=
  if trans then (List.range b.k).map (fun i => b.cols.map (fun c => nth (0, 127) c i)) else b.cols

/-- R48 to R53: one output of a step. -/
def dotAcc (anchor : Int) (fa fw : Fmt) (acts col : List (Nat × Nat)) (a : Acc) : Acc :=
  (acts.zip col).foldl (fun a x => (operandProducts fa fw x.1.1 x.2.1 x.1.2 x.2.2).foldl (accAddProduct anchor) a) a

/-- One result row after a step. prev: the row so far, empty at the first step. -/
def rowAcc (op : PassOp) (b : Block) (acts : List (Nat × Nat)) (prev : List Acc) : List Acc :=
  let cols := stepCols op.trans b
  (List.range (Nat.max cols.length prev.length)).map (fun j =>
    if j < cols.length then dotAcc op.anchor op.fa op.fw acts (nth [] cols j) (nth Acc.zero prev j) else nth Acc.zero prev j)

/-- R110: the loss residues of one row's products. -/
def rowLoss (op : PassOp) (b : Block) (acts : List (Nat × Nat)) : Nat :=
  (stepCols op.trans b).foldl (fun t col => (acts.zip col).foldl (fun t x =>
    (operandProducts op.fa op.fw x.1.1 x.2.1 x.1.2 x.2.2).foldl (fun t v => (t + resLoss op.anchor v) % witM) t) t) 0

/-- R109: the residue of a sum of scaled elements, one for each part of their format. -/
def partSums (f : Fmt) (xs : List (Nat × Nat)) : List Nat :=
  xs.foldl (fun ws x =>
    let vs := (staParts f x.1 x.2).map (resVal 0)
    if ws = [] then vs else List.zipWith (fun a v => (a + v) % witM) ws vs) []

/-- R109: a block with the witness weights that the north feed computes from its elements: ω of every contraction position, and V of every
column. -/
def Block.weighed (b : Block) : Block :=
  { b with omega := (List.range b.k).map (fun k => partSums b.fmt (b.cols.map (fun col => nth (0, 127) col k)))
           vsum := b.cols.map (partSums b.fmt) }

/-- R109, R113: the witness weight that meets position k of a step's rows: ω in a normal pass, V in a transposed one. -/
def witWeights (op : PassOp) (b : Block) (k : Nat) : List Nat := nth [] (if op.trans then b.vsum else b.omega) k

/-- R110, R113: the witness partial that one step adds for one row. -/
def rowWit (op : PassOp) (b : Block) (acts : List (Nat × Nat)) : Nat :=
  let g := gridExp op.anchor
  let s := (List.range acts.length).foldl (fun t k =>
    let a := nth (0, 127) acts k
    let as_ := (actParts op.fa a.1 a.2).map (resVal 0)
    (List.zipWith (fun x w => x * w) as_ (witWeights op b k)).foldl (fun t v => (t + v) % witM) t) 0
  (s * 2 ^ ((-g) % 24).toNat + (witM - rowLoss op b acts)) % witM

/-- R111: the residue of the sum of a row's accumulators. -/
def rowRes (accs : List Acc) : Nat := accs.foldl (fun t a => (t + resInt a.val.toInt) % witM) 0

/-- The activation rows of a step as memory holds them (R79, R208): elements at or beyond L0 are zero. -/
def State.stepActs (s : State) (p ctx : Nat) (op : PassOp) (b : Block) (rows : Nat) : List (List (Nat × Nat)) :=
  let d := descOf op.dA
  let acc := s.unitAcc p ctx .read
  let k := if op.trans then b.n else b.k
  (List.range rows).map (fun m =>
    let l0 := (s.actualLen acc d 0 m).1
    (List.range k).map (fun i => if i < l0 then s.peekElem acc (d.loc op.fa [i, m, 0, 0, 0]) else (0, 127)))

/-- The accumulators and witness partials of a tile from its steps. -/
def State.tileCompute (s : State) (p : Nat) (t : Tile) : List (List Acc) × List Nat :=
  t.steps.foldl (fun r st =>
    let acts := s.stepActs p t.ctx st.1 st.2 t.rows
    ((List.range t.rows).map (fun m => rowAcc st.1 st.2 (nth [] acts m) (nth [] r.1 m)),
     (List.range t.rows).map (fun m => (nth 0 r.2 m + rowWit st.1 st.2 (nth [] acts m)) % witM))) ([], [])

/-- A hardware error in accumulators: (row, column, difference modulo 2^120). -/
def applyUpset (accs : List (List Acc)) (up : List (Nat × Nat × Nat)) : List (List Acc) :=
  up.foldl (fun as_ u =>
    let row := nth [] as_ u.1
    if u.1 < as_.length ∧ u.2.1 < row.length then
      let a := nth Acc.zero row u.2.1
      setNth [] as_ u.1 (setNth Acc.zero row u.2.1 { a with val := a.val + BitVec.ofNat 120 u.2.2 })
    else as_) accs

/-- The part of a row's difference that errors in columns beyond the outputs make (R111). -/
def upsetBeyond (up : List (Nat × Nat × Nat)) (m cols : Nat) : Nat :=
  up.foldl (fun t u => if u.1 = m ∧ cols ≤ u.2.1 then (t + resInt (BitVec.ofNat 120 u.2.2).toInt) % witM else t) 0

/-- R111: Δ of each row. -/
def tileDeltas (t : Tile) : List Nat :=
  (List.range t.accs.length).map (fun m =>
    let row := nth [] t.accs m
    (nth 0 t.wit m + (witM - rowRes row) + (witM - upsetBeyond t.upset m row.length)) % witM)

/-- The first row whose difference fails, with it. -/
def firstFail (inexact : Bool) (ds : List Nat) : Option (Nat × Nat) :=
  match ds.findIdx? (fun d => !deltaPasses inexact d) with
  | some i => some (i, nth 0 ds i)
  | none => none

/-- R344: the constant K2. -/
def hashK2 : Nat := 0xD6E8FEB86659FD93

/-- R344: the hash of a tile, from its accumulators and flags. -/
def tileHash (accs : List (List Acc)) (rows : Nat) (fl : TileFlags) : Nat :=
  let h := (List.range accs.length).foldl (fun h i =>
    let row := nth [] accs i
    (List.range row.length).foldl (fun h j =>
      let a := nth Acc.zero row j
      let x := signExt 120 128 a.val.toNat
      (h + mix64 (x % 2 ^ 64 ^^^ (i * 2 ^ 32) ^^^ j) + mix64 (x / 2 ^ 64 ^^^ (specialCode a.special * 2 ^ 62) ^^^ hashK2)) % 2 ^ 64) h) 0
  let ovf := accs.any (fun r => r.any (fun a => a.ovf))
  mix64 (h ^^^ (b2n fl.inexact * 2 ^ 63) ^^^ (b2n ovf * 2 ^ 62) ^^^ (b2n fl.special * 2 ^ 61) ^^^ rows)

/-- What a drain needs to know: its configuration, anchor, the coordinates of its first output (R95). -/
structure DrainOf where
  set : DrainSet
  anchor : Int
  osn : Nat
  m0 : Nat
  n0 : Nat
  deriving DecidableEq, Repr

/-- The drain of a tile: of its last step, or of its reduction (R211), whose coordinates are those of the operation it reduces (R95,
notes/assumptions/36). -/
def Tile.drain (t : Tile) : Option DrainOf :=
  match t.entry with
  | none => none
  | some e =>
    match e.op with
    | .pass op => some ⟨op.drain, op.anchor, t.osn, op.m0, op.n0⟩
    | .reduce _ dO _ anchor fmt rnd sat .. =>
      some ⟨{ dO := dO, dI := 0#512, fmt := fmt, rnd := rnd, sat := sat, acc := 0, chain := false }, anchor, t.osn, t.m0, t.n0⟩
    | _ => none

/-- R93: the initial records of a tile, as its drain or the bank reads them. -/
def State.initRecs (s : State) (p : Nat) (t : Tile) (d : DrainOf) : List (List (BitVec 128)) :=
  if d.set.acc = 0 then []
  else
    let dI := descOf d.set.dI
    let acc := s.unitAcc p t.ctx .read
    (List.range t.accs.length).map (fun i =>
      (List.range (nth [] t.accs i).length).map (fun j => BitVec.ofNat 128 (s.peekElem acc (dI.loc .record [j, i, 0, 0, 0])).1))

/-- R93: the accumulators of a tile with its initial records combined, and whether every anchor matched (R60). -/
def Tile.combined (t : Tile) (d : DrainOf) : List (List Acc) × Bool :=
  if d.set.acc = 0 then (t.accs, true)
  else
    let rs := (List.range t.accs.length).map (fun i =>
      let row := nth [] t.accs i
      (List.range row.length).map (fun j => (nth Acc.zero row j, nth 0#128 (nth [] t.init i) j)))
    (rs.map (fun row => row.map (fun x => accJoin x.1 (accOfRec x.2))), rs.all (fun row => row.all (fun x => recAnchorOk d.anchor x.2)))

/-- R55: the flags of a tile as its drain sees them. -/
def drainFlags (d : DrainOf) (accs : List (List Acc)) : TileFlags :=
  accs.foldl (fun f row => row.foldl (fun f a => flagsJoin f (flagsOfAcc (d.set.fmt == .record) a)) f) TileFlags.none

/-- R207, R94: the elements of one result row as the drain writes them: (column, code, scale). A final MX block that
reaches the end of dO is filled with zeros. -/
def drainRow (key : Nat) (d : DrainOf) (i : Nat) (row : List Acc) : List (Nat × Nat × Nat) :=
  let f := d.set.fmt
  let dO := descOf d.set.dO
  let n := row.length
  let r (j : Nat) := srRandom key d.osn (d.m0 + i) (d.n0 + j)
  match f with
  | .record => (List.range n).map (fun j => (j, (recOfAcc d.anchor (nth Acc.zero row j)).toNat, 0))
  | _ =>
    if fmtMx f then
      (List.range (ceilDiv n 32)).flatMap (fun b =>
        let w := Nat.min 32 (n - 32 * b)
        let vs := (List.range w).map (fun x => (accValue d.anchor (nth Acc.zero row (32 * b + x)), r (32 * b + x)))
        let blk := mxBlock f d.set.rnd d.set.sat vs
        let full := if 32 * b + w = dO.extOf 0 then 32 else w
        (List.range full).map (fun x => (32 * b + x, nth 0 blk.2 x, blk.1)))
    else (List.range n).map (fun j => (j, encodePlain f d.set.rnd d.set.sat (r j) (accValue d.anchor (nth Acc.zero row j)), 0))

/-- The stochastic-rounding key of a context. -/
def State.srKey (s : State) (ctx : Nat) : Nat := s.reg64 (rDspCtxSrkey ctx)

/-- Whether ranges (first, length) rise without touching. -/
def rising : List (Nat × Nat) → Bool
  | a :: b :: t => decide (a.1 + a.2 ≤ b.1) && rising (b :: t)
  | _ => true

/-- Two sorted lists of ranges as one. Fuel: the number of ranges. -/
def mergeRanges : Nat → List (Nat × Nat) → List (Nat × Nat) → List (Nat × Nat)
  | n + 1, a :: x, b :: y => if a.1 ≤ b.1 then a :: mergeRanges n x (b :: y) else b :: mergeRanges n (a :: x) y
  | _, x, y => x ++ y

/-- Neighbouring lists merged. -/
def mergePairs : List (List (Nat × Nat)) → List (List (Nat × Nat))
  | x :: y :: t => mergeRanges (x.length + y.length) x y :: mergePairs t
  | t => t

/-- Ranges in increasing order. -/
def sortRanges (l : List (Nat × Nat)) : List (Nat × Nat) :=
  ((List.range (Nat.log2 l.length + 1)).foldl (fun x _ => mergePairs x) (l.map (fun r => [r]))).flatten

/-- R201: whether some ranges of a list overlap. -/
def overlaps (l : List (Nat × Nat)) : Bool := !rising l && !rising (sortRanges l)

/-- One element put among bytes by address: a sub-byte element keeps the rest of its byte. -/
def State.putElem (s : State) (acc : Accessor) (m : Tbl Byte) (x : ElemLoc × Nat × Nat) : Tbl Byte :=
  let l := x.1
  let old := (List.range l.bytes).map (fun k => match tblFind m (l.addr + k) with
    | some b => b
    | none => nth 0#8 (s.peek acc (l.addr + k) 1) 0)
  let new := storeElem old l x.2.1
  let m := (List.range l.bytes).foldl (fun m k => tblPut m (l.addr + k) (nth 0#8 new k)) m
  match l.scale with
  | some a => tblPut m a (BitVec.ofNat 8 x.2.2)
  | none => m

/-- R200, R201: the bytes that storing elements writes: element bytes and scale bytes, by address. Elements that share a byte are merged into
it; of elements that overlap, each byte takes one. -/
def State.mergeElems (s : State) (acc : Accessor) (es : List (ElemLoc × Nat × Nat)) : Tbl Byte :=
  let m := es.foldl (s.putElem acc) []
  if !overlaps (es.map (fun x => (8 * x.1.addr + x.1.bit, x.1.width))) then m
  else m.map (fun (b : Nat × Byte) =>
    let here := es.filter (fun x => x.1.ranges.any (fun r => decide (r.1 ≤ b.1) && decide (b.1 < r.1 + r.2)))
    let k := s.freeAt b.1 % here.length
    (b.1, (tblFind ((here.drop k ++ here.take k).foldl (s.putElem acc) []) b.1).getD b.2))

/-- Addressed bytes as runs of consecutive addresses. -/
def byteRuns (m : Tbl Byte) : List (Nat × List Byte) :=
  (m.foldl (fun (r : List (Nat × List Byte)) x => match r with
    | (a, bs) :: t => if a + bs.length = x.1 then (a, bs ++ [x.2]) :: t else (x.1, [x.2]) :: r
    | [] => [(x.1, [x.2])]) []).reverse

/-- The byte a write gives an address. -/
def ChainWrite.at (w : ChainWrite) (va : Nat) : Option Byte :=
  if w.va ≤ va ∧ va < w.va + w.data.length then some (nth 0#8 w.data (va - w.va)) else none

/-- R201: writes to a destination whose elements overlap: each shared byte takes one of the values that the candidates write to it. -/
def State.chooseWrites (s : State) (cands ws : List ChainWrite) : List ChainWrite :=
  if !overlaps (cands.map (fun w => (w.va, w.data.length))) then ws
  else ws.map (fun w => { w with data := (List.range w.data.length).map (fun k =>
    let l := cands.filterMap (fun x => x.at (w.va + k))
    nth (nth 0#8 w.data k) l (s.freeAt (2 ^ 60 + w.va + k) % l.length)) })

/-- R103, R207: the writes of a tile's drain to dO, row by row. -/
def State.drainWrites (s : State) (p : Nat) (t : Tile) (d : DrainOf) (accs : List (List Acc)) : List ChainWrite :=
  let acc := s.unitAcc p t.ctx .read
  let dO := descOf d.set.dO
  (List.range accs.length).flatMap (fun i =>
    (byteRuns (s.mergeElems acc ((drainRow (s.srKey t.ctx) d i (nth [] accs i)).map (fun x =>
      (dO.loc d.set.fmt [x.1, i, 0, 0, 0], x.2.1, x.2.2))))).map (fun r => ⟨r.1, r.2, false⟩))

/-- R103, R207: the drain writes a tile's outputs to dO: in place in the edge store, or through the checks of a write that
leaves it (sent). -/
def State.drainWrite (s : State) (p : Nat) (t : Tile) (d : DrainOf) (accs : List (List Acc)) (sent : Bool) : State :=
  let acc := s.unitAcc p t.ctx .write
  let ws := s.drainWrites p t d accs
  ((s.chooseWrites ws ws).foldl (fun s w =>
    if sent then s.writeVa p 4 t.seq t.ctx w.va w.data else s.poke acc (some t.ctx) w.va w.data) s).drawn

/-- The byte ranges a tile of rows × cols outputs writes or, for I, reads. -/
def tileRanges (d : Desc) (f : Fmt) (rows cols : Nat) : List (Nat × Nat) :=
  (indices [cols, rows]).flatMap (fun ix => (d.loc f [nth 0 ix 0, nth 0 ix 1, 0, 0, 0]).ranges)

/-- R357: the hash of a block as the north feed places it. -/
def lineHash (o : Nat) (bs : List Byte) : Nat :=
  mix64 ((List.range 8).foldl (fun x k => (x + mix64 (leAt bs (8 * k) 8 ^^^ ((k * 0x9E3779B97F4A7C15) % 2 ^ 64))) % 2 ^ 64) o)

/-- R357: one 64-byte line of a block at north-feed offset o: elements in stationary layout, then scales; positions beyond
the extents and unused bits are zero. -/
def blockLine (b : Block) (o : Nat) : List Byte :=
  let kp := kappa b.fmt
  let elem (k n : Nat) : Nat := if k < b.k ∧ n < b.n then (nth (0, 0) (nth [] b.cols n) k).1 else 0
  let area := if b.fmt = .fp32 then 2097152 else 1048576
  (List.range 64).map (fun i =>
    let x := o + i
    if x < area then
      (match b.fmt with
      | .fp32 => BitVec.ofNat 8 (elem (x / 8192 * 8 + x % 32 / 4) (x % 8192 / 32) / 2 ^ (8 * (x % 4)))
      | f =>
        let w := if fmtBits f = 6 then 8 else fmtBits f
        let n := x % 4096 / 16
        let y := x % 16
        if w = 4 then BitVec.ofNat 8 (elem (x / 4096 * kp + 2 * y) n + 16 * elem (x / 4096 * kp + 2 * y + 1) n)
        else if w = 8 then BitVec.ofNat 8 (elem (x / 4096 * kp + y) n)
        else BitVec.ofNat 8 (elem (x / 4096 * kp + y / 2) n / 2 ^ (8 * (y % 2))))
    else
      let z := x - area
      let k := z / 256 * 32
      let n := z % 256
      if k < b.k ∧ n < b.n then BitVec.ofNat 8 (nth (0, 0) (nth [] b.cols n) k).2 else 0#8)

/-- R357: bytes of the block area and its scale area. -/
def blockBytes (f : Fmt) : Nat :=
  if f = .fp32 then 2097152
  else 1048576 + (if fmtMx f then 256 * (8 * kappa f) else 0)

/-- R357: a block's contribution to the weight digest. -/
def blockHash (b : Block) : Nat :=
  let hb := (List.range (blockBytes b.fmt / 64)).foldl (fun h i => (h + lineHash (64 * i) (blockLine b (64 * i))) % 2 ^ 64) 0
  mix64 (hb ^^^ (b.k * 2 ^ 40) ^^^ (b.n * 2 ^ 24) ^^^ (fmtCode b.fmt * 2 ^ 16))

/-- R78: a block read from its stationary layout. -/
def State.readBlock (s : State) (p ctx gen : Nat) (desc : BitVec 512) (f : Fmt) (src : List (Nat × Nat)) : Block :=
  let d := descOf desc
  let acc := s.unitAcc p ctx .read
  let b : Block :=
    { fmt := f, k := d.extOf 1, n := d.extOf 0
      cols := (List.range (d.extOf 0)).map (fun n => (List.range (d.extOf 1)).map (fun k => s.peekElem acc (statLoc d.base f k n)))
      ctx := ctx, gen := gen, digest := 0, src := src, desc := desc, scaleVa := 0, fromSlot := none, omega := [], vsum := [] }
  { b.weighed with digest := blockHash b }

/-- R78: the byte ranges of a block in stationary layout. -/
def blockRanges (d : Desc) (f : Fmt) : List (Nat × Nat) :=
  (indices [d.extOf 0, d.extOf 1]).flatMap (fun ix => (statLoc d.base f (nth 0 ix 1) (nth 0 ix 0)).ranges)

/-- R205: the byte ranges of the scales of a parked block in its scale region. -/
def scaleRanges (va : Nat) (b : Block) : List (Nat × Nat) :=
  if fmtMx b.fmt then (indices [b.n, ceilDiv b.k 32]).map (fun ix => (scaleAt va (32 * nth 0 ix 1) (nth 0 ix 0), 1)) else []

/-- R205: a parked block with the scales that its region holds now; rd reads bytes of the owner's virtual space. -/
def Block.withScalesOf (b : Block) (rd : Nat → Nat → List Byte) (va : Nat) : Block :=
  if fmtMx b.fmt then
    { b with cols := (List.range b.n).map (fun n => (List.range b.k).map (fun k =>
        ((nth (0, 0) (nth [] b.cols n) k).1, ofBytes (rd (scaleAt va k n) 1)))) }
  else b

/-- R90: the 16 bytes a core's slate holds for a park slot: the chunk of core (r, c) in register form. The 32-byte chunk of an FP32 block
does not fit a slot: its first 16 bytes stand there (notes/assumptions/106). -/
def parkChunk (b : Block) (r c : Nat) : List Byte :=
  let kp := kappa b.fmt
  let codes := (List.range kp).map (fun i => if kp * r + i < b.k ∧ c < b.n then (nth (0, 0) (nth [] b.cols c) (kp * r + i)).1 else 0)
  let w := if fmtBits b.fmt = 6 then 8 else fmtBits b.fmt
  if w = 4 then (chunks 2 codes).flatMap (fun g => bytesOf 1 (nth 0 g 0 + 16 * nth 0 g 1))
  else (codes.flatMap (fun x => bytesOf (w / 8) x)).take 16

/-- R90: whether an address lies in the words of park slot j of a core's slate of logical array n. -/
def State.inSlot (s : State) (n j a : Nat) : Bool :=
  match s.place a with
  | .slate m _ off => m == n && off / 16 == j
  | _ => false

/-- R85, R87: the words of park slot j of every core are written with zeros. -/
def State.clearSlot (s : State) (n j : Nat) : State :=
  { s with mem := s.mem.filter (fun c => !s.inSlot n j c.1)
           memst := { s.memst with check := s.memst.check.filter (fun e => !s.inSlot n j (8 * e.1)) } }

/-- R85, R90: a block written into park slot j: the table entry and the bytes of every core's slate, zero beyond its extents. -/
def State.parkWrite (s : State) (p j : Nat) (b : Block) : State :=
  let n := (s.logOf p).getD 0
  let s := s.clearSlot n j
  let s := (List.range (ceilDiv b.k (kappa b.fmt))).foldl (fun s r => (List.range b.n).foldl (fun s c =>
    s.wrBytes (slateBase (n * 65536 + r * 256 + c) + 16 * j) (parkChunk b r c)) s) s
  s.modArr p (fun a => { a with park := tblPut a.park j { b with fromSlot := some j } })

/-- R90: the codes that a core's slate holds for a park slot. -/
def State.parkCode (s : State) (n j : Nat) (f : Fmt) (k c : Nat) : Nat :=
  let kp := kappa f
  let bs := s.rdBytes (slateBase (n * 65536 + k / kp * 256 + c) + 16 * j) 16
  let w := if fmtBits f = 6 then 8 else fmtBits f
  if w = 4 then bitsOf (leAt bs (k % kp / 2) 1) (4 * (k % kp % 2) + 3) (4 * (k % kp % 2))
  else leAt bs (k % kp * (w / 8)) (w / 8) % 2 ^ fmtBits f

/-- R90: the parked block as its slates hold it now. -/
def State.parkRead (s : State) (p j : Nat) (b : Block) : Block :=
  let n := (s.logOf p).getD 0
  { b with cols := (List.range b.n).map (fun c => (List.range b.k).map (fun k =>
      (s.parkCode n j b.fmt k c, (nth (0, 127) (nth [] b.cols c) k).2))) }

/-- R90: the slate ranges of a park slot that a block occupies. -/
def State.parkRanges (s : State) (p j : Nat) (b : Block) : List (Nat × Nat) :=
  let n := (s.logOf p).getD 0
  (indices [b.n, ceilDiv b.k (kappa b.fmt)]).map (fun ix => (slateBase (n * 65536 + nth 0 ix 1 * 256 + nth 0 ix 0) + 16 * j, 16))

/-- R342: the effective level of a tile that array p issues for a context. -/
def State.effLevel (s : State) (p ctx chk : Nat) : Nat :=
  if s.fld (rChkArray p) 31 30 = 1 ∨ s.flag (rChkArray p) 28 then 3
  else Nat.max chk (Nat.max (s.fld (rChkCtxCtl ctx) 1 0) (s.fld (rChkCtxCtl ctx) 30 29))

/-- R343: sel. -/
def replaySel (seed osn m0 n0 : Nat) : Nat :=
  let h := mix64 (seed + osn * 0x9E3779B97F4A7C15)
  mix64 (h ^^^ (m0 * 2 ^ 32) ^^^ n0)

/-- R343: whether a tile is replayed before it commits. -/
def State.replaySelected (s : State) (ctx level osn m0 n0 : Nat) (marked : Bool) : Bool :=
  let h := replaySel (s.reg64 (rChkCtxSeed ctx)) osn m0 n0
  marked || (match level with
    | 0 => false
    | 1 => h % 64 == 0
    | 2 => h % 8 == 0
    | _ => true)

/-- R345, R250: router hops between two physical arrays on the 6 × 3 grid of routers. -/
def arrayHops (a b : Nat) : Nat :=
  ((a % 6 : Nat) - (b % 6 : Nat)) + ((b % 6 : Nat) - (a % 6 : Nat)) + ((a / 6 : Nat) - (b / 6 : Nat)) + ((b / 6 : Nat) - (a / 6 : Nat))

/-- The nearest of a list to an array, the lowest number among equals. -/
def nearest (o : Nat) (l : List Nat) : Option Nat :=
  l.foldl (fun best p => match best with
    | none => some p
    | some b => if arrayHops o p < arrayHops o b ∨ (arrayHops o p = arrayHops o b ∧ p < b) then some p else best) none

/-- R345: a free spare: it backs no logical array and is neither fused off, suspect, quarantined nor retired, and no
Pyrite run holds it (R369), nor a remap that has claimed it (R496). -/
def State.freeSpare (s : State) (p : Nat) : Bool :=
  decide (p < 18) && (s.logOf p).isNone && !s.fuses.fusedOff.testBit p && decide (s.fld (rChkArray p) 31 30 = 0) && !s.flag (rChkArray p) 29
    && !s.brp.remaps.any (fun r => r.dst == p)

/-- R348: whether an array is the partner of any replay. -/
def State.isPartner (s : State) (q : Nat) : Bool :=
  (List.range 18).any (fun p => (s.arr p).tiles.any (fun t => match t.replay with
    | some r => r.partner == some q || r.third == some q
    | none => false))

/-- R345, R346: the arrays of a context's partition that may be partners. -/
def State.partnerArrays (s : State) (ctx : Nat) : List Nat :=
  if s.fld (rChkCtxRing ctx) 26 16 = 0 ∨ s.resident (s.ctxPart ctx) ≠ some ctx then []
  else (s.ctxArrays ctx).filter (fun p => decide (s.fld (rChkArray p) 31 30 = 0))

/-- R345: the partner for a replay of a tile of array o, arrays of excl left out. -/
def State.choosePartner (s : State) (o ctx : Nat) (resolving : Bool) (gang : GangSet) (excl : List Nat) : Option Nat :=
  let ok (l : List Nat) := l.filter (fun p => p != o && !excl.contains p)
  let part := ok (s.partnerArrays ctx)
  let spare := nearest o (ok ((List.range 18).filter s.freeSpare))
  if resolving then spare.or (nearest o part)
  else
    let n := (s.logOf o).getD 0
    let g := 2 ^ gang.log2
    let inGang (p : Nat) : Bool := match s.logOf p with | some m => m / g == n / g | none => false
    let mate := part.find? (fun p => s.logOf p == some (n / g * g + (n % g ^^^ 1)) && inGang p)
    ((mate.or (nearest o (part.filter inGang))).or (nearest o part)).or spare

/-- The gang that a tile's operation runs under. -/
def Tile.gang (t : Tile) : GangSet :=
  match t.steps, t.entry with
  | (op, _) :: _, _ => op.gang
  | [], some e => (match e.op with | .reduce _ _ _ _ _ _ _ g .. => g | _ => GangSet.start)
  | [], none => GangSet.start

/-- R345, R369: whether an array may still serve as a partner for a context. -/
def State.mayPartner (s : State) (ctx q : Nat) : Bool := s.freeSpare q || (s.partnerArrays ctx).contains q

/-- R345, R350, R369: the partner for an execution of a tile on another array: the one chosen before, while it qualifies; for a reduced
output the one that replayed its member tile; else the one of R345. excl: arrays that have executed the tile already. -/
def State.partnerFor (s : State) (p : Nat) (t : Tile) (resolving : Bool) (chosen : Option Nat) (excl : List Nat) : Option Nat :=
  let keeps (o : Option Nat) : Option Nat := o.filter (fun q => s.mayPartner t.ctx q && q != p && !excl.contains q)
  ((keeps chosen).or (if resolving then none else keeps t.replayedOn)).or (s.choosePartner p t.ctx resolving t.gang excl)

/-- R106, R168: the tiles that depend on tile seq are discarded for re-execution; chains of theirs run again. -/
def discardDependants (a : ArrayState) (seq : Nat) : ArrayState :=
  let bad := (dependants a.tiles [seq] 3).filter (fun x => x != seq)
  restartTiles a (fun t => bad.contains t.seq && t.state != 0 && t.state != 5)

/-- R221, R273: a tile and its dependants leave without commit: slots and held inputs are freed. The number freed. -/
def releaseTiles (a : ArrayState) (seq : Nat) : ArrayState × Nat :=
  let bad := dependants (a.tiles ++ a.restarts) [seq] 3
  let hit := a.tiles.filter (fun t => bad.contains t.seq && t.state != 0 && t.state != 5)
  ({ a with
      tiles := a.tiles.map (fun t => if bad.contains t.seq ∧ t.state ≠ 0 then Tile.free else t)
      restarts := a.restarts.filter (fun t => !bad.contains t.seq)
      vec :=
        let gone (r : ChainRun) : Bool := match r.attached with | some q => bad.contains q | none => false
        { a.vec with
          running := match a.vec.running with | some r => if gone r then none else some r | none => none
          pendingSeq := a.vec.pendingSeq.filter (fun x => !bad.contains x.1)
          reruns := a.vec.reruns.filter (fun r => !gone r) } }, hit.length)

/-- The slot of tile i of an array. -/
def ArrayState.tile (a : ArrayState) (i : Nat) : Tile := nth Tile.free a.tiles i

/-- Replace a slot. -/
def ArrayState.setTile (a : ArrayState) (i : Nat) (t : Tile) : ArrayState :=
  { a with tiles := (List.range 3).map (fun j => if j = i then t else nth Tile.free a.tiles j) }

/-- Replace a slot of a physical array. -/
def State.setTile (s : State) (p i : Nat) (t : Tile) : State := s.modArr p (fun a => a.setTile i t)

/-- R101, R107: the lowest slot that is free. -/
def ArrayState.freeSlot (a : ArrayState) : Option Nat :=
  (List.range 3).find? (fun i => let t := a.tile i; t.state == 0 || t.state == 5)

/-- The slot of the tile that executes. -/
def ArrayState.executing (a : ArrayState) : Option Nat := (List.range 3).find? (fun i => (a.tile i).state == 1)

/-- R105: whether every tile a tile depends on has committed: none of them holds a slot or waits for its restart. -/
def ArrayState.depsDone (a : ArrayState) (t : Tile) : Bool :=
  t.deps.all (fun d => !a.tiles.any (fun x => x.seq == d && x.state != 0 && x.state != 5) && !a.restarts.any (fun x => x.seq == d))

/-- R117: whether an array of a rank receives at some level, and the first level at which it sends. -/
def sendLevel (rank log2 : Nat) : Nat := if rank = 0 then log2 else lowestBit log2 rank

/-- R211, R117: the reduce at the head of the queue starts: the member's record tile is its first partial. It waits while
the tile is not committed, while another reduction runs on the array, and, on rank 0, for a free slot. A record tile that no pass made has
the bases 0 and the residues of its records as its witness partials (notes/assumptions/36). -/
def State.reduceStart (s : State) (p : Nat) (e : QEntry) (dP : BitVec 512) (anchor : Int) (g : GangSet) : State :=
  let a := s.arr p
  let ctx := a.ctrl.ctx
  let acc := s.unitAcc p ctx .read
  let d := descOf dP
  let rs := d.ranges .record
  let rank := (s.logOf p).getD 0 % 2 ^ g.log2
  if a.red.isSome ∨ (rank = 0 ∧ a.freeSlot.isNone) then s
  else match s.firstEdgeFault p acc rs with
    | some (v, t) => if s.memst.stalled.any (fun x => x.array == p && x.unit == 4) then s else s.stallTr ctx 4 p v .read t
    | none =>
      let ph := s.physRanges acc rs
      if ph.any (fun r => s.uncommittedHit r.1 r.2) then s
      else
        let pop := fun (s : State) => s.modArr p (fun a => { a with aq := a.aq.drop 1 })
        let s := s.readRanges (some ctx) ph
        match s.firstBad ph with
          | some b => s.flintPoison p 1 2 0 b
          | none =>
            let recs := (List.range (d.extOf 1)).map (fun i => (List.range (d.extOf 0)).map (fun j =>
              BitVec.ofNat 128 (s.peekElem acc (d.loc .record [j, i, 0, 0, 0])).1))
            if recs.any (fun row => row.any (fun r => !recAnchorOk anchor r)) then (pop s).entryFault p e 0x84 3 (bitsOf e.w0.toNat 24 21) d.base
            else
              let accs := recs.map (fun row => row.map accOfRec)
              let info := match tblFind a.recInfo ((ph.headD (0, 0)).1) with
                | some w => w
                | none => ⟨accs.map rowRes, 0, 0, none⟩
              (pop s).modArr p (fun a => { a with red := some ⟨e, 0, accs, info.wit, info.m0, info.n0, regionsOf ph, info.replayedOn⟩ })

/-- R123, R188: the unit of a queue has had work. -/
def ArrayState.usedBy (a : ArrayState) (q : Nat) : ArrayState :=
  { a with usedGrid := a.usedGrid || q == 0, usedVec := a.usedVec || q == 1 }

/-- R370: the class 0x04 event of a verdict. -/
def State.postWitness (s : State) (p slot code sev : Nat) (t : Tile) (injected : Bool) : State :=
    let red : Bool := match t.entry with | some e => (match e.op with | .reduce .. => true | _ => false) | none => false
  s.postCtx t.ctx 0x04 code sev (srcOf 1 p)
    (payloadOf [(16, 1, slot), (17, 1, b2n t.transposed + 2 * b2n t.flags.inexact + 4 * b2n red + 8 * b2n injected), (20, 4, t.osn),
      (24, 2, t.failRow), (26, 2, t.rows), (28, 4, t.delta), (32, 8, t.hash)])

/-- R371: the class 0x05 event of a replay. -/
def State.postReplay (s : State) (ctx : Option Nat) (code sev p : Nat) (t : Tile) (unit rh third th : Nat) (partner : Option Nat) : State :=
  s.post ctx false 0x05 code sev (srcOf 1 p)
    (payloadOf [(16, 1, unit), (17, 1, p), (18, 1, partner.getD 0xFF), (19, 1, third), (20, 4, t.osn), (24, 8, t.hash), (32, 8, rh), (40, 8, th)])

/-- R273, R564: a held input is poisoned: the tile and its dependants are discarded, code 0x33, the context is faulted. -/
def State.heldPoison (s : State) (p : Nat) (t : Tile) (pa : Nat) : State :=
  let s := s.modArr p (fun a => (releaseTiles a t.seq).1)
  let s := s.post (some t.ctx) true 0x01 0x33 2 (srcOf 1 p)
    (payloadOf [(16, 8, pa / 8 * 8), (24, 1, 0xFF), (25, 1, mediumOf (s.place pa)), (26, 2, s.bankOf pa), (28, 4, 1)])
  s.ctxFault t.ctx 0x01 0x33

/-- R320: whether a start is later than one period of the array's clock after T'. A period of code c lasts
256,000 / (1,600 + 25 c) ticks, 1.5 times that in a stretch. -/
def ArrayState.startsLate (a : ArrayState) (now t : DWord) : Bool :=
  let d := (now - t).toNat
  decide ((if a.stretch = 0#16 then 256000 * 2 else 256000 * 3) < d * 2 * (1600 + 25 * a.freqCode))

/-- R320: the late-launch event. -/
def State.postLate (s : State) (p cause rank : Nat) (t start : DWord) (e : QEntry) : State :=
  s.postCtx (s.arr p).ctrl.ctx 0x09 0x08 0 (srcOf 1 p)
    (payloadOf [(16, 1, 0xFF), (17, 1, cause), (18, 2, rank), (24, 8, t.toNat), (32, 8, start.toNat), (40, 4, e.osn)])

/-- R320, R220: the late-launch event of an entry that starts now: its lead was shorter than 256 ns, or it starts more than one period
after T', with the lowest cause that applies; cause 2 where no other is known. -/
def State.lateCheck (s : State) (p : Nat) (e : QEntry) : State :=
  match e.due with
  | none => s
  | some (t1, rank) =>
    let now := s.localTime p
    if e.late.contains 1 || (s.arr p).startsLate now t1 then
      s.postLate p (e.late.foldl Nat.min (if e.late = [] then 2 else 5)) rank t1 now e
    else s

end Sys2Proof.Machine
end

