-- ==== Sys2Proof/Machine/Attention.lean ====
section
/-!
DEFINITION. attn, the attention routine of the controller library (08_mapping R280 to R287; 15_management R539): its record, the order of
what it issues, the operands of each operation, and its return. The library's code is not given: the routine acts as a whole, and the words and
addresses of its instructions are free values (notes/assumptions/127 to 129).
-/
namespace Sys2Proof.Machine

/-- R283: a tile of attn: a key block, and a query group by its first row and its rows. -/
structure AttnTile where
  blk : Nat
  row : Nat
  rows : Nat
  deriving DecidableEq, Repr

/-- R281, R285, R286: what attn issues, by tile number: the gang configuration, the fills that begin a call (0 O buffers, 1 c0, 2 c1), the
steps of a tile, a wait for everything issued, and the final or partial output. -/
inductive AttnItem where
  | gang
  | clear (k : Nat)
  | load (b : Nat)
  | softmax (j : Nat) (t : AttnTile)
  | scores (j : Nat) (t : AttnTile)
  | rescale (j : Nat) (t : AttnTile)
  | add (j : Nat) (t : AttnTile)
  | pv (j : Nat) (t : AttnTile)
  | settle
  | finish (row : Nat)
  | copyCarries
  | copyO
  deriving DecidableEq, Repr

/-- R281: an attention record from its 64 bytes. -/
def attnRec (bs : List Byte) : AttnRec :=
  let fl := leAt bs 49 1
  { qBase := leAt bs 0 8, kvBase := leAt bs 8 8, outBase := leAt bs 16 8, workBase := leAt bs 24 8
    qPos0 := leAt bs 32 4, kPos0 := leAt bs 36 4, nQ := leAt bs 40 4, nK := leAt bs 44 4, heads := leAt bs 48 1
    causal := fl.testBit 0, part := fl.testBit 1, cont := fl.testBit 2, zero := fl / 8 + leAt bs 50 2
    scale := leAt bs 52 4, osnBase := leAt bs 56 4, workSize := leAt bs 60 4 }

/-- The greatest number of positions of a sequence. -/
def attnMax : Nat := 8388608

/-- Query rows: head-major, row h × n_q + i (R280). -/
def AttnRec.rows (r : AttnRec) : Nat := r.heads * r.nQ

/-- R282: whether a record at an address is invalid. -/
def AttnRec.invalid (r : AttnRec) (va : Nat) : Bool :=
  decide (r.zero ≠ 0 ∨ attnMax ≤ r.qPos0 ∨ attnMax ≤ r.kPos0 ∨ r.nQ = 0 ∨ attnMax < r.nQ ∨ attnMax < r.nK ∨ r.heads = 0 ∨ 16 < r.heads ∨
    attnMax < r.qPos0 + r.nQ ∨ attnMax < r.kPos0 + r.nK ∨ r.kPos0 % 4096 ≠ 0 ∨ 65536 < r.rows ∨ r.workBase % 16384 ≠ 0 ∨ va % 64 ≠ 0)

/-- R282: the bytes that the work region needs. -/
def AttnRec.needs (r : AttnRec) : Nat := 163840 + 1040 * r.rows

/-- R283: the query groups (first row, rows): 16 consecutive rows, none of which spans two heads unless n_q is 1. -/
def AttnRec.groups (r : AttnRec) : List (Nat × Nat) :=
  if r.nQ = 1 then (List.range (ceilDiv r.heads 16)).map (fun g => (16 * g, Nat.min 16 (r.heads - 16 * g)))
  else (List.range r.heads).flatMap (fun h =>
    (List.range (ceilDiv r.nQ 16)).map (fun g => (h * r.nQ + 16 * g, Nat.min 16 (r.nQ - 16 * g))))

/-- R283: the key blocks, by number from position 0, which hold a key of the record. -/
def AttnRec.blocks (r : AttnRec) : List Nat := (List.range (ceilDiv r.nK 4096)).map (fun i => r.kPos0 / 4096 + i)

/-- R283, R285: the keys of a block, clipped to the record's. -/
def AttnRec.keys (r : AttnRec) (b : Nat) : Nat := Nat.min 4096 (r.kPos0 + r.nK - 4096 * b)

/-- R280: the position of a query row. -/
def AttnRec.qPos (r : AttnRec) (row : Nat) : Nat := r.qPos0 + row % r.nQ

/-- R284: whether the causal flag applies. -/
def AttnRec.masks (r : AttnRec) : Bool := r.causal && decide (2 ≤ r.nQ)

/-- R284: whether a tile is skipped: its first key comes after the last query of its group. -/
def AttnRec.skips (r : AttnRec) (t : AttnTile) : Bool := r.masks && decide (r.qPos (t.row + t.rows - 1) < 4096 * t.blk)

/-- R283, R284: the tiles in their order, without those that are skipped. -/
def AttnRec.tiles (r : AttnRec) : List AttnTile :=
  (r.blocks.flatMap (fun b => r.groups.map (fun g => ⟨b, g.1, g.2⟩))).filter (fun t => !r.skips t)

/-- R285: what follows the softmax chain of a tile: rescale, add and PV pass. -/
def lateItems : Option (Nat × AttnTile) → List AttnItem
  | none => []
  | some x => [.rescale x.1 x.2, .add x.1 x.2, .pv x.1 x.2]

/-- R285: the operations of tiles, numbered in their order. The rescale chain of a tile comes after the softmax chain of the next group of its
block; before another block is loaded, its PV pass has been issued. A chain that attaches to a drain is issued before its pass (R164). -/
def tileItems (last : Option (Nat × AttnTile)) : List (Nat × AttnTile) → List AttnItem
  | [] => lateItems last
  | x :: xs =>
    let run := [AttnItem.softmax x.1 x.2, .scores x.1 x.2]
    (if (last.map (fun y => y.2.blk)) = some x.2.blk then run ++ lateItems last else lateItems last ++ [.load x.2.blk] ++ run) ++ tileItems (some x) xs

/-- R281, R283 to R286: everything that attn issues for a record, in order. -/
def AttnRec.items (r : AttnRec) : List AttnItem :=
  [.gang] ++ (if r.cont then [] else [.clear 0, .clear 1, .clear 2]) ++ tileItems none ((List.range r.tiles.length).zip r.tiles) ++ [.settle] ++
    (if r.part then [.copyCarries, .copyO] else (List.range r.rows).map .finish) ++ [.settle]

/-- R199: a tensor descriptor: base, format, layout, actual-length form, extents and strides of dimensions 0 and 1, lengths, offset. -/
def packDesc (base : Nat) (f : Fmt) (layout form e0 e1 : Nat) (s0 s1 : Int) (len0 : Nat) (off : Int) : BitVec 512 :=
  BitVec.ofNat 512 (base % 2 ^ 48 + fmtCode f * 2 ^ 48 + layout * 2 ^ 53 + 7 * 2 ^ 55 + form * 2 ^ 58 + e0 * 2 ^ 64 + e1 * 2 ^ 96 +
    2 ^ 128 + 2 ^ 160 + 2 ^ 192 + wrapInt 40 s0 * 2 ^ 224 + wrapInt 40 s1 * 2 ^ 264 + len0 * 2 ^ 424 + 0xFFFFFF * 2 ^ 448 + wrapInt 32 off * 2 ^ 472)

/-- A descriptor of rows of elements: base, format, elements and rows, strides. -/
def rowsDesc (base : Nat) (f : Fmt) (e0 e1 : Nat) (s0 s1 : Int) : BitVec 512 := packDesc base f 0 0 e0 e1 s0 s1 0 0

/-- R282: the parts of the work region, in the order of the rule: P buffers, PV output tiles, O buffers, carries, D. -/
def AttnRec.pBuf (r : AttnRec) (j : Nat) : Nat := r.workBase + 65536 * (j % 2)
/-- R282: the PV output tile of tile j. -/
def AttnRec.pvBuf (r : AttnRec) (j : Nat) : Nat := r.workBase + 131072 + 16384 * (j % 2)
/-- R282: O buffer k of a row: 0 the current one, 1 the other. -/
def AttnRec.oBuf (r : AttnRec) (k row : Nat) : Nat := r.workBase + 163840 + 512 * (r.rows * k + row)
/-- R282: the carries of a row. -/
def AttnRec.carry (r : AttnRec) (row : Nat) : Nat := r.workBase + 163840 + 1024 * r.rows + 8 * row
/-- R282: the D of a row. -/
def AttnRec.dVal (r : AttnRec) (row : Nat) : Nat := r.workBase + 163840 + 1032 * r.rows + 4 * row

/-- R285: the scores of tile j as the drain writes them (R103); the spec gives the region no place. -/
def AttnRec.scores (r : AttnRec) (j : Nat) (t : AttnTile) (form len0 : Nat) (off : Int) : BitVec 512 :=
  packDesc ((Config.attnScores r.workBase (j % 2)).toNat) .fp32 0 form 4096 t.rows 4 16384 len0 off

/-- R158: the bytes of a chain record: its header, its stage words. -/
def recordBytes (hdr : Nat) (stages : List Nat) : List Byte :=
  let bs := bytesOf 8 hdr ++ stages.flatMap (bytesOf 4)
  bs ++ List.replicate (64 - bs.length) 0#8

/-- R159: a stage word. -/
def stageWord (op x y sreg fn : Nat) : Nat := op * 2 ^ 26 + x * 2 ^ 23 + y * 2 ^ 20 + sreg * 2 ^ 12 + fn

/-- R158: the header of an FP32 chain with n stages: source, b_en, dr_en and dc_en, zfill, cinit; A to C in d8 to d12. -/
def attnHdr (n src : Nat) (b carries zfill cinit : Bool) : Nat :=
  n + 2 ^ 4 + src * 2 ^ 6 + b2n b * 2 ^ 9 + 8 * 2 ^ 12 + 9 * 2 ^ 16 + 10 * 2 ^ 20 + 11 * 2 ^ 24 + b2n carries * (2 ^ 28 + 2 ^ 33) + 12 * 2 ^ 29 +
    b2n zfill * 2 ^ 37 + b2n cinit * 2 ^ 47

/-- R285: the online softmax chain of Vector Engine: mul, rmaxc, sub, exp, rnd to E4M3, rsumc, with the score scale as s5. -/
def AttnRec.softmax (r : AttnRec) (j : Nat) (t : AttnTile) : ChainOp :=
  let off : Int := (r.qPos t.row : Int) - ((4096 * t.blk : Nat) : Int)
  let first := decide (t.blk = r.kPos0 / 4096) && !r.cont
  { record := recordBytes (attnHdr 6 2 false true true first)
      [stageWord 2 1 5 5 0, stageWord 0x22 0 0 0 0, stageWord 4 0 6 0 0, stageWord 0x10 0 0 0 0, stageWord 0x31 0 0 0 4, stageWord 0x23 0 0 0 0]
    recVa := 0, compVa := none, osn := 0, anchor := 0, phase := 0
    descs := [r.scores j t (if r.masks then 3 else 1) (r.keys t.blk) (if r.masks then off else 0), 0#512,
      rowsDesc (r.pBuf j) .e4m3 4096 t.rows 1 4096, rowsDesc (r.dVal t.row) .fp32 t.rows 1 4 0, rowsDesc (r.carry t.row) .fp32 2 t.rows 4 8]
    scalars := [r.scale, 0, 0, 0, 0, 0] }

/-- R285: the rescale chain: the current O buffer times D, into the other one. -/
def AttnRec.rescale (r : AttnRec) (t : AttnTile) : ChainOp :=
  { record := recordBytes (attnHdr 1 0 true false false false) [stageWord 2 1 2 0 0]
    recVa := 0, compVa := none, osn := 0, anchor := 0, phase := 0
    descs := [packDesc (r.oBuf 0 t.row) .fp32 0 1 128 t.rows 4 512 128 0, rowsDesc (r.dVal t.row) .fp32 128 t.rows 0 4,
      rowsDesc (r.oBuf 1 t.row) .fp32 128 t.rows 4 512, 0#512, 0#512]
    scalars := [0] }

/-- R285: the add chain: the drained PV rows, cut to V's 128 columns, plus the other O buffer, into the current one. -/
def AttnRec.add (r : AttnRec) (j : Nat) (t : AttnTile) : ChainOp :=
  { record := recordBytes (attnHdr 1 1 true false false false) [stageWord 3 1 2 0 0]
    recVa := 0, compVa := none, osn := 0, anchor := 0, phase := 0
    descs := [packDesc (r.pvBuf j) .fp32 0 1 256 t.rows 4 1024 128 0, rowsDesc (r.oBuf 1 t.row) .fp32 256 t.rows 4 512,
      rowsDesc (r.oBuf 0 t.row) .fp32 256 t.rows 4 512, 0#512, 0#512]
    scalars := [0] }

/-- R286: the final chain of a row: recip of c1, times the current O buffer, in BF16. -/
def AttnRec.final (r : AttnRec) (row : Nat) : ChainOp :=
  { record := recordBytes (attnHdr 2 0 true false false false) [stageWord 0x14 2 0 0 0, stageWord 2 1 0 0 0]
    recVa := 0, compVa := none, osn := 0, anchor := 0, phase := 0
    descs := [packDesc (r.oBuf 0 row) .fp32 0 1 128 1 4 512 128 0, rowsDesc (r.carry row + 4) .fp32 128 1 0 8,
      rowsDesc (r.outBase + 256 * row) .bf16 128 1 2 256, 0#512, 0#512]
    scalars := [0, 0] }

/-- R285: the block that a tile's passes use: [V | K] in stationary layout, its K extent clipped. -/
def AttnRec.block (r : AttnRec) (b : Nat) : BitVec 512 :=
  packDesc (r.kvBase + (b - r.kPos0 / 4096) * 1048576) .e4m3 1 0 256 (r.keys b) 0 0 0 0

/-- The drain of a pass of attn: FP32, delivered to a chain. -/
def attnDrain (dO : BitVec 512) : DrainSet := { dO := dO, dI := 0#512, fmt := .fp32, rnd := .rne, sat := false, acc := 0, chain := true }

/-- R285: the transposed group that makes a tile's scores, anchor 3. -/
def AttnRec.scorePass (r : AttnRec) (j : Nat) (t : AttnTile) : PassOp :=
  { osn := 0, rows := t.rows, m0 := 0, n0 := 0, dA := rowsDesc (r.qBase + 256 * t.row) .e4m3 256 t.rows 1 256, trans := true, wsrc := false
    gend := true, phase := 0, fa := .e4m3, fw := .e4m3, anchor := 3, drain := attnDrain (r.scores j t 0 0 0)
    gang := GangSet.start, rank := 0, level := 0, replay := false }

/-- R285: the PV pass of a tile, anchor -1. -/
def AttnRec.pvPass (r : AttnRec) (j : Nat) (t : AttnTile) : PassOp :=
  { osn := 0, rows := t.rows, m0 := 0, n0 := 0, dA := rowsDesc (r.pBuf j) .e4m3 (r.keys t.blk) t.rows 1 4096, trans := false, wsrc := false
    gend := false, phase := 0, fa := .e4m3, fw := .e4m3, anchor := -1
    drain := attnDrain (rowsDesc (r.pvBuf j) .fp32 256 t.rows 4 1024)
    gang := GangSet.start, rank := 0, level := 0, replay := false }

/-- A fill of n rows of elements with a value. -/
def fillOp (d : BitVec 512) (v : Nat) : DmaOp := { kind := 1, dD := d, dS := 0#512, dX := 0#512, value := BitVec.ofNat 64 v, sigEn := false, ctr := 0, inc := 0#16 }

/-- A copy between two descriptors. -/
def copyOp (dD dS : BitVec 512) : DmaOp := { kind := 0, dD := dD, dS := dS, dX := 0#512, value := 0#64, sigEn := false, ctr := 0, inc := 0#16 }

/-- R286: what the rows hold before any key is admitted: O is +0, c0 is -infinity, c1 is 0. -/
def AttnRec.clear (r : AttnRec) : Nat → DmaOp
  | 0 => fillOp (rowsDesc (r.oBuf 0 0) .fp32 128 r.rows 4 512) 0
  | 1 => fillOp (rowsDesc (r.carry 0) .fp32 1 r.rows 4 8) 0xFF800000
  | _ => fillOp (rowsDesc (r.carry 0 + 4) .fp32 1 r.rows 4 8) 0

/-- Whether a tile of an entry is queued, or uncommitted. -/
def ArrayState.passPending (a : ArrayState) (seq : Nat) : Bool :=
  a.aq.any (fun e => e.seq == seq) || (a.tiles ++ a.restarts).any (fun t => t.seq == seq && t.state != 0 && t.state != 5)

/-- Whether a chain is queued or running. -/
def ArrayState.chainQueued (a : ArrayState) (seq : Nat) : Bool :=
  a.vq.any (fun e => e.seq == seq) || (match a.vec.running with | some r => r.entry.seq == seq | none => false)

/-- Whether attn goes on with an item: a P buffer is used again once the PV pass that read it has committed, a PV pass waits for its softmax
chain, what reads the cleared buffers waits for the fills, and the last steps wait for everything before them. -/
def AttnRun.ready (g : AttnRun) (a : ArrayState) : AttnItem → Bool
  | .softmax j _ => decide (j < 2) || (match tblFind g.pv (j - 2) with | some q => !a.passPending q | none => true)
  | .pv j _ => (match tblFind g.sm j with | some q => !a.chainQueued q | none => true)
  | .load _ => a.dq.isEmpty && a.dmas.isEmpty
  | .settle => a.settled && a.arrayIdle
  | _ => true

/-- R286: whether no key has been admitted for a row: its running sum is 0. -/
def State.attnEmpty (s : State) (p : Nat) (r : AttnRec) (row : Nat) : Bool :=
  ofBytes (s.peek (s.ctrlAcc p (s.arr p).ctrl.ctx .read) (r.carry row + 4) 4) % 2 ^ 31 == 0

/-- R342, R343: the check level and the replay of a pass that attn issues. -/
def State.attnPass (s : State) (p : Nat) (op : PassOp) : PassOp :=
  let c := (s.arr p).ctrl
  let level := s.effLevel p c.ctx c.chkLevel
  { op with level := level, replay := s.replaySelected c.ctx level op.osn op.m0 op.n0 c.chkNext }

/-- R281, R285: the queue, the operation and whether it takes an operation sequence number, for an item; none where it issues nothing. -/
def State.attnOp (s : State) (p : Nat) (r : AttnRec) (osn : Nat) : AttnItem → Option (Nat × QOp × Bool)
  | .gang => some (0, .gangCfg GangSet.start, false)
  | .clear k => some (2, .dma (r.clear k), false)
  | .load b => some (0, .load false (r.block b) false 0 0, false)
  | .softmax j t => some (1, .chain { r.softmax j t with osn := osn }, true)
  | .scores j t => some (0, .pass (s.attnPass p { r.scorePass j t with osn := osn }), true)
  | .rescale _ t => some (1, .chain { r.rescale t with osn := osn }, true)
  | .add j t => some (1, .chain { r.add j t with osn := osn }, true)
  | .pv j t => some (0, .pass (s.attnPass p { r.pvPass j t with osn := osn }), true)
  | .settle => none
  | .finish row =>
    if s.attnEmpty p r row then some (2, .dma (fillOp (rowsDesc (r.outBase + 256 * row) .bf16 128 1 2 256) 0), false)
    else some (1, .chain { r.final row with osn := osn }, true)
  | .copyCarries => some (2, .dma (copyOp (rowsDesc r.outBase .fp32 2 r.rows 4 520) (rowsDesc (r.carry 0) .fp32 2 r.rows 4 8)), false)
  | .copyO => some (2, .dma (copyOp (rowsDesc (r.outBase + 8) .fp32 128 r.rows 4 520) (rowsDesc (r.oBuf 0 0) .fp32 128 r.rows 4 512)), false)
/-- R281: attn returns: s1 holds the status, and the registers that it changes hold anything. -/
def State.attnReturn (s : State) (p : Nat) (g : AttnRun) (status : Nat) : State :=
  let f (c : Ctrl) : Ctrl := (List.range 12).foldl (fun c i => c.sput (20 + i) (s.freeAt i)) c
  let h (c : Ctrl) : Ctrl := (List.range 4).foldl (fun c i => c.pput (4 + i) ((s.freeAt (12 + i)).testBit 0)) c
  let d (c : Ctrl) : Ctrl := (List.range 8).foldl (fun c i => c.dput (8 + i) (BitVec.ofNat 512 (s.freeAt (16 + i)))) c
  let n := s.freeAt 24 % 2 ^ 32
  (((s.modCtrl p (fun c => { (d (h (f c))).sput 1 status with
    attn := none, pc := BitVec.ofNat 48 g.ret, retired := c.retired + n })).bump64 (rAryAcRetired p) n)).drawn

/-- R281, R285: attn issues an item that its queue has room for. -/
def State.attnIssue (s : State) (p : Nat) (g : AttnRun) (r : AttnRec) (item : AttnItem) : State :=
  match s.attnOp p r ((r.osnBase + g.ops) % 2 ^ 32) item with
  | none => s.modCtrl p (fun c => { c with attn := some { g with pos := g.pos + 1 } })
  | some (q, op, counts) =>
    let a := (s.arr p).usedBy q
    let seq := a.ctrl.seq + 1
    let osn := if counts then (r.osnBase + g.ops) % 2 ^ 32 else 0
    let e : QEntry :=
      { seq := seq, pc := (Config.attnPc g.pos).toNat, w0 := Config.attnWord g.pos 0, w1 := Config.attnWord g.pos 1, osn := osn
        launch := none, late := [], op := op }
    let g := { g with
      pos := g.pos + 1, ops := g.ops + b2n counts
      sm := match item with | .softmax j _ => tblPut g.sm j seq | _ => g.sm
      pv := match item with | .pv j _ => tblPut g.pv j seq | _ => g.pv }
    let c := a.ctrl
    let c := { c with
      attn := some g, seq := seq, gang := GangSet.start
      drain := match op with | .pass x => some x.drain | _ => c.drain
      chkNext := match op with | .pass _ => false | _ => c.chkNext }
    s.setArr p { a.setQueue q (a.queue q ++ [e]) with ctrl := c }

/-- R281, R282: attn reads its record and returns status 1 or 2, or begins. -/
def State.attnRead (s : State) (p : Nat) (g : AttnRun) : State :=
  if g.va % 64 ≠ 0 then s.attnReturn p g 1
  else match s.recordRead p (g.va % 2 ^ 48) 64 with
    | .ok bs s =>
      let r := attnRec bs
      if r.invalid g.va then s.attnReturn p g 1
      else if r.workSize < r.needs then s.attnReturn p g 2
      else s.modCtrl p (fun c => { c with attn := some { g with record := some r }, recGot := none })
    | .bad d a s => s.issueFault p 0x87 d (Config.attnWord g.pos 0) (Config.attnWord g.pos 1) 0xFF 0 a
    | .tr t => s.ctrlStall p 1 g.va .read t
    | .wait => s.recordAsk p (g.va % 2 ^ 48) 64

/-- R281, R285: one step of attn. -/
def State.attnStep (s : State) (p : Nat) (g : AttnRun) : State :=
  match g.record with
  | none => s.attnRead p g
  | some r =>
    match r.items[g.pos]? with
    | none => s.attnReturn p g 0
    | some item =>
      let a := s.arr p
      let full := match s.attnOp p r 0 item with | some (q, _) => decide (queueBound q ≤ (a.queue q).length) | none => false
      if full || !g.ready a item then s else s.attnIssue p g r item

/-- R281: attn goes on as far as it can: while its controller runs, waits for nothing, and its context is not being switched. -/
def State.attnGo (s : State) (p : Nat) : Nat → State
  | 0 => s
  | n + 1 =>
    let a := s.arr p
    match a.ctrl.attn with
    | none => s
    | some g =>
      if a.ctrl.state ≠ 1 || a.ctrl.blocked != .no || !a.runs then s else (s.attnStep p g).attnGo p n

/-- R225, R281: a bound on the steps that attn takes before it waits: an item that is issued takes a place in a queue, and the queues have 80
places; its record, its two waits and its return are the rest. -/
def attnFuel : Nat := 84

/-- R281, R539: whether a jump target of a controller is the entry of attn: the virtual address at which its context maps the library's first
page, plus attn_off. -/
def State.attnEntry (s : State) (p va : Nat) : Bool :=
  let base := s.reg64 rMgtLibBase
  let off := (s.reg rMgtLibAttn).toNat
  match s.access (s.ctrlAcc p (s.arr p).ctrl.ctx .fetch) (va - off) with
  | .ok pa => decide (base ≠ 0) && decide (off ≤ va) && pa == base
  | _ => false

end Sys2Proof.Machine
end

