-- ==== Sys2Proof/Machine/QueueOps.lean ====
section
/-!
DEFINITION. A controller's queues (06_control_isa R203, R219, R224, R225): entries that start by themselves, an instruction that enters a queue,
and the calls of R195.
-/
namespace Sys2Proof.Machine

/-- R127, R212: a program reaches the cores of a rectangle and arms them. -/
def State.loadProgram (s : State) (p : Nat) (words : List Word) (r0 r1 c0 c1 : Nat) : State :=
  let n := (s.logOf p).getD 0
  (List.range (r1 + 1 - r0)).foldl (fun s r =>
    (List.range (c1 + 1 - c0)).foldl (fun s c =>
      let id := n * 65536 + (r0 + r) * 256 + (c0 + c)
      s.setCore id { s.core id with prog := words, armed := true }) s) s

/-- R203: entries at the head of the array queue that start and complete by themselves: drain configurations and program
loads, and reductions. Fuel: the queue's length. A program load stalls on a translation fault, and poison in it ends it as a data fault
of the entry. -/
def State.advance (s : State) (p : Nat) : Nat → State
  | 0 => s
  | f + 1 =>
    let a := s.arr p
    match a.aq with
    | [] => s
    | e :: es =>
      match e.op with
      | .drainCfg => (s.setArr p { a with aq := es }).advance p f
      | .coreLoad va n r0 r1 c0 c1 =>
        let acc := s.unitAcc p a.ctrl.ctx .read
        (match s.firstFault acc [(va, 4 * n)] with
        | some (v, t) => if s.memst.stalled.any (fun x => x.array == p && x.unit == 7) then s else s.stallTr a.ctrl.ctx 7 p v .read t
        | none =>
          let rs := s.physRanges acc [(va, 4 * n)]
          let s := s.readRanges (some a.ctrl.ctx) rs
          let okPlace := rs.all (fun r => match s.place r.1 with | .hbm | .edge .. => true | _ => false)
          if !okPlace then (s.setArr p { s.arr p with aq := es }).entryFault p e 0x87 2 (sA e.w0) va
          else
          (match s.firstBad rs with
          | some b => (s.setArr p { s.arr p with aq := es }).entryFault p e 0x87 3 (sA e.w0) b
          | none =>
            let bs := s.peek acc va (4 * n)
            let ws := (List.range n).map (fun i => BitVec.ofNat 32 (leAt bs (4 * i) 4))
            ((s.setArr p { a with aq := es }).loadProgram p ws r0 r1 c0 c1).advance p f))
      | .reduce dP _ _ anchor _ _ _ g .. =>
        let t := s.reduceStart p e dP anchor g
        if (t.arr p).aq.length < a.aq.length then t.advance p f else t
      | _ => s

/-- advance with enough fuel, and attn, if the program has called it; nothing starts after a stop request (R226); a controller that took a
fault is settled once nothing of it is left (R229). -/
def State.advanceQ (s : State) (p : Nat) : State :=
  (if s.stopping p then s else (s.advance p ((s.arr p).aq.length + 1)).attnGo p attnFuel).settleFault p

/-- R225: an instruction goes on when its queue has room; a full queue stalls it with cause 1, 2 or 3. -/
def State.withRoom (s : State) (p q : Nat) (k : State → State) : State :=
  if queueBound q ≤ ((s.arr p).queue q).length then s.stallIssue p (q + 1) else k s

/-- R224: an instruction that enters a queue goes on once every earlier store of the controller has been performed; stores that left through
windows hold it until they are acknowledged, and a store that was refused leaves no program to go on with. -/
def State.afterStores (s : State) (p : Nat) (k : State → State) : State :=
  let s := s.drainStores p
  if (s.arr p).ctrl.state ≠ 1 then s
  else if !s.storesDone p then s.stallIssue p 7
  else k s

/-- R191, R219, R224, R225: an instruction enters a queue: earlier stores are performed first, a full queue stalls it, a
launchable one consumes the pending launch time. prep is what else its issue changes in the controller. -/
def State.enqueueWith (s : State) (p q : Nat) (w0 : Word) (w1 : Word) (len osn : Nat) (launchable : Bool) (op : QOp) (prep : Ctrl → Ctrl) : State :=
  s.afterStores p (fun s => s.withRoom p q (fun s =>
    let a := (s.arr p).usedBy q
    let e : QEntry :=
      { seq := a.ctrl.seq + 1, pc := a.ctrl.pc.toNat, w0 := w0, w1 := w1, osn := osn
        launch := if launchable then a.ctrl.launch else none, late := if launchable then a.ctrl.launchLate else [], op := op }
    let a := a.setQueue q (a.queue q ++ [e])
    let c := prep a.ctrl
    let c := { c with seq := c.seq + 1, launch := if launchable then none else c.launch
                      launchLate := if launchable then [] else c.launchLate }
    let a := { a with ctrl := c }
    ((s.setArr p a).ctrlNext p len).advanceQ p))

/-- enqueueWith for an instruction whose issue changes nothing else. -/
def State.enqueue (s : State) (p q : Nat) (w0 : Word) (w1 : Word) (len osn : Nat) (launchable : Bool) (op : QOp) : State :=
  s.enqueueWith p q w0 w1 len osn launchable op id

/-- R195, R281: a call: sd := PC + 4, and the program goes on at the target. At the entry of attn, the routine begins: the address of its record
is in s1. -/
def State.ctrlCall (s : State) (p rd target : Nat) : State :=
  let ret := (((s.arr p).ctrl.pc.toNat) + 4) % 2 ^ 48
  let s := (s.modCtrl p (fun c => c.sput rd ret)).ctrlJump p target
  if s.attnEntry p (target % 2 ^ 48) then
    (s.modCtrl p (fun c => { c with attn := some ⟨c.sget 1, none, c.sget rd % 2 ^ 48, 0, 0, [], []⟩ })).advanceQ p
  else s

/-- jal: sd := PC + 4; PC := PC + 4 × sext([20:0]). -/
def execJal (p : ArrayId) (w : Word) (s : State) : Out :=
  .next (ctrlGate p w none ctrlKnown 0xFC000000 0x38000000 0x00000000 0x00000000 s (fun s =>
    s.ctrlCall p.val (sD w) (wrapInt 48 (((s.arr p.val).ctrl.pc.toNat : Int) + 4 * toSigned 21 (bitsOf w.toNat 20 0)))))

/-- jalr: sd := PC + 4; PC := sa + sext(imm11); sa is read before sd is written. -/
def execJalr (p : ArrayId) (w : Word) (s : State) : Out :=
  .next (ctrlGate p w none ctrlKnown 0xFC000000 0x3C000000 0x00000000 0x0000F800 s (fun s =>
    s.ctrlCall p.val (sD w) ((s.arr p.val).ctrl.sget (sA w) + sImm w)))

end Sys2Proof.Machine
end

