-- ==== Sys2Proof/Machine/ArrayIssue.lean ====
section
/-!
DEFINITION. The instructions that enter the array command queue (06_control_isa R205 to R212): their checks at issue (R204)
and the operands they capture (R191).
-/
namespace Sys2Proof.Machine

/-- A check at issue: the code and detail of the fault, the register or descriptor concerned and the address concerned, where it fails
(R228). -/
abbrev IssueCheck := Option (Nat × Nat × Nat × Nat)

/-- A condition that raises a fault when it holds, with the address it concerns. -/
def failAt (c : Bool) (code detail reg addr : Nat) : IssueCheck := if c then some (code, detail, reg, addr) else none

/-- A condition that raises a fault when it holds. -/
def failIf (c : Bool) (code detail reg : Nat) : IssueCheck := failAt c code detail reg 0

/-- The first check that fails raises its fault; when none fails, the instruction goes on. -/
def State.checked (s : State) (p : Nat) (w0 w1 : Word) (cs : List IssueCheck) (k : State → State) : State :=
  match cs.find? (fun c => c.isSome) with
  | some (some (code, detail, reg, addr)) => s.issueFault p code detail w0 w1 reg 0 addr
  | _ => k s

/-- R40: a format code in a role; reg: the descriptor that names it, 0xFF for one in the instruction's words. -/
def fmtCheck (code : Nat) (role : Fmt → Bool) (reg : Nat) : IssueCheck :=
  match fmtOfCode code with
  | none => some (0x82, 1, reg, 0)
  | some f => if role f then none else some (0x82, 3, reg, 0)

/-- R201: a descriptor in a role: reserved format, its own faults, the layout its role takes. -/
def descCheck (d : Desc) (layout reg : Nat) : List IssueCheck :=
  [failIf d.fmt.isNone 0x82 1 reg,
   (match d.fault with | some n => some (0x88, n, reg, if n = 4 then d.table else 0) | none => none),
   failIf (decide (d.layout ≠ layout)) 0x88 5 reg]

/-- The format a code names; FP32 stands in where the code is reserved, which the checks before it exclude. -/
def fmtOr (code : Nat) : Fmt := (fmtOfCode code).getD .fp32

/-- R207, R208: dimensions 2 to 4 of an operand are 1. -/
def flatDims (d : Desc) : Bool := d.extOf 2 == 1 && d.extOf 3 == 1 && d.extOf 4 == 1

/-- R200: extents of a stationary block. -/
def blockDims (d : Desc) : Bool := decide (d.extOf 0 ≤ 256) && decide (d.extOf 1 ≤ 256 * kappa (fmtOr d.code))

/-- R205: the park slot and scale region an instruction names lie where they may. -/
def State.parkChecks (s : State) (ctx slot scale reg : Nat) : List IssueCheck :=
  let r := s.parkAlloc ctx
  [failIf (decide (slot < r.1 ∨ r.1 + r.2 ≤ slot)) 0x8D 1 reg, failAt (decide (scale % 64 ≠ 0)) 0x8D 3 reg scale]

/-- R205: load and load.s. -/
def State.issueLoad (s : State) (p : Nat) (w : Word) (shadow : Bool) : State :=
  let c := (s.arr p).ctrl
  let r := bitsOf w.toNat 24 21
  let dW := c.dget r
  let d := descOf dW
  let sp := c.sget (sA w)
  let park := w.toNat.testBit 7
  let slot := bitsOf sp 7 0
  let scale := bitsOf sp 55 8
  s.checked p w 0 (descCheck d 1 r ++
    [fmtCheck d.code fmtOperand r, failIf (shadow && decide (d.fmt = some .fp32)) 0x82 7 r,
     failIf (!flatDims d) 0x83 3 r, failIf (!blockDims d) 0x83 2 r] ++
    (if park then s.parkChecks c.ctx slot scale (sA w) else []))
    (fun s => s.enqueue p 0 w 0 4 0 false (.load shadow dW park slot scale))

/-- load: a stationary block from the edge store into the active set. -/
def execLoadBlock (p : ArrayId) (w : Word) (s : State) : Out :=
  .next (ctrlGate p w none ctrlKnown 0xFC000700 0x80000000 0x02000000 0x0000F87F s (fun s => s.issueLoad p.val w false))

/-- load.s: a stationary block into the shadow set. -/
def execLoadS (p : ArrayId) (w : Word) (s : State) : Out :=
  .next (ctrlGate p w none ctrlKnown 0xFC000700 0x80000100 0x02000000 0x0000F87F s (fun s => s.issueLoad p.val w true))

/-- unpark: a park slot into the shadow set; dW is 0. -/
def execUnpark (p : ArrayId) (w : Word) (s : State) : Out :=
  .next (ctrlGate p w none ctrlKnown 0xFC000700 0x80000200 0x02000000 0x01E0F8FF s (fun s =>
    let c := (s.arr p.val).ctrl
    let sp := c.sget (sA w)
    s.checked p.val w 0 (s.parkChecks c.ctx (bitsOf sp 7 0) (bitsOf sp 55 8) (sA w))
      (fun s => s.enqueue p.val 0 w 0 4 0 false (.unpark (bitsOf sp 7 0) (bitsOf sp 55 8)))))

/-- R206: swap enqueues one swap token. -/
def execSwapSets (p : ArrayId) (w : Word) (s : State) : Out :=
  .next (ctrlGate p w none ctrlKnown 0xFC0007FF 0x64000000 0x00000000 0x03FFF800 s (fun s => s.enqueue p.val 0 w 0 4 0 false .swap))

/-- R207: the checks of a drain configuration at issue. -/
def drainChecks (fmt rnd acc : Nat) (dO dI : Desc) (rO rI : Nat) : List IssueCheck :=
  [fmtCheck fmt fmtDrain 0xFF, failIf (rnd == 3) 0x82 4 0xFF, failIf (acc == 1 && fmt != 0x11) 0x82 3 0xFF] ++
  descCheck dO 0 rO ++
  [failIf (!flatDims dO) 0x83 3 rO, failIf (dO.code != fmt) 0x82 6 rO, failIf (fmtMx (fmtOr fmt) && dO.mxAxis != 0) 0x82 5 rO] ++
  (if acc = 0 then [] else descCheck dI 0 rI ++ [failIf (dI.code != 0x11) 0x82 3 rI])

/-- R67: the rounding mode of two bits. -/
def rndOr (n : Nat) : Rnd := (rndOfCode n).getD .rne

/-- drain: the drain configuration of the passes that enter the queue after it. -/
def execDrain (p : ArrayId) (w0 w1 : Word) (s : State) : Out :=
  .next (ctrlGate p w0 (some w1) ctrlKnown 0xFC000000 0xE4000000 0x02000000 0x0001FFFF s (fun s =>
    let c := (s.arr p.val).ctrl
    let rO := bitsOf w0.toNat 24 21
    let rI := bitsOf w0.toNat 20 17
    let fmt := bitsOf w1.toNat 4 0
    let rnd := bitsOf w1.toNat 6 5
    let acc := bitsOf w1.toNat 9 8
    let d : DrainSet :=
      { dO := c.dget rO, dI := if acc = 0 then 0#512 else c.dget rI, fmt := fmtOr fmt, rnd := rndOr rnd
        sat := w1.toNat.testBit 7, acc := acc, chain := w1.toNat.testBit 10, rO := rO, rI := if acc = 0 then 0xFF else rI }
    s.checked p.val w0 w1
      ([failIf (decide (bitsOf w1.toNat 31 11 ≠ 0) || (acc == 0 && rI != 0)) 0x80 3 0xFF, failIf (acc == 3) 0x80 2 0xFF] ++
        drainChecks fmt rnd acc (descOf d.dO) (descOf d.dI) rO rI)
      (fun s => s.enqueueWith p.val 0 w0 w1 8 0 false .drainCfg (fun c => { c with drain := some d }))))

/-- R115: the rank of an array in its gang. -/
def State.gangRank (s : State) (p : Nat) (g : GangSet) : Nat := (s.logOf p).getD 0 % 2 ^ g.log2

/-- R116, R209: the rows of member i of an M split of m rows. -/
def memberRows (m g i : Nat) : Nat := m / g + (if i < m % g then 1 else 0)

/-- R209: the first row of member i. -/
def memberBase (m g i : Nat) : Nat := sumTo i (memberRows m g)

/-- R84, R99: the greatest row count of a pass. -/
def maxRows (trans : Bool) (fw : Fmt) : Nat := if trans then 256 / kappa fw else 4096

/-- R190, R209: the checks of a pass that concern its drain configuration. -/
def passDrainCheck (d : Option DrainSet) (split : Nat) : IssueCheck :=
  match d with
  | none => some (0x83, 9, 0xFF)
  | some d => failIf (split == 3 && decide (d.fmt ≠ .record)) 0x82 3 0xFF

/-- R208, R209: pass and pass.t. -/
def State.issuePass (s : State) (p : Nat) (w0 w1 : Word) (trans : Bool) : State :=
  let c := (s.arr p).ctrl
  let x := c.sget (sD w0)
  let y := c.sget (sA w0)
  let rA := bitsOf w0.toNat 15 12
  let fa := bitsOf w1.toNat 23 19
  let fw := bitsOf w1.toNat 18 14
  let d := descOf (c.dget rA)
  let m := bitsOf x 47 32 + 1
  let osn := bitsOf x 31 0
  let g := c.gang
  let n := 2 ^ g.log2
  let rank := s.gangRank p g
  let rows := if g.split = 1 then memberRows m n rank else m
  let m0 := bitsOf y 31 0
  let n0 := bitsOf y 63 32
  let m0' := if g.split = 1 then m0 + memberBase m n rank else m0
  let n0' := if g.split = 2 then n0 + 256 * rank else n0
  let level := s.effLevel p c.ctx c.chkLevel
  let op : PassOp :=
    { osn := osn, rows := rows, m0 := m0', n0 := n0', dA := c.dget rA, trans := trans, wsrc := w0.toNat.testBit 10
      gend := w0.toNat.testBit 9, phase := bitsOf w1.toNat 31 24, fa := fmtOr fa, fw := fmtOr fw
      anchor := toSigned 10 (bitsOf w1.toNat 9 0)
      drain := c.drain.getD { dO := 0#512, dI := 0#512, fmt := .record, rnd := .rne, sat := false, acc := 0, chain := false }
      gang := g, rank := rank, level := level, replay := s.replaySelected c.ctx level osn m0' n0' c.chkNext }
  s.checked p w0 w1
    ([failIf (decide (bitsOf w1.toNat 13 10 ≠ 0)) 0x80 3 0xFF, fmtCheck fa fmtOperand 0xFF, fmtCheck fw fmtOperand 0xFF,
      failIf (!pairAllowed (fmtOr fa) (fmtOr fw)) 0x82 2 0xFF] ++ descCheck d 0 rA ++
     [failIf (!flatDims d) 0x83 3 rA, failIf (fmtMx (fmtOr fa) && d.mxAxis != 0) 0x82 5 rA,
      failIf (g.split == 1 && decide (4096 < rows)) 0x83 6 (sD w0),
      failIf (decide (maxRows trans (fmtOr fw) < rows)) 0x83 1 (sD w0),
      failIf (decide (2 ^ 32 < m0 + m)) 0x83 1 (sA w0), passDrainCheck c.drain g.split])
    (fun s => s.enqueueWith p 0 w0 w1 8 osn true (.pass op) (fun c => { c with chkNext := false }))

/-- pass: a normal array-mode pass. -/
def execPass (p : ArrayId) (w0 w1 : Word) (s : State) : Out :=
  .next (ctrlGate p w0 (some w1) ctrlKnown 0xFC000800 0xE0000000 0x00000000 0x000003FF s (fun s => s.issuePass p.val w0 w1 false))

/-- pass with t: one block step of a transposed group. -/
def execPassT (p : ArrayId) (w0 w1 : Word) (s : State) : Out :=
  .next (ctrlGate p w0 (some w1) ctrlKnown 0xFC000800 0xE0000800 0x00000000 0x000001FF s (fun s => s.issuePass p.val w0 w1 true))

/-- R210: whether the gang's block of logical arrays lies inside the context's partition. -/
def State.gangInside (s : State) (ctx p log2 : Nat) : Bool :=
  let n := (s.logOf p).getD 0
  (List.range (2 ^ log2)).all (fun i => s.inPartition ctx (n / 2 ^ log2 * 2 ^ log2 + i))

/-- R201, R210: the checks of the record region that a K split names: strided, for records (notes/assumptions/39). -/
def regionChecks (g : GangSet) (reg : Nat) : List IssueCheck :=
  if g.split = 3 then descCheck (descOf g.region) 0 reg ++ [failIf ((descOf g.region).code != 0x11) 0x82 3 reg] else []

/-- gang.cfg: a gang configuration enters the queue; passes issued after it are its members' passes. -/
def execGangCfg (p : ArrayId) (w : Word) (s : State) : Out :=
  .next (ctrlGate p w none ctrlKnown 0xFC0007FF 0x64000001 0x02000000 0x0000F800 s (fun s =>
    let c := (s.arr p.val).ctrl
    let v := c.sget (sA w)
    let g : GangSet := ⟨bitsOf v 2 0, bitsOf v 5 4, bitsOf v 15 8, c.dget (sD w)⟩
    s.checked p.val w 0
      ([failIf (decide (v / 65536 ≠ 0) || v.testBit 3 || v.testBit 6 || v.testBit 7 || decide (4 < g.log2)) 0x80 3 (sA w),
        failIf (!s.gangInside c.ctx p.val g.log2) 0x86 1 (sA w)] ++ regionChecks g (sD w))
      (fun s => s.enqueueWith p.val 0 w 0 4 0 false (.gangCfg g) (fun c => { c with gang := g }))))

/-- R210, R204: a rank that receives has a region that holds one member record tile. -/
def State.regionFits (s : State) (p : Nat) (g : GangSet) (d : Desc) : Bool :=
  sendLevel (s.gangRank p g) g.log2 == 0 ||
    (decide (d.extOf 0 ≤ (descOf g.region).extOf 0) && decide (d.extOf 1 ≤ (descOf g.region).extOf 1))

/-- R211: reduce enters the queue. The output descriptor is rank 0's and is checked there: it holds the total, which has the extents of
dP. -/
def execReduceTree (p : ArrayId) (w0 w1 : Word) (s : State) : Out :=
  .next (ctrlGate p w0 (some w1) ctrlKnown 0xFC000000 0xE8000000 0x00000000 0x02000FFF s (fun s =>
    let c := (s.arr p.val).ctrl
    let rP := bitsOf w0.toNat 24 21
    let rO := bitsOf w0.toNat 15 12
    let osn := bitsOf (c.sget (sA w0)) 31 0
    let fmt := bitsOf w1.toNat 14 10
    let rnd := bitsOf w1.toNat 16 15
    let g := c.gang
    let dP := descOf (c.dget rP)
    let dO := descOf (c.dget rO)
    let level := s.effLevel p.val c.ctx c.chkLevel
    s.checked p.val w0 w1
      ([failIf (decide (bitsOf w1.toNat 31 18 ≠ 0)) 0x80 3 0xFF, failIf (g.split != 3 || g.log2 == 0) 0x86 3 0xFF,
        fmtCheck fmt fmtDrain 0xFF, failIf (rnd == 3) 0x82 4 0xFF] ++ descCheck dP 0 rP ++
       [failIf (dP.code != 0x11) 0x82 3 rP, failIf (!flatDims dP) 0x83 3 rP, failAt (!s.regionFits p.val g dP) 0x83 7 rP (descOf g.region).base] ++
       (if s.gangRank p.val g = 0 then
          descCheck dO 0 rO ++ [failIf (!flatDims dO || decide (dO.extOf 0 < dP.extOf 0) || decide (dO.extOf 1 < dP.extOf 1)) 0x83 3 rO,
            failIf (dO.code != fmt) 0x82 6 rO,
            failIf (fmtMx (fmtOr fmt) && dO.mxAxis != 0) 0x82 5 rO]
        else []))
      (fun s => s.enqueueWith p.val 0 w0 w1 8 osn false
        (.reduce (c.dget rP) (c.dget rO) osn (toSigned 10 (bitsOf w1.toNat 9 0)) (fmtOr fmt) (rndOr rnd) (w1.toNat.testBit 17)
          g level c.chkNext) (fun c => { c with chkNext := false }))))

/-- R212: core.load enters the queue. -/
def execCoreLoad (p : ArrayId) (w0 w1 : Word) (s : State) : Out :=
  .next (ctrlGate p w0 (some w1) ctrlKnown 0xFC000000 0xF8000000 0x00000000 0x03E0FF80 s (fun s =>
    let c := (s.arr p.val).ctrl
    let va := c.sget (sA w0)
    let n := bitsOf w0.toNat 6 0
    let r0 := bitsOf w1.toNat 7 0
    let r1 := bitsOf w1.toNat 15 8
    let c0 := bitsOf w1.toNat 23 16
    let c1 := bitsOf w1.toNat 31 24
    s.checked p.val w0 w1
      [failIf (decide (r1 < r0 ∨ c1 < c0 ∨ n = 0 ∨ 64 < n) || (s.slAlloc c.ctx).2 == 0) 0x83 8 0xFF,
       failAt (decide (va % 4 ≠ 0)) 0x87 1 (sA w0) va]
      (fun s => s.enqueue p.val 0 w0 w1 8 0 false (.coreLoad va n r0 r1 c0 c1))))

/-- R212: core.run enters the queue with its argument. -/
def execCoreRun (p : ArrayId) (w : Word) (s : State) : Out :=
  .next (ctrlGate p w none ctrlKnown 0xFC0007FF 0x64000002 0x00000000 0x03E0F800 s (fun s =>
    s.enqueue p.val 0 w 0 4 0 true (.coreRun (BitVec.ofNat 32 ((s.arr p.val).ctrl.sget (sA w))))))

/-- R144, R212: core.stop stops every core of the run at once; without a run it does nothing. -/
def execCoreStop (p : ArrayId) (w : Word) (s : State) : Out :=
  .next (ctrlGate p w none ctrlKnown 0xFC0007FF 0x64000003 0x00000000 0x03FFF800 s (fun s =>
    let s := s.ctrlNext p.val 4
    if (s.arr p.val).run.running then
      (s.modArr p.val (fun a => { a with run := { a.run with stopped := true } })).stopRun p.val false
    else s))

end Sys2Proof.Machine
end

