-- ==== Sys2Proof/Machine/ArrayMode.lean ====
section
/-!
DEFINITION. The events of array mode (03_array_mode R80 to R122): north-feed transfers, swap tokens, passes, verdicts,
commits, K-split levels, aborts and restarts.
-/
namespace Sys2Proof.Machine

/-- A tile whose rows are entering the grid: a pass, or a block step of an open group. -/
def Tile.streaming (t : Tile) : Bool := t.state == 1 && !t.openGroup

/-- The format of a tile's present stationary block. -/
def Tile.stepFmt (t : Tile) : Option Fmt :=
  match t.steps.reverse with
  | (op, _) :: _ => some op.fw
  | [] => none

/-- Whether any pass streams. -/
def ArrayState.streams (a : ArrayState) : Bool := a.tiles.any Tile.streaming

/-- R77: whether an FP32 pass streams. -/
def ArrayState.fp32Streams (a : ArrayState) : Bool := a.tiles.any (fun t => t.streaming && t.stepFmt == some .fp32)

/-- R88: whether a transposed input stream holds the north feed. -/
def ArrayState.northStreams (a : ArrayState) : Bool := a.tiles.any (fun t => t.streaming && t.transposed)

/-- R265: whether a unit of an array is stalled on a translation fault. -/
def State.unitStalled (s : State) (p unit : Nat) : Bool := s.memst.stalled.any (fun x => x.array == p && x.unit == unit && s.residentAt p == some x.ctx)

/-- Remove the head of the array command queue. -/
def State.popAq (s : State) (p : Nat) : State := s.modArr p (fun a => { a with aq := a.aq.drop 1 })

/-- R91: whether a block belongs to the context and generation of a controller. -/
def Block.owned (b : Block) (c : Ctrl) : Bool := b.ctx == c.ctx && b.gen == c.gen

/-- R77: what a transfer into the shadow set does to the sets when it starts: an FP32 pair is broken. -/
def ArrayState.openShadow (a : ArrayState) : ArrayState :=
  { a with active := if a.fp32Pair then none else a.active, shadow := none, fp32Pair := false }

/-- R77: what a load into the active set does to the sets when it starts; an FP32 block takes both. -/
def ArrayState.openActive (a : ArrayState) (f : Fmt) : ArrayState :=
  { a with active := none, shadow := if a.fp32Pair || f == .fp32 then none else a.shadow, fp32Pair := false }

/-- R87, R88, R33: a load or load.s starts its transfer from the array's own edge store; a block that lies elsewhere is refused
(notes/assumptions/105). A park slot being written is empty until the transfer completes. -/
def State.loadStart (s : State) (p : Nat) (e : QEntry) (shadow : Bool) (dW : BitVec 512) (park : Bool) (slot : Nat) : State :=
  let a := s.arr p
  let ctx := a.ctrl.ctx
  let d := descOf dW
  let rs := blockRanges d (fmtOr d.code)
  let acc := s.unitAcc p ctx .read
  let busy := if shadow then a.fp32Streams else a.streams
  if busy ∨ a.northStreams ∨ s.unitStalled p 3 then s
  else match s.firstEdgeFault p acc rs with
    | some (v, t) => s.stallTr ctx 3 p v .read t
    | none =>
      if (s.physRanges acc rs).any (fun r => s.uncommittedHit r.1 r.2) then s
      else
        let n := (s.logOf p).getD 0
        let slotHeld := park && (s.tilesAt (slateBase (n * 65536))).any (fun t => t.held.any (fun r =>
          match s.place r.addr with | .slate _ _ b => b / 16 == slot | _ => false))
        if slotHeld then (s.popAq p).heldRefuse ctx 3 p slot (slateBase (n * 65536) + 16 * slot)
        else
          let s := (s.popAq p).modArr p (fun a =>
            let a := if shadow then a.openShadow else a.openActive (fmtOr d.code)
            { a with feed := some e, park := if park then tblDel a.park slot else a.park })
          (if park then s.setOcc p slot false else s).advanceQ p

/-- R205, R91: an unpark starts its scale phase, or takes the stationary-absent fault. -/
def State.unparkStart (s : State) (p : Nat) (e : QEntry) (slot scale : Nat) : State :=
  let a := s.arr p
  let ctx := a.ctrl.ctx
  if a.fp32Streams ∨ a.northStreams ∨ s.unitStalled p 3 then s
  else match tblFind a.park slot with
    | none => (s.popAq p).entryFault p e 0x85 3 (sA e.w0) 0
    | some b =>
      if !b.owned a.ctrl then (s.popAq p).entryFault p e 0x85 3 (sA e.w0) 0
      else
        let acc := s.unitAcc p ctx .read
        let rs := scaleRanges scale b
        match s.firstEdgeFault p acc rs with
        | some (v, t) => s.stallTr ctx 3 p v .read t
        | none =>
          if (s.physRanges acc rs).any (fun r => s.uncommittedHit r.1 r.2) then s
          else ((s.popAq p).modArr p (fun a => { a.openShadow with feed := some e })).advanceQ p

/-- R88: the transfer at the head of the queue starts once the north feed is free. A transposed input stream starts with
its pass. -/
def execNorthFeedTransferStart (p : ArrayId) (s : State) : Out :=
  .next (
    let a := s.arr p.val
    if !a.runs || a.feed.isSome || a.run.running || s.replayOn p.val || !a.restarts.isEmpty then s
    else match a.aq with
      | e :: _ => match e.op with
        | .load shadow dW park slot _ => s.loadStart p.val e shadow dW park slot
        | .unpark slot scale => s.unparkStart p.val e slot scale
        | _ => s
      | [] => s)

/-- R357: a block joins the weight digest of an array. -/
def wdigAdd (d hb : Nat) : Nat := mix64 (d ^^^ hb)

/-- R205: the scales of a parked block are copied to its scale region. -/
def State.copyScales (s : State) (p ctx va : Nat) (b : Block) : State :=
  if fmtMx b.fmt then
    let acc := s.unitAcc p ctx .write
    (indices [b.n, ceilDiv b.k 32]).foldl (fun s ix =>
      s.poke acc (some ctx) (scaleAt va (32 * nth 0 ix 1) (nth 0 ix 0))
        [BitVec.ofNat 8 (nth (0, 127) (nth [] b.cols (nth 0 ix 0)) (32 * nth 0 ix 1)).2]) s
  else s

/-- R87, R205: a load or load.s completes: its set holds the block, its owner and its digest; a park slot too. -/
def State.loadDone (s : State) (p : Nat) (shadow : Bool) (dW : BitVec 512) (park : Bool) (slot scale : Nat) : State :=
  let a := s.arr p
  let ctx := a.ctrl.ctx
  let d := descOf dW
  let f := fmtOr d.code
  let acc := s.unitAcc p ctx .read
  let ph := s.physRanges acc (blockRanges d f)
  let s := s.readRanges (some ctx) ph
  match s.firstBad ph with
  | some b => s.flintPoison p 1 1 0 b
  | none =>
    let b := s.readBlock p ctx a.ctrl.gen dW f ph
    let sc := scaleRanges scale b
    let accW := s.unitAcc p ctx .write
    match if park then s.firstEdgeFault p accW sc else none with
    | some (v, t) => if s.unitStalled p 3 then s else s.stallTr ctx 3 p v .write t
    | none =>
      let held := park && (s.physRanges accW sc).any (fun r => (s.tilesAt r.1).any (fun t => t.held.any (fun h => h.meets r.1 r.2)))
      if held then (s.modArr p (fun a => { a with feed := none })).heldRefuse ctx 3 p scale 0
      else
        let s := if park then ((s.copyScales p ctx scale b).parkWrite p slot
            { b with src := s.physRanges accW sc, scaleVa := scale }).setOcc p slot true
          else s
        let s := s.modArr p (fun a => { a with
          feed := none
          active := if shadow then a.active else some b
          shadow := if shadow then some b else if f == .fp32 then none else a.shadow
          fp32Pair := if shadow then a.fp32Pair else f == .fp32
          ctrl := { a.ctrl with wdig := wdigAdd a.ctrl.wdig b.digest } })
        s.advanceQ p

/-- R205, R90: an unpark completes: the slot's elements and the witness weights kept with it, with the scales that the region it names
holds now (notes/assumptions/107). -/
def State.unparkDone (s : State) (p slot scale : Nat) : State :=
  let a := s.arr p
  let ctx := a.ctrl.ctx
  match tblFind a.park slot with
  | none => s.modArr p (fun a => { a with feed := none })
  | some b =>
    let sc := s.physRanges (s.unitAcc p ctx .read) (scaleRanges scale b)
    let ph := s.parkRanges p slot b ++ sc
    let s := s.readRanges (some ctx) ph
    match s.firstBad ph with
    | some x => s.flintPoison p 1 1 0 x
    | none =>
      let b := { (s.parkRead p slot b).withScalesOf (s.peek (s.unitAcc p ctx .read)) scale with
        src := ph, scaleVa := scale, fromSlot := some slot }
      (s.modArr p (fun a => { a with feed := none, shadow := some b })).advanceQ p

/-- R87: the transfer that the north feed serves completes. -/
def execNorthFeedTransferComplete (p : ArrayId) (s : State) : Out :=
  .next (
    let a := s.arr p.val
    if !a.runs then s
    else match a.feed with
      | some e => (match e.op with
        | .load shadow dW park slot scale => s.loadDone p.val shadow dW park slot scale
        | .unpark slot scale => s.unparkDone p.val slot scale
        | _ => s)
      | none => s)

/-- R81, R89, R206: the swap token at the head of the queue runs: the sets change places, or the swap takes its fault. -/
def execSwapTokenStart (p : ArrayId) (s : State) : Out :=
  .next (
    let a := s.arr p.val
    if !a.runs || s.stopping p.val || a.fillsShadow || a.fillsActive || a.streams || a.run.running || s.replayOn p.val || !a.restarts.isEmpty then s
    else match a.aq with
      | e :: _ => (match e.op with
        | .swap =>
          (match a.shadow with
          | some b =>
            if a.fp32Pair || !b.owned a.ctrl then (s.popAq p.val).entryFault p.val e 0x85 2 0xFF 0
            else ((s.popAq p.val).modArr p.val (fun a => { a with active := a.shadow, shadow := a.active })).advanceQ p.val
          | none => (s.popAq p.val).entryFault p.val e 0x85 2 0xFF 0)
        | _ => s)
      | [] => s)

/-- R237: identical bank interleave of two regions of records. -/
def State.sameBanks (s : State) (acc : Accessor) (o i : Desc) : Bool :=
  match s.access acc o.base, s.access acc i.base with
  | .ok a, .ok b =>
    (match s.place a, s.place b with
    | .edge _ x, .edge _ y => x % 16384 == y % 16384 && o.stride == i.stride && o.code == i.code
    | _, _ => false)
  | _, _ => true

/-- The open group of an array: its slot. -/
def ArrayState.groupSlot (a : ArrayState) : Option Nat := (List.range 3).find? (fun i => (a.tile i).state == 1 && (a.tile i).openGroup)

/-- R208: whether a block step may join the steps of its group. -/
def groupOk (op : PassOp) (steps : List (PassOp × Block)) : Bool :=
  match steps with
  | [] => true
  | (x, _) :: _ => op.trans && decide (steps.length < 64) && x.osn == op.osn && x.rows == op.rows && x.m0 == op.m0
      && x.n0 == op.n0 && x.anchor == op.anchor && x.fa == op.fa && x.fw == op.fw

/-- The checks of a pass at its start (R204, R208, R84, R207, R93): code, detail, and the register or descriptor concerned (R228). -/
def State.passStartFault (s : State) (p : Nat) (e : QEntry) (op : PassOp) (steps : List (PassOp × Block)) (rows : Nat) : Option (Nat × Nat × Nat) :=
  let a := s.arr p
  let rA := bitsOf e.w0.toNat 15 12
  match a.active with
  | none => some (0x85, 1, 0xFF)
  | some b =>
    let dA := descOf op.dA
    let k := if op.trans then b.n else b.k
    let n := steps.foldl (fun m x => Nat.max m x.2.k) (if op.trans then b.k else b.n)
    let dO := descOf op.drain.dO
    let dI := descOf op.drain.dI
    if !b.owned a.ctrl then some (0x85, 1, 0xFF)
    else if dA.fmt ≠ some op.fa ∨ b.fmt ≠ op.fw then some (0x82, 6, rA)
    else if dA.extOf 0 ≠ k then some (0x83, 2, rA)
    else if 2 ^ 32 < op.n0 + n then some (0x83, 2, sA e.w0)
    else if !groupOk op steps then some (0x83, 5, 0xFF)
    else if dO.extOf 0 < n ∨ dO.extOf 1 < rows then some (0x83, 3, op.drain.rO)
    else if op.drain.acc ≠ 0 ∧ (dI.extOf 0 < n ∨ dI.extOf 1 < rows) then some (0x83, 3, op.drain.rI)
    else if op.drain.acc = 1 ∧ !s.sameBanks (s.unitAcc p a.ctrl.ctx .read) dO dI then some (0x83, 4, op.drain.rI)
    else none

/-- The byte ranges of the activation rows that a pass streams. -/
def State.actRanges (s : State) (p ctx : Nat) (op : PassOp) (rows : Nat) : List (Nat × Nat) :=
  let d := descOf op.dA
  let acc := s.unitAcc p ctx .read
  (List.range rows).flatMap (fun m =>
    (List.range (Nat.min (s.actualLen acc d 0 m).1 (d.extOf 0))).flatMap (fun i => (d.loc op.fa [i, m, 0, 0, 0]).ranges))

/-- R103: whether a range of outputs lies wholly in the edge store of an array. -/
def State.ownEdge (s : State) (p : Nat) (rs : List (Nat × Nat)) : Bool :=
  rs.all (fun r => match s.place r.1 with | .edge n _ => s.physOf n == some p | _ => false)

/-- R104: whether uncommitted outputs of another array, or of another context, meet ranges. -/
def State.foreignUncommitted (s : State) (p ctx : Nat) (rs : List (Nat × Nat)) : Bool :=
  rs.any (fun r => (s.tilesAt r.1).any (fun t => t.dest.any (fun d => d.meets r.1 r.2) && (s.arrayAt r.1 != some p || t.ctx != ctx)))

/-- R104: the tiles of an array whose uncommitted outputs meet ranges. -/
def State.depsOf (s : State) (rs : List (Nat × Nat)) : List Nat :=
  (rs.flatMap (fun r => ((s.tilesAt r.1).filter (fun t => t.dest.any (fun d => d.meets r.1 r.2))).map (fun t => t.seq))).eraseDups

/-- A pass begins to stream in a slot, with everything checked. Activation rows that a chain feeds are not read (R96, R167). -/
def State.passStream (s : State) (p i : Nat) (e : QEntry) (op : PassOp) (b : Block) (rows : Nat) (inp dst : List (Nat × Nat)) : State :=
  let a := s.arr p
  let ctx := a.ctrl.ctx
  let s := s.lateCheck p e
  let fed := if op.wsrc then s.physRanges (s.unitAcc p ctx .read) (s.actRanges p ctx op rows) else []
  let seen := inp.filter (fun r => !fed.contains r)
  let s := s.readRanges (some ctx) seen
  let bad := s.firstBad seen
  let src := (match b.fromSlot with | some j => s.parkRanges p j b | none => []) ++ b.src
  let old := a.tile i
  let t : Tile :=
    if old.openGroup then
      { old with openGroup := false, entry := some e, steps := old.steps ++ [(op, b)], rows := rows
                 deps := (old.deps ++ s.depsOf inp).eraseDups, dest := (old.dest ++ regionsOf dst).eraseDups
                 held := old.held ++ regionsOf (inp ++ src), poisoned := old.poisoned || bad.isSome
                 staged := old.staged || !s.ownEdge p dst }
    else
      { Tile.free with state := 1, seq := e.seq, osn := op.osn, ctx := ctx, gen := a.ctrl.gen, entry := some e
                       steps := [(op, b)], transposed := op.trans, m0 := op.m0, n0 := op.n0, rows := rows, gangK := op.gang.split == 3, deps := s.depsOf inp
                       dest := regionsOf dst, staged := !s.ownEdge p dst, held := regionsOf (inp ++ src), poisoned := bad.isSome }
  let s := ((s.popAq p).setTile p i t).advanceQ p
  match bad with
  | some x => s.flintPoison p 1 1 0 x
  | none => s

/-- R462: an array that begins to stream without a launch notice, after 1 µs or more without streaming, starts at code 64 at most and
climbs. -/
def State.softStart (s : State) (p : Nat) : State :=
  let a := s.arr p
  let idle : Bool := match a.streamEnd with | some t => decide (t + 64000 ≤ s.now.toNat) | none => true
  if idle && decide (64 < a.freqCode) && !a.streams && !s.power.prep.any (fun x => x.array == p) then
    (s.modArr p (fun a => { a with freqCode := 64 })).setFlag (rPwrAry p) 3 true
  else s

/-- R462: the moment an array stops streaming is kept. -/
def State.streamEnds (s : State) (p : Nat) : State := s.modArr p (fun a => { a with streamEnd := some s.now.toNat })

/-- R80, R86, R101: the pass at the head of the queue starts once a slot is free, its launch time has come and no other
pass streams; with no row to stream it is skipped. -/
def State.passStart (s : State) (p : Nat) (e : QEntry) (op : PassOp) : State :=
  let a := s.arr p
  let ctx := a.ctrl.ctx
  let acc := s.unitAcc p ctx .read
  let dA := descOf op.dA
  match s.firstEdgeFault p acc (dA.tableRange 0) with
  | some (v, t) => s.stallTr ctx 2 p v .read t
  | none =>
    let rows := Nat.min op.rows (s.actualLen acc dA 0 0).2
    if rows = 0 then ((s.popAq p).lateCheck p e).advanceQ p
    else
      let slot := match a.groupSlot with | some i => some i | none => a.freeSlot
      match slot with
      | none => s
      | some i =>
        let steps := if (a.tile i).openGroup then (a.tile i).steps else []
        match s.passStartFault p e op steps rows, a.active with
        | some (code, detail, reg), _ => (s.popAq p).entryFault p e code detail reg 0
        | none, none => s
        | none, some b =>
          let n := steps.foldl (fun m x => Nat.max m x.2.k) (if op.trans then b.k else b.n)
          let inA := s.actRanges p ctx op rows
          let inI := if op.drain.acc = 0 then [] else tileRanges (descOf op.drain.dI) .record rows n
          let dst := tileRanges (descOf op.drain.dO) op.drain.fmt rows n
          match s.firstEdgeFault p acc inA with
          | some (v, t) => s.stallTr ctx 2 p v .read t
          | none => match s.firstEdgeFault p acc inI with
            | some (v, t) => s.stallTr ctx 4 p v .read t
            | none => match s.firstFault (s.unitAcc p ctx .write) dst with
              | some (v, t) => s.stallTr ctx 4 p v .write t
              | none =>
                let ph := s.physRanges acc (inA ++ inI)
                if s.foreignUncommitted p ctx ph then s
                else (s.softStart p).passStream p i e op b rows ph (s.physRanges (s.unitAcc p ctx .write) dst)

/-- R278: whether a pass of the other direction has rows that have not left the grid. -/
def ArrayState.otherWay (a : ArrayState) (trans : Bool) : Bool :=
  a.tiles.any (fun t => (t.state == 1 || t.state == 2) && t.transposed != trans && (match t.entry with | some e => (match e.op with | .pass _ => true | _ => false) | none => false))

/-- R80, R87, R278: a queued pass starts streaming when its conditions hold: no load into the active set is in progress, and no pass of the
other direction has rows in the grid. -/
def execPassStart (p : ArrayId) (s : State) : Out :=
  .next (
    let a := s.arr p.val
    if !a.runs || s.stopping p.val || a.streams || a.run.running || s.replayOn p.val || !a.restarts.isEmpty || s.unitStalled p.val 2
        || s.unitStalled p.val 4 then s
    else match a.aq with
      | e :: _ => (match e.op with
        | .pass op => if e.launch.isSome || (op.trans && a.feed.isSome) || a.fillsActive || a.otherWay op.trans then s else s.passStart p.val e op
        | _ => s)
      | [] => s)

/-- R167: whether a chain that feeds the west feed of a tile still has rows to deliver. dst is byte 0 bits of the chain
record's header. -/
def ArrayState.feedsPending (a : ArrayState) (seq : Nat) : Bool :=
  let feeds (e : QEntry) : Bool := match e.op with
    | .chain op => decide (e.seq < seq) && bitsOf (leAt op.record 0 4) 11 10 == 1
    | _ => false
  a.vq.any feeds || (match a.vec.running with | some r => feeds r.entry | none => false) || a.vec.reruns.any (fun r => feeds r.entry)

/-- Whether the west feed of a tile's last pass is the vector engine (R96). -/
def Tile.wsrc (t : Tile) : Bool := match t.steps.reverse.head? with | some (op, _) => op.wsrc | none => false

/-- The issue number of a tile's last pass. -/
def Tile.lastSeq (t : Tile) : Nat := match t.entry with | some e => e.seq | none => t.seq

/-- R167: whether a tile is that of the next pass issued after a chain whose west feed is the vector engine. -/
def ArrayState.fedBy (a : ArrayState) (e : QEntry) (t : Tile) : Bool :=
  t.wsrc && decide (e.seq < t.lastSeq) &&
    !(a.tiles ++ a.restarts).any (fun x => x.state != 0 && x.wsrc && decide (e.seq < x.lastSeq) && decide (x.lastSeq < t.lastSeq))

/-- R207: whether the drain of a tile names chain delivery. -/
def Tile.toChain (t : Tile) : Bool := match t.drain with | some d => d.set.chain | none => false

/-- R164: the source code of a chain whose source is a drain: 1 south, 2 east; 0 memory. -/
def QEntry.drainSrc (e : QEntry) : Nat :=
  match e.op with
  | .chain op => bitsOf (leAt op.record 0 4) 8 6
  | _ => 0

/-- R164: whether a tile is that of the first pass after a chain whose drain names chain delivery. -/
def ArrayState.attachesTo (a : ArrayState) (e : QEntry) (t : Tile) : Bool :=
  t.toChain && decide (e.seq < t.seq) &&
    !(a.tiles ++ a.restarts).any (fun x => x.state != 0 && x.toChain && decide (e.seq < x.seq) && decide (x.seq < t.seq))

/-- R164, R82: whether a chain that attaches to a tile has not started yet: the rows of the tile wait for it. -/
def ArrayState.chainWaits (a : ArrayState) (t : Tile) : Bool :=
  a.vq.any (fun e => (e.drainSrc == 1 || e.drainSrc == 2) && a.attachesTo e t)

/-- The drained tile: accumulators, witness partials, initial records and flags (R80, R93, R110). -/
def State.drained (s : State) (p : Nat) (t : Tile) (upset : List (Nat × Nat × Nat)) : Tile × Option Nat :=
  let (accs, wit) := s.tileCompute p t
  let t := { t with state := 2, accs := applyUpset accs upset, wit := wit, upset := upset }
  match t.drain with
  | none => (t, none)
  | some d =>
    let dI := descOf d.set.dI
    let n := (nth [] accs 0).length
    let ph := if d.set.acc = 0 then [] else s.physRanges (s.unitAcc p t.ctx .read) (tileRanges dI .record t.rows n)
    let t := { t with init := if t.init = [] then s.initRecs p t d else t.init }
    let c := t.combined d
    ({ t with flags := drainFlags d c.1, anchorBad := !c.2 }, s.firstBad ph)

/-- R103: the drain writes a tile that has left the executing state into its edge store; staged outputs wait for commit. -/
def State.drainOut (s : State) (p i : Nat) (sent : Bool) : State :=
  let t := (s.arr p).tile i
  match t.drain with
  | none => s
  | some d => s.drainWrite p t d (t.combined d).1 sent

/-- R101: whether two tiles are draining: results leave, the check runs, or commit is waited for. -/
def ArrayState.drainsFull (a : ArrayState) : Bool := decide (2 ≤ (a.tiles.filter (fun t => t.state == 2 || t.state == 3)).length)

/-- R101, R82: the last activation row of the streaming pass has entered the grid: a block step of an open group waits for
its next step; any other pass becomes a draining tile, and the grid waits while two tiles drain. upset: hardware errors in its
accumulators. -/
def execTileBoundary (p : ArrayId) (upset : List (Nat × Nat × Nat)) (s : State) : Out :=
  .next (
    let a := s.arr p.val
    match (List.range 3).find? (fun i => (a.tile i).streaming) with
    | none => s
    | some i =>
      let t := a.tile i
      let last := t.steps.reverse.head?
      let waits := (match last with | some (op, _) => op.wsrc && a.feedsPending t.lastSeq | none => false) || a.chainWaits t
      if !a.runs || waits then s
      else
        let s0 := s
        let s := (s.bump64 (rAryPassCnt p.val) 1).streamEnds p.val
        let more := match last with | some (op, _) => op.trans && !op.gend | none => false
        if more then s.setTile p.val i { t with openGroup := true }
        else if a.drainsFull then s0
        else
          let (t, bad) := s.drained p.val t upset
          let s := s.setTile p.val i { t with poisoned := t.poisoned || bad.isSome }
          let s := if t.staged then s else s.drainOut p.val i false
          match bad with
          | some x => s.flintPoison p.val 1 1 0 x
          | none => s)

/-- R55: the flags of a tile's own accumulators, which its hash covers (R344). -/
def Tile.ownFlags (t : Tile) : TileFlags :=
  match t.drain with
  | some d => drainFlags d t.accs
  | none => TileFlags.none

/-- Residues added to differences of rows: (row, residue). -/
def addResidues (ds : List Nat) (xs : List (Nat × Nat)) : List Nat :=
  xs.foldl (fun ds x => if x.1 < ds.length then setNth 0 ds x.1 ((nth 0 ds x.1 + x.2) % witM) else ds) ds

/-- The detail of an anchor mismatch of a tile (R227). -/
def anchorDetail (t : Tile) : Nat :=
  match t.drain with
  | some d => if d.set.acc = 1 then 1 else if d.set.acc = 2 then 2 else 3
  | none => 3

/-- R114, ARY_WIT_DELTA, ARY_WIT_ROW, ARY_WIT_FAIL_CNT: a failed verdict in the registers of an array. -/
def State.witRegs (s : State) (p slot row delta : Nat) : State :=
  (((s.setFld (rAryWitDelta p) 28 27 slot).setFld (rAryWitDelta p) 23 0 delta).setFld (rAryWitRow p) 12 0 row).bump (rAryWitFailCnt p) 1

/-- R345, R350: the replay of a tile is wanted: a partner is chosen if one qualifies. -/
def State.wantReplay (s : State) (p : Nat) (t : Tile) (resolving injected failed : Bool) : Replay :=
  { resolving := resolving, injected := injected, origFailed := failed, partner := s.partnerFor p t resolving none []
    streaming := false, done := false, hash := 0, pass := false, third := none, thirdStreaming := false, since := s.now.toNat }

/-- R343: whether a tile was selected for replay: as its pass issued, or, for a reduced output, by the bases it shares with its member
tiles. -/
def State.selected (s : State) (t : Tile) : Bool :=
  t.steps.any (fun x => x.1.replay) ||
  (match t.entry with
   | some e => (match e.op with | .reduce _ _ osn _ _ _ _ _ level marked => s.replaySelected t.ctx level osn t.m0 t.n0 marked | _ => false)
   | none => false)

/-- R228: the register and the address that an anchor mismatch of a tile concerns: the initial records'. -/
def anchorWhere (t : Tile) : Nat × Nat :=
  match t.drain with
  | some d => (d.set.rI, (descOf d.set.dI).base)
  | none => (0xFF, 0)

/-- R122: an anchor mismatch decides: the tile and its dependants leave without commit, and the fault is raised. -/
def State.anchorFault (s : State) (p : Nat) (t : Tile) : State :=
  let s := s.modArr p (fun a => (releaseTiles a t.seq).1)
  match t.entry with
  | some e => s.entryFault p e 0x84 (anchorDetail t) (anchorWhere t).1 (anchorWhere t).2
  | none => s

/-- CHK_CTX_DISAGREE and the lifetime count of witness disagreements (R542): a disagreement begins. -/
def State.disagree (s : State) (p : Nat) (t : Tile) : State := (s.bump (rChkCtxDisagree t.ctx) 1).lifeCount (448 + p) 1

/-- R111, R114, R122: the verdict of a draining tile. wit: residues that faults of the witness path add to differences. -/
def execTileVerdict (p : ArrayId) (slot : Fin 3) (wit : List (Nat × Nat)) (s : State) : Out :=
  .next (
    let a := s.arr p.val
    let t := a.tile slot.val
    if t.state ≠ 2 ∨ !a.runs then s
    else
      let inj := s.fld (rAryWitCtl p.val) 23 0
      let clean := addResidues (tileDeltas t) wit
      let ds := addResidues clean (if inj = 0 then [] else [(0, inj)])
      let s := if inj = 0 then s else s.setFld (rAryWitCtl p.val) 23 0 0
      let h := tileHash t.accs t.rows t.ownFlags
      let s := s.setReg64 (rAryTileHash p.val) h
      match firstFail t.flags.inexact ds with
      | none =>
        let t := { t with hash := h }
        if t.anchorBad then (s.setTile p.val slot.val t).anchorFault p.val t
        else s.setTile p.val slot.val { t with
          state := 3, replay := if s.selected t then some (s.wantReplay p.val t false false false) else none }
      | some (row, delta) =>
        let injected := decide (inj ≠ 0) && (firstFail t.flags.inexact clean).isNone
        let t := { t with hash := h, failRow := row, delta := delta, witFail := true }
        let s := s.witRegs p.val slot.val row delta
        let s := s.postWitness p.val slot.val (if injected then 3 else 1) (if injected then 0 else 2) t injected
        if t.anchorBad then (s.setTile p.val slot.val t).anchorFault p.val t
        else (s.setTile p.val slot.val { t with state := 4, replay := some (s.wantReplay p.val t true injected true) }).disagree p.val t)

/-- R117, R350, R95: what travels with a record tile: its witness partials, those of the pass and of the records it added to, and the bases
of its operation. -/
def State.recordWit (s : State) (p : Nat) (t : Tile) : State :=
  match t.drain with
  | none => s
  | some d =>
    if d.set.fmt ≠ .record ∨ t.dest = [] then s
    else
      let a := s.arr p
      let old := if d.set.acc = 0 then [] else
        match s.access (s.unitAcc p t.ctx .read) (descOf d.set.dI).base with
        | .ok pa => ((tblFind a.recInfo pa).map (fun x => x.wit)).getD []
        | _ => []
      let w := (List.range t.wit.length).map (fun i => (nth 0 t.wit i + nth 0 old i) % witM)
      s.modArr p (fun a => { a with recInfo := tblPut a.recInfo ((t.dest.map (fun r => r.addr)).headD 0) ⟨w, d.m0, d.n0, t.replayedOn⟩ })

/-- A write of a chain: through the checks of a write by the vector engine, poisoned where its result is (R185). -/
def State.chainWrite (s : State) (p : Nat) (r : ChainRun) (w : ChainWrite) : State :=
  s.writeVaB p 6 r.entry.seq r.ctx w.va w.data w.bad

/-- R168: the staged outputs of chains that waited for a tile are written once every tile they read from has committed. -/
def State.releaseChains (s : State) (p seq : Nat) : State :=
  let a := s.arr p
  let ready := (a.vec.pendingSeq.filter (fun x => x.1 == seq && !a.vec.pendingSeq.any (fun y => y.2.entry.seq == x.2.entry.seq && y.1 != seq))).map Prod.snd
  let s := s.modArr p (fun a => { a with vec := { a.vec with pendingSeq := a.vec.pendingSeq.filter (fun x => x.1 != seq) } })
  ready.foldl (fun s r => r.staged.foldl (fun s w => s.chainWrite p r w) s) s

/-- R342, R355: whether a tile runs at level 3, so that chains attached to it are checked. -/
def Tile.dual (t : Tile) : Bool := t.steps.any (fun x => x.1.level == 3)

/-- R355: whether a chain attached to a tile of level 3 has not been settled yet. -/
def ArrayState.chainUnchecked (a : ArrayState) (t : Tile) : Bool :=
  let mine (r : ChainRun) : Bool := r.attached == some t.seq && !r.checked
  t.dual && ((match a.vec.running with | some r => mine r | none => false) || a.vec.reruns.any mine || a.vec.pendingSeq.any (fun x => mine x.2))

/-- R105, R106, R355: a tile that may commit does: outputs that leave the edge store are sent, held inputs are released, the slot
is retired, chains that waited for it commit. -/
def execTileCommit (p : ArrayId) (slot : Fin 3) (s : State) : Out :=
  .next (
    let a := s.arr p.val
    let t := a.tile slot.val
    if t.state ≠ 3 ∨ t.replay.isSome ∨ t.anchorBad ∨ t.poisoned ∨ !a.depsDone t ∨ !a.runs ∨ a.chainUnchecked t then s
    else
      let s := if t.staged then s.drainOut p.val slot.val true else s
      let s := s.recordWit p.val t
      let s := s.setTile p.val slot.val { t with
        state := 0, dest := [], held := [], steps := [], entry := none, accs := [], wit := [], init := [], upset := [], deps := [] }
      let s := s.modArr p.val (fun a => { a with lastOsn := tblPut a.lastOsn t.ctx t.osn })
      (s.releaseChains p.val t.seq).advanceQ p.val)

/-- R117, R118: the reduced output becomes a tile of rank 0. -/
def State.reducedTile (s : State) (p : Nat) (r : RedState) : State :=
  let a := s.arr p
  match r.entry.op, a.freeSlot with
  | .reduce _ dO osn anchor fmt rnd sat .., some i =>
    let d := descOf dO
    let rows := r.tile.length
    let cols := (nth [] r.tile 0).length
    let acc := s.unitAcc p a.ctrl.ctx .write
    match s.firstFault acc (tileRanges d fmt rows cols) with
      | some (v, t) => if s.unitStalled p 4 then s else s.stallTr a.ctrl.ctx 4 p v .write t
      | none =>
        let dst := s.physRanges acc (tileRanges d fmt rows cols)
        let dr : DrainOf :=
          ⟨{ dO := dO, dI := 0#512, fmt := fmt, rnd := rnd, sat := sat, acc := 0, chain := false }, anchor, osn, r.m0, r.n0⟩
        let t : Tile := { Tile.free with
          state := 2, seq := r.entry.seq, osn := osn, ctx := a.ctrl.ctx, gen := a.ctrl.gen, entry := some r.entry, m0 := r.m0, n0 := r.n0, rows := rows
          gangK := true, accs := r.tile, wit := r.wit, flags := drainFlags dr r.tile, dest := regionsOf dst
          staged := !s.ownEdge p dst, held := r.members, replayedOn := r.replayedOn }
        let s := (s.setTile p i t).modArr p (fun a => { a with red := none })
        if t.staged then s else s.drainOut p i false
  | _, _ => s

/-- The array of a gang's rank, from one of its members. -/
def State.gangMember (s : State) (p log2 rank : Nat) : Option Nat :=
  s.physOf ((s.logOf p).getD 0 / 2 ^ log2 * 2 ^ log2 + rank)

/-- Records written at a descriptor, row by row, by the banks of array p. -/
def State.pokeRecs (s : State) (p ctx : Nat) (d : Desc) (anchor : Int) (tile : List (List Acc)) : State :=
  (List.range tile.length).foldl (fun s i =>
    (List.range (nth [] tile i).length).foldl (fun s j =>
      s.pokeElem (s.unitAcc p ctx .write) (some ctx) (d.loc .record [j, i, 0, 0, 0])
        (recOfAcc anchor (nth Acc.zero (nth [] tile i) j)).toNat 0) s) s

/-- The byte ranges of a record tile at a descriptor. -/
def recRanges (d : Desc) (tile : List (List Acc)) : List (Nat × Nat) := tileRanges d .record tile.length (nth [] tile 0).length

/-- R117: one level of a reduction: the partner's record tile lands in the region that the receiver's gang configuration names, and the banks
combine it into the receiver's own record tile. -/
def State.levelCombine (s : State) (p ctx : Nat) (dP region : Desc) (anchor : Int) (own theirs : List (List Acc)) : State :=
  (s.pokeRecs p ctx region anchor theirs).pokeRecs p ctx dP anchor (List.zipWith (fun x y => List.zipWith accJoin x y) own theirs)

/-- R118, R102: a reduction after one more member's record tile. -/
def RedState.joined (r x : RedState) (landed : List Region) : RedState :=
  { r with level := r.level + 1, tile := List.zipWith (fun x y => List.zipWith accJoin x y) r.tile x.tile
           wit := List.zipWith (fun x y => (x + y) % witM) r.wit x.wit, members := r.members ++ landed ++ x.members }

/-- R117, R243, R265: array p receives x, the record tile of array q, at its present level: an address that does not translate stalls the
bank (unit 4), a held range refuses the transfer, records of another anchor raise the fault of R60. -/
def State.levelTake (s : State) (p q : Nat) (r x : RedState) (dP : BitVec 512) (anchor anchor' : Int) (g : GangSet) (rank : Nat) : State :=
  let ctx := (s.arr p).ctrl.ctx
  let acc := s.unitAcc p ctx .write
  let rs := recRanges (descOf g.region) x.tile
  match s.firstEdgeFault p acc (rs ++ recRanges (descOf dP) r.tile) with
  | some (v, t) => if s.unitStalled p 4 then s else s.stallTr ctx 4 p v .write t
  | none =>
    let ph := s.physRanges acc rs
    match ph.find? (fun y => s.heldHit y.1 y.2) with
    | some y => (s.modArr p (fun a => { a with red := none })).heldRefuse ctx 4 p (descOf g.region).base y.1
    | none =>
      let done := s.modArr q (fun a => { a with red := none })
      if wrapInt 4 anchor ≠ wrapInt 4 anchor' then
        (((done.pokeRecs p ctx (descOf g.region) anchor' x.tile).modArr p (fun a => { a with red := none })).entryFault p r.entry 0x84 3
          (bitsOf r.entry.w0.toNat 24 21) (descOf g.region).base).advanceQ q
      else
        let s := done.levelCombine p ctx (descOf dP) (descOf g.region) anchor r.tile x.tile
        let r := r.joined x (regionsOf ph)
        let s := (s.modArr p (fun a => { a with red := some r })).advanceQ q
        if rank = 0 ∧ r.level = g.log2 then (s.reducedTile p r).advanceQ p else s

/-- R117: the record tile that an array is to receive at its present level arrives in its region and is combined into its own, while both
arrays' clocks run. After the last level, rank 0 holds the total. -/
def execKsplitLevelArrival (p : ArrayId) (s : State) : Out :=
  .next (
    if !(s.arr p.val).runs then s
    else match (s.arr p.val).red with
    | none => s
    | some r => (match r.entry.op with
      | .reduce dP _ osn anchor _ _ _ g .. =>
        let rank := (s.logOf p.val).getD 0 % 2 ^ g.log2
        if sendLevel rank g.log2 ≤ r.level then
          (if rank = 0 then (s.reducedTile p.val r).advanceQ p.val else s)
        else (match s.gangMember p.val g.log2 (rank + 2 ^ r.level) with
          | none => s
          | some q => (match (s.arr q).red with
            | none => s
            | some x => (match x.entry.op with
              | .reduce _ _ osn' anchor' _ _ _ g' .. =>
                if !(s.arr q).runs ∨ x.level ≠ sendLevel (rank + 2 ^ r.level) g'.log2 ∨ osn ≠ osn' then s
                else s.levelTake p.val q r x dP anchor anchor' g rank
              | _ => s)))
      | _ => s))

/-- R119, R122, R369: the grace time of a switch expires while a pass or a replay streams: it is aborted and restarts later. A tile boundary
reached first wins. The end of the switch tells how many arrays aborted (R402). -/
def execPassGraceAbort (p : ArrayId) (s : State) : Out :=
  .next (
    let a := s.arr p.val
    match s.partAt p.val with
    | none => s
    | some q =>
      let sw := s.part q
      if sw.outgoing.isSome ∧ sw.saving.contains p.val ∧ (a.tiles.any (fun t => t.state == 1) || s.replayOn p.val) ∧ !a.brake then
        (((s.dropReplays p.val).modArr p.val abortArray).setPart q { sw with aborts := sw.aborts + 1 }).bump (rDspCtxAborts (sw.outgoing.getD 0)) 1
      else s)

/-- R120: the sets once a restarting tile's stationary block is in the active set: present already, reloaded from the edge store into the
active set, or brought by an unpark and a swap, which leave the old active block in the shadow set. -/
def ArrayState.reloaded (a : ArrayState) (t : Tile) : ArrayState :=
  match t.steps.reverse.head? with
  | none => a
  | some (_, b) =>
    if a.active = some b then a
    else if b.fmt = .fp32 then { a with active := some b, shadow := none, fp32Pair := true }
    else
      { a with active := some b, fp32Pair := false
               shadow := if b.fromSlot.isSome then (if a.fp32Pair then none else a.active) else if a.fp32Pair then none else a.shadow }

/-- R120, R273: the first tile that waits to restart streams again from its held inputs, its stationary block reloaded if
the active set holds another; a poisoned held input ends it instead. -/
def execTileRestart (p : ArrayId) (s : State) : Out :=
  .next (
    let a := s.arr p.val
    match a.restarts, a.freeSlot with
    | t :: ts, some i =>
      if !a.runs || s.stopping p.val || a.streams || a.run.running || a.feed.isSome || s.residentAt p.val ≠ some t.ctx
          || !(a.ctrl.state = 1 || a.ctrl.faulting.isSome) || a.otherWay t.transposed || s.replayOn p.val
          || (t.wsrc && a.vec.reruns.any (fun r => a.fedBy r.entry t))
          || !a.depsDone { t with deps := t.deps.filter (fun d => d != t.seq) } then s
      else
        let bad := s.firstBad (t.held.map (fun r => (r.addr, r.len)))
        match bad with
        | some x => (s.modArr p.val (fun a => { a with restarts := ts })).heldPoison p.val t x
        | none =>
          let s := s.softStart p.val
          s.setArr p.val { ((s.arr p.val).reloaded t).setTile i { t with state := 1, openGroup := false, poisoned := false } with restarts := ts }
    | _, _ => s)

/-- R210: a gang configuration at the head of the queue takes effect when every earlier entry has completed. -/
def execGangCfgEffect (p : ArrayId) (s : State) : Out :=
  .next (
    let a := s.arr p.val
    match a.aq with
    | e :: _ => (match e.op with
      | .gangCfg g =>
        if !a.arrayIdle || !a.runs then s
        else ((s.popAq p.val).modCtrl p.val (fun c => { c with gangNow := g })).advanceQ p.val
      | _ => s)
    | [] => s)

end Sys2Proof.Machine
end

