-- ==== Sys2Proof/Machine/VecArith.lean ====
section
/-!
DEFINITION. The arithmetic of the vector engine (05_vector_engine R157, R165, R166, R170 to R173, R177): lane values, its
special functions, reductions, and conversions between lanes and memory formats.
-/
namespace Sys2Proof.Machine

/-- R158: the lane modes. -/
inductive Lane where
  | bf16 | fp32 | int32
  deriving DecidableEq, Repr

/-- The float layout of a lane mode. -/
def Lane.lay : Lane → FloatLay
  | .bf16 => layBf16
  | _ => layFp32

/-- Whether lanes hold floats. -/
def Lane.isFloat : Lane → Bool
  | .int32 => false
  | _ => true

/-- The value of a lane code. -/
def Lane.val (m : Lane) (c : Nat) : FVal :=
  match m with
  | .int32 => intVal (toSigned 32 c) 0
  | m => decodeFloat m.lay c

/-- R157: an exact float result rounded once to the lane format. -/
def Lane.enc (m : Lane) (v : FVal) : Nat := encodeSigned m.lay .rne false 0 v

/-- R165, R173: an FP32 code as the lane shows it. -/
def Lane.ofFp32 (m : Lane) (c : Nat) : Nat :=
  match m with
  | .bf16 => encodeSigned layBf16 .rne false 0 (decodeFloat layFp32 c)
  | _ => c

/-- A lane code in the reduction format (R173): FP32 in float modes, INT32 in INT32 mode. -/
def Lane.toRed (m : Lane) (c : Nat) : Nat :=
  match m with
  | .bf16 => c * 65536
  | _ => c

/-- Fixed point with 256 fractional bits: one. -/
def fxOne : Nat := 2 ^ 256

/-- x^(2i+1)/(2i+1) summed from term i on, with pow = x^(2i+1). -/
def fxAtanh (x2 : Nat) : Nat → Nat → Nat → Nat
  | 0, _, _ => 0
  | n + 1, pow, i => pow / (2 * i + 1) + fxAtanh x2 n (pow * x2 / fxOne) (i + 1)

/-- ln(a/b) for b ≤ a ≤ 2b. -/
def fxLnRatio (a b : Nat) : Nat :=
  let t := (a - b) * fxOne / (a + b)
  2 * fxAtanh (t * t / fxOne) 90 t 0

/-- ln 2. -/
def fxLn2 : Nat := fxLnRatio 2 1

/-- r^i/i! summed from term i on. -/
def fxExpSeries (r : Nat) : Nat → Nat → Nat → Nat
  | 0, _, _ => 0
  | n + 1, term, i => term + fxExpSeries r n (term * r / fxOne / (i + 1)) (i + 1)

/-- A value in fixed point, toward minus infinity. -/
def fxOfVal : FVal → Int
  | .fin n m e => floorShift n m (e + 256)
  | _ => 0

/-- e^x for x in fixed point; far below the smallest FP32 value it is a positive value that is smaller still. -/
def expIdeal (x : Int) : FVal :=
  if x < -(200 * fxOne : Nat) then .fin false 1 (-400)
  else if ((200 * fxOne : Nat) : Int) < x then .fin false 1 400
  else
    let k := x / (fxLn2 : Int)
    .fin false (fxExpSeries (x - k * (fxLn2 : Int)).toNat 64 fxOne 0) (k - 256)

/-- e^x in fixed point, for |x| ≤ 200. -/
def fxExp (x : Int) : Nat := (fxOfVal (expIdeal x)).toNat

/-- ln of a positive m × 2^e, in fixed point. -/
def fxLn (m : Nat) (e : Int) : Int :=
  let b := 2 ^ log2Floor m
  (magExp m e) * (fxLn2 : Int) + (fxLnRatio m b : Int)

/-- A signed fixed-point value. -/
def valOfFx (x : Int) : FVal := .fin (decide (x < 0)) x.natAbs (-256)

/-- The integer square root, bit by bit. -/
def isqrt (v : Nat) : Nat → Nat → Nat
  | 0, r => r
  | n + 1, r => if (r + 2 ^ n) * (r + 2 ^ n) ≤ v then isqrt v n (r + 2 ^ n) else isqrt v n r

/-- 1/(1 + e^(−x)) in fixed point. -/
def fxSigm (x : Int) : Nat :=
  if 0 ≤ x then fxOne * fxOne / (fxOne + fxExp (-x)) else fxExp x * fxOne / (fxOne + fxExp x)

/-- The special functions, in the order of their op codes. -/
inductive Sfu where
  | exp | exp2 | log | log2 | recip | rsqrt | sqrt | tanh | sigm | silu | splus
  deriving DecidableEq, Repr

/-- R172: the function of op 0x10 + i. -/
def sfuOf : Nat → Sfu
  | 0 => .exp | 1 => .exp2 | 2 => .log | 3 => .log2 | 4 => .recip | 5 => .rsqrt | 6 => .sqrt | 7 => .tanh | 8 => .sigm | 9 => .silu
  | _ => .splus

/-- The number of a function. -/
def Sfu.code : Sfu → Nat
  | .exp => 0 | .exp2 => 1 | .log => 2 | .log2 => 3 | .recip => 4 | .rsqrt => 5 | .sqrt => 6 | .tanh => 7 | .sigm => 8 | .silu => 9
  | .splus => 10

/-- R171: the FP32 codes of the special cases; none where the ordinary value applies. -/
def sfuSpecial (f : Sfu) : FVal → Option Nat
  | .nan => some 0x7FC00000
  | .inf neg => match f, neg with
    | .exp, true | .exp2, true | .sigm, true | .splus, true => some 0
    | .log, true | .log2, true | .rsqrt, true | .sqrt, true => some 0x7FC00000
    | .recip, true | .silu, true => some 0x80000000
    | .tanh, true => some 0xBF800000
    | .recip, false | .rsqrt, false => some 0
    | .tanh, false | .sigm, false => some 0x3F800000
    | _, false => some 0x7F800000
  | .fin n 0 _ => match f with
    | .exp | .exp2 => some 0x3F800000
    | .log | .log2 => some 0xFF800000
    | .recip | .rsqrt => some (if n then 0xFF800000 else 0x7F800000)
    | .sqrt | .tanh | .silu => some (if n then 0x80000000 else 0)
    | .sigm => some 0x3F000000
    | .splus => some 0x3F317218
  | .fin true _ _ => match f with
    | .log | .log2 | .rsqrt | .sqrt => some 0x7FC00000
    | _ => none
  | .fin false _ _ => none

/-- The ordinary value of a special function at a finite operand, far closer than its bound. -/
def sfuIdeal (f : Sfu) (n : Bool) (m : Nat) (e : Int) : FVal :=
  let x := fxOfVal (.fin n m e)
  match f with
  | .exp => expIdeal x
  | .exp2 =>
    let k := x / (fxOne : Int)
    if k < -400 then .fin false 1 (-400)
    else if 400 < k then .fin false 1 400
    else match expIdeal ((x - k * (fxOne : Int)) * (fxLn2 : Int) / (fxOne : Int)) with
      | .fin _ a b => .fin false a (b + k)
      | v => v
  | .log => valOfFx (fxLn m e)
  | .log2 => valOfFx (fxLn m e * (fxOne : Int) / (fxLn2 : Int))
  | .recip => .fin n (2 ^ 400 / m) (-400 - e)
  | .rsqrt =>
    let (m, e) := if e % 2 = 0 then (m, e) else (2 * m, e - 1)
    .fin false (isqrt (2 ^ 600 / m) 310 0) (-300 - e / 2)
  | .sqrt =>
    let (m, e) := if e % 2 = 0 then (m, e) else (2 * m, e - 1)
    let v := m * 2 ^ 200
    let r := isqrt v 120 0
    .fin false (2 * r + (if r * r = v then 0 else 1)) (e / 2 - 101)
  | .tanh =>
    let y := fxExp (2 * (x.natAbs : Int))
    if 100 * fxOne < x.natAbs then .fin n 1 0 else .fin n ((y - fxOne) * fxOne / (y + fxOne)) (-256)
  | .sigm => if x < -(200 * fxOne : Nat) then .fin false 1 (-400) else .fin false (fxSigm x) (-256)
  | .silu => if x < -(200 * fxOne : Nat) then .fin true 1 (-400)
             else if ((200 * fxOne : Nat) : Int) < x then .fin n m e
             else .fin n (m * fxSigm x) (e - 256)
  | .splus =>
    if x < -(200 * fxOne : Nat) then .fin false 1 (-400)
    else if 0 ≤ x then
      (if ((200 * fxOne : Nat) : Int) < x then .fin n m e
       else valOfFx (x + (fxLnRatio (fxOne + fxExp (-x)) fxOne : Int)))
    else valOfFx (fxLnRatio (fxOne + fxExp x) fxOne : Int)

/-- R171: the bound in units of the last place. -/
def sfuUlp : Sfu → Nat
  | .recip | .rsqrt => 1
  | .sqrt => 0
  | .silu | .splus => 3
  | _ => 2

/-- R171: whether the result is exact: exp2 of an integer, log2 of a power of two, sqrt. -/
def sfuExact (f : Sfu) (m : Nat) (e : Int) : Bool :=
  match f with
  | .exp2 => decide (0 ≤ e) || m % 2 ^ (-e).toNat == 0
  | .log2 => m == 2 ^ log2Floor m
  | .sqrt => true
  | _ => false

/-- An exact value moved by a multiple of 2^−149. -/
def shiftVal (v : FVal) (d : Int) : FVal := addVal v (intVal d (-149))

/-- The negated value. -/
def negVal : FVal → FVal
  | .fin n m e => .fin (!n) m e
  | .inf n => .inf (!n)
  | .nan => .nan

/-- Whether a finite FP32 code lies within k × 2^j of an exact value. -/
def sfuNear (v : FVal) (c k : Nat) (j : Int) : Bool :=
  match addVal (decodeFloat layFp32 c) (negVal v) with
  | .fin _ a x => if j ≤ x then decide (a * 2 ^ (x - j).toNat ≤ k) else decide (a ≤ k * 2 ^ (j - x).toNat)
  | _ => false

/-- The exponent of the last place of a finite FP32 code. -/
def ulpExp (c : Nat) : Int := (Nat.max 1 (c % 2 ^ 31 / 2 ^ 23) : Nat) - 150

/-- R171: the FP32 result of a special function: its special cases, exact where the spec says so, and otherwise some result
inside its bound (notes/assumptions/7): a candidate outside the bound gives way to the nearest code, which is always inside. -/
def sfuFp32 (f : Sfu) (x : Nat) : Nat :=
  match sfuSpecial f (decodeFloat layFp32 x), decodeFloat layFp32 x with
  | some c, _ => c
  | none, .fin n m e =>
    let v := sfuIdeal f n m e
    let c := encodeSigned layFp32 .rne false 0 v
    let r := (Config.sfu f.code x).toNat
    let mag := c % 2 ^ 31
    if sfuExact f m e ∨ mag = 0x7F800000 then c
    else if (f = .log ∨ f = .log2) ∧ -1 ≤ magExp m e ∧ (magExp m e ≤ 0 ∨ (magExp m e = 1 ∧ m = 2 ^ log2Floor m)) then
      let d := encodeSigned layFp32 .rne false 0 (shiftVal v (((r % (2 ^ 127 + 1) : Nat) : Int) - 2 ^ 126))
      if sfuNear v d 1 (-23) then d else c
    else if f = .silu ∧ mag < 0x0B800000 then
      let d := encodeSigned layFp32 .rne false 0 (shiftVal v (((r % (2 ^ 24 + 1) : Nat) : Int) - 2 ^ 23))
      if sfuNear v d 1 (-126) then d else c
    else
      let b := sfuUlp f
      let d := c - mag + (mag + r % (2 * b + 1) - b)
      if d % 2 ^ 31 < 0x7F800000 ∧ sfuNear v d b (ulpExp d) then d else c
  | none, _ => 0x7FC00000

/-- R171: a special function on a lane value. -/
def Lane.sfu (m : Lane) (f : Sfu) (c : Nat) : Nat := m.ofFp32 (sfuFp32 f (m.toRed c))

/-- Sign and magnitude of a float code as an integer that orders it. -/
def floatOrd (w c : Nat) : Int :=
  if c.testBit (w - 1) then -((c % 2 ^ (w - 1) : Nat) : Int) else ((c % 2 ^ (w - 1) : Nat) : Int)

/-- Width of a lane. -/
def Lane.bits : Lane → Nat
  | .bf16 => 16
  | _ => 32

/-- Whether a lane code is NaN. -/
def Lane.isNan (m : Lane) (c : Nat) : Bool := m.isFloat && m.val c == .nan

/-- The order of a lane code. -/
def Lane.ord (m : Lane) (c : Nat) : Int := if m.isFloat then floatOrd m.bits c else toSigned 32 c

/-- The NaN of a lane. -/
def Lane.nan (m : Lane) : Nat := nanCode m.lay

/-- R170: the minimum; −0 is below +0. -/
def Lane.min (m : Lane) (a b : Nat) : Nat :=
  if m.isNan a || m.isNan b then m.nan
  else if m.ord a < m.ord b then a
  else if m.ord b < m.ord a then b
  else if m.isFloat && a.testBit (m.bits - 1) then a else b

/-- R170: the maximum. -/
def Lane.max (m : Lane) (a b : Nat) : Nat :=
  if m.isNan a || m.isNan b then m.nan
  else if m.ord a < m.ord b then b
  else if m.ord b < m.ord a then a
  else if m.isFloat && a.testBit (m.bits - 1) then b else a

/-- R157: addition, subtraction and multiplication of lanes; fused multiply-add. -/
def Lane.fma (m : Lane) (a b c : Nat) : Nat :=
  if m.isFloat then m.enc (addVal (mulVal (m.val a) (m.val b)) (m.val c)) else (a * b + c) % 2 ^ 32

/-- X × Y. -/
def Lane.mul (m : Lane) (a b : Nat) : Nat := if m.isFloat then m.enc (mulVal (m.val a) (m.val b)) else a * b % 2 ^ 32

/-- X + Y. -/
def Lane.add (m : Lane) (a b : Nat) : Nat := if m.isFloat then m.enc (addVal (m.val a) (m.val b)) else (a + b) % 2 ^ 32

/-- X − Y. -/
def Lane.sub (m : Lane) (a b : Nat) : Nat :=
  if m.isFloat then m.enc (addVal (m.val a) (negVal (m.val b))) else (a + (2 ^ 32 - b)) % 2 ^ 32

/-- R170: X × 2^n. -/
def Lane.scl2 (m : Lane) (a y : Nat) : Nat :=
  let k := clampInt (-2000) 2000 (toSigned m.bits y)
  match m.val a with
  | .fin n g e => m.enc (.fin n g (e + k))
  | v => m.enc v

/-- R170: a comparison of csel: with NaN only ne holds. -/
def Lane.pred (m : Lane) (p a b : Nat) : Bool :=
  if m.isNan a || m.isNan b then p == 1
  else match p with
    | 0 => decide (m.ord a = m.ord b)
    | 1 => decide (m.ord a ≠ m.ord b)
    | 2 => decide (m.ord a < m.ord b)
    | 3 => decide (m.ord a ≤ m.ord b)
    | 4 => decide (m.ord b < m.ord a)
    | _ => decide (m.ord b ≤ m.ord a)

/-- R170: the magnitude. -/
def Lane.abs (m : Lane) (a : Nat) : Nat :=
  if m.isFloat then (if m.isNan a then m.nan else a % 2 ^ (m.bits - 1))
  else wrapInt 32 (toSigned 32 a).natAbs

/-- R170: the negation. -/
def Lane.neg (m : Lane) (a : Nat) : Nat :=
  if m.isFloat then (if m.isNan a then m.nan else a ^^^ 2 ^ (m.bits - 1)) else (2 ^ 32 - a) % 2 ^ 32

/-- R68 to R70: a value in an element format that is not MX. Formats INT4 and INT8 saturate, with NaN as the most negative
value as INT32 has it. -/
def convTo (f : Fmt) (rnd : Rnd) (sat : Bool) (r : Nat) (v : FVal) : Nat :=
  match fmtLay f with
  | some l => encodeVal l rnd sat r v
  | none =>
    let w := fmtBits f
    match v with
    | .fin n m e => encodeInt w rnd r n m e
    | .inf n => if n then 2 ^ (w - 1) else 2 ^ (w - 1) - 1
    | .nan => 2 ^ (w - 1)

/-- R178: whether the conversion of a value saturates or overflows (R69, R70): a finite value leaves the range of the format when it is
rounded, or an infinity is saturated. -/
def convOver (f : Fmt) (rnd : Rnd) (sat : Bool) (r : Nat) (v : FVal) : Bool :=
  match v with
  | .fin n m e =>
    (match fmtLay f with
    | some l => decide (maxCode l < roundCode l rnd r m e)
    | none =>
      let q : Int := (roundMag rnd r m e : Int)
      let q := if n then -q else q
      let w := fmtBits f
      decide (q < -(2 : Int) ^ (w - 1)) || decide ((2 : Int) ^ (w - 1) ≤ q))
  | .inf _ => sat || (fmtLay f).isNone
  | .nan => false

/-- R172: rnd: a float lane value rounded to the values of a format. -/
def Lane.rndTo (m : Lane) (f : Fmt) (rnd : Rnd) (r c : Nat) : Nat :=
  m.enc (decodeElem f (convTo f rnd Config.rndSat r (m.val c)))

/-- R173: the kinds of reductions on two values of the reduction format. -/
def redJoin (m : Lane) (kind a b : Nat) : Nat :=
  let r : Lane := if m.isFloat then .fp32 else .int32
  match kind with
  | 0 => r.add a b
  | 3 => r.add a b
  | 2 => r.min a b
  | _ => r.max a b

/-- R173: the term of an element. -/
def redTerm (m : Lane) (kind c : Nat) : Nat :=
  let r : Lane := if m.isFloat then .fp32 else .int32
  let x := m.toRed c
  match kind with
  | 3 => r.mul x x
  | 4 => r.abs x
  | _ => x

/-- R173: the identity of a kind. INT32 has no infinities: its extremes stand in (notes/assumptions/41). -/
def redIdent (m : Lane) (kind : Nat) : Nat :=
  match kind with
  | 0 => 0
  | 3 => 0
  | 2 => if m.isFloat then 0x7F800000 else 0x7FFFFFFF
  | _ => if m.isFloat then 0xFF800000 else 0x80000000

/-- R173: one level of a balanced tree of pairs; an absent term takes no part. -/
def redPairs (m : Lane) (kind : Nat) : List (Option Nat) → List (Option Nat)
  | some a :: some b :: t => some (redJoin m kind a b) :: redPairs m kind t
  | some a :: none :: t => some a :: redPairs m kind t
  | none :: b :: t => b :: redPairs m kind t
  | l => l

/-- R173: a group of 32 terms: five levels. -/
def redGroup (m : Lane) (kind : Nat) (l : List (Option Nat)) : Nat :=
  let p := redPairs m kind
  ((p (p (p (p (p l))))).headD none).getD (redIdent m kind)

/-- R173: the total of a row of e0 positions of which the first ones hold elements. -/
def redRow (m : Lane) (kind e0 : Nat) (cs : List Nat) : Nat :=
  let ts := (List.range (32 * ceilDiv e0 32)).map (fun i => if i < cs.length then some (redTerm m kind (nth 0 cs i)) else none)
  match (chunks 32 ts).map (redGroup m kind) with
  | [] => redIdent m kind
  | g :: gs => gs.foldl (redJoin m kind) g

/-- R173: argmax: the lowest position of the maximum, or of a NaN. -/
def argMax (m : Lane) (cs : List Nat) : Option Nat :=
  match (List.range cs.length).find? (fun i => m.isNan (nth 0 cs i)) with
  | some i => some i
  | none => (List.range cs.length).find? (fun i => cs.all (fun c => decide (m.ord c ≤ m.ord (nth 0 cs i))))

/-- R173: a quotient of a finite value and a count, with a sticky bit. -/
def divVal (v : FVal) (n : Nat) : FVal :=
  match v with
  | .fin s m e => .fin s (2 * (m * 2 ^ 80 / n) + (if m * 2 ^ 80 % n = 0 then 0 else 1)) (e - 81)
  | v => v

/-- R172, R173: the row transform of a reduction of n elements; scalar is S in the reduction format. The result in the reduction format. Row
transforms 2 and 3 in INT32 mode have no stated result (notes/assumptions/7). -/
def redXform (m : Lane) (xf n scalar total : Nat) : Nat :=
  let f : Lane := .fp32
  let mean : Nat :=
    if m.isFloat then (if n = 0 then 0x7FC00000 else f.enc (divVal (f.val total) n))
    else if n = 0 then (Config.sfu 0x40 total).toNat % 2 ^ 32
    else match divVal (intVal (toSigned 32 total) 0) n with
      | .fin s g e => encodeInt 32 .rne 0 s g e
      | _ => 0
  match xf with
  | 0 => total
  | 1 => mean
  | 2 => if m.isFloat then (if n = 0 then 0x7FC00000 else sfuFp32 .rsqrt (f.add mean scalar)) else (Config.sfu 0x41 total).toNat % 2 ^ 32
  | _ => if m.isFloat then sfuFp32 .recip total else (Config.sfu 0x42 total).toNat % 2 ^ 32

/-- A row result in the reduction format as a value. -/
def Lane.redVal (m : Lane) (c : Nat) : FVal := if m.isFloat then decodeFloat layFp32 c else intVal (toSigned 32 c) 0

end Sys2Proof.Machine
end

