-- ==== Sys2Proof/Machine/Vector.lean ====
section
/-!
DEFINITION. Vector chains (05_vector_engine R158 to R187; 06_control_isa R213): the chain record, its checks, what a chain
computes row by row, and its start, completion and rerun.
-/
namespace Sys2Proof.Machine

/-- R159: a stage word. -/
structure StageW where
  op : Nat
  x : Nat
  y : Nat
  z : Nat
  sreg : Nat
  save : Nat
  fn : Nat
  deriving DecidableEq, Repr

/-- R159: a stage word from its bits. -/
def stageOf (w : Nat) : StageW :=
  ⟨bitsOf w 31 26, bitsOf w 25 23, bitsOf w 22 20, bitsOf w 19 17, bitsOf w 16 12, bitsOf w 11 10, bitsOf w 9 0⟩

/-- R158: the header of a chain record, as bits. -/
def chainHdr (bs : List Byte) : Nat := leAt bs 0 8

/-- The stages of a chain. -/
def chainStages (bs : List Byte) : List StageW :=
  (List.range (bitsOf (chainHdr bs) 3 0)).map (fun j => stageOf (leAt bs (8 + 4 * j) 4))

/-- The lane mode of a chain. -/
def chainLane (h : Nat) : Lane :=
  match bitsOf h 5 4 with
  | 0 => .bf16
  | 1 => .fp32
  | _ => .int32

/-- vc's operands at issue: the descriptors and scalars that the record names (R158, R159). -/
def Ctrl.chainOp (c : Ctrl) (bs : List Byte) (recVa : Nat) (compVa : Option Nat) (osn : Nat) (w1 : Word) : ChainOp :=
  let h := chainHdr bs
  { record := bs, recVa := recVa, compVa := compVa, osn := osn, anchor := toSigned 10 (bitsOf w1.toNat 9 0)
    phase := bitsOf w1.toNat 17 10
    descs := [c.dget (bitsOf h 15 12), c.dget (bitsOf h 19 16), c.dget (bitsOf h 23 20), c.dget (bitsOf h 27 24), c.dget (bitsOf h 32 29)]
    scalars := (chainStages bs).map (fun st => c.sget st.sreg % 2 ^ 32) }

/-- R213: vc: a chain enters the vector queue with its record, descriptors and scalars captured. A record that cannot be
read enters as an empty record, which is refused when it leaves the queue (R186). -/
def execVcChain (p : ArrayId) (w0 w1 : Word) (s : State) : Out :=
  .next (ctrlGate p w0 (some w1) ctrlKnown 0xFC000000 0xEC000000 0x00000000 0x000007FF s (fun s =>
    let c := (s.arr p.val).ctrl
    let va := c.sget (sD w0) % 2 ^ 48
    let comp := c.sget (sB w0) % 2 ^ 48
    let compVa := if sB w0 = 0 then none else some comp
    let osn := c.sget (sA w0) % 2 ^ 32
    s.checked p.val w0 w1
      [failIf (decide (bitsOf w1.toNat 31 18 ≠ 0)) 0x80 3 0xFF, failAt (decide (va % 64 ≠ 0)) 0x87 1 (sD w0) va,
       failAt (decide (comp % 32 ≠ 0) && compVa.isSome) 0x87 1 (sB w0) comp]
      (fun s => s.withRoom p.val 1 (fun s =>
        match s.recordRead p.val va 64 with
          | .ok bs s => s.enqueue p.val 1 w0 w1 8 osn false (.chain (c.chainOp bs va compVa osn w1))
          | .bad _ _ s => s.enqueue p.val 1 w0 w1 8 osn false (.chain (c.chainOp [] va compVa osn w1))
          | .tr t => s.ctrlStall p.val 1 va .read t
          | .wait => s.recordAsk p.val va 64))))

/-- R172: the ops of the catalogue. -/
def opKnown (op : Nat) : Bool :=
  decide (op ≤ 0x0D) || (decide (0x10 ≤ op) && decide (op ≤ 0x1A)) || (decide (0x20 ≤ op) && decide (op ≤ 0x24)) || op == 0x30 || op == 0x31

/-- R172: whether an op uses Y. -/
def usesY (op : Nat) : Bool := (decide (1 ≤ op) && decide (op ≤ 7)) || (decide (0x0A ≤ op) && decide (op ≤ 0x0D))

/-- R172: whether an op uses Z. -/
def usesZ (op : Nat) : Bool := op == 1 || op == 7

/-- R172: the modes of an op. -/
def opInMode (m : Lane) (op : Nat) : Bool :=
  if m.isFloat then !(decide (0x0A ≤ op) && decide (op ≤ 0x0C))
  else !((decide (0x0D ≤ op) && decide (op ≤ 0x1A)) || op == 0x22 || op == 0x23 || op == 0x30 || op == 0x31)

/-- R172: whether the fields inside fn hold no reserved value. -/
def fnOk (st : StageW) : Bool :=
  if st.op = 7 then decide (bitsOf st.fn 2 0 ≤ 5)
  else if st.op = 0x20 ∨ st.op = 0x21 then decide (bitsOf st.fn 2 0 ≤ 5) && decide (bitsOf st.fn 5 3 ≤ 3)
  else if st.op = 0x24 then decide (bitsOf st.fn 2 0 ≤ 3)
  else if st.op = 0x31 then decide (bitsOf st.fn 6 5 ≠ 3)
  else true

/-- The selectors a stage uses. -/
def StageW.sels (st : StageW) : List Nat :=
  [st.x] ++ (if usesY st.op then [st.y] else []) ++ (if usesZ st.op then [st.z] else []) ++
    (if st.op = 7 then [bitsOf st.fn 5 3] else [])

/-- R160: whether a selector has what it names. before: the stages before its stage. -/
def selOk (h : Nat) (before : List StageW) (x : Nat) : Bool :=
  match x with
  | 2 => h.testBit 9
  | 3 => before.any (fun st => st.save == 1)
  | 4 => before.any (fun st => st.save == 2)
  | 6 => before.any (fun st => st.op == 0x21 || st.op == 0x22)
  | 7 => before.any (fun st => st.op == 0x22)
  | _ => true

/-- R160: whether a stage writes through dR. -/
def StageW.writesR (h : Nat) (st : StageW) : Bool := st.op == 0x20 || st.op == 0x24 || (st.op == 0x22 && h.testBit 28)

/-- R160: whether one stage is legal in its place. -/
def stageLegal (h : Nat) (sts : List StageW) (j : Nat) (st : StageW) : Bool :=
  let before := sts.take j
  opKnown st.op && opInMode (chainLane h) st.op && fnOk st && st.save != 3 &&
    st.sels.all (selOk h before) && (usesY st.op || st.y == 0) && (usesZ st.op || st.z == 0) &&
    !(st.writesR h && (!h.testBit 28 || before.any (StageW.writesR h))) &&
    !((st.op == 0x22 || st.op == 0x23) && !h.testBit 33) && !(st.op == 0x30 && decide (j + 1 < sts.length))

/-- R160: the header, and what no single stage shows. -/
def headerLegal (bs : List Byte) : Bool :=
  let h := chainHdr bs
  let n := bitsOf h 3 0
  !h.testBit 46 && bitsOf h 35 34 != 3 && bitsOf h 11 10 != 3 && decide (bitsOf h 8 6 ≤ 2) && bitsOf h 5 4 != 3 &&
    decide (1 ≤ n) && decide (n ≤ 8) && (List.range 8).all (fun j => decide (j < n) || leAt bs (8 + 4 * j) 4 == 0) &&
    leAt bs 40 24 == 0 && !(bitsOf h 11 10 == 2 && !(chainStages bs).any (StageW.writesR h))

/-- R160: the stage that makes a record illegal, 0xFF for the header; none when it is legal. -/
def chainIllegal (bs : List Byte) : Option Nat :=
  if !headerLegal bs then some 0xFF
  else
    let sts := chainStages bs
    (List.range sts.length).find? (fun j => !stageLegal (chainHdr bs) sts j (nth ⟨0, 0, 0, 0, 0, 0, 0⟩ sts j))

/-- A descriptor of a chain: 0 A, 1 B, 2 D, 3 R, 4 C. -/
def ChainOp.desc (op : ChainOp) (i : Nat) : Desc := descOf (nth 0#512 op.descs i)

/-- The header of a chain. -/
def ChainOp.hdr (op : ChainOp) : Nat := chainHdr op.record

/-- The lane mode of a chain. -/
def ChainOp.lane (op : ChainOp) : Lane := chainLane op.hdr

/-- The stages of a chain. -/
def ChainOp.stages (op : ChainOp) : List StageW := chainStages op.record

/-- Destination: 0 memory, 1 west feed, 2 none. -/
def ChainOp.dst (op : ChainOp) : Nat := bitsOf op.hdr 11 10

/-- R165: whether a source format may be read in a mode. -/
def srcFmtOk (m : Lane) (d : Desc) : Bool :=
  match d.fmt with
  | none => false
  | some f => m.isFloat || f == .int32 || f == .record

/-- R166: whether a format may be written without quantisation. -/
def dstFmtOk (d : Desc) : Bool :=
  match d.fmt with
  | none => false
  | some f => fmtDrain f && f != .record && !fmtMx f

/-- R227: whether a descriptor names a format. -/
def layoutOk (d : Desc) : Bool := d.fmt.isSome

/-- R201: a descriptor fault of a chain's operand, which takes the strided layout. -/
def Desc.chainBad (d : Desc) : Bool := d.fault.isSome || d.layout != 0

/-- The last stage quantises. -/
def ChainOp.quants (op : ChainOp) : Bool := op.stages.any (fun st => st.op == 0x30)

/-- R165, R166, R177: the stage with a format fault, 0xFF where no stage applies. -/
def ChainOp.formatFault (op : ChainOp) : Option Nat :=
  let h := op.hdr
  let dD := op.desc 2
  let last := op.stages.length - 1
  let q := op.stages.any (fun st => st.op == 0x30 &&
    (bitsOf st.fn 4 0 != dD.code || dD.mxAxis != 0 || !(match dD.fmt with | some f => fmtMx f | none => false)))
  let rndBad := (List.range op.stages.length).find? (fun j =>
    let st := nth ⟨0, 0, 0, 0, 0, 0, 0⟩ op.stages j
    st.op == 0x31 && (match fmtOfCode (bitsOf st.fn 4 0) with | some f => fmtMx f || f == .record | none => true))
  if !layoutOk (op.desc 0) || !srcFmtOk op.lane (op.desc 0) then some 0xFF
  else if h.testBit 9 && (!layoutOk (op.desc 1) || !srcFmtOk op.lane (op.desc 1)) then some 0xFF
  else if op.dst ≠ 2 ∧ !layoutOk dD then some 0xFF
  else if q then some last
  else if op.dst = 0 ∧ !op.quants ∧ !dstFmtOk dD then some 0xFF
  else if op.dst = 1 ∧ !op.quants ∧ (fmtMx (fmtOr dD.code) ∨ !fmtOperand (fmtOr dD.code)) then some 0xFF
  else if h.testBit 28 && (!layoutOk (op.desc 3) || !dstFmtOk (op.desc 3)) then some 0xFF
  else if h.testBit 33 && (!layoutOk (op.desc 4) || (op.desc 4).fmt != some .fp32) then some 0xFF
  else rndBad

/-- The number of elements of a descriptor. -/
def Desc.count (d : Desc) : Nat := d.ext.foldl (fun a e => a * e) 1

/-- R161: rows of a chain. -/
def ChainOp.rowCount (op : ChainOp) : Nat := ((op.desc 0).ext.drop 1).foldl (fun a e => a * e) 1

/-- R174: the values a buffering stage at j holds for an element. -/
def heldValues (sts : List StageW) (j : Nat) : Nat :=
  let later := (sts.drop (j + 1)).flatMap StageW.sels
  1 + b2n (later.contains 3) + b2n (later.contains 4)

/-- R161, R174, R176: the stage with a shape fault. -/
def ChainOp.shapeFault (op : ChainOp) : Option Nat :=
  let h := op.hdr
  let dA := op.desc 0
  let sts := op.stages
  let isBuf (st : StageW) : Bool := st.op == 0x21 || st.op == 0x22
  let limit := if op.lane = .bf16 then 32768 else 16384
  let colred := sts.any (fun st => st.op == 0x24)
  let tail := (dA.ext.drop 2).foldl (fun a e => a * e) 1
  if dA.chainBad then some 0xFF
  else if h.testBit 9 && ((op.desc 1).chainBad || (op.desc 1).ext != dA.ext) then some 0xFF
  else if op.dst ≠ 2 ∧ ((op.desc 2).chainBad || (op.desc 2).ext != dA.ext) then some 0xFF
  else if h.testBit 28 && ((op.desc 3).chainBad || (op.desc 3).count != (if colred then tail * dA.extOf 0 else op.rowCount)) then some 0xFF
  else if h.testBit 33 && ((op.desc 4).chainBad || (op.desc 4).count != 2 * op.rowCount) then some 0xFF
  else (List.range sts.length).find? (fun j =>
    let st := nth ⟨0, 0, 0, 0, 0, 0, 0⟩ sts j
    (isBuf st && (decide (2 ≤ ((sts.take j).filter isBuf).length) || decide (limit / heldValues sts j < dA.extOf 0))) ||
    (st.op == 0x24 && decide (4096 < dA.extOf 0)))

/-- The indices of the element with a flattened number. -/
def unflatten : List Nat → Nat → List Nat
  | [], _ => []
  | e :: es, n => n % Nat.max 1 e :: unflatten es (n / Nat.max 1 e)

/-- R161: the indices of dimensions 1 to 4 of a row. -/
def ChainOp.rowIx (op : ChainOp) (r : Nat) : List Nat := unflatten ((op.desc 0).ext.drop 1) r

/-- R162, R163: the elements of a row that are not beyond length; none when the row itself is beyond. -/
def State.rowLen (s : State) (acc : Accessor) (op : ChainOp) (r : Nat) : Option Nat :=
  let d := op.desc 0
  let i1 := (op.rowIx r).headD 0
  let l := s.actualLen acc d (r / Nat.max 1 (d.extOf 1)) i1
  if i1 < l.2 then some (Nat.min l.1 (d.extOf 0)) else none

/-- The place of element i of row r of an operand. -/
def ChainOp.elem (op : ChainOp) (k r i : Nat) : ElemLoc :=
  let d := op.desc k
  d.loc (fmtOr d.code) (i :: op.rowIx r)

/-- The place of a numbered element of dR or dC. -/
def Desc.flatLoc (d : Desc) (n : Nat) : ElemLoc := d.loc (fmtOr d.code) (unflatten d.ext n)

/-- R164: whether the source is a drain. -/
def ChainOp.fromDrain (op : ChainOp) : Bool := decide (1 ≤ bitsOf op.hdr 8 6)

/-- The byte ranges a chain reads. -/
def State.chainReads (s : State) (acc : Accessor) (op : ChainOp) : List (Nat × Nat) :=
  let h := op.hdr
  let tails := (op.desc 0).count / Nat.max 1 ((op.desc 0).extOf 0 * (op.desc 0).extOf 1)
  (List.range tails).flatMap (fun j => (op.desc 0).tableRange j) ++
  (List.range op.rowCount).flatMap (fun r =>
    let n := (s.rowLen acc op r).getD 0
    (List.range n).flatMap (fun i =>
      (if op.fromDrain then [] else (op.elem 0 r i).ranges) ++ (if h.testBit 9 then (op.elem 1 r i).ranges else [])) ++
    (if h.testBit 33 && !h.testBit 47 then ((op.desc 4).flatLoc (2 * r)).ranges ++ ((op.desc 4).flatLoc (2 * r + 1)).ranges else []))

/-- The byte ranges a chain writes. -/
def State.chainWrites (s : State) (acc : Accessor) (op : ChainOp) : List (Nat × Nat) :=
  let h := op.hdr
  (List.range op.rowCount).flatMap (fun r =>
    let n := if h.testBit 37 then (op.desc 0).extOf 0 else (s.rowLen acc op r).getD 0
    (if op.dst = 2 then [] else (List.range n).flatMap (fun i => (op.elem 2 r i).ranges)) ++
    (if h.testBit 33 then ((op.desc 4).flatLoc (2 * r)).ranges ++ ((op.desc 4).flatLoc (2 * r + 1)).ranges else [])) ++
  (if h.testBit 28 then (List.range (op.desc 3).count).flatMap (fun n => ((op.desc 3).flatLoc n).ranges) else [])

/-- R186: the first translation fault of ranges that stalls the chain (not code 0x07, which ends it). -/
def State.firstStall (s : State) (acc : Accessor) (rs : List (Nat × Nat)) : Option (Nat × Tr) :=
  ((rs.flatMap (fun r => vaPieces r.1 r.2)).map (fun r => (r.1, s.accessN acc r.1 r.2))).find? (fun t =>
    match t.2 with
    | .fault 7 .. => false
    | .fault .. => true
    | .ok _ => false)

/-- R186, R229, R231: a chain fault: the event, the registers, and the entries issued after it. -/
def State.chainFault (s : State) (p : Nat) (e : QEntry) (ctx cause stage elem addr : Nat) : State :=
  let s := s.postCtx ctx 0x0C 0x8B 2 (srcOf 3 p)
    (payloadOf [(16, 1, cause), (17, 1, stage), (20, 4, e.osn), (24, 8, elem), (32, 8, addr)])
  let s := ((s.setFld (rAryVeFault p) 31 24 cause).setFld (rAryVeFault p) 23 16 stage).setFld (rAryVeFault p) 8 0 ctx
  let s := (s.setReg64 (rAryVeFaultElem p) elem).setFld (rAryVeStatus p) 29 27 2
  let s := s.faultRegs p ctx 0x8B cause e.pc e.w0 e.w1
  if (s.arr p).ctrl.ctx = ctx then s.dropAfter p e.seq 0x0C 0x8B else s.ctxFault ctx 0x0C 0x8B

/-- An element on its way through the stages. -/
structure ElemSt where
  p : LaneV
  a : LaneV
  b : LaneV
  t0 : LaneV
  t1 : LaneV
  deriving DecidableEq, Repr

/-- A row on its way through the stages: its elements, C and D, D in FP32 with its poison and whether an rmaxc has given it, the carries,
the row sums of rsumc stages that wait for a later rmaxc (R175), what goes through dR, the column accumulators. -/
structure RowSt where
  es : List ElemSt
  c : LaneV
  d : LaneV
  dF : LaneV
  hasD : Bool
  c0 : LaneV
  c1 : LaneV
  sums : List LaneV
  r : Option (FVal × Bool)
  cols : List (Option LaneV)
  deriving DecidableEq, Repr

/-- R159: the value of a selector. -/
def RowSt.sel (w : RowSt) (scalar x : Nat) (e : ElemSt) : LaneV :=
  match x with
  | 0 => e.p
  | 1 => e.a
  | 2 => e.b
  | 3 => e.t0
  | 4 => e.t1
  | 5 => ⟨scalar, false⟩
  | 6 => w.c
  | _ => w.d

/-- R172: the element operation of a stage. -/
def elemOp (m : Lane) (st : StageW) (rand : Nat) (x y z w : LaneV) : LaneV :=
  let code := match st.op with
    | 0x01 => m.fma x.code y.code z.code
    | 0x02 => m.mul x.code y.code
    | 0x03 => m.add x.code y.code
    | 0x04 => m.sub x.code y.code
    | 0x05 => m.min x.code y.code
    | 0x06 => m.max x.code y.code
    | 0x07 => if m.pred (bitsOf st.fn 2 0) x.code y.code then z.code else w.code
    | 0x08 => m.abs x.code
    | 0x09 => m.neg x.code
    | 0x0A => (x.code * 2 ^ (y.code % 32)) % 2 ^ 32
    | 0x0B => x.code / 2 ^ (y.code % 32)
    | 0x0C => wrapInt 32 (toSigned 32 x.code / 2 ^ (y.code % 32))
    | 0x0D => m.scl2 x.code y.code
    | 0x31 => m.rndTo (fmtOr (bitsOf st.fn 4 0)) (rndOr (bitsOf st.fn 6 5)) rand x.code
    | op => if 0x10 ≤ op ∧ op ≤ 0x1A then m.sfu (sfuOf (op - 0x10)) x.code else x.code
  ⟨code, x.bad || (usesY st.op && y.bad) || (usesZ st.op && z.bad) || (st.op == 7 && w.bad)⟩

/-- R172, R173: the value of a row reduction with its transform, in the reduction format, and as a value; scalar is S in the reduction
format. -/
def rowRed (m : Lane) (st : StageW) (e0 scalar : Nat) (xs : List Nat) : Nat × FVal :=
  if bitsOf st.fn 2 0 = 5 then
    let i : Int := match argMax m xs with | some i => (i : Int) | none => -1
    let c := if m.isFloat then encodeSigned layFp32 .rne false 0 (intVal i 0) else wrapInt 32 i
    if bitsOf st.fn 5 3 = 0 then (c, intVal i 0)
    else
      let t := redXform m (bitsOf st.fn 5 3) xs.length scalar c
      (t, m.redVal t)
  else
    let t := redXform m (bitsOf st.fn 5 3) xs.length scalar (redRow m (bitsOf st.fn 2 0) e0 xs)
    (t, m.redVal t)

/-- R175: row sums enter the carry c1 with the factor D. -/
def RowSt.takeSums (w : RowSt) (xs : List LaneV) : RowSt :=
  let f : Lane := .fp32
  { w with sums := [], c1 := xs.foldl (fun (c : LaneV) x => ⟨f.fma c.code w.dF.code x.code, c.bad || w.dF.bad || x.bad⟩) w.c1 }

/-- R175: what rmaxc does to a row with the maximum mx. -/
def RowSt.rmax (m : Lane) (w : RowSt) (mx : Nat) (bad : Bool) : RowSt :=
  let f : Lane := .fp32
  let new := f.max w.c0.code mx
  let bad := bad || w.c0.bad
  if new = 0xFF800000 then { w with c0 := ⟨new, bad⟩, c := ⟨0, bad⟩, d := ⟨m.ofFp32 0x3F800000, bad⟩, dF := ⟨0x3F800000, bad⟩ }
  else
    let d := sfuFp32 .exp (f.sub w.c0.code new)
    { w with c0 := ⟨new, bad⟩, c := ⟨m.ofFp32 new, bad⟩, d := ⟨m.ofFp32 d, bad⟩, dF := ⟨d, bad⟩ }

/-- R172 to R176: one stage over a row. rand gives the random value of an element for this stage; hasR: the stage writes
through dR. -/
def RowSt.stage (m : Lane) (h e0 : Nat) (st : StageW) (scalar : Nat) (rand : Nat → Nat) (w : RowSt) : RowSt :=
  let n := w.es.length
  let ins := (List.range n).map (fun i => (i, nth ⟨⟨0, false⟩, ⟨0, false⟩, ⟨0, false⟩, ⟨0, false⟩, ⟨0, false⟩⟩ w.es i))
  let sS := m.ofFp32 scalar
  let outs := ins.map (fun e =>
    elemOp m st (rand e.1) (w.sel sS st.x e.2) (w.sel sS st.y e.2) (w.sel sS st.z e.2) (w.sel sS (bitsOf st.fn 5 3) e.2))
  let es := List.zipWith (fun (e : Nat × ElemSt) (v : LaneV) => { e.2 with
    p := v, t0 := if st.save = 1 then v else e.2.t0, t1 := if st.save = 2 then v else e.2.t1 }) ins outs
  let xs := outs.map (fun v => v.code)
  let bad := outs.any (fun v => v.bad)
  let w := { w with es := es }
  if st.op = 0x20 then { w with r := some ((rowRed m st e0 (m.toRed sS) xs).2, bad) }
  else if st.op = 0x21 then
    let t := (rowRed m st e0 (m.toRed sS) xs).1
    { w with c := ⟨if m.isFloat then m.ofFp32 t else t, bad⟩ }
  else if st.op = 0x22 then
    let w := { w.rmax m (redRow m 1 e0 xs) bad with hasD := true }
    let w := w.takeSums w.sums
    if h.testBit 28 then { w with r := some (decodeFloat layFp32 w.dF.code, w.dF.bad) } else w
  else if st.op = 0x23 then
    let x : LaneV := ⟨redRow m 0 e0 xs, bad⟩
    if w.hasD then w.takeSums [x] else { w with sums := w.sums ++ [x] }
  else if st.op = 0x24 then
    let k := bitsOf st.fn 2 0
    { w with cols := (List.range (Nat.max w.cols.length n)).map (fun i =>
        let old := nth none w.cols i
        if i < n then
          let v : LaneV := nth ⟨0, false⟩ outs i
          let t := redTerm m k v.code
          (match old with
          | some o => some ⟨redJoin m k o.code t, o.bad || v.bad⟩
          | none => some ⟨t, v.bad⟩)
        else old) }
  else w

/-- R165: a source element in the lane format. -/
def laneIn (m : Lane) (f : Fmt) (anchor : Int) (c : Nat × Nat) : Nat :=
  match f with
  | .record =>
    let v := accValue anchor (accOfRec (BitVec.ofNat 128 c.1))
    if m.isFloat then m.enc v else convTo .int32 .rne false 0 v
  | f => if m.isFloat then m.enc (elemVal f c) else c.1 % 2 ^ 32

/-- R241, R185: whether an element's bytes hold a poisoned or uncorrectable word. -/
def State.elemBad (s : State) (acc : Accessor) (l : ElemLoc) : Bool := (s.firstBad (s.physRanges acc l.ranges)).isSome

/-- The converted rows of the tile a chain is attached to, as its drain writes them (R164); none once the tile has left. -/
def State.drainCodes (s : State) (p : Nat) (att : Option Nat) : Option (List (List (Nat × Nat × Nat))) :=
  match att with
  | none => none
  | some q =>
    match (s.arr p).tiles.find? (fun t => t.seq == q && decide (2 ≤ t.state) && t.accs != []) with
    | none => none
    | some t => t.drain.map (fun d =>
      let c := (t.combined d).1
      (List.range c.length).map (fun i => drainRow (s.srKey t.ctx) d i (nth [] c i)))

/-- What a chain has done: its writes, what it has reported so far (R178), the elements that its hash covers, as (key, code, scale) (R355),
and its fault: cause, stage, element, address. -/
structure ChainAcc where
  writes : List ChainWrite
  prog : ChainProg
  outs : List (Nat × Nat × Nat)
  fault : Option (Nat × Nat × Nat × Nat)
  deriving DecidableEq, Repr

/-- R355, R344: the hash of a chain's outputs: the stored bit pattern of each element, keyed by its index, and the flags of the completion
record. Scales stand for the high half; the elements of dR and dC are keyed in ranges of their own (notes/assumptions/109). -/
def ChainAcc.hash (o : ChainAcc) : Nat :=
  let h := o.outs.foldl (fun h x => (h + mix64 (x.2.1 % 2 ^ 64 ^^^ x.1) + mix64 (x.2.2 ^^^ hashK2)) % 2 ^ 64) 0
  mix64 (h ^^^ (o.prog.flags * 2 ^ 56) ^^^ o.prog.rows)

/-- Runs of bytes as writes of a chain; bads are the ranges of poisoned results. -/
def runWrites (m : Tbl Byte) (bads : List (Nat × Nat)) : List ChainWrite :=
  (byteRuns m).map (fun r => ⟨r.1, r.2, false⟩) ++
  (bads.map (fun b => (⟨b.1, (List.range b.2).map (fun k => (tblFind m (b.1 + k)).getD 0#8), true⟩ : ChainWrite)))

/-- R177, R166: the final values of a row in the format of D: code, scale, poison, clamped; and what R178 reports of it. -/
structure FinalRow where
  vals : List (Nat × Nat × Bool)
  flags : Nat
  qmax : Nat
  qmin : Nat
  clamped : Nat
  deriving DecidableEq, Repr

/-- R178: the flags of a value that is written in a format: NaN, infinity, saturation or overflow, poison. -/
def writeFlags (f : Fmt) (rnd : Rnd) (sat : Bool) (rand : Nat) (v : FVal) (code : Nat) (bad : Bool) : Nat :=
  let w := decodeElem f code
  let nan := (fmtLay f).isSome && w == .nan
  let inf := (fmtLay f).isSome && (match w with | .inf _ => true | _ => false)
  b2n nan + 2 * b2n inf + 4 * b2n (convOver f rnd sat rand v) + 8 * b2n bad

/-- R166: a row converted without quantisation. -/
def finalPlain (m : Lane) (f : Fmt) (rnd : Rnd) (sat : Bool) (rand : Nat → Nat) (vs : List LaneV) : FinalRow :=
  let one (i : Nat) (v : LaneV) : (Nat × Nat × Bool) × Nat :=
    let x := m.val v.code
    let c := if m.isFloat then convTo f rnd sat (rand i) x else (if f = .int32 then v.code else convTo f rnd sat (rand i) x)
    ((c, 0, v.bad), writeFlags f rnd sat (rand i) x c v.bad)
  let rs := (List.range vs.length).map (fun i => one i (nth ⟨0, false⟩ vs i))
  ⟨rs.map Prod.fst, rs.foldl (fun a r => a ||| r.2) 0, 0, 0xFF, 0⟩

/-- R177: a row quantised to MX blocks. Positions from vs.length up to full are beyond length and written as zero. -/
def finalQuant (m : Lane) (f : Fmt) (rnd : Rnd) (sat : Bool) (rand : Nat → Nat) (vs : List LaneV) (full : Nat) : FinalRow :=
  let n := Nat.max vs.length full
  (List.range (ceilDiv n 32)).foldl (fun (o : FinalRow) b =>
    let ix := (List.range (Nat.min 32 (vs.length - 32 * b))).map (fun i => 32 * b + i)
    let ins := ix.map (fun i => (m.val (nth ⟨0, false⟩ vs i : LaneV).code, rand i))
    let bad := ix.any (fun i => (nth ⟨0, false⟩ vs i : LaneV).bad)
    let blk := mxBlock f rnd sat ins
    let sc := if ins = [] then 0 else blk.1
    let nz := ins.any (fun v => match v.1 with | .fin _ g _ => g != 0 | _ => false)
    let clamp := if sc = 0xFF then 0 else (ins.filter (fun v => match v.1 with
      | .fin _ g e => (match fmtLay f with
        | some l => decide (maxCode l < roundCode l rnd v.2 g (e - ((sc : Int) - 127)))
        | none => decide (127 < roundMag rnd v.2 g (e - ((sc : Int) - 127) + 6)))
      | .inf _ => sat
      | .nan => false)).length
    let codes := (List.range (Nat.min 32 (n - 32 * b))).map (fun i => (nth 0 blk.2 i, sc, bad))
    let nan := blk.2.any (fun c => (fmtLay f).isSome && decodeElem f c == .nan)
    let inf := blk.2.any (fun c => (fmtLay f).isSome && (match decodeElem f c with | .inf _ => true | _ => false))
    let rep := nz && sc != 0xFF
    { vals := o.vals ++ codes
      flags := o.flags ||| (b2n nan + 2 * b2n inf + 4 * b2n (decide (0 < clamp)) + 8 * b2n bad + 16 * b2n (sc == 0xFF && ins != []))
      qmax := if rep then Nat.max o.qmax sc else o.qmax
      qmin := if rep then Nat.min o.qmin sc else o.qmin
      clamped := o.clamped + clamp }) ⟨[], 0, 0, 0xFF, 0⟩

/-- R168: a carry of dC: the buffered one where an earlier chain that waits for a commit holds it, else memory. -/
def State.carryAt (s : State) (p : Nat) (acc : Accessor) (seq : Nat) (l : ElemLoc) : LaneV :=
  let waits := (s.arr p).vec.pendingSeq.flatMap (fun x => if x.2.ctx = acc.ctx ∧ x.2.entry.seq < seq then x.2.staged else [])
  match (waits.filter (fun w => w.va == l.addr && decide (4 ≤ w.data.length))).getLast? with
  | some w => ⟨leAt w.data 0 4, w.bad⟩
  | none => ⟨ofBytes (s.peek acc l.addr 4), s.elemBad acc l⟩

/-- R179: the random value of element i of row r, for the osn of a stage or of the final conversion. coord: the bases of a drain source. -/
def chainRand (key osn : Nat) (coord : Option (Nat × Nat)) (r i : Nat) : Nat :=
  match coord with
  | some d => srRandom key (osn % 2 ^ 32) (d.1 + r) (d.2 + i)
  | none => srRandom key (osn % 2 ^ 32) r i

/-- R102, R186: whether a write of a chain meets a held range; the tile that a chain feeds holds its hold region itself (R167). -/
def State.chainHeld (s : State) (p : Nat) (e : QEntry) (op : ChainOp) (pa n : Nat) : Bool :=
  if op.dst = 1 then
    (s.modArr p (fun a =>
      let free (x : Tile) : Tile := if a.fedBy e x then { x with held := [] } else x
      { a with tiles := a.tiles.map free, restarts := a.restarts.map free })).heldHit pa n
  else s.heldHit pa n

/-- R186: the first element of a row whose access is refused, or whose anchor does not match: cause, element, address. -/
def State.rowFault (s : State) (p : Nat) (en : QEntry) (acc accW : Accessor) (op : ChainOp) (r n : Nat) : Option (Nat × Nat × Nat) :=
  let h := op.hdr
  let full := if h.testBit 37 then (op.desc 0).extOf 0 else n
  let refused (acc : Accessor) (l : ElemLoc) : Bool := (s.firstFault acc l.ranges).isSome
  let held (l : ElemLoc) : Bool := (s.physRanges accW l.ranges).any (fun x => s.chainHeld p en op x.1 x.2)
  let anch (k : Nat) (l : ElemLoc) : Bool := (op.desc k).code == 0x11 &&
    !recAnchorOk op.anchor (BitVec.ofNat 128 (s.peekElem acc l).1)
  ((List.range (Nat.max n full)).filterMap (fun i =>
    let a := op.elem 0 r i
    let b := op.elem 1 r i
    let d := op.elem 2 r i
    if i < n ∧ !op.fromDrain ∧ refused acc a then some (4, i, a.addr)
    else if i < n ∧ h.testBit 9 ∧ refused acc b then some (4, i, b.addr)
    else if i < n ∧ !op.fromDrain ∧ anch 0 a then some (5, i, a.addr)
    else if i < n ∧ h.testBit 9 ∧ anch 1 b then some (5, i, b.addr)
    else if op.dst ≠ 2 ∧ (refused accW d ∨ held d) then some (4, i, d.addr)
    else none)).head?.orElse (fun _ =>
      let ends := (if h.testBit 33 then [(op.desc 4).flatLoc (2 * r), (op.desc 4).flatLoc (2 * r + 1)] else []) ++
        (if h.testBit 28 && !op.stages.any (fun st => st.op == 0x24) then [(op.desc 3).flatLoc r] else [])
      (ends.find? (fun l => refused accW l || (s.physRanges accW l.ranges).any (fun x => s.heldHit x.1 x.2))).map (fun l => (4, n, l.addr)))

/-- R182, R187: an element as a chain reads it: in memory as it stands, or as it stood before a write that the chain need not see. -/
def State.seen (s old : State) (acc : Accessor) (l : ElemLoc) : Nat × Nat :=
  if (s.freeAt (2 ^ 64 + l.addr)).testBit 0 then old.peekElem acc l else s.peekElem acc l

/-- R161 to R179: one row of a chain. old: memory before writes that the chain need not see. -/
def State.chainRow (s old : State) (p : Nat) (run : ChainRun) (op : ChainOp) (src : Option (List (List (Nat × Nat × Nat)))) (o : ChainAcc)
    (r : Nat) : ChainAcc :=
  if o.fault.isSome then o
  else
    let h := op.hdr
    let m := op.lane
    let acc := s.vecAcc p run.ctx .read
    let accW := s.vecAcc p run.ctx .write
    let e0 := (op.desc 0).extOf 0
    let len := s.rowLen acc op r
    let n := len.getD 0
    let key := s.srKey run.ctx
    match s.rowFault p run.entry acc accW op r n with
    | some (cause, i, va) => { o with fault := some (cause, 0xFF, r * e0 + i, va) }
    | none =>
      let fA := fmtOr (op.desc 0).code
      let fB := fmtOr (op.desc 1).code
      let es := (List.range n).map (fun i =>
        let la := op.elem 0 r i
        let ca := match src with
          | some rows => (match (nth [] rows r).find? (fun x => x.1 == i) with
            | some x => (x.2.1, x.2.2)
            | none => s.peekElem acc la)
          | none => s.seen old acc la
        let a : LaneV := ⟨laneIn m fA op.anchor ca, (src.isNone && s.elemBad acc la)⟩
        let lb := op.elem 1 r i
        let b : LaneV := if h.testBit 9 then ⟨laneIn m fB op.anchor (s.seen old acc lb), s.elemBad acc lb⟩ else ⟨0, false⟩
        (⟨a, a, b, ⟨0, false⟩, ⟨0, false⟩⟩ : ElemSt))
      let lc0 := (op.desc 4).flatLoc (2 * r)
      let lc1 := (op.desc 4).flatLoc (2 * r + 1)
      let carried := h.testBit 33 && !h.testBit 47
      let w0 : RowSt :=
        { es := es, c := ⟨0, false⟩, d := ⟨0, false⟩, dF := ⟨0x3F800000, false⟩, hasD := false
          c0 := if carried then s.carryAt p acc run.entry.seq lc0 else ⟨0xFF800000, false⟩
          c1 := if carried then s.carryAt p acc run.entry.seq lc1 else ⟨0, false⟩, sums := [], r := none
          cols := if r % Nat.max 1 ((op.desc 0).extOf 1) = 0 then [] else o.prog.cols }
      let w := (List.range op.stages.length).foldl (fun (w : RowSt) j =>
        w.stage m h e0 (nth ⟨0, 0, 0, 0, 0, 0, 0⟩ op.stages j) (nth 0 op.scalars j)
          (chainRand key (op.osn + (j + 1) * 2 ^ 28) run.coord r)) w0
      let w := w.takeSums w.sums
      let rnd := rndOr (bitsOf h 35 34)
      let sat := h.testBit 36
      let rand := chainRand key op.osn run.coord r
      let fD := fmtOr (op.desc 2).code
      let outs := w.es.map (fun e => e.p)
      let full := if h.testBit 37 then e0 else n
      let fin := if op.quants then finalQuant m fD rnd sat rand outs full else finalPlain m fD rnd sat rand outs
      let diff (i : Nat) : Nat := (run.upset.filter (fun u => u.1 == r * e0 + i)).foldl (fun x u => x ^^^ u.2) 0
      let vals := if op.dst = 2 then [] else (List.range (Nat.max n full)).map (fun i =>
        let v := nth (0, 0, false) fin.vals i
        (op.elem 2 r i, (v.1 ^^^ diff i) % 2 ^ fmtBits fD, v.2.1, v.2.2))
      let dW := runWrites (s.mergeElems acc (vals.map (fun v => (v.1, v.2.1, v.2.2.1)))) ((vals.filter (fun v => v.2.2.2)).flatMap (fun v => v.1.ranges))
      let present := len.isSome
      let fR := fmtOr (op.desc 3).code
      let lastRow := (r + 1) % Nat.max 1 ((op.desc 0).extOf 1) == 0
      let kcol := (op.stages.find? (fun st => st.op == 0x24)).map (fun st => bitsOf st.fn 2 0)
      let rE : List (Nat × FVal × Nat × Bool) := match w.r with
        | some (v, bad) => if present && h.testBit 28 then [(r, v, chainRand key op.osn none r 0, bad)] else []
        | none => []
      let colE : List (Nat × FVal × Nat × Bool) := match kcol with
        | some k =>
          if lastRow then
            (List.range e0).map (fun i =>
              let v : LaneV := (nth none w.cols i).getD ⟨redIdent m k, false⟩
              (r / Nat.max 1 ((op.desc 0).extOf 1) * e0 + i, m.redVal v.code, chainRand key op.osn none r i, v.bad))
          else []
        | none => []
      let red := (rE ++ colE).map (fun x => (x.1, convTo fR rnd sat x.2.2.1 x.2.1, x))
      let rW := red.flatMap (fun x =>
        let l := (op.desc 3).flatLoc x.1
        runWrites (s.mergeElems acc [(l, x.2.1, 0)]) (if x.2.2.2.2.2 then l.ranges else []))
      let carry : List (Nat × ElemLoc × LaneV) :=
        if h.testBit 33 && present && op.stages.any (fun st => st.op == 0x22 || st.op == 0x23) then [(2 * r, lc0, w.c0), (2 * r + 1, lc1, w.c1)]
        else []
      let cW := carry.map (fun x => (⟨x.2.1.addr, bytesOf 4 x.2.2.code, x.2.2.bad⟩ : ChainWrite))
      let bad := (List.range n).find? (fun i => (nth ⟨0, false⟩ (es.map (fun e => e.a)) i : LaneV).bad ||
        (nth ⟨0, false⟩ (es.map (fun e => e.b)) i : LaneV).bad)
      let bad := if carried && present && (w0.c0.bad || w0.c1.bad) then some (bad.getD 0) else bad
      let flags := (red.map (fun x => writeFlags fR rnd sat x.2.2.2.2.1 x.2.2.2.1 x.2.1 x.2.2.2.2.2)) ++
        carry.map (fun x => writeFlags .fp32 .rne false 0 (decodeFloat layFp32 x.2.2.code) x.2.2.code x.2.2.bad)
      { writes := o.writes ++ dW ++ rW ++ cW
        outs := o.outs ++ (List.range vals.length).map (fun i => let v := nth (lc0, 0, 0, false) vals i; (r * e0 + i, v.2.1, v.2.2.1)) ++
          red.map (fun x => (2 ^ 62 + x.1, x.2.1, 0)) ++ carry.map (fun x => (2 ^ 63 + x.1, x.2.2.code, 0))
        fault := none
        prog :=
          { flags := (flags.foldl (fun a x => a ||| x) o.prog.flags) ||| (if op.dst = 2 then 0 else fin.flags)
            qmax := if op.quants then Nat.max o.prog.qmax fin.qmax else o.prog.qmax
            qmin := if op.quants then Nat.min o.prog.qmin fin.qmin else o.prog.qmin
            clamped := Nat.min (2 ^ 32 - 1) (o.prog.clamped + fin.clamped)
            elems := o.prog.elems + n
            rows := r + 1
            firstBad := o.prog.firstBad.or (bad.map (fun i => r * e0 + i))
            cols := w.cols } }

/-- R161, R184: the rows of a chain from the next one up to a number. -/
def State.chainRows (s old : State) (p : Nat) (r : ChainRun) (op : ChainOp) (hi : Nat) : ChainAcc :=
  let src := if op.fromDrain then s.drainCodes p r.attached else none
  (List.range (hi - r.prog.rows)).foldl (fun o i => s.chainRow old p r op src o (r.prog.rows + i)) ⟨[], r.prog, [], none⟩

/-- R184: what a chain that faults leaves at the positions from the faulting row on: anything. -/
def State.chainUndefined (s : State) (p ctx : Nat) (op : ChainOp) (o : ChainAcc) : List ChainWrite :=
  if o.fault.isNone then []
  else
    let accW := s.vecAcc p ctx .write
    let h := op.hdr
    let e0 := (op.desc 0).extOf 0
    let colred := op.stages.any (fun st => st.op == 0x24)
    let later := (List.range op.rowCount).drop o.prog.rows
    let g := Nat.max 1 ((op.desc 0).extOf 1)
    let d := if op.dst = 2 then [] else later.flatMap (fun r => (List.range e0).map (fun i => op.elem 2 r i))
    let r := if !h.testBit 28 then []
      else if colred then ((List.range (ceilDiv op.rowCount g)).drop (o.prog.rows / g)).flatMap (fun k => (List.range e0).map (fun i => (op.desc 3).flatLoc (k * e0 + i)))
      else later.map (fun k => (op.desc 3).flatLoc k)
    let c := if h.testBit 33 && op.stages.any (fun st => st.op == 0x22 || st.op == 0x23)
      then later.flatMap (fun k => [(op.desc 4).flatLoc (2 * k), (op.desc 4).flatLoc (2 * k + 1)]) else []
    (((d ++ r ++ c).flatMap ElemLoc.ranges).filter (fun x =>
      (s.firstFault accW [x]).isNone && !(s.physRanges accW [x]).any (fun y => s.heldHit y.1 y.2))).map (fun x =>
        ⟨x.1, (List.range x.2).map (fun k => BitVec.ofNat 8 (s.freeAt (2 ^ 61 + x.1 + k))), false⟩)

/-- R182: memory as a chain with overlap may read it: a byte that the chain before it wrote has its value before or after. -/
def State.overlapView (s : State) (accW : Accessor) (last : List (Nat × Byte × Byte)) : State :=
  last.foldl (fun t x => if (s.freeAt (2 ^ 62 + x.1)).testBit 0 then t.poke accW none x.1 [x.2.1] else t) s

/-- R182: the writes of a chain with overlap: a byte that the chain before it also wrote holds either value. -/
def State.overlapWrites (s : State) (last : List (Nat × Byte × Byte)) (ws : List ChainWrite) : List ChainWrite :=
  if last = [] then ws
  else ws.map (fun w => { w with data := (List.range w.data.length).map (fun k =>
    match last.find? (fun x => x.1 == w.va + k) with
    | some x => if (s.freeAt (2 ^ 63 + w.va + k)).testBit 0 then x.2.2 else nth 0#8 w.data k
    | none => nth 0#8 w.data k) })

/-- R182: what a chain leaves for one with overlap: the bytes it writes, before and after. -/
def State.lastWrites (s : State) (acc : Accessor) (ws : List ChainWrite) : List (Nat × Byte × Byte) :=
  ws.flatMap (fun w => (List.range w.data.length).map (fun k => (w.va + k, nth 0#8 (s.peek acc (w.va + k) 1) 0, nth 0#8 w.data k)))

/-- R178: the completion record. -/
def ChainProg.record (o : ChainProg) (osn status elem : Nat) : List Byte :=
  bytesOf 4 osn ++ bytesOf 1 status ++ bytesOf 1 o.flags ++ bytesOf 1 o.qmax ++ bytesOf 1 o.qmin ++ bytesOf 8 o.elems ++
    bytesOf 4 o.rows ++ bytesOf 4 o.clamped ++ bytesOf 8 elem

/-- R179, R95: the bases of the operation whose drain a chain takes. -/
def Tile.bases (t : Tile) : Option (Nat × Nat) := t.drain.map (fun d => (d.m0, d.n0))

/-- R164: whether the drain of a tile gives what a chain of a mode may take, and dA describes it. -/
def drainFits (op : ChainOp) (t : Tile) : Bool :=
  match t.drain with
  | none => false
  | some d =>
    let want : Fmt := match op.lane with | .bf16 => .bf16 | .fp32 => .fp32 | .int32 => .int32
    d.set.fmt == want && (op.desc 0).code == fmtCode want && t.transposed == (bitsOf op.hdr 8 6 == 2)

/-- R104, R198: whether a chain must wait for uncommitted outputs of another array. -/
def State.chainBlocked (s : State) (p ctx : Nat) (op : ChainOp) : Bool :=
  let acc := s.vecAcc p ctx .read
  s.foreignUncommitted p ctx (s.physRanges acc (s.chainReads acc op))

/-- R160, R186: a chain is refused as it leaves the queue. -/
def State.chainRefuse (s : State) (p : Nat) (e : QEntry) (ctx cause stage addr : Nat) : State :=
  ((s.modArr p (fun a => { a with vq := a.vq.drop 1, vec := { a.vec with lastSeq := e.seq } })).bump (rAryVeChains p) 1).chainFault p e ctx cause stage 0 addr

/-- R164: whether some pass issued after a chain whose drain names chain delivery is on the array or waits in its queue. -/
def ArrayState.attachable (a : ArrayState) (e : QEntry) : Bool :=
  a.tiles.any (fun t => t.state != 0 && t.state != 5 && a.attachesTo e t) || a.restarts.any (fun t => a.attachesTo e t) ||
    a.aq.any (fun x => match x.op with | .pass op => op.drain.chain && decide (e.seq < x.seq) | _ => false)

/-- R164, R186: a chain at the head of the queue that would attach to a pass, and to which no pass is there at a context switch, is refused. -/
def State.chainUnattached (s : State) (p : Nat) : State :=
  let a := s.arr p
  match a.vq with
  | e :: _ => (match e.op with
    | .chain op =>
      if op.record != [] && op.fromDrain && a.vec.running.isNone && a.vec.reruns.isEmpty && !a.attachable e then s.chainRefuse p e a.ctrl.ctx 6 0xFF 0
      else s
    | _ => s)
  | [] => s

/-- R181: a chain leaves the queue: its record is checked, it attaches to its tile, and it starts. -/
def State.chainBegin (s : State) (p : Nat) (e : QEntry) (op : ChainOp) : State :=
  let a := s.arr p
  let ctx := a.ctrl.ctx
  let acc := s.vecAcc p ctx .read
  let accW := s.vecAcc p ctx .write
  let pop := s.modArr p (fun a => { a with vq := a.vq.drop 1 })
  if op.record = [] then s.chainRefuse p e ctx 7 0xFF op.recVa
  else match chainIllegal op.record with
    | some j => s.chainRefuse p e ctx 1 j 0
    | none => match op.formatFault with
      | some j => s.chainRefuse p e ctx 2 j 0
      | none => match op.shapeFault with
        | some j => s.chainRefuse p e ctx 3 j 0
        | none =>
          let tile := if op.fromDrain then a.tiles.find? (fun t => t.state != 0 && t.state != 5 && a.attachesTo e t) else none
          if op.fromDrain ∧ tile.isNone then s
          else if (match tile with | some t => !drainFits op t | none => false) then s.chainRefuse p e ctx 6 0xFF 0
          else match s.firstStall acc (s.chainReads acc op) with
            | some (v, t) => s.stallTr ctx 5 p v .read t
            | none => match s.firstStall accW (s.chainWrites acc op) with
              | some (v, t) => s.stallTr ctx 6 p v .write t
              | none =>
                if s.chainBlocked p ctx op then s
                else pop.modArr p (fun a => { a with vec := { a.vec with
                  running := some { entry := e, ctx := ctx, attached := tile.map (fun t => t.seq), staged := [], coord := tile.bind Tile.bases }
                  frozen := false, races := [], lastSeq := e.seq } })

/-- R181, R182: a chain starts after the previous one has completed. -/
def execChainStart (p : ArrayId) (s : State) : Out :=
  .next (
    let a := s.arr p.val
    if !a.runs || s.stopping p.val || a.vec.running.isSome || !a.vec.reruns.isEmpty || s.unitStalled p.val 5 || s.unitStalled p.val 6 then s
    else match a.vq with
      | e :: _ => (match e.op with
        | .chain op => s.chainBegin p.val e op
        | _ => s)
      | [] => s)

/-- R168: the tiles a chain's outputs wait for: the one it is attached to, and those whose uncommitted outputs it read. -/
def State.chainDeps (s : State) (p : Nat) (r : ChainRun) (op : ChainOp) : List Nat :=
  let acc := s.vecAcc p r.ctx .read
  let a := s.arr p
  let att := match r.attached with
    | some q => if (a.tiles ++ a.restarts).any (fun t => t.seq == q && t.state != 0) then [q] else []
    | none => []
  (att ++ s.depsOf (s.physRanges acc (s.chainReads acc op))).eraseDups

/-- R167: a write of a chain: into the hold region of the pass that it feeds, or as the vector engine writes. -/
def State.chainPut (s : State) (p : Nat) (r : ChainRun) (op : ChainOp) (w : ChainWrite) : State :=
  if op.dst = 1 ∧ ((op.desc 2).ranges (fmtOr (op.desc 2).code)).any (fun x => decide (x.1 ≤ w.va) && decide (w.va < x.1 + x.2)) then
    let accW := s.vecAcc p r.ctx .write
    let s := s.poke accW (some r.ctx) w.va w.data
    if w.bad then (s.physRanges accW [(w.va, w.data.length)]).foldl (fun s x => s.poison x.1 x.2) s else s
  else s.chainWrite p r w

/-- R167, R168, R185, R201: the writes of a chain are performed, marked uncommitted or deferred. The pass that a chain feeds depends on
what the chain read (R104). -/
def State.chainPerform (s : State) (p : Nat) (r : ChainRun) (op : ChainOp) (writes : List ChainWrite) : State :=
  let accW := s.vecAcc p r.ctx .write
  let deps := s.chainDeps p r op
  let ws := s.chooseWrites writes writes
  let s := s.drawn
  let s := if op.dst = 1 then
      s.modArr p (fun a => { a with tiles := a.tiles.map (fun t => if a.fedBy r.entry t then { t with deps := (t.deps ++ deps).eraseDups } else t) })
    else s
  match deps with
  | [] => ws.foldl (fun s w => s.chainPut p r op w) s
  | _ =>
    let colred := op.stages.any (fun st => st.op == 0x24)
    let carryVa (va : Nat) : Bool :=
      (op.hdr.testBit 33 && ((op.desc 4).ranges .fp32).any (fun x => decide (x.1 ≤ va) && decide (va < x.1 + x.2))) ||
      (colred && ((op.desc 3).ranges (fmtOr (op.desc 3).code)).any (fun x => decide (x.1 ≤ va) && decide (va < x.1 + x.2)))
    let here (w : ChainWrite) : Bool := s.ownEdge p (s.physRanges accW [(w.va, w.data.length)]) && !carryVa w.va
    let now := ws.filter here
    let later := ws.filter (fun w => !here w)
    let dst := regionsOf (now.flatMap (fun w => s.physRanges accW [(w.va, w.data.length)]))
    let s := now.foldl (fun s w => s.chainPut p r op w) s
    s.modArr p (fun a => { a with
      tiles := a.tiles.map (fun t => if deps.contains t.seq ∧ t.state ≠ 0 then { t with dest := (t.dest ++ dst).eraseDups } else t)
      vec := { a.vec with pendingSeq := a.vec.pendingSeq ++ deps.map (fun q => (q, { r with staged := later })) } })

/-- R178, ARY_VE_QREPORT, ARY_VE_ELEMS, ARY_VE_CHAINS: the registers when a chain ends with a status. -/
def State.chainRegs (s : State) (p : Nat) (o : ChainProg) (status : Nat) : State :=
  let s := ((s.setFld (rAryVeQreport p) 31 16 (Nat.min o.clamped 0xFFFF)).setFld (rAryVeQreport p) 15 8 o.qmax).setFld (rAryVeQreport p) 7 0 o.qmin
  ((s.bump64 (rAryVeElems p) o.elems).setFld (rAryVeStatus p) 29 27 status).bump (rAryVeChains p) 1

/-- R161, R182, R184, R187: the rows of a chain up to a number: with overlap, what it shares with the chain before it holds either value, and
so it may read what a DMA write replaced meanwhile; after a fault, later positions hold anything. -/
def State.chainAcc (s : State) (p : Nat) (r : ChainRun) (op : ChainOp) (hi : Nat) : ChainAcc :=
  let accW := s.vecAcc p r.ctx .write
  let v := (s.arr p).vec
  let last := if op.hdr.testBit 38 then v.last else []
  let view := s.overlapView accW last
  let old := v.races.foldl (fun t x => t.poke accW none x.1 [x.2]) view
  let o := view.chainRows old p r op hi
  { o with writes := s.overlapWrites last o.writes ++ s.chainUndefined p r.ctx op o }

/-- R178: the completion record of a chain is written, and the chain is over with a status. -/
def State.chainOver (s : State) (p : Nat) (r : ChainRun) (op : ChainOp) (status elem : Nat) : State :=
  let s := match op.compVa with
    | some va => s.writeVa p 6 r.entry.seq r.ctx va (r.prog.record op.osn status elem)
    | none => s
  let s := s.modArr p (fun a => { a with vec := { a.vec with running := none, frozen := false, races := [] } })
  s.chainRegs p r.prog status

/-- R183: a chain completes, poisoned or not, and signals. -/
def State.chainFinish (s : State) (p : Nat) (r : ChainRun) (op : ChainOp) : State :=
  let s := s.chainOver p r op (if r.prog.firstBad.isSome then 3 else 1) (r.prog.firstBad.getD 0)
  let h := op.hdr
  let s := if h.testBit 39 then s.addCtrl p (bitsOf h 45 40) (toSigned 16 (bitsOf h 63 48)) (sigSrc 2 false ((s.logOf p).getD 0 * 65536)) else s
  s.settleFault p

/-- R185: the class 0x01 event of a chain that ends poisoned. -/
def State.chainPoisoned (s : State) (p ctx : Nat) (pa : Option Nat) : State :=
  match pa with
  | some pa => s.post (some ctx) true 0x01 (0x10 + Nat.min 2 (mediumOf (s.place pa))) 2 (srcOf 3 p)
      (payloadOf [(16, 8, pa / 8 * 8), (25, 1, mediumOf (s.place pa)), (26, 2, s.bankOf pa), (28, 4, 1)])
  | none => s

/-- R186: a chain ends at its faulting element. -/
def State.chainBreak (s : State) (p : Nat) (r : ChainRun) (op : ChainOp) (cause stage elem addr : Nat) : State :=
  let accW := s.vecAcc p r.ctx .write
  let held := cause == 4 && (s.physRanges accW [(addr, 1)]).any (fun x => s.chainHeld p r.entry op x.1 x.2)
  let s := if held then
      s.postCtx r.ctx 0x02 0x08 2 (s.unitSource 6 p)
        (payloadOf [(16, 1, 6), (17, 1, 1), (18, 1, 0xFF), (19, 1, (s.logOf p).getD 0xFF), (24, 8, addr),
          (32, 8, ((s.physRanges accW [(addr, 1)]).headD (0, 0)).1)])
    else s
  (s.chainOver p r op 2 elem).chainFault p r.entry r.ctx cause stage elem addr

/-- R185: a poisoned element of a chain that feeds a pass halts the gang of that pass; the chain runs again with the pass (R184). -/
def State.chainFlint (s : State) (p : Nat) (r : ChainRun) (pa : Nat) : State :=
  (s.modArr p (fun a => { a with vec := { a.vec with running := none, frozen := false, races := [], reruns := r.again [] :: a.vec.reruns } })).flintPoison p 1 3 0 pa

/-- R178, R183 to R186: the rows that a chain still has to do are done: it faults, it halts the gang it feeds, or it completes once what left
through windows is acknowledged. upset: hardware errors in the elements that it writes. -/
def State.chainEnd (s : State) (p : Nat) (r : ChainRun) (op : ChainOp) (upset : List (Nat × Nat)) : State :=
  let acc := s.vecAcc p r.ctx .read
  let ph := s.physRanges acc (s.chainReads acc op)
  let firstBad := s.firstBad ph
  let s := s.readRanges (some r.ctx) ph
  let r := { r with upset := upset }
  let o := s.chainAcc p r op op.rowCount
  if op.dst = 1 ∧ o.prog.firstBad.isSome ∧ o.fault.isNone then s.chainFlint p r (firstBad.getD 0)
  else
    let now := s.lastWrites acc o.writes
    let r := { r with prog := o.prog, hash := o.hash, sent := true, ended := o.fault.isNone }
    let s := s.chainPerform p r op o.writes
    let s := s.modArr p (fun a => { a with vec := { a.vec with running := some r, last := now } })
    match o.fault with
    | some (cause, stage, elem, addr) => s.chainBreak p r op cause stage elem addr
    | none =>
      let s := if o.prog.firstBad.isSome then s.chainPoisoned p r.ctx firstBad else s
      if (s.windowsOf p r.entry.seq).isEmpty then s.chainFinish p r op else s

/-- R184: a running chain stops for a switch or a fault: rows already entered complete; how many have entered is open. A chain all of whose
rows have entered completes (R187). -/
def State.chainStop (s : State) (p : Nat) (r : ChainRun) (op : ChainOp) : State :=
  let acc := s.vecAcc p r.ctx .read
  if (s.firstStall acc (s.chainReads acc op)).isSome ∨ (s.firstStall (s.vecAcc p r.ctx .write) (s.chainWrites acc op)).isSome then
    s.modArr p (fun a => { a with vec := { a.vec with frozen := true } })
  else
    let k := r.prog.rows + s.free % (op.rowCount - r.prog.rows + 1)
    let s := s.drawn
    if k = op.rowCount then s.chainEnd p r op []
    else
      let o := s.chainAcc p r op k
      match o.fault with
      | some (cause, stage, elem, addr) => (s.chainPerform p r op o.writes).chainBreak p { r with prog := o.prog } op cause stage elem addr
      | none =>
        let r := { r with prog := o.prog }
        (s.chainPerform p r op o.writes).modArr p (fun a => { a with vec := { a.vec with running := some r, frozen := true, races := [] } })

/-- R164: whether the tile a chain is attached to has left the grid. -/
def ArrayState.attachedReady (a : ArrayState) (r : ChainRun) : Bool :=
  match r.attached with
  | none => true
  | some q => !(a.tiles ++ a.restarts).any (fun t => t.seq == q && (t.state == 1 || t.state == 5))

/-- R167: whether a chain that feeds a pass may deliver its rows: that pass streams. -/
def ArrayState.feedReady (a : ArrayState) (r : ChainRun) (op : ChainOp) : Bool :=
  op.dst != 1 || a.tiles.any (fun t => t.state == 1 && a.fedBy r.entry t)

/-- R183, R184: the running chain completes; one that a fault of its context has stopped ends with status stopped. upset: hardware errors
in the elements that it writes. -/
def execChainComplete (e : ChainDone) (s : State) : Out :=
  .next (
    let p := e.array
    let upset := e.upset
    let a := s.arr p.val
    match a.vec.running with
    | none => s
    | some r =>
      (match r.entry.op with
      | .chain op =>
        if !a.runs || s.unitStalled p.val 5 || s.unitStalled p.val 6 then s
        else if a.vec.frozen then
          (if s.ctxState r.ctx = 5 then s.chainOver p.val r op 4 0 else s)
        else if r.sent then
          (if (s.windowsOf p.val r.entry.seq).isEmpty then (s.chainFinish p.val r op).advanceQ p.val else s)
        else if !a.attachedReady r || !a.feedReady r op then s
        else
          let acc := s.vecAcc p.val r.ctx .read
          (match s.firstStall acc (s.chainReads acc op) with
          | some (v, t) => s.stallTr r.ctx 5 p.val v .read t
          | none => (match s.firstStall (s.vecAcc p.val r.ctx .write) (s.chainWrites acc op) with
            | some (v, t) => s.stallTr r.ctx 6 p.val v .write t
            | none => (s.chainEnd p.val r op upset).advanceQ p.val))
      | _ => s))

/-- R355, R351: a third execution is wanted for chains of a tile whose two executions differ; q made the second. -/
def State.wantThird (s : State) (p i q : Nat) : State :=
  let t := (s.arr p).tile i
  let r : Replay :=
    { resolving := true, injected := false, origFailed := false, partner := some q, streaming := false, done := true, hash := t.hash
      pass := true, third := s.partnerFor p t true none [q], thirdStreaming := false, since := s.now.toNat, chains := true }
  s.setTile p i { t with replay := some r }

/-- R355: the chains of a tile whose second execution gave another hash: a disagreement begins, and a third execution settles it. -/
def State.chainDisagree (s : State) (p i : Nat) : State :=
  let t := (s.arr p).tile i
  match (s.arr p).vec.pendingSeq.find? (fun x => x.2.attached == some t.seq && !x.2.checked && x.2.second.isSome) with
  | some (_, r) => (match r.second with
    | some (q, h) =>
      if t.replay.isSome ∨ t.state ≠ 3 then s
      else (((s.disagree p t).postReplay (some t.ctx) 0x01 2 p { t with hash := r.hash } 1 h 0xFF 0 (some q)).wantThird p i q)
    | none => s)
  | none => s

/-- R168: a chain whose tile's original outputs did not commit runs again on the outputs of the tile's output region; one whose
completion is not final completes (R184). At level 3 its hash is compared with that of the second execution (R355). upset: hardware
errors in the elements that it writes. -/
def execChainRerun (e : ChainDone) (s : State) : Out :=
  .next (
    let p := e.array
    let upset := e.upset
    let a := s.arr p.val
    match a.vec.reruns with
    | [] => s
    | r :: rs =>
      (match r.entry.op with
      | .chain op =>
        if !a.runs || s.stopping p.val || a.vec.running.isSome || a.vec.frozen || !a.attachedReady r || !a.depsDone { Tile.free with deps := r.after } then s
        else
          let acc := s.vecAcc p.val r.ctx .read
          let ph := s.physRanges acc (s.chainReads acc op)
          let firstBad := s.firstBad ph
          let s := (s.readRanges (some r.ctx) ph).modArr p.val (fun a => { a with vec := { a.vec with reruns := rs } })
          let r := { r with upset := upset }
          let o := s.chainAcc p.val r op op.rowCount
          if op.dst = 1 ∧ o.prog.firstBad.isSome then s.chainFlint p.val r (firstBad.getD 0)
          else
            let final := r.ended
            let same := match r.second with | some (_, h) => h == o.hash | none => false
            let r := { r with prog := o.prog, hash := o.hash, sent := true, ended := true, checked := same }
            let s := s.chainPerform p.val r op o.writes
            let s := if final then s.settleFault p.val else s.chainFinish p.val r op
            match (List.range 3).find? (fun i => r.attached == some (a.tile i).seq && (a.tile i).state != 0) with
            | some i => s.chainDisagree p.val i
            | none => s
      | _ => s))

end Sys2Proof.Machine
end

