-- ==== Sys2Proof/Machine/Setpoints.lean ====
section
/-!
DEFINITION. Power domains and their setpoints (13_power R449 to R453), and the retention of an array (R457).
-/
namespace Sys2Proof.Machine

/-- R451: the state of a domain. -/
def State.dom (s : State) (d : Nat) : Nat := s.fld (rPwrDom d) 31 29

/-- R451: put a domain into a state. -/
def State.setDom (s : State) (d x : Nat) : State := s.setFld (rPwrDom d) 31 29 x

/-- R452: the twelve table points, as frequency codes. -/
def tablePoints : List Nat := [0, 16, 32, 48, 64, 80, 96, 112, 128, 136, 152, 176]

/-- R452: V_set of a domain at a table point, as a setpoint code; a point above code 180 is unusable, and so is one whose offset is
spent (R453). -/
def State.vset (s : State) (d pt : Nat) : Option Nat :=
  let v := ((Config.vtt d pt).toNat : Int) + 10 + tblGet 0 s.power.ofs (12 * d + pt)
  if 180 < v ∨ s.power.spent.contains (12 * d + pt) then none else some v.toNat

/-- R452: the highest usable point of a strip, as its max code. -/
def State.stripMax (s : State) (d : Nat) : Nat :=
  (List.range 12).foldl (fun m pt => if (s.vset d pt).isSome then nth 0 tablePoints pt else m) 0

/-- R452: an array's max code. -/
def State.aryMax (s : State) (p : Nat) : Nat := (List.range 16).foldl (fun m i => Nat.min m (s.stripMax (16 * p + i))) 176

/-- R452: the value between two table points of a function of the points, rounded up. -/
def interpUp (f : Nat → Nat) (code : Nat) : Nat :=
  let i := (List.range 11).foldl (fun m i => if nth 0 tablePoints i ≤ code then i else m) 0
  let x0 := nth 0 tablePoints i
  let x1 := nth 0 tablePoints (i + 1)
  let a := f i
  let b := f (i + 1)
  if a ≤ b then a + ceilDiv ((b - a) * (Nat.min code x1 - x0)) (x1 - x0) else a - (a - b) * (Nat.min code x1 - x0) / (x1 - x0)

/-- R452: the setpoint of a domain at a frequency code; fixed for field services and global nets (R449). -/
def State.setpoint (s : State) (d code : Nat) : Nat :=
  if d = 333 then 160 else if 324 ≤ d then 140
  else Nat.min 180 (interpUp (fun pt => ((((Config.vtt d pt).toNat : Int) + 10 + tblGet 0 s.power.ofs (12 * d + pt))).toNat) code)

/-- R453: the setpoints of an array's strips at a frequency code. -/
def State.setStrips (s : State) (p code : Nat) : State :=
  (List.range 16).foldl (fun s i => if s.dom (16 * p + i) = 2 then s.setFld (rPwrDom (16 * p + i)) 23 16 (s.setpoint (16 * p + i) code) else s) s

/-- R457: the strip domains of an array enter retention. -/
def State.retain (s : State) (p : Nat) : State :=
  let s := (List.range 16).foldl (fun s i => if s.dom (16 * p + i) = 2 then (s.setDom (16 * p + i) 3).setFld (rPwrDom (16 * p + i)) 23 16 0 else s) s
  (s.setFld (rPwrDom (288 + p)) 23 16 (s.setpoint (288 + p) 0)).setFlag (rPwrAry p) 4 true

/-- R457: an array leaves retention. -/
def State.wake (s : State) (p : Nat) : State :=
  let s := (List.range 16).foldl (fun s i => if s.dom (16 * p + i) = 3 then s.setDom (16 * p + i) 2 else s) s
  ((s.setFlag (rPwrAry p) 4 false).setFld (rPwrDom (288 + p)) 23 16 (s.setpoint (288 + p) (s.arr p).freqCode)).setStrips p (s.arr p).freqCode

end Sys2Proof.Machine
end

