-- ==== Sys2Proof/Machine/Replay.lean ====
section
/-!
DEFINITION. Replays, the second execution of chains, and the resolution of disagreements (10_integrity R345 to R355): partners, strikes, witness-path faults,
suspect and quarantined arrays.
-/
namespace Sys2Proof.Machine

/-- The times of a window of 24 h that ends now. -/
def State.recent (s : State) (l : List Nat) : List Nat := l.filter (fun t => decide (s.now.toNat < t + dayTicks))

/-- R366, R373: CHK_PYR_STATUS.queued counts the runs that wait; CHK_ARRAY.pyrite_pending marks their arrays and the running one's. -/
def State.showPyr (s : State) : State :=
  let s := s.setFld rChkPyrStatus 27 24 (s.integ.pyr.filter (fun r => !r.running)).length
  (List.range 18).foldl (fun s p => s.setFlag (rChkArray p) 29 (s.integ.pyr.any (fun r => r.array == p))) s

/-- R366: a Pyrite run is queued, if the queue of 8 has room. -/
def State.queuePyrite (s : State) (r : PyrRun) : State :=
  if 8 ≤ (s.integ.pyr.filter (fun r => !r.running)).length then s
  else
    let s := { s with integ := { s.integ with pyr := s.integ.pyr ++ [r] } }.showPyr
    if s.fld rChkPyrStatus 31 30 = 2 then s else s.setFld rChkPyrStatus 31 30 1

/-- R457: quarantined and retired arrays have all their strip domains off; latched and retired domains keep their state. -/
def State.stripsOff (s : State) (p : Nat) : State :=
  (List.range 16).foldl (fun s i =>
    let d := 16 * p + i
    if 4 ≤ s.fld (rPwrDom d) 31 29 then s else s.setFld (rPwrDom d) 31 29 0) s

/-- R353: an array must be remapped: kind 1 suspect, 2 quarantined. Until then it runs every tile at level 3. -/
def State.wantRemap (s : State) (p kind : Nat) : State :=
  let k := Nat.max kind ((tblFind s.integ.want p).getD 0)
  let s := { s with integ := { s.integ with want := tblPut s.integ.want p k } }
  s.setFlag (rChkArray p) 28 true

/-- R351, R353: an array becomes suspect; a Pyrite run is queued for it. -/
def State.suspect (s : State) (p : Nat) : State :=
  if s.fld (rChkArray p) 31 30 ≠ 0 then s
  else
    let s := (s.setFld (rChkArray p) 31 30 1).setFlag (rChkArray p) 27 false
    let s := if (s.logOf p).isSome then s.wantRemap p 1 else s
    s.queuePyrite ⟨p, none, 0, 0xFFFF, false⟩

/-- R371: the payload of a quarantine, or of one that is deferred. -/
def quarantinePayload (p : Nat) : Nat := payloadOf [(17, 1, p), (18, 1, 0xFF), (19, 1, 0xFF)]

/-- R353: a strike against an array; the second within 24 h quarantines it, or defers that when no spare is free. -/
def State.strike (s : State) (p : Nat) : State :=
  let l := s.recent (tblGet [] s.integ.strikes p) ++ [s.now.toNat]
  let s := { s with integ := { s.integ with strikes := tblPut s.integ.strikes p l } }
  let s := (s.setFld (rChkArray p) 7 0 (Nat.min 255 l.length)).lifeCount (484 + p) 1
  if l.length < 2 ∨ (tblFind s.integ.want p).getD 0 = 2 ∨ 2 ≤ s.fld (rChkArray p) 31 30 then s
  else if (s.logOf p).isNone then
    ((((s.setFld (rChkArray p) 31 30 2).bump rChkQuarantines 1).postDev 0x05 0x05 1 (srcOf 1 p) (quarantinePayload p)).stripsOff p).queuePyrite
      ⟨p, none, 0, 0xFFFF, false⟩
  else
    let free := (List.range 18).any (fun q => s.freeSpare q && !s.isPartner q)
    let s := s.wantRemap p 2
    if free then s
    else s.postDev 0x05 0x06 1 (srcOf 1 p) (quarantinePayload p)

/-- R354: a witness-path fault of an array; the fourth within 24 h makes it suspect. -/
def State.wpathFault (s : State) (p slot : Nat) (t : Tile) : State :=
  let s := s.postWitness p slot 2 1 t false
  let l := s.recent (tblGet [] s.integ.wpaths p) ++ [s.now.toNat]
  let s := { s with integ := { s.integ with wpaths := tblPut s.integ.wpaths p l } }
  let s := s.setFld (rChkArray p) 23 16 (Nat.min 255 l.length)
  if 4 ≤ l.length then s.suspect p else s

/-- R352: a disagreement stays unresolved: nothing commits, the tile stays held, and its controller takes an execution-time fault
(R229). unit: 0 the tile, 1 a chain of it, whose hash oh is. -/
def State.unresolve (s : State) (p i : Nat) (t : Tile) (arrs : List Nat) (rh third th : Nat) (partner : Option Nat) (unit oh : Nat) : State :=
  let s := s.postReplay (some t.ctx) 0x04 2 p { t with hash := oh } unit rh third th partner
  let s := s.bump rChkUnresolved 1
  let s := s.setTile p i { t with state := 4, unresolved := true, replay := none }
  let s := arrs.foldl State.suspect s
  if (s.arr p).ctrl.ctx = t.ctx ∧ s.residentAt p = some t.ctx then s.dropAfter p t.seq 0x05 0x04
  else s.ctxFault t.ctx 0x05 0x04

/-- R345: no partner has qualified within CHK_CFG.partner_wait_ms. -/
def execPartnerWaitExpiry (p : ArrayId) (slot : Fin 3) (s : State) : Out :=
  .next (
    let t := (s.arr p.val).tile slot.val
    match t.replay with
    | none => s
    | some r =>
      let waits := if r.done then r.third.isNone else r.partner.isNone
      if !waits ∨ (t.state ≠ 3 ∧ t.state ≠ 4) then s
      else
        let s := s.postReplay (some t.ctx) 0x07 2 p.val t 0 r.hash 0xFF 0 r.partner
        s.unresolve p.val slot.val t [] r.hash 0xFF 0 r.partner 0 t.hash)

/-- R347: whether the stationary sources of a tile still hold what was loaded. -/
def State.sourceSame (s : State) (p : Nat) (t : Tile) : Bool :=
  t.steps.all (fun x =>
    let b := x.2
    match b.fromSlot with
    | none => (s.readBlock p t.ctx t.gen b.desc b.fmt []).digest == b.digest
    | some j => blockHash ((s.parkRead p j b).withScalesOf (s.peek (s.unitAcc p t.ctx .read)) b.scaleVa) == b.digest)

/-- R348, R29: whether a partner can take a replay at this tile boundary. An array in a core-mode run streams no pass. -/
def State.partnerReady (s : State) (q : Nat) : Bool :=
  let a := s.arr q
  a.runs && !a.streams && a.shadow.isNone && a.feed.isNone && a.freeSlot.isSome && !a.run.running && !s.replayOn q && !s.flag (rPwrAry q) 4

/-- R346, R347: the held inputs of a tile pass through the replay ring of a partner of the partition: the bytes last carried stay there (log
entry 131). A spare's ring has no address. -/
def State.fillRing (s : State) (q : Nat) (t : Tile) : State :=
  match s.logOf q with
  | none => s
  | some n =>
    let size := s.fld (rChkCtxRing t.ctx) 26 16 * 0x10000
    let base := 0x800000000000 + n * 0x100000000 + s.fld (rChkCtxRing t.ctx) 9 0 * 0x10000
    if size = 0 then s
    else
      let bs := t.held.flatMap (fun h => s.rdBytes h.addr h.len)
      let whole := bs.length / size * size
      let tail := bs.drop whole
      (s.wrBytes (base + tail.length) ((bs.take whole).drop (whole - size + tail.length))).wrBytes base tail

/-- R348: a replay starts on its partner: the first execution, or the third. -/
def execReplayStart (p : ArrayId) (slot : Fin 3) (s : State) : Out :=
  .next (
    let t := (s.arr p.val).tile slot.val
    match t.replay with
    | none => s
    | some r =>
      let excl := match r.partner with | some q => [q] | none => []
      let q := if r.done then s.partnerFor p.val t true r.third excl else s.partnerFor p.val t r.resolving r.partner []
      match q with
      | none => s
      | some q =>
        if r.streaming ∨ r.thirdStreaming ∨ (t.state ≠ 3 ∧ t.state ≠ 4) then s
        else if !s.partnerReady q then
          s.setTile p.val slot.val { t with replay := some (if r.done then { r with third := some q } else { r with partner := some q }) }
        else match s.firstBad (t.held.map (fun h => (h.addr, h.len))) with
          | some x => s.heldPoison p.val t x
          | none =>
            if !s.sourceSame p.val t then
              let s := if r.resolving then s else s.disagree p.val t
              let s := s.postReplay (some t.ctx) 0x08 2 p.val t 0 0 0xFF 0 (some q)
              s.unresolve p.val slot.val t [p.val] 0 0xFF 0 (some q) 0 t.hash
            else
              let r := if r.done then { r with third := some q, thirdStreaming := true } else { r with partner := some q, streaming := true }
              (((((s.fillRing q t).softStart q).setTile p.val slot.val { t with replay := some r }).bump64 rChkReplays 1).bump (rChkCtxReplays t.ctx) 1).lifeCount (466 + p.val) 1)

/-- R349: the execution of a tile on healthy hardware with the hardware errors of this execution instead of the
original's. -/
def replayTile (t : Tile) (upset : List (Nat × Nat × Nat)) : Tile :=
  let undo := t.upset.map (fun u => (u.1, u.2.1, 2 ^ 120 - u.2.2 % 2 ^ 120))
  let t := { t with accs := applyUpset (applyUpset t.accs undo) upset, upset := upset }
  match t.drain with
  | some d => { t with flags := drainFlags d (t.combined d).1 }
  | none => t

/-- R351: the original commits: its replay, on array q, has settled. -/
def State.settleOriginal (s : State) (p i q : Nat) (t : Tile) : State :=
  s.setTile p i { t with state := 3, replay := none, replayedOn := some q }

/-- R349: a resolution replay writes its outputs over the original's uncommitted destination. -/
def State.overwrite (s : State) (p i : Nat) (t r : Tile) (h : Nat) : State :=
  let s := s.setTile p i { r with state := 3, replay := none, hash := h }
  if t.staged then s else s.drainOut p i false

/-- R349, R351, R106: the replay's outputs commit in the original's place; tiles that depend on it, and chains, run again. -/
def State.settleReplay (s : State) (p i : Nat) (t r : Tile) (h : Nat) : State :=
  (s.overwrite p i t r h).modArr p (fun a => discardDependants { a with vec := rerunChains a.vec [t.seq] } t.seq)

/-- A disagreement of a tile or of one of its chains is resolved with event 0x02 or 0x03. -/
def State.resolved (s : State) (p : Nat) (t : Tile) (code rh third th : Nat) (partner : Option Nat) (unit : Nat := 0) : State :=
  (s.postReplay (some t.ctx) code 1 p t unit rh third th partner).bump rChkResolved 1

/-- R351: the first replay R of a tile has ended on array q with hash h and verdict ok. tr: the tile as R computed it. -/
def State.firstReplay (s : State) (p i q : Nat) (t tr : Tile) (r : Replay) (h : Nat) (ok : Bool) : State :=
  let same := h == t.hash
  if r.origFailed then
    if ok && same then
      let s := if r.injected then s else s.wpathFault p i t
      (s.settleOriginal p i q t).resolved p t 0x03 h 0xFF 0 (some q)
    else if ok then
      let s := (s.settleReplay p i t { tr with replayedOn := some q } h).resolved p t 0x02 h 0xFF 0 (some q)
      if r.injected then s else s.strike p
    else (s.overwrite p i t tr h).unresolve p i t [p, q] h 0xFF 0 (some q) 0 t.hash
  else if ok && same then s.settleOriginal p i q t
  else
    let s := s.disagree p t
    let s := s.postReplay (some t.ctx) 0x01 2 p t 0 h 0xFF 0 (some q)
    if !ok then
      let s := if same then s.wpathFault q ((s.arr q).freeSlot.getD 0) tr else s.strike q
      (s.settleOriginal p i q t).resolved p t 0x03 h 0xFF 0 (some q)
    else
      s.setTile p i { t with replay := some { r with
        resolving := true, streaming := false, done := true, hash := h, pass := true
        third := s.partnerFor p t true none [q], since := s.now.toNat } }

/-- R351: the third execution T has ended on array q3 with hash h and verdict ok. -/
def State.thirdReplay (s : State) (p i q3 : Nat) (t tt : Tile) (r : Replay) (h : Nat) (ok : Bool) : State :=
  let q := r.partner.getD p
  if ok && h == t.hash then
    ((s.strike q).settleOriginal p i q t).resolved p t 0x03 r.hash q3 h (some q)
  else if ok && h == r.hash then
    ((s.settleReplay p i t { tt with replayedOn := some q } h).resolved p t 0x02 r.hash q3 h (some q)).strike p
  else (s.overwrite p i t tt h).unresolve p i t [p, q, q3] r.hash q3 h (some q) 0 t.hash

/-- R355: the operation of a chain. -/
def ChainRun.chain (r : ChainRun) : Option ChainOp := match r.entry.op with | .chain op => some op | _ => none

/-- R355: a run of a chain of a tile on another engine, which writes nothing: what it would write, on the tile t as the partner has it.
ups: hardware errors of the partner, as (issue number of the chain, flattened index, difference). -/
def State.chainAgain (s : State) (p i : Nat) (t : Tile) (r : ChainRun) (op : ChainOp) (ups : List (Nat × Nat × Nat)) : ChainAcc :=
  (s.setTile p i { t with state := 3 }).chainAcc p
    { r with prog := ChainProg.start, upset := (ups.filter (fun u => u.1 == r.entry.seq)).map Prod.snd } op op.rowCount

/-- R355: the chains attached to a tile that have run, with their operations. -/
def ArrayState.chainsOf (a : ArrayState) (t : Tile) : List (ChainRun × ChainOp) :=
  a.vec.pendingSeq.filterMap (fun x => if x.1 = t.seq ∧ x.2.attached = some t.seq then x.2.chain.map (fun op => (x.2, op)) else none)

/-- Change the waiting entries of a chain. -/
def State.modChain (s : State) (p seq : Nat) (f : ChainRun → ChainRun) : State :=
  s.modArr p (fun a => { a with vec := { a.vec with pendingSeq := a.vec.pendingSeq.map (fun x => if x.2.entry.seq = seq then (x.1, f x.2) else x) } })

/-- R355: the second execution of the chains attached to a tile of level 3 has ended on array q. tr: the tile as q computed it. -/
def State.secondChains (s : State) (p i q : Nat) (t tr : Tile) (ups : List (Nat × Nat × Nat)) : State :=
  if !t.dual then s
  else ((s.arr p).chainsOf t).foldl (fun u x =>
    let h := (s.chainAgain p i tr x.1 x.2 ups).hash
    u.modChain p x.1.entry.seq (fun r => { r with second := some (q, h), checked := h == r.hash })) s

/-- R355, R351: a third execution of a chain has ended on array q3: a matching pair commits and the engine that disagrees is struck. -/
def State.thirdChain (s : State) (p i q3 : Nat) (t : Tile) (ups : List (Nat × Nat × Nat)) (r : ChainRun) (op : ChainOp) : State :=
  match r.second with
  | none => s
  | some (q, h2) =>
    let o := s.chainAgain p i t r op ups
    let h3 := o.hash
    let tc := { t with hash := r.hash }
    if h3 = r.hash then
      ((s.modChain p r.entry.seq (fun r => { r with checked := true })).strike q).resolved p tc 0x03 h2 q3 h3 (some q) 1
    else if h3 = h2 then
      let s := s.modArr p (fun a => { a with vec := { a.vec with pendingSeq := a.vec.pendingSeq.filter (fun x => x.2.entry.seq != r.entry.seq) } })
      let s := s.chainPerform p { r with prog := o.prog, hash := h3, checked := true, staged := [] } op o.writes
      (s.resolved p tc 0x02 h2 q3 h3 (some q) 1).strike p
    else s.unresolve p i t [p, q, q3] h2 q3 h3 (some q) 1 r.hash

/-- R355: the third execution of the chains of a tile has ended on array q3; the tile commits once all of them are settled. -/
def State.thirdChains (s : State) (p i q3 : Nat) (t : Tile) (ups : List (Nat × Nat × Nat)) : State :=
  let s := s.setTile p i { t with replay := none }
  ((s.arr p).chainsOf t).foldl (fun s x =>
    if x.1.checked ∨ ((s.arr p).tile i).unresolved then s else s.thirdChain p i q3 ((s.arr p).tile i) ups x.1 x.2) s

/-- R355: whether a chain attached to a tile of level 3 is still to end on the tile's own array. -/
def ArrayState.chainsRun (a : ArrayState) (t : Tile) : Bool :=
  let mine (r : ChainRun) : Bool := r.attached == some t.seq
  t.dual && ((match a.vec.running with | some r => mine r | none => false) || a.vec.reruns.any mine)

/-- R349, R351, R355: a replay ends on its partner with its hash and verdict, and with those of the chains attached to the tile. upset:
hardware errors of the partner in accumulators. -/
def execReplayComplete (p : ArrayId) (slot : Fin 3) (upset : List (Nat × Nat × Nat)) (f : ReplayFaults) (s : State) : Out :=
  .next (
    let ups := f.chains
    let t := (s.arr p.val).tile slot.val
    match t.replay with
    | none => s
    | some r =>
      if (!r.streaming ∧ !r.thirdStreaming) ∨ (s.arr p.val).chainsRun t then s
      else match s.firstBad (t.held.map (fun h => (h.addr, h.len))) with
        | some x => s.heldPoison p.val t x
        | none =>
          let q := if r.thirdStreaming then r.third.getD p.val else r.partner.getD p.val
          let i := ((s.arr q).freeSlot).getD 0
          let tr := replayTile t upset
          let h := tileHash tr.accs tr.rows tr.ownFlags
          let bad := firstFail tr.flags.inexact (addResidues (tileDeltas tr) f.wit)
          let tr := match bad with
            | some (row, delta) => { tr with hash := h, failRow := row, delta := delta }
            | none => { tr with hash := h }
          let s := match bad with
            | some (row, delta) => (s.witRegs q i row delta).postWitness q i 1 2 tr false
            | none => s
          let s := s.streamEnds q
          let r' := { r with streaming := false, thirdStreaming := false }
          if r.thirdStreaming ∧ r.chains then s.thirdChains p.val slot.val q t ups
          else if r.thirdStreaming then
            ((s.secondChains p.val slot.val q t tr ups).thirdReplay p.val slot.val q t tr r' h bad.isNone).chainDisagree p.val slot.val
          else
            ((s.secondChains p.val slot.val q t tr ups).firstReplay p.val slot.val q t tr r' h bad.isNone).chainDisagree p.val slot.val)

/-- R353, R354: strikes and witness-path faults older than 24 h leave the window. -/
def execStrikeWindowExpiry (p : ArrayId) (s : State) : Out :=
  .next (
    let l := s.recent (tblGet [] s.integ.strikes p.val)
    let w := s.recent (tblGet [] s.integ.wpaths p.val)
    let s := { s with integ := { s.integ with strikes := tblPut s.integ.strikes p.val l, wpaths := tblPut s.integ.wpaths p.val w } }
    (s.setFld (rChkArray p.val) 7 0 (Nat.min 255 l.length)).setFld (rChkArray p.val) 23 16 (Nat.min 255 w.length))

/-- R348, R457: a spare that has held no replay for 100 µs returns to retention. -/
def execSpareRetentionReturn (p : ArrayId) (s : State) : Out :=
  .next (if s.freeSpare p.val && !s.isPartner p.val then s.retain p.val else s)

/-- R221, R369: chk.release: a tile held after an unresolved disagreement, and its dependants, leave without commit; sd
receives how many. -/
def execChkRelease (p : ArrayId) (w : Word) (s : State) : Out :=
  .next (ctrlGate p w none ctrlKnown 0xFC000007 0x7C000003 0x00000000 0x0000FFF8 s (fun s =>
    let a := s.arr p.val
    let osn := a.ctrl.sget (sA w) % 2 ^ 32
    match a.tiles.find? (fun t => t.unresolved && t.state == 4 && t.osn == osn && t.ctx == a.ctrl.ctx) with
    | none => s.ctrlSet p.val (fun c => c.sput (sD w) 0)
    | some t =>
      let (b, n) := releaseTiles a t.seq
      (s.setArr p.val b).ctrlSet p.val (fun c => c.sput (sD w) n)))

end Sys2Proof.Machine
end

