-- ==== Sys2Proof/Machine/CtrlFlow.lean ====
section
/-!
DEFINITION. The instructions of Gexa-S that wait, signal, time, check and order (06_control_isa R195, R217 to R223), and the
events that end their waits; launch times (R219, R220; 09_sync_time R318 to R320).
-/
namespace Sys2Proof.Machine

/-- An event happens at a Quartz time: the master reads at least that time. -/
def State.clock (s : State) (t : DWord) : State := if s.now.toNat < t.toNat then { s with now := t } else s

/-- R309: whether a time has been reached, by the 64-bit two's-complement difference. -/
def qtzReached (now t : DWord) : Bool := decide ((now - t).toNat < 2 ^ 63)

/-- R195: the system values of sysr. The cycles since the program started are not fixed by any count the commands carry. -/
def State.sysVal (s : State) (p fn : Nat) : Nat :=
  let a := s.arr p
  let c := a.ctrl
  let n := (s.logOf p).getD 0
  let r := s.partRange (s.ctxPart c.ctx)
  match fn with
  | 0 => n
  | 1 => c.ctx
  | 2 => c.gen
  | 3 => r.1
  | 4 => r.2
  | 5 => s.gangRank p c.gangNow
  | 6 => 2 ^ c.gangNow.log2
  | 7 => s.free % 2 ^ 64
  | 8 => c.retired
  | 9 => a.aq.length
  | 10 => a.vq.length
  | 11 => a.dq.length
  | 12 => tblGet 0 a.lastOsn c.ctx
  | 13 => (c.launch.getD 0#64).toNat
  | 14 => c.step
  | _ => 0

/-- sysr: sd := system value fn. -/
def execGexaSSysr (p : ArrayId) (w : Word) (s : State) : Out :=
  .next (ctrlGate p w none ctrlKnown 0xFC000000 0x88000000 0x00000000 0x001FF800 s (fun s =>
    let v := s.sysVal p.val (sFn w)
    (if sFn w = 7 then s.drawn else s).ctrlSet p.val (fun c => c.sput (sD w) v)))

/-- R217, R295: sig: an increment is sent to the counter that sa names; a target outside the context's partition is refused
and faults the context. -/
def execGexaSSig (p : ArrayId) (w : Word) (s : State) : Out :=
  .next (ctrlGate p w none ctrlKnown 0xFC000000 0x68000000 0x00000000 0x03E00000 s (fun s =>
    let c := (s.arr p.val).ctrl
    let target := BitVec.ofNat 32 (c.sget (sA w))
    let inc : Int := if sB w = 0 then toSigned 11 (sFn w) else toSigned 16 (c.sget (sB w))
    let src := sigSrc 1 false ((s.logOf p.val).getD 0 * 65536)
    if sB w ≠ 0 ∧ sFn w ≠ 0 then s.issueFault p.val 0x80 3 w 0 0xFF 0 0
    else if s.sigAllowed c.ctx (sigTarget target) then (s.ctrlNext p.val 4).sendSignal c.ctx target inc src
    else
      let s := s.postCounter c.ctx 4 (srcOf 1 p.val) 1 (bitsOf target.toNat 29 24) (bitsOf target.toNat 19 0) 0 inc src 0
      s.stopIssue p.val 0x03 0x04))

/-- The value of a controller counter. -/
def ArrayState.ctr (a : ArrayState) (k : Nat) : Nat := (tblGet 0#16 a.counters k).toNat

/-- Subtract a threshold from a controller counter (R293). -/
def ArrayState.ctrSub (a : ArrayState) (k thr : Nat) : ArrayState :=
  { a with counters := tblPut a.counters k (BitVec.ofNat 16 (a.ctr k - thr)) }

/-- A threshold of 0 is outside 1 to 32,767: an illegal instruction (notes/assumptions/37). -/
def thrCheck (thr : Nat) : IssueCheck := failIf (thr == 0) 0x80 2 0xFF

/-- R218, R197: wait: blocks until a counter reaches a threshold, then subtracts it and drops the data cache. -/
def execGexaSWait (p : ArrayId) (w : Word) (s : State) : Out :=
  .next (ctrlGate p w none ctrlKnown 0xFC000000 0x6C000000 0x00000000 0x000F8000 s (fun s =>
    let k := bitsOf w.toNat 25 20
    let thr := bitsOf w.toNat 14 0
    s.checked p.val w 0 [thrCheck thr] (fun s =>
      if thr ≤ (s.arr p.val).ctr k then ((s.modArr p.val (fun a => a.ctrSub k thr)).modCtrl p.val Ctrl.dropData).ctrlNext p.val 4
      else s.modCtrl p.val (fun c => { c with blocked := .wait k thr }))))

/-- R293: a controller's wait ends if its counter has reached its threshold. -/
def State.ctrlWaitDone (s : State) (p : Nat) : State :=
  let a := s.arr p
  match a.ctrl.blocked with
  | .wait k thr =>
    if thr ≤ a.ctr k ∧ a.ctrl.state = 1 ∧ a.runs then
      ((s.modArr p (fun a => a.ctrSub k thr)).modCtrl p (fun c => { c.dropData with blocked := .no })).ctrlNext p 4
    else s
  | _ => s

/-- R293: a blocked wait of a core or of a controller is satisfied. -/
def execWaitSatisfied (unit : Waiter) (s : State) : Out :=
  .next (match unit with
    | .core id => coreWaitDone id.toNat s
    | .ctrl p => s.ctrlWaitDone p.val)

/-- cnt.rd: sd := a controller counter. -/
def execCntRd (p : ArrayId) (w : Word) (s : State) : Out :=
  .next (ctrlGate p w none ctrlKnown 0xFC000000 0x70000000 0x00000000 0x00007FFF s (fun s =>
    let v := (s.arr p.val).ctr (bitsOf w.toNat 20 15)
    s.ctrlSet p.val (fun c => c.sput (sD w) v)))

/-- R218: qwait enters a queue. -/
def execQwait (p : ArrayId) (w : Word) (s : State) : Out :=
  .next (ctrlGate p w none ctrlKnown 0xFC000000 0x84000000 0x00000000 0x00038000 s (fun s =>
    let k := bitsOf w.toNat 25 20
    let q := bitsOf w.toNat 19 18
    let thr := bitsOf w.toNat 14 0
    s.checked p.val w 0 [failIf (q == 3) 0x80 2 0xFF, thrCheck thr]
      (fun s => s.enqueue p.val q w 0 4 0 false (.qwait k thr))))

/-- The threshold that the head of a queue waits for on a counter, when it is satisfiable. -/
def ArrayState.headTakes (a : ArrayState) (q k : Nat) : Nat :=
  match a.queue q with
  | e :: _ => (match e.op with | .qwait c thr => if c = k ∧ thr ≤ a.ctr k then thr else 0 | _ => 0)
  | [] => 0

/-- R293: what the waiters taken before queue q subtract from counter k: the controller's wait, then the queues before it. -/
def ArrayState.takenBefore (a : ArrayState) (q k : Nat) : Nat :=
  (match a.ctrl.blocked with | .wait c thr => if c = k ∧ thr ≤ a.ctr k then thr else 0 | _ => 0) + sumTo q (fun i => a.headTakes i k)

/-- R218, R293: a qwait at the head of its queue is satisfied: its threshold is subtracted and the queue goes on. -/
def execQwaitSatisfied (p : ArrayId) (q : Fin 3) (s : State) : Out :=
  .next (
    let a := s.arr p.val
    match a.queue q.val with
    | e :: es => (match e.op with
      | .qwait k thr =>
        if thr + a.takenBefore q.val k ≤ a.ctr k ∧ a.runs then
          (s.setArr p.val ((a.ctrSub k thr).setQueue q.val es)).advanceQ p.val
        else s
      | _ => s)
    | [] => s)

/-- now: sd := local Quartz time. -/
def execNow (p : ArrayId) (w : Word) (s : State) : Out :=
  .next (ctrlGate p w none ctrlKnown 0xFC0007FF 0x74000000 0x00000000 0x001FF800 s (fun s =>
    s.ctrlSet p.val (fun c => c.sput (sD w) (s.localTime p.val).toNat)))

/-- R219, R197: issue blocks until local Quartz reaches a time; the data cache is dropped as it ends. -/
def State.waitUntil (s : State) (p len : Nat) (t : DWord) : State :=
  if qtzReached (s.localTime p) t then (s.modCtrl p Ctrl.dropData).ctrlNext p len else s.modCtrl p (fun c => { c with blocked := .untilTime t })

/-- wait.until sa. -/
def execWaitUntil (p : ArrayId) (w : Word) (s : State) : Out :=
  .next (ctrlGate p w none ctrlKnown 0xFC0007FF 0x74000001 0x00000000 0x03E0F800 s (fun s =>
    s.waitUntil p.val 4 (BitVec.ofNat 64 ((s.arr p.val).ctrl.sget (sA w)))))

/-- The time that the long forms name: sa + sext(off). -/
def State.offTime (s : State) (p : Nat) (w0 off : Word) : DWord :=
  BitVec.ofNat 64 ((s.arr p).ctrl.sget (sA w0)) + off.signExtend 64

/-- wait.until sa, off. -/
def execWaitUntilOff (p : ArrayId) (w0 w1 : Word) (s : State) : Out :=
  .next (ctrlGate p w0 (some w1) ctrlKnown 0xFC000003 0xF4000001 0x00000000 0x03E0FFFC s (fun s =>
    s.waitUntil p.val 8 (s.offTime p.val w0 w1)))

/-- The length of the instruction at a program counter: 8 bytes for majors 0x38 to 0x3F. -/
def State.instrLen (s : State) (p : Nat) : Nat :=
  let pc := (s.arr p).ctrl.pc.toNat
  match s.fetchWord p pc with
  | .ok bs _ => if 0x38 ≤ ofBytes bs / 2 ^ 26 then 8 else 4
  | _ => 4

/-- R219: a blocked wait.until ends when local Quartz has reached its time. t: the Quartz time of the event. -/
def execWaitUntilRelease (p : ArrayId) (t : DWord) (s : State) : Out :=
  .next (
    let s := s.clock t
    let a := s.arr p.val
    match a.ctrl.blocked with
    | .untilTime x =>
      if qtzReached (s.localTime p.val) x ∧ a.ctrl.state = 1 ∧ a.runs then
        (s.modCtrl p.val (fun c => { c.dropData with blocked := .no })).ctrlNext p.val (s.instrLen p.val)
      else s
    | _ => s)

/-- R219, R220: the pending launch time; a lead shorter than 16,384 ticks makes it late. -/
def State.launchAt (s : State) (p len : Nat) (t : DWord) : State :=
  let short := !qtzReached t (s.localTime p + 16384#64)
  (s.modCtrl p (fun c => { c with launch := some t, launchLate := if short then [1] else [] })).ctrlNext p len

/-- launch.at sa. -/
def execLaunchAt (p : ArrayId) (w : Word) (s : State) : Out :=
  .next (ctrlGate p w none ctrlKnown 0xFC0007FF 0x74000002 0x00000000 0x03E0F800 s (fun s =>
    s.launchAt p.val 4 (BitVec.ofNat 64 ((s.arr p.val).ctrl.sget (sA w)))))

/-- launch.at sa, off. -/
def execLaunchAtOff (p : ArrayId) (w0 w1 : Word) (s : State) : Out :=
  .next (ctrlGate p w0 (some w1) ctrlKnown 0xFC000003 0xF4000000 0x00000000 0x03E0FFFC s (fun s =>
    s.launchAt p.val 8 (s.offTime p.val w0 w1)))

/-- The head of a queue of an array. -/
def ArrayState.head (a : ArrayState) (q : Nat) : Option QEntry := (a.queue q).head?

/-- Change the head of a queue. -/
def State.modHead (s : State) (p q : Nat) (f : QEntry → QEntry) : State :=
  s.modArr p (fun a => a.setQueue q (match a.queue q with | e :: es => f e :: es | [] => []))

/-- R115, R210: the gang an entry launches in, and its rank: that of a pass as issued, or the configuration in effect. -/
def State.launchGangOf (s : State) (p : Nat) (k : Ctrl) (e : QEntry) : GangSet × Nat :=
  match e.op with
  | .pass op => (op.gang, op.rank)
  | _ => (k.gangNow, s.gangRank p k.gangNow)

/-- The gang an entry of an array launches in, and its rank. -/
def State.launchGang (s : State) (p : Nat) (e : QEntry) : GangSet × Nat := s.launchGangOf p (s.arr p).ctrl e

/-- R318: T' = T + rank × stagger. -/
def launchPoint (t : DWord) (rank stagger : Nat) : DWord := t + BitVec.ofNat 64 (rank * stagger * 64)

/-- R210: whether the members of a gang agree in size, split and stagger. -/
def State.gangAgrees (s : State) (p : Nat) (g : GangSet) : Bool :=
  (List.range (2 ^ g.log2)).all (fun i => match s.gangMember p g.log2 i with
    | some q => let h := (s.arr q).ctrl.gangNow; h.stagger == g.stagger && h.split == g.split && h.log2 == g.log2
    | none => false)

/-- The instruction word at a controller's program counter, as fetched; 0 where it can't be. -/
def State.pcWord (s : State) (p : Nat) : Word :=
  match s.fetchWord p (s.arr p).ctrl.pc.toNat with
  | .ok bs _ => BitVec.ofNat 32 (ofBytes bs)
  | _ => 0#32

/-- R210: a gang fault on every member: of its first launched entry of the queue, or, where it has none yet, of its controller at its
program counter. -/
def State.gangFault (s : State) (p q : Nat) (g : GangSet) : State :=
  (List.range (2 ^ g.log2)).foldl (fun s i => match s.gangMember p g.log2 i with
    | some m => (match ((s.arr m).queue q).find? (fun e => e.launch.isSome) with
      | some e => s.entryFault m e 0x86 2 0xFF 0
      | none => s.issueFault m 0x86 2 (s.pcWord m) 0 0xFF 0 0)
    | none => s) s

/-- R318, R210, R320, R316: the launch time of the entry at the head of a queue is reached: the members of its gang compare,
and the entry may start. An unlocked island and a hard brake hold it. t: the Quartz time of the event. -/
def execLaunchTimeReached (p : ArrayId) (q : Fin 3) (t : DWord) (s : State) : Out :=
  .next (
    let s := s.clock t
    let a := s.arr p.val
    match a.head q.val with
    | none => s
    | some e => (match e.launch with
      | none => s
      | some t0 =>
        let (g, rank) := s.launchGang p.val e
        let t1 := if g.log2 = 0 then t0 else launchPoint t0 rank g.stagger
        let now := s.localTime p.val
        if !qtzReached now t1 ∨ a.halted ∨ a.gated then s
        else if a.brake then s.modHead p.val q.val (fun e => { e with late := (3 :: e.late).eraseDups })
        else if !a.qtzLocked then s.modHead p.val q.val (fun e => { e with late := (4 :: e.late).eraseDups })
        else if g.log2 ≠ 0 ∧ !s.gangAgrees p.val g then s.gangFault p.val q.val g
        else s.modHead p.val q.val (fun e => { e with launch := none, due := some (t1, rank) })))

/-- chk.mode: the checking level of the controller's later tiles; sa[2] marks the next tile. -/
def execChkMode (p : ArrayId) (w : Word) (s : State) : Out :=
  .next (ctrlGate p w none ctrlKnown 0xFC000007 0x7C000000 0x00000000 0x03E0FFF8 s (fun s =>
    let v := (s.arr p.val).ctrl.sget (sA w)
    s.ctrlSet p.val (fun c => { c with chkLevel := v % 4, chkNext := c.chkNext || v.testBit 2 })))

/-- Whether an operation is a pass, a reduce or a chain (R221). -/
def QOp.commits : QOp → Bool
  | .pass _ => true
  | .reduce .. => true
  | .chain _ => true
  | _ => false

/-- R221: whether every pass, reduce and chain of a controller has committed or been discarded. -/
def ArrayState.allCommitted (a : ArrayState) : Bool :=
  !a.aq.any (fun e => e.op.commits) && !a.vq.any (fun e => e.op.commits) && a.vec.running.isNone && a.vec.pendingSeq.isEmpty
    && a.vec.reruns.isEmpty && a.red.isNone && a.restarts.isEmpty && a.tiles.all (fun t => t.state == 0 || t.state == 5 || t.ctx != a.ctrl.ctx)

/-- R362: whether a context holds as many closed unagreed steps as CHK_CTX_CTL.lag allows. -/
def State.lagFull (s : State) (ctx : Nat) : Bool :=
  s.flag (rChkCtxCtl ctx) 3 && decide (s.fld (rChkCtxCtl ctx) 19 16 ≤ s.fld (rChkCtxStatus ctx) 29 26)

/-- R221, R358: chk.commit.step closes the open step on its array. -/
def Ctrl.closeStep (c : Ctrl) : Ctrl := { c with closed := c.closed ++ [(c.step, c.wdig)], wdig := 0, step := c.step + 1 }

/-- R221: whether chk.commit or chk.commit.step may end. -/
def State.commitDone (s : State) (p : Nat) (step : Bool) : Bool :=
  (s.arr p).allCommitted && !(step && s.lagFull (s.arr p).ctrl.ctx)

/-- The end of chk.commit or chk.commit.step. -/
def State.commitEnd (s : State) (p : Nat) (step : Bool) : State :=
  s.ctrlSet p (fun c => let c := { c with blocked := .no }; if step then c.closeStep else c)

/-- chk.commit and chk.commit.step. -/
def State.chkCommit (s : State) (p : Nat) (step : Bool) : State :=
  if s.commitDone p step then s.commitEnd p step else s.modCtrl p (fun c => { c with blocked := .commit step })

/-- chk.commit. -/
def execChkCommit (p : ArrayId) (w : Word) (s : State) : Out :=
  .next (ctrlGate p w none ctrlKnown 0xFC000007 0x7C000001 0x00000000 0x03FFFFF8 s (fun s => s.chkCommit p.val false))

/-- chk.commit.step. -/
def execChkCommitStep (p : ArrayId) (w : Word) (s : State) : Out :=
  .next (ctrlGate p w none ctrlKnown 0xFC000007 0x7C000002 0x00000000 0x03FFFFF8 s (fun s => s.chkCommit p.val true))

/-- A blocked chk.commit or chk.commit.step ends. -/
def execChkCommitRelease (p : ArrayId) (s : State) : Out :=
  .next (
    let a := s.arr p.val
    match a.ctrl.blocked with
    | .commit step => if s.commitDone p.val step ∧ a.ctrl.state = 1 ∧ a.runs then s.commitEnd p.val step else s
    | _ => s)

/-- yield: the array is offered to the dispatcher; the program goes on at the next instruction. -/
def execYieldArray (p : ArrayId) (w : Word) (s : State) : Out :=
  .next (ctrlGate p w none ctrlKnown 0xFC0007FF 0x00000001 0x00000000 0x03FFF800 s (fun s =>
    s.ctrlSet p.val (fun c => { c with yielding := true })))

/-- end: issue stops; PROGRAM_END_REPORT follows when all work has ended. -/
def execEndProgram (p : ArrayId) (w : Word) (s : State) : Out :=
  .next (ctrlGate p w none ctrlKnown 0xFC0007FF 0x00000002 0x00000000 0x03FFF800 s (fun s =>
    s.ctrlSet p.val (fun c => { c with ended := true })))

/-- fault: a software fault with its code; its srcB is clear. -/
def execSoftFault (p : ArrayId) (w : Word) (s : State) : Out :=
  .next (ctrlGate p w none ctrlKnown 0xFC0007FF 0x00000003 0x00000000 0x0000F800 s (fun s =>
    s.issueFault p.val 0x8C 0 w 0 0xFF (bitsOf w.toNat 25 11) 0))

/-- Whether an operation is a chain. -/
def QOp.isChain : QOp → Bool
  | .chain _ => true
  | _ => false

/-- Whether an operation is a DMA transfer. -/
def QOp.isDma : QOp → Bool
  | .dma _ => true
  | _ => false

/-- R223: whether a fence's condition holds: 0x10 stores, 0x11 array commands, 0x12 chains, 0x13 DMA, 0x15 all. -/
def State.fenceHolds (s : State) (p kind : Nat) : Bool :=
  let a := s.arr p
  let arr := a.aq.isEmpty && a.arrayIdle
  let vec := !a.vq.any (fun e => e.op.isChain) && a.vec.running.isNone && a.vec.reruns.isEmpty
  let dma := !a.dq.any (fun e => e.op.isDma) && a.dmas.isEmpty
  match kind with
  | 0x10 => s.storesDone p
  | 0x11 => arr
  | 0x12 => vec
  | 0x13 => dma
  | _ => s.storesDone p && arr && vec && dma

/-- R223: a fence ends; all but fence.st drop the data cache. -/
def State.fenceEnd (s : State) (p kind : Nat) : State :=
  s.ctrlSet p (fun c => let c := { c with blocked := .no }; if kind = 0x10 then c else c.dropData)

/-- R223: a fence: posted stores are performed, and issue blocks until the condition holds. -/
def State.fence (s : State) (p kind : Nat) : State :=
  let s := if kind = 0x10 ∨ kind = 0x15 then s.drainStores p else s
  if s.fenceHolds p kind then s.fenceEnd p kind else s.modCtrl p (fun c => { c with blocked := .fence kind })

/-- fence.st. -/
def execFenceSt (p : ArrayId) (w : Word) (s : State) : Out :=
  .next (ctrlGate p w none ctrlKnown 0xFC0007FF 0x00000010 0x00000000 0x03FFF800 s (fun s => s.fence p.val 0x10))

/-- fence.arr. -/
def execFenceArr (p : ArrayId) (w : Word) (s : State) : Out :=
  .next (ctrlGate p w none ctrlKnown 0xFC0007FF 0x00000011 0x00000000 0x03FFF800 s (fun s => s.fence p.val 0x11))

/-- fence.vec. -/
def execFenceVec (p : ArrayId) (w : Word) (s : State) : Out :=
  .next (ctrlGate p w none ctrlKnown 0xFC0007FF 0x00000012 0x00000000 0x03FFF800 s (fun s => s.fence p.val 0x12))

/-- fence.dma. -/
def execFenceDma (p : ArrayId) (w : Word) (s : State) : Out :=
  .next (ctrlGate p w none ctrlKnown 0xFC0007FF 0x00000013 0x00000000 0x03FFF800 s (fun s => s.fence p.val 0x13))

/-- fence.all. -/
def execFenceAll (p : ArrayId) (w : Word) (s : State) : Out :=
  .next (ctrlGate p w none ctrlKnown 0xFC0007FF 0x00000015 0x00000000 0x03FFF800 s (fun s => s.fence p.val 0x15))

/-- fence.i: the instruction cache is invalidated. -/
def execFenceI (p : ArrayId) (w : Word) (s : State) : Out :=
  .next (ctrlGate p w none ctrlKnown 0xFC0007FF 0x00000016 0x00000000 0x03FFF800 s (fun s =>
    s.ctrlSet p.val (fun c => { c with icache := [] })))

/-- cinv: the data cache is invalidated. -/
def execCinv (p : ArrayId) (w : Word) (s : State) : Out :=
  .next (ctrlGate p w none ctrlKnown 0xFC0007FF 0x00000020 0x00000000 0x03FFF800 s (fun s => s.ctrlSet p.val Ctrl.dropData))

/-- R223: a blocked fence ends when its condition holds. -/
def execFenceRelease (p : ArrayId) (s : State) : Out :=
  .next (
    let a := s.arr p.val
    match a.ctrl.blocked with
    | .fence kind => if s.fenceHolds p.val kind ∧ a.ctrl.state = 1 ∧ a.runs then s.fenceEnd p.val kind else s
    | _ => s)

/-- R196, R268: the data of a stalled load return: the load ends, or takes its data-access fault. An instruction whose record has
arrived issues again. -/
def execLoadDataReturn (p : ArrayId) (s : State) : Out :=
  .next (
    let c := (s.arr p.val).ctrl
    match c.blocked with
    | .loadData va size dest desc =>
      if c.state = 1 ∧ (s.arr p.val).runs then
        s.ctrlLoad p.val (s.pcWord p.val) va size dest desc true
      else s
    | .record va =>
      if c.state = 1 ∧ (s.arr p).runs ∧ (s.windowsOf p.val 0).all (fun x => x.write) then
        (s.modCtrl p.val (fun c => { c with blocked := .no, recGot := some va })).advanceQ p.val
      else s
    | _ => s)

/-- R192: the line of the program counter is filled into the instruction cache, or its fetch faults. -/
def execFetchLineFill (p : ArrayId) (s : State) : Out :=
  .next (
    let pc := (s.arr p.val).ctrl.pc.toNat
    if !s.ctrlIssues p.val then s
    else match s.fetchLine p.val (pc / 64) with
      | .ok _ s => s
      | .bad d a s => s.issueFault p.val 0x81 d 0 0 0xFF 0 a
      | .tr t => s.ctrlStall p.val 0 (pc / 64 * 64) .fetch t
      | .wait => s)

end Sys2Proof.Machine
end

