-- ==== Sys2Proof/Machine/CoreRun.lean ====
section
/-!
DEFINITION. Core-mode runs (04_core_mode R126 to R130, R144, R145) and their run digest (10_integrity R356).
-/
namespace Sys2Proof.Machine

/-- The cores of a logical array that hold any state. -/
def State.coresOf (s : State) (n : Nat) : List (Nat × CoreState) := s.cores.filter (fun e => e.1 / 65536 == n)

/-- R126, R128: a core at the start of a run. -/
def CoreState.started (c : CoreState) (now : DWord) : CoreState :=
  { c with cregs := [], vregs := [], accs := [], pc := 0, loops := [], status := 1, late := false, block := .no, startTime := now, timeHi := 0#32 }

/-- R128: the run at the head of the queue starts: every armed core starts at address 0. -/
def execCoreRunStart (p : ArrayId) (s : State) : Out :=
  .next (
    let a := s.arr p.val
    if !a.runs || s.stopping p.val || a.run.running || a.run.frozen || a.tiles.any (fun t => t.state == 1) || a.feed.isSome || !a.restarts.isEmpty
        || s.replayOn p.val then s
    else match a.aq with
      | e :: _ => (match e.op with
        | .coreRun arg =>
          if e.launch.isSome then s
          else
            let n := (s.logOf p.val).getD 0
            let now := s.localTime p.val
            let s := (s.popAq p.val).lateCheck p.val e
            let s := s.modArr p.val (fun a => { a with run :=
              { running := true, frozen := false, arg := arg, gen := a.ctrl.gen, ctx := a.ctrl.ctx, osn := e.osn, faulted := false
                stopped := false, seq := e.seq, report := none } })
            let cores := s.cores.map (fun (c : Nat × CoreState) => if c.1 / 65536 = n then
              (c.1, if c.2.armed then c.2.started now else { c.2 with status := 2 }) else c)
            let s := { s with cores := cores }
            (s.setFlag (rAryCmStatus p.val) 31 true).advanceQ p.val
        | _ => s)
      | [] => s)

/-- Whether a message of the mesh or trunk comes from or goes to a core of a logical array. -/
def meshTouches (n : Nat) (m : MeshMsg) : Bool :=
  let r := meshRoute m
  r.1 / 65536 == n || r.2.1 / 65536 == n

/-- R130: the core whose run a message belongs to: the sender of a send, put or get; a reply, acknowledgement or refusal returns to it. -/
def meshOwner : MeshMsg → Nat
  | .send src .. => src
  | .put src .. => src
  | .getReq src .. => src
  | .getReply _ dst .. => dst
  | .sendAck _ dst .. => dst
  | .refusal _ dst .. => dst

/-- R130: whether a run's cores have halted and its traffic has drained. -/
def State.runDrained (s : State) (n : Nat) : Bool :=
  (s.coresOf n).all (fun c => c.2.status != 1 && c.2.status != 4 && c.2.sends.isEmpty && c.2.fills.isEmpty
    && c.2.putsOut == 0 && c.2.getsOut == 0) && !s.mesh.any (fun m => meshOwner m / 65536 == n)

/-- R356: the run digest: the sum of line hashes over the core-mode region of every armed core. -/
def State.runDigest (s : State) (n ctx : Nat) : Nat :=
  let r := s.slAlloc ctx
  (s.coresOf n).foldl (fun h c =>
    if c.2.armed then
      (List.range (r.2 / 64)).foldl (fun h i =>
        (h + lineHash (c.1 * 4096 + r.1 + 64 * i) (s.rdBytes (slateBase c.1 + r.1 + 64 * i) 64)) % 2 ^ 64) h
    else h) 0

/-- R130: a run ends: receive queues are emptied, its end status is recorded, and the array is idle again. The fault that it reports is
posted, and its context is faulted (R144, R229). -/
def execCoreRunEnd (p : ArrayId) (s : State) : Out :=
  .next (
    let a := s.arr p.val
    let n := (s.logOf p.val).getD 0
    if !a.run.running || a.run.frozen || !a.runs || !s.runDrained n then s
    else
      let residue := (s.coresOf n).any (fun c => !c.2.rx.isEmpty || !c.2.heldNote.isEmpty)
      let ended := if a.run.faulted then 2 else if a.run.stopped then 3 else 1
      let s := if s.flag (rChkCtxCtl a.run.ctx) 4 then s.setReg64 (rAryCmDigest p.val) (s.runDigest n a.run.ctx) else s
      let s := { s with cores := s.cores.map (fun (c : Nat × CoreState) => if c.1 / 65536 = n then (c.1, { c.2 with rx := [], heldNote := [] }) else c) }
      let s := (s.postCoreFault p.val).modArr p.val (fun a => { a with run := { a.run with running := false, report := none } })
      let s := (s.setFlag (rAryCmStatus p.val) 31 false).setFld (rAryCmStatus p.val) 29 28 ended
      let s := if residue then s.setFlag (rAryCmStatus p.val) 27 true else s
      ((s.bump (rAryCmRuns p.val) 1).settleFault p.val).advanceQ p.val)

/-- R145: the grace time of a switch expires while a run is not drained: it is frozen at instruction boundaries; blocked
waits, receives and stalled sends are executed again on resumption. A run that ends in the same cycle ends normally. The switch is a full
one. -/
def execCoreRunFreeze (p : ArrayId) (s : State) : Out :=
  .next (
    let a := s.arr p.val
    let n := (s.logOf p.val).getD 0
    match s.partAt p.val with
    | none => s
    | some q =>
      if !a.run.running || a.run.frozen || !((s.part q).saving.contains p.val) || s.runDrained n then s
      else
        let s := { s with cores := s.cores.map (fun (c : Nat × CoreState) => if c.1 / 65536 = n ∧ c.2.status = 1 then
          (c.1, { c.2 with status := 4, block := .no }) else c) }
        let s := s.setPart q { s.part q with full := true }
        (s.modArr p.val (fun a => { a with run := { a.run with frozen := true } })).setFlag (rAryCmStatus p.val) 30 true)

end Sys2Proof.Machine
end

