-- ==== Sys2Proof/Machine/Trunk.lean ====
section
/-!
DEFINITION. The Basalt trunk (00_scope R18; 01_architecture R20, R22, R23; 07_memory R250 to R254, R275): where routers stand, the route of
a packet, its check at a receiving router, and failed links. Routers 0 to 17 are those of the physical arrays, 18 + k that of site k.
-/
namespace Sys2Proof.Machine

/-- R20: the field and the attached array router of each site. -/
def sitePlaces : List (Nat × Nat) :=
  [(0, 0), (0, 0), (0, 0), (3, 6), (3, 6), (3, 6), (6, 12), (6, 12), (2, 5), (2, 5), (2, 5), (5, 11), (5, 11), (5, 11), (8, 17), (8, 17),
   (6, 13), (8, 16)]

/-- R20, R23: the field whose services hold a router. -/
def routerField (r : Nat) : Nat := if r < 18 then r / 2 else (nth (0, 0) sitePlaces (r - 18)).1

/-- R20: the array router by which a router reaches the mesh. -/
def meshRouter (r : Nat) : Nat := if r < 18 then r else (nth (0, 0) sitePlaces (r - 18)).2

/-- R18, R23: whether a router is powered: its field services' domain is on, and a site's router while its site is enabled. -/
def State.routerOn (s : State) (r : Nat) : Bool :=
  s.fld (rPwrDom (324 + routerField r)) 31 29 == 2 && (decide (r < 18) || s.siteOn (r - 18))

/-- R22: the array routers that a pair joins: pairs 0 to 14 in the rows, p with p + 1; 15 to 26 in the columns, p with p + 6. -/
def pairEnds (k : Nat) : Nat × Nat :=
  if k < 15 then (6 * (k / 5) + k % 5, 6 * (k / 5) + k % 5 + 1) else (k - 15, k - 9)

/-- R22: the pair that joins two array routers. -/
def routerPair (a b : Nat) : Option Nat := (List.range 27).find? (fun k => pairEnds k == (a, b) || pairEnds k == (b, a))

/-- A trunk link's state. -/
def State.trunkLink (s : State) (k : Nat) : TrunkLink := tblGet ⟨0, false⟩ s.memst.links k

/-- Replace a trunk link's state. -/
def State.setLink (s : State) (k : Nat) (x : TrunkLink) : State := { s with memst := { s.memst with links := tblPut s.memst.links k x } }

/-- The other link of a pair. -/
def otherLink (k : Nat) : Nat := if k % 2 = 0 then k + 1 else k - 1

/-- The payload of a trunk event. -/
def linkPayload (k n : Nat) : Nat := payloadOf [(25, 1, 3), (26, 2, k), (28, 4, n)]

/-- R252, R498: a link of a pair fails: its traffic moves to the other link, code 0x22, posted for a field. -/
def State.failLink (s : State) (k field : Nat) : State :=
  let s := s.setLink k ⟨0, true⟩
  if 54 ≤ k ∨ (s.trunkLink (otherLink k)).failed then s else s.postDev 0x01 0x22 1 (srcOf 4 field) (linkPayload k 1)

/-- R252, R498: a link whose seam bundle has failed is retired; the pair's first router reports it. -/
def State.retireLink (s : State) (k : Nat) : State := s.failLink k (routerField (pairEnds (k / 2)).1)

/-- R252: the array routers after one along its array row up to a column. -/
def alongRow (a col : Nat) : List Nat :=
  let c := a % 6
  if c ≤ col then (List.range (col - c)).map (fun i => a + 1 + i) else (List.range (c - col)).map (fun i => a - 1 - i)

/-- R252: the array routers after one along its array column up to a row. -/
def alongColumn (a row : Nat) : List Nat :=
  let r := a / 6
  if r ≤ row then (List.range (row - r)).map (fun i => a + 6 * (1 + i)) else (List.range (r - row)).map (fun i => a - 6 * (1 + i))

/-- R252: the dimension-ordered path between array routers: along the row, then along the column. -/
def meshPath (a b : Nat) : List Nat := a :: alongRow a (b % 6) ++ alongColumn (a / 6 * 6 + b % 6) (b / 6)

/-- R275: the paths that a packet may take, the dimension-ordered one first, then the same through a neighbouring row, the lower before
the upper (notes/assumptions/115). -/
def meshPaths (a b : Nat) : List (List Nat) :=
  let rows := (if a / 6 < 2 then [a / 6 + 1] else []) ++ (if 0 < a / 6 then [a / 6 - 1] else [])
  meshPath a b :: rows.map (fun r => a :: meshPath (6 * r + a % 6) b)

/-- R275: whether every pair of a path has a link that has not failed. -/
def State.pathLives (s : State) : List Nat → Bool
  | a :: b :: l =>
    (match routerPair a b with
    | some k => !(s.trunkLink (2 * k)).failed || !(s.trunkLink (2 * k + 1)).failed
    | none => true) && s.pathLives (b :: l)
  | _ => true

/-- R252, R275: the routers of a packet from its source to its destination, which it leaves and enters only at their array routers; none
where no path exists. -/
def State.trunkRoute (s : State) (src dst : Nat) : Option (List Nat) :=
  ((meshPaths (meshRouter src) (meshRouter dst)).find? s.pathLives).map (fun l =>
    (if 18 ≤ src then [src] else []) ++ l ++ (if 18 ≤ dst then [dst] else []))

/-- The router of a path before router r. -/
def hopBefore (r : Nat) : List Nat → Option Nat
  | a :: b :: l => if b = r then some a else hopBefore r (b :: l)
  | _ => none

/-- R252: the link by which a packet reaches router b from router a: of a pair the one that the hash selects while it has not failed, else
the other; of a site its own. -/
def State.hopLink (s : State) (k : TrunkPacket) (a b : Nat) : Nat :=
  match routerPair a b with
  | some i =>
    let l := 2 * i + b2n (Config.trunkHash k.src.val k.dst.val k.rsp)
    if (s.trunkLink l).failed then otherLink l else l
  | none => 54 + (Nat.max a b - 18)

/-- R250: the bytes of a packet that its CRC-32C covers: header and payload. -/
def trunkBytes (k : TrunkPacket) : List Byte :=
  bytesOf 32 (Config.trunkHeader [k.src.val, k.dst.val, b2n k.rsp, k.ctx, k.gen, k.seq, k.poison.toNat]).toNat ++ k.data

/-- R250, R271: what a packet brings to its destination: the words that its poison mask names arrive poisoned. -/
def State.trunkLand (s : State) (k : TrunkPacket) (r : RouterId) : State :=
  if r = k.dst then
    (List.range (k.data.length / 8)).foldl (fun s i => if k.poison.getLsbD i then s.poison (k.pa + 8 * i) 8 else s) s
  else s

/-- R252, R254, R275: router r checks a packet that reaches it. A bad one is replayed, at most 8 times, with code 0x20 at most once a
millisecond (R272); then its link fails, and it goes on with every word poisoned, code 0x21. A packet that no path leads to its
destination is poisoned at its source's router. -/
def execTrunkPacketReceive (h : PacketHead) (poison : BitVec 32) (data : List Byte) (pa : Nat) (r : RouterId) (crc : Word) (s : State) : Out :=
  .next (
    let k : TrunkPacket := ⟨h.src, h.dst, h.rsp, h.ctx, h.gen, h.seq, poison, data, pa⟩
    let field := routerField r.val
    if !s.routerOn r.val then s
    else match s.trunkRoute k.src.val k.dst.val with
      | none =>
        if r.val ≠ meshRouter k.src.val then s
        else (s.poison k.pa k.data.length).postDev 0x01 0x21 2 (srcOf 4 field) (linkPayload 0 1)
      | some path => match hopBefore r.val path with
        | none => s
        | some a =>
          let l := s.hopLink k a r.val
          let x := s.trunkLink l
          if x.failed then s
          else if crc.toNat = crc32c (trunkBytes k) then (s.setLink l { x with attempts := 0 }).trunkLand k r
          else if x.attempts < 8 then
            match (s.setLink l { x with attempts := x.attempts + 1 }).rateLimit (srcOf 4 field) with
            | (some n, s) => s.postDev 0x01 0x20 1 (srcOf 4 field) (linkPayload l n)
            | (none, s) => s
          else
            ((s.failLink l field).poison k.pa k.data.length).postDev 0x01 0x21 2 (srcOf 4 field) (linkPayload l 1))

end Sys2Proof.Machine
end

