-- ==== Sys2Proof/Machine/Dma.lean ====
section
/-!
DEFINITION. The DMA engine (06_control_isa R214, R215): its instructions, the start of a transfer, and its completion.
-/
namespace Sys2Proof.Machine

/-- R214, R215: the checks at issue and the entry of a transfer. kind: 0 copy, 1 fill, 2 gather, 3 scatter. -/
def State.issueDma (s : State) (p : Nat) (w0 w1 : Word) (kind : Nat) : State :=
  let c := (s.arr p).ctrl
  let rD := bitsOf w0.toNat 24 21
  let rS := bitsOf w0.toNat 20 17
  let rX := bitsOf w0.toNat 16 13
  let check (d : Desc) (r : Nat) : List IssueCheck :=
    [failIf d.fmt.isNone 0x82 1 r, (match d.fault with | some n => some (0x88, n, r, if n = 4 then d.table else 0) | none => none)]
  let op : DmaOp :=
    { kind := kind, dD := c.dget rD, dS := c.dget rS, dX := c.dget rX, value := BitVec.ofNat 64 (c.sget (bitsOf w0.toNat 12 8))
      sigEn := w1.toNat.testBit 6, ctr := bitsOf w1.toNat 5 0, inc := BitVec.ofNat 16 (bitsOf w1.toNat 22 7) }
  s.checked p w0 w1
    ([failIf (decide (bitsOf w1.toNat 31 23 ≠ 0)) 0x80 3 0xFF] ++ check (descOf op.dD) rD ++
      (if kind = 1 then [] else check (descOf op.dS) rS) ++ (if 2 ≤ kind then check (descOf op.dX) rX else []))
    (fun s => s.enqueue p 2 w0 w1 8 0 true (.dma op))

/-- dma, kind copy. -/
def execDmaCopy (p : ArrayId) (w0 w1 : Word) (s : State) : Out :=
  .next (ctrlGate p w0 (some w1) ctrlKnown 0xFC0000E0 0xF0000000 0x00000000 0x0201FF1F s (fun s => s.issueDma p.val w0 w1 0))

/-- dma, kind fill. -/
def execDmaFill (p : ArrayId) (w0 w1 : Word) (s : State) : Out :=
  .next (ctrlGate p w0 (some w1) ctrlKnown 0xFC0000E0 0xF0000020 0x00000000 0x021FE01F s (fun s => s.issueDma p.val w0 w1 1))

/-- dma, kind gather. -/
def execDmaGather (p : ArrayId) (w0 w1 : Word) (s : State) : Out :=
  .next (ctrlGate p w0 (some w1) ctrlKnown 0xFC0000E0 0xF0000040 0x00000000 0x02001F1F s (fun s => s.issueDma p.val w0 w1 2))

/-- dma, kind scatter. -/
def execDmaScatter (p : ArrayId) (w0 w1 : Word) (s : State) : Out :=
  .next (ctrlGate p w0 (some w1) ctrlKnown 0xFC0000E0 0xF0000060 0x00000000 0x02001F1F s (fun s => s.issueDma p.val w0 w1 3))

/-- R214: where an element of an endpoint lies, in either layout. -/
def Desc.dmaLoc (d : Desc) (ix : List Nat) : ElemLoc :=
  if d.layout = 1 then statLoc d.base (fmtOr d.code) (nth 0 ix 1) (nth 0 ix 0) else d.loc (fmtOr d.code) ix

/-- Every byte range of an endpoint. -/
def Desc.dmaRanges (d : Desc) : List (Nat × Nat) := (indices d.ext).flatMap (fun ix => (d.dmaLoc ix).ranges)

/-- R200: whether the extents of an endpoint are those that its layout takes. -/
def Desc.layoutFits (d : Desc) : Bool := d.layout != 1 || (flatDims d && blockDims d)

/-- R214, R215, R200: the execution fault of a transfer found at its start: 2 extents, 3 formats. -/
def DmaOp.startFault (o : DmaOp) : Option Nat :=
  let d := descOf o.dD
  let x := descOf o.dS
  let i := descOf o.dX
  if !d.layoutFits || (o.kind != 1 && !x.layoutFits) || (decide (2 ≤ o.kind) && !i.layoutFits) then some 2
  else match o.kind with
  | 0 => if d.code ≠ x.code then some 3 else if d.ext ≠ x.ext then some 2 else none
  | 1 => none
  | k =>
    let want := if k = 2 then d.extOf 1 else x.extOf 1
    if d.code ≠ x.code ∨ i.code ≠ 0x10 then some 3
    else if d.extOf 0 ≠ x.extOf 0 ∨ d.ext.drop 2 ≠ x.ext.drop 2 ∨ i.extOf 0 ≠ want then some 2
    else none

/-- The byte ranges a transfer reads. -/
def DmaOp.reads (o : DmaOp) : List (Nat × Nat) :=
  (if o.kind = 1 then [] else (descOf o.dS).dmaRanges) ++ (if 2 ≤ o.kind then (descOf o.dX).dmaRanges else [])

/-- R271, R214: whether an element is poisoned, in memory or as a window returned it. -/
def State.dmaBad (s : State) (acc : Accessor) (l : ElemLoc) : Bool :=
  (s.physRanges acc l.ranges).any (fun r =>
    match s.place r.1 with
    | .aperture .. => s.badIn (acc.ctx * 2 ^ 48 + r.1) r.2
    | _ => s.badIn r.1 r.2)

/-- R200: the positions of the final MX blocks beyond the extent along the block axis, for the elements of a tensor that are written: they are
written as zero. -/
def Desc.padding (d : Desc) (ixs : List (List Nat)) : List (List Nat) :=
  let a := d.mxAxis
  let e := d.extOf a
  if d.layout = 1 ∨ !fmtMx (fmtOr d.code) ∨ e % 32 = 0 then []
  else ((ixs.filter (fun ix => nth 0 ix a / 32 == e / 32)).flatMap (fun ix =>
    (List.range (32 - e % 32)).map (fun k => setNth 0 ix a (e + k)))).eraseDups

/-- Elements to be written at indices of a destination, with their codes, scales and poison, and the zeros beyond them, as writes. -/
def State.dmaElems (s : State) (acc : Accessor) (d : Desc) (es : List (List Nat × Nat × Nat × Bool)) (scales : Bool) : List ChainWrite :=
  let loc (ix : List Nat) : ElemLoc := if scales then d.dmaLoc ix else { d.dmaLoc ix with scale := none }
  let zeros := (d.padding (es.map Prod.fst)).map (fun ix => ({ d.dmaLoc ix with scale := none }, 0, 0))
  runWrites (s.mergeElems acc (es.map (fun e => (loc e.1, e.2.1, e.2.2.1)) ++ zeros)) ((es.filter (fun e => e.2.2.2)).flatMap (fun e => (loc e.1).ranges))

/-- Lines along dimension 0 as writes: the elements of the source lines, bit for bit. ts: the other indices of each line, at the destination
and at the source. -/
def State.dmaLines (s : State) (acc : Accessor) (d x : Desc) (ts : List (List Nat × List Nat)) : List ChainWrite :=
  s.dmaElems acc d (ts.flatMap (fun t => (List.range (d.extOf 0)).map (fun i =>
    let c := s.peekElem acc (x.dmaLoc (i :: t.2))
    (i :: t.1, c.1, c.2, s.dmaBad acc (x.dmaLoc (i :: t.2)))))) true

/-- R214: fill: every element takes the low bits of the value; scales keep their contents. -/
def State.dmaFill (s : State) (acc : Accessor) (d : Desc) (v : Nat) : List ChainWrite :=
  s.dmaElems acc d ((indices d.ext).map (fun ix => (ix, v, 0, false))) false

/-- R215: the index of row j. -/
def State.dmaIndex (s : State) (acc : Accessor) (o : DmaOp) (j : Nat) : Nat := (s.peekElem acc ((descOf o.dX).dmaLoc [j, 0, 0, 0, 0])).1

/-- R215: the rows that a gather or scatter moves, as (j, X[j]), and the first row whose index is out of range. -/
def State.dmaRows (s : State) (acc : Accessor) (o : DmaOp) : List (Nat × Nat) × Option Nat :=
  let d := descOf o.dD
  let x := descOf o.dS
  let n := if o.kind = 2 then d.extOf 1 else x.extOf 1
  let bound := if o.kind = 2 then x.extOf 1 else d.extOf 1
  (List.range n).foldl (fun (r : List (Nat × Nat) × Option Nat) j =>
    if r.2.isSome then r
    else
      let i := s.dmaIndex acc o j
      if i = 0xFFFFFFFF then r
      else if bound ≤ i then (r.1, some j)
      else (r.1 ++ [(j, i)], none)) ([], none)

/-- R215: of rows that name one index, the one with the highest j. -/
def lastRows : List (Nat × Nat) → List (Nat × Nat)
  | [] => []
  | x :: t => if t.any (fun y => y.2 == x.2) then lastRows t else x :: lastRows t

/-- The writes of moved rows. -/
def State.dmaMoves (s : State) (acc : Accessor) (o : DmaOp) (rows : List (Nat × Nat)) : List ChainWrite :=
  let d := descOf o.dD
  s.dmaLines acc d (descOf o.dS) (rows.flatMap (fun r => (indices (d.ext.drop 2)).map (fun t =>
    if o.kind = 2 then (r.1 :: t, r.2 :: t) else (r.2 :: t, r.1 :: t))))

/-- The writes of a transfer, and the row whose index was out of range (R215). Where elements of the destination overlap, each shared
byte takes one value (R201); a row that a scatter names more than once takes the highest j. -/
def State.dmaWrites (s : State) (acc : Accessor) (o : DmaOp) : List ChainWrite × Option Nat :=
  let d := descOf o.dD
  match o.kind with
  | 0 => (s.dmaLines acc d (descOf o.dS) ((indices (d.ext.drop 1)).map (fun t => (t, t))), none)
  | 1 => (s.dmaFill acc d o.value.toNat, none)
  | 2 =>
    let r := s.dmaRows acc o
    (s.dmaMoves acc o r.1, r.2)
  | _ =>
    let r := s.dmaRows acc o
    (s.dmaMoves acc o (lastRows r.1), r.2)

/-- R104: whether a transfer is a local copy: between regions of the array's own edge store. -/
def State.localCopy (s : State) (p : Nat) (ctx : Nat) (o : DmaOp) : Bool :=
  o.kind == 0 && s.ownEdge p (s.physRanges (s.unitAcc p ctx .read) o.reads)
    && s.ownEdge p (s.physRanges (s.unitAcc p ctx .write) (descOf o.dD).dmaRanges)

/-- R104: whether a transfer must wait for a commit: a local copy only for outputs of other arrays or contexts, any other transfer for
any uncommitted output that it reads. -/
def State.dmaWaits (s : State) (p ctx : Nat) (o : DmaOp) : Bool :=
  let ph := s.physRanges (s.unitAcc p ctx .read) o.reads
  if s.localCopy p ctx o then s.foreignUncommitted p ctx ph else ph.any (fun r => s.uncommittedHit r.1 r.2)

/-- R214: a transfer starts: formats and extents are checked, and reads through windows are sent. -/
def State.dmaBegin (s : State) (p : Nat) (e : QEntry) (o : DmaOp) : State :=
  let a := s.arr p
  let ctx := a.ctrl.ctx
  let acc := s.unitAcc p ctx .read
  let pop := s.modArr p (fun a => { a with dq := a.dq.drop 1 })
  match o.startFault with
  | some n => pop.entryFault p e 0x89 n (bitsOf e.w0.toNat 24 21) 0
  | none => match s.firstFault acc o.reads with
    | some (v, t) => s.stallTr ctx 7 p v .read t
    | none => match s.firstFault (s.unitAcc p ctx .write) ((descOf o.dD).dmaRanges) with
      | some (v, t) => s.stallTr ctx 7 p v .write t
      | none =>
        let ph := s.physRanges acc o.reads
        if s.dmaWaits p ctx o then s
        else
          let s := (pop.lateCheck p e).modArr p (fun a => { a with dmas := a.dmas ++ [e] })
          ph.foldl (fun s r => match s.place r.1 with
            | .aperture .. => s.sendWindows p e.seq ctx 0 r.1 false [] false r.2
            | _ => s) s

/-- R214: the transfer at the head of the DMA queue starts, with at most 8 in progress. -/
def execDmaStart (p : ArrayId) (s : State) : Out :=
  .next (
    let a := s.arr p.val
    if !a.runs || s.stopping p.val || decide (8 ≤ a.dmas.length) || s.unitStalled p.val 7 then s
    else match a.dq with
      | e :: _ => (match e.op with
        | .dma o => if e.launch.isSome then s else s.dmaBegin p.val e o
        | _ => s)
      | [] => s)

/-- A transfer ends: it leaves the list and, without an error, signals its counter. -/
def State.dmaEnd (s : State) (p : Nat) (e : QEntry) (o : DmaOp) : State :=
  let err := s.fab.errs.contains (p, e.seq)
  let s := s.modArr p (fun a => { a with dmas := a.dmas.filter (fun x => x.seq != e.seq), dmaSent := a.dmaSent.filter (fun x => x != e.seq) })
  let s := { s with fab := { s.fab with errs := s.fab.errs.filter (fun x => x != (p, e.seq)) } }
  let s := if o.sigEn && !err then s.addCtrl p o.ctr (toSigned 16 o.inc.toNat) (sigSrc 3 false ((s.logOf p).getD 0 * 65536)) else s
  s.settleFault p

/-- R187: a DMA write into a region that an unattached running chain of the context may be reading: the chain may have read the bytes before
it. -/
def State.raceNote (s : State) (ctx : Nat) (acc : Accessor) (w : ChainWrite) : State :=
  let old := (List.range w.data.length).map (fun k => (w.va + k, nth 0#8 (s.peek acc (w.va + k) 1) 0))
  (List.range 18).foldl (fun s p =>
    match (s.arr p).vec.running with
    | some r =>
      if r.ctx = ctx ∧ r.attached.isNone then
        s.modArr p (fun a => { a with vec := { a.vec with races := a.vec.races ++ old.filter (fun x => !a.vec.races.any (fun y => y.1 == x.1)) } })
      else s
    | none => s) s

/-- R214, R243: the writes of a transfer, up to the first that a held range refuses; then an index fault. -/
def State.dmaPerform (s : State) (p : Nat) (e : QEntry) (o : DmaOp) : State :=
  let ctx := (s.arr p).ctrl.ctx
  let acc := s.unitAcc p ctx .read
  let accW := s.unitAcc p ctx .write
  let s := s.readRanges (some ctx) (s.physRanges acc o.reads)
  let (ws, bad) := s.dmaWrites acc o
  let s := s.drawn
  let refused (w : ChainWrite) : Bool := (s.physRanges accW [(w.va, w.data.length)]).any (fun r => s.heldHit r.1 r.2)
  let ok := ws.takeWhile (fun w => !refused w)
  let s := ok.foldl (fun s w => (s.raceNote ctx acc w).writeVaB p 7 e.seq ctx w.va w.data w.bad) s
  let s := s.modArr p (fun a => { a with dmaSent := a.dmaSent ++ [e.seq] })
  match ws.drop ok.length with
  | w :: _ =>
    let pa := ((s.physRanges accW [(w.va, w.data.length)]).headD (0, 0)).1
    let s := { s with fab := { s.fab with errs := s.fab.errs ++ [(p, e.seq)] } }
    s.heldRefuse ctx 7 p w.va pa
  | [] =>
    match bad with
    | some j =>
      let s := { s with fab := { s.fab with errs := s.fab.errs ++ [(p, e.seq)] } }
      s.entryFault p e 0x89 1 (bitsOf e.w0.toNat 16 13) ((descOf o.dX).dmaLoc [j, 0, 0, 0, 0]).addr
    | none => s

/-- R214, R307: transfer n in progress completes, during a Flint halt as well: when its reads have arrived its writes are performed, and when every write has been
acknowledged it signals. -/
def execDmaComplete (p : ArrayId) (n : Nat) (s : State) : Out :=
  .next (
    let a := s.arr p.val
    match a.dmas[n]? with
    | none => s
    | some e => (match e.op with
      | .dma o =>
        if a.gated || a.brake || s.unitStalled p.val 7 || !(s.windowsOf p.val e.seq).isEmpty then s
        else if a.dmaSent.contains e.seq then (s.dmaEnd p.val e o).advanceQ p.val
        else
          let ctx := a.ctrl.ctx
          (match s.firstFault (s.unitAcc p.val ctx .read) o.reads with
          | some (v, t) => s.stallTr ctx 7 p.val v .read t
          | none => (match s.firstFault (s.unitAcc p.val ctx .write) ((descOf o.dD).dmaRanges) with
            | some (v, t) => s.stallTr ctx 7 p.val v .write t
            | none =>
              let s := s.dmaPerform p.val e o
              if (s.windowsOf p.val e.seq).isEmpty then (s.dmaEnd p.val e o).advanceQ p.val else s))
      | _ => s))

end Sys2Proof.Machine
end

