-- ==== Sys2Proof/Machine/Windows.lean ====
section
/-!
DEFINITION. Windows (06_control_isa R216; 07_memory R266 to R270): the window instructions, the checks and effects of an
access at its owner, and the sequence records of writes from the fabric (12_host_fabric R423).
-/
namespace Sys2Proof.Machine

/-- Window w of a physical array. -/
def State.window (s : State) (p w : Nat) : Window := tblGet Window.shut (s.arr p).wins w

/-- Replace a window. -/
def State.setWindow (s : State) (p w : Nat) (x : Window) : State := s.modArr p (fun a => { a with wins := tblPut a.wins w x })

/-- R269: the payload of a window event. side: 0 owner, 1 writer. -/
def winPayload (w arr node ctx gen wgen side off size : Nat) : Nat :=
  payloadOf [(16, 1, w), (17, 1, arr), (18, 2, node), (20, 2, ctx), (22, 2, gen), (24, 2, wgen), (26, 1, side), (32, 8, off), (40, 4, size)]

/-- R266: a writer entry that holds no reserved value. -/
def writerOk (e : Nat) : Bool :=
  let kind := bitsOf e 31 30
  kind != 3 && bitsOf e 28 25 == 0 && (!e.testBit 29 || bitsOf e 24 16 == 0) && (kind != 1 || bitsOf e 15 0 == 0) && (kind != 0 || e == 0)

/-- R266: a valid window record. -/
def winRecordOk (bs : List Byte) : Bool :=
  let es := (List.range 8).map (fun i => leAt bs (16 + 4 * i) 4)
  let len := leAt bs 8 8
  leAt bs 6 2 == 0 && leAt bs 0 8 % 64 == 0 && len % 64 == 0 && decide (64 ≤ len) && decide (len ≤ 2 ^ 36) &&
    es.all writerOk && es.any (fun e => bitsOf e 31 30 != 0) && decide (leAt bs 48 1 < 8) && decide (leAt bs 49 1 < 64) &&
    leAt bs 50 14 == 0

/-- R216, R266, R267: open window w from a record, or refuse it. -/
def State.winOpen (s : State) (p w : Nat) (bs : List Byte) : State :=
  let x := s.window p w
  let c := (s.arr p).ctrl
  let arr := (s.logOf p).getD 0
  let refuse (s : State) (code : Nat) : State :=
    s.postCtx c.ctx 0x0D code 2 (srcOf 1 p) (winPayload w arr 0 c.ctx 0 x.gen 0 0 0)
  if x.isOpen then refuse s 6
  else if !winRecordOk bs then refuse s 7
  else s.setWindow p w { x with isOpen := true, closing := false, gen := (x.gen + 1) % 65536, ctx := c.ctx, record := bs, counter := 0 }

/-- win.open. A window that closes is opened once its close has completed (R270, notes/assumptions/118). -/
def execWinOpen (p : ArrayId) (w : Word) (s : State) : Out :=
  .next (ctrlGate p w none ctrlKnown 0xFC000700 0x78000000 0x00000000 0x03E0F8C0 s (fun s =>
    let va := (s.arr p.val).ctrl.sget (sA w) % 2 ^ 48
    s.checked p.val w 0 [failAt (decide (va % 64 ≠ 0)) 0x87 1 (sA w) va] (fun s =>
      if (s.window p.val (bitsOf w.toNat 5 0)).closing then s
      else match s.recordRead p.val va 64 with
      | .ok bs s => (s.winOpen p.val (bitsOf w.toNat 5 0) bs).ctrlNext p.val 4
      | .bad d a s => s.issueFault p.val 0x87 d w 0 0xFF 0 a
      | .tr t => s.ctrlStall p.val 1 va .read t
      | .wait => s.recordAsk p.val va 64)))

/-- Accesses that a window has admitted and not yet performed. -/
def State.winAdmitted (s : State) (p w : Nat) : Bool :=
  s.memst.winq.any (fun a => a.admitted && s.physOf a.array == some p && a.window == w)

/-- R270: a window closes; accesses it admitted before are still performed. -/
def State.winClose (s : State) (p w : Nat) : State :=
  let x := s.window p w
  if x.isOpen then s.setWindow p w { x with isOpen := false, closing := s.winAdmitted p w } else s

/-- win.close: it completes at once when no access that the window admitted is still to be performed (R270). -/
def execWinClose (p : ArrayId) (w : Word) (s : State) : Out :=
  .next (ctrlGate p w none ctrlKnown 0xFC000700 0x78000100 0x00000000 0x03FFF8C0 s (fun s =>
    let n := bitsOf w.toNat 5 0
    let s := s.winClose p.val n
    if (s.window p.val n).closing then s.modCtrl p.val (fun c => { c with blocked := .closing n }) else s.ctrlNext p.val 4))

/-- R270: a close completes when the last access it admitted has been performed; the controller that waits for it goes on. -/
def execWinCloseComplete (p : ArrayId) (w : Fin 64) (s : State) : Out :=
  .next (
    let x := s.window p.val w.val
    if x.closing && !s.winAdmitted p.val w.val then
      let s := s.setWindow p.val w.val { x with closing := false }
      if (s.arr p.val).ctrl.blocked = .closing w.val then s.ctrlSet p.val (fun c => { c with blocked := .no }) else s
    else s)

/-- win.ctr: sd := a producer counter. -/
def execWinCtr (p : ArrayId) (w : Word) (s : State) : Out :=
  .next (ctrlGate p w none ctrlKnown 0xFC000700 0x78000200 0x00000000 0x001FF8C0 s (fun s =>
    s.ctrlSet p.val (fun c => c.sput (sD w) (s.window p.val (bitsOf w.toNat 5 0)).counter)))

/-- win.gen: sd := a window's generation. -/
def execWinGen (p : ArrayId) (w : Word) (s : State) : Out :=
  .next (ctrlGate p w none ctrlKnown 0xFC000700 0x78000300 0x00000000 0x001FF8C0 s (fun s =>
    s.ctrlSet p.val (fun c => c.sput (sD w) (s.window p.val (bitsOf w.toNat 5 0)).gen)))

/-- R266: whether a writer entry names a writer. src: its node, none for this device. -/
def writerHit (e ctx : Nat) (src : Option Nat) : Bool :=
  match src with
  | none => bitsOf e 31 30 == 1 && (e.testBit 29 || bitsOf e 24 16 == ctx)
  | some n => bitsOf e 31 30 == 2 && bitsOf e 15 0 == n && (e.testBit 29 || bitsOf e 24 16 == ctx)

/-- R269: the first check of an arriving access that fails. -/
def winCheck (x : Window) (a : WinAcc) : Option Nat :=
  let bs := x.record
  if !x.isOpen then some 1
  else if !(List.range 8).any (fun i => writerHit (leAt bs (16 + 4 * i) 4) a.ctx a.src) then some 2
  else if a.gen ≠ x.gen then some 3
  else if leAt bs 8 8 < a.off + a.size then some 4
  else if !a.write && !(leAt bs 48 1).testBit 0 then some 5
  else none

/-- R421: a response to a request from the fabric. -/
def State.fabRespond (s : State) (a : WinAcc) (op flags status poison : Nat) (data : List Byte) : State :=
  match a.src with
  | none => s
  | some node =>
    match s.routeTo node with
    | none => s
    | some f =>
      let k : Pkt := { op := op, flags := flags, dest := node, src := s.ownNode, ctx := a.ctx, ctxGen := a.ctxGen
                       len := ceilDiv data.length 64, tag := a.tag, seqStatus := status, waddr := a.waddr, poison := poison, rlen := 0
                       data := sliceBytes data 0 (64 * ceilDiv data.length 64) }
      s.portSend f 1 none none k.bytes

/-- R269: an access is refused, by a window of physical array q unless none backs its logical array: both sides learn the code, and no byte
moves. A window that has never been opened has no owner to tell. A write into a held range is reported at its sender alone (R243, R265). -/
def State.winRefuse (s : State) (q : Option Nat) (x : Window) (a : WinAcc) (cls code : Nat) : State :=
  let pay (side : Nat) := winPayload a.window a.array (a.src.getD 0) a.ctx a.gen x.gen side a.off a.size
  let s := match q with
    | some q =>
      if cls ≠ 0x0D then s
      else (if x.isOpen ∨ x.gen ≠ 0 then s.postCtx x.ctx 0x0D code 2 (srcOf 1 q) (pay 0) else s).bump (rAryWinRefused q) 1
    | none => s
  let s := s.refusedAt a (pay 1) cls code a.src.isNone
  let s := s.winDone a a.src.isNone
  match a.src with
  | none => s.digestRefused a
  | some _ => s.fabRespond a 0x83 0 (cls * 256 + code) 0 []

/-- R423: whether a pair has performed a sequence number, or it lies too far below. -/
def FabPair.seen (x : FabPair) (n : Nat) : Bool :=
  let d := (x.high + 2 ^ 32 - n) % 2 ^ 32
  if 2 ^ 31 ≤ d then false
  else if d = 0 then true
  else if 1024 < d then true
  else x.below.testBit (d - 1)

/-- R423: a pair records a performed sequence number. -/
def FabPair.record (x : FabPair) (n now : Nat) : FabPair :=
  let up := (n + 2 ^ 32 - x.high) % 2 ^ 32
  if up < 2 ^ 31 then { x with high := n, below := ((x.below * 2 + 1) * 2 ^ (up - 1)) % 2 ^ 1024, time := now }
  else { x with below := x.below ||| 2 ^ (2 ^ 32 - up - 1), time := now }

/-- R423: the pair an access from the fabric belongs to. -/
def State.pairOf (s : State) (a : WinAcc) : Option FabPair :=
  s.fab.pairs.find? (fun x => x.array == a.array && some x.node == a.src && x.ctx == a.ctx)

/-- R423: record a write from the fabric as performed. -/
def State.pairRecord (s : State) (a : WinAcc) : State :=
  match a.src with
  | none => s
  | some node =>
    let n := s.now.toNat
    { s with fab := { s.fab with pairs := match s.pairOf a with
        | some x => s.fab.pairs.map (fun y => if y = x then x.record a.seqno n else y)
        | none => s.fab.pairs ++ [⟨a.array, node, a.ctx, a.seqno, 0, n⟩] } }

/-- R250: the byte ranges of n bytes at an address that lie in words of a poison mask. -/
def maskRanges (va n mask : Nat) : List (Nat × Nat) :=
  ((List.range (wordsOf va n).length).filter (fun i => mask.testBit i)).map (fun i =>
    let w := (va / 8 + i) * 8
    (Nat.max va w, Nat.min (w + 8) (va + n) - Nat.max va w))

/-- R269, R422: the data of a window read return to the reader; mask: its poisoned words. -/
def State.winReturn (s : State) (a : WinAcc) (bs : List Byte) (mask : Nat) : State :=
  let at_ := a.ctx * 2 ^ 48 + a.pa
  let data := (List.range bs.length).foldl (fun t i => tblPut t (at_ + i) (nth 0#8 bs i)) s.memst.winData
  let s := { s with memst := { s.memst with winData := data } }
  let s := (wordsOf at_ bs.length).foldl (fun s w => s.setCheck w .clean) s
  ((maskRanges at_ a.size mask).foldl (fun s r => s.poison r.1 r.2) s).winDone a false

/-- R269: an admitted access is performed: the bytes move, the producer counter and the signal follow a write. -/
def State.winPerform (s : State) (q : Nat) (x : Window) (a : WinAcc) : State :=
  let base := leAt x.record 0 8
  let acc : Accessor := ⟨x.ctx, some a.array, if a.write then .write else .read, 3⟩
  let va := base + a.off
  match s.firstFault acc [(va, a.size)] with
  | some (v, t) =>
    let s := { s with memst := { s.memst with winq := s.memst.winq.map (fun y => if y = a then { a with admitted := true } else y) } }
    s.stallTr x.ctx 9 q v acc.kind t
  | none =>
    let ph := s.physRanges acc [(va, a.size)]
    let bad := decide (a.poison ≠ 0)
    if a.write then
      if ph.any (fun r => s.heldHit r.1 r.2) then s.winRefuse (some q) x a 0x02 0x08
      else
        let s := (ph.foldl (fun (st : State × List Byte) r => (st.1.store (some x.ctx) r.1 (st.2.take r.2), st.2.drop r.2)) (s, a.data)).1
        let s := if bad then
            let s := (s.physRanges acc (maskRanges va a.size a.poison)).foldl (fun s r => s.poison r.1 r.2) s
            s.postCtx x.ctx 0x0D 8 2 (srcOf 1 q) (winPayload a.window a.array (a.src.getD 0) a.ctx a.gen x.gen 0 a.off a.size)
          else s
        let fl := leAt x.record 48 1
        let s := if fl.testBit 1 then s.setWindow q a.window { s.window q a.window with counter := ((s.window q a.window).counter + 1) % 2 ^ 32 } else s
        let s := if fl.testBit 2 then s.addCtrl q (leAt x.record 49 1) 1 (sigSrc 4 false (a.array * 65536)) else s
        ((s.pairRecord a).winDone a false).fabRespond a 0x81 0 0 0 []
    else if ph.any (fun r => s.uncommittedHit r.1 r.2) then
      { s with memst := { s.memst with winq := s.memst.winq.map (fun y => if y = a then { a with admitted := true } else y) } }
    else
      let s := s.readRanges (some x.ctx) ph
      let bs := ph.flatMap (fun r => s.rdBytes r.1 r.2)
      let mask := packBits (wordsOf va a.size).length (fun i =>
        (s.physRanges acc (maskRanges va a.size (2 ^ i))).any (fun r => s.badIn r.1 r.2))
      match a.src with
      | some _ => (s.winDone a false).fabRespond a 0x82 0 0 (unitMask a.off a.size mask) bs
      | none => s.winReturn a bs mask

/-- R269, R423: an access reaches its owner's window unit. -/
def State.winArrive (s : State) (a : WinAcc) : State :=
  match s.physOf a.array with
  | none => s.winRefuse none Window.shut a 0x0D 1
  | some q =>
    let x := s.window q a.window
    if a.admitted then s.winPerform q x a
    else if a.write && a.src.isSome && (match s.pairOf a with | some y => y.seen a.seqno | none => false) then
      let s := (s.winDone a false).bump rFabDups 1
      let s := s.postCtx x.ctx 0x06 0x0B 0 (s.portSource 0)
        (fabPayload 0 0 (a.src.getD 0) a.seqno a.tag (a.window + a.array * 64) 1)
      s.fabRespond a 0x81 2 1 0 []
    else if a.write && a.src.isSome && (s.pairOf a).isNone && decide (256 ≤ (s.fab.pairs.filter (fun y => y.array == a.array)).length) then s
    else match winCheck x a with
      | some code => s.winRefuse (some q) x a 0x0D code
      | none => s.winPerform q x a

/-- R265, R275: whether an access waits by credit: the window unit of its array is stalled on a translation fault, or the array is being
remapped. -/
def State.winHeld (s : State) (a : WinAcc) : Bool :=
  match s.physOf a.array with
  | some q => s.brp.remaps.any (fun r => r.src == q) || s.memst.stalled.any (fun x => x.unit == 9 && x.array == q)
  | none => false

/-- R252: whether an earlier access of the same source to the same array has not arrived yet. -/
def State.winBehind (s : State) (before : List WinAcc) (a : WinAcc) : Bool :=
  before.any (fun b => b.src == a.src && (b.src.isSome || b.p == a.p) && b.array == a.array && !b.admitted && !s.isRemote b && !s.gateHeld b)

/-- R252, R269: access n in flight arrives at the window unit of an array of this device, in the order of its source. -/
def execWindowAccessArrival (n : Nat) (s : State) : Out :=
  .next (match s.memst.winq[n]? with
    | none => s
    | some a => if s.isRemote a || s.gateHeld a || s.winHeld a || s.winBehind (s.memst.winq.take n) a then s else s.winArrive a)

/-- R267: an array reset takes every window back to generation 0; a context reset closes the context's windows. -/
def State.closeWindowsOf (s : State) (ctx : Nat) : State :=
  { s with arrays := s.arrays.map (fun (e : Nat × ArrayState) =>
      (e.1, { e.2 with wins := e.2.wins.map (fun (w : Nat × Window) =>
        if w.2.ctx = ctx ∧ w.2.isOpen then (w.1, { w.2 with isOpen := false }) else w) })) }

end Sys2Proof.Machine
end

