-- ==== Sys2Proof/Machine/MemEvents.lean ====
section
/-!
DEFINITION. Events of memory and translation (07_memory R245 to R248, R252 to R254, R261 to R265, R274): HBM lane repair,
trunk links, scrub, invalidation, walks, resumption of stalled accesses, and ATS.
-/
namespace Sys2Proof.Machine

/-- Change the history of a pseudo-channel. -/
def State.modPc (s : State) (pc : Nat) (f : HbmPc → HbmPc) : State :=
  { s with memst := { s.memst with hbm := tblPut s.memst.hbm pc (f (tblGet HbmPc.reset s.memst.hbm pc)) } }

/-- R245: a lane of a channel passes its error threshold: the channel holds its requests while the lane is repaired. -/
def execHbmLaneRepair (site : SiteId) (pc : Fin 64) (s : State) : Out :=
  .next (s.modPc (64 * site.val + pc.val) (fun h => { h with repairing := true }))

/-- R245, R490: the repair of a lane finishes: it is recorded, and code 0x40 is posted. -/
def execHbmLaneRepairComplete (site : SiteId) (x : HbmLane) (s : State) : Out :=
  .next (
    let k := 64 * site.val + x.pc.val
    if (tblGet HbmPc.reset s.memst.hbm k).repairing then
      ((s.modPc k (fun h => { h with repairing := false })).logAdd 0x06 6 0 [site.val, x.pc.val / 2, x.lane.toNat]).postDev 0x01 0x40 1 (srcOf 5 site.val)
        (payloadOf [(25, 1, 2), (26, 2, x.pc.val), (28, 4, 1)])
    else s)

/-- Whether an address lies in a medium scrub reads: 0 slates, 1 edge stores, 2 HBM. -/
def State.inMedium (s : State) (m pa : Nat) : Bool :=
  match s.place pa with
  | .slate .. => m == 0
  | .edge .. => m == 1
  | .hbm => m == 2
  | _ => false

/-- R272, R274: scrub finds a word: corrected, written back and reported as any corrected error, or poisoned in place with code 0x13. -/
def State.scrubWord (s : State) (pa : Nat) : State :=
  match s.checkAt pa with
  | .uncorrectable syn =>
    ((s.setCheck pa .poisoned).bumpMem pa true).postDev 0x01 0x13 2 (s.memSource pa) (s.memPayload pa syn 1)
  | _ => s.readCheck none pa

/-- R245: what a pass over HBM does beyond its words: the error-check-and-scrub counts of the stacks enter the lifetime record, and rows that
the controller has repaired softly are recorded (notes/assumptions/116). -/
def State.scrubStacks (s : State) (ecs : List (SiteId × Nat)) (rows : List (SiteId × Fin 64 × Word)) : State :=
  let s := ecs.foldl (fun s e => s.lifeCount (634 + e.1.val) e.2) s
  rows.foldl (fun s r => s.logAdd 0x07 6 0 ([r.1.val, r.2.1.val, 0, 0] ++ le32 r.2.2.toNat ++ [0])) s

/-- R245, R274: a scrub pass over a medium. -/
def execScrubPass (m : Fin 3) (f : ScrubFinds) (s : State) : Out :=
  .next (
    let s := if m.val = 2 then s.scrubStacks f.ecs f.rows else s
    let hits := f.upsets.filter (fun u => s.inMedium m.val u.1 && s.checkAt u.1 == .clean)
    let early := hits.filter (fun u => u.2.2)
    let mark (s : State) (u : Nat × BitVec 8 × Bool) : State := s.setCheck u.1 (Check.ofSyn u.2.1.toNat)
    let s := early.foldl mark s
    let ws := (s.memst.check.map (fun c => c.1 * 8)).filter (fun w => s.inMedium m.val w)
    let s := ws.foldl (fun s w => s.scrubWord w) s
    (hits.filter (fun u => !u.2.2)).foldl mark s)

/-- R263: whether a cached leaf, table entry or host translation falls under an invalidation. -/
def InvReq.hits (r : InvReq) (ctx va size : Nat) : Bool :=
  (r.allCtx || r.ctx == ctx) && (r.allVa || (decide (va < r.va + 4096 * Nat.max 1 r.pages) && decide (r.va < va + size)))

/-- R263, R268: whether a cached entry falls under an invalidation; an aperture entry does with its context. -/
def InvReq.drops (r : InvReq) (t : TlbEntry) : Bool := if t.kind = .aperture then r.allCtx || r.ctx == t.ctx else r.hits t.ctx t.va t.size

/-- R263: a write of MMU_INV with go. -/
def State.mmuInv (s : State) (v : Nat) : State :=
  let r : InvReq := ⟨v.testBit 30, v.testBit 29, bitsOf v 8 0, s.reg64 rMmuInvVa % 2 ^ 48 / 4096 * 4096, (s.reg rMmuInvPages).toNat⟩
  let fnOf (h fn : Nat) : Bool := r.allCtx || (s.boundPort r.ctx == some h && s.fld (rDspCtxFunc r.ctx) 8 0 == fn)
  let m := { s.memst with
    inv := some r
    tlb := s.memst.tlb.map (fun (e : Nat × List TlbEntry) => (e.1, e.2.filter (fun t => !r.drops t)))
    atc := s.memst.atc.map (fun (e : Nat × List (Nat × Nat)) => (e.1, e.2.filter (fun x => !fnOf e.1 x.1))) }
  ({ s with memst := m }).setFlag rMmuInvStatus 0 true

/-- R263: whether every access translated before an invalidation has been performed: posted stores, transfers that do not stand on a
translation fault, window accesses, and requests at a host port. -/
def State.invDone (s : State) (r : InvReq) : Bool :=
  (List.range 18).all (fun p =>
    let a := s.arr p
    !((r.allCtx || r.ctx == a.ctrl.ctx) && (!a.ctrl.stores.isEmpty || (!a.dmas.isEmpty && !s.unitStalled p 7)))) &&
  s.memst.winq.all (fun a => !(r.allCtx || r.ctx == a.ctx)) &&
  (List.range 8).all (fun h => ((s.hport h).waiting ++ (s.hport h).atsWait.filter (fun w => !w.refused)).all (fun w =>
    !(r.allCtx || r.ctx == w.ctx)))

/-- R263: the invalidation completes. -/
def execMmuInvComplete (s : State) : Out :=
  .next (match s.memst.inv with
    | none => s
    | some r => if s.invDone r then ({ s with memst := { s.memst with inv := none } }).setFlag rMmuInvStatus 0 false else s)

/-- R257: the entries that a walk reads, as (level, address, entry), up to a leaf, or to an entry that ends it. -/
def State.walkPath (s : State) (va : Nat) : Nat → Nat → List (Nat × Nat × Nat)
  | table, level =>
    let ea := table + 8 * bitsOf va (12 + 9 * level + 8) (12 + 9 * level)
    let e := s.rdLe ea 8
    (level, ea, e) :: (if e.testBit 0 && !pteMalformed level e && e.testBit 1 then
        match level with
        | 0 => []
        | l + 1 => s.walkPath va (bitsOf e 47 12 * 0x1000) l
      else [])

/-- R262: put an entry into a cache of a physical array. -/
def State.cacheIn (s : State) (p c cap : Nat) (t : TlbEntry) : State :=
  { s with memst := { s.memst with tlb := tblPut s.memst.tlb (5 * p + c) ((t :: (s.cache p c).filter (fun x => x != t)).take cap) } }

/-- R262: the entries of cache c. -/
def cacheSize (c : Nat) : Nat := nth 0 [32, 64, 64, 4096, 512] c

/-- R262, R268: what a walk that has reached a leaf puts into the caches of its array: table entries, the leaf in the micro-cache of its unit
and in the array's, and the aperture entry that the leaf leads to. -/
def State.cacheWalk (s : State) (p m ctx va : Nat) (path : List (Nat × Nat × Nat)) (level e : Nat) : State :=
  let g := s.ctxGen ctx
  let s := path.foldl (fun s x => if x.1 ≤ level then s else
    let size := 0x1000 * 512 ^ x.1
    s.cacheIn p 4 512 ⟨.table, ctx, g, va / size * size, size, x.2.2⟩) s
  let t : TlbEntry := ⟨.leaf, ctx, g, va / leafSize level * leafSize level, leafSize level, e⟩
  let s := (if m < 3 then s.cacheIn p m (cacheSize m) t else s).cacheIn p 3 4096 t
  match leafAddr ⟨ctx, s.logOf p, .read, 3⟩ level e va 0 with
  | .ok pa => (match s.place pa with
    | .aperture i _ => s.cacheIn p 3 4096 ⟨.aperture, ctx, g, i, 1, s.apertureMem ctx i⟩
    | _ => s)
  | _ => s

/-- R257, R261, R262: a walk finishes for an address: the words it read are checked (R232), and its leaf is cached. A walk that meets a fault caches nothing; the access that needs it takes the fault. -/
def execPageWalkComplete (w : WalkFor) (va : BitVec 48) (s : State) : Out :=
  .next (
    let p := w.array
    let m := w.micro
    let c := w.ctx
    let va := va.toNat
    match s.rootOf c.val with
    | none => s
    | some root =>
      let tries := [AccKind.read, AccKind.write, AccKind.fetch].map (fun k => s.walk ⟨c.val, s.logOf p.val, k, 3⟩ va root 3)
      let path := s.walkPath va root 3
      let s := path.foldl (fun s x => if s.walkAllowed c.val x.2.1 then s.readChecks (some c.val) x.2.1 8 else s) s
      if tries.all (fun t => match t with | .ok _ => false | .fault code .. => code != 2 && code != 6) then s
      else match path.getLast? with
        | some (level, _, e) =>
          if !e.testBit 0 || pteMalformed level e || e.testBit 1 then s else s.cacheWalk p.val m.val c.val va path level e
        | none => s)

/-- Stalled accesses of a context. -/
def State.stalledOf (s : State) (c : Nat) : List Stalled := s.memst.stalled.filter (fun x => x.ctx == c)

/-- R264, R265: requests of a context whose translation the host has refused leave their ports: to be sent again, or dropped. -/
def State.takeRefused (s : State) (c : Nat) (again : Bool) : State :=
  (List.range 8).foldl (fun s h =>
    let x := s.hport h
    let go := x.atsWait.filter (fun r => r.refused && r.ctx == c)
    if go.isEmpty then s
    else
      let s := s.setHport h { x with atsWait := x.atsWait.filter (fun r => !(r.refused && r.ctx == c)) }
      if again then go.foldl (fun s r => s.hostReq h r) s else s) s

/-- R265: the stalled accesses of a context are let go: units access again. -/
def State.unstall (s : State) (c : Nat) : State :=
  let l := s.stalledOf c
  let s := { s with memst := { s.memst with stalled := s.memst.stalled.filter (fun x => x.ctx != c) } }
  let s := l.foldl (fun s x => if x.unit ≤ 1 then s.modCtrl x.array (fun k =>
    { k with blocked := match k.blocked with | .stall _ => .no | b => b }) else s) s
  (s.markStalled c false)

/-- R265, R565: MMU_FAULT_RESUME with retry. -/
def State.resumeRetry (s : State) (c : Nat) : State :=
  let ring := (s.ring c).blocked
  if (s.stalledOf c).isEmpty && !ring then s
  else
    let s := (s.unstall c).takeRefused c true
    let s := if ring then (s.setRing c { s.ring c with blocked := false }).ringRoom c else s
    (s.ctxArrays c).foldl State.advanceQ s

/-- R265: MMU_FAULT_RESUME with abort: the context is faulted. -/
def State.resumeAbort (s : State) (c : Nat) : State :=
  let ring := (s.ring c).blocked
  match s.stalledOf c with
  | x :: _ => ((s.unstall c).takeRefused c false).ctxFault c 0x02 x.code
  | [] =>
    if ring then
      let code := match s.ringAddr c (s.reg (ringWr c)).toNat with | .fault code .. => code | .ok _ => 1
      let g := s.ring c
      let n := g.waiting.length
      let s := s.setRing c { g with blocked := false, waiting := [], lost := g.lost + n }
      let s := (s.bump (rCpEvtLost c) n).setFlag (rCpEvtStatus c) 1 true
      (s.markStalled c false).ctxFault c 0x02 code
    else s

/-- R264, R275: a host invalidation request: the translations go, and it completes. An access that has a translation leaves its port in the
step that finds it (State.hostReq), so every access that used one has been sent before. -/
def execAtsInvalidation (h : HostPortId) (fn page pages : Nat) (s : State) : Out :=
  .next (
    let s := { s with memst := { s.memst with atc := tblPut s.memst.atc h.val ((tblGet [] s.memst.atc h.val).filter (fun e =>
      !(e.1 == fn && decide (page ≤ e.2) && decide (e.2 < page + pages)))) } }
    (s.bump (rHstAtcInv h.val) 1).emit "ats" [h.val, fn, page, pages, 1])

/-- R264, R265: the host answers a translation request: the translation is cached and the requests that wait for it leave, or each context
whose request waits for it has an access stalled with code 0x02. -/
def execAtsTranslationCompletion (h : HostPortId) (fn page : Nat) (ok : Bool) (s : State) : Out :=
  .next (
    let x := s.hport h.val
    if !x.atsOut.contains (fn, page) then s
    else
      let hit (r : HostReq) : Bool := !r.refused && r.fn == fn && r.page == page
      let go := x.atsWait.filter hit
      let s := s.setHport h.val { x with
        atsOut := x.atsOut.filter (fun e => e != (fn, page))
        atsWait := if ok then x.atsWait.filter (fun r => !hit r)
          else x.atsWait.map (fun r => if hit r then { r with refused := true } else r) }
      if ok then
        let s := { s with memst := { s.memst with atc := tblPut s.memst.atc h.val (((fn, page) :: tblGet [] s.memst.atc h.val).take 8192) } }
        go.foldl (fun s r => s.hostReq h.val r) s
      else (go.map (fun r => r.ctx)).eraseDups.foldl (fun s c =>
        match go.find? (fun r => r.ctx == c) with
        | some r => s.stallUnit c 8 h.val r.va .write 2 0xFF (hostWindow h.val (nth 0 r.msg 2)) 0
        | none => s) s)

end Sys2Proof.Machine
end

