-- ==== Sys2Proof/Machine/FwOps.lean ====
section
/-!
DEFINITION. The boot pointer, the firmware slots and images (15_management R531 to R535, R546).
-/
namespace Sys2Proof.Machine

/-- R532: the boot pointer record in force: the valid one with the higher sequence number. -/
def State.bootRec (s : State) : BootRec :=
  match s.mgt.recA, s.mgt.recB with
  | some a, some b => if a.seq < b.seq then b else a
  | some a, none => a
  | none, some b => b
  | none, none => BootRec.fromTest

/-- R532: the 64 bytes of a boot pointer record. -/
def BootRec.bytes (r : BootRec) : List Byte :=
  let b := bytesOf 4 r.seq ++ [BitVec.ofNat 8 r.active, BitVec.ofNat 8 r.trial, BitVec.ofNat 8 r.trials, BitVec.ofNat 8 r.stateA, BitVec.ofNat 8 r.stateB]
    ++ bytesOf 3 0 ++ bytesOf 4 r.minSvn ++ bytesOf 4 r.verA ++ bytesOf 4 r.verB ++ bytesOf 4 r.svnA ++ bytesOf 4 r.svnB ++ bytesOf 28 0
  b ++ bytesOf 4 (crc32c b)

/-- R532: the state of a slot. -/
def BootRec.slot (r : BootRec) (n : Nat) : Nat := if n = 0 then r.stateA else r.stateB
/-- The version of a slot's image. -/
def BootRec.ver (r : BootRec) (n : Nat) : Nat := if n = 0 then r.verA else r.verB
/-- The security version of a slot's image. -/
def BootRec.svn (r : BootRec) (n : Nat) : Nat := if n = 0 then r.svnA else r.svnB
/-- A slot in a state. -/
def BootRec.setSlot (r : BootRec) (n x : Nat) : BootRec := if n = 0 then { r with stateA := x } else { r with stateB := x }
/-- A slot's image version and security version. -/
def BootRec.setImage (r : BootRec) (n ver svn : Nat) : BootRec :=
  if n = 0 then { r with verA := ver, svnA := svn } else { r with verB := ver, svnB := svn }

/-- R547: MGT_STATUS and the version registers show the boot pointer and the update. -/
def State.showBoot (s : State) : State :=
  let r := s.bootRec
  let s := ((s.setFld rMgtStatus 26 25 r.trials).setFld rMgtStatus 19 17 r.stateA).setFld rMgtStatus 16 14 r.stateB
  let s := (s.setFlag rMgtStatus 24 s.mgt.update.isSome).setFld rMgtStatus 23 20
    (match s.mgt.update with | some u => u.stage | none => if r.trial ≠ 255 ∧ !s.flag rMgtStatus 27 then 4 else 0)
  let s := (s.setReg rMgtFwVerA (BitVec.ofNat 32 r.verA)).setReg rMgtFwVerB (BitVec.ofNat 32 r.verB)
  (s.setFld rMgtFwSvn 31 16 r.minSvn).setFld rMgtFwSvn 15 0 s.mgt.runSvn

/-- R532, R541: a change of the boot pointer: a whole new record, with the next sequence number, takes the place of the older or
invalid one. -/
def State.bootWrite (s : State) (r : BootRec) : State :=
  let r := { r with seq := s.bootRec.seq + 1 }
  let intoA := match s.mgt.recA, s.mgt.recB with
    | none, _ => true
    | _, none => false
    | some a, some b => decide (a.seq < b.seq)
  let s := if intoA then { s with mgt := { s.mgt with recA := some r } } else { s with mgt := { s.mgt with recB := some r } }
  (s.lifeAdd 0x04 r.bytes).showBoot

/-- R546: a firmware event. -/
def State.fwEvent (s : State) (code sev slot detail : Nat) : State :=
  let r := s.bootRec
  s.postDev 0x0C code sev (srcOf 7 0)
    (payloadOf [(16, 1, slot), (17, 1, detail), (20, 4, r.ver slot), (24, 4, r.svn slot), (28, 1, r.trials), (32, 4, r.seq)])

/-- R533: n bytes of a slot's image as a number. -/
def State.imageAt (s : State) (slot off n : Nat) : Nat :=
  ofBytes ((List.range n).map (fun i => tblGet 0#8 (tblGet [] s.mgt.slots slot) (off + i)))

/-- R533: the component with an identifier in a slot's image: version, offset, length. -/
def State.compIn (s : State) (slot id : Nat) : Option (Nat × Nat × Nat) :=
  (((List.range (Nat.min 8 (s.imageAt slot 14 2))).find? (fun i => s.imageAt slot (24 + 32 * i) 2 == id)).map
    (fun i => (s.imageAt slot (26 + 32 * i) 4, s.imageAt slot (30 + 32 * i) 4, s.imageAt slot (34 + 32 * i) 4)))

/-- R533: the version of a component of a slot; one that the image lacks was taken over from the active slot at download. -/
def State.compVersion (s : State) (slot id : Nat) : Nat :=
  match s.compIn slot id with
  | some x => x.1
  | none => tblGet 0 s.mgt.taken (8 * slot + id)

/-- R533: a downloaded image takes the components 4 and 5 that it lacks over from the active slot. -/
def State.takeOver (s : State) (slot : Nat) : State :=
  { s with mgt := { s.mgt with taken := [4, 5].foldl (fun t id => tblPut t (8 * slot + id) (s.compVersion (1 - slot) id)) s.mgt.taken } }

/-- R534: what verification of a slot's image finds: 0 for a pass, else the detail of code 0x04. The signatures (root key, certificate,
image) and the component hashes verify as sig and hash say. -/
def State.imageDetail (s : State) (slot : Nat) (sig hash : Bool) : Nat :=
  let len := s.imageAt slot 16 4
  let n := s.imageAt slot 14 2
  let comps := (List.range (Nat.min 8 n)).map (fun i => (s.imageAt slot (30 + 32 * i) 4, s.imageAt slot (34 + 32 * i) 4))
  if s.imageAt slot 0 4 ≠ 0x4F4C5558 ∨ len < 4096 ∨ 20 * 2 ^ 20 < len then 6
  else if s.fuses.revoked.testBit (s.imageAt slot 13 1 % 16) then 3
  else if !sig then 1
  else if n = 0 ∨ 8 < n ∨ [1, 2, 3].any (fun id => (s.compIn slot id).isNone)
      ∨ comps.any (fun c => c.1 % 4096 != 0 || decide (len < c.1 + c.2)) then 4
  else if !hash then 5
  else if s.imageAt slot 8 4 < s.bootRec.minSvn then 2
  else if s.compVersion slot 4 % 65536 < s.fld rChkPyrVersion 31 16 then 7
  else 0

/-- R535: an update in progress is cancelled: its slot is emptied. -/
def State.updateCancel (s : State) : State :=
  match s.mgt.update with
  | none => s
  | some u =>
    let s := { s with mgt := { s.mgt with update := none } }
    (s.bootWrite (s.bootRec.setSlot u.slot 0)).fwEvent 0x0A 0 u.slot 0

end Sys2Proof.Machine
end

