-- ==== Sys2Proof/Machine/RegOps.lean ====
section
/-!
DEFINITION. Register writes (00_scope R7 to R9; 15_management R516, R529, R530, R545): which requester may write which field,
what a write leaves, and the events of a drop.
-/
namespace Sys2Proof.Machine

/-- R516: whether a requester owns the platform. The device's own writes are no requests. -/
def State.isOwner (s : State) (req : Requester) : Bool :=
  match req with
  | .internal => true
  | r => s.flag rMgtOwner 31 && s.fld rMgtOwner 30 28 == reqKind r && s.fld rMgtOwner 27 24 == reqPath r
      && s.fld rMgtOwner 15 0 == reqNode r

/-- R525, R528, R535: ownership ends: the owner, its ID, its lease and its update go. -/
def State.ownerClear (s : State) : State :=
  let s := ((s.setReg rMgtOwner 0#32).setReg64 rMgtOwnerId 0).setReg rMgtLease 0#32
  { s with mgt := { s.mgt with lease := 0, hand := none } }.updateCancel

/-- R541: an ownership change enters the lifetime record. cause: 0 claimed, 1 displaced, 2 handed over, 3 released, 4 lapsed, 5 ended by
R528. -/
def State.ownerEntry (s : State) (path : Nat × Nat × Nat) (prio id cause : Nat) : State :=
  s.lifeAdd 0x05 (bytesOf 1 path.1 ++ bytesOf 1 path.2.1 ++ bytesOf 2 path.2.2 ++ bytesOf 4 prio ++ bytesOf 8 id ++ bytesOf 4 cause)

/-- R528: ownership of a path ends. -/
def State.ownerEnds (s : State) (kind path : Nat) : State :=
  if s.flag rMgtOwner 31 ∧ s.fld rMgtOwner 30 28 = kind ∧ s.fld rMgtOwner 27 24 = path then s.ownerClear.ownerEntry (0, 0, 0) 0 0 5 else s

/-- The context whose register lies at an offset. -/
def regCtx (off : Nat) : Option Nat :=
  match findReg off with
  | some r => (match r.dims with | (512, st) :: _ => some ((off - r.base) / st) | _ => none)
  | none => none

/-- R405, R516: whether a requester's path reaches an offset: a function reaches the page of a context bound to it, a physical
function BAR0 and every context page, every other path BAR0. -/
def State.reaches (s : State) (req : Requester) (off : Nat) : Bool :=
  match req with
  | .internal => true
  | .vf p f =>
    decide (0x4000000 ≤ off) && (let c := (off - 0x4000000) / 0x10000
      decide (c < 512) && s.flag (rDspCtxFunc c) 31 && s.fld (rDspCtxFunc c) 18 16 == p && s.fld (rDspCtxFunc c) 8 0 == f)
  | .pf _ => decide (off < 0x6000000)
  | _ => decide (off < 0x4000000)

/-- R545: the event of a dropped write; a drop that concerns a context's register also goes to that context's ring. -/
def State.regDrop (s : State) (req : Requester) (off code v : Nat) : State :=
  let pl := payloadOf [(16, 4, if off < 0x4000000 then off else 0xFFFFFFFF), (20, 1, reqKind req), (21, 1, reqPath req),
    (22, 2, reqNode req), (24, 8, v)]
  match regCtx off with
  | some c => if s.fld (rDspCtxCtl c) 3 0 = 0 then s.postDev 0x0B code 0 (srcOf 7 0) pl else s.post (some c) true 0x0B code 0 (srcOf 7 0) pl
  | none => s.postDev 0x0B code 0 (srcOf 7 0) pl

/-- What a write does to a register: the new value, the bits that took part, and whether a field was dropped for its lock or
for its owner. -/
structure Written where
  value : Nat
  acted : Nat
  lockDrop : Bool
  ownerDrop : Bool
  deriving DecidableEq, Repr

/-- R8, R9, R530: one field of a write of v over a register's old value. -/
def writeField (old v : Nat) (owner locked : Bool) (w : Written) (f : FieldSpec) : Written :=
  let x := bitsOf v f.hi f.lo
  let o := bitsOf old f.hi f.lo
  let put (y : Nat) : Written := { w with value := setBits w.value f.hi f.lo y, acted := setBits w.acted f.hi f.lo x }
  let mayWrite := owner || !f.plat
  match f.ty with
  | .ro => w
  | .rc => w
  | .rw => if mayWrite then put x else { w with ownerDrop := w.ownerDrop || x != o }
  | .rwl => if !mayWrite then { w with ownerDrop := w.ownerDrop || x != o }
      else if locked then { w with lockDrop := w.lockDrop || x != o }
      else put x
  | .w1c => if mayWrite then put (o &&& (o ^^^ x)) else { w with ownerDrop := w.ownerDrop || x != 0 }
  | .w1s => if mayWrite then put (o ||| x) else { w with ownerDrop := w.ownerDrop || x != 0 }
  | .wo => if mayWrite then { w with acted := setBits w.acted f.hi f.lo x } else { w with ownerDrop := w.ownerDrop || x != 0 }

/-- R9: whether a register's lock bit is 1. -/
def isLocked (fs : List FieldSpec) (old : Nat) : Bool := fs.any (fun f => f.ty == .w1s && bitsOf old f.hi f.lo != 0)

/-- What a write of v does to the register at an offset. -/
def State.written (s : State) (req : Requester) (off v : Nat) : Written :=
  let old := (s.reg off).toNat
  match findReg off with
  | none => ⟨old, 0, false, false⟩
  | some r => r.fields.foldl (writeField old v (s.isOwner req) (isLocked r.fields old)) ⟨old, 0, false, false⟩

/-- What a register does beyond its fields. veto names the code of class 0x0B with which a whole write is dropped, from the
state before it, the value it would leave and the bits that take part; keep gives the value that stands and the code of an
event for fields dropped; act is the write's effect on the state that holds the value, given the value before. -/
structure RegEffect where
  veto : State → Requester → Nat → Nat → Option Nat
  keep : State → Nat → Nat × Option Nat
  act : State → Requester → Nat → Nat → State

/-- A register with no effect of its own. -/
def RegEffect.plain : RegEffect := ⟨fun _ _ _ _ => none, fun _ v => (v, none), fun s _ _ _ => s⟩

/-- R13: the latches of pairs that a reset covers are empty again. -/
def State.dropLatches (s : State) (hit : Nat → Bool) : State :=
  { s with rdLatch := s.rdLatch.filter (fun (e : Nat × Word) => !hit (e.1 % 2 ^ 27))
           wrLatch := s.wrLatch.filter (fun (e : Nat × Word) => !hit (e.1 % 2 ^ 27)) }

/-- R9, R545: the event of fields dropped: for their owner before their lock. -/
def State.dropNote (s : State) (req : Requester) (off v : Nat) (w : Written) : State × Option Nat :=
  if w.ownerDrop then (s.regDrop req off 2 v, some 2) else if w.lockDrop then (s.regDrop req off 1 v, some 1) else (s, none)

/-- R7 to R9, R530, R545: a write that would leave w over an old value is performed with its effect, or dropped; put stores the value.
The code is that of the first event of class 0x0B. -/
def State.commit (s : State) (req : Requester) (off v old : Nat) (w : Written) (put : State → Nat → State) (e : RegEffect) : State × Option Nat :=
  if w.acted = 0 ∧ w.value = old ∧ v ≠ old then s.dropNote req off v w
  else match e.veto s req w.value w.acted with
    | some code => (s.regDrop req off code v, some code)
    | none =>
      let k := e.keep s w.value
      let s := e.act (put s k.1) req old w.acted
      match k.2 with
      | some code => let n := (s.regDrop req off code v).dropNote req off v w
        (n.1, some code)
      | none => s.dropNote req off v w

/-- R405, R503: whether a write at an offset is taken at all: its path reaches the register, and no device reset is in progress. -/
def State.takesWrite (s : State) (req : Requester) (off : Nat) : Bool := s.reaches req off && s.fld rBrpStatus 27 25 != 3

/-- R7 to R9, R530, R545: a write to a 32-bit register with its effect, and the code of its first event. -/
def State.regWriteR (s : State) (req : Requester) (off v : Nat) (e : RegEffect) : State × Option Nat :=
  if s.takesWrite req off then
    s.commit req off v (s.reg off).toNat (s.written req off v) (fun s x => s.setReg off (BitVec.ofNat 32 x)) e
  else (s, none)

/-- A write to a 32-bit register. -/
def State.regWrite (s : State) (req : Requester) (off v : Nat) (e : RegEffect) : State := (s.regWriteR req off v e).1

/-- What a write of 64 bits does to a pair. -/
def State.writtenPair (s : State) (req : Requester) (lo v : Nat) : Written :=
  let a := s.written req lo (v % 2 ^ 32)
  let b := s.written req (lo + 4) (v / 2 ^ 32)
  ⟨a.value + 2 ^ 32 * b.value, a.acted + 2 ^ 32 * b.acted, a.lockDrop || b.lockDrop, a.ownerDrop || b.ownerDrop⟩

/-- R13: a pair, _LO at lo, takes all 64 bits at once. home: where the pair is kept, itself unless it is another name of it. -/
def State.pairWriteR (s : State) (req : Requester) (lo home v : Nat) (e : RegEffect) : State × Option Nat :=
  if s.takesWrite req lo then s.commit req lo v (s.reg64 home) (s.writtenPair req home v) (fun s x => s.setReg64 home x) e else (s, none)

end Sys2Proof.Machine
end

