-- ==== Sys2Proof/Machine/SyncEvents.lean ====
section
/-!
DEFINITION. Signals that arrive or are diverted (09_sync_time R292, R296, R300, R304) and the Flint halt (R305 to R308).
-/
namespace Sys2Proof.Machine

/-- The n-th signal in flight, and those with it that a combining tree delivers as one arrival: same target, context and source
array (R300). -/
def State.signalsAt (s : State) (n : Nat) (also : List Nat) : Option (Signal × List Signal) :=
  match s.signals[n]? with
  | none => none
  | some x =>
    let more := (also.filter (fun i => i != n)).eraseDups.filterMap (fun i => s.signals[i]?)
    some (x, x :: more.filter (fun y => y.target == x.target && y.ctx == x.ctx && y.src % 2 ^ 20 / 65536 == x.src % 2 ^ 20 / 65536))

/-- R297: a signal may not pass an earlier one of its source to the same counter. -/
def State.signalFirst (s : State) (n : Nat) (x : Signal) : Bool :=
  !(s.signals.take n).any (fun y => y.src == x.src && y.target == x.target)

/-- R26, R296: a signal for a logical array that is being remapped stays at the field signal router until the map switches. -/
def State.signalHeld (s : State) (p : Nat) : Bool := s.brp.remaps.any (fun r => r.src == p)

/-- R300: increment and source of a combined arrival. -/
def combine (xs : List Signal) : Int × Nat :=
  match xs with
  | [x] => (x.inc, x.src)
  | _ =>
    let sum := xs.foldl (fun a x => a + x.inc) 0
    let low := xs.foldl (fun a x => Nat.min a x.src) (2 ^ 32)
    (toSigned 32 (wrapInt 32 sum), low + 2 ^ 27)

/-- Signals that have been delivered leave the net. -/
def State.signalsDone (s : State) (xs : List Signal) : State :=
  { s with signals := xs.foldl (fun l x => removeFirst (fun y => y == x) l) s.signals }

/-- R304: a signal with bad parity is discarded, class 0x03 code 0x05, and its context faulted. router: the field whose router
found it; none: the counter's bank. -/
def State.signalBad (s : State) (x : Signal) (router : Option (Fin 9)) : State :=
  let t := sigTarget x.target
  let p := (s.physOf t.array).getD 0
  let (kind, num, place) := match t with
    | .core id k => (0, k, id)
    | .ctrl a k => (1, k, a * 65536)
    | .bad => (1, 0, 0)
  let src := match router with
    | some f => srcOf 4 f.val
    | none => if kind = 0 then srcOf 0 p else srcOf 1 p
  let pl (o : Nat) := payloadOf ((if o = 20 then [(16, 4, place)] else []) ++
    [(o, 1, kind), (o + 1, 1, num), (o + 4, 4, place), (o + 12, 4, wrapInt 32 x.inc), (o + 16, 4, x.src)])
  let s := (s.postCtx x.ctx 0x03 5 2 src (pl (if kind = 0 ∧ router.isNone then 20 else 16))).bump rQtzSigFaultCnt 1
  s.ctxFault x.ctx 0x03 5

/-- R292, R294, R300: a signal of the resident context reaches its counter. bad: a parity error was found, by a field's router
or by the bank. A signal for an array that is being remapped stays on the net (R296). -/
def execSignalArrival (n : Nat) (also : List Nat) (bad : Option (Option (Fin 9))) (s : State) : Out :=
  .next (match s.signalsAt n also with
    | none => s
    | some (x, xs) =>
      match s.physOf (sigTarget x.target).array with
      | none => s
      | some p =>
        if !s.signalFirst n x then s
        else match bad with
          | some r => (s.signalsDone [x]).signalBad x r
          | none =>
            if s.residentAt p ≠ some x.ctx ∨ s.signalHeld p then s
            else
              let (inc, src) := combine xs
              let s := s.signalsDone xs
              match sigTarget x.target with
              | .core id k => s.addCore id k inc src
              | .ctrl _ k => s.addCtrl p k inc src
              | .bad => s)

/-- The saved counters of a context at a key: core ID, or 2^20 plus the logical array. -/
def State.savedCtr (s : State) (c key k : Nat) : BitVec 16 := tblGet 0#16 (tblGet [] (s.ctx c).savedCounters key) k

/-- Change a saved counter. -/
def State.setSavedCtr (s : State) (c key k : Nat) (v : BitVec 16) : State :=
  let x := s.ctx c
  s.setCtx c { x with savedCounters := tblPut x.savedCounters key (tblPut (tblGet [] x.savedCounters key) k v) }

/-- R296: a signal whose context is not resident at its target is added to the context's saved counters. -/
def execSignalDivert (n : Nat) (s : State) : Out :=
  .next (match s.signals[n]? with
    | none => s
    | some x =>
      let t := sigTarget x.target
      match s.physOf t.array with
      | none => s
      | some p =>
        if !s.signalFirst n x ∨ s.residentAt p = some x.ctx ∨ s.signalHeld p then s
        else
          let s := s.signalsDone [x]
          let (kind, key, k, place) := match t with
            | .core id k => (0, id, k, id)
            | .ctrl a k => (1, 2 ^ 20 + a, k, a * 65536)
            | .bad => (1, 0, 0, 0)
          let v := s.savedCtr x.ctx key k
          if counterFits v x.inc then s.setSavedCtr x.ctx key k (counterSum v x.inc)
          else
            let code := if x.inc < 0 then 1 else 2
            (s.postCounter x.ctx code (if kind = 0 then srcOf 0 p else srcOf 1 p) kind k place v.toNat x.inc x.src 0).ctxFault x.ctx 0x03 code)

/-- R305, R337: physical arrays named by the requests not yet answered. -/
def FlintState.mask (f : FlintState) : Nat := f.reqs.foldl (fun m r => m ||| r.mask) 0

/-- R308: the request that names a combined halt: the earliest, the lowest cause among equals. -/
def FlintState.lead (f : FlintState) : Option FlintReq :=
  f.reqs.foldl (fun b r => match b with
    | none => some r
    | some x => if r.time.toNat < x.time.toNat ∨ (r.time = x.time ∧ r.cause < x.cause) then some r else b) none

/-- R306: within the Flint budget every unit of the masked arrays stops; the halt is recorded. -/
def execFlintGating (s : State) : Out :=
  .next (match s.flint.lead with
    | none => s
    | some r =>
      let m := s.flint.mask
      let s := if s.flint.gated = 0 then s.bump rQtzFlintCnt 1 else s
      let s := (s.setFld rQtzFlintStatus 31 28 r.cause).setFld rQtzFlintStatus 17 0 m
      let s := s.setReg64 rQtzFlintTime r.time.toNat
      let s := (List.range 18).foldl (fun s p => if m.testBit p then s.modArr p (fun a => { a with halted := true }) else s) s
      { s with flint := { s.flint with gated := m } })

/-- R339: a class 0x09 payload: subject, cause, rank, value at 20 to 23, at 24 to 31, at 32 to 39, osn. -/
def timePayload (subject cause rank v4 v8 v16 osn : Nat) : Nat :=
  payloadOf [(16, 1, subject), (17, 1, cause), (18, 2, rank), (20, 4, v4), (24, 8, v8), (32, 8, v16), (40, 4, osn)]

/-- R308 step 2: the event of a request. -/
def State.flintEvent (s : State) (r : FlintReq) : State :=
  let m := mediumOf (s.place r.addr)
  if r.cause = 15 then s
  else if r.cause = 4 then s.postDev 0x09 0x0D 2 (srcOf 1 r.array) (timePayload r.array 4 0 0 0 0 0)
  else
    let syn := if (s.checkAt r.addr).bad then 0xFF else 0
    let pl := if r.source / 4096 = 0 then
        payloadOf [(16, 4, r.core), (20, 8, r.addr / 8 * 8), (28, 1, syn), (29, 1, m), (30, 2, s.bankOf r.addr), (32, 4, 1)]
      else payloadOf [(16, 8, r.addr / 8 * 8), (24, 1, syn), (25, 1, m), (26, 2, s.bankOf r.addr), (28, 4, 1)]
    s.post r.ctx true 0x01 0x30 2 r.source pl

/-- R308, R336, R136: what follows the release for the array that detected: strip-clocked mode, or the end of a core-mode run. -/
def State.flintAfter (s : State) (r : FlintReq) : State :=
  if r.cause = 4 then
    ((s.modArr r.array (fun a => { a with stripClocked := true })).setFlag (rAryClkStatus r.array) 29 true).postDev 0x09 0x0E 0
      (srcOf 1 r.array) (timePayload r.array 0 0 0 0 0 0)
  else if r.cause = 2 then s.runFault r.array 0x01 0x30
  else s

/-- R308: within 2 µs the halted arrays apply the R119 outcomes, post their events and release their clocks; a hard brake holds the
release (R337). -/
def execFlintHaltRelease (s : State) : Out :=
  .next (
    let m := s.flint.gated
    let reqs := s.flint.reqs.filter (fun r => r.mask &&& m == r.mask)
    if reqs.isEmpty ∨ (List.range 18).any (fun p => m.testBit p && (s.arr p).brake) then s
    else
      let s := (List.range 18).foldl (fun s p => if m.testBit p then s.faultArr p else s) s
      let s := reqs.foldl State.flintEvent s
      let s := (List.range 18).foldl (fun s p => if m.testBit p then s.modArr p (fun a => { a with halted := false }) else s) s
      let s := { s with flint := { reqs := s.flint.reqs.filter (fun r => r.mask &&& m != r.mask), gated := 0 } }
      reqs.foldl State.flintAfter s)

/-- QTZ_FLINT_INJECT: go raises a halt with cause 15 on the mask; refused while a masked array holds a resident context. -/
def flintInject : RegEffect :=
  { veto := fun s _ value acted =>
      if acted.testBit 30 && (List.range 18).any (fun p => value.testBit p && (s.residentAt p).isSome) then some 4 else none
    keep := fun _ v => (v, none)
    act := fun s _ _ acted =>
      if acted.testBit 30 then
        s.flintRaise { mask := s.fld rQtzFlintInject 17 0, cause := 15, time := s.now, ctx := none, source := srcOf 4 4, core := 0, addr := 0, array := 18 }
      else s }

/-- A write of QTZ_FLINT_INJECT. -/
def execFlintInject (req : Requester) (v : Word) (s : State) : Out := .next (s.regWrite req rQtzFlintInject v.toNat flintInject)

/-- R336: the mesh of an array's clock fails: a Flint request of cause 4 over its gang. -/
def execClockMeshFault (p : ArrayId) (s : State) : Out :=
  .next (s.flintRaise { mask := s.gangMask p.val, cause := 4, time := s.now, ctx := none, source := srcOf 1 p.val, core := 0, addr := 0, array := p.val })

end Sys2Proof.Machine
end

