-- ==== Sys2Proof/Machine/Time.lean ====
section
/-!
DEFINITION. Quartz time (09_sync_time R309 to R331): correction beats and islands, frequency references, and fabric time; array
clocks (R332 to R335).
-/
namespace Sys2Proof.Machine

/-- An island's copy. -/
def State.island (s : State) (i : Nat) : Island := tblGet Island.reset s.time.islands i

/-- Replace an island's copy; an array also holds its own (R312). -/
def State.setIsland (s : State) (i : Nat) (x : Island) : State :=
  let s := { s with time := { s.time with islands := tblPut s.time.islands i x } }
  if i < 18 then
    (s.modArr i (fun a => { a with qtzOffset := x.offset * 64 / 1000, qtzLocked := x.locked })).setFlag (rAryClkStatus i) 28 x.locked
  else s

/-- The power domain of an island: an array's periphery, a field's services, a site's port, and for the dispatchers the services of
the fields that hold them (R23, R27). -/
def islandDomain (i : Nat) : Nat :=
  if i < 18 then 288 + i else if i < 27 then 324 + (i - 18) else if i < 45 then 306 + (i - 27) else if i = 45 then 328 else 325

/-- Whether an island has power: while its domain is on (R27, R451). -/
def State.islandPowered (s : State) (i : Nat) : Bool := s.fld (rPwrDom (islandDomain i)) 31 29 == 2

/-- R339, R17: the source of an island's events: its unit's kind; of a site port's island at an I/O die the die itself, index 15
(DEDUCED, notes/assumptions/112). -/
def State.islandSource (s : State) (i : Nat) : Nat :=
  if i < 18 then srcOf 1 i
  else if i < 27 then srcOf 4 (i - 18)
  else if i < 45 then (if s.ioSites.contains (i - 27) then srcOf 6 ((i - 27) * 16 + 15) else srcOf 5 (i - 27))
  else srcOf 8 (i - 45)

/-- QTZ_STATUS.all_locked and unlocked, and QTZ_ISL_LOCK. -/
def State.lockSummary (s : State) : State :=
  let n := ((List.range 47).filter (fun i => s.islandPowered i && !(s.island i).locked)).length
  ((s.setFld rQtzStatus 13 8 n).setFlag rQtzStatus 22 (n == 0)).setReg64 rQtzIslLock (packBits 47 (fun i => (s.island i).locked))

/-- R318, R219: whether an array has a pending launch time: for its next operation, or on a queue entry. -/
def ArrayState.launchPending (a : ArrayState) : Bool :=
  a.ctrl.launch.isSome || (a.aq ++ a.vq ++ a.dq).any (fun e => e.launch.isSome)

/-- R316: a change of an island's lock posts class 0x09 code 0x06 or 0x07. -/
def State.islandLock (s : State) (i : Nat) (x : Island) (b : Bool) : State :=
  (s.setIsland i { x with locked := b }).postDev 0x09 (if b then 7 else 6) 0 (s.islandSource i)
    (timePayload i 0 0 (wrapInt 32 x.offset) 0 0 0)

/-- R313 to R316: an island sees a beat with a measured offset in ps: lock, report, and slew at most 8 ns; an unlocked island with no
pending launch loads an offset above 8 ns. -/
def State.islandBeat (s : State) (i : Nat) (o : Int) : State :=
  let x := s.island i
  let mag := o.natAbs
  let s := s.setFld (rQtzIslOfs i) 15 0 (wrapInt 16 (clampInt (-32768) 32767 o))
  let s := if s.fld (rQtzIslOfs i) 31 16 < mag then s.setFld (rQtzIslOfs i) 31 16 (Nat.min mag 65535) else s
  let y : Island := { x with offset := o, good := if mag ≤ 500 then x.good + 1 else 0, missing := 0 }
  let s := if x.locked ∧ 750 < mag then s.islandLock i y false
    else if !x.locked ∧ 4 ≤ y.good then s.islandLock i y true
    else s.setIsland i y
  let z := s.island i
  let loads := !z.locked && decide (8000 < mag) && !(decide (i < 18) && (s.arr i).launchPending)
  s.setIsland i { z with offset := if loads then 0 else o - clampInt (-8000) 8000 o }

/-- R316: an island misses a beat; the fourth in a row unlocks it. -/
def State.islandMiss (s : State) (i : Nat) : State :=
  let x := s.island i
  let y : Island := { x with good := 0, missing := x.missing + 1 }
  if x.locked ∧ 4 ≤ y.missing then s.islandLock i y false else s.setIsland i y

/-- A correction beat. offs: the islands that captured it, each with its measured offset in ps; a powered island not listed misses
it, an island without power loses its copy (R312). -/
def execQuartzBeat (offs : List (Nat × Int)) (s : State) : Out :=
  .next (((List.range 47).foldl (fun s i =>
    if !s.islandPowered i then s.setIsland i Island.reset
    else match offs.find? (fun x => x.1 == i) with
      | some x => s.islandBeat i x.2
      | none => s.islandMiss i) s).lockSummary)

/-- R313: branch delays are measured again; the calibrated delays are part of each measured offset, so no other state changes. -/
def execTreeDelayCalibration (s : State) : Out := .next s

/-- R310: whether a step of the master is refused: a resident context, a pending launch time, or an active schedule. -/
def State.stepRefused (s : State) : Bool :=
  (List.range 18).any (fun p => (s.residentAt p).isSome || (s.arr p).launchPending)
    || (List.range 32).any (fun f => s.flag (rFabSchedCtl f) 31)

/-- R310: the master steps to a time: class 0x09 code 0x0C. -/
def State.stepTo (s : State) (t : Nat) : State :=
  { s with now := BitVec.ofNat 64 t }.postDev 0x09 0x0C 0 (srcOf 7 0) (timePayload 0xFF 0 0 0 s.now.toNat t 0)

/-- R310: a write of QTZ_CTL.step steps the master to QTZ_SET. -/
def State.quartzStep (s : State) : State := s.stepTo (s.reg64 rQtzSet)

/-- A reference: 0 REFCLK_A, 1 REFCLK_B. -/
def State.refclk (s : State) (i : Nat) : RefState := tblGet RefState.reset s.time.refs i

/-- R325: a candidate: present and not disqualified. -/
def RefState.cand (r : RefState) : Bool := r.present && !r.disq

/-- Replace a reference; QTZ_STATUS shows whether it is a candidate. -/
def State.setRefclk (s : State) (i : Nat) (r : RefState) : State :=
  ({ s with time := { s.time with refs := tblPut s.time.refs i r } }).setFlag rQtzStatus (25 - i) r.cand

/-- R322: the sum of the samples behind the 1 s average, in 0.1 ppm. -/
def RefState.sum (r : RefState) : Int := r.samples.foldl (fun a x => a + x) 0

/-- R322: the 1 s average in 0.01 ppm. -/
def RefState.avg (r : RefState) : Int := if r.samples.length = 0 then 0 else Int.tdiv (r.sum * 10) r.samples.length

/-- Whether the 1 s average lies within a bound in ppm. -/
def RefState.within (r : RefState) (ppm : Nat) : Bool :=
  decide (r.samples.length ≠ 0) && decide (r.sum.natAbs ≤ ppm * 10 * r.samples.length)

/-- R326: the witness correction, in 0.01 ppm. -/
def TimeState.correction (t : TimeState) : Int :=
  if t.corr.length = 0 then 0 else Int.tdiv (t.corr.foldl (fun a x => a + x) 0 * 10) t.corr.length

/-- QTZ_STATUS.ref_sel. -/
def State.refSel (s : State) : Nat := s.fld rQtzStatus 27 26

/-- The rate of a source in 0.01 ppm against the witness. -/
def State.sourceRate (s : State) (sel : Nat) : Int := if sel = 2 then s.time.correction else (s.refclk sel).avg

/-- QTZ_STATUS.slewing: a rate slew or a join in progress. -/
def State.slewFlag (s : State) : State := s.setFlag rQtzStatus 23 (s.time.slew != 0 || s.fld rQtzStatus 29 28 == 1)

/-- R325, R326: change the frequency source: the master's rate continues and slews. -/
def State.selectSource (s : State) (sel : Nat) : State :=
  let d := s.sourceRate s.refSel - s.sourceRate sel
  (({ s with time := { s.time with slew := s.time.slew + d } }).setFld rQtzStatus 27 26 sel).slewFlag

/-- R339: an event of a reference. -/
def State.refEvent (s : State) (code subject : Nat) (avg : Int) : State :=
  s.postDev 0x09 code 0 (srcOf 7 0) (timePayload subject 0 0 (wrapInt 32 avg) 0 0 0)

/-- R325: switch to a reference; out of holdover, code 0x05 is posted, else code 0x02. -/
def State.refSwitch (s : State) (i : Nat) : State :=
  let was := s.refSel
  let s := s.selectSource i
  if was = 2 then s.refEvent 5 i (s.refclk i).avg
  else ((s.setFlag rQtzRefFlags 2 true).bump rQtzSwitches 1).refEvent 2 i (s.refclk i).avg

/-- R326: enter holdover. -/
def State.holdover (s : State) : State :=
  let s := s.selectSource 2
  ((s.setFlag rQtzRefFlags 3 true).bump rQtzSwitches 1).refEvent 4 2 s.time.correction

/-- R325, R326: the selection rules, while QTZ_CTL.auto_switch is 1. -/
def State.refSelect (s : State) : State :=
  if !s.flag rQtzCtl 6 then s
  else
    let sel := s.refSel
    if sel = 2 then
      match [0, 1].find? (fun i => (s.refclk i).cand && (s.refclk i).within 35 && decide (10 ≤ (s.refclk i).back)) with
      | some i => s.refSwitch i
      | none => s
    else
      let r := s.refclk sel
      let o := s.refclk (1 - sel)
      if r.disq ∨ 100 ≤ r.over70 then
        if o.cand && o.within 35 then s.refSwitch (1 - sel) else s.holdover
      else s

/-- R324: disqualify a reference. -/
def State.refDisq (s : State) (i : Nat) : State :=
  let r := s.refclk i
  if r.disq then s
  else ((s.setRefclk i { r with disq := true, back := 0, backN := 0 }).setFlag rQtzRefFlags (4 + i) true).refEvent 3 i r.avg

/-- R323: the average of a reference: its registers, and a crossing from within 35 ppm to beyond it. -/
def State.refAverage (s : State) (i : Nat) : State :=
  let r := s.refclk i
  let beyond := !r.within 35
  let tenth := if r.samples.length = 0 then 0 else r.sum.natAbs / r.samples.length
  let hi := if i = 0 then 31 else 15
  let s := s.setReg (if i = 0 then rQtzRefAPpm else rQtzRefBPpm) (BitVec.ofInt 32 r.avg)
  let s := if s.fld rQtzRefPeak hi (hi - 15) < tenth then s.setFld rQtzRefPeak hi (hi - 15) (Nat.min tenth 65535) else s
  if beyond ∧ !r.beyond then
    let s := (s.setFlag rQtzRefFlags i true).setFld rQtzRefCross hi (hi - 15) (satAdd 16 (s.fld rQtzRefCross hi (hi - 15)) 1)
    let quiet := match r.lastWarn with | some t => decide (s.now.toNat < t + 640000) | none => false
    let s := s.setRefclk i { r with beyond := true, lastWarn := if quiet then r.lastWarn else some s.now.toNat }
    if quiet then s else s.refEvent 1 i r.avg
  else s.setRefclk i { r with beyond := beyond }

/-- R322 to R324: one sample of a reference in 0.1 ppm. -/
def State.refSample (s : State) (i : Nat) (x : Int) : State :=
  let r := s.refclk i
  let r : RefState := { r with present := true, samples := (x :: r.samples).take 1000,
                               over1000 := if 10000 < x.natAbs then r.over1000 + 1 else 0 }
  let r : RefState := { r with over70 := if r.within 70 then 0 else r.over70 + 1 }
  let r : RefState := if r.backN + 1 < 1000 then { r with backN := r.backN + 1 }
    else { r with backN := 0, back := if r.within 35 then r.back + 1 else 0 }
  let r : RefState := if r.disq ∧ 10 ≤ r.back then { r with disq := false, over1000 := 0 } else r
  let s := (s.setRefclk i r).refAverage i
  if 3 ≤ r.over1000 then s.refDisq i else s

/-- R331: a follower that has lost fabric time and has not joined again: in the 1 ms of a sample its error estimate grows by its
source's deviation, rounded up to 1 ns (log entry 130). -/
def State.fabErrGrows (s : State) : State :=
  if s.fld rQtzFabCtl 17 16 = 2 ∧ s.fld rQtzStatus 29 28 ≠ 2 ∧ s.time.lastFrame ≠ 0 then
    s.setFld rQtzFabStatus 15 0 (Nat.min 65535 (s.fld rQtzFabStatus 15 0 + ((s.sourceRate s.refSel).natAbs + 99) / 100))
  else s

/-- R322 to R326: the samples of the present references at a time; one listed none is not present. -/
def execRefSample (t : DWord) (a b : Option Int) (s : State) : Out :=
  .next (
    let s := s.clock t
    let s := match a with | some x => s.refSample 0 x | none => s
    let s := match b with | some x => s.refSample 1 x | none => s
    let sel := s.refSel
    let s := match (if sel = 0 then a else if sel = 1 then b else none) with
      | some x => if (s.refclk sel).within 35 then { s with time := { s.time with corr := (x :: s.time.corr).take 60000 } } else s
      | none => s
    let s := { s with time := { s.time with slew := s.time.slew - clampInt (-100) 100 s.time.slew } }
    let s := if sel = 2 then s.bump64 rQtzHoldoverUs 1000 else s
    s.refSelect.fabErrGrows.slewFlag)

/-- R324: the clock of a reference has been absent for 10 µs. -/
def execRefClockAbsent (ref : Fin 2) (s : State) : Out :=
  .next (
    let r := s.refclk ref.val
    let s := (s.setRefclk ref.val { r with samples := [], over1000 := 0, over70 := 0, beyond := false }).refDisq ref.val
    (s.setRefclk ref.val { s.refclk ref.val with present := false }).refSelect)

/-- QTZ_CTL: step (R310) and ref_req (R325). -/
def quartzCtl : RegEffect :=
  { veto := fun s _ _ acted => if acted.testBit 7 && s.stepRefused then some 4 else none
    keep := fun _ v => (v, none)
    act := fun s _ _ acted =>
      let s := if acted.testBit 7 then s.quartzStep else s
      let q := bitsOf acted 5 4
      if q = 1 ∨ q = 2 then
        let r := s.refclk (q - 1)
        if s.refSel ≠ q - 1 ∧ r.cand ∧ r.within 35 then s.refSwitch (q - 1) else s
      else s }

/-- A write of QTZ_CTL that steps the master. -/
def execQuartzStep (req : Requester) (v : Word) (s : State) : Out := .next (s.regWrite req rQtzCtl v.toNat quartzCtl)

/-- A write of QTZ_CTL that requests a reference. -/
def execRefSelectRequest (req : Requester) (v : Word) (s : State) : Out := .next (s.regWrite req rQtzCtl v.toNat quartzCtl)

/-- QTZ_FAB_CTL.role: 0 standalone, 1 leader, 2 follower. -/
def State.timeRole (s : State) : Nat := s.fld rQtzFabCtl 17 16

/-- The role shown by QTZ_STATUS follows QTZ_FAB_CTL (R327); a device that is no follower has no fabric time to join. -/
def fabCtlEffect : RegEffect :=
  { RegEffect.plain with
    act := fun s _ _ _ =>
      let s := s.setFld rQtzStatus 31 30 s.timeRole
      if s.timeRole = 2 then s else (s.setFld rQtzStatus 29 28 0).slewFlag }

/-- A port's time state. -/
def State.linkTime (s : State) (f : Nat) : LinkTime := tblGet LinkTime.reset s.time.links f

/-- Replace a port's time state. -/
def State.setLinkTime (s : State) (f : Nat) (x : LinkTime) : State := { s with time := { s.time with links := tblPut s.time.links f x } }

/-- R433: after a change of rate or lane count, time frames wait for a new delay exchange. -/
def State.linkTimeReset (s : State) (f : Nat) : State :=
  s.setLinkTime f { s.linkTime f with delay := none, asked := none, frame := none }

/-- R328: the leader's degraded bit: in holdover, or the selected reference carries a warning. -/
def State.degradedBit (s : State) : Bool := s.refSel == 2 || s.flag rQtzRefFlags s.refSel

/-- R427: a time or delay frame that arrives before node assignment is dropped: class 0x06 code 0x12. -/
def State.timingDropped (s : State) (f : Nat) : State :=
  if s.linkUp f then s.postDev 0x06 0x12 0 (s.portSource f) (fabPayload f 0 (s.fld (rFabPortPeer f) 15 0) 0 0 0 1) else s

/-- R433: a time frame. -/
def timeFrame (degraded : Bool) (hops seq leader sender t : Nat) : List Byte :=
  bytesOf 64 (0x10 + b2n degraded * 2 ^ 8 + hops % 256 * 2 ^ 16 + seq % 256 * 2 ^ 24 + leader * 2 ^ 32 + sender * 2 ^ 48 + t * 2 ^ 64)

/-- R433: a delay request (0x11) or response (0x12). -/
def delayFrame (kind seq sender a b : Nat) : List Byte :=
  bytesOf 64 (kind + seq % 256 * 2 ^ 24 + sender * 2 ^ 32 + a * 2 ^ 64 + b * 2 ^ 128)

/-- R327, R328, R427: the leader sends a time frame on every up port; a joined follower re-originates time on its downstream ports. -/
def execTimeFrameSend (t : DWord) (s : State) : Out :=
  .next (
    let s := s.clock t
    let role := s.timeRole
    let joined := s.fld rQtzStatus 29 28 == 2
    if s.nodeKnown ∧ (role = 1 ∨ (role = 2 ∧ joined)) then
      let hops := if role = 1 then 0 else s.fld rQtzFabStatus 31 24
      let f := timeFrame (if role = 1 then s.degradedBit else s.flag rQtzFabStatus 18) hops s.time.frameSeq
        (if role = 1 then s.ownNode else s.fld rQtzFabCtl 15 0) s.ownNode s.now.toNat
      let ports := s.upPorts.filter (fun p => role == 1 || p != s.fld rQtzFabStatus 23 19)
      let s := ports.foldl (fun s p => s.timingSend p f) s
      { s with time := { s.time with frameSeq := s.time.frameSeq + 1 } }
    else s)

/-- R328: every hop asks for its link delay. -/
def execDelayExchangeStart (t : DWord) (s : State) : Out :=
  .next (
    let s := s.clock t
    if !s.nodeKnown then s
    else s.upPorts.foldl (fun s p =>
      let x := s.linkTime p
      (s.setLinkTime p { x with seq := (x.seq + 1) % 256, asked := some (x.seq, s.now.toNat) }).timingSend p
        (delayFrame 0x11 x.seq s.ownNode s.now.toNat 0)) s)

/-- R433: a delay request received at t2 is answered with t2 and t3. -/
def execDelayRequestReceive (port : FabPort) (frame : List Byte) (t2 t3 : DWord) (s : State) : Out :=
  .next (
    let s := (s.clock t2).clock t3
    if !s.nodeKnown then s.timingDropped port.val
    else if leAt frame 0 1 = 0x11 ∧ s.linkUp port.val then
      s.timingSend port.val (delayFrame 0x12 (leAt frame 3 1) s.ownNode t2.toNat t3.toNat)
    else s)

/-- R433: a delay response received at t4 gives the link delay ((t4 − t1) − (t3 − t2)) / 2. -/
def execDelayResponseReceive (port : FabPort) (frame : List Byte) (t4 : DWord) (s : State) : Out :=
  .next (
    let s := s.clock t4
    let x := s.linkTime port.val
    if !s.nodeKnown then s.timingDropped port.val
    else match x.asked with
    | some (seq, t1) =>
      if leAt frame 0 1 = 0x12 ∧ leAt frame 3 1 = seq % 256 then
        let d : Int := ((t4.toNat : Int) - t1 - ((leAt frame 16 8 : Int) - leAt frame 8 8)) / 2
        s.setLinkTime port.val { x with delay := some d, asked := none }
      else s
    | none => s)

/-- R328: the upstream port: the fewest hops to the leader, then the lowest number. -/
def State.upstream (s : State) : Option (Nat × Nat) :=
  (List.range 32).foldl (fun b p =>
    match (s.linkTime p).frame with
    | some (h, _, _) => if s.linkUp p then (match b with | some (q, k) => if h < k then some (p, h) else some (q, k) | none => some (p, h)) else b
    | none => b) none

/-- R331: a follower's state after an offset from fabric time, in ticks: own time less fabric time. -/
def State.servoStep (s : State) (o : Int) : State :=
  let st := s.fld rQtzStatus 29 28
  let ev (s : State) (code : Nat) : State :=
    s.postDev 0x09 code 0 (srcOf 7 0) (timePayload 0xFF 0 0 0 (s.fld rQtzFabCtl 15 0) (wrapInt 64 o) 0)
  let servo (s : State) (ppm : Int) : State :=
    { s with time := { s.time with servo := clampInt (-(8388608 * ppm / 1000000)) (8388608 * ppm / 1000000) (-o) } }
  if st = 2 then servo s 100
  else if 64000000 < o.natAbs then
    let s := { (s.setFld rQtzStatus 29 28 3) with time := { s.time with servo := 0 } }
    if st = 3 then s else ev s 0x0B
  else if o.natAbs ≤ 1280 then servo (ev (s.setFld rQtzStatus 29 28 2) 9) 100
  else servo (s.setFld rQtzStatus 29 28 1) 1000

/-- R328 to R331, R433: a follower takes a time frame received at t_rx from its upstream port. The error estimate is the
device's own (notes/assumptions/6). -/
def execTimeFrameReceive (port : FabPort) (frame : List Byte) (rx : DWord) (s : State) : Out :=
  .next (
    let s := s.clock rx
    let x := s.linkTime port.val
    if !s.nodeKnown then s.timingDropped port.val
    else if leAt frame 0 1 ≠ 0x10 ∨ s.timeRole ≠ 2 ∨ leAt frame 4 2 ≠ s.fld rQtzFabCtl 15 0 then s
    else match x.delay with
      | none => s
      | some d =>
        let hops := Nat.min 255 (leAt frame 2 1 + 1)
        let deg := bitOf (leAt frame 1 1) 0
        let s := s.setLinkTime port.val { x with frame := some (hops, leAt frame 4 2, deg) }
        match s.upstream with
        | some (p, h) =>
          if p ≠ port.val then s
          else
            let up : Int := (leAt frame 8 8 : Int) + toSigned 64 (leAt frame 16 8) / 65536 + d
            let o := toSigned 64 (wrapInt 64 ((rx.toNat : Int) - up))
            let s := ((s.setFld rQtzFabStatus 31 24 h).setFld rQtzFabStatus 23 19 p).setFlag rQtzFabStatus 18 deg
            let s := ((s.setFld rQtzFabStatus 15 0 (s.free % 65536)).drawn).setReg rQtzFabOfs
              (BitVec.ofInt 32 (clampInt (-(2 ^ 31)) (2 ^ 31 - 1) o))
            let s := { s with time := { s.time with lastFrame := s.now.toNat, fabOfs := o } }
            (s.servoStep o).slewFlag
        | none => s)

/-- R331: eight frames in a row are missing: fabric time is lost; the last rate correction stays. -/
def execFabricTimeLost (t : DWord) (s : State) : Out :=
  .next (
    let s := s.clock t
    let st := s.fld rQtzStatus 29 28
    if s.timeRole ≠ 2 ∨ st = 0 ∨ s.now.toNat < s.time.lastFrame + 8 * 8388608 then s
    else
      let s := { s with time := { s.time with links := s.time.links.map (fun (e : Nat × LinkTime) => (e.1, { e.2 with frame := none })) } }
      ((s.setFld rQtzStatus 29 28 0).slewFlag).postDev 0x09 0x0A 0 (srcOf 7 0)
        (timePayload 0xFF 0 0 0 (s.fld rQtzFabCtl 15 0) (signExt 32 64 (s.reg rQtzFabOfs).toNat) 0))

/-- R310: at the end of stage 9 the master steps once to fabric time, where an upstream port gives it (log entry 130). -/
def State.stepToFabric (s : State) : State :=
  if s.timeRole = 2 ∧ s.upstream.isSome then
    let s := s.stepTo (wrapInt 64 ((s.now.toNat : Int) - s.time.fabOfs))
    { s with time := { s.time with fabOfs := 0, servo := 0 } }
  else s

/-- R332: an array's oscillator moves one code toward its target. -/
def execFreqCodeStep (p : ArrayId) (s : State) : Out :=
  .next (s.modArr p.val (fun a => { a with freqCode :=
    if a.freqCode < a.targetCode then a.freqCode + 1 else if a.targetCode < a.freqCode then a.freqCode - 1 else a.freqCode }))

/-- ARY_CLK_STATUS.stretching and fll_frozen show the array's clock. -/
def State.clkShow (s : State) (p : Nat) : State :=
  let a := s.arr p
  (s.setFlag (rAryClkStatus p) 31 (a.stretch != 0#16)).setFlag (rAryClkStatus p) 30 a.fllFrozen

/-- R333, R334: a strip is more than 3 % below its setpoint at an edge: the next period is stretched and counted, and the
frequency-locked loop is frozen. At 0.40 GHz no stretch occurs. -/
def execStripDroop (p : ArrayId) (strip : Fin 16) (s : State) : Out :=
  .next (
    let a := s.arr p.val
    if a.freqCode = 0 then s
    else
      let s := if a.stretch.getLsbD strip.val then s else s.setFlag (rAryClkDroop p.val) strip.val true
      let s := (s.setArr p.val { a with stretch := a.stretch ||| (1#16 <<< strip.val), fllFrozen := true }).bump64 (rAryClkStretch p.val) 1
      ({ s with time := { s.time with stretchAt := tblPut s.time.stretchAt (16 * p.val + strip.val) s.now.toNat } }).clkShow p.val)

/-- R333: every strip is back within 2 %: one more stretched period, then the target period. -/
def execDroopRecovery (p : ArrayId) (s : State) : Out :=
  .next (
    let a := s.arr p.val
    if a.stretch = 0#16 then s
    else
      let ends := (List.range 16).filter (fun i => a.stretch.getLsbD i)
      let s := (s.setArr p.val { a with stretch := 0#16 }).bump64 (rAryClkStretch p.val) 1
      ({ s with time := { s.time with
        stretchAt := ends.foldl (fun t i => tblPut t (16 * p.val + i) s.now.toNat) s.time.stretchAt } }).clkShow p.val)

/-- R334: 1 µs after a stretch ends the frequency-locked loop resumes. -/
def execFllUnfreeze (p : ArrayId) (s : State) : Out :=
  .next (if (s.arr p.val).stretch = 0#16 then (s.modArr p.val (fun a => { a with fllFrozen := false })).clkShow p.val else s)

end Sys2Proof.Machine
end

