-- ==== Sys2Proof/Machine/DispOps.lean ====
section
/-!
DEFINITION. The dispatcher (11_contexts R375 to R395): commands and their retirement, scheduling, light and full switches, and
the steps of a context reset.
-/
namespace Sys2Proof.Machine

/-- R381: the opcode of a command. -/
def Cmd.op (c : Cmd) : Nat := leAt c.bytes 0 1
/-- R381: a flag of a command: 0 fence, 1 step_end, 2 irq. -/
def Cmd.flag (c : Cmd) (i : Nat) : Bool := (leAt c.bytes 1 1).testBit i
/-- R381: the mask of a command. -/
def Cmd.mask (c : Cmd) : Nat := leAt c.bytes 2 2
/-- R381: the tag of a command. -/
def Cmd.tag (c : Cmd) : Nat := leAt c.bytes 4 4

/-- The source of the dispatcher's events (R402). -/
def State.dspSource (s : State) : Nat := srcOf 8 (b2n (s.flag rBrpDsp 31))

/-- R402: a dispatch payload. -/
def dspPayload (index tag detail b25 covered va : Nat) : Nat :=
  payloadOf [(16, 4, index), (20, 4, tag), (24, 1, detail), (25, 1, b25), (26, 2, covered), (32, 8, va)]

/-- R379: fetch index. -/
def State.fetchIdx (s : State) (c : Nat) : Nat := (s.reg (rDspCtxFetch c)).toNat
/-- R379: head index. -/
def State.headIdx (s : State) (c : Nat) : Nat := (s.reg (rCpRingHead c)).toNat

/-- Difference of two free-running 32-bit counts. -/
def cnt32 (a b : Nat) : Nat := (a % 2 ^ 32 + (2 ^ 32 - b % 2 ^ 32)) % 2 ^ 32

/-- R381: entries of a context's command ring, E. -/
def State.ringEntries (s : State) (c : Nat) : Nat :=
  let l := s.fld (rDspCtxRing c) 4 0
  if 6 ≤ l ∧ l ≤ 16 then 2 ^ l else 64

/-- R381: the virtual address of ring entry i. -/
def State.ringVa (s : State) (c i : Nat) : Nat :=
  s.fld (rDspCtxRing c) 31 12 * 0x1000 + s.fld (rDspCtxRing c + 4) 15 0 * 2 ^ 32 + i % s.ringEntries c * 64

/-- R388: whether an array still holds a program of a context, or a frozen or running core-mode run of it. -/
def ArrayState.worksFor (a : ArrayState) (c : Nat) : Bool :=
  a.ctrl.ctx == c && (a.ctrl.state == 1 || a.ctrl.state == 2)

/-- R388: whether a context has work: commands to fetch or to complete, or programs that have not ended. -/
def State.workLeft (s : State) (c : Nat) : Bool :=
  let x := s.ctx c
  (!x.fetchStopped && s.fetchIdx c != x.tail) || x.cmds.any (fun k => !k.done) || x.saved.any (fun e => e.2.ctrl.state == 2)
    || (s.ctxArrays c).any (fun p => s.residentAt p == some c && (s.arr p).worksFor c)

/-- R383: a command completes: with irq, vector 1. -/
def State.cmdDone (s : State) (c index : Nat) : State :=
  let x := s.ctx c
  let irq := x.cmds.any (fun k => k.index == index && k.flag 2)
  let s := s.setCtx c { x with cmds := x.cmds.map (fun k => if k.index = index then { k with done := true, started := true } else k) }
  if irq then s.msix c 1 else s

/-- R383, R385: commands retire in index order; with digest_en, only once the rewind point of an agreed step lies above. -/
def State.retire (s : State) (c : Nat) : Nat → State
  | 0 => s
  | n + 1 =>
    let x := s.ctx c
    match x.cmds with
    | k :: ks =>
      let held := s.flag (rChkCtxCtl c) 3 && decide (2 ^ 31 ≤ cnt32 ((s.reg (rDspCtxRewind c)).toNat) (k.index + 1))
      if k.done ∧ !held then
        ((s.setCtx c { x with cmds := ks }).setReg (rCpRingHead c) (BitVec.ofNat 32 (k.index + 1))).retire c n
      else s
    | [] => s

/-- Retire whatever may retire. -/
def State.retireAll (s : State) (c : Nat) : State := s.retire c ((s.ctx c).cmds.length + 1)

/-- R384: a command fault. -/
def State.cmdFault (s : State) (c code index tag va : Nat) : State :=
  (s.postCtx c 0x0C code 2 s.dspSource (dspPayload index tag 0 0 0 va)).ctxFault c 0x0C code

/-- R393: contexts bound to a partition and enabled. -/
def State.ctxsOf (s : State) (q : Nat) : List Nat :=
  (List.range 512).filter (fun c => s.flag (rDspCtxCtl c) 30 && s.ctxPart c == q)

/-- R399: whether a context may be scheduled: ready, and its event ring not stalled. -/
def State.schedulable (s : State) (c : Nat) : Bool := s.ctxState c == 2 && !s.flag (rCpEvtStatus c) 2

/-- A context's priority. -/
def State.prio (s : State) (c : Nat) : Nat := s.fld (rDspCtxCtl c) 28 26

/-- R388: the next context of a partition: the lowest priority value, round-robin from the last one scheduled. -/
def State.nextReady (s : State) (q : Nat) : Option Nat :=
  let l := (s.ctxsOf q).filter s.schedulable
  let last := (s.part q).last
  let order := l.filter (fun c => decide (last < c)) ++ l.filter (fun c => decide (c ≤ last))
  order.foldl (fun b c => match b with
    | none => some c
    | some x => if s.prio c < s.prio x then some c else some x) none

/-- Whether two ranges (first, length) share a byte: an empty range meets none. -/
def rangesMeet (a b : Nat × Nat) : Bool :=
  decide (a.1 < b.1 + b.2) && decide (b.1 < a.1 + a.2) && decide (0 < a.2) && decide (0 < b.2)

/-- R390 check: whether the slate ranges of two contexts meet. -/
def State.slatesMeet (s : State) (c d : Nat) : Bool :=
  let rs (x : Nat) : List (Nat × Nat) := [s.slAlloc x, ((s.parkAlloc x).1 * 16, (s.parkAlloc x).2 * 16)]
  (rs c).any (fun a => (rs d).any (fun b => rangesMeet a b))

/-- R184, R389: the vector engine of an array gets a stop request: a chain that would attach to a pass that is not there is refused
(R164); a running chain stops after the rows that have entered. A chain whose tile has not left the grid, and one whose writes are being
sent, stop with these. -/
def State.stopVec (s : State) (p : Nat) : State :=
  let s := s.chainUnattached p
  match (s.arr p).vec.running with
  | none => s
  | some r => (match r.entry.op with
    | .chain op =>
      if r.sent ∨ (s.arr p).vec.frozen ∨ !(s.arr p).attachedReady r ∨ !(s.arr p).feedReady r op then s else s.chainStop p r op
    | _ => s)

/-- R226, R389: an array gets its stop request: the controller stops at the instruction boundary, its posted stores are performed, a
blocked instruction is executed again on resumption, and the vector engine stops. -/
def State.stopArray (s : State) (p : Nat) : State :=
  ((s.drainStores p).modCtrl p (fun c => if c.state = 1 then { c with state := 2, blocked := .no, stallQ := 0 } else c)).stopVec p

/-- R387 to R390: start a switch of a partition. A context that leaves without a successor leaves the partition empty. -/
def State.startSwitch (s : State) (q : Nat) (out inc : Option Nat) : State :=
  let r := s.partRange q
  let arrays := (List.range r.2).filterMap (fun i => s.physOf (r.1 + i))
  let full := match out with
    | some o => arrays.any (fun p => (s.arr p).run.frozen || (s.coresOf ((s.logOf p).getD 16)).any (fun c => !c.2.counters.isEmpty))
        || (match inc with | some i => s.slatesMeet o i | none => false)
    | none => false
  let x := s.part q
  let s := match out with
    | some o =>
      let us := (s.now.toNat - x.since) / 64000
      (s.setCtxState o 4).bump64 (rDspCtxRuntime o) us
    | none => s
  let s := match inc with | some i => s.setCtxState i 4 | none => s
  let s := match out with | some _ => arrays.foldl State.stopArray s | none => s
  s.setPart q { x with outgoing := out, incoming := inc, full := full, sliced := false, last := inc.getD x.last, aborts := 0
                       saving := if out.isSome then arrays else [], restoring := if out.isSome then [] else arrays }

/-- R388: whether an array stands at a tile boundary. -/
def ArrayState.atBoundary (a : ArrayState) : Bool := !a.tiles.any (fun t => t.state == 1)

/-- R388, R399: whether the resident context must leave: it has no work, its event ring is stalled, its quantum has ended or it
yielded while another of its priority is ready, or one of a lower priority value is ready. -/
def State.mustLeave (s : State) (q r : Nat) : Bool :=
  let yields := (s.ctxArrays r).any (fun p => (s.arr p).ctrl.yielding && (s.arr p).atBoundary)
  let next := s.nextReady q
  !s.workLeft r || s.flag (rCpEvtStatus r) 2
    || (match next with
      | some n => decide (s.prio n < s.prio r) || (((s.part q).sliced || yields) && decide (s.prio n = s.prio r))
      | none => false)

/-- R388: one scheduling decision for a partition. -/
def State.schedule (s : State) (q : Nat) : State :=
  let x := s.part q
  if !s.flag (rDspPartCtl q) 31 ∨ x.outgoing.isSome ∨ x.incoming.isSome then s
  else
    let s := (s.ctxsOf q).foldl (fun s c => if s.ctxState c = 1 ∧ s.workLeft c then s.setCtxState c 2 else s) s
    match s.resident q with
    | none => (match s.nextReady q with | some n => s.startSwitch q none (some n) | none => s)
    | some r =>
      if s.mustLeave q r then s.startSwitch q (some r) (s.nextReady q)
      else
        let s := s.setPart q { s.part q with sliced := false }
        (s.ctxArrays r).foldl (fun s p => s.modCtrl p (fun c => { c with yielding := false })) s

/-- Scheduling decisions for every partition. -/
def State.dispatch (s : State) : State := (List.range 16).foldl State.schedule s

/-- R391: the first address of the save block of a rank. -/
def State.saveBlock (s : State) (c rank : Nat) : Nat :=
  let cls := s.fld (rDspCtxCtl c) 21 20
  let base := s.fld (rDspCtxSave c) 31 16 * 0x10000 + s.fld (rDspCtxSave c + 4) 15 0 * 2 ^ 32
  base + rank * (if cls = 0 then 0xA0000 else if cls = 1 then 0x4100000 else 0x14100000)

/-- The rank of a logical array in a context's partition. -/
def State.rankOf (s : State) (c n : Nat) : Nat := n - (s.partRange (s.ctxPart c)).1

/-- R390: whether an offset in a slate belongs to a context's ranges. -/
def State.inSlate (s : State) (c b : Nat) : Bool :=
  let a := s.slAlloc c
  let k := s.parkAlloc c
  (decide (a.1 ≤ b) && decide (b < a.1 + a.2)) || (decide (k.1 * 16 ≤ b) && decide (b < (k.1 + k.2) * 16))

/-- Bytes and check states of one region copied onto another, for the addresses a test picks by their offset. -/
def State.copyRegion (s : State) (src dst len : Nat) (pick : Nat → Bool) : State :=
  let inR (b a : Nat) : Bool := decide (b ≤ a) && decide (a < b + len) && pick (a - b)
  let kept := s.mem.filter (fun c => !inR dst c.1)
  let moved := (s.mem.filter (fun c => inR src c.1)).map (fun c => (c.1 - src + dst, c.2))
  let keptC := s.memst.check.filter (fun c => !inR dst (c.1 * 8))
  let movedC := (s.memst.check.filter (fun c => inR src (c.1 * 8))).map (fun c => ((c.1 * 8 - src + dst) / 8, c.2))
  { s with mem := moved.foldl (fun m c => tblSet 0#8 m c.1 c.2) kept
           memst := { s.memst with check := movedC.foldl (fun m c => tblSet Check.clean m c.1 c.2) keptC } }

/-- Whether a region holds a poisoned or uncorrectable word at a picked offset. -/
def State.regionBad (s : State) (a len : Nat) (pick : Nat → Bool) : Bool :=
  s.memst.check.any (fun c => decide (a ≤ c.1 * 8) && decide (c.1 * 8 < a + len) && pick (c.1 * 8 - a)
    && c.2.bad)

/-- R391: a switch meets a poisoned word in a save area: code 0x96, and the context is faulted. -/
def State.savePoison (s : State) (c a : Nat) : State :=
  (s.postCtx c 0x0C 0x96 2 s.dspSource (dspPayload 0 0 0 0 0 a)).ctxFault c 0x0C 0x96

/-- R298: the counters of an array's owner move into its saved counters, and the banks are cleared. -/
def State.saveCounters (s : State) (p : Nat) : State :=
  let a := s.arr p
  match s.logOf p with
  | none => s
  | some n =>
    let x := s.ctx a.ctrl.ctx
    let sc := if a.counters.isEmpty then x.savedCounters else tblPut x.savedCounters (2 ^ 20 + n) a.counters
    let sc := (s.coresOf n).foldl (fun t c => if c.2.counters.isEmpty then t else tblPut t c.1 c.2.counters) sc
    let s := s.setCtx a.ctrl.ctx { x with savedCounters := sc }
    let s := s.setArr p { a with counters := [], lastSrc := [] }
    { s with cores := s.cores.map (fun (c : Nat × CoreState) => if c.1 / 65536 = n then (c.1, { c.2 with counters := [], lastSrc := [] }) else c) }

/-- R298: a context's saved counters, with diverted signals added, return to the banks of an array. -/
def State.restoreCounters (s : State) (p c : Nat) : State :=
  match s.logOf p with
  | none => s
  | some n =>
    let x := s.ctx c
    let mine (k : Nat) : Bool := k == 2 ^ 20 + n || (decide (k < 2 ^ 20) && k / 65536 == n)
    let s := s.modArr p (fun a => { a with counters := tblGet [] x.savedCounters (2 ^ 20 + n) })
    let s := (x.savedCounters.filter (fun e => decide (e.1 < 2 ^ 20) && e.1 / 65536 == n)).foldl (fun s e =>
      s.setCore e.1 { s.core e.1 with counters := e.2 }) s
    s.setCtx c { s.ctx c with savedCounters := x.savedCounters.filter (fun (e : Nat × Tbl (BitVec 16)) => !mine e.1) }

/-- R389, R145, R369: whether an array has stopped: no streaming pass or replay; its run ended, or frozen with no traffic outstanding; its chain stopped; and
no transfer of its units in progress but those that wait on a translation fault (R226, R265). A chain that a fault of its context stopped has
ended (R184). -/
def State.stopped (s : State) (p : Nat) : Bool :=
  let a := s.arr p
  let n := (s.logOf p).getD 0
  let waits (unit : Nat) : Bool := s.memst.stalled.any (fun x => x.array == p && x.unit == unit && x.ctx == a.ctrl.ctx)
  a.atBoundary && !s.replayOn p && (a.feed.isNone || waits 3)
    && (a.dmas.isEmpty || (waits 7 && a.dmaSent.isEmpty))
    && (match a.vec.running with
      | none => true
      | some r => s.ctxState r.ctx != 5 && (a.vec.frozen || waits 5 || waits 6))
    && (!a.run.running || (a.run.frozen && (s.coresOf n).all (fun c => c.2.fills.isEmpty && c.2.putsOut == 0 && c.2.getsOut == 0)
      && !s.mesh.any (meshTouches n)))

/-- R226, R265: the queues of an array with the transfers that wait on a translation fault back at their heads. -/
def ArrayState.requeued (a : ArrayState) : ArrayState :=
  { a with aq := a.feed.toList ++ a.aq, dq := a.dmas ++ a.dq, dmas := [], feed := none
           shadow := if a.fillsShadow then none else a.shadow }

/-- Bytes of a region set to zero, and its check states clean. -/
def State.clearRegion (s : State) (a len : Nat) : State :=
  { s with mem := s.mem.filter (fun c => !(decide (a ≤ c.1) && decide (c.1 < a + len)))
           memst := { s.memst with check := s.memst.check.filter (fun c => !(decide (a ≤ c.1 * 8) && decide (c.1 * 8 < a + len))) } }

/-- R145, R391: the images of a frozen run's cores, 1,024 bytes per core in core ID order, are written to the save area; a core without
state is an image of zeros. -/
def State.saveCores (s : State) (a n : Nat) : State :=
  (s.coresOf n).foldl (fun s c => (s.wrBytes (a + 1024 * (c.1 % 65536)) (c.2.image s.free)).drawn) (s.clearRegion a 0x4000000)

/-- An array as a switch leaves it: its controller, queues and engines at rest. Writes of chains that wait for the commit of tiles in its
slots stay with those tiles (R103). -/
def ArrayState.vacated (a : ArrayState) : ArrayState :=
  { a with ctrl := { Ctrl.reset with seq := a.ctrl.seq }, aq := [], vq := [], dq := [], dmas := [], restarts := [], red := none
           vec := { VecEng.idle with pendingSeq := a.vec.pendingSeq }, run := RunState.idle }

/-- Whether a context goes back to work when it leaves: ready, or idle. -/
def State.leaveState (s : State) (c : Nat) : State :=
  if s.ctxState c = 4 then s.setCtxState c (if s.workLeft c then 2 else 1) else s

/-- R390, R400, R402: the switch is complete when no array has still to save or to restore; code 0x9C tells the passes that it aborted. -/
def State.switchEnd (s : State) (q : Nat) : State :=
  let x := s.part q
  let s := if x.saving.isEmpty then
      match x.outgoing with
      | some o =>
        let r := rDspCtxSwitches o
        let s := if x.full then s.setFld r 31 16 (satAdd 16 (s.fld r 31 16) 1) else s.setFld r 15 0 (satAdd 16 (s.fld r 15 0) 1)
        let s := if x.aborts = 0 then s else s.postCtx o 0x0C 0x9C 0 s.dspSource (dspPayload 0 0 0 x.aborts 0 0)
        ((s.leaveState o).setPart q { x with outgoing := none }).setFld (rDspPartCtl q) 25 16 0x3FF
      | none => s
    else s
  let x := s.part q
  if x.outgoing.isNone ∧ x.restoring.isEmpty then
    match x.incoming with
    | some i =>
      let s := s.setPart q { x with incoming := none, since := s.now.toNat }
      if s.ctxState i = 4 then (s.setCtxState i 3).setFld (rDspPartCtl q) 25 16 i else s
    | none => s
  else s

/-- R390, R391: one array of the outgoing context is saved: controller, queues, vector engine, restarts, a reduction, counters; a frozen run
with its cores; slates where a full switch must save them: with a frozen run, or where the incoming context's ranges meet them. -/
def State.saveArray (s : State) (q p c : Nat) : State :=
  let n := (s.logOf p).getD 0
  let rank := s.rankOf c n
  let frozen := (s.arr p).run.frozen
  let full := s.fld (rDspCtxCtl c) 21 20 == 2 && (frozen || (match (s.part q).incoming with | some i => s.slatesMeet c i | none => false))
  let pick (o : Nat) : Bool := s.inSlate c (o % 4096)
  let bad := full && s.regionBad (slateBase (n * 65536)) 0x10000000 pick
  let s := if full then s.copyRegion (slateBase (n * 65536)) (s.saveBlock c rank + 0x4100000) 0x10000000 pick else s
  let cores := if frozen then s.coresOf n else []
  let s := if frozen then s.saveCores (s.saveBlock c rank + 0x100000) n else s
  let s := s.saveCounters p
  let a := (s.arr p).requeued
  let rec_ : SavedArr :=
    { ctrl := a.ctrl, aq := a.aq, vq := a.vq, dq := a.dq, vec := { a.vec with pendingSeq := [] }, run := a.run, cores := cores
      restart := a.restarts, red := a.red, slates := full }
  let x := s.ctx c
  let s := s.setCtx c { x with saved := tblPut x.saved rank rec_ }
  let s := s.setArr p a.vacated
  let s := if frozen then
      { (s.setFld (rAryCmStatus p) 31 30 0) with cores := s.cores.filter (fun e => e.1 / 65536 != n) }
    else s
  if bad then s.savePoison c (s.saveBlock c rank + 0x4100000) else s

/-- R391, R298, R226: one array of the incoming context is restored, or starts with nothing saved; a poisoned save area faults the
context. Stalled accesses are made again. -/
def State.restoreArray (s : State) (p c : Nat) : State :=
  let n := (s.logOf p).getD 0
  let rank := s.rankOf c n
  let x := s.ctx c
  let s := s.saveCounters p
  let a := s.arr p
  let blk := s.saveBlock c rank
  let sv := tblFind x.saved rank
  let bad := match sv with
    | some (v : SavedArr) => s.regionBad blk 0x20000 (fun _ => true)
        || (!v.cores.isEmpty && s.regionBad (blk + 0x100000) 0x4000000 (fun _ => true))
        || (v.slates && s.regionBad (blk + 0x4100000) 0x10000000 (fun o => s.inSlate c (o % 4096)))
    | none => false
  if bad then s.savePoison c blk
  else
    let s := match sv with
      | some (v : SavedArr) =>
        let s := if v.slates then s.copyRegion (blk + 0x4100000) (slateBase (n * 65536)) 0x10000000 (fun o => s.inSlate c (o % 4096)) else s
        let ctrl := { v.ctrl with state := if v.ctrl.state = 2 then 1 else v.ctrl.state, seq := Nat.max v.ctrl.seq a.ctrl.seq
                                  icache := [], dcache := []
                                  launchLate := match v.ctrl.launch with
                                    | some t => if qtzReached (s.localTime p) t then (5 :: v.ctrl.launchLate).eraseDups else v.ctrl.launchLate
                                    | none => v.ctrl.launchLate }
        let late (e : QEntry) : QEntry :=
          if e.due.isSome then { e with late := (5 :: e.late).eraseDups }
          else match e.launch with
            | some t =>
              let g := s.launchGangOf p v.ctrl e
              let t := if g.1.log2 = 0 then t else launchPoint t g.2 g.1.stagger
              if qtzReached (s.localTime p) t then { e with late := (5 :: e.late).eraseDups } else e
            | none => e
        let s := s.setArr p { a with ctrl := ctrl, aq := v.aq.map late, vq := v.vq.map late, dq := v.dq.map late, dmas := [], restarts := v.restart
                                     red := v.red, run := { v.run with frozen := false }
                                     vec := { v.vec with frozen := false, pendingSeq := a.vec.pendingSeq, reruns := v.vec.reruns ++ a.vec.reruns } }
        let cores := v.cores.map (fun (e : Nat × CoreState) => (e.1, if e.2.status = 4 then { e.2 with status := 1 } else e.2))
        let s := { s with cores := cores.foldl (fun (t : Tbl CoreState) (e : Nat × CoreState) => tblPut t e.1 e.2) s.cores }
        let s := if v.run.running then s.setFld (rAryCmStatus p) 31 30 2 else s
        s.setCtx c { s.ctx c with saved := tblDel (s.ctx c).saved rank }
      | none => s.setArr p { a.vacated with ctrl := { Ctrl.reset with seq := a.ctrl.seq, ctx := c, gen := s.ctxGen c } }
    let s := s.restoreCounters p c
    let m := s.memst.stalled.filter (fun (e : Stalled) => !(e.ctx == c && e.array == p && decide (e.unit ≤ 7)))
    let s := { s with memst := { s.memst with stalled := m } }
    let s := if m.any (fun e => e.ctx == c) || (s.ring c).blocked then s else s.markStalled c false
    s.advanceQ p

end Sys2Proof.Machine
end

