-- ==== Sys2Proof/Machine/Contexts.lean ====
section
/-!
DEFINITION. Contexts, command rings and partitions (11_contexts R375 to R399): enabling and reset, doorbells, commands,
program ends, partitions, switches, and event-ring reads.
-/
namespace Sys2Proof.Machine

/-- Bytes of save area of a class for one array (R391). -/
def saveStride (cls : Nat) : Nat := if cls = 0 then 0xA0000 else if cls = 1 then 0x4100000 else 0x14100000

/-- R378, R407: whether a host function is enabled: the physical function of an enabled port, or one of its enabled virtual
functions. -/
def State.funcEnabled (s : State) (h fn : Nat) : Bool :=
  s.flag rGlbHostEn h && (fn == 0 || ((s.hport h).vfEnable && decide (fn ≤ (s.hport h).numVfs)))

/-- R376: the first check of a binding that fails, if any. -/
def State.bindCheck (s : State) (c : Nat) : Option Nat :=
  let q := s.ctxPart c
  let others := (s.ctxsOf q).filter (fun d => d != c)
  let cls := s.fld (rDspCtxCtl c) 21 20
  let save := s.saveBlock c 0
  let ring := (s.fld (rChkCtxRing c) 9 0 * 0x10000, s.fld (rChkCtxRing c) 26 16 * 0x10000)
  let es := s.esAlloc c
  let func := (s.reg (rDspCtxFunc c)).toNat
  let swaps (d : Nat) : Bool := s.flag (rDspCtxCtl d) 19
  if !s.flag (rDspPartCtl q) 31 then some 1
  else if 3 ≤ cls ∨ s.hbmCap < save + saveStride cls * (s.partRange q).2 then some 2
  else if others.any (fun d => rangesMeet es (s.esAlloc d)) then some 3
  else if others.any (fun d => s.slatesMeet c d && !(swaps c && swaps d && cls == 2 && s.fld (rDspCtxCtl d) 21 20 == 2)) then some 4
  else if (s.slAlloc c).2 ≠ 0 ∧ cls = 0 then some 5
  else if func.testBit 31 ∧ (!s.funcEnabled (bitsOf func 18 16) (bitsOf func 8 0) ∨
      (List.range 512).any (fun d => d != c && s.flag (rDspCtxCtl d) 30 && s.reg (rDspCtxFunc d) == s.reg (rDspCtxFunc c))) then some 6
  else if ring.2 ≠ 0 ∧ !(decide (es.1 ≤ ring.1) && decide (ring.1 + ring.2 ≤ es.1 + es.2)) then some 7
  else none

/-- R376: enable a context, or refuse with class 0x0C code 0x94. -/
def State.ctxEnable (s : State) (c : Nat) : State :=
  match s.bindCheck c with
  | some n => (s.setFlag (rDspCtxCtl c) 30 false).postDev 0x0C 0x94 0 s.dspSource (dspPayload 0 0 n 0 0 0)
  | none => if s.ctxState c = 0 then s.setCtxState c 1 else s

/-- R395 step 1: a context is stopped; its uncommitted and held tiles go with their dependants. -/
def State.ctxStop (s : State) (c : Nat) : State :=
  let s := (s.ctxArrays c).foldl (fun s p =>
    let s := if s.residentAt p = some c then
        (s.modArr p (fun a => let b := discardQueues (abortArray a)
          { b with ctrl := { b.ctrl with state := 0, blocked := .no, ended := false }, red := none
                   vec := VecEng.idle
                   run := { b.run with stopped := true } })).stopRun p false
      else s
    s.modArr p (fun a => { a with
      tiles := a.tiles.map (fun t => if t.ctx = c ∧ t.state ≠ 0 then Tile.free else t)
      restarts := a.restarts.filter (fun t => t.ctx != c) })) s
  let q := s.ctxPart c
  if s.resident q = some c then s.setFld (rDspPartCtl q) 25 16 0x3FF else s

/-- R395: a context reset starts; a request during a reset is ignored. -/
def State.ctxReset (s : State) (c : Nat) : State :=
  if s.ctxState c = 6 then s
  else
    let s := s.ctxStop c
    (s.setCtx c { s.ctx c with fetchStopped := true, resetTail := 0 }).setCtxState c 6

/-- R395 step 2: whether a transfer, window access, signal, run or switch of a context is in flight. -/
def State.ctxInFlight (s : State) (c : Nat) : Bool :=
  let x := s.part (s.ctxPart c)
  s.memst.winq.any (fun a => a.ctx == c) || s.signals.any (fun g => g.ctx == c)
    || x.outgoing == some c || x.incoming == some c
    || (s.ctxArrays c).any (fun p => (s.arr p).ctrl.ctx == c && (!(s.arr p).dmas.isEmpty || (s.arr p).run.running))
    || (match s.integ.rde with | some r => r.ctx == c && !r.waitStep | none => false)

/-- R395 step 2: what is still in flight after 200 µs is abandoned, and counted as stale. -/
def State.abandon (s : State) (c : Nat) : State :=
  let n := (s.memst.winq.filter (fun a => a.ctx == c)).length + (s.signals.filter (fun g => g.ctx == c)).length
  let arrays := (s.ctxArrays c).filter (fun p => (s.arr p).ctrl.ctx == c)
  let s := arrays.foldl (fun s p =>
    let s := s.modArr p (fun a => { a with dmas := [], dmaSent := [], run := ArrayState.reset.run })
    (s.setFlag (rAryCmStatus p) 31 false).setFlag (rAryCmStatus p) 30 false) s
  let logs := arrays.filterMap s.logOf
  let s := { s with
    memst := { s.memst with winq := s.memst.winq.filter (fun a => a.ctx != c) }
    signals := s.signals.filter (fun g => g.ctx != c)
    mesh := s.mesh.filter (fun m => !logs.any (fun k => meshTouches k m))
    fab := { s.fab with txns := s.fab.txns.filter (fun t => t.acc.ctx != c) }
    integ := { s.integ with rde := match s.integ.rde with | some r => if r.ctx = c then none else some r | none => none } }
  let q := s.ctxPart c
  let x : PartState := s.part q
  let s := if x.outgoing = some c then
      (s.setPart q { x with outgoing := none, saving := [], restoring := x.restoring ++ x.saving }).switchEnd q
    else if x.incoming = some c then s.setPart q { x with incoming := none, restoring := [] }
    else s
  s.bump (rDspCtxStale c) n

/-- R299: the counters of a context on one array, in the order of the check: controller counters, then cores by core ID. -/
def State.residueOf (s : State) (c n : Nat) : List (Nat × Nat × Nat × Nat) :=
  let x := (s.ctx c).savedCounters
  let ctrl := (tblGet [] x (2 ^ 20 + n)).map (fun (e : Nat × BitVec 16) => (1, e.1, n * 65536, e.2.toNat))
  let cores := (x.filter (fun (e : Nat × Tbl (BitVec 16)) => decide (e.1 < 2 ^ 20) && e.1 / 65536 == n)).flatMap
    (fun (e : Nat × Tbl (BitVec 16)) => e.2.map (fun (k : Nat × BitVec 16) => (0, k.1, e.1, k.2.toNat)))
  (ctrl ++ cores).filter (fun r => r.2.2.2 != 0)

/-- R299: the counter-residue check: one event for each array that holds a non-zero counter; every counter is cleared. -/
def State.residueCheck (s : State) (c : Nat) : State :=
  let s := (s.ctxArrays c).foldl (fun s p => if (s.arr p).ctrl.ctx = c then s.saveCounters p else s) s
  let r := s.partRange (s.ctxPart c)
  let s := (List.range r.2).foldl (fun s i =>
    match s.residueOf c (r.1 + i) with
    | (kind, num, place, v) :: rest =>
      (s.postCtx c 0x03 3 2 s.dspSource (payloadOf [(16, 1, kind), (17, 1, num), (20, 4, place), (24, 2, v), (28, 4, rest.length + 1)])).bump
        rQtzSigFaultCnt 1
    | [] => s) s
  s.setCtx c { s.ctx c with savedCounters := [] }

/-- R395 steps 3 to 8. A tail written during the reset stands (R401). -/
def State.ctxResetEnd (s : State) (c : Nat) : State :=
  let s := s.closeWindowsOf c
  let s := s.residueCheck c
  let fn := s.fld (rDspCtxFunc c) 8 0
  let port := s.boundPort c
  let s := { s with memst := { s.memst with
    tlb := s.memst.tlb.map (fun (e : Nat × List TlbEntry) => (e.1, e.2.filter (fun t => t.ctx != c)))
    atc := match port with
      | some h => tblPut s.memst.atc h ((tblGet [] s.memst.atc h).filter (fun e => e.1 != fn))
      | none => s.memst.atc
    stalled := s.memst.stalled.filter (fun x => x.ctx != c) } }
  let s := if (s.ring c).blocked then s else s.markStalled c false
  let g := (s.ctxGen c + 1) % 256
  let s := (s.setFld (rDspCtxCtl c) 15 8 g).setFld (rCpStatus c) 23 16 g
  let s := s.setReg64 (rDspCtxSrkey c) 0
  let s := (s.setFlag (rChkCtxStatus c) 31 false).setFlag (rChkCtxStatus c) 30 false
  let s := (s.setFld (rChkCtxStatus c) 29 26 0).setReg (rChkCtxStep c) 0#32
  let s := (s.setReg (rChkCtxAgreed c) 0#32).setReg (rDspCtxRewind c) 0#32
  let s := { s with integ := { s.integ with steps := tblDel s.integ.steps c } }
  let s := (s.setReg (rDspCtxFetch c) 0#32).setReg (rCpRingHead c) 0#32
  let s := (s.setCtx c { CtxState.reset with tail := (s.ctx c).resetTail }).setFld (rCpStatus c) 15 0 0
  let s := { s with arrays := s.arrays.map (fun (e : Nat × ArrayState) => (e.1, { e.2 with lastOsn := tblDel e.2.lastOsn c })) }
  let s := s.postCtx c 0x0C 0x9B 0 s.dspSource (dspPayload 0 0 0 0 0 0)
  s.setCtxState c (if s.flag (rDspCtxCtl c) 30 then 1 else 0)

/-- R395: the wait of step 2 ends, by itself or after 200 µs. -/
def execResetTransferWaitEnd (c : CtxId) (expired : Bool) (s : State) : Out :=
  .next (
    if s.ctxState c.val ≠ 6 then s
    else if !s.ctxInFlight c.val then (s.ctxResetEnd c.val).dispatch
    else if expired then ((s.abandon c.val).ctxResetEnd c.val).dispatch
    else s)

/-- DSP_CTX_CTL: enable (R376), disable and reset (R377, R395). While the context is enabled, partition, save_class and
slate_swap stay. -/
def ctxCtl (c : Nat) : RegEffect :=
  { RegEffect.plain with
    keep := fun s v =>
      let old := (s.reg (rDspCtxCtl c)).toNat
      if !old.testBit 30 then (v, none)
      else
        let w := setBits v 25 19 (bitsOf old 25 19)
        (w, if w = v then none else some 4)
    act := fun s _ old acted =>
      let on := s.flag (rDspCtxCtl c) 30
      let s := if on ∧ !old.testBit 30 then s.ctxEnable c
        else if !on ∧ old.testBit 30 then s.ctxReset c
        else s
      (if acted.testBit 31 then s.ctxReset c else s).dispatch }

/-- A write of DSP_CTX_CTL that sets enable. -/
def execContextEnable (req : Requester) (c : CtxId) (v : Word) (s : State) : Out := .next (s.regWrite req (rDspCtxCtl c.val) v.toNat (ctxCtl c.val))

/-- A write of DSP_CTX_CTL that clears enable. -/
def execContextDisable (req : Requester) (c : CtxId) (v : Word) (s : State) : Out := .next (s.regWrite req (rDspCtxCtl c.val) v.toNat (ctxCtl c.val))

/-- A write of DSP_CTX_CTL with reset set. -/
def execContextReset (req : Requester) (c : CtxId) (v : Word) (s : State) : Out := .next (s.regWrite req (rDspCtxCtl c.val) v.toNat (ctxCtl c.val))

/-- CP_CTL.reset: the tenant's request for a reset of its context. -/
def cpCtl (c : Nat) : RegEffect :=
  { RegEffect.plain with act := fun s _ _ acted => if acted.testBit 0 then (s.ctxReset c).dispatch else s }

/-- A write of CP_CTL. -/
def execCpResetRequest (req : Requester) (c : CtxId) (v : Word) (s : State) : Out := .next (s.regWrite req (rCpCtl c.val) v.toNat (cpCtl c.val))

/-- R377: a register of the binding: its writes are dropped while the context is enabled. -/
def bindingReg (c : Nat) : RegEffect :=
  { RegEffect.plain with veto := fun s _ _ _ => if s.flag (rDspCtxCtl c) 30 then some 4 else none }

/-- R393: a minimum that takes the sum of any link kind above 200 is dropped. -/
def bwMinReg (c : Nat) : RegEffect :=
  { RegEffect.plain with
    veto := fun s _ v _ =>
      let sum (hi : Nat) := bitsOf v hi (hi - 7) + sumTo 512 (fun d => if d ≠ c ∧ s.flag (rDspCtxCtl d) 30 then s.fld (rDspCtxBwmin d) hi (hi - 7) else 0)
      if 200 < sum 23 ∨ 200 < sum 15 ∨ 200 < sum 7 then some 3 else none }

/-- R372: the replay ring must lie inside the context's edge-store allocation. -/
def chkRingReg (c : Nat) : RegEffect :=
  { RegEffect.plain with
    veto := fun s _ v _ =>
      let es := s.esAlloc c
      let a := bitsOf v 9 0 * 0x10000
      let n := bitsOf v 26 16 * 0x10000
      if n ≠ 0 ∧ !(decide (es.1 ≤ a) && decide (a + n ≤ es.1 + es.2)) then some 3 else none }

/-- R379: CP_DOORBELL: a tail is accepted when it lies at most E above head and not below fetch. During a reset, head and fetch count as the
0 that the reset leaves, and the tail stands after it (R401). -/
def doorbellReg (c : Nat) : RegEffect :=
  { RegEffect.plain with
    act := fun s _ _ acted =>
      let st := s.ctxState c
      if st = 0 then s
      else if st = 6 then
        (if s.ringEntries c < acted then s.postCtx c 0x0C 0x92 0 s.dspSource (dspPayload acted 0 0 0 0 0)
        else s.setCtx c { s.ctx c with resetTail := acted })
      else
        let t := acted
        if s.ringEntries c < cnt32 t (s.headIdx c) ∨ 2 ^ 31 ≤ cnt32 t (s.fetchIdx c) then
          s.postCtx c 0x0C 0x92 0 s.dspSource (dspPayload t 0 0 0 0 0)
        else (s.setCtx c { s.ctx c with tail := t }).dispatch }

/-- R378: an access of a function that is bound to no enabled context is dropped: class 0x0E code 0x07. -/
def State.unboundDrop (s : State) (h fn addr : Nat) : State :=
  ((s.bump (rHstUnbound h) 1).postDev 0x0E 7 0 (s.hostSource h) (payloadOf [(16, 1, h), (17, 2, fn), (20, 8, addr), (28, 4, 1)])).msixRaise h 0 4

/-- A write of CP_DOORBELL. -/
def execDoorbell (req : Requester) (c : CtxId) (v : Word) (s : State) : Out :=
  .next (match req with
    | .vf h fn => if s.reaches req (rCpDoorbell c.val) ∧ s.flag (rDspCtxCtl c.val) 30 then s.regWrite req (rCpDoorbell c.val) v.toNat (doorbellReg c.val)
        else s.unboundDrop h fn 0
    | _ => s.regWrite req (rCpDoorbell c.val) v.toNat (doorbellReg c.val))

/-- R398: the dispatched-commands bound is met: cmd_wm, code 0x99 under its own limit, and the count. -/
def State.cmdCrossing (s : State) (c : Nat) : State :=
  let s := (s.setFlag (rCpEvtStatus c) 3 true).bump (rCpCmdCross c) 1
  let g := s.ring c
  if g.hold99 then s.setRing c { g with held99 := g.held99 + 1 }
  else (s.setRing c { g with hold99 := true }).ringPost c (crossRec s c 0x99 1 256)

/-- R381: whether bytes [a, a + n) of a command are zero. -/
def zeroAt (bs : List Byte) (a n : Nat) : Bool := leAt bs a n == 0

/-- R381, R384: the fault of a command: 0x90 malformed, 0x91 mask outside the partition. -/
def State.cmdCheck (s : State) (c : Nat) (bs : List Byte) : Option Nat :=
  let op := leAt bs 0 1
  let mask := leAt bs 2 2
  let a := leAt bs 8 8
  let size := (s.partRange (s.ctxPart c)).2
  if 4 ≤ op ∨ 8 ≤ leAt bs 1 1 then some 0x90
  else match op with
    | 0 => if zeroAt bs 8 56 && mask == 0 then none else some 0x90
    | 1 => if a % 4 ≠ 0 ∨ 2 ^ 48 ≤ a ∨ mask = 0 then some 0x90 else if 2 ^ size ≤ mask then some 0x91 else none
    | 2 => if zeroAt bs 16 48 && mask == 0 then none else some 0x90
    | _ => if a % 8 ≠ 0 ∨ 2 ^ 48 ≤ a ∨ mask ≠ 0 ∨ !zeroAt bs 24 40 then some 0x90 else none

/-- R380, R265: the dispatcher's ring read or write command meets a translation fault: code 0x93, and the context waits for
MMU_FAULT_RESUME. -/
def State.dspStall (s : State) (c va code index : Nat) (k : AccKind) : State :=
  let s := s.postCtx c 0x0C 0x93 2 s.dspSource (dspPayload index 0 code 0 0 va)
  let s := s.markStalled c true
  { s with memst := { s.memst with stalled := s.memst.stalled ++ [⟨c, 12, 18, va, k, code⟩] } }

/-- Whether the dispatcher waits for MMU_FAULT_RESUME on an access of a context. -/
def State.dspStalled (s : State) (c : Nat) : Bool := s.memst.stalled.any (fun x => x.ctx == c && x.unit == 12)

/-- R380 to R384: the dispatcher fetches the next command of a context. -/
def execCommandFetch (c : CtxId) (s : State) : Out :=
  .next (
    let c := c.val
    let st := s.ctxState c
    let f := s.fetchIdx c
    let x := s.ctx c
    if st = 0 ∨ st = 5 ∨ st = 6 ∨ x.fetchStopped ∨ f = x.tail ∨ 256 ≤ cnt32 f (s.headIdx c) ∨ s.dspStalled c then s
    else match s.access ⟨c, none, .read, 3⟩ (s.ringVa c f) with
      | .fault code .. => s.dspStall c (s.ringVa c f) code f .read
      | .ok pa =>
        let s := s.readChecks (some c) pa 64
        let bad := s.badIn pa 64
        let bs := s.rdBytes pa 64
        let s := s.setReg (rDspCtxFetch c) (BitVec.ofNat 32 (f + 1))
        match (if bad then some 0x90 else s.cmdCheck c bs) with
        | some code => s.cmdFault c code f (leAt bs 4 4) 0
        | none =>
          let todo := if leAt bs 0 1 = 1 then (List.range 16).filter (fun i => (leAt bs 2 2).testBit i) else []
          let s := s.setCtx c { x with cmds := x.cmds ++ [⟨f, bs, false, todo, [], false⟩] }
          let s := if cnt32 (f + 1) (s.headIdx c) = 256 then s.cmdCrossing c else s
          s.dispatch)

/-- A fetched command and those before it. -/
def State.cmdAt (s : State) (c index : Nat) : Option (Cmd × List Cmd) :=
  let l := (s.ctx c).cmds
  match l.find? (fun k => k.index == index) with
  | some k => some (k, l.takeWhile (fun j => j.index != index))
  | none => none

/-- R383: whether a command may start: no earlier time command is open, and with a fence, or for a write, every earlier command
has completed. -/
def cmdMayStart (k : Cmd) (before : List Cmd) : Bool :=
  !k.done && before.all (fun j => j.done || (j.op != 2 && !k.flag 0 && k.op != 3))

/-- After a command has completed: retire, and schedule. -/
def State.cmdEnd (s : State) (c index : Nat) : State := ((s.cmdDone c index).retireAll c).dispatch

/-- nop: it completes. -/
def execCmdNop (c : CtxId) (index : Word) (s : State) : Out :=
  .next (match s.cmdAt c.val index.toNat with
    | some (k, before) => if k.op = 0 ∧ s.ctxState c.val = 3 ∧ cmdMayStart k before then s.cmdEnd c.val index.toNat else s
    | none => s)

/-- time: it completes at once when Quartz has reached T, else it waits. -/
def execCmdTime (c : CtxId) (index : Word) (s : State) : Out :=
  .next (match s.cmdAt c.val index.toNat with
    | some (k, before) =>
      if k.op = 2 ∧ s.ctxState c.val = 3 ∧ !k.started ∧ cmdMayStart k before then
        if qtzReached s.now (BitVec.ofNat 64 (leAt k.bytes 8 8)) then s.cmdEnd c.val index.toNat
        else s.setCtx c.val { s.ctx c.val with cmds := (s.ctx c.val).cmds.map (fun j => if j.index = index.toNat then { j with started := true } else j) }
      else s
    | none => s)

/-- A time command that waits completes when Quartz reaches T. -/
def execCmdTimeExpiry (c : CtxId) (index : Word) (t : DWord) (s : State) : Out :=
  .next (
    let s := s.clock t
    match s.cmdAt c.val index.toNat with
    | some (k, _) =>
      if k.op = 2 ∧ k.started ∧ !k.done ∧ qtzReached s.now (BitVec.ofNat 64 (leAt k.bytes 8 8)) then s.cmdEnd c.val index.toNat else s
    | none => s)

/-- write: an 8-byte store in the context's own memory; an address in a window is a command fault. -/
def execCmdWrite (c : CtxId) (index : Word) (s : State) : Out :=
  .next (match s.cmdAt c.val index.toNat with
    | some (k, before) =>
      let c := c.val
      if k.op = 3 ∧ s.ctxState c = 3 ∧ cmdMayStart k before ∧ !s.dspStalled c then
        let va := leAt k.bytes 8 8
        match s.access ⟨c, none, .write, 3⟩ va with
        | .fault code .. => s.dspStall c va code k.index .write
        | .ok pa =>
          let bs := sliceBytes k.bytes 16 8
          match s.place pa with
          | .aperture .. => s.cmdFault c 0x90 k.index k.tag va
          | .host off => (s.hostWrite c va off bs false).cmdEnd c k.index
          | _ =>
            if s.heldHit pa 8 then s.heldRefuse c 12 18 va pa
            else (s.store (some c) pa bs).cmdEnd c k.index
      else s
    | none => s)

/-- R382: the run argument record of a command for a rank. -/
def runRecord (k : Cmd) (rank : Nat) : List Byte :=
  sliceBytes k.bytes 16 48 ++ bytesOf 16 (k.index + k.tag * 2 ^ 32 + popCount rank k.mask * 2 ^ 64 + popCount 16 k.mask * 2 ^ 72)

/-- R382, R383, R190: a run starts its program on one array of its mask; it is held while the array has a stop request (R389) or is being
remapped (R26). -/
def execCmdRun (c : CtxId) (index : Word) (rank : Fin 16) (s : State) : Out :=
  .next (match s.cmdAt c.val index.toNat with
    | some (k, before) =>
      let c := c.val
      let first := (s.partRange (s.ctxPart c)).1
      match s.physOf (first + rank.val) with
      | none => s
      | some p =>
        let a := s.arr p
        if k.op ≠ 1 ∨ !cmdMayStart k before ∨ !k.todo.contains rank.val ∨ s.residentAt p ≠ some c ∨ a.ctrl.state ≠ 0 ∨ s.stopping p ∨
            s.brp.remaps.any (fun r => r.logical == first + rank.val) ∨ before.any (fun j => j.todo.contains rank.val || j.running.contains rank.val) then s
        else
          let s := s.wrBytes (esBase (first + rank.val) + (s.esAlloc c).1) (runRecord k rank.val)
          let o := a.ctrl
          let s := s.setArr p { a with usedCtrl := true, ctrl := { Ctrl.reset with
            state := 1, pc := BitVec.ofNat 48 (leAt k.bytes 8 8), ctx := c, gen := s.ctxGen c, step := o.step, stepAt := o.step
            wdig := o.wdig, closed := o.closed, seq := o.seq, startTime := s.localTime p, cmdIndex := k.index } }
          s.setCtx c { s.ctx c with cmds := (s.ctx c).cmds.map (fun j => if j.index = k.index then
            { j with started := true, todo := j.todo.filter (fun r => r != rank.val), running := j.running ++ [rank.val] } else j) }
    | none => s)

/-- R222: whether a program that has ended has no work left. -/
def State.programDone (s : State) (p : Nat) : Bool :=
  let a := s.arr p
  a.ctrl.ended && decide (a.ctrl.state = 1) && a.settled && a.allCommitted && s.storesDone p

/-- R222, R383, R385: the end of a program is reported; a run completes when it has ended on every array of its mask. A program of a
step_end command must have closed exactly one step. -/
def execProgramEndReport (p : ArrayId) (s : State) : Out :=
  .next (
    let s := if (s.arr p.val).ctrl.ended then s.drainStores p.val else s
    if !s.programDone p.val then s
    else
      let k := (s.arr p.val).ctrl
      let c := k.ctx
      let rank := s.rankOf c ((s.logOf p.val).getD 0)
      let s := s.modCtrl p.val (fun k => { k with state := 0, ended := false })
      match s.cmdAt c k.cmdIndex with
      | none => s
      | some (m, _) =>
        if s.flag (rChkCtxCtl c) 3 ∧ m.flag 1 ∧ k.step ≠ k.stepAt + 1 then s.cmdFault c 0x95 m.index m.tag 0
        else
          let run := m.running.filter (fun r => r != rank)
          let s := s.setCtx c { s.ctx c with cmds := (s.ctx c).cmds.map (fun j => if j.index = m.index then { j with running := run } else j) }
          if run.isEmpty ∧ m.todo.isEmpty then s.cmdEnd c m.index else s.dispatch)

/-- R386, R30: whether a block may be a partition: aligned, of arrays that exist, and apart from every other partition. -/
def State.partOk (s : State) (q first l2 : Nat) : Bool :=
  let n := 2 ^ l2
  decide (l2 ≤ 4) && first % n == 0 && decide (first + n ≤ 16) && (List.range n).all (fun i => (s.physOf (first + i)).isSome)
    && (List.range 16).all (fun r => r == q || !rangesMeet (first, n) (s.partRange r))

/-- DSP_PART_CTL: create or destroy a partition (R386). A write that must be dropped leaves the register as it was. -/
def partCtl (q : Nat) : RegEffect :=
  { RegEffect.plain with
    act := fun s _ old _ =>
      let v := (s.reg (rDspPartCtl q)).toNat
      let back := s.setReg (rDspPartCtl q) (BitVec.ofNat 32 old)
      let used := (List.range 512).any (fun c => s.flag (rDspCtxCtl c) 30 && s.ctxPart c == q)
      if v.testBit 31 then
        if bitsOf v 11 0 = bitsOf old 11 0 ∧ old.testBit 31 then s
        else if old.testBit 31 ∧ used then back
        else if back.partOk q (bitsOf v 11 8) (bitsOf v 2 0) then s.setFld (rDspPartCtl q) 25 16 0x3FF
        else back.postDev 0x0C 0x94 0 s.dspSource (dspPayload 0 0 8 0 0 0)
      else if old.testBit 31 ∧ used then back
      else s.setPart q PartState.reset }

/-- A write of DSP_PART_CTL with valid set. -/
def execPartitionCreate (req : Requester) (q : Fin 16) (v : Word) (s : State) : Out := .next (s.regWrite req (rDspPartCtl q.val) v.toNat (partCtl q.val))

/-- A write of DSP_PART_CTL with valid clear. -/
def execPartitionDestroy (req : Requester) (q : Fin 16) (v : Word) (s : State) : Out := .next (s.regWrite req (rDspPartCtl q.val) v.toNat (partCtl q.val))

/-- R388: the resident context's quantum ends: the next ready context of its priority follows, or the quantum restarts. -/
def execQuantumExpiry (q : Fin 16) (s : State) : Out :=
  .next (
    let x := s.part q.val
    if (s.resident q.val).isNone ∨ x.outgoing.isSome then s
    else (s.setPart q.val { x with sliced := true }).schedule q.val)

/-- R389 to R391: an array of the outgoing context has stopped and is saved; the incoming context may be restored there. One whose controller
took a fault is not saved for resumption: the context is faulted (R230). -/
def execSwitchSaveComplete (p : ArrayId) (s : State) : Out :=
  .next (match s.partAt p.val with
    | none => s
    | some q =>
      let x := s.part q
      match x.outgoing with
      | none => s
      | some c =>
        if !x.saving.contains p.val ∨ !s.stopped p.val ∨ !(s.arr p.val).runs then s
        else
          let s := match (s.arr p.val).ctrl.faulting with
            | some f => s.ctxFault c f.1 f.2
            | none => s
          if !s.stopped p.val then s
          else
          let s := if s.ctxState c = 5 ∨ s.ctxState c = 6 then s.saveCounters p.val else s.saveArray q p.val c
          let x := s.part q
          (s.setPart q { x with saving := x.saving.filter (fun r => r != p.val)
                                restoring := if x.incoming.isSome then x.restoring ++ [p.val] else x.restoring }).switchEnd q)

/-- R391: an array of the incoming context is restored, and the context issues there. -/
def execSwitchRestoreComplete (p : ArrayId) (s : State) : Out :=
  .next (match s.partAt p.val with
    | none => s
    | some q =>
      let x := s.part q
      match x.incoming with
      | none => s
      | some c =>
        if !x.restoring.contains p.val ∨ !s.stopped p.val ∨ !(s.arr p.val).runs then s
        else
          let s := s.restoreArray p.val c
          let x := s.part q
          let s := s.setPart q { x with restoring := x.restoring.filter (fun r => r != p.val) }
          (s.switchEnd q).dispatch)

/-- R397: CP_EVT_RD or DSP_DEV_EVT_RD: a value below the present one or above the records written is dropped; room lets waiting records
in. -/
def evtRdReg (k : Nat) : RegEffect :=
  { RegEffect.plain with
    veto := fun s _ v _ => if s.ringFill k < cnt32 v (s.reg (ringRd k)).toNat then some 3 else none
    act := fun s _ _ _ => (s.ringRoom k).dispatch }

/-- A write of an event ring's read count: of a context's ring, or of the device ring. -/
def execEvtRdWrite (req : Requester) (ring : Option CtxId) (v : Word) (s : State) : Out :=
  .next (let k := match ring with | some c => c.val | none => devRing
    s.regWrite req (ringRd k) v.toNat (evtRdReg k))

/-- R398: clearing hi_wm sets the peak to the present fill. -/
def evtStatusReg (k : Nat) : RegEffect :=
  { RegEffect.plain with act := fun s _ _ acted => if acted.testBit 0 then s.setFld (ringPeak k) 10 0 (s.ringFill k) else s }

/-- R398: the 10 µs limit of code 0x98 (or of code 0x99) ends: one event covers the crossings held back. -/
def execWatermarkHoldoffExpiry (ring : Option CtxId) (cmd : Bool) (s : State) : Out :=
  .next (
    let k := match ring with | some c => c.val | none => devRing
    let g := s.ring k
    if cmd then
      if g.held99 = 0 then s.setRing k { g with hold99 := false }
      else (s.setRing k { g with held99 := 0 }).ringPost k (crossRec s k 0x99 g.held99 256)
    else if g.held98 = 0 then s.setRing k { g with hold98 := false }
    else ((s.setRing k { g with held98 := 0 }).ringPut k (crossRec s k 0x98 g.held98 (s.ringFill k))).msix k (if k = devRing then 3 else 0))

end Sys2Proof.Machine
end

