-- ==== Sys2Proof/Machine/Digest.lean ====
section
/-!
DEFINITION. Step digests and replicas (10_integrity R357 to R363), the rewind of a diverged context (11_contexts R385), and region
digests (R359).
-/
namespace Sys2Proof.Machine

/-- What a context holds to agree its steps. -/
def State.steps (s : State) (c : Nat) : StepState := (tblFind s.integ.steps c).getD StepState.reset

/-- Replace it. -/
def State.setSteps (s : State) (c : Nat) (x : StepState) : State := { s with integ := { s.integ with steps := tblPut s.integ.steps c x } }

/-- The controller state of a context on one rank: of the array it is resident on, or saved. -/
def State.ctrlOf (s : State) (c rank : Nat) : Ctrl :=
  match tblFind (s.ctx c).saved rank with
  | some v => v.ctrl
  | none => match s.physOf ((s.partRange (s.ctxPart c)).1 + rank) with
    | some p => if s.residentAt p = some c ∧ (s.arr p).ctrl.ctx = c then (s.arr p).ctrl else Ctrl.reset
    | none => Ctrl.reset

/-- Change it. -/
def State.modCtrlOf (s : State) (c rank : Nat) (f : Ctrl → Ctrl) : State :=
  match tblFind (s.ctx c).saved rank with
  | some v => s.setCtx c { s.ctx c with saved := tblPut (s.ctx c).saved rank { v with ctrl := f v.ctrl } }
  | none => match s.physOf ((s.partRange (s.ctxPart c)).1 + rank) with
    | some p => if s.residentAt p = some c ∧ (s.arr p).ctrl.ctx = c then s.modCtrl p f else s
    | none => s

/-- R358: W_s from the D_a of every array by rank. -/
def stepDigest (step : Nat) (ds : List Nat) : Nat :=
  let sum := (List.range ds.length).foldl (fun w r => (w + mix64 ((nth 0 ds r) ^^^ (r * 0x9E3779B97F4A7C15 % 2 ^ 64))) % 2 ^ 64) 0
  mix64 (sum ^^^ step)

/-- R360: an entry of a context's replica table. -/
structure Replica where
  node : Nat
  ctx : Nat
  gate : Bool
  aperture : Nat
  myIndex : Nat
  deriving DecidableEq, Repr

/-- R360: the replica table of a context; none where it cannot be read. -/
def State.replicas (s : State) (c : Nat) : Option (List Replica) :=
  let va := s.reg64 (rChkCtxRtab c)
  let one (i : Nat) : Option Replica :=
    match s.access ⟨c, none, .read, 3⟩ (va + 16 * i) with
    | .ok pa =>
      let e := s.rdLe pa 16
      some ⟨bitsOf e 15 0, bitsOf e 24 16, e.testBit 31, bitsOf e 39 32, bitsOf e 47 40⟩
    | .fault .. => none
  let l := (List.range (s.fld (rChkCtxCtl c) 15 12)).map one
  if l.any Option.isNone then none else some (l.filterMap id)

/-- R361: a digest record. -/
def digestRecord (s : State) (c : Nat) (o : OwnStep) : List Byte :=
  bytesOf 32 (o.step % 2 ^ 32 + s.ownNode * 2 ^ 32 + c * 2 ^ 48 + o.w * 2 ^ 64 + o.rdig.getD 0 * 2 ^ 128
    + (b2n o.rdig.isSome + 2 * b2n (decide (0 < o.replays))) * 2 ^ 192)

/-- R361: the record of a step goes to every peer. -/
def State.sendRecords (s : State) (c : Nat) (o : OwnStep) : State :=
  let p := (s.ctxArrays c).headD 0
  ((s.replicas c).getD []).foldl (fun s r =>
    s.sendWindow p (digestSeq + o.step * 8 + r.myIndex % 8) c 0
      (0x900000000000 + r.aperture * 0x1000000000 + r.myIndex * 2048 + o.step % 64 * 32) true (digestRecord s c o) 0 32) s

/-- R362: whether two digests of a step are equal: in W_s and, where both sides hold one, in the region digest. -/
def sameDigest (a b : Nat × Option Nat) : Bool :=
  a.1 == b.1 && (match a.2, b.2 with | some x, some y => x == y | _, _ => true)

/-- R362: whether a peer's record equals the device's own for a step. -/
def recAgrees (o : OwnStep) (r : PeerRec) : Bool := sameDigest (o.w, o.rdig) (r.w, r.rdig)

/-- The newest record of a peer for a step. -/
def StepState.recOf (x : StepState) (peer step : Nat) : Option PeerRec :=
  (x.recs.filter (fun r => r.peer == peer && r.step == step)).getLast?

/-- CHK_CTX_STATUS.unagreed. -/
def State.showUnagreed (s : State) (c : Nat) : State :=
  let a := (s.reg (rChkCtxAgreed c)).toNat
  s.setFld (rChkCtxStatus c) 29 26 (Nat.min 15 ((s.steps c).own.filter (fun o => decide (a < o.step))).length)

/-- R362, R363: agreement of steps in order. When a diverged context agrees again, its gates open: code 0x0A. -/
def State.agree (s : State) (c : Nat) : Nat → State
  | 0 => s
  | n + 1 =>
    let a := (s.reg (rChkCtxAgreed c)).toNat
    let x := s.steps c
    let peers := s.fld (rChkCtxCtl c) 15 12
    match x.own.find? (fun o => o.step == a + 1) with
    | none => s
    | some o =>
      let all := (List.range peers).all (fun i => match x.recOf i (a + 1) with | some r => recAgrees o r | none => false)
      if !all then s
      else
        let s := (s.setReg (rChkCtxAgreed c) (BitVec.ofNat 32 (a + 1))).setReg (rDspCtxRewind c) (BitVec.ofNat 32 o.fetch)
        let s := s.setSteps c { x with
          own := x.own.filter (fun y => y.step != a + 1)
          recs := x.recs.filter (fun r => decide (a + 1 < r.step))
          prevW := x.prevW.filter (fun w => decide (a + 1 < w.1)) }
        let s := if s.flag (rChkCtxStatus c) 31 ∧ !(s.steps c).rewind then
            let s := ((s.setFlag (rChkCtxStatus c) 31 false).setFlag (rChkCtxStatus c) 30 false).setSteps c { s.steps c with gated := [] }
            (s.postCtx c 0x05 0x0A 0 (srcOf 7 0) (digestPayload (a + 1) o.w o.w 0 0 o.replays)).fabPump
          else s
        ((s.showUnagreed c).retireAll c).agree c n

/-- R363: a context becomes diverged: gated peers are held, and a rewind is due. -/
def State.diverge (s : State) (c : Nat) : State :=
  let g := (((s.replicas c).getD []).filter Replica.gate).map Replica.node
  let s := (s.setFlag (rChkCtxStatus c) 31 true).setFlag (rChkCtxStatus c) 30 (!g.isEmpty)
  s.setSteps c { s.steps c with rewind := true, gated := g }

/-- R362, R363: compare the device's own record of a step with a peer's: a mismatch posts code 0x09; the context is diverged when a
strict majority differs from it, or when no digest has one. A step that its second replay leaves the same posts code
0x0C and faults the context. -/
def State.compareStep (s : State) (c peer step : Nat) : State :=
  let x := s.steps c
  match x.own.find? (fun o => o.step == step), x.recOf peer step with
  | some o, some r =>
    if recAgrees o r then s
    else
      let t := ((s.replicas c).getD []).getD peer ⟨0, 0, false, 0, 0⟩
      let pay := digestPayload step o.w r.w t.node t.ctx o.replays
      let s := s.postCtx c 0x05 0x09 2 (srcOf 7 0) pay
      let n := s.fld (rChkCtxCtl c) 15 12 + 1
      let ws := (o.w, o.rdig) :: ((List.range (n - 1)).filterMap (fun i => (x.recOf i step).map (fun r => (r.w, r.rdig))))
      let votes (w : Nat × Option Nat) : Nat := (ws.filter (fun y => sameDigest y w)).length
      let major := ws.find? (fun w => decide (n < 2 * votes w))
      let out := match major with
        | some w => !sameDigest (o.w, o.rdig) w || (ws.length == n && decide (ws.length = 2))
        | none => ws.length == n
      if !out then s
      else if 2 ≤ o.replays ∧ ((x.prevW.filter (fun w => w.1 == step)).getLast?).map Prod.snd = some o.w then
        (s.postCtx c 0x05 0x0C 2 (srcOf 7 0) pay).ctxFault c 0x05 0x0C
      else s.diverge c
  | _, _ => s

/-- R361, R362: a step's own record is complete: it is sent, compared with what peers have sent, and agreement advances. -/
def State.stepReady (s : State) (c : Nat) (o : OwnStep) : State :=
  if !s.flag (rChkCtxCtl c) 3 then s
  else
    let s := s.sendRecords c o
    let s := (List.range (s.fld (rChkCtxCtl c) 15 12)).foldl (fun s i => s.compareStep c i o.step) s
    (s.showUnagreed c).agree c ((s.steps c).own.length + 1)

/-- R358, R361: every array of the partition has closed the next step: W_s is formed. A region digest that waits for the step starts;
else the step's records go out. -/
def execStepDigestForm (c : CtxId) (s : State) : Out :=
  .next (
    let c := c.val
    let n := (s.partRange (s.ctxPart c)).2
    let step := (s.reg (rChkCtxStep c)).toNat + 1
    let ds := (List.range n).map (fun r => ((s.ctrlOf c r).closed.find? (fun d => d.1 == step)).map Prod.snd)
    if n = 0 ∨ ds.any Option.isNone ∨ s.ctxState c = 0 ∨ s.ctxState c = 6 ∨ (s.flag (rChkCtxCtl c) 3 && (s.replicas c).isNone) then s
    else
      let w := stepDigest step (ds.filterMap id)
      let s := (List.range n).foldl (fun s r => s.modCtrlOf c r (fun k => { k with closed := k.closed.filter (fun d => d.1 != step) })) s
      let s := (s.setReg64 (rChkCtxWdig c) w).setReg (rChkCtxStep c) (BitVec.ofNat 32 step)
      if !s.flag (rChkCtxCtl c) 3 then s
      else
        let x := s.steps c
        let rew := (s.reg (rDspCtxRewind c)).toNat
        let ends := (s.ctx c).cmds.filter (fun k => k.flag 1 && decide (cnt32 k.index rew < 2 ^ 31))
        let fetch := match ends[x.own.length]? with | some k => k.index + 1 | none => s.fetchIdx c
        let o : OwnStep := ⟨step, w, none, fetch % 2 ^ 32, s.now.toNat, (x.prevW.filter (fun p => p.1 == step)).length⟩
        let s := s.setSteps c { x with own := x.own ++ [o] }
        match s.integ.rde with
        | some r =>
          if r.ctx = c ∧ r.waitStep then { s with integ := { s.integ with rde := some { r with waitStep := false, forStep := some step } } }
          else s.stepReady c o
        | none => s.stepReady c o)

/-- R361, R362: a peer's digest record has been written into slot step mod 64 of the digest window: it is compared with the device's
own. A record that arrives before the own W_s waits (R369). -/
def execDigestRecordArrival (c : CtxId) (peer : Fin 8) (slot : Fin 64) (s : State) : Out :=
  .next (
    let c := c.val
    let n := s.fld (rChkCtxDwin c) 19 16
    match s.physOf n with
    | none => s
    | some p =>
      let x := s.window p (s.fld (rChkCtxDwin c) 5 0)
      if !s.flag (rChkCtxCtl c) 3 ∨ !x.isOpen ∨ x.ctx ≠ c ∨ s.fld (rChkCtxCtl c) 15 12 ≤ peer.val then s
      else match s.access ⟨c, some n, .read, 3⟩ (leAt x.record 0 8 + peer.val * 2048 + slot.val * 32) with
        | .fault .. => s
        | .ok pa =>
          let bs := s.rdBytes pa 32
          let step := leAt bs 0 4
          if step % 64 ≠ slot.val ∨ step ≤ (s.reg (rChkCtxAgreed c)).toNat then s
          else
            let fl := leAt bs 24 1
            let r : PeerRec := ⟨peer.val, step, leAt bs 8 8, if fl.testBit 0 then some (leAt bs 16 8) else none, fl.testBit 1⟩
            let s := s.setSteps c { s.steps c with recs := (s.steps c).recs ++ [r] }
            let pending := match s.integ.rde with | some d => d.ctx == c && d.forStep == some step | none => false
            let s := if pending then s else s.compareStep c peer.val step
            s.agree c ((s.steps c).own.length + 1))

/-- R362: a peer's record for a step is missing 1 s after the device's own: code 0x0B, once. -/
def execPeerDigestTimeout (c : CtxId) (peer : Fin 8) (t : DWord) (s : State) : Out :=
  .next (
    let s := s.clock t
    let c := c.val
    let x := s.steps c
    match x.own.find? (fun o => (x.recOf peer.val o.step).isNone && !x.silent.contains (peer.val, o.step)
        && decide (o.time + 64000000000 ≤ s.now.toNat)) with
    | some o =>
      if s.fld (rChkCtxCtl c) 15 12 ≤ peer.val ∨ !s.flag (rChkCtxCtl c) 3 then s
      else
        let r := ((s.replicas c).getD []).getD peer.val ⟨0, 0, false, 0, 0⟩
        (s.setSteps c { x with silent := x.silent ++ [(peer.val, o.step)] }).postCtx c 0x05 0x0B 0 (srcOf 7 0)
          (digestPayload o.step o.w 0 r.node r.ctx o.replays)
    | none => s)

/-- R363, R385: a diverged context rewinds at a tile boundary: uncommitted tiles, queued entries, unstarted commands and a saved run
go; fetching goes on from the rewind point of the last agreed step, and its steps are closed again. -/
def execContextRewind (c : CtxId) (s : State) : Out :=
  .next (
    let c := c.val
    let x := s.steps c
    let arrays := (s.ctxArrays c).filter (fun p => s.residentAt p == some c)
    if !x.rewind ∨ arrays.any (fun p => !(s.arr p).atBoundary || (s.arr p).run.running) ∨ s.ctxState c = 4 then s
    else
      let agreed := (s.reg (rChkCtxAgreed c)).toNat
      let s := arrays.foldl (fun s p => s.modArr p (fun a =>
        let b := discardQueues a
        { b with tiles := b.tiles.map (fun t => if t.ctx = c ∧ (t.state = 1 ∨ t.state = 2 ∨ t.state = 3) then Tile.free else t)
                 restarts := b.restarts.filter (fun t => t.ctx != c), red := none, vec := VecEng.idle
                 ctrl := { Ctrl.reset with ctx := c, gen := b.ctrl.gen, seq := b.ctrl.seq, step := agreed + 1, stepAt := agreed + 1 } })) s
      let n := (s.partRange (s.ctxPart c)).2
      let k := s.ctx c
      let saved := (List.range n).filterMap (fun r => (tblFind k.saved r).map (fun v => (r, { v with
        ctrl := { Ctrl.reset with ctx := c, gen := v.ctrl.gen, seq := v.ctrl.seq, step := agreed + 1, stepAt := agreed + 1 }
        aq := [], vq := [], dq := [], vec := VecEng.idle, run := ArrayState.reset.run, cores := [], restart := [], red := none })))
      let s := s.setCtx c { k with cmds := [], saved := saved }
      let s := s.setReg (rDspCtxFetch c) (s.reg (rDspCtxRewind c))
      let s := s.setReg (rChkCtxStep c) (BitVec.ofNat 32 agreed)
      let s := s.setSteps c { x with rewind := false, own := [], prevW := x.prevW ++ x.own.map (fun o => (o.step, o.w)) }
      (s.showUnagreed c).dispatch)

/-- R359: a request runs, or waits for a step to close. -/
def State.rdeStart (s : State) (r : RdeRun) : State :=
  ({ s with integ := { s.integ with rde := some r, rdeLast := some r } }.setFlag rChkRdeCtl 30 true).setFlag rChkRdeCtl 28 false

/-- CHK_RDE_CTL.go: a request starts; a go while busy, or a range outside R359, is dropped. -/
def rdeReg : RegEffect :=
  { RegEffect.plain with
    veto := fun s _ _ acted =>
      let len := s.reg64 rChkRdeLen
      if !acted.testBit 31 then none
      else if s.flag rChkRdeCtl 30 then some 4
      else if len % 64 ≠ 0 ∨ 2 ^ 40 < len ∨ s.reg64 rChkRdeVa % 64 ≠ 0 then some 3
      else none
    act := fun s _ _ acted =>
      if acted.testBit 31 then s.rdeStart ⟨s.fld rChkRdeCtl 8 0, s.reg64 rChkRdeVa, s.reg64 rChkRdeLen, s.flag rChkRdeCtl 29, none⟩ else s }

/-- A write of CHK_RDE_CTL. -/
def execRegionDigestGo (req : Requester) (v : Word) (s : State) : Out := .next (s.regWrite req rChkRdeCtl v.toNat rdeReg)

/-- R359: the sum over the lines of a range of line_hash, through the context's translations: line i at the addresses listed. -/
def State.regionSum (s : State) (lines : List (Nat × Nat)) : Nat :=
  lines.foldl (fun h l => (h + lineHash l.1 (s.rdBytes l.2 64)) % 2 ^ 64) 0

/-- R359: the request in progress finishes: with a digest, with poisoned set, or stalled on a translation fault. -/
def execRegionDigestComplete (s : State) : Out :=
  .next (match s.integ.rde with
    | none => s
    | some r =>
      if r.waitStep ∨ s.memst.stalled.any (fun x => x.unit == 11 && x.ctx == r.ctx) then s
      else
        let acc : Accessor := ⟨r.ctx, none, .read, 3⟩
        let lines := (List.range (r.len / 64)).map (fun i => (64 * i, s.access acc (r.va + 64 * i)))
        match lines.find? (fun l => match l.2 with | .fault .. => true | .ok _ => false) with
        | some (o, .fault code level entry epa) => s.stallUnit r.ctx 11 18 (r.va + o) .read code level entry epa
        | _ =>
          let ok := lines.filterMap (fun l => match l.2 with | .ok pa => some (l.1, pa) | .fault .. => none)
          let s := ok.foldl (fun s l => s.readChecks (some r.ctx) l.2 64) s
          let bad := ok.any (fun l => s.badIn l.2 64)
          let d := mix64 (s.regionSum ok ^^^ r.len)
          let s := ({ s with integ := { s.integ with rde := none } }).setFlag rChkRdeCtl 30 false
          let s := if bad then s.setFlag rChkRdeCtl 28 true else s.setReg64 rChkRdeRes d
          match r.forStep with
          | none => s
          | some step =>
            let x := s.steps r.ctx
            let s := if bad then s else s.setReg64 (rChkCtxRdig r.ctx) d
            match x.own.find? (fun o => o.step == step) with
            | none => s
            | some o =>
              let o' : OwnStep := { o with rdig := if bad then none else some d }
              (s.setSteps r.ctx { x with own := x.own.map (fun y => if y.step = step then o' else y) }).stepReady r.ctx o')

/-- R359: CHK_RDE_INTERVAL repeats the last request. -/
def execRegionDigestInterval (s : State) : Out :=
  .next (match s.integ.rdeLast with
    | some r => if s.reg rChkRdeInterval ≠ 0#32 ∧ !s.flag rChkRdeCtl 30 then s.rdeStart { r with forStep := none } else s
    | none => s)

end Sys2Proof.Machine
end

