-- ==== Sys2Proof/Machine/Fabric.lean ====
section
/-!
DEFINITION. The Evoif fabric (12_host_fabric R418 to R441): flits and link-level retry, transactions, discovery and node IDs,
schedules, degraded and low-rate ports, and job aborts.
-/
namespace Sys2Proof.Machine

/-- R442: a link event of a port. -/
def State.linkEvent (s : State) (f code sev cause occ : Nat) : State :=
  s.postDev 0x06 code sev (s.portSource f) (fabPayload f cause (s.fld (rFabPortPeer f) 15 0) 0 0 0 occ)

/-- R442: an event of code 0x04 or 0x05: at most one per port and millisecond, the rest counted into the next. -/
def State.linkEventLimited (s : State) (f code n : Nat) : State :=
  let x := s.fport f
  let (last, held) := tblGet (0, 0) x.limits code
  if last ≠ 0 ∧ s.now.toNat + 1 < last + 64000000 then s.setFport f { x with limits := tblPut x.limits code (last, held + n) }
  else (s.setFport f { x with limits := tblPut x.limits code (s.now.toNat + 1, 0) }).linkEvent f code 1 0 (held + n)

/-- R424: reissue a request over a port: same sequence number, new slot generation. -/
def State.reissue (s : State) (t : FabTxn) (f : Nat) : State :=
  let g := (tblGet 0 s.fab.slotGens t.slot + 1) % 8
  let u : FabTxn := { t with gen := g, port := f, sent := none, tries := t.tries + 1 }
  let s := { s with fab := { s.fab with
    txns := s.fab.txns.map (fun (x : FabTxn) => if x.slot = t.slot then u else x)
    slotGens := tblPut s.fab.slotGens t.slot g } }
  let s := (s.bump rFabReissued 1).postCtx t.acc.ctx 0x06 9 1 (s.portSource f) (txnPayload f u)
  ((s.portSend f 0 (s.schedQueue f t.acc.ctx t.acc.node) (some t.slot) (u.packet s.ownNode).bytes).portOut f).portOut t.port

/-- R424, R438, R441: a request whose link failed is reissued on its other route, or fails with link-lost. -/
def State.rerouteTxn (s : State) (t : FabTxn) : State :=
  match s.routeTo t.acc.node with
  | some g => if t.tries < 2 then s.reissue t g else s.txnFail t 8
  | none => s.txnFail t 8

/-- R420, R438, R442: a link goes down: the event, the counters, and its pending transactions. -/
def State.linkDown (s : State) (f cause st : Nat) : State :=
  let s := ((s.setFld (rFabPortStatus f) 31 28 st).setFld (rFabPortStatus f) 27 24 cause).setFld (rFabPortStatus f) 23 16 0
  let s := (s.setFport f { FabPortState.reset with limits := (s.fport f).limits, stepUp := (s.fport f).stepUp }).linkTimeReset f
  let s := (s.bump (rFabPortFail f) 1).linkEvent f 3 0 cause 1
  (s.fab.txns.filter (fun t => t.port == f)).foldl State.rerouteTxn s

/-- R420: replay the unacknowledged flits that remain; the ninth time the link has failed. -/
def State.replay (s : State) (f : Nat) : State :=
  let x := s.fport f
  if x.unacked.isEmpty then s
  else if 8 ≤ x.attempts then (s.linkEvent f 6 2 0 1).linkDown f 2 2
  else
    let s := x.unacked.foldl (fun s u =>
      s.emit "fabric" (f :: (flitBytes u.seq 0 u.vc 0 0 x.ack false u.bytes).map BitVec.toNat)) s
    let s := s.setFport f { x with attempts := x.attempts + 1, unacked := x.unacked.map (fun u => { u with time := s.now.toNat }) }
    (s.bump (rFabPortReplay f) x.unacked.length).linkEventLimited f 4 x.unacked.length

/-- R420: an ack removes the flits up to it; a credit field returns credits. -/
def FabPortState.acked (x : FabPortState) (ack crVc cr : Nat) : FabPortState :=
  let keep := x.unacked.filter (fun u => decide ((ack + 65536 - u.seq) % 65536 ≥ 32768))
  { x with unacked := keep, attempts := if keep.length < x.unacked.length then 0 else x.attempts
           credits := setNth 0 x.credits crVc (nth 0 x.credits crVc + cr) }

/-- R420: an idle flit that acknowledges, returns a credit, or asks for a replay. -/
def State.ackFlit (s : State) (f vc cr : Nat) (nak : Bool) : State :=
  let x := s.fport f
  s.emit "fabric" (f :: (flitBytes x.txSeq 1 0 vc cr x.ack nak []).map BitVec.toNat)

/-- R417, R418, R420: a flit arrives. corrected: FEC codewords corrected in it; uncorrectable: one could not be. The packets it
completes are commands of their own (notes/assumptions/70). -/
def execFlitReceive (port : FabPort) (fl : FlitIn) (corrected : Nat) (uncorrectable : Bool) (s : State) : Out :=
  .next (
    let flit := fl.bytes
    let f := port.val
    if !s.linkUp f then s
    else
      let s := s.bump64 (rFabPortFecCw f) corrected
      let s := if uncorrectable then (s.bump (rFabPortFecUnc f) 1).linkEventLimited f 5 1 else s
      let good := !uncorrectable && crc32c (sliceBytes flit 0 252) == leAt flit 252 4
      let kind := bitsOf (leAt flit 2 1) 7 6
      let vc := bitsOf (leAt flit 2 1) 5 4
      let x := s.fport f
      if !good then
        if x.discarding then s else (s.setFport f { x with discarding := true }).ackFlit f 0 0 true
      else
        let x := x.acked (leAt flit 4 2) (bitsOf (leAt flit 3 1) 7 6) (bitsOf (leAt flit 3 1) 5 0)
        let s := s.setFport f x
        let s := if kind = 0 ∨ kind = 2 then
            if leAt flit 0 2 = x.rxSeq then
              let s := (s.setFport f { x with rxSeq := (x.rxSeq + 1) % 65536, discarding := false }).ackFlit f vc 1 false
              if kind = 2 ∧ fl.wake then s.wakePort f else s
            else if x.discarding then s
            else (s.setFport f { x with discarding := true }).ackFlit f 0 0 true
          else s
        let s := if (leAt flit 6 1).testBit 0 then s.replay f else s
        s.portPump f)

/-- R420: the oldest unacknowledged flit has gone 4 µs without an ack. -/
def execFlitReplayTimeout (port : FabPort) (t : DWord) (s : State) : Out :=
  .next (
    let s := s.clock t
    match (s.fport port.val).unacked with
    | u :: _ => if u.time + 256000 ≤ s.now.toNat then s.replay port.val else s
    | [] => s)

/-- R419, R420, R435, R438: training ends. lanes: those that trained; lowRate: the cable was plugged while the port watched lane 0,
and the port comes up in low-rate idle. -/
def execFabricLinkTrained (port : FabPort) (lanes : BitVec 8) (lowRate : Bool) (peer : BitVec 16) (peerPort : FabPort) (s : State) : Out :=
  .next (
    let f := port.val
    if s.fstate f ≠ 2 then s
    else
      let n := lanes.toNat
      let up (s : State) (st shown : Nat) : State :=
        let s := ((s.setFld (rFabPortStatus f) 31 28 st).setFld (rFabPortStatus f) 23 16 shown).setFlag (rFabPortStatus f) 14 false
        let s := (s.setFld (rFabPortPeer f) 20 16 peerPort.val).setFld (rFabPortPeer f) 15 0 peer.toNat
        (s.setFport f { FabPortState.reset with credits := [512, 512, 16, 32], idleSince := s.now.toNat, limits := (s.fport f).limits }).linkTimeReset f
      if lowRate ∧ n % 2 = 1 then (up s 5 1).linkEvent f 0x0F 0 0 1
      else if n = 0xFF then ((up (s.setFlag (rFabPortStatus f) 15 false) 3 n).linkEvent f 1 0 0 1).fabPump.portPump f
      else if (n &&& 0x0F = 0x0F ∨ n &&& 0xF0 = 0xF0) ∧ s.flag (rFabPortCtl f) 3 then
        ((up (s.setFlag (rFabPortStatus f) 15 false) 4 (if n &&& 0x0F = 0x0F then 0x0F else 0xF0)).linkEvent f 2 1 0 1).fabPump.portPump f
      else s.linkDown f 3 1)

/-- R421, R427, R429: a transaction packet arrives on a port: it is dropped, forwarded as transit, or acted on here. -/
def State.fabIn (s : State) (f : Nat) (bs : List Byte) (op : Nat) (k : State → Pkt → State) : State :=
  if s.fstate f ≠ 3 ∧ s.fstate f ≠ 4 then s
  else
    let (p, ok) := pktOf bs
    let s := (s.bump64 (rFabPortRx f) bs.length).setFport f { s.fport f with idleSince := s.now.toNat }
    if !s.nodeKnown then s.linkEvent f 0x12 0 0 1
    else if p.op ≠ op then s
    else if p.dest ≠ s.ownNode then
      match s.routeTo p.dest with
      | some g => s.portSend g (if op < 0x80 then 0 else 1) none none bs
      | none => (s.bump rFabUnroutable 1).postDev 0x06 0x0C 2 (s.portSource f) (fabPayload f 0 p.dest p.seqStatus p.tag 0 1)
    else
      let s := if ok then s else
        s.postDev 0x06 0x13 2 (s.portSource f) (fabPayload f 0 p.src p.seqStatus p.tag (bitsOf p.waddr 45 36) 1)
      k s (if ok then p else { p with poison := 0xFFFF })

/-- R422: a request from the fabric as a window access. -/
def Pkt.access (p : Pkt) (write : Bool) : WinAcc :=
  let n := 64 * (if write then p.len else p.rlen)
  { p := 0, seq := 0, ctx := p.ctx, node := p.src, array := bitsOf p.waddr 45 42, window := bitsOf p.waddr 41 36
    gen := bitsOf p.waddr 61 46, off := bitsOf p.waddr 35 0, write := write, data := if write then p.data else []
    poison := if write then wordMask (bitsOf p.waddr 35 0) n p.poison else 0, size := n, pa := 0, admitted := false, va := 0, src := some p.src, tag := p.tag
    seqno := p.seqStatus, ctxGen := p.ctxGen }

/-- A window access from the fabric joins those in flight, and reaches its window unit unless an earlier one, a translation fault or a
remap holds it (R252, R265, R275). -/
def State.fabArrive (s : State) (a : WinAcc) : State :=
  let t := { s with memst := { s.memst with winq := s.memst.winq ++ [a] } }
  if t.winHeld a || t.winBehind s.memst.winq a then t else t.winArrive a

/-- R422: a window write packet. -/
def execFabricWindowWrite (port : FabPort) (pkt : List Byte) (s : State) : Out :=
  .next (s.fabIn port.val pkt 0x01 (fun s p => s.fabArrive (p.access true)))

/-- R422: a window read packet. -/
def execFabricWindowRead (port : FabPort) (pkt : List Byte) (s : State) : Out :=
  .next (s.fabIn port.val pkt 0x02 (fun s p => s.fabArrive (p.access false)))

/-- R424, R395, R505: a response finds its transaction, or is stale: dropped, counted, code 0x0A. One for a unit whose array has been reset
since is dropped and counted in BRP_ARY_STALE. -/
def State.fabResponse (s : State) (f : Nat) (p : Pkt) (k : State → FabTxn → State) : State :=
  match s.fab.txns.find? (fun t => t.slot == p.tag % 8192 && t.gen % 8 == p.tag / 8192 && t.acc.ctx == p.ctx) with
  | some t =>
    if p.ctxGen ≠ s.ctxGen p.ctx % 256 then ((s.bump rFabLate 1).bump (rDspCtxStale p.ctx) 1).postDev 0x06 0x0A 0 (s.portSource f) (txnPayload f t)
    else
      let s := { s with fab := { s.fab with txns := s.fab.txns.filter (fun x => x.slot != t.slot) } }
      let s := if t.aryGen = s.fld (rBrpAryGen t.acc.p) 7 0 then k s t else (s.winDone t.acc false).bump (rBrpAryStale t.acc.p) 1
      (s.portOut t.port).fabPump
  | none =>
    let s := if p.ctxGen ≠ s.ctxGen p.ctx % 256 then s.bump (rDspCtxStale p.ctx) 1 else s
    (s.bump rFabLate 1).postDev 0x06 0x0A 0 (s.portSource f) (fabPayload f 0 p.src p.seqStatus p.tag (bitsOf p.waddr 45 36) 1)

/-- R422: a write acknowledgement completes its request. -/
def execFabricWriteAck (port : FabPort) (pkt : List Byte) (s : State) : Out :=
  .next (s.fabIn port.val pkt 0x81 (fun s p => s.fabResponse port.val p (fun s t => s.winDone t.acc false)))

/-- R422: read data complete a window read. -/
def execFabricReadData (port : FabPort) (pkt : List Byte) (s : State) : Out :=
  .next (s.fabIn port.val pkt 0x82 (fun s p => s.fabResponse port.val p (fun s t => s.winReturn t.acc (p.data.take t.acc.size) (wordMask t.acc.off t.acc.size p.poison))))

/-- R422, R269: a refusal: the writer's context receives the event with the owner's code, and its transfer completes with an
error. -/
def execFabricRefusal (port : FabPort) (pkt : List Byte) (s : State) : Out :=
  .next (s.fabIn port.val pkt 0x83 (fun s p => s.fabResponse port.val p (fun s t =>
    let a := t.acc
    let s := s.refusedAt a (winPayload a.window a.array a.node a.ctx a.gen 0 1 a.off a.size) (p.seqStatus / 256 % 256) (p.seqStatus % 256) true
    (s.winDone a true).digestRefused a)))

/-- R424: the timer of a transaction expires: it is reissued at most twice, then fails with timeout. -/
def execTransactionTimeout (slot : Fin 8192) (t : DWord) (s : State) : Out :=
  .next (
    let s := s.clock t
    match s.fab.txns.find? (fun x => x.slot == slot.val) with
    | none => s
    | some x => match x.sent with
      | none => s
      | some at_ =>
        if s.now.toNat < at_ + s.fld rFabTout 13 0 * 64000 then s
        else if 2 ≤ x.tries then s.txnFail x 7
        else match s.routeTo x.acc.node with
          | some f => s.reissue x f
          | none => s.txnFail x 8)

/-- R423: a pair's state is dropped 20 ms after its last write. -/
def execPairStateExpiry (n : Nat) (t : DWord) (s : State) : Out :=
  .next (
    let s := s.clock t
    match s.fab.pairs[n]? with
    | some x => if x.time + 1280000000 ≤ s.now.toNat then { s with fab := { s.fab with pairs := s.fab.pairs.filter (fun y => y != x) } } else s
    | none => s)

/-- Bytes of a frame replaced from an offset. -/
def putBytes (bs : List Byte) (o : Nat) (xs : List Byte) : List Byte := bs.take o ++ xs ++ bs.drop (o + xs.length)

/-- R428: a discovery frame on its way: forwarded on path[ptr] with its ingress port recorded, or acted on at its last hop, which
answers with a response on the ingress port. -/
def State.discover (s : State) (f kind : Nat) (frame : List Byte) (act : State → State × Nat × List Byte) : State :=
  let bs := sliceBytes frame 0 64
  let hops := leAt bs 1 1
  let ptr := leAt bs 2 1
  if !s.linkUp f ∨ leAt bs 0 1 ≠ kind ∨ hops = 0 ∨ 16 < hops ∨ hops < ptr then s
  else if ptr < hops then
    s.portSend (leAt bs (4 + ptr) 1 % 32) 3 none none (putBytes (putBytes bs (20 + ptr) (bytesOf 1 f)) 2 (bytesOf 1 (ptr + 1)))
  else
    let (s, status, data) := act s
    let r := putBytes (putBytes bs 0 (bytesOf 1 0x43)) 3 (bytesOf 1 status)
    s.portSend f 3 none none (if data = [] then r else putBytes r 40 data)

/-- R428: a query is always answered. -/
def execDiscoveryQuery (port : FabPort) (frame : List Byte) (s : State) : Out :=
  .next (s.discover port.val 0x40 frame (fun s =>
    (s, 0, bytesOf 13 ((s.reg rGlbIdent).toNat + (s.reg rGlbFabricEn).toNat * 2 ^ 32 + (s.reg rFabNode).toNat * 2 ^ 64 + port.val * 2 ^ 96))))

/-- R428: whether a discovery write is refused: the lock is set and the frame is not of the recorded fabric manager. -/
def State.discoveryLocked (s : State) (frame : List Byte) : Bool := s.flag rFabCtl 31 && leAt frame 36 2 != s.fld rFabFmNode 15 0

/-- R427, R428, R528: assign the node ID. The first assignment records the fabric manager and posts code 0x11; a new ID fails every
outstanding transaction with link-lost and ends ownership by the fabric path. R6 does not say whether ID 0x0000 or 0xFFFF is refused:
DESIGN CHOICE, it is taken as any other, and the node then counts as assigned (notes/assumptions/113). -/
def State.assignNode (s : State) (f : Nat) (fm : Option Nat) (node old : Nat) : State :=
  let s := s.setReg rFabNode (BitVec.ofNat 32 (2 ^ 31 + node % 65536))
  if !old.testBit 31 then
    let s := match fm with | some m => s.setFld rFabFmNode 15 0 m | none => s
    s.postDev 0x06 0x11 0 (s.portSource f) (fabPayload f 0 node 0 0 0 1)
  else if old % 65536 ≠ node % 65536 then
    (s.fab.txns.foldl (fun s t => s.txnFail t 8) s).ownerEnds 3 0
  else s

/-- R428: an assign frame. -/
def execDiscoveryAssign (port : FabPort) (frame : List Byte) (s : State) : Out :=
  .next (s.discover port.val 0x41 frame (fun s =>
    if s.discoveryLocked frame then (s, 1, [])
    else (s.assignNode port.val (some (leAt frame 36 2)) (leAt frame 38 2) (s.reg rFabNode).toNat, 0, [])))

/-- R428: a route-write frame. -/
def execDiscoveryRouteWrite (port : FabPort) (frame : List Byte) (s : State) : Out :=
  .next (s.discover port.val 0x42 frame (fun s =>
    let first := leAt frame 40 2
    let n := leAt frame 42 1
    if s.discoveryLocked frame then (s, 1, [])
    else if n = 0 ∨ 4 < n ∨ 32768 < first + n then (s, 2, [])
    else ((List.range n).foldl (fun s i => s.setReg (rFabRoute (first + i)) (BitVec.ofNat 32 (leAt frame (44 + 4 * i) 4) &&& 0xE0001F1F#32)) s, 0, [])))

/-- R428: a response returns along rpath; where its path began, it is delivered. -/
def execDiscoveryResponse (port : FabPort) (frame : List Byte) (s : State) : Out :=
  .next (
    let bs := sliceBytes frame 0 64
    let ptr := leAt bs 2 1
    if !s.linkUp port.val ∨ leAt bs 0 1 ≠ 0x43 ∨ 16 < ptr then s
    else match ptr with
      | 0 => s.emit "discovery" (bs.map BitVec.toNat)
      | i + 1 => s.portSend (leAt bs (20 + i) 1 % 32) 3 none none (putBytes bs 2 (bytesOf 1 i)))

/-- FAB_NODE: a write assigns the node as a discovery assign does. -/
def fabNodeReg : RegEffect :=
  { RegEffect.plain with
    act := fun s _ old _ => s.assignNode 0 none (s.fld rFabNode 15 0) old }

/-- A write of FAB_NODE. -/
def execFabNodeWrite (req : Requester) (v : Word) (s : State) : Out := .next (s.regWrite req rFabNode v.toNat fabNodeReg)

/-- R431: the start of slot e in cycle n. -/
def State.slotStart (s : State) (f e n : Nat) : DWord :=
  BitVec.ofNat 64 (s.reg64 (rFabSchedT0 f) + n * s.reg64 (rFabSchedPeriod f) + bitsOf (s.schedEnt f e) 31 0)

/-- R431: whether an entry of a port's schedule is in use. -/
def State.slotUsed (s : State) (f e : Nat) : Bool :=
  s.flag (rFabSchedCtl f) 31 && decide (e < s.fld (rFabSchedCtl f) 12 0) && (s.schedEnt f e).testBit 63

/-- R431, R432: a slot starts; one that lies more than its length in the past is skipped and counted. -/
def execScheduleSlotStart (port : FabPort) (e : Fin 4096) (cycle : Nat) (t : DWord) (s : State) : Out :=
  .next (
    let s := s.clock t
    let f := port.val
    let start := s.slotStart f e.val cycle
    if !s.slotUsed f e.val ∨ !qtzReached s.now start then s
    else if bitsOf (s.schedEnt f e.val) 55 40 * 64 < (s.now - start).toNat then s.bump (rFabSchedSkip f) 1
    else (s.setFport f { s.fport f with slot := some (e.val, cycle) }).portPump f)

/-- R432: a slot ends: its queue starts no more packets. -/
def execScheduleSlotEnd (port : FabPort) (t : DWord) (s : State) : Out :=
  .next (
    let s := s.clock t
    let f := port.val
    match (s.fport f).slot with
    | some (e, n) =>
      if qtzReached s.now (s.slotStart f e n + BitVec.ofNat 64 (bitsOf (s.schedEnt f e) 55 40 * 64)) ∨ !s.slotUsed f e then
        (s.setFport f { s.fport f with slot := none }).portPump f
      else s
    | none => s)

/-- R435: a lane stays above the corrected-symbol rate for 1 s: the port drops to the other group of lanes, or goes down. -/
def execFabricDegrade (port : FabPort) (good : Fin 2) (s : State) : Out :=
  .next (
    let f := port.val
    if s.fstate f ≠ 3 then s
    else if s.flag (rFabPortCtl f) 3 then
      (((s.setFld (rFabPortStatus f) 31 28 4).setFld (rFabPortStatus f) 23 16 (if good.val = 0 then 0x0F else 0xF0)).linkTimeReset f).linkEvent f 2 1 0 1
    else s.linkDown f 3 1)

/-- R436: whether a wake slot of a port starts within 1 ms. -/
def State.wakeSoon (s : State) (f : Nat) : Bool :=
  s.flag (rFabSchedCtl f) 31 && (List.range (s.fld (rFabSchedCtl f) 12 0)).any (fun e =>
    let p := s.reg64 (rFabSchedPeriod f)
    let x := s.schedEnt f e
    x.testBit 63 && x.testBit 62 && (
      let d := ((BitVec.ofNat 64 (s.reg64 (rFabSchedT0 f) + bitsOf x 31 0)) - s.now).toNat
      if d < 2 ^ 63 then decide (d ≤ 64000000)
      else p != 0 && decide ((p - (2 ^ 64 - d) % p) % p ≤ 64000000)))

/-- R436: a port enters low-rate idle when nothing is outstanding and no wake slot is near: lanes 1 to 7 are quiesced, and the rail
steps down. -/
def State.lowRate (s : State) (f : Nat) : State :=
  let x := s.fport f
  if (s.fstate f ≠ 3 ∧ s.fstate f ≠ 4) ∨ !s.flag (rFabPortCtl f) 2 ∨ s.fab.txns.any (fun t => t.port == f)
      ∨ x.txq.any (fun i => decide (i.vc < 2)) ∨ s.wakeSoon f then s
  else (s.setFld (rFabPortStatus f) 31 28 6).setFld (rFabPortStatus f) 23 16 1

/-- R436: VC 0 and VC 1 have been idle for idle_us. -/
def execLowrateIdleEntry (port : FabPort) (t : DWord) (s : State) : Out :=
  .next (
    let s := s.clock t
    let f := port.val
    let n := s.fld (rFabPortCtl f) 23 16
    if n = 0 ∨ s.now.toNat < (s.fport f).idleSince + n * 640000 then s else s.lowRate f)

/-- FAB_PORT_CTL: lowrate_req, wake_req and enable. -/
def fabPortCtl (f : Nat) : RegEffect :=
  { RegEffect.plain with
    act := fun s _ old acted =>
      let s := if acted.testBit 5 then s.lowRate f else s
      let s := if acted.testBit 4 then s.wakePort f else s
      let on := s.flag (rFabPortCtl f) 0
      if !on ∧ old.testBit 0 then s.linkDown f 4 0
      else if on ∧ !old.testBit 0 ∧ s.flag rGlbFabricEn f then s.setFld (rFabPortStatus f) 31 28 2
      else s }

/-- A write of FAB_PORT_CTL that requests low-rate idle. -/
def execLowrateReq (req : Requester) (port : FabPort) (v : Word) (s : State) : Out :=
  .next (s.regWrite req (rFabPortCtl port.val) v.toNat (fabPortCtl port.val))

/-- A write of FAB_PORT_CTL that requests a wake. -/
def execWakeReq (req : Requester) (port : FabPort) (v : Word) (s : State) : Out :=
  .next (s.regWrite req (rFabPortCtl port.val) v.toNat (fabPortCtl port.val))

/-- R438: qualified loss of signal takes the link down; the port steps to the low-rate rail and watches lane 0. -/
def State.losDown (s : State) (f : Nat) : State := (s.linkDown f 1 1).setFlag (rFabPortStatus f) 14 true

/-- R436 to R438: a SerDes rail step completes; then a loss of signal that waited takes the link down, or a wake that waited
starts. -/
def execRailStepComplete (port : FabPort) (s : State) : Out :=
  .next (
    let f := port.val
    let x := s.fport f
    if s.fstate f = 6 then
      let s := (s.setFld (rFabPortStatus f) 31 28 5).setFlag (rFabPortStatus f) 15 true
      let s := s.linkEvent f 0x0F 0 0 1
      if x.losWait then s.losDown f else if x.wakeWait then s.wakePort f else s
    else if s.fstate f = 7 ∧ x.stepUp then
      let s := (s.setFlag (rFabPortStatus f) 15 false).setFport f { x with stepUp := false }
      if x.losWait then s.losDown f else s
    else if s.fstate f = 1 then s.setFlag (rFabPortStatus f) 15 true
    else s)

/-- R437: 25 µs before a wake slot the port starts to wake. -/
def execWakeSlotLead (port : FabPort) (e : Fin 4096) (cycle : Nat) (t : DWord) (s : State) : Out :=
  .next (
    let s := s.clock t
    let f := port.val
    if s.slotUsed f e.val ∧ (s.schedEnt f e.val).testBit 62 ∧ qtzReached s.now (s.slotStart f e.val cycle - 1600000#64) then s.wakePort f else s)

/-- R437, R435: the lanes have retrained: the port is back at full rate, or at half rate on the group that trained. lanes: those that
retrained. -/
def execPortWakeComplete (port : FabPort) (lanes : BitVec 8) (s : State) : Out :=
  .next (
    let f := port.val
    if s.fstate f ≠ 7 ∨ (s.fport f).stepUp then s
    else
      let n := lanes.toNat
      let half := n &&& 0x0F = 0x0F ∨ n &&& 0xF0 = 0xF0
      if n ≠ 0xFF ∧ !(half ∧ s.flag (rFabPortCtl f) 3) then s.linkDown f 3 1
      else
      let n := if n = 0xFF then n else if n &&& 0x0F = 0x0F then 0x0F else 0xF0
      let s := (s.setFld (rFabPortStatus f) 31 28 (if n = 0xFF then 3 else 4)).setFld (rFabPortStatus f) 23 16 n
      let s := (s.setFport f { s.fport f with idleSince := s.now.toNat }).linkTimeReset f
      ((s.linkEvent f 0x10 0 0 1).portPump f).fabPump)

/-- R438: the signal of a port is lost: during a rail step that waits for the step, else the link goes down. -/
def execFabricLos (port : FabPort) (s : State) : Out :=
  .next (
    let f := port.val
    let x := s.fport f
    if s.fstate f = 6 ∨ (s.fstate f = 7 ∧ x.stepUp) then s.setFport f { x with losWait := true }
    else if s.linkUp f then s.losDown f
    else s)

/-- R438: signal returns on a down port: it trains from low rate. -/
def execFabricSignalDetect (port : FabPort) (s : State) : Out :=
  .next (
    let f := port.val
    if s.fstate f = 1 then (s.setFld (rFabPortStatus f) 31 28 2).setFlag (rFabPortStatus f) 14 false else s)

/-- R440: a job-abort frame: a new one is recorded, forwarded with hop_limit decremented, and faults the local contexts of the
job. -/
def execJobAbortFrame (port : FabPort) (frame : List Byte) (s : State) : Out :=
  .next (
    let f := port.val
    let bs := sliceBytes frame 0 64
    let r : AbortRec := ⟨leAt bs 2 2, leAt bs 4 4, leAt bs 8 4, s.now.toNat⟩
    if !s.linkUp f ∨ leAt bs 0 1 ≠ 0x20 then s
    else if !s.nodeKnown then s.linkEvent f 0x12 0 0 1
    else if s.fab.aborts.any (fun x => x.origin == r.origin && x.job == r.job && x.aseq == r.aseq) then s
    else
      let l := s.fab.aborts ++ [r]
      let s := { s with fab := { s.fab with aborts := if 256 < l.length then l.drop 1 else l } }
      let hops := leAt bs 1 1
      let out := putBytes (putBytes bs 1 (bytesOf 1 (hops - 1))) 12 (bytesOf 1 3)
      let s := if 1 < hops then (s.upPorts.filter (fun p => p != f)).foldl (fun s p => s.portSend p 2 none none out) s else s
      (List.range 512).foldl (fun s c =>
        let st := s.ctxState c
        if (s.reg (rFabCtxJob c)).toNat = r.job ∧ r.job ≠ 0 ∧ s.flag (rFabCtxJobctl c) 0 ∧ st ≠ 0 ∧ st ≠ 6 then
          (s.postCtx c 0x06 0x0E 2 (s.portSource f) (fabPayload f 0 r.origin r.job 0 0 1)).ctxFault c 0x06 0x0E
        else s) s)

/-- R440: a record is forgotten after 10 ms. -/
def execAbortRecordExpiry (n : Nat) (t : DWord) (s : State) : Out :=
  .next (
    let s := s.clock t
    match s.fab.aborts[n]? with
    | some r => if r.time + 640000000 ≤ s.now.toNat then { s with fab := { s.fab with aborts := s.fab.aborts.filter (fun x => x != r) } } else s
    | none => s)

/-- FAB_SCHED_ENT: an entry of an enabled schedule cannot be written. -/
def schedEntReg (f : Nat) : RegEffect :=
  { RegEffect.plain with
    veto := fun s _ _ _ => if s.flag (rFabSchedCtl f) 31 then some 4 else none }

end Sys2Proof.Machine
end

