-- ==== Sys2Proof/Machine/SvcOps.lean ====
section
/-!
DEFINITION. What the service die does for several chapters: the repair log (R489 to R491), the logical-to-physical map and the
remap of an array (R26, R496, R497), the effective cap (R463), voltage setpoints (R452), and cold reset (R502).
-/
namespace Sys2Proof.Machine

/-- R501: the bytes of a shift map target: array, row, four 9-bit skip columns. -/
def shiftTarget (p row : Nat) (skips : Nat) : List Nat :=
  [p, row % 256, row / 256, 0] ++ le32 (skips % 2 ^ 32) ++ [skips / 2 ^ 32 % 256]

/-- R493: the skip columns of a row in force; with no defect, 256 to 259. -/
def State.skipsOf (s : State) (p row : Nat) : List Nat := tblGet [256, 257, 258, 259] s.brp.skips (512 * p + row)

/-- R492: the skipped row of a strip in force; with no defect, 16. -/
def State.kOf (s : State) (p strip : Nat) : Nat := tblGet 16 s.brp.kmap (16 * p + strip)

/-- R492, R493, R501: apply a shift map. -/
def State.setSkips (s : State) (p row skips : Nat) : State :=
  let cols := (List.range 4).map (fun j => bitsOf skips (9 * j + 8) (9 * j))
  { s with brp := { s.brp with skips := tblPut s.brp.skips (512 * p + row) cols } }

/-- R492, R501: apply a row map. -/
def State.setK (s : State) (p strip k : Nat) : State := { s with brp := { s.brp with kmap := tblPut s.brp.kmap (16 * p + strip) k } }

/-- R26, R495: back a logical array with a physical one, or with none; GLB_ARRAYS shows the physical arrays in use. -/
def State.setMap (s : State) (n : Nat) (p : Option Nat) : State :=
  let s := s.setReg (rBrpMap n) (match p with | some p => BitVec.ofNat 32 (2 ^ 31 + p) | none => 0#32)
  s.setFld rGlbArrays 17 0 (packBits 18 (fun p => (List.range 16).any (fun n => s.physOf n == some p)))

/-- R505: the generation of a physical array increments. -/
def State.arrayGen (s : State) (p : Nat) : State := s.setFld (rBrpAryGen p) 7 0 ((s.fld (rBrpAryGen p) 7 0 + 1) % 256)

/-- CHK_ARRAY.spare_free of every array (R345). -/
def State.showSpares (s : State) : State :=
  (List.range 18).foldl (fun s p => s.setFlag (rChkArray p) 27 (s.freeSpare p)) s

/-- R496: whether a byte of array n's edge store or slates lies in a range that a remap copies: an allocation of an enabled context
bound to the partition of n. -/
def State.remapCopies (s : State) (ctxs : List Nat) (a : Nat) : Bool :=
  match s.place a with
  | .edge _ x => ctxs.any (fun c => decide ((s.esAlloc c).1 ≤ x) && decide (x < (s.esAlloc c).1 + (s.esAlloc c).2))
  | .slate _ _ b => ctxs.any (fun c =>
      (decide ((s.slAlloc c).1 ≤ b) && decide (b < (s.slAlloc c).1 + (s.slAlloc c).2))
        || (decide ((s.parkAlloc c).1 * 16 ≤ b) && decide (b < ((s.parkAlloc c).1 + (s.parkAlloc c).2) * 16)))
  | _ => true

/-- The logical array whose edge store or slates hold an address. -/
def State.logAt (s : State) (a : Nat) : Option Nat :=
  match s.place a with
  | .edge n _ => some n
  | .slate n _ _ => some n
  | _ => none

/-- R496, R502: fill the edge store and slates of a logical array with zeros, ranges that meet a test left out. -/
def State.zeroArray (s : State) (n : Nat) (keep : Nat → Bool) : State :=
  { s with
    mem := s.mem.filter (fun c => s.logAt c.1 != some n || keep c.1)
    memst := { s.memst with check := s.memst.check.filter (fun (e : Nat × Check) => s.logAt (8 * e.1) != some n || keep (8 * e.1)) } }

/-- The cores of a logical array, with the counters alone kept or nothing kept (R496). -/
def State.clearCores (s : State) (n : Nat) (counters : Bool) : State :=
  { s with cores := (s.cores.map (fun (e : Nat × CoreState) =>
      if e.1 / 65536 = n then (e.1, { CoreState.reset with counters := if counters then e.2.counters else [] }) else e)) }

/-- What a remap keeps of the array it leaves (R496): all but its stationary sets, its clock, and park slots outside the copied ranges
or, when a strip is off, every park slot (R497). -/
def State.movedArray (s : State) (a b : ArrayState) (ctxs : List Nat) (stripOff : Bool) : ArrayState :=
  { a with
    active := none, shadow := none, fp32Pair := false, feed := none
    park := if stripOff then [] else a.park.filter (fun (e : Nat × Block) => ctxs.any (fun c =>
      decide ((s.parkAlloc c).1 ≤ e.1) && decide (e.1 < (s.parkAlloc c).1 + (s.parkAlloc c).2)))
    halted := false, gated := b.gated, brake := b.brake, stripClocked := b.stripClocked, freqCode := b.freqCode
    targetCode := b.targetCode, stretch := b.stretch, fllFrozen := b.fllFrozen, qtzOffset := b.qtzOffset, qtzLocked := b.qtzLocked, streamEnd := b.streamEnd }

/-- R26, R496, R497: a remap takes effect: the state moves, what is not copied reads zero on the new array, a copied word that cannot be
read arrives poisoned (R256, R272), the map switches. -/
def State.switchMap (s : State) (r : Remap) : State :=
  let part := (List.range 16).find? (fun q => let x := s.partRange q; decide (x.1 ≤ r.logical) && decide (r.logical < x.1 + x.2))
  let ctxs := match part with | some q => (s.ctxsOf q).filter (fun c => s.flag (rDspCtxCtl c) 30) | none => []
  let off := (List.range 16).any (fun i => !(s.dom (16 * r.src + i) == 2 || s.dom (16 * r.src + i) == 3))
  let a := s.arr r.src
  let b := s.arr r.dst
  let s := (s.zeroArray r.logical (s.remapCopies ctxs)).clearCores r.logical true
  let s := ((s.memst.check.map (fun c => c.1 * 8)).filter (fun w => s.logAt w == some r.logical)).foldl (fun s w => s.readCheck none w) s
  let s := (s.setArr r.dst (s.movedArray a b ctxs off)).setArr r.src
    { ArrayState.reset with halted := a.halted, gated := a.gated, brake := a.brake, stripClocked := a.stripClocked, freqCode := a.freqCode
                            targetCode := a.targetCode, qtzOffset := a.qtzOffset, qtzLocked := a.qtzLocked
                            streamEnd := a.streamEnd }
  let s := (s.setMap r.logical (some r.dst)).lifeCount 502 1
  (s.brpEvent 0xA4 0 (brpPayload 0 0 (srcOf 1 r.dst) 0 0 r.logical r.dst)).showSpares

/-- R119, R448, R473: every array stops as a fault and its clock stands. -/
def State.stopAll (s : State) : State :=
  (List.range 18).foldl (fun s p => (s.faultArr p).modArr p (fun a => { a with gated := true })) s

/-- R481: a power payload. -/
def pwrPayload (dom mod b19 v20 v24 v28 v32 ary spare peer : Nat) : Nat :=
  payloadOf [(16, 2, dom), (18, 1, mod), (19, 1, b19), (20, 4, v20), (24, 4, v24), (28, 4, v28), (32, 4, v32), (36, 1, ary), (37, 1, spare),
    (38, 2, peer)]

/-- R481: an event of a domain. -/
def State.domEvent (s : State) (code sev d b19 mv ma ary spare : Nat) : State :=
  s.postDev 0x07 code sev (srcOf 9 d) (pwrPayload d 0xFF b19 mv ma 0 0 ary spare 0)

/-- R481: an event of the input, the modules, the cap or the pool. -/
def State.inputEvent (s : State) (code sev mod b19 v20 v24 before after peer : Nat) : State :=
  s.postDev 0x07 code sev (srcOf 7 0) (pwrPayload 0xFFFF mod b19 v20 v24 before after 0xFF 0xFF peer)

/-- R447: C_max. -/
def State.capMax (s : State) : Nat :=
  s.fld rPwrTdp 15 0 * ((List.range 24).filter (fun m => s.flag rPwrMod m)).length / 24

/-- R463: the device's cap before C_max and C_rack: the grant with the pool loans. -/
def State.capNet (s : State) : Nat :=
  let up := s.power.borrowed.foldl (fun a l => a + l.watts) 0
  let down := match s.power.lent with | some l => l.watts | none => 0
  s.fld rPwrCapGrant 15 0 + up - down

/-- R463, R466: whether C_rack applies. -/
def State.rackOn (s : State) : Bool := s.flag rPwrStatus 20 || s.flag rPwrRack 30

/-- R463: C_eff. -/
def State.capEff (s : State) : Nat :=
  let c := Nat.min s.capNet s.capMax
  if s.rackOn then Nat.min c (s.fld rPwrRack 15 0) else c

/-- R463, R481: PWR_CAP_EFF and PWR_POOL_LOAN follow their terms; code 0x01 tells a change. -/
def State.capUpdate (s : State) : State :=
  let old := s.fld rPwrCapEff 15 0
  let new := s.capEff
  let up := s.power.borrowed.foldl (fun a l => a + l.watts) 0
  let down := match s.power.lent with | some l => l.watts | none => 0
  let s := s.setReg rPwrPoolLoan (BitVec.ofNat 32 (2 ^ 32 + up - down))
  if old = new then s else (s.setFld rPwrCapEff 15 0 new).inputEvent 0x01 0 0xFF 0 0 0 old new 0

/-- The registers that stand through a reset: those of domains that a test keeps. -/
def State.keepRegs (s : State) (keep : RegDom → Bool) : Tbl Word :=
  s.regs.filter (fun (e : Nat × Word) => match findReg e.1 with | some r => keep r.dom | none => false)

/-- R486: the mode of the bring-up that starts: 0 full, 1 quick, 3 promoted. -/
def State.bootMode (s : State) : Nat :=
  let hours := s.fld rBrpSinceFull 15 0
  let quicks := s.fld rBrpSinceFull 31 16
  let ok := s.brp.reached && s.brp.lastGood && decide (hours ≤ s.fld rBrpBoot 15 8 * 24) && decide (quicks < s.fld rBrpBoot 7 0)
  let m := s.fld rBrpBoot 17 16
  if m = 0 then 0 else if ok then 1 else if m = 1 then 3 else 0

/-- R248: the pseudo-channels marked for retirement. -/
def State.markedPcs (s : State) : List Nat :=
  s.brp.marked ++ (List.range 1152).filter (fun pc => s.flag (rMmuHbmPend (pc / 64) + 4 * (pc % 64 / 32)) (pc % 32) && !s.brp.marked.contains pc)

/-- R502: what a cold reset leaves: every register but those held in flash, every die and every generation at reset; flash and
host memory stand. Contents that the service die had not yet written to flash are lost (R542). -/
def State.coldReset (s : State) : State :=
  let l := s.life
  let r := { State.reset with
    pending := s.pending, fuses := s.fuses, out := s.out, fresh := s.fresh
    regs := s.keepRegs (fun d => d == RegDom.flash)
    mem := s.mem.filter (fun c => match s.place c.1 with | .host _ => true | _ => false)
    life := { l with buf := [], ctr := if l.seqB < l.seqA then l.copyA else l.copyB }
    power := { PowerState.reset with down := s.power.down, ofs := s.power.ofsNext, ofsNext := s.power.ofsNext, spent := s.power.spent
                                     days := s.power.days, pinReq := s.power.pinReq }
    brp := { BrpState.reset with log := s.brp.log, lastGood := s.brp.lastGood, reached := s.brp.reached, pwrFail := s.brp.pwrFail
                                 thermTrip := s.brp.thermTrip, marked := s.markedPcs, badSites := s.brp.badSites, slotId := s.brp.slotId, recov := s.brp.recov }
    mgt := { MgtState.reset with slots := s.mgt.slots, recA := s.mgt.recA, recB := s.mgt.recB, taken := s.mgt.taken } }
  let r := { r with regs := tblPut r.regs rChkPyrVersion (s.reg rChkPyrVersion) }
  let r := if s.flag rMgtOwner 31 then r.ownerEntry (0, 0, 0) 0 0 5 else r
  r.setFlag rBrpBoot 31 false

/-- R484, R486, R554: stage 0 starts: the straps are sampled and the mode of the bring-up is chosen. -/
def State.stageZero (s : State) (slotId : Nat) (recov : Bool) : State :=
  let m := s.bootMode
  let s := { s with
    brp := { s.brp with slotId := slotId, recov := recov, pwrFail := false, ready := false, reached := false }
    power := { s.power with down := 0 } }
  let s := (s.setFld rBrpStatus 24 23 m).lifeCount 2 1
  let i3c (off n : Nat) (s : State) : State :=
    let s1 := if slotId = 15 then s.drawn else s
    (s1.setFld off 23 20 slotId).setFld off 10 0 (if slotId = 15 then (s.free + n) % 2048 else 0)
  let s := (i3c rMgtI3cB 0 (i3c rMgtI3cA 0 s)).showBoot
  if m = 3 then s.brpEvent 0xAD 0 (brpPayload 0 0 0xFFFF 0 0 0xFF 0xFF) else s

end Sys2Proof.Machine
end

