-- ==== Sys2Proof/Machine/Host.lean ====
section
/-!
DEFINITION. Host ports (12_host_fabric R406 to R415, R443, R445): links, resets of a port and of its functions, configuration
requests, completions of the device's reads, and the errors of a link.
-/
namespace Sys2Proof.Machine

/-- R443: an event of a host port, which also raises vector 4 of its physical function (R409). -/
def State.hostEvent (s : State) (h code sev fn addr count : Nat) : State :=
  (s.postDev 0x0E code sev (s.hostSource h) (payloadOf [(16, 1, h), (17, 2, fn), (20, 8, addr), (28, 4, count)])).msixRaise h 0 4

/-- The enabled contexts bound to a function of a host port; none: to any function. -/
def State.boundTo (s : State) (h : Nat) (fn : Option Nat) : List Nat :=
  (List.range 512).filter (fun c => s.boundPort c == some h && (match fn with | some f => s.fld (rDspCtxFunc c) 8 0 == f | none => true))

/-- R445: HST_STATUS.num_vfs shows the VFs that are enabled. -/
def State.showVfs (s : State) (h : Nat) : State :=
  let x := s.hport h
  s.setFld (rHstStatus h) 8 0 (if x.vfEnable then x.numVfs else 0)

/-- R415: the port's link, configuration space, MSI-X and translations are reset. A link that was up goes down. -/
def State.hostPortReset (s : State) (h : Nat) (released : Option Nat) (budget : Option Nat) : State :=
  let up := s.flag (rHstStatus h) 30
  let s := s.setHport h { HostPort.reset with released := released, budget := budget }
  let s := { s with memst := { s.memst with atc := tblDel s.memst.atc h } }
  let s := ((s.setFld (rHstStatus h) 30 29 0).setFld (rHstStatus h) 27 24 0).setFld (rHstStatus h) 20 16 0
  let s := s.setFld (rHstStatus h) 8 0 0
  if up then (((s.bump (rHstLinkDown h) 1).lifeCount (782 + 4 * h) 1).hostEvent h 2 0 0 0 1) else s

/-- R415, R528: what a reset of the port does to contexts and to ownership. -/
def State.hostPortFaults (s : State) (h : Nat) : State :=
  ((s.boundTo h none).foldl (fun s c => s.ctxFault c 0x0E 3) s).ownerEnds 4 h

/-- R415, R408: PERST_L is asserted: the port is reset and takes its VF budget. -/
def execHostPerstAssert (h : HostPortId) (s : State) : Out :=
  .next (
    if s.flag (rHstStatus h.val) 31 then s
    else
      let s := (s.hostPortReset h.val none (some (s.fld (rHstVfBudget h.val) 8 0))).setFlag (rHstStatus h.val) 31 true
      ((s.hostEvent h.val 3 2 0 0 1).hostPortFaults h.val).dispatch)

/-- R414: whether the port's PCIe logic runs: stage 8 has completed. -/
def State.hostLogic (s : State) : Bool :=
  s.fld rBrpStatus 27 25 == 1 || (s.fld rBrpStatus 27 25 == 0 && decide (9 ≤ s.fld rBrpStatus 31 28)) || s.fld rBrpStatus 27 25 == 3

/-- R414: PERST_L is released. -/
def execHostPerstDeassert (h : HostPortId) (t : DWord) (s : State) : Out :=
  .next (
    let s := s.setFlag (rHstStatus h.val) 31 false
    if s.hostLogic ∧ s.flag rGlbHostEn h.val then s.setHport h.val { s.hport h.val with released := some t.toNat } else s)

/-- R415: a Hot Reset, or the link going down, acts as PERST_L. -/
def execHostHotReset (h : HostPortId) (s : State) : Out :=
  .next ((((s.hostPortReset h.val (s.hport h.val).released (s.hport h.val).budget).hostPortFaults h.val)).dispatch)

/-- R406, R414: the link trains to a rate and a width. At 64 GT/s it runs in FLIT mode. -/
def execHostLinkUp (h : HostPortId) (speed width : Nat) (s : State) : Out :=
  .next (
    if (s.hport h.val).released = none ∨ !s.hostLogic ∨ speed = 0 ∨ 6 < speed ∨ !([1, 2, 4, 8, 16].contains width) then s
    else
      let s := ((s.setFlag (rHstStatus h.val) 30 true).setFlag (rHstStatus h.val) 29 (speed == 6)).setFld (rHstStatus h.val) 27 24 speed
      let s := (s.setFld (rHstStatus h.val) 20 16 width).setHport h.val { s.hport h.val with trained := true }
      s.hostEvent h.val 1 0 0 0 1)

/-- A function's configuration, MSI-X and translations are reset (R415). -/
def State.functionReset (s : State) (h fn : Nat) : State :=
  let x := s.hport h
  let s := s.setHport h { x with
    fns := tblDel x.fns fn
    msix := x.msix.filter (fun (e : Nat × Word) => !(decide (64 * fn ≤ e.1) && decide (e.1 < 64 * fn + 64)) && e.1 != 65536 + fn)
    cfg := x.cfg.filter (fun (e : Nat × Word) => e.1 / 64 != fn)
    waiting := x.waiting.filter (fun e => e.fn != fn)
    atsWait := x.atsWait.filter (fun e => e.fn != fn)
    atsOut := x.atsOut.filter (fun e => e.1 != fn) }
  { s with memst := { s.memst with atc := tblPut s.memst.atc h ((tblGet [] s.memst.atc h).filter (fun e => e.1 != fn)) } }

/-- R415: a function-level reset of a VF: its configuration is reset and its context goes through R395. -/
def State.vfFlr (s : State) (h fn : Nat) : State :=
  let s := (s.functionReset h fn).hostEvent h 4 0 fn 0 1
  ((s.boundTo h (some fn)).foldl State.ctxReset s).dispatch

/-- R415: a function-level reset of the PF: VF Enable is cleared, every translation goes, and every context of the port goes
through R395. -/
def State.pfFlr (s : State) (h : Nat) : State :=
  let x := s.hport h
  let s := s.setHport h { HostPort.reset with released := x.released, budget := x.budget, trained := x.trained }
  let s := { s with memst := { s.memst with atc := tblDel s.memst.atc h } }
  let s := ((s.showVfs h).hostEvent h 4 0 0 0 1).ownerEnds 4 h
  ((s.boundTo h none).foldl State.ctxReset s).dispatch

/-- R408: whether a function of a port exists: the PF, or a VF that is enabled. -/
def State.functionOn (s : State) (h fn : Nat) : Bool :=
  fn == 0 || ((s.hport h).vfEnable && decide (fn ≤ (s.hport h).numVfs))

/-- A VF's function-level reset. -/
def execVfFlr (h : HostPortId) (fn : Fin 512) (s : State) : Out :=
  .next (if fn.val ≠ 0 ∧ s.functionOn h.val fn.val then s.vfFlr h.val fn.val else s)

/-- The PF's function-level reset. -/
def execPfFlr (h : HostPortId) (s : State) : Out := .next (s.pfFlr h.val)

/-- R408: TotalVFs of a port: the budget taken at the last PERST_L. -/
def State.totalVfs (s : State) (h : Nat) : Nat := (s.hport h).budget.getD (regReset s.fuses (rHstVfBudget h)).toNat

/-- R411, R407: requests of a function that waited for Bus Master Enable, or for D0, leave in order. -/
def State.hostFlush (s : State) (h fn : Nat) : State :=
  let x := s.hport h
  let y := tblGet HostFn.reset x.fns fn
  if y.bme && !y.d3 then
    let go := x.waiting.filter (fun e => e.fn == fn)
    go.foldl (fun s e => s.hostReq h e) (s.setHport h { x with waiting := x.waiting.filter (fun e => e.fn != fn) })
  else s

/-- R407: MSI-X messages that were pending leave when their vector may send. -/
def State.msixFlush (s : State) (h fn : Nat) : State :=
  let p := (tblGet 0#32 (s.hport h).msix (65536 + fn)).toNat
  let s := s.setHport h { s.hport h with msix := tblDel (s.hport h).msix (65536 + fn) }
  (List.range 8).foldl (fun s v => if p.testBit v then s.msixRaise h fn v else s) s

/-- R409: the size of a function's base address register, as a power of two; 0: not implemented. -/
def barBits (fn i : Nat) : Nat :=
  if fn = 0 then (if i / 2 = 0 then 26 else if i / 2 = 1 then 25 else 16) else if i / 2 = 0 then 16 else 0

/-- What a configuration read returns. -/
def State.cfgRead (s : State) (h fn : Nat) (item : CfgItem) : Nat :=
  let x := s.hport h
  let y := tblGet HostFn.reset x.fns fn
  let word (k : Nat) : Nat := (tblGet 0#32 x.cfg (64 * fn + k)).toNat
  match item with
  | .identity => s.fld (rHstId h) 15 0 + 65536 * (if fn = 0 then 0x0A71 else 0x0A72)
  | .command => 2 * b2n y.mem + 4 * b2n y.bme
  | .bar i => word i.val + (if barBits fn i.val ≠ 0 ∧ i.val % 2 = 0 then 4 else 0)
  | .deviceControl => 16 * b2n y.ro + 32 * x.mps + 4096 * x.mrrs
  | .deviceControl2 => word 8
  | .sriovControl => b2n x.vfEnable
  | .numVfs => x.numVfs
  | .totalVfs => s.totalVfs h
  | .atsControl => 32768 * b2n y.ats
  | .msixControl => 32768 * b2n y.msix + (if fn = 0 then 7 else 3)
  | .pmControl => if y.d3 then 3 else 0
  | .serial high => bitsOf s.fuses.serial.toNat (if high then 63 else 31) (if high then 32 else 0)
  | .other _ => 0

/-- What a configuration write does. -/
def State.cfgWrite (s : State) (h fn : Nat) (item : CfgItem) (v : Nat) : State :=
  let x := s.hport h
  let y := tblGet HostFn.reset x.fns fn
  let put (z : HostFn) : State := s.setHport h { x with fns := tblPut x.fns fn z }
  match item with
  | .command => (put { y with mem := v.testBit 1, bme := v.testBit 2 }).hostFlush h fn
  | .bar i =>
    let n := barBits fn i.val
    if n = 0 then s
    else s.setHport h { x with cfg := tblPut x.cfg (64 * fn + i.val) (BitVec.ofNat 32 (if i.val % 2 = 0 then v / 2 ^ n * 2 ^ n else v)) }
  | .deviceControl =>
    if v.testBit 15 then (if fn = 0 then s.pfFlr h else s.vfFlr h fn)
    else
      let s := put { y with ro := v.testBit 4 }
      if fn = 0 then s.setHport h { s.hport h with mps := Nat.min 2 (bitsOf v 7 5), mrrs := bitsOf v 14 12 } else s
  | .deviceControl2 => s.setHport h { x with cfg := tblPut x.cfg (64 * fn + 8) (BitVec.ofNat 32 (v % 65536)) }
  | .sriovControl => if fn = 0 then (s.setHport h { x with vfEnable := v.testBit 0 }).showVfs h else s
  | .numVfs => if fn = 0 ∧ !x.vfEnable ∧ v ≤ s.totalVfs h then s.setHport h { x with numVfs := v } else s
  | .atsControl => put { y with ats := v.testBit 15 }
  | .msixControl => (put { y with msix := v.testBit 15 }).msixFlush h fn
  | .pmControl => (put { y with d3 := v % 4 == 3 }).hostFlush h fn
  | _ => s

/-- R414: a configuration request at a port. The answer is its status (0 successful, 1 Request Retry Status, 2 Unsupported
Request), then the value read. -/
def execHostConfigRequest (h : HostPortId) (fn : Fin 512) (write : Bool) (item : CfgItem) (v : Word) (t : DWord) (s : State) : Out :=
  .next (
    match (s.hport h.val).released with
    | none => s
    | some r =>
      if !s.flag (rHstStatus h.val) 30 then s
      else if t.toNat < r + 6400000000 then s.answer [1]
      else if !s.functionOn h.val fn.val then s.answer [2]
      else if write then (s.cfgWrite h.val fn.val item v.toNat).answer [0]
      else match item with
        | .other _ => (s.drawn).answer [0, s.free % 2 ^ 32]
        | _ => s.answer [0, s.cfgRead h.val fn.val item])

/-- R272, R412: a TLP with EP set has come: counted, and class 0x01 code 0x32. -/
def State.poisonedTlp (s : State) (h a : Nat) (ctx : Option Nat) : State :=
  ((s.bump (rHstPoisonRx h) 1).lifeCount (783 + 4 * h) 1).post ctx ctx.isSome 0x01 0x32 2 (s.hostSource h)
    (payloadOf [(16, 8, a), (25, 1, 4), (28, 4, 1)])

/-- R412: a completion of a read that the device issued: status 0 successful, 1 Unsupported Request, 2 Completer Abort; ep: data
that come poisoned. What is read is poisoned unless it came whole. -/
def execHostReadCompletion (h : HostPortId) (fn : Fin 512) (off len : Nat) (data : List Byte) (status : Fin 3) (ep : Bool) (s : State) : Out :=
  .next (
    let a := hostWindow h.val off
    if status.val ≠ 0 then
      ((s.poison a len).bump (rHstCplErr h.val) 1).hostEvent h.val 6 2 fn.val off 1
    else
      let s := (s.wrBytes a (data.take len)).bump64 (rHstRx h.val) (data.take len).length
      if ep then (s.poison a len).poisonedTlp h.val a (s.boundTo h.val (some fn.val)).head? else s)

/-- R412: a read that the device issued gets no completion in time. -/
def execHostCompletionTimeout (h : HostPortId) (fn : Fin 512) (off len : Nat) (s : State) : Out :=
  .next (
    let s := (s.poison (hostWindow h.val off) len).bump (rHstCplTout h.val) 1
    (s.lifeCount (781 + 4 * h.val) 1).hostEvent h.val 5 2 fn.val off 1)

/-- R443: a correctable error of the link. -/
def execCorrectableLinkError (h : HostPortId) (s : State) : Out :=
  .next (((s.bump (rHstCe h.val) 1).lifeCount (780 + 4 * h.val) 1).hostEvent h.val 9 1 0 0 1)

/-- R19, R443: the report of UCIe module retirement at the I/O die of host port h, at site k. -/
def State.ucieEvent (s : State) (h k : Nat) : State :=
  (s.postDev 0x0E 0x0A 1 (srcOf 6 (k * 16 + 15)) (payloadOf [(16, 1, h), (28, 4, 1)])).msixRaise h 0 4

/-- R19, R443, R490: a UCIe module of an I/O die's site port that fails lane repair is retired. -/
def execUcieModuleRetire (k : SiteId) (m : Fin 16) (s : State) : Out :=
  .next (
    match (List.range s.ioSites.length).find? (fun h => nth 18 s.ioSites h == k.val) with
    | none => s
    | some h =>
      if !s.flag (rHstUcie h) m.val then s
      else
        (((s.setFlag (rHstUcie h) m.val false).setFlag (rHstUcie h) (16 + m.val) true).logAdd 0x0D 6 0 [k.val, m.val]).ucieEvent h k.val)

/-- R408: a VF budget that breaks the sum over the enabled ports is dropped. -/
def vfBudgetReg (h : Nat) : RegEffect :=
  { RegEffect.plain with
    veto := fun s _ v _ =>
      let n := sumTo 8 (fun g => if s.flag rGlbHostEn g then 1 + (if g = h then bitsOf v 8 0 else s.fld (rHstVfBudget g) 8 0) else 0)
      if 512 < n then some 3 else none }

end Sys2Proof.Machine
end

