-- ==== Sys2Proof/Machine/Reset.lean ====
section
/-!
DEFINITION. Bring-up control and the device, field and array resets (14_bringup_repair R484, R488, R502 to R505), and arrays that
leave service (R353, R455, R456).
-/
namespace Sys2Proof.Machine

/-- R345, R369: the free spare nearest to an array, in the order of R345 and R495; one that is a partner of a replay is not taken. -/
def State.spareFor (s : State) (p : Nat) : Option Nat :=
  nearest p ((List.range 18).filter (fun q => q != p && s.freeSpare q && !s.isPartner q))

/-- The physical array of an ARY block or PWR_ARY register. -/
def regArray (off : Nat) : Option Nat :=
  match findReg off with
  | some r => if r.dom = RegDom.array then (match r.dims with | (_, st) :: _ => some ((off - r.base) / st) | _ => none) else none
  | none => none

/-- R502: the resets of an array: its ARY registers, its controller, engines, cores and translation caches, its edge store and slates; its
generation increments. -/
def State.arrayClear (s : State) (p : Nat) : State :=
  let a := s.arr p
  let s := { s with regs := s.regs.filter (fun (e : Nat × Word) => regArray e.1 != some p) }.dropLatches (fun off => regArray off == some p)
  let s := s.setArr p { ArrayState.reset with
    halted := a.halted, gated := a.gated, brake := a.brake, stripClocked := a.stripClocked
    qtzOffset := a.qtzOffset, qtzLocked := a.qtzLocked }
  let s := match s.logOf p with
    | some n => (s.zeroArray n (fun _ => false)).clearCores n false
    | none => s
  let s := { s with memst := { s.memst with tlb := s.memst.tlb.filter (fun (e : Nat × List TlbEntry) => e.1 / 5 != p) } }
  (s.arrayGen p).setFlag (rAryClkStatus p) 29 a.stripClocked

/-- R336: the mode of an array's clock. -/
def State.setStripClock (s : State) (p : Nat) (b : Bool) : State :=
  (s.modArr p (fun a => { a with stripClocked := b })).setFlag (rAryClkStatus p) 29 b

/-- R455, R494: an array is retired: recorded, and its domains are powered off. -/
def State.retireArray (s : State) (p reason stage : Nat) : State :=
  let s := ((s.setFld (rChkArray p) 31 30 3).logAdd 0x04 reason stage [p])
  let s := { s with integ := { s.integ with want := tblDel s.integ.want p } }
  let s := ((List.range 16).map (fun i => 16 * p + i) ++ [288 + p]).foldl (fun s d => if s.dom d = 5 then s else s.setDom d 0) s
  s.showSpares

/-- R496, R353: an array must be replaced: kind 3 over-current, 4 before a reset. -/
def State.wantMove (s : State) (p kind : Nat) : State :=
  { s with integ := { s.integ with want := tblPut s.integ.want p (Nat.max kind ((tblFind s.integ.want p).getD 0)) } }

/-- R504: an array reset with the results of its mesh test and self-test; field: the field reset it belongs to. -/
def State.arrayReset (s : State) (p : Nat) (mesh test : Bool) : State :=
  let s := (s.arrayClear p).setStripClock p !mesh
  if test then s else s.retireArray p 1 6

/-- R504: whether a reset of an array is refused, waits for a remap, or runs: 0 refused, 1 remap first, 2 at once. -/
def State.resetKind (s : State) (p : Nat) : Nat :=
  if s.integ.pyr.any (fun r => r.running && r.array == p) then 0
  else match s.logOf p with
    | none => 2
    | some n =>
      if s.brp.remaps.any (fun r => r.src == p) then 1
      else if (List.range 512).any (fun c => s.flag (rDspCtxCtl c) 30 && s.inPartition c n) then
        (if (s.spareFor p).isSome then 1 else 0)
      else 2

/-- R513: the end of an array or a field reset: result 0 done, 2 refused. -/
def State.resetEvent (s : State) (code result unit phys : Nat) : State := s.brpEvent code 0 (brpPayload 0 result unit 0 0 0xFF phys)

/-- R504: an array reset is asked for. -/
def State.askArrayReset (s : State) (p : Nat) (mesh test : Bool) : State :=
  match s.resetKind p with
  | 0 => s.resetEvent 0xA5 2 (srcOf 1 p) p
  | 1 =>
    let s := if s.brp.remaps.any (fun r => r.src == p) then s else s.wantMove p 4
    { s with brp := { s.brp with waits := s.brp.waits ++ [⟨p, mesh, test, none⟩] } }
  | _ => (s.arrayReset p mesh test).resetEvent 0xA5 0 (srcOf 1 p) p

/-- R502: a field's own reset: its services and both arrays. -/
def State.fieldEnd (s : State) (f : Nat) : State := s.resetEvent 0xA6 0 (srcOf 4 f) 0xFF

/-- R504: a field reset is asked for: it is refused when either array is, and runs when both are free. -/
def State.askFieldReset (s : State) (f : Nat) (mesh test : Bool) : State :=
  let ps := [2 * f, 2 * f + 1]
  if ps.any (fun p => s.resetKind p == 0) ∨ ((ps.filter (fun p => s.resetKind p == 1)).length = 2
      ∧ ((List.range 18).filter (fun q => !ps.contains q && s.freeSpare q)).length < 2) then s.resetEvent 0xA6 2 (srcOf 4 f) 0xFF
  else
    let s := ps.foldl (fun s p => match s.resetKind p with
      | 1 =>
        let s := s.wantMove p 4
        { s with brp := { s.brp with waits := s.brp.waits ++ [⟨p, mesh, test, some f⟩] } }
      | _ => s.arrayReset p mesh test) s
    if s.brp.waits.any (fun w => w.field == some f) then s else s.fieldEnd f

/-- R504, R511: resets that waited for a remap of an array run. -/
def State.runWaits (s : State) (p : Nat) : State :=
  let go := s.brp.waits.filter (fun w => w.array == p)
  let s := { s with brp := { s.brp with waits := s.brp.waits.filter (fun w => w.array != p) } }
  go.foldl (fun s w =>
    let s := s.arrayReset p w.mesh w.test
    match w.field with
    | none => s.resetEvent 0xA5 0 (srcOf 1 p) p
    | some f => if s.brp.waits.any (fun w => w.field == some f) then s else s.fieldEnd f) s

/-- Registers of domain device that show what a device reset keeps (R502): links, and domains that stay powered. -/
def keptLive (off : Nat) : Bool :=
  match findReg off with
  | some r => r.base == rFabPortStatus 0 || r.base == rFabPortPeer 0 || r.base == rHstStatus 0 || r.base == rPwrDom 0
      || r.base == rMmuHbmCap || r.base == rMmuHbmCap + 4
  | none => false

/-- R503 steps 1 to 3: contexts are disabled, registers of the device, field, array and context domains are reset, edge stores
and slates are cleared; stages 6, 10 and 11 follow. -/
def State.deviceReset (s : State) : State :=
  let on := (List.range 512).filter (fun c => s.flag (rDspCtxCtl c) 30 || s.ctxState c != 0)
  let s := on.foldl (fun s c => ((s.ctxReset c).abandon c).ctxResetEnd c) s
  let gens := on.map (fun c => (c, s.ctxGen c))
  let s := (List.range 18).foldl State.arrayClear s
  let regs := s.regs.filter (fun (e : Nat × Word) => keptLive e.1 || (match findReg e.1 with
    | some r => r.dom == RegDom.cold || r.dom == RegDom.flash
    | none => false))
  let s := { s with
    regs := regs
    arrays := s.arrays.map (fun (e : Nat × ArrayState) => (e.1, { ArrayState.reset with
      brake := e.2.brake, gated := e.2.gated, stripClocked := e.2.stripClocked, qtzOffset := e.2.qtzOffset, qtzLocked := e.2.qtzLocked }))
    cores := [], mesh := [], rings := [], ctxs := [], parts := [], signals := [], flint := ⟨[], 0⟩
    mem := s.mem.filter (fun c => (s.logAt c.1).isNone)
    memst := { s.memst with
      check := s.memst.check.filter (fun (e : Nat × Check) => (s.logAt (8 * e.1)).isNone)
      tlb := [], stalled := [], inv := none, winq := [], winData := [] }
    integ := { s.integ with pyr := [], steps := [], rde := none, rdeLast := none, kak := none }
    fab := { s.fab with txns := [], pairs := [], errs := [] }
    power := { s.power with lent := none, borrowed := [], slacks := [], prep := [] }
    brp := { s.brp with remaps := [], waits := [], repair := false, ready := false, hang := [], declared := [] } }
  let s := s.showPyr.dropLatches (fun off => !keptLive off && (match findReg off with
    | some r => r.dom != RegDom.cold && r.dom != RegDom.flash
    | none => true))
  let s := gens.foldl (fun s (g : Nat × Nat) => s.setFld (rDspCtxCtl g.1) 15 8 g.2) s
  let s := ((s.setFld rBrpStatus 27 25 3).setFld rBrpStatus 31 28 6).setFld rBrpStatus 24 23 2
  let s := (s.setFlag rBrpStatus 18 false).setFlag rBrpDsp 31 false
  ({ s with brp := { s.brp with began := s.now.toNat } }).lifeCount 7 1

/-- R484: bring-up stops with a failure of the present stage. -/
def State.bringupFail (s : State) (unit detail : Nat) : State :=
  let st := s.fld rBrpStatus 31 28
  (s.setFld rBrpStatus 27 25 2).brpEvent 0xA1 3 (brpPayload st 3 unit detail 0 0xFF 0xFF)

/-- R484: bring-up restarts from stage 2; the fifth request fails the stage that made it. -/
def State.bringupRestart (s : State) (unit detail : Nat) : State :=
  let n := s.fld rBrpStatus 22 20
  if 4 ≤ n then s.bringupFail unit detail
  else
    let st := s.fld rBrpStatus 31 28
    ((s.setFld rBrpStatus 22 20 (n + 1)).setFld rBrpStatus 31 28 2).brpEvent 0xA2 0 (brpPayload st 0 unit detail 0 0xFF 0xFF)

/-- R456, R498, R508: a severity-3 event of the device starts a device reset when BRP_CTL.auto_reset is 1 and stage 11 was reached. -/
def State.autoReset (s : State) : State := if s.flag rBrpCtl 0 ∧ s.fld rBrpStatus 27 25 = 1 then s.deviceReset else s

/-- BRP_RESET: kind 1 before stage 11 is refused with a class 0x0B event (R511); field and array resets take their tests' results
with them. -/
def brpReset (mesh test : Bool) : RegEffect :=
  { veto := fun s _ _ acted => if acted.testBit 31 ∧ bitsOf acted 30 28 = 1 ∧ s.fld rBrpStatus 27 25 ≠ 1 then some 4 else none
    keep := fun _ v => (v, none)
    act := fun s _ _ acted =>
      let t := bitsOf acted 4 0
      if !acted.testBit 31 then s
      else match bitsOf acted 30 28 with
        | 1 => s.deviceReset
        | 2 => if t < 9 then s.askFieldReset t mesh test else s
        | 3 => if t < 18 then s.askArrayReset t mesh test else s
        | _ => s }

/-- BRP_RESET with kind 1. -/
def execDeviceReset (req : Requester) (v : Word) (s : State) : Out := .next (s.regWrite req rBrpReset v.toNat (brpReset true true))

/-- BRP_RESET with kind 2: the tests of both arrays give these results. -/
def execFieldReset (req : Requester) (v : Word) (mesh test : Bool) (s : State) : Out := .next (s.regWrite req rBrpReset v.toNat (brpReset mesh test))

/-- BRP_RESET with kind 3: the array's tests give these results. -/
def execArrayReset (req : Requester) (v : Word) (mesh test : Bool) (s : State) : Out := .next (s.regWrite req rBrpReset v.toNat (brpReset mesh test))

/-- R26, R353, R496: the next array that must be replaced, and its spare: it holds no uncommitted tile and no remap of it is in
progress. A tile held after a failed verdict is resolved first (R122). -/
def State.remapReady (s : State) (p : Nat) : Option Nat :=
  match tblFind s.integ.want p, s.logOf p with
  | some _, some _ =>
    if s.brp.remaps.any (fun r => r.src == p)
        ∨ (s.arr p).tiles.any (fun t => t.state == 1 || t.state == 2 || t.state == 3 || t.state == 4)
        ∨ (s.arr p).run.running then none
    else s.spareFor p
  | _, _ => none

/-- R26, R496 step 1: a remap starts: the spare is claimed, woken, and its generation increments; the array's queue is stalled. -/
def execRemapStart (p : ArrayId) (s : State) : Out :=
  .next (
    match s.remapReady p.val, s.logOf p.val with
    | some q, some n =>
      let s := (s.wake q).arrayGen q
      let why := (tblFind s.integ.want p.val).getD 1
      let s := { s with brp := { s.brp with remaps := s.brp.remaps ++ [(Remap.mk n p.val q why)] } }
      s.modArr p.val (fun a => { a with gated := true })
    | _, _ => s)

/-- R26, R353, R496 steps 2 to 6: the copies and the fill are complete: the map switches and the queue resumes. A quarantine takes
effect, and a Pyrite run is queued for the array that left. A fault on the spare abandons the copy (R511). -/
def execRemapMapSwitch (p : ArrayId) (s : State) : Out :=
  .next (
    match s.brp.remaps.find? (fun r => r.src == p.val) with
    | none => s
    | some r =>
      let braked := s.power.down ≠ 0
      let lost := (s.arr r.dst).halted || s.fld (rChkArray r.dst) 31 30 != 0
      let s := { s with brp := { s.brp with remaps := s.brp.remaps.filter (fun x => x.src != p.val) } }
      let s := s.modArr p.val (fun a => { a with gated := braked })
      if lost then s
      else
      let s := s.switchMap r
      let s := { s with integ := { s.integ with want := tblDel s.integ.want p.val } }
      let s := s.setFlag (rChkArray p.val) 28 false
      let s := if r.why = 2 then
          ((s.setFld (rChkArray p.val) 31 30 2).bump rChkQuarantines 1).postDev 0x05 0x05 1 (srcOf 1 p.val) (quarantinePayload p.val)
        else s
      let s := if r.why = 2 then (s.stripsOff p.val).queuePyrite ⟨p.val, none, 0, 0xFFFF, false⟩ else s
      let s := s.logAdd 0x03 5 0 [r.logical, r.dst]
      (s.runWaits p.val).showSpares)

end Sys2Proof.Machine
end

