-- ==== Sys2Proof/Machine/Power.lean ====
section
/-!
DEFINITION. Power delivery (13_power R446 to R470, R475 to R478): the input, stage one, domains, current limit and brake, launch
pre-positioning, the cap loop, minimum voltages and energy.
-/
namespace Sys2Proof.Machine

/-- R483: a 10 µs input sample (mV, units of 10 mA) is shown and kept. -/
def State.inputSample (s : State) (mv i : Nat) : State :=
  let s := (s.setFld rPwrInV 15 0 (Nat.min 65535 mv)).setFld rPwrInI 15 0 (Nat.min 65535 i)
  let s := (s.setFlag rPwrStatus 22 (decide (mv < 40000))).setFlag rPwrStatus 21 (decide (60000 < mv))
  { s with power := { s.power with hist := ((mv, i) :: s.power.hist).take 16 } }

/-- R448: the input is below 40 V for 10 µs. -/
def execInputUndervoltageWarn (mv cur : Nat) (s : State) : Out :=
  .next (if mv < 40000 then (s.inputSample mv cur).inputEvent 0x02 0 0xFF 0 mv cur 0 0 0 else s)

/-- R448: the input is above 60 V for 10 µs. -/
def execInputOvervoltageWarn (mv cur : Nat) (s : State) : Out :=
  .next (if 60000 < mv then (s.inputSample mv cur).inputEvent 0x04 0 0xFF 0 mv cur 0 0 0 else s)

/-- R540: units of 64 bytes of a lifetime entry. -/
def LifeEntry.units (e : LifeEntry) : Nat := if e.kind = 2 ∨ e.kind = 7 then 5 else 2

/-- R540: the entries of a ring of 262,144 units, the oldest overwritten, and how many units that is. -/
def trimRing : List LifeEntry → List LifeEntry × Nat
  | [] => ([], 0)
  | e :: l => if 262144 < ((e :: l).map LifeEntry.units).foldl (· + ·) 0 then ((trimRing l).1, (trimRing l).2 + e.units) else (e :: l, 0)

/-- R540, R541: one buffered entry goes to the ring, or is counted as deferred when 4 MiB were written in the last 24 h. -/
def State.lifeWrite (s : State) (e : LifeEntry) : State :=
  let l := s.life
  let day : Nat := ((l.ring.filter (fun x => decide (l.secs < x.secs + 86400))).map LifeEntry.units).foldl (· + ·) 0
  let sev : Nat := if e.kind = 1 then (nth (0#8) e.body 10).toNat else 2
  if 65536 ≤ day ∧ sev < 2 then s.bump rMgtLtDefer 1
  else
    let ring := trimRing (l.ring ++ [e])
    ({ s with life := { l with ring := ring.1, gone := l.gone + ring.2 } }).setReg rMgtLtSeq (BitVec.ofNat 32 e.seq)

/-- R541, R542: the buffered entries and the counters are written to flash. -/
def State.lifeFlush (s : State) : State :=
  let es := s.life.buf
  let s := es.foldl State.lifeWrite { s with life := { s.life with buf := [] } }
  let l := s.life
  if l.seqA ≤ l.seqB then { s with life := { l with copyA := l.ctr, seqA := l.seqB + 1 } }
  else { s with life := { l with copyB := l.ctr, seqB := l.seqA + 1 } }

/-- Every domain is off (R448, R473). -/
def State.domainsOff (s : State) : State :=
  (List.range 334).foldl (fun s d => if s.dom d = 5 then s else (s.setDom d 0).setFld (rPwrDom d) 23 16 0) s

/-- R448: power fail or shutdown: the arrays stop as a fault, the event and the fail are recorded, the domains ramp down. -/
def State.powerDown (s : State) (kind code mv i : Nat) : State :=
  if s.power.down = 1 ∨ s.power.down = 2 ∨ s.power.down = 3 then s
  else
    let s := s.inputSample mv i
    let s := (s.stopAll.inputEvent code 2 0xFF 0 mv i 0 0 0)
    let h := s.power.hist ++ List.replicate 16 (0, 0)
    let s := (s.lifeAdd 0x06 ((h.take 16).flatMap (fun (x : Nat × Nat) => bytesOf 2 x.1 ++ bytesOf 2 x.2))).lifeCount 5 1
    let s := s.lifeFlush.domainsOff
    { s with
      power := { s.power with down := kind }
      brp := { s.brp with ready := false, pwrFail := true } }

/-- R448: the input falls below 36 V for 50 µs, or below 34 V in a sample. -/
def execPowerFail (mv cur : Nat) (s : State) : Out := .next (if mv < 36000 then s.powerDown 1 0x03 mv cur else s)

/-- R448: the input rises above 66 V for 10 µs. -/
def execOvervoltageShutdown (mv cur : Nat) (s : State) : Out := .next (if 66000 < mv then s.powerDown 2 0x05 mv cur else s)

/-- R448, R502: after a power fail or a shutdown the input has stayed within 44 to 60 V for 100 ms: bring-up starts from stage 0, as
after a cold reset. -/
def execInputRecovery (slotId : Fin 16) (recov : Bool) (s : State) : Out :=
  .next (if s.power.down = 1 ∨ s.power.down = 2 then s.coldReset.stageZero slotId.val recov else s)

/-- R447: a stage-one module is isolated. -/
def execModuleIsolate (m : Fin 24) (s : State) : Out :=
  .next (
    if !s.flag rPwrMod m.val then s
    else
      let before := s.fld rPwrCapEff 15 0
      let s := (s.setFlag rPwrMod m.val false).setFld rPwrStatus 19 15 (s.fld rPwrStatus 19 15 + 1)
      let s := (s.logAdd 0x0B 3 0 [m.val]).capUpdate
      s.inputEvent 0x0B 1 m.val 0 (s.fld rPwrInV 15 0) (s.fld rPwrInI 15 0) before (s.fld rPwrCapEff 15 0) 0)

/-- The voltage of a setpoint code in 0.1 mV (R451). -/
def codeVolts (c : Nat) : Nat := 4000 + 25 * c

/-- R449: the maximum current of a domain in 10 mA. -/
def domMax (d : Nat) : Nat :=
  if d < 288 then 7000 else if d < 306 then 6000 else if d < 324 then 3000 else if d < 333 then 4000 else 3000

/-- The physical array of a strip or periphery domain; 0xFF for another. -/
def domArray (d : Nat) : Nat := if d < 288 then d / 16 else if d < 306 then d - 288 else 0xFF

/-- R18, R454: a domain that is off starts its ramp; the port of a site whose enabled bit is 0 stays off. -/
def execDomainSoftStart (d : DomainId) (s : State) : Out :=
  .next (
    if s.power.down ≠ 0 ∨ s.dom d.val ≠ 0 ∨ (306 ≤ d.val ∧ d.val < 324 ∧ !s.siteOn (d.val - 306)) then s
    else
      let s := (s.setDom d.val 1).setFld (rPwrDom d.val) 28 26 0
      s.setFld (rPwrDom d.val) 23 16 (s.setpoint d.val (if d.val < 306 then (s.arr (domArray d.val)).freqCode else 0)))

/-- R455: a short that persists: the domain is retired and its consequence follows. -/
def State.persistentShort (s : State) (d mv ma : Nat) : State :=
  let a := domArray d
  let spare := if a = 0xFF ∨ (s.logOf a).isNone then none else s.spareFor a
  let s := ((s.setDom d 5).logAdd 0x0C 3 0 [d % 256, d / 256]).domEvent 0x09 1 d (s.fld (rPwrDom d) 28 26) mv ma a (spare.getD 0xFF)
  let s := { s with power := { s.power with latchAt := tblDel s.power.latchAt d, inService := s.power.inService.filter (fun x => x != d) } }
  let bringing := s.fld rBrpStatus 27 25 == 0
  if a ≠ 0xFF then s.retireArray a 3 0
  else if d < 324 then
    let s := s.logAdd 0x0A 3 0 [d - 306]
    if bringing then s.bringupRestart (srcOf 9 d) d else s
  else if bringing then s.bringupFail (srcOf 9 d) d
  else s

/-- R455: whether an array behind a domain backs no logical array; a domain of no array has none to back. -/
def State.unbacked (s : State) (d : Nat) : Bool := domArray d == 0xFF || (s.logOf (domArray d)).isNone

/-- R454, R455: the check of a ramp at 100 µs: the voltage in 0.1 mV, the current in 10 mA, and whether the phase group is in current
limit. -/
def execSoftStartCheck (d : DomainId) (mv ma : Nat) (inLimit : Bool) (t : DWord) (s : State) : Out :=
  .next (
    if s.dom d.val ≠ 1 then s
    else
      let n := s.fld (rPwrDom d.val) 28 26
      let half := codeVolts (s.fld (rPwrDom d.val) 23 16)
      if inLimit ∧ 2 * mv < half then
        let s := (s.setDom d.val 4).domEvent 0x07 2 d.val n mv ma (domArray d.val) 0xFF
        let first := (tblFind s.power.latchAt d.val).getD t.toNat
        let s := { s with power := { s.power with latchAt := tblPut s.power.latchAt d.val first } }
        if !s.flag rPwrCtl 0 ∨ 3 ≤ n then s.persistentShort d.val mv ma else s
      else if n = 0 then s
      else
        let a := domArray d.val
        let s := s.domEvent 0x08 1 d.val n mv ma a 0xFF
        let was := s.power.inService.contains d.val
        let s := { s with power := { s.power with
          latchAt := tblDel s.power.latchAt d.val
          inService := s.power.inService.filter (fun x => x != d.val) } }
        if was ∧ a ≠ 0xFF then s.suspect a else s)

/-- R454: the ramp reaches the setpoint at 200 µs. -/
def execDomainRampComplete (d : DomainId) (s : State) : Out :=
  .next (
    if s.dom d.val ≠ 1 then s
    else
      let s := (s.setDom d.val 2).setFld (rPwrDom d.val) 15 8 (s.fld (rPwrDom d.val) 23 16)
      if d.val < 288 ∧ s.flag (rPwrAry (d.val / 16)) 4 then s.setDom d.val 3 else s)

/-- R455, R456: a latched-off domain starts again 10, 20 and 30 ms after its first latch; a domain of an array that latched off in
service does so while the array backs no logical array, and without auto_retry its short is then persistent. -/
def execDomainRetry (d : DomainId) (t : DWord) (s : State) : Out :=
  .next (
    let n := s.fld (rPwrDom d.val) 28 26
    match tblFind s.power.latchAt d.val with
    | none => s
    | some first =>
      if s.dom d.val ≠ 4 ∨ (s.power.inService.contains d.val ∧ !s.unbacked d.val) then s
      else if !s.flag rPwrCtl 0 then s.persistentShort d.val 0 0
      else if 3 ≤ n ∨ t.toNat < first + 640000000 * (n + 1) then s
      else (s.setDom d.val 1).setFld (rPwrDom d.val) 28 26 (n + 1))

/-- R456: the array and its gang stop as a fault; the array's clock stands, and a spare must back its logical array. -/
def State.arrayPowerFault (s : State) (p : Nat) : State :=
  let m := s.gangMask p
  let s := (List.range 18).foldl (fun s q => if m.testBit q ∨ q = p then s.faultArr q else s) s
  let s := s.modArr p (fun a => { a with gated := true })
  if (s.logOf p).isSome then s.wantMove p 3 else s

/-- R456: the edge store of an array that lost its periphery cannot be read: what a remap copies arrives poisoned, and every uncommitted
tile loses its held inputs. -/
def State.edgeLost (s : State) (p : Nat) : State :=
  match s.logOf p with
  | none => s
  | some n =>
    let ctxs := (List.range 512).filter (fun c => s.flag (rDspCtxCtl c) 30 && s.inPartition c n)
    let s := ctxs.foldl (fun s c => s.poison (esBase n + (s.esAlloc c).1) (s.esAlloc c).2) s
    ((s.arr p).restarts ++ (s.arr p).tiles.filter (fun t => t.state == 4)).foldl (fun s t => s.heldPoison p t (esBase n)) s

/-- R456: an over-current or an under-voltage latches a running domain off. -/
def execDomainOvercurrent (d : DomainId) (mv ma : Nat) (t : DWord) (s : State) : Out :=
  .next (
    if s.dom d.val ≠ 2 ∨ !(decide (domMax d.val * 12 < ma * 10) || decide (2 * mv < codeVolts (s.fld (rPwrDom d.val) 23 16))) then s
    else
      let a := domArray d.val
      let s := (s.setDom d.val 4).setFld (rPwrDom d.val) 28 26 0
      let s := { s with power := { s.power with
        latchAt := tblPut s.power.latchAt d.val t.toNat
        inService := d.val :: s.power.inService.filter (fun x => x != d.val) } }
      let s := s.domEvent 0x0A (if 324 ≤ d.val then 3 else 2) d.val 0 mv ma a (if a = 0xFF then 0xFF else (s.spareFor a).getD 0xFF)
      if d.val < 288 then s.arrayPowerFault a
      else if d.val < 306 then (s.arrayPowerFault a).edgeLost a
      else if d.val < 324 then
        let s := { s with brp := { s.brp with badSites := (d.val - 306) :: s.brp.badSites.filter (fun x => x != d.val - 306) } }
        match (List.range s.ioSites.length).find? (fun h => nth 18 s.ioSites h == d.val - 306) with
        | some h =>
          let s := (List.range 4).foldl (fun s i => if s.linkUp (4 * h + i) then s.linkDown (4 * h + i) 1 1 else s) s
          if s.flag (rHstStatus h) 30 then (s.hostPortReset h (s.hport h).released (s.hport h).budget).hostPortFaults h else s
        | none => s
      else
        let s := (List.range 18).foldl (fun s p => s.faultArr p) s
        let s := (List.range 16).foldl (fun s q => match s.resident q with | some c => s.ctxFault c 0x07 0x0A | none => s) s
        s.autoReset)

/-- R457: a free spare, or an array of no partition that had no work for 100 µs, enters retention. -/
def execRetentionEntry (p : ArrayId) (s : State) : Out :=
  .next (
    let idle : Bool := match s.logOf p.val with
      | none => s.freeSpare p.val && !s.isPartner p.val
      | some n => (s.partOfLog n).isNone
    if idle ∧ !s.flag (rPwrAry p.val) 4 then s.retain p.val else s)

/-- R457: an array that is claimed, or joins a partition, leaves retention. -/
def execRetentionWake (p : ArrayId) (s : State) : Out :=
  .next (
    let claimed := s.isPartner p.val || s.flag (rChkArray p.val) 29
      || (match s.logOf p.val with | some n => (s.partOfLog n).isSome | none => false)
    if claimed ∧ s.flag (rPwrAry p.val) 4 then s.wake p.val else s)

/-- R458: a 10 µs input sample: above 380 A every array's code falls by 8; below 360 A the limit is lifted. Current in 10 mA. -/
def execCurrentLimitSample (mv cur : Nat) (s : State) : Out :=
  .next (
    let s := s.inputSample mv cur
    if 38000 < cur ∨ (s.power.current ≠ 0 ∧ 36000 ≤ cur) then
      let s := { s with power := { s.power with current := Nat.min 176 (s.power.current + 8) } }
      (List.range 18).foldl (fun s p => s.modArr p (fun a => { a with targetCode := a.targetCode - 8 })) (s.setFlag rPwrStatus 25 true)
    else { s with power := { s.power with current := 0 } })

/-- Whether an event that has a limit of one per 1 ms may be posted, and the state that remembers it. -/
def State.onceMs (s : State) (key : Nat) : Bool × State :=
  match tblFind s.power.lastEvent key with
  | some t => if s.now.toNat < t + 64000000 then (false, s) else (true, { s with power := { s.power with lastEvent := tblPut s.power.lastEvent key s.now.toNat } })
  | none => (true, { s with power := { s.power with lastEvent := tblPut s.power.lastEvent key s.now.toNat } })

/-- R458, R459: a sample above 400 A: every array's clock is gated with retention within 1 µs, and codes fall by 16. -/
def execHardBrake (mv cur : Nat) (s : State) : Out :=
  .next (
    let s := s.inputSample mv cur
    if cur ≤ 40000 ∨ s.flag rPwrStatus 23 then s
    else
      let s := s.setFlag rPwrStatus 23 true
      let s := { s with power := { s.power with brakeAt := some s.now.toNat, brakeLoop := true } }
      let s := (List.range 18).foldl (fun s p => s.modArr p (fun a => { a with brake := true, targetCode := a.targetCode - 16 })) s
      let (ok, s) := s.onceMs 6
      if ok then s.inputEvent 0x06 0 0xFF 0 mv cur 0 0 0 else s)

/-- R459: after 10 µs at or below 360 A the arrays resume, 64 ns apart in increasing number; the brake time counts under the current
limit. A brake that a Flint halt meets is released before it (R337). -/
def execHardBrakeRelease (mv cur : Nat) (t : DWord) (s : State) : Out :=
  .next (
    let s := s.inputSample mv cur
    match s.power.brakeAt with
    | none => s
    | some b =>
      if 36000 < cur ∨ t.toNat < b + 640000 then s
      else
        let s := (List.range 18).foldl (fun s p => s.modArr p (fun a => { a with brake := false })) s
        let s := (s.setFlag rPwrStatus 23 false).bump64 (rPwrThr 1) ((t.toNat - b) / 64000)
        { s with power := { s.power with brakeAt := none } })

/-- R461, R468: a context's profile entry for a key. -/
def State.profileOf (s : State) (c key : Nat) : Option Profile := (s.ctx c).profiles.find? (fun p => p.key == key)

/-- R468: change a context's profile entry for a key; a new one replaces the least recently used of 64. The list runs from the most to
the least recently used. -/
def State.setProfile (s : State) (c : Nat) (p : Profile) : State :=
  let x := s.ctx c
  s.setCtx c { x with profiles := (p :: x.profiles.filter (fun q => q.key != p.key)).take 64 }

/-- A key without history (R461, R468). -/
def Profile.fresh (key : Nat) : Profile := ⟨key, 0, 0, 128, 0, 0⟩

/-- R467: the group of an element format: 0 4-bit, 1 8-bit, 2 16-bit, 3 FP32. -/
def phaseGroup (f : Fmt) : Nat :=
  match fmtGroup f with
  | .g4 => 0
  | .g8 => 1
  | .g16 => 2
  | .g32 => 3
  | .none => 3


/-- R467: the phase key of an entry. -/
def QEntry.phaseKey (e : QEntry) (a : ArrayState) : Nat :=
  let passKey (op : PassOp) : Nat :=
    if op.phase ≠ 0 then op.phase
    else 256 + 64 * phaseGroup op.fa + 16 * phaseGroup op.fw + 8 * b2n op.trans + 4 * b2n (op.drain.acc != 0)
      + (if op.rows ≤ 64 then 0 else if op.rows ≤ 512 then 1 else if op.rows ≤ 2048 then 2 else 3)
  match e.op with
  | .pass op => passKey op
  | .chain op => if op.phase ≠ 0 then op.phase
      else match (a.tiles.filter Tile.streaming).head? with
        | some t => (match t.steps.getLast? with | some (q, _) => passKey q | none => 256)
        | none => 256
  | .coreRun _ => 511
  | _ => 256

/-- R468, R469: the row of the phase table for an entry: the activation group of a pass, else core or vector. -/
def QEntry.phaseRow (e : QEntry) : Nat :=
  match e.op with
  | .pass op => phaseGroup op.fa
  | _ => 4

/-- R468: the worst case of the five rows. -/
def worstOf (f : Nat → Nat) : Nat := (List.range 5).foldl (fun m r => Nat.max m (f r)) 0

/-- R469: the predicted power in W of an array that runs a key for a context, at a frequency code. -/
def State.predict (s : State) (c : Nat) (key : Option (Nat × Nat)) (code : Nat) : Nat :=
  let tab (r : Nat) : Nat := interpUp (fun pt => (Config.phasePower r pt).toNat) code
  match key with
  | none => worstOf tab
  | some (k, row) => match s.profileOf c k with
    | some p => if s.flag rPwrCtl 2 ∧ 4 ≤ p.count then p.ratio * tab row / 128 else worstOf tab
    | none => worstOf tab

/-- R462: the predicted step in A of an array that starts a key at the code. -/
def State.predictStep (s : State) (c key code : Nat) : Nat :=
  match s.profileOf c key with
  | some p => if p.step ≠ 0 then p.step else worstOf (fun r => interpUp (fun pt => (Config.phaseStep r pt).toNat) code)
  | none => worstOf (fun r => interpUp (fun pt => (Config.phaseStep r pt).toNat) code)

/-- Frequency of a code in units of 6.25 MHz (R332): 64 + code. -/
def codeFreq (c : Nat) : Nat := 64 + c

/-- R462: the launches of a gang that fall in one 64 ns window. -/
def launchesPerWindow (g stagger : Nat) : Nat := if stagger = 0 then g else Nat.min g (ceilDiv 64 stagger)

/-- R462: the highest code at which k steps of S, scaled from the target, stay within 1,600 A. -/
def startCode (k step target : Nat) : Nat :=
  if k * step ≤ 1600 then target
  else (List.range (target + 1)).foldl (fun m c => if k * step * codeFreq c ≤ 1600 * codeFreq target then c else m) 0

/-- R461, R462: 200 ns before an announced launch the strip setpoints rise by the droop offset of its key, and a gang that would break the
step budget starts below its target. -/
def execPrepositionStart (p : ArrayId) (s : State) : Out :=
  .next (
    let a := s.arr p.val
    match (a.aq ++ a.vq).find? (fun e => e.launch.isSome) with
    | none => s
    | some e =>
      let c := a.ctrl.ctx
      let key := e.phaseKey a
      let t := match e.launch with | some t => t.toNat | none => 0
      let dv := if s.flag rPwrCtl 1 then (match s.profileOf c key with | some q => q.droop | none => 0) else 0
      let s := (List.range 16).foldl (fun s i =>
        let d := 16 * p.val + i
        if s.dom d = 2 then s.setFld (rPwrDom d) 23 16 (Nat.min 180 (s.fld (rPwrDom d) 23 16 + dv)) else s) s
      let s := { s with power := { s.power with prep := s.power.prep ++ [⟨p.val, c, key, t⟩] } }
      let f0 := startCode (launchesPerWindow (2 ^ a.ctrl.gangNow.log2) a.ctrl.gangNow.stagger) (s.predictStep c key a.targetCode) a.targetCode
      if f0 < a.freqCode then (s.modArr p.val (fun a => { a with freqCode := f0 })).setFlag (rPwrAry p.val) 3 true else s)

/-- R461: what the droop predictor learns from the deepest droop, in 0.1 % of the setpoint, after an announced start. -/
def Profile.learn (p : Profile) (droop : Nat) : Profile :=
  if 20 < droop then { p with droop := Nat.min 10 (p.droop + 1), low := 0 }
  else if droop < 10 then (if 3 ≤ p.low then { p with droop := p.droop - 1, low := 0 } else { p with low := p.low + 1 })
  else { p with low := 0 }

/-- R468: a phase observation enters the profile: ratio in 1/128, moving average of weight 1/4, and the peak step. -/
def Profile.observe (p : Profile) (ratio step : Nat) : Profile :=
  { p with count := Nat.min 15 (p.count + 1), ratio := Nat.min 255 (if p.count = 0 then ratio else (3 * p.ratio + ratio) / 4)
           step := Nat.max p.step step }

/-- The key an array runs, and its row: of its streaming pass, its running chain, or its core-mode run. -/
def ArrayState.runsKey (a : ArrayState) : Option (Nat × Nat) :=
  if a.run.running then some (511, 4)
  else match (a.tiles.filter Tile.streaming).head? with
    | some t => (match t.entry with | some e => some (e.phaseKey a, e.phaseRow) | none => none)
    | none => (match a.vec.running with | some r => some (r.entry.phaseKey a, r.entry.phaseRow) | none => none)

/-- R465: predicted power of a partition's arrays at a code. -/
def State.partPower (s : State) (q code : Nat) : Nat :=
  match s.resident q with
  | none => 0
  | some c => ((s.ctxArrays c).map (fun p => s.predict c (s.arr p).runsKey code)).foldl (· + ·) 0

/-- R465: one round of sharing rest among the partitions below their need, in proportion to their weights. -/
def shareRound (need weight : Nat → Nat) (rest : Nat) (give : Tbl Nat) : Tbl Nat :=
  let open_ := give.filter (fun (g : Nat × Nat) => decide (g.2 < need g.1))
  let total := (open_.map (fun (g : Nat × Nat) => weight g.1)).foldl (· + ·) 0
  give.map (fun (g : Nat × Nat) => if g.2 < need g.1 then (g.1, Nat.min (need g.1) (g.2 + rest * weight g.1 / total)) else g)

/-- R465: rounds until nothing is left to share. Fuel: 17, since each round but the last meets a need. -/
def shareAll (need weight : Nat → Nat) (b : Nat) : Nat → Tbl Nat → Tbl Nat
  | 0, give => give
  | n + 1, give =>
    let used := (give.map Prod.snd).foldl (· + ·) 0
    if b ≤ used ∨ !give.any (fun (g : Nat × Nat) => decide (g.2 < need g.1)) then give
    else shareAll need weight b n (shareRound need weight (b - used) give)

/-- R465: the shares of the partitions with a resident context. -/
def State.shares (s : State) : Tbl Nat :=
  let qs := (List.range 16).filter (fun q => (s.resident q).isSome)
  let need (q : Nat) : Nat := s.partPower q (s.fld (rPwrPartCfg q) 23 16)
  let weight (q : Nat) : Nat := Nat.max 1 (s.fld (rPwrPartCfg q) 31 24)
  let b := s.fld rPwrCapEff 15 0 - (s.fld rPwrInP 15 0 - s.power.attr)
  let floor := qs.map (fun q => (q, Nat.min (need q) (s.fld (rPwrPartCfg q) 15 0)))
  let total := (floor.map Prod.snd).foldl (· + ·) 0
  if b < total then floor.map (fun (g : Nat × Nat) => (g.1, g.2 * b / total)) else shareAll need weight b 17 floor

/-- R475: an array that used its boost budget over the last 30 days. Days are of powered time. -/
def State.boostOut (s : State) (p : Nat) : Bool :=
  let today := s.life.secs / 86400
  let l := (tblGet [] s.power.days p).filter (fun x => decide (today < x.1 + 30))
  let all := (l.map (fun x => x.2.1)).foldl (· + ·) 0
  let high := (l.map (fun x => x.2.2)).foldl (· + ·) 0
  decide (s.fld rPwrAge 15 8 * all ≤ 100 * high) && decide (0 < high)

/-- R475: a loop of powered time counts for an array. -/
def State.boostCount (s : State) (p : Nat) : State :=
  let today := s.life.secs / 86400
  let l := (tblGet [] s.power.days p).filter (fun x => decide (today < x.1 + 30))
  let hi := b2n (decide (136 < (s.arr p).freqCode))
  let l := match l.getLast? with
    | some x => if x.1 = today then l.dropLast ++ [(today, x.2.1 + 1, x.2.2 + hi)] else l ++ [(today, 1, hi)]
    | none => [(today, 1, hi)]
  { s with power := { s.power with days := tblPut s.power.days p l } }

/-- R473, R464, R475, R476: the code each reason allows an array, in the order of R476; a reason that lowers nothing allows want. -/
def State.reasonCodes (s : State) (p want cap : Nat) : List (Nat × Nat) :=
  let t := tblGet Therm.cool s.power.therm p
  [(0, if s.rackOn ∧ s.fld rPwrRack 15 0 < Nat.min s.capNet s.capMax then want else cap), (1, want - s.power.current - (if s.power.brakeLoop then 16 else 0)),
   (2, want - t.red), (4, if s.rackOn ∧ s.fld rPwrRack 15 0 < Nat.min s.capNet s.capMax then cap else want),
   (5, Nat.min (if s.boostOut p then Nat.min 136 want else want) (s.aryMax p))]

/-- R453, R461: an array's strips take the setpoints of a code, unless a launch holds them raised. -/
def State.stripsUnlessRaised (s : State) (p code : Nat) : State :=
  if s.power.prep.any (fun x => x.array == p) then s else s.setStrips p code

/-- R464, R465, R476: the loop's code for one partition: every array of it takes the lowest code that any reason of any of them
requires. -/
def State.loopPart (s : State) (q share : Nat) : State :=
  match s.resident q with
  | none => s
  | some c =>
    let arrays := s.ctxArrays c
    let want := s.fld (rPwrPartCfg q) 23 16
    let cap := (List.range (Nat.min want 176 + 1)).foldl (fun m k => if s.partPower q k ≤ share then k else m) 0
    let code := arrays.foldl (fun m p => (s.reasonCodes p want cap).foldl (fun m x => Nat.min m x.2) m) want
    let s := (s.setFld (rPwrPartStatus q) 31 24 code).setFld (rPwrPartStatus q) 15 0 share
    arrays.foldl (fun s p =>
      let rs := (s.reasonCodes p want cap).filter (fun x => decide (x.2 < want))
      let lowest := rs.find? (fun x => rs.all (fun y => decide (x.2 ≤ y.2)))
      let s := ((s.setFld (rPwrAry p) 23 16 code).setFld (rPwrAry p) 31 24 (s.arr p).freqCode).setFld (rPwrAry p) 15 8 (s.aryMax p)
      let s := s.setFld (rPwrAry p) 7 5 (match lowest with | some x => x.1 | none => 7)
      let s := rs.foldl (fun s x => s.setFlag rPwrStatus (24 + x.1) true) s
      let climbing := s.flag (rPwrAry p) 3 && decide ((s.arr p).freqCode < code)
      ((s.modArr p (fun a => { a with targetCode := code })).setFlag (rPwrAry p) 3 climbing) |>.stripsUnlessRaised p (Nat.max code (s.arr p).freqCode)) s

/-- R473: thermal limits move: down a code in each loop at or above the throttle point, up a code in ten loops below it less 2 °C. -/
def State.thermLoop (s : State) (p : Nat) (hot cool : Bool) : State :=
  let t := tblGet Therm.cool s.power.therm p
  let t := if hot then { t with red := Nat.min 176 (t.red + 1), wait := 0 }
    else if cool ∧ t.red ≠ 0 then (if 9 ≤ t.wait then { t with red := t.red - 1, wait := 0 } else { t with wait := t.wait + 1 })
    else t
  { s with power := { s.power with therm := tblPut s.power.therm p t } }

/-- The hottest working strip sensor of an array, in 0.125 °C as a signed number; failed sensors stand in by R472. -/
def State.aryTemp (s : State) (p : Nat) : Int :=
  let xs := ((List.range 16).map (fun i => s.fld (rPwrTemp (16 * p + i)) 15 0)).filter (fun x => x != 0x8000)
  let hot := (xs.map (fun x => signExt 16 64 x)).map (fun x => (BitVec.ofNat 64 x).toInt)
  let m := hot.foldl (fun m x => if m < x then x else m) (-320)
  if xs.length < 16 then m + 40 else m

/-- R464 to R466, R473, R475, R476: the 100 µs loop. obs: the phase observations that ended since the last loop, as (array, key, ratio in
1/128, peak step in A); droops: the deepest droop, in 0.1 %, after announced starts since then, as (array, droop); stretched: the
arrays with a stretched cycle. -/
def execCapLoop (obs : List (Nat × Nat × Nat × Nat)) (droops : List (Nat × Nat)) (stretched : Nat) (s : State) : Out :=
  .next (
    if s.power.down ≠ 0 then s
    else
      let s := obs.foldl (fun s (o : Nat × Nat × Nat × Nat) =>
        match s.residentAt o.1 with
        | some c => s.setProfile c (((s.profileOf c o.2.1).getD (Profile.fresh o.2.1)).observe o.2.2.1 o.2.2.2)
        | none => s) s
      let s := droops.foldl (fun s (d : Nat × Nat) =>
        match s.power.prep.find? (fun x => x.array == d.1) with
        | some x => if s.flag rPwrCtl 1 then s.setProfile x.ctx (((s.profileOf x.ctx x.key).getD (Profile.fresh x.key)).learn d.2) else s
        | none => s) s
      let s := { s with power := { s.power with prep := s.power.prep.filter (fun x => decide (s.now.toNat < x.time + 640000)) } }
      let lim : Nat := 8 * s.fld rPwrThermCtl 15 8
      let s := (List.range 18).foldl (fun s p =>
        (s.thermLoop p (decide (Int.ofNat lim ≤ s.aryTemp p)) (decide (s.aryTemp p < Int.ofNat lim - 16))).boostCount p) s
      let s := (List.range 18).foldl (fun s p =>
        let b := s.boostOut p
        let s := if b ∧ !s.flag (rPwrAry p) 2 then s.postDev 0x07 0x0F 0 (srcOf 9 (288 + p)) (pwrPayload (288 + p) 0xFF 0 0 0 0 0 p 0xFF 0) else s
        s.setFlag (rPwrAry p) 2 b) s
      let s := s.capUpdate
      let s := s.setFld rPwrStatus 29 24 0
      let s := s.shares.foldl (fun s (g : Nat × Nat) => s.loopPart g.1 g.2) s
      let s := if stretched ≠ 0 ∨ (List.range 18).any (fun p => s.flag (rPwrAry p) 3) then s.setFlag rPwrStatus 27 true else s
      let s := if !s.power.sites.isEmpty then s.setFlag rPwrStatus 26 true else s
      let s := (List.range 6).foldl (fun s n => if s.flag rPwrStatus (24 + n) then s.bump64 (rPwrThr n) 100 else s) s
      { s with power := { s.power with brakeLoop := s.power.brakeAt.isSome } })

/-- R463, R470: PWR_CAP_GRANT takes 3,000 W to PWR_TDP, and stays between the pool's bounds once they are set. -/
def capGrantReg : RegEffect :=
  { veto := fun s _ v _ =>
      let b := (s.reg rPwrPoolBounds).toNat
      if v < 3000 ∨ s.fld rPwrTdp 15 0 < v ∨ (b ≠ 0 ∧ (v < bitsOf b 15 0 ∨ bitsOf b 31 16 < v)) then some 3 else none
    keep := fun _ v => (v, none)
    act := fun s _ _ _ => s.capUpdate }

/-- A write of PWR_CAP_GRANT. -/
def execCapGrantWrite (req : Requester) (v : Word) (s : State) : Out := .next (s.regWrite req rPwrCapGrant v.toNat capGrantReg)

/-- R466: code 0x10, and codes are lowered at once. -/
def State.rackChange (s : State) (on : Bool) : State :=
  let before := s.fld rPwrCapEff 15 0
  let s := s.capUpdate
  let s := s.inputEvent 0x10 0 0xFF (b2n on) 0 0 before (s.fld rPwrCapEff 15 0) 0
  if on then s.shares.foldl (fun s (g : Nat × Nat) => s.loopPart g.1 g.2) s else s

/-- R466, R557, R563: THROT_REQ_L has been asserted for 1 µs; during a power fail the request is recorded only. -/
def execThrotReqAssert (s : State) : Out :=
  .next (
    let s := { s with power := { s.power with pinReq := true } }
    if s.flag rPwrStatus 20 ∨ s.power.down ≠ 0 then s else (s.setFlag rPwrStatus 20 true).rackChange true)

/-- R466, R557: THROT_REQ_L is released: C_rack lapses at the next loop. -/
def execThrotReqDeassert (s : State) : Out :=
  .next (
    let s := { s with power := { s.power with pinReq := false } }
    if !s.flag rPwrStatus 20 then s
    else
      let before := s.fld rPwrCapEff 15 0
      let s := s.setFlag rPwrStatus 20 false
      s.inputEvent 0x10 0 0xFF 0 0 0 before s.capEff 0)

/-- R466, R483: PWR_RACK: floor_w holds 3,000 W to PWR_TDP; req acts as the pin does. -/
def rackReg : RegEffect :=
  { veto := fun s _ v _ => if bitsOf v 15 0 < 3000 ∨ s.fld rPwrTdp 15 0 < bitsOf v 15 0 then some 3 else none
    keep := fun _ v => (v, none)
    act := fun s _ old _ =>
      let on := s.flag rPwrRack 30
      if on = old.testBit 30 then s.capUpdate else s.rackChange on }

/-- A write of PWR_RACK. -/
def execRackReq (req : Requester) (v : Word) (s : State) : Out := .next (s.regWrite req rPwrRack v.toNat rackReg)

/-- R453: the field offsets that 24 h of monitor adjustments give: the mean is added to the offset of the points used, within
±20 steps; a point whose offset would pass +20 is spent. -/
def State.offsetOf (s : State) (d : Nat) : State :=
  let (sum, n) := tblGet (0, 0) s.power.adj d
  if n = 0 then s
  else
    let mean : Int := sum / (n : Int)
    let code := (s.arr (d / 16)).freqCode
    let pts := (List.range 12).filter (fun i => decide (nth 0 tablePoints i ≤ code) && decide (code < nth 0 tablePoints (i + 1) ∨ i = 11)
      || decide (code ≤ nth 0 tablePoints i) && decide (i = 0 ∨ nth 0 tablePoints (i - 1) < code))
    pts.foldl (fun s i =>
      let o := tblGet 0 s.power.ofs (12 * d + i) + mean
      let s := { s with power := { s.power with ofsNext := tblPut s.power.ofsNext (12 * d + i) (if 20 < o then 20 else if o < -20 then -20 else o) } }
      if 20 < o then
        let s := { s with power := { s.power with spent := (12 * d + i) :: s.power.spent.filter (fun x => x != 12 * d + i) } }
        s.postDev 0x07 0x0F 0 (srcOf 9 d) (pwrPayload d 0xFF 0 0 0 0 0 (d / 16) 0xFF 0)
      else s) s

/-- R453, R542: after 24 h of powered operation the offsets are written, recorded, and shown as "Vmin now". -/
def execDailyOffsetUpdate (s : State) : Out :=
  .next (
    let s := (List.range 288).foldl State.offsetOf s
    let s := (List.range 288).foldl (fun s d =>
      let v := ((Config.vtt d 9).toNat : Int) + tblGet 0 s.power.ofsNext (12 * d + 9)
      { s with life := { s.life with ctr := tblPut s.life.ctr (160 + d) (BitVec.ofNat 32 ((Config.vtt d 9).toNat * 65536 + v.toNat)) } }) s
    let s := { s with power := { s.power with adj := [] } }
    s.lifeAdd 0x07 ((List.range 288).flatMap (fun d => bytesOf 1 ((256 + tblGet 0 s.power.ofsNext (12 * d + 9)) % 256).toNat)))

/-- R335, R452: a critical-path monitor moves its strip's setpoint by one step of 2.5 mV, inside V_lo and V_hi, at most once a millisecond
and not within 1 ms of a stretch. -/
def execCpmAdjust (d : Fin 288) (up : Bool) (s : State) : Out :=
  .next (
    let recent (t : Tbl Nat) : Bool := match tblFind t d.val with | some x => decide (s.now.toNat < x + 64000000) | none => false
    if recent s.time.stretchAt || recent s.time.cpmAt || s.dom d.val != 2 then s
    else
      let old := s.fld (rPwrDom d.val) 7 0
      let ofs : Int := (if old < 128 then (old : Int) else (old : Int) - 256) + (if up then 1 else -1)
      let base := (s.setpoint d.val (s.arr (d.val / 16)).freqCode : Int)
      let fo := tblGet 0 s.power.ofs (12 * d.val + 9)
      let v := base + ofs
      if v < base - 6 - fo ∨ base + 20 < v ∨ 180 < v then s
      else
        let s := (s.setFld (rPwrDom d.val) 7 0 (ofs % 256).toNat).setFld (rPwrDom d.val) 23 16 v.toNat
        let (sum, n) := tblGet (0, 0) s.power.adj d.val
        { s with
          power := { s.power with adj := tblPut s.power.adj d.val (sum + ofs, n + 1) }
          time := { s.time with cpmAt := tblPut s.time.cpmAt d.val s.now.toNat } })

/-- R477: PWR_VMIN.clear empties the record. -/
def vminReg (d : Nat) : RegEffect :=
  { RegEffect.plain with
    act := fun s _ _ acted => if acted.testBit 31 then s.setFld (rPwrVmin d) 15 0 0xFFFF else s }

/-- A write of PWR_VMIN. -/
def execVminClear (req : Requester) (d : DomainId) (v : Word) (s : State) : Out := .next (s.regWrite req (rPwrVmin d.val) v.toNat (vminReg d.val))

/-- R477: an excursion of at least 2 ns at the remote sense, in 0.1 mV with a resolution of 1.25 mV: a new minimum is recorded with its time;
below V_tt of the present code code 0x0C is posted and counted. -/
def execDomainVminExcursion (d : DomainId) (v : Nat) (t : DWord) (s : State) : Out :=
  .next (
    let s := if v < s.fld (rPwrVmin d.val) 15 0 then (s.setFld (rPwrVmin d.val) 15 0 v).setReg64 (rPwrVminTime d.val) t.toNat else s
    if 288 ≤ d.val then s
    else
      let p := d.val / 16
      let vt := interpUp (fun pt => (Config.vtt d.val pt).toNat) (s.arr p).freqCode
      if codeVolts vt ≤ v then s
      else
        let s := s.lifeCount (508 + p) 1
        let (ok, s) := s.onceMs (0x0C00 + d.val)
        if ok then s.domEvent 0x0C 0 d.val 0 v 0 p 0xFF else s)

/-- R478: an energy counter takes a share num/den of the input energy, with its fraction carried in 2^-32 µJ. -/
def State.energyAdd (s : State) (off num den e : Nat) : State :=
  let x := tblGet 0 s.power.frac off + e * num * 2 ^ 32 / den
  ({ s with power := { s.power with frac := tblPut s.power.frac off (x % 2 ^ 32) } }).bump64 off (x / 2 ^ 32)

/-- R478: the energy of 1 ms is divided. e: measured input energy in µJ; arrays: modelled energy M by (array, owner), where an owner is a
context, 512 + a partition, or 528 for the device; traffic: M_s by context; dev: M_dev. PWR_IN_P is the millisecond's average. -/
def execEnergyAttribution (e : Nat) (arrays : List (Nat × Nat × Nat)) (traffic : List (Nat × Nat)) (dev : Nat) (s : State) : Out :=
  .next (
    let ma := (arrays.map (fun (x : Nat × Nat × Nat) => x.2.2)).foldl (· + ·) 0
    let mt := (traffic.map Prod.snd).foldl (· + ·) 0
    let den := ma + mt + dev
    let s := (s.bump64 rPwrEnergyIn e).setFld rPwrInP 15 0 (Nat.min 65535 (e / 1000))
    if den = 0 then s
    else
      let s := s.setReg rPwrScale (BitVec.ofNat 32 (Nat.min 0xFFFFFFFF (e * 65536 / den)))
      let toCtx (s : State) (c m : Nat) : State :=
        let s := s.energyAdd (rDspCtxEnergy c) m den e
        if s.flag (rDspPartCtl (s.ctxPart c)) 31 ∧ s.flag (rDspCtxCtl c) 30 then s.energyAdd (rDspPartEnergy (s.ctxPart c)) m den e else s
      let s := arrays.foldl (fun s (x : Nat × Nat × Nat) =>
        if x.2.1 < 512 then toCtx s x.2.1 x.2.2
        else if x.2.1 < 528 then s.energyAdd (rDspPartEnergy (x.2.1 - 512)) x.2.2 den e
        else s.energyAdd rPwrEnergyDev x.2.2 den e) s
      let s := traffic.foldl (fun s (x : Nat × Nat) => toCtx s (x.1 % 512) x.2) s
      let s := s.energyAdd rPwrEnergyDev dev den e
      { s with power := { s.power with attr := e * ma / den / 1000 } })

end Sys2Proof.Machine
end

