-- ==== Sys2Proof/Machine/Thermal.lean ====
section
/-!
DEFINITION. Thermal control (13_power R472 to R474), the pools of R470 and R471, and the periodic writes of the lifetime record
(15_management R540 to R542).
-/
namespace Sys2Proof.Machine

/-- A signed 16-bit number of 0.125 °C. -/
def tempOf (x : Nat) : Int := (BitVec.ofNat 16 x).toInt

/-- The event source of a sensor (R482). -/
def State.sensorSource (s : State) (k : Nat) : Nat :=
  if k < 288 then srcOf 9 k
  else if s.ioSites.contains (k - 288) then srcOf 6 ((k - 288) * 16 + 15) else srcOf 5 (k - 288)

/-- R482: a thermal event. -/
def State.thermEvent (s : State) (code sev sensor temp ary new : Nat) : State :=
  s.postDev 0x08 code sev (s.sensorSource sensor) (payloadOf [(16, 2, sensor), (18, 2, temp), (20, 1, ary), (21, 1, new)])

/-- R472: one reading: a sensor out of −40 to 150 °C, or stuck, has failed. -/
def State.sensorRead (s : State) (k v : Nat) (stuck : Bool) : State :=
  if tempOf v < -320 ∨ 1200 < tempOf v ∨ stuck then
    if s.fld (rPwrTemp k) 15 0 = 0x8000 then s
    else (s.setFld (rPwrTemp k) 15 0 0x8000).thermEvent 0x06 1 k v (if k < 288 then k / 16 else 0xFF) 0
  else
    let s := s.setFld (rPwrTemp k) 15 0 v
    if tempOf (s.fld (rPwrTemp k) 31 16) < tempOf v then s.setFld (rPwrTemp k) 31 16 v else s

/-- The hottest of a set of sensors that work, and its reading. -/
def State.hottest (s : State) (ks : List Nat) : Nat × Nat :=
  ks.foldl (fun (m : Nat × Nat) k =>
    let v := s.fld (rPwrTemp k) 15 0
    if v ≠ 0x8000 ∧ (m.1 = 0x1FF ∨ tempOf m.2 < tempOf v) then (k, v) else m) (0x1FF, 0)

/-- R455, R456: whether a latched or retired domain stops an array, whatever its temperature. -/
def State.powerStopped (s : State) (p : Nat) : Bool :=
  (List.range 16).any (fun i => decide (4 ≤ s.dom (16 * p + i))) || decide (4 ≤ s.dom (288 + p))

/-- R472: the hottest reading of the device, a failed strip sensor taken as the hottest working one of its array plus 5 °C. -/
def State.deviceTemp (s : State) : Nat × Int :=
  let h := s.hottest (List.range 306)
  let w : Nat × Int := (h.1, if h.1 = 0x1FF then -320 else tempOf h.2)
  (List.range 18).foldl (fun m p => if m.2 < s.aryTemp p then
    (((List.range 16).map (fun i => 16 * p + i)).find? (fun k => s.fld (rPwrTemp k) 15 0 == 0x8000) |>.getD m.1, s.aryTemp p) else m) w

/-- R473: the responses of one array to its hottest strip sensor. -/
def State.thermArray (s : State) (p : Nat) : State :=
  let h := s.hottest ((List.range 16).map (fun i => 16 * p + i))
  if h.1 = 0x1FF then s
  else
    let temp := s.aryTemp p
    let raw := (temp % 65536).toNat
    let lim : Int := 8 * (s.fld rPwrThermCtl 15 8 : Int)
    let put (s : State) (t : Therm) : State := { s with power := { s.power with therm := tblPut s.power.therm p t } }
    let t := tblGet Therm.cool s.power.therm p
    let s := if lim ≤ temp ∧ !t.inThrottle then (put s { t with inThrottle := true }).thermEvent 0x01 0 h.1 raw p (s.arr p).targetCode
      else if temp < lim - 16 ∧ t.inThrottle then (put s { t with inThrottle := false }).thermEvent 0x02 0 h.1 raw p (s.arr p).targetCode
      else s
    let t := tblGet Therm.cool s.power.therm p
    let s := if 800 ≤ temp ∧ !t.fast then
        let s := (put s { t with fast := true, red := Nat.min 176 (t.red + 16) }).modArr p (fun a => { a with targetCode := a.targetCode - 16 })
        s.thermEvent 0x03 1 h.1 raw p (s.arr p).targetCode
      else if temp < 800 then put s { t with fast := false } else s
    let t := tblGet Therm.cool s.power.therm p
    let s := if 840 ≤ temp ∧ !t.gated then
        ((put s { t with gated := true }).modArr p (fun a => { a with gated := true })).thermEvent 0x04 1 h.1 raw p 0
      else if temp < 800 ∧ t.gated then
        let s := put s { t with gated := false }
        if s.powerStopped p then s else s.modArr p (fun a => { a with gated := false })
      else s
    let top := tblGet temp s.power.cycleMax p
    if temp + 320 ≤ top then
      ({ s with power := { s.power with cycleMax := tblPut s.power.cycleMax p temp } }).lifeCount (142 + p) 1
    else { s with power := { s.power with cycleMax := tblPut s.power.cycleMax p (if top < temp then temp else top) } }

/-- R474: the bandwidth limit of a site from its sensor: 1 half, 2 a quarter, 3 held until it falls below 100 °C. -/
def State.thermSite (s : State) (k : Nat) : State :=
  let v := s.fld (rPwrTemp (288 + k)) 15 0
  if v = 0x8000 then s
  else
    let t := tempOf v
    let old := (tblFind s.power.sites k).getD 0
    let new := if 840 ≤ t ∨ (old = 3 ∧ 800 ≤ t) then 3 else if 800 ≤ t then 2 else if 760 ≤ t then 1 else 0
    let s := { s with power := { s.power with sites := if new = 0 then tblDel s.power.sites k else tblPut s.power.sites k new } }
    if old < new then s.thermEvent 0x07 0 (288 + k) v 0xFF 0 else s

/-- R473: the trip: the pin asserts, the arrays stop as a fault, every domain and the HBM and I/O rails are off; the standby rail
stays. -/
def State.thermTripNow (s : State) (k v : Nat) : State :=
  let s := (s.stopAll.thermEvent 0x05 2 k v (if k < 288 then k / 16 else 0xFF) 0).lifeCount 6 1
  let s := s.domainsOff
  { s with
    power := { s.power with down := 3 }
    brp := { s.brp with thermTrip := true, ready := false } }

/-- R472 to R474: the 10 µs sample. Each reading is a sensor, its value in 0.125 °C as a 16-bit signed number, and whether the sensor is
stuck (unchanged for 1 s while its strip's current changed by more than 20 A). -/
def execThermalSample (readings : List (Nat × Nat × Bool)) (s : State) : Out :=
  .next (
    if s.power.down = 3 then s
    else
      let s := readings.foldl (fun s (r : Nat × Nat × Bool) => if r.1 < 306 then s.sensorRead r.1 (r.2.1 % 65536) r.2.2 else s) s
      let h := s.hottest (List.range 306)
      let s := if h.1 = 0x1FF then s else (s.setFld rPwrThermMax 24 16 h.1).setFld rPwrThermMax 15 0 h.2
      let m := s.deviceTemp
      if m.1 ≠ 0x1FF ∧ 880 ≤ m.2 then s.thermTripNow m.1 (m.2 % 65536).toNat
      else
        let s := (List.range 18).foldl State.thermArray s
        (List.range 18).foldl State.thermSite s)

/-- R542: the band of an array's temperature: below 45, 65, 80, 90, 95, 105 °C, or more. -/
def tempBand (t : Int) : Nat :=
  if t < 360 then 0 else if t < 520 then 1 else if t < 640 then 2 else if t < 720 then 3 else if t < 760 then 4 else if t < 840 then 5 else 6

/-- R542: a minute of powered time counts in each array's band; 60 of them make an hour of the counter. -/
def State.bandMinute (s : State) (p : Nat) : State :=
  let k := 7 * p + tempBand (s.aryTemp p)
  let n := tblGet 0 s.power.bandSecs k + 60
  let s := { s with power := { s.power with bandSecs := tblPut s.power.bandSecs k (n % 3600) } }
  if 3600 ≤ n then s.lifeCount (16 + k) 1 else s

/-- R540 to R542: every 60 s of powered time the buffered entries and the counters go to flash. -/
def execLifetimeFlush (s : State) : Out :=
  .next (
    let old := s.life.secs
    let new := old + 60
    let s := (List.range 18).foldl State.bandMinute s
    let ctr := tblPut (tblPut s.life.ctr 0 (BitVec.ofNat 32 new)) 1 (BitVec.ofNat 32 (new / 2 ^ 32))
    let s := { s with life := { s.life with secs := new, ctr := ctr } }
    let s := if old / 3600 = new / 3600 then s else s.setFld rBrpSinceFull 15 0 (Nat.min 65535 (s.fld rBrpSinceFull 15 0 + 1))
    s.lifeFlush)

/-- R470: the other members of the pool. -/
def State.poolPeers (s : State) : List Nat :=
  if !s.flag rPwrPoolCtl 31 then []
  else ((List.range (Nat.min 32 (s.fld rPwrPoolCtl 5 0))).filterMap (fun i =>
    if s.flag (rPwrPoolMem i) 31 then some (s.fld (rPwrPoolMem i) 15 0) else none)).filter (fun n => n != s.ownNode)

/-- R471: send a pool frame to a member. -/
def State.poolSend (s : State) (node kind value lease : Nat) : State :=
  let cap := s.capNet
  let hi := s.fld rPwrPoolBounds 31 16
  let f := bytesOf 64 (kind + s.ownNode * 2 ^ 16 + (s.reg rPwrPoolId).toNat * 2 ^ 32 + s.now.toNat / 2 ^ 29 % 2 ^ 32 * 2 ^ 64 + value % 2 ^ 32 * 2 ^ 96
    + lease * 2 ^ 128 + cap % 2 ^ 32 * 2 ^ 192 + (hi - cap) % 2 ^ 32 * 2 ^ 224)
  match s.routeTo node with
  | some p => s.portSend p 3 none none f
  | none => s

/-- R471: the sender of a frame of this pool of the kind named. -/
def State.poolFrom (s : State) (kind : Nat) (f : List Byte) : Option Nat :=
  if leAt f 0 1 = kind ∧ leAt f 4 4 = (s.reg rPwrPoolId).toNat ∧ s.poolPeers.contains (leAt f 2 2) then some (leAt f 2 2) else none

/-- R471: keep the latest slack of each member. -/
def State.slackPut (s : State) (x : Slack) : State :=
  { s with power := { s.power with slacks := x :: s.power.slacks.filter (fun y => y.node != x.node) } }

/-- R470, R471: at an interval boundary the slack of the interval is sent to every other member. stalled, resident: array cycles of R470's
numerator and denominator. -/
def execPoolIntervalBoundary (stalled resident : Nat) (s : State) : Out :=
  .next (
    if !s.flag rPwrPoolCtl 31 then s
    else
      let v := if resident = 0 then 65536 else Nat.min 65536 (stalled * 65536 / resident)
      let s := s.setFld rPwrPoolSlack 15 0 (Nat.min 65535 v)
      let s := s.slackPut ⟨s.ownNode, s.now.toNat / 2 ^ 29, v, 0⟩
      s.poolPeers.foldl (fun s n => s.poolSend n 0x30 v 0) s)

/-- R471: the median of slacks: the least value with at least half of the list at or below it. -/
def median (l : List Nat) : Nat :=
  let n := l.length
  l.foldl (fun m v => if ceilDiv n 2 ≤ (l.filter (fun x => decide (x ≤ v))).length ∧ v < m then v else m) (2 ^ 32)

/-- The loans borrowed, replaced; the cap follows. -/
def State.setBorrowed (s : State) (l : List Loan) : State := { s with power := { s.power with borrowed := l } }.capUpdate

/-- The loan lent, replaced; the cap follows. -/
def State.setLent (s : State) (l : Option Loan) : State := { s with power := { s.power with lent := l } }.capUpdate

/-- R471: the loan event. -/
def State.loanEvent (s : State) (code watts peer : Nat) : State := s.inputEvent code 0 0xFF 0 0 0 s.capNet watts peer

/-- R471: 1 ms after the boundary: renew or recall the loan that stands, or lend. -/
def execPoolLoanDecision (s : State) : Out :=
  .next (
    if !s.flag rPwrPoolCtl 31 then s
    else
      let now := s.now.toNat
      let k := now / 2 ^ 29
      let l := s.power.slacks.filter (fun x => x.interval == k)
      match l.find? (fun x => x.node == s.ownNode) with
      | none => s
      | some own =>
        let m := median (l.map (fun x => x.slack))
        let lo := s.fld rPwrPoolBounds 15 0
        let ok := decide (20 * m + 65536 ≤ 20 * own.slack) && decide (lo + 50 ≤ s.capNet + (match s.power.lent with | some x => x.watts | none => 0))
        match s.power.lent with
        | some x =>
          if ok ∧ lo ≤ s.capNet then
            let s := s.setLent (some { x with lease := now + 64000000000 })
            s.poolSend x.peer 0x31 x.watts (now + 64000000000)
          else s.poolSend x.peer 0x34 x.watts 0
        | none =>
          let w := Nat.min (s.capNet - lo) (s.fld rPwrCapGrant 15 0 / 40)
          let cands := l.filter (fun x => x.node != s.ownNode && decide (w ≤ x.headroom))
          let best := cands.foldl (fun (b : Option Slack) x => match b with
            | none => some x
            | some y => if x.slack < y.slack ∨ (x.slack = y.slack ∧ x.node < y.node) then some x else some y) none
          match best with
          | some b =>
            if ok then
              let s := s.setLent (some ⟨b.node, w, now + 64000000000, false⟩)
              s.poolSend b.node 0x31 w (now + 64000000000)
            else s
          | none => s)

/-- R471: a slack frame. -/
def execPoolSlackFrame (frame : List Byte) (s : State) : Out :=
  .next (match s.poolFrom 0x30 frame with
    | some n => s.slackPut ⟨n, leAt frame 8 4, leAt frame 12 4, leAt frame 28 4⟩
    | none => s)

/-- R471: a loan frame: a loan that stands is renewed; a new one is accepted while the cap stays within G_hi and fewer than eight
stand. -/
def execPoolLoanFrame (frame : List Byte) (s : State) : Out :=
  .next (match s.poolFrom 0x31 frame with
    | none => s
    | some n =>
      let w := leAt frame 12 4
      let lease := leAt frame 16 8
      if s.power.borrowed.any (fun x => x.peer == n) then
        (s.setBorrowed (s.power.borrowed.map (fun (x : Loan) => if x.peer = n then { x with lease := lease } else x))).poolSend n 0x32 w lease
      else if s.power.borrowed.length < 8 ∧ s.capNet + w ≤ s.fld rPwrPoolBounds 31 16 then
        let s := s.setBorrowed (s.power.borrowed ++ [⟨n, w, lease, true⟩])
        (s.loanEvent 0x0D w n).poolSend n 0x32 w lease
      else s.poolSend n 0x33 w 0)

/-- The loan lent to a member is ended: its amount is restored. -/
def State.loanBack (s : State) (n : Nat) : State :=
  match s.power.lent with
  | some x => if x.peer = n then s.setLent none else s
  | none => s

/-- R471: an accept frame confirms the loan. -/
def execPoolAcceptFrame (frame : List Byte) (s : State) : Out :=
  .next (match s.poolFrom 0x32 frame, s.power.lent with
    | some n, some x =>
      if x.peer = n ∧ !x.ok then (s.setLent (some { x with ok := true })).loanEvent 0x0D x.watts n else s
    | _, _ => s)

/-- R471: a refuse frame restores the lender's cap at once. -/
def execPoolRefuseFrame (frame : List Byte) (s : State) : Out :=
  .next (match s.poolFrom 0x33 frame with | some n => s.loanBack n | none => s)

/-- R471: a recall: the borrower drops the loan and answers with a release. -/
def execPoolRecallFrame (frame : List Byte) (s : State) : Out :=
  .next (match s.poolFrom 0x34 frame with
    | none => s
    | some n => match s.power.borrowed.find? (fun x => x.peer == n) with
      | none => s
      | some x =>
        let s := s.setBorrowed (s.power.borrowed.filter (fun y => y.peer != n))
        s.poolSend n 0x35 x.watts 0)

/-- R471: a release restores the lender's cap. -/
def execPoolReleaseFrame (frame : List Byte) (s : State) : Out :=
  .next (match s.poolFrom 0x35 frame with | some n => s.loanBack n | none => s)

/-- R471: at its lease end a loan that was not renewed is dropped, and released. -/
def execPoolLeaseEnd (t : DWord) (s : State) : Out :=
  .next (
    let gone := s.power.borrowed.filter (fun x => decide (x.lease ≤ t.toNat))
    if gone.isEmpty then s
    else
      let s := s.setBorrowed (s.power.borrowed.filter (fun x => decide (t.toNat < x.lease)))
      gone.foldl (fun s x => (s.loanEvent 0x0E x.watts x.peer).poolSend x.peer 0x35 x.watts 0) s)

/-- R471: 100 ms after the lease end, without a release, the lender restores its cap. -/
def execPoolLenderTimeout (t : DWord) (s : State) : Out :=
  .next (match s.power.lent with
    | some x =>
      if x.lease + 6400000000 ≤ t.toNat then
        (s.setLent none).loanEvent 0x0E x.watts x.peer
      else s
    | none => s)

/-- R470: the bounds of a pool: 3,000 W ≤ G_lo ≤ PWR_CAP_GRANT ≤ G_hi ≤ PWR_TDP. -/
def poolBoundsReg : RegEffect :=
  { RegEffect.plain with
    veto := fun s _ v _ =>
      let g := s.fld rPwrCapGrant 15 0
      if 3000 ≤ bitsOf v 15 0 ∧ bitsOf v 15 0 ≤ g ∧ g ≤ bitsOf v 31 16 ∧ bitsOf v 31 16 ≤ s.fld rPwrTdp 15 0 then none else some 3 }

end Sys2Proof.Machine
end

