-- ==== Sys2Proof/Machine/Manage.lean ====
section
/-!
DEFINITION. Ownership (15_management R525 to R528) and firmware updates (R535 to R538).
-/
namespace Sys2Proof.Machine

/-- R545: a management event: the requester, a value or claim ID, a priority, a code. -/
def State.mgtEvent (s : State) (code : Nat) (req : Nat × Nat × Nat) (v prio b33 : Nat) : State :=
  s.postDev 0x0B code 0 (srcOf 7 0)
    (payloadOf [(16, 4, 0xFFFFFFFF), (20, 1, req.1), (21, 1, req.2.1), (22, 2, req.2.2), (24, 8, v), (32, 1, prio), (33, 1, b33)])

/-- A requester's kind, path index and node (R516). -/
def pathOf (req : Requester) : Nat × Nat × Nat := (reqKind req, reqPath req, reqNode req)

/-- The owner's path (R547). -/
def State.ownerPath (s : State) : Nat × Nat × Nat := (s.fld rMgtOwner 30 28, s.fld rMgtOwner 27 24, s.fld rMgtOwner 15 0)

/-- Ticks of a lease of 30 s, of a handover of 5 s, of the trial window of 600 s, of a millisecond. -/
def leaseTicks : Nat := 30 * 64000000000
/-- A handover's 5 s. -/
def handTicks : Nat := 5 * 64000000000
/-- The confirmation window of 600 s. -/
def trialTicks : Nat := 600 * 64000000000

/-- R525 to R527: whether a claim matches the pending handover. -/
def State.handMatches (s : State) (path : Nat × Nat × Nat) (id : Nat) : Bool :=
  match s.mgt.hand with
  | some h => h.kind == path.1 && h.path == path.2.1 && h.node == path.2.2 && h.id == id
  | none => false

/-- R525: whether a claim is accepted. -/
def State.claimOk (s : State) (path : Nat × Nat × Nat) (prio id : Nat) : Bool :=
  let op := s.fld rMgtOwner 23 16
  let oid := s.reg64 rMgtOwnerId
  decide (1 ≤ path.1) && decide (path.1 ≤ 4) && decide (1 ≤ prio) && decide (prio ≤ 255) && decide (id ≠ 0) &&
    (!s.flag rMgtOwner 31 || (s.ownerPath == path && oid == id) || decide (op < prio) || (op == prio && decide (oid < id)) || s.handMatches path id)

/-- R525 to R527: a claim. The result is 1 accepted or 2 refused. -/
def State.claim (s : State) (req : Requester) (prio id : Nat) : State × Nat :=
  let path := pathOf req
  if !s.claimOk path prio id then (s.mgtEvent 0x08 path id prio 0, 2)
  else
    let had := s.flag rMgtOwner 31
    let old := s.ownerPath
    let oid := s.reg64 rMgtOwnerId
    let oprio := s.fld rMgtOwner 23 16
    let renew := had && old == path && oid == id
    let hand := s.handMatches path id
    let p := if hand ∧ had then Nat.max prio oprio else if renew then oprio else prio
    let s := if had ∧ old ≠ path then s.updateCancel else s
    let s := (s.setReg rMgtOwner (BitVec.ofNat 32 (2 ^ 31 + path.1 * 2 ^ 28 + path.2.1 * 2 ^ 24 + p * 65536 + path.2.2))).setReg64 rMgtOwnerId id
    let s := { s with mgt := { s.mgt with lease := s.now.toNat + leaseTicks, hand := if renew then s.mgt.hand else none } }
    let s := s.setFlag rMgtLease 31 s.mgt.hand.isSome
    if renew then (s, 1)
    else
      let s := if hand then s.mgtEvent 0x06 old oid oprio 0 else if had then s.mgtEvent 0x09 old oid oprio 0 else s
      ((s.mgtEvent 0x05 path id p 0).ownerEntry path p id (if hand then 2 else if had then 1 else 0), 1)

/-- R527: the owner releases. The result is 1 done or 2 refused. -/
def State.release (s : State) (req : Requester) (id : Nat) : State × Nat :=
  if s.isOwner req ∧ s.reg64 rMgtOwnerId = id then
    let p := s.fld rMgtOwner 23 16
    ((s.ownerClear.mgtEvent 0x06 (pathOf req) id p 0).ownerEntry (0, 0, 0) 0 0 3, 1)
  else (s, 2)

/-- R527: the owner names a successor. The result is 3 pending or 2 refused. -/
def State.handOver (s : State) (req : Requester) (kind path node id : Nat) : State × Nat :=
  if s.isOwner req ∧ 1 ≤ kind ∧ kind ≤ 4 ∧ id ≠ 0 then
    let s := { s with mgt := { s.mgt with hand := some ⟨kind, path, node, id, s.now.toNat + handTicks⟩ } }
    (s.setFlag rMgtLease 31 true, 3)
  else (s, 2)

/-- R530: a PLDM command of a path that is not the owner's is refused: completion code ERROR_NOT_READY, code 0x02. -/
def State.pldmRefuse (s : State) (req : Requester) (v : Nat) : State := (s.mgtEvent 0x02 (pathOf req) v 0 0).answer [4]

/-- R518, R521, R536: whether a path takes messages: an MCTP endpoint with an EID, of a target with a dynamic address; in recovery mode only the message types named, basic. -/
def State.takesMessage (s : State) (req : Requester) (basic : Bool) : Bool :=
  (match req with
    | .mgmtA => s.flag rMgtI3cA 31 && s.fld rMgtEid 23 16 != 0
    | .mgmtB => s.flag rMgtI3cB 31 && s.fld rMgtEid 15 8 != 0
    | .fabric _ => s.fld rMgtEid 7 0 != 0
    | _ => false) && (basic || s.fld rMgtStatus 31 28 != 4)

/-- R521: a target that holds an answer for the controller raises an in-band interrupt, where ENEC has enabled it. -/
def State.notice (s : State) (req : Requester) : State :=
  match req with
  | .mgmtA => if s.flag rMgtI3cA 19 then s.emit "i3c-ibi" [0] else s
  | .mgmtB => if s.flag rMgtI3cB 19 then s.emit "i3c-ibi" [1] else s
  | _ => s

/-- A PLDM or SPDM message: a path that does not take it leaves the state as it is. -/
def State.message (s : State) (req : Requester) (basic : Bool) (f : State → State) : Out :=
  .next (if s.takesMessage req basic then (f s).notice req else s)

/-- PLDM ClaimOwnership: the answer is the result, then the owner's kind, priority and ID. -/
def execClaimOwnership (req : Requester) (prio id : Nat) (s : State) : Out :=
  s.message req false (fun s =>
    let (s, r) := s.claim req prio (id % 2 ^ 64)
    s.answer [0, r, s.fld rMgtOwner 30 28, s.fld rMgtOwner 23 16, s.reg64 rMgtOwnerId])

/-- PLDM ReleaseOwnership. -/
def execReleaseOwnership (req : Requester) (id : Nat) (s : State) : Out :=
  s.message req false (fun s =>
    let (s, r) := s.release req id
    if r = 1 then s.answer [0, r] else s.pldmRefuse req id)

/-- PLDM HandOver. -/
def execHandOver (req : Requester) (kind path node id : Nat) (s : State) : Out :=
  s.message req false (fun s =>
    let (s, r) := s.handOver req kind path node (id % 2 ^ 64)
    if r = 3 then s.answer [0, r] else s.pldmRefuse req id)

/-- R526: milliseconds left of the lease. -/
def State.leaseMs (s : State) : Nat := if s.flag rMgtOwner 31 then (s.mgt.lease - s.now.toNat) / 64000000 else 0

/-- PLDM GetOwner. -/
def execGetOwner (req : Requester) (s : State) : Out :=
  s.message req false (fun s => s.answer [0, (s.reg rMgtOwner).toNat, s.reg64 rMgtOwnerId, s.leaseMs])

/-- A requester's claim registers (R547): MGT_CLAIM_ID and MGT_CLAIM_NODE hold each requester's own values. -/
def claimCtl : RegEffect :=
  { RegEffect.plain with
    act := fun s req _ acted =>
      let k := reqCode req
      let prio := s.fld rMgtClaimCtl 15 8
      let s := { s with mgt := { s.mgt with claimPrio := tblPut s.mgt.claimPrio k prio } }
      let id := tblGet 0 s.mgt.claimId k
      match req with
      | .pf _ =>
        if !acted.testBit 31 then s
        else
          let (s, r) := match bitsOf acted 30 29 with
            | 0 => s.claim req prio id
            | 1 => s.release req id
            | 2 => s.handOver req (bitsOf acted 28 26) (bitsOf acted 25 22) (tblGet 0 s.mgt.claimNode k) id
            | _ => (s, 2)
          { s with mgt := { s.mgt with claimResult := tblPut s.mgt.claimResult k r } }
      | _ => s }

/-- MGT_CLAIM_CTL with op 0. -/
def execClaimCtlClaim (req : Requester) (v : Word) (s : State) : Out := .next (s.regWrite req rMgtClaimCtl v.toNat claimCtl)

/-- MGT_CLAIM_CTL with op 1. -/
def execClaimCtlRelease (req : Requester) (v : Word) (s : State) : Out := .next (s.regWrite req rMgtClaimCtl v.toNat claimCtl)

/-- MGT_CLAIM_CTL with op 2. -/
def execClaimCtlHandOver (req : Requester) (v : Word) (s : State) : Out := .next (s.regWrite req rMgtClaimCtl v.toNat claimCtl)

/-- R526: a lease that is not renewed lapses. -/
def execLeaseLapse (t : DWord) (s : State) : Out :=
  .next (
    if s.flag rMgtOwner 31 ∧ s.mgt.lease ≤ t.toNat then
      let path := s.ownerPath
      let id := s.reg64 rMgtOwnerId
      let p := s.fld rMgtOwner 23 16
      (s.ownerClear.mgtEvent 0x07 path id p 0).ownerEntry (0, 0, 0) 0 0 4
    else s)

/-- R527: a handover that nobody takes up within 5 s is cancelled. -/
def execHandoverExpiry (t : DWord) (s : State) : Out :=
  .next (match s.mgt.hand with
    | some h => if h.deadline ≤ t.toNat then ({ s with mgt := { s.mgt with hand := none } }).setFlag rMgtLease 31 false else s
    | none => s)

/-- R535: whether updates may run: after stage 11 with no trial set, or in recovery mode. -/
def State.updatesOpen (s : State) : Bool :=
  s.fld rMgtStatus 31 28 == 4 || (s.fld rBrpStatus 27 25 == 1 && s.bootRec.trial == 255)

/-- Whether the update in progress belongs to a path and stands at a stage. -/
def State.updateAt (s : State) (req : Requester) (stage : Nat) : Bool :=
  match s.mgt.update with
  | some u => u.agent == pathOf req && u.stage == stage
  | none => false

/-- A firmware command of the owner that finds its stage; any other is refused. -/
def State.updateStep (s : State) (req : Requester) (stage : Nat) (f : State → State) : State :=
  if !s.isOwner req then s.pldmRefuse req 0
  else if s.updateAt req stage then f s
  else s.answer [4]

/-- R535: RequestUpdate: the slot that is not active is written, in state 1. -/
def execRequestUpdate (req : Requester) (s : State) : Out :=
  s.message req true (fun s =>
    if !s.isOwner req then s.pldmRefuse req 0
    else if !s.updatesOpen ∨ s.mgt.update.isSome then s.answer [4]
    else
      let t := 1 - s.bootRec.active
      let s := { s with mgt := { s.mgt with update := some ⟨pathOf req, t, 1, none⟩, slots := tblPut s.mgt.slots t [] } }
      ((s.bootWrite (s.bootRec.setSlot t 1)).fwEvent 0x01 0 t 0).answer [0])

/-- PassComponentTable. -/
def execPassComponentTable (req : Requester) (s : State) : Out :=
  s.message req true (fun s => s.updateStep req 1 (fun s => s.answer [0]))

/-- UpdateComponent: the download of a component starts; the device asks for its data in requests of 4 KiB. -/
def execUpdateComponent (req : Requester) (id : Nat) (s : State) : Out :=
  s.message req true (fun s => s.updateStep req 1 (fun s =>
    match s.mgt.update with
    | some u => (({ s with mgt := { s.mgt with update := some { u with comp := some id } } }).emit "pldm" [0x15, 0, 4096]).answer [0]
    | none => s))

/-- RequestFirmwareData answered: the data are written to the target slot. -/
def execFirmwareDataResponse (req : Requester) (off : Nat) (data : List Byte) (s : State) : Out :=
  s.message req true (fun s => s.updateStep req 1 (fun s =>
    match s.mgt.update with
    | some u =>
      if u.comp.isNone ∨ 4096 < data.length ∨ 20 * 2 ^ 20 < off + data.length then s.answer [2]
      else
        let old := tblGet [] s.mgt.slots u.slot
        let new := (List.range data.length).foldl (fun t i => tblSet 0#8 t (off + i) (nth (0#8) data i)) old
        (({ s with mgt := { s.mgt with slots := tblPut s.mgt.slots u.slot new } }).emit "pldm" [0x15, off + data.length, 4096]).answer [0]
    | none => s))

/-- TransferComplete: a component has arrived; with the last one the download ends and verification starts. -/
def execTransferComplete (req : Requester) (last : Bool) (s : State) : Out :=
  s.message req true (fun s => s.updateStep req 1 (fun s =>
    match s.mgt.update with
    | some u =>
      if !last then ({ s with mgt := { s.mgt with update := some { u with comp := none } } }).answer [0]
      else
        let s := { s with mgt := { s.mgt with update := some { u with stage := 2, comp := none } } }
        (((s.takeOver u.slot).bootWrite (s.bootRec.setSlot u.slot 2)).fwEvent 0x02 0 u.slot 0).answer [0]
    | none => s))

/-- R534, R535: verification of the slot in state 2 ends. The signatures and the component hashes verify as sig and hash say. After a
power failure the same runs after stage 11 of the next boot. -/
def execFwVerifyComplete (sig hash : Bool) (s : State) : Out :=
  .next (
    let r := s.bootRec
    match [0, 1].find? (fun n => r.slot n == 2) with
    | none => s
    | some n =>
      if s.mgt.update.isNone ∧ s.fld rBrpStatus 27 25 ≠ 1 ∧ s.fld rMgtStatus 31 28 ≠ 4 then s
      else
      let d := s.imageDetail n sig hash
      if d = 0 then
        let s := { s with mgt := { s.mgt with update := s.mgt.update.map (fun (u : Update) => { u with stage := 3 }) } }
        let s := s.bootWrite ((r.setSlot n 3).setImage n (s.imageAt n 4 4) (s.imageAt n 8 4))
        (s.fwEvent 0x03 0 n 0).emit "pldm" [0x17, 0]
      else
        let s := { s with mgt := { s.mgt with update := none } }
        ((s.bootWrite (r.setSlot n 6)).fwEvent 0x04 1 n d).emit "pldm" [0x17, d])

/-- VerifyComplete answered: the device goes on to ApplyComplete. -/
def execVerifyComplete (req : Requester) (s : State) : Out :=
  s.message req true (fun s => s.updateStep req 3 (fun s => (s.emit "pldm" [0x18, 0]).answer [0]))

/-- R535: activation of the slot in state 3: one boot pointer write sets the trial. -/
def State.activate (s : State) : Option State :=
  let r := s.bootRec
  let t := 1 - r.active
  if r.slot t = 3 ∧ r.trial = 255 ∧ s.updatesOpen then
    let s := { s with mgt := { s.mgt with update := none } }
    some ((s.bootWrite ({ r with trial := t, trials := 0 }.setSlot t 5)).fwEvent 0x05 0 t 0)
  else none

/-- ActivateFirmware. -/
def execActivateFirmware (req : Requester) (s : State) : Out :=
  s.message req true (fun s =>
    if !s.isOwner req then s.pldmRefuse req 0
    else match s.activate with | some t => t.answer [0] | none => s.answer [4])

/-- GetStatus. -/
def execGetStatus (req : Requester) (s : State) : Out :=
  s.message req true (fun s => s.answer [0, s.fld rMgtStatus 23 20])

/-- CancelUpdateComponent. -/
def execCancelUpdateComponent (req : Requester) (s : State) : Out :=
  s.message req true (fun s => s.updateStep req 1 (fun s =>
    match s.mgt.update with
    | some u => ({ s with mgt := { s.mgt with update := some { u with comp := none } } }).answer [0]
    | none => s))

/-- CancelUpdate. -/
def execCancelUpdate (req : Requester) (s : State) : Out :=
  s.message req true (fun s => if !s.isOwner req then s.pldmRefuse req 0 else s.updateCancel.answer [0])

/-- R537, R538: the trial is confirmed: only the owner's request, after stage 11 of a trial boot. -/
def State.confirm (s : State) : Option State :=
  let r := s.bootRec
  if !s.flag rMgtStatus 27 ∨ r.trial = 255 ∨ s.fld rBrpStatus 27 25 ≠ 1 then none
  else
    let t := r.trial
    let commit := (s.imageAt t 12 1).testBit 0
    let pyr := s.compVersion t 4 % 65536
    let min := if commit then Nat.max r.minSvn (r.svn t) else r.minSvn
    let floor := if commit then Nat.max (s.fld rChkPyrVersion 31 16) pyr else s.fld rChkPyrVersion 31 16
    let o := 1 - t
    let stale := decide (r.svn o < min) || decide (s.compVersion o 4 % 65536 < floor)
    let keep := if r.slot o = 4 ∨ r.slot o = 3 then (if stale then 6 else 3) else r.slot o
    let new := ({ r with active := t, trial := 255, trials := 0, minSvn := min }.setSlot t 4).setSlot o keep
    let s := { s with mgt := { s.mgt with trialFrom := none } }
    let s := ((s.setFlag rMgtStatus 27 false).setFld rChkPyrVersion 31 16 floor).bootWrite new
    some ((s.fwEvent 0x07 0 t 0).lifeCount 8 1)

/-- PLDM ConfirmFirmware. -/
def execConfirmFirmware (req : Requester) (s : State) : Out :=
  s.message req false (fun s =>
    if !s.isOwner req then s.pldmRefuse req 0
    else match s.confirm with | some t => t.answer [0, 0] | none => s.answer [4])

/-- The device's own cold reset: the lifetime record is written out, and stage 0 starts again under the straps already sampled (R536,
R537, R541, R554). -/
def State.coldRestart (s : State) : State := s.lifeFlush.coldReset.stageZero s.brp.slotId s.brp.recov

/-- MGT_FW_CTL (R535 to R537). -/
def fwCtl : RegEffect :=
  { RegEffect.plain with
    act := fun s _ _ acted =>
      let s := if acted.testBit 0 then s.confirm.getD s else s
      let s := if acted.testBit 1 then s.activate.getD s else s
      let s := if acted.testBit 2 then s.updateCancel else s
      if acted.testBit 3 then s.coldRestart else s }

/-- MGT_FW_CTL.confirm. -/
def execFwCtlConfirm (req : Requester) (v : Word) (s : State) : Out := .next (s.regWrite req rMgtFwCtl v.toNat fwCtl)

/-- MGT_FW_CTL.activate. -/
def execFwCtlActivate (req : Requester) (v : Word) (s : State) : Out := .next (s.regWrite req rMgtFwCtl v.toNat fwCtl)

/-- MGT_FW_CTL.cancel. -/
def execFwCtlCancel (req : Requester) (v : Word) (s : State) : Out := .next (s.regWrite req rMgtFwCtl v.toNat fwCtl)

/-- MGT_FW_CTL.cold_req. -/
def execFwCtlColdReq (req : Requester) (v : Word) (s : State) : Out := .next (s.regWrite req rMgtFwCtl v.toNat fwCtl)

/-- PLDM ColdReset, of the owner: the reset follows by 10 ms. -/
def execColdReset (req : Requester) (s : State) : Out :=
  s.message req false (fun s =>
    if !s.isOwner req then s.pldmRefuse req 0
    else ({ s with mgt := { s.mgt with coldAt := some (s.now.toNat + 640000000) } }).answer [0, 0])

/-- R522: 10 ms after the answer the device performs the cold reset. -/
def execColdResetDelayExpiry (t : DWord) (s : State) : Out :=
  .next (match s.mgt.coldAt with
    | some x => if x ≤ t.toNat then s.coldRestart else s
    | none => s)

/-- R537: a trial that is not confirmed in its window: code 0x08 and a cold reset. -/
def State.trialFails (s : State) : State := (s.fwEvent 0x08 1 s.bootRec.trial 0).coldRestart

/-- R537: the window of 600 s from the start of stage 0 closes. -/
def execTrialWindowExpiry (s : State) : Out :=
  .next (if s.mgt.trialFrom.isSome ∧ s.flag rMgtStatus 27 then s.trialFails else s)

end Sys2Proof.Machine
end

