-- ==== Sys2Proof/Machine/Bringup.lean ====
section
/-!
DEFINITION. Bring-up (14_bringup_repair R484 to R495, R539; 15_management R536): stages, their reports, the boot decision of stage 1,
the repair-log overlay of stage 2, the logical-to-physical map of stage 6; power-on and COLD_RST_L (16_package R556).
-/
namespace Sys2Proof.Machine

/-- R556: VIN has risen through 36 V: the standby rail comes up, and the device waits for stage 0. -/
def execPowerOn (s : State) : Out :=
  .next (
    let s := s.coldReset
    { s with power := { s.power with down := 5 }, brp := { s.brp with thermTrip := false, pwrFail := false } })

/-- R556, R557: a pulse of COLD_RST_L of at least 1 µs: DEV_READY falls, every array stops as a fault, a thermal trip's pin is released. -/
def execColdRstLAssert (s : State) : Out :=
  .next (
    let s := s.stopAll
    { s with power := { s.power with down := 4 }, brp := { s.brp with ready := false, thermTrip := false } })

/-- R502, R554, R556: COLD_RST_L is released with the input held within 44 to 60 V: the straps are sampled and stage 0 starts. -/
def execColdRstLDeassert (slotId : Fin 16) (recov : Bool) (s : State) : Out :=
  .next (if s.power.down = 4 ∨ s.power.down = 5 then s.coldReset.stageZero slotId.val recov else s)

/-- R532: the invalid boot pointer records of a mask (bit 0 A, bit 1 B) are rewritten from the other, code 0x0D. -/
def State.rebuildRecs (s : State) (mask : Nat) : State :=
  let r := s.bootRec
  let s := { s with mgt := { s.mgt with recA := if mask.testBit 0 then none else s.mgt.recA, recB := if mask.testBit 1 then none else s.mgt.recB } }
  match s.mgt.recA, s.mgt.recB with
  | some a, none => ({ s with mgt := { s.mgt with recB := some a } }).fwEvent 0x0D 1 a.active 0
  | none, some b => ({ s with mgt := { s.mgt with recA := some b } }).fwEvent 0x0D 1 b.active 0
  | none, none => { s with mgt := { s.mgt with recA := some r } }
  | _, _ => s

/-- A slot boots: MGT_STATUS.boot shows it, and its security version runs. -/
def State.bootSlot (s : State) (n : Nat) (trial : Bool) : State :=
  let s := (s.setFld rMgtStatus 31 28 (2 + n)).setFlag rMgtStatus 27 trial
  let s := { s with mgt := { s.mgt with runSvn := s.bootRec.svn n, trialFrom := if trial then some s.now.toNat else none } }
  let s := s.setFld rChkPyrVersion 15 0 (s.compVersion n 4 % 65536)
  s.showBoot

/-- R536: nothing boots: recovery mode. -/
def State.recovery (s : State) : State := (s.setFld rMgtStatus 31 28 4).fwEvent 0x0C 3 s.bootRec.active 0

/-- R536: the trial is rolled back. -/
def State.rollBack (s : State) : State :=
  let r := s.bootRec
  (((s.bootWrite ({ r with trial := 255, trials := 0 }.setSlot r.trial 6)).fwEvent 0x09 1 r.trial 0)).lifeCount 9 1

/-- R536: the active slot boots, or the other one when the active fails. -/
def State.bootActive (s : State) (badActive badOther : Bool) : State :=
  let r := s.bootRec
  let o := 1 - r.active
  if !badActive then s.bootSlot r.active false
  else if (r.slot o = 3 ∨ r.slot o = 4) ∧ !badOther then
    (((s.bootWrite ({ r with active := o }.setSlot o 4)).bootSlot o false)).fwEvent 0x0B 2 o 0
  else s.recovery

/-- R536, R554: the boot decision of stage 1. -/
def State.boot (s : State) (badTrial badActive badOther : Bool) : State :=
  let r := s.bootRec
  if s.brp.recov then s.recovery
  else if r.trial = 255 then s.bootActive badActive badOther
  else if 3 ≤ r.trials ∨ badTrial then s.rollBack.bootActive badActive badOther
  else
    let s := s.bootWrite { r with trials := r.trials + 1 }
    (s.fwEvent 0x06 0 r.trial 0).bootSlot r.trial true

/-- R489, R490: the repairs in force of a kind, of the fuses and of the repair log, as target bytes. -/
def State.repairs (s : State) (kind : Nat) : List (List Nat) :=
  (s.fuses.repairs.filter (fun e => e.1 == kind)).map Prod.snd ++ ((inForce s.brp.log).filter (fun e => e.kind == kind)).map (fun e => e.target)

/-- R489: the sites that the repair log disables. -/
def State.offSites (s : State) : List Nat := ((s.repairs 0x0A).map (fun t => nth 0 t 0)).eraseDups

/-- The kind of a site by the fuses: 1 HBM, 2 I/O (R4). -/
def State.siteKind (s : State) (k : Nat) : Nat :=
  bitsOf (if k < 8 then s.fuses.siteA else if k < 16 then s.fuses.siteB else s.fuses.siteC) (4 * (k % 8) + 1) (4 * (k % 8))

/-- Whether the fuses enable a site. -/
def State.siteFused (s : State) (k : Nat) : Bool :=
  (if k < 8 then s.fuses.siteA else if k < 16 then s.fuses.siteB else s.fuses.siteC).testBit (4 * (k % 8) + 2)

/-- R4, R18, R489: the identity registers: the fuse values with the site disables laid over them; the port of a site that is not
enabled is powered off. -/
def State.identity (s : State) : State :=
  let off := s.offSites.filter s.siteFused
  let clear (v base : Nat) : Nat := off.foldl (fun v k => if base ≤ k ∧ k < base + 8 then setBits v (4 * (k - base) + 2) (4 * (k - base) + 2) 0 else v) v
  let put (s : State) (r v : Nat) : State := s.setReg r (BitVec.ofNat 32 v)
  let hbm := (off.filter (fun k => s.siteKind k == 1)).length
  let dies := off.filterMap (fun k => (List.range s.ioSites.length).find? (fun h => nth 18 s.ioSites h == k))
  let s := put s rGlbIdent (if off = [] then s.fuses.ident else setBits s.fuses.ident 15 15 1)
  let s := s.setFld rGlbArrays 28 24 s.fuses.logicalCount
  let s := s.setFld rGlbArrays 17 0 (packBits 18 (fun p => (s.fuses.mapping.take s.fuses.logicalCount).contains p))
  let s := put (put (put s rGlbSiteA (clear s.fuses.siteA 0)) rGlbSiteB (clear s.fuses.siteB 8)) rGlbSiteC (clear s.fuses.siteC 16)
  let s := put s rGlbHostEn (dies.foldl (fun v h => setBits v h h 0) s.fuses.hostEn)
  let s := put s rGlbFabricEn (dies.foldl (fun v h => setBits v (4 * h + 3) (4 * h) 0) s.fuses.fabricEn)
  let s := put s rGlbMem (s.fuses.mem - hbm * bitsOf s.fuses.mem 23 16)
  (List.range 18).foldl (fun s k => if s.siteOn k ∨ s.dom (306 + k) = 5 then s else (s.setDom (306 + k) 0).setFld (rPwrDom (306 + k)) 23 16 0) s

/-- R489 to R493: a repair is applied: row maps, retired arrays, seam lanes, stage-one modules, domains, UCIe modules. -/
def State.applyRepair (s : State) (kind : Nat) (t : List Nat) : State :=
  match kind with
  | 0x01 => s.setSkips (nth 0 t 0) (nth 0 t 1 + 256 * nth 0 t 2)
      (nth 0 t 4 + 256 * nth 0 t 5 + 65536 * nth 0 t 6 + 16777216 * nth 0 t 7 + 2 ^ 32 * nth 0 t 8)
  | 0x02 => s.setK (nth 0 t 0) (nth 0 t 1) (nth 0 t 2)
  | 0x04 => s.setFld (rChkArray (nth 0 t 0)) 31 30 3
  | 0x05 =>
    let r := rBrpSeam (nth 0 t 0)
    let key := (nth 0 t 0, nth 0 t 1, nth 0 t 2)
    if s.brp.seamSpares.contains key then s
    else ({ s with brp := { s.brp with seamSpares := key :: s.brp.seamSpares } }).setFld r 31 24 (Nat.min 255 (s.fld r 31 24 + 1))
  | 0x0B => if s.flag rPwrMod (nth 0 t 0) then
      (s.setFlag rPwrMod (nth 0 t 0) false).setFld rPwrStatus 19 15 (s.fld rPwrStatus 19 15 + 1)
    else s
  | 0x0C => s.setDom (nth 0 t 0 + 256 * nth 0 t 1) 5
  | 0x0D => match (List.range s.ioSites.length).find? (fun h => nth 18 s.ioSites h == nth 0 t 0) with
    | some h => (s.setFlag (rHstUcie h) (nth 0 t 1) false).setFlag (rHstUcie h) (16 + nth 0 t 1) true
    | none => s
  | _ => s

/-- R489, R490, R492, R493: the repairs in force are applied over the fuse values, in sequence order. -/
def State.overlay (s : State) : State :=
  let s := s.fuses.repairs.foldl (fun s (e : Nat × List Nat) => s.applyRepair e.1 e.2) s.identity
  ((inForce s.brp.log).foldl (fun s e => s.applyRepair e.kind e.target) s).capUpdate.showSpares

/-- R495: an array that can back a logical one. -/
def State.usable (s : State) (p : Nat) : Bool := decide (p < 18) && !s.fuses.fusedOff.testBit p && s.fld (rChkArray p) 31 30 != 3

/-- R495 steps 1 and 2: the fuse map with the array maps of the repair log; an entry displaces what its array backed. -/
def State.loggedMap (s : State) : List (Option Nat) :=
  let base := (List.range s.fuses.logicalCount).map (fun n => some (nth 18 s.fuses.mapping n))
  (s.repairs 0x03).foldl (fun m t =>
    let p := nth 0 t 1
    setNth none (m.map (fun x => if x = some p then none else x)) (nth 0 t 0) (some p)) base

/-- R495: the physical array that a logical one had last: by the repair log, else by the fuses. -/
def State.formerPhys (s : State) (n : Nat) : Nat :=
  match ((s.repairs 0x03).filter (fun t => nth 0 t 0 == n)).getLast? with
  | some t => nth 0 t 1
  | none => nth 0 s.fuses.mapping n

/-- R345, R495: the arrays that a map leaves free for a logical array. -/
def State.mapFree (s : State) (m : List (Option Nat)) : List Nat :=
  (List.range 18).filter (fun q => s.usable q && decide (s.fld (rChkArray q) 31 30 = 0) && !m.contains (some q))

/-- R495 step 3: a logical array without a usable physical array takes the nearest free spare, which is recorded. -/
def State.placeLogical (s : State) (m : List (Option Nat)) (n : Nat) : State × List (Option Nat) :=
  match nth none m n with
  | some p => if s.usable p then (s, m) else
      (match nearest p (s.mapFree m) with
      | some q => (s.logAdd 0x03 1 6 [n, q], setNth none m n (some q))
      | none => (s, setNth none m n none))
  | none =>
    match nearest (s.formerPhys n) (s.mapFree m) with
    | some q => (s.logAdd 0x03 1 6 [n, q], setNth none m n (some q))
    | none => (s, m)

/-- R495: stage 6 builds the map; whether every logical array is backed. -/
def State.buildMap (s : State) : State × Bool :=
  let (s, m) := (List.range s.fuses.logicalCount).foldl (fun (x : State × List (Option Nat)) n => x.1.placeLogical x.2 n) (s, s.loggedMap)
  let s := (List.range 16).foldl (fun s n => s.setMap n (if n < s.fuses.logicalCount then nth none m n else none)) s
  (s.showSpares, (m.take s.fuses.logicalCount).all (fun x => x.isSome))

/-- R456: the sites whose port latched off in service are disabled in the repair log at the next bring-up. -/
def State.logBadSites (s : State) : State :=
  s.brp.badSites.foldl (fun s k => s.logAdd 0x0A 3 0 [k]) { s with brp := { s.brp with badSites := [] } }

/-- R246, R248: the active list of stage 7: pseudo-channels in service, by index, then by site. -/
def State.buildHbm (s : State) : State :=
  let s := s.markedPcs.foldl (fun s pc => (s.logAdd 0x09 1 7 [pc / 64, pc % 64]).postDev 0x01 0x42 0 (srcOf 5 (pc / 64))
    (payloadOf [(25, 1, 2), (26, 2, pc % 64), (28, 4, 1)])) s
  let s := { s with brp := { s.brp with marked := [] } }
  let gone := (s.repairs 0x09).map (fun t => (nth 0 t 0, nth 0 t 1))
  let off := s.offSites
  let sites := (List.range 18).filter (fun k => s.siteKind k == 1 && s.siteFused k && !off.contains k)
  let list := (List.range 64).flatMap (fun i => (sites.filter (fun k => !gone.contains (k, i))).map (fun k => 64 * k + i))
  let s := gone.foldl (fun s (g : Nat × Nat) => s.setFlag (rMmuHbmRet g.1 + 4 * (g.2 / 32)) (g.2 % 32) true) s
  let s := (List.range 18).foldl (fun s k => s.setReg64 (rMmuHbmPend k) 0) s
  ({ s with memst := { s.memst with activePcs := list } }).setReg64 rMmuHbmCap (list.length * 750000000)

/-- R491: soft row repairs become hard in a full stage 7. -/
def State.hardenRows (s : State) : State :=
  let l := s.repairs 0x07
  (l.filter (fun t => nth 0 t 8 == 0 && !l.any (fun u => nth 0 u 8 == 1 && u.take 8 == t.take 8))).foldl
    (fun s t => s.logAdd 0x07 1 7 (setNth 0 t 8 1)) s

/-- R539: stage 10 writes the controller library below the end of HBM and reports it. -/
def State.loadLibrary (s : State) : State :=
  let slot := if s.fld rMgtStatus 31 28 = 3 then 1 else 0
  let base := s.hbmCap - 0x400000
  let s := match s.compIn slot 2 with
    | some x => s.wrBytes base ((List.range (Nat.min x.2.2 0x400000)).map (fun i => tblGet 0#8 (tblGet [] s.mgt.slots slot) (x.2.1 + i)))
    | none => s
  (s.setReg64 rMgtLibBase base).setReg rMgtLibAttn (BitVec.ofNat 32 (s.imageAt slot 20 4))

/-- R484: arrays that failed a stage are retired, and spares back their logical arrays. -/
def State.arraysAfter (s : State) (passed stage : Nat) : State × Bool :=
  ((List.range 18).foldl (fun s p => if s.usable p ∧ !passed.testBit p then s.retireArray p 1 stage else s) s).buildMap

/-- R336, R494: the clock mesh tests of stage 6: an array whose mesh fails is retired when a spare can back its logical array, and else
runs strip-clocked; one whose mesh passes does not. Whether any array is left strip-clocked. -/
def State.meshStage (s : State) (mesh : Nat) : State × Bool :=
  (List.range 18).foldl (fun (x : State × Bool) p =>
    if !x.1.usable p then x
    else if !mesh.testBit p then (x.1.setStripClock p false, x.2)
    else if (x.1.logOf p).isSome && (x.1.spareFor p).isSome then ((x.1.retireArray p 1 6).buildMap.1, x.2)
    else (x.1.setStripClock p true, true)) (s, false)

/-- R488: the ten repair totals. -/
def State.repairTotals (s : State) : List Nat :=
  let n (k : Nat) : Nat := (s.repairs k).length
  let shifted := ((s.repairs 0x01).map (fun t =>
    let v := nth 0 t 4 + 256 * nth 0 t 5 + 65536 * nth 0 t 6 + 16777216 * nth 0 t 7 + 2 ^ 32 * nth 0 t 8
    ((List.range 4).filter (fun j => decide (bitsOf v (9 * j + 8) (9 * j) < 256))).length)).foldl (· + ·) 0
  [shifted, ((s.repairs 0x02).filter (fun t => nth 0 t 2 != 16)).length, n 0x03, n 0x04, n 0x05, n 0x06, n 0x07, n 0x09, n 0x08, n 0x0A]

/-- R488: the report record of a stage; segs: the seam segments with a failed group. -/
def State.report (s : State) (st result segs : Nat) (e : StageEnd) : List Byte :=
  let retired := packBits 18 (fun p => s.fld (rChkArray p) 31 30 == 3)
  let off := packBits 18 (fun k => s.offSites.contains k)
  let data := if st = 3 ∨ st = 7 then (e.data ++ List.replicate 16 0).take 16 else List.replicate 16 0
  let b := [BitVec.ofNat 8 st, BitVec.ofNat 8 result, BitVec.ofNat 8 (s.fld rBrpStatus 24 23), BitVec.ofNat 8 (s.fld rBrpStatus 22 20)]
    ++ bytesOf 4 e.micros ++ bytesOf 8 (if st < 4 then 0 else s.brp.began) ++ bytesOf 2 e.unit ++ bytesOf 2 e.detail ++ bytesOf 4 e.location
    ++ s.repairTotals.flatMap (bytesOf 4) ++ data.flatMap (bytesOf 4) ++ bytesOf 4 e.arrays ++ bytesOf 4 retired ++ bytesOf 4 e.dies ++ bytesOf 4 off
    ++ bytesOf 4 e.ports ++ bytesOf 2 segs ++ bytesOf 102 0
  b ++ bytesOf 4 (crc32c b)

/-- R563: a rack request that is still asserted applies after stage 11. -/
def State.pinApplies (s : State) : State :=
  if s.power.pinReq && !s.flag rPwrStatus 20 then (s.setFlag rPwrStatus 20 true).rackChange true else s

/-- R500: whether a dispatcher is retired: 0 the primary, 1 the standby. -/
def State.dspGone (s : State) (d : Nat) : Bool := (s.repairs 0x0F).any (fun t => nth 0 t 0 == d)

/-- R500: the dispatcher that is active, and whether the other one stands by. -/
def State.dispatchers (s : State) : State :=
  ((s.setFlag rBrpDsp 30 (!s.dspGone 0 && !s.dspGone 1)).setFlag rBrpDsp 31 (s.dspGone 0)).setFlag rBrpStatus 18 (s.dspGone 0)

/-- R484, R500, R503, R563: stage 11: the device is ready; a rack request still asserted applies. -/
def State.ready (s : State) : State :=
  let mode := s.fld rBrpStatus 24 23
  let s := (s.setFld rBrpStatus 27 25 1).dispatchers
  let s := { s with brp := { s.brp with ready := true, reached := true, beat := s.now.toNat } }
  let s := if mode = 2 then s.brpEvent 0xA7 0 (brpPayload 11 0 0xFFFF 0 0 0xFF 0xFF)
    else if mode = 1 then (s.setFld rBrpSinceFull 31 16 (Nat.min 65535 (s.fld rBrpSinceFull 31 16 + 1))).lifeCount 4 1
    else (({ s with brp := { s.brp with lastGood := true } }).setReg rBrpSinceFull 0#32).lifeCount 3 1
  (s.pinApplies.brpEvent 0xA0 0 (brpPayload 11 0 0xFFFF 0 0 0xFF 0xFF)).dispatch

/-- R484, R490: the copies of the repair log that failed their check: one is rebuilt, with both the overlay is empty and the mode full. -/
def State.logCopies (s : State) (bad : Nat) : State :=
  if bad % 4 = 0 then s
  else if bad % 4 = 3 then
    let s := { s with brp := { s.brp with log := [] } }
    (s.setFld rBrpStatus 24 23 0).setFld rBrpLogStatus 16 0 0
  else ((s.setFlag rBrpStatus 16 true).setFlag rBrpLogStatus 30 true).brpEvent 0xAB 1 (brpPayload 2 0 0xFFFF 0 0 0xFF 0xFF)

/-- R21: of lanes that failed training, the first of each group that fails: its spare is used, or another lane of it failed too. -/
def State.seamFails (s : State) (l : List SeamLane) : List SeamLane :=
  (l.map seamKey).eraseDups.filterMap (fun k =>
    let g := l.filter (fun x => seamKey x == k)
    if s.brp.seamSpares.contains k ∨ 1 < g.length then g.head? else none)

/-- R21, R484, R542: seam training: the one failed lane of a group is mapped to the group's spare; a failed group of a trunk-link bundle
retires its link and degrades the stage, any other fails it. -/
def State.seamsTrained (s : State) (l : List SeamLane) (result : Nat) : State × Nat :=
  let bad := s.seamFails l
  let ok := l.filter (fun x => !bad.any (fun y => seamKey y == seamKey x))
  let s := ok.foldl (fun s x => ((s.logAdd 0x05 1 5 (seamTarget x)).applyRepair 0x05 (seamTarget x)).lifeCount (812 + x.seg.val) 1) s
  let result := if ok.isEmpty then result else Nat.max 1 result
  bad.foldl (fun (y : State × Nat) x =>
    let r := rBrpSeam x.seg.val
    let s := y.1.setFld r 23 16 (Nat.min 255 (y.1.fld r 23 16 + 1))
    match x.link with
    | some k => ((s.setFlag r 0 true).retireLink k.val, Nat.max 2 y.2)
    | none => (s, 3)) (s, result)

/-- R19, R489 to R493: a repair that a stage made: recorded, applied, and a retired UCIe module reported. -/
def State.stageRepair (s : State) (st kind : Nat) (t : List Nat) : State :=
  if !repairOk kind t then s
  else
  let s := (s.logAdd kind 1 st t).applyRepair kind t
  if kind = 0x0D then
    match (List.range s.ioSites.length).find? (fun h => nth 18 s.ioSites h == nth 0 t 0) with
    | some h => s.ucieEvent h (nth 0 t 0)
    | none => s
  else s

/-- The work of a stage, and its result. -/
def State.stageWork (s : State) (st : Nat) (e : StageEnd) : State × Nat :=
  let s := e.repairs.foldl (fun s (r : Nat × List Nat) => s.stageRepair st r.1 r.2) s
  match st with
  | 0 => (s.setFld rMgtStatus 31 28 1, e.result)
  | 1 => if e.result = 3 then (s, 3) else ((s.rebuildRecs e.badRecs).boot (e.detail.testBit 0) (e.detail.testBit 1) (e.detail.testBit 2), e.result)
  | 2 => if e.result = 3 then (s, 3) else (((s.logCopies e.badLogs).logBadSites.overlay), if e.badLogs % 4 = 3 then Nat.max 2 e.result else e.result)
  | 3 => ({ s with now := 0#64 }, e.result)
  | 4 => (s, if (List.range 10).any (fun f => s.dom (324 + f) == 5) then 3 else e.result)
  | 5 => s.seamsTrained e.lanes e.result
  | 6 =>
    let (s, ok) := s.arraysAfter e.arrays 6
    let (s, strip) := s.meshStage e.mesh
    (s, if !ok then 3 else if strip then Nat.max 2 e.result else e.result)
  | 7 => if e.result = 4 ∨ e.result = 3 then (s, e.result)
    else ((if s.fld rBrpStatus 24 23 = 1 then s else s.hardenRows).buildHbm, e.result)
  | 8 =>
    ((List.range 32).foldl (fun s f => if s.flag rGlbFabricEn f ∧ s.flag (rFabPortCtl f) 0 then s.setFld (rFabPortStatus f) 31 28 2 else s) s, e.result)
  | 9 =>
    let down := (List.range 32).filter (fun f => s.fstate f == 2)
    ((down.foldl (fun s f => s.setFld (rFabPortStatus f) 31 28 1) s).stepToFabric, if down = [] then e.result else Nat.max 2 e.result)
  | 10 =>
    let (s, ok) := s.arraysAfter e.arrays 10
    (s.loadLibrary, if ok then e.result else 3)
  | _ => (s, e.result)

/-- R484, R488, R503, R537: a stage ends: its work, its report, and what follows. t: the Quartz time. A stage 0 that fails writes no report;
in recovery mode stages 2 onward do not run; a trial boot that fails restarts cold. -/
def execBringupStageEnd (t : DWord) (e : StageEnd) (s : State) : Out :=
  .next (
    let st := s.fld rBrpStatus 31 28
    let state := s.fld rBrpStatus 27 25
    if s.power.down ≠ 0 ∨ !(state = 0 ∨ state = 3) ∨ (s.fld rMgtStatus 31 28 = 4 ∧ st = 1) then s
    else
      let bad := if st = 5 then s.seamFails e.lanes else []
      let e := match bad with | x :: _ => { e with location := x.seg.val + 256 * x.bundle.toNat } | [] => e
      let (s, result) := s.stageWork st e
      let rep := s.report st (Nat.min 3 result) (packBits 12 (fun g => bad.any (fun x => x.seg.val == g))) e
      let s := if st = 0 ∧ result = 3 then s
        else ({ s with brp := { s.brp with reports := tblPut s.brp.reports st rep } }).lifeAdd 0x02 rep
      let s := { s with brp := { s.brp with began := t.toNat } }
      if result = 3 then
        let s := s.bringupFail e.unit e.detail
        let s := if s.fld rMgtStatus 31 28 = 4 then s else if s.flag rMgtStatus 27 then s.trialFails else s.setFld rMgtStatus 31 28 5
        s
      else if 4 ≤ result then s.bringupRestart e.unit e.detail
      else if st = 1 ∧ s.fld rMgtStatus 31 28 = 4 then s
      else if st = 11 then s.ready
      else s.setFld rBrpStatus 31 28 (if state = 3 then (if st = 6 then 10 else 11) else st + 1))

end Sys2Proof.Machine
end

