-- ==== Sys2Proof/Machine/Protocols.lean ====
section
/-!
DEFINITION. The management interfaces (15_management R517 to R524): I3C common command codes, MCTP control, PLDM base, monitoring and
firmware queries, and SPDM. Answers are lists of numbers; a PLDM answer begins with its completion code (0 success, 2 invalid data,
4 ERROR_NOT_READY, 0x80 an unknown sensor or record).
-/
namespace Sys2Proof.Machine

/-- The register of an I3C target: 0 MGMT_A, 1 MGMT_B. -/
def rI3c (t : Nat) : Nat := if t = 0 then rMgtI3cA else rMgtI3cB

/-- A target's state. -/
def State.i3c (s : State) (t : Nat) : I3cTarget := tblGet I3cTarget.reset s.mgt.i3c t

/-- Replace a target's state. -/
def State.setI3c (s : State) (t : Nat) (x : I3cTarget) : State := { s with mgt := { s.mgt with i3c := tblPut s.mgt.i3c t x } }

/-- A direct common command code: a target without a dynamic address does not acknowledge it (R518). -/
def State.direct (s : State) (t : Nat) (f : State → State) : Out := .next (if s.flag (rI3c t) 31 then f s else s.answer [])

/-- R545: the event of an address: byte 33 holds it. -/
def State.addrEvent (s : State) (t addr : Nat) : State := s.mgtEvent 0x0A (t + 1, 0, 0) 0 0 addr

/-- ENTDAA: a target without a dynamic address takes part and is given one. -/
def execEntdaa (t : Fin 2) (addr : Fin 128) (s : State) : Out :=
  .next (
    if s.flag (rI3c t.val) 31 then s
    else
      let s := ((s.setFlag (rI3c t.val) 31 true).setFld (rI3c t.val) 30 24 addr.val).setI3c t.val { s.i3c t.val with joined := true }
      s.addrEvent t.val addr.val)

/-- RSTDAA: the target drops its address, and its path's ownership ends (R528); an unstrapped target draws its random portion again. -/
def execRstdaa (t : Fin 2) (s : State) : Out :=
  .next (
    let s := (s.setFlag (rI3c t.val) 31 false).setFld (rI3c t.val) 30 24 0
    let s := if s.brp.slotId = 15 then s.drawn.setFld (rI3c t.val) 10 0 (s.free % 2048) else s
    (s.addrEvent t.val 0).ownerEnds (t.val + 1) 0)

/-- ENEC: in-band interrupts and hot-join are enabled. -/
def execEnec (t : Fin 2) (ibi hotJoin : Bool) (s : State) : Out :=
  .next (
    let x := s.i3c t.val
    let s := s.setI3c t.val { x with ibi := x.ibi || ibi, hotJoin := x.hotJoin || hotJoin }
    s.setFlag (rI3c t.val) 19 (x.ibi || ibi))

/-- DISEC: in-band interrupts and hot-join are disabled. -/
def execDisec (t : Fin 2) (ibi hotJoin : Bool) (s : State) : Out :=
  .next (
    let x := s.i3c t.val
    let s := s.setI3c t.val { x with ibi := x.ibi && !ibi, hotJoin := x.hotJoin && !hotJoin }
    s.setFlag (rI3c t.val) 19 (x.ibi && !ibi))

/-- R519: the provisioned ID. -/
def State.provisionedId (s : State) (t : Nat) : Nat :=
  0x02A7 * 2 ^ 33 + 0x0A71 * 2 ^ 16 + s.brp.slotId * 2 ^ 12 + t * 2 ^ 11 + s.fld (rI3c t) 10 0

/-- GETPID. -/
def execGetpid (t : Fin 2) (s : State) : Out := s.direct t.val (fun s => s.answer [s.provisionedId t.val])

/-- GETBCR. -/
def execGetbcr (t : Fin 2) (s : State) : Out := s.direct t.val (fun s => s.answer [0x07])

/-- GETDCR. -/
def execGetdcr (t : Fin 2) (s : State) : Out := s.direct t.val (fun s => s.answer [0xCC])

/-- GETSTATUS: the bits of the status are not given (notes/assumptions/6). -/
def execGetstatus (t : Fin 2) (s : State) : Out := s.direct t.val (fun s => s.drawn.answer [s.free % 65536])

/-- GETMRL. -/
def execGetmrl (t : Fin 2) (s : State) : Out := s.direct t.val (fun s => s.answer [(s.i3c t.val).mrl])

/-- SETMRL: 69 to 260 bytes. -/
def execSetmrl (t : Fin 2) (n : Nat) (s : State) : Out :=
  .next (if 69 ≤ n ∧ n ≤ 260 then s.setI3c t.val { s.i3c t.val with mrl := n } else s)

/-- GETMWL. -/
def execGetmwl (t : Fin 2) (s : State) : Out := s.direct t.val (fun s => s.answer [(s.i3c t.val).mwl])

/-- SETMWL: 69 to 260 bytes. -/
def execSetmwl (t : Fin 2) (n : Nat) (s : State) : Out :=
  .next (if 69 ≤ n ∧ n ≤ 260 then s.setI3c t.val { s.i3c t.val with mwl := n } else s)

/-- GETMXDS: no limit beyond SDR, no turnaround. -/
def execGetmxds (t : Fin 2) (s : State) : Out := s.direct t.val (fun s => s.answer [0, 0])

/-- RSTACT: action 0 no reset, 1 the target's own logic; any other does nothing. -/
def execRstact (t : Fin 2) (action : Nat) (s : State) : Out :=
  .next (
    if action = 1 then (s.setI3c t.val { I3cTarget.reset with joined := (s.i3c t.val).joined }).setFlag (rI3c t.val) 19 false
    else s)

/-- R518: a target that powers up after address assignment requests hot-join, unless DISEC disabled it. -/
def execI3cHotJoin (t : Fin 2) (s : State) : Out :=
  .next (if !s.flag (rI3c t.val) 31 && (s.i3c t.val).hotJoin then s.emit "i3c-hot-join" [t.val] else s)

/-- R518: whether a path carries an MCTP control message: a target without a dynamic address acknowledges no private transfer. -/
def State.reached (s : State) (req : Requester) : Bool :=
  match req with
  | .mgmtA => s.flag rMgtI3cA 31
  | .mgmtB => s.flag rMgtI3cB 31
  | .fabric _ => true
  | _ => false

/-- MCTP control Set Endpoint ID: the EID of the path. -/
def execSetEndpointId (req : Requester) (eid : Nat) (s : State) : Out :=
  .next (
    if !s.reached req then s
    else if eid = 0 ∨ 255 < eid then (s.answer [2]).notice req
    else match req with
      | .mgmtA => ((s.setFld rMgtEid 23 16 eid).answer [0, eid]).notice req
      | .mgmtB => ((s.setFld rMgtEid 15 8 eid).answer [0, eid]).notice req
      | .fabric _ => (s.setFld rMgtEid 7 0 eid).answer [0, eid]
      | _ => s)

/-- The EID of a path. -/
def State.eidOf (s : State) (req : Requester) : Nat :=
  match req with
  | .mgmtA => s.fld rMgtEid 23 16
  | .mgmtB => s.fld rMgtEid 15 8
  | .fabric _ => s.fld rMgtEid 7 0
  | _ => 0

/-- Get Endpoint ID. -/
def execGetEndpointId (req : Requester) (s : State) : Out := .next (if s.reached req then (s.answer [0, s.eidOf req]).notice req else s)

/-- Get MCTP Version Support: the version is not given (notes/assumptions/6). -/
def execGetMctpVersionSupport (s : State) : Out := .next (s.drawn.answer [0, s.free % 2 ^ 32])

/-- Get Message Type Support: MCTP control 0, PLDM 1, SPDM 5. -/
def execGetMessageTypeSupport (s : State) : Out := .next (s.answer [0, 0, 1, 5])

/-- Get Endpoint UUID: derived from the serial number. -/
def execGetEndpointUuid (s : State) : Out := .next (s.answer [0, (Config.crypto 1 [s.fuses.serial.toNat]).toNat % 2 ^ 128])

/-- PLDM GetTID. -/
def execGetTid (req : Requester) (s : State) : Out := s.message req true (fun s => s.answer [0, s.mgt.tid])

/-- PLDM SetTID. -/
def execSetTid (req : Requester) (tid : Nat) (s : State) : Out :=
  s.message req true (fun s => if tid = 0 ∨ 254 < tid then s.answer [2] else ({ s with mgt := { s.mgt with tid := tid } }).answer [0])

/-- PLDM GetPLDMTypes: base 0, monitoring 2, firmware update 5, OEM 0x3F. -/
def execGetPldmTypes (req : Requester) (s : State) : Out := s.message req true (fun s => s.answer [0, 0, 2, 5, 0x3F])

/-- The commands of a PLDM type, by the codes of DSP0240, DSP0248, DSP0267 and of R522. -/
def pldmCommands : Nat → List Nat
  | 0 => [1, 2, 3, 4, 5]
  | 2 => [0x04, 0x0A, 0x0D, 0x11, 0x21, 0x31, 0x32, 0x50, 0x51]
  | 5 => [0x01, 0x02, 0x10, 0x13, 0x14, 0x15, 0x16, 0x17, 0x18, 0x1A, 0x1B, 0x1C, 0x1D]
  | 0x3F => [1, 2, 3, 4, 5, 6, 7, 8, 9]
  | _ => []

/-- R545: a message that is malformed or not supported, with the completion code returned. -/
def State.badMessage (s : State) (req : Requester) (code : Nat) : State := (s.mgtEvent 0x0B (pathOf req) 0 0 code).answer [code]

/-- PLDM GetPLDMCommands. -/
def execGetPldmCommands (req : Requester) (ty : Nat) (s : State) : Out :=
  s.message req true (fun s => if (pldmCommands ty).isEmpty then s.badMessage req 2 else s.answer (0 :: pldmCommands ty))

/-- PLDM GetPLDMVersion: the versions are not given (notes/assumptions/6). -/
def execGetPldmVersion (req : Requester) (ty : Nat) (s : State) : Out :=
  s.message req true (fun s => if (pldmCommands ty).isEmpty then s.badMessage req 2 else s.drawn.answer [0, s.free % 2 ^ 32])

/-- R523: the sensors and effecters, as (ID, kind: 0 numeric sensor, 1 state sensor, 2 numeric effecter). -/
def pdrs : List (Nat × Nat) :=
  [1, 2, 3, 4, 5].map (fun i => (i, 0)) ++ (List.range 306).map (fun i => (0x100 + i, 0)) ++ (List.range 18).map (fun p => (0x200 + p, 1))
    ++ [(0x300, 1), (0x301, 1), (0x302, 1), (0x400, 2), (0x401, 2)]

/-- GetPDRRepositoryInfo: the number of records. -/
def execGetPdrRepositoryInfo (req : Requester) (s : State) : Out := s.message req false (fun s => s.answer [0, pdrs.length])

/-- GetPDR: record n, by its ID and kind; what else a record holds is not given. -/
def execGetPdr (req : Requester) (n : Nat) (s : State) : Out :=
  s.message req false (fun s => match pdrs[n]? with
    | some x => s.answer [0, x.1, x.2]
    | none => s.badMessage req 0x80)

/-- R523: the value of a numeric sensor. -/
def State.numericSensor (s : State) (id : Nat) : Option Nat :=
  if id = 1 then some (s.fld rPwrInP 15 0)
  else if id = 2 then some (s.fld rPwrInV 15 0)
  else if id = 3 then some (s.fld rPwrInI 15 0)
  else if id = 4 then some (s.fld rPwrCapEff 15 0)
  else if id = 5 then some (s.fld rPwrThermMax 15 0)
  else if 0x100 ≤ id ∧ id < 0x100 + 306 then some (s.fld (rPwrTemp (id - 0x100)) 15 0)
  else none

/-- GetSensorReading. -/
def execGetSensorReading (req : Requester) (id : Nat) (s : State) : Out :=
  s.message req false (fun s => match s.numericSensor id with
    | some v => s.answer [0, v]
    | none => s.badMessage req 0x80)

/-- R523: the state of a state sensor: an array (0 in service, 1 spare, 2 suspect, 3 quarantined, 4 retired), the device (0 bringing up,
1 ready, 2 failed, 3 recovery), the time (reference, fabric state), the firmware (0 normal, 1 trial, 2 update active). -/
def State.stateSensor (s : State) (id : Nat) : Option (List Nat) :=
  if 0x200 ≤ id ∧ id < 0x212 then
    let p := id - 0x200
    let st := s.fld (rChkArray p) 31 30
    some [if st = 0 then (if (s.logOf p).isSome then 0 else 1) else st + 1]
  else if id = 0x300 then
    some [if s.fld rMgtStatus 31 28 = 4 then 3 else if s.fld rBrpStatus 27 25 = 1 then 1 else if s.fld rBrpStatus 27 25 = 2 then 2 else 0]
  else if id = 0x301 then some [s.fld rQtzStatus 27 26, s.fld rQtzStatus 29 28]
  else if id = 0x302 then some [if s.mgt.update.isSome then 2 else if s.flag rMgtStatus 27 then 1 else 0]
  else none

/-- GetStateSensorReadings. -/
def execGetStateSensorReadings (req : Requester) (id : Nat) (s : State) : Out :=
  s.message req false (fun s => match s.stateSensor id with
    | some v => s.answer (0 :: v)
    | none => s.badMessage req 0x80)

/-- Every state sensor, in order of its ID. -/
def State.allSensors (s : State) : List Nat :=
  ((List.range 18).map (fun p => 0x200 + p) ++ [0x300, 0x301, 0x302]).flatMap (fun id => (s.stateSensor id).getD [])

/-- R523: a change of a state sensor is told to the registered receiver while forwarding is enabled. -/
def State.sensorNotices (s : State) : State :=
  let now := s.allSensors
  if s.mgt.seen = now then s
  else
    let s := { s with mgt := { s.mgt with seen := now } }
    match s.mgt.receiver with
    | some r => if s.flag rMgtEvtFwd 31 then s.emit "pldm-event" (r.1 :: r.2.1 :: r.2.2 :: now) else s
    | none => s

/-- SetNumericEffecterValue: the granted cap or the rack floor, of the owner only. -/
def execSetNumericEffecterValue (req : Requester) (id v : Nat) (s : State) : Out :=
  s.message req false (fun s =>
    if id ≠ 0x400 ∧ id ≠ 0x401 then s.badMessage req 0x80
    else if !s.isOwner req then s.pldmRefuse req v
    else if id = 0x400 then (s.regWrite req rPwrCapGrant (v % 2 ^ 32) capGrantReg).answer [0]
    else (s.regWrite req rPwrRack (setBits (s.reg rPwrRack).toNat 15 0 (v % 65536)) rackReg).answer [0])

/-- GetNumericEffecterValue. -/
def execGetNumericEffecterValue (req : Requester) (id : Nat) (s : State) : Out :=
  s.message req false (fun s =>
    if id = 0x400 then s.answer [0, s.fld rPwrCapGrant 15 0]
    else if id = 0x401 then s.answer [0, s.fld rPwrRack 15 0]
    else s.badMessage req 0x80)

/-- SetEventReceiver: the path that asks is the receiver. -/
def execSetEventReceiver (req : Requester) (s : State) : Out :=
  s.message req false (fun s => ({ s with mgt := { s.mgt with receiver := some (pathOf req) } }).answer [0])

/-- EventMessageBufferSize. -/
def execEventMessageBufferSize (req : Requester) (n : Nat) (s : State) : Out :=
  s.message req false (fun s => ({ s with mgt := { s.mgt with bufSize := n } }).answer [0, n])

/-- QueryDeviceIdentifiers. -/
def execQueryDeviceIdentifiers (req : Requester) (s : State) : Out :=
  s.message req true (fun s => s.answer [0, (s.reg (rHstId 0)).toNat / 65536, s.fuses.serial.toNat])

/-- GetFirmwareParameters: the versions of the active slot and of the other. -/
def execGetFirmwareParameters (req : Requester) (s : State) : Out :=
  s.message req true (fun s => s.answer [0, s.bootRec.ver s.bootRec.active, s.bootRec.ver (1 - s.bootRec.active)])

/-- R543: a word of the lifetime record: space 0 the ring, 1 the counters. The units are written in order, from unit 0 again after the last. -/
def State.lifeWord (s : State) (space n : Nat) : Nat :=
  if space = 1 then (if n < 1024 then (tblGet 0#32 s.life.ctr n).toNat else 0)
  else
    let entry (e : LifeEntry) : List Byte :=
      let h := bytesOf 8 e.secs ++ bytesOf 4 e.seq ++ bytesOf 1 e.kind ++ bytesOf 1 e.units ++ bytesOf 2 0 ++ e.body
      let h := h ++ List.replicate (64 * e.units - 4 - h.length) (0#8)
      h ++ bytesOf 4 (crc32c h)
    leAt (s.life.ring.flatMap entry) (64 * ((n / 16 + 262144 - s.life.gone % 262144) % 262144) + 4 * (n % 16)) 4

/-- PLDM ReadLifetime: 1 to 60 words. -/
def execReadLifetime (req : Requester) (space first count : Nat) (s : State) : Out :=
  s.message req false (fun s =>
    if count = 0 ∨ 60 < count ∨ 1 < space then s.badMessage req 2
    else s.answer (0 :: (List.range count).map (fun i => s.lifeWord space (first + i))))

/-- SPDM state of a path: 0 nothing, 1 after GET_VERSION, 2 after NEGOTIATE_ALGORITHMS. -/
def State.spdm (s : State) (req : Requester) : Nat := tblGet 0 s.mgt.spdm (reqCode req)

/-- Set it. -/
def State.setSpdm (s : State) (req : Requester) (n : Nat) : State := { s with mgt := { s.mgt with spdm := tblPut s.mgt.spdm (reqCode req) n } }

/-- SPDM GET_VERSION: 1.3. -/
def execGetVersion (req : Requester) (s : State) : Out := s.message req true (fun s => (s.setSpdm req 1).answer [0x13])

/-- SPDM GET_CAPABILITIES: certificates, challenge and signed measurements (bits 0 to 2); nothing else. -/
def execGetCapabilities (req : Requester) (s : State) : Out := s.message req true (fun s => s.answer [7])

/-- SPDM NEGOTIATE_ALGORITHMS: ECDSA P-384 with SHA-384 only. -/
def execNegotiateAlgorithms (req : Requester) (ecdsaP384 sha384 : Bool) (s : State) : Out :=
  s.message req true (fun s => if ecdsaP384 ∧ sha384 ∧ s.spdm req ≠ 0 then (s.setSpdm req 2).answer [1, 1] else s.answer [])

/-- SPDM GET_DIGESTS: the SHA-384 of the chain of slot 0. -/
def execGetDigests (req : Requester) (s : State) : Out :=
  s.message req true (fun s => s.answer [0, (Config.crypto 2 [s.fuses.serial.toNat]).toNat % 2 ^ 384])

/-- SPDM GET_CERTIFICATE: a part of the chain of slot 0, whose bytes are the part's own; another slot is empty. -/
def execGetCertificate (req : Requester) (slot off len : Nat) (s : State) : Out :=
  s.message req true (fun s =>
    if slot = 0 then s.answer ((List.range len).map (fun i => (Config.crypto 3 [s.fuses.serial.toNat, off + i]).toNat % 256)) else s.answer [])

/-- SPDM CHALLENGE: a signature of the device key over the nonce. -/
def execChallenge (req : Requester) (nonce : Nat) (s : State) : Out :=
  s.message req true (fun s => if s.spdm req = 2 then s.answer [(Config.crypto 4 [nonce]).toNat, (Config.crypto 5 [nonce]).toNat] else s.answer [])

/-- R524: a measurement block: 1 to 7 are SHA-384 values, 8 the boot pointer record as raw bytes. -/
def State.measurement (s : State) (i : Nat) : List Nat :=
  let slot := if s.fld rMgtStatus 31 28 = 3 then 1 else 0
  if i = 8 then s.bootRec.bytes.map BitVec.toNat
  else if i = 7 then [(Config.crypto 6 ((List.range 8).map (fun k => (s.reg (4 * k)).toNat))).toNat % 2 ^ 384]
  else if i = 1 then [(Config.crypto 7 []).toNat % 2 ^ 384]
  else
    let id := nth 0 [0, 0, 1, 2, 3, 4, 5] i
    match s.compIn slot id with
    | some x => [(Config.crypto 6 ((List.range x.2.2).map (fun k => s.imageAt slot (x.2.1 + k) 1))).toNat % 2 ^ 384]
    | none => [(Config.crypto 8 [slot, id]).toNat % 2 ^ 384]

/-- SPDM GET_MEASUREMENTS with signature: block i, 1 to 8, then the signature. -/
def execGetMeasurements (req : Requester) (idx nonce : Nat) (s : State) : Out :=
  s.message req true (fun s =>
    if s.spdm req ≠ 2 ∨ idx = 0 ∨ 8 < idx then s.answer []
    else s.answer (s.measurement idx ++ [(Config.crypto 4 (nonce :: s.measurement idx)).toNat, (Config.crypto 5 (nonce :: s.measurement idx)).toNat]))

end Sys2Proof.Machine
end

