-- ==== Sys2Proof/Machine/Repair.lean ====
section
/-!
DEFINITION. Repair in the field: Pyrite runs and known-answer kernels (10_integrity R366 to R368), seam lanes, management buses,
dispatcher failover, repair commands (14_bringup_repair R498 to R501), the hang detector and the watchdogs (R506 to R509).
-/
namespace Sys2Proof.Machine

/-- R371: a test event; unit: the physical array, or the logical one for code 0x0F; kind 0 Pyrite array, 1 Pyrite strip, 2 kernels. -/
def State.testEvent (s : State) (code sev result unit strip kind version fails row col : Nat) : State :=
  s.postDev 0x05 code sev (srcOf 7 0) (payloadOf [(16, 1, result), (17, 1, unit), (18, 1, strip), (19, 1, kind), (20, 4, version), (24, 4, fails),
    (28, 2, row), (30, 2, col)])

/-- CHK_PYR_CTL: go queues a run with the fields of the register. -/
def pyrCtl : RegEffect :=
  { RegEffect.plain with
    act := fun s _ _ acted =>
      let p := s.fld rChkPyrCtl 28 24
      if acted.testBit 31 ∧ p < 18 then
        s.queuePyrite ⟨p, if s.flag rChkPyrCtl 30 then some (s.fld rChkPyrCtl 23 20) else none, s.fld rChkPyrCtl 19 16, s.fld rChkPyrCtl 15 0, false⟩
      else s }

/-- A write of CHK_PYR_CTL. -/
def execPyriteQueue (req : Requester) (v : Word) (s : State) : Out := .next (s.regWrite req rChkPyrCtl v.toNat pyrCtl)

/-- The strip of a run as the events show it, and its configuration. -/
def PyrRun.shown (r : PyrRun) : Nat × Nat := match r.strip with | some i => (i, 1) | none => (0xFF, 0)

/-- R366, R457: the strips of an array under test are on, those outside the strip under test off; latched and retired domains keep their
state. -/
def State.testStrips (s : State) (r : PyrRun) : State :=
  let s := s.wake r.array
  (List.range 16).foldl (fun s i =>
    let d := 16 * r.array + i
    if 4 ≤ s.dom d then s else s.setDom d (if r.strip = none ∨ r.strip = some i then 2 else 0)) s

/-- R365, R366: the first queued run whose array backs no logical array starts, unless a run is in progress. sigOk: the signature of the
set verifies; a set that does not, or whose version is below the floor, is refused. -/
def execPyriteRunStart (sigOk : Bool) (s : State) : Out :=
  .next (
    if s.integ.pyr.any PyrRun.running then s
    else match s.integ.pyr.find? (fun r => (s.logOf r.array).isNone && !s.isPartner r.array) with
      | none => s
      | some r =>
        let version := s.fld rChkPyrVersion 15 0
        if !sigOk ∨ version < s.fld rChkPyrVersion 31 16 then
          let s := { s with integ := { s.integ with pyr := removeFirst (fun x => x == r) s.integ.pyr } }.showPyr
          ((s.setFld rChkPyrStatus 31 30 3).setFld rChkPyrStatus 29 28 3).testEvent 0x10 0 3 r.array r.shown.1 r.shown.2 version 0 0 0
        else
          let run : PyrRun := { r with running := true }
          let s := { s with integ := { s.integ with pyr := run :: removeFirst (fun x => x == r) s.integ.pyr } }.showPyr
          (s.setFld rChkPyrStatus 31 30 2).testStrips r)

/-- R501: run the repair command of BRP_REP_CMD. It waits while a Pyrite run holds its array. -/
def State.repairEnd (s : State) (result : Nat) : State :=
  let s := (s.setFld rBrpRepStatus 31 30 3).setFld rBrpRepStatus 29 28 result
  { s with brp := { s.brp with repair := false } }

/-- R501: a map command takes effect at once and is recorded. -/
def State.repairMap (s : State) (cmd p : Nat) (target : List Nat) : State :=
  let seq := s.logNext
  let s := (s.logAdd cmd 4 0 target).applyRepair cmd target
  (s.brpEvent 0xA3 1 (brpPayload cmd 0 (srcOf 1 p) (nth 0 target 1 + 256 * nth 0 target 2) seq 0xFF p)).repairEnd 0

/-- R501: the skip columns of BRP_REP_ARG2, which has no room for bits 35:32 of the field of kind 0x01: these are a free value. -/
def State.argSkips (s : State) : Nat := (s.reg (rBrpRepArg 2)).toNat + s.free % 16 * 2 ^ 32

/-- R501: the array of a repair command: ARG0, or ARG0 / 16 for a row map, whose ARG0 names a strip. -/
def State.repairArray (s : State) (cmd : Nat) : Nat :=
  if cmd = 2 then (s.reg (rBrpRepArg 0)).toNat / 16 else (s.reg (rBrpRepArg 0)).toNat

/-- R501: run the command of BRP_REP_CMD: it waits while a Pyrite run holds its array. -/
def State.repairRun (s : State) : State :=
  let cmd := s.fld rBrpRepCmd 27 24
  let a0 := (s.reg (rBrpRepArg 0)).toNat
  let a1 := (s.reg (rBrpRepArg 1)).toNat
  let p := s.repairArray cmd
  if cmd = 4 then (s.logAdd 0x0E 4 0 ([0, 0, 0, 0] ++ le32 a1)).repairEnd 0
  else if cmd = 5 then
    if 24 ≤ a0 ∨ s.flag rPwrMod a0 ∨ s.brp.module.isSome then s.repairEnd 2
    else
      let s := (s.setFld rBrpRepStatus 31 30 2).setFld rBrpRepStatus 29 28 0
      { s with brp := { s.brp with module := some a0, repair := false } }
  else if 1 ≤ cmd ∧ cmd ≤ 3 ∧ p < 18 ∧ s.integ.pyr.any (fun r => r.running && r.array == p) then
    let s := (s.setFld rBrpRepStatus 31 30 1).setFld rBrpRepStatus 29 28 0
    { s with brp := { s.brp with repair := true } }
  else if cmd = 0 ∨ 3 < cmd ∨ 18 ≤ p ∨ (s.logOf p).isSome then s.repairEnd 2
  else if cmd = 1 then
    if 273 ≤ a1 ∨ !skipsOk s.argSkips then s.drawn.repairEnd 2 else (s.repairMap 1 p (shiftTarget p a1 s.argSkips)).drawn
  else if cmd = 2 then
    if 17 ≤ a1 then s.repairEnd 2 else s.repairMap 2 p [p, a0 % 16, a1]
  else (s.retireArray p 4 0).repairEnd 0

/-- BRP_REP_CMD: go runs the command. -/
def repCmd : RegEffect :=
  { RegEffect.plain with act := fun s _ _ acted => if acted.testBit 31 then s.repairRun else s }

/-- R501 command 1: the skip columns of a row. -/
def execRepairSetShiftMap (req : Requester) (v : Word) (s : State) : Out := .next (s.regWrite req rBrpRepCmd v.toNat repCmd)

/-- R501 command 2: the skipped row of a strip. -/
def execRepairSetRowMap (req : Requester) (v : Word) (s : State) : Out := .next (s.regWrite req rBrpRepCmd v.toNat repCmd)

/-- R501 command 3: an array is retired. -/
def execRepairRetireArray (req : Requester) (v : Word) (s : State) : Out := .next (s.regWrite req rBrpRepCmd v.toNat repCmd)

/-- R501 command 4: an entry is revoked. -/
def execRepairRevoke (req : Requester) (v : Word) (s : State) : Out := .next (s.regWrite req rBrpRepCmd v.toNat repCmd)

/-- R501 command 5: an isolated module is tested. -/
def execRepairTestModule (req : Requester) (v : Word) (s : State) : Out := .next (s.regWrite req rBrpRepCmd v.toNat repCmd)

/-- R501: the self-test of a module ends. A pass revokes the isolation and returns the module to service. -/
def execModuleTestComplete (pass : Bool) (s : State) : Out :=
  .next (match s.brp.module with
    | none => s
    | some m =>
      let s := ({ s with brp := { s.brp with module := none } }).repairEnd (if pass then 0 else 1)
      if !pass then s
      else
        let es := (inForce s.brp.log).filter (fun e => e.kind == 0x0B && nth 0 e.target 0 == m)
        let s := es.foldl (fun s e => s.logAdd 0x0E 4 0 ([0, 0, 0, 0] ++ le32 e.seq)) s
        ((s.setFlag rPwrMod m true).setFld rPwrStatus 19 15 (s.fld rPwrStatus 19 15 - 1)).capUpdate)

/-- R367: an array that passed: its strikes and witness-path faults are cleared and it becomes a free spare; a retired array stays
retired. -/
def State.pyrPass (s : State) (p : Nat) : State :=
  if s.fld (rChkArray p) 31 30 = 3 then s
  else
    let s := { s with integ := { s.integ with strikes := tblDel s.integ.strikes p, wpaths := tblDel s.integ.wpaths p, want := tblDel s.integ.want p } }
    (((s.setFld (rChkArray p) 31 30 0).setFld (rChkArray p) 23 16 0).setFld (rChkArray p) 7 0 0).setFlag (rChkArray p) 28 false

/-- R366: after a strip run the other strips of the array are powered again, unless it stays out of service. -/
def State.stripsOn (s : State) (p : Nat) : State :=
  if 2 ≤ s.fld (rChkArray p) 31 30 then s.stripsOff p
  else (List.range 16).foldl (fun s i => if s.dom (16 * p + i) = 0 then s.setDom (16 * p + i) 2 else s) s

/-- R367: the run in progress ends: result 0 pass, 1 repaired, 2 fail, with the number of failing positions, the first of them,
and the soft repairs made (row shift maps and strip row maps as repair-log targets). A repair command that waited runs. -/
def execPyriteRunEnd (result : Fin 3) (fails row col : Nat) (repairs : List (Nat × List Nat)) (s : State) : Out :=
  .next (match s.integ.pyr.find? PyrRun.running with
    | none => s
    | some r =>
      let p := r.array
      let s := { s with integ := { s.integ with pyr := s.integ.pyr.filter (fun x => !x.running) } }.showPyr
      let made := if result.val = 0 then [] else repairs.filter (fun x => (x.1 == 1 || x.1 == 2) && nth 18 x.2 0 == p && repairOk x.1 x.2)
      let s := made.foldl (fun s (x : Nat × List Nat) =>
        let seq := s.logNext
        ((s.logAdd x.1 2 0 x.2).applyRepair x.1 x.2).brpEvent 0xA3 1 (brpPayload x.1 0 (srcOf 1 p) (nth 0 x.2 1 + 256 * nth 0 x.2 2) seq 0xFF p)) s
      let s := if result.val = 2 then s.retireArray p 2 0 else s.pyrPass p
      let s := (s.stripsOn p).showSpares
      let s := (((s.setFld rChkPyrStatus 31 30 3).setFld rChkPyrStatus 29 28 result.val).setFld rChkPyrStatus 15 0 (Nat.min 65535 fails))
      let s := (s.setFld rChkPyrFail 24 16 row).setFld rChkPyrFail 8 0 col
      let s := s.lifeCount (503 + result.val) 1
      let ev (s : State) (code sev : Nat) : State :=
        s.testEvent code sev result.val p r.shown.1 r.shown.2 (s.fld rChkPyrVersion 15 0) fails row col
      let s := ev s 0x0D 0
      let s := if result.val = 0 then s else ev s 0x0E 1
      if s.brp.repair then s.repairRun else s)

/-- R533: the version of the known-answer kernels of the running firmware. -/
def State.kakVersion (s : State) : Nat := s.compVersion (if s.fld rMgtStatus 31 28 = 3 then 1 else 0) 5

/-- CHK_KAK_CTL: go starts the kernels; it is refused while a partition exists or the kernels run; kernels whose signature does not verify
are refused as a Pyrite set is. -/
def kakCtl (sigOk : Bool) : RegEffect :=
  { RegEffect.plain with
    veto := fun s _ _ acted =>
      if acted.testBit 31 && (s.integ.kak.isSome || (List.range 16).any (fun q => s.flag (rDspPartCtl q) 31)) then some 4 else none
    act := fun s _ _ acted =>
      if !acted.testBit 31 then s
      else if sigOk then
        let s := { s with integ := { s.integ with kak := some (s.fld rChkKakCtl 7 0) } }.lifeCount 506 1
        (s.setFld rChkKakStatus 31 30 2).setFld rChkKakStatus 29 28 0
      else ((s.setFld rChkKakStatus 31 30 3).setFld rChkKakStatus 29 28 3).testEvent 0x10 0 3 0xFF 0xFF 2 s.kakVersion 0 0 0 }

/-- A write of CHK_KAK_CTL. -/
def execKnownAnswerStart (req : Requester) (v : Word) (sigOk : Bool) (s : State) : Out :=
  .next (s.regWrite req rChkKakCtl v.toNat (kakCtl sigOk))

/-- R368: the kernels finish: a mismatch names the kernel and the logical array of the first tile that differs, and makes the array that
backs it suspect. -/
def execKnownAnswerComplete (mismatch : Option (Fin 256 × Fin 16)) (s : State) : Out :=
  .next (
    if s.integ.kak.isNone then s
    else
      let s := { s with integ := { s.integ with kak := none } }.setFld rChkKakStatus 31 30 3
      match mismatch with
      | none => s.setFld rChkKakStatus 29 28 0
      | some (k, n) =>
        let s := (((s.setFld rChkKakStatus 29 28 1).setFld rChkKakStatus 23 16 k.val).setFld rChkKakStatus 3 0 n.val).lifeCount 507 1
        let s := s.testEvent 0x0F 1 2 n.val 0xFF 2 s.kakVersion k.val 0 0
        match s.physOf n.val with
        | some p => s.suspect p
        | none => s)

/-- R498: a lane of a seam bundle has counted errs parity errors in 1 s. -/
def execSeamLaneMonitor (seg : Fin 12) (bundle group : BitVec 8) (lane : Fin 33) (errs : Nat) (link : Option (Fin 54)) (s : State) : Out :=
  .next (
    let x : SeamLane := ⟨seg, bundle, group, lane, link⟩
    let r := rBrpSeam x.seg.val
    let loc := x.seg.val + 256 * x.bundle.toNat
    if errs ≤ 16 then s
    else if !s.brp.seamSpares.contains (seamKey x) then
      let seq := s.logNext
      let s := ((s.logAdd 0x05 6 0 (seamTarget x)).applyRepair 0x05 (seamTarget x)).lifeCount (812 + x.seg.val) 1
      s.brpEvent 0xAC 1 (brpPayload 0 0 0xFFFF loc seq 0xFF 0xFF)
    else
      let s := s.setFld r 23 16 (Nat.min 255 (s.fld r 23 16 + 1))
      match x.link with
      | some k =>
        let s := (s.setFlag r 0 true).retireLink k.val
        s.brpEvent 0xAC 1 (brpPayload 0 1 0xFFFF loc 0 0xFF 0xFF)
      | none => (s.brpEvent 0xAC 3 (brpPayload 0 1 0xFFFF loc 0 0xFF 0xFF)).autoReset)

/-- R499: a bus has delivered 16 consecutive bad transfers to a field: it is retired for that field. -/
def execMgmtBusRetire (bus : Fin 2) (field : Fin 9) (s : State) : Out :=
  .next (
    let bit (b : Nat) : Nat := 9 * b + field.val
    if s.flag rBrpMgb (bit bus.val) then s
    else
      let seq := s.logNext
      let s := (s.setFlag rBrpMgb (bit bus.val) true).logAdd 0x10 6 0 [bus.val, field.val]
      s.brpEvent 0xA9 (if s.flag rBrpMgb (bit (1 - bus.val)) then 3 else 1) (brpPayload 0 0 (srcOf 4 field.val) bus.val seq 0xFF 0xFF))

/-- R500: a heartbeat of the primary dispatcher. -/
def execDispatcherHeartbeat (t : DWord) (s : State) : Out :=
  .next (
    let s := s.clock t
    { s with brp := { s.brp with beat := s.now.toNat } })

/-- R500, R511: the standby takes over: the primary has reported an error, or sent no heartbeat for 10 µs. The mirrored dispatch state is
the primary's, so switches go on from what is saved; a remap starts again from step 1 on the same spare. -/
def execDispatcherFailover (reported : Bool) (t : DWord) (s : State) : Out :=
  .next (
    let s := s.clock t
    if !s.flag rBrpDsp 30 ∨ s.flag rBrpDsp 31 ∨ !(reported || decide (s.brp.beat + 640000 ≤ s.now.toNat)) then s
    else
      let s := ((s.setFlag rBrpDsp 31 true).setFlag rBrpDsp 30 false).setFlag rBrpStatus 18 true
      let s := s.setFld rBrpDsp 15 0 (satAdd 16 (s.fld rBrpDsp 15 0) 1)
      let s := s.brp.remaps.foldl (fun s r => s.arrayGen r.dst) s
      (s.postDev 0x0C 0xA8 1 (srcOf 8 1) (brpPayload 0 0 (srcOf 8 0) 0 0 0xFF 0xFF)).dispatch)

/-- R506: the context that owns a node: of an array's units the resident one, of a ring fetch its own. -/
def State.nodeCtx (s : State) (node : Nat) : Option Nat :=
  let kind := bitsOf node 31 24
  let i := bitsOf node 15 0
  if kind = 11 then some i
  else if [1, 2, 3, 4, 5, 7, 12].contains kind then s.residentAt i
  else none

/-- R507: whether two samples of a cycle hold the same nodes, none of which has made progress between them. -/
def sameCycle (a b : List (Nat × Nat)) : Bool := a.all b.contains && b.all a.contains

/-- R512: the payload of a hang event. -/
def hangPayload (cycle : List (Nat × Nat)) (limit : Nat) : Nat :=
  payloadOf ([(16, 1, Nat.min 255 cycle.length), (17, 1, if cycle.isEmpty then 0 else 3), (52, 4, limit)]
    ++ (List.range 8).map (fun i => (20 + 4 * i, 4, (nth (0, 0) cycle i).1)))

/-- R508: a hang is declared. -/
def State.declareHang (s : State) (cycle : List (Nat × Nat)) : State :=
  let s := ({ s with brp := { s.brp with declared := s.brp.declared ++ [cycle] } }).bump rBrpHangCnt 1
  let ctxs := (cycle.filterMap (fun n => s.nodeCtx n.1)).eraseDups
  if ctxs = [] then
    ((s.postDev 0x0A 0x03 3 (srcOf 7 0) (hangPayload cycle 0)).setFlag rBrpStatus 19 true).autoReset
  else ctxs.foldl (fun s c =>
    let s := s.post (some c) true 0x0A 0x01 2 (srcOf 7 0) (hangPayload cycle 0)
    if s.flag rBrpHangCtl 0 then s.ctxFault c 0x0A 0x01 else s) s

/-- R506, R507: a sample of the wait-for graph: its cycles, each a list of node descriptors with their progress counters. A cycle that
two earlier samples in a row hold as well, with no progress, is a hang, once. -/
def execHangSample (cycles : List (List (Nat × Nat))) (s : State) : Out :=
  .next (
    let before := s.brp.hang
    let old (c : List (Nat × Nat)) : Bool := s.brp.declared.any (fun d => c.any d.contains)
    let hung := cycles.filter (fun c => decide (2 ≤ before.length) && before.all (fun l => l.any (sameCycle c)) && !old c)
    let s := { s with brp := { s.brp with hang := (cycles :: before).take 2 } }
    hung.foldl State.declareHang s)

/-- R509: a resident context has made no progress for limit_ms. -/
def execWatchdogExpiry (c : CtxId) (s : State) : Out :=
  .next (
    let c := c.val
    let limit := s.fld (rBrpWdog c) 15 0
    if limit = 0 ∨ s.resident (s.ctxPart c) ≠ some c then s
    else
      let s := (s.bump rBrpWdogCnt 1).postCtx c 0x0A 0x02 2 (srcOf 7 0) (hangPayload [] limit)
      if s.flag (rBrpWdog c) 31 then s.ctxFault c 0x0A 0x02 else s)

end Sys2Proof.Machine
end

