-- ==== Sys2Proof/Machine/RegViews.lean ====
section
/-!
DEFINITION. The registers that report state held elsewhere: their live values (00_scope R8; 03_array_mode R123; 05_vector_engine R188;
06_control_isa R231; 07_memory R277; 09_sync_time R340, R341; 10_integrity R372 to R374; 11_contexts R404, R405; 14_bringup_repair R514,
R515; 15_management R547).
-/
namespace Sys2Proof.Machine

/-- Put values into bit positions: (lowest bit, value). -/
def fieldsOf (l : List (Nat × Nat)) : Nat := l.foldl (fun a f => a ||| (f.2 <<< f.1)) 0

/-- R123: ARY_STATUS. The cause of a stall in the current cycle is timing: a free value while the grid has work, 7 under the hard brake.
mode reads 3 while anything holds the array's clock, a Flint halt, the hard brake or another gating (notes/assumptions/110). -/
def State.viewAryStatus (s : State) (p : Nat) : Nat :=
  let a := s.arr p
  let loading := match a.feed with
    | some e => (match e.op with | .load sh .. => sh | .unpark .. => true | _ => false)
    | none => false
  let swap := match a.aq with | e :: _ => e.op == .swap | [] => false
  let mode := if !a.runs then 3 else if a.run.running then 2 else if a.streams || !a.aq.isEmpty then 1 else 0
  let stall := if a.brake then 7 else if a.streams || !a.aq.isEmpty || a.feed.isSome then s.free % 7 else 0
  fieldsOf [(16, (match a.active with | some b => b.ctx | none => 0)), (15, b2n a.active.isSome), (14, b2n a.shadow.isSome), (13, b2n loading),
    (12, b2n swap), (11, b2n a.brake), (10, b2n a.stripClocked), (8, b2n (s.fld (rChkArray p) 31 30 == 2)), (4, stall), (0, mode)]

/-- R123: ARY_TILE_STATUS of a slot. How many rows a streaming tile has streamed so far is timing: a free value up to its rows. -/
def State.viewTile (s : State) (p j : Nat) : Nat :=
  let a := s.arr p
  let t := a.tile j
  let rows := if t.state = 1 then s.free % (t.rows + 1) else t.rows
  fieldsOf [(23, t.ctx), (20, t.state), (19, b2n t.transposed), (18, b2n t.gangK), (17, b2n (!a.depsDone t)), (16, b2n t.witFail),
    (15, b2n t.flags.special), (14, b2n t.flags.overflow), (13, b2n t.flags.inexact), (0, rows % 8192)]

/-- R123, R189: ARY_GANG mirrors the gang configuration in effect. -/
def State.viewGang (s : State) (p : Nat) : Nat :=
  let g := (s.arr p).ctrl.gangNow
  fieldsOf [(24, g.stagger % 256), (16, g.split % 4), (8, s.gangRank p g % 16), (0, g.log2 % 8)]

/-- R155: ARY_CM_STATUS; active counts the cores of the current run that have not halted. -/
def State.viewCm (s : State) (p : Nat) : Nat :=
  let n := match (s.arr p).run.running, s.logOf p with
    | true, some n => (s.cores.filter (fun e => e.1 / 65536 == n && (e.2.status == 1 || e.2.status == 4))).length
    | _, _ => 0
  setBits (s.reg (rAryCmStatus p)).toNat 16 0 n

/-- R188: ARY_VE_STATUS; last_end is kept in the register, the cause of a stall of a running chain is a free value. -/
def State.viewVe (s : State) (p : Nat) : Nat :=
  let v := (s.arr p).vec
  let op := v.running.bind (fun r => match r.entry.op with | .chain op => some op | _ => none)
  let att := match v.running with | some r => r.attached.isSome | none => false
  let cur := match v.running with | some r => r.entry.seq | none => v.lastSeq
  let held := v.pendingSeq.any (fun x => x.2.entry.seq == cur)
  fieldsOf [(31, b2n v.running.isSome), (30, b2n v.frozen), (27, s.fld (rAryVeStatus p) 29 27), (22, Nat.min 31 (s.arr p).vq.length),
    (21, b2n att), (20, b2n held), (18, (match op with | some o => bitsOf o.hdr 5 4 | none => 0)), (4, if v.running.isSome then s.free % 7 else 0),
    (0, (match op with | some o => o.stages.length % 16 | none => 0))]

/-- R231: the cause for which a controller waits. A translation fault of a fetch is cause 6, of a data access cause 7. -/
def stallCauseOf : Blocked → Nat
  | .no => 0
  | .wait .. => 5
  | .untilTime _ => 5
  | .fence _ => 4
  | .commit _ => 4
  | .loadData .. => 7
  | .record _ => 7
  | .closing _ => 4
  | .stall c => c

/-- R225, R231: the cause for which the instruction at the program counter could not enter a queue or the store buffer, while it stands. -/
def State.queueStall (s : State) (p : Nat) : Nat :=
  let a := s.arr p
  match a.ctrl.stallQ with
  | 0 => 0
  | 7 => if s.storesDone p then 0 else 7
  | q + 1 => if queueBound q ≤ (a.queue q).length then q + 1 else 0

/-- R231: ARY_AC_STATUS. -/
def State.viewAc (s : State) (p : Nat) : Nat :=
  let c := (s.arr p).ctrl
  let stall := if c.blocked = .no then s.queueStall p else stallCauseOf c.blocked
  fieldsOf [(30, c.state % 4), (26, stall % 16), (25, b2n c.launch.isSome), (16, c.ctx % 512), (0, c.gen % 256)]

/-- R374: ARY_CHK_STATUS: replays that name the array as partner; those that do not stream wait. -/
def State.viewChkAry (s : State) (p : Nat) : Nat :=
  let rs := (List.range 18).flatMap (fun q => (s.arr q).tiles.filterMap (fun t => match t.replay with
    | some r => if r.partner = some p ∧ !r.done then some (t.ctx, r.streaming)
        else if r.third = some p then some (t.ctx, r.thirdStreaming) else none
    | none => none))
  fieldsOf [(31, b2n (!rs.isEmpty)), (30, b2n (rs.any Prod.snd)), (28, Nat.min 3 (rs.filter (fun r => !r.2)).length),
    (0, (match rs with | r :: _ => r.1 | [] => 0))]

/-- R372: CHK_CTX_STATUS: the stored fields, with held, replaying and the effective level. -/
def State.viewChkCtx (s : State) (c : Nat) : Nat :=
  let ts := (List.range 18).flatMap (fun p => (s.arr p).tiles.filter (fun t => t.ctx == c && t.state != 0))
  let held := (ts.filter (fun t => t.state == 4 && t.unresolved)).length
  let rep := (ts.filter (fun t => t.replay.isSome)).length
  let level := ((s.ctxArrays c).filter (fun p => s.residentAt p == some c)).foldl (fun m p => Nat.max m (s.arr p).ctrl.chkLevel)
    (Nat.max (s.fld (rChkCtxCtl c) 1 0) (s.fld (rChkCtxCtl c) 30 29))
  setBits (setBits (setBits (s.reg (rChkCtxStatus c)).toNat 23 16 held) 15 8 rep) 1 0 level

/-- R492: the strip of a physical row and the logical row it holds, if any. -/
def State.logicalRow (s : State) (p row : Nat) : Option Nat :=
  if 272 ≤ row then none
  else
    let k := s.kOf p (row / 17)
    let x := row % 17
    if x = k then none else some (16 * (row / 17) + (if x < k then x else x - 1))

/-- R493: the logical column of a physical one, if it holds one. -/
def State.logicalCol (s : State) (p row col : Nat) : Option Nat :=
  let skips := s.skipsOf p row
  if 260 ≤ col ∨ skips.contains col then none else some (col - (skips.filter (fun c => decide (c < col))).length)

/-- R514: BRP_REP_ROW. -/
def State.viewRepRow (s : State) : Nat :=
  let p := s.fld rBrpRepSel 4 0
  let row := s.fld rBrpRepSel 26 18
  if row = 272 then fieldsOf [(27, 0x1F), (18, 0x1FF), (17, 1)]
  else if 272 < row ∨ 18 ≤ p then 0
  else
    let k := s.kOf p (row / 17)
    fieldsOf [(27, k), (18, (s.logicalRow p row).getD 0x1FF), (16, b2n (k == 16 && row % 17 == 16))]

/-- R514: BRP_REP_SKIP. -/
def State.viewRepSkip (s : State) : Nat :=
  let k := s.skipsOf (s.fld rBrpRepSel 4 0) (s.fld rBrpRepSel 26 18)
  fieldsOf [(0, nth 0 k 0), (9, nth 0 k 1), (18, nth 0 k 2), (32, nth 0 k 3)]

/-- R515: the selected item of a halted unit; none: the unit runs, or there is no such item. -/
def State.debugWord (s : State) : Option Nat :=
  let v := (s.reg rBrpDbgSel).toNat
  let p := bitsOf v 31 27
  let row := bitsOf v 26 18
  let col := bitsOf v 17 9
  let item := bitsOf v 8 0
  let a := s.arr p
  if 18 ≤ p then none
  else if row = 0x1FF ∧ col = 0x1FF then
    if a.ctrl.state = 1 ∧ a.runs then none
    else if item < 0x40 then
      let r := if item / 2 = 0 then 0 else (tblGet 0#64 a.ctrl.sregs (item / 2)).toNat
      some (if item % 2 = 0 then r % 2 ^ 32 else r / 2 ^ 32)
    else if item = 0x40 then some (a.ctrl.preds.toNat ||| 1)
    else if item = 0x41 then some (a.ctrl.pc.toNat % 2 ^ 32)
    else if item = 0x42 then some (a.ctrl.pc.toNat / 2 ^ 32)
    else none
  else if 0x100 ≤ item then none
  else match s.logicalRow p row, s.logicalCol p row col with
    | some r, some c =>
      match s.logOf p with
      | some n =>
        let k := s.core (65536 * n + 256 * r + c)
        if k.status = 1 ∧ a.runs then none else some ((k.savedWord item).getD (s.free % 2 ^ 32))
      | none => some (s.free % 2 ^ 32)
    | _, _ => none

/-- R468: PWR_PROF_DATA. -/
def State.viewProf (s : State) : Nat :=
  match (s.ctx (s.fld rPwrProfSel 24 16)).profiles[s.fld rPwrProfSel 5 0]? with
  | some e => fieldsOf [(23, e.key % 512), (19, e.count % 16), (8, e.droop % 256), (0, e.ratio % 256)]
  | none => 0

/-- R488: a word of a report record. -/
def State.viewReport (s : State) : Nat := leAt (tblGet [] s.brp.reports (s.fld rBrpRptSel 11 8)) (4 * s.fld rBrpRptSel 5 0) 4

/-- R490: a word of an entry of the repair log. -/
def State.viewLog (s : State) (i : Nat) : Nat :=
  match s.brp.log[s.fld rBrpLogSel 16 0]? with
  | some e => leAt e.bytes (4 * i) 4
  | none => 0

/-- R340: the Quartz time of island 22. -/
def State.qtzNow (s : State) : Nat := (s.now + BitVec.ofInt 64 ((s.island 22).offset * 64 / 1000)).toNat

/-- R536, R547: milliseconds left of the confirmation window. -/
def State.trialMs (s : State) : Nat :=
  match s.mgt.trialFrom with
  | some t => (t + 600000 * 64000000 - s.now.toNat) / 64000000
  | none => 0

/-- Pairs that report state held elsewhere, by the offset of their first _LO and the index of the element. -/
def State.pairView (s : State) (lo i : Nat) : Option Nat :=
  if lo = rQtzNow ∨ lo = rCpNow 0 then some s.qtzNow
  else if lo = rCpEnergy 0 then some (s.reg64 (rDspCtxEnergy i))
  else if lo = rCpSrkey 0 then some (s.reg64 (rDspCtxSrkey i))
  else if lo = rAryAcPc 0 then some (s.arr i).ctrl.pc.toNat
  else if lo = rAryWinOpen 0 then some (packBits 64 (fun w => (s.window i w).isOpen))
  else if lo = rArySyncNz 0 then some (packBits 64 (fun k => (s.arr i).ctr k != 0))
  else if lo = rAryWdig 0 then some (s.arr i).ctrl.wdig
  else if lo = rAryStall 0 0 then some (if (s.arr i).usedGrid then s.free else 0)
  else if lo = rAryAcStall 0 0 then some (if (s.arr i).usedCtrl then s.free else 0)
  else if lo = rAryVeStall 0 then some (if (s.arr i).usedVec then s.free else 0)
  else if lo = rBrpRepSkip then some s.viewRepSkip
  else none

/-- R290, R341: whether any core counter of an array is not zero. -/
def State.coreNz (s : State) (p : Nat) : Bool :=
  match s.logOf p with
  | some n => s.cores.any (fun (e : Nat × CoreState) => e.1 / 65536 == n && e.2.counters.any (fun k => k.2 != 0#16))
  | none => false

/-- Registers of 32 bits that report state held elsewhere, by their first offset and the indices of the element. -/
def State.wordView (s : State) (base i j off : Nat) : Nat :=
  let v := (s.reg off).toNat
  if base = rAryStatus 0 then s.viewAryStatus i
  else if base = rAryTileStatus 0 0 then s.viewTile i j
  else if base = rAryTileOsn 0 0 then ((s.arr i).tile j).osn
  else if base = rAryVeStatus 0 then s.viewVe i
  else if base = rAryAcStatus 0 then s.viewAc i
  else if base = rAryGang 0 then s.viewGang i
  else if base = rAryCmStatus 0 then s.viewCm i
  else if base = rAryAcQueues 0 then fieldsOf [(16, (s.arr i).dq.length % 64), (8, (s.arr i).vq.length % 32), (0, (s.arr i).aq.length % 64)]
  else if base = rArySyncCoreNz 0 then b2n (s.coreNz i)
  else if base = rAryClkStatus 0 then setBits v 7 0 (s.arr i).targetCode
  else if base = rAryChkStatus 0 then s.viewChkAry i
  else if base = rChkCtxStatus 0 then s.viewChkCtx i
  else if base = rChkArray 0 then setBits v 27 27 (b2n (s.freeSpare i))
  else if base = rCpStatus 0 then setBits (setBits v 31 28 (s.ctxState i)) 23 16 (s.ctxGen i)
  else if base = rDspStatus then
    fieldsOf [(31, b2n (s.flag rBrpDsp 31)), (0, ((List.range 512).filter (fun c => s.flag (rDspCtxCtl c) 30)).length)]
  else if base = rPwrProfData then s.viewProf
  else if base = rHstNpOut 0 then (if (s.hport i).trained then fieldsOf [(16, s.free % 4097), (0, s.free / 8192 % 4097)] else 0)
  else if base = rBrpRptData then s.viewReport
  else if base = rBrpLogData 0 then s.viewLog i
  else if base = rBrpRepRow then s.viewRepRow
  else if base = rBrpDbgData then (s.debugWord).getD 0
  else if base = rMgtLease then setBits v 15 0 s.leaseMs
  else if base = rMgtFwTrialMs then s.trialMs
  else if base = rMgtLtData then s.lifeWord (s.fld rMgtLtSel 31 31) (s.fld rMgtLtSel 21 0)
  else if base = rMgtFuseData then (tblGet 0#32 s.fuses.words (s.fld rMgtFuseSel 11 0)).toNat
  else v

/-- The indices of an offset in a register's repeats. -/
def dimIx : List (Nat × Nat) → Nat → Nat × Nat
  | [], _ => (0, 0)
  | [(_, st)], r => (r / st, 0)
  | (_, st) :: (_, st2) :: _, r => (r / st, r % st / st2)

/-- R8: the live value of the register at an offset; 0 where no register lies. -/
def State.live (s : State) (off : Nat) : Nat :=
  match findReg off with
  | none => 0
  | some r =>
    let (i, j) := dimIx r.dims (off - r.base)
    match s.pairView (if r.half = .high then r.base - 4 else r.base) i with
    | some v => if r.half = .high then v / 2 ^ 32 % 2 ^ 32 else v % 2 ^ 32
    | none => s.wordView r.base i j off

/-- Whether a read of a register takes a free value: counts of cycles, stall causes, requests outstanding. -/
def drawsFree (base : Nat) : Bool :=
  [rAryStall 0 0, rAryStall 0 0 + 4, rAryAcStall 0 0, rAryAcStall 0 0 + 4, rAryVeStall 0, rAryVeStall 0 + 4, rAryStatus 0, rAryTileStatus 0 0, rAryVeStatus 0, rHstNpOut 0,
    rBrpDbgData].contains base

/-- R13, R530, R547: the value that a requester sees: claim registers are each requester's own, MGT_FUSE_DATA is the owner's only. -/
def State.liveFor (s : State) (req : Requester) (off : Nat) : Nat :=
  let k := reqCode req
  if off = rMgtClaimId then tblGet 0 s.mgt.claimId k % 2 ^ 32
  else if off = rMgtClaimId + 4 then tblGet 0 s.mgt.claimId k / 2 ^ 32
  else if off = rMgtClaimNode then tblGet 0 s.mgt.claimNode k
  else if off = rMgtClaimCtl then fieldsOf [(8, tblGet 0 s.mgt.claimPrio k % 256), (0, tblGet 0 s.mgt.claimResult k % 4)]
  else if off = rMgtFuseData ∧ !s.isOwner req then 0
  else s.live off

end Sys2Proof.Machine
end

