-- ==== Sys2Proof/Machine/RegFile.lean ====
section
/-!
DEFINITION. Register accesses (00_scope R7 to R14): which effect each register has, reads and writes of 32 and 64 bits, the host's
inbound requests (12_host_fabric R413), the management commands (15_management R522), and MMU_INV and MMU_FAULT_RESUME (07_memory R263,
R265).
-/
namespace Sys2Proof.Machine

/-- A register whose values outside a range read back as another. -/
def keepReg (f : Nat → Nat) : RegEffect := { RegEffect.plain with keep := fun _ v => (f v, none) }

/-- A field that must lie in a range reads back as d otherwise. -/
def clampFld (hi lo least most d v : Nat) : Nat :=
  let x := bitsOf v hi lo
  if least ≤ x ∧ x ≤ most then v else setBits v hi lo d

/-- R263: MMU_INV: go while an invalidation is in progress is dropped. -/
def mmuInvReg : RegEffect :=
  { RegEffect.plain with
    veto := fun s _ _ acted => if acted.testBit 31 && s.flag rMmuInvStatus 0 then some 4 else none
    act := fun s _ _ acted => if acted.testBit 31 then s.mmuInv acted else s }

/-- R265: MMU_FAULT_RESUME: retry, or abort. -/
def resumeReg : RegEffect :=
  { RegEffect.plain with
    veto := fun s req _ _ => if s.isOwner req then none else some 2
    act := fun s _ _ acted => if acted.testBit 31 then s.resumeRetry (bitsOf acted 8 0) else s.resumeAbort (bitsOf acted 8 0) }

/-- R242: MMU_ALLOC registers stay while their context is resident on an array. -/
def allocReg (c : Nat) : RegEffect :=
  { RegEffect.plain with veto := fun s _ _ _ => if (List.range 18).any (fun p => s.residentAt p == some c) then some 4 else none }

/-- R403, R377: DSP_CTX_RING: entry counts other than 2^6 to 2^16 read back as 2^6. -/
def ringReg (c : Nat) : RegEffect := { bindingReg c with keep := fun _ v => (clampFld 4 0 6 16 6 v, none) }

/-- R405: CP_SRKEY is DSP_CTX_SRKEY. -/
def pairHome (off : Nat) : Nat :=
  if rCpSrkey 0 ≤ off ∧ (off - rCpSrkey 0) % 0x10000 = 0 ∧ (off - rCpSrkey 0) / 0x10000 < 512 then rDspCtxSrkey ((off - rCpSrkey 0) / 0x10000) else off

/-- The effects of the registers of contexts and arrays, by the first offset of their line and the index of the element. -/
def ctxEffect (base i : Nat) : Option RegEffect :=
  if base = rDspCtxCtl 0 then some (ctxCtl i)
  else if base = rDspCtxRing 0 then some (ringReg i)
  else if [rDspCtxEvt 0, rDspCtxSave 0, rDspCtxFunc 0].contains base then some (bindingReg i)
  else if base = rDspCtxBw 0 then some (keepReg (fun v => clampFld 31 24 1 255 1 (clampFld 23 16 1 255 1 (clampFld 15 8 1 255 1 v))))
  else if base = rDspCtxBwmin 0 then some (bwMinReg i)
  else if base = rChkCtxCtl 0 then some (keepReg (clampFld 19 16 1 8 2))
  else if base = rChkCtxRing 0 then some (chkRingReg i)
  else if [rMmuAllocEs 0, rMmuAllocSl 0, rMmuAllocPark 0].contains base then some (allocReg i)
  else if base = rCpDoorbell 0 then some (doorbellReg i)
  else if base = rCpEvtRd 0 then some (evtRdReg i)
  else if base = rCpEvtStatus 0 then some (evtStatusReg i)
  else if base = rCpEvtWm 0 then some (keepReg (clampFld 6 0 1 64 48))
  else if base = rCpCtl 0 then some (cpCtl i)
  else none

/-- The effects of the other registers. A Pyrite set or a kernel started by a plain register write has a good signature, a reset
so started passes its tests; the commands' own rows say otherwise. -/
def devEffect (base i : Nat) : RegEffect :=
  if base = rQtzCtl then quartzCtl
  else if base = rQtzFabCtl then fabCtlEffect
  else if base = rQtzFlintInject then flintInject
  else if base = rPwrCapGrant then capGrantReg
  else if base = rPwrRack then rackReg
  else if base = rPwrPoolBounds then poolBoundsReg
  else if base = rPwrPartCfg 0 then keepReg (clampFld 31 24 1 255 1)
  else if base = rPwrThermCtl then keepReg (clampFld 15 8 85 95 95)
  else if base = rPwrVmin 0 then vminReg i
  else if base = rChkRdeCtl then rdeReg
  else if base = rChkPyrCtl then pyrCtl
  else if base = rChkKakCtl then kakCtl true
  else if base = rDspPartCtl 0 then partCtl i
  else if base = rDspPartGrace 0 then keepReg (fun v => clampFld 31 16 1 65535 2 (clampFld 9 0 1 1000 8 v))
  else if base = rDspDevEvtRd then evtRdReg devRing
  else if base = rDspDevEvtStatus then evtStatusReg devRing
  else if base = rDspDevEvtWm then keepReg (clampFld 10 0 1 1024 768)
  else if base = rMmuInv then mmuInvReg
  else if base = rMmuFaultResume then resumeReg
  else if base = rFabPortCtl 0 then fabPortCtl i
  else if base = rFabSchedEnt 0 0 then schedEntReg i
  else if base = rFabNode then fabNodeReg
  else if base = rFabTout then keepReg (fun v => if bitsOf v 13 0 < 20 then setBits v 13 0 20 else v)
  else if base = rHstVfBudget 0 then vfBudgetReg i
  else if base = rBrpReset then brpReset true true
  else if base = rBrpRepCmd then repCmd
  else if base = rMgtClaimCtl then claimCtl
  else if base = rMgtFwCtl then fwCtl
  else RegEffect.plain

/-- What a write of the register at an offset does. -/
def effectAt (off : Nat) : RegEffect :=
  match findReg off with
  | none => RegEffect.plain
  | some r =>
    let i := (dimIx r.dims (off - r.base)).1
    let base := if r.half = .high then r.base - 4 else r.base
    (ctxEffect base i).getD (devEffect base i)

/-- R443: a VF budget that is dropped also posts class 0x0E code 0x08. -/
def State.budgetNote (s : State) (off : Nat) (code : Option Nat) : State :=
  match findReg off with
  | some r => if r.base = rHstVfBudget 0 ∧ code = some 3 then s.hostEvent ((off - r.base) / 0x10000) 8 0 0 off 1 else s
  | none => s

/-- R13: the key of a requester's latch of a pair. -/
def latchKey (req : Requester) (lo : Nat) : Nat := reqCode req * 2 ^ 27 + lo

/-- R13: a write to a writable _LO register is held in the requester's latch. -/
def State.loWrite (s : State) (req : Requester) (lo : Nat) (v : Word) : State :=
  if s.takesWrite req lo then { s with wrLatch := tblPut s.wrLatch (latchKey req lo) v } else s

/-- R547: MGT_CLAIM_ID takes a requester's own value. -/
def State.claimIdWrite (s : State) (req : Requester) (v : Nat) : State :=
  if s.takesWrite req rMgtClaimId then { s with mgt := { s.mgt with claimId := tblPut s.mgt.claimId (reqCode req) v } } else s

/-- R13: a write to a _HI register commits the latched low half, or the live one, with the new high half. -/
def State.hiWrite (s : State) (req : Requester) (lo : Nat) (v : Word) : State × Option Nat :=
  let k := latchKey req lo
  let low := match tblFind s.wrLatch k with | some x => x.toNat | none => s.liveFor req lo
  let s := { s with wrLatch := tblDel s.wrLatch k }
  let v64 := low + 2 ^ 32 * v.toNat
  if lo = rMgtClaimId then (s.claimIdWrite req v64, none) else s.pairWriteR req lo (pairHome lo) v64 (effectAt lo)

/-- R7 to R9, R13: an aligned 32-bit write with every byte enabled, and the code of its first event. -/
def State.write32 (s : State) (req : Requester) (off : Nat) (v : Word) : State × Option Nat :=
  match findReg off with
  | none => (s, none)
  | some r =>
    match r.half with
    | .low => (s.loWrite req off v, none)
    | .high => s.hiWrite req (off - 4) v
    | .single =>
      if off = rMgtClaimNode then
        (if s.takesWrite req off then { s with mgt := { s.mgt with claimNode := tblPut s.mgt.claimNode (reqCode req) (v.toNat % 65536) } } else s, none)
      else
        let x := s.regWriteR req off v.toNat (effectAt off)
        (x.1.budgetNote off x.2, x.2)

/-- R8: an RC field clears when it has been read. -/
def State.clearRc (s : State) (off : Nat) : State :=
  match findReg off with
  | none => s
  | some r => (r.fields.filter (fun f => f.ty == .rc)).foldl (fun s f => s.setFld off f.hi f.lo 0) s

/-- R515: BRP_DBG_STATUS follows a read of BRP_DBG_DATA. -/
def State.dbgRead (s : State) (off : Nat) : State := if off = rBrpDbgData then s.setFlag rBrpDbgStatus 0 s.debugWord.isSome else s

/-- A free value that a read has shown is used up. -/
def State.readDrawn (s : State) (off : Nat) : State :=
  match findReg off with
  | some r => if drawsFree r.base then s.drawn else s
  | none => s

/-- R7, R8, R13, R503: a read of 32 bits: the value and the state after it. During a device reset every register reads all ones. -/
def State.read32 (s : State) (req : Requester) (off : Nat) : State × Nat :=
  if !s.reaches req off then (s, 0)
  else if s.fld rBrpStatus 27 25 = 3 then (s, 0xFFFFFFFF)
  else match findReg off with
    | none => (s, 0)
    | some r =>
      let v := s.liveFor req off
      match r.half with
      | .single => (((s.dbgRead off).clearRc off).readDrawn off, v)
      | .low => ({ s with rdLatch := tblPut s.rdLatch (latchKey req off) (BitVec.ofNat 32 (s.liveFor req (off + 4))) }.readDrawn off, v)
      | .high => (s, match tblFind s.rdLatch (latchKey req (off - 4)) with | some x => x.toNat | none => v)

/-- A read that answers its requester. -/
def State.readAnswer (s : State) (req : Requester) (off : Nat) : State :=
  let x := s.read32 req off
  x.1.answer [x.2]

/-- Which half of a pair lies at an offset. -/
def halfAt (off : Nat) : Option Half := (findReg off).map RegSpec.half

/-- R7: a 32-bit write; one with some bytes disabled is dropped. -/
def execRegisterWrite (req : Requester) (off : Nat) (be : BitVec 4) (v : Word) (s : State) : Out :=
  .next (if be = 0xF#4 then (s.write32 req off v).1 else s)

/-- R8: a read of a register: an RC field returns its value and then clears. -/
def execRcRead (req : Requester) (off : Nat) (s : State) : Out := .next (s.readAnswer req off)

/-- R13: a read of a _LO register captures the pair. -/
def execLoReadCapture (req : Requester) (lo : Nat) (s : State) : Out :=
  .next (if halfAt lo = some .low then s.readAnswer req lo else s)

/-- R13: a write to a _LO register. -/
def execLoWriteLatch (req : Requester) (lo : Nat) (v : Word) (s : State) : Out :=
  .next (if halfAt lo = some .low then s.loWrite req lo v else s)

/-- R13: a write to a _HI register. -/
def execHiWriteCommit (req : Requester) (hi : Nat) (v : Word) (s : State) : Out :=
  .next (if halfAt hi = some .high then (s.hiWrite req (hi - 4) v).1 else s)

/-- R14: a 64-bit access: the 32 bits at its address, then those at the address + 4. -/
def execHost64bitAccess (req : Requester) (off : Nat) (write : Option DWord) (s : State) : Out :=
  .next (match write with
    | some v =>
      let s := (s.write32 req off (BitVec.ofNat 32 v.toNat)).1
      (s.write32 req (off + 4) (BitVec.ofNat 32 (v.toNat / 2 ^ 32))).1
    | none =>
      let x := s.read32 req off
      let y := x.1.read32 req (off + 4)
      y.1.answer [x.2, y.2])

/-- A write of MMU_INV. -/
def execMmuInv (req : Requester) (v : Word) (s : State) : Out := .next (s.regWrite req rMmuInv v.toNat mmuInvReg)

/-- A write of MMU_FAULT_RESUME with retry. -/
def execMmuFaultResumeRetry (req : Requester) (c : CtxId) (s : State) : Out :=
  .next (s.regWrite req rMmuFaultResume (2 ^ 31 + c.val) resumeReg)

/-- A write of MMU_FAULT_RESUME with abort. -/
def execMmuFaultResumeAbort (req : Requester) (c : CtxId) (s : State) : Out := .next (s.regWrite req rMmuFaultResume c.val resumeReg)

/-- What a memory request of a host function reaches (R378, R409): a register offset with its requester, a word of the MSI-X table, the
pending bits, nothing (reserved parts of a BAR), an unbound function's page, or no BAR. -/
inductive HostTarget where
  | reg (req : Requester) (off : Nat)
  | msix (word : Nat)
  | pba
  | nothing
  | unbound
  | noBar
  deriving DecidableEq, Repr

/-- R409: the target of an offset in a BAR of a function. -/
def State.hostTarget (s : State) (h fn bar off : Nat) : HostTarget :=
  let table (o n : Nat) (pba : Nat) : HostTarget :=
    if o < 16 * n then .msix (o / 4) else if o = pba then .pba else .nothing
  if !s.functionOn h fn then .noBar
  else if fn = 0 then
    if bar = 0 ∧ off < 0x4000000 then .reg (.pf h) off
    else if bar = 2 ∧ off < 0x2000000 then .reg (.pf h) (0x4000000 + off)
    else if bar = 4 ∧ off < 0x10000 then table off 8 0x8000
    else .noBar
  else if bar = 0 ∧ off < 0x8000 then
    match (s.boundTo h (some fn)).find? (fun c => s.flag (rDspCtxCtl c) 30) with
    | some c => .reg (.vf h fn) (0x4000000 + 0x10000 * c + off)
    | none => .unbound
  else if bar = 0 ∧ off < 0x10000 then table (off - 0x8000) 4 0x4000
  else .noBar

/-- R409: a word of a function's MSI-X table; a vector is masked after reset. -/
def State.msixWord (s : State) (h fn i : Nat) : Nat := (tblGet (if i % 4 = 3 then 1#32 else 0#32) (s.hport h).msix (64 * fn + i)).toNat

/-- R409: write a word of the table; a vector that is unmasked sends what is pending. -/
def State.msixPut (s : State) (h fn i : Nat) (v : Word) : State :=
  let x := s.hport h
  (s.setHport h { x with msix := tblPut x.msix (64 * fn + i) v }).msixFlush h fn

/-- One 32-bit read of a host function. -/
def State.hostRead (s : State) (h fn bar off : Nat) : State × Nat :=
  match s.hostTarget h fn bar off with
  | .reg req o => s.read32 req o
  | .msix i => (s, s.msixWord h fn i)
  | .pba => (s, (tblGet 0#32 (s.hport h).msix (65536 + fn)).toNat)
  | .nothing => (s, 0)
  | .unbound => (s.unboundDrop h fn off, 0)
  | .noBar => (s, 0)

/-- One 32-bit write of a host function. -/
def State.hostPut (s : State) (h fn bar off : Nat) (v : Word) : State :=
  match s.hostTarget h fn bar off with
  | .reg req o => (s.write32 req o v).1
  | .msix i => s.msixPut h fn i v
  | .unbound => s.unboundDrop h fn off
  | _ => s

/-- R7: the bytes of a word that a read asks for. -/
def byteMask (be : BitVec 4) (v : Nat) : Nat :=
  (List.range 4).foldl (fun a i => if be.toNat.testBit i then a + (v / 2 ^ (8 * i) % 256) * 2 ^ (8 * i) else a) 0

/-- R413: a read of n dwords. The answer is the completion status (0 successful, 1 Unsupported Request, 4 Completer Abort) and the data. -/
def execHostInboundRead (h : HostPortId) (fn : Fin 512) (bar : Fin 6) (off n : Nat) (fbe lbe : BitVec 4) (s : State) : Out :=
  .next (
    let o := off / 4 * 4
    if s.hostTarget h.val fn.val bar.val o = .noBar then s.answer [1]
    else if 2 < n then s.answer [4]
    else
      let x := s.hostRead h.val fn.val bar.val o
      if n ≤ 1 then x.1.answer [0, byteMask fbe x.2]
      else
        let y := x.1.hostRead h.val fn.val bar.val (o + 4)
        y.1.answer [0, byteMask fbe x.2, byteMask lbe y.2])

/-- R413: a write of dwords with the byte enables of the first and the last; ep: the TLP is poisoned. -/
def execHostInboundWrite (h : HostPortId) (fn : Fin 512) (bar : Fin 6) (off : Nat) (data : List Word) (fbe lbe : BitVec 4) (ep : Bool) (s : State) :
    Out :=
  .next (
    let o := off / 4 * 4
    if ep then s.poisonedTlp h.val 0 none
    else match data with
      | [v] => if fbe = 0xF#4 then s.hostPut h.val fn.val bar.val o v else s
      | [v, w] =>
        let s := if fbe = 0xF#4 then s.hostPut h.val fn.val bar.val o v else s
        if lbe = 0xF#4 then s.hostPut h.val fn.val bar.val (o + 4) w else s
      | [] => s
      | _ => s.hostEvent h.val 0x0C 0 fn.val o 1)

/-- R522: PLDM ReadRegister. -/
def execReadRegister (req : Requester) (off : Nat) (s : State) : Out :=
  s.message req false (fun s =>
    if 0x4000000 ≤ off ∨ off % 4 ≠ 0 then s.badMessage req 2
    else
      let x := s.read32 req off
      x.1.answer [0, x.2])

/-- R522: PLDM WriteRegister: the answer is 0 done, or 1 dropped with the event's code. -/
def execWriteRegister (req : Requester) (off : Nat) (v : Word) (s : State) : Out :=
  s.message req false (fun s =>
    if 0x4000000 ≤ off ∨ off % 4 ≠ 0 then s.badMessage req 2
    else
      let x := s.write32 req off v
      match x.2 with
      | some code => x.1.answer [0, 1, code]
      | none => x.1.answer [0, b2n (!s.takesWrite req off), 0])

end Sys2Proof.Machine
end

