-- ==== Sys2Proof/Machine/Dispatch.lean ====
section
/-!
DEFINITION. The dispatch of a command to its meaning: one arm for each constructor of Instr.
-/
namespace Sys2Proof.Machine

/-- A command's effect on everything but the queue. -/
def exec (i : Instr) (s : State) : Host.Outcome State Fault Refusal :=
  match i with
  | .registerWrite req off be v => Sys2Proof.Machine.execRegisterWrite req off be v s
  | .rcRead req off => Sys2Proof.Machine.execRcRead req off s
  | .loReadCapture req lo => Sys2Proof.Machine.execLoReadCapture req lo s
  | .loWriteLatch req lo v => Sys2Proof.Machine.execLoWriteLatch req lo v s
  | .hiWriteCommit req hi v => Sys2Proof.Machine.execHiWriteCommit req hi v s
  | .host64bitAccess req off write => Sys2Proof.Machine.execHost64bitAccess req off write s
  | .ucieModuleRetire k m => Sys2Proof.Machine.execUcieModuleRetire k m s
  | .remapStart p => Sys2Proof.Machine.execRemapStart p s
  | .remapMapSwitch p => Sys2Proof.Machine.execRemapMapSwitch p s
  | .loadBlock p w => Sys2Proof.Machine.execLoadBlock p w s
  | .loadS p w => Sys2Proof.Machine.execLoadS p w s
  | .unpark p w => Sys2Proof.Machine.execUnpark p w s
  | .swapSets p w => Sys2Proof.Machine.execSwapSets p w s
  | .drain p w0 w1 => Sys2Proof.Machine.execDrain p w0 w1 s
  | .pass p w0 w1 => Sys2Proof.Machine.execPass p w0 w1 s
  | .passT p w0 w1 => Sys2Proof.Machine.execPassT p w0 w1 s
  | .gangCfg p w => Sys2Proof.Machine.execGangCfg p w s
  | .gangCfgEffect p => Sys2Proof.Machine.execGangCfgEffect p s
  | .reduceTree p w0 w1 => Sys2Proof.Machine.execReduceTree p w0 w1 s
  | .northFeedTransferStart p => Sys2Proof.Machine.execNorthFeedTransferStart p s
  | .northFeedTransferComplete p => Sys2Proof.Machine.execNorthFeedTransferComplete p s
  | .swapTokenStart p => Sys2Proof.Machine.execSwapTokenStart p s
  | .passStart p => Sys2Proof.Machine.execPassStart p s
  | .tileVerdict p slot wit => Sys2Proof.Machine.execTileVerdict p slot wit s
  | .tileCommit p slot => Sys2Proof.Machine.execTileCommit p slot s
  | .ksplitLevelArrival p => Sys2Proof.Machine.execKsplitLevelArrival p s
  | .passGraceAbort p => Sys2Proof.Machine.execPassGraceAbort p s
  | .tileRestart p => Sys2Proof.Machine.execTileRestart p s
  | .coreLoad p w0 w1 => Sys2Proof.Machine.execCoreLoad p w0 w1 s
  | .coreRun p w => Sys2Proof.Machine.execCoreRun p w s
  | .coreStop p w => Sys2Proof.Machine.execCoreStop p w s
  | .coreRunStart p => Sys2Proof.Machine.execCoreRunStart p s
  | .coreRunEnd p => Sys2Proof.Machine.execCoreRunEnd p s
  | .coreRunFreeze p => Sys2Proof.Machine.execCoreRunFreeze p s
  | .meshSendArrival n => Sys2Proof.Machine.execMeshSendArrival n s
  | .meshSendRefusal n => Sys2Proof.Machine.execMeshSendRefusal n s
  | .sendRetry core slot => Sys2Proof.Machine.execSendRetry core slot s
  | .meshPutArrival n => Sys2Proof.Machine.execMeshPutArrival n s
  | .notificationRelease core => Sys2Proof.Machine.execNotificationRelease core s
  | .meshGetRequest n => Sys2Proof.Machine.execMeshGetRequest n s
  | .meshGetReply n => Sys2Proof.Machine.execMeshGetReply n s
  | .slateFillComplete core => Sys2Proof.Machine.execSlateFillComplete core s
  | .recvSatisfied core => Sys2Proof.Machine.execRecvSatisfied core s
  | .waitSatisfied unit => Sys2Proof.Machine.execWaitSatisfied unit s
  | .coreFenceRelease core => Sys2Proof.Machine.execCoreFenceRelease core s
  | .gexaCNop core w => Sys2Proof.Machine.execGexaCNop core w s
  | .gexaCHalt core w => Sys2Proof.Machine.execGexaCHalt core w s
  | .gexaCFence core w => Sys2Proof.Machine.execGexaCFence core w s
  | .gexaCTrap core w => Sys2Proof.Machine.execGexaCTrap core w s
  | .gexaCAdd core w => Sys2Proof.Machine.execGexaCAdd core w s
  | .gexaCSub core w => Sys2Proof.Machine.execGexaCSub core w s
  | .gexaCAnd core w => Sys2Proof.Machine.execGexaCAnd core w s
  | .gexaCOr core w => Sys2Proof.Machine.execGexaCOr core w s
  | .gexaCXor core w => Sys2Proof.Machine.execGexaCXor core w s
  | .gexaCAndn core w => Sys2Proof.Machine.execGexaCAndn core w s
  | .gexaCShl core w => Sys2Proof.Machine.execGexaCShl core w s
  | .gexaCShr core w => Sys2Proof.Machine.execGexaCShr core w s
  | .gexaCSra core w => Sys2Proof.Machine.execGexaCSra core w s
  | .gexaCMin core w => Sys2Proof.Machine.execGexaCMin core w s
  | .gexaCMax core w => Sys2Proof.Machine.execGexaCMax core w s
  | .gexaCMinu core w => Sys2Proof.Machine.execGexaCMinu core w s
  | .gexaCMaxu core w => Sys2Proof.Machine.execGexaCMaxu core w s
  | .gexaCMul core w => Sys2Proof.Machine.execGexaCMul core w s
  | .gexaCMulhu core w => Sys2Proof.Machine.execGexaCMulhu core w s
  | .gexaCSlt core w => Sys2Proof.Machine.execGexaCSlt core w s
  | .gexaCSltu core w => Sys2Proof.Machine.execGexaCSltu core w s
  | .gexaCSeq core w => Sys2Proof.Machine.execGexaCSeq core w s
  | .gexaCSne core w => Sys2Proof.Machine.execGexaCSne core w s
  | .gexaCClz core w => Sys2Proof.Machine.execGexaCClz core w s
  | .gexaCPopc core w => Sys2Proof.Machine.execGexaCPopc core w s
  | .gexaCAddi core w => Sys2Proof.Machine.execGexaCAddi core w s
  | .gexaCAndi core w => Sys2Proof.Machine.execGexaCAndi core w s
  | .gexaCOri core w => Sys2Proof.Machine.execGexaCOri core w s
  | .gexaCXori core w => Sys2Proof.Machine.execGexaCXori core w s
  | .gexaCShli core w => Sys2Proof.Machine.execGexaCShli core w s
  | .gexaCShri core w => Sys2Proof.Machine.execGexaCShri core w s
  | .gexaCSrai core w => Sys2Proof.Machine.execGexaCSrai core w s
  | .gexaCSlti core w => Sys2Proof.Machine.execGexaCSlti core w s
  | .gexaCSltui core w => Sys2Proof.Machine.execGexaCSltui core w s
  | .gexaCSeqi core w => Sys2Proof.Machine.execGexaCSeqi core w s
  | .gexaCLi core w => Sys2Proof.Machine.execGexaCLi core w s
  | .gexaCLih core w => Sys2Proof.Machine.execGexaCLih core w s
  | .gexaCSel core w => Sys2Proof.Machine.execGexaCSel core w s
  | .gexaCB core w => Sys2Proof.Machine.execGexaCB core w s
  | .gexaCBz core w => Sys2Proof.Machine.execGexaCBz core w s
  | .gexaCBnz core w => Sys2Proof.Machine.execGexaCBnz core w s
  | .gexaCBlt core w => Sys2Proof.Machine.execGexaCBlt core w s
  | .gexaCBge core w => Sys2Proof.Machine.execGexaCBge core w s
  | .gexaCBltu core w => Sys2Proof.Machine.execGexaCBltu core w s
  | .gexaCBgeu core w => Sys2Proof.Machine.execGexaCBgeu core w s
  | .gexaCBeq core w => Sys2Proof.Machine.execGexaCBeq core w s
  | .gexaCLoop core w => Sys2Proof.Machine.execGexaCLoop core w s
  | .gexaCSysr core w => Sys2Proof.Machine.execGexaCSysr core w s
  | .gexaCLdW core w => Sys2Proof.Machine.execGexaCLdW core w s
  | .gexaCLdHu core w => Sys2Proof.Machine.execGexaCLdHu core w s
  | .gexaCLdBu core w => Sys2Proof.Machine.execGexaCLdBu core w s
  | .gexaCLdV core w => Sys2Proof.Machine.execGexaCLdV core w s
  | .gexaCLdAl core w => Sys2Proof.Machine.execGexaCLdAl core w s
  | .gexaCLdAh core w => Sys2Proof.Machine.execGexaCLdAh core w s
  | .gexaCLdA core w => Sys2Proof.Machine.execGexaCLdA core w s
  | .gexaCStW core w => Sys2Proof.Machine.execGexaCStW core w s
  | .gexaCStH core w => Sys2Proof.Machine.execGexaCStH core w s
  | .gexaCStB core w => Sys2Proof.Machine.execGexaCStB core w s
  | .gexaCStV core w => Sys2Proof.Machine.execGexaCStV core w s
  | .gexaCStAl core w => Sys2Proof.Machine.execGexaCStAl core w s
  | .gexaCStAh core w => Sys2Proof.Machine.execGexaCStAh core w s
  | .gexaCStA core w => Sys2Proof.Machine.execGexaCStA core w s
  | .vopAdd core w => Sys2Proof.Machine.execVopAdd core w s
  | .vopSub core w => Sys2Proof.Machine.execVopSub core w s
  | .vopAdds core w => Sys2Proof.Machine.execVopAdds core w s
  | .vopSubs core w => Sys2Proof.Machine.execVopSubs core w s
  | .vopMin core w => Sys2Proof.Machine.execVopMin core w s
  | .vopMax core w => Sys2Proof.Machine.execVopMax core w s
  | .vopMinu core w => Sys2Proof.Machine.execVopMinu core w s
  | .vopMaxu core w => Sys2Proof.Machine.execVopMaxu core w s
  | .vopAnd core w => Sys2Proof.Machine.execVopAnd core w s
  | .vopOr core w => Sys2Proof.Machine.execVopOr core w s
  | .vopXor core w => Sys2Proof.Machine.execVopXor core w s
  | .vopShl core w => Sys2Proof.Machine.execVopShl core w s
  | .vopShr core w => Sys2Proof.Machine.execVopShr core w s
  | .vopSra core w => Sys2Proof.Machine.execVopSra core w s
  | .vopAbs core w => Sys2Proof.Machine.execVopAbs core w s
  | .vopMul core w => Sys2Proof.Machine.execVopMul core w s
  | .vopsAdd core w => Sys2Proof.Machine.execVopsAdd core w s
  | .vopsSub core w => Sys2Proof.Machine.execVopsSub core w s
  | .vopsAdds core w => Sys2Proof.Machine.execVopsAdds core w s
  | .vopsSubs core w => Sys2Proof.Machine.execVopsSubs core w s
  | .vopsMin core w => Sys2Proof.Machine.execVopsMin core w s
  | .vopsMax core w => Sys2Proof.Machine.execVopsMax core w s
  | .vopsMinu core w => Sys2Proof.Machine.execVopsMinu core w s
  | .vopsMaxu core w => Sys2Proof.Machine.execVopsMaxu core w s
  | .vopsAnd core w => Sys2Proof.Machine.execVopsAnd core w s
  | .vopsOr core w => Sys2Proof.Machine.execVopsOr core w s
  | .vopsXor core w => Sys2Proof.Machine.execVopsXor core w s
  | .vopsShl core w => Sys2Proof.Machine.execVopsShl core w s
  | .vopsShr core w => Sys2Proof.Machine.execVopsShr core w s
  | .vopsSra core w => Sys2Proof.Machine.execVopsSra core w s
  | .vopsAbs core w => Sys2Proof.Machine.execVopsAbs core w s
  | .vopsMul core w => Sys2Proof.Machine.execVopsMul core w s
  | .vcmpEq core w => Sys2Proof.Machine.execVcmpEq core w s
  | .vcmpNe core w => Sys2Proof.Machine.execVcmpNe core w s
  | .vcmpLt core w => Sys2Proof.Machine.execVcmpLt core w s
  | .vcmpLe core w => Sys2Proof.Machine.execVcmpLe core w s
  | .vcmpGt core w => Sys2Proof.Machine.execVcmpGt core w s
  | .vcmpGe core w => Sys2Proof.Machine.execVcmpGe core w s
  | .vcmpLtu core w => Sys2Proof.Machine.execVcmpLtu core w s
  | .vcmpLeu core w => Sys2Proof.Machine.execVcmpLeu core w s
  | .vcmpGtu core w => Sys2Proof.Machine.execVcmpGtu core w s
  | .vcmpGeu core w => Sys2Proof.Machine.execVcmpGeu core w s
  | .vsel core w => Sys2Proof.Machine.execVsel core w s
  | .vmac core w => Sys2Proof.Machine.execVmac core w s
  | .vmul core w => Sys2Proof.Machine.execVmul core w s
  | .aclr core w => Sys2Proof.Machine.execAclr core w s
  | .aget core w => Sys2Proof.Machine.execAget core w s
  | .aput core w => Sys2Proof.Machine.execAput core w s
  | .aadd core w => Sys2Proof.Machine.execAadd core w s
  | .asub core w => Sys2Proof.Machine.execAsub core w s
  | .aiota core w => Sys2Proof.Machine.execAiota core w s
  | .anarrowLo core w => Sys2Proof.Machine.execAnarrowLo core w s
  | .anarrowHi core w => Sys2Proof.Machine.execAnarrowHi core w s
  | .awiden core w => Sys2Proof.Machine.execAwiden core w s
  | .asum core w => Sys2Proof.Machine.execAsum core w s
  | .vcx core w => Sys2Proof.Machine.execVcx core w s
  | .vsrtSort core w => Sys2Proof.Machine.execVsrtSort core w s
  | .vsrtStep core w => Sys2Proof.Machine.execVsrtStep core w s
  | .vsrtRev core w => Sys2Proof.Machine.execVsrtRev core w s
  | .vpermPerm core w => Sys2Proof.Machine.execVpermPerm core w s
  | .vpermBcast core w => Sys2Proof.Machine.execVpermBcast core w s
  | .vpermUp core w => Sys2Proof.Machine.execVpermUp core w s
  | .vpermDown core w => Sys2Proof.Machine.execVpermDown core w s
  | .vpermSplat core w => Sys2Proof.Machine.execVpermSplat core w s
  | .vredMaxs core w => Sys2Proof.Machine.execVredMaxs core w s
  | .vredMins core w => Sys2Proof.Machine.execVredMins core w s
  | .vredMaxu core w => Sys2Proof.Machine.execVredMaxu core w s
  | .vredMinu core w => Sys2Proof.Machine.execVredMinu core w s
  | .vredSum core w => Sys2Proof.Machine.execVredSum core w s
  | .vredArgmaxu core w => Sys2Proof.Machine.execVredArgmaxu core w s
  | .vredCnt core w => Sys2Proof.Machine.execVredCnt core w s
  | .vredFirst core w => Sys2Proof.Machine.execVredFirst core w s
  | .vcvtKey core w => Sys2Proof.Machine.execVcvtKey core w s
  | .vcvtUnkey core w => Sys2Proof.Machine.execVcvtUnkey core w s
  | .vcvtE4Lo core w => Sys2Proof.Machine.execVcvtE4Lo core w s
  | .vcvtE4Hi core w => Sys2Proof.Machine.execVcvtE4Hi core w s
  | .vcvtE5Lo core w => Sys2Proof.Machine.execVcvtE5Lo core w s
  | .vcvtE5Hi core w => Sys2Proof.Machine.execVcvtE5Hi core w s
  | .vcvtSxLo core w => Sys2Proof.Machine.execVcvtSxLo core w s
  | .vcvtSxHi core w => Sys2Proof.Machine.execVcvtSxHi core w s
  | .vcvtBfE4 core w => Sys2Proof.Machine.execVcvtBfE4 core w s
  | .sfill core w => Sys2Proof.Machine.execSfill core w s
  | .scopy core w => Sys2Proof.Machine.execScopy core w s
  | .send core w => Sys2Proof.Machine.execSend core w s
  | .putV core w => Sys2Proof.Machine.execPutV core w s
  | .putA core w => Sys2Proof.Machine.execPutA core w s
  | .get core w => Sys2Proof.Machine.execGet core w s
  | .recv core w => Sys2Proof.Machine.execRecv core w s
  | .recvN core w => Sys2Proof.Machine.execRecvN core w s
  | .recvT core w => Sys2Proof.Machine.execRecvT core w s
  | .gexaCSig core w => Sys2Proof.Machine.execGexaCSig core w s
  | .gexaCWait core w => Sys2Proof.Machine.execGexaCWait core w s
  | .vcChain p w0 w1 => Sys2Proof.Machine.execVcChain p w0 w1 s
  | .chainStart p => Sys2Proof.Machine.execChainStart p s
  | .chainComplete e => Sys2Proof.Machine.execChainComplete e s
  | .chainRerun e => Sys2Proof.Machine.execChainRerun e s
  | .gexaSAdd p w => Sys2Proof.Machine.execGexaSAdd p w s
  | .gexaSSub p w => Sys2Proof.Machine.execGexaSSub p w s
  | .gexaSAnd p w => Sys2Proof.Machine.execGexaSAnd p w s
  | .gexaSOr p w => Sys2Proof.Machine.execGexaSOr p w s
  | .gexaSXor p w => Sys2Proof.Machine.execGexaSXor p w s
  | .gexaSAndn p w => Sys2Proof.Machine.execGexaSAndn p w s
  | .gexaSShl p w => Sys2Proof.Machine.execGexaSShl p w s
  | .gexaSShr p w => Sys2Proof.Machine.execGexaSShr p w s
  | .gexaSSra p w => Sys2Proof.Machine.execGexaSSra p w s
  | .gexaSMin p w => Sys2Proof.Machine.execGexaSMin p w s
  | .gexaSMax p w => Sys2Proof.Machine.execGexaSMax p w s
  | .gexaSMinu p w => Sys2Proof.Machine.execGexaSMinu p w s
  | .gexaSMaxu p w => Sys2Proof.Machine.execGexaSMaxu p w s
  | .gexaSMul p w => Sys2Proof.Machine.execGexaSMul p w s
  | .gexaSMulhu p w => Sys2Proof.Machine.execGexaSMulhu p w s
  | .gexaSDivu p w => Sys2Proof.Machine.execGexaSDivu p w s
  | .gexaSRemu p w => Sys2Proof.Machine.execGexaSRemu p w s
  | .gexaSClz p w => Sys2Proof.Machine.execGexaSClz p w s
  | .gexaSPopc p w => Sys2Proof.Machine.execGexaSPopc p w s
  | .gexaSAddi p w => Sys2Proof.Machine.execGexaSAddi p w s
  | .gexaSAndi p w => Sys2Proof.Machine.execGexaSAndi p w s
  | .gexaSOri p w => Sys2Proof.Machine.execGexaSOri p w s
  | .gexaSXori p w => Sys2Proof.Machine.execGexaSXori p w s
  | .gexaSShli p w => Sys2Proof.Machine.execGexaSShli p w s
  | .gexaSShri p w => Sys2Proof.Machine.execGexaSShri p w s
  | .gexaSSrai p w => Sys2Proof.Machine.execGexaSSrai p w s
  | .gexaSLi p w => Sys2Proof.Machine.execGexaSLi p w s
  | .shlor p w => Sys2Proof.Machine.execShlor p w s
  | .cmp p w => Sys2Proof.Machine.execCmp p w s
  | .cmpi p w => Sys2Proof.Machine.execCmpi p w s
  | .pand p w => Sys2Proof.Machine.execPand p w s
  | .predOr p w => Sys2Proof.Machine.execPredOr p w s
  | .pxor p w => Sys2Proof.Machine.execPxor p w s
  | .pandn p w => Sys2Proof.Machine.execPandn p w s
  | .pnot p w => Sys2Proof.Machine.execPnot p w s
  | .pnz p w => Sys2Proof.Machine.execPnz p w s
  | .gexaSSel p w => Sys2Proof.Machine.execGexaSSel p w s
  | .br p w => Sys2Proof.Machine.execBr p w s
  | .jal p w => Sys2Proof.Machine.execJal p w s
  | .jalr p w => Sys2Proof.Machine.execJalr p w s
  | .gexaSSysr p w => Sys2Proof.Machine.execGexaSSysr p w s
  | .gexaSLdD p w => Sys2Proof.Machine.execGexaSLdD p w s
  | .gexaSLdW p w => Sys2Proof.Machine.execGexaSLdW p w s
  | .gexaSStD p w => Sys2Proof.Machine.execGexaSStD p w s
  | .gexaSStW p w => Sys2Proof.Machine.execGexaSStW p w s
  | .loadDataReturn p => Sys2Proof.Machine.execLoadDataReturn p s
  | .fetchLineFill p => Sys2Proof.Machine.execFetchLineFill p s
  | .dld p w => Sys2Proof.Machine.execDld p w s
  | .dst p w => Sys2Proof.Machine.execDst p w s
  | .dset p w => Sys2Proof.Machine.execDset p w s
  | .dget p w => Sys2Proof.Machine.execDget p w s
  | .dadv p w => Sys2Proof.Machine.execDadv p w s
  | .dmaCopy p w0 w1 => Sys2Proof.Machine.execDmaCopy p w0 w1 s
  | .dmaFill p w0 w1 => Sys2Proof.Machine.execDmaFill p w0 w1 s
  | .dmaGather p w0 w1 => Sys2Proof.Machine.execDmaGather p w0 w1 s
  | .dmaScatter p w0 w1 => Sys2Proof.Machine.execDmaScatter p w0 w1 s
  | .dmaStart p => Sys2Proof.Machine.execDmaStart p s
  | .dmaComplete p n => Sys2Proof.Machine.execDmaComplete p n s
  | .winOpen p w => Sys2Proof.Machine.execWinOpen p w s
  | .winClose p w => Sys2Proof.Machine.execWinClose p w s
  | .winCloseComplete p w => Sys2Proof.Machine.execWinCloseComplete p w s
  | .winCtr p w => Sys2Proof.Machine.execWinCtr p w s
  | .winGen p w => Sys2Proof.Machine.execWinGen p w s
  | .gexaSSig p w => Sys2Proof.Machine.execGexaSSig p w s
  | .gexaSWait p w => Sys2Proof.Machine.execGexaSWait p w s
  | .cntRd p w => Sys2Proof.Machine.execCntRd p w s
  | .qwait p w => Sys2Proof.Machine.execQwait p w s
  | .qwaitSatisfied p q => Sys2Proof.Machine.execQwaitSatisfied p q s
  | .now p w => Sys2Proof.Machine.execNow p w s
  | .waitUntil p w => Sys2Proof.Machine.execWaitUntil p w s
  | .waitUntilOff p w0 w1 => Sys2Proof.Machine.execWaitUntilOff p w0 w1 s
  | .waitUntilRelease p t => Sys2Proof.Machine.execWaitUntilRelease p t s
  | .launchAt p w => Sys2Proof.Machine.execLaunchAt p w s
  | .launchAtOff p w0 w1 => Sys2Proof.Machine.execLaunchAtOff p w0 w1 s
  | .launchTimeReached p q t => Sys2Proof.Machine.execLaunchTimeReached p q t s
  | .chkMode p w => Sys2Proof.Machine.execChkMode p w s
  | .chkCommit p w => Sys2Proof.Machine.execChkCommit p w s
  | .chkCommitStep p w => Sys2Proof.Machine.execChkCommitStep p w s
  | .chkCommitRelease p => Sys2Proof.Machine.execChkCommitRelease p s
  | .chkRelease p w => Sys2Proof.Machine.execChkRelease p w s
  | .gexaSNop p w => Sys2Proof.Machine.execGexaSNop p w s
  | .yieldArray p w => Sys2Proof.Machine.execYieldArray p w s
  | .endProgram p w => Sys2Proof.Machine.execEndProgram p w s
  | .programEndReport p => Sys2Proof.Machine.execProgramEndReport p s
  | .softFault p w => Sys2Proof.Machine.execSoftFault p w s
  | .fenceSt p w => Sys2Proof.Machine.execFenceSt p w s
  | .fenceArr p w => Sys2Proof.Machine.execFenceArr p w s
  | .fenceVec p w => Sys2Proof.Machine.execFenceVec p w s
  | .fenceDma p w => Sys2Proof.Machine.execFenceDma p w s
  | .fenceAll p w => Sys2Proof.Machine.execFenceAll p w s
  | .fenceI p w => Sys2Proof.Machine.execFenceI p w s
  | .cinv p w => Sys2Proof.Machine.execCinv p w s
  | .fenceRelease p => Sys2Proof.Machine.execFenceRelease p s
  | .hbmLaneRepair site pc => Sys2Proof.Machine.execHbmLaneRepair site pc s
  | .trunkPacketReceive h poison data pa r crc => Sys2Proof.Machine.execTrunkPacketReceive h poison data pa r crc s
  | .scrubPass m f => Sys2Proof.Machine.execScrubPass m f s
  | .mmuInv req v => Sys2Proof.Machine.execMmuInv req v s
  | .mmuInvComplete => Sys2Proof.Machine.execMmuInvComplete s
  | .pageWalkComplete w va => Sys2Proof.Machine.execPageWalkComplete w va s
  | .mmuFaultResumeRetry req c => Sys2Proof.Machine.execMmuFaultResumeRetry req c s
  | .mmuFaultResumeAbort req c => Sys2Proof.Machine.execMmuFaultResumeAbort req c s
  | .atsInvalidation h fn page pages => Sys2Proof.Machine.execAtsInvalidation h fn page pages s
  | .atsTranslationCompletion h fn page ok => Sys2Proof.Machine.execAtsTranslationCompletion h fn page ok s
  | .windowAccessArrival n => Sys2Proof.Machine.execWindowAccessArrival n s
  | .signalArrival n also bad => Sys2Proof.Machine.execSignalArrival n also bad s
  | .signalDivert n => Sys2Proof.Machine.execSignalDivert n s
  | .flintInject req v => Sys2Proof.Machine.execFlintInject req v s
  | .flintGating => Sys2Proof.Machine.execFlintGating s
  | .flintHaltRelease => Sys2Proof.Machine.execFlintHaltRelease s
  | .quartzBeat offs => Sys2Proof.Machine.execQuartzBeat offs s
  | .treeDelayCalibration => Sys2Proof.Machine.execTreeDelayCalibration s
  | .quartzStep req v => Sys2Proof.Machine.execQuartzStep req v s
  | .refSelectRequest req v => Sys2Proof.Machine.execRefSelectRequest req v s
  | .refSample t a b => Sys2Proof.Machine.execRefSample t a b s
  | .refClockAbsent ref => Sys2Proof.Machine.execRefClockAbsent ref s
  | .timeFrameSend t => Sys2Proof.Machine.execTimeFrameSend t s
  | .timeFrameReceive port frame rx => Sys2Proof.Machine.execTimeFrameReceive port frame rx s
  | .delayExchangeStart t => Sys2Proof.Machine.execDelayExchangeStart t s
  | .delayRequestReceive port frame t2 t3 => Sys2Proof.Machine.execDelayRequestReceive port frame t2 t3 s
  | .delayResponseReceive port frame t4 => Sys2Proof.Machine.execDelayResponseReceive port frame t4 s
  | .fabricTimeLost t => Sys2Proof.Machine.execFabricTimeLost t s
  | .freqCodeStep p => Sys2Proof.Machine.execFreqCodeStep p s
  | .stripDroop p strip => Sys2Proof.Machine.execStripDroop p strip s
  | .fllUnfreeze p => Sys2Proof.Machine.execFllUnfreeze p s
  | .cpmAdjust d up => Sys2Proof.Machine.execCpmAdjust d up s
  | .clockMeshFault p => Sys2Proof.Machine.execClockMeshFault p s
  | .partnerWaitExpiry p slot => Sys2Proof.Machine.execPartnerWaitExpiry p slot s
  | .replayStart p slot => Sys2Proof.Machine.execReplayStart p slot s
  | .replayComplete p slot upset f => Sys2Proof.Machine.execReplayComplete p slot upset f s
  | .strikeWindowExpiry p => Sys2Proof.Machine.execStrikeWindowExpiry p s
  | .spareRetentionReturn p => Sys2Proof.Machine.execSpareRetentionReturn p s
  | .stepDigestForm c => Sys2Proof.Machine.execStepDigestForm c s
  | .digestRecordArrival c peer slot => Sys2Proof.Machine.execDigestRecordArrival c peer slot s
  | .peerDigestTimeout c peer t => Sys2Proof.Machine.execPeerDigestTimeout c peer t s
  | .contextRewind c => Sys2Proof.Machine.execContextRewind c s
  | .regionDigestGo req v => Sys2Proof.Machine.execRegionDigestGo req v s
  | .regionDigestComplete => Sys2Proof.Machine.execRegionDigestComplete s
  | .regionDigestInterval => Sys2Proof.Machine.execRegionDigestInterval s
  | .pyriteQueue req v => Sys2Proof.Machine.execPyriteQueue req v s
  | .pyriteRunStart sigOk => Sys2Proof.Machine.execPyriteRunStart sigOk s
  | .pyriteRunEnd result fails row col repairs => Sys2Proof.Machine.execPyriteRunEnd result fails row col repairs s
  | .knownAnswerStart req v sigOk => Sys2Proof.Machine.execKnownAnswerStart req v sigOk s
  | .knownAnswerComplete mismatch => Sys2Proof.Machine.execKnownAnswerComplete mismatch s
  | .contextEnable req c v => Sys2Proof.Machine.execContextEnable req c v s
  | .contextDisable req c v => Sys2Proof.Machine.execContextDisable req c v s
  | .contextReset req c v => Sys2Proof.Machine.execContextReset req c v s
  | .cpResetRequest req c v => Sys2Proof.Machine.execCpResetRequest req c v s
  | .resetTransferWaitEnd c expired => Sys2Proof.Machine.execResetTransferWaitEnd c expired s
  | .doorbell req c v => Sys2Proof.Machine.execDoorbell req c v s
  | .commandFetch c => Sys2Proof.Machine.execCommandFetch c s
  | .cmdNop c index => Sys2Proof.Machine.execCmdNop c index s
  | .cmdRun c index rank => Sys2Proof.Machine.execCmdRun c index rank s
  | .cmdTime c index => Sys2Proof.Machine.execCmdTime c index s
  | .cmdTimeExpiry c index t => Sys2Proof.Machine.execCmdTimeExpiry c index t s
  | .cmdWrite c index => Sys2Proof.Machine.execCmdWrite c index s
  | .partitionCreate req q v => Sys2Proof.Machine.execPartitionCreate req q v s
  | .partitionDestroy req q v => Sys2Proof.Machine.execPartitionDestroy req q v s
  | .quantumExpiry q => Sys2Proof.Machine.execQuantumExpiry q s
  | .switchSaveComplete p => Sys2Proof.Machine.execSwitchSaveComplete p s
  | .switchRestoreComplete p => Sys2Proof.Machine.execSwitchRestoreComplete p s
  | .evtRdWrite req ring v => Sys2Proof.Machine.execEvtRdWrite req ring v s
  | .watermarkHoldoffExpiry ring cmd => Sys2Proof.Machine.execWatermarkHoldoffExpiry ring cmd s
  | .hostPerstAssert h => Sys2Proof.Machine.execHostPerstAssert h s
  | .hostPerstDeassert h t => Sys2Proof.Machine.execHostPerstDeassert h t s
  | .hostHotReset h => Sys2Proof.Machine.execHostHotReset h s
  | .hostLinkUp h speed width => Sys2Proof.Machine.execHostLinkUp h speed width s
  | .vfFlr h fn => Sys2Proof.Machine.execVfFlr h fn s
  | .pfFlr h => Sys2Proof.Machine.execPfFlr h s
  | .hostConfigRequest h fn write item v t => Sys2Proof.Machine.execHostConfigRequest h fn write item v t s
  | .hostInboundRead h fn bar off n fbe lbe => Sys2Proof.Machine.execHostInboundRead h fn bar off n fbe lbe s
  | .hostInboundWrite h fn bar off data fbe lbe ep => Sys2Proof.Machine.execHostInboundWrite h fn bar off data fbe lbe ep s
  | .hostReadCompletion h fn off len data status ep => Sys2Proof.Machine.execHostReadCompletion h fn off len data status ep s
  | .hostCompletionTimeout h fn off len => Sys2Proof.Machine.execHostCompletionTimeout h fn off len s
  | .flitReceive port flit corrected uncorrectable => Sys2Proof.Machine.execFlitReceive port flit corrected uncorrectable s
  | .flitReplayTimeout port t => Sys2Proof.Machine.execFlitReplayTimeout port t s
  | .fabricLinkTrained port lanes lowRate peer peerPort => Sys2Proof.Machine.execFabricLinkTrained port lanes lowRate peer peerPort s
  | .fabricWindowWrite port pkt => Sys2Proof.Machine.execFabricWindowWrite port pkt s
  | .fabricWindowRead port pkt => Sys2Proof.Machine.execFabricWindowRead port pkt s
  | .fabricWriteAck port pkt => Sys2Proof.Machine.execFabricWriteAck port pkt s
  | .fabricReadData port pkt => Sys2Proof.Machine.execFabricReadData port pkt s
  | .fabricRefusal port pkt => Sys2Proof.Machine.execFabricRefusal port pkt s
  | .transactionTimeout slot t => Sys2Proof.Machine.execTransactionTimeout slot t s
  | .pairStateExpiry n t => Sys2Proof.Machine.execPairStateExpiry n t s
  | .discoveryQuery port frame => Sys2Proof.Machine.execDiscoveryQuery port frame s
  | .discoveryAssign port frame => Sys2Proof.Machine.execDiscoveryAssign port frame s
  | .discoveryRouteWrite port frame => Sys2Proof.Machine.execDiscoveryRouteWrite port frame s
  | .discoveryResponse port frame => Sys2Proof.Machine.execDiscoveryResponse port frame s
  | .fabNodeWrite req v => Sys2Proof.Machine.execFabNodeWrite req v s
  | .scheduleSlotStart port e cycle t => Sys2Proof.Machine.execScheduleSlotStart port e cycle t s
  | .scheduleSlotEnd port t => Sys2Proof.Machine.execScheduleSlotEnd port t s
  | .fabricDegrade port good => Sys2Proof.Machine.execFabricDegrade port good s
  | .lowrateIdleEntry port t => Sys2Proof.Machine.execLowrateIdleEntry port t s
  | .lowrateReq req port v => Sys2Proof.Machine.execLowrateReq req port v s
  | .railStepComplete port => Sys2Proof.Machine.execRailStepComplete port s
  | .wakeReq req port v => Sys2Proof.Machine.execWakeReq req port v s
  | .wakeSlotLead port e cycle t => Sys2Proof.Machine.execWakeSlotLead port e cycle t s
  | .portWakeComplete port lanes => Sys2Proof.Machine.execPortWakeComplete port lanes s
  | .fabricLos port => Sys2Proof.Machine.execFabricLos port s
  | .jobAbortFrame port frame => Sys2Proof.Machine.execJobAbortFrame port frame s
  | .abortRecordExpiry n t => Sys2Proof.Machine.execAbortRecordExpiry n t s
  | .inputUndervoltageWarn mv cur => Sys2Proof.Machine.execInputUndervoltageWarn mv cur s
  | .powerFail mv cur => Sys2Proof.Machine.execPowerFail mv cur s
  | .inputOvervoltageWarn mv cur => Sys2Proof.Machine.execInputOvervoltageWarn mv cur s
  | .overvoltageShutdown mv cur => Sys2Proof.Machine.execOvervoltageShutdown mv cur s
  | .inputRecovery slotId recov => Sys2Proof.Machine.execInputRecovery slotId recov s
  | .moduleIsolate m => Sys2Proof.Machine.execModuleIsolate m s
  | .domainSoftStart d => Sys2Proof.Machine.execDomainSoftStart d s
  | .softStartCheck d mv ma inLimit t => Sys2Proof.Machine.execSoftStartCheck d mv ma inLimit t s
  | .domainRetry d t => Sys2Proof.Machine.execDomainRetry d t s
  | .domainOvercurrent d mv ma t => Sys2Proof.Machine.execDomainOvercurrent d mv ma t s
  | .retentionEntry p => Sys2Proof.Machine.execRetentionEntry p s
  | .retentionWake p => Sys2Proof.Machine.execRetentionWake p s
  | .currentLimitSample mv cur => Sys2Proof.Machine.execCurrentLimitSample mv cur s
  | .hardBrake mv cur => Sys2Proof.Machine.execHardBrake mv cur s
  | .hardBrakeRelease mv cur t => Sys2Proof.Machine.execHardBrakeRelease mv cur t s
  | .prepositionStart p => Sys2Proof.Machine.execPrepositionStart p s
  | .capLoop obs droops stretched => Sys2Proof.Machine.execCapLoop obs droops stretched s
  | .capGrantWrite req v => Sys2Proof.Machine.execCapGrantWrite req v s
  | .throtReqAssert => Sys2Proof.Machine.execThrotReqAssert s
  | .throtReqDeassert => Sys2Proof.Machine.execThrotReqDeassert s
  | .rackReq req v => Sys2Proof.Machine.execRackReq req v s
  | .thermalSample readings => Sys2Proof.Machine.execThermalSample readings s
  | .dailyOffsetUpdate => Sys2Proof.Machine.execDailyOffsetUpdate s
  | .vminClear req d v => Sys2Proof.Machine.execVminClear req d v s
  | .energyAttribution e arrays traffic dev => Sys2Proof.Machine.execEnergyAttribution e arrays traffic dev s
  | .poolIntervalBoundary stalled resident => Sys2Proof.Machine.execPoolIntervalBoundary stalled resident s
  | .poolLoanDecision => Sys2Proof.Machine.execPoolLoanDecision s
  | .poolSlackFrame frame => Sys2Proof.Machine.execPoolSlackFrame frame s
  | .poolLoanFrame frame => Sys2Proof.Machine.execPoolLoanFrame frame s
  | .poolAcceptFrame frame => Sys2Proof.Machine.execPoolAcceptFrame frame s
  | .poolRefuseFrame frame => Sys2Proof.Machine.execPoolRefuseFrame frame s
  | .poolRecallFrame frame => Sys2Proof.Machine.execPoolRecallFrame frame s
  | .poolReleaseFrame frame => Sys2Proof.Machine.execPoolReleaseFrame frame s
  | .poolLeaseEnd t => Sys2Proof.Machine.execPoolLeaseEnd t s
  | .poolLenderTimeout t => Sys2Proof.Machine.execPoolLenderTimeout t s
  | .powerOn => Sys2Proof.Machine.execPowerOn s
  | .coldRstLAssert => Sys2Proof.Machine.execColdRstLAssert s
  | .coldRstLDeassert slotId recov => Sys2Proof.Machine.execColdRstLDeassert slotId recov s
  | .bringupStageEnd t e => Sys2Proof.Machine.execBringupStageEnd t e s
  | .deviceReset req v => Sys2Proof.Machine.execDeviceReset req v s
  | .fieldReset req v mesh test => Sys2Proof.Machine.execFieldReset req v mesh test s
  | .arrayReset req v mesh test => Sys2Proof.Machine.execArrayReset req v mesh test s
  | .seamLaneMonitor seg bundle group lane errs link => Sys2Proof.Machine.execSeamLaneMonitor seg bundle group lane errs link s
  | .mgmtBusRetire bus field => Sys2Proof.Machine.execMgmtBusRetire bus field s
  | .dispatcherHeartbeat t => Sys2Proof.Machine.execDispatcherHeartbeat t s
  | .dispatcherFailover reported t => Sys2Proof.Machine.execDispatcherFailover reported t s
  | .repairSetShiftMap req v => Sys2Proof.Machine.execRepairSetShiftMap req v s
  | .repairSetRowMap req v => Sys2Proof.Machine.execRepairSetRowMap req v s
  | .repairRetireArray req v => Sys2Proof.Machine.execRepairRetireArray req v s
  | .repairRevoke req v => Sys2Proof.Machine.execRepairRevoke req v s
  | .repairTestModule req v => Sys2Proof.Machine.execRepairTestModule req v s
  | .moduleTestComplete pass => Sys2Proof.Machine.execModuleTestComplete pass s
  | .hangSample cycles => Sys2Proof.Machine.execHangSample cycles s
  | .watchdogExpiry c => Sys2Proof.Machine.execWatchdogExpiry c s
  | .entdaa t addr => Sys2Proof.Machine.execEntdaa t addr s
  | .rstdaa t => Sys2Proof.Machine.execRstdaa t s
  | .enec t ibi hotJoin => Sys2Proof.Machine.execEnec t ibi hotJoin s
  | .disec t ibi hotJoin => Sys2Proof.Machine.execDisec t ibi hotJoin s
  | .getpid t => Sys2Proof.Machine.execGetpid t s
  | .getbcr t => Sys2Proof.Machine.execGetbcr t s
  | .getdcr t => Sys2Proof.Machine.execGetdcr t s
  | .getstatus t => Sys2Proof.Machine.execGetstatus t s
  | .getmrl t => Sys2Proof.Machine.execGetmrl t s
  | .setmrl t n => Sys2Proof.Machine.execSetmrl t n s
  | .getmwl t => Sys2Proof.Machine.execGetmwl t s
  | .setmwl t n => Sys2Proof.Machine.execSetmwl t n s
  | .getmxds t => Sys2Proof.Machine.execGetmxds t s
  | .rstact t action => Sys2Proof.Machine.execRstact t action s
  | .i3cHotJoin t => Sys2Proof.Machine.execI3cHotJoin t s
  | .setEndpointId req eid => Sys2Proof.Machine.execSetEndpointId req eid s
  | .getEndpointId req => Sys2Proof.Machine.execGetEndpointId req s
  | .getMctpVersionSupport => Sys2Proof.Machine.execGetMctpVersionSupport s
  | .getMessageTypeSupport => Sys2Proof.Machine.execGetMessageTypeSupport s
  | .getEndpointUuid => Sys2Proof.Machine.execGetEndpointUuid s
  | .getTid req => Sys2Proof.Machine.execGetTid req s
  | .setTid req tid => Sys2Proof.Machine.execSetTid req tid s
  | .getPldmTypes req => Sys2Proof.Machine.execGetPldmTypes req s
  | .getPldmCommands req ty => Sys2Proof.Machine.execGetPldmCommands req ty s
  | .getPldmVersion req ty => Sys2Proof.Machine.execGetPldmVersion req ty s
  | .getPdrRepositoryInfo req => Sys2Proof.Machine.execGetPdrRepositoryInfo req s
  | .getPdr req n => Sys2Proof.Machine.execGetPdr req n s
  | .getSensorReading req id => Sys2Proof.Machine.execGetSensorReading req id s
  | .getStateSensorReadings req id => Sys2Proof.Machine.execGetStateSensorReadings req id s
  | .setNumericEffecterValue req id v => Sys2Proof.Machine.execSetNumericEffecterValue req id v s
  | .getNumericEffecterValue req id => Sys2Proof.Machine.execGetNumericEffecterValue req id s
  | .setEventReceiver req => Sys2Proof.Machine.execSetEventReceiver req s
  | .eventMessageBufferSize req n => Sys2Proof.Machine.execEventMessageBufferSize req n s
  | .queryDeviceIdentifiers req => Sys2Proof.Machine.execQueryDeviceIdentifiers req s
  | .getFirmwareParameters req => Sys2Proof.Machine.execGetFirmwareParameters req s
  | .requestUpdate req => Sys2Proof.Machine.execRequestUpdate req s
  | .passComponentTable req => Sys2Proof.Machine.execPassComponentTable req s
  | .updateComponent req id => Sys2Proof.Machine.execUpdateComponent req id s
  | .firmwareDataResponse req off data => Sys2Proof.Machine.execFirmwareDataResponse req off data s
  | .transferComplete req last => Sys2Proof.Machine.execTransferComplete req last s
  | .fwVerifyComplete sig hash => Sys2Proof.Machine.execFwVerifyComplete sig hash s
  | .verifyComplete req => Sys2Proof.Machine.execVerifyComplete req s
  | .activateFirmware req => Sys2Proof.Machine.execActivateFirmware req s
  | .getStatus req => Sys2Proof.Machine.execGetStatus req s
  | .cancelUpdateComponent req => Sys2Proof.Machine.execCancelUpdateComponent req s
  | .cancelUpdate req => Sys2Proof.Machine.execCancelUpdate req s
  | .claimOwnership req prio id => Sys2Proof.Machine.execClaimOwnership req prio id s
  | .releaseOwnership req id => Sys2Proof.Machine.execReleaseOwnership req id s
  | .handOver req kind path node id => Sys2Proof.Machine.execHandOver req kind path node id s
  | .getOwner req => Sys2Proof.Machine.execGetOwner req s
  | .readRegister req off => Sys2Proof.Machine.execReadRegister req off s
  | .writeRegister req off v => Sys2Proof.Machine.execWriteRegister req off v s
  | .readLifetime req space first count => Sys2Proof.Machine.execReadLifetime req space first count s
  | .confirmFirmware req => Sys2Proof.Machine.execConfirmFirmware req s
  | .coldReset req => Sys2Proof.Machine.execColdReset req s
  | .getVersion req => Sys2Proof.Machine.execGetVersion req s
  | .getCapabilities req => Sys2Proof.Machine.execGetCapabilities req s
  | .negotiateAlgorithms req ecdsaP384 sha384 => Sys2Proof.Machine.execNegotiateAlgorithms req ecdsaP384 sha384 s
  | .getDigests req => Sys2Proof.Machine.execGetDigests req s
  | .getCertificate req slot off len => Sys2Proof.Machine.execGetCertificate req slot off len s
  | .challenge req nonce => Sys2Proof.Machine.execChallenge req nonce s
  | .getMeasurements req idx nonce => Sys2Proof.Machine.execGetMeasurements req idx nonce s
  | .claimCtlClaim req v => Sys2Proof.Machine.execClaimCtlClaim req v s
  | .claimCtlRelease req v => Sys2Proof.Machine.execClaimCtlRelease req v s
  | .claimCtlHandOver req v => Sys2Proof.Machine.execClaimCtlHandOver req v s
  | .leaseLapse t => Sys2Proof.Machine.execLeaseLapse t s
  | .handoverExpiry t => Sys2Proof.Machine.execHandoverExpiry t s
  | .fwCtlConfirm req v => Sys2Proof.Machine.execFwCtlConfirm req v s
  | .fwCtlActivate req v => Sys2Proof.Machine.execFwCtlActivate req v s
  | .fwCtlCancel req v => Sys2Proof.Machine.execFwCtlCancel req v s
  | .fwCtlColdReq req v => Sys2Proof.Machine.execFwCtlColdReq req v s
  | .trialWindowExpiry => Sys2Proof.Machine.execTrialWindowExpiry s
  | .lifetimeFlush => Sys2Proof.Machine.execLifetimeFlush s
  | .tileBoundary p upset => Sys2Proof.Machine.execTileBoundary p upset s
  | .sendAcknowledgement n => Sys2Proof.Machine.execSendAcknowledgement n s
  | .domainRampComplete d => Sys2Proof.Machine.execDomainRampComplete d s
  | .fabricSignalDetect port => Sys2Proof.Machine.execFabricSignalDetect port s
  | .droopRecovery p => Sys2Proof.Machine.execDroopRecovery p s
  | .domainVminExcursion d v t => Sys2Proof.Machine.execDomainVminExcursion d v t s
  | .hbmLaneRepairComplete site x => Sys2Proof.Machine.execHbmLaneRepairComplete site x s
  | .coldResetDelayExpiry t => Sys2Proof.Machine.execColdResetDelayExpiry t s
  | .correctableLinkError h => Sys2Proof.Machine.execCorrectableLinkError h s

end Sys2Proof.Machine
end

