-- ==== Sys2Proof/Machine/Idle.lean ====
section
/-!
DEFINITION. What the device does by itself on an empty queue (notes/assumptions/3): a tick of the Quartz master passes (09_sync_time
R309), posted stores that no fence has asked for are performed (06_control_isa R197), the dispatcher schedules (11_contexts R387), and
sensors whose state has changed notify their receiver (15_management R523).
-/
namespace Sys2Proof.Machine

/-- One tick of an empty queue. While the device is not powered only time passes. -/
def State.idle (s : State) : State :=
  let s := { s with now := s.now + 1 }
  if s.power.down ≠ 0 then s
  else ((List.range 18).foldl (fun s p => if (s.arr p).runs && !(s.arr p).ctrl.stores.isEmpty then s.drainStores p else s) s).dispatch.sensorNotices

end Sys2Proof.Machine
end

