-- ==== Sys2Proof/Safety.lean ====
section
/-!
DEFINITION. What counts as a safe state and a safe run of the device.
-/
namespace Sys2Proof.Machine

/-- A safe state: its memory has the canonical form. -/
def State.Safe (s : State) : Prop := Memory.wf s.mem = true

/-- A step that answers a next state: the device neither stops with a fault nor lacks a meaning. -/
def State.goesOn (s : State) : Prop := ∃ t, step s = .next t

/-- A state that n steps lead to from a state. -/
inductive Reaches : State → State → Prop where
  | refl (s : State) : Reaches s s
  | step (s t u : State) : Reaches s t → step t = .next u → Reaches s u

end Sys2Proof.Machine
end

