-- ==== Sys2Proof/Safety/Words.lean ====
section
/-!
DEFINITION. The instruction words of Gexa-C and Gexa-S written from their formats (04_core_mode, Instruction formats; 06_control_isa
R193), when a core or a controller stands before a word, and the tables of instructions of one shape that statements go through.
-/
namespace Sys2Proof.Machine

/-- Format R of Gexa-C: op [31:27], d [26:23], a [22:19], b [18:15], e [14:11], sz [10:8], fn [7:0]. -/
def wordR (op d a b e sz fn : Nat) : Word :=
  BitVec.ofNat 32 (op * 2 ^ 27 + d * 2 ^ 23 + a * 2 ^ 19 + b * 2 ^ 15 + e * 2 ^ 11 + sz * 2 ^ 8 + fn)

/-- Format I: op, d, a, fn [18:15], imm15. -/
def wordI (op d a fn : Nat) (imm : BitVec 15) : Word :=
  BitVec.ofNat 32 (op * 2 ^ 27 + d * 2 ^ 23 + a * 2 ^ 19 + fn * 2 ^ 15 + imm.toNat)

/-- Format L: op, d, imm23. -/
def wordL (op d : Nat) (imm : BitVec 23) : Word := BitVec.ofNat 32 (op * 2 ^ 27 + d * 2 ^ 23 + imm.toNat)

/-- Format B: op, a [26:23], b [22:19], cond [18:16], target [5:0]. -/
def wordB (op a b cond target : Nat) : Word := BitVec.ofNat 32 (op * 2 ^ 27 + a * 2 ^ 23 + b * 2 ^ 19 + cond * 2 ^ 16 + target)

/-- Format M: op, d, a, kind [18:16], inc [15], off12. -/
def wordM (op d a kind inc off : Nat) : Word :=
  BitVec.ofNat 32 (op * 2 ^ 27 + d * 2 ^ 23 + a * 2 ^ 19 + kind * 2 ^ 16 + inc * 2 ^ 15 + off)

/-- Format S of sig: op, ca [26:23], imm16. -/
def wordSig (a : Nat) (imm : BitVec 16) : Word := BitVec.ofNat 32 (0x18 * 2 ^ 27 + a * 2 ^ 23 + imm.toNat)

/-- Format S of wait: op, k [26:25], threshold [14:0]. -/
def wordWait (k thr : Nat) : Word := BitVec.ofNat 32 (0x19 * 2 ^ 27 + k * 2 ^ 25 + thr)

/-- Base format of Gexa-S: major [31:26], dst [25:21], srcA [20:16], srcB [15:11], fn [10:0]. -/
def wordG (major d a b fn : Nat) : Word := BitVec.ofNat 32 (major * 2 ^ 26 + d * 2 ^ 21 + a * 2 ^ 16 + b * 2 ^ 11 + fn)

/-- R124, R128: a running core issues, and its program counter names a word. -/
def State.coreAt (s : State) (core : CoreId) (w : Word) : Prop :=
  s.coreIssues core.toNat = true ∧ (s.core core.toNat).status = 1 ∧ (s.core core.toNat).pc < (s.core core.toNat).prog.length
    ∧ nth 0#32 (s.core core.toNat).prog (s.core core.toNat).pc = w

/-- R191, R192: a controller issues, and its fetch gives a word; t is the state after the fetch. -/
def State.ctrlAt (s : State) (p : ArrayId) (w : Word) (t : State) : Prop :=
  s.ctrlIssues p.val = true ∧ (s.arr p.val).ctrl.pc.toNat % 4 = 0 ∧
    ∃ bs, s.fetchWord p.val (s.arr p.val).ctrl.pc.toNat = .ok bs t ∧ ofBytes bs = w.toNat

/-- R193: as ctrlAt for an instruction of two words. -/
def State.ctrlAt2 (s : State) (p : ArrayId) (w0 w1 : Word) (t : State) : Prop :=
  ∃ u, s.ctrlAt p w0 u ∧ ∃ bs, u.fetchWord p.val ((s.arr p.val).ctrl.pc.toNat + 4) = .ok bs t ∧ ofBytes bs = w1.toNat

/-- Scalar register i of a core, as a word. -/
def CoreState.c (c : CoreState) (i : Nat) : Word := BitVec.ofNat 32 (c.cget i)

/-- Vector register i of a core. -/
def CoreState.v (c : CoreState) (i : Nat) : BitVec 128 := BitVec.ofNat 128 (c.vget i)

/-- Accumulator i of a core. -/
def CoreState.a (c : CoreState) (i : Nat) : BitVec 512 := BitVec.ofNat 512 (c.aget i)

/-- Lane i of n bits of a register value. -/
def lane (n : Nat) {w : Nat} (x : BitVec w) (i : Nat) : BitVec n := (x >>> (n * i)).setWidth n

/-- Scalar register i of a controller. -/
def Ctrl.s (c : Ctrl) (i : Nat) : DWord := BitVec.ofNat 64 (c.sget i)

/-- The state after an instruction inside a core that falls through: the core as given, its program counter and loops moved on. -/
def State.coreDone (s : State) (core : CoreId) (c : CoreState) : State := s.setCore core.toNat (coreNext c)

/-- One where a condition holds, zero elsewhere. -/
def flagOf (n : Nat) (b : Bool) : BitVec n := if b then 1#n else 0#n

/-- A signed value held to the range of n bits. -/
def saturate (n : Nat) (x : Int) : BitVec n := BitVec.ofInt n (max (-2 ^ (n - 1)) (min (2 ^ (n - 1) - 1) x))

/-- The number of set bits. -/
def onesOf {n : Nat} (x : BitVec n) : Nat := ((List.range n).filter (fun i => x.getLsbD i)).length

/-- The number of leading zeros, n for zero. -/
def zerosOf {n : Nat} (x : BitVec n) : Nat := ((List.range n).takeWhile (fun i => !x.getMsbD i)).length

/-- R148: the scalar instructions of two registers, with fn of op 0x01 and what they give. -/
def coreBinary : List ((CoreId → Word → Instr) × Nat × (Word → Word → Word)) :=
  [(.gexaCAdd, 0x00, fun a b => a + b), (.gexaCSub, 0x01, fun a b => a - b), (.gexaCAnd, 0x02, fun a b => a &&& b),
   (.gexaCOr, 0x03, fun a b => a ||| b), (.gexaCXor, 0x04, fun a b => a ^^^ b), (.gexaCAndn, 0x14, fun a b => a &&& ~~~b),
   (.gexaCShl, 0x05, fun a b => a <<< (b.toNat % 32)), (.gexaCShr, 0x06, fun a b => a >>> (b.toNat % 32)),
   (.gexaCSra, 0x07, fun a b => a.sshiftRight (b.toNat % 32)), (.gexaCMin, 0x08, fun a b => if a.sle b then a else b),
   (.gexaCMax, 0x09, fun a b => if a.sle b then b else a), (.gexaCMinu, 0x0A, fun a b => if a.ule b then a else b),
   (.gexaCMaxu, 0x0B, fun a b => if a.ule b then b else a), (.gexaCMul, 0x0C, fun a b => a * b),
   (.gexaCMulhu, 0x0D, fun a b => BitVec.ofNat 32 (a.toNat * b.toNat / 2 ^ 32)), (.gexaCSlt, 0x0E, fun a b => flagOf 32 (a.slt b)),
   (.gexaCSltu, 0x0F, fun a b => flagOf 32 (a.ult b)), (.gexaCSeq, 0x10, fun a b => flagOf 32 (a == b)),
   (.gexaCSne, 0x11, fun a b => flagOf 32 (a != b))]

/-- R148: the scalar instructions of one register, with fn of op 0x01. -/
def coreUnary : List ((CoreId → Word → Instr) × Nat × (Word → Word)) :=
  [(.gexaCClz, 0x12, fun a => BitVec.ofNat 32 (zerosOf a)), (.gexaCPopc, 0x13, fun a => BitVec.ofNat 32 (onesOf a))]

/-- R148: the scalar instructions with a sign-extended immediate, with fn of op 0x02. -/
def coreImmediate : List ((CoreId → Word → Instr) × Nat × (Word → Word → Word)) :=
  [(.gexaCAddi, 0, fun a b => a + b), (.gexaCAndi, 1, fun a b => a &&& b), (.gexaCOri, 2, fun a b => a ||| b),
   (.gexaCXori, 3, fun a b => a ^^^ b), (.gexaCShli, 4, fun a b => a <<< (b.toNat % 32)),
   (.gexaCShri, 5, fun a b => a >>> (b.toNat % 32)), (.gexaCSrai, 6, fun a b => a.sshiftRight (b.toNat % 32)),
   (.gexaCSlti, 7, fun a b => flagOf 32 (a.slt b)), (.gexaCSltui, 8, fun a b => flagOf 32 (a.ult b)),
   (.gexaCSeqi, 9, fun a b => flagOf 32 (a == b))]

/-- R148: the branches, with their condition code, whether they name ca and cb, and their condition. -/
def coreBranches : List ((CoreId → Word → Instr) × Nat × Bool × Bool × (Word → Word → Bool)) :=
  [(.gexaCB, 0, false, false, fun _ _ => true), (.gexaCBz, 1, true, false, fun a _ => a == 0#32),
   (.gexaCBnz, 2, true, false, fun a _ => a != 0#32), (.gexaCBlt, 3, true, true, fun a b => a.slt b),
   (.gexaCBge, 4, true, true, fun a b => b.sle a), (.gexaCBltu, 5, true, true, fun a b => a.ult b),
   (.gexaCBgeu, 6, true, true, fun a b => b.ule a), (.gexaCBeq, 7, true, true, fun a b => a == b)]

/-- R149: vop and vops: fn, and what they give in a lane of n bits. -/
def coreLanes : List ((CoreId → Word → Instr) × (CoreId → Word → Instr) × Nat × ((n : Nat) → BitVec n → BitVec n → BitVec n)) :=
  [(.vopAdd, .vopsAdd, 0x0, fun _ a b => a + b), (.vopSub, .vopsSub, 0x1, fun _ a b => a - b),
   (.vopAdds, .vopsAdds, 0x2, fun n a b => saturate n (a.toInt + b.toInt)), (.vopSubs, .vopsSubs, 0x3, fun n a b => saturate n (a.toInt - b.toInt)),
   (.vopMin, .vopsMin, 0x4, fun _ a b => if a.sle b then a else b), (.vopMax, .vopsMax, 0x5, fun _ a b => if a.sle b then b else a),
   (.vopMinu, .vopsMinu, 0x6, fun _ a b => if a.ule b then a else b), (.vopMaxu, .vopsMaxu, 0x7, fun _ a b => if a.ule b then b else a),
   (.vopAnd, .vopsAnd, 0x8, fun _ a b => a &&& b), (.vopOr, .vopsOr, 0x9, fun _ a b => a ||| b), (.vopXor, .vopsXor, 0xA, fun _ a b => a ^^^ b),
   (.vopShl, .vopsShl, 0xB, fun n a b => a <<< (b.toNat % n)), (.vopShr, .vopsShr, 0xC, fun n a b => a >>> (b.toNat % n)),
   (.vopSra, .vopsSra, 0xD, fun n a b => a.sshiftRight (b.toNat % n)), (.vopAbs, .vopsAbs, 0xE, fun n a _ => if a.slt 0#n then 0#n - a else a),
   (.vopMul, .vopsMul, 0xF, fun _ a b => a * b)]

/-- R149: vcmp: fn, and its relation. -/
def coreCompares : List ((CoreId → Word → Instr) × Nat × ((n : Nat) → BitVec n → BitVec n → Bool)) :=
  [(.vcmpEq, 0, fun _ a b => a == b), (.vcmpNe, 1, fun _ a b => a != b), (.vcmpLt, 2, fun _ a b => a.slt b), (.vcmpLe, 3, fun _ a b => a.sle b),
   (.vcmpGt, 4, fun _ a b => b.slt a), (.vcmpGe, 5, fun _ a b => b.sle a), (.vcmpLtu, 6, fun _ a b => a.ult b), (.vcmpLeu, 7, fun _ a b => a.ule b),
   (.vcmpGtu, 8, fun _ a b => b.ult a), (.vcmpGeu, 9, fun _ a b => b.ule a)]

/-- R149: the reductions, with fn, on the lanes of a register, lane 0 first. -/
def coreReduce : List ((CoreId → Word → Instr) × Nat × ((n : Nat) → List (BitVec n) → Word)) :=
  [(.vredSum, 4, fun _ l => BitVec.ofInt 32 ((l.map (fun x => x.toInt)).foldl (fun a x => a + x) 0)),
   (.vredMaxu, 2, fun _ l => BitVec.ofNat 32 ((l.map (fun x => x.toNat)).foldl max 0)),
   (.vredMinu, 3, fun n l => BitVec.ofNat 32 ((l.map (fun x => x.toNat)).foldl min (2 ^ n - 1))),
   (.vredArgmaxu, 5, fun _ l => BitVec.ofNat 32 (l.findIdx (fun x => l.all (fun y => y.ule x)))),
   (.vredCnt, 6, fun n l => BitVec.ofNat 32 ((l.filter (fun x => x != 0#n)).length)),
   (.vredFirst, 7, fun n l => BitVec.ofNat 32 (l.findIdx (fun x => x != 0#n)))]

/-- The n-bit lanes of a vector register value, lane 0 first. -/
def lanesList (n : Nat) (x : BitVec 128) : List (BitVec n) := (List.range (128 / n)).map (lane n x)

/-- Whether a BF16 lane is a NaN. -/
def bfNan (x : BitVec 16) : Bool := x.extractLsb' 7 8 == 0xFF#8 && x.extractLsb' 0 7 != 0#7

/-- R151: the key of a BF16 lane. -/
def bfKeyOf (x : BitVec 16) : BitVec 16 :=
  if bfNan x then 0#16 else if x = 0x8000#16 then 0x8000#16 else if x.msb then ~~~x else x ^^^ 0x8000#16

/-- R149, R133: the slate accesses: load, store, kind, size in bytes, data registers. -/
def coreSlate : List ((CoreId → Word → Instr) × (CoreId → Word → Instr) × Nat × Nat × Nat) :=
  [(.gexaCLdW, .gexaCStW, 0, 4, 16), (.gexaCLdHu, .gexaCStH, 1, 2, 16), (.gexaCLdBu, .gexaCStB, 2, 1, 16), (.gexaCLdV, .gexaCStV, 3, 16, 8),
   (.gexaCLdAl, .gexaCStAl, 4, 32, 4), (.gexaCLdAh, .gexaCStAh, 5, 32, 4), (.gexaCLdA, .gexaCStA, 6, 64, 4)]

/-- R133, R149: the address of a slate access of a core: ca + off12. -/
def slateAt (c : CoreState) (a off : Nat) : Nat := (c.c a + BitVec.ofNat 32 off).toNat

/-- R133: an access of a size at an offset lies in the core-mode region and is aligned. -/
def State.slateFits (s : State) (core : CoreId) (size a : Nat) : Prop := a + size ≤ s.coreRegion core.toNat ∧ a % size = 0

/-- R149: a core after the increment of an access with inc. -/
def afterInc (c : CoreState) (a inc size : Nat) : CoreState := if inc = 1 then c.cset a (c.cget a + size) else c

/-- R143: a core may be the target of a message of a core of a run. -/
def State.reachesCore (s : State) (core : CoreId) (t : Nat) : Prop := s.meshTarget (s.coreCtx core.toNat) t = true

end Sys2Proof.Machine
end

