-- ==== Sys2Proof/Safety/Tables.lean ====
section
/-!
DEFINITION. The tables of the controller instructions of one shape that statements go through (06_control_isa R195, R202, R217 to R223).
-/
namespace Sys2Proof.Machine

/-- R195: the instructions of two scalar registers, with fn of major 0x01 and what they give. -/
def ctrlBinary : List ((ArrayId → Word → Instr) × Nat × (DWord → DWord → DWord)) :=
  [(.gexaSAdd, 0x00, fun a b => a + b), (.gexaSSub, 0x01, fun a b => a - b), (.gexaSAnd, 0x02, fun a b => a &&& b),
   (.gexaSOr, 0x03, fun a b => a ||| b), (.gexaSXor, 0x04, fun a b => a ^^^ b), (.gexaSAndn, 0x05, fun a b => a &&& ~~~b),
   (.gexaSShl, 0x06, fun a b => a <<< (b.toNat % 64)), (.gexaSShr, 0x07, fun a b => a >>> (b.toNat % 64)),
   (.gexaSSra, 0x08, fun a b => a.sshiftRight (b.toNat % 64)), (.gexaSMin, 0x09, fun a b => if a.sle b then a else b),
   (.gexaSMax, 0x0A, fun a b => if a.sle b then b else a), (.gexaSMinu, 0x0B, fun a b => if a.ule b then a else b),
   (.gexaSMaxu, 0x0C, fun a b => if a.ule b then b else a), (.gexaSMul, 0x0D, fun a b => a * b),
   (.gexaSMulhu, 0x0E, fun a b => BitVec.ofNat 64 (a.toNat * b.toNat / 2 ^ 64)),
   (.gexaSDivu, 0x0F, fun a b => if b = 0#64 then BitVec.allOnes 64 else BitVec.ofNat 64 (a.toNat / b.toNat)),
   (.gexaSRemu, 0x10, fun a b => if b = 0#64 then a else BitVec.ofNat 64 (a.toNat % b.toNat))]

/-- R195: the instructions of one scalar register, with fn of major 0x01. -/
def ctrlUnary : List ((ArrayId → Word → Instr) × Nat × (DWord → Nat)) :=
  [(.gexaSClz, 0x11, zerosOf), (.gexaSPopc, 0x12, onesOf)]

/-- R195: the instructions with a sign-extended imm11, with their major. -/
def ctrlImmediate : List ((ArrayId → Word → Instr) × Nat × (DWord → DWord → DWord)) :=
  [(.gexaSAddi, 0x02, fun a b => a + b), (.gexaSAndi, 0x03, fun a b => a &&& b), (.gexaSOri, 0x04, fun a b => a ||| b),
   (.gexaSXori, 0x05, fun a b => a ^^^ b)]

/-- R195: the shifts by fn[5:0] of major 0x06, with fn[7:6]. -/
def ctrlShifts : List ((ArrayId → Word → Instr) × Nat × (DWord → Nat → DWord)) :=
  [(.gexaSShli, 0, fun a n => a <<< n), (.gexaSShri, 1, fun a n => a >>> n), (.gexaSSrai, 2, fun a n => a.sshiftRight n)]

/-- R195: the predicate operations of major 0x0B, with fn[10:8]; pnot reads pa alone. -/
def ctrlPredicates : List ((ArrayId → Word → Instr) × Nat × (Bool → Bool → Bool)) :=
  [(.pand, 0, fun a b => a && b), (.predOr, 1, fun a b => a || b), (.pxor, 2, fun a b => a ^^ b), (.pandn, 3, fun a b => a && !b)]

/-- R195: the conditions of cmp and cmpi by code. -/
def ctrlConditions : List (DWord → DWord → Bool) :=
  [fun a b => a == b, fun a b => a != b, fun a b => a.slt b, fun a b => b.sle a, fun a b => a.ult b, fun a b => b.ule a,
   fun a b => (a &&& b) != 0#64]

/-- R195: the system values of sysr by index, but for the cycles of index 7; the others read 0. -/
def ctrlSystem (s : State) (p : Nat) : List (Option Nat) :=
  let a := s.arr p
  let n := (s.logOf p).getD 0
  [some n, some a.ctrl.ctx, some a.ctrl.gen, some (s.partRange (s.ctxPart a.ctrl.ctx)).1, some (s.partRange (s.ctxPart a.ctrl.ctx)).2,
   some (n % 2 ^ a.ctrl.gangNow.log2), some (2 ^ a.ctrl.gangNow.log2), none, some a.ctrl.retired, some a.aq.length, some a.vq.length,
   some a.dq.length, some (tblGet 0 a.lastOsn a.ctrl.ctx), some (a.ctrl.launch.getD 0#64).toNat, some a.ctrl.step]

/-- R202: the field selectors of dset and dget: selector, highest and lowest bit, whether dget sign-extends. -/
def ctrlSelectors : List (Nat × Nat × Nat × Bool) :=
  [(0x000, 47, 0, false), (0x001, 59, 48, false), (0x010, 95, 64, false), (0x011, 127, 96, false), (0x012, 159, 128, false),
   (0x013, 191, 160, false), (0x014, 223, 192, false), (0x018, 263, 224, true), (0x019, 303, 264, true), (0x01A, 343, 304, true),
   (0x01B, 383, 344, true), (0x01C, 423, 384, true), (0x020, 447, 424, false), (0x021, 471, 448, false), (0x022, 503, 472, true),
   (0x023, 471, 424, false)]

/-- A controller after its instruction: changed as given, then its program counter moved on by four bytes. -/
def State.ctrlDone (s : State) (p : ArrayId) (c : Ctrl) : State := (s.modCtrl p.val (fun _ => c)).ctrlNext p.val 4

/-- The controller of an array. -/
def State.ac (s : State) (p : ArrayId) : Ctrl := (s.arr p.val).ctrl

/-- R197: a controller with one more posted store, its cached line updated. -/
def Ctrl.posted (c : Ctrl) (va pa : Nat) (bs : List Byte) : Ctrl :=
  { c with
    stores := c.stores ++ [⟨va, pa, bs⟩]
    dcache := c.dcache.map (fun e => if e.1 = va / 64 then (e.1, overlayStores (e.1 * 64) e.2 [⟨va, pa, bs⟩]) else e) }

/-- R201, R204: a descriptor register holds a descriptor that a role takes: no check of it fails. -/
def goodDesc (d : BitVec 512) (layout : Nat) : Prop :=
  (descOf d).fmt.isSome = true ∧ (descOf d).fault = none ∧ (descOf d).layout = layout ∧ flatDims (descOf d) = true

/-- R224, R225: once its controller's posted stores are performed, none refused and none still on its way through a window, a queue of an
array has room. -/
def State.queueRoom (s : State) (p : ArrayId) (q : Nat) : Prop :=
  ((s.drainStores p.val).ac p).state = 1 ∧ (s.drainStores p.val).storesDone p.val = true ∧
    (((s.drainStores p.val).arr p.val).queue q).length < queueBound q

/-- R7 to R9, R405, R530: a write of v at an offset by a requester is taken whole: its path reaches the register, no device reset is in
progress, no field of it is dropped, and the register's own checks take it. -/
def State.accepts (s : State) (req : Requester) (off v : Nat) (e : RegEffect) : Prop :=
  s.takesWrite req off = true ∧ (s.written req off v).ownerDrop = false ∧ (s.written req off v).lockDrop = false ∧
    ¬((s.written req off v).acted = 0 ∧ (s.written req off v).value = (s.reg off).toNat ∧ v ≠ (s.reg off).toNat) ∧
    e.veto s req (s.written req off v).value (s.written req off v).acted = none ∧ (e.keep s (s.written req off v).value).2 = none

/-- The state in which a register holds what an accepted write leaves in it, before the write's own effect. -/
def State.holding (s : State) (req : Requester) (off v : Nat) (e : RegEffect) : State :=
  s.setReg off (BitVec.ofNat 32 (e.keep s (s.written req off v).value).1)

/-- What an accepted write leaves: the register's value, and its effect. -/
def State.afterWrite (s : State) (req : Requester) (off v : Nat) (e : RegEffect) : State :=
  e.act (s.holding req off v e) req (s.reg off).toNat (s.written req off v).acted

end Sys2Proof.Machine
end

