-- ==== Sys2Proof/Certificates/Slice0/Obligations.lean ====
section
/-!
DEFINITION. The statements about the device, for the provers.
-/
open Sys2Proof Sys2Proof.Machine

/-- Step at a state whose queue begins with a command is that command's effect with the queue's rest; on an empty queue the block idles,
which is the model's choice (notes/assumptions/3). -/
def Obligations.StepRunsFront : Prop :=
  (∀ (c : Instr) (s : State) (rest : List Instr), s.pending = c :: rest → step s = exec c { s with pending := rest }) ∧
  ∀ s : State, s.pending = [] → step s = .next s.idle

/-- The device right after reset: no command waits, memory has its canonical form, bring-up stands before stage 0, no context is enabled and
no partition exists, and every array, core, ring and queue is empty. -/
def Obligations.ResetState : Prop :=
  State.reset.pending = [] ∧ Memory.wf State.reset.mem = true ∧ State.reset.fld rBrpStatus 31 28 = 0 ∧ State.reset.fld rBrpStatus 27 25 = 0 ∧
    (∀ c < 512, State.reset.flag (rDspCtxCtl c) 30 = false ∧ State.reset.ctxState c = 0) ∧
    (∀ q < 16, State.reset.flag (rDspPartCtl q) 31 = false) ∧
    (∀ p < 18, (State.reset.arr p).aq = [] ∧ (State.reset.arr p).vq = [] ∧ (State.reset.arr p).dq = [] ∧ (State.reset.arr p).ctrl.state = 0) ∧
    (∀ i < 32, (State.reset.arr 0).ctrl.sget i = 0) ∧ (∀ k < 64, (State.reset.arr 0).ctr k = 0) ∧
    (∀ c, (State.reset.core c).cregs = [] ∧ (State.reset.core c).prog = [])

/-- From every state whose memory has its canonical form a step answers a next state, whose memory has it too; the fuses stand, and the
queue loses the command at its front. -/
def Obligations.StepGoesOnAndKeepsMemory : Prop :=
  ∀ s : State, Memory.wf s.mem = true → ∃ t, step s = .next t ∧ Memory.wf t.mem = true ∧ t.fuses = s.fuses ∧ t.pending = s.pending.drop 1

/-- R148: every scalar instruction of a core that stands before its word writes its result to cd and does nothing else but move the program
counter on. -/
def Obligations.CoreScalarResults : Prop :=
  (∀ r ∈ coreBinary, ∀ (core : CoreId) (s : State) (d a b : Nat), d < 16 → a < 16 → b < 16 →
    s.coreAt core (wordR 0x01 d a b 0 0 r.2.1) →
    exec (r.1 core (wordR 0x01 d a b 0 0 r.2.1)) s =
      .next (s.coreDone core ((s.core core.toNat).cset d (r.2.2 ((s.core core.toNat).c a) ((s.core core.toNat).c b)).toNat))) ∧
  ((∀ r ∈ coreUnary, ∀ (core : CoreId) (s : State) (d a : Nat), d < 16 → a < 16 → s.coreAt core (wordR 0x01 d a 0 0 0 r.2.1) →
    exec (r.1 core (wordR 0x01 d a 0 0 0 r.2.1)) s =
      .next (s.coreDone core ((s.core core.toNat).cset d (r.2.2 ((s.core core.toNat).c a)).toNat))) ∧
  (∀ (core : CoreId) (s : State) (d : Nat) (imm : BitVec 23), d < 16 → s.coreAt core (wordL 0x03 d imm) →
    exec (.gexaCLi core (wordL 0x03 d imm)) s = .next (s.coreDone core ((s.core core.toNat).cset d (imm.signExtend 32).toNat))) ∧
  (∀ (core : CoreId) (s : State) (d : Nat) (x : BitVec 16), d < 16 → s.coreAt core (wordL 0x04 d (x.setWidth 23)) →
    exec (.gexaCLih core (wordL 0x04 d (x.setWidth 23))) s =
      .next (s.coreDone core ((s.core core.toNat).cset d (x ++ ((s.core core.toNat).c d).setWidth 16).toNat))) ∧
  (∀ (core : CoreId) (s : State) (d a b e : Nat), d < 16 → a < 16 → b < 16 → e < 16 → s.coreAt core (wordR 0x05 d a b e 0 0) →
    exec (.gexaCSel core (wordR 0x05 d a b e 0 0)) s =
      .next (s.coreDone core ((s.core core.toNat).cset d ((s.core core.toNat).cget (if (s.core core.toNat).c e ≠ 0#32 then a else b)))))) ∧
  (∀ r ∈ coreImmediate, ∀ (core : CoreId) (s : State) (d a : Nat) (imm : BitVec 15), d < 16 → a < 16 →
    s.coreAt core (wordI 0x02 d a r.2.1 imm) →
    exec (r.1 core (wordI 0x02 d a r.2.1 imm)) s =
      .next (s.coreDone core ((s.core core.toNat).cset d (r.2.2 ((s.core core.toNat).c a) (imm.signExtend 32)).toNat)))

/-- R148, R149: a branch is taken when its condition holds, to a target inside the program; nop, halt and loop; where the body of the
innermost loop ends, the core goes back to its start while iterations are left, and leaves it after the last. R144: a core that another
core's fault has stopped in the cycle of that fault still issues its instruction of that cycle, and no more (notes/assumptions/111). -/
def Obligations.CoreControlResults : Prop :=
  (∀ r ∈ coreBranches, ∀ (core : CoreId) (s : State) (a b t : Nat), a < (if r.2.2.1 then 16 else 1) → b < (if r.2.2.2.1 then 16 else 1) →
    t < 64 → t < (s.core core.toNat).prog.length → s.coreAt core (wordB 0x06 a b r.2.1 t) →
    exec (r.1 core (wordB 0x06 a b r.2.1 t)) s =
      .next (if r.2.2.2.2 ((s.core core.toNat).c a) ((s.core core.toNat).c b)
        then s.setCore core.toNat (coreJump (s.core core.toNat) t) else s.coreDone core (s.core core.toNat))) ∧
  (∀ (core : CoreId) (s : State),
    (s.coreAt core (wordR 0 0 0 0 0 0 0) → exec (.gexaCNop core (wordR 0 0 0 0 0 0 0)) s = .next (s.coreDone core (s.core core.toNat))) ∧
    (s.coreAt core (wordR 0 0 0 0 0 0 1) →
      exec (.gexaCHalt core (wordR 0 0 0 0 0 0 1)) s = .next (s.setCore core.toNat { coreNext (s.core core.toNat) with status := 2 })) ∧
    (∀ a t, a < 16 → t < 64 → s.coreAt core (wordB 0x07 a 0 0 t) → (s.core core.toNat).pc < t → t < (s.core core.toNat).prog.length →
      (s.core core.toNat).loops.length < 2 → (∀ l ∈ (s.core core.toNat).loops, t ≤ l.stop) →
      exec (.gexaCLoop core (wordB 0x07 a 0 0 t)) s = .next (s.setCore core.toNat
        (if (s.core core.toNat).c a = 0#32
          then { s.core core.toNat with pc := (fallThrough t (s.core core.toNat).loops).1, loops := (fallThrough t (s.core core.toNat).loops).2 }
          else { s.core core.toNat with
            pc := (s.core core.toNat).pc + 1
            loops := ⟨(s.core core.toNat).pc + 1, t, (s.core core.toNat).cget a⟩ :: (s.core core.toNat).loops })))) ∧
  (∀ (c : CoreState) (l : LoopLvl) (ls : List LoopLvl), c.loops = l :: ls →
    (c.pc ≠ l.stop → coreNext c = { c with pc := c.pc + 1 }) ∧
    (c.pc = l.stop → 1 < l.left → coreNext c = { c with pc := l.start, loops := { l with left := l.left - 1 } :: ls }) ∧
    (c.pc = l.stop → l.left ≤ 1 → coreNext c = coreNext { c with loops := ls })) ∧
  (∀ (core : CoreId) (s : State), s.coreIssues core.toNat = true → s.coreLate core.toNat = true →
    (s.core core.toNat).pc < (s.core core.toNat).prog.length → nth 0#32 (s.core core.toNat).prog (s.core core.toNat).pc = wordR 0 0 0 0 0 0 0 →
    exec (.gexaCNop core (wordR 0 0 0 0 0 0 0)) s = .next ((s.coreDone core (s.core core.toNat)).coreSettled core.toNat))

/-- R124, R189: c0 and s0 read 0, p0 reads 1, and writes to them are discarded; every other scalar, predicate and descriptor register
holds what was written to it last. -/
def Obligations.RegisterFiles : Prop :=
  (∀ (c : CoreState) (d e v : Nat),
    (c.cset d v).c 0 = 0#32 ∧ (c.cset 0 v = c) ∧ (d ≠ 0 → (c.cset d v).c d = BitVec.ofNat 32 v) ∧ (d ≠ e → (c.cset d v).c e = c.c e)) ∧
  (∀ (c : Ctrl) (d e v : Nat) (b : Bool) (x : BitVec 512),
    (c.sput d v).s 0 = 0#64 ∧ c.sput 0 v = c ∧ (d ≠ 0 → (c.sput d v).s d = BitVec.ofNat 64 v) ∧ (d ≠ e → (c.sput d v).s e = c.s e) ∧
    (c.pput d b).pget 0 = true ∧ c.pput 0 b = c ∧ (d ≠ 0 → d < 8 → (c.pput d b).pget d = b) ∧ (d ≠ e → (c.pput d b).pget e = c.pget e) ∧
    (c.dput d x).dget d = x ∧ (d ≠ e → (c.dput d x).dget e = c.dget e))

/-- R148, R149: vop and vops: every lane of vd is the operation on the lanes of va and vb, or of va and the low bits of cb; abs ignores the
second operand. -/
def Obligations.CoreLaneResults : Prop :=
  ∀ r ∈ coreLanes, ∀ (core : CoreId) (s : State) (d a b sz : Nat), d < 8 → a < 8 → sz < 2 →
    (b < 8 → s.coreAt core (wordR 0x0A d a b 0 sz r.2.2.1) → ∃ x : BitVec 128,
      exec (r.1 core (wordR 0x0A d a b 0 sz r.2.2.1)) s = .next (s.coreDone core ((s.core core.toNat).vset d x.toNat)) ∧
      ∀ i < 16 / (sz + 1), lane (8 * (sz + 1)) x i =
        r.2.2.2 _ (lane (8 * (sz + 1)) ((s.core core.toNat).v a) i) (lane (8 * (sz + 1)) ((s.core core.toNat).v b) i)) ∧
    (b < 16 → s.coreAt core (wordR 0x0B d a b 0 sz r.2.2.1) → ∃ x : BitVec 128,
      exec (r.2.1 core (wordR 0x0B d a b 0 sz r.2.2.1)) s = .next (s.coreDone core ((s.core core.toNat).vset d x.toNat)) ∧
      ∀ i < 16 / (sz + 1), lane (8 * (sz + 1)) x i =
        r.2.2.2 _ (lane (8 * (sz + 1)) ((s.core core.toNat).v a) i) (((s.core core.toNat).c b).setWidth _))

/-- R149: vcmp gives all ones in each lane where the relation holds and zero elsewhere, against vb or against cb in every lane; vsel picks
lanes of va where those of ve are not 0 and of vb elsewhere. -/
def Obligations.CoreCompareResults : Prop :=
  (∀ r ∈ coreCompares, ∀ (core : CoreId) (s : State) (d a b sz : Nat), d < 8 → a < 8 → sz < 2 →
    (b < 8 → s.coreAt core (wordR 0x0C d a b 0 sz r.2.1) → ∃ x : BitVec 128,
      exec (r.1 core (wordR 0x0C d a b 0 sz r.2.1)) s = .next (s.coreDone core ((s.core core.toNat).vset d x.toNat)) ∧
      ∀ i < 16 / (sz + 1), lane (8 * (sz + 1)) x i =
        if r.2.2 _ (lane (8 * (sz + 1)) ((s.core core.toNat).v a) i) (lane (8 * (sz + 1)) ((s.core core.toNat).v b) i) then BitVec.allOnes _ else 0) ∧
    (b < 16 → s.coreAt core (wordR 0x0C d a b 0 sz (0x80 + r.2.1)) → ∃ x : BitVec 128,
      exec (r.1 core (wordR 0x0C d a b 0 sz (0x80 + r.2.1))) s = .next (s.coreDone core ((s.core core.toNat).vset d x.toNat)) ∧
      ∀ i < 16 / (sz + 1), lane (8 * (sz + 1)) x i =
        if r.2.2 _ (lane (8 * (sz + 1)) ((s.core core.toNat).v a) i) (((s.core core.toNat).c b).setWidth _) then BitVec.allOnes _ else 0)) ∧
  (∀ (core : CoreId) (s : State) (d a b e sz : Nat), d < 8 → a < 8 → b < 8 → e < 8 → sz < 2 → s.coreAt core (wordR 0x0D d a b e sz 0) →
    ∃ x : BitVec 128, exec (.vsel core (wordR 0x0D d a b e sz 0)) s = .next (s.coreDone core ((s.core core.toNat).vset d x.toNat)) ∧
      ∀ i < 16 / (sz + 1), lane (8 * (sz + 1)) x i =
        if lane (8 * (sz + 1)) ((s.core core.toNat).v e) i ≠ 0 then lane (8 * (sz + 1)) ((s.core core.toNat).v a) i
        else lane (8 * (sz + 1)) ((s.core core.toNat).v b) i)

/-- R148, R149: what the accumulator instructions leave in ad, cd or vd, lane by lane; vmac and vmul in their integer forms. -/
def Obligations.CoreAccumulatorResults : Prop :=
  ∀ (core : CoreId) (s : State) (d a b : Nat), a < 16 → b < 16 →
    (a < 8 → b < 8 → d < 4 → ∀ keep : Bool, ∀ w, w = wordR 0x0E d a b 0 0 (if keep then 0 else 1) → s.coreAt core w → ∃ x : BitVec 512,
      exec (if keep then .vmac core w else .vmul core w) s = .next (s.coreDone core ((s.core core.toNat).aset d x.toNat)) ∧
      ∀ i < 16, lane 32 x i = (lane 8 ((s.core core.toNat).v a) i).signExtend 32 * (lane 8 ((s.core core.toNat).v b) i).signExtend 32
        + if keep then lane 32 ((s.core core.toNat).a d) i else 0) ∧
    (a < 8 → b < 8 → d < 4 → ∀ keep : Bool, ∀ w, w = wordR 0x0E d a b 0 1 (if keep then 0 else 1) → s.coreAt core w → ∃ x : BitVec 512,
      exec (if keep then .vmac core w else .vmul core w) s = .next (s.coreDone core ((s.core core.toNat).aset d x.toNat)) ∧
      (∀ i < 8, lane 32 x i = (lane 16 ((s.core core.toNat).v a) i).signExtend 32 * (lane 16 ((s.core core.toNat).v b) i).signExtend 32
        + if keep then lane 32 ((s.core core.toNat).a d) i else 0) ∧
      ∀ i < 16, 8 ≤ i → lane 32 x i = lane 32 ((s.core core.toNat).a d) i) ∧
    (d < 4 → s.coreAt core (wordR 0x0F d 0 0 0 0 0) →
      exec (.aclr core (wordR 0x0F d 0 0 0 0 0)) s = .next (s.coreDone core ((s.core core.toNat).aset d 0))) ∧
    (d < 16 → a < 4 → s.coreAt core (wordR 0x0F d a b 0 0 1) → exec (.aget core (wordR 0x0F d a b 0 0 1)) s =
      .next (s.coreDone core ((s.core core.toNat).cset d (lane 32 ((s.core core.toNat).a a) (((s.core core.toNat).c b).toNat % 16)).toNat))) ∧
    (d < 4 → s.coreAt core (wordR 0x0F d a b 0 0 2) → ∃ x : BitVec 512,
      exec (.aput core (wordR 0x0F d a b 0 0 2)) s = .next (s.coreDone core ((s.core core.toNat).aset d x.toNat)) ∧
      ∀ i < 16, lane 32 x i = if i = ((s.core core.toNat).c b).toNat % 16 then (s.core core.toNat).c a else lane 32 ((s.core core.toNat).a d) i) ∧
    (d < 4 → a < 4 → b < 4 → ∀ sub : Bool, ∀ w, w = wordR 0x0F d a b 0 0 (if sub then 4 else 3) → s.coreAt core w → ∃ x : BitVec 512,
      exec (if sub then .asub core w else .aadd core w) s = .next (s.coreDone core ((s.core core.toNat).aset d x.toNat)) ∧
      ∀ i < 16, lane 32 x i = if sub then lane 32 ((s.core core.toNat).a a) i - lane 32 ((s.core core.toNat).a b) i
        else lane 32 ((s.core core.toNat).a a) i + lane 32 ((s.core core.toNat).a b) i) ∧
    (d < 4 → s.coreAt core (wordR 0x0F d a 0 0 0 5) → ∃ x : BitVec 512,
      exec (.aiota core (wordR 0x0F d a 0 0 0 5)) s = .next (s.coreDone core ((s.core core.toNat).aset d x.toNat)) ∧
      ∀ i < 16, lane 32 x i = (s.core core.toNat).c a + BitVec.ofNat 32 i) ∧
    (d < 8 → a < 4 → ∀ hi : Bool, ∀ w, w = wordR 0x0F d a 0 0 0 (if hi then 7 else 6) → s.coreAt core w → ∃ x : BitVec 128,
      exec (if hi then .anarrowHi core w else .anarrowLo core w) s = .next (s.coreDone core ((s.core core.toNat).vset d x.toNat)) ∧
      ∀ i < 8, lane 16 x i = saturate 16 (lane 32 ((s.core core.toNat).a a) (if hi then i + 8 else i)).toInt) ∧
    (d < 4 → a < 8 → s.coreAt core (wordR 0x0F d a 0 0 0 8) → ∃ x : BitVec 512,
      exec (.awiden core (wordR 0x0F d a 0 0 0 8)) s = .next (s.coreDone core ((s.core core.toNat).aset d x.toNat)) ∧
      (∀ i < 8, lane 32 x i = (lane 16 ((s.core core.toNat).v a) i).setWidth 32) ∧
      ∀ i < 16, 8 ≤ i → lane 32 x i = lane 32 ((s.core core.toNat).a d) i) ∧
    (d < 16 → a < 4 → s.coreAt core (wordR 0x0F d a 0 0 0 9) → exec (.asum core (wordR 0x0F d a 0 0 0 9)) s = .next (s.coreDone core
      ((s.core core.toNat).cset d (((List.range 16).map (fun i => lane 32 ((s.core core.toNat).a a) i)).foldl (fun x y => x + y) 0#32).toNat)))

/-- R149: vperm moves lanes; bcast puts lane e in every lane, and one open value where e names no lane of the register (.h with e of 8 or
more: the spec gives no lane there, notes/assumptions/23). vred writes cd from the lanes of va: the lane or sum of the signed operations is
extended to 32 bits by its sign, that of the unsigned ones by zeros (the model's choice, notes/assumptions/31). -/
def Obligations.CoreMovesAndReductions : Prop :=
  (∀ (core : CoreId) (s : State) (d a b e sz : Nat), d < 8 → sz < 2 →
    (a < 8 → b < 8 → s.coreAt core (wordR 0x12 d a b 0 sz 0) → ∃ x : BitVec 128,
      exec (.vpermPerm core (wordR 0x12 d a b 0 sz 0)) s = .next (s.coreDone core ((s.core core.toNat).vset d x.toNat)) ∧
      ∀ i < 16 / (sz + 1), lane (8 * (sz + 1)) x i = lane (8 * (sz + 1)) ((s.core core.toNat).v a)
        ((lane (8 * (sz + 1)) ((s.core core.toNat).v b) i).toNat % (16 / (sz + 1)))) ∧
    (a < 8 → e < 16 / (sz + 1) → s.coreAt core (wordR 0x12 d a 0 e sz 1) → ∃ x : BitVec 128,
      exec (.vpermBcast core (wordR 0x12 d a 0 e sz 1)) s = .next (s.drawn.coreDone core ((s.core core.toNat).vset d x.toNat)) ∧
      ∀ i < 16 / (sz + 1), lane (8 * (sz + 1)) x i = lane (8 * (sz + 1)) ((s.core core.toNat).v a) e) ∧
    (a < 8 → 8 ≤ e → e < 16 → s.coreAt core (wordR 0x12 d a 0 e 1 1) → ∃ x : BitVec 128, ∃ y : BitVec 16,
      exec (.vpermBcast core (wordR 0x12 d a 0 e 1 1)) s = .next (s.drawn.coreDone core ((s.core core.toNat).vset d x.toNat)) ∧
      ∀ i < 8, lane 16 x i = y) ∧
    (a < 8 → e < 16 → s.coreAt core (wordR 0x12 d a 0 e sz 2) → ∃ x : BitVec 128,
      exec (.vpermUp core (wordR 0x12 d a 0 e sz 2)) s = .next (s.coreDone core ((s.core core.toNat).vset d x.toNat)) ∧
      ∀ i < 16 / (sz + 1), lane (8 * (sz + 1)) x i = if i < e then 0 else lane (8 * (sz + 1)) ((s.core core.toNat).v a) (i - e)) ∧
    (a < 8 → e < 16 → s.coreAt core (wordR 0x12 d a 0 e sz 3) → ∃ x : BitVec 128,
      exec (.vpermDown core (wordR 0x12 d a 0 e sz 3)) s = .next (s.coreDone core ((s.core core.toNat).vset d x.toNat)) ∧
      ∀ i < 16 / (sz + 1), lane (8 * (sz + 1)) x i =
        if i + e < 16 / (sz + 1) then lane (8 * (sz + 1)) ((s.core core.toNat).v a) (i + e) else 0) ∧
    (a < 16 → s.coreAt core (wordR 0x12 d a 0 0 sz 4) → ∃ x : BitVec 128,
      exec (.vpermSplat core (wordR 0x12 d a 0 0 sz 4)) s = .next (s.coreDone core ((s.core core.toNat).vset d x.toNat)) ∧
      ∀ i < 16 / (sz + 1), lane (8 * (sz + 1)) x i = ((s.core core.toNat).c a).setWidth _)) ∧
  (∀ (core : CoreId) (s : State) (d a sz : Nat), d < 16 → a < 8 → sz < 2 →
    (∀ r ∈ coreReduce, s.coreAt core (wordR 0x13 d a 0 0 sz r.2.1) → exec (r.1 core (wordR 0x13 d a 0 0 sz r.2.1)) s =
      .next (s.coreDone core ((s.core core.toNat).cset d (r.2.2 _ (lanesList (8 * (sz + 1)) ((s.core core.toNat).v a))).toNat))) ∧
    (∀ least : Bool, ∀ w, w = wordR 0x13 d a 0 0 sz (if least then 1 else 0) → s.coreAt core w → ∃ x : BitVec (8 * (sz + 1)),
      exec (if least then .vredMins core w else .vredMaxs core w) s = .next (s.coreDone core ((s.core core.toNat).cset d (x.signExtend 32).toNat)) ∧
      x ∈ lanesList (8 * (sz + 1)) ((s.core core.toNat).v a) ∧
      ∀ y ∈ lanesList (8 * (sz + 1)) ((s.core core.toNat).v a), if least then x.sle y else y.sle x))

/-- R149, R151: vcvt: keys of BF16 lanes and back, FP8 and int8 lanes widened, BF16 lanes narrowed. -/
def Obligations.CoreConversions : Prop :=
  ∀ (core : CoreId) (s : State) (d a : Nat), d < 8 → a < 8 →
    (s.coreAt core (wordR 0x1B d a 0 0 0 0) → ∃ x : BitVec 128,
      exec (.vcvtKey core (wordR 0x1B d a 0 0 0 0)) s = .next (s.coreDone core ((s.core core.toNat).vset d x.toNat)) ∧
      ∀ i < 8, lane 16 x i = bfKeyOf (lane 16 ((s.core core.toNat).v a) i)) ∧
    (s.coreAt core (wordR 0x1B d a 0 0 0 1) → ∃ x : BitVec 128,
      exec (.vcvtUnkey core (wordR 0x1B d a 0 0 0 1)) s = .next (s.coreDone core ((s.core core.toNat).vset d x.toNat)) ∧
      ∀ i < 8, bfKeyOf (lane 16 x i) = lane 16 ((s.core core.toNat).v a) i ∨ bfNan (lane 16 x i) ∨ lane 16 x i = 0x8000#16) ∧
    (∀ hi : Bool, ∀ w, w = wordR 0x1B d a 0 0 0 (if hi then 7 else 6) → s.coreAt core w → ∃ x : BitVec 128,
      exec (if hi then .vcvtSxHi core w else .vcvtSxLo core w) s = .next (s.coreDone core ((s.core core.toNat).vset d x.toNat)) ∧
      ∀ i < 8, lane 16 x i = (lane 8 ((s.core core.toNat).v a) (if hi then i + 8 else i)).signExtend 16) ∧
    (∀ hi : Bool, ∀ w, w = wordR 0x1B d a 0 0 0 (if hi then 3 else 2) → s.coreAt core w → ∃ x : BitVec 128,
      exec (if hi then .vcvtE4Hi core w else .vcvtE4Lo core w) s = .next (s.coreDone core ((s.core core.toNat).vset d x.toNat)) ∧
      ∀ i < 8, lane 16 x i = BitVec.ofNat 16 (fp8ToBf layE4 (lane 8 ((s.core core.toNat).v a) (if hi then i + 8 else i)).toNat)) ∧
    (∀ hi : Bool, ∀ w, w = wordR 0x1B d a 0 0 0 (if hi then 5 else 4) → s.coreAt core w → ∃ x : BitVec 128,
      exec (if hi then .vcvtE5Hi core w else .vcvtE5Lo core w) s = .next (s.coreDone core ((s.core core.toNat).vset d x.toNat)) ∧
      ∀ i < 8, lane 16 x i = BitVec.ofNat 16 (fp8ToBf layE5 (lane 8 ((s.core core.toNat).v a) (if hi then i + 8 else i)).toNat)) ∧
    (s.coreAt core (wordR 0x1B d a 0 0 0 8) → ∃ x : BitVec 128,
      exec (.vcvtBfE4 core (wordR 0x1B d a 0 0 0 8)) s = .next (s.coreDone core ((s.core core.toNat).vset d x.toNat)) ∧
      (∀ i < 8, lane 8 x i = BitVec.ofNat 8 (bfToE4 (lane 16 ((s.core core.toNat).v a) i).toNat)) ∧ ∀ i < 16, 8 ≤ i → lane 8 x i = 0)

/-- R149, R150: fn[0] compares keys as signed numbers, fn[1] is kv and fn[2] ranks in descending order; with kv the ranking of (key, payload) pairs is a total order in each direction. vcx leaves in vd the lane that ranks first
and in va the other; vsrt.sort leaves the lanes of va in rank order in vd, vsrt.rev in reverse order, vsrt.step after one half-cleaner
step; with kv the payloads go with their keys. -/
def Obligations.CoreSortResults : Prop :=
  (∀ (flags lw : Nat) (x y : Nat × Nat), let key (n : Nat) : Int := if flags.testBit 0 then toSigned lw n else n
    (flags.testBit 1 = false → (ranksBefore flags lw x y = true ↔ if flags.testBit 2 then key y.1 < key x.1 else key x.1 < key y.1)) ∧
    (flags.testBit 1 = true → (ranksBefore flags lw x y = true ↔ if flags.testBit 2 then key y.1 < key x.1 ∨ (x.1 = y.1 ∧ x.2 < y.2)
      else key x.1 < key y.1 ∨ (x.1 = y.1 ∧ y.2 < x.2)))) ∧
  (∀ (flags lw : Nat) (x y z : Nat × Nat), flags.testBit 1 = true → 0 < lw → x.1 < 2 ^ lw → y.1 < 2 ^ lw → z.1 < 2 ^ lw →
    (ranksBefore flags lw x y = true ∨ ranksBefore flags lw y x = true ∨ x = y) ∧
    ¬(ranksBefore flags lw x y = true ∧ ranksBefore flags lw y x = true) ∧
    (ranksBefore flags lw x y = true → ranksBefore flags lw y z = true → ranksBefore flags lw x z = true)) ∧
  (∀ (core : CoreId) (s : State) (d a sz f e : Nat), d < 8 → a < 8 → sz < 2 → f < 8 → (f.testBit 1 = true → sz = 1) →
    (s.coreAt core (wordR 0x10 d a 0 0 sz f) → ∃ x y : List (Nat × Nat),
      exec (.vcx core (wordR 0x10 d a 0 0 sz f)) s = .next (s.coreDone core
        (setKeyed (setKeyed (s.core core.toNat) (f.testBit 1) (8 * (sz + 1)) d x) (f.testBit 1) (8 * (sz + 1)) a y)) ∧
      x.length = 16 / (sz + 1) ∧ y.length = 16 / (sz + 1) ∧
      ∀ i < 16 / (sz + 1), ∀ p q, (keyedLanes (s.core core.toNat) (f.testBit 1) (8 * (sz + 1)) d)[i]? = some p →
        (keyedLanes (s.core core.toNat) (f.testBit 1) (8 * (sz + 1)) a)[i]? = some q →
        (x[i]?, y[i]?) = if ranksBefore f (8 * (sz + 1)) q p = true then (some q, some p) else (some p, some q)) ∧
    (s.coreAt core (wordR 0x11 d a 0 0 sz f) → ∃ l,
      exec (.vsrtSort core (wordR 0x11 d a 0 0 sz f)) s =
        .next (s.coreDone core (setKeyed (s.core core.toNat) (f.testBit 1) (8 * (sz + 1)) d l)) ∧
      l.Perm (keyedLanes (s.core core.toNat) (f.testBit 1) (8 * (sz + 1)) a) ∧
      l.Pairwise (fun x y => ¬ ranksBefore f (8 * (sz + 1)) y x = true)) ∧
    (s.coreAt core (wordR 0x11 d a 0 0 sz (0x20 + f)) → exec (.vsrtRev core (wordR 0x11 d a 0 0 sz (0x20 + f))) s =
      .next (s.coreDone core (setKeyed (s.core core.toNat) (f.testBit 1) (8 * (sz + 1)) d
        (keyedLanes (s.core core.toNat) (f.testBit 1) (8 * (sz + 1)) a).reverse))) ∧
    (e ≤ 3 - sz → s.coreAt core (wordR 0x11 d a 0 e sz (0x10 + f)) → exec (.vsrtStep core (wordR 0x11 d a 0 e sz (0x10 + f))) s =
      .next (s.coreDone core (setKeyed (s.core core.toNat) (f.testBit 1) (8 * (sz + 1)) d
        (halfClean f (8 * (sz + 1)) e (keyedLanes (s.core core.toNat) (f.testBit 1) (8 * (sz + 1)) a))))))

/-- R133, R146, R149: a slate load of clean words gives its data register the bytes at ca + off12 of the core's region, little-endian, and a
slate store writes its data there; a load of a word in the range of a fill or copy in progress takes its old or its new value (R135); an access with inc raises ca by the size. Where a load's data register is ca itself, its value after is
open (notes/assumptions/33). An access beyond the region is core fault 0x02, one not aligned core fault 0x03. -/
def Obligations.CoreSlateAccesses : Prop :=
  (∀ r ∈ coreSlate, ∀ (core : CoreId) (s : State) (d a inc off : Nat), d < r.2.2.2.2 → a < 16 → inc < 2 → off < 4096 →
    s.coreAt core (wordM 0x08 d a r.2.2.1 inc off) → s.slateFits core r.2.2.2.1 (slateAt (s.core core.toNat) a off) →
    (∀ w ∈ wordsOf (s.slatePa core.toNat (slateAt (s.core core.toNat) a off)) r.2.2.2.1, s.checkAt w = .clean) →
    (¬(r.2.2.1 < 3 ∧ inc = 1 ∧ d = a) →
      (s.core core.toNat).fills.any (SlateOp.meets (slateAt (s.core core.toNat) a off) r.2.2.2.1) = false → exec (r.1 core (wordM 0x08 d a r.2.2.1 inc off)) s = .next (s.coreDone core
      (slateLoaded r.2.2.1 d (s.rdLe (s.slatePa core.toNat (slateAt (s.core core.toNat) a off)) r.2.2.2.1)
        (afterInc (s.core core.toNat) a inc r.2.2.2.1)))) ∧
    (¬(r.2.2.1 < 3 ∧ inc = 1 ∧ d = a) →
      (s.core core.toNat).fills.any (SlateOp.meets (slateAt (s.core core.toNat) a off) r.2.2.2.1) = true → ∃ new : Nat → Bool,
      exec (r.1 core (wordM 0x08 d a r.2.2.1 inc off)) s = .next (s.drawn.coreDone core (slateLoaded r.2.2.1 d
        (ofBytes ((List.range r.2.2.2.1).map (fun k =>
          match (s.core core.toNat).fills.find? (SlateOp.meets (slateAt (s.core core.toNat) a off + k) 1) with
          | none => s.byte (s.slatePa core.toNat (slateAt (s.core core.toNat) a off) + k)
          | some f => if new ((slateAt (s.core core.toNat) a off + k) / 8) then s.fillByte core.toNat f (slateAt (s.core core.toNat) a off + k)
            else s.byte (s.slatePa core.toNat (slateAt (s.core core.toNat) a off) + k))))
        (afterInc (s.core core.toNat) a inc r.2.2.2.1)))) ∧
    (r.2.2.1 < 3 ∧ inc = 1 ∧ d = a → ∃ c : CoreState, exec (r.1 core (wordM 0x08 d a r.2.2.1 inc off)) s = .next (s.drawn.coreDone core c) ∧
      ∀ v, c.cset d v = (s.core core.toNat).cset d v)) ∧
  (∀ r ∈ coreSlate, ∀ (core : CoreId) (s : State) (d a inc off : Nat), d < r.2.2.2.2 → a < 16 → inc < 2 → off < 4096 →
    s.coreAt core (wordM 0x09 d a r.2.2.1 inc off) → s.slateFits core r.2.2.2.1 (slateAt (s.core core.toNat) a off) →
    exec (r.2.1 core (wordM 0x09 d a r.2.2.1 inc off)) s = .next
      ((s.store (some (s.coreCtx core.toNat)) (s.slatePa core.toNat (slateAt (s.core core.toNat) a off))
        (bytesOf r.2.2.2.1 (slateStored r.2.2.1 d (s.core core.toNat)))).coreDone core
        (afterInc (slateTouch (slateAt (s.core core.toNat) a off) r.2.2.2.1 (s.core core.toNat)) a inc r.2.2.2.1))) ∧
  (∀ r ∈ coreSlate, ∀ (core : CoreId) (s : State) (d a inc off : Nat), d < r.2.2.2.2 → a < 16 → inc < 2 → off < 4096 →
    let x := slateAt (s.core core.toNat) a off
    (s.coreAt core (wordM 0x08 d a r.2.2.1 inc off) → s.coreRegion core.toNat < x + r.2.2.2.1 →
      exec (r.1 core (wordM 0x08 d a r.2.2.1 inc off)) s = .next (s.coreFault core.toNat 0x02 x (wordM 0x08 d a r.2.2.1 inc off))) ∧
    (s.coreAt core (wordM 0x08 d a r.2.2.1 inc off) → x + r.2.2.2.1 ≤ s.coreRegion core.toNat → x % r.2.2.2.1 ≠ 0 →
      exec (r.1 core (wordM 0x08 d a r.2.2.1 inc off)) s = .next (s.coreFault core.toNat 0x03 x (wordM 0x08 d a r.2.2.1 inc off))) ∧
    (s.coreAt core (wordM 0x09 d a r.2.2.1 inc off) → s.coreRegion core.toNat < x + r.2.2.2.1 →
      exec (r.2.1 core (wordM 0x09 d a r.2.2.1 inc off)) s = .next (s.coreFault core.toNat 0x02 x (wordM 0x09 d a r.2.2.1 inc off))) ∧
    (s.coreAt core (wordM 0x09 d a r.2.2.1 inc off) → x + r.2.2.2.1 ≤ s.coreRegion core.toNat → x % r.2.2.2.1 ≠ 0 →
      exec (r.2.1 core (wordM 0x09 d a r.2.2.1 inc off)) s = .next (s.coreFault core.toNat 0x03 x (wordM 0x09 d a r.2.2.1 inc off))))

/-- R233: a store to memory in canonical form, where no word it writes only in part is poisoned or uncorrectable, changes its own bytes
and no other, but for what the reports of its reads of correctable words write (R232); where those words are clean there are none. -/
def Obligations.StoreWritesItsBytes : Prop :=
  ∀ (s : State) (ctx : Option Nat) (pa : Nat) (bs : List Byte), Memory.wf s.mem = true →
    let part := (wordsOf pa bs.length).filter (fun w => !(decide (pa ≤ w) && decide (w + 8 ≤ pa + bs.length)))
    let u := part.foldl (fun s w => s.readCheck ctx w) s
    (∀ w ∈ part, (s.checkAt w).bad = false) →
    (∀ a, (s.store ctx pa bs).byte a = if pa ≤ a ∧ a < pa + bs.length then nth 0#8 bs (a - pa) else u.byte a) ∧
    ((∀ w ∈ part, s.checkAt w = .clean) →
      ∀ a, (s.store ctx pa bs).byte a = if pa ≤ a ∧ a < pa + bs.length then nth 0#8 bs (a - pa) else s.byte a)

/-- R148: the system values that sysr gives; index 6 counts cycles, which the model leaves open (notes/assumptions/34). -/
def Obligations.CoreSystemValues : Prop :=
  ∀ (core : CoreId) (s : State) (d i : Nat), d < 16 → i < 2 ^ 15 → s.coreAt core (wordI 0x1A d 0 0 (BitVec.ofNat 15 i)) →
    let c := s.core core.toNat
    let w := wordI 0x1A d 0 0 (BitVec.ofNat 15 i)
    let gives (v : Nat) : Prop := exec (.gexaCSysr core w) s = .next (s.coreDone core (c.cset d v))
    (i = 0 → gives core.toNat) ∧ (i = 1 → gives (core.toNat / 256 % 256)) ∧ (i = 2 → gives (core.toNat % 256)) ∧
    (i = 3 → gives (s.arr (s.corePhys core.toNat)).run.arg.toNat) ∧
    (i = 4 → exec (.gexaCSysr core w) s = .next (s.coreDone core { c.cset d ((s.localTime (s.corePhys core.toNat)).toNat % 2 ^ 32) with
      timeHi := BitVec.ofNat 32 ((s.localTime (s.corePhys core.toNat)).toNat / 2 ^ 32) })) ∧
    (i = 5 → gives c.timeHi.toNat) ∧
    (i = 6 → ∃ v, exec (.gexaCSysr core w) s = .next (s.drawn.coreDone core (c.cset d v))) ∧
    (i = 7 → gives (s.coreCtx core.toNat)) ∧ (i = 8 → gives (s.coreRegion core.toNat)) ∧ (i = 9 → gives c.rx.length) ∧
    (12 ≤ i → i < 16 → gives (c.kget (i - 12)).toNat) ∧ ((i = 10 ∨ i = 11 ∨ 16 ≤ i) → gives 0)

/-- R138, R139, R148, R152, R153: send, put.v, put.a and get put their messages into the mesh. -/
def Obligations.CoreMeshSends : Prop :=
  ∀ (core : CoreId) (s : State) (d a b : Nat), a < 16 → b < 16 →
    let c := s.core core.toNat
    let id := core.toNat
    (∀ tag < 256, d < 8 → s.coreAt core (wordR 0x14 d a 0 0 0 tag) → s.reachesCore core (c.cget a) →
      s.meshRuns (s.coreCtx id) (c.cget a) = true → c.sends.length < 4 →
      exec (.send core (wordR 0x14 d a 0 0 0 tag)) s = .next
        ((s.coreDone core { c with sends := c.sends ++ [⟨c.cget a, tag, c.v d, true⟩] }).inject (.send id (c.cget a) tag (c.v d)))) ∧
    (∀ (kind fn : Nat) (done : Completion),
      (kind = 0 ∧ fn = 0 ∧ done = .none) ∨ (kind = 1 ∧ fn < 4 ∧ done = .counter fn) ∨ (kind = 2 ∧ fn < 256 ∧ done = .notify fn) →
      s.reachesCore core (c.cget a) →
      (d < 8 → s.coreAt core (wordR 0x15 d a b (2 * kind) 0 fn) → s.slateFits core 16 (c.cget b) →
        exec (.putV core (wordR 0x15 d a b (2 * kind) 0 fn)) s = .next
          ((s.coreDone core { c with putsOut := c.putsOut + 1 }).inject (.put id (c.cget a) (c.cget b) (c.v d) true done))) ∧
      (d < 4 → s.coreAt core (wordR 0x15 d a b (8 + 2 * kind) 0 fn) → s.slateFits core 64 (c.cget b) →
        exec (.putA core (wordR 0x15 d a b (8 + 2 * kind) 0 fn)) s = .next
          ((((((s.coreDone core { c with putsOut := c.putsOut + 4 }).inject
            (.put id (c.cget a) (c.cget b) (lane 128 (c.a d) 0) false .none)).inject
            (.put id (c.cget a) (c.cget b + 16) (lane 128 (c.a d) 1) false .none)).inject
            (.put id (c.cget a) (c.cget b + 32) (lane 128 (c.a d) 2) false .none)).inject
            (.put id (c.cget a) (c.cget b + 48) (lane 128 (c.a d) 3) true done))))) ∧
    (∀ (kind k len : Nat) (done : Completion), 1 ≤ len → len ≤ 32 → d < 16 →
      (kind = 0 ∧ k = 0 ∧ d = 0 ∧ done = .none) ∨ (kind = 1 ∧ k < 4 ∧ d = 0 ∧ done = .counter k) ∨
        (kind = 2 ∧ k = 0 ∧ done = .notify (c.cget d % 256)) →
      let rem := c.cget b % 2 ^ 12
      let loc := c.cget b / 2 ^ 16 % 2 ^ 12
      s.coreAt core (wordR 0x16 d a b (2 * kind) 0 (k * 32 + (len - 1))) → s.reachesCore core (c.cget a) →
      rem % 16 = 0 → loc % 16 = 0 → rem + 16 * len ≤ s.coreRegion id → loc + 16 * len ≤ s.coreRegion id →
      exec (.get core (wordR 0x16 d a b (2 * kind) 0 (k * 32 + (len - 1)))) s = .next
        ((s.coreDone core { c with getsOut := c.getsOut + len }).inject (.getReq id (c.cget a) rem loc len done)))

/-- R135, R140, R143, R148: sfill and scopy begin, recv takes the oldest entry or waits, recv.n and recv.t, sig, wait and fence, and trap
raises core fault 0x07 with its code. -/
def Obligations.CoreSyncResults : Prop :=
  ∀ (core : CoreId) (s : State) (d a b : Nat), a < 16 → b < 16 →
    let c := s.core core.toNat
    let id := core.toNat
    (∀ (k : Nat) (sg : Option Nat), (k = 0 ∧ sg = none) ∨ (∃ j < 4, k = 16 + 4 * j ∧ sg = some j) →
      (d < 8 → s.coreAt core (wordR 0x1C d a b 0 0 k) → s.slateFits core 8 (c.cget a) → c.cget b % 8 = 0 → c.cget a + c.cget b ≤ s.coreRegion id →
        exec (.sfill core (wordR 0x1C d a b 0 0 k)) s =
          .next (s.coreDone core { c with fills := c.fills ++ [⟨c.cget a, c.cget b, none, (c.v d).setWidth 64, sg, []⟩] })) ∧
      (d < 16 → s.coreAt core (wordR 0x1C d a b 0 0 (k + 1)) → c.cget a % 8 = 0 → c.cget d % 8 = 0 → c.cget b % 8 = 0 →
        c.cget a + c.cget b ≤ s.coreRegion id → c.cget d + c.cget b ≤ s.coreRegion id →
        exec (.scopy core (wordR 0x1C d a b 0 0 (k + 1))) s =
          .next (s.coreDone core { c with fills := c.fills ++ [⟨c.cget d, c.cget b, some (c.cget a), 0, sg, []⟩] }))) ∧
    (∀ ce < 16, d < 8 → s.coreAt core (wordR 0x17 d 0 0 ce 0 0) → exec (.recv core (wordR 0x17 d 0 0 ce 0 0)) s = .next (match c.rx with
      | [] => s.setCore id { c with block := .recv d ce }
      | x :: xs => s.coreDone core ((({ c with rx := xs }).vset d x.data.toNat).cset ce x.header.toNat))) ∧
    (∀ ce < 16, d < 8 → s.coreAt core (wordR 0x17 d 0 0 ce 0 1) → exec (.recvN core (wordR 0x17 d 0 0 ce 0 1)) s = .next (match c.rx with
      | [] => s.coreDone core (c.cset ce 0xFFFFFFFF)
      | x :: xs => s.coreDone core ((({ c with rx := xs }).vset d x.data.toNat).cset ce x.header.toNat))) ∧
    (∀ tag < 256, d < 8 → s.coreAt core (wordR 0x17 d 0 (tag / 16) (tag % 16) 0 2) →
      (c.rx.find? (rxTagged tag) = none →
        exec (.recvT core (wordR 0x17 d 0 (tag / 16) (tag % 16) 0 2)) s = .next (s.setCore id { c with block := .recvT tag d 0 })) ∧
      (∀ x, c.rx.find? (rxTagged tag) = some x → exec (.recvT core (wordR 0x17 d 0 (tag / 16) (tag % 16) 0 2)) s =
        .next (s.coreDone core (({ c with rx := removeFirst (rxTagged tag) c.rx }).vset d x.data.toNat)))) ∧
    (∀ imm : BitVec 16, s.coreAt core (wordSig a imm) → s.sigAllowed (s.coreCtx id) (sigTarget (c.c a)) = true →
      exec (.gexaCSig core (wordSig a imm)) s =
        .next ((s.coreDone core c).sendSignal (s.coreCtx id) (c.c a) imm.toInt (sigSrc 0 false id))) ∧
    (∀ k thr, k < 4 → 0 < thr → thr < 2 ^ 15 → s.coreAt core (wordWait k thr) → exec (.gexaCWait core (wordWait k thr)) s = .next
      (if thr ≤ (c.kget k).toNat then s.coreDone core (c.kset k (c.kget k - BitVec.ofNat 16 thr)) else s.setCore id { c with block := .wait k thr })) ∧
    (s.coreAt core (wordR 0 0 0 0 0 0 2) → exec (.gexaCFence core (wordR 0 0 0 0 0 0 2)) s = .next
      (if c.putsOut = 0 ∧ c.sends = [] then s.coreDone core c else s.setCore id { c with block := .fence })) ∧
    (∀ e < 16, s.coreAt core (wordR 0 0 0 0 e 0 3) → exec (.gexaCTrap core (wordR 0 0 0 0 e 0 3)) s =
      .next (s.coreFault id 0x07 e (wordR 0 0 0 0 e 0 3)))

/-- R138 to R141, R293: what ends a core's wait and what the mesh delivers: a send enters the queue of its target while fewer than 12
entries are occupied and is refused otherwise; acknowledgements free and refusals keep the sender's slot; puts and gets reach their region. -/
def Obligations.CoreMeshEvents : Prop :=
  (∀ (core : CoreId) (s : State),
    let c := s.core core.toNat
    let id := core.toNat
    (c.block = .fence → c.putsOut = 0 → c.sends = [] → exec (.coreFenceRelease core) s = .next (s.coreDone core { c with block := .no })) ∧
    (∀ vd ce x xs, c.block = .recv vd ce → c.rx = x :: xs → exec (.recvSatisfied core) s =
      .next (s.coreDone core ((({ c with rx := xs, block := .no }).vset vd x.data.toNat).cset ce x.header.toNat))) ∧
    (∀ k thr, c.block = .wait k thr → thr ≤ (c.kget k).toNat → exec (.waitSatisfied (.core core)) s =
      .next (s.coreDone core { c.kset k (c.kget k - BitVec.ofNat 16 thr) with block := .no })) ∧
    (∀ tag vd ce x, c.block = .recvT tag vd ce → c.rx.find? (rxTagged tag) = some x → exec (.recvSatisfied core) s = .next (s.coreDone core
      ((({ c with rx := removeFirst (rxTagged tag) c.rx, block := .no }).vset vd x.data.toNat).cset ce x.header.toNat))) ∧
    (∀ slot x, c.sends[slot]? = some x → x.waiting = false → c.status ≠ 4 → exec (.sendRetry core slot) s =
      .next ((s.setCore id { c with sends := c.sends.set slot { x with waiting := true } }).inject (.send id x.target x.tag x.data))) ∧
    (∀ tag src r, c.heldNote = (tag, src) :: r → c.rx.length < 16 → exec (.notificationRelease core) s =
      .next (s.setCore id { c with rx := c.rx ++ [⟨rxHeader tag true src, 0#128⟩], heldNote := r })) ∧
    (∀ f fs, c.fills = f :: fs → f.copySrc = none → f.signal = none →
      let u := s.setCore id { c with fills := fs }
      let new := (List.replicate (f.len / 8) (bytesOf 8 f.value.toNat)).flatten
      (f.stored = [] → exec (.slateFillComplete core) s = .next (u.store (some (s.coreCtx id)) (s.slatePa id f.dst) new)) ∧
      (f.stored ≠ [] → ∃ kept : Nat → Bool, exec (.slateFillComplete core) s = .next (u.drawn.store (some (s.coreCtx id)) (s.slatePa id f.dst)
        ((List.range f.len).map (fun k => if f.stored.contains (k / 8) && kept (k / 8) then s.byte (s.slatePa id f.dst + k) else nth 0#8 new k)))))) ∧
  (∀ (s t : State) (n src dst tag off : Nat) (x : BitVec 128),
    (s.meshTake n = some (.send src dst tag x, t) → exec (.meshSendArrival n) s = .next
      (if (t.core dst).rx.length < 12
        then (t.setCore dst { t.core dst with rx := (t.core dst).rx ++ [⟨rxHeader tag false src, x⟩] }).inject (.sendAck dst src tag x)
        else t.inject (.refusal dst src tag x))) ∧
    (s.meshTake n = some (.refusal src dst tag x, t) → exec (.meshSendRefusal n) s =
      .next (t.setCore dst { t.core dst with sends := markRefused src tag x (t.core dst).sends })) ∧
    (s.meshTake n = some (.sendAck src dst tag x, t) → exec (.sendAcknowledgement n) s = .next (t.setCore dst { t.core dst with
      sends := removeFirst (fun y => y.target == src && y.tag == tag && y.data == x && y.waiting) (t.core dst).sends })) ∧
    (∀ last done, s.meshTake n = some (.put src dst off x last done, t) → (t.core dst).heldNote = [] → exec (.meshPutArrival n) s =
      .next (((t.store (some (t.coreCtx src)) (slateBase dst + (t.slAlloc (t.coreCtx src)).1 + off) (bytesOf 16 x.toNat)).putLanded
        src).complete dst src done)) ∧
    (∀ last done, s.meshTake n = some (.getReply src dst off x false last done, t) → exec (.meshGetReply n) s =
      .next (((t.setCore dst { t.core dst with getsOut := (t.core dst).getsOut - 1 }).store
        (some ((t.setCore dst { t.core dst with getsOut := (t.core dst).getsOut - 1 }).coreCtx dst))
        ((t.setCore dst { t.core dst with getsOut := (t.core dst).getsOut - 1 }).slatePa dst off) (bytesOf 16 x.toNat)).complete dst src done)) ∧
    (∀ rem loc len done, s.meshTake n = some (.getReq src dst rem loc len done, t) → (t.core dst).heldNote = [] →
      (∀ w ∈ wordsOf (slateBase dst + (t.slAlloc (t.coreCtx src)).1 + rem) (16 * len), t.checkAt w = .clean) →
      ∃ u, exec (.meshGetRequest n) s = .next u ∧ u.mesh = t.mesh ++ (List.range len).map (fun i =>
        .getReply dst src (loc + 16 * i) (BitVec.ofNat 128 (t.rdLe (slateBase dst + (t.slAlloc (t.coreCtx src)).1 + rem + 16 * i) 16)) false
          (i + 1 == len) (if i + 1 = len then done else .none))))

/-- R195: every instruction of two scalar registers, and clz and popc, at a controller whose fetch gives its word, writes its result to
sd, moves the program counter on by four bytes, and counts one more retired instruction; nothing else changes. -/
def Obligations.CtrlBinaryResults : Prop :=
  (∀ r ∈ ctrlBinary, ∀ (p : ArrayId) (s t : State) (d a b : Nat), d < 32 → a < 32 → b < 32 → s.ctrlAt p (wordG 1 d a b r.2.1) t →
    exec (r.1 p (wordG 1 d a b r.2.1)) s =
      .next (t.ctrlDone p ((t.ac p).sput d (r.2.2 ((t.ac p).s a) ((t.ac p).s b)).toNat))) ∧
  (∀ r ∈ ctrlUnary, ∀ (p : ArrayId) (s t : State) (d a : Nat), d < 32 → a < 32 → s.ctrlAt p (wordG 1 d a 0 r.2.1) t →
    exec (r.1 p (wordG 1 d a 0 r.2.1)) s = .next (t.ctrlDone p ((t.ac p).sput d (r.2.2 ((t.ac p).s a)))))

/-- R195: the instructions with immediates, sel, nop, and the predicate and comparison instructions. -/
def Obligations.CtrlImmediateResults : Prop :=
  ∀ (p : ArrayId) (s t : State) (d a b : Nat), d < 32 → a < 32 → b < 32 →
    let c := t.ac p
    (∀ r ∈ ctrlImmediate, ∀ imm : BitVec 11, s.ctrlAt p (wordG r.2.1 d a 0 imm.toNat) t →
      exec (r.1 p (wordG r.2.1 d a 0 imm.toNat)) s = .next (t.ctrlDone p (c.sput d (r.2.2 (c.s a) (imm.signExtend 64)).toNat))) ∧
    (∀ r ∈ ctrlShifts, ∀ n < 64, s.ctrlAt p (wordG 6 d a 0 (64 * r.2.1 + n)) t →
      exec (r.1 p (wordG 6 d a 0 (64 * r.2.1 + n))) s = .next (t.ctrlDone p (c.sput d (r.2.2 (c.s a) n).toNat))) ∧
    (∀ imm : BitVec 21, s.ctrlAt p (wordG 7 d 0 0 imm.toNat) t →
      exec (.gexaSLi p (wordG 7 d 0 0 imm.toNat)) s = .next (t.ctrlDone p (c.sput d (imm.signExtend 64).toNat))) ∧
    (∀ x : BitVec 16, s.ctrlAt p (wordG 8 d 0 0 x.toNat) t →
      exec (.shlor p (wordG 8 d 0 0 x.toNat)) s = .next (t.ctrlDone p (c.sput d ((c.s d).setWidth 48 ++ x).toNat))) ∧
    (∀ r ∈ ctrlPredicates, d < 8 → a < 8 → b < 8 → s.ctrlAt p (wordG 11 d a b (256 * r.2.1)) t →
      exec (r.1 p (wordG 11 d a b (256 * r.2.1))) s = .next (t.ctrlDone p (c.pput d (r.2.2 (c.pget a) (c.pget b))))) ∧
    (d < 8 → a < 8 → s.ctrlAt p (wordG 11 d a 0 0x400) t →
      exec (.pnot p (wordG 11 d a 0 0x400)) s = .next (t.ctrlDone p (c.pput d (!c.pget a)))) ∧
    (d < 8 → s.ctrlAt p (wordG 11 d a 0 0x500) t →
      exec (.pnz p (wordG 11 d a 0 0x500)) s = .next (t.ctrlDone p (c.pput d (c.s a != 0#64)))) ∧
    (∀ q < 8, s.ctrlAt p (wordG 12 d a b q) t →
      exec (.gexaSSel p (wordG 12 d a b q)) s = .next (t.ctrlDone p (c.sput d (c.sget (if c.pget q then a else b))))) ∧
    (∀ k f, d < 8 → ctrlConditions[k]? = some f → s.ctrlAt p (wordG 9 d a b k) t →
      exec (.cmp p (wordG 9 d a b k)) s = .next (t.ctrlDone p (c.pput d (f (c.s a) (c.s b))))) ∧
    (∀ k f (imm : BitVec 8), d < 8 → ctrlConditions[k]? = some f → s.ctrlAt p (wordG 10 d a 0 (256 * k + imm.toNat)) t →
      exec (.cmpi p (wordG 10 d a 0 (256 * k + imm.toNat))) s = .next (t.ctrlDone p (c.pput d (f (c.s a) (imm.signExtend 64))))) ∧
    (s.ctrlAt p (wordG 0 0 0 0 0) t → exec (.gexaSNop p (wordG 0 0 0 0 0)) s = .next (t.ctrlDone p c))

/-- R195: br is taken when p xor neg holds, to its own address and four times the offset; jal and jalr leave PC + 4 in sd and go to their
targets, with sa read before sd is written; where the target is attn's entry, the routine begins (R281; notes/assumptions/127). -/
def Obligations.CtrlBranchResults : Prop :=
  ∀ (p : ArrayId) (s t : State) (d a : Nat), d < 32 → a < 32 →
    let c := t.ac p
    (∀ q < 8, ∀ (neg : Bool) (off : BitVec 22),
      let w := BitVec.ofNat 32 (0x0D * 2 ^ 26 + q * 2 ^ 23 + neg.toNat * 2 ^ 22 + off.toNat);
      s.ctrlAt p w t → exec (.br p w) s =
        .next (if c.pget q ^^ neg then t.ctrlJump p.val (c.pc + 4#48 * off.signExtend 48).toNat else t.ctrlNext p.val 4)) ∧
    let calls (target : BitVec 48) : State :=
      let v := (t.modCtrl p.val (fun c => c.sput d (c.pc + 4#48).toNat)).ctrlJump p.val target.toNat
      if v.attnEntry p.val target.toNat then
        (v.modCtrl p.val (fun c => { c with attn := some ⟨c.sget 1, none, c.sget d % 2 ^ 48, 0, 0, [], []⟩ })).advanceQ p.val
      else v
    (∀ off : BitVec 21, s.ctrlAt p (wordG 14 d 0 0 off.toNat) t → exec (.jal p (wordG 14 d 0 0 off.toNat)) s =
      .next (calls (c.pc + 4#48 * off.signExtend 48))) ∧
    (∀ off : BitVec 11, s.ctrlAt p (wordG 15 d a 0 off.toNat) t → exec (.jalr p (wordG 15 d a 0 off.toNat)) s =
      .next (calls ((c.s a).setWidth 48 + off.signExtend 48)))

/-- R202: dset writes the field its selector names and no other bit of dd; dget reads it, strides and off sign-extended; dadv moves the
base modulo 2^48. -/
def Obligations.CtrlDescriptorFields : Prop :=
  ∀ (p : ArrayId) (s t : State) (d a : Nat), d < 32 → a < 32 →
    let c := t.ac p
    (∀ f hi lo sg, (f, hi, lo, sg) ∈ ctrlSelectors → d < 16 → s.ctrlAt p (wordG 0x16 d a 0 f) t → ∃ x : BitVec 512,
      exec (.dset p (wordG 0x16 d a 0 f)) s = .next (t.ctrlDone p (c.dput d x)) ∧
      ∀ i < 512, x.getLsbD i = if lo ≤ i ∧ i ≤ hi then (c.s a).getLsbD (i - lo) else (c.dget d).getLsbD i) ∧
    (∀ f hi lo sg, (f, hi, lo, sg) ∈ ctrlSelectors → a < 16 → s.ctrlAt p (wordG 0x17 d a 0 f) t → ∃ x : DWord,
      exec (.dget p (wordG 0x17 d a 0 f)) s = .next (t.ctrlDone p (c.sput d x.toNat)) ∧
      ∀ i < 64, x.getLsbD i = if lo + i ≤ hi then (c.dget a).getLsbD (lo + i) else sg && (c.dget a).getLsbD hi) ∧
    (∀ off : BitVec 11, d < 16 → s.ctrlAt p (wordG 0x18 d a 0 off.toNat) t → ∃ x : BitVec 512,
      exec (.dadv p (wordG 0x18 d a 0 off.toNat)) s = .next (t.ctrlDone p (c.dput d x)) ∧
      x.setWidth 48 = (c.dget d).setWidth 48 + (c.s a).setWidth 48 + off.signExtend 48 ∧ x >>> 48 = c.dget d >>> 48)

/-- R196, R197, R202: an aligned load gives its register the bytes the controller reads, little-endian, and ld.w extends them by zeros; an
aligned store with a free place in the store buffer is posted, with the address it is translated to, and with a full buffer stalls
(R225); an address that is not aligned is a data-access fault, detail 1. -/
def Obligations.CtrlLoadsAndStores : Prop :=
  ∀ (p : ArrayId) (s t : State) (d a : Nat) (off : BitVec 11), d < 32 → a < 32 →
    let c := t.ac p
    let va := (c.s a + off.signExtend 64).toNat
    let line := (c.s a + 64#64 * off.signExtend 64).toNat
    (∀ r ∈ ([(.gexaSLdD, .gexaSStD, 0x10, 0x12, 8), (.gexaSLdW, .gexaSStW, 0x11, 0x13, 4)] :
        List ((ArrayId → Word → Instr) × (ArrayId → Word → Instr) × Nat × Nat × Nat)),
      (s.ctrlAt p (wordG r.2.2.1 d a 0 off.toNat) t → va % r.2.2.2.2 = 0 → ∀ bs u, t.ctrlRead p.val va r.2.2.2.2 = .ok bs u →
        exec (r.1 p (wordG r.2.2.1 d a 0 off.toNat)) s = .next (u.ctrlDone p { (u.ac p).sput d (ofBytes bs) with blocked := .no })) ∧
      (s.ctrlAt p (wordG r.2.2.1 d a 0 off.toNat) t → va % r.2.2.2.2 ≠ 0 → exec (r.1 p (wordG r.2.2.1 d a 0 off.toNat)) s =
        .next (t.issueFault p.val 0x87 1 (wordG r.2.2.1 d a 0 off.toNat) 0 0xFF 0 va)) ∧
      (s.ctrlAt p (wordG r.2.2.2.1 d a 0 off.toNat) t → va % r.2.2.2.2 = 0 → ∀ pa, t.accessN (t.ctrlAcc p.val c.ctx .write) va r.2.2.2.2 = .ok pa →
        exec (r.2.1 p (wordG r.2.2.2.1 d a 0 off.toNat)) s = .next (if c.stores.length < 16
          then t.ctrlDone p (c.posted va pa (bytesOf r.2.2.2.2 (c.sget d))) else t.stallIssue p.val 7)) ∧
      (s.ctrlAt p (wordG r.2.2.2.1 d a 0 off.toNat) t → va % r.2.2.2.2 ≠ 0 → exec (r.2.1 p (wordG r.2.2.2.1 d a 0 off.toNat)) s =
        .next (t.issueFault p.val 0x87 1 (wordG r.2.2.2.1 d a 0 off.toNat) 0 0xFF 0 va))) ∧
    (d < 16 → s.ctrlAt p (wordG 0x14 d a 0 off.toNat) t → line % 64 = 0 → ∀ bs u, t.ctrlRead p.val line 64 = .ok bs u →
      exec (.dld p (wordG 0x14 d a 0 off.toNat)) s =
        .next (u.ctrlDone p { (u.ac p).dput d (BitVec.ofNat 512 (ofBytes bs)) with blocked := .no })) ∧
    (d < 16 → s.ctrlAt p (wordG 0x15 d a 0 off.toNat) t → line % 64 = 0 → ∀ pa, t.accessN (t.ctrlAcc p.val c.ctx .write) line 64 = .ok pa →
      exec (.dst p (wordG 0x15 d a 0 off.toNat)) s = .next (if c.stores.length < 16
        then t.ctrlDone p (c.posted line pa (bytesOf 64 (c.dget d).toNat)) else t.stallIssue p.val 7)) ∧
    (d < 16 → s.ctrlAt p (wordG 0x14 d a 0 off.toNat) t → line % 64 ≠ 0 →
      exec (.dld p (wordG 0x14 d a 0 off.toNat)) s = .next (t.issueFault p.val 0x87 1 (wordG 0x14 d a 0 off.toNat) 0 0xFF 0 line)) ∧
    (d < 16 → s.ctrlAt p (wordG 0x15 d a 0 off.toNat) t → line % 64 ≠ 0 →
      exec (.dst p (wordG 0x15 d a 0 off.toNat)) s = .next (t.issueFault p.val 0x87 1 (wordG 0x15 d a 0 off.toNat) 0 0xFF 0 line))

/-- R197: a controller's read of clean HBM bytes that no tile holds and no cached line covers gives the newest posted store of each byte,
and the byte of memory where no posted store covers it; memory does not change. -/
def Obligations.CtrlReadForwards : Prop :=
  ∀ (s : State) (p va n pa : Nat), 0 < n → va % 64 + n ≤ 64 → va % 64 = pa % 64 →
    s.accessN (s.ctrlAcc p (s.arr p).ctrl.ctx .read) va n = .ok pa → s.place pa = .hbm → s.uncommittedHit pa n = false →
    cacheGet (va / 64) (s.arr p).ctrl.dcache = none → (∀ w ∈ wordsOf (pa - pa % 64) 64, s.checkAt w = .clean) →
    let covers (x : PostedStore) (a : Nat) : Prop := x.va ≤ a ∧ a < x.va + x.data.length
    ∃ bs u, s.ctrlRead p va n = .ok bs u ∧ u.mem = s.mem ∧ bs.length = n ∧ ∀ i < n,
      ((∀ x ∈ (s.arr p).ctrl.stores, ¬covers x (va + i)) → nth 0#8 bs i = s.byte (pa + i)) ∧
      ∀ older x newer, (s.arr p).ctrl.stores = older ++ x :: newer → covers x (va + i) → (∀ y ∈ newer, ¬covers y (va + i)) →
        nth 0#8 bs i = nth 0#8 x.data (va + i - x.va)

/-- R189, R195, R219: the system values of sysr, and the time instructions: now reads local Quartz, wait.until blocks until a time, and
launch.at sets the pending launch time, late when it lies less than 16,384 ticks ahead. -/
def Obligations.CtrlTimeResults : Prop :=
  ∀ (p : ArrayId) (s t : State) (d a : Nat), d < 32 → a < 32 →
    let c := t.ac p
    let waits (n : Nat) (x : DWord) : State :=
      if (t.localTime p.val - x).toNat < 2 ^ 63 then (t.modCtrl p.val Ctrl.dropData).ctrlNext p.val n
      else t.modCtrl p.val (fun c => { c with blocked := .untilTime x })
    let launches (n : Nat) (x : DWord) : State :=
      (t.modCtrl p.val (fun c => { c with
        launch := some x
        launchLate := if (x - (t.localTime p.val + 16384#64)).toNat < 2 ^ 63 then [] else [1] })).ctrlNext p.val n
    (∀ i < 2 ^ 11, s.ctrlAt p (wordG 0x22 d 0 0 i) t → i ≠ 7 → exec (.gexaSSysr p (wordG 0x22 d 0 0 i)) s =
      .next (t.ctrlDone p (c.sput d (((ctrlSystem t p.val).getD i none).getD 0)))) ∧
    (s.ctrlAt p (wordG 0x22 d 0 0 7) t → ∃ v, exec (.gexaSSysr p (wordG 0x22 d 0 0 7)) s = .next (t.drawn.ctrlDone p (c.sput d v))) ∧
    (s.ctrlAt p (wordG 0x1D d 0 0 0) t → exec (.now p (wordG 0x1D d 0 0 0)) s = .next (t.ctrlDone p (c.sput d (t.localTime p.val).toNat))) ∧
    (s.ctrlAt p (wordG 0x1D 0 a 0 1) t → exec (.waitUntil p (wordG 0x1D 0 a 0 1)) s = .next (waits 4 (c.s a))) ∧
    (s.ctrlAt p (wordG 0x1D 0 a 0 2) t → exec (.launchAt p (wordG 0x1D 0 a 0 2)) s = .next (launches 4 (c.s a))) ∧
    (∀ off : Word, s.ctrlAt2 p (wordG 0x3D 0 a 0 1) off t →
      exec (.waitUntilOff p (wordG 0x3D 0 a 0 1) off) s = .next (waits 8 (c.s a + off.signExtend 64))) ∧
    (∀ off : Word, s.ctrlAt2 p (wordG 0x3D 0 a 0 0) off t →
      exec (.launchAtOff p (wordG 0x3D 0 a 0 0) off) s = .next (launches 8 (c.s a + off.signExtend 64)))

/-- R217, R218, R293: sig sends an increment to the counter it names; wait subtracts its threshold at once when the counter has reached it
and blocks otherwise; cnt.rd reads a counter; qwait enters its queue; blocked waits end when their counter has reached the threshold. -/
def Obligations.CtrlSyncResults : Prop :=
  ∀ (p : ArrayId) (s t : State) (d a b k thr : Nat), d < 32 → a < 32 → b < 32 → k < 64 → 0 < thr → thr < 2 ^ 15 →
    let c := t.ac p
    let src := sigSrc 1 false ((t.logOf p.val).getD 0 * 65536)
    (∀ imm : BitVec 11, s.ctrlAt p (wordG 0x1A 0 a 0 imm.toNat) t → t.sigAllowed c.ctx (sigTarget ((c.s a).setWidth 32)) = true →
      exec (.gexaSSig p (wordG 0x1A 0 a 0 imm.toNat)) s =
        .next ((t.ctrlNext p.val 4).sendSignal c.ctx ((c.s a).setWidth 32) imm.toInt src)) ∧
    (b ≠ 0 → s.ctrlAt p (wordG 0x1A 0 a b 0) t → t.sigAllowed c.ctx (sigTarget ((c.s a).setWidth 32)) = true →
      exec (.gexaSSig p (wordG 0x1A 0 a b 0)) s =
        .next ((t.ctrlNext p.val 4).sendSignal c.ctx ((c.s a).setWidth 32) ((c.s b).setWidth 16).toInt src)) ∧
    (let w := BitVec.ofNat 32 (0x1B * 2 ^ 26 + k * 2 ^ 20 + thr);
      s.ctrlAt p w t → exec (.gexaSWait p w) s = .next (if thr ≤ (t.arr p.val).ctr k
        then ((t.modArr p.val (fun a => a.ctrSub k thr)).modCtrl p.val Ctrl.dropData).ctrlNext p.val 4
        else t.modCtrl p.val (fun c => { c with blocked := .wait k thr }))) ∧
    (let w := BitVec.ofNat 32 (0x1C * 2 ^ 26 + d * 2 ^ 21 + k * 2 ^ 15);
      s.ctrlAt p w t → exec (.cntRd p w) s = .next (t.ctrlDone p (c.sput d ((t.arr p.val).ctr k)))) ∧
    (∀ q < 3, let w := BitVec.ofNat 32 (0x21 * 2 ^ 26 + k * 2 ^ 20 + q * 2 ^ 18 + thr);
      s.ctrlAt p w t → exec (.qwait p w) s = .next (t.enqueue p.val q w 0 4 0 false (.qwait k thr))) ∧
    ((s.ac p).blocked = .wait k thr → (s.ac p).state = 1 → (s.arr p.val).runs = true → thr ≤ (s.arr p.val).ctr k →
      exec (.waitSatisfied (.ctrl p)) s = .next (((s.modArr p.val (fun a => a.ctrSub k thr)).modCtrl p.val
        (fun c => { c.dropData with blocked := .no })).ctrlNext p.val 4)) ∧
    (∀ (q : Fin 3) e es, (s.arr p.val).queue q.val = e :: es → e.op = .qwait k thr → (s.arr p.val).runs = true →
      thr + (s.arr p.val).takenBefore q.val k ≤ (s.arr p.val).ctr k →
      exec (.qwaitSatisfied p q) s = .next ((s.setArr p.val (((s.arr p.val).ctrSub k thr).setQueue q.val es)).advanceQ p.val))

/-- R221 to R223, R197: the check, context and ordering instructions, and the events that end their waits. -/
def Obligations.CtrlCheckAndOrder : Prop :=
  ∀ (p : ArrayId) (s t : State) (a : Nat), a < 32 →
    let c := t.ac p
    (s.ctrlAt p (wordG 0x1F 0 a 0 0) t → exec (.chkMode p (wordG 0x1F 0 a 0 0)) s = .next (t.ctrlDone p { c with
      chkLevel := ((c.s a).setWidth 2).toNat, chkNext := c.chkNext || (c.s a).getLsbD 2 })) ∧
    (s.ctrlAt p (wordG 0x1F 0 0 0 1) t → exec (.chkCommit p (wordG 0x1F 0 0 0 1)) s = .next (if (t.arr p.val).allCommitted
      then t.ctrlDone p { c with blocked := .no } else t.modCtrl p.val (fun c => { c with blocked := .commit false }))) ∧
    (s.ctrlAt p (wordG 0x1F 0 0 0 2) t → exec (.chkCommitStep p (wordG 0x1F 0 0 0 2)) s =
      .next (if (t.arr p.val).allCommitted = true ∧ t.lagFull c.ctx = false
        then t.ctrlDone p { c with blocked := .no, closed := c.closed ++ [(c.step, c.wdig)], wdig := 0, step := c.step + 1 }
        else t.modCtrl p.val (fun c => { c with blocked := .commit true }))) ∧
    (∀ step, (s.ac p).blocked = .commit step → (s.ac p).state = 1 → (s.arr p.val).runs = true → s.commitDone p.val step = true →
      exec (.chkCommitRelease p) s = .next (s.commitEnd p.val step)) ∧
    (s.ctrlAt p (wordG 0 0 0 0 1) t → exec (.yieldArray p (wordG 0 0 0 0 1)) s = .next (t.ctrlDone p { c with yielding := true })) ∧
    (s.ctrlAt p (wordG 0 0 0 0 2) t → exec (.endProgram p (wordG 0 0 0 0 2)) s = .next (t.ctrlDone p { c with ended := true })) ∧
    (∀ code < 2 ^ 10, let w := BitVec.ofNat 32 (code * 2 ^ 16 + 3);
      s.ctrlAt p w t → exec (.softFault p w) s = .next (t.issueFault p.val 0x8C 0 w 0 0xFF (code * 32) 0)) ∧
    (∀ code < 2 ^ 10, ∀ b, 0 < b → b < 32 → let w := BitVec.ofNat 32 (code * 2 ^ 16 + b * 2 ^ 11 + 3);
      s.ctrlAt p w t → exec (.softFault p w) s = .next (t.issueFault p.val 0x80 3 w 0 0xFF 0 0)) ∧
    (∀ r ∈ ([(.fenceSt, 0x10), (.fenceArr, 0x11), (.fenceVec, 0x12), (.fenceDma, 0x13), (.fenceAll, 0x15)] :
        List ((ArrayId → Word → Instr) × Nat)), s.ctrlAt p (wordG 0 0 0 0 r.2) t →
      let u := if r.2 = 0x10 ∨ r.2 = 0x15 then t.drainStores p.val else t
      exec (r.1 p (wordG 0 0 0 0 r.2)) s = .next (if u.fenceHolds p.val r.2
        then u.ctrlDone p (if r.2 = 0x10 then { u.ac p with blocked := .no } else { u.ac p with blocked := .no, dcache := [] })
        else u.modCtrl p.val (fun c => { c with blocked := .fence r.2 }))) ∧
    (∀ k, (s.ac p).blocked = .fence k → (s.ac p).state = 1 → (s.arr p.val).runs = true → s.fenceHolds p.val k = true →
      exec (.fenceRelease p) s = .next (s.fenceEnd p.val k)) ∧
    (s.ctrlAt p (wordG 0 0 0 0 0x16) t → exec (.fenceI p (wordG 0 0 0 0 0x16)) s = .next (t.ctrlDone p { c with icache := [] })) ∧
    (s.ctrlAt p (wordG 0 0 0 0 0x20) t → exec (.cinv p (wordG 0 0 0 0 0x20)) s = .next (t.ctrlDone p { c with dcache := [] }))

/-- R205, R206, R212: load, load.s, unpark, swap, core.load, core.run and core.stop that no check of their issue refuses; where its queue has
room, an instruction that enters it is appended after every earlier store, with the pending launch time if it is launchable, and a full queue
stalls it (R191, R219, R224, R225). -/
def Obligations.ArrayCommandsIssue : Prop :=
  ∀ (p : ArrayId) (s t : State) (r a : Nat), r < 16 → a < 32 →
    let c := t.ac p
    let slot := ((c.s a).setWidth 8).toNat
    let scale := ((c.s a >>> 8).setWidth 48).toNat
    let parkFits : Prop := (t.parkAlloc c.ctx).1 ≤ slot ∧ slot < (t.parkAlloc c.ctx).1 + (t.parkAlloc c.ctx).2 ∧ scale % 64 = 0
    (∀ (shadow park : Bool), let w := BitVec.ofNat 32 (0x20 * 2 ^ 26 + r * 2 ^ 21 + a * 2 ^ 16 + shadow.toNat * 2 ^ 8 + park.toNat * 2 ^ 7);
      s.ctrlAt p w t → goodDesc (c.dget r) 1 → fmtOperand (fmtOr (descOf (c.dget r)).code) = true →
      (shadow = true → (descOf (c.dget r)).fmt ≠ some .fp32) → blockDims (descOf (c.dget r)) = true → (park = true → parkFits) →
      exec (if shadow then .loadS p w else .loadBlock p w) s =
        .next (t.enqueue p.val 0 w 0 4 0 false (.load shadow (c.dget r) park slot scale))) ∧
    (s.ctrlAt p (wordG 0x20 0 a 0 0x200) t → parkFits →
      exec (.unpark p (wordG 0x20 0 a 0 0x200)) s = .next (t.enqueue p.val 0 (wordG 0x20 0 a 0 0x200) 0 4 0 false (.unpark slot scale))) ∧
    (s.ctrlAt p (wordG 0x19 0 0 0 0) t → exec (.swapSets p (wordG 0x19 0 0 0 0)) s =
      .next (t.enqueue p.val 0 (wordG 0x19 0 0 0 0) 0 4 0 false .swap)) ∧
    (∀ n r0 r1 c0 c1, 1 ≤ n → n ≤ 64 → r0 ≤ r1 → r1 < 256 → c0 ≤ c1 → c1 < 256 → (t.slAlloc c.ctx).2 ≠ 0 → (c.s a).toNat % 4 = 0 →
      let w1 := BitVec.ofNat 32 (r0 + r1 * 2 ^ 8 + c0 * 2 ^ 16 + c1 * 2 ^ 24);
      s.ctrlAt2 p (wordG 0x3E 0 a 0 n) w1 t → exec (.coreLoad p (wordG 0x3E 0 a 0 n) w1) s =
        .next (t.enqueue p.val 0 (wordG 0x3E 0 a 0 n) w1 8 0 false (.coreLoad (c.s a).toNat n r0 r1 c0 c1))) ∧
    (s.ctrlAt p (wordG 0x19 0 a 0 2) t → exec (.coreRun p (wordG 0x19 0 a 0 2)) s =
      .next (t.enqueue p.val 0 (wordG 0x19 0 a 0 2) 0 4 0 true (.coreRun ((c.s a).setWidth 32)))) ∧
    (s.ctrlAt p (wordG 0x19 0 0 0 3) t → (t.arr p.val).run.running = true → exec (.coreStop p (wordG 0x19 0 0 0 3)) s =
      .next (((t.ctrlNext p.val 4).modArr p.val (fun a => { a with run := { a.run with stopped := true } })).stopRun p.val false)) ∧
    (s.ctrlAt p (wordG 0x19 0 0 0 3) t → (t.arr p.val).run.running = false →
      exec (.coreStop p (wordG 0x19 0 0 0 3)) s = .next (t.ctrlNext p.val 4)) ∧
    (∀ (q : Fin 3) w0 w1 len osn launchable op, let u := t.drainStores p.val
      let k := (u.ac p)
      (t.queueRoom p q.val → t.enqueue p.val q.val w0 w1 len osn launchable op =
        ((u.modArr p.val (fun a => let a := a.usedBy q.val
          { a.setQueue q.val (a.queue q.val ++ [{
              seq := k.seq + 1, pc := k.pc.toNat, w0 := w0, w1 := w1, osn := osn
              launch := if launchable then k.launch else none, late := if launchable then k.launchLate else [], op := op }]) with
            ctrl := { a.ctrl with
              seq := k.seq + 1, launch := if launchable then none else k.launch
              launchLate := if launchable then [] else k.launchLate } })).ctrlNext p.val len).advanceQ p.val) ∧
      (k.state = 1 → u.storesDone p.val = true → queueBound q.val ≤ ((u.arr p.val).queue q.val).length →
        t.enqueue p.val q.val w0 w1 len osn launchable op = u.stallIssue p.val (q.val + 1)))

/-- R207 to R211: drain, pass, gang.cfg and reduce that no check of their issue refuses; a pass carries its member's rows and bases, its
drain configuration and its gang, and takes no effect on the grid before it starts. -/
def Obligations.ArrayPassesIssue : Prop :=
  ∀ (p : ArrayId) (s t : State) (a x b : Nat), a < 32 → x < 32 → b < 16 → t.queueRoom p 0 →
    let c := t.ac p
    (∀ (rI fmt rnd acc : Nat) (sat chain : Bool), rI < 16 → fmt < 32 → rnd < 3 → acc < 3 → (acc = 0 → rI = 0) →
      let w0 := BitVec.ofNat 32 (0x39 * 2 ^ 26 + b * 2 ^ 21 + rI * 2 ^ 17);
      let w1 := BitVec.ofNat 32 (fmt + rnd * 2 ^ 5 + sat.toNat * 2 ^ 7 + acc * 2 ^ 8 + chain.toNat * 2 ^ 10);
      s.ctrlAt2 p w0 w1 t → (drainChecks fmt rnd acc (descOf (c.dget b)) (descOf (c.dget rI)) b rI).all (·.isNone) = true →
      exec (.drain p w0 w1) s = .next (t.enqueueWith p.val 0 w0 w1 8 0 false .drainCfg (fun k => { k with drain := some ⟨c.dget b,
        if acc = 0 then 0#512 else c.dget rI, fmtOr fmt, rndOr rnd, sat, acc, chain, b, if acc = 0 then 0xFF else rI⟩ }))) ∧
    (∀ (trans wsrc gend : Bool) (phase fa fw : Nat) (anchor : BitVec 10) (d : DrainSet), phase < 256 → fa < 32 → fw < 32 →
      (gend = true → trans = true) → c.drain = some d →
      let w0 := BitVec.ofNat 32 (0x38 * 2 ^ 26 + x * 2 ^ 21 + a * 2 ^ 16 + b * 2 ^ 12 + trans.toNat * 2 ^ 11 + wsrc.toNat * 2 ^ 10
        + gend.toNat * 2 ^ 9);
      let w1 := BitVec.ofNat 32 (phase * 2 ^ 24 + fa * 2 ^ 19 + fw * 2 ^ 14 + anchor.toNat);
      let n := 2 ^ c.gang.log2;
      let rank := (t.logOf p.val).getD 0 % n;
      let m := ((c.s x >>> 32).setWidth 16).toNat + 1;
      let share (i : Nat) : Nat := if c.gang.split = 1 then m / n + (if i < m % n then 1 else 0) else m;
      let m0 := ((c.s a).setWidth 32).toNat;
      s.ctrlAt2 p w0 w1 t → (fmtOfCode fa).any fmtOperand = true → (fmtOfCode fw).any fmtOperand = true →
      pairAllowed (fmtOr fa) (fmtOr fw) = true → goodDesc (c.dget b) 0 → (fmtMx (fmtOr fa) = true → (descOf (c.dget b)).mxAxis = 0) →
      share rank ≤ maxRows trans (fmtOr fw) → m0 + m ≤ 2 ^ 32 → (c.gang.split = 3 → d.fmt = .record) →
      ∃ op : PassOp, exec (if trans then .passT p w0 w1 else .pass p w0 w1) s =
          .next (t.enqueueWith p.val 0 w0 w1 8 op.osn true (.pass op) (fun k => { k with chkNext := false })) ∧
        op.osn = ((c.s x).setWidth 32).toNat ∧ op.rows = share rank ∧
        op.m0 = (if c.gang.split = 1 then m0 + ((List.range rank).map share).sum else m0) ∧
        op.n0 = ((c.s a >>> 32).setWidth 32).toNat + (if c.gang.split = 2 then 256 * rank else 0) ∧
        op.dA = c.dget b ∧ op.trans = trans ∧ op.wsrc = wsrc ∧ op.gend = gend ∧ op.phase = phase ∧ op.fa = fmtOr fa ∧ op.fw = fmtOr fw ∧
        op.anchor = anchor.toInt ∧ op.drain = d ∧ op.gang = c.gang ∧ op.rank = rank) ∧
    (∀ k split stagger, k ≤ 4 → split < 4 → stagger < 256 → (c.s a).toNat = k + split * 16 + stagger * 256 → t.gangInside c.ctx p.val k = true →
      (split = 3 → (descOf (c.dget b)).fault = none ∧ (descOf (c.dget b)).layout = 0 ∧ (descOf (c.dget b)).code = 0x11) →
      s.ctrlAt p (wordG 0x19 b a 0 1) t → exec (.gangCfg p (wordG 0x19 b a 0 1)) s =
        .next (t.enqueueWith p.val 0 (wordG 0x19 b a 0 1) 0 4 0 false (.gangCfg ⟨k, split, stagger, c.dget b⟩)
          (fun k' => { k' with gang := ⟨k, split, stagger, c.dget b⟩ }))) ∧
    (∀ (rO fmt rnd : Nat) (sat : Bool) (anchor : BitVec 10), rO < 16 → rnd < 3 → fmt < 32 → (fmtOfCode fmt).any fmtDrain = true →
      c.gang.split = 3 → c.gang.log2 ≠ 0 → goodDesc (c.dget b) 0 → (descOf (c.dget b)).code = 0x11 →
      t.regionFits p.val c.gang (descOf (c.dget b)) = true →
      (t.gangRank p.val c.gang = 0 → goodDesc (c.dget rO) 0 ∧ (descOf (c.dget rO)).code = fmt ∧
        (descOf (c.dget b)).extOf 0 ≤ (descOf (c.dget rO)).extOf 0 ∧ (descOf (c.dget b)).extOf 1 ≤ (descOf (c.dget rO)).extOf 1 ∧
        (fmtMx (fmtOr fmt) = true → (descOf (c.dget rO)).mxAxis = 0)) →
      let w0 := BitVec.ofNat 32 (0x3A * 2 ^ 26 + b * 2 ^ 21 + x * 2 ^ 16 + rO * 2 ^ 12);
      let w1 := BitVec.ofNat 32 (anchor.toNat + fmt * 2 ^ 10 + rnd * 2 ^ 15 + sat.toNat * 2 ^ 17);
      s.ctrlAt2 p w0 w1 t → ∃ (level : Nat) (replay : Bool), exec (.reduceTree p w0 w1) s =
        .next (t.enqueueWith p.val 0 w0 w1 8 ((c.s x).setWidth 32).toNat false
          (.reduce (c.dget b) (c.dget rO) ((c.s x).setWidth 32).toNat anchor.toInt (fmtOr fmt) (rndOr rnd) sat c.gang level replay)
          (fun k => { k with chkNext := false })))

/-- R213 to R216, R221: vc, dma, the window instructions and chk.release that no check of their issue refuses. -/
def Obligations.EngineCommandsIssue : Prop :=
  ∀ (p : ArrayId) (s t : State) (d a b : Nat), d < 32 → a < 32 → b < 32 →
    let c := t.ac p
    (∀ (anchor : BitVec 10) (phase : Nat) bs u, phase < 256 → ((c.s d).setWidth 48).toNat % 64 = 0 → ((c.s b).setWidth 48).toNat % 32 = 0 →
      (t.arr p.val).vq.length < 16 → t.recordRead p.val ((c.s d).setWidth 48).toNat 64 = .ok bs u →
      let w1 := BitVec.ofNat 32 (anchor.toNat + phase * 2 ^ 10);
      s.ctrlAt2 p (wordG 0x3B d a b 0) w1 t → exec (.vcChain p (wordG 0x3B d a b 0) w1) s =
        .next (u.enqueue p.val 1 (wordG 0x3B d a b 0) w1 8 ((c.s a).setWidth 32).toNat false
          (.chain (c.chainOp bs ((c.s d).setWidth 48).toNat (if b = 0 then none else some ((c.s b).setWidth 48).toNat)
            ((c.s a).setWidth 32).toNat w1)))) ∧
    (∀ r ∈ ([(.dmaCopy, 0), (.dmaFill, 1), (.dmaGather, 2), (.dmaScatter, 3)] : List ((ArrayId → Word → Word → Instr) × Nat)),
      ∀ (rD rS rX k : Nat) (sig : Bool) (inc : BitVec 16), rD < 16 → rS < 16 → rX < 16 → k < 64 →
      let good (x : BitVec 512) : Prop := (descOf x).fmt.isSome = true ∧ (descOf x).fault = none;
      let w0 := BitVec.ofNat 32 (0x3C * 2 ^ 26 + rD * 2 ^ 21 + rS * 2 ^ 17 + rX * 2 ^ 13 + a * 2 ^ 8 + r.2 * 2 ^ 5);
      let w1 := BitVec.ofNat 32 (k + sig.toNat * 2 ^ 6 + inc.toNat * 2 ^ 7);
      let unused : Prop := (r.2 ≠ 1 ∧ a ≠ 0) ∨ (r.2 = 1 ∧ rS ≠ 0) ∨ (r.2 < 2 ∧ rX ≠ 0)
      (s.ctrlAt2 p w0 w1 t → unused → exec (r.1 p w0 w1) s = .next (t.issueFault p.val 0x80 3 w0 w1 0xFF 0 0)) ∧
      (s.ctrlAt2 p w0 w1 t → ¬unused → good (c.dget rD) → (r.2 ≠ 1 → good (c.dget rS)) → (2 ≤ r.2 → good (c.dget rX)) → exec (r.1 p w0 w1) s =
        .next (t.enqueue p.val 2 w0 w1 8 0 true (.dma ⟨r.2, c.dget rD, c.dget rS, c.dget rX, c.s a, sig, k, inc⟩)))) ∧
    (∀ n < 64, ((c.s a).setWidth 48).toNat % 64 = 0 → s.ctrlAt p (wordG 0x1E 0 a 0 n) t → (t.window p.val n).closing = true →
      exec (.winOpen p (wordG 0x1E 0 a 0 n)) s = .next t) ∧
    (∀ n < 64, ∀ bs u, ((c.s a).setWidth 48).toNat % 64 = 0 → t.recordRead p.val ((c.s a).setWidth 48).toNat 64 = .ok bs u →
      s.ctrlAt p (wordG 0x1E 0 a 0 n) t → (t.window p.val n).closing = false →
      (winRecordOk bs = true → (u.window p.val n).isOpen = false → exec (.winOpen p (wordG 0x1E 0 a 0 n)) s =
        .next ((u.setWindow p.val n { u.window p.val n with
          isOpen := true, closing := false, gen := ((u.window p.val n).gen + 1) % 65536, ctx := (u.ac p).ctx, record := bs, counter := 0 }).ctrlNext
          p.val 4)) ∧
      (winRecordOk bs = false ∨ (u.window p.val n).isOpen = true → exec (.winOpen p (wordG 0x1E 0 a 0 n)) s =
        .next ((u.postCtx (u.ac p).ctx 0x0D (if (u.window p.val n).isOpen then 6 else 7) 2 (srcOf 1 p.val)
          (winPayload n ((u.logOf p.val).getD 0) 0 (u.ac p).ctx 0 (u.window p.val n).gen 0 0 0)).ctrlNext p.val 4))) ∧
    (∀ n < 64, s.ctrlAt p (wordG 0x1E 0 0 0 (0x100 + n)) t → (t.window p.val n).isOpen = true →
      let shut := t.setWindow p.val n { t.window p.val n with isOpen := false, closing := t.winAdmitted p.val n }
      exec (.winClose p (wordG 0x1E 0 0 0 (0x100 + n))) s = .next (if t.winAdmitted p.val n
        then shut.modCtrl p.val (fun k => { k with blocked := .closing n }) else shut.ctrlNext p.val 4)) ∧
    (∀ n < 64, s.ctrlAt p (wordG 0x1E 0 0 0 (0x100 + n)) t → (t.window p.val n).isOpen = false →
      exec (.winClose p (wordG 0x1E 0 0 0 (0x100 + n))) s = .next (if (t.window p.val n).closing
        then t.modCtrl p.val (fun k => { k with blocked := .closing n }) else t.ctrlNext p.val 4)) ∧
    (∀ n < 64, s.ctrlAt p (wordG 0x1E d 0 0 (0x200 + n)) t → exec (.winCtr p (wordG 0x1E d 0 0 (0x200 + n))) s =
      .next (t.ctrlDone p (c.sput d (t.window p.val n).counter))) ∧
    (∀ n < 64, s.ctrlAt p (wordG 0x1E d 0 0 (0x300 + n)) t → exec (.winGen p (wordG 0x1E d 0 0 (0x300 + n))) s =
      .next (t.ctrlDone p (c.sput d (t.window p.val n).gen))) ∧
    (s.ctrlAt p (wordG 0x1F d a 0 3) t →
      let held (x : Tile) : Bool := x.unresolved && x.state == 4 && x.osn == ((c.s a).setWidth 32).toNat && x.ctx == c.ctx
      ((t.arr p.val).tiles.find? held = none → exec (.chkRelease p (wordG 0x1F d a 0 3)) s = .next (t.ctrlDone p (c.sput d 0))) ∧
      (∀ x, (t.arr p.val).tiles.find? held = some x → exec (.chkRelease p (wordG 0x1F d a 0 3)) s =
        .next ((t.setArr p.val (releaseTiles (t.arr p.val) x.seq).1).ctrlSet p.val (fun c => c.sput d (releaseTiles (t.arr p.val) x.seq).2)))) ∧
    (∀ n : Fin 64, (t.window p.val n.val).closing = true → t.winAdmitted p.val n.val = false →
      let u := t.setWindow p.val n.val { t.window p.val n.val with closing := false }
      exec (.winCloseComplete p n) t = .next (if c.blocked = .closing n.val then u.ctrlDone p { c with blocked := .no } else u))

/-- R80 to R89, R101 to R106, R128, R210: the entries of the array queue start and complete: transfers into a set, swaps, passes, gang
configurations and core-mode runs. -/
def Obligations.ArrayQueueEvents : Prop :=
  ∀ (p : ArrayId) (s : State) (e : QEntry) (es : List QEntry), (s.arr p.val).runs = true → s.replayOn p.val = false → s.stopping p.val = false →
    (s.arr p.val).restarts = [] → (s.arr p.val).run.running = false → (s.arr p.val).run.frozen = false → (s.arr p.val).streams = false →
    (∀ n, s.unitStalled p.val n = false) →
    let a := s.arr p.val
    let acc := s.unitAcc p.val a.ctrl.ctx .read
    let n := (s.logOf p.val).getD 0
    (∀ shadow dW park slot scale, a.aq = e :: es → e.op = .load shadow dW park slot scale → a.feed = none →
      let f := fmtOr (descOf dW).code
      let rs := blockRanges (descOf dW) f
      s.firstEdgeFault p.val acc rs = none → (s.physRanges acc rs).any (fun r => s.uncommittedHit r.1 r.2) = false →
      (park = true → ∀ t ∈ s.tilesAt (slateBase (n * 65536)), t.held = []) →
      let u := (s.popAq p.val).modArr p.val (fun a => { (if shadow then a.openShadow else a.openActive f) with
        feed := some e, park := if park then tblDel a.park slot else a.park })
      exec (.northFeedTransferStart p) s = .next ((if park then u.setOcc p.val slot false else u).advanceQ p.val)) ∧
    (∀ slot scale, a.aq = e :: es → e.op = .unpark slot scale → a.feed = none →
      (∀ b, tblFind a.park slot = some b → b.owned a.ctrl = true → s.firstEdgeFault p.val acc (scaleRanges scale b) = none →
        (s.physRanges acc (scaleRanges scale b)).any (fun r => s.uncommittedHit r.1 r.2) = false → exec (.northFeedTransferStart p) s =
          .next (((s.popAq p.val).modArr p.val (fun a => { a.openShadow with feed := some e })).advanceQ p.val)) ∧
      ((∀ b, tblFind a.park slot = some b → b.owned a.ctrl = false) → exec (.northFeedTransferStart p) s =
        .next ((s.popAq p.val).entryFault p.val e 0x85 3 (sA e.w0) 0))) ∧
    (∀ shadow dW slot scale, a.feed = some e → e.op = .load shadow dW false slot scale →
      let f := fmtOr (descOf dW).code
      let ph := s.physRanges acc (blockRanges (descOf dW) f)
      let u := s.readRanges (some a.ctrl.ctx) ph
      (u.firstBad ph = none → exec (.northFeedTransferComplete p) s = .next
        ((u.modArr p.val (fun a => let b := u.readBlock p.val a.ctrl.ctx a.ctrl.gen dW f ph; { a with
          feed := none
          active := if shadow then a.active else some b
          shadow := if shadow then some b else if f = .fp32 then none else a.shadow
          fp32Pair := if shadow then a.fp32Pair else f == .fp32
          ctrl := { a.ctrl with wdig := mix64 (a.ctrl.wdig ^^^ b.digest) } })).advanceQ p.val)) ∧
      (∀ pa, u.firstBad ph = some pa → exec (.northFeedTransferComplete p) s = .next (u.flintPoison p.val 1 1 0 pa))) ∧
    (∀ slot scale, a.feed = some e → e.op = .unpark slot scale → exec (.northFeedTransferComplete p) s = .next (s.unparkDone p.val slot scale)) ∧
    (a.aq = e :: es → e.op = .swap → a.fillsShadow = false → a.fillsActive = false →
      (∀ b, a.shadow = some b → a.fp32Pair = false → b.owned a.ctrl = true → exec (.swapTokenStart p) s =
        .next (((s.popAq p.val).modArr p.val (fun a => { a with active := a.shadow, shadow := a.active })).advanceQ p.val)) ∧
      (a.shadow = none ∨ a.fp32Pair = true ∨ (∀ b, a.shadow = some b → b.owned a.ctrl = false) →
        exec (.swapTokenStart p) s = .next ((s.popAq p.val).entryFault p.val e 0x85 2 0xFF 0))) ∧
    (∀ op, a.aq = e :: es → e.op = .pass op → e.launch = none → (op.trans = true → a.feed = none) → a.fillsActive = false →
      a.otherWay op.trans = false → s.firstEdgeFault p.val acc ((descOf op.dA).tableRange 0) = none →
      let rows := Nat.min op.rows (s.actualLen acc (descOf op.dA) 0 0).2
      (rows = 0 → exec (.passStart p) s = .next (((s.popAq p.val).lateCheck p.val e).advanceQ p.val)) ∧
      (∀ i b, rows ≠ 0 → a.groupSlot = none → a.freeSlot = some i → (a.tile i).openGroup = false → a.active = some b →
        s.passStartFault p.val e op [] rows = none →
        let cols := if op.trans then b.k else b.n
        let inA := s.actRanges p.val a.ctrl.ctx op rows
        let inI := if op.drain.acc = 0 then [] else tileRanges (descOf op.drain.dI) .record rows cols
        let dst := tileRanges (descOf op.drain.dO) op.drain.fmt rows cols
        s.firstEdgeFault p.val acc inA = none → s.firstEdgeFault p.val acc inI = none →
        s.firstFault (s.unitAcc p.val a.ctrl.ctx .write) dst = none →
        s.foreignUncommitted p.val a.ctrl.ctx (s.physRanges acc (inA ++ inI)) = false → exec (.passStart p) s =
          .next ((s.softStart p.val).passStream p.val i e op b rows (s.physRanges acc (inA ++ inI))
            (s.physRanges (s.unitAcc p.val a.ctrl.ctx .write) dst))) ∧
      (∀ i f, rows ≠ 0 → a.groupSlot = none → a.freeSlot = some i → (a.tile i).openGroup = false →
        s.passStartFault p.val e op [] rows = some f → exec (.passStart p) s =
          .next ((s.popAq p.val).entryFault p.val e f.1 f.2.1 f.2.2 0)) ∧
      (rows ≠ 0 → a.groupSlot = none → a.freeSlot = none → exec (.passStart p) s = .next s)) ∧
    (∀ g, a.aq = e :: es → e.op = .gangCfg g → a.arrayIdle = true → exec (.gangCfgEffect p) s =
      .next (((s.popAq p.val).modCtrl p.val (fun c => { c with gangNow := g })).advanceQ p.val)) ∧
    (∀ arg, a.aq = e :: es → e.op = .coreRun arg → e.launch = none → a.feed = none → (∀ x ∈ a.tiles, x.state ≠ 1) →
      let u := (s.popAq p.val).lateCheck p.val e
      let v := u.modArr p.val (fun a => { a with run := ⟨true, false, arg, a.ctrl.gen, a.ctrl.ctx, e.osn, false, false, e.seq, none⟩ })
      let w := { v with cores := v.cores.map (fun (c : Nat × CoreState) => if c.1 / 65536 = n
        then (c.1, if c.2.armed then c.2.started (s.localTime p.val) else { c.2 with status := 2 }) else c) }
      exec (.coreRunStart p) s = .next ((w.setFlag (rAryCmStatus p.val) 31 true).advanceQ p.val))

/-- R80, R82, R101 to R106, R111, R114, R117 to R122: a tile leaves the grid, gets its verdict and commits; a grace time aborts streaming
passes; a waiting tile streams again; the levels of a K-split reduction combine record tiles, and after the last rank 0 holds the reduced
output. -/
def Obligations.TileEvents : Prop :=
  ∀ (p : ArrayId) (s : State) (slot : Fin 3), (s.arr p.val).runs = true →
    let a := s.arr p.val
    let t := a.tile slot.val
    (∀ upset op b steps, (List.range 3).find? (fun i => (a.tile i).streaming) = some slot.val → t.steps = steps ++ [(op, b)] →
      a.chainWaits t = false → (op.wsrc = true → a.feedsPending t.lastSeq = false) →
      let u := (s.bump64 (rAryPassCnt p.val) 1).streamEnds p.val
      let d := u.drained p.val t upset
      let v := u.setTile p.val slot.val { d.1 with poisoned := d.1.poisoned || d.2.isSome }
      let w := if d.1.staged then v else v.drainOut p.val slot.val false
      (op.trans = true → op.gend = false →
        exec (.tileBoundary p upset) s = .next (u.setTile p.val slot.val { t with openGroup := true })) ∧
      (¬(op.trans = true ∧ op.gend = false) → a.drainsFull = true → exec (.tileBoundary p upset) s = .next s) ∧
      (¬(op.trans = true ∧ op.gend = false) → a.drainsFull = false →
        (d.2 = none → exec (.tileBoundary p upset) s = .next w) ∧
        (∀ pa, d.2 = some pa → exec (.tileBoundary p upset) s = .next (w.flintPoison p.val 1 1 0 pa)))) ∧
    (∀ wit, t.state = 2 →
      let inj := s.fld (rAryWitCtl p.val) 23 0
      let h := tileHash t.accs t.rows t.ownFlags
      let u := (if inj = 0 then s else s.setFld (rAryWitCtl p.val) 23 0 0).setReg64 (rAryTileHash p.val) h
      let clean := addResidues (tileDeltas t) wit
      let ds := addResidues clean (if inj = 0 then [] else [(0, inj)])
      (firstFail t.flags.inexact ds = none →
        let x := { t with hash := h }
        exec (.tileVerdict p slot wit) s = .next (if t.anchorBad then (u.setTile p.val slot.val x).anchorFault p.val x
          else u.setTile p.val slot.val { x with
            state := 3, replay := if u.selected x then some (u.wantReplay p.val x false false false) else none })) ∧
      (∀ row delta, firstFail t.flags.inexact ds = some (row, delta) →
        let injected := decide (inj ≠ 0) && (firstFail t.flags.inexact clean).isNone
        let x := { t with hash := h, failRow := row, delta := delta, witFail := true }
        let v := (u.witRegs p.val slot.val row delta).postWitness p.val slot.val (if injected then 3 else 1) (if injected then 0 else 2) x injected
        exec (.tileVerdict p slot wit) s = .next (if t.anchorBad then (v.setTile p.val slot.val x).anchorFault p.val x
          else (v.setTile p.val slot.val { x with
            state := 4, replay := some (v.wantReplay p.val x true injected true) }).disagree p.val x))) ∧
    (t.state = 3 → t.replay = none → t.anchorBad = false → t.poisoned = false → a.depsDone t = true → a.chainUnchecked t = false →
      let u := ((if t.staged then s.drainOut p.val slot.val true else s).recordWit p.val t).setTile p.val slot.val { t with
        state := 0, dest := [], held := [], steps := [], entry := none, accs := [], wit := [], init := [], upset := [], deps := [] }
      exec (.tileCommit p slot) s = .next (((u.modArr p.val (fun a => { a with lastOsn := tblPut a.lastOsn t.ctx t.osn })).releaseChains p.val
        t.seq).advanceQ p.val)) ∧
    (∀ q c, s.partAt p.val = some q → (s.part q).outgoing = some c → (s.part q).saving.contains p.val = true →
      (a.tiles.any (fun t => t.state == 1) = true ∨ s.replayOn p.val = true) → a.brake = false → exec (.passGraceAbort p) s =
        .next ((((s.dropReplays p.val).modArr p.val abortArray).setPart q { s.part q with aborts := (s.part q).aborts + 1 }).bump
          (rDspCtxAborts c) 1)) ∧
    (∀ x xs i, a.restarts = x :: xs → a.freeSlot = some i → a.streams = false → a.run.running = false → a.feed = none →
      s.stopping p.val = false → s.residentAt p.val = some x.ctx → (a.ctrl.state = 1 ∨ a.ctrl.faulting.isSome = true) →
      a.otherWay x.transposed = false → s.replayOn p.val = false → (x.wsrc = true → ∀ r ∈ a.vec.reruns, a.fedBy r.entry x = false) →
      a.depsDone { x with deps := x.deps.filter (fun d => d != x.seq) } = true →
      (s.firstBad (x.held.map (fun r => (r.addr, r.len))) = none → let u := s.softStart p.val
        exec (.tileRestart p) s = .next (u.setArr p.val { ((u.arr p.val).reloaded x).setTile i
          { x with state := 1, openGroup := false, poisoned := false } with restarts := xs })) ∧
      (∀ pa, s.firstBad (x.held.map (fun r => (r.addr, r.len))) = some pa → exec (.tileRestart p) s =
        .next ((s.modArr p.val (fun a => { a with restarts := xs })).heldPoison p.val x pa))) ∧
    (∀ (r : RedState) dP dO osn anchor fmt rnd sat g level replay, a.red = some r →
      r.entry.op = .reduce dP dO osn anchor fmt rnd sat g level replay →
      let rank := (s.logOf p.val).getD 0 % 2 ^ g.log2
      (sendLevel rank g.log2 ≤ r.level → exec (.ksplitLevelArrival p) s =
        .next (if rank = 0 then (s.reducedTile p.val r).advanceQ p.val else s)) ∧
      (∀ (x : RedState) dP' dO' anchor' fmt' rnd' sat' g' level' replay' q, r.level < sendLevel rank g.log2 →
        s.gangMember p.val g.log2 (rank + 2 ^ r.level) = some q → (s.arr q).red = some x → (s.arr q).runs = true →
        x.entry.op = .reduce dP' dO' osn anchor' fmt' rnd' sat' g' level' replay' → x.level = sendLevel (rank + 2 ^ r.level) g'.log2 →
        let acc := s.unitAcc p.val a.ctrl.ctx .write
        let rs := recRanges (descOf g.region) x.tile
        let ph := s.physRanges acc rs
        let done := s.modArr q (fun a => { a with red := none })
        s.firstEdgeFault p.val acc (rs ++ recRanges (descOf dP) r.tile) = none → (∀ y ∈ ph, s.heldHit y.1 y.2 = false) →
        (wrapInt 4 anchor = wrapInt 4 anchor' →
          let z := r.joined x (regionsOf ph)
          let v := ((done.levelCombine p.val a.ctrl.ctx (descOf dP) (descOf g.region) anchor r.tile x.tile).modArr p.val
            (fun a => { a with red := some z })).advanceQ q
          exec (.ksplitLevelArrival p) s = .next (if rank = 0 ∧ z.level = g.log2 then (v.reducedTile p.val z).advanceQ p.val else v)) ∧
        (wrapInt 4 anchor ≠ wrapInt 4 anchor' → exec (.ksplitLevelArrival p) s =
          .next ((((done.pokeRecs p.val a.ctrl.ctx (descOf g.region) anchor' x.tile).modArr p.val (fun a => { a with red := none })).entryFault p.val
            r.entry 0x84 3 (bitsOf r.entry.w0.toNat 24 21) (descOf g.region).base).advanceQ q))))

/-- R181 to R185, R214, R215, R168: chains and DMA transfers start and complete. -/
def Obligations.EngineEvents : Prop :=
  ∀ (p : ArrayId) (s : State) (e : QEntry) (es : List QEntry), (s.arr p.val).runs = true → (∀ n, s.unitStalled p.val n = false) →
    let a := s.arr p.val
    let ctx := a.ctrl.ctx
    let acc := s.unitAcc p.val ctx .read
    let accW := s.unitAcc p.val ctx .write
    let vacc := s.vecAcc p.val ctx .read
    (∀ op, a.vq = e :: es → e.op = .chain op → a.vec.running = none → a.vec.reruns = [] → s.stopping p.val = false →
      let refuses (cause stage addr : Nat) : Prop := exec (.chainStart p) s = .next (s.chainRefuse p.val e ctx cause stage addr)
      let tile := if op.fromDrain then a.tiles.find? (fun t => t.state != 0 && t.state != 5 && a.attachesTo e t) else none
      (op.record = [] → refuses 7 0xFF op.recVa) ∧
      (∀ j, op.record ≠ [] → chainIllegal op.record = some j → refuses 1 j 0) ∧
      (op.record ≠ [] → chainIllegal op.record = none →
        (∀ j, op.formatFault = some j → refuses 2 j 0) ∧
        (∀ j, op.formatFault = none → op.shapeFault = some j → refuses 3 j 0) ∧
        (op.formatFault = none → op.shapeFault = none →
          (op.fromDrain = true → tile = none → exec (.chainStart p) s = .next s) ∧
          (∀ t, tile = some t → drainFits op t = false → refuses 6 0xFF 0) ∧
          ((op.fromDrain = true → ∃ t, tile = some t ∧ drainFits op t = true) → s.firstStall vacc (s.chainReads vacc op) = none →
            s.firstStall (s.vecAcc p.val ctx .write) (s.chainWrites vacc op) = none → s.chainBlocked p.val ctx op = false →
            exec (.chainStart p) s = .next ((s.modArr p.val (fun a => { a with vq := a.vq.drop 1 })).modArr p.val (fun a => { a with vec := { a.vec with
              running := some { entry := e, ctx := ctx, attached := tile.map (fun t => t.seq), staged := [], coord := tile.bind Tile.bases }
              frozen := false, races := [], lastSeq := e.seq } })))))) ∧
    (∀ r op upset, a.vec.running = some r → r.entry.op = .chain op →
      let racc := s.vecAcc p.val r.ctx .read
      (a.vec.frozen = false → r.sent = false → a.attachedReady r = true → a.feedReady r op = true →
        s.firstStall racc (s.chainReads racc op) = none → s.firstStall (s.vecAcc p.val r.ctx .write) (s.chainWrites racc op) = none →
        exec (.chainComplete ⟨p, upset⟩) s = .next ((s.chainEnd p.val r op upset).advanceQ p.val)) ∧
      (a.vec.frozen = false → r.sent = true → exec (.chainComplete ⟨p, upset⟩) s =
        .next (if s.windowsOf p.val r.entry.seq = [] then (s.chainFinish p.val r op).advanceQ p.val else s)) ∧
      (a.vec.frozen = true → exec (.chainComplete ⟨p, upset⟩) s = .next (if s.ctxState r.ctx = 5 then s.chainOver p.val r op 4 0 else s))) ∧
    (∀ r rs op upset, a.vec.reruns = r :: rs → r.entry.op = .chain op → a.vec.running = none → a.vec.frozen = false → s.stopping p.val = false →
      a.attachedReady r = true → a.depsDone { Tile.free with deps := r.after } = true →
      let racc := s.vecAcc p.val r.ctx .read
      let ph := s.physRanges racc (s.chainReads racc op)
      let u := (s.readRanges (some r.ctx) ph).modArr p.val (fun a => { a with vec := { a.vec with reruns := rs } })
      let o := u.chainAcc p.val { r with upset := upset } op op.rowCount
      let x := { r with upset := upset, prog := o.prog, hash := o.hash, sent := true, ended := true
                        checked := match r.second with | some (_, h) => h == o.hash | none => false }
      (op.dst = 1 ∧ o.prog.firstBad.isSome = true → exec (.chainRerun ⟨p, upset⟩) s =
        .next (u.chainFlint p.val { r with upset := upset } ((s.firstBad ph).getD 0))) ∧
      (¬(op.dst = 1 ∧ o.prog.firstBad.isSome = true) →
        let v := u.chainPerform p.val x op o.writes
        let w := if r.ended then v.settleFault p.val else v.chainFinish p.val x op
        exec (.chainRerun ⟨p, upset⟩) s =
          .next (match (List.range 3).find? (fun i => r.attached == some (a.tile i).seq && (a.tile i).state != 0) with
            | some i => w.chainDisagree p.val i
            | none => w))) ∧
    (∀ o, a.dq = e :: es → e.op = .dma o → a.dmas.length < 8 → e.launch = none → s.stopping p.val = false →
      let pop := s.modArr p.val (fun a => { a with dq := a.dq.drop 1 })
      (∀ n, o.startFault = some n → exec (.dmaStart p) s = .next (pop.entryFault p.val e 0x89 n (bitsOf e.w0.toNat 24 21) 0)) ∧
      (o.startFault = none → s.firstFault acc o.reads = none → s.firstFault accW (descOf o.dD).dmaRanges = none →
        (s.dmaWaits p.val ctx o = true → exec (.dmaStart p) s = .next s) ∧
        (s.dmaWaits p.val ctx o = false → exec (.dmaStart p) s = .next ((s.physRanges acc o.reads).foldl
          (fun u r => match u.place r.1 with
            | .aperture .. => u.sendWindows p.val e.seq ctx 0 r.1 false [] false r.2
            | _ => u) ((pop.lateCheck p.val e).modArr p.val (fun a => { a with dmas := a.dmas ++ [e] })))))) ∧
    (∀ n o, a.dmas[n]? = some e → e.op = .dma o → s.windowsOf p.val e.seq = [] →
      (a.dmaSent.contains e.seq = true → exec (.dmaComplete p n) s = .next ((s.dmaEnd p.val e o).advanceQ p.val)) ∧
      (a.dmaSent.contains e.seq = false → s.firstFault acc o.reads = none → s.firstFault accW (descOf o.dD).dmaRanges = none →
        exec (.dmaComplete p n) s = .next (if ((s.dmaPerform p.val e o).windowsOf p.val e.seq).isEmpty
          then ((s.dmaPerform p.val e o).dmaEnd p.val e o).advanceQ p.val else s.dmaPerform p.val e o)))

/-- R130, R144, R145, R192, R196, R219, R318: a run drains and ends, or is frozen; data, records, lines and times that a controller or a
queue waits for arrive. -/
def Obligations.WaitingUnitEvents : Prop :=
  ∀ (p : ArrayId) (s : State),
    let a := s.arr p.val
    let n := (s.logOf p.val).getD 0
    (a.runs = true → a.run.running = true → a.run.frozen = false → s.runDrained n = true →
      let u := if s.flag (rChkCtxCtl a.run.ctx) 4 then s.setReg64 (rAryCmDigest p.val) (s.runDigest n a.run.ctx) else s
      let v := { u with cores := u.cores.map (fun (c : Nat × CoreState) => if c.1 / 65536 = n then (c.1, { c.2 with rx := [], heldNote := [] }) else c) }
      let w := (v.postCoreFault p.val).modArr p.val (fun a => { a with run := { a.run with running := false, report := none } })
      let x := (w.setFlag (rAryCmStatus p.val) 31 false).setFld (rAryCmStatus p.val) 29 28
        (if a.run.faulted then 2 else if a.run.stopped then 3 else 1)
      let y := if (s.coresOf n).any (fun c => !c.2.rx.isEmpty || !c.2.heldNote.isEmpty) then x.setFlag (rAryCmStatus p.val) 27 true else x
      exec (.coreRunEnd p) s = .next (((y.bump (rAryCmRuns p.val) 1).settleFault p.val).advanceQ p.val)) ∧
    (∀ q, s.partAt p.val = some q → a.run.running = true → a.run.frozen = false → (s.part q).saving.contains p.val = true →
      s.runDrained n = false →
      let u := { s with cores := s.cores.map (fun (c : Nat × CoreState) => if c.1 / 65536 = n ∧ c.2.status = 1 then
        (c.1, { c.2 with status := 4, block := .no }) else c) }
      exec (.coreRunFreeze p) s = .next (((u.setPart q { s.part q with full := true }).modArr p.val (fun a => { a with
        run := { a.run with frozen := true } })).setFlag (rAryCmStatus p.val) 30 true)) ∧
    (∀ va size dest desc, a.runs = true → a.ctrl.blocked = .loadData va size dest desc → a.ctrl.state = 1 → va % size = 0 →
      (∀ bs u, s.ctrlRead p.val va size = .ok bs u → exec (.loadDataReturn p) s =
        .next ((u.modCtrl p.val (fun c => { c.loaded desc dest bs with blocked := .no })).ctrlNext p.val 4)) ∧
      (∀ pa entry off, s.ctrlRead p.val va size = .wait → s.access (s.ctrlAcc p.val a.ctrl.ctx .read) va = .ok pa →
        s.place pa = .aperture entry off → s.badIn (a.ctrl.ctx * 2 ^ 48 + pa) size = false → exec (.loadDataReturn p) s =
          .next (if s.windowsOf p.val 0 = [] then (s.modCtrl p.val (fun c => { c.loaded desc dest (s.rdPhys a.ctrl.ctx pa size) with
            blocked := .no })).ctrlNext p.val 4 else s))) ∧
    (∀ va, a.runs = true → a.ctrl.blocked = .record va → a.ctrl.state = 1 → exec (.loadDataReturn p) s =
      .next (if (s.windowsOf p.val 0).all (fun x => x.write)
        then (s.modCtrl p.val (fun c => { c with blocked := .no, recGot := some va })).advanceQ p.val else s)) ∧
    (∀ bs u, s.ctrlIssues p.val = true → s.fetchLine p.val (a.ctrl.pc.toNat / 64) = .ok bs u → exec (.fetchLineFill p) s = .next u) ∧
    (∀ t x : DWord, let u := s.clock t
      ((u.arr p.val).ctrl.blocked = .untilTime x → (u.arr p.val).ctrl.state = 1 → (u.arr p.val).runs = true →
        (u.localTime p.val - x).toNat < 2 ^ 63 → exec (.waitUntilRelease p t) s =
          .next ((u.modCtrl p.val (fun c => { c with dcache := [], blocked := .no })).ctrlNext p.val (u.instrLen p.val)))) ∧
    (∀ (t x : DWord) (q : Fin 3) e, let u := s.clock t
      let b := u.arr p.val
      let g := match e.op with | .pass op => op.gang | _ => b.ctrl.gangNow
      let rank := match e.op with | .pass op => op.rank | _ => u.gangRank p.val b.ctrl.gangNow
      let t1 := if g.log2 = 0 then x else x + BitVec.ofNat 64 (rank * g.stagger * 64)
      b.head q.val = some e → e.launch = some x → b.halted = false → b.gated = false →
      (2 ^ 63 ≤ (u.localTime p.val - t1).toNat → exec (.launchTimeReached p q t) s = .next u) ∧
      ((u.localTime p.val - t1).toNat < 2 ^ 63 →
        (b.brake = true → exec (.launchTimeReached p q t) s =
          .next (u.modHead p.val q.val (fun e => { e with late := (3 :: e.late).eraseDups }))) ∧
        (b.brake = false → b.qtzLocked = false → exec (.launchTimeReached p q t) s =
          .next (u.modHead p.val q.val (fun e => { e with late := (4 :: e.late).eraseDups }))) ∧
        (b.brake = false → b.qtzLocked = true → (g.log2 = 0 ∨ u.gangAgrees p.val g = true) → exec (.launchTimeReached p q t) s =
          .next (u.modHead p.val q.val (fun e => { e with launch := none, due := some (t1, rank) }))) ∧
        (b.brake = false → b.qtzLocked = true → g.log2 ≠ 0 → u.gangAgrees p.val g = false → exec (.launchTimeReached p q t) s =
          .next (u.gangFault p.val q.val g))))

/-- R252, R268 to R270: an access from this device's queue arrives at its window in the order of its source: one that no check refuses
moves its bytes, and one that a check refuses moves none: both sides learn the code, an owner only where the window has been open. -/
def Obligations.WindowArrivals : Prop :=
  ∀ (s : State) (n q : Nat) (a : WinAcc), s.memst.winq[n]? = some a → s.isRemote a = false → s.gateHeld a = false → s.winHeld a = false →
    s.winBehind (s.memst.winq.take n) a = false → s.physOf a.array = some q → a.admitted = false → a.src = none →
    let x := s.window q a.window
    let va := leAt x.record 0 8 + a.off
    let acc : Accessor := ⟨x.ctx, some a.array, if a.write then .write else .read, 3⟩
    let rs := s.physRanges acc [(va, a.size)]
    let told (side : Nat) : Nat := winPayload a.window a.array 0 a.ctx a.gen x.gen side a.off a.size
    (∀ code, winCheck x a = some code →
      let u := if x.isOpen = true ∨ x.gen ≠ 0 then s.postCtx x.ctx 0x0D code 2 (srcOf 1 q) (told 0) else s
      exec (.windowAccessArrival n) s = .next ((((u.bump (rAryWinRefused q) 1).postCtx a.ctx 0x0D code 2 (srcOf 1 a.p) (told 1)).winDone
        a true).digestRefused a)) ∧
    (winCheck x a = none → exec (.windowAccessArrival n) s = .next (s.winPerform q x a)) ∧
    (winCheck x a = none → a.write = false → s.firstFault acc [(va, a.size)] = none → rs.any (fun r => s.uncommittedHit r.1 r.2) = false →
      let u := s.readRanges (some x.ctx) rs
      exec (.windowAccessArrival n) s = .next (u.winReturn a (rs.flatMap (fun r => u.rdBytes r.1 r.2))
        (packBits (wordsOf va a.size).length (fun i => (u.physRanges acc (maskRanges va a.size (2 ^ i))).any (fun r => u.badIn r.1 r.2))))) ∧
    (winCheck x a = none → a.write = true → a.poison = 0 → s.firstFault acc [(va, a.size)] = none → (∀ r ∈ rs, s.heldHit r.1 r.2 = false) →
      let fl := leAt x.record 48 1
      let u := (rs.foldl (fun (st : State × List Byte) r => (st.1.store (some x.ctx) r.1 (st.2.take r.2), st.2.drop r.2)) (s, a.data)).1
      let v := if fl.testBit 1 then u.setWindow q a.window { u.window q a.window with counter := ((u.window q a.window).counter + 1) % 2 ^ 32 } else u
      let w := if fl.testBit 2 then v.addCtrl q (leAt x.record 49 1) 1 (sigSrc 4 false (a.array * 65536)) else v
      exec (.windowAccessArrival n) s = .next (w.winDone a false))

/-- R345 to R355: replays start and end; an original that its replay confirms commits, and a failed verdict that a replay overrules is a
strike; a disagreement goes to a third execution, and the matching pair of the three commits; windows of 24 h move on. The second executions
of the chains of a tile of level 3 end with its replay. -/
def Obligations.ReplayEvents : Prop :=
  ∀ (p : ArrayId) (s : State) (slot : Fin 3) (t : Tile) (r : Replay), (s.arr p.val).tile slot.val = t → t.replay = some r →
    (∀ q, (if r.done = true then s.partnerFor p.val t true r.third r.partner.toList else s.partnerFor p.val t r.resolving r.partner []) = some q →
      r.streaming = false → r.thirdStreaming = false → t.state = 3 ∨ t.state = 4 →
      let r' : Replay := if r.done = true then { r with third := some q, thirdStreaming := true } else { r with partner := some q, streaming := true }
      (s.partnerReady q = true → s.firstBad (t.held.map (fun h => (h.addr, h.len))) = none → s.sourceSame p.val t = true →
        exec (.replayStart p slot) s = .next ((((((s.fillRing q t).softStart q).setTile p.val slot.val { t with replay := some r' }).bump64
          rChkReplays 1).bump (rChkCtxReplays t.ctx) 1).lifeCount (466 + p.val) 1)) ∧
      (s.partnerReady q = false → exec (.replayStart p slot) s = .next (s.setTile p.val slot.val
        { t with replay := some (if r.done = true then { r with third := some q } else { r with partner := some q }) }))) ∧
    (∀ q upset f, r.streaming = true → r.thirdStreaming = false → r.partner = some q → (s.arr p.val).chainsRun t = false →
      s.firstBad (t.held.map (fun h => (h.addr, h.len))) = none →
      let tr := replayTile t upset
      let h := tileHash tr.accs tr.rows tr.ownFlags
      let u := (s.streamEnds q).secondChains p.val slot.val q t { tr with hash := h } f.chains
      firstFail tr.flags.inexact (addResidues (tileDeltas tr) f.wit) = none →
      (r.origFailed = false → h = t.hash → exec (.replayComplete p slot upset f) s =
        .next ((u.settleOriginal p.val slot.val q t).chainDisagree p.val slot.val)) ∧
      (r.origFailed = true → r.injected = false → h ≠ t.hash → exec (.replayComplete p slot upset f) s =
        .next ((((u.settleReplay p.val slot.val t { tr with hash := h, replayedOn := some q } h).resolved p.val t 0x02 h 0xFF 0 (some q)).strike
          p.val).chainDisagree p.val slot.val)) ∧
      (r.origFailed = true → r.injected = false → h = t.hash → exec (.replayComplete p slot upset f) s =
        .next ((((u.wpathFault p.val slot.val t).settleOriginal p.val slot.val q t).resolved p.val t 0x03 h 0xFF 0 (some q)).chainDisagree
          p.val slot.val)) ∧
      (r.origFailed = false → h ≠ t.hash →
        let v := (u.disagree p.val t).postReplay (some t.ctx) 0x01 2 p.val t 0 h 0xFF 0 (some q)
        exec (.replayComplete p slot upset f) s = .next ((v.setTile p.val slot.val { t with replay := some { r with
          resolving := true, streaming := false, thirdStreaming := false, done := true, hash := h, pass := true
          third := v.partnerFor p.val t true none [q], since := v.now.toNat } }).chainDisagree p.val slot.val))) ∧
    (∀ q q3 upset f, r.thirdStreaming = true → r.chains = false → r.partner = some q → r.third = some q3 → (s.arr p.val).chainsRun t = false →
      s.firstBad (t.held.map (fun h => (h.addr, h.len))) = none →
      let tt := replayTile t upset
      let h := tileHash tt.accs tt.rows tt.ownFlags
      let u := (s.streamEnds q3).secondChains p.val slot.val q3 t { tt with hash := h } f.chains
      firstFail tt.flags.inexact (addResidues (tileDeltas tt) f.wit) = none →
      (h = t.hash → exec (.replayComplete p slot upset f) s = .next ((((u.strike q).settleOriginal p.val slot.val q t).resolved p.val t 0x03
        r.hash q3 h (some q)).chainDisagree p.val slot.val)) ∧
      (h ≠ t.hash → h = r.hash → exec (.replayComplete p slot upset f) s = .next ((((u.settleReplay p.val slot.val t
        { tt with hash := h, replayedOn := some q } h).resolved p.val t 0x02 r.hash q3 h (some q)).strike p.val).chainDisagree p.val slot.val)) ∧
      (h ≠ t.hash → h ≠ r.hash → exec (.replayComplete p slot upset f) s = .next (((u.overwrite p.val slot.val t { tt with hash := h } h).unresolve
        p.val slot.val t [p.val, q, q3] r.hash q3 h (some q) 0 t.hash).chainDisagree p.val slot.val))) ∧
    ((if r.done = true then r.third else r.partner) = none → t.state = 3 ∨ t.state = 4 → exec (.partnerWaitExpiry p slot) s =
      .next ((s.postReplay (some t.ctx) 0x07 2 p.val t 0 r.hash 0xFF 0 r.partner).unresolve p.val slot.val t [] r.hash 0xFF 0 r.partner 0 t.hash)) ∧
    (exec (.strikeWindowExpiry p) s = .next (
      let l := (tblGet [] s.integ.strikes p.val).filter (fun x => decide (s.now.toNat < x + dayTicks))
      let w := (tblGet [] s.integ.wpaths p.val).filter (fun x => decide (s.now.toNat < x + dayTicks))
      (({ s with integ := { s.integ with strikes := tblPut s.integ.strikes p.val l, wpaths := tblPut s.integ.wpaths p.val w } }.setFld
        (rChkArray p.val) 7 0 (Nat.min 255 l.length)).setFld (rChkArray p.val) 23 16 (Nat.min 255 w.length)))) ∧
    (∀ q : ArrayId, s.freeSpare q.val = true → s.isPartner q.val = false →
      exec (.spareRetentionReturn q) s = .next (s.retain q.val))

/-- R245, R252, R254, R261 to R265, R274, R275: lane repair, trunk links, scrub, walks, invalidation, resumption and ATS. A packet reaches
router r by a link of its path; it lands, is replayed at most 8 times, and then goes on poisoned while its link fails. -/
def Obligations.MemoryEvents : Prop :=
  ∀ (s : State),
    (∀ site pc, exec (.hbmLaneRepair site pc) s = .next (s.modPc (64 * site.val + pc.val) (fun h => { h with repairing := true }))) ∧
    (∀ site x, (tblGet HbmPc.reset s.memst.hbm (64 * site.val + x.pc.val)).repairing = true → exec (.hbmLaneRepairComplete site x) s =
      .next (((s.modPc (64 * site.val + x.pc.val) (fun h => { h with repairing := false })).logAdd 0x06 6 0
        [site.val, x.pc.val / 2, x.lane.toNat]).postDev 0x01 0x40 1 (srcOf 5 site.val) (payloadOf [(25, 1, 2), (26, 2, x.pc.val), (28, 4, 1)]))) ∧
    (∀ (h : PacketHead) poison data pa (r : RouterId) crc,
      let k : TrunkPacket := ⟨h.src, h.dst, h.rsp, h.ctx, h.gen, h.seq, poison, data, pa⟩
      let field := routerField r.val
      (s.routerOn r.val = false → exec (.trunkPacketReceive h poison data pa r crc) s = .next s) ∧
      (s.routerOn r.val = true → s.trunkRoute h.src.val h.dst.val = none → r.val = meshRouter h.src.val →
        exec (.trunkPacketReceive h poison data pa r crc) s =
          .next ((s.poison pa data.length).postDev 0x01 0x21 2 (srcOf 4 field) (payloadOf [(25, 1, 3), (26, 2, 0), (28, 4, 1)]))) ∧
      (∀ path a, s.routerOn r.val = true → s.trunkRoute h.src.val h.dst.val = some path → hopBefore r.val path = some a →
        let l := s.hopLink k a r.val
        let n := (s.trunkLink l).attempts
        (s.trunkLink l).failed = false →
        (crc.toNat = crc32c (trunkBytes k) → exec (.trunkPacketReceive h poison data pa r crc) s =
          .next ((s.setLink l { s.trunkLink l with attempts := 0 }).trunkLand k r)) ∧
        (crc.toNat ≠ crc32c (trunkBytes k) → n < 8 →
          (∀ c u, (s.setLink l { s.trunkLink l with attempts := n + 1 }).rateLimit (srcOf 4 field) = (some c, u) →
            exec (.trunkPacketReceive h poison data pa r crc) s =
              .next (u.postDev 0x01 0x20 1 (srcOf 4 field) (payloadOf [(25, 1, 3), (26, 2, l), (28, 4, c)]))) ∧
          (∀ u, (s.setLink l { s.trunkLink l with attempts := n + 1 }).rateLimit (srcOf 4 field) = (none, u) →
            exec (.trunkPacketReceive h poison data pa r crc) s = .next u)) ∧
        (crc.toNat ≠ crc32c (trunkBytes k) → 8 ≤ n → exec (.trunkPacketReceive h poison data pa r crc) s =
          .next (((s.failLink l field).poison pa data.length).postDev 0x01 0x21 2 (srcOf 4 field) (payloadOf [(25, 1, 3), (26, 2, l), (28, 4, 1)]))))) ∧
    (∀ m pa syn, s.inMedium m.val pa = true → s.checkAt pa = .clean → (∀ w ∈ s.memst.check.map (fun c => c.1 * 8), s.inMedium m.val w = false) →
      exec (.scrubPass m ⟨[(pa, syn, false)], [], []⟩) s = .next (s.setCheck pa (Check.ofSyn syn.toNat))) ∧
    (∀ m w syn, s.memst.check = [(w, .uncorrectable syn)] → s.siteOff (8 * w) = false → s.inMedium m.val (8 * w) = true → exec (.scrubPass m ⟨[], [], []⟩) s =
      .next (((s.setCheck (8 * w) .poisoned).bumpMem (8 * w) true).postDev 0x01 0x13 2 (s.memSource (8 * w)) (s.memPayload (8 * w) syn 1))) ∧
    (∀ r, s.memst.inv = some r → s.invDone r = true → exec .mmuInvComplete s =
      .next ({ s with memst := { s.memst with inv := none } }.setFlag rMmuInvStatus 0 false)) ∧
    (∀ (w : WalkFor) (va : BitVec 48) root level ea e kind pa, s.rootOf w.ctx.val = some root → kind ∈ [AccKind.read, .write, .fetch] →
      s.walk ⟨w.ctx.val, s.logOf w.array.val, kind, 3⟩ va.toNat root 3 = .ok pa →
      (s.walkPath va.toNat root 3).getLast? = some (level, ea, e) → e.testBit 0 = true → e.testBit 1 = false → pteMalformed level e = false →
      exec (.pageWalkComplete w va) s = .next (((s.walkPath va.toNat root 3).foldl (fun u x =>
        if u.walkAllowed w.ctx.val x.2.1 = true then u.readChecks (some w.ctx.val) x.2.1 8 else u) s).cacheWalk w.array.val w.micro.val w.ctx.val
          va.toNat (s.walkPath va.toNat root 3) level e)) ∧
    (∀ h fn page pages, exec (.atsInvalidation h fn page pages) s = .next ((({ s with memst := { s.memst with
      atc := tblPut s.memst.atc h.val ((tblGet [] s.memst.atc h.val).filter (fun e =>
        !(e.1 == fn && decide (page ≤ e.2) && decide (e.2 < page + pages)))) } }.bump (rHstAtcInv h.val) 1)).emit "ats" [h.val, fn, page, pages, 1])) ∧
    (∀ h fn page, (s.hport h.val).atsOut.contains (fn, page) = true →
      let x := s.hport h.val
      let hit (r : HostReq) : Bool := !r.refused && r.fn == fn && r.page == page
      let u := s.setHport h.val { x with atsOut := x.atsOut.filter (fun e => e != (fn, page)), atsWait := x.atsWait.filter (fun r => !hit r) }
      exec (.atsTranslationCompletion h fn page true) s = .next ((x.atsWait.filter hit).foldl (fun v r => v.hostReq h.val r)
        { u with memst := { u.memst with atc := tblPut u.memst.atc h.val (((fn, page) :: tblGet [] u.memst.atc h.val).take 8192) } }) ∧
      (x.atsWait.filter hit = [] → exec (.atsTranslationCompletion h fn page false) s =
        .next (s.setHport h.val { x with atsOut := x.atsOut.filter (fun e => e != (fn, page)) })) ∧
      (∀ r, x.atsWait.filter hit = [r] → exec (.atsTranslationCompletion h fn page false) s =
        .next ((s.setHport h.val { x with
          atsOut := x.atsOut.filter (fun e => e != (fn, page))
          atsWait := x.atsWait.map (fun r => if hit r then { r with refused := true } else r) }).stallUnit r.ctx 8 h.val r.va .write 2 0xFF
            (hostWindow h.val (nth 0 r.msg 2)) 0)))

/-- R292 to R300, R305 to R308, R336: a signal reaches its counter, live or saved, and waits on the net while its target is being remapped
(R296); a Flint halt gates its arrays and releases them. -/
def Obligations.SignalAndFlintEvents : Prop :=
  ∀ (s : State) (n : Nat) (x : Signal),
    (∀ p id k, s.signals[n]? = some x → sigTarget x.target = .core id k → s.physOf (sigTarget x.target).array = some p →
      s.signalFirst n x = true → s.residentAt p = some x.ctx → s.signalHeld p = false → exec (.signalArrival n [] none) s =
        .next ({ s with signals := removeFirst (fun y => y == x) s.signals }.addCore id k x.inc x.src)) ∧
    (∀ p, s.signals[n]? = some x → s.physOf (sigTarget x.target).array = some p → s.signalHeld p = true →
      exec (.signalArrival n [] none) s = .next s ∧ exec (.signalDivert n) s = .next s) ∧
    (∀ p a k, s.signals[n]? = some x → sigTarget x.target = .ctrl a k → s.physOf (sigTarget x.target).array = some p →
      s.signalFirst n x = true → s.residentAt p = some x.ctx → s.signalHeld p = false → exec (.signalArrival n [] none) s =
        .next ({ s with signals := removeFirst (fun y => y == x) s.signals }.addCtrl p k x.inc x.src)) ∧
    (∀ p a k v, s.signals[n]? = some x → sigTarget x.target = .ctrl a k → s.physOf a = some p → s.signalFirst n x = true →
      s.signalHeld p = false → s.residentAt p ≠ some x.ctx → s.savedCtr x.ctx (2 ^ 20 + a) k = v → 0 ≤ (v.toNat : Int) + x.inc → (v.toNat : Int) + x.inc < 2 ^ 15 →
      exec (.signalDivert n) s = .next ({ s with signals := removeFirst (fun y => y == x) s.signals }.setSavedCtr x.ctx (2 ^ 20 + a) k
        (BitVec.ofInt 16 ((v.toNat : Int) + x.inc)))) ∧
    (∀ r, s.flint.reqs = [r] → s.flint.gated = 0 → r.mask < 2 ^ 18 → ∃ t, exec .flintGating s = .next t ∧ t.flint.gated = r.mask ∧
      (∀ p < 18, r.mask.testBit p = true → (t.arr p).halted = true) ∧ t.fld rQtzFlintStatus 31 28 = r.cause % 16 ∧ t.fld rQtzFlintStatus 17 0 = r.mask) ∧
    (∀ r, s.flint.reqs = [r] → s.flint.gated = r.mask → r.cause = 15 → r.mask < 2 ^ 18 →
      (∀ p < 18, r.mask.testBit p = true → (s.arr p).brake = false) → ∃ t, exec .flintHaltRelease s = .next t ∧
        t.flint = { reqs := [], gated := 0 } ∧ ∀ p < 18, r.mask.testBit p = true → (t.arr p).halted = false) ∧
    (∀ p : ArrayId, exec (.clockMeshFault p) s = .next (s.flintRaise
      { mask := s.gangMask p.val, cause := 4, time := s.now, ctx := none, source := srcOf 1 p.val, core := 0, addr := 0, array := p.val })) ∧
    (∀ req v, exec (.flintInject req v) s = .next (s.regWrite req rQtzFlintInject v.toNat flintInject))

/-- R309 to R316, R322 to R335, R427: correction beats, reference samples, time frames, delay exchanges and array clocks. Before a node is
assigned the device sends no frame and drops those that arrive, with class 0x06 code 0x12. -/
def Obligations.TimeEvents : Prop :=
  ∀ (s : State) (t : DWord), let u := s.clock t
    (s.now.toNat ≤ u.now.toNat ∧ t.toNat ≤ u.now.toNat) ∧
    (∀ offs, exec (.quartzBeat offs) s = .next (((List.range 47).foldl (fun s i =>
      if !s.islandPowered i then s.setIsland i Island.reset
      else match offs.find? (fun x => x.1 == i) with | some x => s.islandBeat i x.2 | none => s.islandMiss i) s).lockSummary)) ∧
    (∀ (i : Nat) (o : Int), 18 ≤ i → (s.island i).locked = true → o.natAbs ≤ 750 →
      (s.islandBeat i o).island i = { s.island i with
        offset := o - max (-8000) (min 8000 o), good := if o.natAbs ≤ 500 then (s.island i).good + 1 else 0, missing := 0 }) ∧
    exec .treeDelayCalibration s = .next s ∧
    (∀ x, (u.refSample 0 x).flag rQtzCtl 6 = false → (u.refSample 0 x).refSel = 0 → ((u.refSample 0 x).refclk 0).within 35 = false →
      exec (.refSample t (some x) none) s =
        .next ({ u.refSample 0 x with time := { (u.refSample 0 x).time with
          slew := (u.refSample 0 x).time.slew - clampInt (-100) 100 (u.refSample 0 x).time.slew } }.fabErrGrows.slewFlag)) ∧
    (∀ i : Fin 2, (s.refclk i.val).disq = false →
      let w := (s.setRefclk i.val { s.refclk i.val with samples := [], over1000 := 0, over70 := 0, beyond := false }).refDisq i.val
      let v := w.setRefclk i.val { w.refclk i.val with present := false }
      exec (.refClockAbsent i) s = .next v.refSelect ∧ (v.refclk i.val).present = false ∧ (v.refclk i.val).disq = true) ∧
    (u.nodeKnown = true → u.timeRole = 1 →
      let v := u.upPorts.foldl (fun s p => s.timingSend p (timeFrame u.degradedBit 0 u.time.frameSeq u.ownNode u.ownNode u.now.toNat)) u
      exec (.timeFrameSend t) s = .next { v with time := { v.time with frameSeq := v.time.frameSeq + 1 } }) ∧
    (u.nodeKnown = true → u.timeRole = 2 → u.fld rQtzStatus 29 28 = 2 →
      let v := (u.upPorts.filter (fun p => p != u.fld rQtzFabStatus 23 19)).foldl (fun s p => s.timingSend p (timeFrame (u.flag rQtzFabStatus 18)
        (u.fld rQtzFabStatus 31 24) u.time.frameSeq (u.fld rQtzFabCtl 15 0) u.ownNode u.now.toNat)) u
      exec (.timeFrameSend t) s = .next { v with time := { v.time with frameSeq := v.time.frameSeq + 1 } }) ∧
    (u.nodeKnown = false ∨ u.timeRole = 0 ∨ (u.timeRole = 2 ∧ u.fld rQtzStatus 29 28 ≠ 2) → exec (.timeFrameSend t) s = .next u) ∧
    (u.nodeKnown = true → exec (.delayExchangeStart t) s = .next (u.upPorts.foldl (fun s p =>
      (s.setLinkTime p { s.linkTime p with seq := ((s.linkTime p).seq + 1) % 256, asked := some ((s.linkTime p).seq, s.now.toNat) }).timingSend p
        (delayFrame 0x11 (s.linkTime p).seq s.ownNode s.now.toNat 0)) u)) ∧
    (∀ port frame (t3 : DWord), ((s.clock t).clock t3).nodeKnown = true → leAt frame 0 1 = 0x11 → ((s.clock t).clock t3).linkUp port.val = true →
      exec (.delayRequestReceive port frame t t3) s =
        .next (((s.clock t).clock t3).timingSend port.val (delayFrame 0x12 (leAt frame 3 1) ((s.clock t).clock t3).ownNode t.toNat t3.toNat))) ∧
    (∀ port frame seq t1, u.nodeKnown = true → (u.linkTime port.val).asked = some (seq, t1) → leAt frame 0 1 = 0x12 → leAt frame 3 1 = seq % 256 →
      exec (.delayResponseReceive port frame t) s = .next (u.setLinkTime port.val { u.linkTime port.val with
        delay := some ((((t.toNat : Int) - t1) - ((leAt frame 16 8 : Int) - leAt frame 8 8)) / 2), asked := none })) ∧
    (∀ port frame, u.nodeKnown = false →
      let v := if u.linkUp port.val = true then u.postDev 0x06 0x12 0 (u.portSource port.val)
        (fabPayload port.val 0 (u.fld (rFabPortPeer port.val) 15 0) 0 0 0 1) else u
      exec (.delayExchangeStart t) s = .next u ∧ exec (.delayResponseReceive port frame t) s = .next v ∧
        exec (.timeFrameReceive port frame t) s = .next v) ∧
    (∀ port frame d, u.nodeKnown = true → leAt frame 0 1 = 0x10 → u.timeRole = 2 → leAt frame 4 2 = u.fld rQtzFabCtl 15 0 →
      (u.linkTime port.val).delay = some d →
      let v := u.setLinkTime port.val { u.linkTime port.val with
        frame := some (Nat.min 255 (leAt frame 2 1 + 1), leAt frame 4 2, (leAt frame 1 1).testBit 0) }
      (∀ q h, v.upstream = some (q, h) → q ≠ port.val → exec (.timeFrameReceive port frame t) s = .next v) ∧
      (∀ h, v.upstream = some (port.val, h) → ∃ w, exec (.timeFrameReceive port frame t) s = .next w ∧ w.time.lastFrame = u.now.toNat)) ∧
    (u.timeRole ≠ 2 → exec (.fabricTimeLost t) s = .next u) ∧
    (u.timeRole = 2 → u.fld rQtzStatus 29 28 ≠ 0 → u.time.lastFrame + 8 * 8388608 ≤ u.now.toNat → exec (.fabricTimeLost t) s =
      .next ((({ u with time := { u.time with links := u.time.links.map (fun (e : Nat × LinkTime) => (e.1, { e.2 with frame := none })) } }.setFld
        rQtzStatus 29 28 0).slewFlag).postDev 0x09 0x0A 0 (srcOf 7 0) (timePayload 0xFF 0 0 0 (u.fld rQtzFabCtl 15 0)
          (signExt 32 64 (u.reg rQtzFabOfs).toNat) 0))) ∧
    (∀ p : ArrayId, exec (.freqCodeStep p) s = .next (s.modArr p.val (fun a => { a with freqCode :=
      if a.freqCode < a.targetCode then a.freqCode + 1 else if a.targetCode < a.freqCode then a.freqCode - 1 else a.freqCode }))) ∧
    (∀ (p : ArrayId) (strip : Fin 16), (s.arr p.val).freqCode ≠ 0 → ∃ v, exec (.stripDroop p strip) s = .next v ∧
      (v.arr p.val).stretch = (s.arr p.val).stretch ||| (1#16 <<< strip.val) ∧ (v.arr p.val).fllFrozen = true) ∧
    (∀ (p : ArrayId) (strip : Fin 16), (s.arr p.val).freqCode = 0 → exec (.stripDroop p strip) s = .next s) ∧
    (∀ p : ArrayId, (s.arr p.val).stretch ≠ 0#16 → ∃ v, exec (.droopRecovery p) s = .next v ∧ (v.arr p.val).stretch = 0#16) ∧
    (∀ p : ArrayId, (s.arr p.val).stretch = 0#16 → exec (.fllUnfreeze p) s =
      .next ((s.modArr p.val (fun a => { a with fllFrozen := false })).clkShow p.val)) ∧
    (∀ req v, exec (.quartzStep req v) s = .next (s.regWrite req rQtzCtl v.toNat quartzCtl) ∧
      exec (.refSelectRequest req v) s = .next (s.regWrite req rQtzCtl v.toNat quartzCtl))

/-- R8, R9, R530: what a field of each type takes from a write, of a requester that may write it: RW and unlocked RWL take the bits, W1C
clears those written 1, W1S sets them, RO, RC and WO keep what they hold; the other bits of the register keep theirs. A platform field of a
requester that is not the owner keeps what it holds. -/
def Obligations.RegisterFieldRules : Prop :=
  ∀ (old v : Nat) (owner locked : Bool) (w : Written) (f : FieldSpec), f.lo ≤ f.hi → f.hi < 32 →
    let u := writeField old v owner locked w f
    let x := bitsOf v f.hi f.lo
    let o := bitsOf old f.hi f.lo
    let may : Bool := owner || !f.plat
    (f.ty = .rw → may = true → bitsOf u.value f.hi f.lo = x) ∧
    (f.ty = .rwl → may = true → locked = false → bitsOf u.value f.hi f.lo = x) ∧
    (f.ty = .rwl → may = true → locked = true → u.value = w.value ∧ (x ≠ o → u.lockDrop = true)) ∧
    (f.ty = .w1c → may = true → ∀ i, (bitsOf u.value f.hi f.lo).testBit i = (o.testBit i && !x.testBit i)) ∧
    (f.ty = .w1s → may = true → ∀ i, (bitsOf u.value f.hi f.lo).testBit i = (o.testBit i || x.testBit i)) ∧
    (f.ty = .ro ∨ f.ty = .rc ∨ f.ty = .wo → u.value = w.value) ∧
    (may = false → u.value = w.value ∧ u.acted = w.acted) ∧
    (∀ i, ¬(f.lo ≤ i ∧ i ≤ f.hi) → u.value.testBit i = w.value.testBit i)

/-- R7 to R9, R13, R14, R516, R530: the plain register accesses of every path: 32-bit writes and reads, the two halves of a pair, which a
requester reads whole, and 64-bit accesses. A write that its requester's path does not take leaves the state, and one that a register's own
check refuses changes no register but those of the event it posts. -/
def Obligations.RegisterAccesses : Prop :=
  (∀ (s : State) (req : Requester) (off : Nat) (v : Word),
    exec (.registerWrite req off 0xF#4 v) s = .next (s.write32 req off v).1 ∧
    (∀ be, be ≠ 0xF#4 → exec (.registerWrite req off be v) s = .next s) ∧
    (∀ r, findReg off = some r → r.half = .single → off ≠ rMgtClaimNode → s.accepts req off v.toNat (effectAt off) →
      exec (.registerWrite req off 0xF#4 v) s = .next (s.afterWrite req off v.toNat (effectAt off))) ∧
    (∀ r, findReg off = some r → r.half = .single → s.reaches req off = true → s.fld rBrpStatus 27 25 ≠ 3 → off ≠ rBrpDbgData →
      drawsFree r.base = false → exec (.rcRead req off) s =
        .next (((r.fields.filter (fun f => f.ty == .rc)).foldl (fun s f => s.setFld off f.hi f.lo 0) s).answer [s.liveFor req off])) ∧
    (∀ r, findReg off = some r → r.half = .low → s.reaches req off = true → s.fld rBrpStatus 27 25 ≠ 3 → drawsFree r.base = false →
      exec (.loReadCapture req off) s = .next ({ s with
        rdLatch := tblPut s.rdLatch (latchKey req off) (BitVec.ofNat 32 (s.liveFor req (off + 4))) }.answer [s.liveFor req off])) ∧
    (halfAt off = some .low → s.takesWrite req off = true →
      exec (.loWriteLatch req off v) s = .next { s with wrLatch := tblPut s.wrLatch (latchKey req off) v }) ∧
    (halfAt off = some .high → off - 4 ≠ rMgtClaimId → ∀ x, tblFind s.wrLatch (latchKey req (off - 4)) = some x →
      exec (.hiWriteCommit req off v) s = .next ({ s with wrLatch := tblDel s.wrLatch (latchKey req (off - 4)) }.pairWriteR req (off - 4)
        (pairHome (off - 4)) (x.toNat + 2 ^ 32 * v.toNat) (effectAt (off - 4))).1) ∧
    (halfAt off = some .high → off - 4 ≠ rMgtClaimId → tblFind s.wrLatch (latchKey req (off - 4)) = none →
      exec (.hiWriteCommit req off v) s = .next ({ s with wrLatch := tblDel s.wrLatch (latchKey req (off - 4)) }.pairWriteR req (off - 4)
        (pairHome (off - 4)) (s.liveFor req (off - 4) + 2 ^ 32 * v.toNat) (effectAt (off - 4))).1) ∧
    (halfAt off = some .high → s.reaches req off = true → s.fld rBrpStatus 27 25 ≠ 3 → tblFind s.rdLatch (latchKey req (off - 4)) = none →
      s.read32 req off = (s, s.liveFor req off)) ∧
    (∀ d : DWord, exec (.host64bitAccess req off (some d)) s =
      .next ((s.write32 req off (d.setWidth 32)).1.write32 req (off + 4) ((d >>> 32).setWidth 32)).1) ∧
    exec (.host64bitAccess req off none) s =
      .next (((s.read32 req off).1.read32 req (off + 4)).1.answer [(s.read32 req off).2, ((s.read32 req off).1.read32 req (off + 4)).2])) ∧
  (∀ (s : State) (req : Requester) (lo : Nat) (r h : RegSpec), findReg lo = some r → r.half = .low →
    findReg (lo + 4) = some h → h.half = .high → s.reaches req lo = true → s.reaches req (lo + 4) = true → s.fld rBrpStatus 27 25 ≠ 3 →
    s.liveFor req (lo + 4) < 2 ^ 32 → ∀ t : State, (s.read32 req lo).1.rdLatch = t.rdLatch → t.reaches req (lo + 4) = true →
    t.fld rBrpStatus 27 25 ≠ 3 → (t.read32 req (lo + 4)).2 = s.liveFor req (lo + 4)) ∧
  (∀ (s : State) (req : Requester) (off v : Nat) (e : RegEffect),
    (s.takesWrite req off = false → s.regWrite req off v e = s) ∧
    (∀ code, s.takesWrite req off = true →
      ¬((s.written req off v).acted = 0 ∧ (s.written req off v).value = (s.reg off).toNat ∧ v ≠ (s.reg off).toNat) →
      e.veto s req (s.written req off v).value (s.written req off v).acted = some code → s.regWrite req off v e = s.regDrop req off code v) ∧
    (s.accepts req off v e → s.regWrite req off v e = s.afterWrite req off v e))

/-- R263, R265, R305, R310, R325, R428, R441, R456, R466, R477, R359: the register commands that are written whole do what their register
does. -/
def Obligations.RegisterCommands : Prop :=
  ∀ (s : State) (req : Requester) (v : Word),
    (∀ r ∈ ([(.mmuInv, rMmuInv, mmuInvReg), (.flintInject, rQtzFlintInject, flintInject), (.quartzStep, rQtzCtl, quartzCtl),
        (.refSelectRequest, rQtzCtl, quartzCtl), (.capGrantWrite, rPwrCapGrant, capGrantReg), (.rackReq, rPwrRack, rackReg),
        (.fabNodeWrite, rFabNode, fabNodeReg), (.regionDigestGo, rChkRdeCtl, rdeReg), (.pyriteQueue, rChkPyrCtl, pyrCtl),
        (.deviceReset, rBrpReset, brpReset true true), (.repairSetShiftMap, rBrpRepCmd, repCmd), (.repairSetRowMap, rBrpRepCmd, repCmd),
        (.repairRetireArray, rBrpRepCmd, repCmd), (.repairRevoke, rBrpRepCmd, repCmd), (.repairTestModule, rBrpRepCmd, repCmd),
        (.claimCtlClaim, rMgtClaimCtl, claimCtl), (.claimCtlRelease, rMgtClaimCtl, claimCtl), (.claimCtlHandOver, rMgtClaimCtl, claimCtl),
        (.fwCtlConfirm, rMgtFwCtl, fwCtl), (.fwCtlActivate, rMgtFwCtl, fwCtl), (.fwCtlCancel, rMgtFwCtl, fwCtl),
        (.fwCtlColdReq, rMgtFwCtl, fwCtl)] : List ((Requester → Word → Instr) × Nat × RegEffect)),
      s.accepts req r.2.1 v.toNat r.2.2 → exec (r.1 req v) s = .next (s.afterWrite req r.2.1 v.toNat r.2.2)) ∧
    (∀ mesh test, s.accepts req rBrpReset v.toNat (brpReset mesh test) →
      exec (.fieldReset req v mesh test) s = .next (s.afterWrite req rBrpReset v.toNat (brpReset mesh test)) ∧
      exec (.arrayReset req v mesh test) s = .next (s.afterWrite req rBrpReset v.toNat (brpReset mesh test))) ∧
    (∀ ok, s.accepts req rChkKakCtl v.toNat (kakCtl ok) →
      exec (.knownAnswerStart req v ok) s = .next (s.afterWrite req rChkKakCtl v.toNat (kakCtl ok))) ∧
    (∀ d : DomainId, s.accepts req (rPwrVmin d.val) v.toNat (vminReg d.val) →
      exec (.vminClear req d v) s = .next (s.afterWrite req (rPwrVmin d.val) v.toNat (vminReg d.val))) ∧
    (∀ f : FabPort, s.accepts req (rFabPortCtl f.val) v.toNat (fabPortCtl f.val) →
      exec (.lowrateReq req f v) s = .next (s.afterWrite req (rFabPortCtl f.val) v.toNat (fabPortCtl f.val)) ∧
      exec (.wakeReq req f v) s = .next (s.afterWrite req (rFabPortCtl f.val) v.toNat (fabPortCtl f.val))) ∧
    (∀ c : CtxId, s.accepts req rMmuFaultResume (2 ^ 31 + c.val) resumeReg → (s.written req rMmuFaultResume (2 ^ 31 + c.val)).acted = 2 ^ 31 + c.val →
      exec (.mmuFaultResumeRetry req c) s = .next ((s.holding req rMmuFaultResume (2 ^ 31 + c.val) resumeReg).resumeRetry c.val)) ∧
    (∀ c : CtxId, s.accepts req rMmuFaultResume c.val resumeReg → (s.written req rMmuFaultResume c.val).acted = c.val →
      exec (.mmuFaultResumeAbort req c) s = .next ((s.holding req rMmuFaultResume c.val resumeReg).resumeAbort c.val))

/-- R15, R397 to R399: the 64 bytes of an event record, and where a record goes: into its ring while the ring has room and nothing waits, else
into the overflow buffer of 16, then, with severity 2 or 3, into the spill of 512; a record that finds no place is lost and counted, but for
that of a context reset's end (the model's choice, notes/assumptions/132). -/
def Obligations.EventRecords : Prop :=
  (∀ r : EvRec, r.cls < 256 → r.code < 256 → r.sev < 256 → r.source < 65536 → r.ctx.getD 0xFFFF < 65536 →
    let bs := recBytes r
    bs.length = 64 ∧ leAt bs 0 8 = r.time.toNat ∧ leAt bs 8 1 = r.cls ∧ leAt bs 9 1 = r.code ∧ leAt bs 10 1 = r.sev ∧
      leAt bs 11 1 = r.gen % 256 ∧ leAt bs 12 2 = r.source ∧ leAt bs 14 2 = r.ctx.getD 0xFFFF ∧ leAt bs 16 48 = r.payload % 2 ^ 384) ∧
  ∀ (s : State) (k : Nat) (r : EvRec),
    (∀ pa, (s.ring k).waiting = [] → (s.ring k).blocked = false → s.ringFill k < ringSize k →
      s.ringAddr k (s.reg (ringWr k)).toNat = .ok pa →
      let w := match s.place pa with
        | .host off => s.hostOut k (off / 0x40000000000) pa false (1 :: 0 :: off % 0x40000000000 :: (recBytes r).map BitVec.toNat)
        | _ => s.wrBytes pa (recBytes r)
      let u := w.setReg (ringWr k) (BitVec.ofNat 32 ((s.reg (ringWr k)).toNat + 1))
      s.ringPut k r = if u.fld (ringPeak k) 10 0 < u.ringFill k then u.setFld (ringPeak k) 10 0 (u.ringFill k) else u) ∧
    (ringSize k ≤ s.ringFill k →
      ((s.ring k).waiting.length < 16 → s.ringPut k r = s.setRing k { s.ring k with waiting := (s.ring k).waiting ++ [r] }) ∧
      (k ≠ devRing → 16 ≤ (s.ring k).waiting.length → ((s.ring k).waiting.length < 528 ∧ 2 ≤ r.sev) ∨ (r.cls = 0x0C ∧ r.code = 0x9B) →
        s.ringPut k r = (s.setRing k { s.ring k with waiting := (s.ring k).waiting ++ [r] }).setFlag (rCpEvtStatus k) 2 true) ∧
      (k ≠ devRing → 16 ≤ (s.ring k).waiting.length → r.sev < 2 ∨ 528 ≤ (s.ring k).waiting.length → ¬(r.cls = 0x0C ∧ r.code = 0x9B) →
        s.ringPut k r = ((s.setRing k { s.ring k with lost := (s.ring k).lost + 1 }).setFlag (ringStatus k) 1 true).bump (rCpEvtLost k) 1))

/-- R375 to R379, R386, R395 to R397: what the registers of contexts and partitions do when a write of them is accepted: a binding that
passes its checks becomes ready, one that fails is refused with class 0x0C code 0x94; clearing enable and reset stop the context; a tail
within the ring is taken. -/
def Obligations.ContextRegisters : Prop :=
  ∀ (s : State) (req : Requester) (c : CtxId) (v : Word),
    let ctl := rDspCtxCtl c.val
    let h := s.holding req ctl v.toNat (ctxCtl c.val)
    (s.accepts req ctl v.toNat (ctxCtl c.val) → (s.written req ctl v.toNat).acted.testBit 31 = false → h.flag ctl 30 = true →
      s.flag ctl 30 = false → (∀ n, h.bindCheck c.val = some n → exec (.contextEnable req c v) s =
        .next (((h.setFlag ctl 30 false).postDev 0x0C 0x94 0 h.dspSource (dspPayload 0 0 n 0 0 0)).dispatch)) ∧
      (h.bindCheck c.val = none → h.ctxState c.val = 0 → exec (.contextEnable req c v) s = .next ((h.setCtxState c.val 1).dispatch))) ∧
    (s.accepts req ctl v.toNat (ctxCtl c.val) → (s.written req ctl v.toNat).acted.testBit 31 = false → h.flag ctl 30 = false →
      s.flag ctl 30 = true → exec (.contextDisable req c v) s = .next ((h.ctxReset c.val).dispatch)) ∧
    (s.accepts req ctl v.toNat (ctxCtl c.val) → (s.written req ctl v.toNat).acted.testBit 31 = true → h.flag ctl 30 = s.flag ctl 30 →
      exec (.contextReset req c v) s = .next ((h.ctxReset c.val).dispatch)) ∧
    (∀ x : State, x.ctxState c.val ≠ 6 →
      x.ctxReset c.val = ((x.ctxStop c.val).setCtx c.val { (x.ctxStop c.val).ctx c.val with fetchStopped := true, resetTail := 0 }).setCtxState c.val 6) ∧
    (s.accepts req (rCpCtl c.val) v.toNat (cpCtl c.val) → (s.written req (rCpCtl c.val) v.toNat).acted.testBit 0 = true →
      exec (.cpResetRequest req c v) s = .next (((s.holding req (rCpCtl c.val) v.toNat (cpCtl c.val)).ctxReset c.val).dispatch)) ∧
    (let d := s.holding req (rCpDoorbell c.val) v.toNat (doorbellReg c.val);
      s.accepts req (rCpDoorbell c.val) v.toNat (doorbellReg c.val) → s.flag ctl 30 = true → d.ctxState c.val ≠ 0 → d.ctxState c.val ≠ 6 →
      (s.written req (rCpDoorbell c.val) v.toNat).acted = v.toNat →
      (cnt32 v.toNat (d.headIdx c.val) ≤ d.ringEntries c.val → cnt32 v.toNat (d.fetchIdx c.val) < 2 ^ 31 →
        exec (.doorbell req c v) s = .next ((d.setCtx c.val { d.ctx c.val with tail := v.toNat }).dispatch)) ∧
      (d.ringEntries c.val < cnt32 v.toNat (d.headIdx c.val) → exec (.doorbell req c v) s =
        .next (d.postCtx c.val 0x0C 0x92 0 d.dspSource (dspPayload v.toNat 0 0 0 0 0)))) ∧
    (let d := s.holding req (rCpDoorbell c.val) v.toNat (doorbellReg c.val);
      s.accepts req (rCpDoorbell c.val) v.toNat (doorbellReg c.val) → s.flag ctl 30 = true → d.ctxState c.val = 6 →
      (s.written req (rCpDoorbell c.val) v.toNat).acted = v.toNat →
      exec (.doorbell req c v) s = .next (if d.ringEntries c.val < v.toNat then d.postCtx c.val 0x0C 0x92 0 d.dspSource (dspPayload v.toNat 0 0 0 0 0)
        else d.setCtx c.val { d.ctx c.val with resetTail := v.toNat })) ∧
    (∀ ring : Option CtxId, let k := match ring with | some c => c.val | none => devRing
      s.accepts req (ringRd k) v.toNat (evtRdReg k) →
        exec (.evtRdWrite req ring v) s = .next (((s.holding req (ringRd k) v.toNat (evtRdReg k)).ringRoom k).dispatch)) ∧
    (∀ q : Fin 16, let p := s.holding req (rDspPartCtl q.val) v.toNat (partCtl q.val);
      s.accepts req (rDspPartCtl q.val) v.toNat (partCtl q.val) →
      (s.flag (rDspPartCtl q.val) 31 = false → p.flag (rDspPartCtl q.val) 31 = true →
        (p.setReg (rDspPartCtl q.val) (s.reg (rDspPartCtl q.val))).partOk q.val (p.fld (rDspPartCtl q.val) 11 8) (p.fld (rDspPartCtl q.val) 2 0) = true →
        exec (.partitionCreate req q v) s = .next (p.setFld (rDspPartCtl q.val) 25 16 0x3FF)) ∧
      (p.flag (rDspPartCtl q.val) 31 = false → (∀ d < 512, p.flag (rDspCtxCtl d) 30 = true → p.ctxPart d ≠ q.val) →
        exec (.partitionDestroy req q v) s = .next (p.setPart q.val PartState.reset)))

/-- R380 to R385: the dispatcher fetches a command that its checks take, starts it in its order, and reports its end. -/
def Obligations.DispatcherCommands : Prop :=
  ∀ (s : State) (c : CtxId) (index : Word) (k : Cmd) (before : List Cmd), s.cmdAt c.val index.toNat = some (k, before) →
    s.ctxState c.val = 3 → cmdMayStart k before = true →
    (k.op = 0 → exec (.cmdNop c index) s = .next (((s.cmdDone c.val index.toNat).retireAll c.val).dispatch)) ∧
    (k.op = 2 → k.started = false → (s.now - BitVec.ofNat 64 (leAt k.bytes 8 8)).toNat < 2 ^ 63 →
      exec (.cmdTime c index) s = .next (((s.cmdDone c.val index.toNat).retireAll c.val).dispatch)) ∧
    (k.op = 2 → k.started = false → 2 ^ 63 ≤ (s.now - BitVec.ofNat 64 (leAt k.bytes 8 8)).toNat → exec (.cmdTime c index) s =
      .next (s.setCtx c.val { s.ctx c.val with cmds := (s.ctx c.val).cmds.map (fun j => if j.index = index.toNat then { j with started := true } else j) })) ∧
    (∀ t : DWord, s.now.toNat < t.toNat → k.op = 2 → k.started = true → (t - BitVec.ofNat 64 (leAt k.bytes 8 8)).toNat < 2 ^ 63 →
      exec (.cmdTimeExpiry c index t) s = .next (((({ s with now := t } : State).cmdDone c.val index.toNat).retireAll c.val).dispatch)) ∧
    (k.op = 3 → k.index = index.toNat → s.dspStalled c.val = false →
      let va := leAt k.bytes 8 8
      let tr := s.access ⟨c.val, none, .write, 3⟩ va
      (∀ pa, tr = .ok pa → (∀ i o, s.place pa ≠ .aperture i o) → (∀ off, s.place pa ≠ .host off) → s.heldHit pa 8 = false →
        exec (.cmdWrite c index) s =
          .next (((((s.store (some c.val) pa (sliceBytes k.bytes 16 8))).cmdDone c.val index.toNat).retireAll c.val).dispatch)) ∧
      (∀ pa off, tr = .ok pa → s.place pa = .host off → exec (.cmdWrite c index) s =
        .next (((((s.hostWrite c.val va off (sliceBytes k.bytes 16 8) false)).cmdDone c.val index.toNat).retireAll c.val).dispatch)) ∧
      (∀ pa i o, tr = .ok pa → s.place pa = .aperture i o → exec (.cmdWrite c index) s = .next (s.cmdFault c.val 0x90 k.index k.tag va)) ∧
      (∀ pa, tr = .ok pa → s.heldHit pa 8 = true → (∀ i o, s.place pa ≠ .aperture i o) → (∀ off, s.place pa ≠ .host off) →
        exec (.cmdWrite c index) s = .next (s.heldRefuse c.val 12 18 va pa)) ∧
      (∀ code level entry epa, tr = .fault code level entry epa → exec (.cmdWrite c index) s = .next (s.dspStall c.val va code k.index .write))) ∧
    (∀ (rank : Fin 16) p, s.physOf ((s.partRange (s.ctxPart c.val)).1 + rank.val) = some p → k.op = 1 → k.todo.contains rank.val = true →
      s.residentAt p = some c.val → (s.arr p).ctrl.state = 0 → s.stopping p = false →
      s.brp.remaps.any (fun r => r.logical == (s.partRange (s.ctxPart c.val)).1 + rank.val) = false →
      before.any (fun j => j.todo.contains rank.val || j.running.contains rank.val) = false → ∃ t, exec (.cmdRun c index rank) s = .next t ∧
        (t.arr p).ctrl.state = 1 ∧ (t.arr p).ctrl.pc = BitVec.ofNat 48 (leAt k.bytes 8 8) ∧ (t.arr p).ctrl.ctx = c.val ∧
        (t.arr p).ctrl.sregs = [] ∧ (t.arr p).ctrl.preds = 0#8 ∧ (t.arr p).ctrl.dregs = [] ∧ (t.arr p).ctrl.launch = none ∧
        (t.arr p).ctrl.chkLevel = 0 ∧ (t.arr p).ctrl.drain = none ∧ (t.arr p).ctrl.gang = ⟨0, 0, 64, 0#512⟩ ∧ (t.arr p).counters = (s.arr p).counters)

/-- R380, R383, R387 to R391, R398: command fetch, program ends, switches, quanta, resets and watermark limits. -/
def Obligations.DispatcherEvents : Prop :=
  ∀ (s : State) (c : CtxId),
    let f := s.fetchIdx c.val
    let x := s.ctx c.val
    (∀ pa, s.ctxState c.val = 3 → x.fetchStopped = false → f ≠ x.tail → cnt32 f (s.headIdx c.val) < 256 → s.dspStalled c.val = false →
      s.access ⟨c.val, none, .read, 3⟩ (s.ringVa c.val f) = .ok pa → (∀ w ∈ wordsOf pa 64, s.checkAt w = .clean) →
      let u := s.setReg (rDspCtxFetch c.val) (BitVec.ofNat 32 (f + 1))
      let bs := s.rdBytes pa 64
      (∀ code, u.cmdCheck c.val bs = some code → exec (.commandFetch c) s = .next (u.cmdFault c.val code f (leAt bs 4 4) 0)) ∧
      (u.cmdCheck c.val bs = none → cnt32 (f + 1) (s.headIdx c.val) ≠ 256 → exec (.commandFetch c) s =
        .next ((u.setCtx c.val { x with cmds := x.cmds ++ [⟨f, bs, false,
          if leAt bs 0 1 = 1 then (List.range 16).filter (fun i => (leAt bs 2 2).testBit i) else [], [], false⟩] }).dispatch))) ∧
    (∀ p : ArrayId, (s.drainStores p.val).programDone p.val = true → (s.arr p.val).ctrl.ended = true →
      ∀ m before, let u := (s.drainStores p.val).modCtrl p.val (fun k => { k with state := 0, ended := false })
      let k := ((s.drainStores p.val).arr p.val).ctrl
      (u.cmdAt k.ctx k.cmdIndex = some (m, before) → u.flag (rChkCtxCtl k.ctx) 3 = false → m.todo = [] →
        m.running = [(s.drainStores p.val).rankOf k.ctx (((s.drainStores p.val).logOf p.val).getD 0)] → exec (.programEndReport p) s =
          .next ((u.setCtx k.ctx { u.ctx k.ctx with cmds := (u.ctx k.ctx).cmds.map (fun j => if j.index = m.index then { j with running := [] } else j) }).cmdEnd
            k.ctx m.index))) ∧
    (∀ q : Fin 16, (s.resident q.val).isSome = true → (s.part q.val).outgoing = none →
      exec (.quantumExpiry q) s = .next ((s.setPart q.val { s.part q.val with sliced := true }).schedule q.val)) ∧
    (∀ (p : ArrayId) q o, s.partAt p.val = some q → (s.part q).outgoing = some o → (s.part q).saving.contains p.val = true →
      s.stopped p.val = true → (s.arr p.val).runs = true →
      let v := match (s.arr p.val).ctrl.faulting with | some f => s.ctxFault o f.1 f.2 | none => s
      v.stopped p.val = true →
      let u := if v.ctxState o = 5 ∨ v.ctxState o = 6 then v.saveCounters p.val else v.saveArray q p.val o
      exec (.switchSaveComplete p) s = .next ((u.setPart q { u.part q with
        saving := (u.part q).saving.filter (fun r => r != p.val)
        restoring := if (u.part q).incoming.isSome then (u.part q).restoring ++ [p.val] else (u.part q).restoring }).switchEnd q)) ∧
    (∀ (p : ArrayId) q o, s.partAt p.val = some q → (s.part q).incoming = some o →
      (s.part q).restoring.contains p.val = true → s.stopped p.val = true → (s.arr p.val).runs = true →
      let u := s.restoreArray p.val o
      exec (.switchRestoreComplete p) s = .next (((u.setPart q { u.part q with
        restoring := (u.part q).restoring.filter (fun r => r != p.val) }).switchEnd q).dispatch)) ∧
    (s.ctxState c.val = 6 → s.ctxInFlight c.val = false → ∀ b, exec (.resetTransferWaitEnd c b) s = .next ((s.ctxResetEnd c.val).dispatch)) ∧
    (s.ctxState c.val = 6 → s.ctxInFlight c.val = true →
      exec (.resetTransferWaitEnd c true) s = .next (((s.abandon c.val).ctxResetEnd c.val).dispatch) ∧
      exec (.resetTransferWaitEnd c false) s = .next s) ∧
    (∀ ring : Option CtxId, let k := match ring with | some c => c.val | none => devRing
      ((s.ring k).held99 = 0 → exec (.watermarkHoldoffExpiry ring true) s = .next (s.setRing k { s.ring k with hold99 := false })) ∧
      ((s.ring k).held98 = 0 → exec (.watermarkHoldoffExpiry ring false) s = .next (s.setRing k { s.ring k with hold98 := false })) ∧
      ((s.ring k).held98 ≠ 0 → exec (.watermarkHoldoffExpiry ring false) s = .next (((s.setRing k { s.ring k with held98 := 0 }).ringPut k
        (crossRec s k 0x98 (s.ring k).held98 (s.ringFill k))).msix k (if k = devRing then 3 else 0))) ∧
      ((s.ring k).held99 ≠ 0 → exec (.watermarkHoldoffExpiry ring true) s =
        .next ((s.setRing k { s.ring k with held99 := 0 }).ringPost k (crossRec s k 0x99 (s.ring k).held99 256))))

/-- R358 to R363, R359: step digests form, peers' records arrive or are missing, a diverged context rewinds, and region digests run. -/
def Obligations.DigestEvents : Prop :=
  ∀ (s : State) (c : CtxId),
    (let n := (s.partRange (s.ctxPart c.val)).2
      let step := (s.reg (rChkCtxStep c.val)).toNat + 1
      ∀ ds : List Nat, 0 < n → s.ctxState c.val ≠ 0 → s.ctxState c.val ≠ 6 → s.flag (rChkCtxCtl c.val) 3 = false → ds.length = n →
        (∀ r < n, ∃ k, (s.ctrlOf c.val r).closed.find? (fun d => d.1 == step) = some (k, ds.getD r 0)) → exec (.stepDigestForm c) s =
          .next ((((List.range n).foldl (fun s r => s.modCtrlOf c.val r (fun k => { k with closed := k.closed.filter (fun d => d.1 != step) })) s).setReg64
            (rChkCtxWdig c.val) (stepDigest step ds)).setReg (rChkCtxStep c.val) (BitVec.ofNat 32 step))) ∧
    (∀ (peer : Fin 8) (slot : Fin 64) p pa, let n := s.fld (rChkCtxDwin c.val) 19 16
      let x := s.window p (s.fld (rChkCtxDwin c.val) 5 0)
      (s.physOf n = some p → s.flag (rChkCtxCtl c.val) 3 = true → x.isOpen = true → x.ctx = c.val → peer.val < s.fld (rChkCtxCtl c.val) 15 12 →
        s.access ⟨c.val, some n, .read, 3⟩ (leAt x.record 0 8 + peer.val * 2048 + slot.val * 32) = .ok pa →
        leAt (s.rdBytes pa 32) 0 4 % 64 = slot.val → (s.reg (rChkCtxAgreed c.val)).toNat < leAt (s.rdBytes pa 32) 0 4 → s.integ.rde = none →
        let bs := s.rdBytes pa 32
        let u := s.setSteps c.val { s.steps c.val with recs := (s.steps c.val).recs ++ [⟨peer.val, leAt bs 0 4, leAt bs 8 8,
          if (leAt bs 24 1).testBit 0 then some (leAt bs 16 8) else none, (leAt bs 24 1).testBit 1⟩] }
        exec (.digestRecordArrival c peer slot) s = .next ((u.compareStep c.val peer.val (leAt bs 0 4)).agree c.val
          (((u.compareStep c.val peer.val (leAt bs 0 4)).steps c.val).own.length + 1)))) ∧
    (∀ (peer : Fin 8) (t : DWord) o, let u := s.clock t
      let x := u.steps c.val
      (x.own.find? (fun o => (x.recOf peer.val o.step).isNone && !x.silent.contains (peer.val, o.step) &&
          decide (o.time + 64000000000 ≤ u.now.toNat)) = some o → peer.val < u.fld (rChkCtxCtl c.val) 15 12 → u.flag (rChkCtxCtl c.val) 3 = true →
        ∃ node ctx, exec (.peerDigestTimeout c peer t) s = .next ((u.setSteps c.val { x with silent := x.silent ++ [(peer.val, o.step)] }).postCtx
          c.val 0x05 0x0B 0 (srcOf 7 0) (digestPayload o.step o.w 0 node ctx o.replays)))) ∧
    ((s.steps c.val).rewind = true → s.ctxState c.val ≠ 4 →
      (∀ p ∈ s.ctxArrays c.val, s.residentAt p = some c.val → (s.arr p).atBoundary = true ∧ (s.arr p).run.running = false) →
      ∃ u : State, exec (.contextRewind c) s = .next u.dispatch ∧ u.reg (rDspCtxFetch c.val) = s.reg (rDspCtxRewind c.val) ∧
        u.reg (rChkCtxStep c.val) = BitVec.ofNat 32 (s.reg (rChkCtxAgreed c.val)).toNat ∧ (u.ctx c.val).cmds = [] ∧
        (u.steps c.val).own = [] ∧ (u.steps c.val).rewind = false) ∧
    (∀ r (pas : List Nat), s.integ.rde = some r → r.waitStep = false → r.forStep = none → s.memst.stalled = [] → pas.length = r.len / 64 →
      (∀ i < r.len / 64, s.access ⟨r.ctx, none, .read, 3⟩ (r.va + 64 * i) = .ok (pas.getD i 0) ∧ ∀ w ∈ wordsOf (pas.getD i 0) 64, s.checkAt w = .clean) →
      exec .regionDigestComplete s = .next (({ s with integ := { s.integ with rde := none } }.setFlag rChkRdeCtl 30 false).setReg64 rChkRdeRes
        (mix64 ((((List.range (r.len / 64)).map (fun i => lineHash (64 * i) (s.rdBytes (pas.getD i 0) 64))).sum % 2 ^ 64) ^^^ r.len)))) ∧
    (∀ r, s.integ.rdeLast = some r → s.reg rChkRdeInterval ≠ 0#32 → s.flag rChkRdeCtl 30 = false →
      exec .regionDigestInterval s = .next (s.rdeStart { r with forStep := none }))

/-- R366 to R368, R498 to R501, R506 to R509: test runs, seam lanes, buses, the standby dispatcher, module tests, hangs and watchdogs. -/
def Obligations.RepairEvents : Prop :=
  ∀ (s : State) (t : DWord),
    (∀ r, s.integ.pyr = [r] → r.running = false → s.logOf r.array = none → s.isPartner r.array = false →
      s.fld rChkPyrVersion 31 16 ≤ s.fld rChkPyrVersion 15 0 → exec (.pyriteRunStart true) s =
        .next ((({ s with integ := { s.integ with pyr := [{ r with running := true }] } }.showPyr).setFld rChkPyrStatus 31 30 2).testStrips r)) ∧
    (∀ r (result : Fin 3) fails row col repairs, s.integ.pyr = [r] → r.running = true → ∃ v, exec (.pyriteRunEnd result fails row col repairs) s = .next v ∧
      (s.brp.repair = false → v.integ.pyr = [])) ∧
    (∀ k, s.integ.kak = some k → exec (.knownAnswerComplete none) s =
      .next (({ s with integ := { s.integ with kak := none } }.setFld rChkKakStatus 31 30 3).setFld rChkKakStatus 29 28 0)) ∧
    (∀ m, s.brp.module = some m → exec (.moduleTestComplete false) s = .next ({ s with brp := { s.brp with module := none } }.repairEnd 1)) ∧
    (∀ m, s.brp.module = some m → (inForce s.brp.log).filter (fun e => e.kind == 0x0B && nth 0 e.target 0 == m) = [] →
      let u := { s with brp := { s.brp with module := none } }.repairEnd 0
      exec (.moduleTestComplete true) s = .next (((u.setFlag rPwrMod m true).setFld rPwrStatus 19 15 ((u.setFlag rPwrMod m true).fld rPwrStatus 19 15 - 1)).capUpdate)) ∧
    (∀ seg bundle group lane errs link, errs ≤ 16 → exec (.seamLaneMonitor seg bundle group lane errs link) s = .next s) ∧
    (∀ (seg : Fin 12) (bundle group : BitVec 8) (lane : Fin 33) errs link, 16 < errs →
      s.brp.seamSpares.contains (seg.val, bundle.toNat, group.toNat) = false →
      let x := [seg.val, bundle.toNat, group.toNat, lane.val]
      exec (.seamLaneMonitor seg bundle group lane errs link) s = .next ((((s.logAdd 0x05 6 0 x).applyRepair 0x05 x).lifeCount (812 + seg.val) 1).brpEvent
        0xAC 1 (brpPayload 0 0 0xFFFF (seg.val + 256 * bundle.toNat) s.logNext 0xFF 0xFF))) ∧
    (∀ (bus : Fin 2) (field : Fin 9), s.flag rBrpMgb (9 * bus.val + field.val) = false →
      let u := (s.setFlag rBrpMgb (9 * bus.val + field.val) true).logAdd 0x10 6 0 [bus.val, field.val]
      exec (.mgmtBusRetire bus field) s = .next (u.brpEvent 0xA9 (if u.flag rBrpMgb (9 * (1 - bus.val) + field.val) then 3 else 1)
        (brpPayload 0 0 (srcOf 4 field.val) bus.val s.logNext 0xFF 0xFF))) ∧
    (exec (.dispatcherHeartbeat t) s = .next { s.clock t with brp := { s.brp with beat := (s.clock t).now.toNat } }) ∧
    (s.flag rBrpDsp 30 = true → s.flag rBrpDsp 31 = false → s.brp.remaps = [] →
      let u := (((s.clock t).setFlag rBrpDsp 31 true).setFlag rBrpDsp 30 false).setFlag rBrpStatus 18 true
      exec (.dispatcherFailover true t) s = .next (((u.setFld rBrpDsp 15 0 (satAdd 16 (u.fld rBrpDsp 15 0) 1)).postDev 0x0C 0xA8 1 (srcOf 8 1)
        (brpPayload 0 0 (srcOf 8 0) 0 0 0xFF 0xFF)).dispatch)) ∧
    (∀ cycles, s.brp.hang.length < 2 → exec (.hangSample cycles) s = .next { s with brp := { s.brp with hang := (cycles :: s.brp.hang).take 2 } }) ∧
    (∀ c a b, s.brp.hang = [a, b] → s.brp.declared = [] → a.any (sameCycle c) = true → b.any (sameCycle c) = true →
      exec (.hangSample [c]) s = .next (({ s with brp := { s.brp with hang := [[c], a] } } : State).declareHang c)) ∧
    (∀ c : CtxId, let limit := s.fld (rBrpWdog c.val) 15 0
      limit ≠ 0 → s.resident (s.ctxPart c.val) = some c.val →
      let u := (s.bump rBrpWdogCnt 1).postCtx c.val 0x0A 0x02 2 (srcOf 7 0) (hangPayload [] limit)
      exec (.watchdogExpiry c) s = .next (if u.flag (rBrpWdog c.val) 31 then u.ctxFault c.val 0x0A 0x02 else u))

/-- R417 to R424, R429: flits, transactions of the fabric, and the responses that end them. -/
def Obligations.FabricTransactions : Prop :=
  ∀ (s : State) (port : FabPort) (pkt : List Byte) (k : Pkt),
    let f := port.val
    let u := (s.bump64 (rFabPortRx f) pkt.length).setFport f { (s.bump64 (rFabPortRx f) pkt.length).fport f with idleSince := s.now.toNat }
    (∀ flit, s.linkUp f = true → exec (.flitReceive port flit 0 true) s = .next (
      let u := ((s.bump64 (rFabPortFecCw f) 0).bump (rFabPortFecUnc f) 1).linkEventLimited f 5 1
      if (u.fport f).discarding then u else (u.setFport f { u.fport f with discarding := true }).ackFlit f 0 0 true)) ∧
    (∀ (t : DWord) x xs, ((s.clock t).fport f).unacked = x :: xs → exec (.flitReplayTimeout port t) s =
      .next (if x.time + 256000 ≤ (s.clock t).now.toNat then (s.clock t).replay f else s.clock t)) ∧
    (s.fstate f = 3 ∨ s.fstate f = 4 → pktOf pkt = (k, true) → u.nodeKnown = true → k.dest = u.ownNode →
      (k.op = 0x01 → exec (.fabricWindowWrite port pkt) s = .next (u.fabArrive (k.access true))) ∧
      (k.op = 0x02 → exec (.fabricWindowRead port pkt) s = .next (u.fabArrive (k.access false))) ∧
      (∀ t, u.fab.txns.find? (fun t => t.slot == k.tag % 8192 && t.gen % 8 == k.tag / 8192 && t.acc.ctx == k.ctx) = some t →
        k.ctxGen = u.ctxGen k.ctx % 256 →
        let v := { u with fab := { u.fab with txns := u.fab.txns.filter (fun x => x.slot != t.slot) } }
        t.aryGen = v.fld (rBrpAryGen t.acc.p) 7 0 →
        (k.op = 0x81 → exec (.fabricWriteAck port pkt) s = .next (((v.winDone t.acc false).portOut t.port).fabPump)) ∧
        (k.op = 0x82 → exec (.fabricReadData port pkt) s = .next (((v.winReturn t.acc (k.data.take t.acc.size)
          (wordMask t.acc.off t.acc.size k.poison)).portOut t.port).fabPump)) ∧
        (k.op = 0x83 → exec (.fabricRefusal port pkt) s = .next (((((v.refusedAt t.acc (winPayload t.acc.window t.acc.array t.acc.node t.acc.ctx
          t.acc.gen 0 1 t.acc.off t.acc.size) (k.seqStatus / 256 % 256) (k.seqStatus % 256) true).winDone t.acc true).digestRefused t.acc).portOut
            t.port).fabPump))) ∧
      (k.op = 0x81 → u.fab.txns = [] → k.ctxGen = u.ctxGen k.ctx % 256 → exec (.fabricWriteAck port pkt) s = .next ((u.bump rFabLate 1).postDev 0x06
        0x0A 0 (u.portSource f) (fabPayload f 0 k.src k.seqStatus k.tag (bitsOf k.waddr 45 36) 1)))) ∧
    (∀ (slot : Fin 8192) (t : DWord) x at_ g, let c := s.clock t
      c.fab.txns.find? (fun x => x.slot == slot.val) = some x → x.sent = some at_ → at_ + c.fld rFabTout 13 0 * 64000 ≤ c.now.toNat →
      (2 ≤ x.tries → exec (.transactionTimeout slot t) s = .next (c.txnFail x 7)) ∧
      (x.tries < 2 → c.routeTo x.acc.node = none → exec (.transactionTimeout slot t) s = .next (c.txnFail x 8)) ∧
      (x.tries < 2 → c.routeTo x.acc.node = some g → exec (.transactionTimeout slot t) s = .next (c.reissue x g))) ∧
    (∀ n (t : DWord) x, (s.clock t).fab.pairs[n]? = some x → x.time + 1280000000 ≤ (s.clock t).now.toNat → exec (.pairStateExpiry n t) s =
      .next { s.clock t with fab := { (s.clock t).fab with pairs := (s.clock t).fab.pairs.filter (fun y => y != x) } })

/-- R427 to R441: training, discovery, schedules, degraded and low-rate ports, and job aborts. -/
def Obligations.FabricPortEvents : Prop :=
  ∀ (s : State) (port : FabPort) (frame : List Byte) (t : DWord),
    let f := port.val
    let bs := sliceBytes frame 0 64
    let c := s.clock t
    let answer (x : State) (status : Nat) (data : List Byte) : State :=
      let r := putBytes (putBytes bs 0 (bytesOf 1 0x43)) 3 (bytesOf 1 status)
      x.portSend f 3 none none (if data = [] then r else putBytes r 40 data)
    (s.fstate f = 2 → ∀ (peer : BitVec 16) (peerPort : FabPort),
      let v := (((s.setFlag (rFabPortStatus f) 15 false).setFld (rFabPortStatus f) 31 28 3).setFld (rFabPortStatus f) 23 16 0xFF).setFlag
        (rFabPortStatus f) 14 false
      let w := (v.setFld (rFabPortPeer f) 20 16 peerPort.val).setFld (rFabPortPeer f) 15 0 peer.toNat
      exec (.fabricLinkTrained port 0xFF#8 false peer peerPort) s = .next ((((w.setFport f { FabPortState.reset with
        credits := [512, 512, 16, 32], idleSince := w.now.toNat, limits := (w.fport f).limits }).linkTimeReset f).linkEvent f 1 0 0 1).fabPump.portPump
          f)) ∧
    (s.fstate f = 2 → ∀ (peer : BitVec 16) (peerPort : FabPort), exec (.fabricLinkTrained port 0#8 false peer peerPort) s = .next (s.linkDown f 3 1)) ∧
    (s.linkUp f = true → leAt bs 0 1 = 0x40 → 0 < leAt bs 1 1 → leAt bs 1 1 ≤ 16 → leAt bs 2 1 = leAt bs 1 1 → exec (.discoveryQuery port frame) s =
      .next (answer s 0 (bytesOf 13 ((s.reg rGlbIdent).toNat + (s.reg rGlbFabricEn).toNat * 2 ^ 32 + (s.reg rFabNode).toNat * 2 ^ 64 + f * 2 ^ 96)))) ∧
    (s.linkUp f = true → leAt bs 0 1 = 0x40 → 0 < leAt bs 1 1 → leAt bs 1 1 ≤ 16 → leAt bs 2 1 < leAt bs 1 1 → exec (.discoveryQuery port frame) s =
      .next (s.portSend (leAt bs (4 + leAt bs 2 1) 1 % 32) 3 none none
        (putBytes (putBytes bs (20 + leAt bs 2 1) (bytesOf 1 f)) 2 (bytesOf 1 (leAt bs 2 1 + 1))))) ∧
    (s.linkUp f = true → leAt bs 0 1 = 0x41 → 0 < leAt bs 1 1 → leAt bs 1 1 ≤ 16 → leAt bs 2 1 = leAt bs 1 1 → s.discoveryLocked frame = false →
      exec (.discoveryAssign port frame) s = .next (answer (s.assignNode f (some (leAt frame 36 2)) (leAt frame 38 2) (s.reg rFabNode).toNat) 0 [])) ∧
    (s.linkUp f = true → leAt bs 0 1 = 0x42 → 0 < leAt bs 1 1 → leAt bs 1 1 ≤ 16 → leAt bs 2 1 = leAt bs 1 1 → s.discoveryLocked frame = false →
      0 < leAt frame 42 1 → leAt frame 42 1 ≤ 4 → leAt frame 40 2 + leAt frame 42 1 ≤ 32768 → exec (.discoveryRouteWrite port frame) s =
        .next (answer ((List.range (leAt frame 42 1)).foldl (fun s i =>
          s.setReg (rFabRoute (leAt frame 40 2 + i)) (BitVec.ofNat 32 (leAt frame (44 + 4 * i) 4) &&& 0xE0001F1F#32)) s) 0 [])) ∧
    (s.linkUp f = true → leAt bs 0 1 = 0x43 → leAt bs 2 1 = 0 → exec (.discoveryResponse port frame) s =
      .next (s.emit "discovery" (bs.map BitVec.toNat))) ∧
    (∀ (e : Fin 4096) cycle, c.slotUsed f e.val = true → (c.now - c.slotStart f e.val cycle).toNat < 2 ^ 63 →
      exec (.scheduleSlotStart port e cycle t) s = .next (if bitsOf (c.schedEnt f e.val) 55 40 * 64 < (c.now - c.slotStart f e.val cycle).toNat
        then c.bump (rFabSchedSkip f) 1
        else (c.setFport f { c.fport f with slot := some (e.val, cycle) }).portPump f)) ∧
    (∀ e n, (c.fport f).slot = some (e, n) → c.slotUsed f e = false →
      exec (.scheduleSlotEnd port t) s = .next ((c.setFport f { c.fport f with slot := none }).portPump f)) ∧
    (∀ good : Fin 2, s.fstate f = 3 → s.flag (rFabPortCtl f) 3 = true → exec (.fabricDegrade port good) s =
      .next ((((s.setFld (rFabPortStatus f) 31 28 4).setFld (rFabPortStatus f) 23 16 (if good.val = 0 then 0x0F else 0xF0)).linkTimeReset f).linkEvent
        f 2 1 0 1)) ∧
    (c.fld (rFabPortCtl f) 23 16 ≠ 0 → (c.fport f).idleSince + c.fld (rFabPortCtl f) 23 16 * 640000 ≤ c.now.toNat →
      exec (.lowrateIdleEntry port t) s = .next (c.lowRate f)) ∧
    (s.fstate f = 6 → (s.fport f).losWait = false → (s.fport f).wakeWait = false → exec (.railStepComplete port) s =
      .next (((s.setFld (rFabPortStatus f) 31 28 5).setFlag (rFabPortStatus f) 15 true).linkEvent f 0x0F 0 0 1)) ∧
    (∀ (e : Fin 4096) cycle, c.slotUsed f e.val = true → (c.schedEnt f e.val).testBit 62 = true →
      (c.now - (c.slotStart f e.val cycle - 1600000#64)).toNat < 2 ^ 63 → exec (.wakeSlotLead port e cycle t) s = .next (c.wakePort f)) ∧
    (s.fstate f = 7 → (s.fport f).stepUp = false → exec (.portWakeComplete port 0xFF#8) s =
      .next ((((((s.setFld (rFabPortStatus f) 31 28 3).setFld (rFabPortStatus f) 23 16 0xFF).setFport f { s.fport f with idleSince := s.now.toNat }).linkTimeReset
        f).linkEvent f 0x10 0 0 1).portPump f).fabPump) ∧
    (s.fstate f = 3 → exec (.fabricLos port) s = .next ((s.linkDown f 1 1).setFlag (rFabPortStatus f) 14 true)) ∧
    (s.fstate f = 1 → exec (.fabricSignalDetect port) s = .next ((s.setFld (rFabPortStatus f) 31 28 2).setFlag (rFabPortStatus f) 14 false)) ∧
    (s.linkUp f = true → leAt bs 0 1 = 0x20 → s.nodeKnown = true → leAt bs 1 1 ≤ 1 → s.fab.aborts = [] → leAt bs 4 4 = 0 →
      exec (.jobAbortFrame port frame) s = .next { s with fab := { s.fab with aborts := [⟨leAt bs 2 2, leAt bs 4 4, leAt bs 8 4, s.now.toNat⟩] } }) ∧
    (∀ n r, c.fab.aborts[n]? = some r → r.time + 640000000 ≤ c.now.toNat → exec (.abortRecordExpiry n t) s =
      .next { c with fab := { c.fab with aborts := c.fab.aborts.filter (fun x => x != r) } })

/-- R406 to R415, R443: a host port's resets, its link, its function-level resets, and the errors that its link and its reads report. -/
def Obligations.HostPortEvents : Prop :=
  ∀ (s : State) (h : HostPortId) (t : DWord),
    let st := rHstStatus h.val
    let x := s.hport h.val
    (s.flag st 31 = false → exec (.hostPerstAssert h) s = .next ((((((s.hostPortReset h.val none
      (some (s.fld (rHstVfBudget h.val) 8 0))).setFlag st 31 true).hostEvent h.val 3 2 0 0 1).hostPortFaults h.val)).dispatch)) ∧
    ((s.setFlag st 31 false).hostLogic = true → (s.setFlag st 31 false).flag rGlbHostEn h.val = true → exec (.hostPerstDeassert h t) s =
      .next ((s.setFlag st 31 false).setHport h.val { (s.setFlag st 31 false).hport h.val with released := some t.toNat })) ∧
    (exec (.hostHotReset h) s = .next (((s.hostPortReset h.val x.released x.budget).hostPortFaults h.val).dispatch)) ∧
    (∀ speed width, x.released ≠ none → s.hostLogic = true → 0 < speed → speed ≤ 6 → width ∈ [1, 2, 4, 8, 16] →
      let u := (((s.setFlag st 30 true).setFlag st 29 (speed == 6)).setFld st 27 24 speed).setFld st 20 16 width
      exec (.hostLinkUp h speed width) s = .next ((u.setHport h.val { u.hport h.val with trained := true }).hostEvent h.val 1 0 0 0 1)) ∧
    (∀ fn : Fin 512, fn.val ≠ 0 → x.vfEnable = true → fn.val ≤ x.numVfs →
      let u := (s.functionReset h.val fn.val).hostEvent h.val 4 0 fn.val 0 1
      exec (.vfFlr h fn) s = .next (((u.boundTo h.val (some fn.val)).foldl State.ctxReset u).dispatch)) ∧
    (let u := s.setHport h.val { HostPort.reset with released := x.released, budget := x.budget, trained := x.trained }
      let v := ((({ u with memst := { u.memst with atc := tblDel u.memst.atc h.val } }.showVfs h.val).hostEvent h.val 4 0 0 0
        1).ownerEnds 4 h.val)
      exec (.pfFlr h) s = .next (((v.boundTo h.val none).foldl State.ctxReset v).dispatch)) ∧
    (∀ (fn : Fin 512) off len data, let a := hostWindow h.val off
      exec (.hostReadCompletion h fn off len data 0 false) s =
        .next ((s.wrBytes a (data.take len)).bump64 (rHstRx h.val) (data.take len).length) ∧
      (∀ status : Fin 3, status ≠ 0 → ∀ ep, exec (.hostReadCompletion h fn off len data status ep) s =
        .next (((s.poison a len).bump (rHstCplErr h.val) 1).hostEvent h.val 6 2 fn.val off 1)) ∧
      exec (.hostCompletionTimeout h fn off len) s =
        .next ((((s.poison a len).bump (rHstCplTout h.val) 1).lifeCount (781 + 4 * h.val) 1).hostEvent h.val 5 2 fn.val off 1)) ∧
    (exec (.correctableLinkError h) s = .next (((s.bump (rHstCe h.val) 1).lifeCount (780 + 4 * h.val) 1).hostEvent h.val 9 1 0 0 1)) ∧
    (∀ (k : SiteId) (m : Fin 16) i, (List.range s.ioSites.length).find? (fun i => nth 18 s.ioSites i == k.val) = some i →
      s.flag (rHstUcie i) m.val = true → exec (.ucieModuleRetire k m) s =
        .next (((((s.setFlag (rHstUcie i) m.val false).setFlag (rHstUcie i) (16 + m.val) true).logAdd 0x0D 6 0 [k.val, m.val]).postDev 0x0E 0x0A 1
          (srcOf 6 (k.val * 16 + 15)) (payloadOf [(16, 1, i), (28, 4, 1)])).msixRaise i 0 4))

/-- R407 to R409, R412 to R414: configuration requests and memory requests of a host: what is answered, when a request is retried or
unsupported, and which register or table a request reaches. -/
def Obligations.HostRequests : Prop :=
  ∀ (s : State) (h : HostPortId) (fn : Fin 512),
    (∀ write item v (t : DWord) r, (s.hport h.val).released = some r → s.flag (rHstStatus h.val) 30 = true →
      (t.toNat < r + 6400000000 → exec (.hostConfigRequest h fn write item v t) s = .next (s.answer [1])) ∧
      (r + 6400000000 ≤ t.toNat → s.functionOn h.val fn.val = false →
        exec (.hostConfigRequest h fn write item v t) s = .next (s.answer [2])) ∧
      (r + 6400000000 ≤ t.toNat → s.functionOn h.val fn.val = true → exec (.hostConfigRequest h fn true item v t) s =
        .next ((s.cfgWrite h.val fn.val item v.toNat).answer [0])) ∧
      (r + 6400000000 ≤ t.toNat → s.functionOn h.val fn.val = true → (∀ off, item ≠ .other off) → exec (.hostConfigRequest h fn false item v t) s =
        .next (s.answer [0, s.cfgRead h.val fn.val item])) ∧
      (∀ off, r + 6400000000 ≤ t.toNat → s.functionOn h.val fn.val = true → exec (.hostConfigRequest h fn false (.other off) v t) s =
        .next (s.drawn.answer [0, s.free % 2 ^ 32]))) ∧
    (s.functionOn h.val fn.val = true ↔ fn.val = 0 ∨ ((s.hport h.val).vfEnable = true ∧ fn.val ≤ (s.hport h.val).numVfs)) ∧
    (s.cfgRead h.val fn.val .identity = s.fld (rHstId h.val) 15 0 + 65536 * (if fn.val = 0 then 0x0A71 else 0x0A72)) ∧
    (∀ off < 0x4000000, off % 4 = 0 → s.hostTarget h.val 0 0 off = .reg (.pf h) off) ∧
    (∀ off < 0x2000000, off % 4 = 0 → s.hostTarget h.val 0 2 off = .reg (.pf h) (0x4000000 + off)) ∧
    (∀ off < 0x8000, fn.val ≠ 0 → s.functionOn h.val fn.val = true → ∀ c,
      (s.boundTo h.val (some fn.val)).find? (fun c => s.flag (rDspCtxCtl c) 30) = some c →
        s.hostTarget h.val fn.val 0 off = .reg (.vf h fn) (0x4000000 + 0x10000 * c + off)) ∧
    (∀ (bar : Fin 6) off fbe lbe, off % 4 = 0 →
      (∀ n, s.hostTarget h.val fn.val bar.val off = .noBar → exec (.hostInboundRead h fn bar off n fbe lbe) s = .next (s.answer [1])) ∧
      (∀ n, s.hostTarget h.val fn.val bar.val off ≠ .noBar → 2 < n → exec (.hostInboundRead h fn bar off n fbe lbe) s = .next (s.answer [4])) ∧
      (∀ req o, s.hostTarget h.val fn.val bar.val off = .reg req o →
        exec (.hostInboundRead h fn bar off 1 fbe lbe) s = .next ((s.read32 req o).1.answer [0, byteMask fbe (s.read32 req o).2]) ∧
        (∀ v, exec (.hostInboundWrite h fn bar off [v] 0xF#4 lbe false) s = .next (s.write32 req o v).1) ∧
        ∀ v, fbe ≠ 0xF#4 → exec (.hostInboundWrite h fn bar off [v] fbe lbe false) s = .next s) ∧
      (∀ data, 3 ≤ data.length → exec (.hostInboundWrite h fn bar off data fbe lbe false) s =
        .next (s.hostEvent h.val 0x0C 0 fn.val off 1)) ∧
      (∀ data, exec (.hostInboundWrite h fn bar off data fbe lbe true) s = .next (s.poisonedTlp h.val 0 none)))

/-- R447, R448, R458, R459, R463, R466, R483, R557: the input, the current limit, the hard brake, the caps and stage one. -/
def Obligations.InputPowerEvents : Prop :=
  ∀ (s : State) (mv cur : Nat),
    let u := s.inputSample mv cur
    (u.fld rPwrInV 15 0 = Nat.min 65535 mv ∧ u.fld rPwrInI 15 0 = Nat.min 65535 cur ∧
      u.flag rPwrStatus 22 = decide (mv < 40000) ∧ u.flag rPwrStatus 21 = decide (60000 < mv)) ∧
    (mv < 40000 → exec (.inputUndervoltageWarn mv cur) s = .next (u.inputEvent 0x02 0 0xFF 0 mv cur 0 0 0)) ∧
    (60000 < mv → exec (.inputOvervoltageWarn mv cur) s = .next (u.inputEvent 0x04 0 0xFF 0 mv cur 0 0 0)) ∧
    (∀ d < 334, s.domainsOff.dom d = if s.dom d = 5 then 5 else 0) ∧
    (s.power.down = 0 → mv < 36000 → ∃ t, exec (.powerFail mv cur) s = .next t ∧ t.power.down = 1 ∧ t.brp.pwrFail = true ∧
      t.brp.ready = false ∧ ∀ d < 334, t.dom d = 0 ∨ t.dom d = 5) ∧
    (s.power.down = 0 → 66000 < mv → ∃ t, exec (.overvoltageShutdown mv cur) s = .next t ∧ t.power.down = 2 ∧ t.brp.pwrFail = true ∧
      t.brp.ready = false ∧ ∀ d < 334, t.dom d = 0 ∨ t.dom d = 5) ∧
    (∀ slotId recov, s.power.down = 1 ∨ s.power.down = 2 →
      exec (.inputRecovery slotId recov) s = .next (s.coldReset.stageZero slotId.val recov)) ∧
    (∀ m : Fin 24, s.flag rPwrMod m.val = true →
      let v := (((s.setFlag rPwrMod m.val false).setFld rPwrStatus 19 15 (s.fld rPwrStatus 19 15 + 1)).logAdd 0x0B 3 0 [m.val]).capUpdate
      exec (.moduleIsolate m) s = .next (v.inputEvent 0x0B 1 m.val 0 (v.fld rPwrInV 15 0) (v.fld rPwrInI 15 0) (s.fld rPwrCapEff 15 0)
        (v.fld rPwrCapEff 15 0) 0)) ∧
    (38000 < cur ∨ (s.power.current ≠ 0 ∧ 36000 ≤ cur) → ∃ t, exec (.currentLimitSample mv cur) s = .next t ∧
      t.power.current = Nat.min 176 (s.power.current + 8) ∧ t.flag rPwrStatus 25 = true ∧
      ∀ p < 18, (t.arr p).targetCode = (s.arr p).targetCode - 8) ∧
    (cur < 36000 → exec (.currentLimitSample mv cur) s = .next { u with power := { u.power with current := 0 } }) ∧
    (40000 < cur → s.flag rPwrStatus 23 = false → ∃ v : State, v.flag rPwrStatus 23 = true ∧ v.power.brakeAt = some s.now.toNat ∧
      (∀ p < 18, (v.arr p).brake = true ∧ (v.arr p).targetCode = (s.arr p).targetCode - 16) ∧
      exec (.hardBrake mv cur) s = .next (if (v.onceMs 6).1 then (v.onceMs 6).2.inputEvent 0x06 0 0xFF 0 mv cur 0 0 0 else (v.onceMs 6).2)) ∧
    (∀ (t : DWord) b, s.power.brakeAt = some b → cur ≤ 36000 → b + 640000 ≤ t.toNat → ∃ v, exec (.hardBrakeRelease mv cur t) s = .next v ∧
      v.power.brakeAt = none ∧ v.flag rPwrStatus 23 = false ∧ (∀ p < 18, (v.arr p).brake = false) ∧
      v.reg64 (rPwrThr 1) = (s.reg64 (rPwrThr 1) + (t.toNat - b) / 64000) % 2 ^ 64) ∧
    (s.capEff = if s.rackOn then min (min s.capNet s.capMax) (s.fld rPwrRack 15 0) else min s.capNet s.capMax) ∧
    (s.power.down ≠ 0 → exec .throtReqAssert s = .next { s with power := { s.power with pinReq := true } }) ∧
    (s.flag rPwrStatus 20 = false → s.power.down = 0 → let v := s.setFlag rPwrStatus 20 true
      exec .throtReqAssert s = .next ({ v with power := { v.power with pinReq := true } }.rackChange true)) ∧
    (s.flag rPwrStatus 20 = true → let v := s.setFlag rPwrStatus 20 false
      let w := { v with power := { v.power with pinReq := false } }
      exec .throtReqDeassert s = .next (w.inputEvent 0x10 0 0xFF 0 0 0 (s.fld rPwrCapEff 15 0) w.capEff 0))

/-- R335, R449 to R457, R461, R477: domains ramp, are checked, run, latch off and try again; setpoints move; retention begins and ends. -/
def Obligations.DomainEvents : Prop :=
  ∀ (s : State) (d : DomainId) (mv ma : Nat) (t : DWord),
    let r := rPwrDom d.val
    (306 ≤ d.val → d.val < 324 → s.siteOn (d.val - 306) = false → exec (.domainSoftStart d) s = .next s) ∧
    (s.power.down = 0 → s.dom d.val = 0 → ¬(306 ≤ d.val ∧ d.val < 324 ∧ s.siteOn (d.val - 306) = false) → let u := (s.setDom d.val 1).setFld r 28 26 0
      exec (.domainSoftStart d) s = .next (u.setFld r 23 16 (u.setpoint d.val (if d.val < 306 then (u.arr (domArray d.val)).freqCode else 0)))) ∧
    (s.dom d.val = 1 → s.fld r 28 26 = 0 → exec (.softStartCheck d mv ma false t) s = .next s) ∧
    (s.dom d.val = 1 → 2 * mv < codeVolts (s.fld r 23 16) → s.fld r 28 26 < 3 →
      let u := (s.setDom d.val 4).domEvent 0x07 2 d.val (s.fld r 28 26) mv ma (domArray d.val) 0xFF
      let w := { u with power := { u.power with latchAt := tblPut u.power.latchAt d.val ((tblFind u.power.latchAt d.val).getD t.toNat) } }
      exec (.softStartCheck d mv ma true t) s = .next (if w.flag rPwrCtl 0 then w else w.persistentShort d.val mv ma)) ∧
    (s.dom d.val = 1 → ¬(d.val < 288 ∧ ((s.setDom d.val 2).setFld r 15 8 ((s.setDom d.val 2).fld r 23 16)).flag (rPwrAry (d.val / 16)) 4 = true) →
      exec (.domainRampComplete d) s = .next ((s.setDom d.val 2).setFld r 15 8 ((s.setDom d.val 2).fld r 23 16))) ∧
    (∀ first, tblFind s.power.latchAt d.val = some first → s.dom d.val = 4 → s.flag rPwrCtl 0 = true → s.fld r 28 26 < 3 →
      first + 640000000 * (s.fld r 28 26 + 1) ≤ t.toNat → (s.power.inService.contains d.val = true → s.unbacked d.val = true) →
      exec (.domainRetry d t) s = .next ((s.setDom d.val 1).setFld r 28 26 (s.fld r 28 26 + 1))) ∧
    (∀ first, tblFind s.power.latchAt d.val = some first → s.dom d.val = 4 → s.flag rPwrCtl 0 = false →
      (s.power.inService.contains d.val = true → s.unbacked d.val = true) → exec (.domainRetry d t) s = .next (s.persistentShort d.val 0 0)) ∧
    (s.dom d.val = 2 → (domMax d.val * 12 < ma * 10 ∨ 2 * mv < codeVolts (s.fld r 23 16)) → d.val < 288 →
      let a := d.val / 16
      let u := (s.setDom d.val 4).setFld r 28 26 0
      let v := { u with power := { u.power with
        latchAt := tblPut u.power.latchAt d.val t.toNat, inService := d.val :: u.power.inService.filter (fun x => x != d.val) } }
      exec (.domainOvercurrent d mv ma t) s = .next ((v.domEvent 0x0A 2 d.val 0 mv ma a ((v.spareFor a).getD 0xFF)).arrayPowerFault a)) ∧
    (domMax d.val * 12 ≥ ma * 10 → codeVolts (s.fld r 23 16) ≤ 2 * mv → exec (.domainOvercurrent d mv ma t) s = .next s) ∧
    (∀ p : ArrayId, s.logOf p.val = none → s.freeSpare p.val = true → s.isPartner p.val = false → s.flag (rPwrAry p.val) 4 = false →
      exec (.retentionEntry p) s = .next (s.retain p.val)) ∧
    (∀ p : ArrayId, s.isPartner p.val = true → s.flag (rPwrAry p.val) 4 = true → exec (.retentionWake p) s = .next (s.wake p.val)) ∧
    (∀ (p : ArrayId) (e : QEntry), ((s.arr p.val).aq ++ (s.arr p.val).vq).find? (fun e => e.launch.isSome) = some e →
      s.flag rPwrCtl 1 = false → (∀ i < 16, s.dom (16 * p.val + i) = 2) →
      ∃ u, exec (.prepositionStart p) s = .next u ∧
        (∀ i < 16, u.fld (rPwrDom (16 * p.val + i)) 23 16 = Nat.min 180 (s.fld (rPwrDom (16 * p.val + i)) 23 16)) ∧
        u.power.prep = s.power.prep ++ [⟨p.val, (s.arr p.val).ctrl.ctx, e.phaseKey (s.arr p.val),
          match e.launch with | some t => t.toNat | none => 0⟩]) ∧
    (∀ (d : Fin 288) (up : Bool), s.dom d.val = 2 → tblFind s.time.stretchAt d.val = none → tblFind s.time.cpmAt d.val = none →
      let ofs : Int := (BitVec.ofNat 8 (s.fld (rPwrDom d.val) 7 0)).toInt + (if up then 1 else -1)
      let base : Int := s.setpoint d.val (s.arr (d.val / 16)).freqCode
      (base + ofs < base - 6 - tblGet 0 s.power.ofs (12 * d.val + 9) ∨ base + 20 < base + ofs ∨ 180 < base + ofs →
        exec (.cpmAdjust d up) s = .next s) ∧
      (base - 6 - tblGet 0 s.power.ofs (12 * d.val + 9) ≤ base + ofs → base + ofs ≤ base + 20 → base + ofs ≤ 180 →
        0 ≤ base + ofs → ∃ u, exec (.cpmAdjust d up) s = .next u ∧
          u.fld (rPwrDom d.val) 23 16 = (base + ofs).toNat ∧ (BitVec.ofNat 8 (u.fld (rPwrDom d.val) 7 0)).toInt = (ofs.bmod 256))) ∧
    (∀ v, (v < s.fld (rPwrVmin d.val) 15 0 → 288 ≤ d.val → exec (.domainVminExcursion d v t) s =
      .next ((s.setFld (rPwrVmin d.val) 15 0 v).setReg64 (rPwrVminTime d.val) t.toNat)) ∧
      (s.fld (rPwrVmin d.val) 15 0 ≤ v → 288 ≤ d.val → exec (.domainVminExcursion d v t) s = .next s))

/-- R464 to R469, R472 to R476, R478, R541, R542: the cap loop, temperatures and their responses, energy, and the periodic writes. -/
def Obligations.PowerLoopEvents : Prop :=
  ∀ (s : State),
    (∀ obs droops n, s.power.down ≠ 0 → exec (.capLoop obs droops n) s = .next s) ∧
    (∀ obs droops n, s.power.down = 0 → ∃ t, exec (.capLoop obs droops n) s = .next t ∧ t.power.brakeLoop = s.power.brakeAt.isSome) ∧
    (∀ (q : Fin 16) (share c : Nat), s.resident q.val = some c →
      let want := s.fld (rPwrPartCfg q.val) 23 16
      let cap := (List.range (min want 176 + 1)).foldl (fun m k => if s.partPower q.val k ≤ share then k else m) 0
      let code := (s.ctxArrays c).foldl (fun m p => (s.reasonCodes p want cap).foldl (fun m x => min m x.2) m) want
      ∀ p ∈ s.ctxArrays c, ((s.loopPart q.val share).arr p).targetCode = code) ∧
    (∀ p : Profile, ∀ ratio step, (p.observe ratio step).count = min 15 (p.count + 1) ∧ (p.observe ratio step).step = max p.step step ∧
      (p.count ≠ 0 → (p.observe ratio step).ratio = min 255 ((3 * p.ratio + ratio) / 4)) ∧ (p.count = 0 → (p.observe ratio step).ratio = min 255 ratio)) ∧
    (∀ k v, k < 306 → v < 65536 → (tempOf v < -320 ∨ 1200 < tempOf v) → s.fld (rPwrTemp k) 15 0 ≠ 0x8000 → ∀ stuck,
      s.sensorRead k v stuck = (s.setFld (rPwrTemp k) 15 0 0x8000).thermEvent 0x06 1 k v (if k < 288 then k / 16 else 0xFF) 0) ∧
    (∀ k v, k < 306 → v < 65536 → -320 ≤ tempOf v → tempOf v ≤ 1200 → (s.sensorRead k v false).fld (rPwrTemp k) 15 0 = v) ∧
    (∀ readings, s.power.down = 3 → exec (.thermalSample readings) s = .next s) ∧
    (∀ k v, s.power.down ≠ 3 → k < 306 → v < 65536 → (s.sensorRead k v false).hottest (List.range 306) = (k, v) → 880 ≤ tempOf v →
      tempOf v ≤ 1200 → ∃ t, exec (.thermalSample [(k, v, false)]) s = .next t ∧ t.power.down = 3 ∧ t.brp.thermTrip = true ∧
        t.brp.ready = false ∧ ∀ d < 334, t.dom d = 0 ∨ t.dom d = 5) ∧
    (∀ e dev, 0 < dev → ∃ t, exec (.energyAttribution e [] [] dev) s = .next t ∧
      t.fld rPwrInP 15 0 = min 65535 (e / 1000) ∧ t.reg rPwrScale = BitVec.ofNat 32 (min 0xFFFFFFFF (e * 65536 / dev)) ∧ t.power.attr = 0) ∧
    (∃ t, exec .dailyOffsetUpdate s = .next t ∧ t.power.adj = [] ∧ t.power.ofs = s.power.ofs) ∧
    (∃ t, exec .lifetimeFlush s = .next t ∧ t.life.secs = s.life.secs + 60 ∧ t.life.buf = [])

/-- R470, R471: the pools: slack is sent at each interval, and loans are made, taken up, renewed, recalled, and end. -/
def Obligations.PoolEvents : Prop :=
  ∀ (s : State) (f : List Byte) (n : Nat),
    (∀ stalled resident, s.flag rPwrPoolCtl 31 = false → exec (.poolIntervalBoundary stalled resident) s = .next s) ∧
    (∀ stalled resident, s.flag rPwrPoolCtl 31 = true →
      let v := if resident = 0 then 65536 else Nat.min 65536 (stalled * 65536 / resident)
      let w := s.setFld rPwrPoolSlack 15 0 (Nat.min 65535 v)
      let u := w.slackPut ⟨w.ownNode, w.now.toNat / 2 ^ 29, v, 0⟩
      exec (.poolIntervalBoundary stalled resident) s =
        .next (u.poolPeers.foldl (fun s n => s.poolSend n 0x30 v 0) u)) ∧
    (s.flag rPwrPoolCtl 31 = false → exec .poolLoanDecision s = .next s) ∧
    (∀ own x, s.flag rPwrPoolCtl 31 = true → s.power.lent = some x →
      let l := s.power.slacks.filter (fun x => x.interval == s.now.toNat / 2 ^ 29)
      l.find? (fun x => x.node == s.ownNode) = some own →
      let keep := 20 * median (l.map (fun x => x.slack)) + 65536 ≤ 20 * own.slack ∧ s.fld rPwrPoolBounds 15 0 + 50 ≤ s.capNet + x.watts ∧
        s.fld rPwrPoolBounds 15 0 ≤ s.capNet
      (keep → exec .poolLoanDecision s = .next ((s.setLent (some { x with lease := s.now.toNat + 64000000000 })).poolSend x.peer 0x31 x.watts
        (s.now.toNat + 64000000000))) ∧
      (¬keep → exec .poolLoanDecision s = .next (s.poolSend x.peer 0x34 x.watts 0))) ∧
    (∀ own b, s.flag rPwrPoolCtl 31 = true → s.power.lent = none →
      let l := s.power.slacks.filter (fun x => x.interval == s.now.toNat / 2 ^ 29)
      let w := Nat.min (s.capNet - s.fld rPwrPoolBounds 15 0) (s.fld rPwrCapGrant 15 0 / 40)
      l.find? (fun x => x.node == s.ownNode) = some own → l.filter (fun x => x.node != s.ownNode && decide (w ≤ x.headroom)) = [b] →
      20 * median (l.map (fun x => x.slack)) + 65536 ≤ 20 * own.slack → s.fld rPwrPoolBounds 15 0 + 50 ≤ s.capNet →
      exec .poolLoanDecision s = .next ((s.setLent (some ⟨b.node, w, s.now.toNat + 64000000000, false⟩)).poolSend b.node 0x31 w
        (s.now.toNat + 64000000000))) ∧
    (s.poolFrom 0x30 f = some n → exec (.poolSlackFrame f) s = .next (s.slackPut ⟨n, leAt f 8 4, leAt f 12 4, leAt f 28 4⟩)) ∧
    (s.poolFrom 0x31 f = some n →
      let w := leAt f 12 4
      let lease := leAt f 16 8
      (s.power.borrowed.any (fun x => x.peer == n) = true → exec (.poolLoanFrame f) s =
        .next ((s.setBorrowed (s.power.borrowed.map (fun (x : Loan) => if x.peer = n then { x with lease := lease } else x))).poolSend n 0x32 w lease)) ∧
      (s.power.borrowed.any (fun x => x.peer == n) = false → s.power.borrowed.length < 8 → s.capNet + w ≤ s.fld rPwrPoolBounds 31 16 →
        exec (.poolLoanFrame f) s =
          .next (((s.setBorrowed (s.power.borrowed ++ [⟨n, w, lease, true⟩])).loanEvent 0x0D w n).poolSend n 0x32 w lease)) ∧
      (s.power.borrowed.any (fun x => x.peer == n) = false → 8 ≤ s.power.borrowed.length ∨ s.fld rPwrPoolBounds 31 16 < s.capNet + w →
        exec (.poolLoanFrame f) s = .next (s.poolSend n 0x33 w 0))) ∧
    (∀ x, s.poolFrom 0x32 f = some n → s.power.lent = some x → x.peer = n → x.ok = false → exec (.poolAcceptFrame f) s =
      .next ((s.setLent (some { x with ok := true })).loanEvent 0x0D x.watts n)) ∧
    (∀ x, s.poolFrom 0x33 f = some n → s.power.lent = some x → x.peer = n → exec (.poolRefuseFrame f) s = .next (s.setLent none)) ∧
    (∀ x, s.poolFrom 0x34 f = some n → s.power.borrowed.find? (fun x => x.peer == n) = some x → exec (.poolRecallFrame f) s =
      .next ((s.setBorrowed (s.power.borrowed.filter (fun y => y.peer != n))).poolSend n 0x35 x.watts 0)) ∧
    (∀ x, s.poolFrom 0x35 f = some n → s.power.lent = some x → x.peer = n → exec (.poolReleaseFrame f) s = .next (s.setLent none)) ∧
    (∀ (t : DWord) x, s.power.borrowed = [x] → x.lease ≤ t.toNat → exec (.poolLeaseEnd t) s =
      .next (((s.setBorrowed []).loanEvent 0x0E x.watts x.peer).poolSend x.peer 0x35 x.watts 0)) ∧
    (∀ (t : DWord) x, s.power.lent = some x → x.lease + 6400000000 ≤ t.toNat → exec (.poolLenderTimeout t) s =
      .next ((s.setLent none).loanEvent 0x0E x.watts x.peer))

/-- R21, R26, R353, R484, R488, R495, R496, R502, R503, R554, R556, R557: cold resets, the stages of bring-up, and remaps. -/
def Obligations.BringupEvents : Prop :=
  ∀ (s : State) (t : DWord) (e : StageEnd),
    (s.coldReset.fuses = s.fuses ∧ s.coldReset.mgt.slots = s.mgt.slots ∧ s.coldReset.mgt.recA = s.mgt.recA ∧
      s.coldReset.mgt.recB = s.mgt.recB ∧ s.coldReset.brp.log = s.brp.log ∧ s.coldReset.arrays = [] ∧ s.coldReset.cores = [] ∧
      s.coldReset.brp.badSites = s.brp.badSites ∧ s.coldReset.mgt.taken = s.mgt.taken ∧ s.coldReset.ctxs = [] ∧ s.coldReset.parts = [] ∧ s.coldReset.rings = [] ∧ s.coldReset.now = 0#64 ∧
      ∀ c ∈ s.coldReset.mem, ∃ off, s.place c.1 = .host off) ∧
    exec .powerOn s = .next { s.coldReset with
      power := { s.coldReset.power with down := 5 }, brp := { s.coldReset.brp with thermTrip := false, pwrFail := false } } ∧
    (∃ u, exec .coldRstLAssert s = .next u ∧ u.power.down = 4 ∧ u.brp.ready = false ∧ u.brp.thermTrip = false ∧
      ∀ p < 18, (u.arr p).gated = true) ∧
    (∀ slotId recov, s.power.down = 4 ∨ s.power.down = 5 →
      exec (.coldRstLDeassert slotId recov) s = .next (s.coldReset.stageZero slotId.val recov)) ∧
    (∀ x, s.mgt.coldAt = some x → x ≤ t.toNat → exec (.coldResetDelayExpiry t) s =
      .next (s.lifeFlush.coldReset.stageZero s.brp.slotId s.brp.recov)) ∧
    (s.power.down ≠ 0 ∨ s.fld rBrpStatus 27 25 = 1 ∨ s.fld rBrpStatus 27 25 = 2 ∨ (s.fld rMgtStatus 31 28 = 4 ∧ s.fld rBrpStatus 31 28 = 1) →
      exec (.bringupStageEnd t e) s = .next s) ∧
    (∀ u st r, s.power.down = 0 → s.fld rBrpStatus 31 28 = st → s.fld rBrpStatus 27 25 = 0 ∨ s.fld rBrpStatus 27 25 = 3 →
      ¬(s.fld rMgtStatus 31 28 = 4 ∧ st = 1) →
      let bad := if st = 5 then s.seamFails e.lanes else []
      let x := match bad with | y :: _ => { e with location := y.seg.val + 256 * y.bundle.toNat } | [] => e
      s.stageWork st x = (u, r) →
      let rep := u.report st (Nat.min 3 r) (packBits 12 (fun g => bad.any (fun y => y.seg.val == g))) x
      let v := if st = 0 ∧ r = 3 then u else ({ u with brp := { u.brp with reports := tblPut u.brp.reports st rep } }).lifeAdd 0x02 rep
      let w := { v with brp := { v.brp with began := t.toNat } }
      let f := w.bringupFail x.unit x.detail
      (r < 3 → st < 11 → ¬(st = 1 ∧ w.fld rMgtStatus 31 28 = 4) → s.fld rBrpStatus 27 25 = 0 →
        exec (.bringupStageEnd t e) s = .next (w.setFld rBrpStatus 31 28 (st + 1))) ∧
      (r < 3 → st = 6 ∨ st = 10 → s.fld rBrpStatus 27 25 = 3 →
        exec (.bringupStageEnd t e) s = .next (w.setFld rBrpStatus 31 28 (if st = 6 then 10 else 11))) ∧
      (r < 3 → st = 1 → w.fld rMgtStatus 31 28 = 4 → exec (.bringupStageEnd t e) s = .next w) ∧
      (r < 3 → st = 11 → exec (.bringupStageEnd t e) s = .next w.ready) ∧
      (r = 3 → f.fld rMgtStatus 31 28 = 4 → exec (.bringupStageEnd t e) s = .next f) ∧
      (r = 3 → f.fld rMgtStatus 31 28 ≠ 4 → f.flag rMgtStatus 27 = true → exec (.bringupStageEnd t e) s = .next f.trialFails) ∧
      (r = 3 → f.fld rMgtStatus 31 28 ≠ 4 → f.flag rMgtStatus 27 = false → exec (.bringupStageEnd t e) s = .next (f.setFld rMgtStatus 31 28 5)) ∧
      (4 ≤ r → exec (.bringupStageEnd t e) s = .next (w.bringupRestart x.unit x.detail))) ∧
    (∀ x y : SeamLane, s.brp.seamSpares.contains (seamKey x) = false → s.seamFails [x] = [] ∧
      (s.seamsTrained [x] e.result).2 = Nat.max 1 e.result ∧
      (seamKey y = seamKey x → s.seamFails [x, y] = [x] ∧
        (x.link = none → (s.seamsTrained [x, y] e.result).2 = 3) ∧ (x.link ≠ none → (s.seamsTrained [x, y] e.result).2 = Nat.max 2 e.result))) ∧
    (s.fld rBrpStatus 22 20 < 4 → s.bringupRestart e.unit e.detail = ((s.setFld rBrpStatus 22 20 (s.fld rBrpStatus 22 20 + 1)).setFld rBrpStatus 31 28
      2).brpEvent 0xA2 0 (brpPayload (s.fld rBrpStatus 31 28) 0 e.unit e.detail 0 0xFF 0xFF)) ∧
    (4 ≤ s.fld rBrpStatus 22 20 → s.bringupRestart e.unit e.detail = s.bringupFail e.unit e.detail) ∧
    (∀ st r g, (s.report st r g e).length = 256 ∧ leAt (s.report st r g e) 252 4 = crc32c ((s.report st r g e).take 252) ∧
      leAt (s.report st r g e) 0 1 = st % 256 ∧ leAt (s.report st r g e) 1 1 = r % 256 ∧ leAt (s.report st r g e) 148 2 = g % 65536) ∧
    (∀ (p : ArrayId) q n, s.remapReady p.val = some q → s.logOf p.val = some n →
      let u := (s.wake q).arrayGen q
      exec (.remapStart p) s = .next ({ u with brp := { u.brp with
        remaps := u.brp.remaps ++ [Remap.mk n p.val q ((tblFind u.integ.want p.val).getD 1)] } }.modArr p.val (fun a => { a with gated := true }))) ∧
    (∀ (p : ArrayId) r, s.brp.remaps.find? (fun r => r.src == p.val) = some r → r.why ≠ 2 → p.val ≠ r.dst → (s.arr r.dst).halted = false →
      s.fld (rChkArray r.dst) 31 30 = 0 →
      let u := ({ s with brp := { s.brp with remaps := s.brp.remaps.filter (fun x => x.src != p.val) } }.modArr p.val
        (fun a => { a with gated := decide (s.power.down ≠ 0) })).switchMap r
      exec (.remapMapSwitch p) s = .next ((((({ u with integ := { u.integ with want := tblDel u.integ.want p.val } }.setFlag (rChkArray p.val) 28
        false).logAdd 0x03 5 0 [r.logical, r.dst]).runWaits p.val).showSpares)))

/-- R525 to R528, R530, R545: claims, releases, handovers and the lapse of a lease, by the PLDM commands of a path that takes messages;
another path's do nothing. -/
def Obligations.OwnershipCommands : Prop :=
  ∀ (s : State) (req : Requester),
    let ans (u : State) : Out := .next (u.notice req)
    (∀ prio id, s.claimOk (pathOf req) prio id = true ↔ 1 ≤ reqKind req ∧ reqKind req ≤ 4 ∧ 1 ≤ prio ∧ prio ≤ 255 ∧ id ≠ 0 ∧
      (s.flag rMgtOwner 31 = false ∨ (s.ownerPath = pathOf req ∧ s.reg64 rMgtOwnerId = id) ∨ s.fld rMgtOwner 23 16 < prio ∨
        (s.fld rMgtOwner 23 16 = prio ∧ s.reg64 rMgtOwnerId < id) ∨ s.handMatches (pathOf req) id = true)) ∧
    (∀ prio id, s.claimOk (pathOf req) prio id = false → s.claim req prio id = (s.mgtEvent 0x08 (pathOf req) id prio 0, 2)) ∧
    (∀ prio id, s.claimOk (pathOf req) prio id = true → s.flag rMgtOwner 31 = false → s.handMatches (pathOf req) id = false →
      let u := (s.setReg rMgtOwner (BitVec.ofNat 32 (2 ^ 31 + reqKind req * 2 ^ 28 + reqPath req * 2 ^ 24 + prio * 65536 + reqNode req))).setReg64
        rMgtOwnerId id
      s.claim req prio id = (((({ u with mgt := { u.mgt with lease := s.now.toNat + 30 * 64000000000, hand := none } }.setFlag rMgtLease 31
        false).mgtEvent 0x05 (pathOf req) id prio 0).ownerEntry (pathOf req) prio id 0), 1)) ∧
    (∀ prio id, s.flag rMgtOwner 31 = true → s.ownerPath = pathOf req → s.reg64 rMgtOwnerId = id → s.claimOk (pathOf req) prio id = true →
      s.handMatches (pathOf req) id = false → (s.claim req prio id).2 = 1 ∧
        (s.claim req prio id).1.mgt.lease = s.now.toNat + 30 * 64000000000 ∧ (s.claim req prio id).1.mgt.hand = s.mgt.hand ∧
        (s.claim req prio id).1.fld rMgtOwner 23 16 = s.fld rMgtOwner 23 16) ∧
    (∀ prio id kind path node, s.takesMessage req false = false →
      ∀ c ∈ [Instr.claimOwnership req prio id, .releaseOwnership req id, .handOver req kind path node id, .getOwner req], exec c s = .next s) ∧
    (s.takesMessage req false = true →
      (∀ prio id, let x := s.claim req prio (id % 2 ^ 64)
        exec (.claimOwnership req prio id) s = ans (x.1.answer [0, x.2, x.1.fld rMgtOwner 30 28, x.1.fld rMgtOwner 23 16, x.1.reg64 rMgtOwnerId])) ∧
      (∀ id, s.isOwner req = true → s.reg64 rMgtOwnerId = id → exec (.releaseOwnership req id) s =
        ans (((s.ownerClear.mgtEvent 0x06 (pathOf req) id (s.fld rMgtOwner 23 16) 0).ownerEntry (0, 0, 0) 0 0 3).answer [0, 1])) ∧
      (∀ id, s.isOwner req = false ∨ s.reg64 rMgtOwnerId ≠ id → exec (.releaseOwnership req id) s = ans (s.pldmRefuse req id)) ∧
      (∀ kind path node id,
        (s.isOwner req = true → 1 ≤ kind → kind ≤ 4 → id % 2 ^ 64 ≠ 0 → exec (.handOver req kind path node id) s =
          ans (({ s with mgt := { s.mgt with hand := some ⟨kind, path, node, id % 2 ^ 64, s.now.toNat + 5 * 64000000000⟩ } }.setFlag rMgtLease 31
            true).answer [0, 3])) ∧
        (s.isOwner req = false ∨ kind = 0 ∨ 4 < kind ∨ id % 2 ^ 64 = 0 → exec (.handOver req kind path node id) s = ans (s.pldmRefuse req id))) ∧
      exec (.getOwner req) s = ans (s.answer [0, (s.reg rMgtOwner).toNat, s.reg64 rMgtOwnerId, s.leaseMs])) ∧
    (∀ t : DWord, s.flag rMgtOwner 31 = true → s.mgt.lease ≤ t.toNat → exec (.leaseLapse t) s = .next ((s.ownerClear.mgtEvent 0x07 s.ownerPath
      (s.reg64 rMgtOwnerId) (s.fld rMgtOwner 23 16) 0).ownerEntry (0, 0, 0) 0 0 4)) ∧
    (∀ (t : DWord) h, s.mgt.hand = some h → h.deadline ≤ t.toNat → exec (.handoverExpiry t) s =
      .next ({ s with mgt := { s.mgt with hand := none } }.setFlag rMgtLease 31 false))

/-- R522, R531 to R538: a firmware update from its request to its confirmation, the other owner's commands, and the trial window. -/
def Obligations.FirmwareCommands : Prop :=
  ∀ (s : State) (req : Requester),
    let r := s.bootRec
    let ans (u : State) : Out := .next (u.notice req)
    let put (u : Option Update) : State := { s with mgt := { s.mgt with update := u } }
    (s.takesMessage req true = true →
      (s.isOwner req = false → ∀ id off data last, ∀ c ∈ [Instr.requestUpdate req, .passComponentTable req, .updateComponent req id,
        .firmwareDataResponse req off data, .transferComplete req last, .verifyComplete req, .cancelUpdateComponent req, .activateFirmware req,
        .cancelUpdate req], exec c s = ans (s.pldmRefuse req 0)) ∧
      (s.isOwner req = true → s.updatesOpen = true → s.mgt.update = none →
        let u := { s with mgt := { s.mgt with update := some ⟨pathOf req, 1 - r.active, 1, none⟩, slots := tblPut s.mgt.slots (1 - r.active) [] } }
        exec (.requestUpdate req) s =
          ans (((u.bootWrite (u.bootRec.setSlot (1 - r.active) 1)).fwEvent 0x01 0 (1 - r.active) 0).answer [0])) ∧
      (s.isOwner req = true → s.updatesOpen = false ∨ s.mgt.update.isSome = true → exec (.requestUpdate req) s = ans (s.answer [4])) ∧
      (s.isOwner req = true → s.updateAt req 1 = false → ∀ id off data last, ∀ c ∈ [Instr.passComponentTable req, .updateComponent req id,
        .firmwareDataResponse req off data, .transferComplete req last, .cancelUpdateComponent req], exec c s = ans (s.answer [4])) ∧
      (∀ u, s.isOwner req = true → s.mgt.update = some u → u.agent = pathOf req → u.stage = 1 →
        exec (.passComponentTable req) s = ans (s.answer [0]) ∧
        (∀ id, exec (.updateComponent req id) s = ans (((put (some { u with comp := some id })).emit "pldm" [0x15, 0, 4096]).answer [0])) ∧
        (∀ off data, u.comp.isSome = true → data.length ≤ 4096 → off + data.length ≤ 20 * 2 ^ 20 → ∃ new,
          exec (.firmwareDataResponse req off data) s = ans (({ s with mgt := { s.mgt with slots := tblPut s.mgt.slots u.slot new } }.emit "pldm"
            [0x15, off + data.length, 4096]).answer [0]) ∧ new = (List.range data.length).foldl (fun t i => tblSet 0#8 t (off + i) (nth 0#8 data i)) (tblGet [] s.mgt.slots u.slot)) ∧
        (∀ off data, u.comp.isSome = false ∨ 4096 < data.length ∨ 20 * 2 ^ 20 < off + data.length →
          exec (.firmwareDataResponse req off data) s = ans (s.answer [2])) ∧
        exec (.transferComplete req false) s = ans ((put (some { u with comp := none })).answer [0]) ∧
        (let v := put (some { u with stage := 2, comp := none });
          exec (.transferComplete req true) s = ans ((((v.takeOver u.slot).bootWrite (v.bootRec.setSlot u.slot 2)).fwEvent 0x02 0 u.slot 0).answer [0])) ∧
        exec (.cancelUpdateComponent req) s = ans ((put (some { u with comp := none })).answer [0])) ∧
      (s.isOwner req = true → s.updateAt req 3 = true → exec (.verifyComplete req) s = ans ((s.emit "pldm" [0x18, 0]).answer [0])) ∧
      (s.isOwner req = true → s.updateAt req 3 = false → exec (.verifyComplete req) s = ans (s.answer [4])) ∧
      (s.isOwner req = true → r.slot (1 - r.active) = 3 → r.trial = 255 → s.updatesOpen = true →
        exec (.activateFirmware req) s = ans ((((put none).bootWrite ({ r with trial := 1 - r.active, trials := 0 }.setSlot (1 - r.active) 5)).fwEvent
          0x05 0 (1 - r.active) 0).answer [0])) ∧
      (s.isOwner req = true → r.slot (1 - r.active) ≠ 3 ∨ r.trial ≠ 255 ∨ s.updatesOpen = false →
        exec (.activateFirmware req) s = ans (s.answer [4])) ∧
      (s.isOwner req = true → exec (.cancelUpdate req) s = ans (s.updateCancel.answer [0])) ∧
      exec (.getStatus req) s = ans (s.answer [0, s.fld rMgtStatus 23 20])) ∧
    (s.takesMessage req true = false → ∀ id off data last, ∀ c ∈ [Instr.requestUpdate req, .passComponentTable req, .updateComponent req id,
      .firmwareDataResponse req off data, .transferComplete req last, .verifyComplete req, .cancelUpdateComponent req, .activateFirmware req,
      .getStatus req, .cancelUpdate req], exec c s = .next s) ∧
    (s.takesMessage req false = false → ∀ off v space first count, ∀ c ∈ [Instr.confirmFirmware req, .coldReset req, .readRegister req off,
      .writeRegister req off v, .readLifetime req space first count], exec c s = .next s) ∧
    (∀ id, let u := { s with mgt := { s.mgt with taken := [4, 5].foldl (fun t k => tblPut t (8 * id + k) (s.compVersion (1 - id) k)) s.mgt.taken } }
      s.takeOver id = u ∧ (id < 2 → s.compIn id 4 = none → u.compVersion id 4 = s.compVersion (1 - id) 4)) ∧
    (∀ n sig hash, [0, 1].find? (fun n => r.slot n == 2) = some n →
      s.mgt.update.isSome = true ∨ s.fld rBrpStatus 27 25 = 1 ∨ s.fld rMgtStatus 31 28 = 4 →
      (s.imageDetail n sig hash = 0 →
        let u := put (s.mgt.update.map (fun (u : Update) => { u with stage := 3 }))
        exec (.fwVerifyComplete sig hash) s = .next (((u.bootWrite ((r.setSlot n 3).setImage n (u.imageAt n 4 4) (u.imageAt n 8 4))).fwEvent 0x03 0 n
          0).emit "pldm" [0x17, 0])) ∧
      (s.imageDetail n sig hash ≠ 0 → exec (.fwVerifyComplete sig hash) s = .next ((((put none).bootWrite (r.setSlot n 6)).fwEvent 0x04 1 n
        (s.imageDetail n sig hash)).emit "pldm" [0x17, s.imageDetail n sig hash]))) ∧
    (s.takesMessage req false = true →
      (s.isOwner req = false → exec (.confirmFirmware req) s = ans (s.pldmRefuse req 0) ∧ exec (.coldReset req) s = ans (s.pldmRefuse req 0)) ∧
      (s.isOwner req = true → s.confirm = none → exec (.confirmFirmware req) s = ans (s.answer [4])) ∧
      (s.isOwner req = true → ∀ t, s.confirm = some t → exec (.confirmFirmware req) s = ans (t.answer [0, 0])) ∧
      (s.isOwner req = true → exec (.coldReset req) s =
        ans ({ s with mgt := { s.mgt with coldAt := some (s.now.toNat + 640000000) } }.answer [0, 0])) ∧
      (∀ off, off < 0x4000000 → off % 4 = 0 → exec (.readRegister req off) s = ans ((s.read32 req off).1.answer [0, (s.read32 req off).2])) ∧
      (∀ off v, off < 0x4000000 → off % 4 = 0 →
        ((s.write32 req off v).2 = none → s.takesWrite req off = true →
          exec (.writeRegister req off v) s = ans ((s.write32 req off v).1.answer [0, 0, 0])) ∧
        ((s.write32 req off v).2 = none → s.takesWrite req off = false →
          exec (.writeRegister req off v) s = ans ((s.write32 req off v).1.answer [0, 1, 0])) ∧
        (∀ code, (s.write32 req off v).2 = some code → exec (.writeRegister req off v) s = ans ((s.write32 req off v).1.answer [0, 1, code]))) ∧
      (∀ off v, 0x4000000 ≤ off ∨ off % 4 ≠ 0 →
        exec (.readRegister req off) s = ans (s.badMessage req 2) ∧ exec (.writeRegister req off v) s = ans (s.badMessage req 2)) ∧
      (∀ space first count, 0 < count → count ≤ 60 → space ≤ 1 → exec (.readLifetime req space first count) s =
        ans (s.answer (0 :: (List.range count).map (fun i => s.lifeWord space (first + i))))) ∧
      (∀ space first count, count = 0 ∨ 60 < count ∨ 1 < space → exec (.readLifetime req space first count) s = ans (s.badMessage req 2))) ∧
    ((s.confirm = none ↔ s.flag rMgtStatus 27 = false ∨ r.trial = 255 ∨ s.fld rBrpStatus 27 25 ≠ 1) ∧
      ∀ t, s.confirm = some t → t.bootRec.active = r.trial ∧ t.bootRec.trial = 255 ∧ (r.trial < 2 → t.bootRec.slot r.trial = 4)) ∧
    (s.mgt.trialFrom.isSome = true → s.flag rMgtStatus 27 = true → exec .trialWindowExpiry s =
      .next ((s.fwEvent 0x08 1 r.trial 0).lifeFlush.coldReset.stageZero (s.fwEvent 0x08 1 r.trial 0).brp.slotId (s.fwEvent 0x08 1 r.trial 0).brp.recov))

/-- R517 to R524, R545: the queries of the management interfaces and what they set, on a path that carries them and on one that does not. -/
def Obligations.ManagementQueries : Prop :=
  ∀ (s : State) (req : Requester) (t : Fin 2),
    let ans (u : State) : Out := .next (u.notice req)
    let reg := if t.val = 0 then rMgtI3cA else rMgtI3cB
    let x := s.i3c t.val
    let put (y : I3cTarget) : State := { s with mgt := { s.mgt with i3c := tblPut s.mgt.i3c t.val y } }
    (s.flag reg 31 = true →
      exec (.getpid t) s = .next (s.answer [0x02A7 * 2 ^ 33 + 0x0A71 * 2 ^ 16 + s.brp.slotId * 2 ^ 12 + t.val * 2 ^ 11 + s.fld reg 10 0]) ∧
      exec (.getbcr t) s = .next (s.answer [0x07]) ∧ exec (.getdcr t) s = .next (s.answer [0xCC]) ∧
      exec (.getstatus t) s = .next (s.drawn.answer [s.free % 65536]) ∧ exec (.getmxds t) s = .next (s.answer [0, 0]) ∧
      exec (.getmrl t) s = .next (s.answer [x.mrl]) ∧ exec (.getmwl t) s = .next (s.answer [x.mwl])) ∧
    (s.flag reg 31 = false → ∀ c ∈ [Instr.getpid t, .getbcr t, .getdcr t, .getstatus t, .getmxds t, .getmrl t, .getmwl t],
      exec c s = .next (s.answer [])) ∧
    (∀ n, (69 ≤ n → n ≤ 260 → exec (.setmrl t n) s = .next (put { x with mrl := n }) ∧ exec (.setmwl t n) s = .next (put { x with mwl := n })) ∧
      (n < 69 ∨ 260 < n → exec (.setmrl t n) s = .next s ∧ exec (.setmwl t n) s = .next s)) ∧
    (∀ a : Fin 128, (s.flag reg 31 = true → exec (.entdaa t a) s = .next s) ∧
      (s.flag reg 31 = false → let u := (s.setFlag reg 31 true).setFld reg 30 24 a.val
        exec (.entdaa t a) s = .next ((u.setI3c t.val { x with joined := true }).addrEvent t.val a.val))) ∧
    (let u := (s.setFlag reg 31 false).setFld reg 30 24 0;
      (s.brp.slotId ≠ 15 → exec (.rstdaa t) s = .next ((u.addrEvent t.val 0).ownerEnds (t.val + 1) 0)) ∧
      (s.brp.slotId = 15 → exec (.rstdaa t) s = .next (((u.drawn.setFld reg 10 0 (u.free % 2048)).addrEvent t.val 0).ownerEnds (t.val + 1) 0))) ∧
    (∀ i h,
      exec (.enec t i h) s = .next ((put { x with ibi := x.ibi || i, hotJoin := x.hotJoin || h }).setFlag reg 19 (x.ibi || i)) ∧
      exec (.disec t i h) s = .next ((put { x with ibi := x.ibi && !i, hotJoin := x.hotJoin && !h }).setFlag reg 19 (x.ibi && !i))) ∧
    (exec (.rstact t 1) s = .next ((put { I3cTarget.reset with joined := x.joined }).setFlag reg 19 false) ∧
      ∀ a, a ≠ 1 → exec (.rstact t a) s = .next s) ∧
    ((s.flag reg 31 = false → x.hotJoin = true → exec (.i3cHotJoin t) s = .next (s.emit "i3c-hot-join" [t.val])) ∧
      (s.flag reg 31 = true ∨ x.hotJoin = false → exec (.i3cHotJoin t) s = .next s)) ∧
    (∀ eid, (s.reached req = false → exec (.setEndpointId req eid) s = .next s) ∧
      (s.reached req = true → eid = 0 ∨ 255 < eid → exec (.setEndpointId req eid) s = ans (s.answer [2])) ∧
      (0 < eid → eid < 256 →
        (s.flag rMgtI3cA 31 = true → exec (.setEndpointId .mgmtA eid) s = .next (((s.setFld rMgtEid 23 16 eid).answer [0, eid]).notice .mgmtA)) ∧
        (s.flag rMgtI3cB 31 = true → exec (.setEndpointId .mgmtB eid) s = .next (((s.setFld rMgtEid 15 8 eid).answer [0, eid]).notice .mgmtB)) ∧
        ∀ n, exec (.setEndpointId (.fabric n) eid) s = .next ((s.setFld rMgtEid 7 0 eid).answer [0, eid]))) ∧
    ((s.reached req = false → exec (.getEndpointId req) s = .next s) ∧
      (s.flag rMgtI3cA 31 = true → exec (.getEndpointId .mgmtA) s = .next ((s.answer [0, s.fld rMgtEid 23 16]).notice .mgmtA)) ∧
      (s.flag rMgtI3cB 31 = true → exec (.getEndpointId .mgmtB) s = .next ((s.answer [0, s.fld rMgtEid 15 8]).notice .mgmtB)) ∧
      (∀ n, exec (.getEndpointId (.fabric n)) s = .next (s.answer [0, s.fld rMgtEid 7 0])) ∧
      exec .getMessageTypeSupport s = .next (s.answer [0, 0, 1, 5]) ∧ exec .getMctpVersionSupport s = .next (s.drawn.answer [0, s.free % 2 ^ 32]) ∧
      ∃ v, exec .getEndpointUuid s = .next (s.answer [0, v]) ∧ v < 2 ^ 128) ∧
    (s.reached req = true ↔ (req = .mgmtA ∧ s.flag rMgtI3cA 31 = true) ∨ (req = .mgmtB ∧ s.flag rMgtI3cB 31 = true) ∨ ∃ n, req = .fabric n) ∧
    (s.takesMessage req true = true →
      exec (.getTid req) s = ans (s.answer [0, s.mgt.tid]) ∧
      (∀ n, (0 < n → n ≤ 254 → exec (.setTid req n) s = ans ({ s with mgt := { s.mgt with tid := n } }.answer [0])) ∧
        (n = 0 ∨ 254 < n → exec (.setTid req n) s = ans (s.answer [2]))) ∧
      exec (.getPldmTypes req) s = ans (s.answer [0, 0, 2, 5, 0x3F]) ∧
      (∀ ty ∈ [0, 2, 5, 0x3F], exec (.getPldmCommands req ty) s = ans (s.answer (0 :: pldmCommands ty)) ∧
        exec (.getPldmVersion req ty) s = ans (s.drawn.answer [0, s.free % 2 ^ 32])) ∧
      (∀ ty, ty ∉ [0, 2, 5, 0x3F] → exec (.getPldmCommands req ty) s = ans (s.badMessage req 2) ∧
        exec (.getPldmVersion req ty) s = ans (s.badMessage req 2)) ∧
      exec (.queryDeviceIdentifiers req) s = ans (s.answer [0, (s.reg (rHstId 0)).toNat / 65536, s.fuses.serial.toNat]) ∧
      exec (.getFirmwareParameters req) s = ans (s.answer [0, s.bootRec.ver s.bootRec.active, s.bootRec.ver (1 - s.bootRec.active)]) ∧
      exec (.getVersion req) s = ans ((s.setSpdm req 1).answer [0x13]) ∧ exec (.getCapabilities req) s = ans (s.answer [7]) ∧
      (∀ e h, (s.spdm req ≠ 0 ∧ e = true ∧ h = true → exec (.negotiateAlgorithms req e h) s = ans ((s.setSpdm req 2).answer [1, 1])) ∧
        (s.spdm req = 0 ∨ e = false ∨ h = false → exec (.negotiateAlgorithms req e h) s = ans (s.answer []))) ∧
      (∃ v, exec (.getDigests req) s = ans (s.answer [0, v]) ∧ v < 2 ^ 384) ∧
      (∀ off len, ∃ l, exec (.getCertificate req 0 off len) s = ans (s.answer l) ∧ l.length = len ∧ ∀ b ∈ l, b < 256) ∧
      (∀ slot off len, slot ≠ 0 → exec (.getCertificate req slot off len) s = ans (s.answer [])) ∧
      (∀ n i, s.spdm req ≠ 2 → exec (.challenge req n) s = ans (s.answer []) ∧ exec (.getMeasurements req i n) s = ans (s.answer [])) ∧
      (s.spdm req = 2 → ∀ n, (∃ l, exec (.challenge req n) s = ans (s.answer l) ∧ l.length = 2) ∧
        (∀ i, 1 ≤ i → i ≤ 8 → ∃ l, exec (.getMeasurements req i n) s = ans (s.answer (s.measurement i ++ l)) ∧ l.length = 2) ∧
        (∀ i, i = 0 ∨ 8 < i → exec (.getMeasurements req i n) s = ans (s.answer [])))) ∧
    (s.takesMessage req true = false → ∀ n e h slot off len i,
      ∀ c ∈ [Instr.getTid req, .setTid req n, .getPldmTypes req, .getPldmCommands req n, .getPldmVersion req n, .queryDeviceIdentifiers req,
        .getFirmwareParameters req, .getVersion req, .getCapabilities req, .negotiateAlgorithms req e h, .getDigests req,
        .getCertificate req slot off len, .challenge req n, .getMeasurements req i n], exec c s = .next s) ∧
    (s.takesMessage req false = true →
      exec (.getPdrRepositoryInfo req) s = ans (s.answer [0, 334]) ∧
      (∀ n y, pdrs[n]? = some y → exec (.getPdr req n) s = ans (s.answer [0, y.1, y.2])) ∧
      (∀ n, 334 ≤ n → exec (.getPdr req n) s = ans (s.badMessage req 0x80)) ∧
      (∀ r ∈ [(1, s.fld rPwrInP 15 0), (2, s.fld rPwrInV 15 0), (3, s.fld rPwrInI 15 0), (4, s.fld rPwrCapEff 15 0), (5, s.fld rPwrThermMax 15 0)],
        exec (.getSensorReading req r.1) s = ans (s.answer [0, r.2])) ∧
      (∀ k < 306, exec (.getSensorReading req (0x100 + k)) s = ans (s.answer [0, s.fld (rPwrTemp k) 15 0])) ∧
      (∀ id, id = 0 ∨ (5 < id ∧ id < 0x100) ∨ 0x232 ≤ id → exec (.getSensorReading req id) s = ans (s.badMessage req 0x80)) ∧
      (∀ p < 18, exec (.getStateSensorReadings req (0x200 + p)) s = ans (s.answer [0, if s.fld (rChkArray p) 31 30 = 0
        then (if (s.logOf p).isSome then 0 else 1) else s.fld (rChkArray p) 31 30 + 1])) ∧
      exec (.getStateSensorReadings req 0x300) s = ans (s.answer [0, if s.fld rMgtStatus 31 28 = 4 then 3 else if s.fld rBrpStatus 27 25 = 1 then 1
        else if s.fld rBrpStatus 27 25 = 2 then 2 else 0]) ∧
      exec (.getStateSensorReadings req 0x301) s = ans (s.answer [0, s.fld rQtzStatus 27 26, s.fld rQtzStatus 29 28]) ∧
      exec (.getStateSensorReadings req 0x302) s = ans (s.answer [0, if s.mgt.update.isSome then 2 else if s.flag rMgtStatus 27 then 1 else 0]) ∧
      (∀ id, id < 0x200 ∨ (0x212 ≤ id ∧ id < 0x300) ∨ 0x303 ≤ id → exec (.getStateSensorReadings req id) s = ans (s.badMessage req 0x80)) ∧
      (∀ v, s.isOwner req = true →
        exec (.setNumericEffecterValue req 0x400 v) s = ans ((s.regWrite req rPwrCapGrant (v % 2 ^ 32) capGrantReg).answer [0]) ∧
        exec (.setNumericEffecterValue req 0x401 v) s =
          ans ((s.regWrite req rPwrRack (setBits (s.reg rPwrRack).toNat 15 0 (v % 65536)) rackReg).answer [0])) ∧
      (∀ v, s.isOwner req = false → ∀ id ∈ [0x400, 0x401], exec (.setNumericEffecterValue req id v) s = ans (s.pldmRefuse req v)) ∧
      (exec (.getNumericEffecterValue req 0x400) s = ans (s.answer [0, s.fld rPwrCapGrant 15 0]) ∧
        exec (.getNumericEffecterValue req 0x401) s = ans (s.answer [0, s.fld rPwrRack 15 0])) ∧
      (∀ id v, id ≠ 0x400 → id ≠ 0x401 → exec (.setNumericEffecterValue req id v) s = ans (s.badMessage req 0x80) ∧
        exec (.getNumericEffecterValue req id) s = ans (s.badMessage req 0x80)) ∧
      exec (.setEventReceiver req) s = ans ({ s with mgt := { s.mgt with receiver := some (pathOf req) } }.answer [0]) ∧
      ∀ n, exec (.eventMessageBufferSize req n) s = ans ({ s with mgt := { s.mgt with bufSize := n } }.answer [0, n])) ∧
    (s.takesMessage req false = false → ∀ n v,
      ∀ c ∈ [Instr.getPdrRepositoryInfo req, .getPdr req n, .getSensorReading req n, .getStateSensorReadings req n, .setNumericEffecterValue req n v,
        .getNumericEffecterValue req n, .setEventReceiver req, .eventMessageBufferSize req n], exec c s = .next s)
end

