-- ==== Sys2Proof/Laws/Dispatch.lean ====
section
/-!
SUPPORT. The meaning of every command, one equation each: exec of a constructor is the definition it calls.
-/
namespace Sys2Proof.Machine

theorem exec_registerWrite req off be v s : exec (.registerWrite req off be v) s = execRegisterWrite req off be v s := rfl
theorem exec_rcRead req off s : exec (.rcRead req off) s = execRcRead req off s := rfl
theorem exec_loReadCapture req lo s : exec (.loReadCapture req lo) s = execLoReadCapture req lo s := rfl
theorem exec_loWriteLatch req lo v s : exec (.loWriteLatch req lo v) s = execLoWriteLatch req lo v s := rfl
theorem exec_hiWriteCommit req hi v s : exec (.hiWriteCommit req hi v) s = execHiWriteCommit req hi v s := rfl
theorem exec_host64bitAccess req off write s : exec (.host64bitAccess req off write) s = execHost64bitAccess req off write s := rfl
theorem exec_ucieModuleRetire k m s : exec (.ucieModuleRetire k m) s = execUcieModuleRetire k m s := rfl
theorem exec_remapStart p s : exec (.remapStart p) s = execRemapStart p s := rfl
theorem exec_remapMapSwitch p s : exec (.remapMapSwitch p) s = execRemapMapSwitch p s := rfl
theorem exec_loadBlock p w s : exec (.loadBlock p w) s = execLoadBlock p w s := rfl
theorem exec_loadS p w s : exec (.loadS p w) s = execLoadS p w s := rfl
theorem exec_unpark p w s : exec (.unpark p w) s = execUnpark p w s := rfl
theorem exec_swapSets p w s : exec (.swapSets p w) s = execSwapSets p w s := rfl
theorem exec_drain p w0 w1 s : exec (.drain p w0 w1) s = execDrain p w0 w1 s := rfl
theorem exec_pass p w0 w1 s : exec (.pass p w0 w1) s = execPass p w0 w1 s := rfl
theorem exec_passT p w0 w1 s : exec (.passT p w0 w1) s = execPassT p w0 w1 s := rfl
theorem exec_gangCfg p w s : exec (.gangCfg p w) s = execGangCfg p w s := rfl
theorem exec_gangCfgEffect p s : exec (.gangCfgEffect p) s = execGangCfgEffect p s := rfl
theorem exec_reduceTree p w0 w1 s : exec (.reduceTree p w0 w1) s = execReduceTree p w0 w1 s := rfl
theorem exec_northFeedTransferStart p s : exec (.northFeedTransferStart p) s = execNorthFeedTransferStart p s := rfl
theorem exec_northFeedTransferComplete p s : exec (.northFeedTransferComplete p) s = execNorthFeedTransferComplete p s := rfl
theorem exec_swapTokenStart p s : exec (.swapTokenStart p) s = execSwapTokenStart p s := rfl
theorem exec_passStart p s : exec (.passStart p) s = execPassStart p s := rfl
theorem exec_tileVerdict p slot wit s : exec (.tileVerdict p slot wit) s = execTileVerdict p slot wit s := rfl
theorem exec_tileCommit p slot s : exec (.tileCommit p slot) s = execTileCommit p slot s := rfl
theorem exec_ksplitLevelArrival p s : exec (.ksplitLevelArrival p) s = execKsplitLevelArrival p s := rfl
theorem exec_passGraceAbort p s : exec (.passGraceAbort p) s = execPassGraceAbort p s := rfl
theorem exec_tileRestart p s : exec (.tileRestart p) s = execTileRestart p s := rfl
theorem exec_coreLoad p w0 w1 s : exec (.coreLoad p w0 w1) s = execCoreLoad p w0 w1 s := rfl
theorem exec_coreRun p w s : exec (.coreRun p w) s = execCoreRun p w s := rfl
theorem exec_coreStop p w s : exec (.coreStop p w) s = execCoreStop p w s := rfl
theorem exec_coreRunStart p s : exec (.coreRunStart p) s = execCoreRunStart p s := rfl
theorem exec_coreRunEnd p s : exec (.coreRunEnd p) s = execCoreRunEnd p s := rfl
theorem exec_coreRunFreeze p s : exec (.coreRunFreeze p) s = execCoreRunFreeze p s := rfl
theorem exec_meshSendArrival n s : exec (.meshSendArrival n) s = execMeshSendArrival n s := rfl
theorem exec_meshSendRefusal n s : exec (.meshSendRefusal n) s = execMeshSendRefusal n s := rfl
theorem exec_sendRetry core slot s : exec (.sendRetry core slot) s = execSendRetry core slot s := rfl
theorem exec_meshPutArrival n s : exec (.meshPutArrival n) s = execMeshPutArrival n s := rfl
theorem exec_notificationRelease core s : exec (.notificationRelease core) s = execNotificationRelease core s := rfl
theorem exec_meshGetRequest n s : exec (.meshGetRequest n) s = execMeshGetRequest n s := rfl
theorem exec_meshGetReply n s : exec (.meshGetReply n) s = execMeshGetReply n s := rfl
theorem exec_slateFillComplete core s : exec (.slateFillComplete core) s = execSlateFillComplete core s := rfl
theorem exec_recvSatisfied core s : exec (.recvSatisfied core) s = execRecvSatisfied core s := rfl
theorem exec_waitSatisfied unit s : exec (.waitSatisfied unit) s = execWaitSatisfied unit s := rfl
theorem exec_coreFenceRelease core s : exec (.coreFenceRelease core) s = execCoreFenceRelease core s := rfl
theorem exec_gexaCNop core w s : exec (.gexaCNop core w) s = execGexaCNop core w s := rfl
theorem exec_gexaCHalt core w s : exec (.gexaCHalt core w) s = execGexaCHalt core w s := rfl
theorem exec_gexaCFence core w s : exec (.gexaCFence core w) s = execGexaCFence core w s := rfl
theorem exec_gexaCTrap core w s : exec (.gexaCTrap core w) s = execGexaCTrap core w s := rfl
theorem exec_gexaCAdd core w s : exec (.gexaCAdd core w) s = execGexaCAdd core w s := rfl
theorem exec_gexaCSub core w s : exec (.gexaCSub core w) s = execGexaCSub core w s := rfl
theorem exec_gexaCAnd core w s : exec (.gexaCAnd core w) s = execGexaCAnd core w s := rfl
theorem exec_gexaCOr core w s : exec (.gexaCOr core w) s = execGexaCOr core w s := rfl
theorem exec_gexaCXor core w s : exec (.gexaCXor core w) s = execGexaCXor core w s := rfl
theorem exec_gexaCAndn core w s : exec (.gexaCAndn core w) s = execGexaCAndn core w s := rfl
theorem exec_gexaCShl core w s : exec (.gexaCShl core w) s = execGexaCShl core w s := rfl
theorem exec_gexaCShr core w s : exec (.gexaCShr core w) s = execGexaCShr core w s := rfl
theorem exec_gexaCSra core w s : exec (.gexaCSra core w) s = execGexaCSra core w s := rfl
theorem exec_gexaCMin core w s : exec (.gexaCMin core w) s = execGexaCMin core w s := rfl
theorem exec_gexaCMax core w s : exec (.gexaCMax core w) s = execGexaCMax core w s := rfl
theorem exec_gexaCMinu core w s : exec (.gexaCMinu core w) s = execGexaCMinu core w s := rfl
theorem exec_gexaCMaxu core w s : exec (.gexaCMaxu core w) s = execGexaCMaxu core w s := rfl
theorem exec_gexaCMul core w s : exec (.gexaCMul core w) s = execGexaCMul core w s := rfl
theorem exec_gexaCMulhu core w s : exec (.gexaCMulhu core w) s = execGexaCMulhu core w s := rfl
theorem exec_gexaCSlt core w s : exec (.gexaCSlt core w) s = execGexaCSlt core w s := rfl
theorem exec_gexaCSltu core w s : exec (.gexaCSltu core w) s = execGexaCSltu core w s := rfl
theorem exec_gexaCSeq core w s : exec (.gexaCSeq core w) s = execGexaCSeq core w s := rfl
theorem exec_gexaCSne core w s : exec (.gexaCSne core w) s = execGexaCSne core w s := rfl
theorem exec_gexaCClz core w s : exec (.gexaCClz core w) s = execGexaCClz core w s := rfl
theorem exec_gexaCPopc core w s : exec (.gexaCPopc core w) s = execGexaCPopc core w s := rfl
theorem exec_gexaCAddi core w s : exec (.gexaCAddi core w) s = execGexaCAddi core w s := rfl
theorem exec_gexaCAndi core w s : exec (.gexaCAndi core w) s = execGexaCAndi core w s := rfl
theorem exec_gexaCOri core w s : exec (.gexaCOri core w) s = execGexaCOri core w s := rfl
theorem exec_gexaCXori core w s : exec (.gexaCXori core w) s = execGexaCXori core w s := rfl
theorem exec_gexaCShli core w s : exec (.gexaCShli core w) s = execGexaCShli core w s := rfl
theorem exec_gexaCShri core w s : exec (.gexaCShri core w) s = execGexaCShri core w s := rfl
theorem exec_gexaCSrai core w s : exec (.gexaCSrai core w) s = execGexaCSrai core w s := rfl
theorem exec_gexaCSlti core w s : exec (.gexaCSlti core w) s = execGexaCSlti core w s := rfl
theorem exec_gexaCSltui core w s : exec (.gexaCSltui core w) s = execGexaCSltui core w s := rfl
theorem exec_gexaCSeqi core w s : exec (.gexaCSeqi core w) s = execGexaCSeqi core w s := rfl
theorem exec_gexaCLi core w s : exec (.gexaCLi core w) s = execGexaCLi core w s := rfl
theorem exec_gexaCLih core w s : exec (.gexaCLih core w) s = execGexaCLih core w s := rfl
theorem exec_gexaCSel core w s : exec (.gexaCSel core w) s = execGexaCSel core w s := rfl
theorem exec_gexaCB core w s : exec (.gexaCB core w) s = execGexaCB core w s := rfl
theorem exec_gexaCBz core w s : exec (.gexaCBz core w) s = execGexaCBz core w s := rfl
theorem exec_gexaCBnz core w s : exec (.gexaCBnz core w) s = execGexaCBnz core w s := rfl
theorem exec_gexaCBlt core w s : exec (.gexaCBlt core w) s = execGexaCBlt core w s := rfl
theorem exec_gexaCBge core w s : exec (.gexaCBge core w) s = execGexaCBge core w s := rfl
theorem exec_gexaCBltu core w s : exec (.gexaCBltu core w) s = execGexaCBltu core w s := rfl
theorem exec_gexaCBgeu core w s : exec (.gexaCBgeu core w) s = execGexaCBgeu core w s := rfl
theorem exec_gexaCBeq core w s : exec (.gexaCBeq core w) s = execGexaCBeq core w s := rfl
theorem exec_gexaCLoop core w s : exec (.gexaCLoop core w) s = execGexaCLoop core w s := rfl
theorem exec_gexaCSysr core w s : exec (.gexaCSysr core w) s = execGexaCSysr core w s := rfl
theorem exec_gexaCLdW core w s : exec (.gexaCLdW core w) s = execGexaCLdW core w s := rfl
theorem exec_gexaCLdHu core w s : exec (.gexaCLdHu core w) s = execGexaCLdHu core w s := rfl
theorem exec_gexaCLdBu core w s : exec (.gexaCLdBu core w) s = execGexaCLdBu core w s := rfl
theorem exec_gexaCLdV core w s : exec (.gexaCLdV core w) s = execGexaCLdV core w s := rfl
theorem exec_gexaCLdAl core w s : exec (.gexaCLdAl core w) s = execGexaCLdAl core w s := rfl
theorem exec_gexaCLdAh core w s : exec (.gexaCLdAh core w) s = execGexaCLdAh core w s := rfl
theorem exec_gexaCLdA core w s : exec (.gexaCLdA core w) s = execGexaCLdA core w s := rfl
theorem exec_gexaCStW core w s : exec (.gexaCStW core w) s = execGexaCStW core w s := rfl
theorem exec_gexaCStH core w s : exec (.gexaCStH core w) s = execGexaCStH core w s := rfl
theorem exec_gexaCStB core w s : exec (.gexaCStB core w) s = execGexaCStB core w s := rfl
theorem exec_gexaCStV core w s : exec (.gexaCStV core w) s = execGexaCStV core w s := rfl
theorem exec_gexaCStAl core w s : exec (.gexaCStAl core w) s = execGexaCStAl core w s := rfl
theorem exec_gexaCStAh core w s : exec (.gexaCStAh core w) s = execGexaCStAh core w s := rfl
theorem exec_gexaCStA core w s : exec (.gexaCStA core w) s = execGexaCStA core w s := rfl
theorem exec_vopAdd core w s : exec (.vopAdd core w) s = execVopAdd core w s := rfl
theorem exec_vopSub core w s : exec (.vopSub core w) s = execVopSub core w s := rfl
theorem exec_vopAdds core w s : exec (.vopAdds core w) s = execVopAdds core w s := rfl
theorem exec_vopSubs core w s : exec (.vopSubs core w) s = execVopSubs core w s := rfl
theorem exec_vopMin core w s : exec (.vopMin core w) s = execVopMin core w s := rfl
theorem exec_vopMax core w s : exec (.vopMax core w) s = execVopMax core w s := rfl
theorem exec_vopMinu core w s : exec (.vopMinu core w) s = execVopMinu core w s := rfl
theorem exec_vopMaxu core w s : exec (.vopMaxu core w) s = execVopMaxu core w s := rfl
theorem exec_vopAnd core w s : exec (.vopAnd core w) s = execVopAnd core w s := rfl
theorem exec_vopOr core w s : exec (.vopOr core w) s = execVopOr core w s := rfl
theorem exec_vopXor core w s : exec (.vopXor core w) s = execVopXor core w s := rfl
theorem exec_vopShl core w s : exec (.vopShl core w) s = execVopShl core w s := rfl
theorem exec_vopShr core w s : exec (.vopShr core w) s = execVopShr core w s := rfl
theorem exec_vopSra core w s : exec (.vopSra core w) s = execVopSra core w s := rfl
theorem exec_vopAbs core w s : exec (.vopAbs core w) s = execVopAbs core w s := rfl
theorem exec_vopMul core w s : exec (.vopMul core w) s = execVopMul core w s := rfl
theorem exec_vopsAdd core w s : exec (.vopsAdd core w) s = execVopsAdd core w s := rfl
theorem exec_vopsSub core w s : exec (.vopsSub core w) s = execVopsSub core w s := rfl
theorem exec_vopsAdds core w s : exec (.vopsAdds core w) s = execVopsAdds core w s := rfl
theorem exec_vopsSubs core w s : exec (.vopsSubs core w) s = execVopsSubs core w s := rfl
theorem exec_vopsMin core w s : exec (.vopsMin core w) s = execVopsMin core w s := rfl
theorem exec_vopsMax core w s : exec (.vopsMax core w) s = execVopsMax core w s := rfl
theorem exec_vopsMinu core w s : exec (.vopsMinu core w) s = execVopsMinu core w s := rfl
theorem exec_vopsMaxu core w s : exec (.vopsMaxu core w) s = execVopsMaxu core w s := rfl
theorem exec_vopsAnd core w s : exec (.vopsAnd core w) s = execVopsAnd core w s := rfl
theorem exec_vopsOr core w s : exec (.vopsOr core w) s = execVopsOr core w s := rfl
theorem exec_vopsXor core w s : exec (.vopsXor core w) s = execVopsXor core w s := rfl
theorem exec_vopsShl core w s : exec (.vopsShl core w) s = execVopsShl core w s := rfl
theorem exec_vopsShr core w s : exec (.vopsShr core w) s = execVopsShr core w s := rfl
theorem exec_vopsSra core w s : exec (.vopsSra core w) s = execVopsSra core w s := rfl
theorem exec_vopsAbs core w s : exec (.vopsAbs core w) s = execVopsAbs core w s := rfl
theorem exec_vopsMul core w s : exec (.vopsMul core w) s = execVopsMul core w s := rfl
theorem exec_vcmpEq core w s : exec (.vcmpEq core w) s = execVcmpEq core w s := rfl
theorem exec_vcmpNe core w s : exec (.vcmpNe core w) s = execVcmpNe core w s := rfl
theorem exec_vcmpLt core w s : exec (.vcmpLt core w) s = execVcmpLt core w s := rfl
theorem exec_vcmpLe core w s : exec (.vcmpLe core w) s = execVcmpLe core w s := rfl
theorem exec_vcmpGt core w s : exec (.vcmpGt core w) s = execVcmpGt core w s := rfl
theorem exec_vcmpGe core w s : exec (.vcmpGe core w) s = execVcmpGe core w s := rfl
theorem exec_vcmpLtu core w s : exec (.vcmpLtu core w) s = execVcmpLtu core w s := rfl
theorem exec_vcmpLeu core w s : exec (.vcmpLeu core w) s = execVcmpLeu core w s := rfl
theorem exec_vcmpGtu core w s : exec (.vcmpGtu core w) s = execVcmpGtu core w s := rfl
theorem exec_vcmpGeu core w s : exec (.vcmpGeu core w) s = execVcmpGeu core w s := rfl
theorem exec_vsel core w s : exec (.vsel core w) s = execVsel core w s := rfl
theorem exec_vmac core w s : exec (.vmac core w) s = execVmac core w s := rfl
theorem exec_vmul core w s : exec (.vmul core w) s = execVmul core w s := rfl
theorem exec_aclr core w s : exec (.aclr core w) s = execAclr core w s := rfl
theorem exec_aget core w s : exec (.aget core w) s = execAget core w s := rfl
theorem exec_aput core w s : exec (.aput core w) s = execAput core w s := rfl
theorem exec_aadd core w s : exec (.aadd core w) s = execAadd core w s := rfl
theorem exec_asub core w s : exec (.asub core w) s = execAsub core w s := rfl
theorem exec_aiota core w s : exec (.aiota core w) s = execAiota core w s := rfl
theorem exec_anarrowLo core w s : exec (.anarrowLo core w) s = execAnarrowLo core w s := rfl
theorem exec_anarrowHi core w s : exec (.anarrowHi core w) s = execAnarrowHi core w s := rfl
theorem exec_awiden core w s : exec (.awiden core w) s = execAwiden core w s := rfl
theorem exec_asum core w s : exec (.asum core w) s = execAsum core w s := rfl
theorem exec_vcx core w s : exec (.vcx core w) s = execVcx core w s := rfl
theorem exec_vsrtSort core w s : exec (.vsrtSort core w) s = execVsrtSort core w s := rfl
theorem exec_vsrtStep core w s : exec (.vsrtStep core w) s = execVsrtStep core w s := rfl
theorem exec_vsrtRev core w s : exec (.vsrtRev core w) s = execVsrtRev core w s := rfl
theorem exec_vpermPerm core w s : exec (.vpermPerm core w) s = execVpermPerm core w s := rfl
theorem exec_vpermBcast core w s : exec (.vpermBcast core w) s = execVpermBcast core w s := rfl
theorem exec_vpermUp core w s : exec (.vpermUp core w) s = execVpermUp core w s := rfl
theorem exec_vpermDown core w s : exec (.vpermDown core w) s = execVpermDown core w s := rfl
theorem exec_vpermSplat core w s : exec (.vpermSplat core w) s = execVpermSplat core w s := rfl
theorem exec_vredMaxs core w s : exec (.vredMaxs core w) s = execVredMaxs core w s := rfl
theorem exec_vredMins core w s : exec (.vredMins core w) s = execVredMins core w s := rfl
theorem exec_vredMaxu core w s : exec (.vredMaxu core w) s = execVredMaxu core w s := rfl
theorem exec_vredMinu core w s : exec (.vredMinu core w) s = execVredMinu core w s := rfl
theorem exec_vredSum core w s : exec (.vredSum core w) s = execVredSum core w s := rfl
theorem exec_vredArgmaxu core w s : exec (.vredArgmaxu core w) s = execVredArgmaxu core w s := rfl
theorem exec_vredCnt core w s : exec (.vredCnt core w) s = execVredCnt core w s := rfl
theorem exec_vredFirst core w s : exec (.vredFirst core w) s = execVredFirst core w s := rfl
theorem exec_vcvtKey core w s : exec (.vcvtKey core w) s = execVcvtKey core w s := rfl
theorem exec_vcvtUnkey core w s : exec (.vcvtUnkey core w) s = execVcvtUnkey core w s := rfl
theorem exec_vcvtE4Lo core w s : exec (.vcvtE4Lo core w) s = execVcvtE4Lo core w s := rfl
theorem exec_vcvtE4Hi core w s : exec (.vcvtE4Hi core w) s = execVcvtE4Hi core w s := rfl
theorem exec_vcvtE5Lo core w s : exec (.vcvtE5Lo core w) s = execVcvtE5Lo core w s := rfl
theorem exec_vcvtE5Hi core w s : exec (.vcvtE5Hi core w) s = execVcvtE5Hi core w s := rfl
theorem exec_vcvtSxLo core w s : exec (.vcvtSxLo core w) s = execVcvtSxLo core w s := rfl
theorem exec_vcvtSxHi core w s : exec (.vcvtSxHi core w) s = execVcvtSxHi core w s := rfl
theorem exec_vcvtBfE4 core w s : exec (.vcvtBfE4 core w) s = execVcvtBfE4 core w s := rfl
theorem exec_sfill core w s : exec (.sfill core w) s = execSfill core w s := rfl
theorem exec_scopy core w s : exec (.scopy core w) s = execScopy core w s := rfl
theorem exec_send core w s : exec (.send core w) s = execSend core w s := rfl
theorem exec_putV core w s : exec (.putV core w) s = execPutV core w s := rfl
theorem exec_putA core w s : exec (.putA core w) s = execPutA core w s := rfl
theorem exec_get core w s : exec (.get core w) s = execGet core w s := rfl
theorem exec_recv core w s : exec (.recv core w) s = execRecv core w s := rfl
theorem exec_recvN core w s : exec (.recvN core w) s = execRecvN core w s := rfl
theorem exec_recvT core w s : exec (.recvT core w) s = execRecvT core w s := rfl
theorem exec_gexaCSig core w s : exec (.gexaCSig core w) s = execGexaCSig core w s := rfl
theorem exec_gexaCWait core w s : exec (.gexaCWait core w) s = execGexaCWait core w s := rfl
theorem exec_vcChain p w0 w1 s : exec (.vcChain p w0 w1) s = execVcChain p w0 w1 s := rfl
theorem exec_chainStart p s : exec (.chainStart p) s = execChainStart p s := rfl
theorem exec_chainComplete e s : exec (.chainComplete e) s = execChainComplete e s := rfl
theorem exec_chainRerun e s : exec (.chainRerun e) s = execChainRerun e s := rfl
theorem exec_gexaSAdd p w s : exec (.gexaSAdd p w) s = execGexaSAdd p w s := rfl
theorem exec_gexaSSub p w s : exec (.gexaSSub p w) s = execGexaSSub p w s := rfl
theorem exec_gexaSAnd p w s : exec (.gexaSAnd p w) s = execGexaSAnd p w s := rfl
theorem exec_gexaSOr p w s : exec (.gexaSOr p w) s = execGexaSOr p w s := rfl
theorem exec_gexaSXor p w s : exec (.gexaSXor p w) s = execGexaSXor p w s := rfl
theorem exec_gexaSAndn p w s : exec (.gexaSAndn p w) s = execGexaSAndn p w s := rfl
theorem exec_gexaSShl p w s : exec (.gexaSShl p w) s = execGexaSShl p w s := rfl
theorem exec_gexaSShr p w s : exec (.gexaSShr p w) s = execGexaSShr p w s := rfl
theorem exec_gexaSSra p w s : exec (.gexaSSra p w) s = execGexaSSra p w s := rfl
theorem exec_gexaSMin p w s : exec (.gexaSMin p w) s = execGexaSMin p w s := rfl
theorem exec_gexaSMax p w s : exec (.gexaSMax p w) s = execGexaSMax p w s := rfl
theorem exec_gexaSMinu p w s : exec (.gexaSMinu p w) s = execGexaSMinu p w s := rfl
theorem exec_gexaSMaxu p w s : exec (.gexaSMaxu p w) s = execGexaSMaxu p w s := rfl
theorem exec_gexaSMul p w s : exec (.gexaSMul p w) s = execGexaSMul p w s := rfl
theorem exec_gexaSMulhu p w s : exec (.gexaSMulhu p w) s = execGexaSMulhu p w s := rfl
theorem exec_gexaSDivu p w s : exec (.gexaSDivu p w) s = execGexaSDivu p w s := rfl
theorem exec_gexaSRemu p w s : exec (.gexaSRemu p w) s = execGexaSRemu p w s := rfl
theorem exec_gexaSClz p w s : exec (.gexaSClz p w) s = execGexaSClz p w s := rfl
theorem exec_gexaSPopc p w s : exec (.gexaSPopc p w) s = execGexaSPopc p w s := rfl
theorem exec_gexaSAddi p w s : exec (.gexaSAddi p w) s = execGexaSAddi p w s := rfl
theorem exec_gexaSAndi p w s : exec (.gexaSAndi p w) s = execGexaSAndi p w s := rfl
theorem exec_gexaSOri p w s : exec (.gexaSOri p w) s = execGexaSOri p w s := rfl
theorem exec_gexaSXori p w s : exec (.gexaSXori p w) s = execGexaSXori p w s := rfl
theorem exec_gexaSShli p w s : exec (.gexaSShli p w) s = execGexaSShli p w s := rfl
theorem exec_gexaSShri p w s : exec (.gexaSShri p w) s = execGexaSShri p w s := rfl
theorem exec_gexaSSrai p w s : exec (.gexaSSrai p w) s = execGexaSSrai p w s := rfl
theorem exec_gexaSLi p w s : exec (.gexaSLi p w) s = execGexaSLi p w s := rfl
theorem exec_shlor p w s : exec (.shlor p w) s = execShlor p w s := rfl
theorem exec_cmp p w s : exec (.cmp p w) s = execCmp p w s := rfl
theorem exec_cmpi p w s : exec (.cmpi p w) s = execCmpi p w s := rfl
theorem exec_pand p w s : exec (.pand p w) s = execPand p w s := rfl
theorem exec_predOr p w s : exec (.predOr p w) s = execPredOr p w s := rfl
theorem exec_pxor p w s : exec (.pxor p w) s = execPxor p w s := rfl
theorem exec_pandn p w s : exec (.pandn p w) s = execPandn p w s := rfl
theorem exec_pnot p w s : exec (.pnot p w) s = execPnot p w s := rfl
theorem exec_pnz p w s : exec (.pnz p w) s = execPnz p w s := rfl
theorem exec_gexaSSel p w s : exec (.gexaSSel p w) s = execGexaSSel p w s := rfl
theorem exec_br p w s : exec (.br p w) s = execBr p w s := rfl
theorem exec_jal p w s : exec (.jal p w) s = execJal p w s := rfl
theorem exec_jalr p w s : exec (.jalr p w) s = execJalr p w s := rfl
theorem exec_gexaSSysr p w s : exec (.gexaSSysr p w) s = execGexaSSysr p w s := rfl
theorem exec_gexaSLdD p w s : exec (.gexaSLdD p w) s = execGexaSLdD p w s := rfl
theorem exec_gexaSLdW p w s : exec (.gexaSLdW p w) s = execGexaSLdW p w s := rfl
theorem exec_gexaSStD p w s : exec (.gexaSStD p w) s = execGexaSStD p w s := rfl
theorem exec_gexaSStW p w s : exec (.gexaSStW p w) s = execGexaSStW p w s := rfl
theorem exec_loadDataReturn p s : exec (.loadDataReturn p) s = execLoadDataReturn p s := rfl
theorem exec_fetchLineFill p s : exec (.fetchLineFill p) s = execFetchLineFill p s := rfl
theorem exec_dld p w s : exec (.dld p w) s = execDld p w s := rfl
theorem exec_dst p w s : exec (.dst p w) s = execDst p w s := rfl
theorem exec_dset p w s : exec (.dset p w) s = execDset p w s := rfl
theorem exec_dget p w s : exec (.dget p w) s = execDget p w s := rfl
theorem exec_dadv p w s : exec (.dadv p w) s = execDadv p w s := rfl
theorem exec_dmaCopy p w0 w1 s : exec (.dmaCopy p w0 w1) s = execDmaCopy p w0 w1 s := rfl
theorem exec_dmaFill p w0 w1 s : exec (.dmaFill p w0 w1) s = execDmaFill p w0 w1 s := rfl
theorem exec_dmaGather p w0 w1 s : exec (.dmaGather p w0 w1) s = execDmaGather p w0 w1 s := rfl
theorem exec_dmaScatter p w0 w1 s : exec (.dmaScatter p w0 w1) s = execDmaScatter p w0 w1 s := rfl
theorem exec_dmaStart p s : exec (.dmaStart p) s = execDmaStart p s := rfl
theorem exec_dmaComplete p n s : exec (.dmaComplete p n) s = execDmaComplete p n s := rfl
theorem exec_winOpen p w s : exec (.winOpen p w) s = execWinOpen p w s := rfl
theorem exec_winClose p w s : exec (.winClose p w) s = execWinClose p w s := rfl
theorem exec_winCloseComplete p w s : exec (.winCloseComplete p w) s = execWinCloseComplete p w s := rfl
theorem exec_winCtr p w s : exec (.winCtr p w) s = execWinCtr p w s := rfl
theorem exec_winGen p w s : exec (.winGen p w) s = execWinGen p w s := rfl
theorem exec_gexaSSig p w s : exec (.gexaSSig p w) s = execGexaSSig p w s := rfl
theorem exec_gexaSWait p w s : exec (.gexaSWait p w) s = execGexaSWait p w s := rfl
theorem exec_cntRd p w s : exec (.cntRd p w) s = execCntRd p w s := rfl
theorem exec_qwait p w s : exec (.qwait p w) s = execQwait p w s := rfl
theorem exec_qwaitSatisfied p q s : exec (.qwaitSatisfied p q) s = execQwaitSatisfied p q s := rfl
theorem exec_now p w s : exec (.now p w) s = execNow p w s := rfl
theorem exec_waitUntil p w s : exec (.waitUntil p w) s = execWaitUntil p w s := rfl
theorem exec_waitUntilOff p w0 w1 s : exec (.waitUntilOff p w0 w1) s = execWaitUntilOff p w0 w1 s := rfl
theorem exec_waitUntilRelease p t s : exec (.waitUntilRelease p t) s = execWaitUntilRelease p t s := rfl
theorem exec_launchAt p w s : exec (.launchAt p w) s = execLaunchAt p w s := rfl
theorem exec_launchAtOff p w0 w1 s : exec (.launchAtOff p w0 w1) s = execLaunchAtOff p w0 w1 s := rfl
theorem exec_launchTimeReached p q t s : exec (.launchTimeReached p q t) s = execLaunchTimeReached p q t s := rfl
theorem exec_chkMode p w s : exec (.chkMode p w) s = execChkMode p w s := rfl
theorem exec_chkCommit p w s : exec (.chkCommit p w) s = execChkCommit p w s := rfl
theorem exec_chkCommitStep p w s : exec (.chkCommitStep p w) s = execChkCommitStep p w s := rfl
theorem exec_chkCommitRelease p s : exec (.chkCommitRelease p) s = execChkCommitRelease p s := rfl
theorem exec_chkRelease p w s : exec (.chkRelease p w) s = execChkRelease p w s := rfl
theorem exec_gexaSNop p w s : exec (.gexaSNop p w) s = execGexaSNop p w s := rfl
theorem exec_yieldArray p w s : exec (.yieldArray p w) s = execYieldArray p w s := rfl
theorem exec_endProgram p w s : exec (.endProgram p w) s = execEndProgram p w s := rfl
theorem exec_programEndReport p s : exec (.programEndReport p) s = execProgramEndReport p s := rfl
theorem exec_softFault p w s : exec (.softFault p w) s = execSoftFault p w s := rfl
theorem exec_fenceSt p w s : exec (.fenceSt p w) s = execFenceSt p w s := rfl
theorem exec_fenceArr p w s : exec (.fenceArr p w) s = execFenceArr p w s := rfl
theorem exec_fenceVec p w s : exec (.fenceVec p w) s = execFenceVec p w s := rfl
theorem exec_fenceDma p w s : exec (.fenceDma p w) s = execFenceDma p w s := rfl
theorem exec_fenceAll p w s : exec (.fenceAll p w) s = execFenceAll p w s := rfl
theorem exec_fenceI p w s : exec (.fenceI p w) s = execFenceI p w s := rfl
theorem exec_cinv p w s : exec (.cinv p w) s = execCinv p w s := rfl
theorem exec_fenceRelease p s : exec (.fenceRelease p) s = execFenceRelease p s := rfl
theorem exec_hbmLaneRepair site pc s : exec (.hbmLaneRepair site pc) s = execHbmLaneRepair site pc s := rfl
theorem exec_trunkPacketReceive p pair lane good pa n s : exec (.trunkPacketReceive p pair lane good pa n) s = execTrunkPacketReceive p pair lane good pa n s := rfl
theorem exec_scrubPass m upsets s : exec (.scrubPass m upsets) s = execScrubPass m upsets s := rfl
theorem exec_mmuInv req v s : exec (.mmuInv req v) s = execMmuInv req v s := rfl
theorem exec_mmuInvComplete s : exec (.mmuInvComplete) s = execMmuInvComplete s := rfl
theorem exec_pageWalkComplete c va s : exec (.pageWalkComplete c va) s = execPageWalkComplete c va s := rfl
theorem exec_mmuFaultResumeRetry req c s : exec (.mmuFaultResumeRetry req c) s = execMmuFaultResumeRetry req c s := rfl
theorem exec_mmuFaultResumeAbort req c s : exec (.mmuFaultResumeAbort req c) s = execMmuFaultResumeAbort req c s := rfl
theorem exec_atsInvalidation h fn page pages s : exec (.atsInvalidation h fn page pages) s = execAtsInvalidation h fn page pages s := rfl
theorem exec_atsTranslationCompletion h fn page ok s : exec (.atsTranslationCompletion h fn page ok) s = execAtsTranslationCompletion h fn page ok s := rfl
theorem exec_windowAccessArrival n s : exec (.windowAccessArrival n) s = execWindowAccessArrival n s := rfl
theorem exec_signalArrival n also bad s : exec (.signalArrival n also bad) s = execSignalArrival n also bad s := rfl
theorem exec_signalDivert n s : exec (.signalDivert n) s = execSignalDivert n s := rfl
theorem exec_flintInject req v s : exec (.flintInject req v) s = execFlintInject req v s := rfl
theorem exec_flintGating s : exec (.flintGating) s = execFlintGating s := rfl
theorem exec_flintHaltRelease s : exec (.flintHaltRelease) s = execFlintHaltRelease s := rfl
theorem exec_quartzBeat offs s : exec (.quartzBeat offs) s = execQuartzBeat offs s := rfl
theorem exec_treeDelayCalibration s : exec (.treeDelayCalibration) s = execTreeDelayCalibration s := rfl
theorem exec_quartzStep req v s : exec (.quartzStep req v) s = execQuartzStep req v s := rfl
theorem exec_refSelectRequest req v s : exec (.refSelectRequest req v) s = execRefSelectRequest req v s := rfl
theorem exec_refSample t a b s : exec (.refSample t a b) s = execRefSample t a b s := rfl
theorem exec_refClockAbsent ref s : exec (.refClockAbsent ref) s = execRefClockAbsent ref s := rfl
theorem exec_timeFrameSend t s : exec (.timeFrameSend t) s = execTimeFrameSend t s := rfl
theorem exec_timeFrameReceive port frame rx s : exec (.timeFrameReceive port frame rx) s = execTimeFrameReceive port frame rx s := rfl
theorem exec_delayExchangeStart t s : exec (.delayExchangeStart t) s = execDelayExchangeStart t s := rfl
theorem exec_delayRequestReceive port frame t2 t3 s : exec (.delayRequestReceive port frame t2 t3) s = execDelayRequestReceive port frame t2 t3 s := rfl
theorem exec_delayResponseReceive port frame t4 s : exec (.delayResponseReceive port frame t4) s = execDelayResponseReceive port frame t4 s := rfl
theorem exec_fabricTimeLost t s : exec (.fabricTimeLost t) s = execFabricTimeLost t s := rfl
theorem exec_freqCodeStep p s : exec (.freqCodeStep p) s = execFreqCodeStep p s := rfl
theorem exec_stripDroop p strip s : exec (.stripDroop p strip) s = execStripDroop p strip s := rfl
theorem exec_fllUnfreeze p s : exec (.fllUnfreeze p) s = execFllUnfreeze p s := rfl
theorem exec_cpmAdjust d up s : exec (.cpmAdjust d up) s = execCpmAdjust d up s := rfl
theorem exec_clockMeshFault p s : exec (.clockMeshFault p) s = execClockMeshFault p s := rfl
theorem exec_partnerWaitExpiry p slot s : exec (.partnerWaitExpiry p slot) s = execPartnerWaitExpiry p slot s := rfl
theorem exec_replayStart p slot s : exec (.replayStart p slot) s = execReplayStart p slot s := rfl
theorem exec_replayComplete p slot upset f s : exec (.replayComplete p slot upset f) s = execReplayComplete p slot upset f s := rfl
theorem exec_strikeWindowExpiry p s : exec (.strikeWindowExpiry p) s = execStrikeWindowExpiry p s := rfl
theorem exec_spareRetentionReturn p s : exec (.spareRetentionReturn p) s = execSpareRetentionReturn p s := rfl
theorem exec_stepDigestForm c s : exec (.stepDigestForm c) s = execStepDigestForm c s := rfl
theorem exec_digestRecordArrival c peer slot s : exec (.digestRecordArrival c peer slot) s = execDigestRecordArrival c peer slot s := rfl
theorem exec_peerDigestTimeout c peer t s : exec (.peerDigestTimeout c peer t) s = execPeerDigestTimeout c peer t s := rfl
theorem exec_contextRewind c s : exec (.contextRewind c) s = execContextRewind c s := rfl
theorem exec_regionDigestGo req v s : exec (.regionDigestGo req v) s = execRegionDigestGo req v s := rfl
theorem exec_regionDigestComplete s : exec (.regionDigestComplete) s = execRegionDigestComplete s := rfl
theorem exec_regionDigestInterval s : exec (.regionDigestInterval) s = execRegionDigestInterval s := rfl
theorem exec_pyriteQueue req v s : exec (.pyriteQueue req v) s = execPyriteQueue req v s := rfl
theorem exec_pyriteRunStart sigOk s : exec (.pyriteRunStart sigOk) s = execPyriteRunStart sigOk s := rfl
theorem exec_pyriteRunEnd result fails row col repairs s : exec (.pyriteRunEnd result fails row col repairs) s = execPyriteRunEnd result fails row col repairs s := rfl
theorem exec_knownAnswerStart req v sigOk s : exec (.knownAnswerStart req v sigOk) s = execKnownAnswerStart req v sigOk s := rfl
theorem exec_knownAnswerComplete mismatch s : exec (.knownAnswerComplete mismatch) s = execKnownAnswerComplete mismatch s := rfl
theorem exec_contextEnable req c v s : exec (.contextEnable req c v) s = execContextEnable req c v s := rfl
theorem exec_contextDisable req c v s : exec (.contextDisable req c v) s = execContextDisable req c v s := rfl
theorem exec_contextReset req c v s : exec (.contextReset req c v) s = execContextReset req c v s := rfl
theorem exec_cpResetRequest req c v s : exec (.cpResetRequest req c v) s = execCpResetRequest req c v s := rfl
theorem exec_resetTransferWaitEnd c expired s : exec (.resetTransferWaitEnd c expired) s = execResetTransferWaitEnd c expired s := rfl
theorem exec_doorbell req c v s : exec (.doorbell req c v) s = execDoorbell req c v s := rfl
theorem exec_commandFetch c s : exec (.commandFetch c) s = execCommandFetch c s := rfl
theorem exec_cmdNop c index s : exec (.cmdNop c index) s = execCmdNop c index s := rfl
theorem exec_cmdRun c index rank s : exec (.cmdRun c index rank) s = execCmdRun c index rank s := rfl
theorem exec_cmdTime c index s : exec (.cmdTime c index) s = execCmdTime c index s := rfl
theorem exec_cmdTimeExpiry c index t s : exec (.cmdTimeExpiry c index t) s = execCmdTimeExpiry c index t s := rfl
theorem exec_cmdWrite c index s : exec (.cmdWrite c index) s = execCmdWrite c index s := rfl
theorem exec_partitionCreate req q v s : exec (.partitionCreate req q v) s = execPartitionCreate req q v s := rfl
theorem exec_partitionDestroy req q v s : exec (.partitionDestroy req q v) s = execPartitionDestroy req q v s := rfl
theorem exec_quantumExpiry q s : exec (.quantumExpiry q) s = execQuantumExpiry q s := rfl
theorem exec_switchSaveComplete p s : exec (.switchSaveComplete p) s = execSwitchSaveComplete p s := rfl
theorem exec_switchRestoreComplete p s : exec (.switchRestoreComplete p) s = execSwitchRestoreComplete p s := rfl
theorem exec_evtRdWrite req ring v s : exec (.evtRdWrite req ring v) s = execEvtRdWrite req ring v s := rfl
theorem exec_watermarkHoldoffExpiry ring cmd s : exec (.watermarkHoldoffExpiry ring cmd) s = execWatermarkHoldoffExpiry ring cmd s := rfl
theorem exec_hostPerstAssert h s : exec (.hostPerstAssert h) s = execHostPerstAssert h s := rfl
theorem exec_hostPerstDeassert h t s : exec (.hostPerstDeassert h t) s = execHostPerstDeassert h t s := rfl
theorem exec_hostHotReset h s : exec (.hostHotReset h) s = execHostHotReset h s := rfl
theorem exec_hostLinkUp h speed width s : exec (.hostLinkUp h speed width) s = execHostLinkUp h speed width s := rfl
theorem exec_vfFlr h fn s : exec (.vfFlr h fn) s = execVfFlr h fn s := rfl
theorem exec_pfFlr h s : exec (.pfFlr h) s = execPfFlr h s := rfl
theorem exec_hostConfigRequest h fn write item v t s : exec (.hostConfigRequest h fn write item v t) s = execHostConfigRequest h fn write item v t s := rfl
theorem exec_hostInboundRead h fn bar off n fbe lbe s : exec (.hostInboundRead h fn bar off n fbe lbe) s = execHostInboundRead h fn bar off n fbe lbe s := rfl
theorem exec_hostInboundWrite h fn bar off data fbe lbe ep s : exec (.hostInboundWrite h fn bar off data fbe lbe ep) s = execHostInboundWrite h fn bar off data fbe lbe ep s := rfl
theorem exec_hostReadCompletion h fn off len data status ep s : exec (.hostReadCompletion h fn off len data status ep) s = execHostReadCompletion h fn off len data status ep s := rfl
theorem exec_hostCompletionTimeout h fn off len s : exec (.hostCompletionTimeout h fn off len) s = execHostCompletionTimeout h fn off len s := rfl
theorem exec_flitReceive port flit corrected uncorrectable s : exec (.flitReceive port flit corrected uncorrectable) s = execFlitReceive port flit corrected uncorrectable s := rfl
theorem exec_flitReplayTimeout port t s : exec (.flitReplayTimeout port t) s = execFlitReplayTimeout port t s := rfl
theorem exec_fabricLinkTrained port lanes lowRate peer peerPort s : exec (.fabricLinkTrained port lanes lowRate peer peerPort) s = execFabricLinkTrained port lanes lowRate peer peerPort s := rfl
theorem exec_fabricWindowWrite port pkt s : exec (.fabricWindowWrite port pkt) s = execFabricWindowWrite port pkt s := rfl
theorem exec_fabricWindowRead port pkt s : exec (.fabricWindowRead port pkt) s = execFabricWindowRead port pkt s := rfl
theorem exec_fabricWriteAck port pkt s : exec (.fabricWriteAck port pkt) s = execFabricWriteAck port pkt s := rfl
theorem exec_fabricReadData port pkt s : exec (.fabricReadData port pkt) s = execFabricReadData port pkt s := rfl
theorem exec_fabricRefusal port pkt s : exec (.fabricRefusal port pkt) s = execFabricRefusal port pkt s := rfl
theorem exec_transactionTimeout slot t s : exec (.transactionTimeout slot t) s = execTransactionTimeout slot t s := rfl
theorem exec_pairStateExpiry n t s : exec (.pairStateExpiry n t) s = execPairStateExpiry n t s := rfl
theorem exec_discoveryQuery port frame s : exec (.discoveryQuery port frame) s = execDiscoveryQuery port frame s := rfl
theorem exec_discoveryAssign port frame s : exec (.discoveryAssign port frame) s = execDiscoveryAssign port frame s := rfl
theorem exec_discoveryRouteWrite port frame s : exec (.discoveryRouteWrite port frame) s = execDiscoveryRouteWrite port frame s := rfl
theorem exec_discoveryResponse port frame s : exec (.discoveryResponse port frame) s = execDiscoveryResponse port frame s := rfl
theorem exec_fabNodeWrite req v s : exec (.fabNodeWrite req v) s = execFabNodeWrite req v s := rfl
theorem exec_scheduleSlotStart port e cycle t s : exec (.scheduleSlotStart port e cycle t) s = execScheduleSlotStart port e cycle t s := rfl
theorem exec_scheduleSlotEnd port t s : exec (.scheduleSlotEnd port t) s = execScheduleSlotEnd port t s := rfl
theorem exec_fabricDegrade port good s : exec (.fabricDegrade port good) s = execFabricDegrade port good s := rfl
theorem exec_lowrateIdleEntry port t s : exec (.lowrateIdleEntry port t) s = execLowrateIdleEntry port t s := rfl
theorem exec_lowrateReq req port v s : exec (.lowrateReq req port v) s = execLowrateReq req port v s := rfl
theorem exec_railStepComplete port s : exec (.railStepComplete port) s = execRailStepComplete port s := rfl
theorem exec_wakeReq req port v s : exec (.wakeReq req port v) s = execWakeReq req port v s := rfl
theorem exec_wakeSlotLead port e cycle t s : exec (.wakeSlotLead port e cycle t) s = execWakeSlotLead port e cycle t s := rfl
theorem exec_portWakeComplete port lanes s : exec (.portWakeComplete port lanes) s = execPortWakeComplete port lanes s := rfl
theorem exec_fabricLos port s : exec (.fabricLos port) s = execFabricLos port s := rfl
theorem exec_jobAbortFrame port frame s : exec (.jobAbortFrame port frame) s = execJobAbortFrame port frame s := rfl
theorem exec_abortRecordExpiry n t s : exec (.abortRecordExpiry n t) s = execAbortRecordExpiry n t s := rfl
theorem exec_inputUndervoltageWarn mv cur s : exec (.inputUndervoltageWarn mv cur) s = execInputUndervoltageWarn mv cur s := rfl
theorem exec_powerFail mv cur s : exec (.powerFail mv cur) s = execPowerFail mv cur s := rfl
theorem exec_inputOvervoltageWarn mv cur s : exec (.inputOvervoltageWarn mv cur) s = execInputOvervoltageWarn mv cur s := rfl
theorem exec_overvoltageShutdown mv cur s : exec (.overvoltageShutdown mv cur) s = execOvervoltageShutdown mv cur s := rfl
theorem exec_inputRecovery slotId recov s : exec (.inputRecovery slotId recov) s = execInputRecovery slotId recov s := rfl
theorem exec_moduleIsolate m s : exec (.moduleIsolate m) s = execModuleIsolate m s := rfl
theorem exec_domainSoftStart d s : exec (.domainSoftStart d) s = execDomainSoftStart d s := rfl
theorem exec_softStartCheck d mv ma inLimit t s : exec (.softStartCheck d mv ma inLimit t) s = execSoftStartCheck d mv ma inLimit t s := rfl
theorem exec_domainRetry d t s : exec (.domainRetry d t) s = execDomainRetry d t s := rfl
theorem exec_domainOvercurrent d mv ma t s : exec (.domainOvercurrent d mv ma t) s = execDomainOvercurrent d mv ma t s := rfl
theorem exec_retentionEntry p s : exec (.retentionEntry p) s = execRetentionEntry p s := rfl
theorem exec_retentionWake p s : exec (.retentionWake p) s = execRetentionWake p s := rfl
theorem exec_currentLimitSample mv cur s : exec (.currentLimitSample mv cur) s = execCurrentLimitSample mv cur s := rfl
theorem exec_hardBrake mv cur s : exec (.hardBrake mv cur) s = execHardBrake mv cur s := rfl
theorem exec_hardBrakeRelease mv cur t s : exec (.hardBrakeRelease mv cur t) s = execHardBrakeRelease mv cur t s := rfl
theorem exec_prepositionStart p s : exec (.prepositionStart p) s = execPrepositionStart p s := rfl
theorem exec_capLoop obs droops stretched s : exec (.capLoop obs droops stretched) s = execCapLoop obs droops stretched s := rfl
theorem exec_capGrantWrite req v s : exec (.capGrantWrite req v) s = execCapGrantWrite req v s := rfl
theorem exec_throtReqAssert s : exec (.throtReqAssert) s = execThrotReqAssert s := rfl
theorem exec_throtReqDeassert s : exec (.throtReqDeassert) s = execThrotReqDeassert s := rfl
theorem exec_rackReq req v s : exec (.rackReq req v) s = execRackReq req v s := rfl
theorem exec_thermalSample readings s : exec (.thermalSample readings) s = execThermalSample readings s := rfl
theorem exec_dailyOffsetUpdate s : exec (.dailyOffsetUpdate) s = execDailyOffsetUpdate s := rfl
theorem exec_vminClear req d v s : exec (.vminClear req d v) s = execVminClear req d v s := rfl
theorem exec_energyAttribution e arrays traffic dev s : exec (.energyAttribution e arrays traffic dev) s = execEnergyAttribution e arrays traffic dev s := rfl
theorem exec_poolIntervalBoundary stalled resident s : exec (.poolIntervalBoundary stalled resident) s = execPoolIntervalBoundary stalled resident s := rfl
theorem exec_poolLoanDecision s : exec (.poolLoanDecision) s = execPoolLoanDecision s := rfl
theorem exec_poolSlackFrame frame s : exec (.poolSlackFrame frame) s = execPoolSlackFrame frame s := rfl
theorem exec_poolLoanFrame frame s : exec (.poolLoanFrame frame) s = execPoolLoanFrame frame s := rfl
theorem exec_poolAcceptFrame frame s : exec (.poolAcceptFrame frame) s = execPoolAcceptFrame frame s := rfl
theorem exec_poolRefuseFrame frame s : exec (.poolRefuseFrame frame) s = execPoolRefuseFrame frame s := rfl
theorem exec_poolRecallFrame frame s : exec (.poolRecallFrame frame) s = execPoolRecallFrame frame s := rfl
theorem exec_poolReleaseFrame frame s : exec (.poolReleaseFrame frame) s = execPoolReleaseFrame frame s := rfl
theorem exec_poolLeaseEnd t s : exec (.poolLeaseEnd t) s = execPoolLeaseEnd t s := rfl
theorem exec_poolLenderTimeout t s : exec (.poolLenderTimeout t) s = execPoolLenderTimeout t s := rfl
theorem exec_powerOn s : exec (.powerOn) s = execPowerOn s := rfl
theorem exec_coldRstLAssert s : exec (.coldRstLAssert) s = execColdRstLAssert s := rfl
theorem exec_coldRstLDeassert slotId recov s : exec (.coldRstLDeassert slotId recov) s = execColdRstLDeassert slotId recov s := rfl
theorem exec_bringupStageEnd t e s : exec (.bringupStageEnd t e) s = execBringupStageEnd t e s := rfl
theorem exec_deviceReset req v s : exec (.deviceReset req v) s = execDeviceReset req v s := rfl
theorem exec_fieldReset req v mesh test s : exec (.fieldReset req v mesh test) s = execFieldReset req v mesh test s := rfl
theorem exec_arrayReset req v mesh test s : exec (.arrayReset req v mesh test) s = execArrayReset req v mesh test s := rfl
theorem exec_seamLaneMonitor seg bundle group lane errs link s : exec (.seamLaneMonitor seg bundle group lane errs link) s = execSeamLaneMonitor seg bundle group lane errs link s := rfl
theorem exec_mgmtBusRetire bus field s : exec (.mgmtBusRetire bus field) s = execMgmtBusRetire bus field s := rfl
theorem exec_dispatcherHeartbeat t s : exec (.dispatcherHeartbeat t) s = execDispatcherHeartbeat t s := rfl
theorem exec_dispatcherFailover reported t s : exec (.dispatcherFailover reported t) s = execDispatcherFailover reported t s := rfl
theorem exec_repairSetShiftMap req v s : exec (.repairSetShiftMap req v) s = execRepairSetShiftMap req v s := rfl
theorem exec_repairSetRowMap req v s : exec (.repairSetRowMap req v) s = execRepairSetRowMap req v s := rfl
theorem exec_repairRetireArray req v s : exec (.repairRetireArray req v) s = execRepairRetireArray req v s := rfl
theorem exec_repairRevoke req v s : exec (.repairRevoke req v) s = execRepairRevoke req v s := rfl
theorem exec_repairTestModule req v s : exec (.repairTestModule req v) s = execRepairTestModule req v s := rfl
theorem exec_moduleTestComplete pass s : exec (.moduleTestComplete pass) s = execModuleTestComplete pass s := rfl
theorem exec_hangSample cycles s : exec (.hangSample cycles) s = execHangSample cycles s := rfl
theorem exec_watchdogExpiry c s : exec (.watchdogExpiry c) s = execWatchdogExpiry c s := rfl
theorem exec_entdaa t addr s : exec (.entdaa t addr) s = execEntdaa t addr s := rfl
theorem exec_rstdaa t s : exec (.rstdaa t) s = execRstdaa t s := rfl
theorem exec_enec t ibi hotJoin s : exec (.enec t ibi hotJoin) s = execEnec t ibi hotJoin s := rfl
theorem exec_disec t ibi hotJoin s : exec (.disec t ibi hotJoin) s = execDisec t ibi hotJoin s := rfl
theorem exec_getpid t s : exec (.getpid t) s = execGetpid t s := rfl
theorem exec_getbcr t s : exec (.getbcr t) s = execGetbcr t s := rfl
theorem exec_getdcr t s : exec (.getdcr t) s = execGetdcr t s := rfl
theorem exec_getstatus t s : exec (.getstatus t) s = execGetstatus t s := rfl
theorem exec_getmrl t s : exec (.getmrl t) s = execGetmrl t s := rfl
theorem exec_setmrl t n s : exec (.setmrl t n) s = execSetmrl t n s := rfl
theorem exec_getmwl t s : exec (.getmwl t) s = execGetmwl t s := rfl
theorem exec_setmwl t n s : exec (.setmwl t n) s = execSetmwl t n s := rfl
theorem exec_getmxds t s : exec (.getmxds t) s = execGetmxds t s := rfl
theorem exec_rstact t action s : exec (.rstact t action) s = execRstact t action s := rfl
theorem exec_i3cHotJoin t s : exec (.i3cHotJoin t) s = execI3cHotJoin t s := rfl
theorem exec_setEndpointId req eid s : exec (.setEndpointId req eid) s = execSetEndpointId req eid s := rfl
theorem exec_getEndpointId req s : exec (.getEndpointId req) s = execGetEndpointId req s := rfl
theorem exec_getMctpVersionSupport s : exec (.getMctpVersionSupport) s = execGetMctpVersionSupport s := rfl
theorem exec_getMessageTypeSupport s : exec (.getMessageTypeSupport) s = execGetMessageTypeSupport s := rfl
theorem exec_getEndpointUuid s : exec (.getEndpointUuid) s = execGetEndpointUuid s := rfl
theorem exec_getTid req s : exec (.getTid req) s = execGetTid req s := rfl
theorem exec_setTid req tid s : exec (.setTid req tid) s = execSetTid req tid s := rfl
theorem exec_getPldmTypes req s : exec (.getPldmTypes req) s = execGetPldmTypes req s := rfl
theorem exec_getPldmCommands req ty s : exec (.getPldmCommands req ty) s = execGetPldmCommands req ty s := rfl
theorem exec_getPldmVersion req ty s : exec (.getPldmVersion req ty) s = execGetPldmVersion req ty s := rfl
theorem exec_getPdrRepositoryInfo req s : exec (.getPdrRepositoryInfo req) s = execGetPdrRepositoryInfo req s := rfl
theorem exec_getPdr req n s : exec (.getPdr req n) s = execGetPdr req n s := rfl
theorem exec_getSensorReading req id s : exec (.getSensorReading req id) s = execGetSensorReading req id s := rfl
theorem exec_getStateSensorReadings req id s : exec (.getStateSensorReadings req id) s = execGetStateSensorReadings req id s := rfl
theorem exec_setNumericEffecterValue req id v s : exec (.setNumericEffecterValue req id v) s = execSetNumericEffecterValue req id v s := rfl
theorem exec_getNumericEffecterValue req id s : exec (.getNumericEffecterValue req id) s = execGetNumericEffecterValue req id s := rfl
theorem exec_setEventReceiver req s : exec (.setEventReceiver req) s = execSetEventReceiver req s := rfl
theorem exec_eventMessageBufferSize req n s : exec (.eventMessageBufferSize req n) s = execEventMessageBufferSize req n s := rfl
theorem exec_queryDeviceIdentifiers req s : exec (.queryDeviceIdentifiers req) s = execQueryDeviceIdentifiers req s := rfl
theorem exec_getFirmwareParameters req s : exec (.getFirmwareParameters req) s = execGetFirmwareParameters req s := rfl
theorem exec_requestUpdate req s : exec (.requestUpdate req) s = execRequestUpdate req s := rfl
theorem exec_passComponentTable req s : exec (.passComponentTable req) s = execPassComponentTable req s := rfl
theorem exec_updateComponent req id s : exec (.updateComponent req id) s = execUpdateComponent req id s := rfl
theorem exec_firmwareDataResponse req off data s : exec (.firmwareDataResponse req off data) s = execFirmwareDataResponse req off data s := rfl
theorem exec_transferComplete req last s : exec (.transferComplete req last) s = execTransferComplete req last s := rfl
theorem exec_fwVerifyComplete sig hash s : exec (.fwVerifyComplete sig hash) s = execFwVerifyComplete sig hash s := rfl
theorem exec_verifyComplete req s : exec (.verifyComplete req) s = execVerifyComplete req s := rfl
theorem exec_activateFirmware req s : exec (.activateFirmware req) s = execActivateFirmware req s := rfl
theorem exec_getStatus req s : exec (.getStatus req) s = execGetStatus req s := rfl
theorem exec_cancelUpdateComponent req s : exec (.cancelUpdateComponent req) s = execCancelUpdateComponent req s := rfl
theorem exec_cancelUpdate req s : exec (.cancelUpdate req) s = execCancelUpdate req s := rfl
theorem exec_claimOwnership req prio id s : exec (.claimOwnership req prio id) s = execClaimOwnership req prio id s := rfl
theorem exec_releaseOwnership req id s : exec (.releaseOwnership req id) s = execReleaseOwnership req id s := rfl
theorem exec_handOver req kind path node id s : exec (.handOver req kind path node id) s = execHandOver req kind path node id s := rfl
theorem exec_getOwner req s : exec (.getOwner req) s = execGetOwner req s := rfl
theorem exec_readRegister req off s : exec (.readRegister req off) s = execReadRegister req off s := rfl
theorem exec_writeRegister req off v s : exec (.writeRegister req off v) s = execWriteRegister req off v s := rfl
theorem exec_readLifetime req space first count s : exec (.readLifetime req space first count) s = execReadLifetime req space first count s := rfl
theorem exec_confirmFirmware req s : exec (.confirmFirmware req) s = execConfirmFirmware req s := rfl
theorem exec_coldReset req s : exec (.coldReset req) s = execColdReset req s := rfl
theorem exec_getVersion req s : exec (.getVersion req) s = execGetVersion req s := rfl
theorem exec_getCapabilities req s : exec (.getCapabilities req) s = execGetCapabilities req s := rfl
theorem exec_negotiateAlgorithms req ecdsaP384 sha384 s : exec (.negotiateAlgorithms req ecdsaP384 sha384) s = execNegotiateAlgorithms req ecdsaP384 sha384 s := rfl
theorem exec_getDigests req s : exec (.getDigests req) s = execGetDigests req s := rfl
theorem exec_getCertificate req slot off len s : exec (.getCertificate req slot off len) s = execGetCertificate req slot off len s := rfl
theorem exec_challenge req nonce s : exec (.challenge req nonce) s = execChallenge req nonce s := rfl
theorem exec_getMeasurements req idx nonce s : exec (.getMeasurements req idx nonce) s = execGetMeasurements req idx nonce s := rfl
theorem exec_claimCtlClaim req v s : exec (.claimCtlClaim req v) s = execClaimCtlClaim req v s := rfl
theorem exec_claimCtlRelease req v s : exec (.claimCtlRelease req v) s = execClaimCtlRelease req v s := rfl
theorem exec_claimCtlHandOver req v s : exec (.claimCtlHandOver req v) s = execClaimCtlHandOver req v s := rfl
theorem exec_leaseLapse t s : exec (.leaseLapse t) s = execLeaseLapse t s := rfl
theorem exec_handoverExpiry t s : exec (.handoverExpiry t) s = execHandoverExpiry t s := rfl
theorem exec_fwCtlConfirm req v s : exec (.fwCtlConfirm req v) s = execFwCtlConfirm req v s := rfl
theorem exec_fwCtlActivate req v s : exec (.fwCtlActivate req v) s = execFwCtlActivate req v s := rfl
theorem exec_fwCtlCancel req v s : exec (.fwCtlCancel req v) s = execFwCtlCancel req v s := rfl
theorem exec_fwCtlColdReq req v s : exec (.fwCtlColdReq req v) s = execFwCtlColdReq req v s := rfl
theorem exec_trialWindowExpiry s : exec (.trialWindowExpiry) s = execTrialWindowExpiry s := rfl
theorem exec_lifetimeFlush s : exec (.lifetimeFlush) s = execLifetimeFlush s := rfl
theorem exec_tileBoundary p upset s : exec (.tileBoundary p upset) s = execTileBoundary p upset s := rfl
theorem exec_sendAcknowledgement n s : exec (.sendAcknowledgement n) s = execSendAcknowledgement n s := rfl
theorem exec_domainRampComplete d s : exec (.domainRampComplete d) s = execDomainRampComplete d s := rfl
theorem exec_fabricSignalDetect port s : exec (.fabricSignalDetect port) s = execFabricSignalDetect port s := rfl
theorem exec_droopRecovery p s : exec (.droopRecovery p) s = execDroopRecovery p s := rfl
theorem exec_domainVminExcursion d v t s : exec (.domainVminExcursion d v t) s = execDomainVminExcursion d v t s := rfl
theorem exec_hbmLaneRepairComplete site pc s : exec (.hbmLaneRepairComplete site pc) s = execHbmLaneRepairComplete site pc s := rfl
theorem exec_coldResetDelayExpiry t s : exec (.coldResetDelayExpiry t) s = execColdResetDelayExpiry t s := rfl
theorem exec_correctableLinkError h s : exec (.correctableLinkError h) s = execCorrectableLinkError h s := rfl

end Sys2Proof.Machine
end

