-- ==== Sys2Proof/Laws/Memory.lean ====
section
/-!
SUPPORT. Tables and memory keep their canonical form: what each operation that stores to a table does to it.
-/
namespace Sys2Proof.Machine

/-- The addresses of a memory rise strictly, above a bound, and no cell holds what an unlisted address reads as. -/
def Memory.above : Nat → List Host.Cell → Prop
  | _, [] => True
  | b, c :: m => b ≤ c.1 ∧ c.2 ≠ 0#8 ∧ Memory.above (c.1 + 1) m

theorem Memory.above_mono {a b : Nat} {m : List Host.Cell} (h : a ≤ b) (hb : Memory.above b m) : Memory.above a m := by
  cases m with
  | nil => trivial
  | cons c m => exact ⟨Nat.le_trans h hb.1, hb.2⟩

theorem Memory.wf_iff_above (m : List Host.Cell) : Memory.wf m = true ↔ Memory.above 0 m := by
  have tail : ∀ (m : List Host.Cell) (c : Host.Cell), Memory.wf (c :: m) = true ↔ c.2 ≠ 0#8 ∧ Memory.above (c.1 + 1) m := by
    intro m
    induction m with
    | nil => intro c; simp [Memory.wf, Memory.above]
    | cons d m ih =>
      intro c
      rw [Memory.wf, Bool.and_eq_true, Bool.and_eq_true, ih d]
      exact ⟨fun h => ⟨bne_iff_ne.mp h.1.1, of_decide_eq_true h.1.2, h.2.1, h.2.2⟩,
        fun h => ⟨⟨bne_iff_ne.mpr h.1, decide_eq_true h.2.1⟩, h.2.2.1, h.2.2.2⟩⟩
  cases m with
  | nil => simp [Memory.wf, Memory.above]
  | cons c m => simp [tail, Memory.above]

theorem Memory.above_put {b i : Nat} {x : Byte} {m : List Host.Cell} (hb : b ≤ i) (hx : x ≠ 0#8) (h : Memory.above b m) :
    Memory.above b (tblPut m i x) := by
  induction m generalizing b with
  | nil => exact ⟨hb, hx, trivial⟩
  | cons c m ih =>
    obtain ⟨k, v⟩ := c
    obtain ⟨h1, h2, h3⟩ := h
    simp only [tblPut]
    split
    · exact ⟨hb, hx, by simp; omega, h2, h3⟩
    · split
      · subst_vars; exact ⟨h1, hx, h3⟩
      · exact ⟨h1, h2, ih (by simp; omega) h3⟩

theorem Memory.above_del {b i : Nat} {m : List Host.Cell} (h : Memory.above b m) : Memory.above b (tblDel m i) := by
  induction m generalizing b with
  | nil => trivial
  | cons c m ih =>
    obtain ⟨k, v⟩ := c
    obtain ⟨h1, h2, h3⟩ := h
    simp only [tblDel]
    split
    · exact ⟨h1, h2, h3⟩
    · split
      · exact Memory.above_mono (by simp at h1; simp; omega) h3
      · exact ⟨h1, h2, ih h3⟩

theorem Memory.above_filter {b : Nat} (p : Host.Cell → Bool) {m : List Host.Cell} (h : Memory.above b m) :
    Memory.above b (m.filter p) := by
  induction m generalizing b with
  | nil => trivial
  | cons c m ih =>
    obtain ⟨h1, h2, h3⟩ := h
    rw [List.filter_cons]
    split
    · exact ⟨h1, h2, ih h3⟩
    · exact ih (Memory.above_mono (by omega) h3)

/-- Storing one byte keeps the canonical form. -/
theorem Memory.wf_set (m : List Host.Cell) (a : Nat) (b : Byte) (h : Memory.wf m = true) : Memory.wf (tblSet 0#8 m a b) = true := by
  rw [Memory.wf_iff_above] at *
  unfold tblSet
  split
  · exact Memory.above_del h
  · exact Memory.above_put (Nat.zero_le a) (by assumption) h

/-- Storing bytes keeps the canonical form. -/
theorem Memory.wf_memPut (m : List Host.Cell) (a : Nat) (bs : List Byte) (h : Memory.wf m = true) : Memory.wf (memPut m a bs) = true := by
  induction bs generalizing m a with
  | nil => exact h
  | cons b bs ih => exact ih _ _ (Memory.wf_set m a b h)

/-- Dropping cells keeps the canonical form. -/
theorem Memory.wf_filter (p : Host.Cell → Bool) (m : List Host.Cell) (h : Memory.wf m = true) : Memory.wf (m.filter p) = true := by
  rw [Memory.wf_iff_above] at *
  exact Memory.above_filter p h

/-- Storing a list of cells keeps the canonical form. -/
theorem Memory.wf_foldSet (cs m : List Host.Cell) (h : Memory.wf m = true) :
    Memory.wf (cs.foldl (fun m c => tblSet 0#8 m c.1 c.2) m) = true := by
  induction cs generalizing m with
  | nil => exact h
  | cons c cs ih => exact ih _ (Memory.wf_set m c.1 c.2 h)

/-- The empty memory has the canonical form. -/
theorem Memory.wf_nil : Memory.wf [] = true := rfl

/-- A value stored at a key of a table is found there. -/
@[simp] theorem tblFind_put_same {α : Type} (t : Tbl α) (i : Nat) (x : α) : tblFind (tblPut t i x) i = some x := by
  induction t with
  | nil => simp [tblPut, tblFind]
  | cons e t ih =>
    obtain ⟨k, v⟩ := e
    simp only [tblPut]
    split
    · simp [tblFind]
    · split
      · simp [tblFind]
      · simp only [tblFind]
        rw [if_neg (by omega), if_neg (by omega), ih]

/-- A value stored at a key of a table is read there. -/
@[simp] theorem tblGet_put_same {α : Type} (d : α) (t : Tbl α) (i : Nat) (x : α) : tblGet d (tblPut t i x) i = x := by
  simp [tblGet]

/-- The keys of a table rise strictly, above a bound. -/
def Tbl.above {α : Type} : Nat → Tbl α → Prop
  | _, [] => True
  | b, e :: t => b ≤ e.1 ∧ Tbl.above (e.1 + 1) t

theorem tblFind_above {α : Type} {b i : Nat} {t : Tbl α} (h : Tbl.above b t) (hi : i < b) : tblFind t i = none := by
  cases t with
  | nil => rfl
  | cons e t =>
    obtain ⟨k, v⟩ := e
    have h1 := h.1
    simp only [tblFind]
    rw [if_neg (by simp at h1; omega), if_pos (by simp at h1; omega)]

/-- Storing at one key leaves every other key of a table as it was, whatever the order of the table. -/
theorem tblFind_put_other {α : Type} {i j : Nat} {x : α} {t : Tbl α} (h : i ≠ j) :
    tblFind (tblPut t i x) j = tblFind t j := by
  induction t with
  | nil =>
    simp only [tblPut, tblFind]
    rw [if_neg h]
    split <;> rfl
  | cons e t ih =>
    obtain ⟨k, v⟩ := e
    simp only [tblPut]
    split
    · rename_i hik
      simp only [tblFind]
      rw [if_neg h]
      split
      · rw [if_neg (by omega), if_pos (by omega)]
      · rfl
    · split
      · subst_vars
        simp only [tblFind]
        rw [if_neg h, if_neg h]
      · simp only [tblFind, ih]

/-- Storing at one key leaves what is read at every other key. -/
theorem tblGet_put_other {α : Type} {d : α} {i j : Nat} {x : α} {t : Tbl α} (h : i ≠ j) :
    tblGet d (tblPut t i x) j = tblGet d t j := by
  simp [tblGet, tblFind_put_other h]

end Sys2Proof.Machine
end

