-- ==== Sys2Proof/Laws/State.lean ====
section
/-!
SUPPORT. Each update of the state, field by field: what it leaves, and what a read after it gives.
-/
namespace Sys2Proof.Machine

@[simp] theorem State.setReg_pending (s : State) (off : Nat) (v : Word) : (s.setReg off v).pending = s.pending := rfl
@[simp] theorem State.setReg_now (s : State) (off : Nat) (v : Word) : (s.setReg off v).now = s.now := rfl
@[simp] theorem State.setReg_fuses (s : State) (off : Nat) (v : Word) : (s.setReg off v).fuses = s.fuses := rfl
@[simp] theorem State.setReg_rdLatch (s : State) (off : Nat) (v : Word) : (s.setReg off v).rdLatch = s.rdLatch := rfl
@[simp] theorem State.setReg_wrLatch (s : State) (off : Nat) (v : Word) : (s.setReg off v).wrLatch = s.wrLatch := rfl
@[simp] theorem State.setReg_mem (s : State) (off : Nat) (v : Word) : (s.setReg off v).mem = s.mem := rfl
@[simp] theorem State.setReg_memst (s : State) (off : Nat) (v : Word) : (s.setReg off v).memst = s.memst := rfl
@[simp] theorem State.setReg_arrays (s : State) (off : Nat) (v : Word) : (s.setReg off v).arrays = s.arrays := rfl
@[simp] theorem State.setReg_cores (s : State) (off : Nat) (v : Word) : (s.setReg off v).cores = s.cores := rfl
@[simp] theorem State.setReg_mesh (s : State) (off : Nat) (v : Word) : (s.setReg off v).mesh = s.mesh := rfl
@[simp] theorem State.setReg_rings (s : State) (off : Nat) (v : Word) : (s.setReg off v).rings = s.rings := rfl
@[simp] theorem State.setReg_life (s : State) (off : Nat) (v : Word) : (s.setReg off v).life = s.life := rfl
@[simp] theorem State.setReg_ctxs (s : State) (off : Nat) (v : Word) : (s.setReg off v).ctxs = s.ctxs := rfl
@[simp] theorem State.setReg_parts (s : State) (off : Nat) (v : Word) : (s.setReg off v).parts = s.parts := rfl
@[simp] theorem State.setReg_signals (s : State) (off : Nat) (v : Word) : (s.setReg off v).signals = s.signals := rfl
@[simp] theorem State.setReg_flint (s : State) (off : Nat) (v : Word) : (s.setReg off v).flint = s.flint := rfl
@[simp] theorem State.setReg_integ (s : State) (off : Nat) (v : Word) : (s.setReg off v).integ = s.integ := rfl
@[simp] theorem State.setReg_fab (s : State) (off : Nat) (v : Word) : (s.setReg off v).fab = s.fab := rfl
@[simp] theorem State.setReg_time (s : State) (off : Nat) (v : Word) : (s.setReg off v).time = s.time := rfl
@[simp] theorem State.setReg_power (s : State) (off : Nat) (v : Word) : (s.setReg off v).power = s.power := rfl
@[simp] theorem State.setReg_brp (s : State) (off : Nat) (v : Word) : (s.setReg off v).brp = s.brp := rfl
@[simp] theorem State.setReg_mgt (s : State) (off : Nat) (v : Word) : (s.setReg off v).mgt = s.mgt := rfl
@[simp] theorem State.setReg_reply (s : State) (off : Nat) (v : Word) : (s.setReg off v).reply = s.reply := rfl
@[simp] theorem State.setReg_out (s : State) (off : Nat) (v : Word) : (s.setReg off v).out = s.out := rfl
@[simp] theorem State.setReg_abortSeq (s : State) (off : Nat) (v : Word) : (s.setReg off v).abortSeq = s.abortSeq := rfl
@[simp] theorem State.setReg_fresh (s : State) (off : Nat) (v : Word) : (s.setReg off v).fresh = s.fresh := rfl
@[simp] theorem State.setReg_arr (s : State) (off : Nat) (v : Word) (i : Nat) : (s.setReg off v).arr i = s.arr i := rfl
@[simp] theorem State.setReg_core (s : State) (off : Nat) (v : Word) (i : Nat) : (s.setReg off v).core i = s.core i := rfl
@[simp] theorem State.setReg_ctx (s : State) (off : Nat) (v : Word) (i : Nat) : (s.setReg off v).ctx i = s.ctx i := rfl
@[simp] theorem State.setReg_part (s : State) (off : Nat) (v : Word) (i : Nat) : (s.setReg off v).part i = s.part i := rfl
@[simp] theorem State.setReg_ring (s : State) (off : Nat) (v : Word) (i : Nat) : (s.setReg off v).ring i = s.ring i := rfl
@[simp] theorem State.setReg_hport (s : State) (off : Nat) (v : Word) (i : Nat) : (s.setReg off v).hport i = s.hport i := rfl
@[simp] theorem State.setReg_fport (s : State) (off : Nat) (v : Word) (i : Nat) : (s.setReg off v).fport i = s.fport i := rfl
@[simp] theorem State.setReg_byte (s : State) (off : Nat) (v : Word) (i : Nat) : (s.setReg off v).byte i = s.byte i := rfl

@[simp] theorem State.setFld_pending (s : State) (off hi lo x : Nat) : (s.setFld off hi lo x).pending = s.pending := rfl
@[simp] theorem State.setFld_now (s : State) (off hi lo x : Nat) : (s.setFld off hi lo x).now = s.now := rfl
@[simp] theorem State.setFld_fuses (s : State) (off hi lo x : Nat) : (s.setFld off hi lo x).fuses = s.fuses := rfl
@[simp] theorem State.setFld_rdLatch (s : State) (off hi lo x : Nat) : (s.setFld off hi lo x).rdLatch = s.rdLatch := rfl
@[simp] theorem State.setFld_wrLatch (s : State) (off hi lo x : Nat) : (s.setFld off hi lo x).wrLatch = s.wrLatch := rfl
@[simp] theorem State.setFld_mem (s : State) (off hi lo x : Nat) : (s.setFld off hi lo x).mem = s.mem := rfl
@[simp] theorem State.setFld_memst (s : State) (off hi lo x : Nat) : (s.setFld off hi lo x).memst = s.memst := rfl
@[simp] theorem State.setFld_arrays (s : State) (off hi lo x : Nat) : (s.setFld off hi lo x).arrays = s.arrays := rfl
@[simp] theorem State.setFld_cores (s : State) (off hi lo x : Nat) : (s.setFld off hi lo x).cores = s.cores := rfl
@[simp] theorem State.setFld_mesh (s : State) (off hi lo x : Nat) : (s.setFld off hi lo x).mesh = s.mesh := rfl
@[simp] theorem State.setFld_rings (s : State) (off hi lo x : Nat) : (s.setFld off hi lo x).rings = s.rings := rfl
@[simp] theorem State.setFld_life (s : State) (off hi lo x : Nat) : (s.setFld off hi lo x).life = s.life := rfl
@[simp] theorem State.setFld_ctxs (s : State) (off hi lo x : Nat) : (s.setFld off hi lo x).ctxs = s.ctxs := rfl
@[simp] theorem State.setFld_parts (s : State) (off hi lo x : Nat) : (s.setFld off hi lo x).parts = s.parts := rfl
@[simp] theorem State.setFld_signals (s : State) (off hi lo x : Nat) : (s.setFld off hi lo x).signals = s.signals := rfl
@[simp] theorem State.setFld_flint (s : State) (off hi lo x : Nat) : (s.setFld off hi lo x).flint = s.flint := rfl
@[simp] theorem State.setFld_integ (s : State) (off hi lo x : Nat) : (s.setFld off hi lo x).integ = s.integ := rfl
@[simp] theorem State.setFld_fab (s : State) (off hi lo x : Nat) : (s.setFld off hi lo x).fab = s.fab := rfl
@[simp] theorem State.setFld_time (s : State) (off hi lo x : Nat) : (s.setFld off hi lo x).time = s.time := rfl
@[simp] theorem State.setFld_power (s : State) (off hi lo x : Nat) : (s.setFld off hi lo x).power = s.power := rfl
@[simp] theorem State.setFld_brp (s : State) (off hi lo x : Nat) : (s.setFld off hi lo x).brp = s.brp := rfl
@[simp] theorem State.setFld_mgt (s : State) (off hi lo x : Nat) : (s.setFld off hi lo x).mgt = s.mgt := rfl
@[simp] theorem State.setFld_reply (s : State) (off hi lo x : Nat) : (s.setFld off hi lo x).reply = s.reply := rfl
@[simp] theorem State.setFld_out (s : State) (off hi lo x : Nat) : (s.setFld off hi lo x).out = s.out := rfl
@[simp] theorem State.setFld_abortSeq (s : State) (off hi lo x : Nat) : (s.setFld off hi lo x).abortSeq = s.abortSeq := rfl
@[simp] theorem State.setFld_fresh (s : State) (off hi lo x : Nat) : (s.setFld off hi lo x).fresh = s.fresh := rfl
@[simp] theorem State.setFld_arr (s : State) (off hi lo x : Nat) (i : Nat) : (s.setFld off hi lo x).arr i = s.arr i := rfl
@[simp] theorem State.setFld_core (s : State) (off hi lo x : Nat) (i : Nat) : (s.setFld off hi lo x).core i = s.core i := rfl
@[simp] theorem State.setFld_ctx (s : State) (off hi lo x : Nat) (i : Nat) : (s.setFld off hi lo x).ctx i = s.ctx i := rfl
@[simp] theorem State.setFld_part (s : State) (off hi lo x : Nat) (i : Nat) : (s.setFld off hi lo x).part i = s.part i := rfl
@[simp] theorem State.setFld_ring (s : State) (off hi lo x : Nat) (i : Nat) : (s.setFld off hi lo x).ring i = s.ring i := rfl
@[simp] theorem State.setFld_hport (s : State) (off hi lo x : Nat) (i : Nat) : (s.setFld off hi lo x).hport i = s.hport i := rfl
@[simp] theorem State.setFld_fport (s : State) (off hi lo x : Nat) (i : Nat) : (s.setFld off hi lo x).fport i = s.fport i := rfl
@[simp] theorem State.setFld_byte (s : State) (off hi lo x : Nat) (i : Nat) : (s.setFld off hi lo x).byte i = s.byte i := rfl

@[simp] theorem State.setFlag_pending (s : State) (off i : Nat) (b : Bool) : (s.setFlag off i b).pending = s.pending := rfl
@[simp] theorem State.setFlag_now (s : State) (off i : Nat) (b : Bool) : (s.setFlag off i b).now = s.now := rfl
@[simp] theorem State.setFlag_fuses (s : State) (off i : Nat) (b : Bool) : (s.setFlag off i b).fuses = s.fuses := rfl
@[simp] theorem State.setFlag_rdLatch (s : State) (off i : Nat) (b : Bool) : (s.setFlag off i b).rdLatch = s.rdLatch := rfl
@[simp] theorem State.setFlag_wrLatch (s : State) (off i : Nat) (b : Bool) : (s.setFlag off i b).wrLatch = s.wrLatch := rfl
@[simp] theorem State.setFlag_mem (s : State) (off i : Nat) (b : Bool) : (s.setFlag off i b).mem = s.mem := rfl
@[simp] theorem State.setFlag_memst (s : State) (off i : Nat) (b : Bool) : (s.setFlag off i b).memst = s.memst := rfl
@[simp] theorem State.setFlag_arrays (s : State) (off i : Nat) (b : Bool) : (s.setFlag off i b).arrays = s.arrays := rfl
@[simp] theorem State.setFlag_cores (s : State) (off i : Nat) (b : Bool) : (s.setFlag off i b).cores = s.cores := rfl
@[simp] theorem State.setFlag_mesh (s : State) (off i : Nat) (b : Bool) : (s.setFlag off i b).mesh = s.mesh := rfl
@[simp] theorem State.setFlag_rings (s : State) (off i : Nat) (b : Bool) : (s.setFlag off i b).rings = s.rings := rfl
@[simp] theorem State.setFlag_life (s : State) (off i : Nat) (b : Bool) : (s.setFlag off i b).life = s.life := rfl
@[simp] theorem State.setFlag_ctxs (s : State) (off i : Nat) (b : Bool) : (s.setFlag off i b).ctxs = s.ctxs := rfl
@[simp] theorem State.setFlag_parts (s : State) (off i : Nat) (b : Bool) : (s.setFlag off i b).parts = s.parts := rfl
@[simp] theorem State.setFlag_signals (s : State) (off i : Nat) (b : Bool) : (s.setFlag off i b).signals = s.signals := rfl
@[simp] theorem State.setFlag_flint (s : State) (off i : Nat) (b : Bool) : (s.setFlag off i b).flint = s.flint := rfl
@[simp] theorem State.setFlag_integ (s : State) (off i : Nat) (b : Bool) : (s.setFlag off i b).integ = s.integ := rfl
@[simp] theorem State.setFlag_fab (s : State) (off i : Nat) (b : Bool) : (s.setFlag off i b).fab = s.fab := rfl
@[simp] theorem State.setFlag_time (s : State) (off i : Nat) (b : Bool) : (s.setFlag off i b).time = s.time := rfl
@[simp] theorem State.setFlag_power (s : State) (off i : Nat) (b : Bool) : (s.setFlag off i b).power = s.power := rfl
@[simp] theorem State.setFlag_brp (s : State) (off i : Nat) (b : Bool) : (s.setFlag off i b).brp = s.brp := rfl
@[simp] theorem State.setFlag_mgt (s : State) (off i : Nat) (b : Bool) : (s.setFlag off i b).mgt = s.mgt := rfl
@[simp] theorem State.setFlag_reply (s : State) (off i : Nat) (b : Bool) : (s.setFlag off i b).reply = s.reply := rfl
@[simp] theorem State.setFlag_out (s : State) (off i : Nat) (b : Bool) : (s.setFlag off i b).out = s.out := rfl
@[simp] theorem State.setFlag_abortSeq (s : State) (off i : Nat) (b : Bool) : (s.setFlag off i b).abortSeq = s.abortSeq := rfl
@[simp] theorem State.setFlag_fresh (s : State) (off i : Nat) (b : Bool) : (s.setFlag off i b).fresh = s.fresh := rfl
@[simp] theorem State.setFlag_arr (s : State) (off i : Nat) (b : Bool) (i : Nat) : (s.setFlag off i b).arr i = s.arr i := rfl
@[simp] theorem State.setFlag_core (s : State) (off i : Nat) (b : Bool) (i : Nat) : (s.setFlag off i b).core i = s.core i := rfl
@[simp] theorem State.setFlag_ctx (s : State) (off i : Nat) (b : Bool) (i : Nat) : (s.setFlag off i b).ctx i = s.ctx i := rfl
@[simp] theorem State.setFlag_part (s : State) (off i : Nat) (b : Bool) (i : Nat) : (s.setFlag off i b).part i = s.part i := rfl
@[simp] theorem State.setFlag_ring (s : State) (off i : Nat) (b : Bool) (i : Nat) : (s.setFlag off i b).ring i = s.ring i := rfl
@[simp] theorem State.setFlag_hport (s : State) (off i : Nat) (b : Bool) (i : Nat) : (s.setFlag off i b).hport i = s.hport i := rfl
@[simp] theorem State.setFlag_fport (s : State) (off i : Nat) (b : Bool) (i : Nat) : (s.setFlag off i b).fport i = s.fport i := rfl
@[simp] theorem State.setFlag_byte (s : State) (off i : Nat) (b : Bool) (i : Nat) : (s.setFlag off i b).byte i = s.byte i := rfl

@[simp] theorem State.bump_pending (s : State) (off n : Nat) : (s.bump off n).pending = s.pending := rfl
@[simp] theorem State.bump_now (s : State) (off n : Nat) : (s.bump off n).now = s.now := rfl
@[simp] theorem State.bump_fuses (s : State) (off n : Nat) : (s.bump off n).fuses = s.fuses := rfl
@[simp] theorem State.bump_rdLatch (s : State) (off n : Nat) : (s.bump off n).rdLatch = s.rdLatch := rfl
@[simp] theorem State.bump_wrLatch (s : State) (off n : Nat) : (s.bump off n).wrLatch = s.wrLatch := rfl
@[simp] theorem State.bump_mem (s : State) (off n : Nat) : (s.bump off n).mem = s.mem := rfl
@[simp] theorem State.bump_memst (s : State) (off n : Nat) : (s.bump off n).memst = s.memst := rfl
@[simp] theorem State.bump_arrays (s : State) (off n : Nat) : (s.bump off n).arrays = s.arrays := rfl
@[simp] theorem State.bump_cores (s : State) (off n : Nat) : (s.bump off n).cores = s.cores := rfl
@[simp] theorem State.bump_mesh (s : State) (off n : Nat) : (s.bump off n).mesh = s.mesh := rfl
@[simp] theorem State.bump_rings (s : State) (off n : Nat) : (s.bump off n).rings = s.rings := rfl
@[simp] theorem State.bump_life (s : State) (off n : Nat) : (s.bump off n).life = s.life := rfl
@[simp] theorem State.bump_ctxs (s : State) (off n : Nat) : (s.bump off n).ctxs = s.ctxs := rfl
@[simp] theorem State.bump_parts (s : State) (off n : Nat) : (s.bump off n).parts = s.parts := rfl
@[simp] theorem State.bump_signals (s : State) (off n : Nat) : (s.bump off n).signals = s.signals := rfl
@[simp] theorem State.bump_flint (s : State) (off n : Nat) : (s.bump off n).flint = s.flint := rfl
@[simp] theorem State.bump_integ (s : State) (off n : Nat) : (s.bump off n).integ = s.integ := rfl
@[simp] theorem State.bump_fab (s : State) (off n : Nat) : (s.bump off n).fab = s.fab := rfl
@[simp] theorem State.bump_time (s : State) (off n : Nat) : (s.bump off n).time = s.time := rfl
@[simp] theorem State.bump_power (s : State) (off n : Nat) : (s.bump off n).power = s.power := rfl
@[simp] theorem State.bump_brp (s : State) (off n : Nat) : (s.bump off n).brp = s.brp := rfl
@[simp] theorem State.bump_mgt (s : State) (off n : Nat) : (s.bump off n).mgt = s.mgt := rfl
@[simp] theorem State.bump_reply (s : State) (off n : Nat) : (s.bump off n).reply = s.reply := rfl
@[simp] theorem State.bump_out (s : State) (off n : Nat) : (s.bump off n).out = s.out := rfl
@[simp] theorem State.bump_abortSeq (s : State) (off n : Nat) : (s.bump off n).abortSeq = s.abortSeq := rfl
@[simp] theorem State.bump_fresh (s : State) (off n : Nat) : (s.bump off n).fresh = s.fresh := rfl
@[simp] theorem State.bump_arr (s : State) (off n : Nat) (i : Nat) : (s.bump off n).arr i = s.arr i := rfl
@[simp] theorem State.bump_core (s : State) (off n : Nat) (i : Nat) : (s.bump off n).core i = s.core i := rfl
@[simp] theorem State.bump_ctx (s : State) (off n : Nat) (i : Nat) : (s.bump off n).ctx i = s.ctx i := rfl
@[simp] theorem State.bump_part (s : State) (off n : Nat) (i : Nat) : (s.bump off n).part i = s.part i := rfl
@[simp] theorem State.bump_ring (s : State) (off n : Nat) (i : Nat) : (s.bump off n).ring i = s.ring i := rfl
@[simp] theorem State.bump_hport (s : State) (off n : Nat) (i : Nat) : (s.bump off n).hport i = s.hport i := rfl
@[simp] theorem State.bump_fport (s : State) (off n : Nat) (i : Nat) : (s.bump off n).fport i = s.fport i := rfl
@[simp] theorem State.bump_byte (s : State) (off n : Nat) (i : Nat) : (s.bump off n).byte i = s.byte i := rfl

@[simp] theorem State.setReg64_pending (s : State) (off v : Nat) : (s.setReg64 off v).pending = s.pending := rfl
@[simp] theorem State.setReg64_now (s : State) (off v : Nat) : (s.setReg64 off v).now = s.now := rfl
@[simp] theorem State.setReg64_fuses (s : State) (off v : Nat) : (s.setReg64 off v).fuses = s.fuses := rfl
@[simp] theorem State.setReg64_rdLatch (s : State) (off v : Nat) : (s.setReg64 off v).rdLatch = s.rdLatch := rfl
@[simp] theorem State.setReg64_wrLatch (s : State) (off v : Nat) : (s.setReg64 off v).wrLatch = s.wrLatch := rfl
@[simp] theorem State.setReg64_mem (s : State) (off v : Nat) : (s.setReg64 off v).mem = s.mem := rfl
@[simp] theorem State.setReg64_memst (s : State) (off v : Nat) : (s.setReg64 off v).memst = s.memst := rfl
@[simp] theorem State.setReg64_arrays (s : State) (off v : Nat) : (s.setReg64 off v).arrays = s.arrays := rfl
@[simp] theorem State.setReg64_cores (s : State) (off v : Nat) : (s.setReg64 off v).cores = s.cores := rfl
@[simp] theorem State.setReg64_mesh (s : State) (off v : Nat) : (s.setReg64 off v).mesh = s.mesh := rfl
@[simp] theorem State.setReg64_rings (s : State) (off v : Nat) : (s.setReg64 off v).rings = s.rings := rfl
@[simp] theorem State.setReg64_life (s : State) (off v : Nat) : (s.setReg64 off v).life = s.life := rfl
@[simp] theorem State.setReg64_ctxs (s : State) (off v : Nat) : (s.setReg64 off v).ctxs = s.ctxs := rfl
@[simp] theorem State.setReg64_parts (s : State) (off v : Nat) : (s.setReg64 off v).parts = s.parts := rfl
@[simp] theorem State.setReg64_signals (s : State) (off v : Nat) : (s.setReg64 off v).signals = s.signals := rfl
@[simp] theorem State.setReg64_flint (s : State) (off v : Nat) : (s.setReg64 off v).flint = s.flint := rfl
@[simp] theorem State.setReg64_integ (s : State) (off v : Nat) : (s.setReg64 off v).integ = s.integ := rfl
@[simp] theorem State.setReg64_fab (s : State) (off v : Nat) : (s.setReg64 off v).fab = s.fab := rfl
@[simp] theorem State.setReg64_time (s : State) (off v : Nat) : (s.setReg64 off v).time = s.time := rfl
@[simp] theorem State.setReg64_power (s : State) (off v : Nat) : (s.setReg64 off v).power = s.power := rfl
@[simp] theorem State.setReg64_brp (s : State) (off v : Nat) : (s.setReg64 off v).brp = s.brp := rfl
@[simp] theorem State.setReg64_mgt (s : State) (off v : Nat) : (s.setReg64 off v).mgt = s.mgt := rfl
@[simp] theorem State.setReg64_reply (s : State) (off v : Nat) : (s.setReg64 off v).reply = s.reply := rfl
@[simp] theorem State.setReg64_out (s : State) (off v : Nat) : (s.setReg64 off v).out = s.out := rfl
@[simp] theorem State.setReg64_abortSeq (s : State) (off v : Nat) : (s.setReg64 off v).abortSeq = s.abortSeq := rfl
@[simp] theorem State.setReg64_fresh (s : State) (off v : Nat) : (s.setReg64 off v).fresh = s.fresh := rfl
@[simp] theorem State.setReg64_arr (s : State) (off v : Nat) (i : Nat) : (s.setReg64 off v).arr i = s.arr i := rfl
@[simp] theorem State.setReg64_core (s : State) (off v : Nat) (i : Nat) : (s.setReg64 off v).core i = s.core i := rfl
@[simp] theorem State.setReg64_ctx (s : State) (off v : Nat) (i : Nat) : (s.setReg64 off v).ctx i = s.ctx i := rfl
@[simp] theorem State.setReg64_part (s : State) (off v : Nat) (i : Nat) : (s.setReg64 off v).part i = s.part i := rfl
@[simp] theorem State.setReg64_ring (s : State) (off v : Nat) (i : Nat) : (s.setReg64 off v).ring i = s.ring i := rfl
@[simp] theorem State.setReg64_hport (s : State) (off v : Nat) (i : Nat) : (s.setReg64 off v).hport i = s.hport i := rfl
@[simp] theorem State.setReg64_fport (s : State) (off v : Nat) (i : Nat) : (s.setReg64 off v).fport i = s.fport i := rfl
@[simp] theorem State.setReg64_byte (s : State) (off v : Nat) (i : Nat) : (s.setReg64 off v).byte i = s.byte i := rfl

@[simp] theorem State.bump64_pending (s : State) (off n : Nat) : (s.bump64 off n).pending = s.pending := rfl
@[simp] theorem State.bump64_now (s : State) (off n : Nat) : (s.bump64 off n).now = s.now := rfl
@[simp] theorem State.bump64_fuses (s : State) (off n : Nat) : (s.bump64 off n).fuses = s.fuses := rfl
@[simp] theorem State.bump64_rdLatch (s : State) (off n : Nat) : (s.bump64 off n).rdLatch = s.rdLatch := rfl
@[simp] theorem State.bump64_wrLatch (s : State) (off n : Nat) : (s.bump64 off n).wrLatch = s.wrLatch := rfl
@[simp] theorem State.bump64_mem (s : State) (off n : Nat) : (s.bump64 off n).mem = s.mem := rfl
@[simp] theorem State.bump64_memst (s : State) (off n : Nat) : (s.bump64 off n).memst = s.memst := rfl
@[simp] theorem State.bump64_arrays (s : State) (off n : Nat) : (s.bump64 off n).arrays = s.arrays := rfl
@[simp] theorem State.bump64_cores (s : State) (off n : Nat) : (s.bump64 off n).cores = s.cores := rfl
@[simp] theorem State.bump64_mesh (s : State) (off n : Nat) : (s.bump64 off n).mesh = s.mesh := rfl
@[simp] theorem State.bump64_rings (s : State) (off n : Nat) : (s.bump64 off n).rings = s.rings := rfl
@[simp] theorem State.bump64_life (s : State) (off n : Nat) : (s.bump64 off n).life = s.life := rfl
@[simp] theorem State.bump64_ctxs (s : State) (off n : Nat) : (s.bump64 off n).ctxs = s.ctxs := rfl
@[simp] theorem State.bump64_parts (s : State) (off n : Nat) : (s.bump64 off n).parts = s.parts := rfl
@[simp] theorem State.bump64_signals (s : State) (off n : Nat) : (s.bump64 off n).signals = s.signals := rfl
@[simp] theorem State.bump64_flint (s : State) (off n : Nat) : (s.bump64 off n).flint = s.flint := rfl
@[simp] theorem State.bump64_integ (s : State) (off n : Nat) : (s.bump64 off n).integ = s.integ := rfl
@[simp] theorem State.bump64_fab (s : State) (off n : Nat) : (s.bump64 off n).fab = s.fab := rfl
@[simp] theorem State.bump64_time (s : State) (off n : Nat) : (s.bump64 off n).time = s.time := rfl
@[simp] theorem State.bump64_power (s : State) (off n : Nat) : (s.bump64 off n).power = s.power := rfl
@[simp] theorem State.bump64_brp (s : State) (off n : Nat) : (s.bump64 off n).brp = s.brp := rfl
@[simp] theorem State.bump64_mgt (s : State) (off n : Nat) : (s.bump64 off n).mgt = s.mgt := rfl
@[simp] theorem State.bump64_reply (s : State) (off n : Nat) : (s.bump64 off n).reply = s.reply := rfl
@[simp] theorem State.bump64_out (s : State) (off n : Nat) : (s.bump64 off n).out = s.out := rfl
@[simp] theorem State.bump64_abortSeq (s : State) (off n : Nat) : (s.bump64 off n).abortSeq = s.abortSeq := rfl
@[simp] theorem State.bump64_fresh (s : State) (off n : Nat) : (s.bump64 off n).fresh = s.fresh := rfl
@[simp] theorem State.bump64_arr (s : State) (off n : Nat) (i : Nat) : (s.bump64 off n).arr i = s.arr i := rfl
@[simp] theorem State.bump64_core (s : State) (off n : Nat) (i : Nat) : (s.bump64 off n).core i = s.core i := rfl
@[simp] theorem State.bump64_ctx (s : State) (off n : Nat) (i : Nat) : (s.bump64 off n).ctx i = s.ctx i := rfl
@[simp] theorem State.bump64_part (s : State) (off n : Nat) (i : Nat) : (s.bump64 off n).part i = s.part i := rfl
@[simp] theorem State.bump64_ring (s : State) (off n : Nat) (i : Nat) : (s.bump64 off n).ring i = s.ring i := rfl
@[simp] theorem State.bump64_hport (s : State) (off n : Nat) (i : Nat) : (s.bump64 off n).hport i = s.hport i := rfl
@[simp] theorem State.bump64_fport (s : State) (off n : Nat) (i : Nat) : (s.bump64 off n).fport i = s.fport i := rfl
@[simp] theorem State.bump64_byte (s : State) (off n : Nat) (i : Nat) : (s.bump64 off n).byte i = s.byte i := rfl

@[simp] theorem State.setArr_pending (s : State) (p : Nat) (a : ArrayState) : (s.setArr p a).pending = s.pending := rfl
@[simp] theorem State.setArr_now (s : State) (p : Nat) (a : ArrayState) : (s.setArr p a).now = s.now := rfl
@[simp] theorem State.setArr_fuses (s : State) (p : Nat) (a : ArrayState) : (s.setArr p a).fuses = s.fuses := rfl
@[simp] theorem State.setArr_regs (s : State) (p : Nat) (a : ArrayState) : (s.setArr p a).regs = s.regs := rfl
@[simp] theorem State.setArr_rdLatch (s : State) (p : Nat) (a : ArrayState) : (s.setArr p a).rdLatch = s.rdLatch := rfl
@[simp] theorem State.setArr_wrLatch (s : State) (p : Nat) (a : ArrayState) : (s.setArr p a).wrLatch = s.wrLatch := rfl
@[simp] theorem State.setArr_mem (s : State) (p : Nat) (a : ArrayState) : (s.setArr p a).mem = s.mem := rfl
@[simp] theorem State.setArr_memst (s : State) (p : Nat) (a : ArrayState) : (s.setArr p a).memst = s.memst := rfl
@[simp] theorem State.setArr_cores (s : State) (p : Nat) (a : ArrayState) : (s.setArr p a).cores = s.cores := rfl
@[simp] theorem State.setArr_mesh (s : State) (p : Nat) (a : ArrayState) : (s.setArr p a).mesh = s.mesh := rfl
@[simp] theorem State.setArr_rings (s : State) (p : Nat) (a : ArrayState) : (s.setArr p a).rings = s.rings := rfl
@[simp] theorem State.setArr_life (s : State) (p : Nat) (a : ArrayState) : (s.setArr p a).life = s.life := rfl
@[simp] theorem State.setArr_ctxs (s : State) (p : Nat) (a : ArrayState) : (s.setArr p a).ctxs = s.ctxs := rfl
@[simp] theorem State.setArr_parts (s : State) (p : Nat) (a : ArrayState) : (s.setArr p a).parts = s.parts := rfl
@[simp] theorem State.setArr_signals (s : State) (p : Nat) (a : ArrayState) : (s.setArr p a).signals = s.signals := rfl
@[simp] theorem State.setArr_flint (s : State) (p : Nat) (a : ArrayState) : (s.setArr p a).flint = s.flint := rfl
@[simp] theorem State.setArr_integ (s : State) (p : Nat) (a : ArrayState) : (s.setArr p a).integ = s.integ := rfl
@[simp] theorem State.setArr_fab (s : State) (p : Nat) (a : ArrayState) : (s.setArr p a).fab = s.fab := rfl
@[simp] theorem State.setArr_time (s : State) (p : Nat) (a : ArrayState) : (s.setArr p a).time = s.time := rfl
@[simp] theorem State.setArr_power (s : State) (p : Nat) (a : ArrayState) : (s.setArr p a).power = s.power := rfl
@[simp] theorem State.setArr_brp (s : State) (p : Nat) (a : ArrayState) : (s.setArr p a).brp = s.brp := rfl
@[simp] theorem State.setArr_mgt (s : State) (p : Nat) (a : ArrayState) : (s.setArr p a).mgt = s.mgt := rfl
@[simp] theorem State.setArr_reply (s : State) (p : Nat) (a : ArrayState) : (s.setArr p a).reply = s.reply := rfl
@[simp] theorem State.setArr_out (s : State) (p : Nat) (a : ArrayState) : (s.setArr p a).out = s.out := rfl
@[simp] theorem State.setArr_abortSeq (s : State) (p : Nat) (a : ArrayState) : (s.setArr p a).abortSeq = s.abortSeq := rfl
@[simp] theorem State.setArr_fresh (s : State) (p : Nat) (a : ArrayState) : (s.setArr p a).fresh = s.fresh := rfl
@[simp] theorem State.setArr_reg (s : State) (p : Nat) (a : ArrayState) (o : Nat) : (s.setArr p a).reg o = s.reg o := rfl
@[simp] theorem State.setArr_core (s : State) (p : Nat) (a : ArrayState) (i : Nat) : (s.setArr p a).core i = s.core i := rfl
@[simp] theorem State.setArr_ctx (s : State) (p : Nat) (a : ArrayState) (i : Nat) : (s.setArr p a).ctx i = s.ctx i := rfl
@[simp] theorem State.setArr_part (s : State) (p : Nat) (a : ArrayState) (i : Nat) : (s.setArr p a).part i = s.part i := rfl
@[simp] theorem State.setArr_ring (s : State) (p : Nat) (a : ArrayState) (i : Nat) : (s.setArr p a).ring i = s.ring i := rfl
@[simp] theorem State.setArr_hport (s : State) (p : Nat) (a : ArrayState) (i : Nat) : (s.setArr p a).hport i = s.hport i := rfl
@[simp] theorem State.setArr_fport (s : State) (p : Nat) (a : ArrayState) (i : Nat) : (s.setArr p a).fport i = s.fport i := rfl
@[simp] theorem State.setArr_byte (s : State) (p : Nat) (a : ArrayState) (i : Nat) : (s.setArr p a).byte i = s.byte i := rfl
@[simp] theorem State.setArr_fld (s : State) (p : Nat) (a : ArrayState) (o h l : Nat) : (s.setArr p a).fld o h l = s.fld o h l := rfl
@[simp] theorem State.setArr_flag (s : State) (p : Nat) (a : ArrayState) (o j : Nat) : (s.setArr p a).flag o j = s.flag o j := rfl

@[simp] theorem State.modArr_pending (s : State) (p : Nat) (f : ArrayState → ArrayState) : (s.modArr p f).pending = s.pending := rfl
@[simp] theorem State.modArr_now (s : State) (p : Nat) (f : ArrayState → ArrayState) : (s.modArr p f).now = s.now := rfl
@[simp] theorem State.modArr_fuses (s : State) (p : Nat) (f : ArrayState → ArrayState) : (s.modArr p f).fuses = s.fuses := rfl
@[simp] theorem State.modArr_regs (s : State) (p : Nat) (f : ArrayState → ArrayState) : (s.modArr p f).regs = s.regs := rfl
@[simp] theorem State.modArr_rdLatch (s : State) (p : Nat) (f : ArrayState → ArrayState) : (s.modArr p f).rdLatch = s.rdLatch := rfl
@[simp] theorem State.modArr_wrLatch (s : State) (p : Nat) (f : ArrayState → ArrayState) : (s.modArr p f).wrLatch = s.wrLatch := rfl
@[simp] theorem State.modArr_mem (s : State) (p : Nat) (f : ArrayState → ArrayState) : (s.modArr p f).mem = s.mem := rfl
@[simp] theorem State.modArr_memst (s : State) (p : Nat) (f : ArrayState → ArrayState) : (s.modArr p f).memst = s.memst := rfl
@[simp] theorem State.modArr_cores (s : State) (p : Nat) (f : ArrayState → ArrayState) : (s.modArr p f).cores = s.cores := rfl
@[simp] theorem State.modArr_mesh (s : State) (p : Nat) (f : ArrayState → ArrayState) : (s.modArr p f).mesh = s.mesh := rfl
@[simp] theorem State.modArr_rings (s : State) (p : Nat) (f : ArrayState → ArrayState) : (s.modArr p f).rings = s.rings := rfl
@[simp] theorem State.modArr_life (s : State) (p : Nat) (f : ArrayState → ArrayState) : (s.modArr p f).life = s.life := rfl
@[simp] theorem State.modArr_ctxs (s : State) (p : Nat) (f : ArrayState → ArrayState) : (s.modArr p f).ctxs = s.ctxs := rfl
@[simp] theorem State.modArr_parts (s : State) (p : Nat) (f : ArrayState → ArrayState) : (s.modArr p f).parts = s.parts := rfl
@[simp] theorem State.modArr_signals (s : State) (p : Nat) (f : ArrayState → ArrayState) : (s.modArr p f).signals = s.signals := rfl
@[simp] theorem State.modArr_flint (s : State) (p : Nat) (f : ArrayState → ArrayState) : (s.modArr p f).flint = s.flint := rfl
@[simp] theorem State.modArr_integ (s : State) (p : Nat) (f : ArrayState → ArrayState) : (s.modArr p f).integ = s.integ := rfl
@[simp] theorem State.modArr_fab (s : State) (p : Nat) (f : ArrayState → ArrayState) : (s.modArr p f).fab = s.fab := rfl
@[simp] theorem State.modArr_time (s : State) (p : Nat) (f : ArrayState → ArrayState) : (s.modArr p f).time = s.time := rfl
@[simp] theorem State.modArr_power (s : State) (p : Nat) (f : ArrayState → ArrayState) : (s.modArr p f).power = s.power := rfl
@[simp] theorem State.modArr_brp (s : State) (p : Nat) (f : ArrayState → ArrayState) : (s.modArr p f).brp = s.brp := rfl
@[simp] theorem State.modArr_mgt (s : State) (p : Nat) (f : ArrayState → ArrayState) : (s.modArr p f).mgt = s.mgt := rfl
@[simp] theorem State.modArr_reply (s : State) (p : Nat) (f : ArrayState → ArrayState) : (s.modArr p f).reply = s.reply := rfl
@[simp] theorem State.modArr_out (s : State) (p : Nat) (f : ArrayState → ArrayState) : (s.modArr p f).out = s.out := rfl
@[simp] theorem State.modArr_abortSeq (s : State) (p : Nat) (f : ArrayState → ArrayState) : (s.modArr p f).abortSeq = s.abortSeq := rfl
@[simp] theorem State.modArr_fresh (s : State) (p : Nat) (f : ArrayState → ArrayState) : (s.modArr p f).fresh = s.fresh := rfl
@[simp] theorem State.modArr_reg (s : State) (p : Nat) (f : ArrayState → ArrayState) (o : Nat) : (s.modArr p f).reg o = s.reg o := rfl
@[simp] theorem State.modArr_core (s : State) (p : Nat) (f : ArrayState → ArrayState) (i : Nat) : (s.modArr p f).core i = s.core i := rfl
@[simp] theorem State.modArr_ctx (s : State) (p : Nat) (f : ArrayState → ArrayState) (i : Nat) : (s.modArr p f).ctx i = s.ctx i := rfl
@[simp] theorem State.modArr_part (s : State) (p : Nat) (f : ArrayState → ArrayState) (i : Nat) : (s.modArr p f).part i = s.part i := rfl
@[simp] theorem State.modArr_ring (s : State) (p : Nat) (f : ArrayState → ArrayState) (i : Nat) : (s.modArr p f).ring i = s.ring i := rfl
@[simp] theorem State.modArr_hport (s : State) (p : Nat) (f : ArrayState → ArrayState) (i : Nat) : (s.modArr p f).hport i = s.hport i := rfl
@[simp] theorem State.modArr_fport (s : State) (p : Nat) (f : ArrayState → ArrayState) (i : Nat) : (s.modArr p f).fport i = s.fport i := rfl
@[simp] theorem State.modArr_byte (s : State) (p : Nat) (f : ArrayState → ArrayState) (i : Nat) : (s.modArr p f).byte i = s.byte i := rfl
@[simp] theorem State.modArr_fld (s : State) (p : Nat) (f : ArrayState → ArrayState) (o h l : Nat) : (s.modArr p f).fld o h l = s.fld o h l := rfl
@[simp] theorem State.modArr_flag (s : State) (p : Nat) (f : ArrayState → ArrayState) (o j : Nat) : (s.modArr p f).flag o j = s.flag o j := rfl

@[simp] theorem State.modCtrl_pending (s : State) (p : Nat) (f : Ctrl → Ctrl) : (s.modCtrl p f).pending = s.pending := rfl
@[simp] theorem State.modCtrl_now (s : State) (p : Nat) (f : Ctrl → Ctrl) : (s.modCtrl p f).now = s.now := rfl
@[simp] theorem State.modCtrl_fuses (s : State) (p : Nat) (f : Ctrl → Ctrl) : (s.modCtrl p f).fuses = s.fuses := rfl
@[simp] theorem State.modCtrl_regs (s : State) (p : Nat) (f : Ctrl → Ctrl) : (s.modCtrl p f).regs = s.regs := rfl
@[simp] theorem State.modCtrl_rdLatch (s : State) (p : Nat) (f : Ctrl → Ctrl) : (s.modCtrl p f).rdLatch = s.rdLatch := rfl
@[simp] theorem State.modCtrl_wrLatch (s : State) (p : Nat) (f : Ctrl → Ctrl) : (s.modCtrl p f).wrLatch = s.wrLatch := rfl
@[simp] theorem State.modCtrl_mem (s : State) (p : Nat) (f : Ctrl → Ctrl) : (s.modCtrl p f).mem = s.mem := rfl
@[simp] theorem State.modCtrl_memst (s : State) (p : Nat) (f : Ctrl → Ctrl) : (s.modCtrl p f).memst = s.memst := rfl
@[simp] theorem State.modCtrl_cores (s : State) (p : Nat) (f : Ctrl → Ctrl) : (s.modCtrl p f).cores = s.cores := rfl
@[simp] theorem State.modCtrl_mesh (s : State) (p : Nat) (f : Ctrl → Ctrl) : (s.modCtrl p f).mesh = s.mesh := rfl
@[simp] theorem State.modCtrl_rings (s : State) (p : Nat) (f : Ctrl → Ctrl) : (s.modCtrl p f).rings = s.rings := rfl
@[simp] theorem State.modCtrl_life (s : State) (p : Nat) (f : Ctrl → Ctrl) : (s.modCtrl p f).life = s.life := rfl
@[simp] theorem State.modCtrl_ctxs (s : State) (p : Nat) (f : Ctrl → Ctrl) : (s.modCtrl p f).ctxs = s.ctxs := rfl
@[simp] theorem State.modCtrl_parts (s : State) (p : Nat) (f : Ctrl → Ctrl) : (s.modCtrl p f).parts = s.parts := rfl
@[simp] theorem State.modCtrl_signals (s : State) (p : Nat) (f : Ctrl → Ctrl) : (s.modCtrl p f).signals = s.signals := rfl
@[simp] theorem State.modCtrl_flint (s : State) (p : Nat) (f : Ctrl → Ctrl) : (s.modCtrl p f).flint = s.flint := rfl
@[simp] theorem State.modCtrl_integ (s : State) (p : Nat) (f : Ctrl → Ctrl) : (s.modCtrl p f).integ = s.integ := rfl
@[simp] theorem State.modCtrl_fab (s : State) (p : Nat) (f : Ctrl → Ctrl) : (s.modCtrl p f).fab = s.fab := rfl
@[simp] theorem State.modCtrl_time (s : State) (p : Nat) (f : Ctrl → Ctrl) : (s.modCtrl p f).time = s.time := rfl
@[simp] theorem State.modCtrl_power (s : State) (p : Nat) (f : Ctrl → Ctrl) : (s.modCtrl p f).power = s.power := rfl
@[simp] theorem State.modCtrl_brp (s : State) (p : Nat) (f : Ctrl → Ctrl) : (s.modCtrl p f).brp = s.brp := rfl
@[simp] theorem State.modCtrl_mgt (s : State) (p : Nat) (f : Ctrl → Ctrl) : (s.modCtrl p f).mgt = s.mgt := rfl
@[simp] theorem State.modCtrl_reply (s : State) (p : Nat) (f : Ctrl → Ctrl) : (s.modCtrl p f).reply = s.reply := rfl
@[simp] theorem State.modCtrl_out (s : State) (p : Nat) (f : Ctrl → Ctrl) : (s.modCtrl p f).out = s.out := rfl
@[simp] theorem State.modCtrl_abortSeq (s : State) (p : Nat) (f : Ctrl → Ctrl) : (s.modCtrl p f).abortSeq = s.abortSeq := rfl
@[simp] theorem State.modCtrl_fresh (s : State) (p : Nat) (f : Ctrl → Ctrl) : (s.modCtrl p f).fresh = s.fresh := rfl
@[simp] theorem State.modCtrl_reg (s : State) (p : Nat) (f : Ctrl → Ctrl) (o : Nat) : (s.modCtrl p f).reg o = s.reg o := rfl
@[simp] theorem State.modCtrl_core (s : State) (p : Nat) (f : Ctrl → Ctrl) (i : Nat) : (s.modCtrl p f).core i = s.core i := rfl
@[simp] theorem State.modCtrl_ctx (s : State) (p : Nat) (f : Ctrl → Ctrl) (i : Nat) : (s.modCtrl p f).ctx i = s.ctx i := rfl
@[simp] theorem State.modCtrl_part (s : State) (p : Nat) (f : Ctrl → Ctrl) (i : Nat) : (s.modCtrl p f).part i = s.part i := rfl
@[simp] theorem State.modCtrl_ring (s : State) (p : Nat) (f : Ctrl → Ctrl) (i : Nat) : (s.modCtrl p f).ring i = s.ring i := rfl
@[simp] theorem State.modCtrl_hport (s : State) (p : Nat) (f : Ctrl → Ctrl) (i : Nat) : (s.modCtrl p f).hport i = s.hport i := rfl
@[simp] theorem State.modCtrl_fport (s : State) (p : Nat) (f : Ctrl → Ctrl) (i : Nat) : (s.modCtrl p f).fport i = s.fport i := rfl
@[simp] theorem State.modCtrl_byte (s : State) (p : Nat) (f : Ctrl → Ctrl) (i : Nat) : (s.modCtrl p f).byte i = s.byte i := rfl
@[simp] theorem State.modCtrl_fld (s : State) (p : Nat) (f : Ctrl → Ctrl) (o h l : Nat) : (s.modCtrl p f).fld o h l = s.fld o h l := rfl
@[simp] theorem State.modCtrl_flag (s : State) (p : Nat) (f : Ctrl → Ctrl) (o j : Nat) : (s.modCtrl p f).flag o j = s.flag o j := rfl

@[simp] theorem State.setCore_pending (s : State) (id : Nat) (c : CoreState) : (s.setCore id c).pending = s.pending := rfl
@[simp] theorem State.setCore_now (s : State) (id : Nat) (c : CoreState) : (s.setCore id c).now = s.now := rfl
@[simp] theorem State.setCore_fuses (s : State) (id : Nat) (c : CoreState) : (s.setCore id c).fuses = s.fuses := rfl
@[simp] theorem State.setCore_regs (s : State) (id : Nat) (c : CoreState) : (s.setCore id c).regs = s.regs := rfl
@[simp] theorem State.setCore_rdLatch (s : State) (id : Nat) (c : CoreState) : (s.setCore id c).rdLatch = s.rdLatch := rfl
@[simp] theorem State.setCore_wrLatch (s : State) (id : Nat) (c : CoreState) : (s.setCore id c).wrLatch = s.wrLatch := rfl
@[simp] theorem State.setCore_mem (s : State) (id : Nat) (c : CoreState) : (s.setCore id c).mem = s.mem := rfl
@[simp] theorem State.setCore_memst (s : State) (id : Nat) (c : CoreState) : (s.setCore id c).memst = s.memst := rfl
@[simp] theorem State.setCore_arrays (s : State) (id : Nat) (c : CoreState) : (s.setCore id c).arrays = s.arrays := rfl
@[simp] theorem State.setCore_mesh (s : State) (id : Nat) (c : CoreState) : (s.setCore id c).mesh = s.mesh := rfl
@[simp] theorem State.setCore_rings (s : State) (id : Nat) (c : CoreState) : (s.setCore id c).rings = s.rings := rfl
@[simp] theorem State.setCore_life (s : State) (id : Nat) (c : CoreState) : (s.setCore id c).life = s.life := rfl
@[simp] theorem State.setCore_ctxs (s : State) (id : Nat) (c : CoreState) : (s.setCore id c).ctxs = s.ctxs := rfl
@[simp] theorem State.setCore_parts (s : State) (id : Nat) (c : CoreState) : (s.setCore id c).parts = s.parts := rfl
@[simp] theorem State.setCore_signals (s : State) (id : Nat) (c : CoreState) : (s.setCore id c).signals = s.signals := rfl
@[simp] theorem State.setCore_flint (s : State) (id : Nat) (c : CoreState) : (s.setCore id c).flint = s.flint := rfl
@[simp] theorem State.setCore_integ (s : State) (id : Nat) (c : CoreState) : (s.setCore id c).integ = s.integ := rfl
@[simp] theorem State.setCore_fab (s : State) (id : Nat) (c : CoreState) : (s.setCore id c).fab = s.fab := rfl
@[simp] theorem State.setCore_time (s : State) (id : Nat) (c : CoreState) : (s.setCore id c).time = s.time := rfl
@[simp] theorem State.setCore_power (s : State) (id : Nat) (c : CoreState) : (s.setCore id c).power = s.power := rfl
@[simp] theorem State.setCore_brp (s : State) (id : Nat) (c : CoreState) : (s.setCore id c).brp = s.brp := rfl
@[simp] theorem State.setCore_mgt (s : State) (id : Nat) (c : CoreState) : (s.setCore id c).mgt = s.mgt := rfl
@[simp] theorem State.setCore_reply (s : State) (id : Nat) (c : CoreState) : (s.setCore id c).reply = s.reply := rfl
@[simp] theorem State.setCore_out (s : State) (id : Nat) (c : CoreState) : (s.setCore id c).out = s.out := rfl
@[simp] theorem State.setCore_abortSeq (s : State) (id : Nat) (c : CoreState) : (s.setCore id c).abortSeq = s.abortSeq := rfl
@[simp] theorem State.setCore_fresh (s : State) (id : Nat) (c : CoreState) : (s.setCore id c).fresh = s.fresh := rfl
@[simp] theorem State.setCore_reg (s : State) (id : Nat) (c : CoreState) (o : Nat) : (s.setCore id c).reg o = s.reg o := rfl
@[simp] theorem State.setCore_arr (s : State) (id : Nat) (c : CoreState) (i : Nat) : (s.setCore id c).arr i = s.arr i := rfl
@[simp] theorem State.setCore_ctx (s : State) (id : Nat) (c : CoreState) (i : Nat) : (s.setCore id c).ctx i = s.ctx i := rfl
@[simp] theorem State.setCore_part (s : State) (id : Nat) (c : CoreState) (i : Nat) : (s.setCore id c).part i = s.part i := rfl
@[simp] theorem State.setCore_ring (s : State) (id : Nat) (c : CoreState) (i : Nat) : (s.setCore id c).ring i = s.ring i := rfl
@[simp] theorem State.setCore_hport (s : State) (id : Nat) (c : CoreState) (i : Nat) : (s.setCore id c).hport i = s.hport i := rfl
@[simp] theorem State.setCore_fport (s : State) (id : Nat) (c : CoreState) (i : Nat) : (s.setCore id c).fport i = s.fport i := rfl
@[simp] theorem State.setCore_byte (s : State) (id : Nat) (c : CoreState) (i : Nat) : (s.setCore id c).byte i = s.byte i := rfl
@[simp] theorem State.setCore_fld (s : State) (id : Nat) (c : CoreState) (o h l : Nat) : (s.setCore id c).fld o h l = s.fld o h l := rfl
@[simp] theorem State.setCore_flag (s : State) (id : Nat) (c : CoreState) (o j : Nat) : (s.setCore id c).flag o j = s.flag o j := rfl

@[simp] theorem State.setCtx_pending (s : State) (c : Nat) (x : CtxState) : (s.setCtx c x).pending = s.pending := rfl
@[simp] theorem State.setCtx_now (s : State) (c : Nat) (x : CtxState) : (s.setCtx c x).now = s.now := rfl
@[simp] theorem State.setCtx_fuses (s : State) (c : Nat) (x : CtxState) : (s.setCtx c x).fuses = s.fuses := rfl
@[simp] theorem State.setCtx_regs (s : State) (c : Nat) (x : CtxState) : (s.setCtx c x).regs = s.regs := rfl
@[simp] theorem State.setCtx_rdLatch (s : State) (c : Nat) (x : CtxState) : (s.setCtx c x).rdLatch = s.rdLatch := rfl
@[simp] theorem State.setCtx_wrLatch (s : State) (c : Nat) (x : CtxState) : (s.setCtx c x).wrLatch = s.wrLatch := rfl
@[simp] theorem State.setCtx_mem (s : State) (c : Nat) (x : CtxState) : (s.setCtx c x).mem = s.mem := rfl
@[simp] theorem State.setCtx_memst (s : State) (c : Nat) (x : CtxState) : (s.setCtx c x).memst = s.memst := rfl
@[simp] theorem State.setCtx_arrays (s : State) (c : Nat) (x : CtxState) : (s.setCtx c x).arrays = s.arrays := rfl
@[simp] theorem State.setCtx_cores (s : State) (c : Nat) (x : CtxState) : (s.setCtx c x).cores = s.cores := rfl
@[simp] theorem State.setCtx_mesh (s : State) (c : Nat) (x : CtxState) : (s.setCtx c x).mesh = s.mesh := rfl
@[simp] theorem State.setCtx_rings (s : State) (c : Nat) (x : CtxState) : (s.setCtx c x).rings = s.rings := rfl
@[simp] theorem State.setCtx_life (s : State) (c : Nat) (x : CtxState) : (s.setCtx c x).life = s.life := rfl
@[simp] theorem State.setCtx_parts (s : State) (c : Nat) (x : CtxState) : (s.setCtx c x).parts = s.parts := rfl
@[simp] theorem State.setCtx_signals (s : State) (c : Nat) (x : CtxState) : (s.setCtx c x).signals = s.signals := rfl
@[simp] theorem State.setCtx_flint (s : State) (c : Nat) (x : CtxState) : (s.setCtx c x).flint = s.flint := rfl
@[simp] theorem State.setCtx_integ (s : State) (c : Nat) (x : CtxState) : (s.setCtx c x).integ = s.integ := rfl
@[simp] theorem State.setCtx_fab (s : State) (c : Nat) (x : CtxState) : (s.setCtx c x).fab = s.fab := rfl
@[simp] theorem State.setCtx_time (s : State) (c : Nat) (x : CtxState) : (s.setCtx c x).time = s.time := rfl
@[simp] theorem State.setCtx_power (s : State) (c : Nat) (x : CtxState) : (s.setCtx c x).power = s.power := rfl
@[simp] theorem State.setCtx_brp (s : State) (c : Nat) (x : CtxState) : (s.setCtx c x).brp = s.brp := rfl
@[simp] theorem State.setCtx_mgt (s : State) (c : Nat) (x : CtxState) : (s.setCtx c x).mgt = s.mgt := rfl
@[simp] theorem State.setCtx_reply (s : State) (c : Nat) (x : CtxState) : (s.setCtx c x).reply = s.reply := rfl
@[simp] theorem State.setCtx_out (s : State) (c : Nat) (x : CtxState) : (s.setCtx c x).out = s.out := rfl
@[simp] theorem State.setCtx_abortSeq (s : State) (c : Nat) (x : CtxState) : (s.setCtx c x).abortSeq = s.abortSeq := rfl
@[simp] theorem State.setCtx_fresh (s : State) (c : Nat) (x : CtxState) : (s.setCtx c x).fresh = s.fresh := rfl
@[simp] theorem State.setCtx_reg (s : State) (c : Nat) (x : CtxState) (o : Nat) : (s.setCtx c x).reg o = s.reg o := rfl
@[simp] theorem State.setCtx_arr (s : State) (c : Nat) (x : CtxState) (i : Nat) : (s.setCtx c x).arr i = s.arr i := rfl
@[simp] theorem State.setCtx_core (s : State) (c : Nat) (x : CtxState) (i : Nat) : (s.setCtx c x).core i = s.core i := rfl
@[simp] theorem State.setCtx_part (s : State) (c : Nat) (x : CtxState) (i : Nat) : (s.setCtx c x).part i = s.part i := rfl
@[simp] theorem State.setCtx_ring (s : State) (c : Nat) (x : CtxState) (i : Nat) : (s.setCtx c x).ring i = s.ring i := rfl
@[simp] theorem State.setCtx_hport (s : State) (c : Nat) (x : CtxState) (i : Nat) : (s.setCtx c x).hport i = s.hport i := rfl
@[simp] theorem State.setCtx_fport (s : State) (c : Nat) (x : CtxState) (i : Nat) : (s.setCtx c x).fport i = s.fport i := rfl
@[simp] theorem State.setCtx_byte (s : State) (c : Nat) (x : CtxState) (i : Nat) : (s.setCtx c x).byte i = s.byte i := rfl
@[simp] theorem State.setCtx_fld (s : State) (c : Nat) (x : CtxState) (o h l : Nat) : (s.setCtx c x).fld o h l = s.fld o h l := rfl
@[simp] theorem State.setCtx_flag (s : State) (c : Nat) (x : CtxState) (o j : Nat) : (s.setCtx c x).flag o j = s.flag o j := rfl

@[simp] theorem State.setPart_pending (s : State) (q : Nat) (x : PartState) : (s.setPart q x).pending = s.pending := rfl
@[simp] theorem State.setPart_now (s : State) (q : Nat) (x : PartState) : (s.setPart q x).now = s.now := rfl
@[simp] theorem State.setPart_fuses (s : State) (q : Nat) (x : PartState) : (s.setPart q x).fuses = s.fuses := rfl
@[simp] theorem State.setPart_regs (s : State) (q : Nat) (x : PartState) : (s.setPart q x).regs = s.regs := rfl
@[simp] theorem State.setPart_rdLatch (s : State) (q : Nat) (x : PartState) : (s.setPart q x).rdLatch = s.rdLatch := rfl
@[simp] theorem State.setPart_wrLatch (s : State) (q : Nat) (x : PartState) : (s.setPart q x).wrLatch = s.wrLatch := rfl
@[simp] theorem State.setPart_mem (s : State) (q : Nat) (x : PartState) : (s.setPart q x).mem = s.mem := rfl
@[simp] theorem State.setPart_memst (s : State) (q : Nat) (x : PartState) : (s.setPart q x).memst = s.memst := rfl
@[simp] theorem State.setPart_arrays (s : State) (q : Nat) (x : PartState) : (s.setPart q x).arrays = s.arrays := rfl
@[simp] theorem State.setPart_cores (s : State) (q : Nat) (x : PartState) : (s.setPart q x).cores = s.cores := rfl
@[simp] theorem State.setPart_mesh (s : State) (q : Nat) (x : PartState) : (s.setPart q x).mesh = s.mesh := rfl
@[simp] theorem State.setPart_rings (s : State) (q : Nat) (x : PartState) : (s.setPart q x).rings = s.rings := rfl
@[simp] theorem State.setPart_life (s : State) (q : Nat) (x : PartState) : (s.setPart q x).life = s.life := rfl
@[simp] theorem State.setPart_ctxs (s : State) (q : Nat) (x : PartState) : (s.setPart q x).ctxs = s.ctxs := rfl
@[simp] theorem State.setPart_signals (s : State) (q : Nat) (x : PartState) : (s.setPart q x).signals = s.signals := rfl
@[simp] theorem State.setPart_flint (s : State) (q : Nat) (x : PartState) : (s.setPart q x).flint = s.flint := rfl
@[simp] theorem State.setPart_integ (s : State) (q : Nat) (x : PartState) : (s.setPart q x).integ = s.integ := rfl
@[simp] theorem State.setPart_fab (s : State) (q : Nat) (x : PartState) : (s.setPart q x).fab = s.fab := rfl
@[simp] theorem State.setPart_time (s : State) (q : Nat) (x : PartState) : (s.setPart q x).time = s.time := rfl
@[simp] theorem State.setPart_power (s : State) (q : Nat) (x : PartState) : (s.setPart q x).power = s.power := rfl
@[simp] theorem State.setPart_brp (s : State) (q : Nat) (x : PartState) : (s.setPart q x).brp = s.brp := rfl
@[simp] theorem State.setPart_mgt (s : State) (q : Nat) (x : PartState) : (s.setPart q x).mgt = s.mgt := rfl
@[simp] theorem State.setPart_reply (s : State) (q : Nat) (x : PartState) : (s.setPart q x).reply = s.reply := rfl
@[simp] theorem State.setPart_out (s : State) (q : Nat) (x : PartState) : (s.setPart q x).out = s.out := rfl
@[simp] theorem State.setPart_abortSeq (s : State) (q : Nat) (x : PartState) : (s.setPart q x).abortSeq = s.abortSeq := rfl
@[simp] theorem State.setPart_fresh (s : State) (q : Nat) (x : PartState) : (s.setPart q x).fresh = s.fresh := rfl
@[simp] theorem State.setPart_reg (s : State) (q : Nat) (x : PartState) (o : Nat) : (s.setPart q x).reg o = s.reg o := rfl
@[simp] theorem State.setPart_arr (s : State) (q : Nat) (x : PartState) (i : Nat) : (s.setPart q x).arr i = s.arr i := rfl
@[simp] theorem State.setPart_core (s : State) (q : Nat) (x : PartState) (i : Nat) : (s.setPart q x).core i = s.core i := rfl
@[simp] theorem State.setPart_ctx (s : State) (q : Nat) (x : PartState) (i : Nat) : (s.setPart q x).ctx i = s.ctx i := rfl
@[simp] theorem State.setPart_ring (s : State) (q : Nat) (x : PartState) (i : Nat) : (s.setPart q x).ring i = s.ring i := rfl
@[simp] theorem State.setPart_hport (s : State) (q : Nat) (x : PartState) (i : Nat) : (s.setPart q x).hport i = s.hport i := rfl
@[simp] theorem State.setPart_fport (s : State) (q : Nat) (x : PartState) (i : Nat) : (s.setPart q x).fport i = s.fport i := rfl
@[simp] theorem State.setPart_byte (s : State) (q : Nat) (x : PartState) (i : Nat) : (s.setPart q x).byte i = s.byte i := rfl
@[simp] theorem State.setPart_fld (s : State) (q : Nat) (x : PartState) (o h l : Nat) : (s.setPart q x).fld o h l = s.fld o h l := rfl
@[simp] theorem State.setPart_flag (s : State) (q : Nat) (x : PartState) (o j : Nat) : (s.setPart q x).flag o j = s.flag o j := rfl

@[simp] theorem State.setRing_pending (s : State) (k : Nat) (r : Ring) : (s.setRing k r).pending = s.pending := rfl
@[simp] theorem State.setRing_now (s : State) (k : Nat) (r : Ring) : (s.setRing k r).now = s.now := rfl
@[simp] theorem State.setRing_fuses (s : State) (k : Nat) (r : Ring) : (s.setRing k r).fuses = s.fuses := rfl
@[simp] theorem State.setRing_regs (s : State) (k : Nat) (r : Ring) : (s.setRing k r).regs = s.regs := rfl
@[simp] theorem State.setRing_rdLatch (s : State) (k : Nat) (r : Ring) : (s.setRing k r).rdLatch = s.rdLatch := rfl
@[simp] theorem State.setRing_wrLatch (s : State) (k : Nat) (r : Ring) : (s.setRing k r).wrLatch = s.wrLatch := rfl
@[simp] theorem State.setRing_mem (s : State) (k : Nat) (r : Ring) : (s.setRing k r).mem = s.mem := rfl
@[simp] theorem State.setRing_memst (s : State) (k : Nat) (r : Ring) : (s.setRing k r).memst = s.memst := rfl
@[simp] theorem State.setRing_arrays (s : State) (k : Nat) (r : Ring) : (s.setRing k r).arrays = s.arrays := rfl
@[simp] theorem State.setRing_cores (s : State) (k : Nat) (r : Ring) : (s.setRing k r).cores = s.cores := rfl
@[simp] theorem State.setRing_mesh (s : State) (k : Nat) (r : Ring) : (s.setRing k r).mesh = s.mesh := rfl
@[simp] theorem State.setRing_life (s : State) (k : Nat) (r : Ring) : (s.setRing k r).life = s.life := rfl
@[simp] theorem State.setRing_ctxs (s : State) (k : Nat) (r : Ring) : (s.setRing k r).ctxs = s.ctxs := rfl
@[simp] theorem State.setRing_parts (s : State) (k : Nat) (r : Ring) : (s.setRing k r).parts = s.parts := rfl
@[simp] theorem State.setRing_signals (s : State) (k : Nat) (r : Ring) : (s.setRing k r).signals = s.signals := rfl
@[simp] theorem State.setRing_flint (s : State) (k : Nat) (r : Ring) : (s.setRing k r).flint = s.flint := rfl
@[simp] theorem State.setRing_integ (s : State) (k : Nat) (r : Ring) : (s.setRing k r).integ = s.integ := rfl
@[simp] theorem State.setRing_fab (s : State) (k : Nat) (r : Ring) : (s.setRing k r).fab = s.fab := rfl
@[simp] theorem State.setRing_time (s : State) (k : Nat) (r : Ring) : (s.setRing k r).time = s.time := rfl
@[simp] theorem State.setRing_power (s : State) (k : Nat) (r : Ring) : (s.setRing k r).power = s.power := rfl
@[simp] theorem State.setRing_brp (s : State) (k : Nat) (r : Ring) : (s.setRing k r).brp = s.brp := rfl
@[simp] theorem State.setRing_mgt (s : State) (k : Nat) (r : Ring) : (s.setRing k r).mgt = s.mgt := rfl
@[simp] theorem State.setRing_reply (s : State) (k : Nat) (r : Ring) : (s.setRing k r).reply = s.reply := rfl
@[simp] theorem State.setRing_out (s : State) (k : Nat) (r : Ring) : (s.setRing k r).out = s.out := rfl
@[simp] theorem State.setRing_abortSeq (s : State) (k : Nat) (r : Ring) : (s.setRing k r).abortSeq = s.abortSeq := rfl
@[simp] theorem State.setRing_fresh (s : State) (k : Nat) (r : Ring) : (s.setRing k r).fresh = s.fresh := rfl
@[simp] theorem State.setRing_reg (s : State) (k : Nat) (r : Ring) (o : Nat) : (s.setRing k r).reg o = s.reg o := rfl
@[simp] theorem State.setRing_arr (s : State) (k : Nat) (r : Ring) (i : Nat) : (s.setRing k r).arr i = s.arr i := rfl
@[simp] theorem State.setRing_core (s : State) (k : Nat) (r : Ring) (i : Nat) : (s.setRing k r).core i = s.core i := rfl
@[simp] theorem State.setRing_ctx (s : State) (k : Nat) (r : Ring) (i : Nat) : (s.setRing k r).ctx i = s.ctx i := rfl
@[simp] theorem State.setRing_part (s : State) (k : Nat) (r : Ring) (i : Nat) : (s.setRing k r).part i = s.part i := rfl
@[simp] theorem State.setRing_hport (s : State) (k : Nat) (r : Ring) (i : Nat) : (s.setRing k r).hport i = s.hport i := rfl
@[simp] theorem State.setRing_fport (s : State) (k : Nat) (r : Ring) (i : Nat) : (s.setRing k r).fport i = s.fport i := rfl
@[simp] theorem State.setRing_byte (s : State) (k : Nat) (r : Ring) (i : Nat) : (s.setRing k r).byte i = s.byte i := rfl
@[simp] theorem State.setRing_fld (s : State) (k : Nat) (r : Ring) (o h l : Nat) : (s.setRing k r).fld o h l = s.fld o h l := rfl
@[simp] theorem State.setRing_flag (s : State) (k : Nat) (r : Ring) (o j : Nat) : (s.setRing k r).flag o j = s.flag o j := rfl

@[simp] theorem State.setHport_pending (s : State) (h : Nat) (x : HostPort) : (s.setHport h x).pending = s.pending := rfl
@[simp] theorem State.setHport_now (s : State) (h : Nat) (x : HostPort) : (s.setHport h x).now = s.now := rfl
@[simp] theorem State.setHport_fuses (s : State) (h : Nat) (x : HostPort) : (s.setHport h x).fuses = s.fuses := rfl
@[simp] theorem State.setHport_regs (s : State) (h : Nat) (x : HostPort) : (s.setHport h x).regs = s.regs := rfl
@[simp] theorem State.setHport_rdLatch (s : State) (h : Nat) (x : HostPort) : (s.setHport h x).rdLatch = s.rdLatch := rfl
@[simp] theorem State.setHport_wrLatch (s : State) (h : Nat) (x : HostPort) : (s.setHport h x).wrLatch = s.wrLatch := rfl
@[simp] theorem State.setHport_mem (s : State) (h : Nat) (x : HostPort) : (s.setHport h x).mem = s.mem := rfl
@[simp] theorem State.setHport_memst (s : State) (h : Nat) (x : HostPort) : (s.setHport h x).memst = s.memst := rfl
@[simp] theorem State.setHport_arrays (s : State) (h : Nat) (x : HostPort) : (s.setHport h x).arrays = s.arrays := rfl
@[simp] theorem State.setHport_cores (s : State) (h : Nat) (x : HostPort) : (s.setHport h x).cores = s.cores := rfl
@[simp] theorem State.setHport_mesh (s : State) (h : Nat) (x : HostPort) : (s.setHport h x).mesh = s.mesh := rfl
@[simp] theorem State.setHport_rings (s : State) (h : Nat) (x : HostPort) : (s.setHport h x).rings = s.rings := rfl
@[simp] theorem State.setHport_life (s : State) (h : Nat) (x : HostPort) : (s.setHport h x).life = s.life := rfl
@[simp] theorem State.setHport_ctxs (s : State) (h : Nat) (x : HostPort) : (s.setHport h x).ctxs = s.ctxs := rfl
@[simp] theorem State.setHport_parts (s : State) (h : Nat) (x : HostPort) : (s.setHport h x).parts = s.parts := rfl
@[simp] theorem State.setHport_signals (s : State) (h : Nat) (x : HostPort) : (s.setHport h x).signals = s.signals := rfl
@[simp] theorem State.setHport_flint (s : State) (h : Nat) (x : HostPort) : (s.setHport h x).flint = s.flint := rfl
@[simp] theorem State.setHport_integ (s : State) (h : Nat) (x : HostPort) : (s.setHport h x).integ = s.integ := rfl
@[simp] theorem State.setHport_time (s : State) (h : Nat) (x : HostPort) : (s.setHport h x).time = s.time := rfl
@[simp] theorem State.setHport_power (s : State) (h : Nat) (x : HostPort) : (s.setHport h x).power = s.power := rfl
@[simp] theorem State.setHport_brp (s : State) (h : Nat) (x : HostPort) : (s.setHport h x).brp = s.brp := rfl
@[simp] theorem State.setHport_mgt (s : State) (h : Nat) (x : HostPort) : (s.setHport h x).mgt = s.mgt := rfl
@[simp] theorem State.setHport_reply (s : State) (h : Nat) (x : HostPort) : (s.setHport h x).reply = s.reply := rfl
@[simp] theorem State.setHport_out (s : State) (h : Nat) (x : HostPort) : (s.setHport h x).out = s.out := rfl
@[simp] theorem State.setHport_abortSeq (s : State) (h : Nat) (x : HostPort) : (s.setHport h x).abortSeq = s.abortSeq := rfl
@[simp] theorem State.setHport_fresh (s : State) (h : Nat) (x : HostPort) : (s.setHport h x).fresh = s.fresh := rfl
@[simp] theorem State.setHport_reg (s : State) (h : Nat) (x : HostPort) (o : Nat) : (s.setHport h x).reg o = s.reg o := rfl
@[simp] theorem State.setHport_arr (s : State) (h : Nat) (x : HostPort) (i : Nat) : (s.setHport h x).arr i = s.arr i := rfl
@[simp] theorem State.setHport_core (s : State) (h : Nat) (x : HostPort) (i : Nat) : (s.setHport h x).core i = s.core i := rfl
@[simp] theorem State.setHport_ctx (s : State) (h : Nat) (x : HostPort) (i : Nat) : (s.setHport h x).ctx i = s.ctx i := rfl
@[simp] theorem State.setHport_part (s : State) (h : Nat) (x : HostPort) (i : Nat) : (s.setHport h x).part i = s.part i := rfl
@[simp] theorem State.setHport_ring (s : State) (h : Nat) (x : HostPort) (i : Nat) : (s.setHport h x).ring i = s.ring i := rfl
@[simp] theorem State.setHport_byte (s : State) (h : Nat) (x : HostPort) (i : Nat) : (s.setHport h x).byte i = s.byte i := rfl
@[simp] theorem State.setHport_fld (s : State) (h : Nat) (x : HostPort) (o h l : Nat) : (s.setHport h x).fld o h l = s.fld o h l := rfl
@[simp] theorem State.setHport_flag (s : State) (h : Nat) (x : HostPort) (o j : Nat) : (s.setHport h x).flag o j = s.flag o j := rfl

@[simp] theorem State.setFport_pending (s : State) (f : Nat) (x : FabPortState) : (s.setFport f x).pending = s.pending := rfl
@[simp] theorem State.setFport_now (s : State) (f : Nat) (x : FabPortState) : (s.setFport f x).now = s.now := rfl
@[simp] theorem State.setFport_fuses (s : State) (f : Nat) (x : FabPortState) : (s.setFport f x).fuses = s.fuses := rfl
@[simp] theorem State.setFport_regs (s : State) (f : Nat) (x : FabPortState) : (s.setFport f x).regs = s.regs := rfl
@[simp] theorem State.setFport_rdLatch (s : State) (f : Nat) (x : FabPortState) : (s.setFport f x).rdLatch = s.rdLatch := rfl
@[simp] theorem State.setFport_wrLatch (s : State) (f : Nat) (x : FabPortState) : (s.setFport f x).wrLatch = s.wrLatch := rfl
@[simp] theorem State.setFport_mem (s : State) (f : Nat) (x : FabPortState) : (s.setFport f x).mem = s.mem := rfl
@[simp] theorem State.setFport_memst (s : State) (f : Nat) (x : FabPortState) : (s.setFport f x).memst = s.memst := rfl
@[simp] theorem State.setFport_arrays (s : State) (f : Nat) (x : FabPortState) : (s.setFport f x).arrays = s.arrays := rfl
@[simp] theorem State.setFport_cores (s : State) (f : Nat) (x : FabPortState) : (s.setFport f x).cores = s.cores := rfl
@[simp] theorem State.setFport_mesh (s : State) (f : Nat) (x : FabPortState) : (s.setFport f x).mesh = s.mesh := rfl
@[simp] theorem State.setFport_rings (s : State) (f : Nat) (x : FabPortState) : (s.setFport f x).rings = s.rings := rfl
@[simp] theorem State.setFport_life (s : State) (f : Nat) (x : FabPortState) : (s.setFport f x).life = s.life := rfl
@[simp] theorem State.setFport_ctxs (s : State) (f : Nat) (x : FabPortState) : (s.setFport f x).ctxs = s.ctxs := rfl
@[simp] theorem State.setFport_parts (s : State) (f : Nat) (x : FabPortState) : (s.setFport f x).parts = s.parts := rfl
@[simp] theorem State.setFport_signals (s : State) (f : Nat) (x : FabPortState) : (s.setFport f x).signals = s.signals := rfl
@[simp] theorem State.setFport_flint (s : State) (f : Nat) (x : FabPortState) : (s.setFport f x).flint = s.flint := rfl
@[simp] theorem State.setFport_integ (s : State) (f : Nat) (x : FabPortState) : (s.setFport f x).integ = s.integ := rfl
@[simp] theorem State.setFport_time (s : State) (f : Nat) (x : FabPortState) : (s.setFport f x).time = s.time := rfl
@[simp] theorem State.setFport_power (s : State) (f : Nat) (x : FabPortState) : (s.setFport f x).power = s.power := rfl
@[simp] theorem State.setFport_brp (s : State) (f : Nat) (x : FabPortState) : (s.setFport f x).brp = s.brp := rfl
@[simp] theorem State.setFport_mgt (s : State) (f : Nat) (x : FabPortState) : (s.setFport f x).mgt = s.mgt := rfl
@[simp] theorem State.setFport_reply (s : State) (f : Nat) (x : FabPortState) : (s.setFport f x).reply = s.reply := rfl
@[simp] theorem State.setFport_out (s : State) (f : Nat) (x : FabPortState) : (s.setFport f x).out = s.out := rfl
@[simp] theorem State.setFport_abortSeq (s : State) (f : Nat) (x : FabPortState) : (s.setFport f x).abortSeq = s.abortSeq := rfl
@[simp] theorem State.setFport_fresh (s : State) (f : Nat) (x : FabPortState) : (s.setFport f x).fresh = s.fresh := rfl
@[simp] theorem State.setFport_reg (s : State) (f : Nat) (x : FabPortState) (o : Nat) : (s.setFport f x).reg o = s.reg o := rfl
@[simp] theorem State.setFport_arr (s : State) (f : Nat) (x : FabPortState) (i : Nat) : (s.setFport f x).arr i = s.arr i := rfl
@[simp] theorem State.setFport_core (s : State) (f : Nat) (x : FabPortState) (i : Nat) : (s.setFport f x).core i = s.core i := rfl
@[simp] theorem State.setFport_ctx (s : State) (f : Nat) (x : FabPortState) (i : Nat) : (s.setFport f x).ctx i = s.ctx i := rfl
@[simp] theorem State.setFport_part (s : State) (f : Nat) (x : FabPortState) (i : Nat) : (s.setFport f x).part i = s.part i := rfl
@[simp] theorem State.setFport_ring (s : State) (f : Nat) (x : FabPortState) (i : Nat) : (s.setFport f x).ring i = s.ring i := rfl
@[simp] theorem State.setFport_byte (s : State) (f : Nat) (x : FabPortState) (i : Nat) : (s.setFport f x).byte i = s.byte i := rfl
@[simp] theorem State.setFport_fld (s : State) (f : Nat) (x : FabPortState) (o h l : Nat) : (s.setFport f x).fld o h l = s.fld o h l := rfl
@[simp] theorem State.setFport_flag (s : State) (f : Nat) (x : FabPortState) (o j : Nat) : (s.setFport f x).flag o j = s.flag o j := rfl

@[simp] theorem State.setSteps_pending (s : State) (c : Nat) (x : StepState) : (s.setSteps c x).pending = s.pending := rfl
@[simp] theorem State.setSteps_now (s : State) (c : Nat) (x : StepState) : (s.setSteps c x).now = s.now := rfl
@[simp] theorem State.setSteps_fuses (s : State) (c : Nat) (x : StepState) : (s.setSteps c x).fuses = s.fuses := rfl
@[simp] theorem State.setSteps_regs (s : State) (c : Nat) (x : StepState) : (s.setSteps c x).regs = s.regs := rfl
@[simp] theorem State.setSteps_rdLatch (s : State) (c : Nat) (x : StepState) : (s.setSteps c x).rdLatch = s.rdLatch := rfl
@[simp] theorem State.setSteps_wrLatch (s : State) (c : Nat) (x : StepState) : (s.setSteps c x).wrLatch = s.wrLatch := rfl
@[simp] theorem State.setSteps_mem (s : State) (c : Nat) (x : StepState) : (s.setSteps c x).mem = s.mem := rfl
@[simp] theorem State.setSteps_memst (s : State) (c : Nat) (x : StepState) : (s.setSteps c x).memst = s.memst := rfl
@[simp] theorem State.setSteps_arrays (s : State) (c : Nat) (x : StepState) : (s.setSteps c x).arrays = s.arrays := rfl
@[simp] theorem State.setSteps_cores (s : State) (c : Nat) (x : StepState) : (s.setSteps c x).cores = s.cores := rfl
@[simp] theorem State.setSteps_mesh (s : State) (c : Nat) (x : StepState) : (s.setSteps c x).mesh = s.mesh := rfl
@[simp] theorem State.setSteps_rings (s : State) (c : Nat) (x : StepState) : (s.setSteps c x).rings = s.rings := rfl
@[simp] theorem State.setSteps_life (s : State) (c : Nat) (x : StepState) : (s.setSteps c x).life = s.life := rfl
@[simp] theorem State.setSteps_ctxs (s : State) (c : Nat) (x : StepState) : (s.setSteps c x).ctxs = s.ctxs := rfl
@[simp] theorem State.setSteps_parts (s : State) (c : Nat) (x : StepState) : (s.setSteps c x).parts = s.parts := rfl
@[simp] theorem State.setSteps_signals (s : State) (c : Nat) (x : StepState) : (s.setSteps c x).signals = s.signals := rfl
@[simp] theorem State.setSteps_flint (s : State) (c : Nat) (x : StepState) : (s.setSteps c x).flint = s.flint := rfl
@[simp] theorem State.setSteps_fab (s : State) (c : Nat) (x : StepState) : (s.setSteps c x).fab = s.fab := rfl
@[simp] theorem State.setSteps_time (s : State) (c : Nat) (x : StepState) : (s.setSteps c x).time = s.time := rfl
@[simp] theorem State.setSteps_power (s : State) (c : Nat) (x : StepState) : (s.setSteps c x).power = s.power := rfl
@[simp] theorem State.setSteps_brp (s : State) (c : Nat) (x : StepState) : (s.setSteps c x).brp = s.brp := rfl
@[simp] theorem State.setSteps_mgt (s : State) (c : Nat) (x : StepState) : (s.setSteps c x).mgt = s.mgt := rfl
@[simp] theorem State.setSteps_reply (s : State) (c : Nat) (x : StepState) : (s.setSteps c x).reply = s.reply := rfl
@[simp] theorem State.setSteps_out (s : State) (c : Nat) (x : StepState) : (s.setSteps c x).out = s.out := rfl
@[simp] theorem State.setSteps_abortSeq (s : State) (c : Nat) (x : StepState) : (s.setSteps c x).abortSeq = s.abortSeq := rfl
@[simp] theorem State.setSteps_fresh (s : State) (c : Nat) (x : StepState) : (s.setSteps c x).fresh = s.fresh := rfl
@[simp] theorem State.setSteps_reg (s : State) (c : Nat) (x : StepState) (o : Nat) : (s.setSteps c x).reg o = s.reg o := rfl
@[simp] theorem State.setSteps_arr (s : State) (c : Nat) (x : StepState) (i : Nat) : (s.setSteps c x).arr i = s.arr i := rfl
@[simp] theorem State.setSteps_core (s : State) (c : Nat) (x : StepState) (i : Nat) : (s.setSteps c x).core i = s.core i := rfl
@[simp] theorem State.setSteps_ctx (s : State) (c : Nat) (x : StepState) (i : Nat) : (s.setSteps c x).ctx i = s.ctx i := rfl
@[simp] theorem State.setSteps_part (s : State) (c : Nat) (x : StepState) (i : Nat) : (s.setSteps c x).part i = s.part i := rfl
@[simp] theorem State.setSteps_ring (s : State) (c : Nat) (x : StepState) (i : Nat) : (s.setSteps c x).ring i = s.ring i := rfl
@[simp] theorem State.setSteps_hport (s : State) (c : Nat) (x : StepState) (i : Nat) : (s.setSteps c x).hport i = s.hport i := rfl
@[simp] theorem State.setSteps_fport (s : State) (c : Nat) (x : StepState) (i : Nat) : (s.setSteps c x).fport i = s.fport i := rfl
@[simp] theorem State.setSteps_byte (s : State) (c : Nat) (x : StepState) (i : Nat) : (s.setSteps c x).byte i = s.byte i := rfl
@[simp] theorem State.setSteps_fld (s : State) (c : Nat) (x : StepState) (o h l : Nat) : (s.setSteps c x).fld o h l = s.fld o h l := rfl
@[simp] theorem State.setSteps_flag (s : State) (c : Nat) (x : StepState) (o j : Nat) : (s.setSteps c x).flag o j = s.flag o j := rfl

@[simp] theorem State.setLink_pending (s : State) (k : Nat) (x : TrunkLink) : (s.setLink k x).pending = s.pending := rfl
@[simp] theorem State.setLink_now (s : State) (k : Nat) (x : TrunkLink) : (s.setLink k x).now = s.now := rfl
@[simp] theorem State.setLink_fuses (s : State) (k : Nat) (x : TrunkLink) : (s.setLink k x).fuses = s.fuses := rfl
@[simp] theorem State.setLink_regs (s : State) (k : Nat) (x : TrunkLink) : (s.setLink k x).regs = s.regs := rfl
@[simp] theorem State.setLink_rdLatch (s : State) (k : Nat) (x : TrunkLink) : (s.setLink k x).rdLatch = s.rdLatch := rfl
@[simp] theorem State.setLink_wrLatch (s : State) (k : Nat) (x : TrunkLink) : (s.setLink k x).wrLatch = s.wrLatch := rfl
@[simp] theorem State.setLink_mem (s : State) (k : Nat) (x : TrunkLink) : (s.setLink k x).mem = s.mem := rfl
@[simp] theorem State.setLink_arrays (s : State) (k : Nat) (x : TrunkLink) : (s.setLink k x).arrays = s.arrays := rfl
@[simp] theorem State.setLink_cores (s : State) (k : Nat) (x : TrunkLink) : (s.setLink k x).cores = s.cores := rfl
@[simp] theorem State.setLink_mesh (s : State) (k : Nat) (x : TrunkLink) : (s.setLink k x).mesh = s.mesh := rfl
@[simp] theorem State.setLink_rings (s : State) (k : Nat) (x : TrunkLink) : (s.setLink k x).rings = s.rings := rfl
@[simp] theorem State.setLink_life (s : State) (k : Nat) (x : TrunkLink) : (s.setLink k x).life = s.life := rfl
@[simp] theorem State.setLink_ctxs (s : State) (k : Nat) (x : TrunkLink) : (s.setLink k x).ctxs = s.ctxs := rfl
@[simp] theorem State.setLink_parts (s : State) (k : Nat) (x : TrunkLink) : (s.setLink k x).parts = s.parts := rfl
@[simp] theorem State.setLink_signals (s : State) (k : Nat) (x : TrunkLink) : (s.setLink k x).signals = s.signals := rfl
@[simp] theorem State.setLink_flint (s : State) (k : Nat) (x : TrunkLink) : (s.setLink k x).flint = s.flint := rfl
@[simp] theorem State.setLink_integ (s : State) (k : Nat) (x : TrunkLink) : (s.setLink k x).integ = s.integ := rfl
@[simp] theorem State.setLink_fab (s : State) (k : Nat) (x : TrunkLink) : (s.setLink k x).fab = s.fab := rfl
@[simp] theorem State.setLink_time (s : State) (k : Nat) (x : TrunkLink) : (s.setLink k x).time = s.time := rfl
@[simp] theorem State.setLink_power (s : State) (k : Nat) (x : TrunkLink) : (s.setLink k x).power = s.power := rfl
@[simp] theorem State.setLink_brp (s : State) (k : Nat) (x : TrunkLink) : (s.setLink k x).brp = s.brp := rfl
@[simp] theorem State.setLink_mgt (s : State) (k : Nat) (x : TrunkLink) : (s.setLink k x).mgt = s.mgt := rfl
@[simp] theorem State.setLink_reply (s : State) (k : Nat) (x : TrunkLink) : (s.setLink k x).reply = s.reply := rfl
@[simp] theorem State.setLink_out (s : State) (k : Nat) (x : TrunkLink) : (s.setLink k x).out = s.out := rfl
@[simp] theorem State.setLink_abortSeq (s : State) (k : Nat) (x : TrunkLink) : (s.setLink k x).abortSeq = s.abortSeq := rfl
@[simp] theorem State.setLink_fresh (s : State) (k : Nat) (x : TrunkLink) : (s.setLink k x).fresh = s.fresh := rfl
@[simp] theorem State.setLink_reg (s : State) (k : Nat) (x : TrunkLink) (o : Nat) : (s.setLink k x).reg o = s.reg o := rfl
@[simp] theorem State.setLink_arr (s : State) (k : Nat) (x : TrunkLink) (i : Nat) : (s.setLink k x).arr i = s.arr i := rfl
@[simp] theorem State.setLink_core (s : State) (k : Nat) (x : TrunkLink) (i : Nat) : (s.setLink k x).core i = s.core i := rfl
@[simp] theorem State.setLink_ctx (s : State) (k : Nat) (x : TrunkLink) (i : Nat) : (s.setLink k x).ctx i = s.ctx i := rfl
@[simp] theorem State.setLink_part (s : State) (k : Nat) (x : TrunkLink) (i : Nat) : (s.setLink k x).part i = s.part i := rfl
@[simp] theorem State.setLink_ring (s : State) (k : Nat) (x : TrunkLink) (i : Nat) : (s.setLink k x).ring i = s.ring i := rfl
@[simp] theorem State.setLink_hport (s : State) (k : Nat) (x : TrunkLink) (i : Nat) : (s.setLink k x).hport i = s.hport i := rfl
@[simp] theorem State.setLink_fport (s : State) (k : Nat) (x : TrunkLink) (i : Nat) : (s.setLink k x).fport i = s.fport i := rfl
@[simp] theorem State.setLink_byte (s : State) (k : Nat) (x : TrunkLink) (i : Nat) : (s.setLink k x).byte i = s.byte i := rfl
@[simp] theorem State.setLink_fld (s : State) (k : Nat) (x : TrunkLink) (o h l : Nat) : (s.setLink k x).fld o h l = s.fld o h l := rfl
@[simp] theorem State.setLink_flag (s : State) (k : Nat) (x : TrunkLink) (o j : Nat) : (s.setLink k x).flag o j = s.flag o j := rfl

@[simp] theorem State.setCheck_pending (s : State) (a : Nat) (c : Check) : (s.setCheck a c).pending = s.pending := rfl
@[simp] theorem State.setCheck_now (s : State) (a : Nat) (c : Check) : (s.setCheck a c).now = s.now := rfl
@[simp] theorem State.setCheck_fuses (s : State) (a : Nat) (c : Check) : (s.setCheck a c).fuses = s.fuses := rfl
@[simp] theorem State.setCheck_regs (s : State) (a : Nat) (c : Check) : (s.setCheck a c).regs = s.regs := rfl
@[simp] theorem State.setCheck_rdLatch (s : State) (a : Nat) (c : Check) : (s.setCheck a c).rdLatch = s.rdLatch := rfl
@[simp] theorem State.setCheck_wrLatch (s : State) (a : Nat) (c : Check) : (s.setCheck a c).wrLatch = s.wrLatch := rfl
@[simp] theorem State.setCheck_mem (s : State) (a : Nat) (c : Check) : (s.setCheck a c).mem = s.mem := rfl
@[simp] theorem State.setCheck_arrays (s : State) (a : Nat) (c : Check) : (s.setCheck a c).arrays = s.arrays := rfl
@[simp] theorem State.setCheck_cores (s : State) (a : Nat) (c : Check) : (s.setCheck a c).cores = s.cores := rfl
@[simp] theorem State.setCheck_mesh (s : State) (a : Nat) (c : Check) : (s.setCheck a c).mesh = s.mesh := rfl
@[simp] theorem State.setCheck_rings (s : State) (a : Nat) (c : Check) : (s.setCheck a c).rings = s.rings := rfl
@[simp] theorem State.setCheck_life (s : State) (a : Nat) (c : Check) : (s.setCheck a c).life = s.life := rfl
@[simp] theorem State.setCheck_ctxs (s : State) (a : Nat) (c : Check) : (s.setCheck a c).ctxs = s.ctxs := rfl
@[simp] theorem State.setCheck_parts (s : State) (a : Nat) (c : Check) : (s.setCheck a c).parts = s.parts := rfl
@[simp] theorem State.setCheck_signals (s : State) (a : Nat) (c : Check) : (s.setCheck a c).signals = s.signals := rfl
@[simp] theorem State.setCheck_flint (s : State) (a : Nat) (c : Check) : (s.setCheck a c).flint = s.flint := rfl
@[simp] theorem State.setCheck_integ (s : State) (a : Nat) (c : Check) : (s.setCheck a c).integ = s.integ := rfl
@[simp] theorem State.setCheck_fab (s : State) (a : Nat) (c : Check) : (s.setCheck a c).fab = s.fab := rfl
@[simp] theorem State.setCheck_time (s : State) (a : Nat) (c : Check) : (s.setCheck a c).time = s.time := rfl
@[simp] theorem State.setCheck_power (s : State) (a : Nat) (c : Check) : (s.setCheck a c).power = s.power := rfl
@[simp] theorem State.setCheck_brp (s : State) (a : Nat) (c : Check) : (s.setCheck a c).brp = s.brp := rfl
@[simp] theorem State.setCheck_mgt (s : State) (a : Nat) (c : Check) : (s.setCheck a c).mgt = s.mgt := rfl
@[simp] theorem State.setCheck_reply (s : State) (a : Nat) (c : Check) : (s.setCheck a c).reply = s.reply := rfl
@[simp] theorem State.setCheck_out (s : State) (a : Nat) (c : Check) : (s.setCheck a c).out = s.out := rfl
@[simp] theorem State.setCheck_abortSeq (s : State) (a : Nat) (c : Check) : (s.setCheck a c).abortSeq = s.abortSeq := rfl
@[simp] theorem State.setCheck_fresh (s : State) (a : Nat) (c : Check) : (s.setCheck a c).fresh = s.fresh := rfl
@[simp] theorem State.setCheck_reg (s : State) (a : Nat) (c : Check) (o : Nat) : (s.setCheck a c).reg o = s.reg o := rfl
@[simp] theorem State.setCheck_arr (s : State) (a : Nat) (c : Check) (i : Nat) : (s.setCheck a c).arr i = s.arr i := rfl
@[simp] theorem State.setCheck_core (s : State) (a : Nat) (c : Check) (i : Nat) : (s.setCheck a c).core i = s.core i := rfl
@[simp] theorem State.setCheck_ctx (s : State) (a : Nat) (c : Check) (i : Nat) : (s.setCheck a c).ctx i = s.ctx i := rfl
@[simp] theorem State.setCheck_part (s : State) (a : Nat) (c : Check) (i : Nat) : (s.setCheck a c).part i = s.part i := rfl
@[simp] theorem State.setCheck_ring (s : State) (a : Nat) (c : Check) (i : Nat) : (s.setCheck a c).ring i = s.ring i := rfl
@[simp] theorem State.setCheck_hport (s : State) (a : Nat) (c : Check) (i : Nat) : (s.setCheck a c).hport i = s.hport i := rfl
@[simp] theorem State.setCheck_fport (s : State) (a : Nat) (c : Check) (i : Nat) : (s.setCheck a c).fport i = s.fport i := rfl
@[simp] theorem State.setCheck_byte (s : State) (a : Nat) (c : Check) (i : Nat) : (s.setCheck a c).byte i = s.byte i := rfl
@[simp] theorem State.setCheck_fld (s : State) (a : Nat) (c : Check) (o h l : Nat) : (s.setCheck a c).fld o h l = s.fld o h l := rfl
@[simp] theorem State.setCheck_flag (s : State) (a : Nat) (c : Check) (o j : Nat) : (s.setCheck a c).flag o j = s.flag o j := rfl

@[simp] theorem State.wrBytes_pending (s : State) (a : Nat) (bs : List Byte) : (s.wrBytes a bs).pending = s.pending := rfl
@[simp] theorem State.wrBytes_now (s : State) (a : Nat) (bs : List Byte) : (s.wrBytes a bs).now = s.now := rfl
@[simp] theorem State.wrBytes_fuses (s : State) (a : Nat) (bs : List Byte) : (s.wrBytes a bs).fuses = s.fuses := rfl
@[simp] theorem State.wrBytes_regs (s : State) (a : Nat) (bs : List Byte) : (s.wrBytes a bs).regs = s.regs := rfl
@[simp] theorem State.wrBytes_rdLatch (s : State) (a : Nat) (bs : List Byte) : (s.wrBytes a bs).rdLatch = s.rdLatch := rfl
@[simp] theorem State.wrBytes_wrLatch (s : State) (a : Nat) (bs : List Byte) : (s.wrBytes a bs).wrLatch = s.wrLatch := rfl
@[simp] theorem State.wrBytes_arrays (s : State) (a : Nat) (bs : List Byte) : (s.wrBytes a bs).arrays = s.arrays := rfl
@[simp] theorem State.wrBytes_cores (s : State) (a : Nat) (bs : List Byte) : (s.wrBytes a bs).cores = s.cores := rfl
@[simp] theorem State.wrBytes_mesh (s : State) (a : Nat) (bs : List Byte) : (s.wrBytes a bs).mesh = s.mesh := rfl
@[simp] theorem State.wrBytes_rings (s : State) (a : Nat) (bs : List Byte) : (s.wrBytes a bs).rings = s.rings := rfl
@[simp] theorem State.wrBytes_life (s : State) (a : Nat) (bs : List Byte) : (s.wrBytes a bs).life = s.life := rfl
@[simp] theorem State.wrBytes_ctxs (s : State) (a : Nat) (bs : List Byte) : (s.wrBytes a bs).ctxs = s.ctxs := rfl
@[simp] theorem State.wrBytes_parts (s : State) (a : Nat) (bs : List Byte) : (s.wrBytes a bs).parts = s.parts := rfl
@[simp] theorem State.wrBytes_signals (s : State) (a : Nat) (bs : List Byte) : (s.wrBytes a bs).signals = s.signals := rfl
@[simp] theorem State.wrBytes_flint (s : State) (a : Nat) (bs : List Byte) : (s.wrBytes a bs).flint = s.flint := rfl
@[simp] theorem State.wrBytes_integ (s : State) (a : Nat) (bs : List Byte) : (s.wrBytes a bs).integ = s.integ := rfl
@[simp] theorem State.wrBytes_fab (s : State) (a : Nat) (bs : List Byte) : (s.wrBytes a bs).fab = s.fab := rfl
@[simp] theorem State.wrBytes_time (s : State) (a : Nat) (bs : List Byte) : (s.wrBytes a bs).time = s.time := rfl
@[simp] theorem State.wrBytes_power (s : State) (a : Nat) (bs : List Byte) : (s.wrBytes a bs).power = s.power := rfl
@[simp] theorem State.wrBytes_brp (s : State) (a : Nat) (bs : List Byte) : (s.wrBytes a bs).brp = s.brp := rfl
@[simp] theorem State.wrBytes_mgt (s : State) (a : Nat) (bs : List Byte) : (s.wrBytes a bs).mgt = s.mgt := rfl
@[simp] theorem State.wrBytes_reply (s : State) (a : Nat) (bs : List Byte) : (s.wrBytes a bs).reply = s.reply := rfl
@[simp] theorem State.wrBytes_out (s : State) (a : Nat) (bs : List Byte) : (s.wrBytes a bs).out = s.out := rfl
@[simp] theorem State.wrBytes_abortSeq (s : State) (a : Nat) (bs : List Byte) : (s.wrBytes a bs).abortSeq = s.abortSeq := rfl
@[simp] theorem State.wrBytes_fresh (s : State) (a : Nat) (bs : List Byte) : (s.wrBytes a bs).fresh = s.fresh := rfl
@[simp] theorem State.wrBytes_reg (s : State) (a : Nat) (bs : List Byte) (o : Nat) : (s.wrBytes a bs).reg o = s.reg o := rfl
@[simp] theorem State.wrBytes_arr (s : State) (a : Nat) (bs : List Byte) (i : Nat) : (s.wrBytes a bs).arr i = s.arr i := rfl
@[simp] theorem State.wrBytes_core (s : State) (a : Nat) (bs : List Byte) (i : Nat) : (s.wrBytes a bs).core i = s.core i := rfl
@[simp] theorem State.wrBytes_ctx (s : State) (a : Nat) (bs : List Byte) (i : Nat) : (s.wrBytes a bs).ctx i = s.ctx i := rfl
@[simp] theorem State.wrBytes_part (s : State) (a : Nat) (bs : List Byte) (i : Nat) : (s.wrBytes a bs).part i = s.part i := rfl
@[simp] theorem State.wrBytes_ring (s : State) (a : Nat) (bs : List Byte) (i : Nat) : (s.wrBytes a bs).ring i = s.ring i := rfl
@[simp] theorem State.wrBytes_hport (s : State) (a : Nat) (bs : List Byte) (i : Nat) : (s.wrBytes a bs).hport i = s.hport i := rfl
@[simp] theorem State.wrBytes_fport (s : State) (a : Nat) (bs : List Byte) (i : Nat) : (s.wrBytes a bs).fport i = s.fport i := rfl
@[simp] theorem State.wrBytes_fld (s : State) (a : Nat) (bs : List Byte) (o h l : Nat) : (s.wrBytes a bs).fld o h l = s.fld o h l := rfl
@[simp] theorem State.wrBytes_flag (s : State) (a : Nat) (bs : List Byte) (o j : Nat) : (s.wrBytes a bs).flag o j = s.flag o j := rfl

@[simp] theorem State.lifeAdd_pending (s : State) (kind : Nat) (body : List Byte) : (s.lifeAdd kind body).pending = s.pending := rfl
@[simp] theorem State.lifeAdd_now (s : State) (kind : Nat) (body : List Byte) : (s.lifeAdd kind body).now = s.now := rfl
@[simp] theorem State.lifeAdd_fuses (s : State) (kind : Nat) (body : List Byte) : (s.lifeAdd kind body).fuses = s.fuses := rfl
@[simp] theorem State.lifeAdd_regs (s : State) (kind : Nat) (body : List Byte) : (s.lifeAdd kind body).regs = s.regs := rfl
@[simp] theorem State.lifeAdd_rdLatch (s : State) (kind : Nat) (body : List Byte) : (s.lifeAdd kind body).rdLatch = s.rdLatch := rfl
@[simp] theorem State.lifeAdd_wrLatch (s : State) (kind : Nat) (body : List Byte) : (s.lifeAdd kind body).wrLatch = s.wrLatch := rfl
@[simp] theorem State.lifeAdd_mem (s : State) (kind : Nat) (body : List Byte) : (s.lifeAdd kind body).mem = s.mem := rfl
@[simp] theorem State.lifeAdd_memst (s : State) (kind : Nat) (body : List Byte) : (s.lifeAdd kind body).memst = s.memst := rfl
@[simp] theorem State.lifeAdd_arrays (s : State) (kind : Nat) (body : List Byte) : (s.lifeAdd kind body).arrays = s.arrays := rfl
@[simp] theorem State.lifeAdd_cores (s : State) (kind : Nat) (body : List Byte) : (s.lifeAdd kind body).cores = s.cores := rfl
@[simp] theorem State.lifeAdd_mesh (s : State) (kind : Nat) (body : List Byte) : (s.lifeAdd kind body).mesh = s.mesh := rfl
@[simp] theorem State.lifeAdd_rings (s : State) (kind : Nat) (body : List Byte) : (s.lifeAdd kind body).rings = s.rings := rfl
@[simp] theorem State.lifeAdd_ctxs (s : State) (kind : Nat) (body : List Byte) : (s.lifeAdd kind body).ctxs = s.ctxs := rfl
@[simp] theorem State.lifeAdd_parts (s : State) (kind : Nat) (body : List Byte) : (s.lifeAdd kind body).parts = s.parts := rfl
@[simp] theorem State.lifeAdd_signals (s : State) (kind : Nat) (body : List Byte) : (s.lifeAdd kind body).signals = s.signals := rfl
@[simp] theorem State.lifeAdd_flint (s : State) (kind : Nat) (body : List Byte) : (s.lifeAdd kind body).flint = s.flint := rfl
@[simp] theorem State.lifeAdd_integ (s : State) (kind : Nat) (body : List Byte) : (s.lifeAdd kind body).integ = s.integ := rfl
@[simp] theorem State.lifeAdd_fab (s : State) (kind : Nat) (body : List Byte) : (s.lifeAdd kind body).fab = s.fab := rfl
@[simp] theorem State.lifeAdd_time (s : State) (kind : Nat) (body : List Byte) : (s.lifeAdd kind body).time = s.time := rfl
@[simp] theorem State.lifeAdd_power (s : State) (kind : Nat) (body : List Byte) : (s.lifeAdd kind body).power = s.power := rfl
@[simp] theorem State.lifeAdd_brp (s : State) (kind : Nat) (body : List Byte) : (s.lifeAdd kind body).brp = s.brp := rfl
@[simp] theorem State.lifeAdd_mgt (s : State) (kind : Nat) (body : List Byte) : (s.lifeAdd kind body).mgt = s.mgt := rfl
@[simp] theorem State.lifeAdd_reply (s : State) (kind : Nat) (body : List Byte) : (s.lifeAdd kind body).reply = s.reply := rfl
@[simp] theorem State.lifeAdd_out (s : State) (kind : Nat) (body : List Byte) : (s.lifeAdd kind body).out = s.out := rfl
@[simp] theorem State.lifeAdd_abortSeq (s : State) (kind : Nat) (body : List Byte) : (s.lifeAdd kind body).abortSeq = s.abortSeq := rfl
@[simp] theorem State.lifeAdd_fresh (s : State) (kind : Nat) (body : List Byte) : (s.lifeAdd kind body).fresh = s.fresh := rfl
@[simp] theorem State.lifeAdd_reg (s : State) (kind : Nat) (body : List Byte) (o : Nat) : (s.lifeAdd kind body).reg o = s.reg o := rfl
@[simp] theorem State.lifeAdd_arr (s : State) (kind : Nat) (body : List Byte) (i : Nat) : (s.lifeAdd kind body).arr i = s.arr i := rfl
@[simp] theorem State.lifeAdd_core (s : State) (kind : Nat) (body : List Byte) (i : Nat) : (s.lifeAdd kind body).core i = s.core i := rfl
@[simp] theorem State.lifeAdd_ctx (s : State) (kind : Nat) (body : List Byte) (i : Nat) : (s.lifeAdd kind body).ctx i = s.ctx i := rfl
@[simp] theorem State.lifeAdd_part (s : State) (kind : Nat) (body : List Byte) (i : Nat) : (s.lifeAdd kind body).part i = s.part i := rfl
@[simp] theorem State.lifeAdd_ring (s : State) (kind : Nat) (body : List Byte) (i : Nat) : (s.lifeAdd kind body).ring i = s.ring i := rfl
@[simp] theorem State.lifeAdd_hport (s : State) (kind : Nat) (body : List Byte) (i : Nat) : (s.lifeAdd kind body).hport i = s.hport i := rfl
@[simp] theorem State.lifeAdd_fport (s : State) (kind : Nat) (body : List Byte) (i : Nat) : (s.lifeAdd kind body).fport i = s.fport i := rfl
@[simp] theorem State.lifeAdd_byte (s : State) (kind : Nat) (body : List Byte) (i : Nat) : (s.lifeAdd kind body).byte i = s.byte i := rfl
@[simp] theorem State.lifeAdd_fld (s : State) (kind : Nat) (body : List Byte) (o h l : Nat) : (s.lifeAdd kind body).fld o h l = s.fld o h l := rfl
@[simp] theorem State.lifeAdd_flag (s : State) (kind : Nat) (body : List Byte) (o j : Nat) : (s.lifeAdd kind body).flag o j = s.flag o j := rfl

@[simp] theorem State.lifeCount_pending (s : State) (w n : Nat) : (s.lifeCount w n).pending = s.pending := rfl
@[simp] theorem State.lifeCount_now (s : State) (w n : Nat) : (s.lifeCount w n).now = s.now := rfl
@[simp] theorem State.lifeCount_fuses (s : State) (w n : Nat) : (s.lifeCount w n).fuses = s.fuses := rfl
@[simp] theorem State.lifeCount_regs (s : State) (w n : Nat) : (s.lifeCount w n).regs = s.regs := rfl
@[simp] theorem State.lifeCount_rdLatch (s : State) (w n : Nat) : (s.lifeCount w n).rdLatch = s.rdLatch := rfl
@[simp] theorem State.lifeCount_wrLatch (s : State) (w n : Nat) : (s.lifeCount w n).wrLatch = s.wrLatch := rfl
@[simp] theorem State.lifeCount_mem (s : State) (w n : Nat) : (s.lifeCount w n).mem = s.mem := rfl
@[simp] theorem State.lifeCount_memst (s : State) (w n : Nat) : (s.lifeCount w n).memst = s.memst := rfl
@[simp] theorem State.lifeCount_arrays (s : State) (w n : Nat) : (s.lifeCount w n).arrays = s.arrays := rfl
@[simp] theorem State.lifeCount_cores (s : State) (w n : Nat) : (s.lifeCount w n).cores = s.cores := rfl
@[simp] theorem State.lifeCount_mesh (s : State) (w n : Nat) : (s.lifeCount w n).mesh = s.mesh := rfl
@[simp] theorem State.lifeCount_rings (s : State) (w n : Nat) : (s.lifeCount w n).rings = s.rings := rfl
@[simp] theorem State.lifeCount_ctxs (s : State) (w n : Nat) : (s.lifeCount w n).ctxs = s.ctxs := rfl
@[simp] theorem State.lifeCount_parts (s : State) (w n : Nat) : (s.lifeCount w n).parts = s.parts := rfl
@[simp] theorem State.lifeCount_signals (s : State) (w n : Nat) : (s.lifeCount w n).signals = s.signals := rfl
@[simp] theorem State.lifeCount_flint (s : State) (w n : Nat) : (s.lifeCount w n).flint = s.flint := rfl
@[simp] theorem State.lifeCount_integ (s : State) (w n : Nat) : (s.lifeCount w n).integ = s.integ := rfl
@[simp] theorem State.lifeCount_fab (s : State) (w n : Nat) : (s.lifeCount w n).fab = s.fab := rfl
@[simp] theorem State.lifeCount_time (s : State) (w n : Nat) : (s.lifeCount w n).time = s.time := rfl
@[simp] theorem State.lifeCount_power (s : State) (w n : Nat) : (s.lifeCount w n).power = s.power := rfl
@[simp] theorem State.lifeCount_brp (s : State) (w n : Nat) : (s.lifeCount w n).brp = s.brp := rfl
@[simp] theorem State.lifeCount_mgt (s : State) (w n : Nat) : (s.lifeCount w n).mgt = s.mgt := rfl
@[simp] theorem State.lifeCount_reply (s : State) (w n : Nat) : (s.lifeCount w n).reply = s.reply := rfl
@[simp] theorem State.lifeCount_out (s : State) (w n : Nat) : (s.lifeCount w n).out = s.out := rfl
@[simp] theorem State.lifeCount_abortSeq (s : State) (w n : Nat) : (s.lifeCount w n).abortSeq = s.abortSeq := rfl
@[simp] theorem State.lifeCount_fresh (s : State) (w n : Nat) : (s.lifeCount w n).fresh = s.fresh := rfl
@[simp] theorem State.lifeCount_reg (s : State) (w n : Nat) (o : Nat) : (s.lifeCount w n).reg o = s.reg o := rfl
@[simp] theorem State.lifeCount_arr (s : State) (w n : Nat) (i : Nat) : (s.lifeCount w n).arr i = s.arr i := rfl
@[simp] theorem State.lifeCount_core (s : State) (w n : Nat) (i : Nat) : (s.lifeCount w n).core i = s.core i := rfl
@[simp] theorem State.lifeCount_ctx (s : State) (w n : Nat) (i : Nat) : (s.lifeCount w n).ctx i = s.ctx i := rfl
@[simp] theorem State.lifeCount_part (s : State) (w n : Nat) (i : Nat) : (s.lifeCount w n).part i = s.part i := rfl
@[simp] theorem State.lifeCount_ring (s : State) (w n : Nat) (i : Nat) : (s.lifeCount w n).ring i = s.ring i := rfl
@[simp] theorem State.lifeCount_hport (s : State) (w n : Nat) (i : Nat) : (s.lifeCount w n).hport i = s.hport i := rfl
@[simp] theorem State.lifeCount_fport (s : State) (w n : Nat) (i : Nat) : (s.lifeCount w n).fport i = s.fport i := rfl
@[simp] theorem State.lifeCount_byte (s : State) (w n : Nat) (i : Nat) : (s.lifeCount w n).byte i = s.byte i := rfl
@[simp] theorem State.lifeCount_fld (s : State) (w n : Nat) (o h l : Nat) : (s.lifeCount w n).fld o h l = s.fld o h l := rfl
@[simp] theorem State.lifeCount_flag (s : State) (w n : Nat) (o j : Nat) : (s.lifeCount w n).flag o j = s.flag o j := rfl

@[simp] theorem State.emit_pending (s : State) (port : String) (d : List Nat) : (s.emit port d).pending = s.pending := rfl
@[simp] theorem State.emit_now (s : State) (port : String) (d : List Nat) : (s.emit port d).now = s.now := rfl
@[simp] theorem State.emit_fuses (s : State) (port : String) (d : List Nat) : (s.emit port d).fuses = s.fuses := rfl
@[simp] theorem State.emit_regs (s : State) (port : String) (d : List Nat) : (s.emit port d).regs = s.regs := rfl
@[simp] theorem State.emit_rdLatch (s : State) (port : String) (d : List Nat) : (s.emit port d).rdLatch = s.rdLatch := rfl
@[simp] theorem State.emit_wrLatch (s : State) (port : String) (d : List Nat) : (s.emit port d).wrLatch = s.wrLatch := rfl
@[simp] theorem State.emit_mem (s : State) (port : String) (d : List Nat) : (s.emit port d).mem = s.mem := rfl
@[simp] theorem State.emit_memst (s : State) (port : String) (d : List Nat) : (s.emit port d).memst = s.memst := rfl
@[simp] theorem State.emit_arrays (s : State) (port : String) (d : List Nat) : (s.emit port d).arrays = s.arrays := rfl
@[simp] theorem State.emit_cores (s : State) (port : String) (d : List Nat) : (s.emit port d).cores = s.cores := rfl
@[simp] theorem State.emit_mesh (s : State) (port : String) (d : List Nat) : (s.emit port d).mesh = s.mesh := rfl
@[simp] theorem State.emit_rings (s : State) (port : String) (d : List Nat) : (s.emit port d).rings = s.rings := rfl
@[simp] theorem State.emit_life (s : State) (port : String) (d : List Nat) : (s.emit port d).life = s.life := rfl
@[simp] theorem State.emit_ctxs (s : State) (port : String) (d : List Nat) : (s.emit port d).ctxs = s.ctxs := rfl
@[simp] theorem State.emit_parts (s : State) (port : String) (d : List Nat) : (s.emit port d).parts = s.parts := rfl
@[simp] theorem State.emit_signals (s : State) (port : String) (d : List Nat) : (s.emit port d).signals = s.signals := rfl
@[simp] theorem State.emit_flint (s : State) (port : String) (d : List Nat) : (s.emit port d).flint = s.flint := rfl
@[simp] theorem State.emit_integ (s : State) (port : String) (d : List Nat) : (s.emit port d).integ = s.integ := rfl
@[simp] theorem State.emit_fab (s : State) (port : String) (d : List Nat) : (s.emit port d).fab = s.fab := rfl
@[simp] theorem State.emit_time (s : State) (port : String) (d : List Nat) : (s.emit port d).time = s.time := rfl
@[simp] theorem State.emit_power (s : State) (port : String) (d : List Nat) : (s.emit port d).power = s.power := rfl
@[simp] theorem State.emit_brp (s : State) (port : String) (d : List Nat) : (s.emit port d).brp = s.brp := rfl
@[simp] theorem State.emit_mgt (s : State) (port : String) (d : List Nat) : (s.emit port d).mgt = s.mgt := rfl
@[simp] theorem State.emit_reply (s : State) (port : String) (d : List Nat) : (s.emit port d).reply = s.reply := rfl
@[simp] theorem State.emit_abortSeq (s : State) (port : String) (d : List Nat) : (s.emit port d).abortSeq = s.abortSeq := rfl
@[simp] theorem State.emit_fresh (s : State) (port : String) (d : List Nat) : (s.emit port d).fresh = s.fresh := rfl
@[simp] theorem State.emit_reg (s : State) (port : String) (d : List Nat) (o : Nat) : (s.emit port d).reg o = s.reg o := rfl
@[simp] theorem State.emit_arr (s : State) (port : String) (d : List Nat) (i : Nat) : (s.emit port d).arr i = s.arr i := rfl
@[simp] theorem State.emit_core (s : State) (port : String) (d : List Nat) (i : Nat) : (s.emit port d).core i = s.core i := rfl
@[simp] theorem State.emit_ctx (s : State) (port : String) (d : List Nat) (i : Nat) : (s.emit port d).ctx i = s.ctx i := rfl
@[simp] theorem State.emit_part (s : State) (port : String) (d : List Nat) (i : Nat) : (s.emit port d).part i = s.part i := rfl
@[simp] theorem State.emit_ring (s : State) (port : String) (d : List Nat) (i : Nat) : (s.emit port d).ring i = s.ring i := rfl
@[simp] theorem State.emit_hport (s : State) (port : String) (d : List Nat) (i : Nat) : (s.emit port d).hport i = s.hport i := rfl
@[simp] theorem State.emit_fport (s : State) (port : String) (d : List Nat) (i : Nat) : (s.emit port d).fport i = s.fport i := rfl
@[simp] theorem State.emit_byte (s : State) (port : String) (d : List Nat) (i : Nat) : (s.emit port d).byte i = s.byte i := rfl
@[simp] theorem State.emit_fld (s : State) (port : String) (d : List Nat) (o h l : Nat) : (s.emit port d).fld o h l = s.fld o h l := rfl
@[simp] theorem State.emit_flag (s : State) (port : String) (d : List Nat) (o j : Nat) : (s.emit port d).flag o j = s.flag o j := rfl

@[simp] theorem State.answer_pending (s : State) (d : List Nat) : (s.answer d).pending = s.pending := rfl
@[simp] theorem State.answer_now (s : State) (d : List Nat) : (s.answer d).now = s.now := rfl
@[simp] theorem State.answer_fuses (s : State) (d : List Nat) : (s.answer d).fuses = s.fuses := rfl
@[simp] theorem State.answer_regs (s : State) (d : List Nat) : (s.answer d).regs = s.regs := rfl
@[simp] theorem State.answer_rdLatch (s : State) (d : List Nat) : (s.answer d).rdLatch = s.rdLatch := rfl
@[simp] theorem State.answer_wrLatch (s : State) (d : List Nat) : (s.answer d).wrLatch = s.wrLatch := rfl
@[simp] theorem State.answer_mem (s : State) (d : List Nat) : (s.answer d).mem = s.mem := rfl
@[simp] theorem State.answer_memst (s : State) (d : List Nat) : (s.answer d).memst = s.memst := rfl
@[simp] theorem State.answer_arrays (s : State) (d : List Nat) : (s.answer d).arrays = s.arrays := rfl
@[simp] theorem State.answer_cores (s : State) (d : List Nat) : (s.answer d).cores = s.cores := rfl
@[simp] theorem State.answer_mesh (s : State) (d : List Nat) : (s.answer d).mesh = s.mesh := rfl
@[simp] theorem State.answer_rings (s : State) (d : List Nat) : (s.answer d).rings = s.rings := rfl
@[simp] theorem State.answer_life (s : State) (d : List Nat) : (s.answer d).life = s.life := rfl
@[simp] theorem State.answer_ctxs (s : State) (d : List Nat) : (s.answer d).ctxs = s.ctxs := rfl
@[simp] theorem State.answer_parts (s : State) (d : List Nat) : (s.answer d).parts = s.parts := rfl
@[simp] theorem State.answer_signals (s : State) (d : List Nat) : (s.answer d).signals = s.signals := rfl
@[simp] theorem State.answer_flint (s : State) (d : List Nat) : (s.answer d).flint = s.flint := rfl
@[simp] theorem State.answer_integ (s : State) (d : List Nat) : (s.answer d).integ = s.integ := rfl
@[simp] theorem State.answer_fab (s : State) (d : List Nat) : (s.answer d).fab = s.fab := rfl
@[simp] theorem State.answer_time (s : State) (d : List Nat) : (s.answer d).time = s.time := rfl
@[simp] theorem State.answer_power (s : State) (d : List Nat) : (s.answer d).power = s.power := rfl
@[simp] theorem State.answer_brp (s : State) (d : List Nat) : (s.answer d).brp = s.brp := rfl
@[simp] theorem State.answer_mgt (s : State) (d : List Nat) : (s.answer d).mgt = s.mgt := rfl
@[simp] theorem State.answer_out (s : State) (d : List Nat) : (s.answer d).out = s.out := rfl
@[simp] theorem State.answer_abortSeq (s : State) (d : List Nat) : (s.answer d).abortSeq = s.abortSeq := rfl
@[simp] theorem State.answer_fresh (s : State) (d : List Nat) : (s.answer d).fresh = s.fresh := rfl
@[simp] theorem State.answer_reg (s : State) (d : List Nat) (o : Nat) : (s.answer d).reg o = s.reg o := rfl
@[simp] theorem State.answer_arr (s : State) (d : List Nat) (i : Nat) : (s.answer d).arr i = s.arr i := rfl
@[simp] theorem State.answer_core (s : State) (d : List Nat) (i : Nat) : (s.answer d).core i = s.core i := rfl
@[simp] theorem State.answer_ctx (s : State) (d : List Nat) (i : Nat) : (s.answer d).ctx i = s.ctx i := rfl
@[simp] theorem State.answer_part (s : State) (d : List Nat) (i : Nat) : (s.answer d).part i = s.part i := rfl
@[simp] theorem State.answer_ring (s : State) (d : List Nat) (i : Nat) : (s.answer d).ring i = s.ring i := rfl
@[simp] theorem State.answer_hport (s : State) (d : List Nat) (i : Nat) : (s.answer d).hport i = s.hport i := rfl
@[simp] theorem State.answer_fport (s : State) (d : List Nat) (i : Nat) : (s.answer d).fport i = s.fport i := rfl
@[simp] theorem State.answer_byte (s : State) (d : List Nat) (i : Nat) : (s.answer d).byte i = s.byte i := rfl
@[simp] theorem State.answer_fld (s : State) (d : List Nat) (o h l : Nat) : (s.answer d).fld o h l = s.fld o h l := rfl
@[simp] theorem State.answer_flag (s : State) (d : List Nat) (o j : Nat) : (s.answer d).flag o j = s.flag o j := rfl

@[simp] theorem State.drawn_pending (s : State) : s.drawn.pending = s.pending := rfl
@[simp] theorem State.drawn_now (s : State) : s.drawn.now = s.now := rfl
@[simp] theorem State.drawn_fuses (s : State) : s.drawn.fuses = s.fuses := rfl
@[simp] theorem State.drawn_regs (s : State) : s.drawn.regs = s.regs := rfl
@[simp] theorem State.drawn_rdLatch (s : State) : s.drawn.rdLatch = s.rdLatch := rfl
@[simp] theorem State.drawn_wrLatch (s : State) : s.drawn.wrLatch = s.wrLatch := rfl
@[simp] theorem State.drawn_mem (s : State) : s.drawn.mem = s.mem := rfl
@[simp] theorem State.drawn_memst (s : State) : s.drawn.memst = s.memst := rfl
@[simp] theorem State.drawn_arrays (s : State) : s.drawn.arrays = s.arrays := rfl
@[simp] theorem State.drawn_cores (s : State) : s.drawn.cores = s.cores := rfl
@[simp] theorem State.drawn_mesh (s : State) : s.drawn.mesh = s.mesh := rfl
@[simp] theorem State.drawn_rings (s : State) : s.drawn.rings = s.rings := rfl
@[simp] theorem State.drawn_life (s : State) : s.drawn.life = s.life := rfl
@[simp] theorem State.drawn_ctxs (s : State) : s.drawn.ctxs = s.ctxs := rfl
@[simp] theorem State.drawn_parts (s : State) : s.drawn.parts = s.parts := rfl
@[simp] theorem State.drawn_signals (s : State) : s.drawn.signals = s.signals := rfl
@[simp] theorem State.drawn_flint (s : State) : s.drawn.flint = s.flint := rfl
@[simp] theorem State.drawn_integ (s : State) : s.drawn.integ = s.integ := rfl
@[simp] theorem State.drawn_fab (s : State) : s.drawn.fab = s.fab := rfl
@[simp] theorem State.drawn_time (s : State) : s.drawn.time = s.time := rfl
@[simp] theorem State.drawn_power (s : State) : s.drawn.power = s.power := rfl
@[simp] theorem State.drawn_brp (s : State) : s.drawn.brp = s.brp := rfl
@[simp] theorem State.drawn_mgt (s : State) : s.drawn.mgt = s.mgt := rfl
@[simp] theorem State.drawn_reply (s : State) : s.drawn.reply = s.reply := rfl
@[simp] theorem State.drawn_out (s : State) : s.drawn.out = s.out := rfl
@[simp] theorem State.drawn_abortSeq (s : State) : s.drawn.abortSeq = s.abortSeq := rfl
@[simp] theorem State.drawn_reg (s : State) (o : Nat) : s.drawn.reg o = s.reg o := rfl
@[simp] theorem State.drawn_arr (s : State) (i : Nat) : s.drawn.arr i = s.arr i := rfl
@[simp] theorem State.drawn_core (s : State) (i : Nat) : s.drawn.core i = s.core i := rfl
@[simp] theorem State.drawn_ctx (s : State) (i : Nat) : s.drawn.ctx i = s.ctx i := rfl
@[simp] theorem State.drawn_part (s : State) (i : Nat) : s.drawn.part i = s.part i := rfl
@[simp] theorem State.drawn_ring (s : State) (i : Nat) : s.drawn.ring i = s.ring i := rfl
@[simp] theorem State.drawn_hport (s : State) (i : Nat) : s.drawn.hport i = s.hport i := rfl
@[simp] theorem State.drawn_fport (s : State) (i : Nat) : s.drawn.fport i = s.fport i := rfl
@[simp] theorem State.drawn_byte (s : State) (i : Nat) : s.drawn.byte i = s.byte i := rfl
@[simp] theorem State.drawn_fld (s : State) (o h l : Nat) : s.drawn.fld o h l = s.fld o h l := rfl
@[simp] theorem State.drawn_flag (s : State) (o j : Nat) : s.drawn.flag o j = s.flag o j := rfl

/-- A register after a register was stored. -/
theorem State.reg_setReg (s : State) (off : Nat) (v : Word) (o : Nat) : (s.setReg off v).reg o = if o = off then v else s.reg o := by
  unfold State.setReg State.reg
  by_cases h : o = off
  · subst h; simp
  · simp only [if_neg h]; exact tblGet_put_other (Ne.symm h)

@[simp] theorem State.reg_setReg_same (s : State) (off : Nat) (v : Word) : (s.setReg off v).reg off = v := by simp [State.reg_setReg]

theorem State.reg_setReg_other (s : State) {off o : Nat} (v : Word) (h : o ≠ off) : (s.setReg off v).reg o = s.reg o := by
  simp [State.reg_setReg, h]

theorem State.reg_setFld_other (s : State) {off o : Nat} (hi lo x : Nat) (h : o ≠ off) : (s.setFld off hi lo x).reg o = s.reg o :=
  s.reg_setReg_other _ h

theorem State.reg_setFlag_other (s : State) {off o : Nat} (i : Nat) (b : Bool) (h : o ≠ off) : (s.setFlag off i b).reg o = s.reg o :=
  s.reg_setReg_other _ h

theorem State.reg_bump_other (s : State) {off o : Nat} (n : Nat) (h : o ≠ off) : (s.bump off n).reg o = s.reg o := s.reg_setReg_other _ h

theorem State.reg_setReg64_other (s : State) {off o : Nat} (v : Nat) (h : o ≠ off) (h4 : o ≠ off + 4) : (s.setReg64 off v).reg o = s.reg o := by
  unfold State.setReg64
  rw [State.reg_setReg_other _ _ h4, State.reg_setReg_other _ _ h]

theorem State.reg_bump64_other (s : State) {off o : Nat} (n : Nat) (h : o ≠ off) (h4 : o ≠ off + 4) : (s.bump64 off n).reg o = s.reg o :=
  s.reg_setReg64_other _ h h4

/-- A pair after it was stored. -/
theorem State.reg64_setReg64 (s : State) (off v : Nat) : (s.setReg64 off v).reg64 off = v % 2 ^ 64 := by
  unfold State.setReg64 State.reg64
  rw [State.reg_setReg_other _ _ (by omega), State.reg_setReg_same, State.reg_setReg_same]
  simp only [BitVec.toNat_ofNat]
  omega

/-- A field after it was set. -/
theorem State.fld_setFld_same (s : State) (off hi lo x : Nat) (h : lo ≤ hi) (hw : hi < 32) :
    (s.setFld off hi lo x).fld off hi lo = x % 2 ^ (hi + 1 - lo) := by
  unfold State.setFld State.fld
  rw [State.reg_setReg_same, toNat_setBits _ _ _ _ h hw, bitsOf_setBits_same _ _ _ _ h]

/-- A field of another register after a field was set. -/
theorem State.fld_setFld_reg (s : State) {off o : Nat} (hi lo x h l : Nat) (hne : o ≠ off) : (s.setFld off hi lo x).fld o h l = s.fld o h l := by
  unfold State.fld; rw [State.reg_setFld_other _ _ _ _ hne]

/-- Another field of a register after a field of it was set. -/
theorem State.fld_setFld_bits (s : State) (off hi lo x h l : Nat) (hl : lo ≤ hi) (hw : hi < 32) (hd : h < lo ∨ hi < l) :
    (s.setFld off hi lo x).fld off h l = s.fld off h l := by
  unfold State.setFld State.fld
  rw [State.reg_setReg_same, toNat_setBits _ _ _ _ hl hw, bitsOf_setBits_other _ _ _ _ _ _ hl hd]

/-- A bit of a register after a field of it was set. -/
theorem State.flag_setFld (s : State) (off hi lo x i : Nat) (hl : lo ≤ hi) (hw : hi < 32) :
    (s.setFld off hi lo x).flag off i = if lo ≤ i ∧ i ≤ hi then x.testBit (i - lo) else s.flag off i := by
  unfold State.setFld State.flag
  rw [State.reg_setReg_same, toNat_setBits _ _ _ _ hl hw, testBit_setBits _ _ _ _ _ hl]

theorem State.flag_setFlag (s : State) (off i : Nat) (b : Bool) (j : Nat) (hw : i < 32) :
    (s.setFlag off i b).flag off j = if j = i then b else s.flag off j := by
  unfold State.setFlag
  rw [State.flag_setFld _ _ _ _ _ _ (Nat.le_refl i) hw]
  by_cases h : j = i
  · subst h; cases b <;> simp [b2n]
  · rw [if_neg (by omega), if_neg h]

/-- A bit of another register after a field was set. -/
theorem State.flag_setFld_reg (s : State) {off o : Nat} (hi lo x i : Nat) (hne : o ≠ off) : (s.setFld off hi lo x).flag o i = s.flag o i := by
  unfold State.flag; rw [State.reg_setFld_other _ _ _ _ hne]

theorem State.flag_setFlag_reg (s : State) {off o : Nat} (i : Nat) (b : Bool) (j : Nat) (hne : o ≠ off) :
    (s.setFlag off i b).flag o j = s.flag o j := s.flag_setFld_reg _ _ _ _ hne

/-- A field of a register after a bit outside it was set. -/
theorem State.fld_setFlag_bits (s : State) (off i : Nat) (b : Bool) (h l : Nat) (hw : i < 32) (hd : h < i ∨ i < l) :
    (s.setFlag off i b).fld off h l = s.fld off h l := s.fld_setFld_bits _ _ _ _ _ _ (Nat.le_refl i) hw hd

@[simp] theorem State.arr_setArr_same (s : State) (i : Nat) (x : ArrayState) : (s.setArr i x).arr i = x := tblGet_put_same _ _ _ _

theorem State.arr_setArr_other (s : State) {i j : Nat} (x : ArrayState) (h : j ≠ i) : (s.setArr i x).arr j = s.arr j :=
  tblGet_put_other (Ne.symm h)

@[simp] theorem State.core_setCore_same (s : State) (i : Nat) (x : CoreState) : (s.setCore i x).core i = x := tblGet_put_same _ _ _ _

theorem State.core_setCore_other (s : State) {i j : Nat} (x : CoreState) (h : j ≠ i) : (s.setCore i x).core j = s.core j :=
  tblGet_put_other (Ne.symm h)

@[simp] theorem State.ctx_setCtx_same (s : State) (i : Nat) (x : CtxState) : (s.setCtx i x).ctx i = x := tblGet_put_same _ _ _ _

theorem State.ctx_setCtx_other (s : State) {i j : Nat} (x : CtxState) (h : j ≠ i) : (s.setCtx i x).ctx j = s.ctx j :=
  tblGet_put_other (Ne.symm h)

@[simp] theorem State.part_setPart_same (s : State) (i : Nat) (x : PartState) : (s.setPart i x).part i = x := tblGet_put_same _ _ _ _

theorem State.part_setPart_other (s : State) {i j : Nat} (x : PartState) (h : j ≠ i) : (s.setPart i x).part j = s.part j :=
  tblGet_put_other (Ne.symm h)

@[simp] theorem State.ring_setRing_same (s : State) (i : Nat) (x : Ring) : (s.setRing i x).ring i = x := tblGet_put_same _ _ _ _

theorem State.ring_setRing_other (s : State) {i j : Nat} (x : Ring) (h : j ≠ i) : (s.setRing i x).ring j = s.ring j :=
  tblGet_put_other (Ne.symm h)

@[simp] theorem State.hport_setHport_same (s : State) (i : Nat) (x : HostPort) : (s.setHport i x).hport i = x := tblGet_put_same _ _ _ _

theorem State.hport_setHport_other (s : State) {i j : Nat} (x : HostPort) (h : j ≠ i) : (s.setHport i x).hport j = s.hport j :=
  tblGet_put_other (Ne.symm h)

@[simp] theorem State.fport_setFport_same (s : State) (i : Nat) (x : FabPortState) : (s.setFport i x).fport i = x := tblGet_put_same _ _ _ _

theorem State.fport_setFport_other (s : State) {i j : Nat} (x : FabPortState) (h : j ≠ i) : (s.setFport i x).fport j = s.fport j :=
  tblGet_put_other (Ne.symm h)

@[simp] theorem State.steps_setSteps_same (s : State) (i : Nat) (x : StepState) : (s.setSteps i x).steps i = x := tblGet_put_same _ _ _ _

theorem State.steps_setSteps_other (s : State) {i j : Nat} (x : StepState) (h : j ≠ i) : (s.setSteps i x).steps j = s.steps j :=
  tblGet_put_other (Ne.symm h)

@[simp] theorem State.arr_modArr_same (s : State) (p : Nat) (f : ArrayState → ArrayState) : (s.modArr p f).arr p = f (s.arr p) :=
  s.arr_setArr_same _ _

theorem State.arr_modArr_other (s : State) {p q : Nat} (f : ArrayState → ArrayState) (h : q ≠ p) : (s.modArr p f).arr q = s.arr q :=
  s.arr_setArr_other _ h

end Sys2Proof.Machine
end

