-- ==== Sys2Proof/Laws/Events.lean ====
section
/-!
SUPPORT. What posting an event leaves: an event reaches registers, memory, the rings, the lifetime buffer, the host ports and the ports, and
nothing else of the device.
-/
namespace Sys2Proof.Machine

/-- Two states that differ at most in what posting an event reaches. -/
structure State.SameBody (s t : State) : Prop where
  pending : t.pending = s.pending
  now : t.now = s.now
  fuses : t.fuses = s.fuses
  arrays : t.arrays = s.arrays
  cores : t.cores = s.cores
  mesh : t.mesh = s.mesh
  ctxs : t.ctxs = s.ctxs
  parts : t.parts = s.parts
  signals : t.signals = s.signals
  flint : t.flint = s.flint
  integ : t.integ = s.integ
  time : t.time = s.time
  power : t.power = s.power
  brp : t.brp = s.brp
  mgt : t.mgt = s.mgt
  fresh : t.fresh = s.fresh

theorem State.SameBody.refl (s : State) : s.SameBody s := by constructor <;> rfl

theorem State.SameBody.trans {s t u : State} (h : s.SameBody t) (g : t.SameBody u) : s.SameBody u := by
  constructor
  · exact g.pending.trans h.pending
  · exact g.now.trans h.now
  · exact g.fuses.trans h.fuses
  · exact g.arrays.trans h.arrays
  · exact g.cores.trans h.cores
  · exact g.mesh.trans h.mesh
  · exact g.ctxs.trans h.ctxs
  · exact g.parts.trans h.parts
  · exact g.signals.trans h.signals
  · exact g.flint.trans h.flint
  · exact g.integ.trans h.integ
  · exact g.time.trans h.time
  · exact g.power.trans h.power
  · exact g.brp.trans h.brp
  · exact g.mgt.trans h.mgt
  · exact g.fresh.trans h.fresh

theorem State.SameBody.setReg (s : State) (off : Nat) (v : Word) : s.SameBody (s.setReg off v) := by constructor <;> rfl
theorem State.SameBody.setFld (s : State) (off hi lo x : Nat) : s.SameBody (s.setFld off hi lo x) := by constructor <;> rfl
theorem State.SameBody.setFlag (s : State) (off i : Nat) (b : Bool) : s.SameBody (s.setFlag off i b) := by constructor <;> rfl
theorem State.SameBody.bump (s : State) (off n : Nat) : s.SameBody (s.bump off n) := by constructor <;> rfl
theorem State.SameBody.emit (s : State) (p : String) (d : List Nat) : s.SameBody (s.emit p d) := by constructor <;> rfl
theorem State.SameBody.setHport (s : State) (h : Nat) (x : HostPort) : s.SameBody (s.setHport h x) := by constructor <;> rfl
theorem State.SameBody.setRing (s : State) (k : Nat) (r : Ring) : s.SameBody (s.setRing k r) := by constructor <;> rfl
theorem State.SameBody.wrBytes (s : State) (a : Nat) (bs : List Byte) : s.SameBody (s.wrBytes a bs) := by constructor <;> rfl
theorem State.SameBody.lifeAdd (s : State) (k : Nat) (b : List Byte) : s.SameBody (s.lifeAdd k b) := by constructor <;> rfl
theorem State.SameBody.life (s : State) (l : LifeState) : s.SameBody { s with life := l } := by constructor <;> rfl

theorem State.SameBody.ite {s a b : State} {c : Prop} [Decidable c] (ha : s.SameBody a) (hb : s.SameBody b) : s.SameBody (if c then a else b) := by
  split
  · exact ha
  · exact hb

theorem State.SameBody.foldl {α : Type} {s t : State} {f : State → α → State} {l : List α} (h : s.SameBody t)
    (hf : ∀ (u : State) (x : α), u.SameBody (f u x)) : s.SameBody (l.foldl f t) := by
  induction l generalizing t with
  | nil => exact h
  | cons x l ih => exact ih (h.trans (hf t x))

theorem State.SameBody.poison (s : State) (a n : Nat) : s.SameBody (s.poison a n) :=
  State.SameBody.foldl (State.SameBody.refl s) fun u w => by constructor <;> rfl

theorem State.SameBody.hostSend (s : State) (h : Nat) (r : HostReq) (b : Bool) : s.SameBody (s.hostSend h r b) := by
  unfold State.hostSend
  extract_lets o bs ro s1 a s2
  have h2 : s.SameBody s2 :=
    (State.SameBody.foldl (State.SameBody.refl s) fun u x => State.SameBody.emit ..).trans (State.SameBody.wrBytes ..)
  split
  · exact h2.trans (State.SameBody.poison ..)
  · exact h2

theorem State.SameBody.hostReq (s : State) (h : Nat) (r : HostReq) : s.SameBody (s.hostReq h r) := by
  unfold State.hostReq
  extract_lets x y s1
  have h1 : s.SameBody s1 := State.SameBody.setHport ..
  split
  · exact State.SameBody.setHport ..
  split
  · exact State.SameBody.hostSend ..
  split
  · exact State.SameBody.hostSend ..
  split
  · exact h1
  · exact ((h1.trans (State.SameBody.setHport ..)).trans (State.SameBody.bump ..)).trans (State.SameBody.emit ..)

theorem State.SameBody.hostOut (s : State) (ctx h va : Nat) (data : Bool) (msg : List Nat) : s.SameBody (s.hostOut ctx h va data msg) :=
  State.SameBody.hostReq ..

theorem State.SameBody.hostCopy (s : State) (ctx pa : Nat) (bs : List Byte) : s.SameBody (s.hostCopy ctx pa bs) := by
  unfold State.hostCopy
  split
  · exact State.SameBody.hostOut ..
  · exact State.SameBody.wrBytes ..

theorem State.SameBody.msixRaise (s : State) (h fn v : Nat) : s.SameBody (s.msixRaise h fn v) := by
  unfold State.msixRaise
  extract_lets x w
  split
  · exact State.SameBody.emit ..
  · exact State.SameBody.setHport ..

theorem State.SameBody.msix (s : State) (k v : Nat) : s.SameBody (s.msix k v) := by
  unfold State.msix
  split
  · refine State.SameBody.foldl (State.SameBody.refl s) fun u h => ?_
    split
    · exact State.SameBody.msixRaise ..
    · exact State.SameBody.refl u
  · split
    · exact State.SameBody.msixRaise ..
    · exact State.SameBody.refl s

theorem State.SameBody.ringWrite {s t : State} {k : Nat} {r : EvRec} (h : s.ringWrite k r = some t) : s.SameBody t := by
  unfold State.ringWrite at h
  extract_lets n at h
  split at h
  · cases h
  · rename_i pa _
    extract_lets s2 f at h
    have h2 : s.SameBody s2 := (State.SameBody.hostCopy ..).trans (State.SameBody.setReg ..)
    cases h
    split
    · exact h2.trans (State.SameBody.setFld ..)
    · exact h2

theorem State.SameBody.ringHold (s : State) (k : Nat) (r : EvRec) : s.SameBody (s.ringHold k r) := by
  unfold State.ringHold
  extract_lets g s1 s2
  split
  · split
    · exact (State.SameBody.setRing ..).trans (State.SameBody.setFlag ..)
    · exact State.SameBody.setRing ..
  · have h2 : s.SameBody s2 := (State.SameBody.setRing ..).trans (State.SameBody.setFlag ..)
    split
    · exact h2
    · exact h2.trans (State.SameBody.bump ..)

theorem State.SameBody.ringPut (s : State) (k : Nat) (r : EvRec) : s.SameBody (s.ringPut k r) := by
  have h1 : s.SameBody (((s.ringHold k r).setRing k { (s.ringHold k r).ring k with blocked := true }).markStalled k true) :=
    ((State.SameBody.ringHold ..).trans (State.SameBody.setRing ..)).trans (State.SameBody.setFlag ..)
  unfold State.ringPut
  dsimp only
  split
  · exact State.SameBody.ringHold ..
  · split
    · rename_i t ht; exact State.SameBody.ringWrite ht
    · split
      · split
        · exact h1.trans (State.SameBody.ringHold ..)
        · generalize hw : State.ringWrite _ devRing _ = o
          cases o with
          | none => exact h1
          | some t => exact h1.trans (State.SameBody.ringWrite hw)
      · exact h1

theorem State.SameBody.ringCrossing (s : State) (k : Nat) : s.SameBody (s.ringCrossing k) := by
  unfold State.ringCrossing
  extract_lets s1 g
  have h1 : s.SameBody s1 := (State.SameBody.setFlag ..).trans (State.SameBody.bump ..)
  split
  · exact h1.trans (State.SameBody.setRing ..)
  · exact ((h1.trans (State.SameBody.setRing ..)).trans (State.SameBody.ringPut ..)).trans (State.SameBody.msix ..)

theorem State.SameBody.ringPost (s : State) (k : Nat) (r : EvRec) : s.SameBody (s.ringPost k r) := by
  unfold State.ringPost
  extract_lets b t
  have h1 : s.SameBody t := State.SameBody.ringPut ..
  split
  · exact h1.trans (State.SameBody.ringCrossing ..)
  · exact h1

theorem State.SameBody.forwardEvent (s : State) (r : EvRec) : s.SameBody (s.forwardEvent r) := by
  unfold State.forwardEvent
  split
  · extract_lets sec n
    split
    · exact (State.SameBody.emit ..).trans (State.SameBody.life ..)
    · exact State.SameBody.setFld ..
  · exact State.SameBody.refl s

/-- Posting an event leaves everything but registers, memory, the rings, the lifetime buffer, the host ports and the ports. -/
theorem State.SameBody.post (s : State) (ctx : Option Nat) (copy : Bool) (cls code sev source payload : Nat) :
    s.SameBody (s.post ctx copy cls code sev source payload) := by
  unfold State.post
  extract_lets r s1
  have h1 : s.SameBody s1 := State.SameBody.ite (State.SameBody.lifeAdd ..) (State.SameBody.refl s)
  split
  · exact (h1.trans (State.SameBody.ringPost ..)).trans (State.SameBody.forwardEvent ..)
  · extract_lets s2
    have h2 : s.SameBody s2 := h1.trans (State.SameBody.ringPost ..)
    split
    · exact (h2.trans (State.SameBody.ringPost ..)).trans (State.SameBody.forwardEvent ..)
    · exact h2

theorem State.SameBody.postDev (s : State) (cls code sev source payload : Nat) : s.SameBody (s.postDev cls code sev source payload) :=
  State.SameBody.post ..

theorem State.SameBody.postCtx (s : State) (c cls code sev source payload : Nat) : s.SameBody (s.postCtx c cls code sev source payload) :=
  State.SameBody.post ..

@[simp] theorem State.postDev_power (s : State) (a b c d e : Nat) : (s.postDev a b c d e).power = s.power := (State.SameBody.postDev ..).power
@[simp] theorem State.postDev_brp (s : State) (a b c d e : Nat) : (s.postDev a b c d e).brp = s.brp := (State.SameBody.postDev ..).brp
@[simp] theorem State.postDev_mgt (s : State) (a b c d e : Nat) : (s.postDev a b c d e).mgt = s.mgt := (State.SameBody.postDev ..).mgt
@[simp] theorem State.postDev_now (s : State) (a b c d e : Nat) : (s.postDev a b c d e).now = s.now := (State.SameBody.postDev ..).now
@[simp] theorem State.postDev_time (s : State) (a b c d e : Nat) : (s.postDev a b c d e).time = s.time := (State.SameBody.postDev ..).time
@[simp] theorem State.postDev_integ (s : State) (a b c d e : Nat) : (s.postDev a b c d e).integ = s.integ := (State.SameBody.postDev ..).integ
@[simp] theorem State.postDev_arr (s : State) (a b c d e p : Nat) : (s.postDev a b c d e).arr p = s.arr p := by
  unfold State.arr; rw [(State.SameBody.postDev s a b c d e).arrays]

@[simp] theorem State.inputEvent_power (s : State) (a b c d e f g h i : Nat) : (s.inputEvent a b c d e f g h i).power = s.power :=
  s.postDev_power ..
@[simp] theorem State.inputEvent_brp (s : State) (a b c d e f g h i : Nat) : (s.inputEvent a b c d e f g h i).brp = s.brp := s.postDev_brp ..
@[simp] theorem State.inputEvent_arr (s : State) (a b c d e f g h i p : Nat) : (s.inputEvent a b c d e f g h i).arr p = s.arr p :=
  s.postDev_arr ..

end Sys2Proof.Machine
end

