-- ==== Sys2Proof/Laws/Keep.lean ====
section
/-!
SUPPORT. The relation that every operation of the device keeps between the state before a command and a state during it: the queue and
the fuses stand, and a memory in canonical form stays in it. One lemma for each way an operation is put together; the files KeepA to
KeepH hold one lemma for each shared operation.
-/
namespace Sys2Proof.Machine

/-- A state during a command, against the state the command began with. -/
structure State.Keeps (o s : State) : Prop where
  pending : s.pending = o.pending
  fuses : s.fuses = o.fuses
  mem : Memory.wf o.mem = true → Memory.wf s.mem = true

theorem State.Keeps.refl (o : State) : State.Keeps o o := ⟨rfl, rfl, id⟩

theorem State.Keeps.trans {o s t : State} (h : State.Keeps o s) (g : State.Keeps s t) : State.Keeps o t :=
  ⟨g.pending.trans h.pending, g.fuses.trans h.fuses, fun w => g.mem (h.mem w)⟩

/-- A state built from one that keeps, with its queue, fuses and memory. -/
theorem State.Keeps.mk' {o t : State} (h : State.Keeps o t) {now : DWord} {regs rdLatch wrLatch : Tbl Word} {memst : MemState}
    {arrays : Tbl ArrayState} {cores : Tbl CoreState} {mesh : List MeshMsg} {rings : Tbl Ring} {life : LifeState} {ctxs : Tbl CtxState}
    {parts : Tbl PartState} {signals : List Signal} {flint : FlintState} {integ : Integ} {fab : FabState} {time : TimeState}
    {power : PowerState} {brp : BrpState} {mgt : MgtState} {reply : List Nat} {out : List OutMsg} {abortSeq fresh : Nat} :
    State.Keeps o ⟨t.pending, now, t.fuses, regs, rdLatch, wrLatch, t.mem, memst, arrays, cores, mesh, rings, life, ctxs, parts, signals,
      flint, integ, fab, time, power, brp, mgt, reply, out, abortSeq, fresh⟩ := ⟨h.pending, h.fuses, h.mem⟩

theorem State.Keeps.ite {o a b : State} {c : Prop} [Decidable c] (hb : State.Keeps o b) (ha : State.Keeps o b → State.Keeps o a) :
    State.Keeps o (if c then a else b) := by
  split
  · exact ha hb
  · exact hb

theorem State.Keeps.foldl {α : Type} {o s : State} {f : State → α → State} {l : List α} (hs : State.Keeps o s)
    (hf : ∀ t x, State.Keeps o t → State.Keeps o (f t x)) : State.Keeps o (l.foldl f s) := by
  induction l generalizing s with
  | nil => exact hs
  | cons x l ih => exact ih (hf s x hs)

/-- A fold that carries a state beside another value. -/
theorem State.Keeps.foldlFst {α β : Type} {o : State} {p : State × β} {f : State × β → α → State × β} {l : List α}
    (hp : State.Keeps o p.1) (hf : ∀ q x, State.Keeps o q.1 → State.Keeps o (f q x).1) : State.Keeps o (l.foldl f p).1 := by
  induction l generalizing p with
  | nil => exact hp
  | cons x l ih => exact ih (hf p x hp)

theorem State.Keeps.foldlSnd {α β : Type} {o : State} {p : β × State} {f : β × State → α → β × State} {l : List α}
    (hp : State.Keeps o p.2) (hf : ∀ q x, State.Keeps o q.2 → State.Keeps o (f q x).2) : State.Keeps o (l.foldl f p).2 := by
  induction l generalizing p with
  | nil => exact hp
  | cons x l ih => exact ih (hf p x hp)

theorem State.Keeps.of_fst {β : Type} {o t : State} {b : β} {p : State × β} (e : p = (t, b)) (h : State.Keeps o p.1) : State.Keeps o t := by
  subst e; exact h

theorem State.Keeps.of_snd {β : Type} {o t : State} {b : β} {p : β × State} (e : p = (b, t)) (h : State.Keeps o p.2) : State.Keeps o t := by
  subst e; exact h

/-- A state that an optional outcome holds, if it holds one. -/
theorem State.Keeps.of_some {o t : State} {p : Option State} (e : p = some t) (h : ∀ u, p = some u → State.Keeps o u) : State.Keeps o t := h t e

theorem State.Keeps.getD {o s : State} {p : Option State} (h : ∀ u, p = some u → State.Keeps o u) (g : State.Keeps o s) :
    State.Keeps o (p.getD s) := by
  cases p with
  | none => exact g
  | some u => exact h u rfl

/-- A state built from one that keeps, with cells of its memory dropped. -/
theorem State.Keeps.filtered {o t : State} (h : State.Keeps o t) {f : Host.Cell → Bool} {now : DWord} {regs rdLatch wrLatch : Tbl Word}
    {memst : MemState} {arrays : Tbl ArrayState} {cores : Tbl CoreState} {mesh : List MeshMsg} {rings : Tbl Ring} {life : LifeState}
    {ctxs : Tbl CtxState} {parts : Tbl PartState} {signals : List Signal} {flint : FlintState} {integ : Integ} {fab : FabState}
    {time : TimeState} {power : PowerState} {brp : BrpState} {mgt : MgtState} {reply : List Nat} {out : List OutMsg}
    {abortSeq fresh : Nat} :
    State.Keeps o ⟨t.pending, now, t.fuses, regs, rdLatch, wrLatch, t.mem.filter f, memst, arrays, cores, mesh, rings, life, ctxs, parts,
      signals, flint, integ, fab, time, power, brp, mgt, reply, out, abortSeq, fresh⟩ :=
  ⟨h.pending, h.fuses, fun w => Memory.wf_filter _ _ (h.mem w)⟩

/-- What a controller's read gives: the state in it keeps. -/
def CtrlRead.Keeps (o : State) : CtrlRead → Prop
  | .ok _ s => State.Keeps o s
  | .bad _ _ s => State.Keeps o s
  | .tr _ => True
  | .wait => True

theorem CtrlRead.keeps_ok {o t : State} {r : CtrlRead} {bs : List Byte} (e : r = .ok bs t) (h : r.Keeps o) : State.Keeps o t := by
  subst e; exact h

theorem CtrlRead.keeps_bad {o t : State} {r : CtrlRead} {d a : Nat} (e : r = .bad d a t) (h : r.Keeps o) : State.Keeps o t := by
  subst e; exact h

/-- A register effect that keeps every state. -/
def RegEffect.Keeps (e : RegEffect) : Prop := ∀ o s req a b, State.Keeps o s → State.Keeps o (e.act s req a b)

theorem RegEffect.plain_keeps : RegEffect.Keeps (RegEffect.plain) := fun _ _ _ _ _ h => h

theorem RegEffect.Keeps.act {o s : State} {e : RegEffect} {req : Requester} {a b : Nat} (he : e.Keeps) (h : State.Keeps o s) :
    State.Keeps o (e.act s req a b) := he o s req a b h

/-- A command's outcome: a next state that keeps. -/
def Out.Keeps (o : State) : Host.Outcome State Fault Refusal → Prop
  | .next s => State.Keeps o s
  | .fault _ => False
  | .refused _ => False

theorem Out.keeps_next {o s : State} (h : State.Keeps o s) : Out.Keeps o (.next s) := h

theorem RegEffect.keeps_ite {c : Prop} [Decidable c] {a b : RegEffect} (ha : a.Keeps) (hb : b.Keeps) : (if c then a else b).Keeps := by
  split
  · exact ha
  · exact hb

theorem RegEffect.keeps_getD {p : Option RegEffect} {d : RegEffect} (h : ∀ e, p = some e → e.Keeps) (g : d.Keeps) : (p.getD d).Keeps := by
  cases p with
  | none => exact g
  | some e => exact h e rfl

/-- No effect of its own, or one that keeps. -/
theorem RegEffect.keeps_some_ite {c : Prop} [Decidable c] {a : RegEffect} {p : Option RegEffect} (ha : a.Keeps)
    (hp : ∀ e, p = some e → e.Keeps) : ∀ e, (if c then some a else p) = some e → e.Keeps := by
  intro e h
  split at h
  · cases h; exact ha
  · exact hp e h

end Sys2Proof.Machine
end

