-- ==== Sys2Proof/Laws/KeepA.lean ====
section
/-!
SUPPORT. What the shared operations of Ops, Events, LinkOps, CtxOps, SyncOps, RepairLog keep: one lemma each, the relation of Laws/Keep.
-/
namespace Sys2Proof.Machine

theorem State.setReg_keeps {z : State} (s : State) (off : Nat) (v : Word) (hk : State.Keeps z s) :
    State.Keeps z (State.setReg s off v) := by
  unfold State.setReg
  repeat' first
    | with_reducible assumption
    | fail_if_no_progress with_reducible apply State.Keeps.mk'

theorem State.setFld_keeps {z : State} (s : State) (off : Nat) (hi : Nat) (lo : Nat) (x : Nat) (hk : State.Keeps z s) :
    State.Keeps z (State.setFld s off hi lo x) := by
  unfold State.setFld
  repeat' first
    | with_reducible assumption
    | with_reducible apply State.setReg_keeps

theorem State.setFlag_keeps {z : State} (s : State) (off : Nat) (i : Nat) (b : Bool) (hk : State.Keeps z s) :
    State.Keeps z (State.setFlag s off i b) := by
  unfold State.setFlag
  repeat' first
    | with_reducible assumption
    | with_reducible apply State.setFld_keeps

theorem State.bump_keeps {z : State} (s : State) (off : Nat) (n : Nat) (hk : State.Keeps z s) :
    State.Keeps z (State.bump s off n) := by
  unfold State.bump
  repeat' first
    | with_reducible assumption
    | with_reducible apply State.setReg_keeps

theorem State.setReg64_keeps {z : State} (s : State) (off : Nat) (v : Nat) (hk : State.Keeps z s) :
    State.Keeps z (State.setReg64 s off v) := by
  unfold State.setReg64
  repeat' first
    | with_reducible assumption
    | with_reducible apply State.setReg_keeps

theorem State.bump64_keeps {z : State} (s : State) (off : Nat) (n : Nat) (hk : State.Keeps z s) :
    State.Keeps z (State.bump64 s off n) := by
  unfold State.bump64
  repeat' first
    | with_reducible assumption
    | with_reducible apply State.setReg64_keeps

theorem State.setArr_keeps {z : State} (s : State) (p : Nat) (a : ArrayState) (hk : State.Keeps z s) :
    State.Keeps z (State.setArr s p a) := by
  unfold State.setArr
  repeat' first
    | with_reducible assumption
    | fail_if_no_progress with_reducible apply State.Keeps.mk'

theorem State.modArr_keeps {z : State} (s : State) (p : Nat) (f : ArrayState → ArrayState) (hk : State.Keeps z s) :
    State.Keeps z (State.modArr s p f) := by
  unfold State.modArr
  repeat' first
    | with_reducible assumption
    | with_reducible apply State.setArr_keeps

theorem State.modCtrl_keeps {z : State} (s : State) (p : Nat) (f : Ctrl → Ctrl) (hk : State.Keeps z s) :
    State.Keeps z (State.modCtrl s p f) := by
  unfold State.modCtrl
  repeat' first
    | with_reducible assumption
    | with_reducible apply State.modArr_keeps

theorem State.setCore_keeps {z : State} (s : State) (id : Nat) (c : CoreState) (hk : State.Keeps z s) :
    State.Keeps z (State.setCore s id c) := by
  unfold State.setCore
  repeat' first
    | with_reducible assumption
    | fail_if_no_progress with_reducible apply State.Keeps.mk'

theorem State.emit_keeps {z : State} (s : State) (port : String) (data : List Nat) (hk : State.Keeps z s) :
    State.Keeps z (State.emit s port data) := by
  unfold State.emit
  repeat' first
    | with_reducible assumption
    | fail_if_no_progress with_reducible apply State.Keeps.mk'

theorem State.drawn_keeps {z : State} (s : State) (hk : State.Keeps z s) :
    State.Keeps z (State.drawn s) := by
  unfold State.drawn
  repeat' first
    | with_reducible assumption
    | fail_if_no_progress with_reducible apply State.Keeps.mk'

theorem State.answer_keeps {z : State} (s : State) (d : List Nat) (hk : State.Keeps z s) :
    State.Keeps z (State.answer s d) := by
  unfold State.answer
  repeat' first
    | with_reducible assumption
    | fail_if_no_progress with_reducible apply State.Keeps.mk'

theorem State.setCheck_keeps {z : State} (s : State) (a : Nat) (c : Check) (hk : State.Keeps z s) :
    State.Keeps z (State.setCheck s a c) := by
  unfold State.setCheck
  repeat' first
    | with_reducible assumption
    | fail_if_no_progress with_reducible apply State.Keeps.mk'

theorem State.wrBytes_keeps {z : State} (s : State) (a : Nat) (bs : List Byte) (hk : State.Keeps z s) :
    State.Keeps z (State.wrBytes s a bs) :=
  ⟨hk.pending, hk.fuses, fun w => Memory.wf_memPut _ a bs (hk.mem w)⟩

theorem State.poison_keeps {z : State} (s : State) (a : Nat) (n : Nat) (hk : State.Keeps z s) :
    State.Keeps z (State.poison s a n) := by
  unfold State.poison
  repeat' first
    | with_reducible assumption
    | with_reducible apply State.setCheck_keeps
    | fail_if_no_progress with_reducible apply State.Keeps.mk'
    | with_reducible apply State.Keeps.ite
    | with_reducible apply State.Keeps.foldl
    | with_reducible apply State.Keeps.foldlFst
    | with_reducible apply State.Keeps.foldlSnd
    | intro _

theorem State.setRing_keeps {z : State} (s : State) (k : Nat) (r : Ring) (hk : State.Keeps z s) :
    State.Keeps z (State.setRing s k r) := by
  unfold State.setRing
  repeat' first
    | with_reducible assumption
    | fail_if_no_progress with_reducible apply State.Keeps.mk'

theorem State.lifeAdd_keeps {z : State} (s : State) (kind : Nat) (body : List Byte) (hk : State.Keeps z s) :
    State.Keeps z (State.lifeAdd s kind body) := by
  unfold State.lifeAdd
  repeat' first
    | with_reducible assumption
    | fail_if_no_progress with_reducible apply State.Keeps.mk'

theorem State.lifeCount_keeps {z : State} (s : State) (w : Nat) (n : Nat) (hk : State.Keeps z s) :
    State.Keeps z (State.lifeCount s w n) := by
  unfold State.lifeCount
  repeat' first
    | with_reducible assumption
    | fail_if_no_progress with_reducible apply State.Keeps.mk'

theorem State.forwardEvent_keeps {z : State} (s : State) (r : EvRec) (hk : State.Keeps z s) :
    State.Keeps z (State.forwardEvent s r) := by
  unfold State.forwardEvent
  repeat' first
    | with_reducible assumption
    | with_reducible apply State.setFld_keeps
    | with_reducible apply State.emit_keeps
    | fail_if_no_progress with_reducible apply State.Keeps.mk'
    | with_reducible apply State.Keeps.ite
    | with_reducible apply State.Keeps.foldl
    | with_reducible apply State.Keeps.foldlFst
    | with_reducible apply State.Keeps.foldlSnd
    | intro _

theorem State.setHport_keeps {z : State} (s : State) (h : Nat) (x : HostPort) (hk : State.Keeps z s) :
    State.Keeps z (State.setHport s h x) := by
  unfold State.setHport
  repeat' first
    | with_reducible assumption
    | fail_if_no_progress with_reducible apply State.Keeps.mk'

theorem State.hostSend_keeps {z : State} (s : State) (h : Nat) (r : HostReq) (translated : Bool) (hk : State.Keeps z s) :
    State.Keeps z (State.hostSend s h r translated) := by
  unfold State.hostSend
  repeat' first
    | with_reducible assumption
    | with_reducible apply State.emit_keeps
    | with_reducible apply State.wrBytes_keeps
    | with_reducible apply State.poison_keeps
    | fail_if_no_progress with_reducible apply State.Keeps.mk'
    | with_reducible apply State.Keeps.ite
    | with_reducible apply State.Keeps.foldl
    | with_reducible apply State.Keeps.foldlFst
    | with_reducible apply State.Keeps.foldlSnd
    | intro _
    | split
    | dsimp only

theorem State.hostReq_keeps {z : State} (s : State) (h : Nat) (r : HostReq) (hk : State.Keeps z s) :
    State.Keeps z (State.hostReq s h r) := by
  unfold State.hostReq
  repeat' first
    | with_reducible assumption
    | with_reducible apply State.setHport_keeps
    | with_reducible apply State.hostSend_keeps
    | with_reducible apply State.emit_keeps
    | with_reducible apply State.bump_keeps
    | fail_if_no_progress with_reducible apply State.Keeps.mk'
    | with_reducible apply State.Keeps.ite
    | with_reducible apply State.Keeps.foldl
    | with_reducible apply State.Keeps.foldlFst
    | with_reducible apply State.Keeps.foldlSnd
    | intro _
    | split
    | dsimp only

theorem State.hostOut_keeps {z : State} (s : State) (ctx : Nat) (h : Nat) (va : Nat) (data : Bool) (msg : List Nat) (hk : State.Keeps z s) :
    State.Keeps z (State.hostOut s ctx h va data msg) := by
  unfold State.hostOut
  repeat' first
    | with_reducible assumption
    | with_reducible apply State.hostReq_keeps
    | fail_if_no_progress with_reducible apply State.Keeps.mk'
    | with_reducible apply State.Keeps.ite
    | with_reducible apply State.Keeps.foldl
    | with_reducible apply State.Keeps.foldlFst
    | with_reducible apply State.Keeps.foldlSnd
    | intro _
    | split
    | dsimp only

theorem State.msixRaise_keeps {z : State} (s : State) (h : Nat) (fn : Nat) (v : Nat) (hk : State.Keeps z s) :
    State.Keeps z (State.msixRaise s h fn v) := by
  unfold State.msixRaise
  repeat' first
    | with_reducible assumption
    | with_reducible apply State.setHport_keeps
    | with_reducible apply State.emit_keeps
    | fail_if_no_progress with_reducible apply State.Keeps.mk'
    | with_reducible apply State.Keeps.ite
    | with_reducible apply State.Keeps.foldl
    | with_reducible apply State.Keeps.foldlFst
    | with_reducible apply State.Keeps.foldlSnd
    | intro _

theorem State.msix_keeps {z : State} (s : State) (k : Nat) (v : Nat) (hk : State.Keeps z s) :
    State.Keeps z (State.msix s k v) := by
  unfold State.msix
  repeat' first
    | with_reducible assumption
    | with_reducible apply State.msixRaise_keeps
    | fail_if_no_progress with_reducible apply State.Keeps.mk'
    | with_reducible apply State.Keeps.ite
    | with_reducible apply State.Keeps.foldl
    | with_reducible apply State.Keeps.foldlFst
    | with_reducible apply State.Keeps.foldlSnd
    | intro _
    | split

theorem State.hostCopy_keeps {z : State} (s : State) (ctx : Nat) (pa : Nat) (bs : List Byte) (hk : State.Keeps z s) :
    State.Keeps z (State.hostCopy s ctx pa bs) := by
  unfold State.hostCopy
  repeat' first
    | with_reducible assumption
    | with_reducible apply State.wrBytes_keeps
    | with_reducible apply State.hostOut_keeps
    | fail_if_no_progress with_reducible apply State.Keeps.mk'
    | with_reducible apply State.Keeps.ite
    | with_reducible apply State.Keeps.foldl
    | with_reducible apply State.Keeps.foldlFst
    | with_reducible apply State.Keeps.foldlSnd
    | intro _
    | split

theorem State.ringWrite_keeps {z : State} (s : State) (k : Nat) (r : EvRec) (hk : State.Keeps z s) (u : State)
    (e : State.ringWrite s k r = some u) : State.Keeps z u := by
  unfold State.ringWrite at e
  dsimp only at e
  split at e
  · cases e
  · simp only [Option.some.injEq] at e
    rw [← e]
    repeat' first
      | with_reducible assumption
      | with_reducible apply State.hostCopy_keeps
      | with_reducible apply State.wrBytes_keeps
      | with_reducible apply State.setReg_keeps
      | with_reducible apply State.setFld_keeps
      | fail_if_no_progress with_reducible apply State.Keeps.mk'
      | with_reducible apply State.Keeps.ite

theorem State.ringHold_keeps {z : State} (s : State) (k : Nat) (r : EvRec) (hk : State.Keeps z s) :
    State.Keeps z (State.ringHold s k r) := by
  unfold State.ringHold
  repeat' first
    | with_reducible assumption
    | with_reducible apply State.setFlag_keeps
    | with_reducible apply State.bump_keeps
    | with_reducible apply State.setRing_keeps
    | fail_if_no_progress with_reducible apply State.Keeps.mk'
    | with_reducible apply State.Keeps.ite
    | with_reducible apply State.Keeps.foldl
    | with_reducible apply State.Keeps.foldlFst
    | with_reducible apply State.Keeps.foldlSnd
    | intro _

theorem State.markStalled_keeps {z : State} (s : State) (ctx : Nat) (b : Bool) (hk : State.Keeps z s) :
    State.Keeps z (State.markStalled s ctx b) := by
  unfold State.markStalled
  repeat' first
    | with_reducible assumption
    | with_reducible apply State.setFlag_keeps

theorem State.ringPut_keeps {z : State} (s : State) (k : Nat) (r : EvRec) (hk : State.Keeps z s) :
    State.Keeps z (State.ringPut s k r) := by
  unfold State.ringPut
  repeat' first
    | with_reducible assumption
    | with_reducible refine State.Keeps.of_some (by assumption) (fun u e => State.ringWrite_keeps _ _ _ ?_ u e)
    | with_reducible apply State.Keeps.getD (State.ringWrite_keeps _ _ _ ?_)
    | with_reducible apply State.markStalled_keeps
    | with_reducible apply State.ringHold_keeps
    | with_reducible apply State.setRing_keeps
    | fail_if_no_progress with_reducible apply State.Keeps.mk'
    | with_reducible apply State.Keeps.ite
    | with_reducible apply State.Keeps.foldl
    | with_reducible apply State.Keeps.foldlFst
    | with_reducible apply State.Keeps.foldlSnd
    | intro _
    | split
    | dsimp only

theorem State.ringCrossing_keeps {z : State} (s : State) (k : Nat) (hk : State.Keeps z s) :
    State.Keeps z (State.ringCrossing s k) := by
  unfold State.ringCrossing
  repeat' first
    | with_reducible assumption
    | with_reducible apply State.setFlag_keeps
    | with_reducible apply State.bump_keeps
    | with_reducible apply State.setRing_keeps
    | with_reducible apply State.ringPut_keeps
    | with_reducible apply State.msix_keeps
    | fail_if_no_progress with_reducible apply State.Keeps.mk'
    | with_reducible apply State.Keeps.ite
    | with_reducible apply State.Keeps.foldl
    | with_reducible apply State.Keeps.foldlFst
    | with_reducible apply State.Keeps.foldlSnd
    | intro _

theorem State.ringPost_keeps {z : State} (s : State) (k : Nat) (r : EvRec) (hk : State.Keeps z s) :
    State.Keeps z (State.ringPost s k r) := by
  unfold State.ringPost
  repeat' first
    | with_reducible assumption
    | with_reducible apply State.ringCrossing_keeps
    | with_reducible apply State.ringPut_keeps
    | fail_if_no_progress with_reducible apply State.Keeps.mk'
    | with_reducible apply State.Keeps.ite

theorem State.post_keeps {z : State} (s : State) (ctx : Option Nat) (copy : Bool) (cls : Nat) (code : Nat) (sev : Nat) (source : Nat) (payload : Nat) (hk : State.Keeps z s) :
    State.Keeps z (State.post s ctx copy cls code sev source payload) := by
  unfold State.post
  repeat' first
    | with_reducible assumption
    | with_reducible apply State.lifeAdd_keeps
    | with_reducible apply State.forwardEvent_keeps
    | with_reducible apply State.ringPost_keeps
    | fail_if_no_progress with_reducible apply State.Keeps.mk'
    | with_reducible apply State.Keeps.ite
    | with_reducible apply State.Keeps.foldl
    | with_reducible apply State.Keeps.foldlFst
    | with_reducible apply State.Keeps.foldlSnd
    | intro _
    | split

theorem State.postDev_keeps {z : State} (s : State) (cls : Nat) (code : Nat) (sev : Nat) (source : Nat) (payload : Nat) (hk : State.Keeps z s) :
    State.Keeps z (State.postDev s cls code sev source payload) := by
  unfold State.postDev
  repeat' first
    | with_reducible assumption
    | with_reducible apply State.post_keeps

theorem State.postCtx_keeps {z : State} (s : State) (c : Nat) (cls : Nat) (code : Nat) (sev : Nat) (source : Nat) (payload : Nat) (hk : State.Keeps z s) :
    State.Keeps z (State.postCtx s c cls code sev source payload) := by
  unfold State.postCtx
  repeat' first
    | with_reducible assumption
    | with_reducible apply State.post_keeps

theorem State.ringDrain_keeps {z : State} (s : State) (k : Nat) (n : Nat) (hk : State.Keeps z s) :
    State.Keeps z (State.ringDrain s k n) := by
  induction n generalizing s with
  | zero => exact hk
  | succ n ih =>
    unfold State.ringDrain
    repeat' first
      | with_reducible assumption
      | with_reducible apply ih
      | with_reducible refine State.Keeps.of_some (by assumption) (fun u e => State.ringWrite_keeps _ _ _ ?_ u e)
      | with_reducible apply State.setRing_keeps
      | fail_if_no_progress with_reducible apply State.Keeps.mk'
      | with_reducible apply State.Keeps.ite
      | with_reducible apply State.Keeps.foldl
      | with_reducible apply State.Keeps.foldlFst
      | with_reducible apply State.Keeps.foldlSnd
      | intro _
      | split

theorem State.ringRoom_keeps {z : State} (s : State) (k : Nat) (hk : State.Keeps z s) :
    State.Keeps z (State.ringRoom s k) := by
  unfold State.ringRoom
  repeat' first
    | with_reducible assumption
    | with_reducible apply State.setFlag_keeps
    | with_reducible apply State.setRing_keeps
    | with_reducible apply State.ringDrain_keeps
    | with_reducible apply State.ringPost_keeps
    | fail_if_no_progress with_reducible apply State.Keeps.mk'
    | with_reducible apply State.Keeps.ite
    | with_reducible apply State.Keeps.foldl
    | with_reducible apply State.Keeps.foldlFst
    | with_reducible apply State.Keeps.foldlSnd
    | intro _

theorem State.setFport_keeps {z : State} (s : State) (f : Nat) (x : FabPortState) (hk : State.Keeps z s) :
    State.Keeps z (State.setFport s f x) := by
  unfold State.setFport
  repeat' first
    | with_reducible assumption
    | fail_if_no_progress with_reducible apply State.Keeps.mk'

theorem State.flitSend_keeps {z : State} (s : State) (f : Nat) (kind : Nat) (vc : Nat) (payload : List Byte) (hk : State.Keeps z s) :
    State.Keeps z (State.flitSend s f kind vc payload) := by
  unfold State.flitSend
  repeat' first
    | with_reducible assumption
    | with_reducible apply State.setFport_keeps
    | with_reducible apply State.emit_keeps

theorem State.timingSend_keeps {z : State} (s : State) (f : Nat) (payload : List Byte) (hk : State.Keeps z s) :
    State.Keeps z (State.timingSend s f payload) := by
  unfold State.timingSend
  repeat' first
    | with_reducible assumption
    | with_reducible apply State.emit_keeps

theorem State.txnSent_keeps {z : State} (s : State) (slot : Option Nat) (hk : State.Keeps z s) :
    State.Keeps z (State.txnSent s slot) := by
  unfold State.txnSent
  repeat' first
    | with_reducible assumption
    | fail_if_no_progress with_reducible apply State.Keeps.mk'
    | with_reducible apply State.Keeps.ite
    | with_reducible apply State.Keeps.foldl
    | with_reducible apply State.Keeps.foldlFst
    | with_reducible apply State.Keeps.foldlSnd
    | intro _
    | split

theorem State.packetOut_keeps {z : State} (s : State) (f : Nat) (i : TxItem) (hk : State.Keeps z s) :
    State.Keeps z (State.packetOut s f i) := by
  unfold State.packetOut
  repeat' first
    | with_reducible assumption
    | with_reducible apply State.txnSent_keeps
    | with_reducible apply State.flitSend_keeps
    | with_reducible apply State.bump64_keeps
    | fail_if_no_progress with_reducible apply State.Keeps.mk'
    | with_reducible apply State.Keeps.ite
    | with_reducible apply State.Keeps.foldl
    | with_reducible apply State.Keeps.foldlFst
    | with_reducible apply State.Keeps.foldlSnd
    | intro _

theorem State.portPump_keeps {z : State} (s : State) (f : Nat) (hk : State.Keeps z s) :
    State.Keeps z (State.portPump s f) := by
  unfold State.portPump
  repeat' first
    | with_reducible assumption
    | with_reducible apply State.setFport_keeps
    | with_reducible apply State.packetOut_keeps
    | fail_if_no_progress with_reducible apply State.Keeps.mk'
    | with_reducible apply State.Keeps.ite
    | with_reducible apply State.Keeps.foldl
    | with_reducible apply State.Keeps.foldlFst
    | with_reducible apply State.Keeps.foldlSnd
    | intro _
    | split
    | dsimp only

theorem State.wakePort_keeps {z : State} (s : State) (f : Nat) (hk : State.Keeps z s) :
    State.Keeps z (State.wakePort s f) := by
  unfold State.wakePort
  repeat' first
    | with_reducible assumption
    | with_reducible apply State.setFport_keeps
    | with_reducible apply State.setFld_keeps
    | fail_if_no_progress with_reducible apply State.Keeps.mk'
    | with_reducible apply State.Keeps.ite
    | with_reducible apply State.Keeps.foldl
    | with_reducible apply State.Keeps.foldlFst
    | with_reducible apply State.Keeps.foldlSnd
    | intro _

theorem State.portSend_keeps {z : State} (s : State) (f : Nat) (vc : Nat) (queue : Option Nat) (txn : Option Nat) (bs : List Byte) (hk : State.Keeps z s) :
    State.Keeps z (State.portSend s f vc queue txn bs) := by
  unfold State.portSend
  repeat' first
    | with_reducible assumption
    | with_reducible apply State.setFport_keeps
    | with_reducible apply State.wakePort_keeps
    | with_reducible apply State.portPump_keeps
    | fail_if_no_progress with_reducible apply State.Keeps.mk'
    | with_reducible apply State.Keeps.ite

theorem State.setCtx_keeps {z : State} (s : State) (c : Nat) (x : CtxState) (hk : State.Keeps z s) :
    State.Keeps z (State.setCtx s c x) := by
  unfold State.setCtx
  repeat' first
    | with_reducible assumption
    | fail_if_no_progress with_reducible apply State.Keeps.mk'

theorem State.setCtxState_keeps {z : State} (s : State) (c : Nat) (x : Nat) (hk : State.Keeps z s) :
    State.Keeps z (State.setCtxState s c x) := by
  unfold State.setCtxState
  repeat' first
    | with_reducible assumption
    | with_reducible apply State.setFld_keeps

theorem State.setPart_keeps {z : State} (s : State) (p : Nat) (x : PartState) (hk : State.Keeps z s) :
    State.Keeps z (State.setPart s p x) := by
  unfold State.setPart
  repeat' first
    | with_reducible assumption
    | fail_if_no_progress with_reducible apply State.Keeps.mk'

theorem State.jobAbort_keeps {z : State} (s : State) (c : Nat) (failed : Bool) (hk : State.Keeps z s) :
    State.Keeps z (State.jobAbort s c failed) := by
  unfold State.jobAbort
  repeat' first
    | with_reducible assumption
    | with_reducible apply State.portSend_keeps
    | with_reducible apply State.postCtx_keeps
    | fail_if_no_progress with_reducible apply State.Keeps.mk'
    | with_reducible apply State.Keeps.ite
    | with_reducible apply State.Keeps.foldl
    | with_reducible apply State.Keeps.foldlFst
    | with_reducible apply State.Keeps.foldlSnd
    | intro _

theorem State.stopRun_keeps {z : State} (s : State) (p : Nat) (late : Bool) (hk : State.Keeps z s) :
    State.Keeps z (State.stopRun s p late) := by
  unfold State.stopRun
  repeat' first
    | with_reducible assumption
    | fail_if_no_progress with_reducible apply State.Keeps.mk'
    | with_reducible apply State.Keeps.ite
    | with_reducible apply State.Keeps.foldl
    | with_reducible apply State.Keeps.foldlFst
    | with_reducible apply State.Keeps.foldlSnd
    | intro _
    | split
    | dsimp only

theorem State.cutRun_keeps {z : State} (s : State) (p : Nat) (hk : State.Keeps z s) :
    State.Keeps z (State.cutRun s p) := by
  unfold State.cutRun
  repeat' first
    | with_reducible assumption
    | with_reducible apply State.stopRun_keeps
    | with_reducible apply State.modArr_keeps
    | fail_if_no_progress with_reducible apply State.Keeps.mk'
    | with_reducible apply State.Keeps.ite
    | with_reducible apply State.Keeps.foldl
    | with_reducible apply State.Keeps.foldlFst
    | with_reducible apply State.Keeps.foldlSnd
    | intro _
    | split
    | dsimp only

theorem State.ctxFault_keeps {z : State} (s : State) (c : Nat) (cls : Nat) (code : Nat) (hk : State.Keeps z s) :
    State.Keeps z (State.ctxFault s c cls code) := by
  unfold State.ctxFault
  repeat' first
    | with_reducible assumption
    | with_reducible apply State.cutRun_keeps
    | with_reducible apply State.modArr_keeps
    | with_reducible apply State.setCtxState_keeps
    | with_reducible apply State.setFld_keeps
    | with_reducible apply State.postCtx_keeps
    | with_reducible apply State.msix_keeps
    | with_reducible apply State.jobAbort_keeps
    | with_reducible apply State.setCtx_keeps
    | fail_if_no_progress with_reducible apply State.Keeps.mk'
    | with_reducible apply State.Keeps.ite
    | with_reducible apply State.Keeps.foldl
    | with_reducible apply State.Keeps.foldlFst
    | with_reducible apply State.Keeps.foldlSnd
    | intro _
    | intro _
    | split
    | dsimp only

theorem State.faultRegs_keeps {z : State} (s : State) (p : Nat) (ctx : Nat) (code : Nat) (detail : Nat) (pc : Nat) (w0 : Word) (w1 : Word) (hk : State.Keeps z s) :
    State.Keeps z (State.faultRegs s p ctx code detail pc w0 w1) := by
  unfold State.faultRegs
  repeat' first
    | with_reducible assumption
    | with_reducible apply State.setFld_keeps
    | with_reducible apply State.setReg64_keeps
    | with_reducible apply State.setReg_keeps
    | with_reducible apply State.bump_keeps
    | fail_if_no_progress with_reducible apply State.Keeps.mk'
    | with_reducible apply State.Keeps.ite
    | with_reducible apply State.Keeps.foldl
    | with_reducible apply State.Keeps.foldlFst
    | with_reducible apply State.Keeps.foldlSnd
    | intro _
    | split
    | dsimp only

theorem State.postCtrlFault_keeps {z : State} (s : State) (p : Nat) (ctx : Nat) (code : Nat) (detail : Nat) (pc : Nat) (w0 : Word) (w1 : Word) (reg : Nat) (soft : Nat) (osn : Nat) (addr : Nat) (hk : State.Keeps z s) :
    State.Keeps z (State.postCtrlFault s p ctx code detail pc w0 w1 reg soft osn addr) := by
  unfold State.postCtrlFault
  repeat' first
    | with_reducible assumption
    | with_reducible apply State.faultRegs_keeps
    | with_reducible apply State.setReg_keeps
    | with_reducible apply State.bump_keeps
    | with_reducible apply State.setReg64_keeps
    | with_reducible apply State.setFld_keeps
    | with_reducible apply State.postCtx_keeps
    | intro _
    | split
    | dsimp only

theorem State.settleFault_keeps {z : State} (s : State) (p : Nat) (hk : State.Keeps z s) :
    State.Keeps z (State.settleFault s p) := by
  unfold State.settleFault
  repeat' first
    | with_reducible assumption
    | with_reducible apply State.ctxFault_keeps
    | with_reducible apply State.modCtrl_keeps
    | fail_if_no_progress with_reducible apply State.Keeps.mk'
    | with_reducible apply State.Keeps.ite
    | with_reducible apply State.Keeps.foldl
    | with_reducible apply State.Keeps.foldlFst
    | with_reducible apply State.Keeps.foldlSnd
    | intro _
    | split
    | dsimp only

theorem State.stopIssue_keeps {z : State} (s : State) (p : Nat) (cls : Nat) (code : Nat) (hk : State.Keeps z s) :
    State.Keeps z (State.stopIssue s p cls code) := by
  unfold State.stopIssue
  repeat' first
    | with_reducible assumption
    | with_reducible apply State.settleFault_keeps
    | with_reducible apply State.modCtrl_keeps
    | fail_if_no_progress with_reducible apply State.Keeps.mk'
    | with_reducible apply State.Keeps.ite
    | with_reducible apply State.Keeps.foldl
    | with_reducible apply State.Keeps.foldlFst
    | with_reducible apply State.Keeps.foldlSnd
    | intro _
    | split
    | dsimp only

theorem State.issueFault_keeps {z : State} (s : State) (p : Nat) (code : Nat) (detail : Nat) (w0 : Word) (w1 : Word) (reg : Nat) (soft : Nat) (addr : Nat) (hk : State.Keeps z s) :
    State.Keeps z (State.issueFault s p code detail w0 w1 reg soft addr) := by
  unfold State.issueFault
  repeat' first
    | with_reducible assumption
    | with_reducible apply State.stopIssue_keeps
    | with_reducible apply State.ctxFault_keeps
    | with_reducible apply State.modCtrl_keeps
    | with_reducible apply State.postCtrlFault_keeps
    | intro _
    | split
    | dsimp only

theorem State.dropAfter_keeps {z : State} (s : State) (p : Nat) (seq : Nat) (cls : Nat) (code : Nat) (hk : State.Keeps z s) :
    State.Keeps z (State.dropAfter s p seq cls code) := by
  unfold State.dropAfter
  repeat' first
    | with_reducible assumption
    | with_reducible apply State.cutRun_keeps
    | with_reducible apply State.stopIssue_keeps
    | with_reducible apply State.modArr_keeps
    | fail_if_no_progress with_reducible apply State.Keeps.mk'
    | with_reducible apply State.Keeps.ite
    | with_reducible apply State.Keeps.foldl
    | with_reducible apply State.Keeps.foldlFst
    | with_reducible apply State.Keeps.foldlSnd
    | intro _
    | split
    | dsimp only

theorem State.entryFault_keeps {z : State} (s : State) (p : Nat) (e : QEntry) (code : Nat) (detail : Nat) (reg : Nat) (addr : Nat) (hk : State.Keeps z s) :
    State.Keeps z (State.entryFault s p e code detail reg addr) := by
  unfold State.entryFault
  repeat' first
    | with_reducible assumption
    | with_reducible apply State.dropAfter_keeps
    | with_reducible apply State.postCtrlFault_keeps
    | fail_if_no_progress with_reducible apply State.Keeps.mk'
    | with_reducible apply State.Keeps.ite
    | with_reducible apply State.Keeps.foldl
    | with_reducible apply State.Keeps.foldlFst
    | with_reducible apply State.Keeps.foldlSnd
    | intro _
    | split
    | dsimp only

theorem State.postCounter_keeps {z : State} (s : State) (ctx : Nat) (code : Nat) (src : Nat) (kind : Nat) (num : Nat) (place : Nat) (value : Nat) (inc : Int) (rs : Nat) (ls : Nat) (hk : State.Keeps z s) :
    State.Keeps z (State.postCounter s ctx code src kind num place value inc rs ls) := by
  unfold State.postCounter
  repeat' first
    | with_reducible assumption
    | with_reducible apply State.bump_keeps
    | with_reducible apply State.postCtx_keeps

theorem State.extraFault_keeps {z : State} (s : State) (p : Nat) (hk : State.Keeps z s) :
    State.Keeps z (State.extraFault s p) := by
  unfold State.extraFault
  repeat' first
    | with_reducible assumption
    | with_reducible apply State.setFld_keeps
    | fail_if_no_progress with_reducible apply State.Keeps.mk'
    | with_reducible apply State.Keeps.ite
    | with_reducible apply State.Keeps.foldl
    | with_reducible apply State.Keeps.foldlFst
    | with_reducible apply State.Keeps.foldlSnd
    | intro _
    | split
    | dsimp only

theorem State.showCoreFault_keeps {z : State} (s : State) (p : Nat) (f : CoreFaultRec) (hk : State.Keeps z s) :
    State.Keeps z (State.showCoreFault s p f) := by
  unfold State.showCoreFault
  repeat' first
    | with_reducible assumption
    | with_reducible apply State.setReg_keeps
    | with_reducible apply State.setFld_keeps
    | fail_if_no_progress with_reducible apply State.Keeps.mk'
    | with_reducible apply State.Keeps.ite
    | with_reducible apply State.Keeps.foldl
    | with_reducible apply State.Keeps.foldlFst
    | with_reducible apply State.Keeps.foldlSnd
    | intro _
    | split
    | dsimp only

theorem State.setReport_keeps {z : State} (s : State) (p : Nat) (f : CoreFaultRec) (hk : State.Keeps z s) :
    State.Keeps z (State.setReport s p f) := by
  unfold State.setReport
  repeat' first
    | with_reducible assumption
    | with_reducible apply State.showCoreFault_keeps
    | with_reducible apply State.modArr_keeps
    | fail_if_no_progress with_reducible apply State.Keeps.mk'
    | with_reducible apply State.Keeps.ite
    | with_reducible apply State.Keeps.foldl
    | with_reducible apply State.Keeps.foldlFst
    | with_reducible apply State.Keeps.foldlSnd
    | intro _
    | split
    | dsimp only

theorem State.coreFault_keeps {z : State} (s : State) (id : Nat) (cause : Nat) (addr : Nat) (insn : Word) (hk : State.Keeps z s) :
    State.Keeps z (State.coreFault s id cause addr insn) := by
  unfold State.coreFault
  repeat' first
    | with_reducible assumption
    | with_reducible apply State.setCore_keeps
    | with_reducible apply State.extraFault_keeps
    | with_reducible apply State.setReport_keeps
    | with_reducible apply State.dropAfter_keeps
    | with_reducible apply State.stopRun_keeps
    | with_reducible apply State.setFld_keeps
    | fail_if_no_progress with_reducible apply State.Keeps.mk'
    | with_reducible apply State.Keeps.ite
    | with_reducible apply State.Keeps.foldl
    | with_reducible apply State.Keeps.foldlFst
    | with_reducible apply State.Keeps.foldlSnd
    | intro _
    | split
    | dsimp only

theorem State.runFault_keeps {z : State} (s : State) (p : Nat) (cls : Nat) (code : Nat) (hk : State.Keeps z s) :
    State.Keeps z (State.runFault s p cls code) := by
  unfold State.runFault
  repeat' first
    | with_reducible assumption
    | with_reducible apply State.dropAfter_keeps
    | with_reducible apply State.ctxFault_keeps
    | with_reducible apply State.modArr_keeps
    | with_reducible apply State.stopRun_keeps
    | intro _
    | split
    | dsimp only

theorem State.addCore_keeps {z : State} (s : State) (id : Nat) (k : Nat) (inc : Int) (src : Nat) (hk : State.Keeps z s) :
    State.Keeps z (State.addCore s id k inc src) := by
  unfold State.addCore
  repeat' first
    | with_reducible assumption
    | with_reducible apply State.runFault_keeps
    | with_reducible apply State.setCore_keeps
    | with_reducible apply State.postCounter_keeps
    | fail_if_no_progress with_reducible apply State.Keeps.mk'
    | with_reducible apply State.Keeps.ite
    | with_reducible apply State.Keeps.foldl
    | with_reducible apply State.Keeps.foldlFst
    | with_reducible apply State.Keeps.foldlSnd
    | intro _
    | split

theorem State.addCtrl_keeps {z : State} (s : State) (p : Nat) (k : Nat) (inc : Int) (src : Nat) (hk : State.Keeps z s) :
    State.Keeps z (State.addCtrl s p k inc src) := by
  unfold State.addCtrl
  repeat' first
    | with_reducible assumption
    | with_reducible apply State.stopIssue_keeps
    | with_reducible apply State.setArr_keeps
    | with_reducible apply State.ctxFault_keeps
    | with_reducible apply State.modArr_keeps
    | with_reducible apply State.postCounter_keeps
    | fail_if_no_progress with_reducible apply State.Keeps.mk'
    | with_reducible apply State.Keeps.ite
    | with_reducible apply State.Keeps.foldl
    | with_reducible apply State.Keeps.foldlFst
    | with_reducible apply State.Keeps.foldlSnd
    | intro _
    | intro _
    | split
    | dsimp only

theorem State.sendSignal_keeps {z : State} (s : State) (ctx : Nat) (target : Word) (inc : Int) (src : Nat) (hk : State.Keeps z s) :
    State.Keeps z (State.sendSignal s ctx target inc src) := by
  unfold State.sendSignal
  repeat' first
    | with_reducible assumption
    | fail_if_no_progress with_reducible apply State.Keeps.mk'
    | with_reducible apply State.Keeps.ite
    | with_reducible apply State.Keeps.foldl
    | with_reducible apply State.Keeps.foldlFst
    | with_reducible apply State.Keeps.foldlSnd
    | intro _

theorem State.flintRaise_keeps {z : State} (s : State) (r : FlintReq) (hk : State.Keeps z s) :
    State.Keeps z (State.flintRaise s r) := by
  unfold State.flintRaise
  repeat' first
    | with_reducible assumption
    | fail_if_no_progress with_reducible apply State.Keeps.mk'

theorem State.flintPoison_keeps {z : State} (s : State) (p : Nat) (cause : Nat) (kind : Nat) (core : Nat) (addr : Nat) (hk : State.Keeps z s) :
    State.Keeps z (State.flintPoison s p cause kind core addr) := by
  unfold State.flintPoison
  repeat' first
    | with_reducible assumption
    | with_reducible apply State.flintRaise_keeps

theorem State.markRetire_keeps {z : State} (s : State) (pc : Nat) (hk : State.Keeps z s) :
    State.Keeps z (State.markRetire s pc) := by
  unfold State.markRetire
  repeat' first
    | with_reducible assumption
    | with_reducible apply State.setFlag_keeps
    | with_reducible apply State.postDev_keeps
    | fail_if_no_progress with_reducible apply State.Keeps.mk'
    | with_reducible apply State.Keeps.ite
    | with_reducible apply State.Keeps.foldl
    | with_reducible apply State.Keeps.foldlFst
    | with_reducible apply State.Keeps.foldlSnd
    | intro _

theorem State.brpEvent_keeps {z : State} (s : State) (code : Nat) (sev : Nat) (pl : Nat) (hk : State.Keeps z s) :
    State.Keeps z (State.brpEvent s code sev pl) := by
  unfold State.brpEvent
  repeat' first
    | with_reducible assumption
    | with_reducible apply State.postDev_keeps

theorem State.logAdd_keeps {z : State} (s : State) (kind : Nat) (reason : Nat) (stage : Nat) (target : List Nat) (hk : State.Keeps z s) :
    State.Keeps z (State.logAdd s kind reason stage target) := by
  unfold State.logAdd
  repeat' first
    | with_reducible assumption
    | with_reducible apply State.setFlag_keeps
    | with_reducible apply State.setFld_keeps
    | with_reducible apply State.brpEvent_keeps
    | with_reducible apply State.lifeAdd_keeps
    | fail_if_no_progress with_reducible apply State.Keeps.mk'
    | with_reducible apply State.Keeps.ite
    | with_reducible apply State.Keeps.foldl
    | with_reducible apply State.Keeps.foldlFst
    | with_reducible apply State.Keeps.foldlSnd
    | intro _

theorem State.hbmError_keeps {z : State} (s : State) (pa : Nat) (unc : Bool) (hk : State.Keeps z s) :
    State.Keeps z (State.hbmError s pa unc) := by
  unfold State.hbmError
  repeat' first
    | with_reducible assumption
    | with_reducible apply State.logAdd_keeps
    | with_reducible apply State.bump_keeps
    | with_reducible apply State.markRetire_keeps
    | with_reducible apply State.postDev_keeps
    | fail_if_no_progress with_reducible apply State.Keeps.mk'
    | with_reducible apply State.Keeps.ite
    | with_reducible apply State.Keeps.foldl
    | with_reducible apply State.Keeps.foldlFst
    | with_reducible apply State.Keeps.foldlSnd
    | intro _
    | intro _
    | split
    | dsimp only

theorem State.bumpMem_keeps {z : State} (s : State) (pa : Nat) (unc : Bool) (hk : State.Keeps z s) :
    State.Keeps z (State.bumpMem s pa unc) := by
  unfold State.bumpMem
  repeat' first
    | with_reducible assumption
    | with_reducible apply State.bump_keeps
    | with_reducible apply State.hbmError_keeps
    | with_reducible apply State.lifeCount_keeps
    | fail_if_no_progress with_reducible apply State.Keeps.mk'
    | with_reducible apply State.Keeps.ite
    | with_reducible apply State.Keeps.foldl
    | with_reducible apply State.Keeps.foldlFst
    | with_reducible apply State.Keeps.foldlSnd
    | intro _
    | split

theorem State.rateLimit_keeps {z : State} (s : State) (unit : Nat) (hk : State.Keeps z s) :
    State.Keeps z (State.rateLimit s unit).2 := by
  unfold State.rateLimit
  repeat' first
    | with_reducible assumption
    | fail_if_no_progress with_reducible apply State.Keeps.mk'
    | with_reducible apply State.Keeps.ite
    | with_reducible apply State.Keeps.foldl
    | with_reducible apply State.Keeps.foldlFst
    | with_reducible apply State.Keeps.foldlSnd
    | intro _
    | split
    | dsimp only

theorem State.readCheck_keeps {z : State} (s : State) (ctx : Option Nat) (pa : Nat) (hk : State.Keeps z s) :
    State.Keeps z (State.readCheck s ctx pa) := by
  unfold State.readCheck
  repeat' first
    | with_reducible assumption
    | with_reducible apply State.bumpMem_keeps
    | with_reducible apply State.setCheck_keeps
    | with_reducible apply State.rateLimit_keeps
    | with_reducible refine State.Keeps.of_snd (by assumption) (State.rateLimit_keeps _ _ ?_)
    | with_reducible apply State.post_keeps
    | fail_if_no_progress with_reducible apply State.Keeps.mk'
    | with_reducible apply State.Keeps.ite
    | with_reducible apply State.Keeps.foldl
    | with_reducible apply State.Keeps.foldlFst
    | with_reducible apply State.Keeps.foldlSnd
    | intro _
    | split
    | dsimp only

theorem State.readChecks_keeps {z : State} (s : State) (ctx : Option Nat) (pa : Nat) (n : Nat) (hk : State.Keeps z s) :
    State.Keeps z (State.readChecks s ctx pa n) := by
  unfold State.readChecks
  repeat' first
    | with_reducible assumption
    | with_reducible apply State.readCheck_keeps
    | fail_if_no_progress with_reducible apply State.Keeps.mk'
    | with_reducible apply State.Keeps.ite
    | with_reducible apply State.Keeps.foldl
    | with_reducible apply State.Keeps.foldlFst
    | with_reducible apply State.Keeps.foldlSnd
    | intro _

end Sys2Proof.Machine
end

