-- ==== Sys2Proof/Laws/KeepB.lean ====
section
/-!
SUPPORT. What the shared operations of SyncOps, FabOps, Operands, GexaC, CoreMem, CtrlOps, GexaS, TileOps, QueueOps, Attention keep: one lemma each, the relation of Laws/Keep.
-/
namespace Sys2Proof.Machine

theorem State.store_keeps {z : State} (s : State) (ctx : Option Nat) (pa : Nat) (bs : List Byte) (hk : State.Keeps z s) :
    State.Keeps z (State.store s ctx pa bs) := by
  unfold State.store
  repeat' first
    | with_reducible assumption
    | with_reducible apply State.post_keeps
    | with_reducible apply State.readCheck_keeps
    | with_reducible apply State.wrBytes_keeps
    | fail_if_no_progress with_reducible apply State.Keeps.mk'
    | with_reducible apply State.Keeps.ite
    | with_reducible apply State.Keeps.foldl
    | with_reducible apply State.Keeps.foldlFst
    | with_reducible apply State.Keeps.foldlSnd
    | intro _

theorem State.stallUnit_keeps {z : State} (s : State) (ctx : Nat) (unit : Nat) (p : Nat) (va : Nat) (k : AccKind) (code : Nat) (level : Nat) (entry : Nat) (epa : Nat) (hk : State.Keeps z s) :
    State.Keeps z (State.stallUnit s ctx unit p va k code level entry epa) := by
  unfold State.stallUnit
  repeat' first
    | with_reducible assumption
    | with_reducible apply State.readChecks_keeps
    | with_reducible apply State.markStalled_keeps
    | with_reducible apply State.postCtx_keeps
    | fail_if_no_progress with_reducible apply State.Keeps.mk'
    | intro _
    | split
    | dsimp only

theorem State.heldRefuse_keeps {z : State} (s : State) (ctx : Nat) (unit : Nat) (p : Nat) (va : Nat) (pa : Nat) (hk : State.Keeps z s) :
    State.Keeps z (State.heldRefuse s ctx unit p va pa) := by
  unfold State.heldRefuse
  repeat' first
    | with_reducible assumption
    | with_reducible apply State.ctxFault_keeps
    | with_reducible apply State.postCtx_keeps

theorem State.portOut_keeps {z : State} (s : State) (f : Nat) (hk : State.Keeps z s) :
    State.Keeps z (State.portOut s f) := by
  unfold State.portOut
  repeat' first
    | with_reducible assumption
    | with_reducible apply State.setFld_keeps
    | fail_if_no_progress with_reducible apply State.Keeps.mk'
    | with_reducible apply State.Keeps.ite

theorem State.winDone_keeps {z : State} (s : State) (a : WinAcc) (err : Bool) (hk : State.Keeps z s) :
    State.Keeps z (State.winDone s a err) := by
  unfold State.winDone
  repeat' first
    | with_reducible assumption
    | fail_if_no_progress with_reducible apply State.Keeps.mk'

theorem State.txnFail_keeps {z : State} (s : State) (t : FabTxn) (code : Nat) (hk : State.Keeps z s) :
    State.Keeps z (State.txnFail s t code) := by
  unfold State.txnFail
  repeat' first
    | with_reducible assumption
    | with_reducible apply State.ctxFault_keeps
    | with_reducible apply State.bump_keeps
    | with_reducible apply State.postCtx_keeps
    | with_reducible apply State.winDone_keeps
    | with_reducible apply State.portOut_keeps
    | fail_if_no_progress with_reducible apply State.Keeps.mk'

theorem State.digestRefused_keeps {z : State} (s : State) (a : WinAcc) (hk : State.Keeps z s) :
    State.Keeps z (State.digestRefused s a) := by
  unfold State.digestRefused
  repeat' first
    | with_reducible assumption
    | with_reducible apply State.postCtx_keeps
    | fail_if_no_progress with_reducible apply State.Keeps.mk'
    | with_reducible apply State.Keeps.ite
    | with_reducible apply State.Keeps.foldl
    | with_reducible apply State.Keeps.foldlFst
    | with_reducible apply State.Keeps.foldlSnd
    | intro _

theorem State.fabIssue_keeps {z : State} (s : State) (a : WinAcc) (hk : State.Keeps z s) :
    State.Keeps z (State.fabIssue s a) := by
  unfold State.fabIssue
  repeat' first
    | with_reducible assumption
    | with_reducible apply State.portSend_keeps
    | with_reducible apply State.portOut_keeps
    | with_reducible apply State.txnFail_keeps
    | fail_if_no_progress with_reducible apply State.Keeps.mk'
    | with_reducible apply State.Keeps.ite
    | with_reducible apply State.Keeps.foldl
    | with_reducible apply State.Keeps.foldlFst
    | with_reducible apply State.Keeps.foldlSnd
    | intro _
    | split
    | dsimp only

theorem State.fabPump_keeps {z : State} (s : State) (hk : State.Keeps z s) :
    State.Keeps z (State.fabPump s) := by
  unfold State.fabPump
  repeat' first
    | with_reducible assumption
    | with_reducible apply State.fabIssue_keeps
    | fail_if_no_progress with_reducible apply State.Keeps.mk'
    | with_reducible apply State.Keeps.ite
    | with_reducible apply State.Keeps.foldl

theorem State.sendWindow_keeps {z : State} (s : State) (p : Nat) (seq : Nat) (ctx : Nat) (va : Nat) (pa : Nat) (write : Bool) (bs : List Byte) (poison : Nat) (size : Nat) (hk : State.Keeps z s) :
    State.Keeps z (State.sendWindow s p seq ctx va pa write bs poison size) := by
  unfold State.sendWindow
  repeat' first
    | with_reducible assumption
    | with_reducible apply State.fabIssue_keeps
    | fail_if_no_progress with_reducible apply State.Keeps.mk'
    | with_reducible apply State.Keeps.ite
    | with_reducible apply State.Keeps.foldl
    | with_reducible apply State.Keeps.foldlFst
    | with_reducible apply State.Keeps.foldlSnd
    | intro _
    | split
    | dsimp only

theorem State.sendWindows_keeps {z : State} (s : State) (p : Nat) (seq : Nat) (ctx : Nat) (va : Nat) (pa : Nat) (write : Bool) (bs : List Byte) (bad : Bool) (size : Nat) (hk : State.Keeps z s) :
    State.Keeps z (State.sendWindows s p seq ctx va pa write bs bad size) := by
  unfold State.sendWindows
  repeat' first
    | with_reducible assumption
    | with_reducible apply State.sendWindow_keeps
    | fail_if_no_progress with_reducible apply State.Keeps.mk'
    | with_reducible apply State.Keeps.ite
    | with_reducible apply State.Keeps.foldl
    | with_reducible apply State.Keeps.foldlFst
    | with_reducible apply State.Keeps.foldlSnd
    | intro _
    | split
    | dsimp only

theorem State.hostWrite_keeps {z : State} (s : State) (ctx : Nat) (va : Nat) (off : Nat) (bs : List Byte) (bad : Bool) (hk : State.Keeps z s) :
    State.Keeps z (State.hostWrite s ctx va off bs bad) := by
  unfold State.hostWrite
  repeat' first
    | with_reducible assumption
    | with_reducible apply State.hostOut_keeps
    | with_reducible apply State.bump64_keeps
    | with_reducible apply State.post_keeps
    | with_reducible apply State.bump_keeps
    | fail_if_no_progress with_reducible apply State.Keeps.mk'
    | with_reducible apply State.Keeps.ite
    | with_reducible apply State.Keeps.foldl
    | with_reducible apply State.Keeps.foldlFst
    | with_reducible apply State.Keeps.foldlSnd
    | intro _
    | split
    | dsimp only

theorem State.readRanges_keeps {z : State} (s : State) (ctx : Option Nat) (rs : List (Nat × Nat)) (hk : State.Keeps z s) :
    State.Keeps z (State.readRanges s ctx rs) := by
  unfold State.readRanges
  repeat' first
    | with_reducible assumption
    | with_reducible apply State.readChecks_keeps
    | fail_if_no_progress with_reducible apply State.Keeps.mk'
    | with_reducible apply State.Keeps.ite
    | with_reducible apply State.Keeps.foldl
    | with_reducible apply State.Keeps.foldlFst
    | with_reducible apply State.Keeps.foldlSnd
    | intro _

theorem State.poke_keeps {z : State} (s : State) (acc : Accessor) (ctx : Option Nat) (va : Nat) (bs : List Byte) (hk : State.Keeps z s) :
    State.Keeps z (State.poke s acc ctx va bs) := by
  unfold State.poke
  repeat' first
    | with_reducible assumption
    | with_reducible apply State.store_keeps
    | fail_if_no_progress with_reducible apply State.Keeps.mk'
    | with_reducible apply State.Keeps.ite
    | with_reducible apply State.Keeps.foldl
    | with_reducible apply State.Keeps.foldlFst
    | with_reducible apply State.Keeps.foldlSnd
    | intro _
    | split

theorem State.pokeElem_keeps {z : State} (s : State) (acc : Accessor) (ctx : Option Nat) (l : ElemLoc) (code : Nat) (scale : Nat) (hk : State.Keeps z s) :
    State.Keeps z (State.pokeElem s acc ctx l code scale) := by
  unfold State.pokeElem
  repeat' first
    | with_reducible assumption
    | with_reducible apply State.poke_keeps
    | fail_if_no_progress with_reducible apply State.Keeps.mk'
    | with_reducible apply State.Keeps.ite
    | with_reducible apply State.Keeps.foldl
    | with_reducible apply State.Keeps.foldlFst
    | with_reducible apply State.Keeps.foldlSnd
    | intro _
    | split

theorem State.stallTr_keeps {z : State} (s : State) (ctx : Nat) (unit : Nat) (p : Nat) (va : Nat) (k : AccKind) (a : Tr) (hk : State.Keeps z s) :
    State.Keeps z (State.stallTr s ctx unit p va k a) := by
  unfold State.stallTr
  repeat' first
    | with_reducible assumption
    | with_reducible apply State.stallUnit_keeps
    | fail_if_no_progress with_reducible apply State.Keeps.mk'
    | with_reducible apply State.Keeps.ite
    | with_reducible apply State.Keeps.foldl
    | with_reducible apply State.Keeps.foldlFst
    | with_reducible apply State.Keeps.foldlSnd
    | intro _
    | split
    | dsimp only

theorem State.coreSettled_keeps {z : State} (s : State) (id : Nat) (hk : State.Keeps z s) :
    State.Keeps z (State.coreSettled s id) := by
  unfold State.coreSettled
  repeat' first
    | with_reducible assumption
    | with_reducible apply State.setCore_keeps
    | fail_if_no_progress with_reducible apply State.Keeps.mk'
    | with_reducible apply State.Keeps.ite
    | with_reducible apply State.Keeps.foldl
    | with_reducible apply State.Keeps.foldlFst
    | with_reducible apply State.Keeps.foldlSnd
    | intro _
    | split
    | dsimp only

theorem coreGate_keeps {z : State} (core : CoreId) (w : Word) (mask : Nat) (mtch : Nat) (must0 : Nat) (s : State) (k : CoreState → State) (hk : State.Keeps z s) (hk : ∀ y1, State.Keeps z (k y1)) :
    State.Keeps z (coreGate core w mask mtch must0 s k) := by
  unfold coreGate
  repeat' first
    | with_reducible assumption
    | with_reducible apply State.coreSettled_keeps
    | with_reducible apply State.coreFault_keeps
    | with_reducible apply State.drawn_keeps
    | with_reducible apply hk
    | fail_if_no_progress with_reducible apply State.Keeps.mk'
    | with_reducible apply State.Keeps.ite
    | with_reducible apply State.Keeps.foldl
    | with_reducible apply State.Keeps.foldlFst
    | with_reducible apply State.Keeps.foldlSnd
    | intro _
    | intro _
    | split
    | dsimp only

theorem corePut_keeps {z : State} (id : Nat) (w : Word) (s : State) (a : CoreOut) (hk : State.Keeps z s) :
    State.Keeps z (corePut id w s a) := by
  unfold corePut
  repeat' first
    | with_reducible assumption
    | with_reducible apply State.setCore_keeps
    | with_reducible apply State.coreFault_keeps
    | fail_if_no_progress with_reducible apply State.Keeps.mk'
    | with_reducible apply State.Keeps.ite
    | with_reducible apply State.Keeps.foldl
    | with_reducible apply State.Keeps.foldlFst
    | with_reducible apply State.Keeps.foldlSnd
    | intro _
    | split
    | dsimp only

theorem coreInstr_keeps {z : State} (core : CoreId) (w : Word) (mask : Nat) (mtch : Nat) (must0 : Nat) (body : Word → CoreState → CoreOut) (s : State) (hk : State.Keeps z s) :
    State.Keeps z (coreInstr core w mask mtch must0 body s) := by
  unfold coreInstr
  repeat' first
    | with_reducible assumption
    | with_reducible apply corePut_keeps
    | with_reducible apply coreGate_keeps
    | fail_if_no_progress with_reducible apply State.Keeps.mk'
    | with_reducible apply State.Keeps.ite
    | with_reducible apply State.Keeps.foldl
    | with_reducible apply State.Keeps.foldlFst
    | with_reducible apply State.Keeps.foldlSnd
    | intro _

theorem State.corePoison_keeps {z : State} (s : State) (id : Nat) (pa : Nat) (hk : State.Keeps z s) :
    State.Keeps z (State.corePoison s id pa) := by
  unfold State.corePoison
  repeat' first
    | with_reducible assumption
    | with_reducible apply State.modArr_keeps
    | with_reducible apply State.flintPoison_keeps
    | with_reducible apply State.stopRun_keeps

theorem slateLoad_keeps {z : State} (kind : Nat) (core : CoreId) (w : Word) (s : State) (c : CoreState) (hk : State.Keeps z s) :
    State.Keeps z (slateLoad kind core w s c) := by
  unfold slateLoad
  repeat' first
    | with_reducible assumption
    | with_reducible apply State.setCore_keeps
    | with_reducible apply State.readChecks_keeps
    | with_reducible apply State.coreFault_keeps
    | with_reducible apply State.drawn_keeps
    | with_reducible apply State.corePoison_keeps
    | fail_if_no_progress with_reducible apply State.Keeps.mk'
    | with_reducible apply State.Keeps.ite
    | with_reducible apply State.Keeps.foldl
    | with_reducible apply State.Keeps.foldlFst
    | with_reducible apply State.Keeps.foldlSnd
    | intro _
    | split
    | dsimp only

theorem slateStore_keeps {z : State} (kind : Nat) (core : CoreId) (w : Word) (s : State) (c : CoreState) (hk : State.Keeps z s) :
    State.Keeps z (slateStore kind core w s c) := by
  unfold slateStore
  repeat' first
    | with_reducible assumption
    | with_reducible apply State.store_keeps
    | with_reducible apply State.setCore_keeps
    | with_reducible apply State.coreFault_keeps
    | fail_if_no_progress with_reducible apply State.Keeps.mk'
    | with_reducible apply State.Keeps.ite
    | with_reducible apply State.Keeps.foldl
    | with_reducible apply State.Keeps.foldlFst
    | with_reducible apply State.Keeps.foldlSnd
    | intro _
    | split
    | dsimp only

theorem coreSysr_keeps {z : State} (core : CoreId) (w : Word) (s : State) (c : CoreState) (hk : State.Keeps z s) :
    State.Keeps z (coreSysr core w s c) := by
  unfold coreSysr
  repeat' first
    | with_reducible assumption
    | with_reducible apply State.setCore_keeps
    | with_reducible apply State.drawn_keeps
    | fail_if_no_progress with_reducible apply State.Keeps.mk'
    | with_reducible apply State.Keeps.ite

theorem State.inject_keeps {z : State} (s : State) (m : MeshMsg) (hk : State.Keeps z s) :
    State.Keeps z (State.inject s m) := by
  unfold State.inject
  repeat' first
    | with_reducible assumption
    | fail_if_no_progress with_reducible apply State.Keeps.mk'

theorem coreSend_keeps {z : State} (core : CoreId) (w : Word) (s : State) (c : CoreState) (hk : State.Keeps z s) :
    State.Keeps z (coreSend core w s c) := by
  unfold coreSend
  repeat' first
    | with_reducible assumption
    | with_reducible apply State.inject_keeps
    | with_reducible apply State.setCore_keeps
    | with_reducible apply State.coreFault_keeps
    | fail_if_no_progress with_reducible apply State.Keeps.mk'
    | with_reducible apply State.Keeps.ite
    | with_reducible apply State.Keeps.foldl
    | with_reducible apply State.Keeps.foldlFst
    | with_reducible apply State.Keeps.foldlSnd
    | intro _

theorem corePutTo_keeps {z : State} (n : Nat) (src : Nat) (core : CoreId) (w : Word) (s : State) (c : CoreState) (hk : State.Keeps z s) :
    State.Keeps z (corePutTo n src core w s c) := by
  unfold corePutTo
  repeat' first
    | with_reducible assumption
    | with_reducible apply State.inject_keeps
    | with_reducible apply State.setCore_keeps
    | with_reducible apply State.coreFault_keeps
    | fail_if_no_progress with_reducible apply State.Keeps.mk'
    | with_reducible apply State.Keeps.ite
    | with_reducible apply State.Keeps.foldl
    | with_reducible apply State.Keeps.foldlFst
    | with_reducible apply State.Keeps.foldlSnd
    | intro _
    | split

theorem coreGet_keeps {z : State} (core : CoreId) (w : Word) (s : State) (c : CoreState) (hk : State.Keeps z s) :
    State.Keeps z (coreGet core w s c) := by
  unfold coreGet
  repeat' first
    | with_reducible assumption
    | with_reducible apply State.inject_keeps
    | with_reducible apply State.setCore_keeps
    | with_reducible apply State.coreFault_keeps
    | fail_if_no_progress with_reducible apply State.Keeps.mk'
    | with_reducible apply State.Keeps.ite
    | with_reducible apply State.Keeps.foldl
    | with_reducible apply State.Keeps.foldlFst
    | with_reducible apply State.Keeps.foldlSnd
    | intro _
    | split

theorem coreFill_keeps {z : State} (copySrc : Option Nat) (dst : Nat) (value : Nat) (core : CoreId) (w : Word) (s : State) (c : CoreState) (hk : State.Keeps z s) :
    State.Keeps z (coreFill copySrc dst value core w s c) := by
  unfold coreFill
  repeat' first
    | with_reducible assumption
    | with_reducible apply State.setCore_keeps
    | with_reducible apply State.coreFault_keeps
    | fail_if_no_progress with_reducible apply State.Keeps.mk'
    | with_reducible apply State.Keeps.ite
    | with_reducible apply State.Keeps.foldl
    | with_reducible apply State.Keeps.foldlFst
    | with_reducible apply State.Keeps.foldlSnd
    | intro _

theorem coreRecv_keeps {z : State} (core : CoreId) (w : Word) (s : State) (c : CoreState) (hk : State.Keeps z s) :
    State.Keeps z (coreRecv core w s c) := by
  unfold coreRecv
  repeat' first
    | with_reducible assumption
    | with_reducible apply State.setCore_keeps
    | fail_if_no_progress with_reducible apply State.Keeps.mk'
    | with_reducible apply State.Keeps.ite
    | with_reducible apply State.Keeps.foldl
    | with_reducible apply State.Keeps.foldlFst
    | with_reducible apply State.Keeps.foldlSnd
    | intro _
    | split

theorem coreRecvN_keeps {z : State} (core : CoreId) (w : Word) (s : State) (c : CoreState) (hk : State.Keeps z s) :
    State.Keeps z (coreRecvN core w s c) := by
  unfold coreRecvN
  repeat' first
    | with_reducible assumption
    | with_reducible apply State.setCore_keeps
    | fail_if_no_progress with_reducible apply State.Keeps.mk'
    | with_reducible apply State.Keeps.ite
    | with_reducible apply State.Keeps.foldl
    | with_reducible apply State.Keeps.foldlFst
    | with_reducible apply State.Keeps.foldlSnd
    | intro _
    | split

theorem coreRecvT_keeps {z : State} (core : CoreId) (w : Word) (s : State) (c : CoreState) (hk : State.Keeps z s) :
    State.Keeps z (coreRecvT core w s c) := by
  unfold coreRecvT
  repeat' first
    | with_reducible assumption
    | with_reducible apply State.setCore_keeps
    | fail_if_no_progress with_reducible apply State.Keeps.mk'
    | with_reducible apply State.Keeps.ite
    | with_reducible apply State.Keeps.foldl
    | with_reducible apply State.Keeps.foldlFst
    | with_reducible apply State.Keeps.foldlSnd
    | intro _
    | split
    | dsimp only

theorem coreSig_keeps {z : State} (core : CoreId) (w : Word) (s : State) (c : CoreState) (hk : State.Keeps z s) :
    State.Keeps z (coreSig core w s c) := by
  unfold coreSig
  repeat' first
    | with_reducible assumption
    | with_reducible apply State.setCore_keeps
    | with_reducible apply State.coreFault_keeps
    | with_reducible apply State.sendSignal_keeps
    | fail_if_no_progress with_reducible apply State.Keeps.mk'
    | with_reducible apply State.Keeps.ite
    | with_reducible apply State.Keeps.foldl
    | with_reducible apply State.Keeps.foldlFst
    | with_reducible apply State.Keeps.foldlSnd
    | intro _

theorem coreWait_keeps {z : State} (core : CoreId) (w : Word) (s : State) (c : CoreState) (hk : State.Keeps z s) :
    State.Keeps z (coreWait core w s c) := by
  unfold coreWait
  repeat' first
    | with_reducible assumption
    | with_reducible apply State.setCore_keeps
    | with_reducible apply State.coreFault_keeps
    | fail_if_no_progress with_reducible apply State.Keeps.mk'
    | with_reducible apply State.Keeps.ite
    | with_reducible apply State.Keeps.foldl
    | with_reducible apply State.Keeps.foldlFst
    | with_reducible apply State.Keeps.foldlSnd
    | intro _

theorem coreWaitDone_keeps {z : State} (id : Nat) (s : State) (hk : State.Keeps z s) :
    State.Keeps z (coreWaitDone id s) := by
  unfold coreWaitDone
  repeat' first
    | with_reducible assumption
    | with_reducible apply State.setCore_keeps
    | fail_if_no_progress with_reducible apply State.Keeps.mk'
    | with_reducible apply State.Keeps.ite
    | with_reducible apply State.Keeps.foldl
    | with_reducible apply State.Keeps.foldlFst
    | with_reducible apply State.Keeps.foldlSnd
    | intro _
    | split
    | dsimp only

theorem State.meshTake_keeps {z : State} (s : State) (n : Nat) (hk : State.Keeps z s) (m : MeshMsg) (t : State)
    (e : State.meshTake s n = some (m, t)) : State.Keeps z t := by
  unfold State.meshTake at e
  split at e
  · split at e
    · cases e
    · simp only [Option.some.injEq, Prod.mk.injEq] at e
      rw [← e.2]
      exact ⟨hk.pending, hk.fuses, hk.mem⟩
  · cases e

theorem State.complete_keeps {z : State} (s : State) (id : Nat) (src : Nat) (a : Completion) (hk : State.Keeps z s) :
    State.Keeps z (State.complete s id src a) := by
  unfold State.complete
  repeat' first
    | with_reducible assumption
    | with_reducible apply State.addCore_keeps
    | with_reducible apply State.setCore_keeps
    | fail_if_no_progress with_reducible apply State.Keeps.mk'
    | with_reducible apply State.Keeps.ite
    | with_reducible apply State.Keeps.foldl
    | with_reducible apply State.Keeps.foldlFst
    | with_reducible apply State.Keeps.foldlSnd
    | intro _
    | split
    | dsimp only

theorem State.putLanded_keeps {z : State} (s : State) (src : Nat) (hk : State.Keeps z s) :
    State.Keeps z (State.putLanded s src) := by
  unfold State.putLanded
  repeat' first
    | with_reducible assumption
    | with_reducible apply State.setCore_keeps

theorem State.fetchLine_keeps {z : State} (s : State) (p : Nat) (line : Nat) (hk : State.Keeps z s) :
    (State.fetchLine s p line).Keeps z := by
  unfold State.fetchLine
  repeat' first
    | with_reducible assumption
    | exact trivial
    | with_reducible apply State.modCtrl_keeps
    | with_reducible apply State.readChecks_keeps
    | fail_if_no_progress with_reducible apply State.Keeps.mk'
    | with_reducible apply State.Keeps.ite
    | with_reducible apply State.Keeps.foldl
    | with_reducible apply State.Keeps.foldlFst
    | with_reducible apply State.Keeps.foldlSnd
    | intro _
    | split
    | show State.Keeps _ _
    | dsimp only

theorem State.fetchWord_keeps {z : State} (s : State) (p : Nat) (va : Nat) (hk : State.Keeps z s) :
    (State.fetchWord s p va).Keeps z := by
  have h := State.fetchLine_keeps (z := z) s p (va / 64) hk
  unfold State.fetchWord
  split
  · rename_i heq
    rw [heq] at h
    exact h
  · exact h

theorem State.ctrlStall_keeps {z : State} (s : State) (p : Nat) (unit : Nat) (va : Nat) (k : AccKind) (t : Tr) (hk : State.Keeps z s) :
    State.Keeps z (State.ctrlStall s p unit va k t) := by
  unfold State.ctrlStall
  repeat' first
    | with_reducible assumption
    | with_reducible apply State.stallTr_keeps
    | with_reducible apply State.modCtrl_keeps

theorem ctrlGate_keeps {z : State} (p : ArrayId) (w0 : Word) (w1 : Option Word) (known : Word → Bool) (mask : Nat) (mtch : Nat)
    (range0 : Nat) (must0 : Nat) (s : State) (k : State → State) (hk : State.Keeps z s)
    (hkk : ∀ s1, State.Keeps z s1 → State.Keeps z (k s1)) :
    State.Keeps z (ctrlGate p w0 w1 known mask mtch range0 must0 s k) := by
  unfold ctrlGate
  repeat' first
    | with_reducible assumption
    | with_reducible refine CtrlRead.keeps_ok (by assumption) (State.fetchWord_keeps _ _ _ ?_)
    | with_reducible refine CtrlRead.keeps_bad (by assumption) (State.fetchWord_keeps _ _ _ ?_)
    | with_reducible apply State.issueFault_keeps
    | with_reducible apply State.ctrlStall_keeps
    | with_reducible apply hkk
    | fail_if_no_progress with_reducible apply State.Keeps.mk'
    | with_reducible apply State.Keeps.ite
    | with_reducible apply State.Keeps.foldl
    | with_reducible apply State.Keeps.foldlFst
    | with_reducible apply State.Keeps.foldlSnd
    | intro _
    | split

theorem State.ctrlNext_keeps {z : State} (s : State) (p : Nat) (n : Nat) (hk : State.Keeps z s) :
    State.Keeps z (State.ctrlNext s p n) := by
  unfold State.ctrlNext
  repeat' first
    | with_reducible assumption
    | with_reducible apply State.bump64_keeps
    | with_reducible apply State.modCtrl_keeps

theorem State.ctrlJump_keeps {z : State} (s : State) (p : Nat) (target : Nat) (hk : State.Keeps z s) :
    State.Keeps z (State.ctrlJump s p target) := by
  unfold State.ctrlJump
  repeat' first
    | with_reducible assumption
    | with_reducible apply State.bump64_keeps
    | with_reducible apply State.modCtrl_keeps

theorem State.ctrlSet_keeps {z : State} (s : State) (p : Nat) (f : Ctrl → Ctrl) (hk : State.Keeps z s) :
    State.Keeps z (State.ctrlSet s p f) := by
  unfold State.ctrlSet
  repeat' first
    | with_reducible assumption
    | with_reducible apply State.ctrlNext_keeps
    | with_reducible apply State.modCtrl_keeps

theorem State.writePa_keeps {z : State} (s : State) (p : Nat) (unit : Nat) (seq : Nat) (ctx : Nat) (va : Nat) (pa : Nat) (d : List Byte) (bad : Bool) (hk : State.Keeps z s) :
    State.Keeps z (State.writePa s p unit seq ctx va pa d bad) := by
  unfold State.writePa
  repeat' first
    | with_reducible assumption
    | with_reducible apply State.sendWindows_keeps
    | with_reducible apply State.hostWrite_keeps
    | with_reducible apply State.heldRefuse_keeps
    | with_reducible apply State.store_keeps
    | with_reducible apply State.poison_keeps
    | fail_if_no_progress with_reducible apply State.Keeps.mk'
    | with_reducible apply State.Keeps.ite
    | with_reducible apply State.Keeps.foldl
    | with_reducible apply State.Keeps.foldlFst
    | with_reducible apply State.Keeps.foldlSnd
    | intro _
    | split
    | dsimp only

theorem State.writeVaB_keeps {z : State} (s : State) (p : Nat) (unit : Nat) (seq : Nat) (ctx : Nat) (va : Nat) (bs : List Byte) (bad : Bool) (hk : State.Keeps z s) :
    State.Keeps z (State.writeVaB s p unit seq ctx va bs bad) := by
  unfold State.writeVaB
  repeat' first
    | with_reducible assumption
    | with_reducible apply State.writePa_keeps
    | with_reducible apply State.store_keeps
    | with_reducible apply State.heldRefuse_keeps
    | with_reducible apply State.hostWrite_keeps
    | with_reducible apply State.sendWindows_keeps
    | with_reducible apply State.poison_keeps
    | fail_if_no_progress with_reducible apply State.Keeps.mk'
    | with_reducible apply State.Keeps.ite
    | with_reducible apply State.Keeps.foldl
    | with_reducible apply State.Keeps.foldlFst
    | with_reducible apply State.Keeps.foldlSnd
    | intro _
    | split

theorem State.writeVa_keeps {z : State} (s : State) (p : Nat) (unit : Nat) (seq : Nat) (ctx : Nat) (va : Nat) (bs : List Byte) (hk : State.Keeps z s) :
    State.Keeps z (State.writeVa s p unit seq ctx va bs) := by
  unfold State.writeVa
  repeat' first
    | with_reducible assumption
    | with_reducible apply State.writeVaB_keeps

theorem State.drainStores_keeps {z : State} (s : State) (p : Nat) (hk : State.Keeps z s) :
    State.Keeps z (State.drainStores s p) := by
  unfold State.drainStores
  repeat' first
    | with_reducible assumption
    | with_reducible apply State.writePa_keeps
    | with_reducible apply State.writeVa_keeps
    | with_reducible apply State.modCtrl_keeps
    | fail_if_no_progress with_reducible apply State.Keeps.mk'
    | with_reducible apply State.Keeps.ite
    | with_reducible apply State.Keeps.foldl
    | with_reducible apply State.Keeps.foldlFst
    | with_reducible apply State.Keeps.foldlSnd
    | intro _
    | intro _
    | split
    | dsimp only

theorem State.ctrlRead_keeps {z : State} (s : State) (p : Nat) (va : Nat) (n : Nat) (hk : State.Keeps z s) :
    (State.ctrlRead s p va n).Keeps z := by
  unfold State.ctrlRead
  repeat' first
    | with_reducible assumption
    | exact trivial
    | with_reducible apply State.modCtrl_keeps
    | with_reducible apply State.readChecks_keeps
    | fail_if_no_progress with_reducible apply State.Keeps.mk'
    | with_reducible apply State.Keeps.ite
    | with_reducible apply State.Keeps.foldl
    | with_reducible apply State.Keeps.foldlFst
    | with_reducible apply State.Keeps.foldlSnd
    | intro _
    | split
    | show State.Keeps _ _
    | dsimp only

theorem State.ctrlLoad_keeps {z : State} (s : State) (p : Nat) (w0 : Word) (va : Nat) (size : Nat) (dest : Nat) (desc : Bool)
    (again : Bool) (hk : State.Keeps z s) : State.Keeps z (State.ctrlLoad s p w0 va size dest desc again) := by
  unfold State.ctrlLoad
  repeat' first
    | with_reducible assumption
    | with_reducible refine CtrlRead.keeps_ok (by assumption) (State.ctrlRead_keeps _ _ _ _ ?_)
    | with_reducible refine CtrlRead.keeps_bad (by assumption) (State.ctrlRead_keeps _ _ _ _ ?_)
    | with_reducible apply State.issueFault_keeps
    | with_reducible apply State.ctrlStall_keeps
    | with_reducible apply State.ctrlNext_keeps
    | with_reducible apply State.modCtrl_keeps
    | with_reducible apply State.sendWindow_keeps
    | fail_if_no_progress with_reducible apply State.Keeps.mk'
    | with_reducible apply State.Keeps.ite
    | with_reducible apply State.Keeps.foldl
    | with_reducible apply State.Keeps.foldlFst
    | with_reducible apply State.Keeps.foldlSnd
    | intro _
    | split
    | dsimp only

theorem State.stallIssue_keeps {z : State} (s : State) (p : Nat) (cause : Nat) (hk : State.Keeps z s) :
    State.Keeps z (State.stallIssue s p cause) := by
  unfold State.stallIssue
  repeat' first
    | with_reducible assumption
    | with_reducible apply State.modCtrl_keeps
    | fail_if_no_progress with_reducible apply State.Keeps.mk'
    | with_reducible apply State.Keeps.ite
    | with_reducible apply State.Keeps.foldl
    | with_reducible apply State.Keeps.foldlFst
    | with_reducible apply State.Keeps.foldlSnd
    | intro _
    | split
    | dsimp only

theorem State.ctrlStore_keeps {z : State} (s : State) (p : Nat) (w0 : Word) (va : Nat) (size : Nat) (v : Nat) (hk : State.Keeps z s) :
    State.Keeps z (State.ctrlStore s p w0 va size v) := by
  unfold State.ctrlStore
  repeat' first
    | with_reducible assumption
    | with_reducible apply State.stallIssue_keeps
    | with_reducible apply State.issueFault_keeps
    | with_reducible apply State.ctrlStall_keeps
    | with_reducible apply State.ctrlSet_keeps
    | fail_if_no_progress with_reducible apply State.Keeps.mk'
    | with_reducible apply State.Keeps.ite
    | with_reducible apply State.Keeps.foldl
    | with_reducible apply State.Keeps.foldlFst
    | with_reducible apply State.Keeps.foldlSnd
    | intro _
    | split
    | dsimp only

theorem ctrlInstr_keeps {z : State} (p : ArrayId) (w : Word) (mask : Nat) (mtch : Nat) (range0 : Nat) (must0 : Nat) (body : Word → Ctrl → Ctrl) (s : State) (hk : State.Keeps z s) :
    State.Keeps z (ctrlInstr p w mask mtch range0 must0 body s) := by
  unfold ctrlInstr
  repeat' first
    | with_reducible assumption
    | with_reducible apply State.ctrlSet_keeps
    | with_reducible apply ctrlGate_keeps
    | fail_if_no_progress with_reducible apply State.Keeps.mk'
    | with_reducible apply State.Keeps.ite
    | with_reducible apply State.Keeps.foldl
    | with_reducible apply State.Keeps.foldlFst
    | with_reducible apply State.Keeps.foldlSnd
    | intro _

theorem sCmp_keeps {z : State} (p : Nat) (w : Word) (r : Option Bool) (s : State) (hk : State.Keeps z s) :
    State.Keeps z (sCmp p w r s) := by
  unfold sCmp
  repeat' first
    | with_reducible assumption
    | with_reducible apply State.issueFault_keeps
    | with_reducible apply State.ctrlSet_keeps
    | fail_if_no_progress with_reducible apply State.Keeps.mk'
    | with_reducible apply State.Keeps.ite
    | with_reducible apply State.Keeps.foldl
    | with_reducible apply State.Keeps.foldlFst
    | with_reducible apply State.Keeps.foldlSnd
    | intro _
    | split

theorem State.drainWrite_keeps {z : State} (s : State) (p : Nat) (t : Tile) (d : DrainOf) (accs : List (List Acc)) (sent : Bool) (hk : State.Keeps z s) :
    State.Keeps z (State.drainWrite s p t d accs sent) := by
  unfold State.drainWrite
  repeat' first
    | with_reducible assumption
    | with_reducible apply State.poke_keeps
    | with_reducible apply State.writeVa_keeps
    | with_reducible apply State.drawn_keeps
    | fail_if_no_progress with_reducible apply State.Keeps.mk'
    | with_reducible apply State.Keeps.ite
    | with_reducible apply State.Keeps.foldl
    | with_reducible apply State.Keeps.foldlFst
    | with_reducible apply State.Keeps.foldlSnd
    | intro _
    | split
    | dsimp only

theorem State.clearSlot_keeps {z : State} (s : State) (n : Nat) (j : Nat) (hk : State.Keeps z s) :
    State.Keeps z (State.clearSlot s n j) := by
  unfold State.clearSlot
  repeat' first
    | with_reducible assumption
    | with_reducible apply State.Keeps.filtered
    | fail_if_no_progress with_reducible apply State.Keeps.mk'
    | with_reducible apply State.Keeps.ite
    | with_reducible apply State.Keeps.foldl
    | with_reducible apply State.Keeps.foldlFst
    | with_reducible apply State.Keeps.foldlSnd
    | intro _
    | split
    | dsimp only

theorem State.parkWrite_keeps {z : State} (s : State) (p : Nat) (j : Nat) (b : Block) (hk : State.Keeps z s) :
    State.Keeps z (State.parkWrite s p j b) := by
  unfold State.parkWrite
  repeat' first
    | with_reducible assumption
    | with_reducible apply State.clearSlot_keeps
    | with_reducible apply State.modArr_keeps
    | with_reducible apply State.wrBytes_keeps
    | fail_if_no_progress with_reducible apply State.Keeps.mk'
    | with_reducible apply State.Keeps.ite
    | with_reducible apply State.Keeps.foldl
    | with_reducible apply State.Keeps.foldlFst
    | with_reducible apply State.Keeps.foldlSnd
    | intro _
    | intro _
    | split
    | dsimp only

theorem State.setTile_keeps {z : State} (s : State) (p : Nat) (i : Nat) (t : Tile) (hk : State.Keeps z s) :
    State.Keeps z (State.setTile s p i t) := by
  unfold State.setTile
  repeat' first
    | with_reducible assumption
    | with_reducible apply State.modArr_keeps

theorem State.reduceStart_keeps {z : State} (s : State) (p : Nat) (e : QEntry) (dP : BitVec 512) (anchor : Int) (g : GangSet) (hk : State.Keeps z s) :
    State.Keeps z (State.reduceStart s p e dP anchor g) := by
  unfold State.reduceStart
  repeat' first
    | with_reducible assumption
    | with_reducible apply State.stallTr_keeps
    | with_reducible apply State.modArr_keeps
    | with_reducible apply State.readRanges_keeps
    | with_reducible apply State.flintPoison_keeps
    | with_reducible apply State.entryFault_keeps
    | fail_if_no_progress with_reducible apply State.Keeps.mk'
    | with_reducible apply State.Keeps.ite
    | with_reducible apply State.Keeps.foldl
    | with_reducible apply State.Keeps.foldlFst
    | with_reducible apply State.Keeps.foldlSnd
    | intro _
    | split
    | dsimp only

theorem State.loadProgram_keeps {z : State} (s : State) (p : Nat) (words : List Word) (r0 : Nat) (r1 : Nat) (c0 : Nat) (c1 : Nat) (hk : State.Keeps z s) :
    State.Keeps z (State.loadProgram s p words r0 r1 c0 c1) := by
  unfold State.loadProgram
  repeat' first
    | with_reducible assumption
    | with_reducible apply State.setCore_keeps
    | fail_if_no_progress with_reducible apply State.Keeps.mk'
    | with_reducible apply State.Keeps.ite
    | with_reducible apply State.Keeps.foldl
    | with_reducible apply State.Keeps.foldlFst
    | with_reducible apply State.Keeps.foldlSnd
    | intro _

theorem State.advance_keeps {z : State} (s : State) (p : Nat) (n : Nat) (hk : State.Keeps z s) :
    State.Keeps z (State.advance s p n) := by
  induction n generalizing s with
  | zero => exact hk
  | succ n ih =>
    unfold State.advance
    repeat' first
      | with_reducible assumption
      | with_reducible apply ih
      | with_reducible apply State.setArr_keeps
      | with_reducible apply State.stallTr_keeps
      | with_reducible apply State.entryFault_keeps
      | with_reducible apply State.readRanges_keeps
      | with_reducible apply State.loadProgram_keeps
      | with_reducible apply State.reduceStart_keeps
      | fail_if_no_progress with_reducible apply State.Keeps.mk'
      | with_reducible apply State.Keeps.ite
      | with_reducible apply State.Keeps.foldl
      | with_reducible apply State.Keeps.foldlFst
      | with_reducible apply State.Keeps.foldlSnd
      | intro _
      | split
      | dsimp only

theorem State.attnReturn_keeps {z : State} (s : State) (p : Nat) (g : AttnRun) (status : Nat) (hk : State.Keeps z s) :
    State.Keeps z (State.attnReturn s p g status) := by
  unfold State.attnReturn
  repeat' first
    | with_reducible assumption
    | with_reducible apply State.drawn_keeps
    | with_reducible apply State.bump64_keeps
    | with_reducible apply State.modCtrl_keeps
    | fail_if_no_progress with_reducible apply State.Keeps.mk'
    | with_reducible apply State.Keeps.ite
    | with_reducible apply State.Keeps.foldl
    | with_reducible apply State.Keeps.foldlFst
    | with_reducible apply State.Keeps.foldlSnd
    | intro _
    | split
    | dsimp only

theorem State.recordRead_keeps {z : State} (s : State) (p : Nat) (va : Nat) (n : Nat) (hk : State.Keeps z s) :
    (State.recordRead s p va n).Keeps z := by
  unfold State.recordRead
  repeat' first
    | with_reducible assumption
    | exact trivial
    | with_reducible apply State.ctrlRead_keeps
    | with_reducible refine CtrlRead.keeps_ok (by assumption) (State.ctrlRead_keeps _ _ _ _ ?_)
    | with_reducible refine CtrlRead.keeps_bad (by assumption) (State.ctrlRead_keeps _ _ _ _ ?_)
    | fail_if_no_progress with_reducible apply State.Keeps.mk'
    | with_reducible apply State.Keeps.ite
    | with_reducible apply State.Keeps.foldl
    | with_reducible apply State.Keeps.foldlFst
    | with_reducible apply State.Keeps.foldlSnd
    | intro _
    | split
    | dsimp only
    | show State.Keeps _ _

theorem State.recordAsk_keeps {z : State} (s : State) (p : Nat) (va : Nat) (n : Nat) (hk : State.Keeps z s) :
    State.Keeps z (State.recordAsk s p va n) := by
  unfold State.recordAsk
  repeat' first
    | with_reducible assumption
    | with_reducible apply State.modCtrl_keeps
    | with_reducible apply State.sendWindow_keeps
    | fail_if_no_progress with_reducible apply State.Keeps.mk'
    | with_reducible apply State.Keeps.ite
    | with_reducible apply State.Keeps.foldl
    | with_reducible apply State.Keeps.foldlFst
    | with_reducible apply State.Keeps.foldlSnd
    | intro _
    | split
    | dsimp only

theorem State.attnRead_keeps {z : State} (s : State) (p : Nat) (g : AttnRun) (hk : State.Keeps z s) :
    State.Keeps z (State.attnRead s p g) := by
  unfold State.attnRead
  repeat' first
    | with_reducible assumption
    | with_reducible apply State.attnReturn_keeps
    | with_reducible refine CtrlRead.keeps_ok (by assumption) (State.recordRead_keeps _ _ _ _ ?_)
    | with_reducible refine CtrlRead.keeps_bad (by assumption) (State.recordRead_keeps _ _ _ _ ?_)
    | with_reducible apply State.modCtrl_keeps
    | with_reducible apply State.issueFault_keeps
    | with_reducible apply State.ctrlStall_keeps
    | with_reducible apply State.recordAsk_keeps
    | fail_if_no_progress with_reducible apply State.Keeps.mk'
    | with_reducible apply State.Keeps.ite
    | with_reducible apply State.Keeps.foldl
    | with_reducible apply State.Keeps.foldlFst
    | with_reducible apply State.Keeps.foldlSnd
    | intro _
    | split
    | dsimp only

end Sys2Proof.Machine
end

