-- ==== Sys2Proof/Laws/KeepC.lean ====
section
/-!
SUPPORT. What the shared operations of Attention, QueueOps, TileOps, ArrayIssue, ArrayMode, CtxOps, Replay, FwOps, RegOps, CtrlFlow keep: one lemma each, the relation of Laws/Keep.
-/
namespace Sys2Proof.Machine

theorem State.attnIssue_keeps {z : State} (s : State) (p : Nat) (g : AttnRun) (r : AttnRec) (item : AttnItem) (hk : State.Keeps z s) :
    State.Keeps z (State.attnIssue s p g r item) := by
  unfold State.attnIssue
  repeat' first
    | with_reducible assumption
    | with_reducible apply State.modCtrl_keeps
    | with_reducible apply State.setArr_keeps
    | fail_if_no_progress with_reducible apply State.Keeps.mk'
    | with_reducible apply State.Keeps.ite
    | with_reducible apply State.Keeps.foldl
    | with_reducible apply State.Keeps.foldlFst
    | with_reducible apply State.Keeps.foldlSnd
    | intro _
    | split
    | dsimp only

theorem State.attnStep_keeps {z : State} (s : State) (p : Nat) (g : AttnRun) (hk : State.Keeps z s) :
    State.Keeps z (State.attnStep s p g) := by
  unfold State.attnStep
  repeat' first
    | with_reducible assumption
    | with_reducible apply State.attnRead_keeps
    | with_reducible apply State.attnReturn_keeps
    | with_reducible apply State.attnIssue_keeps
    | fail_if_no_progress with_reducible apply State.Keeps.mk'
    | with_reducible apply State.Keeps.ite
    | with_reducible apply State.Keeps.foldl
    | with_reducible apply State.Keeps.foldlFst
    | with_reducible apply State.Keeps.foldlSnd
    | intro _
    | split
    | dsimp only

theorem State.attnGo_keeps {z : State} (s : State) (p : Nat) (n : Nat) (hk : State.Keeps z s) :
    State.Keeps z (State.attnGo s p n) := by
  induction n generalizing s with
  | zero => exact hk
  | succ n ih =>
    unfold State.attnGo
    repeat' first
      | with_reducible assumption
      | with_reducible apply ih
      | with_reducible apply State.attnStep_keeps
      | fail_if_no_progress with_reducible apply State.Keeps.mk'
      | with_reducible apply State.Keeps.ite
      | with_reducible apply State.Keeps.foldl
      | with_reducible apply State.Keeps.foldlFst
      | with_reducible apply State.Keeps.foldlSnd
      | intro _
      | split
      | dsimp only

theorem State.advanceQ_keeps {z : State} (s : State) (p : Nat) (hk : State.Keeps z s) :
    State.Keeps z (State.advanceQ s p) := by
  unfold State.advanceQ
  repeat' first
    | with_reducible assumption
    | with_reducible apply State.attnGo_keeps
    | with_reducible apply State.settleFault_keeps
    | with_reducible apply State.advance_keeps
    | intro _
    | split
    | dsimp only

theorem State.afterStores_keeps {z : State} (s : State) (p : Nat) (k : State → State) (hk : State.Keeps z s) (hk : ∀ y0, State.Keeps z y0 → State.Keeps z (k y0)) :
    State.Keeps z (State.afterStores s p k) := by
  unfold State.afterStores
  repeat' first
    | with_reducible assumption
    | with_reducible apply State.drainStores_keeps
    | with_reducible apply State.stallIssue_keeps
    | with_reducible apply hk
    | fail_if_no_progress with_reducible apply State.Keeps.mk'
    | with_reducible apply State.Keeps.ite
    | with_reducible apply State.Keeps.foldl
    | with_reducible apply State.Keeps.foldlFst
    | with_reducible apply State.Keeps.foldlSnd
    | intro _
    | split
    | dsimp only

theorem State.withRoom_keeps {z : State} (s : State) (p : Nat) (q : Nat) (k : State → State) (hk : State.Keeps z s) (hk : ∀ y0, State.Keeps z y0 → State.Keeps z (k y0)) :
    State.Keeps z (State.withRoom s p q k) := by
  unfold State.withRoom
  repeat' first
    | with_reducible assumption
    | with_reducible apply State.stallIssue_keeps
    | with_reducible apply hk
    | fail_if_no_progress with_reducible apply State.Keeps.mk'
    | with_reducible apply State.Keeps.ite
    | with_reducible apply State.Keeps.foldl
    | with_reducible apply State.Keeps.foldlFst
    | with_reducible apply State.Keeps.foldlSnd
    | intro _
    | split
    | dsimp only

theorem State.enqueueWith_keeps {z : State} (s : State) (p : Nat) (q : Nat) (w0 : Word) (w1 : Word) (len : Nat) (osn : Nat) (launchable : Bool) (op : QOp) (prep : Ctrl → Ctrl) (hk : State.Keeps z s) :
    State.Keeps z (State.enqueueWith s p q w0 w1 len osn launchable op prep) := by
  unfold State.enqueueWith
  repeat' first
    | with_reducible assumption
    | with_reducible apply State.afterStores_keeps
    | with_reducible apply State.withRoom_keeps
    | with_reducible apply State.advanceQ_keeps
    | with_reducible apply State.ctrlNext_keeps
    | with_reducible apply State.setArr_keeps
    | fail_if_no_progress with_reducible apply State.Keeps.mk'
    | with_reducible apply State.Keeps.ite
    | with_reducible apply State.Keeps.foldl
    | with_reducible apply State.Keeps.foldlFst
    | with_reducible apply State.Keeps.foldlSnd
    | intro _
    | split
    | dsimp only

theorem State.enqueue_keeps {z : State} (s : State) (p : Nat) (q : Nat) (w0 : Word) (w1 : Word) (len : Nat) (osn : Nat) (launchable : Bool) (op : QOp) (hk : State.Keeps z s) :
    State.Keeps z (State.enqueue s p q w0 w1 len osn launchable op) := by
  unfold State.enqueue
  repeat' first
    | with_reducible assumption
    | with_reducible apply State.enqueueWith_keeps
    | with_reducible apply State.setArr_keeps
    | with_reducible apply State.ctrlNext_keeps
    | with_reducible apply State.advanceQ_keeps
    | with_reducible apply State.drainStores_keeps
    | fail_if_no_progress with_reducible apply State.Keeps.mk'
    | with_reducible apply State.Keeps.ite
    | with_reducible apply State.Keeps.foldl
    | with_reducible apply State.Keeps.foldlFst
    | with_reducible apply State.Keeps.foldlSnd
    | intro _
    | intro _
    | split
    | dsimp only

theorem State.postWitness_keeps {z : State} (s : State) (p : Nat) (slot : Nat) (code : Nat) (sev : Nat) (t : Tile) (injected : Bool) (hk : State.Keeps z s) :
    State.Keeps z (State.postWitness s p slot code sev t injected) := by
  unfold State.postWitness
  repeat' first
    | with_reducible assumption
    | with_reducible apply State.postCtx_keeps

theorem State.postReplay_keeps {z : State} (s : State) (ctx : Option Nat) (code : Nat) (sev : Nat) (p : Nat) (t : Tile) (unit : Nat) (rh : Nat) (third : Nat) (th : Nat) (partner : Option Nat) (hk : State.Keeps z s) :
    State.Keeps z (State.postReplay s ctx code sev p t unit rh third th partner) := by
  unfold State.postReplay
  repeat' first
    | with_reducible assumption
    | with_reducible apply State.post_keeps

theorem State.heldPoison_keeps {z : State} (s : State) (p : Nat) (t : Tile) (pa : Nat) (hk : State.Keeps z s) :
    State.Keeps z (State.heldPoison s p t pa) := by
  unfold State.heldPoison
  repeat' first
    | with_reducible assumption
    | with_reducible apply State.post_keeps
    | with_reducible apply State.ctxFault_keeps
    | with_reducible apply State.modArr_keeps

theorem State.checked_keeps {z : State} (s : State) (p : Nat) (w0 : Word) (w1 : Word) (cs : List IssueCheck) (k : State → State) (hk : State.Keeps z s) (hk : ∀ s1, State.Keeps z s1 → State.Keeps z (k s1)) :
    State.Keeps z (State.checked s p w0 w1 cs k) := by
  unfold State.checked
  repeat' first
    | with_reducible assumption
    | with_reducible apply State.issueFault_keeps
    | with_reducible apply hk
    | fail_if_no_progress with_reducible apply State.Keeps.mk'
    | with_reducible apply State.Keeps.ite
    | with_reducible apply State.Keeps.foldl
    | with_reducible apply State.Keeps.foldlFst
    | with_reducible apply State.Keeps.foldlSnd
    | intro _
    | split

theorem State.issueLoad_keeps {z : State} (s : State) (p : Nat) (w : Word) (shadow : Bool) (hk : State.Keeps z s) :
    State.Keeps z (State.issueLoad s p w shadow) := by
  unfold State.issueLoad
  repeat' first
    | with_reducible assumption
    | with_reducible apply State.enqueue_keeps
    | with_reducible apply State.checked_keeps
    | fail_if_no_progress with_reducible apply State.Keeps.mk'
    | with_reducible apply State.Keeps.ite
    | with_reducible apply State.Keeps.foldl
    | with_reducible apply State.Keeps.foldlFst
    | with_reducible apply State.Keeps.foldlSnd
    | intro _

theorem State.issuePass_keeps {z : State} (s : State) (p : Nat) (w0 : Word) (w1 : Word) (trans : Bool) (hk : State.Keeps z s) :
    State.Keeps z (State.issuePass s p w0 w1 trans) := by
  unfold State.issuePass
  repeat' first
    | with_reducible assumption
    | with_reducible apply State.enqueueWith_keeps
    | with_reducible apply State.enqueue_keeps
    | with_reducible apply State.checked_keeps
    | with_reducible apply State.modCtrl_keeps
    | fail_if_no_progress with_reducible apply State.Keeps.mk'
    | with_reducible apply State.Keeps.ite
    | with_reducible apply State.Keeps.foldl
    | with_reducible apply State.Keeps.foldlFst
    | with_reducible apply State.Keeps.foldlSnd
    | intro _
    | intro _
    | split
    | dsimp only

theorem State.popAq_keeps {z : State} (s : State) (p : Nat) (hk : State.Keeps z s) :
    State.Keeps z (State.popAq s p) := by
  unfold State.popAq
  repeat' first
    | with_reducible assumption
    | with_reducible apply State.modArr_keeps

theorem State.setOcc_keeps {z : State} (s : State) (p : Nat) (j : Nat) (b : Bool) (hk : State.Keeps z s) :
    State.Keeps z (State.setOcc s p j b) := by
  unfold State.setOcc
  repeat' first
    | with_reducible assumption
    | with_reducible apply State.setFlag_keeps

theorem State.loadStart_keeps {z : State} (s : State) (p : Nat) (e : QEntry) (shadow : Bool) (dW : BitVec 512) (park : Bool) (slot : Nat) (hk : State.Keeps z s) :
    State.Keeps z (State.loadStart s p e shadow dW park slot) := by
  unfold State.loadStart
  repeat' first
    | with_reducible assumption
    | with_reducible apply State.setOcc_keeps
    | with_reducible apply State.modArr_keeps
    | with_reducible apply State.stallTr_keeps
    | with_reducible apply State.heldRefuse_keeps
    | with_reducible apply State.advanceQ_keeps
    | with_reducible apply State.popAq_keeps
    | fail_if_no_progress with_reducible apply State.Keeps.mk'
    | with_reducible apply State.Keeps.ite
    | with_reducible apply State.Keeps.foldl
    | with_reducible apply State.Keeps.foldlFst
    | with_reducible apply State.Keeps.foldlSnd
    | intro _
    | split

theorem State.unparkStart_keeps {z : State} (s : State) (p : Nat) (e : QEntry) (slot : Nat) (scale : Nat) (hk : State.Keeps z s) :
    State.Keeps z (State.unparkStart s p e slot scale) := by
  unfold State.unparkStart
  repeat' first
    | with_reducible assumption
    | with_reducible apply State.modArr_keeps
    | with_reducible apply State.stallTr_keeps
    | with_reducible apply State.advanceQ_keeps
    | with_reducible apply State.popAq_keeps
    | with_reducible apply State.entryFault_keeps
    | fail_if_no_progress with_reducible apply State.Keeps.mk'
    | with_reducible apply State.Keeps.ite
    | with_reducible apply State.Keeps.foldl
    | with_reducible apply State.Keeps.foldlFst
    | with_reducible apply State.Keeps.foldlSnd
    | intro _
    | split
    | dsimp only

theorem State.copyScales_keeps {z : State} (s : State) (p : Nat) (ctx : Nat) (va : Nat) (b : Block) (hk : State.Keeps z s) :
    State.Keeps z (State.copyScales s p ctx va b) := by
  unfold State.copyScales
  repeat' first
    | with_reducible assumption
    | with_reducible apply State.poke_keeps
    | fail_if_no_progress with_reducible apply State.Keeps.mk'
    | with_reducible apply State.Keeps.ite
    | with_reducible apply State.Keeps.foldl
    | with_reducible apply State.Keeps.foldlFst
    | with_reducible apply State.Keeps.foldlSnd
    | intro _

theorem State.loadDone_keeps {z : State} (s : State) (p : Nat) (shadow : Bool) (dW : BitVec 512) (park : Bool) (slot : Nat) (scale : Nat) (hk : State.Keeps z s) :
    State.Keeps z (State.loadDone s p shadow dW park slot scale) := by
  unfold State.loadDone
  repeat' first
    | with_reducible assumption
    | with_reducible apply State.setOcc_keeps
    | with_reducible apply State.modArr_keeps
    | with_reducible apply State.parkWrite_keeps
    | with_reducible apply State.stallTr_keeps
    | with_reducible apply State.readRanges_keeps
    | with_reducible apply State.flintPoison_keeps
    | with_reducible apply State.heldRefuse_keeps
    | with_reducible apply State.advanceQ_keeps
    | with_reducible apply State.copyScales_keeps
    | fail_if_no_progress with_reducible apply State.Keeps.mk'
    | with_reducible apply State.Keeps.ite
    | with_reducible apply State.Keeps.foldl
    | with_reducible apply State.Keeps.foldlFst
    | with_reducible apply State.Keeps.foldlSnd
    | intro _
    | split
    | dsimp only

theorem State.unparkDone_keeps {z : State} (s : State) (p : Nat) (slot : Nat) (scale : Nat) (hk : State.Keeps z s) :
    State.Keeps z (State.unparkDone s p slot scale) := by
  unfold State.unparkDone
  repeat' first
    | with_reducible assumption
    | with_reducible apply State.modArr_keeps
    | with_reducible apply State.readRanges_keeps
    | with_reducible apply State.flintPoison_keeps
    | with_reducible apply State.advanceQ_keeps
    | fail_if_no_progress with_reducible apply State.Keeps.mk'
    | with_reducible apply State.Keeps.ite
    | with_reducible apply State.Keeps.foldl
    | with_reducible apply State.Keeps.foldlFst
    | with_reducible apply State.Keeps.foldlSnd
    | intro _
    | split
    | dsimp only

theorem State.postLate_keeps {z : State} (s : State) (p : Nat) (cause : Nat) (rank : Nat) (t : DWord) (start : DWord) (e : QEntry) (hk : State.Keeps z s) :
    State.Keeps z (State.postLate s p cause rank t start e) := by
  unfold State.postLate
  repeat' first
    | with_reducible assumption
    | with_reducible apply State.postCtx_keeps

theorem State.lateCheck_keeps {z : State} (s : State) (p : Nat) (e : QEntry) (hk : State.Keeps z s) :
    State.Keeps z (State.lateCheck s p e) := by
  unfold State.lateCheck
  repeat' first
    | with_reducible assumption
    | with_reducible apply State.postLate_keeps
    | fail_if_no_progress with_reducible apply State.Keeps.mk'
    | with_reducible apply State.Keeps.ite
    | with_reducible apply State.Keeps.foldl
    | with_reducible apply State.Keeps.foldlFst
    | with_reducible apply State.Keeps.foldlSnd
    | intro _
    | split
    | dsimp only

theorem State.passStream_keeps {z : State} (s : State) (p : Nat) (i : Nat) (e : QEntry) (op : PassOp) (b : Block) (rows : Nat) (inp : List (Nat × Nat)) (dst : List (Nat × Nat)) (hk : State.Keeps z s) :
    State.Keeps z (State.passStream s p i e op b rows inp dst) := by
  unfold State.passStream
  repeat' first
    | with_reducible assumption
    | with_reducible apply State.lateCheck_keeps
    | with_reducible apply State.readRanges_keeps
    | with_reducible apply State.flintPoison_keeps
    | with_reducible apply State.advanceQ_keeps
    | with_reducible apply State.popAq_keeps
    | with_reducible apply State.setTile_keeps
    | fail_if_no_progress with_reducible apply State.Keeps.mk'
    | with_reducible apply State.Keeps.ite
    | with_reducible apply State.Keeps.foldl
    | with_reducible apply State.Keeps.foldlFst
    | with_reducible apply State.Keeps.foldlSnd
    | intro _
    | split
    | dsimp only

theorem State.softStart_keeps {z : State} (s : State) (p : Nat) (hk : State.Keeps z s) :
    State.Keeps z (State.softStart s p) := by
  unfold State.softStart
  repeat' first
    | with_reducible assumption
    | with_reducible apply State.setFlag_keeps
    | with_reducible apply State.modArr_keeps
    | fail_if_no_progress with_reducible apply State.Keeps.mk'
    | with_reducible apply State.Keeps.ite
    | with_reducible apply State.Keeps.foldl
    | with_reducible apply State.Keeps.foldlFst
    | with_reducible apply State.Keeps.foldlSnd
    | intro _
    | split
    | dsimp only

theorem State.passStart_keeps {z : State} (s : State) (p : Nat) (e : QEntry) (op : PassOp) (hk : State.Keeps z s) :
    State.Keeps z (State.passStart s p e op) := by
  unfold State.passStart
  repeat' first
    | with_reducible assumption
    | with_reducible apply State.softStart_keeps
    | with_reducible apply State.lateCheck_keeps
    | with_reducible apply State.stallTr_keeps
    | with_reducible apply State.passStream_keeps
    | with_reducible apply State.advanceQ_keeps
    | with_reducible apply State.popAq_keeps
    | with_reducible apply State.entryFault_keeps
    | fail_if_no_progress with_reducible apply State.Keeps.mk'
    | with_reducible apply State.Keeps.ite
    | with_reducible apply State.Keeps.foldl
    | with_reducible apply State.Keeps.foldlFst
    | with_reducible apply State.Keeps.foldlSnd
    | intro _
    | split
    | dsimp only

theorem State.drainOut_keeps {z : State} (s : State) (p : Nat) (i : Nat) (sent : Bool) (hk : State.Keeps z s) :
    State.Keeps z (State.drainOut s p i sent) := by
  unfold State.drainOut
  repeat' first
    | with_reducible assumption
    | with_reducible apply State.drainWrite_keeps
    | fail_if_no_progress with_reducible apply State.Keeps.mk'
    | with_reducible apply State.Keeps.ite
    | with_reducible apply State.Keeps.foldl
    | with_reducible apply State.Keeps.foldlFst
    | with_reducible apply State.Keeps.foldlSnd
    | intro _
    | split
    | dsimp only

theorem State.witRegs_keeps {z : State} (s : State) (p : Nat) (slot : Nat) (row : Nat) (delta : Nat) (hk : State.Keeps z s) :
    State.Keeps z (State.witRegs s p slot row delta) := by
  unfold State.witRegs
  repeat' first
    | with_reducible assumption
    | with_reducible apply State.bump_keeps
    | with_reducible apply State.setFld_keeps

theorem State.anchorFault_keeps {z : State} (s : State) (p : Nat) (t : Tile) (hk : State.Keeps z s) :
    State.Keeps z (State.anchorFault s p t) := by
  unfold State.anchorFault
  repeat' first
    | with_reducible assumption
    | with_reducible apply State.modArr_keeps
    | with_reducible apply State.entryFault_keeps
    | fail_if_no_progress with_reducible apply State.Keeps.mk'
    | with_reducible apply State.Keeps.ite
    | with_reducible apply State.Keeps.foldl
    | with_reducible apply State.Keeps.foldlFst
    | with_reducible apply State.Keeps.foldlSnd
    | intro _
    | split

theorem State.disagree_keeps {z : State} (s : State) (p : Nat) (t : Tile) (hk : State.Keeps z s) :
    State.Keeps z (State.disagree s p t) := by
  unfold State.disagree
  repeat' first
    | with_reducible assumption
    | with_reducible apply State.bump_keeps
    | with_reducible apply State.lifeCount_keeps

theorem State.recordWit_keeps {z : State} (s : State) (p : Nat) (t : Tile) (hk : State.Keeps z s) :
    State.Keeps z (State.recordWit s p t) := by
  unfold State.recordWit
  repeat' first
    | with_reducible assumption
    | with_reducible apply State.modArr_keeps
    | fail_if_no_progress with_reducible apply State.Keeps.mk'
    | with_reducible apply State.Keeps.ite
    | with_reducible apply State.Keeps.foldl
    | with_reducible apply State.Keeps.foldlFst
    | with_reducible apply State.Keeps.foldlSnd
    | intro _
    | split

theorem State.chainWrite_keeps {z : State} (s : State) (p : Nat) (r : ChainRun) (w : ChainWrite) (hk : State.Keeps z s) :
    State.Keeps z (State.chainWrite s p r w) := by
  unfold State.chainWrite
  repeat' first
    | with_reducible assumption
    | with_reducible apply State.writeVaB_keeps

theorem State.releaseChains_keeps {z : State} (s : State) (p : Nat) (seq : Nat) (hk : State.Keeps z s) :
    State.Keeps z (State.releaseChains s p seq) := by
  unfold State.releaseChains
  repeat' first
    | with_reducible assumption
    | with_reducible apply State.modArr_keeps
    | with_reducible apply State.chainWrite_keeps
    | fail_if_no_progress with_reducible apply State.Keeps.mk'
    | with_reducible apply State.Keeps.ite
    | with_reducible apply State.Keeps.foldl
    | with_reducible apply State.Keeps.foldlFst
    | with_reducible apply State.Keeps.foldlSnd
    | intro _

theorem State.reducedTile_keeps {z : State} (s : State) (p : Nat) (r : RedState) (hk : State.Keeps z s) :
    State.Keeps z (State.reducedTile s p r) := by
  unfold State.reducedTile
  repeat' first
    | with_reducible assumption
    | with_reducible apply State.modArr_keeps
    | with_reducible apply State.stallTr_keeps
    | with_reducible apply State.setTile_keeps
    | with_reducible apply State.drainOut_keeps
    | with_reducible apply State.entryFault_keeps
    | fail_if_no_progress with_reducible apply State.Keeps.mk'
    | with_reducible apply State.Keeps.ite
    | with_reducible apply State.Keeps.foldl
    | with_reducible apply State.Keeps.foldlFst
    | with_reducible apply State.Keeps.foldlSnd
    | intro _
    | split
    | dsimp only

theorem State.showPyr_keeps {z : State} (s : State) (hk : State.Keeps z s) :
    State.Keeps z (State.showPyr s) := by
  unfold State.showPyr
  repeat' first
    | with_reducible assumption
    | with_reducible apply State.setFlag_keeps
    | with_reducible apply State.setFld_keeps
    | fail_if_no_progress with_reducible apply State.Keeps.mk'
    | with_reducible apply State.Keeps.ite
    | with_reducible apply State.Keeps.foldl
    | with_reducible apply State.Keeps.foldlFst
    | with_reducible apply State.Keeps.foldlSnd
    | intro _

theorem State.queuePyrite_keeps {z : State} (s : State) (r : PyrRun) (hk : State.Keeps z s) :
    State.Keeps z (State.queuePyrite s r) := by
  unfold State.queuePyrite
  repeat' first
    | with_reducible assumption
    | with_reducible apply State.setFld_keeps
    | with_reducible apply State.showPyr_keeps
    | fail_if_no_progress with_reducible apply State.Keeps.mk'
    | with_reducible apply State.Keeps.ite
    | with_reducible apply State.Keeps.foldl
    | with_reducible apply State.Keeps.foldlFst
    | with_reducible apply State.Keeps.foldlSnd
    | intro _

theorem State.stripsOff_keeps {z : State} (s : State) (p : Nat) (hk : State.Keeps z s) :
    State.Keeps z (State.stripsOff s p) := by
  unfold State.stripsOff
  repeat' first
    | with_reducible assumption
    | with_reducible apply State.setFld_keeps
    | fail_if_no_progress with_reducible apply State.Keeps.mk'
    | with_reducible apply State.Keeps.ite
    | with_reducible apply State.Keeps.foldl
    | with_reducible apply State.Keeps.foldlFst
    | with_reducible apply State.Keeps.foldlSnd
    | intro _

theorem State.wantRemap_keeps {z : State} (s : State) (p : Nat) (kind : Nat) (hk : State.Keeps z s) :
    State.Keeps z (State.wantRemap s p kind) := by
  unfold State.wantRemap
  repeat' first
    | with_reducible assumption
    | with_reducible apply State.setFlag_keeps
    | fail_if_no_progress with_reducible apply State.Keeps.mk'

theorem State.suspect_keeps {z : State} (s : State) (p : Nat) (hk : State.Keeps z s) :
    State.Keeps z (State.suspect s p) := by
  unfold State.suspect
  repeat' first
    | with_reducible assumption
    | with_reducible apply State.setFlag_keeps
    | with_reducible apply State.queuePyrite_keeps
    | with_reducible apply State.wantRemap_keeps
    | with_reducible apply State.setFld_keeps
    | fail_if_no_progress with_reducible apply State.Keeps.mk'
    | with_reducible apply State.Keeps.ite
    | with_reducible apply State.Keeps.foldl
    | with_reducible apply State.Keeps.foldlFst
    | with_reducible apply State.Keeps.foldlSnd
    | intro _

theorem State.strike_keeps {z : State} (s : State) (p : Nat) (hk : State.Keeps z s) :
    State.Keeps z (State.strike s p) := by
  unfold State.strike
  repeat' first
    | with_reducible assumption
    | with_reducible apply State.bump_keeps
    | with_reducible apply State.queuePyrite_keeps
    | with_reducible apply State.wantRemap_keeps
    | with_reducible apply State.setFld_keeps
    | with_reducible apply State.lifeCount_keeps
    | with_reducible apply State.postDev_keeps
    | with_reducible apply State.stripsOff_keeps
    | fail_if_no_progress with_reducible apply State.Keeps.mk'
    | with_reducible apply State.Keeps.ite
    | with_reducible apply State.Keeps.foldl
    | with_reducible apply State.Keeps.foldlFst
    | with_reducible apply State.Keeps.foldlSnd
    | intro _
    | intro _
    | split
    | dsimp only

theorem State.wpathFault_keeps {z : State} (s : State) (p : Nat) (slot : Nat) (t : Tile) (hk : State.Keeps z s) :
    State.Keeps z (State.wpathFault s p slot t) := by
  unfold State.wpathFault
  repeat' first
    | with_reducible assumption
    | with_reducible apply State.setFld_keeps
    | with_reducible apply State.postWitness_keeps
    | with_reducible apply State.suspect_keeps
    | fail_if_no_progress with_reducible apply State.Keeps.mk'
    | with_reducible apply State.Keeps.ite

theorem State.unresolve_keeps {z : State} (s : State) (p : Nat) (i : Nat) (t : Tile) (arrs : List Nat) (rh : Nat) (third : Nat) (th : Nat) (partner : Option Nat) (unit : Nat) (oh : Nat) (hk : State.Keeps z s) :
    State.Keeps z (State.unresolve s p i t arrs rh third th partner unit oh) := by
  unfold State.unresolve
  repeat' first
    | with_reducible assumption
    | with_reducible apply State.postReplay_keeps
    | with_reducible apply State.bump_keeps
    | with_reducible apply State.setTile_keeps
    | with_reducible apply State.suspect_keeps
    | with_reducible apply State.dropAfter_keeps
    | with_reducible apply State.ctxFault_keeps
    | fail_if_no_progress with_reducible apply State.Keeps.mk'
    | with_reducible apply State.Keeps.ite
    | with_reducible apply State.Keeps.foldl
    | with_reducible apply State.Keeps.foldlFst
    | with_reducible apply State.Keeps.foldlSnd
    | intro _
    | split
    | dsimp only

theorem State.settleOriginal_keeps {z : State} (s : State) (p : Nat) (i : Nat) (q : Nat) (t : Tile) (hk : State.Keeps z s) :
    State.Keeps z (State.settleOriginal s p i q t) := by
  unfold State.settleOriginal
  repeat' first
    | with_reducible assumption
    | with_reducible apply State.setTile_keeps
    | fail_if_no_progress with_reducible apply State.Keeps.mk'
    | with_reducible apply State.Keeps.ite
    | with_reducible apply State.Keeps.foldl
    | with_reducible apply State.Keeps.foldlFst
    | with_reducible apply State.Keeps.foldlSnd
    | intro _
    | split
    | dsimp only

theorem State.overwrite_keeps {z : State} (s : State) (p : Nat) (i : Nat) (t : Tile) (r : Tile) (h : Nat) (hk : State.Keeps z s) :
    State.Keeps z (State.overwrite s p i t r h) := by
  unfold State.overwrite
  repeat' first
    | with_reducible assumption
    | with_reducible apply State.setTile_keeps
    | with_reducible apply State.drainOut_keeps
    | fail_if_no_progress with_reducible apply State.Keeps.mk'
    | with_reducible apply State.Keeps.ite
    | with_reducible apply State.Keeps.foldl
    | with_reducible apply State.Keeps.foldlFst
    | with_reducible apply State.Keeps.foldlSnd
    | intro _
    | split
    | dsimp only

theorem State.settleReplay_keeps {z : State} (s : State) (p : Nat) (i : Nat) (t : Tile) (r : Tile) (h : Nat) (hk : State.Keeps z s) :
    State.Keeps z (State.settleReplay s p i t r h) := by
  unfold State.settleReplay
  repeat' first
    | with_reducible assumption
    | with_reducible apply State.overwrite_keeps
    | with_reducible apply State.modArr_keeps
    | with_reducible apply State.setTile_keeps
    | with_reducible apply State.drainOut_keeps
    | fail_if_no_progress with_reducible apply State.Keeps.mk'
    | with_reducible apply State.Keeps.ite
    | with_reducible apply State.Keeps.foldl
    | with_reducible apply State.Keeps.foldlFst
    | with_reducible apply State.Keeps.foldlSnd
    | intro _
    | intro _
    | split
    | dsimp only

theorem State.resolved_keeps {z : State} (s : State) (p : Nat) (t : Tile) (code : Nat) (rh : Nat) (third : Nat) (th : Nat) (partner : Option Nat) (unit : optParam Nat 0) (hk : State.Keeps z s) :
    State.Keeps z (State.resolved s p t code rh third th partner unit) := by
  unfold State.resolved
  repeat' first
    | with_reducible assumption
    | with_reducible apply State.bump_keeps
    | with_reducible apply State.postReplay_keeps
    | fail_if_no_progress with_reducible apply State.Keeps.mk'
    | with_reducible apply State.Keeps.ite
    | with_reducible apply State.Keeps.foldl
    | with_reducible apply State.Keeps.foldlFst
    | with_reducible apply State.Keeps.foldlSnd
    | intro _
    | split
    | dsimp only

theorem State.firstReplay_keeps {z : State} (s : State) (p : Nat) (i : Nat) (q : Nat) (t : Tile) (tr : Tile) (r : Replay) (h : Nat) (ok : Bool) (hk : State.Keeps z s) :
    State.Keeps z (State.firstReplay s p i q t tr r h ok) := by
  unfold State.firstReplay
  repeat' first
    | with_reducible assumption
    | with_reducible apply State.overwrite_keeps
    | with_reducible apply State.strike_keeps
    | with_reducible apply State.settleOriginal_keeps
    | with_reducible apply State.unresolve_keeps
    | with_reducible apply State.resolved_keeps
    | with_reducible apply State.settleReplay_keeps
    | with_reducible apply State.disagree_keeps
    | with_reducible apply State.postReplay_keeps
    | with_reducible apply State.setTile_keeps
    | with_reducible apply State.wpathFault_keeps
    | fail_if_no_progress with_reducible apply State.Keeps.mk'
    | with_reducible apply State.Keeps.ite
    | with_reducible apply State.Keeps.foldl
    | with_reducible apply State.Keeps.foldlFst
    | with_reducible apply State.Keeps.foldlSnd
    | intro _
    | intro _
    | split
    | dsimp only

theorem State.thirdReplay_keeps {z : State} (s : State) (p : Nat) (i : Nat) (q3 : Nat) (t : Tile) (tt : Tile) (r : Replay) (h : Nat) (ok : Bool) (hk : State.Keeps z s) :
    State.Keeps z (State.thirdReplay s p i q3 t tt r h ok) := by
  unfold State.thirdReplay
  repeat' first
    | with_reducible assumption
    | with_reducible apply State.overwrite_keeps
    | with_reducible apply State.strike_keeps
    | with_reducible apply State.settleOriginal_keeps
    | with_reducible apply State.unresolve_keeps
    | with_reducible apply State.resolved_keeps
    | with_reducible apply State.settleReplay_keeps
    | fail_if_no_progress with_reducible apply State.Keeps.mk'
    | with_reducible apply State.Keeps.ite
    | with_reducible apply State.Keeps.foldl
    | with_reducible apply State.Keeps.foldlFst
    | with_reducible apply State.Keeps.foldlSnd
    | intro _
    | intro _
    | split
    | dsimp only

theorem State.showBoot_keeps {z : State} (s : State) (hk : State.Keeps z s) :
    State.Keeps z (State.showBoot s) := by
  unfold State.showBoot
  repeat' first
    | with_reducible assumption
    | with_reducible apply State.setReg_keeps
    | with_reducible apply State.setFlag_keeps
    | with_reducible apply State.setFld_keeps

theorem State.bootWrite_keeps {z : State} (s : State) (r : BootRec) (hk : State.Keeps z s) :
    State.Keeps z (State.bootWrite s r) := by
  unfold State.bootWrite
  repeat' first
    | with_reducible assumption
    | with_reducible apply State.showBoot_keeps
    | with_reducible apply State.lifeAdd_keeps
    | fail_if_no_progress with_reducible apply State.Keeps.mk'
    | with_reducible apply State.Keeps.ite
    | with_reducible apply State.Keeps.foldl
    | with_reducible apply State.Keeps.foldlFst
    | with_reducible apply State.Keeps.foldlSnd
    | intro _

theorem State.fwEvent_keeps {z : State} (s : State) (code : Nat) (sev : Nat) (slot : Nat) (detail : Nat) (hk : State.Keeps z s) :
    State.Keeps z (State.fwEvent s code sev slot detail) := by
  unfold State.fwEvent
  repeat' first
    | with_reducible assumption
    | with_reducible apply State.postDev_keeps

theorem State.updateCancel_keeps {z : State} (s : State) (hk : State.Keeps z s) :
    State.Keeps z (State.updateCancel s) := by
  unfold State.updateCancel
  repeat' first
    | with_reducible assumption
    | with_reducible apply State.bootWrite_keeps
    | with_reducible apply State.fwEvent_keeps
    | fail_if_no_progress with_reducible apply State.Keeps.mk'
    | with_reducible apply State.Keeps.ite
    | with_reducible apply State.Keeps.foldl
    | with_reducible apply State.Keeps.foldlFst
    | with_reducible apply State.Keeps.foldlSnd
    | intro _
    | split

theorem State.ownerClear_keeps {z : State} (s : State) (hk : State.Keeps z s) :
    State.Keeps z (State.ownerClear s) := by
  unfold State.ownerClear
  repeat' first
    | with_reducible assumption
    | with_reducible apply State.setReg_keeps
    | with_reducible apply State.setReg64_keeps
    | with_reducible apply State.updateCancel_keeps
    | fail_if_no_progress with_reducible apply State.Keeps.mk'

theorem State.ownerEntry_keeps {z : State} (s : State) (path : Nat × Nat × Nat) (prio : Nat) (id : Nat) (cause : Nat) (hk : State.Keeps z s) :
    State.Keeps z (State.ownerEntry s path prio id cause) := by
  unfold State.ownerEntry
  repeat' first
    | with_reducible assumption
    | with_reducible apply State.lifeAdd_keeps

theorem State.ownerEnds_keeps {z : State} (s : State) (kind : Nat) (path : Nat) (hk : State.Keeps z s) :
    State.Keeps z (State.ownerEnds s kind path) := by
  unfold State.ownerEnds
  repeat' first
    | with_reducible assumption
    | with_reducible apply State.ownerEntry_keeps
    | with_reducible apply State.ownerClear_keeps
    | fail_if_no_progress with_reducible apply State.Keeps.mk'
    | with_reducible apply State.Keeps.ite
    | intro _
    | split
    | dsimp only

theorem State.regDrop_keeps {z : State} (s : State) (req : Requester) (off : Nat) (code : Nat) (v : Nat) (hk : State.Keeps z s) :
    State.Keeps z (State.regDrop s req off code v) := by
  unfold State.regDrop
  repeat' first
    | with_reducible assumption
    | with_reducible apply State.post_keeps
    | with_reducible apply State.postDev_keeps
    | fail_if_no_progress with_reducible apply State.Keeps.mk'
    | with_reducible apply State.Keeps.ite
    | with_reducible apply State.Keeps.foldl
    | with_reducible apply State.Keeps.foldlFst
    | with_reducible apply State.Keeps.foldlSnd
    | intro _
    | split

theorem State.dropLatches_keeps {z : State} (s : State) (hit : Nat → Bool) (hk : State.Keeps z s) :
    State.Keeps z (State.dropLatches s hit) := by
  unfold State.dropLatches
  repeat' first
    | with_reducible assumption
    | fail_if_no_progress with_reducible apply State.Keeps.mk'

theorem State.dropNote_keeps {z : State} (s : State) (req : Requester) (off : Nat) (v : Nat) (w : Written) (hk : State.Keeps z s) :
    State.Keeps z (State.dropNote s req off v w).1 := by
  unfold State.dropNote
  repeat' first
    | with_reducible assumption
    | with_reducible apply State.regDrop_keeps
    | fail_if_no_progress with_reducible apply State.Keeps.mk'
    | with_reducible apply State.Keeps.ite
    | with_reducible apply State.Keeps.foldl
    | with_reducible apply State.Keeps.foldlFst
    | with_reducible apply State.Keeps.foldlSnd
    | intro _
    | split

theorem State.commit_keeps {z : State} (s : State) (req : Requester) (off : Nat) (v : Nat) (old : Nat) (w : Written)
    (put : State → Nat → State) (e : RegEffect) (hk : State.Keeps z s)
    (hput : ∀ s1 y1, State.Keeps z s1 → State.Keeps z (put s1 y1)) (he : e.Keeps) :
    State.Keeps z (State.commit s req off v old w put e).1 := by
  unfold State.commit
  repeat' first
    | with_reducible assumption
    | with_reducible apply State.dropNote_keeps
    | with_reducible apply State.regDrop_keeps
    | with_reducible refine RegEffect.Keeps.act he ?_
    | with_reducible apply hput
    | fail_if_no_progress with_reducible apply State.Keeps.mk'
    | with_reducible apply State.Keeps.ite
    | with_reducible apply State.Keeps.foldl
    | with_reducible apply State.Keeps.foldlFst
    | with_reducible apply State.Keeps.foldlSnd
    | intro _
    | split
    | dsimp only

theorem State.regWriteR_keeps {z : State} (s : State) (req : Requester) (off : Nat) (v : Nat) (e : RegEffect) (hk : State.Keeps z s) (he : e.Keeps) :
    State.Keeps z (State.regWriteR s req off v e).1 := by
  unfold State.regWriteR
  repeat' first
    | with_reducible assumption
    | with_reducible apply State.setReg_keeps
    | with_reducible apply State.commit_keeps
    | with_reducible apply he
    | fail_if_no_progress with_reducible apply State.Keeps.mk'
    | with_reducible apply State.Keeps.ite
    | with_reducible apply State.Keeps.foldl
    | with_reducible apply State.Keeps.foldlFst
    | with_reducible apply State.Keeps.foldlSnd
    | intro _
    | split

theorem State.regWrite_keeps {z : State} (s : State) (req : Requester) (off : Nat) (v : Nat) (e : RegEffect) (hk : State.Keeps z s) (he : e.Keeps) :
    State.Keeps z (State.regWrite s req off v e) := by
  unfold State.regWrite
  repeat' first
    | with_reducible assumption
    | with_reducible apply State.regWriteR_keeps

theorem State.pairWriteR_keeps {z : State} (s : State) (req : Requester) (lo : Nat) (home : Nat) (v : Nat) (e : RegEffect) (hk : State.Keeps z s) (he : e.Keeps) :
    State.Keeps z (State.pairWriteR s req lo home v e).1 := by
  unfold State.pairWriteR
  repeat' first
    | with_reducible assumption
    | with_reducible apply State.setReg64_keeps
    | with_reducible apply State.commit_keeps
    | with_reducible apply he
    | fail_if_no_progress with_reducible apply State.Keeps.mk'
    | with_reducible apply State.Keeps.ite
    | with_reducible apply State.Keeps.foldl
    | with_reducible apply State.Keeps.foldlFst
    | with_reducible apply State.Keeps.foldlSnd
    | intro _
    | split

theorem State.clock_keeps {z : State} (s : State) (t : DWord) (hk : State.Keeps z s) :
    State.Keeps z (State.clock s t) := by
  unfold State.clock
  repeat' first
    | with_reducible assumption
    | fail_if_no_progress with_reducible apply State.Keeps.mk'
    | with_reducible apply State.Keeps.ite
    | with_reducible apply State.Keeps.foldl
    | with_reducible apply State.Keeps.foldlFst
    | with_reducible apply State.Keeps.foldlSnd
    | intro _

theorem State.ctrlWaitDone_keeps {z : State} (s : State) (p : Nat) (hk : State.Keeps z s) :
    State.Keeps z (State.ctrlWaitDone s p) := by
  unfold State.ctrlWaitDone
  repeat' first
    | with_reducible assumption
    | with_reducible apply State.ctrlNext_keeps
    | with_reducible apply State.modArr_keeps
    | with_reducible apply State.modCtrl_keeps
    | fail_if_no_progress with_reducible apply State.Keeps.mk'
    | with_reducible apply State.Keeps.ite
    | with_reducible apply State.Keeps.foldl
    | with_reducible apply State.Keeps.foldlFst
    | with_reducible apply State.Keeps.foldlSnd
    | intro _
    | split
    | dsimp only

theorem State.waitUntil_keeps {z : State} (s : State) (p : Nat) (len : Nat) (t : DWord) (hk : State.Keeps z s) :
    State.Keeps z (State.waitUntil s p len t) := by
  unfold State.waitUntil
  repeat' first
    | with_reducible assumption
    | with_reducible apply State.ctrlNext_keeps
    | with_reducible apply State.modCtrl_keeps
    | fail_if_no_progress with_reducible apply State.Keeps.mk'
    | with_reducible apply State.Keeps.ite
    | with_reducible apply State.Keeps.foldl
    | with_reducible apply State.Keeps.foldlFst
    | with_reducible apply State.Keeps.foldlSnd
    | intro _

theorem State.launchAt_keeps {z : State} (s : State) (p : Nat) (len : Nat) (t : DWord) (hk : State.Keeps z s) :
    State.Keeps z (State.launchAt s p len t) := by
  unfold State.launchAt
  repeat' first
    | with_reducible assumption
    | with_reducible apply State.ctrlNext_keeps
    | with_reducible apply State.modCtrl_keeps

theorem State.modHead_keeps {z : State} (s : State) (p : Nat) (q : Nat) (f : QEntry → QEntry) (hk : State.Keeps z s) :
    State.Keeps z (State.modHead s p q f) := by
  unfold State.modHead
  repeat' first
    | with_reducible assumption
    | with_reducible apply State.modArr_keeps

end Sys2Proof.Machine
end

