-- ==== Sys2Proof/Laws/KeepD.lean ====
section
/-!
SUPPORT. What the shared operations of CtrlFlow, SyncEvents, Time, Vector, Dma, Windows, FabOps, MemEvents, Trunk, DispOps keep: one lemma each, the relation of Laws/Keep.
-/
namespace Sys2Proof.Machine

theorem State.gangFault_keeps {z : State} (s : State) (p : Nat) (q : Nat) (g : GangSet) (hk : State.Keeps z s) :
    State.Keeps z (State.gangFault s p q g) := by
  unfold State.gangFault
  repeat' first
    | with_reducible assumption
    | with_reducible apply State.issueFault_keeps
    | with_reducible apply State.modArr_keeps
    | with_reducible apply State.entryFault_keeps
    | fail_if_no_progress with_reducible apply State.Keeps.mk'
    | with_reducible apply State.Keeps.ite
    | with_reducible apply State.Keeps.foldl
    | with_reducible apply State.Keeps.foldlFst
    | with_reducible apply State.Keeps.foldlSnd
    | intro _
    | split

theorem State.commitEnd_keeps {z : State} (s : State) (p : Nat) (step : Bool) (hk : State.Keeps z s) :
    State.Keeps z (State.commitEnd s p step) := by
  unfold State.commitEnd
  repeat' first
    | with_reducible assumption
    | with_reducible apply State.ctrlSet_keeps

theorem State.chkCommit_keeps {z : State} (s : State) (p : Nat) (step : Bool) (hk : State.Keeps z s) :
    State.Keeps z (State.chkCommit s p step) := by
  unfold State.chkCommit
  repeat' first
    | with_reducible assumption
    | with_reducible apply State.modCtrl_keeps
    | with_reducible apply State.commitEnd_keeps
    | fail_if_no_progress with_reducible apply State.Keeps.mk'
    | with_reducible apply State.Keeps.ite
    | with_reducible apply State.Keeps.foldl
    | with_reducible apply State.Keeps.foldlFst
    | with_reducible apply State.Keeps.foldlSnd
    | intro _

theorem State.fenceEnd_keeps {z : State} (s : State) (p : Nat) (kind : Nat) (hk : State.Keeps z s) :
    State.Keeps z (State.fenceEnd s p kind) := by
  unfold State.fenceEnd
  repeat' first
    | with_reducible assumption
    | with_reducible apply State.ctrlSet_keeps

theorem State.fence_keeps {z : State} (s : State) (p : Nat) (kind : Nat) (hk : State.Keeps z s) :
    State.Keeps z (State.fence s p kind) := by
  unfold State.fence
  repeat' first
    | with_reducible assumption
    | with_reducible apply State.drainStores_keeps
    | with_reducible apply State.modCtrl_keeps
    | with_reducible apply State.fenceEnd_keeps
    | fail_if_no_progress with_reducible apply State.Keeps.mk'
    | with_reducible apply State.Keeps.ite
    | with_reducible apply State.Keeps.foldl
    | with_reducible apply State.Keeps.foldlFst
    | with_reducible apply State.Keeps.foldlSnd
    | intro _

theorem State.signalsDone_keeps {z : State} (s : State) (xs : List Signal) (hk : State.Keeps z s) :
    State.Keeps z (State.signalsDone s xs) := by
  unfold State.signalsDone
  repeat' first
    | with_reducible assumption
    | fail_if_no_progress with_reducible apply State.Keeps.mk'

theorem State.signalBad_keeps {z : State} (s : State) (x : Signal) (router : Option (Fin 9)) (hk : State.Keeps z s) :
    State.Keeps z (State.signalBad s x router) := by
  unfold State.signalBad
  repeat' first
    | with_reducible assumption
    | with_reducible apply State.ctxFault_keeps
    | with_reducible apply State.bump_keeps
    | with_reducible apply State.postCtx_keeps

theorem State.setSavedCtr_keeps {z : State} (s : State) (c : Nat) (key : Nat) (k : Nat) (v : BitVec 16) (hk : State.Keeps z s) :
    State.Keeps z (State.setSavedCtr s c key k v) := by
  unfold State.setSavedCtr
  repeat' first
    | with_reducible assumption
    | with_reducible apply State.setCtx_keeps

theorem State.flintEvent_keeps {z : State} (s : State) (r : FlintReq) (hk : State.Keeps z s) :
    State.Keeps z (State.flintEvent s r) := by
  unfold State.flintEvent
  repeat' first
    | with_reducible assumption
    | with_reducible apply State.post_keeps
    | with_reducible apply State.postDev_keeps
    | fail_if_no_progress with_reducible apply State.Keeps.mk'
    | with_reducible apply State.Keeps.ite
    | with_reducible apply State.Keeps.foldl
    | with_reducible apply State.Keeps.foldlFst
    | with_reducible apply State.Keeps.foldlSnd
    | intro _

theorem State.flintAfter_keeps {z : State} (s : State) (r : FlintReq) (hk : State.Keeps z s) :
    State.Keeps z (State.flintAfter s r) := by
  unfold State.flintAfter
  repeat' first
    | with_reducible assumption
    | with_reducible apply State.setFlag_keeps
    | with_reducible apply State.modArr_keeps
    | with_reducible apply State.runFault_keeps
    | with_reducible apply State.postDev_keeps
    | fail_if_no_progress with_reducible apply State.Keeps.mk'
    | with_reducible apply State.Keeps.ite
    | with_reducible apply State.Keeps.foldl
    | with_reducible apply State.Keeps.foldlFst
    | with_reducible apply State.Keeps.foldlSnd
    | intro _

theorem flintInject_keeps  : RegEffect.Keeps (flintInject) := by
  intro z s req a b hk
  unfold flintInject
  dsimp only [RegEffect.plain]
  repeat' first
    | with_reducible assumption
    | with_reducible apply State.flintRaise_keeps
    | fail_if_no_progress with_reducible apply State.Keeps.mk'
    | with_reducible apply State.Keeps.ite

theorem State.setIsland_keeps {z : State} (s : State) (i : Nat) (x : Island) (hk : State.Keeps z s) :
    State.Keeps z (State.setIsland s i x) := by
  unfold State.setIsland
  repeat' first
    | with_reducible assumption
    | with_reducible apply State.setFlag_keeps
    | with_reducible apply State.modArr_keeps
    | fail_if_no_progress with_reducible apply State.Keeps.mk'
    | with_reducible apply State.Keeps.ite
    | with_reducible apply State.Keeps.foldl
    | with_reducible apply State.Keeps.foldlFst
    | with_reducible apply State.Keeps.foldlSnd
    | intro _

theorem State.lockSummary_keeps {z : State} (s : State) (hk : State.Keeps z s) :
    State.Keeps z (State.lockSummary s) := by
  unfold State.lockSummary
  repeat' first
    | with_reducible assumption
    | with_reducible apply State.setFlag_keeps
    | with_reducible apply State.setReg64_keeps
    | with_reducible apply State.setFld_keeps

theorem State.islandLock_keeps {z : State} (s : State) (i : Nat) (x : Island) (b : Bool) (hk : State.Keeps z s) :
    State.Keeps z (State.islandLock s i x b) := by
  unfold State.islandLock
  repeat' first
    | with_reducible assumption
    | with_reducible apply State.postDev_keeps
    | with_reducible apply State.setIsland_keeps

theorem State.islandBeat_keeps {z : State} (s : State) (i : Nat) (o : Int) (hk : State.Keeps z s) :
    State.Keeps z (State.islandBeat s i o) := by
  unfold State.islandBeat
  repeat' first
    | with_reducible assumption
    | with_reducible apply State.setFld_keeps
    | with_reducible apply State.islandLock_keeps
    | with_reducible apply State.setIsland_keeps
    | fail_if_no_progress with_reducible apply State.Keeps.mk'
    | with_reducible apply State.Keeps.ite
    | with_reducible apply State.Keeps.foldl
    | with_reducible apply State.Keeps.foldlFst
    | with_reducible apply State.Keeps.foldlSnd
    | intro _

theorem State.islandMiss_keeps {z : State} (s : State) (i : Nat) (hk : State.Keeps z s) :
    State.Keeps z (State.islandMiss s i) := by
  unfold State.islandMiss
  repeat' first
    | with_reducible assumption
    | with_reducible apply State.islandLock_keeps
    | with_reducible apply State.setIsland_keeps
    | fail_if_no_progress with_reducible apply State.Keeps.mk'
    | with_reducible apply State.Keeps.ite
    | with_reducible apply State.Keeps.foldl
    | with_reducible apply State.Keeps.foldlFst
    | with_reducible apply State.Keeps.foldlSnd
    | intro _

theorem State.stepTo_keeps {z : State} (s : State) (t : Nat) (hk : State.Keeps z s) :
    State.Keeps z (State.stepTo s t) := by
  unfold State.stepTo
  repeat' first
    | with_reducible assumption
    | with_reducible apply State.postDev_keeps
    | fail_if_no_progress with_reducible apply State.Keeps.mk'
    | with_reducible apply State.Keeps.ite
    | with_reducible apply State.Keeps.foldl
    | with_reducible apply State.Keeps.foldlFst
    | with_reducible apply State.Keeps.foldlSnd
    | intro _
    | split
    | dsimp only

theorem State.quartzStep_keeps {z : State} (s : State) (hk : State.Keeps z s) :
    State.Keeps z (State.quartzStep s) := by
  unfold State.quartzStep
  repeat' first
    | with_reducible assumption
    | with_reducible apply State.stepTo_keeps
    | with_reducible apply State.postDev_keeps
    | fail_if_no_progress with_reducible apply State.Keeps.mk'
    | intro _
    | split
    | dsimp only

theorem State.setRefclk_keeps {z : State} (s : State) (i : Nat) (r : RefState) (hk : State.Keeps z s) :
    State.Keeps z (State.setRefclk s i r) := by
  unfold State.setRefclk
  repeat' first
    | with_reducible assumption
    | with_reducible apply State.setFlag_keeps
    | fail_if_no_progress with_reducible apply State.Keeps.mk'

theorem State.slewFlag_keeps {z : State} (s : State) (hk : State.Keeps z s) :
    State.Keeps z (State.slewFlag s) := by
  unfold State.slewFlag
  repeat' first
    | with_reducible assumption
    | with_reducible apply State.setFlag_keeps

theorem State.selectSource_keeps {z : State} (s : State) (sel : Nat) (hk : State.Keeps z s) :
    State.Keeps z (State.selectSource s sel) := by
  unfold State.selectSource
  repeat' first
    | with_reducible assumption
    | with_reducible apply State.setFld_keeps
    | with_reducible apply State.slewFlag_keeps
    | fail_if_no_progress with_reducible apply State.Keeps.mk'

theorem State.refEvent_keeps {z : State} (s : State) (code : Nat) (subject : Nat) (avg : Int) (hk : State.Keeps z s) :
    State.Keeps z (State.refEvent s code subject avg) := by
  unfold State.refEvent
  repeat' first
    | with_reducible assumption
    | with_reducible apply State.postDev_keeps

theorem State.refSwitch_keeps {z : State} (s : State) (i : Nat) (hk : State.Keeps z s) :
    State.Keeps z (State.refSwitch s i) := by
  unfold State.refSwitch
  repeat' first
    | with_reducible assumption
    | with_reducible apply State.setFlag_keeps
    | with_reducible apply State.bump_keeps
    | with_reducible apply State.selectSource_keeps
    | with_reducible apply State.refEvent_keeps
    | fail_if_no_progress with_reducible apply State.Keeps.mk'
    | with_reducible apply State.Keeps.ite
    | with_reducible apply State.Keeps.foldl
    | with_reducible apply State.Keeps.foldlFst
    | with_reducible apply State.Keeps.foldlSnd
    | intro _

theorem State.holdover_keeps {z : State} (s : State) (hk : State.Keeps z s) :
    State.Keeps z (State.holdover s) := by
  unfold State.holdover
  repeat' first
    | with_reducible assumption
    | with_reducible apply State.setFlag_keeps
    | with_reducible apply State.bump_keeps
    | with_reducible apply State.selectSource_keeps
    | with_reducible apply State.refEvent_keeps

theorem State.refSelect_keeps {z : State} (s : State) (hk : State.Keeps z s) :
    State.Keeps z (State.refSelect s) := by
  unfold State.refSelect
  repeat' first
    | with_reducible assumption
    | with_reducible apply State.holdover_keeps
    | with_reducible apply State.refSwitch_keeps
    | fail_if_no_progress with_reducible apply State.Keeps.mk'
    | with_reducible apply State.Keeps.ite
    | with_reducible apply State.Keeps.foldl
    | with_reducible apply State.Keeps.foldlFst
    | with_reducible apply State.Keeps.foldlSnd
    | intro _
    | split

theorem State.refDisq_keeps {z : State} (s : State) (i : Nat) (hk : State.Keeps z s) :
    State.Keeps z (State.refDisq s i) := by
  unfold State.refDisq
  repeat' first
    | with_reducible assumption
    | with_reducible apply State.setFlag_keeps
    | with_reducible apply State.setRefclk_keeps
    | with_reducible apply State.refEvent_keeps
    | fail_if_no_progress with_reducible apply State.Keeps.mk'
    | with_reducible apply State.Keeps.ite
    | with_reducible apply State.Keeps.foldl
    | with_reducible apply State.Keeps.foldlFst
    | with_reducible apply State.Keeps.foldlSnd
    | intro _

theorem State.refAverage_keeps {z : State} (s : State) (i : Nat) (hk : State.Keeps z s) :
    State.Keeps z (State.refAverage s i) := by
  unfold State.refAverage
  repeat' first
    | with_reducible assumption
    | with_reducible apply State.setReg_keeps
    | with_reducible apply State.setFlag_keeps
    | with_reducible apply State.setFld_keeps
    | with_reducible apply State.setRefclk_keeps
    | with_reducible apply State.refEvent_keeps
    | fail_if_no_progress with_reducible apply State.Keeps.mk'
    | with_reducible apply State.Keeps.ite
    | with_reducible apply State.Keeps.foldl
    | with_reducible apply State.Keeps.foldlFst
    | with_reducible apply State.Keeps.foldlSnd
    | intro _

theorem State.refSample_keeps {z : State} (s : State) (i : Nat) (x : Int) (hk : State.Keeps z s) :
    State.Keeps z (State.refSample s i x) := by
  unfold State.refSample
  repeat' first
    | with_reducible assumption
    | with_reducible apply State.refAverage_keeps
    | with_reducible apply State.setRefclk_keeps
    | with_reducible apply State.refDisq_keeps
    | fail_if_no_progress with_reducible apply State.Keeps.mk'
    | with_reducible apply State.Keeps.ite

theorem quartzCtl_keeps  : RegEffect.Keeps (quartzCtl) := by
  intro z s req a b hk
  unfold quartzCtl
  dsimp only [RegEffect.plain]
  repeat' first
    | with_reducible assumption
    | with_reducible apply State.quartzStep_keeps
    | with_reducible apply State.refSwitch_keeps
    | fail_if_no_progress with_reducible apply State.Keeps.mk'
    | with_reducible apply State.Keeps.ite
    | with_reducible apply State.Keeps.foldl
    | with_reducible apply State.Keeps.foldlFst
    | with_reducible apply State.Keeps.foldlSnd
    | intro _

theorem fabCtlEffect_keeps  : RegEffect.Keeps (fabCtlEffect) := by
  intro z s req a b hk
  unfold fabCtlEffect
  dsimp only [RegEffect.plain]
  repeat' first
    | with_reducible assumption
    | with_reducible refine RegEffect.Keeps.act (RegEffect.plain_keeps ) ?_
    | with_reducible apply State.setFld_keeps
    | with_reducible apply State.slewFlag_keeps
    | fail_if_no_progress with_reducible apply State.Keeps.mk'
    | with_reducible apply State.Keeps.ite
    | with_reducible apply State.Keeps.foldl
    | with_reducible apply State.Keeps.foldlFst
    | with_reducible apply State.Keeps.foldlSnd
    | intro _

theorem State.setLinkTime_keeps {z : State} (s : State) (f : Nat) (x : LinkTime) (hk : State.Keeps z s) :
    State.Keeps z (State.setLinkTime s f x) := by
  unfold State.setLinkTime
  repeat' first
    | with_reducible assumption
    | fail_if_no_progress with_reducible apply State.Keeps.mk'

theorem State.linkTimeReset_keeps {z : State} (s : State) (f : Nat) (hk : State.Keeps z s) :
    State.Keeps z (State.linkTimeReset s f) := by
  unfold State.linkTimeReset
  repeat' first
    | with_reducible assumption
    | with_reducible apply State.setLinkTime_keeps

theorem State.servoStep_keeps {z : State} (s : State) (o : Int) (hk : State.Keeps z s) :
    State.Keeps z (State.servoStep s o) := by
  unfold State.servoStep
  repeat' first
    | with_reducible assumption
    | with_reducible apply State.setFld_keeps
    | with_reducible apply State.postDev_keeps
    | fail_if_no_progress with_reducible apply State.Keeps.mk'
    | with_reducible apply State.Keeps.ite
    | with_reducible apply State.Keeps.foldl
    | with_reducible apply State.Keeps.foldlFst
    | with_reducible apply State.Keeps.foldlSnd
    | intro _

theorem State.clkShow_keeps {z : State} (s : State) (p : Nat) (hk : State.Keeps z s) :
    State.Keeps z (State.clkShow s p) := by
  unfold State.clkShow
  repeat' first
    | with_reducible assumption
    | with_reducible apply State.setFlag_keeps

theorem State.chainFault_keeps {z : State} (s : State) (p : Nat) (e : QEntry) (ctx : Nat) (cause : Nat) (stage : Nat) (elem : Nat) (addr : Nat) (hk : State.Keeps z s) :
    State.Keeps z (State.chainFault s p e ctx cause stage elem addr) := by
  unfold State.chainFault
  repeat' first
    | with_reducible assumption
    | with_reducible apply State.dropAfter_keeps
    | with_reducible apply State.faultRegs_keeps
    | with_reducible apply State.ctxFault_keeps
    | with_reducible apply State.bump_keeps
    | with_reducible apply State.modArr_keeps
    | with_reducible apply State.setReg64_keeps
    | with_reducible apply State.setFld_keeps
    | with_reducible apply State.postCtx_keeps
    | intro _
    | split
    | dsimp only

theorem State.chainRefuse_keeps {z : State} (s : State) (p : Nat) (e : QEntry) (ctx : Nat) (cause : Nat) (stage : Nat) (addr : Nat) (hk : State.Keeps z s) :
    State.Keeps z (State.chainRefuse s p e ctx cause stage addr) := by
  unfold State.chainRefuse
  repeat' first
    | with_reducible assumption
    | with_reducible apply State.chainFault_keeps
    | with_reducible apply State.bump_keeps
    | with_reducible apply State.modArr_keeps
    | fail_if_no_progress with_reducible apply State.Keeps.mk'
    | with_reducible apply State.Keeps.ite
    | with_reducible apply State.Keeps.foldl
    | with_reducible apply State.Keeps.foldlFst
    | with_reducible apply State.Keeps.foldlSnd
    | intro _
    | split
    | dsimp only

theorem State.chainBegin_keeps {z : State} (s : State) (p : Nat) (e : QEntry) (op : ChainOp) (hk : State.Keeps z s) :
    State.Keeps z (State.chainBegin s p e op) := by
  unfold State.chainBegin
  repeat' first
    | with_reducible assumption
    | with_reducible apply State.chainRefuse_keeps
    | with_reducible apply State.modArr_keeps
    | with_reducible apply State.stallTr_keeps
    | with_reducible apply State.chainFault_keeps
    | fail_if_no_progress with_reducible apply State.Keeps.mk'
    | with_reducible apply State.Keeps.ite
    | with_reducible apply State.Keeps.foldl
    | with_reducible apply State.Keeps.foldlFst
    | with_reducible apply State.Keeps.foldlSnd
    | intro _
    | split

theorem State.chainPut_keeps {z : State} (s : State) (p : Nat) (r : ChainRun) (op : ChainOp) (w : ChainWrite) (hk : State.Keeps z s) :
    State.Keeps z (State.chainPut s p r op w) := by
  unfold State.chainPut
  repeat' first
    | with_reducible assumption
    | with_reducible apply State.poke_keeps
    | with_reducible apply State.poison_keeps
    | with_reducible apply State.chainWrite_keeps
    | fail_if_no_progress with_reducible apply State.Keeps.mk'
    | with_reducible apply State.Keeps.ite
    | with_reducible apply State.Keeps.foldl
    | with_reducible apply State.Keeps.foldlFst
    | with_reducible apply State.Keeps.foldlSnd
    | intro _
    | split
    | dsimp only

theorem State.chainPerform_keeps {z : State} (s : State) (p : Nat) (r : ChainRun) (op : ChainOp) (writes : List ChainWrite) (hk : State.Keeps z s) :
    State.Keeps z (State.chainPerform s p r op writes) := by
  unfold State.chainPerform
  repeat' first
    | with_reducible assumption
    | with_reducible apply State.drawn_keeps
    | with_reducible apply State.modArr_keeps
    | with_reducible apply State.chainPut_keeps
    | fail_if_no_progress with_reducible apply State.Keeps.mk'
    | with_reducible apply State.Keeps.ite
    | with_reducible apply State.Keeps.foldl
    | with_reducible apply State.Keeps.foldlFst
    | with_reducible apply State.Keeps.foldlSnd
    | intro _
    | split
    | dsimp only

theorem State.chainRegs_keeps {z : State} (s : State) (p : Nat) (o : ChainProg) (status : Nat) (hk : State.Keeps z s) :
    State.Keeps z (State.chainRegs s p o status) := by
  unfold State.chainRegs
  repeat' first
    | with_reducible assumption
    | with_reducible apply State.setFld_keeps
    | with_reducible apply State.bump_keeps
    | with_reducible apply State.bump64_keeps
    | fail_if_no_progress with_reducible apply State.Keeps.mk'
    | with_reducible apply State.Keeps.ite
    | with_reducible apply State.Keeps.foldl
    | with_reducible apply State.Keeps.foldlFst
    | with_reducible apply State.Keeps.foldlSnd
    | intro _
    | split
    | dsimp only

theorem State.chainFlint_keeps {z : State} (s : State) (p : Nat) (r : ChainRun) (pa : Nat) (hk : State.Keeps z s) :
    State.Keeps z (State.chainFlint s p r pa) := by
  unfold State.chainFlint
  repeat' first
    | with_reducible assumption
    | with_reducible apply State.flintPoison_keeps
    | with_reducible apply State.modArr_keeps
    | fail_if_no_progress with_reducible apply State.Keeps.mk'
    | with_reducible apply State.Keeps.ite
    | with_reducible apply State.Keeps.foldl
    | with_reducible apply State.Keeps.foldlFst
    | with_reducible apply State.Keeps.foldlSnd
    | intro _
    | split
    | dsimp only

theorem State.chainOver_keeps {z : State} (s : State) (p : Nat) (r : ChainRun) (op : ChainOp) (status : Nat) (elem : Nat) (hk : State.Keeps z s) :
    State.Keeps z (State.chainOver s p r op status elem) := by
  unfold State.chainOver
  repeat' first
    | with_reducible assumption
    | with_reducible apply State.writeVa_keeps
    | with_reducible apply State.modArr_keeps
    | with_reducible apply State.chainRegs_keeps
    | fail_if_no_progress with_reducible apply State.Keeps.mk'
    | with_reducible apply State.Keeps.ite
    | with_reducible apply State.Keeps.foldl
    | with_reducible apply State.Keeps.foldlFst
    | with_reducible apply State.Keeps.foldlSnd
    | intro _
    | split
    | dsimp only

theorem State.chainBreak_keeps {z : State} (s : State) (p : Nat) (r : ChainRun) (op : ChainOp) (cause : Nat) (stage : Nat) (elem : Nat) (addr : Nat) (hk : State.Keeps z s) :
    State.Keeps z (State.chainBreak s p r op cause stage elem addr) := by
  unfold State.chainBreak
  repeat' first
    | with_reducible assumption
    | with_reducible apply State.postCtx_keeps
    | with_reducible apply State.chainFault_keeps
    | with_reducible apply State.chainOver_keeps
    | fail_if_no_progress with_reducible apply State.Keeps.mk'
    | with_reducible apply State.Keeps.ite
    | with_reducible apply State.Keeps.foldl
    | with_reducible apply State.Keeps.foldlFst
    | with_reducible apply State.Keeps.foldlSnd
    | intro _
    | split
    | dsimp only

theorem State.chainPoisoned_keeps {z : State} (s : State) (p : Nat) (ctx : Nat) (pa : Option Nat) (hk : State.Keeps z s) :
    State.Keeps z (State.chainPoisoned s p ctx pa) := by
  unfold State.chainPoisoned
  repeat' first
    | with_reducible assumption
    | with_reducible apply State.post_keeps
    | fail_if_no_progress with_reducible apply State.Keeps.mk'
    | with_reducible apply State.Keeps.ite
    | with_reducible apply State.Keeps.foldl
    | with_reducible apply State.Keeps.foldlFst
    | with_reducible apply State.Keeps.foldlSnd
    | intro _
    | split
    | dsimp only

theorem State.chainFinish_keeps {z : State} (s : State) (p : Nat) (r : ChainRun) (op : ChainOp) (hk : State.Keeps z s) :
    State.Keeps z (State.chainFinish s p r op) := by
  unfold State.chainFinish
  repeat' first
    | with_reducible assumption
    | with_reducible apply State.chainOver_keeps
    | with_reducible apply State.addCtrl_keeps
    | with_reducible apply State.settleFault_keeps
    | fail_if_no_progress with_reducible apply State.Keeps.mk'
    | with_reducible apply State.Keeps.ite
    | with_reducible apply State.Keeps.foldl
    | with_reducible apply State.Keeps.foldlFst
    | with_reducible apply State.Keeps.foldlSnd
    | intro _
    | split
    | dsimp only

theorem State.chainEnd_keeps {z : State} (s : State) (p : Nat) (r : ChainRun) (op : ChainOp) (upset : List (Nat × Nat)) (hk : State.Keeps z s) :
    State.Keeps z (State.chainEnd s p r op upset) := by
  unfold State.chainEnd
  repeat' first
    | with_reducible assumption
    | with_reducible apply State.readRanges_keeps
    | with_reducible apply State.chainFlint_keeps
    | with_reducible apply State.chainPerform_keeps
    | with_reducible apply State.modArr_keeps
    | with_reducible apply State.chainBreak_keeps
    | with_reducible apply State.chainPoisoned_keeps
    | with_reducible apply State.chainFinish_keeps
    | fail_if_no_progress with_reducible apply State.Keeps.mk'
    | with_reducible apply State.Keeps.ite
    | with_reducible apply State.Keeps.foldl
    | with_reducible apply State.Keeps.foldlFst
    | with_reducible apply State.Keeps.foldlSnd
    | intro _
    | split
    | dsimp only

theorem State.issueDma_keeps {z : State} (s : State) (p : Nat) (w0 : Word) (w1 : Word) (kind : Nat) (hk : State.Keeps z s) :
    State.Keeps z (State.issueDma s p w0 w1 kind) := by
  unfold State.issueDma
  repeat' first
    | with_reducible assumption
    | with_reducible apply State.enqueue_keeps
    | with_reducible apply State.checked_keeps
    | fail_if_no_progress with_reducible apply State.Keeps.mk'
    | with_reducible apply State.Keeps.ite
    | with_reducible apply State.Keeps.foldl
    | with_reducible apply State.Keeps.foldlFst
    | with_reducible apply State.Keeps.foldlSnd
    | intro _

theorem State.dmaBegin_keeps {z : State} (s : State) (p : Nat) (e : QEntry) (o : DmaOp) (hk : State.Keeps z s) :
    State.Keeps z (State.dmaBegin s p e o) := by
  unfold State.dmaBegin
  repeat' first
    | with_reducible assumption
    | with_reducible apply State.lateCheck_keeps
    | with_reducible apply State.modArr_keeps
    | with_reducible apply State.stallTr_keeps
    | with_reducible apply State.sendWindows_keeps
    | with_reducible apply State.entryFault_keeps
    | fail_if_no_progress with_reducible apply State.Keeps.mk'
    | with_reducible apply State.Keeps.ite
    | with_reducible apply State.Keeps.foldl
    | with_reducible apply State.Keeps.foldlFst
    | with_reducible apply State.Keeps.foldlSnd
    | intro _
    | split
    | dsimp only

theorem State.dmaEnd_keeps {z : State} (s : State) (p : Nat) (e : QEntry) (o : DmaOp) (hk : State.Keeps z s) :
    State.Keeps z (State.dmaEnd s p e o) := by
  unfold State.dmaEnd
  repeat' first
    | with_reducible assumption
    | with_reducible apply State.settleFault_keeps
    | with_reducible apply State.modArr_keeps
    | with_reducible apply State.addCtrl_keeps
    | fail_if_no_progress with_reducible apply State.Keeps.mk'
    | with_reducible apply State.Keeps.ite
    | intro _
    | split
    | dsimp only

theorem State.raceNote_keeps {z : State} (s : State) (ctx : Nat) (acc : Accessor) (w : ChainWrite) (hk : State.Keeps z s) :
    State.Keeps z (State.raceNote s ctx acc w) := by
  unfold State.raceNote
  repeat' first
    | with_reducible assumption
    | with_reducible apply State.modArr_keeps
    | fail_if_no_progress with_reducible apply State.Keeps.mk'
    | with_reducible apply State.Keeps.ite
    | with_reducible apply State.Keeps.foldl
    | with_reducible apply State.Keeps.foldlFst
    | with_reducible apply State.Keeps.foldlSnd
    | intro _
    | split
    | dsimp only

theorem State.dmaPerform_keeps {z : State} (s : State) (p : Nat) (e : QEntry) (o : DmaOp) (hk : State.Keeps z s) :
    State.Keeps z (State.dmaPerform s p e o) := by
  unfold State.dmaPerform
  repeat' first
    | with_reducible assumption
    | with_reducible apply State.raceNote_keeps
    | with_reducible apply State.modArr_keeps
    | with_reducible apply State.readRanges_keeps
    | with_reducible apply State.heldRefuse_keeps
    | with_reducible apply State.writeVaB_keeps
    | with_reducible apply State.entryFault_keeps
    | with_reducible apply State.drawn_keeps
    | fail_if_no_progress with_reducible apply State.Keeps.mk'
    | with_reducible apply State.Keeps.ite
    | with_reducible apply State.Keeps.foldl
    | with_reducible apply State.Keeps.foldlFst
    | with_reducible apply State.Keeps.foldlSnd
    | intro _
    | split
    | dsimp only

theorem State.setWindow_keeps {z : State} (s : State) (p : Nat) (w : Nat) (x : Window) (hk : State.Keeps z s) :
    State.Keeps z (State.setWindow s p w x) := by
  unfold State.setWindow
  repeat' first
    | with_reducible assumption
    | with_reducible apply State.modArr_keeps

theorem State.winOpen_keeps {z : State} (s : State) (p : Nat) (w : Nat) (bs : List Byte) (hk : State.Keeps z s) :
    State.Keeps z (State.winOpen s p w bs) := by
  unfold State.winOpen
  repeat' first
    | with_reducible assumption
    | with_reducible apply State.setWindow_keeps
    | with_reducible apply State.postCtx_keeps
    | fail_if_no_progress with_reducible apply State.Keeps.mk'
    | with_reducible apply State.Keeps.ite
    | with_reducible apply State.Keeps.foldl
    | with_reducible apply State.Keeps.foldlFst
    | with_reducible apply State.Keeps.foldlSnd
    | intro _

theorem State.winClose_keeps {z : State} (s : State) (p : Nat) (w : Nat) (hk : State.Keeps z s) :
    State.Keeps z (State.winClose s p w) := by
  unfold State.winClose
  repeat' first
    | with_reducible assumption
    | with_reducible apply State.setWindow_keeps
    | fail_if_no_progress with_reducible apply State.Keeps.mk'
    | with_reducible apply State.Keeps.ite

theorem State.fabRespond_keeps {z : State} (s : State) (a : WinAcc) (op : Nat) (flags : Nat) (status : Nat) (poison : Nat) (data : List Byte) (hk : State.Keeps z s) :
    State.Keeps z (State.fabRespond s a op flags status poison data) := by
  unfold State.fabRespond
  repeat' first
    | with_reducible assumption
    | with_reducible apply State.portSend_keeps
    | fail_if_no_progress with_reducible apply State.Keeps.mk'
    | with_reducible apply State.Keeps.ite
    | with_reducible apply State.Keeps.foldl
    | with_reducible apply State.Keeps.foldlFst
    | with_reducible apply State.Keeps.foldlSnd
    | intro _
    | split

theorem State.refusedAt_keeps {z : State} (s : State) (a : WinAcc) (pl : Nat) (cls : Nat) (code : Nat) (here : Bool) (hk : State.Keeps z s) :
    State.Keeps z (State.refusedAt s a pl cls code here) := by
  unfold State.refusedAt
  repeat' first
    | with_reducible assumption
    | with_reducible apply State.postCtx_keeps
    | fail_if_no_progress with_reducible apply State.Keeps.mk'
    | with_reducible apply State.Keeps.ite
    | with_reducible apply State.Keeps.foldl
    | with_reducible apply State.Keeps.foldlFst
    | with_reducible apply State.Keeps.foldlSnd
    | intro _
    | split
    | dsimp only

theorem State.winRefuse_keeps {z : State} (s : State) (q : Option Nat) (x : Window) (a : WinAcc) (cls : Nat) (code : Nat) (hk : State.Keeps z s) :
    State.Keeps z (State.winRefuse s q x a cls code) := by
  unfold State.winRefuse
  repeat' first
    | with_reducible assumption
    | with_reducible apply State.bump_keeps
    | with_reducible apply State.postCtx_keeps
    | with_reducible apply State.refusedAt_keeps
    | with_reducible apply State.winDone_keeps
    | with_reducible apply State.digestRefused_keeps
    | with_reducible apply State.fabRespond_keeps
    | fail_if_no_progress with_reducible apply State.Keeps.mk'
    | with_reducible apply State.Keeps.ite
    | with_reducible apply State.Keeps.foldl
    | with_reducible apply State.Keeps.foldlFst
    | with_reducible apply State.Keeps.foldlSnd
    | intro _
    | split
    | dsimp only

theorem State.pairRecord_keeps {z : State} (s : State) (a : WinAcc) (hk : State.Keeps z s) :
    State.Keeps z (State.pairRecord s a) := by
  unfold State.pairRecord
  repeat' first
    | with_reducible assumption
    | fail_if_no_progress with_reducible apply State.Keeps.mk'
    | with_reducible apply State.Keeps.ite
    | with_reducible apply State.Keeps.foldl
    | with_reducible apply State.Keeps.foldlFst
    | with_reducible apply State.Keeps.foldlSnd
    | intro _
    | split

theorem State.winReturn_keeps {z : State} (s : State) (a : WinAcc) (bs : List Byte) (mask : Nat) (hk : State.Keeps z s) :
    State.Keeps z (State.winReturn s a bs mask) := by
  unfold State.winReturn
  repeat' first
    | with_reducible assumption
    | with_reducible apply State.setCheck_keeps
    | with_reducible apply State.winDone_keeps
    | with_reducible apply State.poison_keeps
    | fail_if_no_progress with_reducible apply State.Keeps.mk'
    | with_reducible apply State.Keeps.ite
    | with_reducible apply State.Keeps.foldl
    | with_reducible apply State.Keeps.foldlFst
    | with_reducible apply State.Keeps.foldlSnd
    | intro _

theorem State.winPerform_keeps {z : State} (s : State) (q : Nat) (x : Window) (a : WinAcc) (hk : State.Keeps z s) :
    State.Keeps z (State.winPerform s q x a) := by
  unfold State.winPerform
  repeat' first
    | with_reducible assumption
    | with_reducible apply State.fabRespond_keeps
    | with_reducible apply State.pairRecord_keeps
    | with_reducible apply State.stallTr_keeps
    | with_reducible apply State.winReturn_keeps
    | with_reducible apply State.readRanges_keeps
    | with_reducible apply State.winRefuse_keeps
    | with_reducible apply State.store_keeps
    | with_reducible apply State.setWindow_keeps
    | with_reducible apply State.addCtrl_keeps
    | with_reducible apply State.postCtx_keeps
    | with_reducible apply State.winDone_keeps
    | with_reducible apply State.poison_keeps
    | fail_if_no_progress with_reducible apply State.Keeps.mk'
    | with_reducible apply State.Keeps.ite
    | with_reducible apply State.Keeps.foldl
    | with_reducible apply State.Keeps.foldlFst
    | with_reducible apply State.Keeps.foldlSnd
    | intro _
    | split
    | dsimp only

theorem State.winArrive_keeps {z : State} (s : State) (a : WinAcc) (hk : State.Keeps z s) :
    State.Keeps z (State.winArrive s a) := by
  unfold State.winArrive
  repeat' first
    | with_reducible assumption
    | with_reducible apply State.fabRespond_keeps
    | with_reducible apply State.bump_keeps
    | with_reducible apply State.winPerform_keeps
    | with_reducible apply State.winRefuse_keeps
    | with_reducible apply State.postCtx_keeps
    | with_reducible apply State.winDone_keeps
    | fail_if_no_progress with_reducible apply State.Keeps.mk'
    | with_reducible apply State.Keeps.ite
    | with_reducible apply State.Keeps.foldl
    | with_reducible apply State.Keeps.foldlFst
    | with_reducible apply State.Keeps.foldlSnd
    | intro _
    | split

theorem State.closeWindowsOf_keeps {z : State} (s : State) (ctx : Nat) (hk : State.Keeps z s) :
    State.Keeps z (State.closeWindowsOf s ctx) := by
  unfold State.closeWindowsOf
  repeat' first
    | with_reducible assumption
    | fail_if_no_progress with_reducible apply State.Keeps.mk'

theorem State.modPc_keeps {z : State} (s : State) (pc : Nat) (f : HbmPc → HbmPc) (hk : State.Keeps z s) :
    State.Keeps z (State.modPc s pc f) := by
  unfold State.modPc
  repeat' first
    | with_reducible assumption
    | fail_if_no_progress with_reducible apply State.Keeps.mk'

theorem State.setLink_keeps {z : State} (s : State) (k : Nat) (x : TrunkLink) (hk : State.Keeps z s) :
    State.Keeps z (State.setLink s k x) := by
  unfold State.setLink
  repeat' first
    | with_reducible assumption
    | fail_if_no_progress with_reducible apply State.Keeps.mk'

theorem State.scrubWord_keeps {z : State} (s : State) (pa : Nat) (hk : State.Keeps z s) :
    State.Keeps z (State.scrubWord s pa) := by
  unfold State.scrubWord
  repeat' first
    | with_reducible assumption
    | with_reducible apply State.readCheck_keeps
    | with_reducible apply State.bumpMem_keeps
    | with_reducible apply State.setCheck_keeps
    | with_reducible apply State.postDev_keeps
    | fail_if_no_progress with_reducible apply State.Keeps.mk'
    | with_reducible apply State.Keeps.ite
    | with_reducible apply State.Keeps.foldl
    | with_reducible apply State.Keeps.foldlFst
    | with_reducible apply State.Keeps.foldlSnd
    | intro _
    | split

theorem State.mmuInv_keeps {z : State} (s : State) (v : Nat) (hk : State.Keeps z s) :
    State.Keeps z (State.mmuInv s v) := by
  unfold State.mmuInv
  repeat' first
    | with_reducible assumption
    | with_reducible apply State.setFlag_keeps
    | fail_if_no_progress with_reducible apply State.Keeps.mk'

theorem State.unstall_keeps {z : State} (s : State) (c : Nat) (hk : State.Keeps z s) :
    State.Keeps z (State.unstall s c) := by
  unfold State.unstall
  repeat' first
    | with_reducible assumption
    | with_reducible apply State.markStalled_keeps
    | with_reducible apply State.modCtrl_keeps
    | fail_if_no_progress with_reducible apply State.Keeps.mk'
    | with_reducible apply State.Keeps.ite
    | with_reducible apply State.Keeps.foldl
    | with_reducible apply State.Keeps.foldlFst
    | with_reducible apply State.Keeps.foldlSnd
    | intro _

theorem State.takeRefused_keeps {z : State} (s : State) (c : Nat) (again : Bool) (hk : State.Keeps z s) :
    State.Keeps z (State.takeRefused s c again) := by
  unfold State.takeRefused
  repeat' first
    | with_reducible assumption
    | with_reducible apply State.setHport_keeps
    | with_reducible apply State.hostReq_keeps
    | fail_if_no_progress with_reducible apply State.Keeps.mk'
    | with_reducible apply State.Keeps.ite
    | with_reducible apply State.Keeps.foldl
    | with_reducible apply State.Keeps.foldlFst
    | with_reducible apply State.Keeps.foldlSnd
    | intro _
    | split
    | dsimp only

theorem State.resumeRetry_keeps {z : State} (s : State) (c : Nat) (hk : State.Keeps z s) :
    State.Keeps z (State.resumeRetry s c) := by
  unfold State.resumeRetry
  repeat' first
    | with_reducible assumption
    | with_reducible apply State.takeRefused_keeps
    | with_reducible apply State.ringRoom_keeps
    | with_reducible apply State.advanceQ_keeps
    | with_reducible apply State.unstall_keeps
    | with_reducible apply State.setRing_keeps
    | fail_if_no_progress with_reducible apply State.Keeps.mk'
    | with_reducible apply State.Keeps.ite
    | with_reducible apply State.Keeps.foldl
    | with_reducible apply State.Keeps.foldlFst
    | with_reducible apply State.Keeps.foldlSnd
    | intro _
    | intro _
    | split
    | dsimp only

theorem State.resumeAbort_keeps {z : State} (s : State) (c : Nat) (hk : State.Keeps z s) :
    State.Keeps z (State.resumeAbort s c) := by
  unfold State.resumeAbort
  repeat' first
    | with_reducible assumption
    | with_reducible apply State.takeRefused_keeps
    | with_reducible apply State.markStalled_keeps
    | with_reducible apply State.ctxFault_keeps
    | with_reducible apply State.setFlag_keeps
    | with_reducible apply State.bump_keeps
    | with_reducible apply State.unstall_keeps
    | with_reducible apply State.setRing_keeps
    | fail_if_no_progress with_reducible apply State.Keeps.mk'
    | with_reducible apply State.Keeps.ite
    | with_reducible apply State.Keeps.foldl
    | with_reducible apply State.Keeps.foldlFst
    | with_reducible apply State.Keeps.foldlSnd
    | intro _
    | split

theorem State.cmdDone_keeps {z : State} (s : State) (c : Nat) (index : Nat) (hk : State.Keeps z s) :
    State.Keeps z (State.cmdDone s c index) := by
  unfold State.cmdDone
  repeat' first
    | with_reducible assumption
    | with_reducible apply State.msix_keeps
    | with_reducible apply State.setCtx_keeps
    | fail_if_no_progress with_reducible apply State.Keeps.mk'
    | with_reducible apply State.Keeps.ite

end Sys2Proof.Machine
end

