-- ==== Sys2Proof/Laws/KeepE.lean ====
section
/-!
SUPPORT. What the shared operations of DispOps, Vector, Contexts, SvcOps, Setpoints, CtxOps, Host, Digest keep: one lemma each, the relation of Laws/Keep.
-/
namespace Sys2Proof.Machine

theorem State.retire_keeps {z : State} (s : State) (c : Nat) (n : Nat) (hk : State.Keeps z s) :
    State.Keeps z (State.retire s c n) := by
  induction n generalizing s with
  | zero => exact hk
  | succ n ih =>
    unfold State.retire
    repeat' first
      | with_reducible assumption
      | with_reducible apply ih
      | with_reducible apply State.setReg_keeps
      | with_reducible apply State.setCtx_keeps
      | fail_if_no_progress with_reducible apply State.Keeps.mk'
      | with_reducible apply State.Keeps.ite
      | with_reducible apply State.Keeps.foldl
      | with_reducible apply State.Keeps.foldlFst
      | with_reducible apply State.Keeps.foldlSnd
      | intro _
      | split
      | dsimp only

theorem State.retireAll_keeps {z : State} (s : State) (c : Nat) (hk : State.Keeps z s) :
    State.Keeps z (State.retireAll s c) := by
  unfold State.retireAll
  repeat' first
    | with_reducible assumption
    | with_reducible apply State.retire_keeps

theorem State.cmdFault_keeps {z : State} (s : State) (c : Nat) (code : Nat) (index : Nat) (tag : Nat) (va : Nat) (hk : State.Keeps z s) :
    State.Keeps z (State.cmdFault s c code index tag va) := by
  unfold State.cmdFault
  repeat' first
    | with_reducible assumption
    | with_reducible apply State.ctxFault_keeps
    | with_reducible apply State.postCtx_keeps

theorem State.chainUnattached_keeps {z : State} (s : State) (p : Nat) (hk : State.Keeps z s) :
    State.Keeps z (State.chainUnattached s p) := by
  unfold State.chainUnattached
  repeat' first
    | with_reducible assumption
    | with_reducible apply State.chainRefuse_keeps
    | fail_if_no_progress with_reducible apply State.Keeps.mk'
    | with_reducible apply State.Keeps.ite
    | with_reducible apply State.Keeps.foldl
    | with_reducible apply State.Keeps.foldlFst
    | with_reducible apply State.Keeps.foldlSnd
    | intro _
    | split
    | dsimp only

theorem State.chainStop_keeps {z : State} (s : State) (p : Nat) (r : ChainRun) (op : ChainOp) (hk : State.Keeps z s) :
    State.Keeps z (State.chainStop s p r op) := by
  unfold State.chainStop
  repeat' first
    | with_reducible assumption
    | with_reducible apply State.modArr_keeps
    | with_reducible apply State.drawn_keeps
    | with_reducible apply State.chainEnd_keeps
    | with_reducible apply State.chainBreak_keeps
    | with_reducible apply State.chainPerform_keeps
    | fail_if_no_progress with_reducible apply State.Keeps.mk'
    | with_reducible apply State.Keeps.ite
    | with_reducible apply State.Keeps.foldl
    | with_reducible apply State.Keeps.foldlFst
    | with_reducible apply State.Keeps.foldlSnd
    | intro _
    | split
    | dsimp only

theorem State.stopVec_keeps {z : State} (s : State) (p : Nat) (hk : State.Keeps z s) :
    State.Keeps z (State.stopVec s p) := by
  unfold State.stopVec
  repeat' first
    | with_reducible assumption
    | with_reducible apply State.chainUnattached_keeps
    | with_reducible apply State.chainStop_keeps
    | fail_if_no_progress with_reducible apply State.Keeps.mk'
    | with_reducible apply State.Keeps.ite
    | with_reducible apply State.Keeps.foldl
    | with_reducible apply State.Keeps.foldlFst
    | with_reducible apply State.Keeps.foldlSnd
    | intro _
    | split
    | dsimp only

theorem State.stopArray_keeps {z : State} (s : State) (p : Nat) (hk : State.Keeps z s) :
    State.Keeps z (State.stopArray s p) := by
  unfold State.stopArray
  repeat' first
    | with_reducible assumption
    | with_reducible apply State.stopVec_keeps
    | with_reducible apply State.modArr_keeps
    | with_reducible apply State.drainStores_keeps
    | with_reducible apply State.modCtrl_keeps
    | with_reducible apply State.chainFault_keeps
    | fail_if_no_progress with_reducible apply State.Keeps.mk'
    | with_reducible apply State.Keeps.ite
    | with_reducible apply State.Keeps.foldl
    | with_reducible apply State.Keeps.foldlFst
    | with_reducible apply State.Keeps.foldlSnd
    | intro _
    | split

theorem State.startSwitch_keeps {z : State} (s : State) (q : Nat) (out : Option Nat) (inc : Option Nat) (hk : State.Keeps z s) :
    State.Keeps z (State.startSwitch s q out inc) := by
  unfold State.startSwitch
  repeat' first
    | with_reducible assumption
    | with_reducible apply State.setPart_keeps
    | with_reducible apply State.setCtxState_keeps
    | with_reducible apply State.stopArray_keeps
    | with_reducible apply State.bump64_keeps
    | fail_if_no_progress with_reducible apply State.Keeps.mk'
    | with_reducible apply State.Keeps.ite
    | with_reducible apply State.Keeps.foldl
    | with_reducible apply State.Keeps.foldlFst
    | with_reducible apply State.Keeps.foldlSnd
    | intro _
    | split

theorem State.schedule_keeps {z : State} (s : State) (q : Nat) (hk : State.Keeps z s) :
    State.Keeps z (State.schedule s q) := by
  unfold State.schedule
  repeat' first
    | with_reducible assumption
    | with_reducible apply State.setPart_keeps
    | with_reducible apply State.setCtxState_keeps
    | with_reducible apply State.startSwitch_keeps
    | with_reducible apply State.modCtrl_keeps
    | fail_if_no_progress with_reducible apply State.Keeps.mk'
    | with_reducible apply State.Keeps.ite
    | with_reducible apply State.Keeps.foldl
    | with_reducible apply State.Keeps.foldlFst
    | with_reducible apply State.Keeps.foldlSnd
    | intro _
    | split
    | dsimp only

theorem State.dispatch_keeps {z : State} (s : State) (hk : State.Keeps z s) :
    State.Keeps z (State.dispatch s) := by
  unfold State.dispatch
  repeat' first
    | with_reducible assumption
    | with_reducible apply State.schedule_keeps
    | fail_if_no_progress with_reducible apply State.Keeps.mk'
    | with_reducible apply State.Keeps.ite
    | with_reducible apply State.Keeps.foldl

theorem State.copyRegion_keeps {z : State} (s : State) (src : Nat) (dst : Nat) (len : Nat) (pick : Nat → Bool) (hk : State.Keeps z s) :
    State.Keeps z (State.copyRegion s src dst len pick) :=
  ⟨hk.pending, hk.fuses, fun w => Memory.wf_foldSet _ _ (Memory.wf_filter _ _ (hk.mem w))⟩

theorem State.savePoison_keeps {z : State} (s : State) (c : Nat) (a : Nat) (hk : State.Keeps z s) :
    State.Keeps z (State.savePoison s c a) := by
  unfold State.savePoison
  repeat' first
    | with_reducible assumption
    | with_reducible apply State.ctxFault_keeps
    | with_reducible apply State.postCtx_keeps

theorem State.saveCounters_keeps {z : State} (s : State) (p : Nat) (hk : State.Keeps z s) :
    State.Keeps z (State.saveCounters s p) := by
  unfold State.saveCounters
  repeat' first
    | with_reducible assumption
    | with_reducible apply State.setArr_keeps
    | with_reducible apply State.setCtx_keeps
    | fail_if_no_progress with_reducible apply State.Keeps.mk'
    | with_reducible apply State.Keeps.ite
    | with_reducible apply State.Keeps.foldl
    | with_reducible apply State.Keeps.foldlFst
    | with_reducible apply State.Keeps.foldlSnd
    | intro _
    | split

theorem State.restoreCounters_keeps {z : State} (s : State) (p : Nat) (c : Nat) (hk : State.Keeps z s) :
    State.Keeps z (State.restoreCounters s p c) := by
  unfold State.restoreCounters
  repeat' first
    | with_reducible assumption
    | with_reducible apply State.modArr_keeps
    | with_reducible apply State.setCore_keeps
    | with_reducible apply State.setCtx_keeps
    | fail_if_no_progress with_reducible apply State.Keeps.mk'
    | with_reducible apply State.Keeps.ite
    | with_reducible apply State.Keeps.foldl
    | with_reducible apply State.Keeps.foldlFst
    | with_reducible apply State.Keeps.foldlSnd
    | intro _
    | split

theorem State.leaveState_keeps {z : State} (s : State) (c : Nat) (hk : State.Keeps z s) :
    State.Keeps z (State.leaveState s c) := by
  unfold State.leaveState
  repeat' first
    | with_reducible assumption
    | with_reducible apply State.setCtxState_keeps
    | fail_if_no_progress with_reducible apply State.Keeps.mk'
    | with_reducible apply State.Keeps.ite

theorem State.switchEnd_keeps {z : State} (s : State) (q : Nat) (hk : State.Keeps z s) :
    State.Keeps z (State.switchEnd s q) := by
  unfold State.switchEnd
  repeat' first
    | with_reducible assumption
    | with_reducible apply State.postCtx_keeps
    | with_reducible apply State.setPart_keeps
    | with_reducible apply State.setCtxState_keeps
    | with_reducible apply State.setFld_keeps
    | with_reducible apply State.leaveState_keeps
    | fail_if_no_progress with_reducible apply State.Keeps.mk'
    | with_reducible apply State.Keeps.ite
    | with_reducible apply State.Keeps.foldl
    | with_reducible apply State.Keeps.foldlFst
    | with_reducible apply State.Keeps.foldlSnd
    | intro _
    | split

theorem State.clearRegion_keeps {z : State} (s : State) (a : Nat) (len : Nat) (hk : State.Keeps z s) :
    State.Keeps z (State.clearRegion s a len) := by
  unfold State.clearRegion
  repeat' first
    | with_reducible assumption
    | with_reducible apply State.Keeps.filtered
    | fail_if_no_progress with_reducible apply State.Keeps.mk'
    | with_reducible apply State.Keeps.ite
    | with_reducible apply State.Keeps.foldl
    | with_reducible apply State.Keeps.foldlFst
    | with_reducible apply State.Keeps.foldlSnd
    | intro _
    | split
    | dsimp only

theorem State.saveCores_keeps {z : State} (s : State) (a : Nat) (n : Nat) (hk : State.Keeps z s) :
    State.Keeps z (State.saveCores s a n) := by
  unfold State.saveCores
  repeat' first
    | with_reducible assumption
    | with_reducible apply State.drawn_keeps
    | with_reducible apply State.wrBytes_keeps
    | with_reducible apply State.clearRegion_keeps
    | fail_if_no_progress with_reducible apply State.Keeps.mk'
    | with_reducible apply State.Keeps.ite
    | with_reducible apply State.Keeps.foldl
    | with_reducible apply State.Keeps.foldlFst
    | with_reducible apply State.Keeps.foldlSnd
    | intro _
    | split
    | dsimp only

theorem State.saveArray_keeps {z : State} (s : State) (q : Nat) (p : Nat) (c : Nat) (hk : State.Keeps z s) :
    State.Keeps z (State.saveArray s q p c) := by
  unfold State.saveArray
  repeat' first
    | with_reducible assumption
    | with_reducible apply State.saveCores_keeps
    | with_reducible apply State.setArr_keeps
    | with_reducible apply State.saveCounters_keeps
    | with_reducible apply State.setFld_keeps
    | with_reducible apply State.copyRegion_keeps
    | with_reducible apply State.setCtx_keeps
    | with_reducible apply State.savePoison_keeps
    | fail_if_no_progress with_reducible apply State.Keeps.mk'
    | with_reducible apply State.Keeps.ite
    | with_reducible apply State.Keeps.foldl
    | with_reducible apply State.Keeps.foldlFst
    | with_reducible apply State.Keeps.foldlSnd
    | intro _
    | intro _
    | split
    | dsimp only

theorem State.restoreArray_keeps {z : State} (s : State) (p : Nat) (c : Nat) (hk : State.Keeps z s) :
    State.Keeps z (State.restoreArray s p c) := by
  unfold State.restoreArray
  repeat' first
    | with_reducible assumption
    | with_reducible apply State.setArr_keeps
    | with_reducible apply State.markStalled_keeps
    | with_reducible apply State.restoreCounters_keeps
    | with_reducible apply State.saveCounters_keeps
    | with_reducible apply State.setFld_keeps
    | with_reducible apply State.copyRegion_keeps
    | with_reducible apply State.advanceQ_keeps
    | with_reducible apply State.setCtx_keeps
    | with_reducible apply State.savePoison_keeps
    | fail_if_no_progress with_reducible apply State.Keeps.mk'
    | with_reducible apply State.Keeps.ite
    | with_reducible apply State.Keeps.foldl
    | with_reducible apply State.Keeps.foldlFst
    | with_reducible apply State.Keeps.foldlSnd
    | intro _
    | split

theorem State.ctxEnable_keeps {z : State} (s : State) (c : Nat) (hk : State.Keeps z s) :
    State.Keeps z (State.ctxEnable s c) := by
  unfold State.ctxEnable
  repeat' first
    | with_reducible assumption
    | with_reducible apply State.setFlag_keeps
    | with_reducible apply State.setCtxState_keeps
    | with_reducible apply State.postDev_keeps
    | fail_if_no_progress with_reducible apply State.Keeps.mk'
    | with_reducible apply State.Keeps.ite
    | with_reducible apply State.Keeps.foldl
    | with_reducible apply State.Keeps.foldlFst
    | with_reducible apply State.Keeps.foldlSnd
    | intro _
    | split

theorem State.ctxStop_keeps {z : State} (s : State) (c : Nat) (hk : State.Keeps z s) :
    State.Keeps z (State.ctxStop s c) := by
  unfold State.ctxStop
  repeat' first
    | with_reducible assumption
    | with_reducible apply State.modArr_keeps
    | with_reducible apply State.setFld_keeps
    | with_reducible apply State.stopRun_keeps
    | fail_if_no_progress with_reducible apply State.Keeps.mk'
    | with_reducible apply State.Keeps.ite
    | with_reducible apply State.Keeps.foldl
    | with_reducible apply State.Keeps.foldlFst
    | with_reducible apply State.Keeps.foldlSnd
    | intro _

theorem State.ctxReset_keeps {z : State} (s : State) (c : Nat) (hk : State.Keeps z s) :
    State.Keeps z (State.ctxReset s c) := by
  unfold State.ctxReset
  repeat' first
    | with_reducible assumption
    | with_reducible apply State.setCtxState_keeps
    | with_reducible apply State.ctxStop_keeps
    | with_reducible apply State.setCtx_keeps
    | fail_if_no_progress with_reducible apply State.Keeps.mk'
    | with_reducible apply State.Keeps.ite
    | with_reducible apply State.Keeps.foldl
    | with_reducible apply State.Keeps.foldlFst
    | with_reducible apply State.Keeps.foldlSnd
    | intro _

theorem State.abandon_keeps {z : State} (s : State) (c : Nat) (hk : State.Keeps z s) :
    State.Keeps z (State.abandon s c) := by
  unfold State.abandon
  repeat' first
    | with_reducible assumption
    | with_reducible apply State.setFlag_keeps
    | with_reducible apply State.bump_keeps
    | with_reducible apply State.switchEnd_keeps
    | with_reducible apply State.setPart_keeps
    | with_reducible apply State.modArr_keeps
    | fail_if_no_progress with_reducible apply State.Keeps.mk'
    | with_reducible apply State.Keeps.ite
    | with_reducible apply State.Keeps.foldl
    | with_reducible apply State.Keeps.foldlFst
    | with_reducible apply State.Keeps.foldlSnd
    | intro _

theorem State.residueCheck_keeps {z : State} (s : State) (c : Nat) (hk : State.Keeps z s) :
    State.Keeps z (State.residueCheck s c) := by
  unfold State.residueCheck
  repeat' first
    | with_reducible assumption
    | with_reducible apply State.bump_keeps
    | with_reducible apply State.saveCounters_keeps
    | with_reducible apply State.postCtx_keeps
    | with_reducible apply State.setCtx_keeps
    | fail_if_no_progress with_reducible apply State.Keeps.mk'
    | with_reducible apply State.Keeps.ite
    | with_reducible apply State.Keeps.foldl
    | with_reducible apply State.Keeps.foldlFst
    | with_reducible apply State.Keeps.foldlSnd
    | intro _
    | split

theorem State.ctxResetEnd_keeps {z : State} (s : State) (c : Nat) (hk : State.Keeps z s) :
    State.Keeps z (State.ctxResetEnd s c) := by
  unfold State.ctxResetEnd
  repeat' first
    | with_reducible assumption
    | with_reducible apply State.markStalled_keeps
    | with_reducible apply State.setReg_keeps
    | with_reducible apply State.setFlag_keeps
    | with_reducible apply State.closeWindowsOf_keeps
    | with_reducible apply State.setReg64_keeps
    | with_reducible apply State.setCtxState_keeps
    | with_reducible apply State.setFld_keeps
    | with_reducible apply State.postCtx_keeps
    | with_reducible apply State.residueCheck_keeps
    | with_reducible apply State.setCtx_keeps
    | fail_if_no_progress with_reducible apply State.Keeps.mk'
    | with_reducible apply State.Keeps.ite
    | with_reducible apply State.Keeps.foldl
    | with_reducible apply State.Keeps.foldlFst
    | with_reducible apply State.Keeps.foldlSnd
    | intro _

theorem ctxCtl_keeps (c : Nat) : RegEffect.Keeps (ctxCtl c) := by
  intro z s req a b hk
  unfold ctxCtl
  dsimp only [RegEffect.plain]
  repeat' first
    | with_reducible assumption
    | with_reducible refine RegEffect.Keeps.act (RegEffect.plain_keeps ) ?_
    | with_reducible apply State.ctxEnable_keeps
    | with_reducible apply State.ctxReset_keeps
    | with_reducible apply State.dispatch_keeps
    | fail_if_no_progress with_reducible apply State.Keeps.mk'
    | with_reducible apply State.Keeps.ite
    | with_reducible apply State.Keeps.foldl
    | with_reducible apply State.Keeps.foldlFst
    | with_reducible apply State.Keeps.foldlSnd
    | intro _

theorem cpCtl_keeps (c : Nat) : RegEffect.Keeps (cpCtl c) := by
  intro z s req a b hk
  unfold cpCtl
  dsimp only [RegEffect.plain]
  repeat' first
    | with_reducible assumption
    | with_reducible refine RegEffect.Keeps.act (RegEffect.plain_keeps ) ?_
    | with_reducible apply State.ctxReset_keeps
    | with_reducible apply State.dispatch_keeps
    | fail_if_no_progress with_reducible apply State.Keeps.mk'
    | with_reducible apply State.Keeps.ite
    | with_reducible apply State.Keeps.foldl
    | with_reducible apply State.Keeps.foldlFst
    | with_reducible apply State.Keeps.foldlSnd
    | intro _

theorem bindingReg_keeps (c : Nat) : RegEffect.Keeps (bindingReg c) := by
  intro z s req a b hk
  unfold bindingReg
  dsimp only [RegEffect.plain]
  repeat' first
    | with_reducible assumption

theorem bwMinReg_keeps (c : Nat) : RegEffect.Keeps (bwMinReg c) := by
  intro z s req a b hk
  unfold bwMinReg
  dsimp only [RegEffect.plain]
  repeat' first
    | with_reducible assumption

theorem chkRingReg_keeps (c : Nat) : RegEffect.Keeps (chkRingReg c) := by
  intro z s req a b hk
  unfold chkRingReg
  dsimp only [RegEffect.plain]
  repeat' first
    | with_reducible assumption

theorem doorbellReg_keeps (c : Nat) : RegEffect.Keeps (doorbellReg c) := by
  intro z s req a b hk
  unfold doorbellReg
  dsimp only [RegEffect.plain]
  repeat' first
    | with_reducible assumption
    | with_reducible refine RegEffect.Keeps.act (RegEffect.plain_keeps ) ?_
    | with_reducible apply State.dispatch_keeps
    | with_reducible apply State.postCtx_keeps
    | with_reducible apply State.setCtx_keeps
    | fail_if_no_progress with_reducible apply State.Keeps.mk'
    | with_reducible apply State.Keeps.ite
    | with_reducible apply State.Keeps.foldl
    | with_reducible apply State.Keeps.foldlFst
    | with_reducible apply State.Keeps.foldlSnd
    | intro _

theorem State.unboundDrop_keeps {z : State} (s : State) (h : Nat) (fn : Nat) (addr : Nat) (hk : State.Keeps z s) :
    State.Keeps z (State.unboundDrop s h fn addr) := by
  unfold State.unboundDrop
  repeat' first
    | with_reducible assumption
    | with_reducible apply State.bump_keeps
    | with_reducible apply State.msixRaise_keeps
    | with_reducible apply State.postDev_keeps

theorem State.cmdCrossing_keeps {z : State} (s : State) (c : Nat) (hk : State.Keeps z s) :
    State.Keeps z (State.cmdCrossing s c) := by
  unfold State.cmdCrossing
  repeat' first
    | with_reducible assumption
    | with_reducible apply State.setFlag_keeps
    | with_reducible apply State.bump_keeps
    | with_reducible apply State.setRing_keeps
    | with_reducible apply State.ringPost_keeps
    | fail_if_no_progress with_reducible apply State.Keeps.mk'
    | with_reducible apply State.Keeps.ite
    | with_reducible apply State.Keeps.foldl
    | with_reducible apply State.Keeps.foldlFst
    | with_reducible apply State.Keeps.foldlSnd
    | intro _

theorem State.dspStall_keeps {z : State} (s : State) (c : Nat) (va : Nat) (code : Nat) (index : Nat) (k : AccKind) (hk : State.Keeps z s) :
    State.Keeps z (State.dspStall s c va code index k) := by
  unfold State.dspStall
  repeat' first
    | with_reducible assumption
    | with_reducible apply State.markStalled_keeps
    | with_reducible apply State.postCtx_keeps
    | fail_if_no_progress with_reducible apply State.Keeps.mk'

theorem State.cmdEnd_keeps {z : State} (s : State) (c : Nat) (index : Nat) (hk : State.Keeps z s) :
    State.Keeps z (State.cmdEnd s c index) := by
  unfold State.cmdEnd
  repeat' first
    | with_reducible assumption
    | with_reducible apply State.retireAll_keeps
    | with_reducible apply State.cmdDone_keeps
    | with_reducible apply State.dispatch_keeps

theorem partCtl_keeps (q : Nat) : RegEffect.Keeps (partCtl q) := by
  intro z s req a b hk
  unfold partCtl
  dsimp only [RegEffect.plain]
  repeat' first
    | with_reducible assumption
    | with_reducible apply State.setReg_keeps
    | with_reducible refine RegEffect.Keeps.act (RegEffect.plain_keeps ) ?_
    | with_reducible apply State.setPart_keeps
    | with_reducible apply State.setFld_keeps
    | with_reducible apply State.postDev_keeps
    | fail_if_no_progress with_reducible apply State.Keeps.mk'
    | with_reducible apply State.Keeps.ite
    | with_reducible apply State.Keeps.foldl
    | with_reducible apply State.Keeps.foldlFst
    | with_reducible apply State.Keeps.foldlSnd
    | intro _

theorem evtRdReg_keeps (k : Nat) : RegEffect.Keeps (evtRdReg k) := by
  intro z s req a b hk
  unfold evtRdReg
  dsimp only [RegEffect.plain]
  repeat' first
    | with_reducible assumption
    | with_reducible refine RegEffect.Keeps.act (RegEffect.plain_keeps ) ?_
    | with_reducible apply State.ringRoom_keeps
    | with_reducible apply State.dispatch_keeps

theorem evtStatusReg_keeps (k : Nat) : RegEffect.Keeps (evtStatusReg k) := by
  intro z s req a b hk
  unfold evtStatusReg
  dsimp only [RegEffect.plain]
  repeat' first
    | with_reducible assumption
    | with_reducible refine RegEffect.Keeps.act (RegEffect.plain_keeps ) ?_
    | with_reducible apply State.setFld_keeps
    | fail_if_no_progress with_reducible apply State.Keeps.mk'
    | with_reducible apply State.Keeps.ite

theorem State.setSkips_keeps {z : State} (s : State) (p : Nat) (row : Nat) (skips : Nat) (hk : State.Keeps z s) :
    State.Keeps z (State.setSkips s p row skips) := by
  unfold State.setSkips
  repeat' first
    | with_reducible assumption
    | fail_if_no_progress with_reducible apply State.Keeps.mk'

theorem State.setK_keeps {z : State} (s : State) (p : Nat) (strip : Nat) (k : Nat) (hk : State.Keeps z s) :
    State.Keeps z (State.setK s p strip k) := by
  unfold State.setK
  repeat' first
    | with_reducible assumption
    | fail_if_no_progress with_reducible apply State.Keeps.mk'

theorem State.setMap_keeps {z : State} (s : State) (n : Nat) (p : Option Nat) (hk : State.Keeps z s) :
    State.Keeps z (State.setMap s n p) := by
  unfold State.setMap
  repeat' first
    | with_reducible assumption
    | with_reducible apply State.setReg_keeps
    | with_reducible apply State.setFld_keeps

theorem State.arrayGen_keeps {z : State} (s : State) (p : Nat) (hk : State.Keeps z s) :
    State.Keeps z (State.arrayGen s p) := by
  unfold State.arrayGen
  repeat' first
    | with_reducible assumption
    | with_reducible apply State.setFld_keeps

theorem State.showSpares_keeps {z : State} (s : State) (hk : State.Keeps z s) :
    State.Keeps z (State.showSpares s) := by
  unfold State.showSpares
  repeat' first
    | with_reducible assumption
    | with_reducible apply State.setFlag_keeps
    | fail_if_no_progress with_reducible apply State.Keeps.mk'
    | with_reducible apply State.Keeps.ite
    | with_reducible apply State.Keeps.foldl
    | with_reducible apply State.Keeps.foldlFst
    | with_reducible apply State.Keeps.foldlSnd
    | intro _

theorem State.setDom_keeps {z : State} (s : State) (d : Nat) (x : Nat) (hk : State.Keeps z s) :
    State.Keeps z (State.setDom s d x) := by
  unfold State.setDom
  repeat' first
    | with_reducible assumption
    | with_reducible apply State.setFld_keeps

theorem State.retain_keeps {z : State} (s : State) (p : Nat) (hk : State.Keeps z s) :
    State.Keeps z (State.retain s p) := by
  unfold State.retain
  repeat' first
    | with_reducible assumption
    | with_reducible apply State.setFlag_keeps
    | with_reducible apply State.setFld_keeps
    | with_reducible apply State.setDom_keeps
    | fail_if_no_progress with_reducible apply State.Keeps.mk'
    | with_reducible apply State.Keeps.ite
    | with_reducible apply State.Keeps.foldl
    | with_reducible apply State.Keeps.foldlFst
    | with_reducible apply State.Keeps.foldlSnd
    | intro _

theorem State.setStrips_keeps {z : State} (s : State) (p : Nat) (code : Nat) (hk : State.Keeps z s) :
    State.Keeps z (State.setStrips s p code) := by
  unfold State.setStrips
  repeat' first
    | with_reducible assumption
    | with_reducible apply State.setFld_keeps
    | fail_if_no_progress with_reducible apply State.Keeps.mk'
    | with_reducible apply State.Keeps.ite
    | with_reducible apply State.Keeps.foldl
    | with_reducible apply State.Keeps.foldlFst
    | with_reducible apply State.Keeps.foldlSnd
    | intro _

theorem State.wake_keeps {z : State} (s : State) (p : Nat) (hk : State.Keeps z s) :
    State.Keeps z (State.wake s p) := by
  unfold State.wake
  repeat' first
    | with_reducible assumption
    | with_reducible apply State.setFld_keeps
    | with_reducible apply State.setFlag_keeps
    | with_reducible apply State.setDom_keeps
    | with_reducible apply State.setStrips_keeps
    | fail_if_no_progress with_reducible apply State.Keeps.mk'
    | with_reducible apply State.Keeps.ite
    | with_reducible apply State.Keeps.foldl
    | with_reducible apply State.Keeps.foldlFst
    | with_reducible apply State.Keeps.foldlSnd
    | intro _
    | intro _
    | split
    | dsimp only

theorem State.zeroArray_keeps {z : State} (s : State) (n : Nat) (keep : Nat → Bool) (hk : State.Keeps z s) :
    State.Keeps z (State.zeroArray s n keep) :=
  ⟨hk.pending, hk.fuses, fun w => Memory.wf_filter _ _ (hk.mem w)⟩

theorem State.clearCores_keeps {z : State} (s : State) (n : Nat) (counters : Bool) (hk : State.Keeps z s) :
    State.Keeps z (State.clearCores s n counters) := by
  unfold State.clearCores
  repeat' first
    | with_reducible assumption
    | fail_if_no_progress with_reducible apply State.Keeps.mk'

theorem State.switchMap_keeps {z : State} (s : State) (r : Remap) (hk : State.Keeps z s) :
    State.Keeps z (State.switchMap s r) := by
  unfold State.switchMap
  repeat' first
    | with_reducible assumption
    | with_reducible apply State.clearCores_keeps
    | with_reducible apply State.zeroArray_keeps
    | with_reducible apply State.readCheck_keeps
    | with_reducible apply State.setArr_keeps
    | with_reducible apply State.lifeCount_keeps
    | with_reducible apply State.setMap_keeps
    | with_reducible apply State.showSpares_keeps
    | with_reducible apply State.brpEvent_keeps
    | fail_if_no_progress with_reducible apply State.Keeps.mk'
    | with_reducible apply State.Keeps.ite
    | with_reducible apply State.Keeps.foldl
    | with_reducible apply State.Keeps.foldlFst
    | with_reducible apply State.Keeps.foldlSnd
    | intro _
    | split
    | dsimp only

theorem State.dropReplays_keeps {z : State} (s : State) (p : Nat) (hk : State.Keeps z s) :
    State.Keeps z (State.dropReplays s p) := by
  unfold State.dropReplays
  repeat' first
    | with_reducible assumption
    | with_reducible apply State.modArr_keeps
    | fail_if_no_progress with_reducible apply State.Keeps.mk'
    | with_reducible apply State.Keeps.ite
    | with_reducible apply State.Keeps.foldl
    | with_reducible apply State.Keeps.foldlFst
    | with_reducible apply State.Keeps.foldlSnd
    | intro _
    | split
    | dsimp only

theorem State.faultArr_keeps {z : State} (s : State) (p : Nat) (hk : State.Keeps z s) :
    State.Keeps z (State.faultArr s p) := by
  unfold State.faultArr
  repeat' first
    | with_reducible assumption
    | with_reducible apply State.setOcc_keeps
    | with_reducible apply State.modArr_keeps
    | with_reducible apply State.dropReplays_keeps
    | fail_if_no_progress with_reducible apply State.Keeps.mk'
    | with_reducible apply State.Keeps.ite
    | with_reducible apply State.Keeps.foldl
    | with_reducible apply State.Keeps.foldlFst
    | with_reducible apply State.Keeps.foldlSnd
    | intro _
    | split
    | dsimp only

theorem State.stopAll_keeps {z : State} (s : State) (hk : State.Keeps z s) :
    State.Keeps z (State.stopAll s) := by
  unfold State.stopAll
  repeat' first
    | with_reducible assumption
    | with_reducible apply State.faultArr_keeps
    | with_reducible apply State.modArr_keeps
    | fail_if_no_progress with_reducible apply State.Keeps.mk'
    | with_reducible apply State.Keeps.ite
    | with_reducible apply State.Keeps.foldl
    | with_reducible apply State.Keeps.foldlFst
    | with_reducible apply State.Keeps.foldlSnd
    | intro _
    | intro _
    | split
    | dsimp only

theorem State.domEvent_keeps {z : State} (s : State) (code : Nat) (sev : Nat) (d : Nat) (b19 : Nat) (mv : Nat) (ma : Nat) (ary : Nat) (spare : Nat) (hk : State.Keeps z s) :
    State.Keeps z (State.domEvent s code sev d b19 mv ma ary spare) := by
  unfold State.domEvent
  repeat' first
    | with_reducible assumption
    | with_reducible apply State.postDev_keeps

theorem State.inputEvent_keeps {z : State} (s : State) (code : Nat) (sev : Nat) (mod : Nat) (b19 : Nat) (v20 : Nat) (v24 : Nat) (before : Nat) (after : Nat) (peer : Nat) (hk : State.Keeps z s) :
    State.Keeps z (State.inputEvent s code sev mod b19 v20 v24 before after peer) := by
  unfold State.inputEvent
  repeat' first
    | with_reducible assumption
    | with_reducible apply State.postDev_keeps

theorem State.capUpdate_keeps {z : State} (s : State) (hk : State.Keeps z s) :
    State.Keeps z (State.capUpdate s) := by
  unfold State.capUpdate
  repeat' first
    | with_reducible assumption
    | with_reducible apply State.setReg_keeps
    | with_reducible apply State.inputEvent_keeps
    | with_reducible apply State.setFld_keeps
    | fail_if_no_progress with_reducible apply State.Keeps.mk'
    | with_reducible apply State.Keeps.ite
    | with_reducible apply State.Keeps.foldl
    | with_reducible apply State.Keeps.foldlFst
    | with_reducible apply State.Keeps.foldlSnd
    | intro _

theorem State.coldReset_keeps {z : State} (s : State) (hk : State.Keeps z s) : State.Keeps z (State.coldReset s) := by
  unfold State.coldReset
  dsimp only
  apply State.setFlag_keeps
  split
  · apply State.ownerEntry_keeps
    exact ⟨hk.pending, hk.fuses, fun w => Memory.wf_filter _ _ (hk.mem w)⟩
  · exact ⟨hk.pending, hk.fuses, fun w => Memory.wf_filter _ _ (hk.mem w)⟩

theorem State.stageZero_keeps {z : State} (s : State) (slotId : Nat) (recov : Bool) (hk : State.Keeps z s) :
    State.Keeps z (State.stageZero s slotId recov) := by
  unfold State.stageZero
  repeat' first
    | with_reducible assumption
    | with_reducible apply State.showBoot_keeps
    | with_reducible apply State.setFld_keeps
    | with_reducible apply State.brpEvent_keeps
    | with_reducible apply State.lifeCount_keeps
    | with_reducible apply State.drawn_keeps
    | fail_if_no_progress with_reducible apply State.Keeps.mk'
    | with_reducible apply State.Keeps.ite

theorem State.hostEvent_keeps {z : State} (s : State) (h : Nat) (code : Nat) (sev : Nat) (fn : Nat) (addr : Nat) (count : Nat) (hk : State.Keeps z s) :
    State.Keeps z (State.hostEvent s h code sev fn addr count) := by
  unfold State.hostEvent
  repeat' first
    | with_reducible assumption
    | with_reducible apply State.msixRaise_keeps
    | with_reducible apply State.postDev_keeps

theorem State.showVfs_keeps {z : State} (s : State) (h : Nat) (hk : State.Keeps z s) :
    State.Keeps z (State.showVfs s h) := by
  unfold State.showVfs
  repeat' first
    | with_reducible assumption
    | with_reducible apply State.setFld_keeps

theorem State.hostPortReset_keeps {z : State} (s : State) (h : Nat) (released : Option Nat) (budget : Option Nat) (hk : State.Keeps z s) :
    State.Keeps z (State.hostPortReset s h released budget) := by
  unfold State.hostPortReset
  repeat' first
    | with_reducible assumption
    | with_reducible apply State.bump_keeps
    | with_reducible apply State.setHport_keeps
    | with_reducible apply State.setFld_keeps
    | with_reducible apply State.hostEvent_keeps
    | with_reducible apply State.lifeCount_keeps
    | fail_if_no_progress with_reducible apply State.Keeps.mk'
    | with_reducible apply State.Keeps.ite
    | with_reducible apply State.Keeps.foldl
    | with_reducible apply State.Keeps.foldlFst
    | with_reducible apply State.Keeps.foldlSnd
    | intro _

theorem State.hostPortFaults_keeps {z : State} (s : State) (h : Nat) (hk : State.Keeps z s) :
    State.Keeps z (State.hostPortFaults s h) := by
  unfold State.hostPortFaults
  repeat' first
    | with_reducible assumption
    | with_reducible apply State.ctxFault_keeps
    | with_reducible apply State.ownerEnds_keeps
    | fail_if_no_progress with_reducible apply State.Keeps.mk'
    | with_reducible apply State.Keeps.ite
    | with_reducible apply State.Keeps.foldl
    | with_reducible apply State.Keeps.foldlFst
    | with_reducible apply State.Keeps.foldlSnd
    | intro _

theorem State.functionReset_keeps {z : State} (s : State) (h : Nat) (fn : Nat) (hk : State.Keeps z s) :
    State.Keeps z (State.functionReset s h fn) := by
  unfold State.functionReset
  repeat' first
    | with_reducible assumption
    | with_reducible apply State.setHport_keeps
    | fail_if_no_progress with_reducible apply State.Keeps.mk'

theorem State.vfFlr_keeps {z : State} (s : State) (h : Nat) (fn : Nat) (hk : State.Keeps z s) :
    State.Keeps z (State.vfFlr s h fn) := by
  unfold State.vfFlr
  repeat' first
    | with_reducible assumption
    | with_reducible apply State.hostEvent_keeps
    | with_reducible apply State.ctxReset_keeps
    | with_reducible apply State.dispatch_keeps
    | with_reducible apply State.functionReset_keeps
    | fail_if_no_progress with_reducible apply State.Keeps.mk'
    | with_reducible apply State.Keeps.ite
    | with_reducible apply State.Keeps.foldl

theorem State.pfFlr_keeps {z : State} (s : State) (h : Nat) (hk : State.Keeps z s) :
    State.Keeps z (State.pfFlr s h) := by
  unfold State.pfFlr
  repeat' first
    | with_reducible assumption
    | with_reducible apply State.setHport_keeps
    | with_reducible apply State.showVfs_keeps
    | with_reducible apply State.hostEvent_keeps
    | with_reducible apply State.ctxReset_keeps
    | with_reducible apply State.dispatch_keeps
    | with_reducible apply State.ownerEnds_keeps
    | fail_if_no_progress with_reducible apply State.Keeps.mk'
    | with_reducible apply State.Keeps.ite
    | with_reducible apply State.Keeps.foldl

theorem State.hostFlush_keeps {z : State} (s : State) (h : Nat) (fn : Nat) (hk : State.Keeps z s) :
    State.Keeps z (State.hostFlush s h fn) := by
  unfold State.hostFlush
  repeat' first
    | with_reducible assumption
    | with_reducible apply State.hostReq_keeps
    | with_reducible apply State.setHport_keeps
    | with_reducible apply State.emit_keeps
    | fail_if_no_progress with_reducible apply State.Keeps.mk'
    | with_reducible apply State.Keeps.ite
    | with_reducible apply State.Keeps.foldl
    | with_reducible apply State.Keeps.foldlFst
    | with_reducible apply State.Keeps.foldlSnd
    | intro _
    | intro _
    | split
    | dsimp only

theorem State.msixFlush_keeps {z : State} (s : State) (h : Nat) (fn : Nat) (hk : State.Keeps z s) :
    State.Keeps z (State.msixFlush s h fn) := by
  unfold State.msixFlush
  repeat' first
    | with_reducible assumption
    | with_reducible apply State.setHport_keeps
    | with_reducible apply State.msixRaise_keeps
    | fail_if_no_progress with_reducible apply State.Keeps.mk'
    | with_reducible apply State.Keeps.ite
    | with_reducible apply State.Keeps.foldl
    | with_reducible apply State.Keeps.foldlFst
    | with_reducible apply State.Keeps.foldlSnd
    | intro _

theorem State.cfgWrite_keeps {z : State} (s : State) (h : Nat) (fn : Nat) (item : CfgItem) (v : Nat) (hk : State.Keeps z s) :
    State.Keeps z (State.cfgWrite s h fn item v) := by
  unfold State.cfgWrite
  repeat' first
    | with_reducible assumption
    | with_reducible apply State.setHport_keeps
    | with_reducible apply State.hostFlush_keeps
    | with_reducible apply State.vfFlr_keeps
    | with_reducible apply State.showVfs_keeps
    | with_reducible apply State.pfFlr_keeps
    | with_reducible apply State.msixFlush_keeps
    | fail_if_no_progress with_reducible apply State.Keeps.mk'
    | with_reducible apply State.Keeps.ite
    | with_reducible apply State.Keeps.foldl
    | with_reducible apply State.Keeps.foldlFst
    | with_reducible apply State.Keeps.foldlSnd
    | intro _
    | split

theorem State.poisonedTlp_keeps {z : State} (s : State) (h : Nat) (a : Nat) (ctx : Option Nat) (hk : State.Keeps z s) :
    State.Keeps z (State.poisonedTlp s h a ctx) := by
  unfold State.poisonedTlp
  repeat' first
    | with_reducible assumption
    | with_reducible apply State.post_keeps
    | with_reducible apply State.bump_keeps
    | with_reducible apply State.lifeCount_keeps

theorem vfBudgetReg_keeps (h : Nat) : RegEffect.Keeps (vfBudgetReg h) := by
  intro z s req a b hk
  unfold vfBudgetReg
  dsimp only [RegEffect.plain]
  repeat' first
    | with_reducible assumption

theorem State.setSteps_keeps {z : State} (s : State) (c : Nat) (x : StepState) (hk : State.Keeps z s) :
    State.Keeps z (State.setSteps s c x) := by
  unfold State.setSteps
  repeat' first
    | with_reducible assumption
    | fail_if_no_progress with_reducible apply State.Keeps.mk'

theorem State.modCtrlOf_keeps {z : State} (s : State) (c : Nat) (rank : Nat) (f : Ctrl → Ctrl) (hk : State.Keeps z s) :
    State.Keeps z (State.modCtrlOf s c rank f) := by
  unfold State.modCtrlOf
  repeat' first
    | with_reducible assumption
    | with_reducible apply State.setCtx_keeps
    | with_reducible apply State.modCtrl_keeps
    | fail_if_no_progress with_reducible apply State.Keeps.mk'
    | with_reducible apply State.Keeps.ite
    | with_reducible apply State.Keeps.foldl
    | with_reducible apply State.Keeps.foldlFst
    | with_reducible apply State.Keeps.foldlSnd
    | intro _
    | split

end Sys2Proof.Machine
end

