-- ==== Sys2Proof/Laws/KeepF.lean ====
section
/-!
SUPPORT. What the shared operations of Digest, Fabric, Reset, Power, Thermal, Manage keep: one lemma each, the relation of Laws/Keep.
-/
namespace Sys2Proof.Machine

theorem State.sendRecords_keeps {z : State} (s : State) (c : Nat) (o : OwnStep) (hk : State.Keeps z s) :
    State.Keeps z (State.sendRecords s c o) := by
  unfold State.sendRecords
  repeat' first
    | with_reducible assumption
    | with_reducible apply State.sendWindow_keeps
    | fail_if_no_progress with_reducible apply State.Keeps.mk'
    | with_reducible apply State.Keeps.ite
    | with_reducible apply State.Keeps.foldl
    | with_reducible apply State.Keeps.foldlFst
    | with_reducible apply State.Keeps.foldlSnd
    | intro _

theorem State.showUnagreed_keeps {z : State} (s : State) (c : Nat) (hk : State.Keeps z s) :
    State.Keeps z (State.showUnagreed s c) := by
  unfold State.showUnagreed
  repeat' first
    | with_reducible assumption
    | with_reducible apply State.setFld_keeps

theorem State.agree_keeps {z : State} (s : State) (c : Nat) (n : Nat) (hk : State.Keeps z s) :
    State.Keeps z (State.agree s c n) := by
  induction n generalizing s with
  | zero => exact hk
  | succ n ih =>
    unfold State.agree
    repeat' first
      | with_reducible assumption
      | with_reducible apply ih
      | with_reducible apply State.retireAll_keeps
      | with_reducible apply State.showUnagreed_keeps
      | with_reducible apply State.fabPump_keeps
      | with_reducible apply State.postCtx_keeps
      | with_reducible apply State.setSteps_keeps
      | with_reducible apply State.setFlag_keeps
      | with_reducible apply State.setReg_keeps
      | fail_if_no_progress with_reducible apply State.Keeps.mk'
      | with_reducible apply State.Keeps.ite
      | with_reducible apply State.Keeps.foldl
      | with_reducible apply State.Keeps.foldlFst
      | with_reducible apply State.Keeps.foldlSnd
      | intro _
      | split
      | dsimp only

theorem State.diverge_keeps {z : State} (s : State) (c : Nat) (hk : State.Keeps z s) :
    State.Keeps z (State.diverge s c) := by
  unfold State.diverge
  repeat' first
    | with_reducible assumption
    | with_reducible apply State.setFlag_keeps
    | with_reducible apply State.setSteps_keeps

theorem State.compareStep_keeps {z : State} (s : State) (c : Nat) (peer : Nat) (step : Nat) (hk : State.Keeps z s) :
    State.Keeps z (State.compareStep s c peer step) := by
  unfold State.compareStep
  repeat' first
    | with_reducible assumption
    | with_reducible apply State.ctxFault_keeps
    | with_reducible apply State.diverge_keeps
    | with_reducible apply State.postCtx_keeps
    | fail_if_no_progress with_reducible apply State.Keeps.mk'
    | with_reducible apply State.Keeps.ite
    | with_reducible apply State.Keeps.foldl
    | with_reducible apply State.Keeps.foldlFst
    | with_reducible apply State.Keeps.foldlSnd
    | intro _
    | split
    | dsimp only

theorem State.stepReady_keeps {z : State} (s : State) (c : Nat) (o : OwnStep) (hk : State.Keeps z s) :
    State.Keeps z (State.stepReady s c o) := by
  unfold State.stepReady
  repeat' first
    | with_reducible assumption
    | with_reducible apply State.agree_keeps
    | with_reducible apply State.showUnagreed_keeps
    | with_reducible apply State.sendRecords_keeps
    | with_reducible apply State.compareStep_keeps
    | fail_if_no_progress with_reducible apply State.Keeps.mk'
    | with_reducible apply State.Keeps.ite
    | with_reducible apply State.Keeps.foldl
    | with_reducible apply State.Keeps.foldlFst
    | with_reducible apply State.Keeps.foldlSnd
    | intro _

theorem State.rdeStart_keeps {z : State} (s : State) (r : RdeRun) (hk : State.Keeps z s) :
    State.Keeps z (State.rdeStart s r) := by
  unfold State.rdeStart
  repeat' first
    | with_reducible assumption
    | with_reducible apply State.setFlag_keeps
    | fail_if_no_progress with_reducible apply State.Keeps.mk'

theorem rdeReg_keeps  : RegEffect.Keeps (rdeReg) := by
  intro z s req a b hk
  unfold rdeReg
  dsimp only [RegEffect.plain]
  repeat' first
    | with_reducible assumption
    | with_reducible refine RegEffect.Keeps.act (RegEffect.plain_keeps ) ?_
    | with_reducible apply State.rdeStart_keeps
    | fail_if_no_progress with_reducible apply State.Keeps.mk'
    | with_reducible apply State.Keeps.ite

theorem State.linkEvent_keeps {z : State} (s : State) (f : Nat) (code : Nat) (sev : Nat) (cause : Nat) (occ : Nat) (hk : State.Keeps z s) :
    State.Keeps z (State.linkEvent s f code sev cause occ) := by
  unfold State.linkEvent
  repeat' first
    | with_reducible assumption
    | with_reducible apply State.postDev_keeps

theorem State.linkEventLimited_keeps {z : State} (s : State) (f : Nat) (code : Nat) (n : Nat) (hk : State.Keeps z s) :
    State.Keeps z (State.linkEventLimited s f code n) := by
  unfold State.linkEventLimited
  repeat' first
    | with_reducible assumption
    | with_reducible apply State.setFport_keeps
    | with_reducible apply State.linkEvent_keeps
    | fail_if_no_progress with_reducible apply State.Keeps.mk'
    | with_reducible apply State.Keeps.ite
    | with_reducible apply State.Keeps.foldl
    | with_reducible apply State.Keeps.foldlFst
    | with_reducible apply State.Keeps.foldlSnd
    | intro _

theorem State.reissue_keeps {z : State} (s : State) (t : FabTxn) (f : Nat) (hk : State.Keeps z s) :
    State.Keeps z (State.reissue s t f) := by
  unfold State.reissue
  repeat' first
    | with_reducible assumption
    | with_reducible apply State.bump_keeps
    | with_reducible apply State.portSend_keeps
    | with_reducible apply State.postCtx_keeps
    | with_reducible apply State.portOut_keeps
    | fail_if_no_progress with_reducible apply State.Keeps.mk'

theorem State.rerouteTxn_keeps {z : State} (s : State) (t : FabTxn) (hk : State.Keeps z s) :
    State.Keeps z (State.rerouteTxn s t) := by
  unfold State.rerouteTxn
  repeat' first
    | with_reducible assumption
    | with_reducible apply State.reissue_keeps
    | with_reducible apply State.txnFail_keeps
    | fail_if_no_progress with_reducible apply State.Keeps.mk'
    | with_reducible apply State.Keeps.ite
    | with_reducible apply State.Keeps.foldl
    | with_reducible apply State.Keeps.foldlFst
    | with_reducible apply State.Keeps.foldlSnd
    | intro _
    | split

theorem State.linkDown_keeps {z : State} (s : State) (f : Nat) (cause : Nat) (st : Nat) (hk : State.Keeps z s) :
    State.Keeps z (State.linkDown s f cause st) := by
  unfold State.linkDown
  repeat' first
    | with_reducible assumption
    | with_reducible apply State.setFport_keeps
    | with_reducible apply State.bump_keeps
    | with_reducible apply State.linkTimeReset_keeps
    | with_reducible apply State.rerouteTxn_keeps
    | with_reducible apply State.setFld_keeps
    | with_reducible apply State.linkEvent_keeps
    | fail_if_no_progress with_reducible apply State.Keeps.mk'
    | with_reducible apply State.Keeps.ite
    | with_reducible apply State.Keeps.foldl

theorem State.replay_keeps {z : State} (s : State) (f : Nat) (hk : State.Keeps z s) :
    State.Keeps z (State.replay s f) := by
  unfold State.replay
  repeat' first
    | with_reducible assumption
    | with_reducible apply State.setFport_keeps
    | with_reducible apply State.bump_keeps
    | with_reducible apply State.linkDown_keeps
    | with_reducible apply State.linkEventLimited_keeps
    | with_reducible apply State.linkEvent_keeps
    | with_reducible apply State.emit_keeps
    | fail_if_no_progress with_reducible apply State.Keeps.mk'
    | with_reducible apply State.Keeps.ite
    | with_reducible apply State.Keeps.foldl
    | with_reducible apply State.Keeps.foldlFst
    | with_reducible apply State.Keeps.foldlSnd
    | intro _

theorem State.ackFlit_keeps {z : State} (s : State) (f : Nat) (vc : Nat) (cr : Nat) (nak : Bool) (hk : State.Keeps z s) :
    State.Keeps z (State.ackFlit s f vc cr nak) := by
  unfold State.ackFlit
  repeat' first
    | with_reducible assumption
    | with_reducible apply State.emit_keeps

theorem State.fabIn_keeps {z : State} (s : State) (f : Nat) (bs : List Byte) (op : Nat) (k : State → Pkt → State) (hk : State.Keeps z s) (hk : ∀ s1 y1, State.Keeps z s1 → State.Keeps z (k s1 y1)) :
    State.Keeps z (State.fabIn s f bs op k) := by
  unfold State.fabIn
  repeat' first
    | with_reducible assumption
    | with_reducible apply State.setFport_keeps
    | with_reducible apply State.bump_keeps
    | with_reducible apply State.portSend_keeps
    | with_reducible apply State.bump64_keeps
    | with_reducible apply State.postDev_keeps
    | with_reducible apply State.linkEvent_keeps
    | with_reducible apply hk
    | fail_if_no_progress with_reducible apply State.Keeps.mk'
    | with_reducible apply State.Keeps.ite
    | with_reducible apply State.Keeps.foldl
    | with_reducible apply State.Keeps.foldlFst
    | with_reducible apply State.Keeps.foldlSnd
    | intro _
    | split

theorem State.fabArrive_keeps {z : State} (s : State) (a : WinAcc) (hk : State.Keeps z s) :
    State.Keeps z (State.fabArrive s a) := by
  unfold State.fabArrive
  repeat' first
    | with_reducible assumption
    | with_reducible apply State.winArrive_keeps
    | fail_if_no_progress with_reducible apply State.Keeps.mk'
    | with_reducible apply State.Keeps.ite
    | with_reducible apply State.Keeps.foldl
    | with_reducible apply State.Keeps.foldlFst
    | with_reducible apply State.Keeps.foldlSnd
    | intro _
    | split
    | dsimp only

theorem State.fabResponse_keeps {z : State} (s : State) (f : Nat) (p : Pkt) (k : State → FabTxn → State) (hk : State.Keeps z s) (hk : ∀ s1 y1, State.Keeps z s1 → State.Keeps z (k s1 y1)) :
    State.Keeps z (State.fabResponse s f p k) := by
  unfold State.fabResponse
  repeat' first
    | with_reducible assumption
    | with_reducible apply State.bump_keeps
    | with_reducible apply State.fabPump_keeps
    | with_reducible apply State.winDone_keeps
    | with_reducible apply State.portOut_keeps
    | with_reducible apply State.postDev_keeps
    | with_reducible apply hk
    | fail_if_no_progress with_reducible apply State.Keeps.mk'
    | with_reducible apply State.Keeps.ite
    | with_reducible apply State.Keeps.foldl
    | with_reducible apply State.Keeps.foldlFst
    | with_reducible apply State.Keeps.foldlSnd
    | intro _
    | split

theorem State.discover_keeps {z : State} (s : State) (f : Nat) (kind : Nat) (frame : List Byte) (act : State → State × Nat × List Byte) (hk : State.Keeps z s) (hact : ∀ s1, State.Keeps z s1 → State.Keeps z ((act s1).1)) :
    State.Keeps z (State.discover s f kind frame act) := by
  unfold State.discover
  repeat' first
    | with_reducible assumption
    | with_reducible apply State.portSend_keeps
    | with_reducible apply hact
    | fail_if_no_progress with_reducible apply State.Keeps.mk'
    | with_reducible apply State.Keeps.ite
    | with_reducible apply State.Keeps.foldl
    | with_reducible apply State.Keeps.foldlFst
    | with_reducible apply State.Keeps.foldlSnd
    | intro _

theorem State.assignNode_keeps {z : State} (s : State) (f : Nat) (fm : Option Nat) (node : Nat) (old : Nat) (hk : State.Keeps z s) :
    State.Keeps z (State.assignNode s f fm node old) := by
  unfold State.assignNode
  repeat' first
    | with_reducible assumption
    | with_reducible apply State.setReg_keeps
    | with_reducible apply State.setFld_keeps
    | with_reducible apply State.ownerEnds_keeps
    | with_reducible apply State.txnFail_keeps
    | with_reducible apply State.postDev_keeps
    | fail_if_no_progress with_reducible apply State.Keeps.mk'
    | with_reducible apply State.Keeps.ite
    | with_reducible apply State.Keeps.foldl
    | with_reducible apply State.Keeps.foldlFst
    | with_reducible apply State.Keeps.foldlSnd
    | intro _
    | split

theorem fabNodeReg_keeps  : RegEffect.Keeps (fabNodeReg) := by
  intro z s req a b hk
  unfold fabNodeReg
  dsimp only [RegEffect.plain]
  repeat' first
    | with_reducible assumption
    | with_reducible refine RegEffect.Keeps.act (RegEffect.plain_keeps ) ?_
    | with_reducible apply State.assignNode_keeps

theorem State.lowRate_keeps {z : State} (s : State) (f : Nat) (hk : State.Keeps z s) :
    State.Keeps z (State.lowRate s f) := by
  unfold State.lowRate
  repeat' first
    | with_reducible assumption
    | with_reducible apply State.setFld_keeps
    | fail_if_no_progress with_reducible apply State.Keeps.mk'
    | with_reducible apply State.Keeps.ite
    | with_reducible apply State.Keeps.foldl
    | with_reducible apply State.Keeps.foldlFst
    | with_reducible apply State.Keeps.foldlSnd
    | intro _

theorem fabPortCtl_keeps (f : Nat) : RegEffect.Keeps (fabPortCtl f) := by
  intro z s req a b hk
  unfold fabPortCtl
  dsimp only [RegEffect.plain]
  repeat' first
    | with_reducible assumption
    | with_reducible refine RegEffect.Keeps.act (RegEffect.plain_keeps ) ?_
    | with_reducible apply State.linkDown_keeps
    | with_reducible apply State.lowRate_keeps
    | with_reducible apply State.wakePort_keeps
    | with_reducible apply State.setFld_keeps
    | fail_if_no_progress with_reducible apply State.Keeps.mk'
    | with_reducible apply State.Keeps.ite
    | with_reducible apply State.Keeps.foldl
    | with_reducible apply State.Keeps.foldlFst
    | with_reducible apply State.Keeps.foldlSnd
    | intro _

theorem State.losDown_keeps {z : State} (s : State) (f : Nat) (hk : State.Keeps z s) :
    State.Keeps z (State.losDown s f) := by
  unfold State.losDown
  repeat' first
    | with_reducible assumption
    | with_reducible apply State.setFlag_keeps
    | with_reducible apply State.linkDown_keeps

theorem schedEntReg_keeps (f : Nat) : RegEffect.Keeps (schedEntReg f) := by
  intro z s req a b hk
  unfold schedEntReg
  dsimp only [RegEffect.plain]
  repeat' first
    | with_reducible assumption

theorem State.arrayClear_keeps {z : State} (s : State) (p : Nat) (hk : State.Keeps z s) :
    State.Keeps z (State.arrayClear s p) := by
  unfold State.arrayClear
  repeat' first
    | with_reducible assumption
    | with_reducible apply State.setArr_keeps
    | with_reducible apply State.arrayGen_keeps
    | with_reducible apply State.setFlag_keeps
    | with_reducible apply State.dropLatches_keeps
    | with_reducible apply State.zeroArray_keeps
    | with_reducible apply State.clearCores_keeps
    | fail_if_no_progress with_reducible apply State.Keeps.mk'
    | with_reducible apply State.Keeps.ite
    | with_reducible apply State.Keeps.foldl
    | with_reducible apply State.Keeps.foldlFst
    | with_reducible apply State.Keeps.foldlSnd
    | intro _
    | split

theorem State.setStripClock_keeps {z : State} (s : State) (p : Nat) (b : Bool) (hk : State.Keeps z s) :
    State.Keeps z (State.setStripClock s p b) := by
  unfold State.setStripClock
  repeat' first
    | with_reducible assumption
    | with_reducible apply State.setFlag_keeps
    | with_reducible apply State.modArr_keeps

theorem State.retireArray_keeps {z : State} (s : State) (p : Nat) (reason : Nat) (stage : Nat) (hk : State.Keeps z s) :
    State.Keeps z (State.retireArray s p reason stage) := by
  unfold State.retireArray
  repeat' first
    | with_reducible assumption
    | with_reducible apply State.logAdd_keeps
    | with_reducible apply State.setFld_keeps
    | with_reducible apply State.setDom_keeps
    | with_reducible apply State.showSpares_keeps
    | fail_if_no_progress with_reducible apply State.Keeps.mk'
    | with_reducible apply State.Keeps.ite
    | with_reducible apply State.Keeps.foldl
    | with_reducible apply State.Keeps.foldlFst
    | with_reducible apply State.Keeps.foldlSnd
    | intro _

theorem State.wantMove_keeps {z : State} (s : State) (p : Nat) (kind : Nat) (hk : State.Keeps z s) :
    State.Keeps z (State.wantMove s p kind) := by
  unfold State.wantMove
  repeat' first
    | with_reducible assumption
    | fail_if_no_progress with_reducible apply State.Keeps.mk'

theorem State.arrayReset_keeps {z : State} (s : State) (p : Nat) (mesh : Bool) (test : Bool) (hk : State.Keeps z s) :
    State.Keeps z (State.arrayReset s p mesh test) := by
  unfold State.arrayReset
  repeat' first
    | with_reducible assumption
    | with_reducible apply State.setStripClock_keeps
    | with_reducible apply State.arrayClear_keeps
    | with_reducible apply State.retireArray_keeps
    | fail_if_no_progress with_reducible apply State.Keeps.mk'
    | with_reducible apply State.Keeps.ite
    | with_reducible apply State.Keeps.foldl
    | with_reducible apply State.Keeps.foldlFst
    | with_reducible apply State.Keeps.foldlSnd
    | intro _

theorem State.resetEvent_keeps {z : State} (s : State) (code : Nat) (result : Nat) (unit : Nat) (phys : Nat) (hk : State.Keeps z s) :
    State.Keeps z (State.resetEvent s code result unit phys) := by
  unfold State.resetEvent
  repeat' first
    | with_reducible assumption
    | with_reducible apply State.brpEvent_keeps

theorem State.askArrayReset_keeps {z : State} (s : State) (p : Nat) (mesh : Bool) (test : Bool) (hk : State.Keeps z s) :
    State.Keeps z (State.askArrayReset s p mesh test) := by
  unfold State.askArrayReset
  repeat' first
    | with_reducible assumption
    | with_reducible apply State.resetEvent_keeps
    | with_reducible apply State.wantMove_keeps
    | with_reducible apply State.arrayReset_keeps
    | fail_if_no_progress with_reducible apply State.Keeps.mk'
    | with_reducible apply State.Keeps.ite
    | with_reducible apply State.Keeps.foldl
    | with_reducible apply State.Keeps.foldlFst
    | with_reducible apply State.Keeps.foldlSnd
    | intro _
    | split

theorem State.fieldEnd_keeps {z : State} (s : State) (f : Nat) (hk : State.Keeps z s) :
    State.Keeps z (State.fieldEnd s f) := by
  unfold State.fieldEnd
  repeat' first
    | with_reducible assumption
    | with_reducible apply State.resetEvent_keeps

theorem State.askFieldReset_keeps {z : State} (s : State) (f : Nat) (mesh : Bool) (test : Bool) (hk : State.Keeps z s) :
    State.Keeps z (State.askFieldReset s f mesh test) := by
  unfold State.askFieldReset
  repeat' first
    | with_reducible assumption
    | with_reducible apply State.resetEvent_keeps
    | with_reducible apply State.fieldEnd_keeps
    | with_reducible apply State.wantMove_keeps
    | with_reducible apply State.arrayReset_keeps
    | fail_if_no_progress with_reducible apply State.Keeps.mk'
    | with_reducible apply State.Keeps.ite
    | with_reducible apply State.Keeps.foldl
    | with_reducible apply State.Keeps.foldlFst
    | with_reducible apply State.Keeps.foldlSnd
    | intro _
    | split

theorem State.runWaits_keeps {z : State} (s : State) (p : Nat) (hk : State.Keeps z s) :
    State.Keeps z (State.runWaits s p) := by
  unfold State.runWaits
  repeat' first
    | with_reducible assumption
    | with_reducible apply State.resetEvent_keeps
    | with_reducible apply State.fieldEnd_keeps
    | with_reducible apply State.arrayReset_keeps
    | fail_if_no_progress with_reducible apply State.Keeps.mk'
    | with_reducible apply State.Keeps.ite
    | with_reducible apply State.Keeps.foldl
    | with_reducible apply State.Keeps.foldlFst
    | with_reducible apply State.Keeps.foldlSnd
    | intro _
    | split

theorem State.deviceReset_keeps {z : State} (s : State) (hk : State.Keeps z s) : State.Keeps z (State.deviceReset s) := by
  unfold State.deviceReset
  repeat' first
    | with_reducible assumption
    | with_reducible apply State.ctxResetEnd_keeps
    | with_reducible apply State.abandon_keeps
    | with_reducible apply State.ctxReset_keeps
    | with_reducible apply State.arrayClear_keeps
    | with_reducible apply State.showPyr_keeps
    | with_reducible apply State.dropLatches_keeps
    | with_reducible apply State.setFld_keeps
    | with_reducible apply State.setFlag_keeps
    | with_reducible apply State.lifeCount_keeps
    | with_reducible apply State.Keeps.filtered
    | fail_if_no_progress with_reducible apply State.Keeps.mk'
    | with_reducible apply State.Keeps.ite
    | with_reducible apply State.Keeps.foldl
    | with_reducible apply State.Keeps.foldlFst
    | with_reducible apply State.Keeps.foldlSnd
    | intro _

theorem State.bringupFail_keeps {z : State} (s : State) (unit : Nat) (detail : Nat) (hk : State.Keeps z s) :
    State.Keeps z (State.bringupFail s unit detail) := by
  unfold State.bringupFail
  repeat' first
    | with_reducible assumption
    | with_reducible apply State.setFld_keeps
    | with_reducible apply State.brpEvent_keeps

theorem State.bringupRestart_keeps {z : State} (s : State) (unit : Nat) (detail : Nat) (hk : State.Keeps z s) :
    State.Keeps z (State.bringupRestart s unit detail) := by
  unfold State.bringupRestart
  repeat' first
    | with_reducible assumption
    | with_reducible apply State.bringupFail_keeps
    | with_reducible apply State.setFld_keeps
    | with_reducible apply State.brpEvent_keeps
    | fail_if_no_progress with_reducible apply State.Keeps.mk'
    | with_reducible apply State.Keeps.ite
    | with_reducible apply State.Keeps.foldl
    | with_reducible apply State.Keeps.foldlFst
    | with_reducible apply State.Keeps.foldlSnd
    | intro _

theorem State.autoReset_keeps {z : State} (s : State) (hk : State.Keeps z s) :
    State.Keeps z (State.autoReset s) := by
  unfold State.autoReset
  repeat' first
    | with_reducible assumption
    | with_reducible apply State.deviceReset_keeps
    | fail_if_no_progress with_reducible apply State.Keeps.mk'
    | with_reducible apply State.Keeps.ite

theorem brpReset_keeps (mesh : Bool) (test : Bool) : RegEffect.Keeps (brpReset mesh test) := by
  intro z s req a b hk
  unfold brpReset
  dsimp only [RegEffect.plain]
  repeat' first
    | with_reducible assumption
    | with_reducible apply State.askArrayReset_keeps
    | with_reducible apply State.deviceReset_keeps
    | with_reducible apply State.askFieldReset_keeps
    | fail_if_no_progress with_reducible apply State.Keeps.mk'
    | with_reducible apply State.Keeps.ite
    | with_reducible apply State.Keeps.foldl
    | with_reducible apply State.Keeps.foldlFst
    | with_reducible apply State.Keeps.foldlSnd
    | intro _
    | split

theorem State.inputSample_keeps {z : State} (s : State) (mv : Nat) (i : Nat) (hk : State.Keeps z s) :
    State.Keeps z (State.inputSample s mv i) := by
  unfold State.inputSample
  repeat' first
    | with_reducible assumption
    | with_reducible apply State.setFlag_keeps
    | with_reducible apply State.setFld_keeps
    | fail_if_no_progress with_reducible apply State.Keeps.mk'

theorem State.lifeWrite_keeps {z : State} (s : State) (e : LifeEntry) (hk : State.Keeps z s) :
    State.Keeps z (State.lifeWrite s e) := by
  unfold State.lifeWrite
  repeat' first
    | with_reducible assumption
    | with_reducible apply State.setReg_keeps
    | with_reducible apply State.bump_keeps
    | fail_if_no_progress with_reducible apply State.Keeps.mk'
    | with_reducible apply State.Keeps.ite
    | with_reducible apply State.Keeps.foldl
    | with_reducible apply State.Keeps.foldlFst
    | with_reducible apply State.Keeps.foldlSnd
    | intro _

theorem State.lifeFlush_keeps {z : State} (s : State) (hk : State.Keeps z s) :
    State.Keeps z (State.lifeFlush s) := by
  unfold State.lifeFlush
  repeat' first
    | with_reducible assumption
    | with_reducible apply State.lifeWrite_keeps
    | fail_if_no_progress with_reducible apply State.Keeps.mk'
    | with_reducible apply State.Keeps.ite
    | with_reducible apply State.Keeps.foldl
    | with_reducible apply State.Keeps.foldlFst
    | with_reducible apply State.Keeps.foldlSnd
    | intro _

theorem State.domainsOff_keeps {z : State} (s : State) (hk : State.Keeps z s) :
    State.Keeps z (State.domainsOff s) := by
  unfold State.domainsOff
  repeat' first
    | with_reducible assumption
    | with_reducible apply State.setFld_keeps
    | with_reducible apply State.setDom_keeps
    | fail_if_no_progress with_reducible apply State.Keeps.mk'
    | with_reducible apply State.Keeps.ite
    | with_reducible apply State.Keeps.foldl
    | with_reducible apply State.Keeps.foldlFst
    | with_reducible apply State.Keeps.foldlSnd
    | intro _

theorem State.powerDown_keeps {z : State} (s : State) (kind : Nat) (code : Nat) (mv : Nat) (i : Nat) (hk : State.Keeps z s) :
    State.Keeps z (State.powerDown s kind code mv i) := by
  unfold State.powerDown
  repeat' first
    | with_reducible assumption
    | with_reducible apply State.inputEvent_keeps
    | with_reducible apply State.inputSample_keeps
    | with_reducible apply State.lifeAdd_keeps
    | with_reducible apply State.stopAll_keeps
    | with_reducible apply State.domainsOff_keeps
    | with_reducible apply State.lifeCount_keeps
    | with_reducible apply State.lifeFlush_keeps
    | fail_if_no_progress with_reducible apply State.Keeps.mk'
    | with_reducible apply State.Keeps.ite
    | with_reducible apply State.Keeps.foldl
    | with_reducible apply State.Keeps.foldlFst
    | with_reducible apply State.Keeps.foldlSnd
    | intro _

theorem State.persistentShort_keeps {z : State} (s : State) (d : Nat) (mv : Nat) (ma : Nat) (hk : State.Keeps z s) :
    State.Keeps z (State.persistentShort s d mv ma) := by
  unfold State.persistentShort
  repeat' first
    | with_reducible assumption
    | with_reducible apply State.logAdd_keeps
    | with_reducible apply State.bringupFail_keeps
    | with_reducible apply State.domEvent_keeps
    | with_reducible apply State.setDom_keeps
    | with_reducible apply State.retireArray_keeps
    | with_reducible apply State.bringupRestart_keeps
    | fail_if_no_progress with_reducible apply State.Keeps.mk'
    | with_reducible apply State.Keeps.ite
    | with_reducible apply State.Keeps.foldl
    | with_reducible apply State.Keeps.foldlFst
    | with_reducible apply State.Keeps.foldlSnd
    | intro _

theorem State.arrayPowerFault_keeps {z : State} (s : State) (p : Nat) (hk : State.Keeps z s) :
    State.Keeps z (State.arrayPowerFault s p) := by
  unfold State.arrayPowerFault
  repeat' first
    | with_reducible assumption
    | with_reducible apply State.faultArr_keeps
    | with_reducible apply State.modArr_keeps
    | with_reducible apply State.wantMove_keeps
    | fail_if_no_progress with_reducible apply State.Keeps.mk'
    | with_reducible apply State.Keeps.ite
    | with_reducible apply State.Keeps.foldl
    | with_reducible apply State.Keeps.foldlFst
    | with_reducible apply State.Keeps.foldlSnd
    | intro _
    | intro _
    | split
    | dsimp only

theorem State.edgeLost_keeps {z : State} (s : State) (p : Nat) (hk : State.Keeps z s) :
    State.Keeps z (State.edgeLost s p) := by
  unfold State.edgeLost
  repeat' first
    | with_reducible assumption
    | with_reducible apply State.heldPoison_keeps
    | with_reducible apply State.poison_keeps
    | fail_if_no_progress with_reducible apply State.Keeps.mk'
    | with_reducible apply State.Keeps.ite
    | with_reducible apply State.Keeps.foldl
    | with_reducible apply State.Keeps.foldlFst
    | with_reducible apply State.Keeps.foldlSnd
    | intro _
    | split

theorem State.onceMs_keeps {z : State} (s : State) (key : Nat) (hk : State.Keeps z s) :
    State.Keeps z (State.onceMs s key).2 := by
  unfold State.onceMs
  repeat' first
    | with_reducible assumption
    | fail_if_no_progress with_reducible apply State.Keeps.mk'
    | with_reducible apply State.Keeps.ite
    | with_reducible apply State.Keeps.foldl
    | with_reducible apply State.Keeps.foldlFst
    | with_reducible apply State.Keeps.foldlSnd
    | intro _
    | split

theorem State.setProfile_keeps {z : State} (s : State) (c : Nat) (p : Profile) (hk : State.Keeps z s) :
    State.Keeps z (State.setProfile s c p) := by
  unfold State.setProfile
  repeat' first
    | with_reducible assumption
    | with_reducible apply State.setCtx_keeps

theorem State.boostCount_keeps {z : State} (s : State) (p : Nat) (hk : State.Keeps z s) :
    State.Keeps z (State.boostCount s p) := by
  unfold State.boostCount
  repeat' first
    | with_reducible assumption
    | fail_if_no_progress with_reducible apply State.Keeps.mk'

theorem State.stripsUnlessRaised_keeps {z : State} (s : State) (p : Nat) (code : Nat) (hk : State.Keeps z s) :
    State.Keeps z (State.stripsUnlessRaised s p code) := by
  unfold State.stripsUnlessRaised
  repeat' first
    | with_reducible assumption
    | with_reducible apply State.setStrips_keeps
    | fail_if_no_progress with_reducible apply State.Keeps.mk'
    | with_reducible apply State.Keeps.ite
    | with_reducible apply State.Keeps.foldl
    | with_reducible apply State.Keeps.foldlFst
    | with_reducible apply State.Keeps.foldlSnd
    | intro _

theorem State.loopPart_keeps {z : State} (s : State) (q : Nat) (share : Nat) (hk : State.Keeps z s) :
    State.Keeps z (State.loopPart s q share) := by
  unfold State.loopPart
  repeat' first
    | with_reducible assumption
    | with_reducible apply State.setFlag_keeps
    | with_reducible apply State.modArr_keeps
    | with_reducible apply State.setFld_keeps
    | with_reducible apply State.stripsUnlessRaised_keeps
    | fail_if_no_progress with_reducible apply State.Keeps.mk'
    | with_reducible apply State.Keeps.ite
    | with_reducible apply State.Keeps.foldl
    | with_reducible apply State.Keeps.foldlFst
    | with_reducible apply State.Keeps.foldlSnd
    | intro _
    | split

theorem State.thermLoop_keeps {z : State} (s : State) (p : Nat) (hot : Bool) (cool : Bool) (hk : State.Keeps z s) :
    State.Keeps z (State.thermLoop s p hot cool) := by
  unfold State.thermLoop
  repeat' first
    | with_reducible assumption
    | fail_if_no_progress with_reducible apply State.Keeps.mk'

theorem capGrantReg_keeps  : RegEffect.Keeps (capGrantReg) := by
  intro z s req a b hk
  unfold capGrantReg
  dsimp only [RegEffect.plain]
  repeat' first
    | with_reducible assumption
    | with_reducible apply State.capUpdate_keeps

theorem State.rackChange_keeps {z : State} (s : State) (on : Bool) (hk : State.Keeps z s) :
    State.Keeps z (State.rackChange s on) := by
  unfold State.rackChange
  repeat' first
    | with_reducible assumption
    | with_reducible apply State.inputEvent_keeps
    | with_reducible apply State.capUpdate_keeps
    | with_reducible apply State.loopPart_keeps
    | fail_if_no_progress with_reducible apply State.Keeps.mk'
    | with_reducible apply State.Keeps.ite
    | with_reducible apply State.Keeps.foldl
    | with_reducible apply State.Keeps.foldlFst
    | with_reducible apply State.Keeps.foldlSnd
    | intro _

theorem rackReg_keeps  : RegEffect.Keeps (rackReg) := by
  intro z s req a b hk
  unfold rackReg
  dsimp only [RegEffect.plain]
  repeat' first
    | with_reducible assumption
    | with_reducible apply State.rackChange_keeps
    | with_reducible apply State.capUpdate_keeps
    | fail_if_no_progress with_reducible apply State.Keeps.mk'
    | with_reducible apply State.Keeps.ite
    | with_reducible apply State.Keeps.foldl
    | with_reducible apply State.Keeps.foldlFst
    | with_reducible apply State.Keeps.foldlSnd
    | intro _

theorem State.offsetOf_keeps {z : State} (s : State) (d : Nat) (hk : State.Keeps z s) :
    State.Keeps z (State.offsetOf s d) := by
  unfold State.offsetOf
  repeat' first
    | with_reducible assumption
    | with_reducible apply State.postDev_keeps
    | fail_if_no_progress with_reducible apply State.Keeps.mk'
    | with_reducible apply State.Keeps.ite
    | with_reducible apply State.Keeps.foldl
    | with_reducible apply State.Keeps.foldlFst
    | with_reducible apply State.Keeps.foldlSnd
    | intro _

theorem vminReg_keeps (d : Nat) : RegEffect.Keeps (vminReg d) := by
  intro z s req a b hk
  unfold vminReg
  dsimp only [RegEffect.plain]
  repeat' first
    | with_reducible assumption
    | with_reducible refine RegEffect.Keeps.act (RegEffect.plain_keeps ) ?_
    | with_reducible apply State.setFld_keeps
    | fail_if_no_progress with_reducible apply State.Keeps.mk'
    | with_reducible apply State.Keeps.ite

theorem State.energyAdd_keeps {z : State} (s : State) (off : Nat) (num : Nat) (den : Nat) (e : Nat) (hk : State.Keeps z s) :
    State.Keeps z (State.energyAdd s off num den e) := by
  unfold State.energyAdd
  repeat' first
    | with_reducible assumption
    | with_reducible apply State.bump64_keeps
    | fail_if_no_progress with_reducible apply State.Keeps.mk'

theorem State.thermEvent_keeps {z : State} (s : State) (code : Nat) (sev : Nat) (sensor : Nat) (temp : Nat) (ary : Nat) (new : Nat) (hk : State.Keeps z s) :
    State.Keeps z (State.thermEvent s code sev sensor temp ary new) := by
  unfold State.thermEvent
  repeat' first
    | with_reducible assumption
    | with_reducible apply State.postDev_keeps

theorem State.sensorRead_keeps {z : State} (s : State) (k : Nat) (v : Nat) (stuck : Bool) (hk : State.Keeps z s) :
    State.Keeps z (State.sensorRead s k v stuck) := by
  unfold State.sensorRead
  repeat' first
    | with_reducible assumption
    | with_reducible apply State.setFld_keeps
    | with_reducible apply State.thermEvent_keeps
    | fail_if_no_progress with_reducible apply State.Keeps.mk'
    | with_reducible apply State.Keeps.ite
    | with_reducible apply State.Keeps.foldl
    | with_reducible apply State.Keeps.foldlFst
    | with_reducible apply State.Keeps.foldlSnd
    | intro _

theorem State.thermArray_keeps {z : State} (s : State) (p : Nat) (hk : State.Keeps z s) :
    State.Keeps z (State.thermArray s p) := by
  unfold State.thermArray
  repeat' first
    | with_reducible assumption
    | with_reducible apply State.modArr_keeps
    | with_reducible apply State.thermEvent_keeps
    | with_reducible apply State.lifeCount_keeps
    | fail_if_no_progress with_reducible apply State.Keeps.mk'
    | with_reducible apply State.Keeps.ite
    | with_reducible apply State.Keeps.foldl
    | with_reducible apply State.Keeps.foldlFst
    | with_reducible apply State.Keeps.foldlSnd
    | intro _

theorem State.thermSite_keeps {z : State} (s : State) (k : Nat) (hk : State.Keeps z s) :
    State.Keeps z (State.thermSite s k) := by
  unfold State.thermSite
  repeat' first
    | with_reducible assumption
    | with_reducible apply State.thermEvent_keeps
    | fail_if_no_progress with_reducible apply State.Keeps.mk'
    | with_reducible apply State.Keeps.ite
    | with_reducible apply State.Keeps.foldl
    | with_reducible apply State.Keeps.foldlFst
    | with_reducible apply State.Keeps.foldlSnd
    | intro _

theorem State.thermTripNow_keeps {z : State} (s : State) (k : Nat) (v : Nat) (hk : State.Keeps z s) :
    State.Keeps z (State.thermTripNow s k v) := by
  unfold State.thermTripNow
  repeat' first
    | with_reducible assumption
    | with_reducible apply State.stopAll_keeps
    | with_reducible apply State.domainsOff_keeps
    | with_reducible apply State.thermEvent_keeps
    | with_reducible apply State.lifeCount_keeps
    | fail_if_no_progress with_reducible apply State.Keeps.mk'

theorem State.bandMinute_keeps {z : State} (s : State) (p : Nat) (hk : State.Keeps z s) :
    State.Keeps z (State.bandMinute s p) := by
  unfold State.bandMinute
  repeat' first
    | with_reducible assumption
    | with_reducible apply State.lifeCount_keeps
    | fail_if_no_progress with_reducible apply State.Keeps.mk'
    | with_reducible apply State.Keeps.ite

theorem State.poolSend_keeps {z : State} (s : State) (node : Nat) (kind : Nat) (value : Nat) (lease : Nat) (hk : State.Keeps z s) :
    State.Keeps z (State.poolSend s node kind value lease) := by
  unfold State.poolSend
  repeat' first
    | with_reducible assumption
    | with_reducible apply State.portSend_keeps
    | fail_if_no_progress with_reducible apply State.Keeps.mk'
    | with_reducible apply State.Keeps.ite
    | with_reducible apply State.Keeps.foldl
    | with_reducible apply State.Keeps.foldlFst
    | with_reducible apply State.Keeps.foldlSnd
    | intro _
    | split

theorem State.slackPut_keeps {z : State} (s : State) (x : Slack) (hk : State.Keeps z s) :
    State.Keeps z (State.slackPut s x) := by
  unfold State.slackPut
  repeat' first
    | with_reducible assumption
    | fail_if_no_progress with_reducible apply State.Keeps.mk'

theorem State.setBorrowed_keeps {z : State} (s : State) (l : List Loan) (hk : State.Keeps z s) :
    State.Keeps z (State.setBorrowed s l) := by
  unfold State.setBorrowed
  repeat' first
    | with_reducible assumption
    | with_reducible apply State.capUpdate_keeps
    | fail_if_no_progress with_reducible apply State.Keeps.mk'

theorem State.setLent_keeps {z : State} (s : State) (l : Option Loan) (hk : State.Keeps z s) :
    State.Keeps z (State.setLent s l) := by
  unfold State.setLent
  repeat' first
    | with_reducible assumption
    | with_reducible apply State.capUpdate_keeps
    | fail_if_no_progress with_reducible apply State.Keeps.mk'

theorem State.loanEvent_keeps {z : State} (s : State) (code : Nat) (watts : Nat) (peer : Nat) (hk : State.Keeps z s) :
    State.Keeps z (State.loanEvent s code watts peer) := by
  unfold State.loanEvent
  repeat' first
    | with_reducible assumption
    | with_reducible apply State.inputEvent_keeps

theorem State.loanBack_keeps {z : State} (s : State) (n : Nat) (hk : State.Keeps z s) :
    State.Keeps z (State.loanBack s n) := by
  unfold State.loanBack
  repeat' first
    | with_reducible assumption
    | with_reducible apply State.setLent_keeps
    | fail_if_no_progress with_reducible apply State.Keeps.mk'
    | with_reducible apply State.Keeps.ite
    | with_reducible apply State.Keeps.foldl
    | with_reducible apply State.Keeps.foldlFst
    | with_reducible apply State.Keeps.foldlSnd
    | intro _
    | split

theorem poolBoundsReg_keeps  : RegEffect.Keeps (poolBoundsReg) := by
  intro z s req a b hk
  unfold poolBoundsReg
  dsimp only [RegEffect.plain]
  repeat' first
    | with_reducible assumption

theorem State.mgtEvent_keeps {z : State} (s : State) (code : Nat) (req : Nat × Nat × Nat) (v : Nat) (prio : Nat) (b33 : Nat) (hk : State.Keeps z s) :
    State.Keeps z (State.mgtEvent s code req v prio b33) := by
  unfold State.mgtEvent
  repeat' first
    | with_reducible assumption
    | with_reducible apply State.postDev_keeps

theorem State.claim_keeps {z : State} (s : State) (req : Requester) (prio : Nat) (id : Nat) (hk : State.Keeps z s) :
    State.Keeps z (State.claim s req prio id).1 := by
  unfold State.claim
  repeat' first
    | with_reducible assumption
    | with_reducible apply State.setReg_keeps
    | with_reducible apply State.setFlag_keeps
    | with_reducible apply State.setReg64_keeps
    | with_reducible apply State.mgtEvent_keeps
    | with_reducible apply State.updateCancel_keeps
    | with_reducible apply State.ownerEntry_keeps
    | fail_if_no_progress with_reducible apply State.Keeps.mk'
    | with_reducible apply State.Keeps.ite
    | with_reducible apply State.Keeps.foldl
    | with_reducible apply State.Keeps.foldlFst
    | with_reducible apply State.Keeps.foldlSnd
    | intro _
    | split
    | dsimp only

end Sys2Proof.Machine
end

