-- ==== Sys2Proof/Laws/KeepG.lean ====
section
/-!
SUPPORT. What the shared operations of Manage, Bringup, Trunk, Time, Host, Protocols, Repair, RegFile keep: one lemma each, the relation of Laws/Keep.
-/
namespace Sys2Proof.Machine

theorem State.release_keeps {z : State} (s : State) (req : Requester) (id : Nat) (hk : State.Keeps z s) :
    State.Keeps z (State.release s req id).1 := by
  unfold State.release
  repeat' first
    | with_reducible assumption
    | with_reducible apply State.mgtEvent_keeps
    | with_reducible apply State.ownerClear_keeps
    | with_reducible apply State.ownerEntry_keeps
    | fail_if_no_progress with_reducible apply State.Keeps.mk'
    | with_reducible apply State.Keeps.ite
    | with_reducible apply State.Keeps.foldl
    | with_reducible apply State.Keeps.foldlFst
    | with_reducible apply State.Keeps.foldlSnd
    | intro _
    | split

theorem State.handOver_keeps {z : State} (s : State) (req : Requester) (kind : Nat) (path : Nat) (node : Nat) (id : Nat) (hk : State.Keeps z s) :
    State.Keeps z (State.handOver s req kind path node id).1 := by
  unfold State.handOver
  repeat' first
    | with_reducible assumption
    | with_reducible apply State.setFlag_keeps
    | fail_if_no_progress with_reducible apply State.Keeps.mk'
    | with_reducible apply State.Keeps.ite
    | with_reducible apply State.Keeps.foldl
    | with_reducible apply State.Keeps.foldlFst
    | with_reducible apply State.Keeps.foldlSnd
    | intro _
    | split

theorem State.pldmRefuse_keeps {z : State} (s : State) (req : Requester) (v : Nat) (hk : State.Keeps z s) :
    State.Keeps z (State.pldmRefuse s req v) := by
  unfold State.pldmRefuse
  repeat' first
    | with_reducible assumption
    | with_reducible apply State.answer_keeps
    | with_reducible apply State.mgtEvent_keeps

theorem State.notice_keeps {z : State} (s : State) (req : Requester) (hk : State.Keeps z s) :
    State.Keeps z (State.notice s req) := by
  unfold State.notice
  repeat' first
    | with_reducible assumption
    | with_reducible apply State.emit_keeps
    | fail_if_no_progress with_reducible apply State.Keeps.mk'
    | with_reducible apply State.Keeps.ite
    | with_reducible apply State.Keeps.foldl
    | with_reducible apply State.Keeps.foldlFst
    | with_reducible apply State.Keeps.foldlSnd
    | intro _
    | split
    | dsimp only

theorem State.message_keeps {z : State} (s : State) (req : Requester) (basic : Bool) (f : State → State) (hk : State.Keeps z s) (hf : ∀ s1, State.Keeps z s1 → State.Keeps z (f s1)) :
    Out.Keeps z (State.message s req basic f) := by
  unfold State.message
  repeat' first
    | with_reducible assumption
    | with_reducible apply State.notice_keeps
    | with_reducible apply Out.keeps_next
    | with_reducible apply hf
    | fail_if_no_progress with_reducible apply State.Keeps.mk'
    | with_reducible apply State.Keeps.ite
    | intro _
    | split
    | dsimp only

theorem claimCtl_keeps  : RegEffect.Keeps (claimCtl) := by
  intro z s req a b hk
  unfold claimCtl
  dsimp only [RegEffect.plain]
  repeat' first
    | with_reducible assumption
    | with_reducible refine RegEffect.Keeps.act (RegEffect.plain_keeps ) ?_
    | with_reducible apply State.handOver_keeps
    | with_reducible refine State.Keeps.of_fst (by assumption) (State.handOver_keeps _ _ _ _ _ _ ?_)
    | with_reducible apply State.claim_keeps
    | with_reducible refine State.Keeps.of_fst (by assumption) (State.claim_keeps _ _ _ _ ?_)
    | with_reducible apply State.release_keeps
    | with_reducible refine State.Keeps.of_fst (by assumption) (State.release_keeps _ _ _ ?_)
    | fail_if_no_progress with_reducible apply State.Keeps.mk'
    | with_reducible apply State.Keeps.ite
    | with_reducible apply State.Keeps.foldl
    | with_reducible apply State.Keeps.foldlFst
    | with_reducible apply State.Keeps.foldlSnd
    | intro _
    | split

theorem State.updateStep_keeps {z : State} (s : State) (req : Requester) (stage : Nat) (f : State → State) (hk : State.Keeps z s) (hf : ∀ s1, State.Keeps z s1 → State.Keeps z (f s1)) :
    State.Keeps z (State.updateStep s req stage f) := by
  unfold State.updateStep
  repeat' first
    | with_reducible assumption
    | with_reducible apply State.answer_keeps
    | with_reducible apply State.pldmRefuse_keeps
    | with_reducible apply hf
    | fail_if_no_progress with_reducible apply State.Keeps.mk'
    | with_reducible apply State.Keeps.ite
    | with_reducible apply State.Keeps.foldl
    | with_reducible apply State.Keeps.foldlFst
    | with_reducible apply State.Keeps.foldlSnd
    | intro _

theorem State.activate_keeps {z : State} (s : State) (hk : State.Keeps z s) (u : State) (e : State.activate s = some u) :
    State.Keeps z u := by
  unfold State.activate at e
  dsimp only at e
  split at e
  · simp only [Option.some.injEq] at e
    rw [← e]
    repeat' first
      | with_reducible assumption
      | with_reducible apply State.fwEvent_keeps
      | with_reducible apply State.bootWrite_keeps
      | fail_if_no_progress with_reducible apply State.Keeps.mk'
  · cases e

theorem State.confirm_keeps {z : State} (s : State) (hk : State.Keeps z s) (u : State) (e : State.confirm s = some u) :
    State.Keeps z u := by
  unfold State.confirm at e
  dsimp only at e
  split at e
  · cases e
  · simp only [Option.some.injEq] at e
    rw [← e]
    repeat' first
      | with_reducible assumption
      | with_reducible apply State.lifeCount_keeps
      | with_reducible apply State.fwEvent_keeps
      | with_reducible apply State.bootWrite_keeps
      | with_reducible apply State.setFld_keeps
      | with_reducible apply State.setFlag_keeps
      | fail_if_no_progress with_reducible apply State.Keeps.mk'

theorem State.coldRestart_keeps {z : State} (s : State) (hk : State.Keeps z s) :
    State.Keeps z (State.coldRestart s) := by
  unfold State.coldRestart
  repeat' first
    | with_reducible assumption
    | with_reducible apply State.coldReset_keeps
    | with_reducible apply State.lifeFlush_keeps
    | with_reducible apply State.stageZero_keeps

theorem fwCtl_keeps  : RegEffect.Keeps (fwCtl) := by
  intro z s req a b hk
  unfold fwCtl
  dsimp only [RegEffect.plain]
  repeat' first
    | with_reducible assumption
    | with_reducible refine RegEffect.Keeps.act (RegEffect.plain_keeps ) ?_
    | with_reducible refine State.Keeps.of_some (by assumption) (fun u e => State.activate_keeps _ ?_ u e)
    | with_reducible apply State.Keeps.getD (State.activate_keeps _ ?_)
    | with_reducible refine State.Keeps.of_some (by assumption) (fun u e => State.confirm_keeps _ ?_ u e)
    | with_reducible apply State.Keeps.getD (State.confirm_keeps _ ?_)
    | with_reducible apply State.coldRestart_keeps
    | with_reducible apply State.updateCancel_keeps
    | fail_if_no_progress with_reducible apply State.Keeps.mk'
    | with_reducible apply State.Keeps.ite

theorem State.trialFails_keeps {z : State} (s : State) (hk : State.Keeps z s) :
    State.Keeps z (State.trialFails s) := by
  unfold State.trialFails
  repeat' first
    | with_reducible assumption
    | with_reducible apply State.fwEvent_keeps
    | with_reducible apply State.coldRestart_keeps

theorem State.rebuildRecs_keeps {z : State} (s : State) (mask : Nat) (hk : State.Keeps z s) :
    State.Keeps z (State.rebuildRecs s mask) := by
  unfold State.rebuildRecs
  repeat' first
    | with_reducible assumption
    | with_reducible apply State.fwEvent_keeps
    | fail_if_no_progress with_reducible apply State.Keeps.mk'
    | with_reducible apply State.Keeps.ite
    | with_reducible apply State.Keeps.foldl
    | with_reducible apply State.Keeps.foldlFst
    | with_reducible apply State.Keeps.foldlSnd
    | intro _
    | split
    | dsimp only

theorem State.bootSlot_keeps {z : State} (s : State) (n : Nat) (trial : Bool) (hk : State.Keeps z s) :
    State.Keeps z (State.bootSlot s n trial) := by
  unfold State.bootSlot
  repeat' first
    | with_reducible assumption
    | with_reducible apply State.setFlag_keeps
    | with_reducible apply State.showBoot_keeps
    | with_reducible apply State.setFld_keeps
    | fail_if_no_progress with_reducible apply State.Keeps.mk'

theorem State.recovery_keeps {z : State} (s : State) (hk : State.Keeps z s) :
    State.Keeps z (State.recovery s) := by
  unfold State.recovery
  repeat' first
    | with_reducible assumption
    | with_reducible apply State.setFld_keeps
    | with_reducible apply State.fwEvent_keeps

theorem State.rollBack_keeps {z : State} (s : State) (hk : State.Keeps z s) :
    State.Keeps z (State.rollBack s) := by
  unfold State.rollBack
  repeat' first
    | with_reducible assumption
    | with_reducible apply State.bootWrite_keeps
    | with_reducible apply State.fwEvent_keeps
    | with_reducible apply State.lifeCount_keeps

theorem State.bootActive_keeps {z : State} (s : State) (badActive : Bool) (badOther : Bool) (hk : State.Keeps z s) :
    State.Keeps z (State.bootActive s badActive badOther) := by
  unfold State.bootActive
  repeat' first
    | with_reducible assumption
    | with_reducible apply State.bootWrite_keeps
    | with_reducible apply State.recovery_keeps
    | with_reducible apply State.fwEvent_keeps
    | with_reducible apply State.bootSlot_keeps
    | fail_if_no_progress with_reducible apply State.Keeps.mk'
    | with_reducible apply State.Keeps.ite
    | with_reducible apply State.Keeps.foldl
    | with_reducible apply State.Keeps.foldlFst
    | with_reducible apply State.Keeps.foldlSnd
    | intro _

theorem State.boot_keeps {z : State} (s : State) (badTrial : Bool) (badActive : Bool) (badOther : Bool) (hk : State.Keeps z s) :
    State.Keeps z (State.boot s badTrial badActive badOther) := by
  unfold State.boot
  repeat' first
    | with_reducible assumption
    | with_reducible apply State.bootActive_keeps
    | with_reducible apply State.bootWrite_keeps
    | with_reducible apply State.recovery_keeps
    | with_reducible apply State.rollBack_keeps
    | with_reducible apply State.fwEvent_keeps
    | with_reducible apply State.bootSlot_keeps
    | fail_if_no_progress with_reducible apply State.Keeps.mk'
    | with_reducible apply State.Keeps.ite
    | with_reducible apply State.Keeps.foldl
    | with_reducible apply State.Keeps.foldlFst
    | with_reducible apply State.Keeps.foldlSnd
    | intro _

theorem State.identity_keeps {z : State} (s : State) (hk : State.Keeps z s) :
    State.Keeps z (State.identity s) := by
  unfold State.identity
  repeat' first
    | with_reducible assumption
    | with_reducible apply State.setReg_keeps
    | with_reducible apply State.setFld_keeps
    | with_reducible apply State.setDom_keeps
    | fail_if_no_progress with_reducible apply State.Keeps.mk'
    | with_reducible apply State.Keeps.ite
    | with_reducible apply State.Keeps.foldl
    | with_reducible apply State.Keeps.foldlFst
    | with_reducible apply State.Keeps.foldlSnd
    | intro _
    | split
    | dsimp only

theorem State.applyRepair_keeps {z : State} (s : State) (kind : Nat) (t : List Nat) (hk : State.Keeps z s) :
    State.Keeps z (State.applyRepair s kind t) := by
  unfold State.applyRepair
  repeat' first
    | with_reducible assumption
    | with_reducible apply State.setFlag_keeps
    | with_reducible apply State.setFld_keeps
    | with_reducible apply State.setDom_keeps
    | with_reducible apply State.setK_keeps
    | with_reducible apply State.setSkips_keeps
    | fail_if_no_progress with_reducible apply State.Keeps.mk'
    | with_reducible apply State.Keeps.ite
    | with_reducible apply State.Keeps.foldl
    | with_reducible apply State.Keeps.foldlFst
    | with_reducible apply State.Keeps.foldlSnd
    | intro _
    | split

theorem State.overlay_keeps {z : State} (s : State) (hk : State.Keeps z s) :
    State.Keeps z (State.overlay s) := by
  unfold State.overlay
  repeat' first
    | with_reducible assumption
    | with_reducible apply State.applyRepair_keeps
    | with_reducible apply State.capUpdate_keeps
    | with_reducible apply State.showSpares_keeps
    | with_reducible apply State.identity_keeps
    | fail_if_no_progress with_reducible apply State.Keeps.mk'
    | with_reducible apply State.Keeps.ite
    | with_reducible apply State.Keeps.foldl
    | with_reducible apply State.Keeps.foldlFst
    | with_reducible apply State.Keeps.foldlSnd
    | intro _

theorem State.placeLogical_keeps {z : State} (s : State) (m : List (Option Nat)) (n : Nat) (hk : State.Keeps z s) :
    State.Keeps z (State.placeLogical s m n).1 := by
  unfold State.placeLogical
  repeat' first
    | with_reducible assumption
    | with_reducible apply State.logAdd_keeps
    | fail_if_no_progress with_reducible apply State.Keeps.mk'
    | with_reducible apply State.Keeps.ite
    | with_reducible apply State.Keeps.foldl
    | with_reducible apply State.Keeps.foldlFst
    | with_reducible apply State.Keeps.foldlSnd
    | intro _
    | split
    | dsimp only

theorem State.buildMap_keeps {z : State} (s : State) (hk : State.Keeps z s) :
    State.Keeps z (State.buildMap s).1 := by
  unfold State.buildMap
  repeat' first
    | with_reducible assumption
    | with_reducible apply State.setMap_keeps
    | with_reducible apply State.placeLogical_keeps
    | with_reducible refine State.Keeps.of_fst (by assumption) (State.placeLogical_keeps _ _ _ ?_)
    | with_reducible apply State.showSpares_keeps
    | fail_if_no_progress with_reducible apply State.Keeps.mk'
    | with_reducible apply State.Keeps.ite
    | with_reducible apply State.Keeps.foldl
    | with_reducible apply State.Keeps.foldlFst
    | with_reducible apply State.Keeps.foldlSnd
    | intro _

theorem State.buildHbm_keeps {z : State} (s : State) (hk : State.Keeps z s) :
    State.Keeps z (State.buildHbm s) := by
  unfold State.buildHbm
  repeat' first
    | with_reducible assumption
    | with_reducible apply State.setFlag_keeps
    | with_reducible apply State.setReg64_keeps
    | with_reducible apply State.logAdd_keeps
    | with_reducible apply State.postDev_keeps
    | fail_if_no_progress with_reducible apply State.Keeps.mk'
    | with_reducible apply State.Keeps.ite
    | with_reducible apply State.Keeps.foldl
    | with_reducible apply State.Keeps.foldlFst
    | with_reducible apply State.Keeps.foldlSnd
    | intro _

theorem State.hardenRows_keeps {z : State} (s : State) (hk : State.Keeps z s) :
    State.Keeps z (State.hardenRows s) := by
  unfold State.hardenRows
  repeat' first
    | with_reducible assumption
    | with_reducible apply State.logAdd_keeps
    | fail_if_no_progress with_reducible apply State.Keeps.mk'
    | with_reducible apply State.Keeps.ite
    | with_reducible apply State.Keeps.foldl
    | with_reducible apply State.Keeps.foldlFst
    | with_reducible apply State.Keeps.foldlSnd
    | intro _

theorem State.loadLibrary_keeps {z : State} (s : State) (hk : State.Keeps z s) :
    State.Keeps z (State.loadLibrary s) := by
  unfold State.loadLibrary
  repeat' first
    | with_reducible assumption
    | with_reducible apply State.setReg_keeps
    | with_reducible apply State.setReg64_keeps
    | with_reducible apply State.wrBytes_keeps
    | fail_if_no_progress with_reducible apply State.Keeps.mk'
    | with_reducible apply State.Keeps.ite
    | with_reducible apply State.Keeps.foldl
    | with_reducible apply State.Keeps.foldlFst
    | with_reducible apply State.Keeps.foldlSnd
    | intro _
    | split

theorem State.arraysAfter_keeps {z : State} (s : State) (passed : Nat) (stage : Nat) (hk : State.Keeps z s) :
    State.Keeps z (State.arraysAfter s passed stage).1 := by
  unfold State.arraysAfter
  repeat' first
    | with_reducible assumption
    | with_reducible apply State.buildMap_keeps
    | with_reducible refine State.Keeps.of_fst (by assumption) (State.buildMap_keeps _ ?_)
    | with_reducible apply State.retireArray_keeps
    | fail_if_no_progress with_reducible apply State.Keeps.mk'
    | with_reducible apply State.Keeps.ite
    | with_reducible apply State.Keeps.foldl
    | with_reducible apply State.Keeps.foldlFst
    | with_reducible apply State.Keeps.foldlSnd
    | intro _

theorem State.pinApplies_keeps {z : State} (s : State) (hk : State.Keeps z s) :
    State.Keeps z (State.pinApplies s) := by
  unfold State.pinApplies
  repeat' first
    | with_reducible assumption
    | with_reducible apply State.rackChange_keeps
    | with_reducible apply State.setFlag_keeps
    | fail_if_no_progress with_reducible apply State.Keeps.mk'
    | with_reducible apply State.Keeps.ite
    | with_reducible apply State.Keeps.foldl
    | with_reducible apply State.Keeps.foldlFst
    | with_reducible apply State.Keeps.foldlSnd
    | intro _
    | split
    | dsimp only

theorem State.dispatchers_keeps {z : State} (s : State) (hk : State.Keeps z s) :
    State.Keeps z (State.dispatchers s) := by
  unfold State.dispatchers
  repeat' first
    | with_reducible assumption
    | with_reducible apply State.setFlag_keeps
    | fail_if_no_progress with_reducible apply State.Keeps.mk'
    | with_reducible apply State.Keeps.ite
    | with_reducible apply State.Keeps.foldl
    | with_reducible apply State.Keeps.foldlFst
    | with_reducible apply State.Keeps.foldlSnd
    | intro _
    | split
    | dsimp only

theorem State.ready_keeps {z : State} (s : State) (hk : State.Keeps z s) :
    State.Keeps z (State.ready s) := by
  unfold State.ready
  repeat' first
    | with_reducible assumption
    | with_reducible apply State.pinApplies_keeps
    | with_reducible apply State.dispatchers_keeps
    | with_reducible apply State.setReg_keeps
    | with_reducible apply State.setFlag_keeps
    | with_reducible apply State.setFld_keeps
    | with_reducible apply State.brpEvent_keeps
    | with_reducible apply State.dispatch_keeps
    | with_reducible apply State.lifeCount_keeps
    | fail_if_no_progress with_reducible apply State.Keeps.mk'
    | with_reducible apply State.Keeps.ite
    | with_reducible apply State.Keeps.foldl
    | with_reducible apply State.Keeps.foldlFst
    | with_reducible apply State.Keeps.foldlSnd
    | intro _
    | intro _
    | split
    | dsimp only

theorem State.logCopies_keeps {z : State} (s : State) (bad : Nat) (hk : State.Keeps z s) :
    State.Keeps z (State.logCopies s bad) := by
  unfold State.logCopies
  repeat' first
    | with_reducible assumption
    | with_reducible apply State.setFlag_keeps
    | with_reducible apply State.setFld_keeps
    | with_reducible apply State.brpEvent_keeps
    | fail_if_no_progress with_reducible apply State.Keeps.mk'
    | with_reducible apply State.Keeps.ite
    | with_reducible apply State.Keeps.foldl
    | with_reducible apply State.Keeps.foldlFst
    | with_reducible apply State.Keeps.foldlSnd
    | intro _

theorem State.failLink_keeps {z : State} (s : State) (k : Nat) (field : Nat) (hk : State.Keeps z s) :
    State.Keeps z (State.failLink s k field) := by
  unfold State.failLink
  repeat' first
    | with_reducible assumption
    | with_reducible apply State.setLink_keeps
    | with_reducible apply State.postDev_keeps
    | fail_if_no_progress with_reducible apply State.Keeps.mk'
    | with_reducible apply State.Keeps.ite
    | with_reducible apply State.Keeps.foldl
    | with_reducible apply State.Keeps.foldlFst
    | with_reducible apply State.Keeps.foldlSnd
    | intro _
    | split
    | dsimp only

theorem State.retireLink_keeps {z : State} (s : State) (k : Nat) (hk : State.Keeps z s) :
    State.Keeps z (State.retireLink s k) := by
  unfold State.retireLink
  repeat' first
    | with_reducible assumption
    | with_reducible apply State.failLink_keeps
    | fail_if_no_progress with_reducible apply State.Keeps.mk'
    | with_reducible apply State.Keeps.ite
    | with_reducible apply State.Keeps.foldl
    | with_reducible apply State.Keeps.foldlFst
    | with_reducible apply State.Keeps.foldlSnd
    | intro _
    | split
    | dsimp only

theorem State.seamsTrained_keeps {z : State} (s : State) (l : List SeamLane) (result : Nat) (hk : State.Keeps z s) :
    State.Keeps z (State.seamsTrained s l result).1 := by
  unfold State.seamsTrained
  repeat' first
    | with_reducible assumption
    | with_reducible apply State.lifeCount_keeps
    | with_reducible apply State.applyRepair_keeps
    | with_reducible apply State.logAdd_keeps
    | with_reducible apply State.setFld_keeps
    | with_reducible apply State.retireLink_keeps
    | with_reducible apply State.setFlag_keeps
    | fail_if_no_progress with_reducible apply State.Keeps.mk'
    | with_reducible apply State.Keeps.ite
    | with_reducible apply State.Keeps.foldl
    | with_reducible apply State.Keeps.foldlFst
    | with_reducible apply State.Keeps.foldlSnd
    | intro _
    | split
    | dsimp only

theorem State.stepToFabric_keeps {z : State} (s : State) (hk : State.Keeps z s) :
    State.Keeps z (State.stepToFabric s) := by
  unfold State.stepToFabric
  repeat' first
    | with_reducible assumption
    | with_reducible apply State.stepTo_keeps
    | fail_if_no_progress with_reducible apply State.Keeps.mk'
    | with_reducible apply State.Keeps.ite
    | with_reducible apply State.Keeps.foldl
    | with_reducible apply State.Keeps.foldlFst
    | with_reducible apply State.Keeps.foldlSnd
    | intro _
    | split
    | dsimp only

theorem State.meshStage_keeps {z : State} (s : State) (mesh : Nat) (hk : State.Keeps z s) :
    State.Keeps z (State.meshStage s mesh).1 := by
  unfold State.meshStage
  repeat' first
    | with_reducible assumption
    | with_reducible apply State.setStripClock_keeps
    | with_reducible apply State.buildMap_keeps
    | with_reducible refine State.Keeps.of_fst (by assumption) (State.buildMap_keeps _ ?_)
    | with_reducible apply State.retireArray_keeps
    | fail_if_no_progress with_reducible apply State.Keeps.mk'
    | with_reducible apply State.Keeps.ite
    | with_reducible apply State.Keeps.foldl
    | with_reducible apply State.Keeps.foldlFst
    | with_reducible apply State.Keeps.foldlSnd
    | intro _
    | split
    | dsimp only

theorem State.logBadSites_keeps {z : State} (s : State) (hk : State.Keeps z s) :
    State.Keeps z (State.logBadSites s) := by
  unfold State.logBadSites
  repeat' first
    | with_reducible assumption
    | with_reducible apply State.logAdd_keeps
    | fail_if_no_progress with_reducible apply State.Keeps.mk'
    | with_reducible apply State.Keeps.ite
    | with_reducible apply State.Keeps.foldl
    | with_reducible apply State.Keeps.foldlFst
    | with_reducible apply State.Keeps.foldlSnd
    | intro _
    | split
    | dsimp only

theorem State.ucieEvent_keeps {z : State} (s : State) (h : Nat) (k : Nat) (hk : State.Keeps z s) :
    State.Keeps z (State.ucieEvent s h k) := by
  unfold State.ucieEvent
  repeat' first
    | with_reducible assumption
    | with_reducible apply State.msixRaise_keeps
    | with_reducible apply State.postDev_keeps
    | fail_if_no_progress with_reducible apply State.Keeps.mk'
    | with_reducible apply State.Keeps.ite
    | with_reducible apply State.Keeps.foldl
    | with_reducible apply State.Keeps.foldlFst
    | with_reducible apply State.Keeps.foldlSnd
    | intro _
    | split
    | dsimp only

theorem State.stageRepair_keeps {z : State} (s : State) (st : Nat) (kind : Nat) (t : List Nat) (hk : State.Keeps z s) :
    State.Keeps z (State.stageRepair s st kind t) := by
  unfold State.stageRepair
  repeat' first
    | with_reducible assumption
    | with_reducible apply State.applyRepair_keeps
    | with_reducible apply State.logAdd_keeps
    | with_reducible apply State.ucieEvent_keeps
    | fail_if_no_progress with_reducible apply State.Keeps.mk'
    | with_reducible apply State.Keeps.ite
    | with_reducible apply State.Keeps.foldl
    | with_reducible apply State.Keeps.foldlFst
    | with_reducible apply State.Keeps.foldlSnd
    | intro _
    | split
    | dsimp only

theorem State.stageWork_keeps {z : State} (s : State) (st : Nat) (e : StageEnd) (hk : State.Keeps z s) :
    State.Keeps z (State.stageWork s st e).1 := by
  unfold State.stageWork
  repeat' first
    | with_reducible assumption
    | with_reducible apply State.stepToFabric_keeps
    | with_reducible refine State.Keeps.of_fst (by assumption) (State.meshStage_keeps _ _ ?_)
    | with_reducible apply State.meshStage_keeps
    | with_reducible apply State.logBadSites_keeps
    | with_reducible apply State.stageRepair_keeps
    | with_reducible apply State.logCopies_keeps
    | with_reducible apply State.logAdd_keeps
    | with_reducible apply State.setFld_keeps
    | with_reducible apply State.applyRepair_keeps
    | with_reducible apply State.rebuildRecs_keeps
    | with_reducible apply State.seamsTrained_keeps
    | with_reducible apply State.hardenRows_keeps
    | with_reducible apply State.boot_keeps
    | with_reducible apply State.buildHbm_keeps
    | with_reducible apply State.overlay_keeps
    | with_reducible apply State.arraysAfter_keeps
    | with_reducible refine State.Keeps.of_fst (by assumption) (State.arraysAfter_keeps _ _ _ ?_)
    | with_reducible apply State.loadLibrary_keeps
    | fail_if_no_progress with_reducible apply State.Keeps.mk'
    | with_reducible apply State.Keeps.ite
    | with_reducible apply State.Keeps.foldl
    | with_reducible apply State.Keeps.foldlFst
    | with_reducible apply State.Keeps.foldlSnd
    | intro _
    | split

theorem State.setI3c_keeps {z : State} (s : State) (t : Nat) (x : I3cTarget) (hk : State.Keeps z s) :
    State.Keeps z (State.setI3c s t x) := by
  unfold State.setI3c
  repeat' first
    | with_reducible assumption
    | fail_if_no_progress with_reducible apply State.Keeps.mk'

theorem State.direct_keeps {z : State} (s : State) (t : Nat) (f : State → State) (hk : State.Keeps z s) (hf : ∀ s1, State.Keeps z s1 → State.Keeps z (f s1)) :
    Out.Keeps z (State.direct s t f) := by
  unfold State.direct
  repeat' first
    | with_reducible assumption
    | with_reducible apply Out.keeps_next
    | with_reducible apply State.answer_keeps
    | with_reducible apply hf
    | fail_if_no_progress with_reducible apply State.Keeps.mk'
    | with_reducible apply State.Keeps.ite
    | with_reducible apply State.Keeps.foldl
    | with_reducible apply State.Keeps.foldlFst
    | with_reducible apply State.Keeps.foldlSnd
    | intro _

theorem State.addrEvent_keeps {z : State} (s : State) (t : Nat) (addr : Nat) (hk : State.Keeps z s) :
    State.Keeps z (State.addrEvent s t addr) := by
  unfold State.addrEvent
  repeat' first
    | with_reducible assumption
    | with_reducible apply State.mgtEvent_keeps

theorem State.badMessage_keeps {z : State} (s : State) (req : Requester) (code : Nat) (hk : State.Keeps z s) :
    State.Keeps z (State.badMessage s req code) := by
  unfold State.badMessage
  repeat' first
    | with_reducible assumption
    | with_reducible apply State.answer_keeps
    | with_reducible apply State.mgtEvent_keeps

theorem State.sensorNotices_keeps {z : State} (s : State) (hk : State.Keeps z s) :
    State.Keeps z (State.sensorNotices s) := by
  unfold State.sensorNotices
  repeat' first
    | with_reducible assumption
    | with_reducible apply State.emit_keeps
    | fail_if_no_progress with_reducible apply State.Keeps.mk'
    | with_reducible apply State.Keeps.ite
    | with_reducible apply State.Keeps.foldl
    | with_reducible apply State.Keeps.foldlFst
    | with_reducible apply State.Keeps.foldlSnd
    | intro _
    | split
    | dsimp only

theorem State.setSpdm_keeps {z : State} (s : State) (req : Requester) (n : Nat) (hk : State.Keeps z s) :
    State.Keeps z (State.setSpdm s req n) := by
  unfold State.setSpdm
  repeat' first
    | with_reducible assumption
    | fail_if_no_progress with_reducible apply State.Keeps.mk'

theorem State.testEvent_keeps {z : State} (s : State) (code : Nat) (sev : Nat) (result : Nat) (unit : Nat) (strip : Nat) (kind : Nat) (version : Nat) (fails : Nat) (row : Nat) (col : Nat) (hk : State.Keeps z s) :
    State.Keeps z (State.testEvent s code sev result unit strip kind version fails row col) := by
  unfold State.testEvent
  repeat' first
    | with_reducible assumption
    | with_reducible apply State.postDev_keeps

theorem pyrCtl_keeps  : RegEffect.Keeps (pyrCtl) := by
  intro z s req a b hk
  unfold pyrCtl
  dsimp only [RegEffect.plain]
  repeat' first
    | with_reducible assumption
    | with_reducible refine RegEffect.Keeps.act (RegEffect.plain_keeps ) ?_
    | with_reducible apply State.queuePyrite_keeps
    | fail_if_no_progress with_reducible apply State.Keeps.mk'
    | with_reducible apply State.Keeps.ite

theorem State.testStrips_keeps {z : State} (s : State) (r : PyrRun) (hk : State.Keeps z s) :
    State.Keeps z (State.testStrips s r) := by
  unfold State.testStrips
  repeat' first
    | with_reducible assumption
    | with_reducible apply State.wake_keeps
    | with_reducible apply State.setDom_keeps
    | fail_if_no_progress with_reducible apply State.Keeps.mk'
    | with_reducible apply State.Keeps.ite
    | with_reducible apply State.Keeps.foldl
    | with_reducible apply State.Keeps.foldlFst
    | with_reducible apply State.Keeps.foldlSnd
    | intro _

theorem State.repairEnd_keeps {z : State} (s : State) (result : Nat) (hk : State.Keeps z s) :
    State.Keeps z (State.repairEnd s result) := by
  unfold State.repairEnd
  repeat' first
    | with_reducible assumption
    | with_reducible apply State.setFld_keeps
    | fail_if_no_progress with_reducible apply State.Keeps.mk'

theorem State.repairMap_keeps {z : State} (s : State) (cmd : Nat) (p : Nat) (target : List Nat) (hk : State.Keeps z s) :
    State.Keeps z (State.repairMap s cmd p target) := by
  unfold State.repairMap
  repeat' first
    | with_reducible assumption
    | with_reducible apply State.logAdd_keeps
    | with_reducible apply State.applyRepair_keeps
    | with_reducible apply State.brpEvent_keeps
    | with_reducible apply State.repairEnd_keeps

theorem State.repairRun_keeps {z : State} (s : State) (hk : State.Keeps z s) :
    State.Keeps z (State.repairRun s) := by
  unfold State.repairRun
  repeat' first
    | with_reducible assumption
    | with_reducible apply State.logAdd_keeps
    | with_reducible apply State.repairMap_keeps
    | with_reducible apply State.setFld_keeps
    | with_reducible apply State.retireArray_keeps
    | with_reducible apply State.repairEnd_keeps
    | with_reducible apply State.drawn_keeps
    | fail_if_no_progress with_reducible apply State.Keeps.mk'
    | with_reducible apply State.Keeps.ite
    | with_reducible apply State.Keeps.foldl
    | with_reducible apply State.Keeps.foldlFst
    | with_reducible apply State.Keeps.foldlSnd
    | intro _

theorem repCmd_keeps  : RegEffect.Keeps (repCmd) := by
  intro z s req a b hk
  unfold repCmd
  dsimp only [RegEffect.plain]
  repeat' first
    | with_reducible assumption
    | with_reducible apply State.repairRun_keeps
    | with_reducible refine RegEffect.Keeps.act (RegEffect.plain_keeps ) ?_
    | fail_if_no_progress with_reducible apply State.Keeps.mk'
    | with_reducible apply State.Keeps.ite

theorem State.pyrPass_keeps {z : State} (s : State) (p : Nat) (hk : State.Keeps z s) :
    State.Keeps z (State.pyrPass s p) := by
  unfold State.pyrPass
  repeat' first
    | with_reducible assumption
    | with_reducible apply State.setFlag_keeps
    | with_reducible apply State.setFld_keeps
    | fail_if_no_progress with_reducible apply State.Keeps.mk'
    | with_reducible apply State.Keeps.ite
    | with_reducible apply State.Keeps.foldl
    | with_reducible apply State.Keeps.foldlFst
    | with_reducible apply State.Keeps.foldlSnd
    | intro _

theorem State.stripsOn_keeps {z : State} (s : State) (p : Nat) (hk : State.Keeps z s) :
    State.Keeps z (State.stripsOn s p) := by
  unfold State.stripsOn
  repeat' first
    | with_reducible assumption
    | with_reducible apply State.setDom_keeps
    | with_reducible apply State.stripsOff_keeps
    | fail_if_no_progress with_reducible apply State.Keeps.mk'
    | with_reducible apply State.Keeps.ite
    | with_reducible apply State.Keeps.foldl
    | with_reducible apply State.Keeps.foldlFst
    | with_reducible apply State.Keeps.foldlSnd
    | intro _

theorem kakCtl_keeps (sigOk : Bool) : RegEffect.Keeps (kakCtl sigOk) := by
  intro z s req a b hk
  unfold kakCtl
  dsimp only [RegEffect.plain]
  repeat' first
    | with_reducible assumption
    | with_reducible refine RegEffect.Keeps.act (RegEffect.plain_keeps ) ?_
    | with_reducible apply State.setFld_keeps
    | with_reducible apply State.testEvent_keeps
    | with_reducible apply State.lifeCount_keeps
    | fail_if_no_progress with_reducible apply State.Keeps.mk'
    | with_reducible apply State.Keeps.ite
    | with_reducible apply State.Keeps.foldl
    | with_reducible apply State.Keeps.foldlFst
    | with_reducible apply State.Keeps.foldlSnd
    | intro _

theorem State.declareHang_keeps {z : State} (s : State) (cycle : List (Nat × Nat)) (hk : State.Keeps z s) :
    State.Keeps z (State.declareHang s cycle) := by
  unfold State.declareHang
  repeat' first
    | with_reducible assumption
    | with_reducible apply State.post_keeps
    | with_reducible apply State.ctxFault_keeps
    | with_reducible apply State.setFlag_keeps
    | with_reducible apply State.bump_keeps
    | with_reducible apply State.postDev_keeps
    | with_reducible apply State.autoReset_keeps
    | fail_if_no_progress with_reducible apply State.Keeps.mk'
    | with_reducible apply State.Keeps.ite
    | with_reducible apply State.Keeps.foldl
    | with_reducible apply State.Keeps.foldlFst
    | with_reducible apply State.Keeps.foldlSnd
    | intro _

theorem keepReg_keeps (f : Nat → Nat) : RegEffect.Keeps (keepReg f) := by
  intro z s req a b hk
  unfold keepReg
  dsimp only [RegEffect.plain]
  repeat' first
    | with_reducible assumption

theorem mmuInvReg_keeps  : RegEffect.Keeps (mmuInvReg) := by
  intro z s req a b hk
  unfold mmuInvReg
  dsimp only [RegEffect.plain]
  repeat' first
    | with_reducible assumption
    | with_reducible refine RegEffect.Keeps.act (RegEffect.plain_keeps ) ?_
    | with_reducible apply State.mmuInv_keeps
    | fail_if_no_progress with_reducible apply State.Keeps.mk'
    | with_reducible apply State.Keeps.ite

theorem resumeReg_keeps  : RegEffect.Keeps (resumeReg) := by
  intro z s req a b hk
  unfold resumeReg
  dsimp only [RegEffect.plain]
  repeat' first
    | with_reducible assumption
    | with_reducible refine RegEffect.Keeps.act (RegEffect.plain_keeps ) ?_
    | with_reducible apply State.resumeRetry_keeps
    | with_reducible apply State.resumeAbort_keeps
    | fail_if_no_progress with_reducible apply State.Keeps.mk'
    | with_reducible apply State.Keeps.ite
    | with_reducible apply State.Keeps.foldl
    | with_reducible apply State.Keeps.foldlFst
    | with_reducible apply State.Keeps.foldlSnd
    | intro _

theorem allocReg_keeps (c : Nat) : RegEffect.Keeps (allocReg c) := by
  intro z s req a b hk
  unfold allocReg
  dsimp only [RegEffect.plain]
  repeat' first
    | with_reducible assumption

theorem ringReg_keeps (c : Nat) : RegEffect.Keeps (ringReg c) := by
  intro z s req a b hk
  unfold ringReg
  dsimp only [RegEffect.plain]
  repeat' first
    | with_reducible assumption
    | with_reducible refine RegEffect.Keeps.act (bindingReg_keeps _) ?_

theorem ctxEffect_keeps (base : Nat) (i : Nat) (e : RegEffect) (he : ctxEffect base i = some e) : e.Keeps := by
  revert e
  unfold ctxEffect
  refine RegEffect.keeps_some_ite (ctxCtl_keeps i) ?_
  refine RegEffect.keeps_some_ite (ringReg_keeps i) ?_
  refine RegEffect.keeps_some_ite (bindingReg_keeps i) ?_
  refine RegEffect.keeps_some_ite (keepReg_keeps _) ?_
  refine RegEffect.keeps_some_ite (bwMinReg_keeps i) ?_
  refine RegEffect.keeps_some_ite (keepReg_keeps _) ?_
  refine RegEffect.keeps_some_ite (chkRingReg_keeps i) ?_
  refine RegEffect.keeps_some_ite (allocReg_keeps i) ?_
  refine RegEffect.keeps_some_ite (doorbellReg_keeps i) ?_
  refine RegEffect.keeps_some_ite (evtRdReg_keeps i) ?_
  refine RegEffect.keeps_some_ite (evtStatusReg_keeps i) ?_
  refine RegEffect.keeps_some_ite (keepReg_keeps _) ?_
  refine RegEffect.keeps_some_ite (cpCtl_keeps i) ?_
  intro e h
  cases h

theorem devEffect_keeps (base : Nat) (i : Nat) : RegEffect.Keeps (devEffect base i) := by
  unfold devEffect
  refine RegEffect.keeps_ite (quartzCtl_keeps) ?_
  refine RegEffect.keeps_ite (fabCtlEffect_keeps) ?_
  refine RegEffect.keeps_ite (flintInject_keeps) ?_
  refine RegEffect.keeps_ite (capGrantReg_keeps) ?_
  refine RegEffect.keeps_ite (rackReg_keeps) ?_
  refine RegEffect.keeps_ite (poolBoundsReg_keeps) ?_
  refine RegEffect.keeps_ite (keepReg_keeps _) ?_
  refine RegEffect.keeps_ite (keepReg_keeps _) ?_
  refine RegEffect.keeps_ite (vminReg_keeps i) ?_
  refine RegEffect.keeps_ite (rdeReg_keeps) ?_
  refine RegEffect.keeps_ite (pyrCtl_keeps) ?_
  refine RegEffect.keeps_ite (kakCtl_keeps true) ?_
  refine RegEffect.keeps_ite (partCtl_keeps i) ?_
  refine RegEffect.keeps_ite (keepReg_keeps _) ?_
  refine RegEffect.keeps_ite (evtRdReg_keeps devRing) ?_
  refine RegEffect.keeps_ite (evtStatusReg_keeps devRing) ?_
  refine RegEffect.keeps_ite (keepReg_keeps _) ?_
  refine RegEffect.keeps_ite (mmuInvReg_keeps) ?_
  refine RegEffect.keeps_ite (resumeReg_keeps) ?_
  refine RegEffect.keeps_ite (fabPortCtl_keeps i) ?_
  refine RegEffect.keeps_ite (schedEntReg_keeps i) ?_
  refine RegEffect.keeps_ite (fabNodeReg_keeps) ?_
  refine RegEffect.keeps_ite (keepReg_keeps _) ?_
  refine RegEffect.keeps_ite (vfBudgetReg_keeps i) ?_
  refine RegEffect.keeps_ite (brpReset_keeps true true) ?_
  refine RegEffect.keeps_ite (repCmd_keeps) ?_
  refine RegEffect.keeps_ite (claimCtl_keeps) ?_
  refine RegEffect.keeps_ite (fwCtl_keeps) ?_
  exact RegEffect.plain_keeps

theorem effectAt_keeps (off : Nat) : (effectAt off).Keeps := by
  unfold effectAt
  split
  · exact RegEffect.plain_keeps
  · dsimp only
    split <;>
    · cases h : ctxEffect _ _ with
      | none => exact devEffect_keeps _ _
      | some e => exact ctxEffect_keeps _ _ e h

theorem State.budgetNote_keeps {z : State} (s : State) (off : Nat) (code : Option Nat) (hk : State.Keeps z s) :
    State.Keeps z (State.budgetNote s off code) := by
  unfold State.budgetNote
  repeat' first
    | with_reducible assumption
    | with_reducible apply State.hostEvent_keeps
    | fail_if_no_progress with_reducible apply State.Keeps.mk'
    | with_reducible apply State.Keeps.ite
    | with_reducible apply State.Keeps.foldl
    | with_reducible apply State.Keeps.foldlFst
    | with_reducible apply State.Keeps.foldlSnd
    | intro _
    | split

theorem State.loWrite_keeps {z : State} (s : State) (req : Requester) (lo : Nat) (v : Word) (hk : State.Keeps z s) :
    State.Keeps z (State.loWrite s req lo v) := by
  unfold State.loWrite
  repeat' first
    | with_reducible assumption
    | fail_if_no_progress with_reducible apply State.Keeps.mk'
    | with_reducible apply State.Keeps.ite
    | with_reducible apply State.Keeps.foldl
    | with_reducible apply State.Keeps.foldlFst
    | with_reducible apply State.Keeps.foldlSnd
    | intro _

end Sys2Proof.Machine
end

