-- ==== Sys2Proof/Laws/KeepH.lean ====
section
/-!
SUPPORT. What the shared operations of RegFile, Idle, Replay, MemEvents, SyncOps, FwOps, Vector, ArrayMode, Time, Trunk, QueueOps keep: one lemma each, the relation of Laws/Keep.
-/
namespace Sys2Proof.Machine

theorem State.claimIdWrite_keeps {z : State} (s : State) (req : Requester) (v : Nat) (hk : State.Keeps z s) :
    State.Keeps z (State.claimIdWrite s req v) := by
  unfold State.claimIdWrite
  repeat' first
    | with_reducible assumption
    | fail_if_no_progress with_reducible apply State.Keeps.mk'
    | with_reducible apply State.Keeps.ite
    | with_reducible apply State.Keeps.foldl
    | with_reducible apply State.Keeps.foldlFst
    | with_reducible apply State.Keeps.foldlSnd
    | intro _

theorem State.hiWrite_keeps {z : State} (s : State) (req : Requester) (lo : Nat) (v : Word) (hk : State.Keeps z s) :
    State.Keeps z (State.hiWrite s req lo v).1 := by
  unfold State.hiWrite
  repeat' first
    | with_reducible assumption
    | with_reducible apply State.claimIdWrite_keeps
    | with_reducible apply State.pairWriteR_keeps
    | with_reducible apply State.setReg64_keeps
    | with_reducible apply effectAt_keeps
    | fail_if_no_progress with_reducible apply State.Keeps.mk'
    | with_reducible apply State.Keeps.ite
    | with_reducible apply State.Keeps.foldl
    | with_reducible apply State.Keeps.foldlFst
    | with_reducible apply State.Keeps.foldlSnd
    | intro _
    | split

theorem State.write32_keeps {z : State} (s : State) (req : Requester) (off : Nat) (v : Word) (hk : State.Keeps z s) :
    State.Keeps z (State.write32 s req off v).1 := by
  unfold State.write32
  repeat' first
    | with_reducible assumption
    | with_reducible apply State.loWrite_keeps
    | with_reducible apply State.hiWrite_keeps
    | with_reducible apply State.budgetNote_keeps
    | with_reducible apply State.regWriteR_keeps
    | with_reducible apply State.setReg_keeps
    | with_reducible apply effectAt_keeps
    | fail_if_no_progress with_reducible apply State.Keeps.mk'
    | with_reducible apply State.Keeps.ite
    | with_reducible apply State.Keeps.foldl
    | with_reducible apply State.Keeps.foldlFst
    | with_reducible apply State.Keeps.foldlSnd
    | intro _
    | split

theorem State.clearRc_keeps {z : State} (s : State) (off : Nat) (hk : State.Keeps z s) :
    State.Keeps z (State.clearRc s off) := by
  unfold State.clearRc
  repeat' first
    | with_reducible assumption
    | with_reducible apply State.setFld_keeps
    | fail_if_no_progress with_reducible apply State.Keeps.mk'
    | with_reducible apply State.Keeps.ite
    | with_reducible apply State.Keeps.foldl
    | with_reducible apply State.Keeps.foldlFst
    | with_reducible apply State.Keeps.foldlSnd
    | intro _
    | split

theorem State.dbgRead_keeps {z : State} (s : State) (off : Nat) (hk : State.Keeps z s) :
    State.Keeps z (State.dbgRead s off) := by
  unfold State.dbgRead
  repeat' first
    | with_reducible assumption
    | with_reducible apply State.setFlag_keeps
    | fail_if_no_progress with_reducible apply State.Keeps.mk'
    | with_reducible apply State.Keeps.ite

theorem State.readDrawn_keeps {z : State} (s : State) (off : Nat) (hk : State.Keeps z s) :
    State.Keeps z (State.readDrawn s off) := by
  unfold State.readDrawn
  repeat' first
    | with_reducible assumption
    | with_reducible apply State.drawn_keeps
    | fail_if_no_progress with_reducible apply State.Keeps.mk'
    | with_reducible apply State.Keeps.ite
    | with_reducible apply State.Keeps.foldl
    | with_reducible apply State.Keeps.foldlFst
    | with_reducible apply State.Keeps.foldlSnd
    | intro _
    | split

theorem State.read32_keeps {z : State} (s : State) (req : Requester) (off : Nat) (hk : State.Keeps z s) :
    State.Keeps z (State.read32 s req off).1 := by
  unfold State.read32
  repeat' first
    | with_reducible assumption
    | with_reducible apply State.dbgRead_keeps
    | with_reducible apply State.readDrawn_keeps
    | with_reducible apply State.clearRc_keeps
    | fail_if_no_progress with_reducible apply State.Keeps.mk'
    | with_reducible apply State.Keeps.ite
    | with_reducible apply State.Keeps.foldl
    | with_reducible apply State.Keeps.foldlFst
    | with_reducible apply State.Keeps.foldlSnd
    | intro _
    | split

theorem State.readAnswer_keeps {z : State} (s : State) (req : Requester) (off : Nat) (hk : State.Keeps z s) :
    State.Keeps z (State.readAnswer s req off) := by
  unfold State.readAnswer
  repeat' first
    | with_reducible assumption
    | with_reducible apply State.answer_keeps
    | with_reducible apply State.read32_keeps

theorem State.msixPut_keeps {z : State} (s : State) (h : Nat) (fn : Nat) (i : Nat) (v : Word) (hk : State.Keeps z s) :
    State.Keeps z (State.msixPut s h fn i v) := by
  unfold State.msixPut
  repeat' first
    | with_reducible assumption
    | with_reducible apply State.setHport_keeps
    | with_reducible apply State.msixFlush_keeps

theorem State.hostRead_keeps {z : State} (s : State) (h : Nat) (fn : Nat) (bar : Nat) (off : Nat) (hk : State.Keeps z s) :
    State.Keeps z (State.hostRead s h fn bar off).1 := by
  unfold State.hostRead
  repeat' first
    | with_reducible assumption
    | with_reducible apply State.read32_keeps
    | with_reducible refine State.Keeps.of_fst (by assumption) (State.read32_keeps _ _ _ ?_)
    | with_reducible apply State.unboundDrop_keeps
    | fail_if_no_progress with_reducible apply State.Keeps.mk'
    | with_reducible apply State.Keeps.ite
    | with_reducible apply State.Keeps.foldl
    | with_reducible apply State.Keeps.foldlFst
    | with_reducible apply State.Keeps.foldlSnd
    | intro _
    | split

theorem State.hostPut_keeps {z : State} (s : State) (h : Nat) (fn : Nat) (bar : Nat) (off : Nat) (v : Word) (hk : State.Keeps z s) :
    State.Keeps z (State.hostPut s h fn bar off v) := by
  unfold State.hostPut
  repeat' first
    | with_reducible assumption
    | with_reducible apply State.write32_keeps
    | with_reducible refine State.Keeps.of_fst (by assumption) (State.write32_keeps _ _ _ _ ?_)
    | with_reducible apply State.msixPut_keeps
    | with_reducible apply State.unboundDrop_keeps
    | fail_if_no_progress with_reducible apply State.Keeps.mk'
    | with_reducible apply State.Keeps.ite
    | with_reducible apply State.Keeps.foldl
    | with_reducible apply State.Keeps.foldlFst
    | with_reducible apply State.Keeps.foldlSnd
    | intro _
    | split

theorem State.idle_keeps {z : State} (s : State) (hk : State.Keeps z s) :
    State.Keeps z (State.idle s) := by
  unfold State.idle
  repeat' first
    | with_reducible assumption
    | with_reducible apply State.sensorNotices_keeps
    | with_reducible apply State.drainStores_keeps
    | with_reducible apply State.dispatch_keeps
    | fail_if_no_progress with_reducible apply State.Keeps.mk'
    | with_reducible apply State.Keeps.ite
    | with_reducible apply State.Keeps.foldl
    | with_reducible apply State.Keeps.foldlFst
    | with_reducible apply State.Keeps.foldlSnd
    | intro _

theorem State.modChain_keeps {z : State} (s : State) (p : Nat) (seq : Nat) (f : ChainRun → ChainRun) (hk : State.Keeps z s) :
    State.Keeps z (State.modChain s p seq f) := by
  unfold State.modChain
  repeat' first
    | with_reducible assumption
    | with_reducible apply State.modArr_keeps
    | fail_if_no_progress with_reducible apply State.Keeps.mk'
    | with_reducible apply State.Keeps.ite
    | with_reducible apply State.Keeps.foldl
    | with_reducible apply State.Keeps.foldlFst
    | with_reducible apply State.Keeps.foldlSnd
    | intro _
    | split
    | dsimp only

theorem State.thirdChain_keeps {z : State} (s : State) (p : Nat) (i : Nat) (q3 : Nat) (t : Tile) (ups : List (Nat × Nat × Nat)) (r : ChainRun) (op : ChainOp) (hk : State.Keeps z s) :
    State.Keeps z (State.thirdChain s p i q3 t ups r op) := by
  unfold State.thirdChain
  repeat' first
    | with_reducible assumption
    | with_reducible apply State.resolved_keeps
    | with_reducible apply State.strike_keeps
    | with_reducible apply State.modChain_keeps
    | with_reducible apply State.modArr_keeps
    | with_reducible apply State.chainPerform_keeps
    | with_reducible apply State.unresolve_keeps
    | fail_if_no_progress with_reducible apply State.Keeps.mk'
    | with_reducible apply State.Keeps.ite
    | with_reducible apply State.Keeps.foldl
    | with_reducible apply State.Keeps.foldlFst
    | with_reducible apply State.Keeps.foldlSnd
    | intro _
    | split
    | dsimp only

theorem State.scrubStacks_keeps {z : State} (s : State) (ecs : List (SiteId × Nat)) (rows : List (SiteId × Fin 64 × Word)) (hk : State.Keeps z s) :
    State.Keeps z (State.scrubStacks s ecs rows) := by
  unfold State.scrubStacks
  repeat' first
    | with_reducible assumption
    | with_reducible apply State.lifeCount_keeps
    | with_reducible apply State.logAdd_keeps
    | fail_if_no_progress with_reducible apply State.Keeps.mk'
    | with_reducible apply State.Keeps.ite
    | with_reducible apply State.Keeps.foldl
    | with_reducible apply State.Keeps.foldlFst
    | with_reducible apply State.Keeps.foldlSnd
    | intro _
    | split
    | dsimp only

theorem State.postCoreFault_keeps {z : State} (s : State) (p : Nat) (hk : State.Keeps z s) :
    State.Keeps z (State.postCoreFault s p) := by
  unfold State.postCoreFault
  repeat' first
    | with_reducible assumption
    | with_reducible apply State.faultRegs_keeps
    | with_reducible apply State.postCtx_keeps
    | fail_if_no_progress with_reducible apply State.Keeps.mk'
    | with_reducible apply State.Keeps.ite
    | with_reducible apply State.Keeps.foldl
    | with_reducible apply State.Keeps.foldlFst
    | with_reducible apply State.Keeps.foldlSnd
    | intro _
    | split
    | dsimp only

theorem State.thirdChains_keeps {z : State} (s : State) (p : Nat) (i : Nat) (q3 : Nat) (t : Tile) (ups : List (Nat × Nat × Nat)) (hk : State.Keeps z s) :
    State.Keeps z (State.thirdChains s p i q3 t ups) := by
  unfold State.thirdChains
  repeat' first
    | with_reducible assumption
    | with_reducible apply State.setTile_keeps
    | with_reducible apply State.thirdChain_keeps
    | fail_if_no_progress with_reducible apply State.Keeps.mk'
    | with_reducible apply State.Keeps.ite
    | with_reducible apply State.Keeps.foldl
    | with_reducible apply State.Keeps.foldlFst
    | with_reducible apply State.Keeps.foldlSnd
    | intro _
    | split
    | dsimp only

theorem State.takeOver_keeps {z : State} (s : State) (slot : Nat) (hk : State.Keeps z s) :
    State.Keeps z (State.takeOver s slot) := by
  unfold State.takeOver
  repeat' first
    | with_reducible assumption
    | fail_if_no_progress with_reducible apply State.Keeps.mk'
    | with_reducible apply State.Keeps.ite
    | with_reducible apply State.Keeps.foldl
    | with_reducible apply State.Keeps.foldlFst
    | with_reducible apply State.Keeps.foldlSnd
    | intro _
    | split
    | dsimp only

theorem State.wantThird_keeps {z : State} (s : State) (p : Nat) (i : Nat) (q : Nat) (hk : State.Keeps z s) :
    State.Keeps z (State.wantThird s p i q) := by
  unfold State.wantThird
  repeat' first
    | with_reducible assumption
    | with_reducible apply State.setTile_keeps
    | fail_if_no_progress with_reducible apply State.Keeps.mk'
    | with_reducible apply State.Keeps.ite
    | with_reducible apply State.Keeps.foldl
    | with_reducible apply State.Keeps.foldlFst
    | with_reducible apply State.Keeps.foldlSnd
    | intro _
    | split
    | dsimp only

theorem State.chainDisagree_keeps {z : State} (s : State) (p : Nat) (i : Nat) (hk : State.Keeps z s) :
    State.Keeps z (State.chainDisagree s p i) := by
  unfold State.chainDisagree
  repeat' first
    | with_reducible assumption
    | with_reducible apply State.wantThird_keeps
    | with_reducible apply State.postReplay_keeps
    | with_reducible apply State.disagree_keeps
    | fail_if_no_progress with_reducible apply State.Keeps.mk'
    | with_reducible apply State.Keeps.ite
    | with_reducible apply State.Keeps.foldl
    | with_reducible apply State.Keeps.foldlFst
    | with_reducible apply State.Keeps.foldlSnd
    | intro _
    | split
    | dsimp only

theorem State.cacheIn_keeps {z : State} (s : State) (p : Nat) (c : Nat) (cap : Nat) (t : TlbEntry) (hk : State.Keeps z s) :
    State.Keeps z (State.cacheIn s p c cap t) := by
  unfold State.cacheIn
  repeat' first
    | with_reducible assumption
    | fail_if_no_progress with_reducible apply State.Keeps.mk'
    | with_reducible apply State.Keeps.ite
    | with_reducible apply State.Keeps.foldl
    | with_reducible apply State.Keeps.foldlFst
    | with_reducible apply State.Keeps.foldlSnd
    | intro _
    | split
    | dsimp only

theorem State.cacheWalk_keeps {z : State} (s : State) (p : Nat) (m : Nat) (ctx : Nat) (va : Nat) (path : List (Nat × Nat × Nat)) (level : Nat) (e : Nat) (hk : State.Keeps z s) :
    State.Keeps z (State.cacheWalk s p m ctx va path level e) := by
  unfold State.cacheWalk
  repeat' first
    | with_reducible assumption
    | with_reducible apply State.cacheIn_keeps
    | fail_if_no_progress with_reducible apply State.Keeps.mk'
    | with_reducible apply State.Keeps.ite
    | with_reducible apply State.Keeps.foldl
    | with_reducible apply State.Keeps.foldlFst
    | with_reducible apply State.Keeps.foldlSnd
    | intro _
    | split
    | dsimp only

theorem State.pokeRecs_keeps {z : State} (s : State) (p : Nat) (ctx : Nat) (d : Desc) (anchor : Int) (tile : List (List Acc)) (hk : State.Keeps z s) :
    State.Keeps z (State.pokeRecs s p ctx d anchor tile) := by
  unfold State.pokeRecs
  repeat' first
    | with_reducible assumption
    | with_reducible apply State.pokeElem_keeps
    | fail_if_no_progress with_reducible apply State.Keeps.mk'
    | with_reducible apply State.Keeps.ite
    | with_reducible apply State.Keeps.foldl
    | with_reducible apply State.Keeps.foldlFst
    | with_reducible apply State.Keeps.foldlSnd
    | intro _
    | split
    | dsimp only

theorem State.levelCombine_keeps {z : State} (s : State) (p : Nat) (ctx : Nat) (dP : Desc) (region : Desc) (anchor : Int) (own : List (List Acc)) (theirs : List (List Acc)) (hk : State.Keeps z s) :
    State.Keeps z (State.levelCombine s p ctx dP region anchor own theirs) := by
  unfold State.levelCombine
  repeat' first
    | with_reducible assumption
    | with_reducible apply State.pokeRecs_keeps
    | fail_if_no_progress with_reducible apply State.Keeps.mk'
    | with_reducible apply State.Keeps.ite
    | with_reducible apply State.Keeps.foldl
    | with_reducible apply State.Keeps.foldlFst
    | with_reducible apply State.Keeps.foldlSnd
    | intro _
    | split
    | dsimp only

theorem State.levelTake_keeps {z : State} (s : State) (p : Nat) (q : Nat) (r : RedState) (x : RedState) (dP : BitVec 512) (anchor : Int) (anchor' : Int) (g : GangSet) (rank : Nat) (hk : State.Keeps z s) :
    State.Keeps z (State.levelTake s p q r x dP anchor anchor' g rank) := by
  unfold State.levelTake
  repeat' first
    | with_reducible assumption
    | with_reducible apply State.stallTr_keeps
    | with_reducible apply State.heldRefuse_keeps
    | with_reducible apply State.modArr_keeps
    | with_reducible apply State.advanceQ_keeps
    | with_reducible apply State.entryFault_keeps
    | with_reducible apply State.pokeRecs_keeps
    | with_reducible apply State.levelCombine_keeps
    | with_reducible apply State.reducedTile_keeps
    | fail_if_no_progress with_reducible apply State.Keeps.mk'
    | with_reducible apply State.Keeps.ite
    | with_reducible apply State.Keeps.foldl
    | with_reducible apply State.Keeps.foldlFst
    | with_reducible apply State.Keeps.foldlSnd
    | intro _
    | split
    | dsimp only

theorem State.fabErrGrows_keeps {z : State} (s : State) (hk : State.Keeps z s) :
    State.Keeps z (State.fabErrGrows s) := by
  unfold State.fabErrGrows
  repeat' first
    | with_reducible assumption
    | with_reducible apply State.setFld_keeps
    | fail_if_no_progress with_reducible apply State.Keeps.mk'
    | with_reducible apply State.Keeps.ite
    | with_reducible apply State.Keeps.foldl
    | with_reducible apply State.Keeps.foldlFst
    | with_reducible apply State.Keeps.foldlSnd
    | intro _
    | split
    | dsimp only

theorem State.secondChains_keeps {z : State} (s : State) (p : Nat) (i : Nat) (q : Nat) (t : Tile) (tr : Tile) (ups : List (Nat × Nat × Nat)) (hk : State.Keeps z s) :
    State.Keeps z (State.secondChains s p i q t tr ups) := by
  unfold State.secondChains
  repeat' first
    | with_reducible assumption
    | with_reducible apply State.modChain_keeps
    | fail_if_no_progress with_reducible apply State.Keeps.mk'
    | with_reducible apply State.Keeps.ite
    | with_reducible apply State.Keeps.foldl
    | with_reducible apply State.Keeps.foldlFst
    | with_reducible apply State.Keeps.foldlSnd
    | intro _
    | split
    | dsimp only

theorem State.timingDropped_keeps {z : State} (s : State) (f : Nat) (hk : State.Keeps z s) :
    State.Keeps z (State.timingDropped s f) := by
  unfold State.timingDropped
  repeat' first
    | with_reducible assumption
    | with_reducible apply State.postDev_keeps
    | fail_if_no_progress with_reducible apply State.Keeps.mk'
    | with_reducible apply State.Keeps.ite
    | with_reducible apply State.Keeps.foldl
    | with_reducible apply State.Keeps.foldlFst
    | with_reducible apply State.Keeps.foldlSnd
    | intro _
    | split
    | dsimp only

theorem State.trunkLand_keeps {z : State} (s : State) (k : TrunkPacket) (r : RouterId) (hk : State.Keeps z s) :
    State.Keeps z (State.trunkLand s k r) := by
  unfold State.trunkLand
  repeat' first
    | with_reducible assumption
    | with_reducible apply State.poison_keeps
    | fail_if_no_progress with_reducible apply State.Keeps.mk'
    | with_reducible apply State.Keeps.ite
    | with_reducible apply State.Keeps.foldl
    | with_reducible apply State.Keeps.foldlFst
    | with_reducible apply State.Keeps.foldlSnd
    | intro _
    | split
    | dsimp only

theorem State.overlapView_keeps {z : State} (s : State) (accW : Accessor) (last : List (Nat × Byte × Byte)) (hk : State.Keeps z s) :
    State.Keeps z (State.overlapView s accW last) := by
  unfold State.overlapView
  repeat' first
    | with_reducible assumption
    | with_reducible apply State.poke_keeps
    | fail_if_no_progress with_reducible apply State.Keeps.mk'
    | with_reducible apply State.Keeps.ite
    | with_reducible apply State.Keeps.foldl
    | with_reducible apply State.Keeps.foldlFst
    | with_reducible apply State.Keeps.foldlSnd
    | intro _
    | split
    | dsimp only

theorem State.ctrlCall_keeps {z : State} (s : State) (p : Nat) (rd : Nat) (target : Nat) (hk : State.Keeps z s) :
    State.Keeps z (State.ctrlCall s p rd target) := by
  unfold State.ctrlCall
  repeat' first
    | with_reducible assumption
    | with_reducible apply State.ctrlJump_keeps
    | with_reducible apply State.modCtrl_keeps
    | with_reducible apply State.advanceQ_keeps
    | fail_if_no_progress with_reducible apply State.Keeps.mk'
    | with_reducible apply State.Keeps.ite
    | with_reducible apply State.Keeps.foldl
    | with_reducible apply State.Keeps.foldlFst
    | with_reducible apply State.Keeps.foldlSnd
    | intro _
    | split
    | dsimp only

theorem State.streamEnds_keeps {z : State} (s : State) (p : Nat) (hk : State.Keeps z s) :
    State.Keeps z (State.streamEnds s p) := by
  unfold State.streamEnds
  repeat' first
    | with_reducible assumption
    | with_reducible apply State.modArr_keeps
    | fail_if_no_progress with_reducible apply State.Keeps.mk'
    | with_reducible apply State.Keeps.ite
    | with_reducible apply State.Keeps.foldl
    | with_reducible apply State.Keeps.foldlFst
    | with_reducible apply State.Keeps.foldlSnd
    | intro _
    | split
    | dsimp only

theorem State.fillRing_keeps {z : State} (s : State) (q : Nat) (t : Tile) (hk : State.Keeps z s) :
    State.Keeps z (State.fillRing s q t) := by
  unfold State.fillRing
  repeat' first
    | with_reducible assumption
    | with_reducible apply State.wrBytes_keeps
    | fail_if_no_progress with_reducible apply State.Keeps.mk'
    | with_reducible apply State.Keeps.ite
    | with_reducible apply State.Keeps.foldl
    | with_reducible apply State.Keeps.foldlFst
    | with_reducible apply State.Keeps.foldlSnd
    | intro _
    | split
    | dsimp only

end Sys2Proof.Machine
end

