-- ==== Sys2Proof/Laws/Parts.lean ====
section
/-!
SUPPORT. Each update of a part of the state, field by field: tile slots, queues, windows, registers of cores and controllers, link times,
pseudo-channels, management targets, context and domain states.
-/
namespace Sys2Proof.Machine

@[simp] theorem ArrayState.setTile_ctrl (a : ArrayState) (i : Nat) (t : Tile) : (a.setTile i t).ctrl = a.ctrl := rfl
@[simp] theorem ArrayState.setTile_aq (a : ArrayState) (i : Nat) (t : Tile) : (a.setTile i t).aq = a.aq := rfl
@[simp] theorem ArrayState.setTile_vq (a : ArrayState) (i : Nat) (t : Tile) : (a.setTile i t).vq = a.vq := rfl
@[simp] theorem ArrayState.setTile_dq (a : ArrayState) (i : Nat) (t : Tile) : (a.setTile i t).dq = a.dq := rfl
@[simp] theorem ArrayState.setTile_active (a : ArrayState) (i : Nat) (t : Tile) : (a.setTile i t).active = a.active := rfl
@[simp] theorem ArrayState.setTile_shadow (a : ArrayState) (i : Nat) (t : Tile) : (a.setTile i t).shadow = a.shadow := rfl
@[simp] theorem ArrayState.setTile_fp32Pair (a : ArrayState) (i : Nat) (t : Tile) : (a.setTile i t).fp32Pair = a.fp32Pair := rfl
@[simp] theorem ArrayState.setTile_park (a : ArrayState) (i : Nat) (t : Tile) : (a.setTile i t).park = a.park := rfl
@[simp] theorem ArrayState.setTile_feed (a : ArrayState) (i : Nat) (t : Tile) : (a.setTile i t).feed = a.feed := rfl
@[simp] theorem ArrayState.setTile_restarts (a : ArrayState) (i : Nat) (t : Tile) : (a.setTile i t).restarts = a.restarts := rfl
@[simp] theorem ArrayState.setTile_red (a : ArrayState) (i : Nat) (t : Tile) : (a.setTile i t).red = a.red := rfl
@[simp] theorem ArrayState.setTile_dmas (a : ArrayState) (i : Nat) (t : Tile) : (a.setTile i t).dmas = a.dmas := rfl
@[simp] theorem ArrayState.setTile_vec (a : ArrayState) (i : Nat) (t : Tile) : (a.setTile i t).vec = a.vec := rfl
@[simp] theorem ArrayState.setTile_run (a : ArrayState) (i : Nat) (t : Tile) : (a.setTile i t).run = a.run := rfl
@[simp] theorem ArrayState.setTile_counters (a : ArrayState) (i : Nat) (t : Tile) : (a.setTile i t).counters = a.counters := rfl
@[simp] theorem ArrayState.setTile_lastSrc (a : ArrayState) (i : Nat) (t : Tile) : (a.setTile i t).lastSrc = a.lastSrc := rfl
@[simp] theorem ArrayState.setTile_wins (a : ArrayState) (i : Nat) (t : Tile) : (a.setTile i t).wins = a.wins := rfl
@[simp] theorem ArrayState.setTile_dmaSent (a : ArrayState) (i : Nat) (t : Tile) : (a.setTile i t).dmaSent = a.dmaSent := rfl
@[simp] theorem ArrayState.setTile_halted (a : ArrayState) (i : Nat) (t : Tile) : (a.setTile i t).halted = a.halted := rfl
@[simp] theorem ArrayState.setTile_gated (a : ArrayState) (i : Nat) (t : Tile) : (a.setTile i t).gated = a.gated := rfl
@[simp] theorem ArrayState.setTile_brake (a : ArrayState) (i : Nat) (t : Tile) : (a.setTile i t).brake = a.brake := rfl
@[simp] theorem ArrayState.setTile_stripClocked (a : ArrayState) (i : Nat) (t : Tile) : (a.setTile i t).stripClocked = a.stripClocked := rfl
@[simp] theorem ArrayState.setTile_freqCode (a : ArrayState) (i : Nat) (t : Tile) : (a.setTile i t).freqCode = a.freqCode := rfl
@[simp] theorem ArrayState.setTile_targetCode (a : ArrayState) (i : Nat) (t : Tile) : (a.setTile i t).targetCode = a.targetCode := rfl
@[simp] theorem ArrayState.setTile_stretch (a : ArrayState) (i : Nat) (t : Tile) : (a.setTile i t).stretch = a.stretch := rfl
@[simp] theorem ArrayState.setTile_fllFrozen (a : ArrayState) (i : Nat) (t : Tile) : (a.setTile i t).fllFrozen = a.fllFrozen := rfl
@[simp] theorem ArrayState.setTile_qtzOffset (a : ArrayState) (i : Nat) (t : Tile) : (a.setTile i t).qtzOffset = a.qtzOffset := rfl
@[simp] theorem ArrayState.setTile_qtzLocked (a : ArrayState) (i : Nat) (t : Tile) : (a.setTile i t).qtzLocked = a.qtzLocked := rfl
@[simp] theorem ArrayState.setTile_recInfo (a : ArrayState) (i : Nat) (t : Tile) : (a.setTile i t).recInfo = a.recInfo := rfl
@[simp] theorem ArrayState.setTile_lastOsn (a : ArrayState) (i : Nat) (t : Tile) : (a.setTile i t).lastOsn = a.lastOsn := rfl
@[simp] theorem ArrayState.setTile_usedGrid (a : ArrayState) (i : Nat) (t : Tile) : (a.setTile i t).usedGrid = a.usedGrid := rfl
@[simp] theorem ArrayState.setTile_usedVec (a : ArrayState) (i : Nat) (t : Tile) : (a.setTile i t).usedVec = a.usedVec := rfl
@[simp] theorem ArrayState.setTile_usedCtrl (a : ArrayState) (i : Nat) (t : Tile) : (a.setTile i t).usedCtrl = a.usedCtrl := rfl
@[simp] theorem ArrayState.setTile_streamEnd (a : ArrayState) (i : Nat) (t : Tile) : (a.setTile i t).streamEnd = a.streamEnd := rfl

@[simp] theorem ArrayState.setTile_tile (a : ArrayState) (i : Nat) (t : Tile) (h : i < 3) : (a.setTile i t).tile i = t := by
  match i, h with
  | 0, _ => rfl
  | 1, _ => rfl
  | 2, _ => rfl

theorem ArrayState.setTile_other (a : ArrayState) (i j : Nat) (t : Tile) (h : j < 3) (hij : j ≠ i) : (a.setTile i t).tile j = a.tile j := by
  match j, h with
  | 0, _ => simp [ArrayState.setTile, ArrayState.tile, nth, hij, List.range, List.range.loop]
  | 1, _ => simp [ArrayState.setTile, ArrayState.tile, nth, hij, List.range, List.range.loop]
  | 2, _ => simp [ArrayState.setTile, ArrayState.tile, nth, hij, List.range, List.range.loop]

@[simp] theorem ArrayState.setQueue_ctrl (a : ArrayState) (q : Nat) (l : List QEntry) : (a.setQueue q l).ctrl = a.ctrl := by unfold ArrayState.setQueue; split <;> rfl
@[simp] theorem ArrayState.setQueue_active (a : ArrayState) (q : Nat) (l : List QEntry) : (a.setQueue q l).active = a.active := by unfold ArrayState.setQueue; split <;> rfl
@[simp] theorem ArrayState.setQueue_shadow (a : ArrayState) (q : Nat) (l : List QEntry) : (a.setQueue q l).shadow = a.shadow := by unfold ArrayState.setQueue; split <;> rfl
@[simp] theorem ArrayState.setQueue_fp32Pair (a : ArrayState) (q : Nat) (l : List QEntry) : (a.setQueue q l).fp32Pair = a.fp32Pair := by unfold ArrayState.setQueue; split <;> rfl
@[simp] theorem ArrayState.setQueue_park (a : ArrayState) (q : Nat) (l : List QEntry) : (a.setQueue q l).park = a.park := by unfold ArrayState.setQueue; split <;> rfl
@[simp] theorem ArrayState.setQueue_feed (a : ArrayState) (q : Nat) (l : List QEntry) : (a.setQueue q l).feed = a.feed := by unfold ArrayState.setQueue; split <;> rfl
@[simp] theorem ArrayState.setQueue_tiles (a : ArrayState) (q : Nat) (l : List QEntry) : (a.setQueue q l).tiles = a.tiles := by unfold ArrayState.setQueue; split <;> rfl
@[simp] theorem ArrayState.setQueue_restarts (a : ArrayState) (q : Nat) (l : List QEntry) : (a.setQueue q l).restarts = a.restarts := by unfold ArrayState.setQueue; split <;> rfl
@[simp] theorem ArrayState.setQueue_red (a : ArrayState) (q : Nat) (l : List QEntry) : (a.setQueue q l).red = a.red := by unfold ArrayState.setQueue; split <;> rfl
@[simp] theorem ArrayState.setQueue_dmas (a : ArrayState) (q : Nat) (l : List QEntry) : (a.setQueue q l).dmas = a.dmas := by unfold ArrayState.setQueue; split <;> rfl
@[simp] theorem ArrayState.setQueue_vec (a : ArrayState) (q : Nat) (l : List QEntry) : (a.setQueue q l).vec = a.vec := by unfold ArrayState.setQueue; split <;> rfl
@[simp] theorem ArrayState.setQueue_run (a : ArrayState) (q : Nat) (l : List QEntry) : (a.setQueue q l).run = a.run := by unfold ArrayState.setQueue; split <;> rfl
@[simp] theorem ArrayState.setQueue_counters (a : ArrayState) (q : Nat) (l : List QEntry) : (a.setQueue q l).counters = a.counters := by unfold ArrayState.setQueue; split <;> rfl
@[simp] theorem ArrayState.setQueue_lastSrc (a : ArrayState) (q : Nat) (l : List QEntry) : (a.setQueue q l).lastSrc = a.lastSrc := by unfold ArrayState.setQueue; split <;> rfl
@[simp] theorem ArrayState.setQueue_wins (a : ArrayState) (q : Nat) (l : List QEntry) : (a.setQueue q l).wins = a.wins := by unfold ArrayState.setQueue; split <;> rfl
@[simp] theorem ArrayState.setQueue_dmaSent (a : ArrayState) (q : Nat) (l : List QEntry) : (a.setQueue q l).dmaSent = a.dmaSent := by unfold ArrayState.setQueue; split <;> rfl
@[simp] theorem ArrayState.setQueue_halted (a : ArrayState) (q : Nat) (l : List QEntry) : (a.setQueue q l).halted = a.halted := by unfold ArrayState.setQueue; split <;> rfl
@[simp] theorem ArrayState.setQueue_gated (a : ArrayState) (q : Nat) (l : List QEntry) : (a.setQueue q l).gated = a.gated := by unfold ArrayState.setQueue; split <;> rfl
@[simp] theorem ArrayState.setQueue_brake (a : ArrayState) (q : Nat) (l : List QEntry) : (a.setQueue q l).brake = a.brake := by unfold ArrayState.setQueue; split <;> rfl
@[simp] theorem ArrayState.setQueue_stripClocked (a : ArrayState) (q : Nat) (l : List QEntry) : (a.setQueue q l).stripClocked = a.stripClocked := by unfold ArrayState.setQueue; split <;> rfl
@[simp] theorem ArrayState.setQueue_freqCode (a : ArrayState) (q : Nat) (l : List QEntry) : (a.setQueue q l).freqCode = a.freqCode := by unfold ArrayState.setQueue; split <;> rfl
@[simp] theorem ArrayState.setQueue_targetCode (a : ArrayState) (q : Nat) (l : List QEntry) : (a.setQueue q l).targetCode = a.targetCode := by unfold ArrayState.setQueue; split <;> rfl
@[simp] theorem ArrayState.setQueue_stretch (a : ArrayState) (q : Nat) (l : List QEntry) : (a.setQueue q l).stretch = a.stretch := by unfold ArrayState.setQueue; split <;> rfl
@[simp] theorem ArrayState.setQueue_fllFrozen (a : ArrayState) (q : Nat) (l : List QEntry) : (a.setQueue q l).fllFrozen = a.fllFrozen := by unfold ArrayState.setQueue; split <;> rfl
@[simp] theorem ArrayState.setQueue_qtzOffset (a : ArrayState) (q : Nat) (l : List QEntry) : (a.setQueue q l).qtzOffset = a.qtzOffset := by unfold ArrayState.setQueue; split <;> rfl
@[simp] theorem ArrayState.setQueue_qtzLocked (a : ArrayState) (q : Nat) (l : List QEntry) : (a.setQueue q l).qtzLocked = a.qtzLocked := by unfold ArrayState.setQueue; split <;> rfl
@[simp] theorem ArrayState.setQueue_recInfo (a : ArrayState) (q : Nat) (l : List QEntry) : (a.setQueue q l).recInfo = a.recInfo := by unfold ArrayState.setQueue; split <;> rfl
@[simp] theorem ArrayState.setQueue_lastOsn (a : ArrayState) (q : Nat) (l : List QEntry) : (a.setQueue q l).lastOsn = a.lastOsn := by unfold ArrayState.setQueue; split <;> rfl
@[simp] theorem ArrayState.setQueue_usedGrid (a : ArrayState) (q : Nat) (l : List QEntry) : (a.setQueue q l).usedGrid = a.usedGrid := by unfold ArrayState.setQueue; split <;> rfl
@[simp] theorem ArrayState.setQueue_usedVec (a : ArrayState) (q : Nat) (l : List QEntry) : (a.setQueue q l).usedVec = a.usedVec := by unfold ArrayState.setQueue; split <;> rfl
@[simp] theorem ArrayState.setQueue_usedCtrl (a : ArrayState) (q : Nat) (l : List QEntry) : (a.setQueue q l).usedCtrl = a.usedCtrl := by unfold ArrayState.setQueue; split <;> rfl
@[simp] theorem ArrayState.setQueue_streamEnd (a : ArrayState) (q : Nat) (l : List QEntry) : (a.setQueue q l).streamEnd = a.streamEnd := by unfold ArrayState.setQueue; split <;> rfl

@[simp] theorem ArrayState.setQueue_queue (a : ArrayState) (q : Fin 3) (l : List QEntry) : (a.setQueue q.val l).queue q.val = l := by
  match q with
  | 0 => rfl
  | 1 => rfl
  | 2 => rfl

@[simp] theorem ArrayState.usedBy_ctrl (a : ArrayState) (q : Nat) : (a.usedBy q).ctrl = a.ctrl := rfl
@[simp] theorem ArrayState.usedBy_aq (a : ArrayState) (q : Nat) : (a.usedBy q).aq = a.aq := rfl
@[simp] theorem ArrayState.usedBy_vq (a : ArrayState) (q : Nat) : (a.usedBy q).vq = a.vq := rfl
@[simp] theorem ArrayState.usedBy_dq (a : ArrayState) (q : Nat) : (a.usedBy q).dq = a.dq := rfl
@[simp] theorem ArrayState.usedBy_active (a : ArrayState) (q : Nat) : (a.usedBy q).active = a.active := rfl
@[simp] theorem ArrayState.usedBy_shadow (a : ArrayState) (q : Nat) : (a.usedBy q).shadow = a.shadow := rfl
@[simp] theorem ArrayState.usedBy_fp32Pair (a : ArrayState) (q : Nat) : (a.usedBy q).fp32Pair = a.fp32Pair := rfl
@[simp] theorem ArrayState.usedBy_park (a : ArrayState) (q : Nat) : (a.usedBy q).park = a.park := rfl
@[simp] theorem ArrayState.usedBy_feed (a : ArrayState) (q : Nat) : (a.usedBy q).feed = a.feed := rfl
@[simp] theorem ArrayState.usedBy_tiles (a : ArrayState) (q : Nat) : (a.usedBy q).tiles = a.tiles := rfl
@[simp] theorem ArrayState.usedBy_restarts (a : ArrayState) (q : Nat) : (a.usedBy q).restarts = a.restarts := rfl
@[simp] theorem ArrayState.usedBy_red (a : ArrayState) (q : Nat) : (a.usedBy q).red = a.red := rfl
@[simp] theorem ArrayState.usedBy_dmas (a : ArrayState) (q : Nat) : (a.usedBy q).dmas = a.dmas := rfl
@[simp] theorem ArrayState.usedBy_vec (a : ArrayState) (q : Nat) : (a.usedBy q).vec = a.vec := rfl
@[simp] theorem ArrayState.usedBy_run (a : ArrayState) (q : Nat) : (a.usedBy q).run = a.run := rfl
@[simp] theorem ArrayState.usedBy_counters (a : ArrayState) (q : Nat) : (a.usedBy q).counters = a.counters := rfl
@[simp] theorem ArrayState.usedBy_lastSrc (a : ArrayState) (q : Nat) : (a.usedBy q).lastSrc = a.lastSrc := rfl
@[simp] theorem ArrayState.usedBy_wins (a : ArrayState) (q : Nat) : (a.usedBy q).wins = a.wins := rfl
@[simp] theorem ArrayState.usedBy_dmaSent (a : ArrayState) (q : Nat) : (a.usedBy q).dmaSent = a.dmaSent := rfl
@[simp] theorem ArrayState.usedBy_halted (a : ArrayState) (q : Nat) : (a.usedBy q).halted = a.halted := rfl
@[simp] theorem ArrayState.usedBy_gated (a : ArrayState) (q : Nat) : (a.usedBy q).gated = a.gated := rfl
@[simp] theorem ArrayState.usedBy_brake (a : ArrayState) (q : Nat) : (a.usedBy q).brake = a.brake := rfl
@[simp] theorem ArrayState.usedBy_stripClocked (a : ArrayState) (q : Nat) : (a.usedBy q).stripClocked = a.stripClocked := rfl
@[simp] theorem ArrayState.usedBy_freqCode (a : ArrayState) (q : Nat) : (a.usedBy q).freqCode = a.freqCode := rfl
@[simp] theorem ArrayState.usedBy_targetCode (a : ArrayState) (q : Nat) : (a.usedBy q).targetCode = a.targetCode := rfl
@[simp] theorem ArrayState.usedBy_stretch (a : ArrayState) (q : Nat) : (a.usedBy q).stretch = a.stretch := rfl
@[simp] theorem ArrayState.usedBy_fllFrozen (a : ArrayState) (q : Nat) : (a.usedBy q).fllFrozen = a.fllFrozen := rfl
@[simp] theorem ArrayState.usedBy_qtzOffset (a : ArrayState) (q : Nat) : (a.usedBy q).qtzOffset = a.qtzOffset := rfl
@[simp] theorem ArrayState.usedBy_qtzLocked (a : ArrayState) (q : Nat) : (a.usedBy q).qtzLocked = a.qtzLocked := rfl
@[simp] theorem ArrayState.usedBy_recInfo (a : ArrayState) (q : Nat) : (a.usedBy q).recInfo = a.recInfo := rfl
@[simp] theorem ArrayState.usedBy_lastOsn (a : ArrayState) (q : Nat) : (a.usedBy q).lastOsn = a.lastOsn := rfl
@[simp] theorem ArrayState.usedBy_usedCtrl (a : ArrayState) (q : Nat) : (a.usedBy q).usedCtrl = a.usedCtrl := rfl
@[simp] theorem ArrayState.usedBy_streamEnd (a : ArrayState) (q : Nat) : (a.usedBy q).streamEnd = a.streamEnd := rfl

@[simp] theorem CoreState.cset_vregs (c : CoreState) (i v : Nat) : (c.cset i v).vregs = c.vregs := by unfold CoreState.cset; split <;> rfl
@[simp] theorem CoreState.cset_accs (c : CoreState) (i v : Nat) : (c.cset i v).accs = c.accs := by unfold CoreState.cset; split <;> rfl
@[simp] theorem CoreState.cset_pc (c : CoreState) (i v : Nat) : (c.cset i v).pc = c.pc := by unfold CoreState.cset; split <;> rfl
@[simp] theorem CoreState.cset_loops (c : CoreState) (i v : Nat) : (c.cset i v).loops = c.loops := by unfold CoreState.cset; split <;> rfl
@[simp] theorem CoreState.cset_counters (c : CoreState) (i v : Nat) : (c.cset i v).counters = c.counters := by unfold CoreState.cset; split <;> rfl
@[simp] theorem CoreState.cset_lastSrc (c : CoreState) (i v : Nat) : (c.cset i v).lastSrc = c.lastSrc := by unfold CoreState.cset; split <;> rfl
@[simp] theorem CoreState.cset_rx (c : CoreState) (i v : Nat) : (c.cset i v).rx = c.rx := by unfold CoreState.cset; split <;> rfl
@[simp] theorem CoreState.cset_heldNote (c : CoreState) (i v : Nat) : (c.cset i v).heldNote = c.heldNote := by unfold CoreState.cset; split <;> rfl
@[simp] theorem CoreState.cset_sends (c : CoreState) (i v : Nat) : (c.cset i v).sends = c.sends := by unfold CoreState.cset; split <;> rfl
@[simp] theorem CoreState.cset_prog (c : CoreState) (i v : Nat) : (c.cset i v).prog = c.prog := by unfold CoreState.cset; split <;> rfl
@[simp] theorem CoreState.cset_armed (c : CoreState) (i v : Nat) : (c.cset i v).armed = c.armed := by unfold CoreState.cset; split <;> rfl
@[simp] theorem CoreState.cset_status (c : CoreState) (i v : Nat) : (c.cset i v).status = c.status := by unfold CoreState.cset; split <;> rfl
@[simp] theorem CoreState.cset_late (c : CoreState) (i v : Nat) : (c.cset i v).late = c.late := by unfold CoreState.cset; split <;> rfl
@[simp] theorem CoreState.cset_block (c : CoreState) (i v : Nat) : (c.cset i v).block = c.block := by unfold CoreState.cset; split <;> rfl
@[simp] theorem CoreState.cset_fills (c : CoreState) (i v : Nat) : (c.cset i v).fills = c.fills := by unfold CoreState.cset; split <;> rfl
@[simp] theorem CoreState.cset_putsOut (c : CoreState) (i v : Nat) : (c.cset i v).putsOut = c.putsOut := by unfold CoreState.cset; split <;> rfl
@[simp] theorem CoreState.cset_getsOut (c : CoreState) (i v : Nat) : (c.cset i v).getsOut = c.getsOut := by unfold CoreState.cset; split <;> rfl
@[simp] theorem CoreState.cset_startTime (c : CoreState) (i v : Nat) : (c.cset i v).startTime = c.startTime := by unfold CoreState.cset; split <;> rfl
@[simp] theorem CoreState.cset_timeHi (c : CoreState) (i v : Nat) : (c.cset i v).timeHi = c.timeHi := by unfold CoreState.cset; split <;> rfl

@[simp] theorem CoreState.vset_cregs (c : CoreState) (i v : Nat) : (c.vset i v).cregs = c.cregs := rfl
@[simp] theorem CoreState.vset_accs (c : CoreState) (i v : Nat) : (c.vset i v).accs = c.accs := rfl
@[simp] theorem CoreState.vset_pc (c : CoreState) (i v : Nat) : (c.vset i v).pc = c.pc := rfl
@[simp] theorem CoreState.vset_loops (c : CoreState) (i v : Nat) : (c.vset i v).loops = c.loops := rfl
@[simp] theorem CoreState.vset_counters (c : CoreState) (i v : Nat) : (c.vset i v).counters = c.counters := rfl
@[simp] theorem CoreState.vset_lastSrc (c : CoreState) (i v : Nat) : (c.vset i v).lastSrc = c.lastSrc := rfl
@[simp] theorem CoreState.vset_rx (c : CoreState) (i v : Nat) : (c.vset i v).rx = c.rx := rfl
@[simp] theorem CoreState.vset_heldNote (c : CoreState) (i v : Nat) : (c.vset i v).heldNote = c.heldNote := rfl
@[simp] theorem CoreState.vset_sends (c : CoreState) (i v : Nat) : (c.vset i v).sends = c.sends := rfl
@[simp] theorem CoreState.vset_prog (c : CoreState) (i v : Nat) : (c.vset i v).prog = c.prog := rfl
@[simp] theorem CoreState.vset_armed (c : CoreState) (i v : Nat) : (c.vset i v).armed = c.armed := rfl
@[simp] theorem CoreState.vset_status (c : CoreState) (i v : Nat) : (c.vset i v).status = c.status := rfl
@[simp] theorem CoreState.vset_late (c : CoreState) (i v : Nat) : (c.vset i v).late = c.late := rfl
@[simp] theorem CoreState.vset_block (c : CoreState) (i v : Nat) : (c.vset i v).block = c.block := rfl
@[simp] theorem CoreState.vset_fills (c : CoreState) (i v : Nat) : (c.vset i v).fills = c.fills := rfl
@[simp] theorem CoreState.vset_putsOut (c : CoreState) (i v : Nat) : (c.vset i v).putsOut = c.putsOut := rfl
@[simp] theorem CoreState.vset_getsOut (c : CoreState) (i v : Nat) : (c.vset i v).getsOut = c.getsOut := rfl
@[simp] theorem CoreState.vset_startTime (c : CoreState) (i v : Nat) : (c.vset i v).startTime = c.startTime := rfl
@[simp] theorem CoreState.vset_timeHi (c : CoreState) (i v : Nat) : (c.vset i v).timeHi = c.timeHi := rfl

@[simp] theorem CoreState.aset_cregs (c : CoreState) (i v : Nat) : (c.aset i v).cregs = c.cregs := rfl
@[simp] theorem CoreState.aset_vregs (c : CoreState) (i v : Nat) : (c.aset i v).vregs = c.vregs := rfl
@[simp] theorem CoreState.aset_pc (c : CoreState) (i v : Nat) : (c.aset i v).pc = c.pc := rfl
@[simp] theorem CoreState.aset_loops (c : CoreState) (i v : Nat) : (c.aset i v).loops = c.loops := rfl
@[simp] theorem CoreState.aset_counters (c : CoreState) (i v : Nat) : (c.aset i v).counters = c.counters := rfl
@[simp] theorem CoreState.aset_lastSrc (c : CoreState) (i v : Nat) : (c.aset i v).lastSrc = c.lastSrc := rfl
@[simp] theorem CoreState.aset_rx (c : CoreState) (i v : Nat) : (c.aset i v).rx = c.rx := rfl
@[simp] theorem CoreState.aset_heldNote (c : CoreState) (i v : Nat) : (c.aset i v).heldNote = c.heldNote := rfl
@[simp] theorem CoreState.aset_sends (c : CoreState) (i v : Nat) : (c.aset i v).sends = c.sends := rfl
@[simp] theorem CoreState.aset_prog (c : CoreState) (i v : Nat) : (c.aset i v).prog = c.prog := rfl
@[simp] theorem CoreState.aset_armed (c : CoreState) (i v : Nat) : (c.aset i v).armed = c.armed := rfl
@[simp] theorem CoreState.aset_status (c : CoreState) (i v : Nat) : (c.aset i v).status = c.status := rfl
@[simp] theorem CoreState.aset_late (c : CoreState) (i v : Nat) : (c.aset i v).late = c.late := rfl
@[simp] theorem CoreState.aset_block (c : CoreState) (i v : Nat) : (c.aset i v).block = c.block := rfl
@[simp] theorem CoreState.aset_fills (c : CoreState) (i v : Nat) : (c.aset i v).fills = c.fills := rfl
@[simp] theorem CoreState.aset_putsOut (c : CoreState) (i v : Nat) : (c.aset i v).putsOut = c.putsOut := rfl
@[simp] theorem CoreState.aset_getsOut (c : CoreState) (i v : Nat) : (c.aset i v).getsOut = c.getsOut := rfl
@[simp] theorem CoreState.aset_startTime (c : CoreState) (i v : Nat) : (c.aset i v).startTime = c.startTime := rfl
@[simp] theorem CoreState.aset_timeHi (c : CoreState) (i v : Nat) : (c.aset i v).timeHi = c.timeHi := rfl

@[simp] theorem CoreState.kset_cregs (c : CoreState) (k : Nat) (v : BitVec 16) : (c.kset k v).cregs = c.cregs := rfl
@[simp] theorem CoreState.kset_vregs (c : CoreState) (k : Nat) (v : BitVec 16) : (c.kset k v).vregs = c.vregs := rfl
@[simp] theorem CoreState.kset_accs (c : CoreState) (k : Nat) (v : BitVec 16) : (c.kset k v).accs = c.accs := rfl
@[simp] theorem CoreState.kset_pc (c : CoreState) (k : Nat) (v : BitVec 16) : (c.kset k v).pc = c.pc := rfl
@[simp] theorem CoreState.kset_loops (c : CoreState) (k : Nat) (v : BitVec 16) : (c.kset k v).loops = c.loops := rfl
@[simp] theorem CoreState.kset_lastSrc (c : CoreState) (k : Nat) (v : BitVec 16) : (c.kset k v).lastSrc = c.lastSrc := rfl
@[simp] theorem CoreState.kset_rx (c : CoreState) (k : Nat) (v : BitVec 16) : (c.kset k v).rx = c.rx := rfl
@[simp] theorem CoreState.kset_heldNote (c : CoreState) (k : Nat) (v : BitVec 16) : (c.kset k v).heldNote = c.heldNote := rfl
@[simp] theorem CoreState.kset_sends (c : CoreState) (k : Nat) (v : BitVec 16) : (c.kset k v).sends = c.sends := rfl
@[simp] theorem CoreState.kset_prog (c : CoreState) (k : Nat) (v : BitVec 16) : (c.kset k v).prog = c.prog := rfl
@[simp] theorem CoreState.kset_armed (c : CoreState) (k : Nat) (v : BitVec 16) : (c.kset k v).armed = c.armed := rfl
@[simp] theorem CoreState.kset_status (c : CoreState) (k : Nat) (v : BitVec 16) : (c.kset k v).status = c.status := rfl
@[simp] theorem CoreState.kset_late (c : CoreState) (k : Nat) (v : BitVec 16) : (c.kset k v).late = c.late := rfl
@[simp] theorem CoreState.kset_block (c : CoreState) (k : Nat) (v : BitVec 16) : (c.kset k v).block = c.block := rfl
@[simp] theorem CoreState.kset_fills (c : CoreState) (k : Nat) (v : BitVec 16) : (c.kset k v).fills = c.fills := rfl
@[simp] theorem CoreState.kset_putsOut (c : CoreState) (k : Nat) (v : BitVec 16) : (c.kset k v).putsOut = c.putsOut := rfl
@[simp] theorem CoreState.kset_getsOut (c : CoreState) (k : Nat) (v : BitVec 16) : (c.kset k v).getsOut = c.getsOut := rfl
@[simp] theorem CoreState.kset_startTime (c : CoreState) (k : Nat) (v : BitVec 16) : (c.kset k v).startTime = c.startTime := rfl
@[simp] theorem CoreState.kset_timeHi (c : CoreState) (k : Nat) (v : BitVec 16) : (c.kset k v).timeHi = c.timeHi := rfl

@[simp] theorem Ctrl.sput_state (c : Ctrl) (i v : Nat) : (c.sput i v).state = c.state := by unfold Ctrl.sput; split <;> rfl
@[simp] theorem Ctrl.sput_blocked (c : Ctrl) (i v : Nat) : (c.sput i v).blocked = c.blocked := by unfold Ctrl.sput; split <;> rfl
@[simp] theorem Ctrl.sput_preds (c : Ctrl) (i v : Nat) : (c.sput i v).preds = c.preds := by unfold Ctrl.sput; split <;> rfl
@[simp] theorem Ctrl.sput_dregs (c : Ctrl) (i v : Nat) : (c.sput i v).dregs = c.dregs := by unfold Ctrl.sput; split <;> rfl
@[simp] theorem Ctrl.sput_pc (c : Ctrl) (i v : Nat) : (c.sput i v).pc = c.pc := by unfold Ctrl.sput; split <;> rfl
@[simp] theorem Ctrl.sput_ctx (c : Ctrl) (i v : Nat) : (c.sput i v).ctx = c.ctx := by unfold Ctrl.sput; split <;> rfl
@[simp] theorem Ctrl.sput_gen (c : Ctrl) (i v : Nat) : (c.sput i v).gen = c.gen := by unfold Ctrl.sput; split <;> rfl
@[simp] theorem Ctrl.sput_launch (c : Ctrl) (i v : Nat) : (c.sput i v).launch = c.launch := by unfold Ctrl.sput; split <;> rfl
@[simp] theorem Ctrl.sput_launchLate (c : Ctrl) (i v : Nat) : (c.sput i v).launchLate = c.launchLate := by unfold Ctrl.sput; split <;> rfl
@[simp] theorem Ctrl.sput_gang (c : Ctrl) (i v : Nat) : (c.sput i v).gang = c.gang := by unfold Ctrl.sput; split <;> rfl
@[simp] theorem Ctrl.sput_gangNow (c : Ctrl) (i v : Nat) : (c.sput i v).gangNow = c.gangNow := by unfold Ctrl.sput; split <;> rfl
@[simp] theorem Ctrl.sput_drain (c : Ctrl) (i v : Nat) : (c.sput i v).drain = c.drain := by unfold Ctrl.sput; split <;> rfl
@[simp] theorem Ctrl.sput_chkLevel (c : Ctrl) (i v : Nat) : (c.sput i v).chkLevel = c.chkLevel := by unfold Ctrl.sput; split <;> rfl
@[simp] theorem Ctrl.sput_chkNext (c : Ctrl) (i v : Nat) : (c.sput i v).chkNext = c.chkNext := by unfold Ctrl.sput; split <;> rfl
@[simp] theorem Ctrl.sput_step (c : Ctrl) (i v : Nat) : (c.sput i v).step = c.step := by unfold Ctrl.sput; split <;> rfl
@[simp] theorem Ctrl.sput_startTime (c : Ctrl) (i v : Nat) : (c.sput i v).startTime = c.startTime := by unfold Ctrl.sput; split <;> rfl
@[simp] theorem Ctrl.sput_retired (c : Ctrl) (i v : Nat) : (c.sput i v).retired = c.retired := by unfold Ctrl.sput; split <;> rfl
@[simp] theorem Ctrl.sput_ended (c : Ctrl) (i v : Nat) : (c.sput i v).ended = c.ended := by unfold Ctrl.sput; split <;> rfl
@[simp] theorem Ctrl.sput_yielding (c : Ctrl) (i v : Nat) : (c.sput i v).yielding = c.yielding := by unfold Ctrl.sput; split <;> rfl
@[simp] theorem Ctrl.sput_wdig (c : Ctrl) (i v : Nat) : (c.sput i v).wdig = c.wdig := by unfold Ctrl.sput; split <;> rfl
@[simp] theorem Ctrl.sput_closed (c : Ctrl) (i v : Nat) : (c.sput i v).closed = c.closed := by unfold Ctrl.sput; split <;> rfl
@[simp] theorem Ctrl.sput_icache (c : Ctrl) (i v : Nat) : (c.sput i v).icache = c.icache := by unfold Ctrl.sput; split <;> rfl
@[simp] theorem Ctrl.sput_dcache (c : Ctrl) (i v : Nat) : (c.sput i v).dcache = c.dcache := by unfold Ctrl.sput; split <;> rfl
@[simp] theorem Ctrl.sput_stores (c : Ctrl) (i v : Nat) : (c.sput i v).stores = c.stores := by unfold Ctrl.sput; split <;> rfl
@[simp] theorem Ctrl.sput_seq (c : Ctrl) (i v : Nat) : (c.sput i v).seq = c.seq := by unfold Ctrl.sput; split <;> rfl
@[simp] theorem Ctrl.sput_stallQ (c : Ctrl) (i v : Nat) : (c.sput i v).stallQ = c.stallQ := by unfold Ctrl.sput; split <;> rfl
@[simp] theorem Ctrl.sput_recGot (c : Ctrl) (i v : Nat) : (c.sput i v).recGot = c.recGot := by unfold Ctrl.sput; split <;> rfl
@[simp] theorem Ctrl.sput_faulting (c : Ctrl) (i v : Nat) : (c.sput i v).faulting = c.faulting := by unfold Ctrl.sput; split <;> rfl
@[simp] theorem Ctrl.sput_cmdIndex (c : Ctrl) (i v : Nat) : (c.sput i v).cmdIndex = c.cmdIndex := by unfold Ctrl.sput; split <;> rfl
@[simp] theorem Ctrl.sput_stepAt (c : Ctrl) (i v : Nat) : (c.sput i v).stepAt = c.stepAt := by unfold Ctrl.sput; split <;> rfl
@[simp] theorem Ctrl.sput_attn (c : Ctrl) (i v : Nat) : (c.sput i v).attn = c.attn := by unfold Ctrl.sput; split <;> rfl

@[simp] theorem Ctrl.pput_state (c : Ctrl) (i : Nat) (b : Bool) : (c.pput i b).state = c.state := by unfold Ctrl.pput; split <;> rfl
@[simp] theorem Ctrl.pput_blocked (c : Ctrl) (i : Nat) (b : Bool) : (c.pput i b).blocked = c.blocked := by unfold Ctrl.pput; split <;> rfl
@[simp] theorem Ctrl.pput_sregs (c : Ctrl) (i : Nat) (b : Bool) : (c.pput i b).sregs = c.sregs := by unfold Ctrl.pput; split <;> rfl
@[simp] theorem Ctrl.pput_dregs (c : Ctrl) (i : Nat) (b : Bool) : (c.pput i b).dregs = c.dregs := by unfold Ctrl.pput; split <;> rfl
@[simp] theorem Ctrl.pput_pc (c : Ctrl) (i : Nat) (b : Bool) : (c.pput i b).pc = c.pc := by unfold Ctrl.pput; split <;> rfl
@[simp] theorem Ctrl.pput_ctx (c : Ctrl) (i : Nat) (b : Bool) : (c.pput i b).ctx = c.ctx := by unfold Ctrl.pput; split <;> rfl
@[simp] theorem Ctrl.pput_gen (c : Ctrl) (i : Nat) (b : Bool) : (c.pput i b).gen = c.gen := by unfold Ctrl.pput; split <;> rfl
@[simp] theorem Ctrl.pput_launch (c : Ctrl) (i : Nat) (b : Bool) : (c.pput i b).launch = c.launch := by unfold Ctrl.pput; split <;> rfl
@[simp] theorem Ctrl.pput_launchLate (c : Ctrl) (i : Nat) (b : Bool) : (c.pput i b).launchLate = c.launchLate := by unfold Ctrl.pput; split <;> rfl
@[simp] theorem Ctrl.pput_gang (c : Ctrl) (i : Nat) (b : Bool) : (c.pput i b).gang = c.gang := by unfold Ctrl.pput; split <;> rfl
@[simp] theorem Ctrl.pput_gangNow (c : Ctrl) (i : Nat) (b : Bool) : (c.pput i b).gangNow = c.gangNow := by unfold Ctrl.pput; split <;> rfl
@[simp] theorem Ctrl.pput_drain (c : Ctrl) (i : Nat) (b : Bool) : (c.pput i b).drain = c.drain := by unfold Ctrl.pput; split <;> rfl
@[simp] theorem Ctrl.pput_chkLevel (c : Ctrl) (i : Nat) (b : Bool) : (c.pput i b).chkLevel = c.chkLevel := by unfold Ctrl.pput; split <;> rfl
@[simp] theorem Ctrl.pput_chkNext (c : Ctrl) (i : Nat) (b : Bool) : (c.pput i b).chkNext = c.chkNext := by unfold Ctrl.pput; split <;> rfl
@[simp] theorem Ctrl.pput_step (c : Ctrl) (i : Nat) (b : Bool) : (c.pput i b).step = c.step := by unfold Ctrl.pput; split <;> rfl
@[simp] theorem Ctrl.pput_startTime (c : Ctrl) (i : Nat) (b : Bool) : (c.pput i b).startTime = c.startTime := by unfold Ctrl.pput; split <;> rfl
@[simp] theorem Ctrl.pput_retired (c : Ctrl) (i : Nat) (b : Bool) : (c.pput i b).retired = c.retired := by unfold Ctrl.pput; split <;> rfl
@[simp] theorem Ctrl.pput_ended (c : Ctrl) (i : Nat) (b : Bool) : (c.pput i b).ended = c.ended := by unfold Ctrl.pput; split <;> rfl
@[simp] theorem Ctrl.pput_yielding (c : Ctrl) (i : Nat) (b : Bool) : (c.pput i b).yielding = c.yielding := by unfold Ctrl.pput; split <;> rfl
@[simp] theorem Ctrl.pput_wdig (c : Ctrl) (i : Nat) (b : Bool) : (c.pput i b).wdig = c.wdig := by unfold Ctrl.pput; split <;> rfl
@[simp] theorem Ctrl.pput_closed (c : Ctrl) (i : Nat) (b : Bool) : (c.pput i b).closed = c.closed := by unfold Ctrl.pput; split <;> rfl
@[simp] theorem Ctrl.pput_icache (c : Ctrl) (i : Nat) (b : Bool) : (c.pput i b).icache = c.icache := by unfold Ctrl.pput; split <;> rfl
@[simp] theorem Ctrl.pput_dcache (c : Ctrl) (i : Nat) (b : Bool) : (c.pput i b).dcache = c.dcache := by unfold Ctrl.pput; split <;> rfl
@[simp] theorem Ctrl.pput_stores (c : Ctrl) (i : Nat) (b : Bool) : (c.pput i b).stores = c.stores := by unfold Ctrl.pput; split <;> rfl
@[simp] theorem Ctrl.pput_seq (c : Ctrl) (i : Nat) (b : Bool) : (c.pput i b).seq = c.seq := by unfold Ctrl.pput; split <;> rfl
@[simp] theorem Ctrl.pput_stallQ (c : Ctrl) (i : Nat) (b : Bool) : (c.pput i b).stallQ = c.stallQ := by unfold Ctrl.pput; split <;> rfl
@[simp] theorem Ctrl.pput_recGot (c : Ctrl) (i : Nat) (b : Bool) : (c.pput i b).recGot = c.recGot := by unfold Ctrl.pput; split <;> rfl
@[simp] theorem Ctrl.pput_faulting (c : Ctrl) (i : Nat) (b : Bool) : (c.pput i b).faulting = c.faulting := by unfold Ctrl.pput; split <;> rfl
@[simp] theorem Ctrl.pput_cmdIndex (c : Ctrl) (i : Nat) (b : Bool) : (c.pput i b).cmdIndex = c.cmdIndex := by unfold Ctrl.pput; split <;> rfl
@[simp] theorem Ctrl.pput_stepAt (c : Ctrl) (i : Nat) (b : Bool) : (c.pput i b).stepAt = c.stepAt := by unfold Ctrl.pput; split <;> rfl
@[simp] theorem Ctrl.pput_attn (c : Ctrl) (i : Nat) (b : Bool) : (c.pput i b).attn = c.attn := by unfold Ctrl.pput; split <;> rfl

@[simp] theorem Ctrl.dput_state (c : Ctrl) (i : Nat) (v : BitVec 512) : (c.dput i v).state = c.state := rfl
@[simp] theorem Ctrl.dput_blocked (c : Ctrl) (i : Nat) (v : BitVec 512) : (c.dput i v).blocked = c.blocked := rfl
@[simp] theorem Ctrl.dput_sregs (c : Ctrl) (i : Nat) (v : BitVec 512) : (c.dput i v).sregs = c.sregs := rfl
@[simp] theorem Ctrl.dput_preds (c : Ctrl) (i : Nat) (v : BitVec 512) : (c.dput i v).preds = c.preds := rfl
@[simp] theorem Ctrl.dput_pc (c : Ctrl) (i : Nat) (v : BitVec 512) : (c.dput i v).pc = c.pc := rfl
@[simp] theorem Ctrl.dput_ctx (c : Ctrl) (i : Nat) (v : BitVec 512) : (c.dput i v).ctx = c.ctx := rfl
@[simp] theorem Ctrl.dput_gen (c : Ctrl) (i : Nat) (v : BitVec 512) : (c.dput i v).gen = c.gen := rfl
@[simp] theorem Ctrl.dput_launch (c : Ctrl) (i : Nat) (v : BitVec 512) : (c.dput i v).launch = c.launch := rfl
@[simp] theorem Ctrl.dput_launchLate (c : Ctrl) (i : Nat) (v : BitVec 512) : (c.dput i v).launchLate = c.launchLate := rfl
@[simp] theorem Ctrl.dput_gang (c : Ctrl) (i : Nat) (v : BitVec 512) : (c.dput i v).gang = c.gang := rfl
@[simp] theorem Ctrl.dput_gangNow (c : Ctrl) (i : Nat) (v : BitVec 512) : (c.dput i v).gangNow = c.gangNow := rfl
@[simp] theorem Ctrl.dput_drain (c : Ctrl) (i : Nat) (v : BitVec 512) : (c.dput i v).drain = c.drain := rfl
@[simp] theorem Ctrl.dput_chkLevel (c : Ctrl) (i : Nat) (v : BitVec 512) : (c.dput i v).chkLevel = c.chkLevel := rfl
@[simp] theorem Ctrl.dput_chkNext (c : Ctrl) (i : Nat) (v : BitVec 512) : (c.dput i v).chkNext = c.chkNext := rfl
@[simp] theorem Ctrl.dput_step (c : Ctrl) (i : Nat) (v : BitVec 512) : (c.dput i v).step = c.step := rfl
@[simp] theorem Ctrl.dput_startTime (c : Ctrl) (i : Nat) (v : BitVec 512) : (c.dput i v).startTime = c.startTime := rfl
@[simp] theorem Ctrl.dput_retired (c : Ctrl) (i : Nat) (v : BitVec 512) : (c.dput i v).retired = c.retired := rfl
@[simp] theorem Ctrl.dput_ended (c : Ctrl) (i : Nat) (v : BitVec 512) : (c.dput i v).ended = c.ended := rfl
@[simp] theorem Ctrl.dput_yielding (c : Ctrl) (i : Nat) (v : BitVec 512) : (c.dput i v).yielding = c.yielding := rfl
@[simp] theorem Ctrl.dput_wdig (c : Ctrl) (i : Nat) (v : BitVec 512) : (c.dput i v).wdig = c.wdig := rfl
@[simp] theorem Ctrl.dput_closed (c : Ctrl) (i : Nat) (v : BitVec 512) : (c.dput i v).closed = c.closed := rfl
@[simp] theorem Ctrl.dput_icache (c : Ctrl) (i : Nat) (v : BitVec 512) : (c.dput i v).icache = c.icache := rfl
@[simp] theorem Ctrl.dput_dcache (c : Ctrl) (i : Nat) (v : BitVec 512) : (c.dput i v).dcache = c.dcache := rfl
@[simp] theorem Ctrl.dput_stores (c : Ctrl) (i : Nat) (v : BitVec 512) : (c.dput i v).stores = c.stores := rfl
@[simp] theorem Ctrl.dput_seq (c : Ctrl) (i : Nat) (v : BitVec 512) : (c.dput i v).seq = c.seq := rfl
@[simp] theorem Ctrl.dput_stallQ (c : Ctrl) (i : Nat) (v : BitVec 512) : (c.dput i v).stallQ = c.stallQ := rfl
@[simp] theorem Ctrl.dput_recGot (c : Ctrl) (i : Nat) (v : BitVec 512) : (c.dput i v).recGot = c.recGot := rfl
@[simp] theorem Ctrl.dput_faulting (c : Ctrl) (i : Nat) (v : BitVec 512) : (c.dput i v).faulting = c.faulting := rfl
@[simp] theorem Ctrl.dput_cmdIndex (c : Ctrl) (i : Nat) (v : BitVec 512) : (c.dput i v).cmdIndex = c.cmdIndex := rfl
@[simp] theorem Ctrl.dput_stepAt (c : Ctrl) (i : Nat) (v : BitVec 512) : (c.dput i v).stepAt = c.stepAt := rfl
@[simp] theorem Ctrl.dput_attn (c : Ctrl) (i : Nat) (v : BitVec 512) : (c.dput i v).attn = c.attn := rfl

@[simp] theorem State.setTile_pending (s : State) (p i : Nat) (t : Tile) : (s.setTile p i t).pending = s.pending := rfl
@[simp] theorem State.setTile_now (s : State) (p i : Nat) (t : Tile) : (s.setTile p i t).now = s.now := rfl
@[simp] theorem State.setTile_fuses (s : State) (p i : Nat) (t : Tile) : (s.setTile p i t).fuses = s.fuses := rfl
@[simp] theorem State.setTile_regs (s : State) (p i : Nat) (t : Tile) : (s.setTile p i t).regs = s.regs := rfl
@[simp] theorem State.setTile_rdLatch (s : State) (p i : Nat) (t : Tile) : (s.setTile p i t).rdLatch = s.rdLatch := rfl
@[simp] theorem State.setTile_wrLatch (s : State) (p i : Nat) (t : Tile) : (s.setTile p i t).wrLatch = s.wrLatch := rfl
@[simp] theorem State.setTile_mem (s : State) (p i : Nat) (t : Tile) : (s.setTile p i t).mem = s.mem := rfl
@[simp] theorem State.setTile_memst (s : State) (p i : Nat) (t : Tile) : (s.setTile p i t).memst = s.memst := rfl
@[simp] theorem State.setTile_cores (s : State) (p i : Nat) (t : Tile) : (s.setTile p i t).cores = s.cores := rfl
@[simp] theorem State.setTile_mesh (s : State) (p i : Nat) (t : Tile) : (s.setTile p i t).mesh = s.mesh := rfl
@[simp] theorem State.setTile_rings (s : State) (p i : Nat) (t : Tile) : (s.setTile p i t).rings = s.rings := rfl
@[simp] theorem State.setTile_life (s : State) (p i : Nat) (t : Tile) : (s.setTile p i t).life = s.life := rfl
@[simp] theorem State.setTile_ctxs (s : State) (p i : Nat) (t : Tile) : (s.setTile p i t).ctxs = s.ctxs := rfl
@[simp] theorem State.setTile_parts (s : State) (p i : Nat) (t : Tile) : (s.setTile p i t).parts = s.parts := rfl
@[simp] theorem State.setTile_signals (s : State) (p i : Nat) (t : Tile) : (s.setTile p i t).signals = s.signals := rfl
@[simp] theorem State.setTile_flint (s : State) (p i : Nat) (t : Tile) : (s.setTile p i t).flint = s.flint := rfl
@[simp] theorem State.setTile_integ (s : State) (p i : Nat) (t : Tile) : (s.setTile p i t).integ = s.integ := rfl
@[simp] theorem State.setTile_fab (s : State) (p i : Nat) (t : Tile) : (s.setTile p i t).fab = s.fab := rfl
@[simp] theorem State.setTile_time (s : State) (p i : Nat) (t : Tile) : (s.setTile p i t).time = s.time := rfl
@[simp] theorem State.setTile_power (s : State) (p i : Nat) (t : Tile) : (s.setTile p i t).power = s.power := rfl
@[simp] theorem State.setTile_brp (s : State) (p i : Nat) (t : Tile) : (s.setTile p i t).brp = s.brp := rfl
@[simp] theorem State.setTile_mgt (s : State) (p i : Nat) (t : Tile) : (s.setTile p i t).mgt = s.mgt := rfl
@[simp] theorem State.setTile_reply (s : State) (p i : Nat) (t : Tile) : (s.setTile p i t).reply = s.reply := rfl
@[simp] theorem State.setTile_out (s : State) (p i : Nat) (t : Tile) : (s.setTile p i t).out = s.out := rfl
@[simp] theorem State.setTile_abortSeq (s : State) (p i : Nat) (t : Tile) : (s.setTile p i t).abortSeq = s.abortSeq := rfl
@[simp] theorem State.setTile_fresh (s : State) (p i : Nat) (t : Tile) : (s.setTile p i t).fresh = s.fresh := rfl

@[simp] theorem State.setWindow_pending (s : State) (p w : Nat) (x : Window) : (s.setWindow p w x).pending = s.pending := rfl
@[simp] theorem State.setWindow_now (s : State) (p w : Nat) (x : Window) : (s.setWindow p w x).now = s.now := rfl
@[simp] theorem State.setWindow_fuses (s : State) (p w : Nat) (x : Window) : (s.setWindow p w x).fuses = s.fuses := rfl
@[simp] theorem State.setWindow_regs (s : State) (p w : Nat) (x : Window) : (s.setWindow p w x).regs = s.regs := rfl
@[simp] theorem State.setWindow_rdLatch (s : State) (p w : Nat) (x : Window) : (s.setWindow p w x).rdLatch = s.rdLatch := rfl
@[simp] theorem State.setWindow_wrLatch (s : State) (p w : Nat) (x : Window) : (s.setWindow p w x).wrLatch = s.wrLatch := rfl
@[simp] theorem State.setWindow_mem (s : State) (p w : Nat) (x : Window) : (s.setWindow p w x).mem = s.mem := rfl
@[simp] theorem State.setWindow_memst (s : State) (p w : Nat) (x : Window) : (s.setWindow p w x).memst = s.memst := rfl
@[simp] theorem State.setWindow_cores (s : State) (p w : Nat) (x : Window) : (s.setWindow p w x).cores = s.cores := rfl
@[simp] theorem State.setWindow_mesh (s : State) (p w : Nat) (x : Window) : (s.setWindow p w x).mesh = s.mesh := rfl
@[simp] theorem State.setWindow_rings (s : State) (p w : Nat) (x : Window) : (s.setWindow p w x).rings = s.rings := rfl
@[simp] theorem State.setWindow_life (s : State) (p w : Nat) (x : Window) : (s.setWindow p w x).life = s.life := rfl
@[simp] theorem State.setWindow_ctxs (s : State) (p w : Nat) (x : Window) : (s.setWindow p w x).ctxs = s.ctxs := rfl
@[simp] theorem State.setWindow_parts (s : State) (p w : Nat) (x : Window) : (s.setWindow p w x).parts = s.parts := rfl
@[simp] theorem State.setWindow_signals (s : State) (p w : Nat) (x : Window) : (s.setWindow p w x).signals = s.signals := rfl
@[simp] theorem State.setWindow_flint (s : State) (p w : Nat) (x : Window) : (s.setWindow p w x).flint = s.flint := rfl
@[simp] theorem State.setWindow_integ (s : State) (p w : Nat) (x : Window) : (s.setWindow p w x).integ = s.integ := rfl
@[simp] theorem State.setWindow_fab (s : State) (p w : Nat) (x : Window) : (s.setWindow p w x).fab = s.fab := rfl
@[simp] theorem State.setWindow_time (s : State) (p w : Nat) (x : Window) : (s.setWindow p w x).time = s.time := rfl
@[simp] theorem State.setWindow_power (s : State) (p w : Nat) (x : Window) : (s.setWindow p w x).power = s.power := rfl
@[simp] theorem State.setWindow_brp (s : State) (p w : Nat) (x : Window) : (s.setWindow p w x).brp = s.brp := rfl
@[simp] theorem State.setWindow_mgt (s : State) (p w : Nat) (x : Window) : (s.setWindow p w x).mgt = s.mgt := rfl
@[simp] theorem State.setWindow_reply (s : State) (p w : Nat) (x : Window) : (s.setWindow p w x).reply = s.reply := rfl
@[simp] theorem State.setWindow_out (s : State) (p w : Nat) (x : Window) : (s.setWindow p w x).out = s.out := rfl
@[simp] theorem State.setWindow_abortSeq (s : State) (p w : Nat) (x : Window) : (s.setWindow p w x).abortSeq = s.abortSeq := rfl
@[simp] theorem State.setWindow_fresh (s : State) (p w : Nat) (x : Window) : (s.setWindow p w x).fresh = s.fresh := rfl

@[simp] theorem State.setLinkTime_pending (s : State) (f : Nat) (x : LinkTime) : (s.setLinkTime f x).pending = s.pending := rfl
@[simp] theorem State.setLinkTime_now (s : State) (f : Nat) (x : LinkTime) : (s.setLinkTime f x).now = s.now := rfl
@[simp] theorem State.setLinkTime_fuses (s : State) (f : Nat) (x : LinkTime) : (s.setLinkTime f x).fuses = s.fuses := rfl
@[simp] theorem State.setLinkTime_regs (s : State) (f : Nat) (x : LinkTime) : (s.setLinkTime f x).regs = s.regs := rfl
@[simp] theorem State.setLinkTime_rdLatch (s : State) (f : Nat) (x : LinkTime) : (s.setLinkTime f x).rdLatch = s.rdLatch := rfl
@[simp] theorem State.setLinkTime_wrLatch (s : State) (f : Nat) (x : LinkTime) : (s.setLinkTime f x).wrLatch = s.wrLatch := rfl
@[simp] theorem State.setLinkTime_mem (s : State) (f : Nat) (x : LinkTime) : (s.setLinkTime f x).mem = s.mem := rfl
@[simp] theorem State.setLinkTime_memst (s : State) (f : Nat) (x : LinkTime) : (s.setLinkTime f x).memst = s.memst := rfl
@[simp] theorem State.setLinkTime_arrays (s : State) (f : Nat) (x : LinkTime) : (s.setLinkTime f x).arrays = s.arrays := rfl
@[simp] theorem State.setLinkTime_cores (s : State) (f : Nat) (x : LinkTime) : (s.setLinkTime f x).cores = s.cores := rfl
@[simp] theorem State.setLinkTime_mesh (s : State) (f : Nat) (x : LinkTime) : (s.setLinkTime f x).mesh = s.mesh := rfl
@[simp] theorem State.setLinkTime_rings (s : State) (f : Nat) (x : LinkTime) : (s.setLinkTime f x).rings = s.rings := rfl
@[simp] theorem State.setLinkTime_life (s : State) (f : Nat) (x : LinkTime) : (s.setLinkTime f x).life = s.life := rfl
@[simp] theorem State.setLinkTime_ctxs (s : State) (f : Nat) (x : LinkTime) : (s.setLinkTime f x).ctxs = s.ctxs := rfl
@[simp] theorem State.setLinkTime_parts (s : State) (f : Nat) (x : LinkTime) : (s.setLinkTime f x).parts = s.parts := rfl
@[simp] theorem State.setLinkTime_signals (s : State) (f : Nat) (x : LinkTime) : (s.setLinkTime f x).signals = s.signals := rfl
@[simp] theorem State.setLinkTime_flint (s : State) (f : Nat) (x : LinkTime) : (s.setLinkTime f x).flint = s.flint := rfl
@[simp] theorem State.setLinkTime_integ (s : State) (f : Nat) (x : LinkTime) : (s.setLinkTime f x).integ = s.integ := rfl
@[simp] theorem State.setLinkTime_fab (s : State) (f : Nat) (x : LinkTime) : (s.setLinkTime f x).fab = s.fab := rfl
@[simp] theorem State.setLinkTime_power (s : State) (f : Nat) (x : LinkTime) : (s.setLinkTime f x).power = s.power := rfl
@[simp] theorem State.setLinkTime_brp (s : State) (f : Nat) (x : LinkTime) : (s.setLinkTime f x).brp = s.brp := rfl
@[simp] theorem State.setLinkTime_mgt (s : State) (f : Nat) (x : LinkTime) : (s.setLinkTime f x).mgt = s.mgt := rfl
@[simp] theorem State.setLinkTime_reply (s : State) (f : Nat) (x : LinkTime) : (s.setLinkTime f x).reply = s.reply := rfl
@[simp] theorem State.setLinkTime_out (s : State) (f : Nat) (x : LinkTime) : (s.setLinkTime f x).out = s.out := rfl
@[simp] theorem State.setLinkTime_abortSeq (s : State) (f : Nat) (x : LinkTime) : (s.setLinkTime f x).abortSeq = s.abortSeq := rfl
@[simp] theorem State.setLinkTime_fresh (s : State) (f : Nat) (x : LinkTime) : (s.setLinkTime f x).fresh = s.fresh := rfl

@[simp] theorem State.modPc_pending (s : State) (pc : Nat) (f : HbmPc → HbmPc) : (s.modPc pc f).pending = s.pending := rfl
@[simp] theorem State.modPc_now (s : State) (pc : Nat) (f : HbmPc → HbmPc) : (s.modPc pc f).now = s.now := rfl
@[simp] theorem State.modPc_fuses (s : State) (pc : Nat) (f : HbmPc → HbmPc) : (s.modPc pc f).fuses = s.fuses := rfl
@[simp] theorem State.modPc_regs (s : State) (pc : Nat) (f : HbmPc → HbmPc) : (s.modPc pc f).regs = s.regs := rfl
@[simp] theorem State.modPc_rdLatch (s : State) (pc : Nat) (f : HbmPc → HbmPc) : (s.modPc pc f).rdLatch = s.rdLatch := rfl
@[simp] theorem State.modPc_wrLatch (s : State) (pc : Nat) (f : HbmPc → HbmPc) : (s.modPc pc f).wrLatch = s.wrLatch := rfl
@[simp] theorem State.modPc_mem (s : State) (pc : Nat) (f : HbmPc → HbmPc) : (s.modPc pc f).mem = s.mem := rfl
@[simp] theorem State.modPc_arrays (s : State) (pc : Nat) (f : HbmPc → HbmPc) : (s.modPc pc f).arrays = s.arrays := rfl
@[simp] theorem State.modPc_cores (s : State) (pc : Nat) (f : HbmPc → HbmPc) : (s.modPc pc f).cores = s.cores := rfl
@[simp] theorem State.modPc_mesh (s : State) (pc : Nat) (f : HbmPc → HbmPc) : (s.modPc pc f).mesh = s.mesh := rfl
@[simp] theorem State.modPc_rings (s : State) (pc : Nat) (f : HbmPc → HbmPc) : (s.modPc pc f).rings = s.rings := rfl
@[simp] theorem State.modPc_life (s : State) (pc : Nat) (f : HbmPc → HbmPc) : (s.modPc pc f).life = s.life := rfl
@[simp] theorem State.modPc_ctxs (s : State) (pc : Nat) (f : HbmPc → HbmPc) : (s.modPc pc f).ctxs = s.ctxs := rfl
@[simp] theorem State.modPc_parts (s : State) (pc : Nat) (f : HbmPc → HbmPc) : (s.modPc pc f).parts = s.parts := rfl
@[simp] theorem State.modPc_signals (s : State) (pc : Nat) (f : HbmPc → HbmPc) : (s.modPc pc f).signals = s.signals := rfl
@[simp] theorem State.modPc_flint (s : State) (pc : Nat) (f : HbmPc → HbmPc) : (s.modPc pc f).flint = s.flint := rfl
@[simp] theorem State.modPc_integ (s : State) (pc : Nat) (f : HbmPc → HbmPc) : (s.modPc pc f).integ = s.integ := rfl
@[simp] theorem State.modPc_fab (s : State) (pc : Nat) (f : HbmPc → HbmPc) : (s.modPc pc f).fab = s.fab := rfl
@[simp] theorem State.modPc_time (s : State) (pc : Nat) (f : HbmPc → HbmPc) : (s.modPc pc f).time = s.time := rfl
@[simp] theorem State.modPc_power (s : State) (pc : Nat) (f : HbmPc → HbmPc) : (s.modPc pc f).power = s.power := rfl
@[simp] theorem State.modPc_brp (s : State) (pc : Nat) (f : HbmPc → HbmPc) : (s.modPc pc f).brp = s.brp := rfl
@[simp] theorem State.modPc_mgt (s : State) (pc : Nat) (f : HbmPc → HbmPc) : (s.modPc pc f).mgt = s.mgt := rfl
@[simp] theorem State.modPc_reply (s : State) (pc : Nat) (f : HbmPc → HbmPc) : (s.modPc pc f).reply = s.reply := rfl
@[simp] theorem State.modPc_out (s : State) (pc : Nat) (f : HbmPc → HbmPc) : (s.modPc pc f).out = s.out := rfl
@[simp] theorem State.modPc_abortSeq (s : State) (pc : Nat) (f : HbmPc → HbmPc) : (s.modPc pc f).abortSeq = s.abortSeq := rfl
@[simp] theorem State.modPc_fresh (s : State) (pc : Nat) (f : HbmPc → HbmPc) : (s.modPc pc f).fresh = s.fresh := rfl

@[simp] theorem State.setI3c_pending (s : State) (t : Nat) (x : I3cTarget) : (s.setI3c t x).pending = s.pending := rfl
@[simp] theorem State.setI3c_now (s : State) (t : Nat) (x : I3cTarget) : (s.setI3c t x).now = s.now := rfl
@[simp] theorem State.setI3c_fuses (s : State) (t : Nat) (x : I3cTarget) : (s.setI3c t x).fuses = s.fuses := rfl
@[simp] theorem State.setI3c_regs (s : State) (t : Nat) (x : I3cTarget) : (s.setI3c t x).regs = s.regs := rfl
@[simp] theorem State.setI3c_rdLatch (s : State) (t : Nat) (x : I3cTarget) : (s.setI3c t x).rdLatch = s.rdLatch := rfl
@[simp] theorem State.setI3c_wrLatch (s : State) (t : Nat) (x : I3cTarget) : (s.setI3c t x).wrLatch = s.wrLatch := rfl
@[simp] theorem State.setI3c_mem (s : State) (t : Nat) (x : I3cTarget) : (s.setI3c t x).mem = s.mem := rfl
@[simp] theorem State.setI3c_memst (s : State) (t : Nat) (x : I3cTarget) : (s.setI3c t x).memst = s.memst := rfl
@[simp] theorem State.setI3c_arrays (s : State) (t : Nat) (x : I3cTarget) : (s.setI3c t x).arrays = s.arrays := rfl
@[simp] theorem State.setI3c_cores (s : State) (t : Nat) (x : I3cTarget) : (s.setI3c t x).cores = s.cores := rfl
@[simp] theorem State.setI3c_mesh (s : State) (t : Nat) (x : I3cTarget) : (s.setI3c t x).mesh = s.mesh := rfl
@[simp] theorem State.setI3c_rings (s : State) (t : Nat) (x : I3cTarget) : (s.setI3c t x).rings = s.rings := rfl
@[simp] theorem State.setI3c_life (s : State) (t : Nat) (x : I3cTarget) : (s.setI3c t x).life = s.life := rfl
@[simp] theorem State.setI3c_ctxs (s : State) (t : Nat) (x : I3cTarget) : (s.setI3c t x).ctxs = s.ctxs := rfl
@[simp] theorem State.setI3c_parts (s : State) (t : Nat) (x : I3cTarget) : (s.setI3c t x).parts = s.parts := rfl
@[simp] theorem State.setI3c_signals (s : State) (t : Nat) (x : I3cTarget) : (s.setI3c t x).signals = s.signals := rfl
@[simp] theorem State.setI3c_flint (s : State) (t : Nat) (x : I3cTarget) : (s.setI3c t x).flint = s.flint := rfl
@[simp] theorem State.setI3c_integ (s : State) (t : Nat) (x : I3cTarget) : (s.setI3c t x).integ = s.integ := rfl
@[simp] theorem State.setI3c_fab (s : State) (t : Nat) (x : I3cTarget) : (s.setI3c t x).fab = s.fab := rfl
@[simp] theorem State.setI3c_time (s : State) (t : Nat) (x : I3cTarget) : (s.setI3c t x).time = s.time := rfl
@[simp] theorem State.setI3c_power (s : State) (t : Nat) (x : I3cTarget) : (s.setI3c t x).power = s.power := rfl
@[simp] theorem State.setI3c_brp (s : State) (t : Nat) (x : I3cTarget) : (s.setI3c t x).brp = s.brp := rfl
@[simp] theorem State.setI3c_reply (s : State) (t : Nat) (x : I3cTarget) : (s.setI3c t x).reply = s.reply := rfl
@[simp] theorem State.setI3c_out (s : State) (t : Nat) (x : I3cTarget) : (s.setI3c t x).out = s.out := rfl
@[simp] theorem State.setI3c_abortSeq (s : State) (t : Nat) (x : I3cTarget) : (s.setI3c t x).abortSeq = s.abortSeq := rfl
@[simp] theorem State.setI3c_fresh (s : State) (t : Nat) (x : I3cTarget) : (s.setI3c t x).fresh = s.fresh := rfl

@[simp] theorem State.setSpdm_pending (s : State) (req : Requester) (n : Nat) : (s.setSpdm req n).pending = s.pending := rfl
@[simp] theorem State.setSpdm_now (s : State) (req : Requester) (n : Nat) : (s.setSpdm req n).now = s.now := rfl
@[simp] theorem State.setSpdm_fuses (s : State) (req : Requester) (n : Nat) : (s.setSpdm req n).fuses = s.fuses := rfl
@[simp] theorem State.setSpdm_regs (s : State) (req : Requester) (n : Nat) : (s.setSpdm req n).regs = s.regs := rfl
@[simp] theorem State.setSpdm_rdLatch (s : State) (req : Requester) (n : Nat) : (s.setSpdm req n).rdLatch = s.rdLatch := rfl
@[simp] theorem State.setSpdm_wrLatch (s : State) (req : Requester) (n : Nat) : (s.setSpdm req n).wrLatch = s.wrLatch := rfl
@[simp] theorem State.setSpdm_mem (s : State) (req : Requester) (n : Nat) : (s.setSpdm req n).mem = s.mem := rfl
@[simp] theorem State.setSpdm_memst (s : State) (req : Requester) (n : Nat) : (s.setSpdm req n).memst = s.memst := rfl
@[simp] theorem State.setSpdm_arrays (s : State) (req : Requester) (n : Nat) : (s.setSpdm req n).arrays = s.arrays := rfl
@[simp] theorem State.setSpdm_cores (s : State) (req : Requester) (n : Nat) : (s.setSpdm req n).cores = s.cores := rfl
@[simp] theorem State.setSpdm_mesh (s : State) (req : Requester) (n : Nat) : (s.setSpdm req n).mesh = s.mesh := rfl
@[simp] theorem State.setSpdm_rings (s : State) (req : Requester) (n : Nat) : (s.setSpdm req n).rings = s.rings := rfl
@[simp] theorem State.setSpdm_life (s : State) (req : Requester) (n : Nat) : (s.setSpdm req n).life = s.life := rfl
@[simp] theorem State.setSpdm_ctxs (s : State) (req : Requester) (n : Nat) : (s.setSpdm req n).ctxs = s.ctxs := rfl
@[simp] theorem State.setSpdm_parts (s : State) (req : Requester) (n : Nat) : (s.setSpdm req n).parts = s.parts := rfl
@[simp] theorem State.setSpdm_signals (s : State) (req : Requester) (n : Nat) : (s.setSpdm req n).signals = s.signals := rfl
@[simp] theorem State.setSpdm_flint (s : State) (req : Requester) (n : Nat) : (s.setSpdm req n).flint = s.flint := rfl
@[simp] theorem State.setSpdm_integ (s : State) (req : Requester) (n : Nat) : (s.setSpdm req n).integ = s.integ := rfl
@[simp] theorem State.setSpdm_fab (s : State) (req : Requester) (n : Nat) : (s.setSpdm req n).fab = s.fab := rfl
@[simp] theorem State.setSpdm_time (s : State) (req : Requester) (n : Nat) : (s.setSpdm req n).time = s.time := rfl
@[simp] theorem State.setSpdm_power (s : State) (req : Requester) (n : Nat) : (s.setSpdm req n).power = s.power := rfl
@[simp] theorem State.setSpdm_brp (s : State) (req : Requester) (n : Nat) : (s.setSpdm req n).brp = s.brp := rfl
@[simp] theorem State.setSpdm_reply (s : State) (req : Requester) (n : Nat) : (s.setSpdm req n).reply = s.reply := rfl
@[simp] theorem State.setSpdm_out (s : State) (req : Requester) (n : Nat) : (s.setSpdm req n).out = s.out := rfl
@[simp] theorem State.setSpdm_abortSeq (s : State) (req : Requester) (n : Nat) : (s.setSpdm req n).abortSeq = s.abortSeq := rfl
@[simp] theorem State.setSpdm_fresh (s : State) (req : Requester) (n : Nat) : (s.setSpdm req n).fresh = s.fresh := rfl

@[simp] theorem State.setK_pending (s : State) (p strip k : Nat) : (s.setK p strip k).pending = s.pending := rfl
@[simp] theorem State.setK_now (s : State) (p strip k : Nat) : (s.setK p strip k).now = s.now := rfl
@[simp] theorem State.setK_fuses (s : State) (p strip k : Nat) : (s.setK p strip k).fuses = s.fuses := rfl
@[simp] theorem State.setK_regs (s : State) (p strip k : Nat) : (s.setK p strip k).regs = s.regs := rfl
@[simp] theorem State.setK_rdLatch (s : State) (p strip k : Nat) : (s.setK p strip k).rdLatch = s.rdLatch := rfl
@[simp] theorem State.setK_wrLatch (s : State) (p strip k : Nat) : (s.setK p strip k).wrLatch = s.wrLatch := rfl
@[simp] theorem State.setK_mem (s : State) (p strip k : Nat) : (s.setK p strip k).mem = s.mem := rfl
@[simp] theorem State.setK_memst (s : State) (p strip k : Nat) : (s.setK p strip k).memst = s.memst := rfl
@[simp] theorem State.setK_arrays (s : State) (p strip k : Nat) : (s.setK p strip k).arrays = s.arrays := rfl
@[simp] theorem State.setK_cores (s : State) (p strip k : Nat) : (s.setK p strip k).cores = s.cores := rfl
@[simp] theorem State.setK_mesh (s : State) (p strip k : Nat) : (s.setK p strip k).mesh = s.mesh := rfl
@[simp] theorem State.setK_rings (s : State) (p strip k : Nat) : (s.setK p strip k).rings = s.rings := rfl
@[simp] theorem State.setK_life (s : State) (p strip k : Nat) : (s.setK p strip k).life = s.life := rfl
@[simp] theorem State.setK_ctxs (s : State) (p strip k : Nat) : (s.setK p strip k).ctxs = s.ctxs := rfl
@[simp] theorem State.setK_parts (s : State) (p strip k : Nat) : (s.setK p strip k).parts = s.parts := rfl
@[simp] theorem State.setK_signals (s : State) (p strip k : Nat) : (s.setK p strip k).signals = s.signals := rfl
@[simp] theorem State.setK_flint (s : State) (p strip k : Nat) : (s.setK p strip k).flint = s.flint := rfl
@[simp] theorem State.setK_integ (s : State) (p strip k : Nat) : (s.setK p strip k).integ = s.integ := rfl
@[simp] theorem State.setK_fab (s : State) (p strip k : Nat) : (s.setK p strip k).fab = s.fab := rfl
@[simp] theorem State.setK_time (s : State) (p strip k : Nat) : (s.setK p strip k).time = s.time := rfl
@[simp] theorem State.setK_power (s : State) (p strip k : Nat) : (s.setK p strip k).power = s.power := rfl
@[simp] theorem State.setK_mgt (s : State) (p strip k : Nat) : (s.setK p strip k).mgt = s.mgt := rfl
@[simp] theorem State.setK_reply (s : State) (p strip k : Nat) : (s.setK p strip k).reply = s.reply := rfl
@[simp] theorem State.setK_out (s : State) (p strip k : Nat) : (s.setK p strip k).out = s.out := rfl
@[simp] theorem State.setK_abortSeq (s : State) (p strip k : Nat) : (s.setK p strip k).abortSeq = s.abortSeq := rfl
@[simp] theorem State.setK_fresh (s : State) (p strip k : Nat) : (s.setK p strip k).fresh = s.fresh := rfl

@[simp] theorem State.setCtxState_pending (s : State) (c x : Nat) : (s.setCtxState c x).pending = s.pending := rfl
@[simp] theorem State.setCtxState_now (s : State) (c x : Nat) : (s.setCtxState c x).now = s.now := rfl
@[simp] theorem State.setCtxState_fuses (s : State) (c x : Nat) : (s.setCtxState c x).fuses = s.fuses := rfl
@[simp] theorem State.setCtxState_rdLatch (s : State) (c x : Nat) : (s.setCtxState c x).rdLatch = s.rdLatch := rfl
@[simp] theorem State.setCtxState_wrLatch (s : State) (c x : Nat) : (s.setCtxState c x).wrLatch = s.wrLatch := rfl
@[simp] theorem State.setCtxState_mem (s : State) (c x : Nat) : (s.setCtxState c x).mem = s.mem := rfl
@[simp] theorem State.setCtxState_memst (s : State) (c x : Nat) : (s.setCtxState c x).memst = s.memst := rfl
@[simp] theorem State.setCtxState_arrays (s : State) (c x : Nat) : (s.setCtxState c x).arrays = s.arrays := rfl
@[simp] theorem State.setCtxState_cores (s : State) (c x : Nat) : (s.setCtxState c x).cores = s.cores := rfl
@[simp] theorem State.setCtxState_mesh (s : State) (c x : Nat) : (s.setCtxState c x).mesh = s.mesh := rfl
@[simp] theorem State.setCtxState_rings (s : State) (c x : Nat) : (s.setCtxState c x).rings = s.rings := rfl
@[simp] theorem State.setCtxState_life (s : State) (c x : Nat) : (s.setCtxState c x).life = s.life := rfl
@[simp] theorem State.setCtxState_ctxs (s : State) (c x : Nat) : (s.setCtxState c x).ctxs = s.ctxs := rfl
@[simp] theorem State.setCtxState_parts (s : State) (c x : Nat) : (s.setCtxState c x).parts = s.parts := rfl
@[simp] theorem State.setCtxState_signals (s : State) (c x : Nat) : (s.setCtxState c x).signals = s.signals := rfl
@[simp] theorem State.setCtxState_flint (s : State) (c x : Nat) : (s.setCtxState c x).flint = s.flint := rfl
@[simp] theorem State.setCtxState_integ (s : State) (c x : Nat) : (s.setCtxState c x).integ = s.integ := rfl
@[simp] theorem State.setCtxState_fab (s : State) (c x : Nat) : (s.setCtxState c x).fab = s.fab := rfl
@[simp] theorem State.setCtxState_time (s : State) (c x : Nat) : (s.setCtxState c x).time = s.time := rfl
@[simp] theorem State.setCtxState_power (s : State) (c x : Nat) : (s.setCtxState c x).power = s.power := rfl
@[simp] theorem State.setCtxState_brp (s : State) (c x : Nat) : (s.setCtxState c x).brp = s.brp := rfl
@[simp] theorem State.setCtxState_mgt (s : State) (c x : Nat) : (s.setCtxState c x).mgt = s.mgt := rfl
@[simp] theorem State.setCtxState_reply (s : State) (c x : Nat) : (s.setCtxState c x).reply = s.reply := rfl
@[simp] theorem State.setCtxState_out (s : State) (c x : Nat) : (s.setCtxState c x).out = s.out := rfl
@[simp] theorem State.setCtxState_abortSeq (s : State) (c x : Nat) : (s.setCtxState c x).abortSeq = s.abortSeq := rfl
@[simp] theorem State.setCtxState_fresh (s : State) (c x : Nat) : (s.setCtxState c x).fresh = s.fresh := rfl

@[simp] theorem State.setDom_pending (s : State) (d x : Nat) : (s.setDom d x).pending = s.pending := rfl
@[simp] theorem State.setDom_now (s : State) (d x : Nat) : (s.setDom d x).now = s.now := rfl
@[simp] theorem State.setDom_fuses (s : State) (d x : Nat) : (s.setDom d x).fuses = s.fuses := rfl
@[simp] theorem State.setDom_rdLatch (s : State) (d x : Nat) : (s.setDom d x).rdLatch = s.rdLatch := rfl
@[simp] theorem State.setDom_wrLatch (s : State) (d x : Nat) : (s.setDom d x).wrLatch = s.wrLatch := rfl
@[simp] theorem State.setDom_mem (s : State) (d x : Nat) : (s.setDom d x).mem = s.mem := rfl
@[simp] theorem State.setDom_memst (s : State) (d x : Nat) : (s.setDom d x).memst = s.memst := rfl
@[simp] theorem State.setDom_arrays (s : State) (d x : Nat) : (s.setDom d x).arrays = s.arrays := rfl
@[simp] theorem State.setDom_cores (s : State) (d x : Nat) : (s.setDom d x).cores = s.cores := rfl
@[simp] theorem State.setDom_mesh (s : State) (d x : Nat) : (s.setDom d x).mesh = s.mesh := rfl
@[simp] theorem State.setDom_rings (s : State) (d x : Nat) : (s.setDom d x).rings = s.rings := rfl
@[simp] theorem State.setDom_life (s : State) (d x : Nat) : (s.setDom d x).life = s.life := rfl
@[simp] theorem State.setDom_ctxs (s : State) (d x : Nat) : (s.setDom d x).ctxs = s.ctxs := rfl
@[simp] theorem State.setDom_parts (s : State) (d x : Nat) : (s.setDom d x).parts = s.parts := rfl
@[simp] theorem State.setDom_signals (s : State) (d x : Nat) : (s.setDom d x).signals = s.signals := rfl
@[simp] theorem State.setDom_flint (s : State) (d x : Nat) : (s.setDom d x).flint = s.flint := rfl
@[simp] theorem State.setDom_integ (s : State) (d x : Nat) : (s.setDom d x).integ = s.integ := rfl
@[simp] theorem State.setDom_fab (s : State) (d x : Nat) : (s.setDom d x).fab = s.fab := rfl
@[simp] theorem State.setDom_time (s : State) (d x : Nat) : (s.setDom d x).time = s.time := rfl
@[simp] theorem State.setDom_power (s : State) (d x : Nat) : (s.setDom d x).power = s.power := rfl
@[simp] theorem State.setDom_brp (s : State) (d x : Nat) : (s.setDom d x).brp = s.brp := rfl
@[simp] theorem State.setDom_mgt (s : State) (d x : Nat) : (s.setDom d x).mgt = s.mgt := rfl
@[simp] theorem State.setDom_reply (s : State) (d x : Nat) : (s.setDom d x).reply = s.reply := rfl
@[simp] theorem State.setDom_out (s : State) (d x : Nat) : (s.setDom d x).out = s.out := rfl
@[simp] theorem State.setDom_abortSeq (s : State) (d x : Nat) : (s.setDom d x).abortSeq = s.abortSeq := rfl
@[simp] theorem State.setDom_fresh (s : State) (d x : Nat) : (s.setDom d x).fresh = s.fresh := rfl

end Sys2Proof.Machine
end

