-- ==== Sys2Proof/Laws/Words.lean ====
section
/-!
SUPPORT. The fields of the instruction words that Safety/Words writes, and what a command does at a unit that stands before its word: the
check of the word passes, and the effect follows.
-/
namespace Sys2Proof.Machine

/-- A mask acts on what lies above a bit position and on what lies below it. -/
theorem and_split (k x y u v : Nat) (hy : y < 2 ^ k) (hv : v < 2 ^ k) :
    (x * 2 ^ k + y) &&& (u * 2 ^ k + v) = (x &&& u) * 2 ^ k + (y &&& v) := by
  refine Nat.eq_of_testBit_eq fun i => ?_
  rw [Nat.testBit_and, Nat.mul_comm x, Nat.mul_comm u, Nat.mul_comm (x &&& u), Nat.testBit_two_pow_mul_add _ hy, Nat.testBit_two_pow_mul_add _ hv,
    Nat.testBit_two_pow_mul_add _ (Nat.lt_of_le_of_lt Nat.and_le_left hy)]
  by_cases h : i < k <;> simp [h]

/-- A mask cut at a bit position. -/
theorem and_cut (k x m : Nat) : x &&& m = (x / 2 ^ k &&& m / 2 ^ k) * 2 ^ k + (x % 2 ^ k &&& m % 2 ^ k) := by
  conv_lhs => rw [← Nat.div_add_mod x (2 ^ k), ← Nat.div_add_mod m (2 ^ k), Nat.mul_comm, Nat.mul_comm (2 ^ k) (m / 2 ^ k)]
  exact and_split _ _ _ _ _ (Nat.mod_lt _ (Nat.two_pow_pos k)) (Nat.mod_lt _ (Nat.two_pow_pos k))

theorem and_peel {k y : Nat} (x m : Nat) (hy : y < 2 ^ k) : (x * 2 ^ k + y) &&& m = (x &&& m / 2 ^ k) * 2 ^ k + (y &&& m % 2 ^ k) := by
  rw [and_cut k]
  have h : (x * 2 ^ k + y) / 2 ^ k = x := by
    rw [Nat.add_comm, Nat.add_mul_div_right _ _ (Nat.two_pow_pos k), Nat.div_eq_of_lt hy, Nat.zero_add]
  have g : (x * 2 ^ k + y) % 2 ^ k = y := by rw [Nat.add_comm, Nat.add_mul_mod_self_right, Nat.mod_eq_of_lt hy]
  rw [h, g]

theorem wordR_toNat {op d a b e sz fn : Nat} (ho : op < 32) (hd : d < 16) (ha : a < 16) (hb : b < 16) (he : e < 16) (hs : sz < 8) (hf : fn < 256) :
    (wordR op d a b e sz fn).toNat = op * 2 ^ 27 + d * 2 ^ 23 + a * 2 ^ 19 + b * 2 ^ 15 + e * 2 ^ 11 + sz * 2 ^ 8 + fn := by
  simp only [wordR, BitVec.toNat_ofNat]; omega

/-- A mask over format R, field by field. -/
theorem wordR_and {op d a b e sz fn : Nat} (m : Nat) (ho : op < 32) (hd : d < 16) (ha : a < 16) (hb : b < 16) (he : e < 16) (hs : sz < 8)
    (hf : fn < 256) :
    (wordR op d a b e sz fn).toNat &&& m = (op &&& m / 2 ^ 27) * 2 ^ 27 + ((d &&& m % 2 ^ 27 / 2 ^ 23) * 2 ^ 23
      + ((a &&& m % 2 ^ 27 % 2 ^ 23 / 2 ^ 19) * 2 ^ 19 + ((b &&& m % 2 ^ 27 % 2 ^ 23 % 2 ^ 19 / 2 ^ 15) * 2 ^ 15
      + ((e &&& m % 2 ^ 27 % 2 ^ 23 % 2 ^ 19 % 2 ^ 15 / 2 ^ 11) * 2 ^ 11 + ((sz &&& m % 2 ^ 27 % 2 ^ 23 % 2 ^ 19 % 2 ^ 15 % 2 ^ 11 / 2 ^ 8) * 2 ^ 8
      + (fn &&& m % 2 ^ 27 % 2 ^ 23 % 2 ^ 19 % 2 ^ 15 % 2 ^ 11 % 2 ^ 8)))))) := by
  rw [wordR_toNat ho hd ha hb he hs hf]
  simp only [Nat.add_assoc]
  rw [and_peel op m (by omega), and_peel d _ (by omega), and_peel a _ (by omega), and_peel b _ (by omega), and_peel e _ (by omega),
    and_peel sz _ (by omega)]

/-- The fields of format R. -/
theorem wordR_fields {op d a b e sz fn : Nat} (ho : op < 32) (hd : d < 16) (ha : a < 16) (hb : b < 16) (he : e < 16) (hs : sz < 8) (hf : fn < 256) :
    fD (wordR op d a b e sz fn) = d ∧ fA (wordR op d a b e sz fn) = a ∧ fB (wordR op d a b e sz fn) = b ∧ fE (wordR op d a b e sz fn) = e ∧
      fSz (wordR op d a b e sz fn) = sz ∧ fFn (wordR op d a b e sz fn) = fn := by
  simp only [fD, fA, fB, fE, fSz, fFn, bitsOf, Nat.shiftRight_eq_div_pow]
  rw [wordR_toNat ho hd ha hb he hs hf]
  omega

theorem wordI_toNat {op d a fn : Nat} {imm : BitVec 15} (ho : op < 32) (hd : d < 16) (ha : a < 16) (hf : fn < 16) : (wordI op d a fn imm).toNat = op * 2 ^ 27 + d * 2 ^ 23 + a * 2 ^ 19 + fn * 2 ^ 15 + imm.toNat := by
  simp only [wordI, BitVec.toNat_ofNat]; omega

/-- A mask over format I, field by field. -/
theorem wordI_and {op d a fn : Nat} {imm : BitVec 15} (m : Nat) (ho : op < 32) (hd : d < 16) (ha : a < 16) (hf : fn < 16) :
    (wordI op d a fn imm).toNat &&& m = (op &&& m / 2 ^ 27) * 2 ^ 27 + ((d &&& m % 2 ^ 27 / 2 ^ 23) * 2 ^ 23 + ((a &&& m % 2 ^ 27 % 2 ^ 23 / 2 ^ 19) * 2 ^ 19 + ((fn &&& m % 2 ^ 27 % 2 ^ 23 % 2 ^ 19 / 2 ^ 15) * 2 ^ 15 + ((imm.toNat &&& m % 2 ^ 27 % 2 ^ 23 % 2 ^ 19 % 2 ^ 15))))) := by
  rw [wordI_toNat ho hd ha hf]
  simp only [Nat.add_assoc]
  rw [and_peel (op) _ (by omega), and_peel (d) _ (by omega), and_peel (a) _ (by omega), and_peel (fn) _ (by omega)]

theorem wordI_fields {op d a fn : Nat} {imm : BitVec 15} (ho : op < 32) (hd : d < 16) (ha : a < 16) (hf : fn < 16) :
    fD (wordI op d a fn imm) = d ∧ fA (wordI op d a fn imm) = a ∧ bitsOf (wordI op d a fn imm).toNat 14 0 = imm.toNat := by
  simp only [bitsOf, fA, fD, Nat.shiftRight_eq_div_pow]
  rw [wordI_toNat ho hd ha hf]
  omega

theorem wordL_toNat {op d : Nat} {imm : BitVec 23} (ho : op < 32) (hd : d < 16) : (wordL op d imm).toNat = op * 2 ^ 27 + d * 2 ^ 23 + imm.toNat := by
  simp only [wordL, BitVec.toNat_ofNat]; omega

/-- A mask over format L, field by field. -/
theorem wordL_and {op d : Nat} {imm : BitVec 23} (m : Nat) (ho : op < 32) (hd : d < 16) :
    (wordL op d imm).toNat &&& m = (op &&& m / 2 ^ 27) * 2 ^ 27 + ((d &&& m % 2 ^ 27 / 2 ^ 23) * 2 ^ 23 + ((imm.toNat &&& m % 2 ^ 27 % 2 ^ 23))) := by
  rw [wordL_toNat ho hd]
  simp only [Nat.add_assoc]
  rw [and_peel (op) _ (by omega), and_peel (d) _ (by omega)]

theorem wordL_fields {op d : Nat} {imm : BitVec 23} (ho : op < 32) (hd : d < 16) :
    fD (wordL op d imm) = d ∧ fImm23 (wordL op d imm) = imm.toNat := by
  simp only [bitsOf, fD, fImm23, Nat.shiftRight_eq_div_pow]
  rw [wordL_toNat ho hd]
  omega

theorem wordM_toNat {op d a kind inc off : Nat} (ho : op < 32) (hd : d < 16) (ha : a < 16) (hk : kind < 8) (hi : inc < 2) (hf : off < 4096) : (wordM op d a kind inc off).toNat = op * 2 ^ 27 + d * 2 ^ 23 + a * 2 ^ 19 + kind * 2 ^ 16 + inc * 2 ^ 15 + off := by
  simp only [wordM, BitVec.toNat_ofNat]; omega

/-- A mask over format M, field by field. -/
theorem wordM_and {op d a kind inc off : Nat} (m : Nat) (ho : op < 32) (hd : d < 16) (ha : a < 16) (hk : kind < 8) (hi : inc < 2) (hf : off < 4096) :
    (wordM op d a kind inc off).toNat &&& m = (op &&& m / 2 ^ 27) * 2 ^ 27 + ((d &&& m % 2 ^ 27 / 2 ^ 23) * 2 ^ 23 + ((a &&& m % 2 ^ 27 % 2 ^ 23 / 2 ^ 19) * 2 ^ 19 + ((kind &&& m % 2 ^ 27 % 2 ^ 23 % 2 ^ 19 / 2 ^ 16) * 2 ^ 16 + ((inc &&& m % 2 ^ 27 % 2 ^ 23 % 2 ^ 19 % 2 ^ 16 / 2 ^ 15) * 2 ^ 15 + ((off &&& m % 2 ^ 27 % 2 ^ 23 % 2 ^ 19 % 2 ^ 16 % 2 ^ 15)))))) := by
  rw [wordM_toNat ho hd ha hk hi hf]
  simp only [Nat.add_assoc]
  rw [and_peel (op) _ (by omega), and_peel (d) _ (by omega), and_peel (a) _ (by omega), and_peel (kind) _ (by omega), and_peel (inc) _ (by omega)]

theorem wordM_fields {op d a kind inc off : Nat} (ho : op < 32) (hd : d < 16) (ha : a < 16) (hk : kind < 8) (hi : inc < 2) (hf : off < 4096) :
    fD (wordM op d a kind inc off) = d ∧ fA (wordM op d a kind inc off) = a ∧ bitsOf (wordM op d a kind inc off).toNat 11 0 = off ∧ (wordM op d a kind inc off).toNat / 2 ^ 15 % 2 = inc := by
  simp only [bitsOf, fA, fD, Nat.shiftRight_eq_div_pow]
  rw [wordM_toNat ho hd ha hk hi hf]
  omega

theorem wordB_toNat {op a b cond target : Nat} (ho : op < 32) (ha : a < 16) (hb : b < 16) (hc : cond < 8) (ht : target < 64) : (wordB op a b cond target).toNat = op * 2 ^ 27 + a * 2 ^ 23 + b * 2 ^ 19 + cond * 2 ^ 16 + target := by
  simp only [wordB, BitVec.toNat_ofNat]; omega

/-- A mask over format B, field by field. -/
theorem wordB_and {op a b cond target : Nat} (m : Nat) (ho : op < 32) (ha : a < 16) (hb : b < 16) (hc : cond < 8) (ht : target < 64) :
    (wordB op a b cond target).toNat &&& m = (op &&& m / 2 ^ 27) * 2 ^ 27 + ((a &&& m % 2 ^ 27 / 2 ^ 23) * 2 ^ 23 + ((b &&& m % 2 ^ 27 % 2 ^ 23 / 2 ^ 19) * 2 ^ 19 + ((cond &&& m % 2 ^ 27 % 2 ^ 23 % 2 ^ 19 / 2 ^ 16) * 2 ^ 16 + ((target &&& m % 2 ^ 27 % 2 ^ 23 % 2 ^ 19 % 2 ^ 16))))) := by
  rw [wordB_toNat ho ha hb hc ht]
  simp only [Nat.add_assoc]
  rw [and_peel (op) _ (by omega), and_peel (a) _ (by omega), and_peel (b) _ (by omega), and_peel (cond) _ (by omega)]

theorem wordB_fields {op a b cond target : Nat} (ho : op < 32) (ha : a < 16) (hb : b < 16) (hc : cond < 8) (ht : target < 64) :
    bitsOf (wordB op a b cond target).toNat 26 23 = a ∧ bitsOf (wordB op a b cond target).toNat 22 19 = b ∧ bitsOf (wordB op a b cond target).toNat 5 0 = target := by
  simp only [bitsOf, Nat.shiftRight_eq_div_pow]
  rw [wordB_toNat ho ha hb hc ht]
  omega

theorem and_15 {x : Nat} (h : x < 16) : x &&& 15 = x := by rw [Nat.and_two_pow_sub_one_eq_mod x 4]; omega
theorem and_31 {x : Nat} (h : x < 32) : x &&& 31 = x := by rw [Nat.and_two_pow_sub_one_eq_mod x 5]; omega
theorem and_255 {x : Nat} (h : x < 256) : x &&& 255 = x := by rw [Nat.and_two_pow_sub_one_eq_mod x 8]; omega
theorem and_7 {x : Nat} (h : x < 8) : x &&& 7 = x := by rw [Nat.and_two_pow_sub_one_eq_mod x 3]; omega

theorem and_8 {x : Nat} (h : x < 8) : x &&& 8 = 0 := by
  rw [show (8 : Nat) = 1 * 2 ^ 3 + 0 from rfl, show x = 0 * 2 ^ 3 + x by omega, and_split 3 0 x 1 0 (by omega) (by omega)]; simp
theorem and_12 {x : Nat} (h : x < 4) : x &&& 12 = 0 := by
  rw [show (12 : Nat) = 3 * 2 ^ 2 + 0 from rfl, show x = 0 * 2 ^ 2 + x by omega, and_split 2 0 x 3 0 (by omega) (by omega)]; simp
theorem and_24 {x : Nat} (h : x < 8) : x &&& 24 = 0 := by
  rw [show (24 : Nat) = 3 * 2 ^ 3 + 0 from rfl, show x = 0 * 2 ^ 3 + x by omega, and_split 3 0 x 3 0 (by omega) (by omega)]; simp
theorem and_16 {x : Nat} (h : x < 16) : x &&& 16 = 0 := by
  rw [show (16 : Nat) = 1 * 2 ^ 4 + 0 from rfl, show x = 0 * 2 ^ 4 + x by omega, and_split 4 0 x 1 0 (by omega) (by omega)]; simp

/-- The word of a controller's base format. -/
theorem wordG_toNat {major d a b fn : Nat} (hm : major < 64) (hd : d < 32) (ha : a < 32) (hb : b < 32) (hf : fn < 2048) :
    (wordG major d a b fn).toNat = major * 2 ^ 26 + d * 2 ^ 21 + a * 2 ^ 16 + b * 2 ^ 11 + fn := by
  simp only [wordG, BitVec.toNat_ofNat]; omega

/-- A mask over a controller's base format, field by field. -/
theorem wordG_and {major d a b fn : Nat} (m : Nat) (hm : major < 64) (hd : d < 32) (ha : a < 32) (hb : b < 32) (hf : fn < 2048) :
    (wordG major d a b fn).toNat &&& m = (major &&& m / 2 ^ 26) * 2 ^ 26 + ((d &&& m % 2 ^ 26 / 2 ^ 21) * 2 ^ 21
      + ((a &&& m % 2 ^ 26 % 2 ^ 21 / 2 ^ 16) * 2 ^ 16 + ((b &&& m % 2 ^ 26 % 2 ^ 21 % 2 ^ 16 / 2 ^ 11) * 2 ^ 11
      + (fn &&& m % 2 ^ 26 % 2 ^ 21 % 2 ^ 16 % 2 ^ 11)))) := by
  rw [wordG_toNat hm hd ha hb hf]
  simp only [Nat.add_assoc]
  rw [and_peel major m (by omega), and_peel d _ (by omega), and_peel a _ (by omega), and_peel b _ (by omega)]

/-- The fields of a controller's base format. -/
theorem wordG_fields {major d a b fn : Nat} (hm : major < 64) (hd : d < 32) (ha : a < 32) (hb : b < 32) (hf : fn < 2048) :
    sD (wordG major d a b fn) = d ∧ sA (wordG major d a b fn) = a ∧ sB (wordG major d a b fn) = b ∧ sFn (wordG major d a b fn) = fn := by
  simp only [sD, sA, sB, sFn, bitsOf, Nat.shiftRight_eq_div_pow]
  rw [wordG_toNat hm hd ha hb hf]
  omega

/-- A core that stands before a word that an instruction has, with its zero fields zero, performs it. -/
theorem coreGate_at {s : State} {core : CoreId} {w : Word} {mask mtch must0 : Nat} {k : CoreState → State} (h : s.coreAt core w)
    (hm : w.toNat &&& mask = mtch) (h0 : w.toNat &&& must0 = 0) : coreGate core w mask mtch must0 s k = k (s.core core.toNat) := by
  obtain ⟨h1, h2, h3, h4⟩ := h
  have h5 : s.coreLate core.toNat = false := by simp [State.coreLate, h2]
  simp [coreGate, h1, h5, Nat.not_le.2 h3, h4, hm, h0]

/-- The same for an instruction that works inside the core. -/
theorem coreInstr_at {s : State} {core : CoreId} {w : Word} {mask mtch must0 : Nat} {body : Word → CoreState → CoreOut} {c : CoreState}
    (h : s.coreAt core w) (hm : w.toNat &&& mask = mtch) (h0 : w.toNat &&& must0 = 0) (hb : body w (s.core core.toNat) = .ok c) :
    coreInstr core w mask mtch must0 body s = s.setCore core.toNat c := by
  unfold coreInstr
  rw [coreGate_at h hm h0, hb]; rfl

/-- A controller that stands before a word of one-word form that an instruction has, with its zero fields zero, performs it. -/
theorem ctrlGate_at {s t : State} {p : ArrayId} {w : Word} {known : Word → Bool} {mask mtch range0 must0 : Nat} {k : State → State}
    (h : s.ctrlAt p w t) (hm : w.toNat &&& mask = mtch) (h0 : w.toNat &&& must0 = 0) (h1 : w.toNat &&& range0 = 0) :
    ctrlGate p w none known mask mtch range0 must0 s k = k t := by
  obtain ⟨g1, g2, bs, g3, g4⟩ := h
  simp [ctrlGate, g1, g2, g3, g4, hm, h0, h1]

/-- The same for the two-word form. -/
theorem ctrlGate_at2 {s t : State} {p : ArrayId} {w0 w1 : Word} {known : Word → Bool} {mask mtch range0 must0 : Nat} {k : State → State}
    (h : s.ctrlAt2 p w0 w1 t) (hm : w0.toNat &&& mask = mtch) (h0 : w0.toNat &&& must0 = 0) (h1 : w0.toNat &&& range0 = 0) :
    ctrlGate p w0 (some w1) known mask mtch range0 must0 s k = k t := by
  obtain ⟨u, ⟨g1, g2, bs, g3, g4⟩, cs, g5, g6⟩ := h
  simp [ctrlGate, g1, g2, g3, g4, g5, g6, hm, h0, h1]

theorem ctrlInstr_at {s t : State} {p : ArrayId} {w : Word} {mask mtch range0 must0 : Nat} {body : Word → Ctrl → Ctrl} (h : s.ctrlAt p w t)
    (hm : w.toNat &&& mask = mtch) (h0 : w.toNat &&& must0 = 0) (h1 : w.toNat &&& range0 = 0) :
    ctrlInstr p w mask mtch range0 must0 body s = t.ctrlSet p.val (body w) := ctrlGate_at h hm h0 h1

end Sys2Proof.Machine
end

