-- ==== Sys2Proof/WellFormed.lean ====
section
/-!
DEFINITION. Well-formed commands: their requester exists (15_management R516), a register access names a register of 32 bits
(00_scope R7), and an instruction's word carries the instruction's encoding (04_core_mode, 06_control_isa).
-/
namespace Sys2Proof

/-- R516: a requester of the part: a host port 0 to 7, a virtual function 1 to 511, a fabric node of 16 bits. -/
def Requester.wf : Requester → Bool
  | .pf p => decide (p < 8)
  | .vf p f => decide (p < 8) && decide (1 ≤ f) && decide (f < 512)
  | .fabric n => decide (n < 65536)
  | _ => true

/-- The requester of a command that has one. -/
def Instr.requester : Instr → Option Requester
  | .registerWrite req _ _ _ => some req
  | .rcRead req _ => some req
  | .loReadCapture req _ => some req
  | .loWriteLatch req _ _ => some req
  | .hiWriteCommit req _ _ => some req
  | .host64bitAccess req _ _ => some req
  | .mmuInv req _ => some req
  | .mmuFaultResumeRetry req _ => some req
  | .mmuFaultResumeAbort req _ => some req
  | .flintInject req _ => some req
  | .quartzStep req _ => some req
  | .refSelectRequest req _ => some req
  | .regionDigestGo req _ => some req
  | .pyriteQueue req _ => some req
  | .knownAnswerStart req _ _ => some req
  | .contextEnable req _ _ => some req
  | .contextDisable req _ _ => some req
  | .contextReset req _ _ => some req
  | .cpResetRequest req _ _ => some req
  | .doorbell req _ _ => some req
  | .partitionCreate req _ _ => some req
  | .partitionDestroy req _ _ => some req
  | .evtRdWrite req _ _ => some req
  | .fabNodeWrite req _ => some req
  | .lowrateReq req _ _ => some req
  | .wakeReq req _ _ => some req
  | .capGrantWrite req _ => some req
  | .rackReq req _ => some req
  | .vminClear req _ _ => some req
  | .deviceReset req _ => some req
  | .fieldReset req _ _ _ => some req
  | .arrayReset req _ _ _ => some req
  | .repairSetShiftMap req _ => some req
  | .repairSetRowMap req _ => some req
  | .repairRetireArray req _ => some req
  | .repairRevoke req _ => some req
  | .repairTestModule req _ => some req
  | .setEndpointId req _ => some req
  | .getEndpointId req => some req
  | .getTid req => some req
  | .setTid req _ => some req
  | .getPldmTypes req => some req
  | .getPldmCommands req _ => some req
  | .getPldmVersion req _ => some req
  | .getPdrRepositoryInfo req => some req
  | .getPdr req _ => some req
  | .getSensorReading req _ => some req
  | .getStateSensorReadings req _ => some req
  | .setNumericEffecterValue req _ _ => some req
  | .getNumericEffecterValue req _ => some req
  | .setEventReceiver req => some req
  | .eventMessageBufferSize req _ => some req
  | .queryDeviceIdentifiers req => some req
  | .getFirmwareParameters req => some req
  | .requestUpdate req => some req
  | .passComponentTable req => some req
  | .updateComponent req _ => some req
  | .firmwareDataResponse req _ _ => some req
  | .transferComplete req _ => some req
  | .verifyComplete req => some req
  | .activateFirmware req => some req
  | .getStatus req => some req
  | .cancelUpdateComponent req => some req
  | .cancelUpdate req => some req
  | .claimOwnership req _ _ => some req
  | .releaseOwnership req _ => some req
  | .handOver req _ _ _ _ => some req
  | .getOwner req => some req
  | .readRegister req _ => some req
  | .writeRegister req _ _ => some req
  | .readLifetime req _ _ _ => some req
  | .confirmFirmware req => some req
  | .coldReset req => some req
  | .getVersion req => some req
  | .getCapabilities req => some req
  | .negotiateAlgorithms req _ _ => some req
  | .getDigests req => some req
  | .getCertificate req _ _ _ => some req
  | .challenge req _ => some req
  | .getMeasurements req _ _ => some req
  | .claimCtlClaim req _ => some req
  | .claimCtlRelease req _ => some req
  | .claimCtlHandOver req _ => some req
  | .fwCtlConfirm req _ => some req
  | .fwCtlActivate req _ => some req
  | .fwCtlCancel req _ => some req
  | .fwCtlColdReq req _ => some req
  | _ => none

/-- The register offset of a command that names any register. -/
def Instr.regOffset : Instr → Option Nat
  | .registerWrite _ off _ _ => some off
  | .rcRead _ off => some off
  | .loReadCapture _ off => some off
  | .loWriteLatch _ off _ => some off
  | .hiWriteCommit _ off _ => some off
  | .host64bitAccess _ off _ => some off
  | .readRegister _ off => some off
  | .writeRegister _ off _ => some off
  | _ => none

/-- Whether a word has an encoding's fixed bits. -/
def fixedBits (w : Word) (mask mtch : Nat) : Bool := w.toNat &&& mask == mtch

/-- Whether the word of an instruction carries its opcode and function fields. -/
def Instr.encoded : Instr → Bool
  | .loadBlock _ w => fixedBits w 0xFC000700 0x80000000
  | .loadS _ w => fixedBits w 0xFC000700 0x80000100
  | .unpark _ w => fixedBits w 0xFC000700 0x80000200
  | .swapSets _ w => fixedBits w 0xFC0007FF 0x64000000
  | .drain _ w _ => fixedBits w 0xFC000000 0xE4000000
  | .pass _ w _ => fixedBits w 0xFC000800 0xE0000000
  | .passT _ w _ => fixedBits w 0xFC000800 0xE0000800
  | .gangCfg _ w => fixedBits w 0xFC0007FF 0x64000001
  | .reduceTree _ w _ => fixedBits w 0xFC000000 0xE8000000
  | .coreLoad _ w _ => fixedBits w 0xFC000000 0xF8000000
  | .coreRun _ w => fixedBits w 0xFC0007FF 0x64000002
  | .coreStop _ w => fixedBits w 0xFC0007FF 0x64000003
  | .gexaCNop _ w => fixedBits w 0xF80000FF 0x00000000
  | .gexaCHalt _ w => fixedBits w 0xF80000FF 0x00000001
  | .gexaCFence _ w => fixedBits w 0xF80000FF 0x00000002
  | .gexaCTrap _ w => fixedBits w 0xF80000FF 0x00000003
  | .gexaCAdd _ w => fixedBits w 0xF80000FF 0x08000000
  | .gexaCSub _ w => fixedBits w 0xF80000FF 0x08000001
  | .gexaCAnd _ w => fixedBits w 0xF80000FF 0x08000002
  | .gexaCOr _ w => fixedBits w 0xF80000FF 0x08000003
  | .gexaCXor _ w => fixedBits w 0xF80000FF 0x08000004
  | .gexaCAndn _ w => fixedBits w 0xF80000FF 0x08000014
  | .gexaCShl _ w => fixedBits w 0xF80000FF 0x08000005
  | .gexaCShr _ w => fixedBits w 0xF80000FF 0x08000006
  | .gexaCSra _ w => fixedBits w 0xF80000FF 0x08000007
  | .gexaCMin _ w => fixedBits w 0xF80000FF 0x08000008
  | .gexaCMax _ w => fixedBits w 0xF80000FF 0x08000009
  | .gexaCMinu _ w => fixedBits w 0xF80000FF 0x0800000A
  | .gexaCMaxu _ w => fixedBits w 0xF80000FF 0x0800000B
  | .gexaCMul _ w => fixedBits w 0xF80000FF 0x0800000C
  | .gexaCMulhu _ w => fixedBits w 0xF80000FF 0x0800000D
  | .gexaCSlt _ w => fixedBits w 0xF80000FF 0x0800000E
  | .gexaCSltu _ w => fixedBits w 0xF80000FF 0x0800000F
  | .gexaCSeq _ w => fixedBits w 0xF80000FF 0x08000010
  | .gexaCSne _ w => fixedBits w 0xF80000FF 0x08000011
  | .gexaCClz _ w => fixedBits w 0xF80000FF 0x08000012
  | .gexaCPopc _ w => fixedBits w 0xF80000FF 0x08000013
  | .gexaCAddi _ w => fixedBits w 0xF8078000 0x10000000
  | .gexaCAndi _ w => fixedBits w 0xF8078000 0x10008000
  | .gexaCOri _ w => fixedBits w 0xF8078000 0x10010000
  | .gexaCXori _ w => fixedBits w 0xF8078000 0x10018000
  | .gexaCShli _ w => fixedBits w 0xF8078000 0x10020000
  | .gexaCShri _ w => fixedBits w 0xF8078000 0x10028000
  | .gexaCSrai _ w => fixedBits w 0xF8078000 0x10030000
  | .gexaCSlti _ w => fixedBits w 0xF8078000 0x10038000
  | .gexaCSltui _ w => fixedBits w 0xF8078000 0x10040000
  | .gexaCSeqi _ w => fixedBits w 0xF8078000 0x10048000
  | .gexaCLi _ w => fixedBits w 0xF8000000 0x18000000
  | .gexaCLih _ w => fixedBits w 0xF8000000 0x20000000
  | .gexaCSel _ w => fixedBits w 0xF80000FF 0x28000000
  | .gexaCB _ w => fixedBits w 0xF8070000 0x30000000
  | .gexaCBz _ w => fixedBits w 0xF8070000 0x30010000
  | .gexaCBnz _ w => fixedBits w 0xF8070000 0x30020000
  | .gexaCBlt _ w => fixedBits w 0xF8070000 0x30030000
  | .gexaCBge _ w => fixedBits w 0xF8070000 0x30040000
  | .gexaCBltu _ w => fixedBits w 0xF8070000 0x30050000
  | .gexaCBgeu _ w => fixedBits w 0xF8070000 0x30060000
  | .gexaCBeq _ w => fixedBits w 0xF8070000 0x30070000
  | .gexaCLoop _ w => fixedBits w 0xF8070000 0x38000000
  | .gexaCSysr _ w => fixedBits w 0xF8078000 0xD0000000
  | .gexaCLdW _ w => fixedBits w 0xF8070000 0x40000000
  | .gexaCLdHu _ w => fixedBits w 0xF8070000 0x40010000
  | .gexaCLdBu _ w => fixedBits w 0xF8070000 0x40020000
  | .gexaCLdV _ w => fixedBits w 0xF8070000 0x40030000
  | .gexaCLdAl _ w => fixedBits w 0xF8070000 0x40040000
  | .gexaCLdAh _ w => fixedBits w 0xF8070000 0x40050000
  | .gexaCLdA _ w => fixedBits w 0xF8070000 0x40060000
  | .gexaCStW _ w => fixedBits w 0xF8070000 0x48000000
  | .gexaCStH _ w => fixedBits w 0xF8070000 0x48010000
  | .gexaCStB _ w => fixedBits w 0xF8070000 0x48020000
  | .gexaCStV _ w => fixedBits w 0xF8070000 0x48030000
  | .gexaCStAl _ w => fixedBits w 0xF8070000 0x48040000
  | .gexaCStAh _ w => fixedBits w 0xF8070000 0x48050000
  | .gexaCStA _ w => fixedBits w 0xF8070000 0x48060000
  | .vopAdd _ w => fixedBits w 0xF80000FF 0x50000000
  | .vopSub _ w => fixedBits w 0xF80000FF 0x50000001
  | .vopAdds _ w => fixedBits w 0xF80000FF 0x50000002
  | .vopSubs _ w => fixedBits w 0xF80000FF 0x50000003
  | .vopMin _ w => fixedBits w 0xF80000FF 0x50000004
  | .vopMax _ w => fixedBits w 0xF80000FF 0x50000005
  | .vopMinu _ w => fixedBits w 0xF80000FF 0x50000006
  | .vopMaxu _ w => fixedBits w 0xF80000FF 0x50000007
  | .vopAnd _ w => fixedBits w 0xF80000FF 0x50000008
  | .vopOr _ w => fixedBits w 0xF80000FF 0x50000009
  | .vopXor _ w => fixedBits w 0xF80000FF 0x5000000A
  | .vopShl _ w => fixedBits w 0xF80000FF 0x5000000B
  | .vopShr _ w => fixedBits w 0xF80000FF 0x5000000C
  | .vopSra _ w => fixedBits w 0xF80000FF 0x5000000D
  | .vopAbs _ w => fixedBits w 0xF80000FF 0x5000000E
  | .vopMul _ w => fixedBits w 0xF80000FF 0x5000000F
  | .vopsAdd _ w => fixedBits w 0xF80000FF 0x58000000
  | .vopsSub _ w => fixedBits w 0xF80000FF 0x58000001
  | .vopsAdds _ w => fixedBits w 0xF80000FF 0x58000002
  | .vopsSubs _ w => fixedBits w 0xF80000FF 0x58000003
  | .vopsMin _ w => fixedBits w 0xF80000FF 0x58000004
  | .vopsMax _ w => fixedBits w 0xF80000FF 0x58000005
  | .vopsMinu _ w => fixedBits w 0xF80000FF 0x58000006
  | .vopsMaxu _ w => fixedBits w 0xF80000FF 0x58000007
  | .vopsAnd _ w => fixedBits w 0xF80000FF 0x58000008
  | .vopsOr _ w => fixedBits w 0xF80000FF 0x58000009
  | .vopsXor _ w => fixedBits w 0xF80000FF 0x5800000A
  | .vopsShl _ w => fixedBits w 0xF80000FF 0x5800000B
  | .vopsShr _ w => fixedBits w 0xF80000FF 0x5800000C
  | .vopsSra _ w => fixedBits w 0xF80000FF 0x5800000D
  | .vopsAbs _ w => fixedBits w 0xF80000FF 0x5800000E
  | .vopsMul _ w => fixedBits w 0xF80000FF 0x5800000F
  | .vcmpEq _ w => fixedBits w 0xF800007F 0x60000000
  | .vcmpNe _ w => fixedBits w 0xF800007F 0x60000001
  | .vcmpLt _ w => fixedBits w 0xF800007F 0x60000002
  | .vcmpLe _ w => fixedBits w 0xF800007F 0x60000003
  | .vcmpGt _ w => fixedBits w 0xF800007F 0x60000004
  | .vcmpGe _ w => fixedBits w 0xF800007F 0x60000005
  | .vcmpLtu _ w => fixedBits w 0xF800007F 0x60000006
  | .vcmpLeu _ w => fixedBits w 0xF800007F 0x60000007
  | .vcmpGtu _ w => fixedBits w 0xF800007F 0x60000008
  | .vcmpGeu _ w => fixedBits w 0xF800007F 0x60000009
  | .vsel _ w => fixedBits w 0xF80000FF 0x68000000
  | .vmac _ w => fixedBits w 0xF80000FF 0x70000000
  | .vmul _ w => fixedBits w 0xF80000FF 0x70000001
  | .aclr _ w => fixedBits w 0xF80000FF 0x78000000
  | .aget _ w => fixedBits w 0xF80000FF 0x78000001
  | .aput _ w => fixedBits w 0xF80000FF 0x78000002
  | .aadd _ w => fixedBits w 0xF80000FF 0x78000003
  | .asub _ w => fixedBits w 0xF80000FF 0x78000004
  | .aiota _ w => fixedBits w 0xF80000FF 0x78000005
  | .anarrowLo _ w => fixedBits w 0xF80000FF 0x78000006
  | .anarrowHi _ w => fixedBits w 0xF80000FF 0x78000007
  | .awiden _ w => fixedBits w 0xF80000FF 0x78000008
  | .asum _ w => fixedBits w 0xF80000FF 0x78000009
  | .vcx _ w => fixedBits w 0xF8000000 0x80000000
  | .vsrtSort _ w => fixedBits w 0xF80000F0 0x88000000
  | .vsrtStep _ w => fixedBits w 0xF80000F0 0x88000010
  | .vsrtRev _ w => fixedBits w 0xF80000F0 0x88000020
  | .vpermPerm _ w => fixedBits w 0xF80000FF 0x90000000
  | .vpermBcast _ w => fixedBits w 0xF80000FF 0x90000001
  | .vpermUp _ w => fixedBits w 0xF80000FF 0x90000002
  | .vpermDown _ w => fixedBits w 0xF80000FF 0x90000003
  | .vpermSplat _ w => fixedBits w 0xF80000FF 0x90000004
  | .vredMaxs _ w => fixedBits w 0xF80000FF 0x98000000
  | .vredMins _ w => fixedBits w 0xF80000FF 0x98000001
  | .vredMaxu _ w => fixedBits w 0xF80000FF 0x98000002
  | .vredMinu _ w => fixedBits w 0xF80000FF 0x98000003
  | .vredSum _ w => fixedBits w 0xF80000FF 0x98000004
  | .vredArgmaxu _ w => fixedBits w 0xF80000FF 0x98000005
  | .vredCnt _ w => fixedBits w 0xF80000FF 0x98000006
  | .vredFirst _ w => fixedBits w 0xF80000FF 0x98000007
  | .vcvtKey _ w => fixedBits w 0xF80000FF 0xD8000000
  | .vcvtUnkey _ w => fixedBits w 0xF80000FF 0xD8000001
  | .vcvtE4Lo _ w => fixedBits w 0xF80000FF 0xD8000002
  | .vcvtE4Hi _ w => fixedBits w 0xF80000FF 0xD8000003
  | .vcvtE5Lo _ w => fixedBits w 0xF80000FF 0xD8000004
  | .vcvtE5Hi _ w => fixedBits w 0xF80000FF 0xD8000005
  | .vcvtSxLo _ w => fixedBits w 0xF80000FF 0xD8000006
  | .vcvtSxHi _ w => fixedBits w 0xF80000FF 0xD8000007
  | .vcvtBfE4 _ w => fixedBits w 0xF80000FF 0xD8000008
  | .sfill _ w => fixedBits w 0xF8000003 0xE0000000
  | .scopy _ w => fixedBits w 0xF8000003 0xE0000001
  | .send _ w => fixedBits w 0xF8000000 0xA0000000
  | .putV _ w => fixedBits w 0xF8004000 0xA8000000
  | .putA _ w => fixedBits w 0xF8004000 0xA8004000
  | .get _ w => fixedBits w 0xF8000000 0xB0000000
  | .recv _ w => fixedBits w 0xF80000FF 0xB8000000
  | .recvN _ w => fixedBits w 0xF80000FF 0xB8000001
  | .recvT _ w => fixedBits w 0xF80000FF 0xB8000002
  | .gexaCSig _ w => fixedBits w 0xF8000000 0xC0000000
  | .gexaCWait _ w => fixedBits w 0xF8000000 0xC8000000
  | .vcChain _ w _ => fixedBits w 0xFC000000 0xEC000000
  | .gexaSAdd _ w => fixedBits w 0xFC0007FF 0x04000000
  | .gexaSSub _ w => fixedBits w 0xFC0007FF 0x04000001
  | .gexaSAnd _ w => fixedBits w 0xFC0007FF 0x04000002
  | .gexaSOr _ w => fixedBits w 0xFC0007FF 0x04000003
  | .gexaSXor _ w => fixedBits w 0xFC0007FF 0x04000004
  | .gexaSAndn _ w => fixedBits w 0xFC0007FF 0x04000005
  | .gexaSShl _ w => fixedBits w 0xFC0007FF 0x04000006
  | .gexaSShr _ w => fixedBits w 0xFC0007FF 0x04000007
  | .gexaSSra _ w => fixedBits w 0xFC0007FF 0x04000008
  | .gexaSMin _ w => fixedBits w 0xFC0007FF 0x04000009
  | .gexaSMax _ w => fixedBits w 0xFC0007FF 0x0400000A
  | .gexaSMinu _ w => fixedBits w 0xFC0007FF 0x0400000B
  | .gexaSMaxu _ w => fixedBits w 0xFC0007FF 0x0400000C
  | .gexaSMul _ w => fixedBits w 0xFC0007FF 0x0400000D
  | .gexaSMulhu _ w => fixedBits w 0xFC0007FF 0x0400000E
  | .gexaSDivu _ w => fixedBits w 0xFC0007FF 0x0400000F
  | .gexaSRemu _ w => fixedBits w 0xFC0007FF 0x04000010
  | .gexaSClz _ w => fixedBits w 0xFC0007FF 0x04000011
  | .gexaSPopc _ w => fixedBits w 0xFC0007FF 0x04000012
  | .gexaSAddi _ w => fixedBits w 0xFC000000 0x08000000
  | .gexaSAndi _ w => fixedBits w 0xFC000000 0x0C000000
  | .gexaSOri _ w => fixedBits w 0xFC000000 0x10000000
  | .gexaSXori _ w => fixedBits w 0xFC000000 0x14000000
  | .gexaSShli _ w => fixedBits w 0xFC0000C0 0x18000000
  | .gexaSShri _ w => fixedBits w 0xFC0000C0 0x18000040
  | .gexaSSrai _ w => fixedBits w 0xFC0000C0 0x18000080
  | .gexaSLi _ w => fixedBits w 0xFC000000 0x1C000000
  | .shlor _ w => fixedBits w 0xFC000000 0x20000000
  | .cmp _ w => fixedBits w 0xFC000000 0x24000000
  | .cmpi _ w => fixedBits w 0xFC000000 0x28000000
  | .pand _ w => fixedBits w 0xFC000700 0x2C000000
  | .predOr _ w => fixedBits w 0xFC000700 0x2C000100
  | .pxor _ w => fixedBits w 0xFC000700 0x2C000200
  | .pandn _ w => fixedBits w 0xFC000700 0x2C000300
  | .pnot _ w => fixedBits w 0xFC000700 0x2C000400
  | .pnz _ w => fixedBits w 0xFC000700 0x2C000500
  | .gexaSSel _ w => fixedBits w 0xFC000000 0x30000000
  | .br _ w => fixedBits w 0xFC000000 0x34000000
  | .jal _ w => fixedBits w 0xFC000000 0x38000000
  | .jalr _ w => fixedBits w 0xFC000000 0x3C000000
  | .gexaSSysr _ w => fixedBits w 0xFC000000 0x88000000
  | .gexaSLdD _ w => fixedBits w 0xFC000000 0x40000000
  | .gexaSLdW _ w => fixedBits w 0xFC000000 0x44000000
  | .gexaSStD _ w => fixedBits w 0xFC000000 0x48000000
  | .gexaSStW _ w => fixedBits w 0xFC000000 0x4C000000
  | .dld _ w => fixedBits w 0xFC000000 0x50000000
  | .dst _ w => fixedBits w 0xFC000000 0x54000000
  | .dset _ w => fixedBits w 0xFC000000 0x58000000
  | .dget _ w => fixedBits w 0xFC000000 0x5C000000
  | .dadv _ w => fixedBits w 0xFC000000 0x60000000
  | .dmaCopy _ w _ => fixedBits w 0xFC0000E0 0xF0000000
  | .dmaFill _ w _ => fixedBits w 0xFC0000E0 0xF0000020
  | .dmaGather _ w _ => fixedBits w 0xFC0000E0 0xF0000040
  | .dmaScatter _ w _ => fixedBits w 0xFC0000E0 0xF0000060
  | .winOpen _ w => fixedBits w 0xFC000700 0x78000000
  | .winClose _ w => fixedBits w 0xFC000700 0x78000100
  | .winCtr _ w => fixedBits w 0xFC000700 0x78000200
  | .winGen _ w => fixedBits w 0xFC000700 0x78000300
  | .gexaSSig _ w => fixedBits w 0xFC000000 0x68000000
  | .gexaSWait _ w => fixedBits w 0xFC000000 0x6C000000
  | .cntRd _ w => fixedBits w 0xFC000000 0x70000000
  | .qwait _ w => fixedBits w 0xFC000000 0x84000000
  | .now _ w => fixedBits w 0xFC0007FF 0x74000000
  | .waitUntil _ w => fixedBits w 0xFC0007FF 0x74000001
  | .waitUntilOff _ w _ => fixedBits w 0xFC000003 0xF4000001
  | .launchAt _ w => fixedBits w 0xFC0007FF 0x74000002
  | .launchAtOff _ w _ => fixedBits w 0xFC000003 0xF4000000
  | .chkMode _ w => fixedBits w 0xFC000007 0x7C000000
  | .chkCommit _ w => fixedBits w 0xFC000007 0x7C000001
  | .chkCommitStep _ w => fixedBits w 0xFC000007 0x7C000002
  | .chkRelease _ w => fixedBits w 0xFC000007 0x7C000003
  | .gexaSNop _ w => fixedBits w 0xFC0007FF 0x00000000
  | .yieldArray _ w => fixedBits w 0xFC0007FF 0x00000001
  | .endProgram _ w => fixedBits w 0xFC0007FF 0x00000002
  | .softFault _ w => fixedBits w 0xFC0007FF 0x00000003
  | .fenceSt _ w => fixedBits w 0xFC0007FF 0x00000010
  | .fenceArr _ w => fixedBits w 0xFC0007FF 0x00000011
  | .fenceVec _ w => fixedBits w 0xFC0007FF 0x00000012
  | .fenceDma _ w => fixedBits w 0xFC0007FF 0x00000013
  | .fenceAll _ w => fixedBits w 0xFC0007FF 0x00000015
  | .fenceI _ w => fixedBits w 0xFC0007FF 0x00000016
  | .cinv _ w => fixedBits w 0xFC0007FF 0x00000020
  | _ => true

/-- A well-formed command. -/
def Instr.wf (i : Instr) : Bool :=
  (match i.requester with | some r => r.wf | none => true)
    && (match i.regOffset with | some o => o % 4 == 0 | none => true)
    && i.encoded

end Sys2Proof
end

