-- ==== Sys2Proof/Tests/Slice0.lean ====
section
/-!
SUPPORT. Small checks of the model: ill-formed commands that the well-formedness check refuses; the spec's own worked values; and for each
statement of Sys2Proof/Certificates/Slice0/Obligations.lean that has hypotheses, concrete states and operands that meet them.
-/
namespace Sys2Proof.Machine

set_option Elab.async false

/-! Well-formedness (15_management R516, 00_scope R7, 04_core_mode, 06_control_isa). -/

theorem test_wf_well_formed : (Instr.registerWrite (.vf 7 511) 0x2000040 0#4 0#32).wf = true := by decide +kernel
theorem test_wf_port_refused : (Instr.getOwner (.pf 8)).wf = false := by decide +kernel
theorem test_wf_function_refused : (Instr.getOwner (.vf 0 512)).wf = false ∧ (Instr.getOwner (.vf 0 0)).wf = false := by decide +kernel
theorem test_wf_vf_port_refused : (Instr.getOwner (.vf 8 1)).wf = false := by decide +kernel
theorem test_wf_node_refused : (Instr.getOwner (.fabric 65536)).wf = false := by decide +kernel
theorem test_wf_offset_refused : (Instr.rcRead (.pf 0) 0x2000042).wf = false := by decide +kernel
theorem test_wf_word_refused : (Instr.gexaCAdd 0 0x08000001#32).wf = false ∧ (Instr.gexaCAdd 0 0x08000000#32).wf = true := by decide +kernel

/-! Values that the spec works out. -/

/-- 04_core_mode, the selection example: ld.v+ v0, 0(c1). -/
theorem test_word_ld_v : wordM 0x08 0 1 3 1 0 = 0x400B8000#32 ∧ (Instr.gexaCLdV 0 0x400B8000#32).encoded = true := by decide +kernel
/-- The same example: vcmp.h.geu v2, v0, c7. -/
theorem test_word_vcmp : wordR 0x0C 2 0 7 0 1 0x89 = 0x61038189#32 ∧ (Instr.vcmpGeu 0 0x61038189#32).encoded = true := by decide +kernel
/-- The same example: vop.h.sub v4, v4, v2. -/
theorem test_word_vop : wordR 0x0A 4 4 2 0 1 1 = 0x52210101#32 ∧ (Instr.vopSub 0 0x52210101#32).encoded = true := by decide +kernel
/-- 04_core_mode R153: a get of 16 units with notification. -/
theorem test_word_get : wordR 0x16 9 3 4 4 0 0x0F = 0xB49A200F#32 ∧ (Instr.get 0 0xB49A200F#32).encoded = true := by decide +kernel
/-- 06_control_isa, the gang start: gang.cfg, and the two words of its pass. -/
theorem test_word_pass : (Instr.gangCfg 0 0x64150001#32).encoded = true ∧ (Instr.pass 0 0xE12A3000#32 0x213183FD#32).encoded = true ∧
    wordG 0x19 0 21 0 1 = 0x64150001#32 := by decide +kernel
/-- The same pass in memory: 0x00, 0x30, 0x2A, 0xE1. -/
theorem test_word_bytes : bytesOf 4 0xE12A3000 = [0x00#8, 0x30#8, 0x2A#8, 0xE1#8] := by decide +kernel
/-- 06_control_isa R202: the descriptor of the activations. -/
theorem test_descriptor : let d := descOf (BitVec.ofNat 512
      (0x0406000020000000 + 22528 * 2 ^ 64 + 1024 * 2 ^ 96 + 2 ^ 128 + 2 ^ 160 + 2 ^ 192 + 33 * 2 ^ 224 + 23232 * 2 ^ 264 + 22528 * 2 ^ 424 + 1024 * 2 ^ 448))
    d.base = 0x20000000 ∧ d.code = 6 ∧ d.alForm = 1 ∧ d.ext = [22528, 1024, 1, 1, 1] ∧ d.stride = [33, 23232, 0, 0, 0] ∧ d.fault = none := by
  decide +kernel
/-- 02_arithmetic R61: FP32 1/3 splits into 0x3EAB and 0xBA2B. -/
theorem test_split_third : splitFp32 0x3EAAAAAB = (decodeFloat layBf16 0x3EAB, decodeFloat layBf16 0xBA2B) := by decide +kernel
/-- 02_arithmetic, the worked drain of 45,473 × 2^−11: FP32, BF16 to nearest and towards zero, E4M3. -/
theorem test_drain_rounding :
    encodeFloat layFp32 .rne false 0 false 45473 (-11) = 0x41B1A100 ∧ encodeFloat layBf16 .rne false 0 false 45473 (-11) = 0x41B2 ∧
      encodeFloat layBf16 .rtz false 0 false 45473 (-11) = 0x41B1 ∧ encodeFloat layE4 .rne false 0 false 45473 (-11) = 0x5B := by decide +kernel
/-- 02_arithmetic, the same pass with anchor 78: the products −1.421875 and 2^−11 floored to the grid of 0.25. -/
theorem test_anchor_floor : floorShift true 91 (-4) = -6 ∧ floorShift false 1 (-9) = 0 ∧ lostBits 91 (-4) = true := by decide +kernel
/-- 00_scope R15: the record of the contained fabric event of context 37. -/
theorem test_record : let bs := recBytes { time := 0#64, cls := 6, code := 0, sev := 2, gen := 5, source := 0x6103, ctx := some 37, payload := 0 }
    (bs.drop 8).take 8 = [0x06#8, 0x00#8, 0x02#8, 0x05#8, 0x03#8, 0x61#8, 0x25#8, 0x00#8] := by decide +kernel
theorem test_reset_mem : Memory.wf State.reset.mem = true := by decide

/-! Concrete states for the statements about cores. -/

/-- A device whose logical array 0 is physical array 3, in partition 0, where context 0 is resident: one 64 KiB page of edge store, 2 KiB of
each slate. -/
def sample : State :=
  { State.reset with
    regs := tblPut (tblPut (tblPut (tblPut (tblPut [] (rBrpMap 0) 0x80000003#32) (rDspPartCtl 0) 0x80000000#32) (rDspCtxCtl 0) 0x40000003#32)
      (rMmuAllocSl 0) 0x2000#32) (rMmuAllocEs 0) 0x10000#32
    arrays := [(3, { ArrayState.reset with run := { ArrayState.reset.run with running := true } })] }

/-- Its core of row 2, column 5, which stands before a word; the core beside it runs too. -/
def sampleCore (w : Word) (f : CoreState → CoreState) : State :=
  { sample with
    cores := [(0x205, f { CoreState.reset with status := 1, prog := [w] }), (0x206, { CoreState.reset with status := 1, prog := [w] })] }

theorem sample_physOf : sample.physOf 0 = some 3 := by decide +kernel

theorem sample_issues (w : Word) (f : CoreState → CoreState) (h : (f { CoreState.reset with status := 1, prog := [w] }).status = 1)
    (h' : (f { CoreState.reset with status := 1, prog := [w] }).block = .no) : (sampleCore w f).coreIssues 0x205 = true := by
  have a : (sampleCore w f).physOf (0x205 / 65536) = some 3 := sample_physOf
  have b : ((sampleCore w f).arr 3).runs = true := rfl
  have c : (sampleCore w f).core 0x205 = f { CoreState.reset with status := 1, prog := [w] } := rfl
  unfold State.coreIssues
  simp only [a, b, c, h, h']
  rfl

/-- A core stands before any word. -/
theorem witness_coreAt (w : Word) : (sampleCore w id).coreAt 0x00205 w := ⟨sample_issues w id rfl rfl, rfl, Nat.zero_lt_one, rfl⟩

/-- A core with registers of its own stands before any word. -/
theorem sample_coreAt (w : Word) (r : Tbl Word) : (sampleCore w (fun c => { c with cregs := r })).coreAt 0x00205 w :=
  ⟨sample_issues w (fun c => { c with cregs := r }) rfl rfl, rfl, Nat.zero_lt_one, rfl⟩

/-! A witness for each statement about cores. The statements about one word take the highest registers that their formats have. -/

theorem witness_StepRunsFront : ({ State.reset with pending := [.transferComplete (.pf 0) 0] } : State).pending =
    .transferComplete (.pf 0) 0 :: [] ∧ State.reset.pending = [] := ⟨rfl, rfl⟩

theorem witness_StepGoesOnAndKeepsMemory : Memory.wf State.reset.mem = true := by decide

theorem witness_CoreScalarResults :
    (∀ r ∈ coreBinary, 15 < 16 ∧ (sampleCore (wordR 0x01 15 15 15 0 0 r.2.1) id).coreAt 0x205 (wordR 0x01 15 15 15 0 0 r.2.1)) ∧
    (∀ r ∈ coreUnary, 15 < 16 ∧ (sampleCore (wordR 0x01 15 15 0 0 0 r.2.1) id).coreAt 0x205 (wordR 0x01 15 15 0 0 0 r.2.1)) ∧
    (sampleCore (wordL 0x03 15 0x400000#23) id).coreAt 0x205 (wordL 0x03 15 0x400000#23) ∧
    (sampleCore (wordL 0x04 15 ((0xFFFF#16).setWidth 23)) id).coreAt 0x205 (wordL 0x04 15 ((0xFFFF#16).setWidth 23)) ∧
    (sampleCore (wordR 0x05 15 15 15 15 0 0) id).coreAt 0x205 (wordR 0x05 15 15 15 15 0 0) ∧
    (∀ r ∈ coreImmediate, 15 < 16 ∧ (sampleCore (wordI 0x02 15 15 r.2.1 0x4000#15) id).coreAt 0x205 (wordI 0x02 15 15 r.2.1 0x4000#15)) :=
  ⟨fun _ _ => ⟨by decide, witness_coreAt _⟩, fun _ _ => ⟨by decide, witness_coreAt _⟩, witness_coreAt _, witness_coreAt _, witness_coreAt _,
    fun _ _ => ⟨by decide, witness_coreAt _⟩⟩

/-- A core in a loop of the given number of iterations left, at an instruction. -/
def sampleLoop (pc left : Nat) : CoreState := { CoreState.reset with loops := [⟨1, 3, left⟩], pc := pc }

theorem witness_CoreControlResults :
    (∀ r ∈ coreBranches, 0 < ((sampleCore (wordB 0x06 0 0 r.2.1 0) id).core 0x205).prog.length) ∧
    (∀ r ∈ coreBranches, 0 < (if r.2.2.1 then 16 else 1) ∧ 0 < (if r.2.2.2.1 then 16 else 1) ∧
      (sampleCore (wordB 0x06 0 0 r.2.1 0) id).coreAt 0x205 (wordB 0x06 0 0 r.2.1 0)) ∧
    (sampleCore (wordR 0 0 0 0 0 0 0) id).coreAt 0x205 (wordR 0 0 0 0 0 0 0) ∧
    (sampleCore (wordR 0 0 0 0 0 0 1) id).coreAt 0x205 (wordR 0 0 0 0 0 0 1) ∧
    (let s := sampleCore (wordB 0x07 15 0 0 1) (fun c => { c with prog := c.prog ++ [0#32] });
      s.coreAt 0x205 (wordB 0x07 15 0 0 1) ∧ (s.core 0x205).pc < 1 ∧ 1 < (s.core 0x205).prog.length ∧ (s.core 0x205).loops = []) ∧
    (sampleLoop 2 2).pc ≠ 3 ∧ ((sampleLoop 3 2).pc = 3 ∧ 1 < 2) ∧ ((sampleLoop 3 1).pc = 3 ∧ 1 ≤ 1) ∧
    (let s := { sampleCore 0#32 (fun c => { c with status := 3, late := true }) with
        arrays := [(3, { ArrayState.reset with run := { RunState.idle with running := true, report := some ⟨1, 0x206, 0, 0#32, 0, 0#64⟩ } })] };
      s.coreIssues 0x205 = true ∧ s.coreLate 0x205 = true ∧ (s.core 0x205).pc < (s.core 0x205).prog.length ∧
        nth 0#32 (s.core 0x205).prog (s.core 0x205).pc = wordR 0 0 0 0 0 0 0) :=
  ⟨fun _ _ => Nat.zero_lt_one, fun r _ => ⟨(by split <;> decide), (by split <;> decide), witness_coreAt _⟩, witness_coreAt _, witness_coreAt _,
    ⟨⟨sample_issues _ _ rfl rfl, rfl, by decide, rfl⟩, by decide, by decide, rfl⟩, by decide, by decide, by decide, by decide +kernel⟩

theorem witness_RegisterFiles : (15 ≠ 0 ∧ 15 ≠ 14) ∧ (7 ≠ 0 ∧ 7 < 8 ∧ 7 ≠ 6) := by decide

theorem witness_CoreLaneResults : ∀ r ∈ coreLanes,
    (7 < 8 ∧ 1 < 2 ∧ (sampleCore (wordR 0x0A 7 7 7 0 1 r.2.2.1) id).coreAt 0x205 (wordR 0x0A 7 7 7 0 1 r.2.2.1)) ∧
    (15 < 16 ∧ (sampleCore (wordR 0x0B 7 7 15 0 1 r.2.2.1) id).coreAt 0x205 (wordR 0x0B 7 7 15 0 1 r.2.2.1)) :=
  fun _ _ => ⟨⟨by decide, by decide, witness_coreAt _⟩, by decide, witness_coreAt _⟩

theorem witness_CoreCompareResults :
    (∀ r ∈ coreCompares, (7 < 8 ∧ 1 < 2 ∧ (sampleCore (wordR 0x0C 7 7 7 0 1 r.2.1) id).coreAt 0x205 (wordR 0x0C 7 7 7 0 1 r.2.1)) ∧
      (15 < 16 ∧ (sampleCore (wordR 0x0C 7 7 15 0 1 (0x80 + r.2.1)) id).coreAt 0x205 (wordR 0x0C 7 7 15 0 1 (0x80 + r.2.1)))) ∧
    (sampleCore (wordR 0x0D 7 7 7 7 1 0) id).coreAt 0x205 (wordR 0x0D 7 7 7 7 1 0) :=
  ⟨fun _ _ => ⟨⟨by decide, by decide, witness_coreAt _⟩, by decide, witness_coreAt _⟩, witness_coreAt _⟩

theorem witness_CoreAccumulatorResults : (15 < 16 ∧ 7 < 8 ∧ 3 < 4) ∧ ∀ w, (sampleCore w id).coreAt 0x205 w :=
  ⟨by decide, witness_coreAt⟩

theorem witness_CoreMovesAndReductions : (7 < 8 ∧ 1 < 2 ∧ 7 < 16 / (1 + 1) ∧ 8 ≤ 15 ∧ 15 < 16) ∧ ∀ w, (sampleCore w id).coreAt 0x205 w :=
  ⟨by decide, witness_coreAt⟩

theorem witness_CoreConversions : 7 < 8 ∧ ∀ w, (sampleCore w id).coreAt 0x205 w := ⟨by decide, witness_coreAt⟩

theorem witness_CoreSortResults :
    ((2 : Nat).testBit 1 = true ∧ 0 < 16 ∧ 0xFFFF < 2 ^ 16) ∧ (0 : Nat).testBit 1 = false ∧
    (ranksBefore 2 16 (1, 5) (2, 5) = true ∧ ranksBefore 2 16 (2, 5) (3, 5) = true) ∧ (7 < 8 ∧ 1 < 2 ∧ ((7 : Nat).testBit 1 = true → 1 = 1)) ∧
    2 ≤ 3 - 1 ∧ (∀ w, (sampleCore w id).coreAt 0x205 w) := ⟨by decide, by decide, by decide, by decide, by decide, witness_coreAt⟩

theorem witness_CoreSlateAccesses :
    (∀ w, (sampleCore w id).coreAt 0x205 w) ∧ (sampleCore 0#32 id).coreRegion 0x205 = 2048 ∧
    (∀ r ∈ coreSlate, (sampleCore 0#32 id).slateFits 0x205 r.2.2.2.1 (slateAt CoreState.reset 15 1984)) ∧
    (∀ r ∈ coreSlate, ∀ w ∈ wordsOf ((sampleCore 0#32 id).slatePa 0x205 (slateAt CoreState.reset 15 1984)) r.2.2.2.1,
      (sampleCore 0#32 id).checkAt w = .clean) ∧
    (¬(0 < 3 ∧ 1 = 1 ∧ 15 = 14) ∧ (0 < 3 ∧ 1 = 1 ∧ 15 = 15)) ∧
    (∀ r ∈ coreSlate, 2048 < slateAt CoreState.reset 15 2048 + r.2.2.2.1) ∧
    slateAt CoreState.reset 15 1 + 4 ≤ 2048 ∧ slateAt CoreState.reset 15 1 % 4 ≠ 0 ∧
    (∀ r ∈ coreSlate, ∀ b : Bool, ((sampleCore 0#32 (fun c => if b then { c with fills := [⟨1984, 8, none, 0#64, none, []⟩] } else c)).core
      0x205).fills.any (SlateOp.meets (slateAt CoreState.reset 15 1984) r.2.2.2.1) = b) :=
  ⟨witness_coreAt, by decide +kernel, by unfold State.slateFits; decide +kernel, by decide +kernel, by decide, by decide +kernel, by decide +kernel,
    by decide +kernel, by decide +kernel⟩

theorem witness_StoreWritesItsBytes : Memory.wf sample.mem = true ∧
    ((wordsOf 1 9).filter (fun w => !(decide (1 ≤ w) && decide (w + 8 ≤ 1 + 9))) = [0, 8] ∧ ∀ w ∈ [0, 8], (sample.checkAt w).bad = false ∧
      sample.checkAt w = .clean) := by decide +kernel

theorem witness_CoreSystemValues : 15 < 16 ∧ (0 < 2 ^ 15 ∧ 15 < 2 ^ 15 ∧ 32767 < 2 ^ 15) ∧ ∀ w, (sampleCore w id).coreAt 0x205 w :=
  ⟨by decide, by decide, witness_coreAt⟩

/-- A core whose c15 names the core beside it and whose c14 holds a value. -/
def sampleMesh (w : Word) (v : Nat) : State := sampleCore w (fun c => { c with cregs := [(14, BitVec.ofNat 32 v), (15, 0x206#32)] })

theorem sampleMesh_coreAt (w : Word) (v : Nat) : (sampleMesh w v).coreAt 0x205 w := sample_coreAt w _

theorem witness_CoreMeshSends : (∀ w v, (sampleMesh w v).coreAt 0x205 w) ∧
    ((sampleMesh 0#32 2032).reachesCore 0x205 0x206 ∧ ((sampleMesh 0#32 2032).core 0x205).cget 15 = 0x206 ∧
      (sampleMesh 0#32 2032).meshRuns ((sampleMesh 0#32 2032).coreCtx 0x205) 0x206 = true ∧ ((sampleMesh 0#32 2032).core 0x205).sends.length < 4) ∧
    ((sampleMesh 0#32 2032).slateFits 0x205 16 (((sampleMesh 0#32 2032).core 0x205).cget 14)) ∧
    ((sampleMesh 0#32 1984).slateFits 0x205 64 (((sampleMesh 0#32 1984).core 0x205).cget 14)) ∧
    (let b := ((sampleMesh 0#32 0x06000600).core 0x205).cget 14;
      b % 2 ^ 12 % 16 = 0 ∧ b / 2 ^ 16 % 2 ^ 12 % 16 = 0 ∧ b % 2 ^ 12 + 16 * 32 ≤ (sampleMesh 0#32 0x06000600).coreRegion 0x205 ∧
        b / 2 ^ 16 % 2 ^ 12 + 16 * 32 ≤ (sampleMesh 0#32 0x06000600).coreRegion 0x205) :=
  ⟨sampleMesh_coreAt, by unfold State.reachesCore; decide +kernel, by unfold State.slateFits; decide +kernel,
    by unfold State.slateFits; decide +kernel, by decide +kernel⟩

theorem witness_CoreSyncResults : (∀ w v, (sampleMesh w v).coreAt 0x205 w) ∧
    ((sampleMesh 0#32 2040).slateFits 0x205 8 (((sampleMesh 0#32 2040).core 0x205).cget 14) ∧
      ((sampleMesh 0#32 2040).core 0x205).cget 13 % 8 = 0 ∧ 2040 + ((sampleMesh 0#32 2040).core 0x205).cget 13 ≤ 2048) ∧
    ((sampleMesh 0#32 1024).core 0x205).cget 14 + ((sampleMesh 0#32 1024).core 0x205).cget 14 ≤ (sampleMesh 0#32 1024).coreRegion 0x205 ∧
    ((sampleMesh 0#32 0).core 0x205).rx.find? (rxTagged 255) = none ∧
    [(⟨rxHeader 255 false 0x206, 0#128⟩ : RxEntry)].find? (rxTagged 255) ≠ none ∧
    (∀ v ∈ [0x03000206, 0x40000000], (sampleMesh 0#32 v).sigAllowed ((sampleMesh 0#32 v).coreCtx 0x205)
      (sigTarget (((sampleMesh 0#32 v).core 0x205).c 14)) = true) ∧ (3 < 4 ∧ 0 < 32767 ∧ 32767 < 2 ^ 15) :=
  ⟨sampleMesh_coreAt, by unfold State.slateFits; decide +kernel, by decide +kernel, by decide +kernel, by decide +kernel, by decide +kernel, by decide⟩

/-- A core of a run that waits, and a message in the mesh. -/
def sampleWait (b : CoreBlock) (f : CoreState → CoreState) (m : List MeshMsg) : State :=
  { sampleCore 0#32 (fun c => f { c with block := b }) with mesh := m }

theorem witness_CoreMeshEvents :
    (let c := (sampleWait .fence id []).core 0x205; c.block = .fence ∧ c.putsOut = 0 ∧ c.sends = []) ∧
    (let c := (sampleWait (.recv 7 15) (fun c => { c with rx := [⟨0#32, 0#128⟩] }) []).core 0x205; c.block = .recv 7 15 ∧ c.rx = ⟨0#32, 0#128⟩ :: []) ∧
    (let c := (sampleWait (.wait 3 1) (fun c => { c with counters := [(3, 1#16)] }) []).core 0x205; c.block = .wait 3 1 ∧ 1 ≤ (c.kget 3).toNat) ∧
    (let c := (sampleWait (.recvT 255 7 15) (fun c => { c with rx := [⟨0#32, 0#128⟩, ⟨rxHeader 255 false 0x206, 0#128⟩] }) []).core 0x205;
      c.block = .recvT 255 7 15 ∧ c.rx.find? (rxTagged 255) = some ⟨rxHeader 255 false 0x206, 0#128⟩) ∧
    (let c := (sampleWait .no (fun c => { c with sends := [⟨0x206, 0, 0#128, false⟩] }) []).core 0x205;
      c.sends[0]? = some ⟨0x206, 0, 0#128, false⟩ ∧ c.status ≠ 4) ∧
    (let c := (sampleWait .no (fun c => { c with heldNote := [(1, 2)] }) []).core 0x205; c.heldNote = (1, 2) :: [] ∧ c.rx.length < 16) ∧
    (∀ l ∈ [[], [0]], let c := (sampleWait .no (fun c => { c with fills := [⟨0, 8, none, 0#64, none, l⟩] }) []).core 0x205;
      c.fills = ⟨0, 8, none, 0#64, none, l⟩ :: []) ∧
    (∀ m ∈ [MeshMsg.send 0x206 0x205 0 0#128, .refusal 0x206 0x205 0 0#128, .sendAck 0x206 0x205 0 0#128, .put 0x206 0x205 0 0#128 true .none,
        .getReply 0x206 0x205 0 0#128 false true .none, .getReq 0x206 0x205 0 0 1 .none],
      ((sampleWait .no id [m]).meshTake 0).map (fun x => x.1) = some m) ∧
    ((sampleWait .no id []).core 0x205).heldNote = [] ∧ (sampleWait .no id []).checkAt (slateBase 0x205) = .clean := by
  decide +kernel

/-! Concrete states for the statements about controllers: the controller of array 3 fetches two words from its instruction cache. -/

/-- A line that begins with two words. -/
def sampleLine (w x : Word) : List Byte := bytesOf 4 w.toNat ++ (bytesOf 4 x.toNat ++ List.replicate 56 0#8)

/-- The first gigabyte of HBM and the edge store of logical array 0, each mapped to itself, and a controller that stands before two words. -/
def sampleCtrl (w x : Word) (f : ArrayState → ArrayState) : State :=
  { sample with
    regs := tblPut (tblPut sample.regs rMmuHbmCap 0x40000000#32) (rMmuAllocPark 0) 0x10000#32
    memst := { sample.memst with tlb := [(18, [⟨.leaf, 0, 0, 0, 0x40000000, 0x1D⟩, ⟨.leaf, 0, 0, 0x800000000000, 0x40000000, 0x80000000001D⟩])] }
    arrays := [(3, f { ArrayState.reset with ctrl := { Ctrl.reset with state := 1, icache := [(0, sampleLine w x)] } })] }

/-- Registers of a controller. -/
def withRegs (r : Tbl DWord) (d : Tbl (BitVec 512)) (a : ArrayState) : ArrayState := { a with ctrl := { a.ctrl with sregs := r, dregs := d } }

theorem sampleLine_words (w x : Word) :
    ofBytes (sliceBytes (sampleLine w x) 0 4) = w.toNat ∧ ofBytes (sliceBytes (sampleLine w x) 4 4) = x.toNat := by
  have h (n : Nat) : (bytesOf 4 n).length = 4 := by simp [bytesOf]
  have b (y : Word) : ofBytes (bytesOf 4 y.toNat) = y.toNat := by
    have := y.isLt
    simp [ofBytes, bytesOf]
    omega
  have t (y : Word) (r : List Byte) : sliceBytes (bytesOf 4 y.toNat ++ r) 0 4 = bytesOf 4 y.toNat := by
    simp [sliceBytes, List.take_left' (h y.toNat), h y.toNat]
  constructor
  · rw [sampleLine, t, b]
  · have : sliceBytes (sampleLine w x) 4 4 = sliceBytes (bytesOf 4 x.toNat ++ List.replicate 56 0#8) 0 4 := by
      simp only [sliceBytes, sampleLine]
      rw [List.drop_left' (h _)]
      rfl
    rw [this, t, b]

theorem sampleCtrl_at (w x : Word) (f : ArrayState → ArrayState) (h : ∀ a, (f a).ctrl.state = a.ctrl.state ∧ (f a).ctrl.blocked = a.ctrl.blocked ∧
    (f a).ctrl.ended = a.ctrl.ended ∧ (f a).ctrl.pc = a.ctrl.pc ∧ (f a).ctrl.icache = a.ctrl.icache ∧ (f a).runs = a.runs ∧ (f a).ctrl.attn = a.ctrl.attn) :
    (sampleCtrl w x f).ctrlAt 3 w (sampleCtrl w x f) ∧ (sampleCtrl w x f).ctrlAt2 3 w x (sampleCtrl w x f) := by
  obtain ⟨h1, h2, h3, h4, h5, h6, h7⟩ := h { ArrayState.reset with ctrl := { Ctrl.reset with state := 1, icache := [(0, sampleLine w x)] } }
  have c : (sampleCtrl w x f).arr 3 = f { ArrayState.reset with ctrl := { Ctrl.reset with state := 1, icache := [(0, sampleLine w x)] } } := rfl
  have p : ((sampleCtrl w x f).arr 3).ctrl.pc = 0#48 := by rw [c, h4]; rfl
  have i : ((sampleCtrl w x f).arr 3).ctrl.icache = [(0, sampleLine w x)] := by rw [c, h5]
  have f0 : (sampleCtrl w x f).fetchWord 3 0 = .ok (sliceBytes (sampleLine w x) 0 4) (sampleCtrl w x f) := by
    simp [State.fetchWord, State.fetchLine, i, cacheGet]
  have f4 : (sampleCtrl w x f).fetchWord 3 4 = .ok (sliceBytes (sampleLine w x) 4 4) (sampleCtrl w x f) := by
    simp [State.fetchWord, State.fetchLine, i, cacheGet]
  have g : (sampleCtrl w x f).ctrlAt 3 w (sampleCtrl w x f) := by
    refine ⟨?_, ?_, _, ?_, (sampleLine_words w x).1⟩
    · show State.ctrlIssues _ 3 = true
      unfold State.ctrlIssues
      simp only [c, h1, h2, h3, h6, h7]
      rfl
    · show (((sampleCtrl w x f).arr 3).ctrl.pc).toNat % 4 = 0
      rw [p]; rfl
    · show (sampleCtrl w x f).fetchWord 3 (((sampleCtrl w x f).arr 3).ctrl.pc).toNat = _
      rw [p]; exact f0
  refine ⟨g, _, g, _, ?_, (sampleLine_words w x).2⟩
  show (sampleCtrl w x f).fetchWord 3 ((((sampleCtrl w x f).arr 3).ctrl.pc).toNat + 4) = _
  rw [p]; exact f4

theorem witness_ctrlAt (w : Word) : (sampleCtrl w 0#32 id).ctrlAt 3 w (sampleCtrl w 0#32 id) :=
  (sampleCtrl_at w 0#32 id (fun _ => ⟨rfl, rfl, rfl, rfl, rfl, rfl, rfl⟩)).1

theorem witness_ctrlAt2 (w x : Word) : (sampleCtrl w x id).ctrlAt2 3 w x (sampleCtrl w x id) :=
  (sampleCtrl_at w x id (fun _ => ⟨rfl, rfl, rfl, rfl, rfl, rfl, rfl⟩)).2

theorem sample_regs (w x : Word) (r : Tbl DWord) (d : Tbl (BitVec 512)) :
    (sampleCtrl w x (withRegs r d)).ctrlAt 3 w (sampleCtrl w x (withRegs r d)) ∧ (sampleCtrl w x (withRegs r d)).ctrlAt2 3 w x (sampleCtrl w x (withRegs r d)) :=
  sampleCtrl_at w x (withRegs r d) (fun _ => ⟨rfl, rfl, rfl, rfl, rfl, rfl, rfl⟩)

/-- Array 3 with a change of its own. -/
def sampleArr (f : ArrayState → ArrayState) : State := sampleCtrl 0#32 0#32 f

/-! A witness for each statement about controllers. -/

theorem witness_CtrlBinaryResults : 31 < 32 ∧ (∀ r ∈ ctrlBinary, (sampleCtrl (wordG 1 31 31 31 r.2.1) 0#32 id).ctrlAt 3 (wordG 1 31 31 31 r.2.1)
      (sampleCtrl (wordG 1 31 31 31 r.2.1) 0#32 id)) ∧
    ∀ r ∈ ctrlUnary, (sampleCtrl (wordG 1 31 31 0 r.2.1) 0#32 id).ctrlAt 3 (wordG 1 31 31 0 r.2.1) (sampleCtrl (wordG 1 31 31 0 r.2.1) 0#32 id) :=
  ⟨by decide, fun _ _ => witness_ctrlAt _, fun _ _ => witness_ctrlAt _⟩

theorem witness_CtrlImmediateResults : (31 < 32 ∧ 63 < 64 ∧ 7 < 8 ∧ ctrlConditions.length = 7) ∧
    ∀ w, (sampleCtrl w 0#32 id).ctrlAt 3 w (sampleCtrl w 0#32 id) := ⟨by decide, witness_ctrlAt⟩

theorem witness_CtrlBranchResults : (31 < 32 ∧ 7 < 8) ∧ ∀ w, (sampleCtrl w 0#32 id).ctrlAt 3 w (sampleCtrl w 0#32 id) := ⟨by decide, witness_ctrlAt⟩

theorem witness_CtrlDescriptorFields : (31 < 32 ∧ 15 < 16 ∧ ctrlSelectors ≠ []) ∧ ∀ w, (sampleCtrl w 0#32 id).ctrlAt 3 w (sampleCtrl w 0#32 id) :=
  ⟨by decide, witness_ctrlAt⟩

/-- Whether a controller's read gives bytes. -/
def readGives : CtrlRead → Bool
  | .ok .. => true
  | _ => false

theorem witness_CtrlLoadsAndStores : (∀ w, (sampleCtrl w 0#32 id).ctrlAt 3 w (sampleCtrl w 0#32 id)) ∧ (31 < 32 ∧ 15 < 16) ∧
    (let s := sampleCtrl 0#32 0#32 id;
      let va := (((s.ac 3).s 31) + (0#11).signExtend 64).toNat;
      va % 8 = 0 ∧ readGives (s.ctrlRead 3 va 8) = true ∧ readGives (s.ctrlRead 3 va 4) = true ∧ readGives (s.ctrlRead 3 va 64) = true ∧
        (∀ n ∈ [4, 8, 64], s.accessN (s.ctrlAcc 3 (s.ac 3).ctx .write) va n = .ok va)) ∧
    (let va := (((sampleCtrl 0#32 0#32 id).ac 3).s 31 + (1#11).signExtend 64).toNat; va % 8 ≠ 0 ∧ va % 4 ≠ 0) ∧
    (let s := sampleCtrl 0#32 0#32 (withRegs [(31, 8#64)] []); ((s.ac 3).s 31 + 64#64 * (0#11).signExtend 64).toNat % 64 ≠ 0) :=
  ⟨witness_ctrlAt, by decide, by decide +kernel, by decide +kernel, by decide +kernel⟩

theorem witness_CtrlReadForwards : let s := sampleCtrl 0#32 0#32 id
    0 < 1 ∧ 63 % 64 + 1 ≤ 64 ∧ s.accessN (s.ctrlAcc 3 (s.arr 3).ctrl.ctx .read) 63 1 = .ok 63 ∧ s.place 63 = .hbm ∧ s.uncommittedHit 63 1 = false ∧
      cacheGet (63 / 64) (s.arr 3).ctrl.dcache = none ∧ (∀ w ∈ wordsOf (63 - 63 % 64) 64, s.checkAt w = .clean) ∧
      (∀ x ∈ (s.arr 3).ctrl.stores, ¬(x.va ≤ 63 + 0 ∧ 63 + 0 < x.va + x.data.length)) ∧
      (let x : PostedStore := ⟨56, 56, bytesOf 8 1⟩;
        let s' := sampleCtrl 0#32 0#32 (fun a => { a with ctrl := { a.ctrl with stores := [x] } });
        (s'.arr 3).ctrl.stores = [] ++ x :: [] ∧ x.va ≤ 63 ∧ 63 < x.va + x.data.length) := by decide +kernel

theorem witness_CtrlTimeResults : (31 < 32 ∧ 2047 < 2 ^ 11 ∧ 2047 ≠ 7) ∧ (∀ w, (sampleCtrl w 0#32 id).ctrlAt 3 w (sampleCtrl w 0#32 id)) ∧
    ∀ w x, (sampleCtrl w x id).ctrlAt2 3 w x (sampleCtrl w x id) := ⟨by decide, witness_ctrlAt, witness_ctrlAt2⟩

/-- A queue entry. -/
def sampleEntry (op : QOp) : QEntry := { seq := 0, pc := 0, w0 := 0#32, w1 := 0#32, osn := 0, launch := none, late := [], op := op }

theorem witness_CtrlSyncResults : (31 < 32 ∧ 63 < 64 ∧ 0 < 32767 ∧ 32767 < 2 ^ 15 ∧ 31 ≠ 0) ∧
    (∀ w, (sampleCtrl w 0#32 (withRegs [(31, 0x40000000#64)] [])).ctrlAt 3 w
      (sampleCtrl w 0#32 (withRegs [(31, 0x40000000#64)] []))) ∧
    (let s := sampleCtrl 0#32 0#32 (withRegs [(31, 0x40000000#64)] []);
      s.sigAllowed (s.ac 3).ctx (sigTarget (((s.ac 3).s 31).setWidth 32)) = true) ∧
    (let s := sampleArr (fun a => { a with ctrl := { a.ctrl with blocked := .wait 63 1 }, counters := [(63, 1#16)] });
      (s.ac 3).blocked = .wait 63 1 ∧ (s.ac 3).state = 1 ∧ (s.arr 3).runs = true ∧ 1 ≤ (s.arr 3).ctr 63) ∧
    ∀ q : Fin 3, let s := sampleArr (fun a => { a.setQueue q.val [sampleEntry (.qwait 63 1)] with counters := [(63, 1#16)] });
      (s.arr 3).queue q.val = sampleEntry (.qwait 63 1) :: [] ∧ (s.arr 3).runs = true ∧ 1 + (s.arr 3).takenBefore q.val 63 ≤ (s.arr 3).ctr 63 :=
  ⟨by decide, fun w => (sample_regs w _ _ _).1, by decide +kernel, by decide +kernel, by decide +kernel⟩

theorem witness_CtrlCheckAndOrder : (31 < 32 ∧ 1023 < 2 ^ 10 ∧ 0 < 31) ∧ (∀ w, (sampleCtrl w 0#32 id).ctrlAt 3 w (sampleCtrl w 0#32 id)) ∧
    (let s := sampleArr (fun a => { a with ctrl := { a.ctrl with blocked := .commit true } });
      (s.ac 3).blocked = .commit true ∧ (s.ac 3).state = 1 ∧ (s.arr 3).runs = true ∧ s.commitDone 3 true = true) ∧
    (∀ k ∈ [0x10, 0x11, 0x12, 0x13, 0x15], let s := sampleArr (fun a => { a with ctrl := { a.ctrl with blocked := .fence k } });
      (s.ac 3).blocked = .fence k ∧ (s.ac 3).state = 1 ∧ (s.arr 3).runs = true ∧ s.fenceHolds 3 k = true) :=
  ⟨by decide, witness_ctrlAt, by decide +kernel, by decide +kernel⟩

/-- A descriptor of base, format code, layout, axis and two extents, its strides 0. -/
def sampleDesc (base code layout axis e0 e1 : Nat) : BitVec 512 :=
  BitVec.ofNat 512 (base + code * 2 ^ 48 + layout * 2 ^ 53 + axis * 2 ^ 55 + e0 * 2 ^ 64 + e1 * 2 ^ 96 + 2 ^ 128 + 2 ^ 160 + 2 ^ 192)

/-- A BF16 block of the greatest extents, which d15 names; an activation descriptor in d14, a record descriptor in d13. -/
def sampleDescs : Tbl (BitVec 512) :=
  [(13, sampleDesc 0 0x11 0 7 4 4), (14, sampleDesc 0 0x0C 0 7 4 4), (15, sampleDesc 0 0x0C 1 0 256 2048)]

/-- A drain configuration to records. -/
def sampleDrain : DrainSet := ⟨sampleDesc 0 0x11 0 7 4 4, 0#512, .record, .rne, false, 0, false, 13, 0xFF⟩

/-- A controller of a K split of two arrays, with a drain configuration. -/
def withGang (a : ArrayState) : ArrayState :=
  { a with ctrl := { a.ctrl with dregs := sampleDescs, drain := some sampleDrain, gang := ⟨1, 3, 64, sampleDesc 0 0x11 0 7 4 4⟩ } }

theorem sample_gang (w x : Word) : (sampleCtrl w x withGang).ctrlAt2 3 w x (sampleCtrl w x withGang) :=
  (sampleCtrl_at w x withGang (fun _ => ⟨rfl, rfl, rfl, rfl, rfl, rfl, rfl⟩)).2

theorem sample_running (w : Word) : (sampleCtrl w 0#32 (fun a => { a with run := { a.run with running := true } })).ctrlAt 3 w
    (sampleCtrl w 0#32 (fun a => { a with run := { a.run with running := true } })) :=
  (sampleCtrl_at w 0#32 (fun a => { a with run := { a.run with running := true } }) (fun _ => ⟨rfl, rfl, rfl, rfl, rfl, rfl, rfl⟩)).1

theorem witness_ArrayCommandsIssue : (15 < 16 ∧ 31 < 32 ∧ 1 ≤ 64 ∧ 64 ≤ 64 ∧ 255 ≤ 255 ∧ 255 < 256) ∧
    (∀ w x, (sampleCtrl w x (withRegs [(31, 0xFF#64)] sampleDescs)).ctrlAt 3 w (sampleCtrl w x (withRegs [(31, 0xFF#64)] sampleDescs)) ∧
      (sampleCtrl w x (withRegs [(31, 0xFC#64)] sampleDescs)).ctrlAt2 3 w x (sampleCtrl w x (withRegs [(31, 0xFC#64)] sampleDescs))) ∧
    (let s := sampleCtrl 0#32 0#32 (withRegs [(31, 0xFF#64)] sampleDescs);
      let d := (s.ac 3).dget 15;
      (descOf d).fmt.isSome = true ∧ (descOf d).fault = none ∧ (descOf d).layout = 1 ∧ flatDims (descOf d) = true ∧
        fmtOperand (fmtOr (descOf d).code) = true ∧ (descOf d).fmt ≠ some .fp32 ∧ blockDims (descOf d) = true ∧
        (s.parkAlloc 0).1 ≤ 255 ∧ (((s.ac 3).s 31).setWidth 8).toNat = 255 ∧ 255 < (s.parkAlloc 0).1 + (s.parkAlloc 0).2 ∧
        (((s.ac 3).s 31 >>> 8).setWidth 48).toNat % 64 = 0 ∧ (s.slAlloc 0).2 ≠ 0) ∧
    (let s := sampleCtrl 0#32 0#32 (withRegs [(31, 0xFC#64)] sampleDescs); ((s.ac 3).s 31).toNat % 4 = 0) ∧
    (∀ w, (sampleCtrl w 0#32 (fun a => { a with run := { a.run with running := true } })).ctrlAt 3 w
      (sampleCtrl w 0#32 (fun a => { a with run := { a.run with running := true } }))) ∧
    ((sampleArr (fun a => { a with run := { a.run with running := true } })).arr 3).run.running = true ∧
    ((sampleArr id).arr 3).run.running = false ∧ (∀ q : Fin 3, (sampleArr id).queueRoom 3 q.val) ∧
    (∀ q : Fin 3, let u := (sampleArr (fun a => a.setQueue q.val (List.replicate (queueBound q.val) (sampleEntry .swap)))).drainStores 3;
      (u.ac 3).state = 1 ∧ u.storesDone 3 = true ∧ queueBound q.val ≤ ((u.arr 3).queue q.val).length) :=
  ⟨by decide, fun _ _ => ⟨(sample_regs _ _ _ _).1, (sample_regs _ _ _ _).2⟩, by decide +kernel, by decide +kernel, sample_running, rfl, rfl,
    by unfold State.queueRoom; decide +kernel, by decide +kernel⟩

theorem witness_ArrayPassesIssue : (31 < 32 ∧ 15 < 16 ∧ 2 < 3 ∧ 255 < 256) ∧
    (∀ w x, (sampleCtrl w x withGang).ctrlAt2 3 w x (sampleCtrl w x withGang)) ∧
    (let s := sampleArr withGang;
      s.queueRoom 3 0 ∧ s.regionFits 3 (s.ac 3).gang (descOf ((s.ac 3).dget 13)) = true ∧
      (∀ acc ∈ [0, 2], (drainChecks 0x11 2 acc (descOf ((s.ac 3).dget 13)) (descOf ((s.ac 3).dget 13)) 13 13).all (·.isNone) = true) ∧
      (s.ac 3).drain = some sampleDrain ∧ (fmtOfCode 0x0C).any fmtOperand = true ∧ pairAllowed (fmtOr 0x0C) (fmtOr 0x0C) = true ∧
      (let d := descOf ((s.ac 3).dget 14); d.fmt.isSome = true ∧ d.fault = none ∧ d.layout = 0 ∧ flatDims d = true ∧ fmtMx (fmtOr 0x0C) = false) ∧
      1 ≤ maxRows true (fmtOr 0x0C) ∧ 0 + 1 ≤ 2 ^ 32 ∧ sampleDrain.fmt = .record ∧
      (let d := descOf ((s.ac 3).dget 13); d.fmt.isSome = true ∧ d.fault = none ∧ d.layout = 0 ∧ flatDims d = true ∧ d.code = 0x11) ∧
      (fmtOfCode 0x0C).any fmtDrain = true ∧ (s.ac 3).gang.split = 3 ∧ (s.ac 3).gang.log2 ≠ 0 ∧ (descOf ((s.ac 3).dget 14)).code = 0x0C ∧
      s.gangRank 3 (s.ac 3).gang = 0 ∧ (descOf ((s.ac 3).dget 13)).extOf 0 ≤ (descOf ((s.ac 3).dget 14)).extOf 0 ∧
      (descOf ((s.ac 3).dget 13)).extOf 1 ≤ (descOf ((s.ac 3).dget 14)).extOf 1) ∧
    (let s := sampleArr (withRegs [(31, 0xFF30#64)] []); ((s.ac 3).s 31).toNat = 0 + 3 * 16 + 255 * 256 ∧ s.gangInside 0 3 0 = true) :=
  ⟨by decide, sample_gang, by unfold State.queueRoom; decide +kernel, by decide +kernel⟩

/-- A held tile of output 7 of context 0. -/
def sampleHeld : Tile := { Tile.free with state := 4, osn := 7, unresolved := true }

theorem witness_EngineCommandsIssue : (31 < 32 ∧ 255 < 256 ∧ 15 < 16 ∧ 63 < 64) ∧
    (∀ w x, (sampleCtrl w x (withRegs [] sampleDescs)).ctrlAt 3 w (sampleCtrl w x (withRegs [] sampleDescs)) ∧
      (sampleCtrl w x (withRegs [] sampleDescs)).ctrlAt2 3 w x (sampleCtrl w x (withRegs [] sampleDescs))) ∧
    (let s := sampleArr (withRegs [] sampleDescs);
      (((s.ac 3).s 31).setWidth 48).toNat % 64 = 0 ∧ (((s.ac 3).s 31).setWidth 48).toNat % 32 = 0 ∧ (s.arr 3).vq.length < 16 ∧
        readGives (s.recordRead 3 0 64) = true ∧ (∀ r ∈ [13, 14, 15], (descOf ((s.ac 3).dget r)).fmt.isSome = true ∧ (descOf ((s.ac 3).dget r)).fault = none) ∧
        (s.window 3 63).isOpen = false ∧ (s.window 3 63).closing = false ∧ ¬((0 ≠ 1 ∧ 0 ≠ 0) ∨ (0 = 1 ∧ 15 ≠ 0) ∨ (0 < 2 ∧ 0 ≠ 0)) ∧
        ((0 ≠ 1 ∧ 31 ≠ 0) ∧ (1 = 1 ∧ 15 ≠ 0) ∧ 15 ≠ 0) ∧ winRecordOk (bytesOf 64 (64 * 2 ^ 64 + 2 ^ 158)) = true ∧ winRecordOk [] = false) ∧
    (sampleHeld.unresolved && sampleHeld.state == 4 && sampleHeld.osn == 7 && sampleHeld.ctx == 0) = true ∧
    (let s := sampleArr (fun a => { a with wins := [(63, { Window.shut with closing := true })] });
      (s.window 3 63).closing = true ∧ s.winAdmitted 3 63 = false) ∧
    ((sampleArr (fun a => { a with wins := [(63, { Window.shut with isOpen := true })] })).window 3 63).isOpen = true :=
  ⟨by decide, fun _ _ => ⟨(sample_regs _ _ _ _).1, (sample_regs _ _ _ _).2⟩, by decide +kernel, by decide +kernel, by decide +kernel, by decide +kernel⟩

/-! A witness for each statement about queues, tiles and engines. -/

/-- A stationary block of one BF16 column of context 0. -/
def sampleBlock : Block := ⟨.bf16, 1, 1, [[(0, 0)]], 0, 0, 0, [], sampleDesc 0x800000000000 0x0C 1 0 1 1, 0x800000000000, none, [], []⟩

/-- A pass of one row of that block. -/
def samplePass : PassOp :=
  ⟨7, 1, 0, 0, sampleDesc 0x800000000000 0x0C 0 7 1 1, false, false, false, 0, .bf16, .bf16, 0, sampleDrain, GangSet.start, 0, 0, false⟩

/-- A tile that streams that pass. -/
def sampleStreaming : Tile := { Tile.free with state := 1, osn := 7, rows := 1, steps := [(samplePass, sampleBlock)] }

/-- Array 3 with one operation at the head of its queues. -/
def sampleQueue (op : QOp) (f : ArrayState → ArrayState) : State :=
  sampleArr (fun a => f { a with aq := [sampleEntry op], vq := [sampleEntry op], dq := [sampleEntry op] })

theorem witness_ArrayQueueEvents :
    (∀ n, (sampleQueue .swap id).unitStalled 3 n = false) ∧
    (∀ op ∈ [QOp.load true sampleBlock.desc true 0 0x800000000000, .swap, .pass samplePass, .gangCfg GangSet.start, .coreRun 0#32],
      let s := sampleQueue op (fun a => { a with active := some sampleBlock });
      (s.arr 3).runs = true ∧ s.replayOn 3 = false ∧ s.stopping 3 = false ∧ (s.arr 3).restarts = [] ∧ (s.arr 3).run.running = false ∧
        (s.arr 3).run.frozen = false ∧ (s.arr 3).streams = false ∧ (s.arr 3).aq = sampleEntry op :: [] ∧ (s.arr 3).feed = none ∧
        (s.arr 3).fillsShadow = false ∧ (s.arr 3).fillsActive = false ∧ (s.arr 3).shadow = none ∧ (s.arr 3).arrayIdle = true ∧
        (s.arr 3).otherWay false = false ∧ ∀ x ∈ (s.arr 3).tiles, x.state ≠ 1) ∧
    (let s := sampleQueue .swap id;
      let rs := blockRanges (descOf sampleBlock.desc) .bf16;
      let acc := s.unitAcc 3 0 .read;
      s.firstEdgeFault 3 acc rs = none ∧ (s.physRanges acc rs).any (fun r => s.uncommittedHit r.1 r.2) = false ∧
        (∀ t ∈ s.tilesAt (slateBase (0 * 65536)), t.held = []) ∧
        (s.readRanges (some 0) (s.physRanges acc rs)).firstBad (s.physRanges acc rs) = none ∧
        let u := { s with memst := { s.memst with check := [(0x100000000000, .poisoned)] } };
        ((u.readRanges (some 0) (u.physRanges acc rs)).firstBad (u.physRanges acc rs)).isSome = true) ∧
    (let s := sampleQueue (.unpark 255 0) (fun a => { a with park := [(255, sampleBlock)], feed := none });
      tblFind (s.arr 3).park 255 = some sampleBlock ∧ sampleBlock.owned (s.arr 3).ctrl = true ∧
        s.firstEdgeFault 3 (s.unitAcc 3 0 .read) (scaleRanges 0x800000000000 sampleBlock) = none ∧
        (s.physRanges (s.unitAcc 3 0 .read) (scaleRanges 0x800000000000 sampleBlock)).any (fun r => s.uncommittedHit r.1 r.2) = false) ∧
    (let s := sampleQueue .swap (fun a => { a with shadow := some sampleBlock, feed := some (sampleEntry (.unpark 0 0)) });
      (s.arr 3).shadow = some sampleBlock ∧ (s.arr 3).fp32Pair = false ∧ (s.arr 3).feed = some (sampleEntry (.unpark 0 0))) ∧
    (let s := sampleQueue (.pass { samplePass with rows := 0 }) id;
      s.firstEdgeFault 3 (s.unitAcc 3 0 .read) ((descOf samplePass.dA).tableRange 0) = none ∧
        Nat.min 0 (s.actualLen (s.unitAcc 3 0 .read) (descOf samplePass.dA) 0 0).2 = 0) ∧
    (let s := sampleQueue (.pass samplePass) (fun a => { a with active := some sampleBlock });
      let acc := s.unitAcc 3 0 .read;
      Nat.min 1 (s.actualLen acc (descOf samplePass.dA) 0 0).2 ≠ 0 ∧ (s.arr 3).groupSlot = none ∧ (s.arr 3).freeSlot = some 0 ∧
        ((s.arr 3).tile 0).openGroup = false ∧ s.passStartFault 3 (sampleEntry (.pass samplePass)) samplePass [] 1 = none ∧
        s.firstEdgeFault 3 acc (s.actRanges 3 0 samplePass 1) = none ∧
        s.firstFault (s.unitAcc 3 0 .write) (tileRanges (descOf samplePass.drain.dO) .record 1 1) = none ∧
        s.foreignUncommitted 3 0 (s.physRanges acc (s.actRanges 3 0 samplePass 1)) = false ∧
        ((sampleQueue (.pass samplePass) id).passStartFault 3 (sampleEntry (.pass samplePass)) samplePass [] 1).isSome = true ∧
        ((sampleQueue (.pass samplePass) (fun a => { a with tiles := List.replicate 3 { Tile.free with state := 4 } })).arr 3).freeSlot = none) :=
  ⟨fun _ => rfl, by decide +kernel, by decide +kernel, by decide +kernel, by decide +kernel, by decide +kernel, by decide +kernel⟩

/-- A reduction entry of a K split of two arrays. -/
def sampleReduce : QOp := .reduce (sampleDesc 0x800000000000 0x11 0 7 1 1) 0#512 0 0 .fp32 .rne false ⟨1, 3, 64, sampleDesc 0x800000001000 0x11 0 7 1 1⟩ 0 false

/-- Its reduction at the given level, one record of 0. -/
def sampleRed (op : QOp) (level : Nat) : RedState := ⟨sampleEntry op, level, [[Acc.zero]], [0], 0, 0, [], none⟩

/-- A chain run of an entry. -/
def sampleRun (op : QOp) : ChainRun := { entry := sampleEntry op, ctx := 0, attached := none, staged := [] }

/-- A legal chain of one stage that reads and writes one BF16 element. -/
def sampleChain : ChainOp := ⟨bytesOf 64 1, 0, none, 0, 0, 0, List.replicate 5 (sampleDesc 0 0x0C 0 7 1 1), [0]⟩

/-- The same chain with the source, the mode and the destination of its header. -/
def chainWith (hdr : Nat) : ChainOp := { sampleChain with record := bytesOf 64 (1 + hdr * 64) }

/-- A tile of a pass that has the state, the drain and the feed given. -/
def tileOf (state seq : Nat) (op : PassOp) : Tile :=
  { Tile.free with state := state, seq := seq, rows := 1, steps := [(op, sampleBlock)], entry := some { sampleEntry (.pass op) with seq := seq } }

theorem witness_TileEvents :
    (let s := sampleArr (fun a => { a with tiles := [sampleStreaming, Tile.free, Tile.free] });
      (s.arr 3).runs = true ∧ (List.range 3).find? (fun i => ((s.arr 3).tile i).streaming) = some 0 ∧
        ((s.arr 3).tile 0).steps = [] ++ [(samplePass, sampleBlock)] ∧ (s.arr 3).chainWaits ((s.arr 3).tile 0) = false ∧
        samplePass.wsrc = false ∧ ¬(samplePass.trans = true ∧ samplePass.gend = false) ∧ (s.arr 3).drainsFull = false ∧
        (((s.bump64 (rAryPassCnt 3) 1).streamEnds 3).drained 3 ((s.arr 3).tile 0) []).2 = none) ∧
    (let s := sampleArr (fun a => { a with tiles := [sampleStreaming, { Tile.free with state := 2 }, { Tile.free with state := 3 }] });
      (s.arr 3).drainsFull = true) ∧
    (let op := { samplePass with wsrc := true };
      let s := sampleArr (fun a => { a with tiles := [{ sampleStreaming with steps := [(op, sampleBlock)] }, Tile.free, Tile.free] });
      op.wsrc = true ∧ (s.arr 3).feedsPending ((s.arr 3).tile 0).lastSeq = false) ∧
    (let op := { samplePass with drain := { sampleDrain with acc := 2, dI := sampleDesc 0x800000000000 0x11 0 7 1 1 } };
      let s := { sampleArr (fun a => { a with tiles := [tileOf 1 0 op, Tile.free, Tile.free] }) with
        memst := { (sampleArr id).memst with check := [(0x100000000000, .poisoned)] } };
      (((s.bump64 (rAryPassCnt 3) 1).streamEnds 3).drained 3 ((s.arr 3).tile 0) []).2.isSome = true) ∧
    ({ samplePass with trans := true }.trans = true ∧ { samplePass with trans := true }.gend = false) ∧
    (let s := sampleArr (fun a => { a with tiles := [{ Tile.free with state := 2, accs := [[]], wit := [0] }, Tile.free, Tile.free] });
      let t := (s.arr 3).tile 0;
      t.state = 2 ∧ s.fld (rAryWitCtl 3) 23 0 = 0 ∧ t.anchorBad = false ∧ firstFail t.flags.inexact (addResidues (tileDeltas t) []) = none ∧
        firstFail t.flags.inexact (addResidues (tileDeltas t) [(0, 2 ^ 23)]) = some (0, 2 ^ 23) ∧ s.selected t = false) ∧
    (let s := sampleArr (fun a => { a with tiles := [{ Tile.free with state := 3 }, Tile.free, Tile.free] });
      let t := (s.arr 3).tile 0;
      t.state = 3 ∧ t.replay = none ∧ t.anchorBad = false ∧ t.poisoned = false ∧ (s.arr 3).depsDone t = true ∧ (s.arr 3).chainUnchecked t = false) ∧
    (let s := { sampleArr (fun a => { a with tiles := [sampleStreaming, Tile.free, Tile.free] }) with
        parts := [(0, { PartState.reset with outgoing := some 0, saving := [3] })] };
      s.partAt 3 = some 0 ∧ (s.part 0).outgoing = some 0 ∧ (s.part 0).saving.contains 3 = true ∧
        (s.arr 3).tiles.any (fun t => t.state == 1) = true ∧ (s.arr 3).brake = false) ∧
    (let s := sampleArr (fun a => { a with restarts := [sampleStreaming] });
      (s.arr 3).restarts = sampleStreaming :: [] ∧ (s.arr 3).freeSlot = some 0 ∧ (s.arr 3).streams = false ∧ (s.arr 3).run.running = false ∧
        (s.arr 3).feed = none ∧ s.stopping 3 = false ∧ s.residentAt 3 = some sampleStreaming.ctx ∧ (s.arr 3).ctrl.state = 1 ∧
        (s.arr 3).otherWay sampleStreaming.transposed = false ∧ s.replayOn 3 = false ∧ sampleStreaming.wsrc = false ∧
        (s.arr 3).depsDone { sampleStreaming with deps := sampleStreaming.deps.filter (fun d => d != sampleStreaming.seq) } = true ∧
        s.firstBad (sampleStreaming.held.map (fun r => (r.addr, r.len))) = none) ∧
    (let x := { tileOf 1 5 { samplePass with wsrc := true } with held := [⟨0, 8⟩] };
      let s := { sampleArr (fun a => { a with restarts := [x], ctrl := { a.ctrl with state := 3, faulting := some (5, 5) }
                                              vec := { a.vec with reruns := [sampleRun (.chain sampleChain)] } }) with
        memst := { (sampleArr id).memst with check := [(0, .poisoned)] } };
      x.wsrc = true ∧ (∀ r ∈ (s.arr 3).vec.reruns, (s.arr 3).fedBy r.entry { x with entry := some { sampleEntry .swap with seq := 0 } } = false) ∧
        (s.arr 3).ctrl.faulting.isSome = true ∧ s.firstBad (x.held.map (fun r => (r.addr, r.len))) = some 0) ∧
    (let s := sampleArr (fun a => { a with red := some (sampleRed sampleReduce 1) });
      (s.arr 3).red = some (sampleRed sampleReduce 1) ∧ (s.logOf 3).getD 0 % 2 ^ 1 = 0 ∧ sendLevel 0 1 ≤ 1) := by
  decide +kernel

/-- A device of eight logical arrays on physical arrays 0 to 7; array 2 takes the records of its partner in the tree, array 3, whose anchor is
given. -/
def sampleGang (anchor : Nat) : State :=
  let op (n : Nat) : QOp := .reduce (sampleDesc 0x800000000000 0x11 0 7 1 1) 0#512 0 n .fp32 .rne false ⟨3, 3, 64, sampleDesc 0x800000001000 0x11 0 7 1 1⟩ 0 false
  { State.reset with
    regs := tblPut (tblPut (tblPut ((List.range 8).foldl (fun r i => tblPut r (rBrpMap i) (BitVec.ofNat 32 (0x80000000 + i))) [])
      (rMmuAllocEs 0) 0x10000#32) (rDspPartCtl 0) 0x80000003#32) (rDspCtxCtl 0) 0x40000003#32
    memst := { State.reset.memst with tlb := [(13, [⟨.leaf, 0, 0, 0x800000000000, 0x40000000, 0x80020000001D⟩])] }
    arrays := [(2, { ArrayState.reset with red := some (sampleRed (op 0) 0) }), (3, { ArrayState.reset with red := some (sampleRed (op anchor) 0) })] }

/-- The clauses of TileEvents about a member in the middle of the tree. -/
theorem witness_TileEvents_member : ∀ n ∈ [0, 1], let s := sampleGang n;
    let x := sampleRed (.reduce (sampleDesc 0x800000000000 0x11 0 7 1 1) 0#512 0 n .fp32 .rne false ⟨3, 3, 64, sampleDesc 0x800000001000 0x11 0 7 1 1⟩ 0 false) 0;
    (s.arr 2).runs = true ∧ (s.logOf 2).getD 0 % 2 ^ 3 = 2 ∧ 0 < sendLevel 2 3 ∧ s.gangMember 2 3 (2 + 2 ^ 0) = some 3 ∧ (s.arr 3).red = some x ∧
      (s.arr 3).runs = true ∧ x.level = sendLevel (2 + 2 ^ 0) 3 ∧
      (let rs := recRanges (descOf (sampleDesc 0x800000001000 0x11 0 7 1 1)) x.tile;
        let acc := s.unitAcc 2 0 .write;
        rs ≠ [] ∧ s.firstEdgeFault 2 acc (rs ++ recRanges (descOf (sampleDesc 0x800000000000 0x11 0 7 1 1)) x.tile) = none ∧
          s.physRanges acc rs ≠ [] ∧ ∀ y ∈ s.physRanges acc rs, s.heldHit y.1 y.2 = false) ∧
      (wrapInt 4 0 = wrapInt 4 n ↔ n = 0) := by
  decide +kernel

/-- A copy of one BF16 element. -/
def sampleCopy : DmaOp := ⟨0, sampleDesc 64 0x0C 0 7 1 1, sampleDesc 0 0x0C 0 7 1 1, 0#512, 0#64, false, 0, 0#16⟩

theorem witness_EngineEvents : (∀ n, (sampleQueue (.chain sampleChain) id).unitStalled 3 n = false) ∧
    (let s := sampleQueue (.chain sampleChain) id;
      (s.arr 3).runs = true ∧ (s.arr 3).vq = sampleEntry (.chain sampleChain) :: [] ∧ (s.arr 3).vec.running = none ∧ (s.arr 3).vec.reruns = [] ∧
        s.stopping 3 = false ∧ sampleChain.record ≠ [] ∧ chainIllegal sampleChain.record = none ∧ sampleChain.formatFault = none ∧
        sampleChain.shapeFault = none ∧ sampleChain.fromDrain = false ∧
        s.firstStall (s.vecAcc 3 0 .read) (s.chainReads (s.vecAcc 3 0 .read) sampleChain) = none ∧
        s.firstStall (s.vecAcc 3 0 .write) (s.chainWrites (s.vecAcc 3 0 .read) sampleChain) = none ∧ s.chainBlocked 3 0 sampleChain = false) ∧
    (chainIllegal (bytesOf 64 0) = some 0xFF ∧ bytesOf 64 0 ≠ []) ∧
    (let op := { sampleChain with descs := [sampleDesc 0 0x0E 0 7 1 1] };
      chainIllegal op.record = none ∧ op.formatFault.isSome = true) ∧
    (let op := { sampleChain with descs := [sampleDesc 0 0x0C 0 7 1 1, 0#512, sampleDesc 0 0x0C 0 7 2 1] };
      chainIllegal op.record = none ∧ op.formatFault = none ∧ op.shapeFault.isSome = true) ∧
    (let op := chainWith 1;
      let e := sampleEntry (.chain op);
      let f (d : DrainSet) : State := sampleQueue (.chain op) (fun a => { a with tiles := [tileOf 1 1 { samplePass with drain := d }, Tile.free, Tile.free] });
      chainIllegal op.record = none ∧ op.formatFault = none ∧ op.shapeFault = none ∧ op.fromDrain = true ∧
        ((f sampleDrain).arr 3).tiles.find? (fun t => t.state != 0 && t.state != 5 && ((f sampleDrain).arr 3).attachesTo e t) = none ∧
        (∀ fmt ∈ [Fmt.fp32, .bf16], let s := f { sampleDrain with chain := true, fmt := fmt };
          let t := tileOf 1 1 { samplePass with drain := { sampleDrain with chain := true, fmt := fmt } };
          (s.arr 3).tiles.find? (fun t => t.state != 0 && t.state != 5 && (s.arr 3).attachesTo e t) = some t ∧ drainFits op t = (fmt == .bf16))) ∧
    (let r := sampleRun (.chain sampleChain);
      let s := sampleArr (fun a => { a with vec := { a.vec with running := some r } });
      (s.arr 3).vec.running = some r ∧ (s.arr 3).vec.frozen = false ∧ r.sent = false ∧ (s.arr 3).attachedReady r = true ∧
        (s.arr 3).feedReady r sampleChain = true ∧
        s.firstStall (s.vecAcc 3 0 .read) (s.chainReads (s.vecAcc 3 0 .read) sampleChain) = none ∧
        s.firstStall (s.vecAcc 3 0 .write) (s.chainWrites (s.vecAcc 3 0 .read) sampleChain) = none) ∧
    (let r := { sampleRun (.chain sampleChain) with sent := true };
      let s := sampleArr (fun a => { a with vec := { a.vec with running := some r } });
      r.sent = true ∧ s.windowsOf 3 r.entry.seq = []) ∧
    ((sampleArr (fun a => { a with vec := { a.vec with running := some (sampleRun (.chain sampleChain)), frozen := true } })).arr 3).vec.frozen = true ∧
    (let r := sampleRun (.chain sampleChain);
      let s := sampleArr (fun a => { a with vec := { a.vec with reruns := [r] } });
      (s.arr 3).vec.reruns = r :: [] ∧ (s.arr 3).vec.running = none ∧ (s.arr 3).vec.frozen = false ∧ s.stopping 3 = false ∧
        (s.arr 3).attachedReady r = true ∧ (s.arr 3).depsDone { Tile.free with deps := r.after } = true ∧ sampleChain.dst ≠ 1) ∧
    (let op := chainWith 16;
      let r := sampleRun (.chain op);
      let s := { sampleArr (fun a => { a with vec := { a.vec with reruns := [r] } }) with
        memst := { (sampleArr id).memst with check := [(0, .poisoned)] } };
      let acc := s.vecAcc 3 0 .read;
      let u := (s.readRanges (some 0) (s.physRanges acc (s.chainReads acc op))).modArr 3 (fun a => { a with vec := { a.vec with reruns := [] } });
      op.dst = 1 ∧ (u.chainAcc 3 { r with upset := [] } op op.rowCount).prog.firstBad.isSome = true) ∧
    (let s := sampleQueue (.dma sampleCopy) id;
      (s.arr 3).dq = sampleEntry (.dma sampleCopy) :: [] ∧ (s.arr 3).dmas.length < 8 ∧ s.stopping 3 = false ∧ sampleCopy.startFault = none ∧
        s.firstFault (s.unitAcc 3 0 .read) sampleCopy.reads = none ∧ s.firstFault (s.unitAcc 3 0 .write) (descOf sampleCopy.dD).dmaRanges = none ∧
        s.dmaWaits 3 0 sampleCopy = false ∧ ∀ r ∈ s.physRanges (s.unitAcc 3 0 .read) sampleCopy.reads, s.place r.1 = .hbm) ∧
    (let o := { sampleCopy with dS := sampleDesc 0x800000000000 0x0C 0 7 1 1 };
      let s := sampleQueue (.dma o) (fun a => { a with tiles := [{ sampleStreaming with dest := [⟨0x800000000000, 2⟩] }, Tile.free, Tile.free] });
      o.startFault = none ∧ s.firstFault (s.unitAcc 3 0 .read) o.reads = none ∧ s.dmaWaits 3 0 o = true) ∧
    { sampleCopy with dS := sampleDesc 0 0x0D 0 7 1 1 }.startFault = some 3 ∧
    (∀ sent ∈ [[], [0]], let s := sampleArr (fun a => { a with dmas := [sampleEntry (.dma sampleCopy)], dmaSent := sent });
      (s.arr 3).dmas[0]? = some (sampleEntry (.dma sampleCopy)) ∧ s.windowsOf 3 0 = [] ∧ (s.arr 3).dmaSent.contains 0 = !sent.isEmpty) :=
  ⟨fun _ => rfl, by decide +kernel, by decide +kernel, by decide +kernel, by decide +kernel, by decide +kernel, by decide +kernel, by decide +kernel, by decide +kernel, by decide +kernel, by decide +kernel, by decide +kernel, by decide +kernel, by decide +kernel, by decide +kernel⟩

theorem witness_WaitingUnitEvents :
    (let s := sampleArr (fun a => { a with run := { a.run with running := true } });
      (s.arr 3).runs = true ∧ (s.arr 3).run.running = true ∧ (s.arr 3).run.frozen = false ∧ s.runDrained 0 = true ∧
        s.flag (rChkCtxCtl (s.arr 3).run.ctx) 4 = false ∧ (s.coresOf 0).any (fun c => !c.2.rx.isEmpty || !c.2.heldNote.isEmpty) = false) ∧
    (let s := { sampleArr (fun a => { a with run := { a.run with running := true } }) with
        cores := [(0x205, { CoreState.reset with status := 1 })]
        parts := [(0, { PartState.reset with outgoing := some 0, saving := [3] })] };
      s.partAt 3 = some 0 ∧ (s.arr 3).run.running = true ∧ (s.part 0).saving.contains 3 = true ∧ s.runDrained 0 = false) ∧
    (let s := sampleArr (fun a => { a with ctrl := { a.ctrl with blocked := .loadData 8 8 31 false } });
      (s.arr 3).ctrl.blocked = .loadData 8 8 31 false ∧ (s.arr 3).ctrl.state = 1 ∧ 8 % 8 = 0 ∧ readGives (s.fetchWord 3 0) = true ∧
        readGives (s.ctrlRead 3 8 8) = true) ∧
    (let s := { sampleArr (fun a => { a with ctrl := { a.ctrl with blocked := .loadData 0x900000000000 8 31 false } }) with
        memst := { (sampleArr id).memst with tlb := [(18, [⟨.leaf, 0, 0, 0x900000000000, 0x40000000, 0x90000000001D⟩, ⟨.aperture, 0, 0, 0, 1, 2 ^ 42⟩])] } };
      (s.arr 3).ctrl.blocked = .loadData 0x900000000000 8 31 false ∧ s.ctrlRead 3 0x900000000000 8 = .wait ∧
        s.access (s.ctrlAcc 3 0 .read) 0x900000000000 = .ok 0x900000000000 ∧ s.place 0x900000000000 = .aperture 0 0 ∧
        s.badIn 0x900000000000 8 = false) ∧
    (let s := sampleArr (fun a => { a with ctrl := { a.ctrl with blocked := .record 64 } });
      (s.arr 3).runs = true ∧ (s.arr 3).ctrl.blocked = .record 64 ∧ (s.arr 3).ctrl.state = 1) ∧
    (let s := sampleArr id; s.ctrlIssues 3 = true ∧ readGives (s.fetchLine 3 0) = true) ∧
    (let u := (sampleArr (fun a => { a with ctrl := { a.ctrl with blocked := .untilTime 1#64 } })).clock 1#64;
      (u.arr 3).ctrl.blocked = .untilTime 1#64 ∧ (u.arr 3).ctrl.state = 1 ∧ (u.arr 3).runs = true ∧ (u.localTime 3 - 1#64).toNat < 2 ^ 63) ∧
    (∀ op ∈ [QOp.coreRun 0#32, .pass samplePass], let e := { sampleEntry op with launch := some 1#64 };
      let s := sampleArr (fun a => { a with aq := [e], qtzLocked := true });
      let u := s.clock 1#64;
      (u.arr 3).head 0 = some e ∧ e.launch = some 1#64 ∧ (u.arr 3).halted = false ∧ (u.arr 3).gated = false ∧ (u.arr 3).ctrl.gangNow.log2 = 0 ∧
        samplePass.gang.log2 = 0 ∧ (u.arr 3).brake = false ∧ (u.arr 3).qtzLocked = true ∧ (u.localTime 3 - 1#64).toNat < 2 ^ 63 ∧
        2 ^ 63 ≤ ((s.clock 0#64).localTime 3 - 1#64).toNat) ∧
    (∀ n ∈ [0, 1], let e := { sampleEntry (.coreRun 0#32) with launch := some 1#64 };
      let u := (sampleArr (fun a => { a with aq := [e], qtzLocked := n == 1, brake := n == 0 })).clock 1#64;
      (u.arr 3).brake = (n == 0) ∧ (u.arr 3).qtzLocked = (n == 1)) ∧
    (let g : GangSet := ⟨1, 3, 64, 0#512⟩;
      let e := { sampleEntry (.coreRun 0#32) with launch := some 1#64 };
      let f (p : Nat) : ArrayState := { ArrayState.reset with aq := [e], qtzLocked := true, ctrl := { Ctrl.reset with gangNow := if p = 5 then GangSet.start else g, gang := g } };
      let s := { sampleGang 0 with arrays := (List.range 8).map (fun p => (p, f p)) };
      let u := s.clock 1#64;
      (u.arr 2).ctrl.gangNow.log2 ≠ 0 ∧ u.gangAgrees 2 g = true ∧ u.gangAgrees 4 g = false ∧
        (u.localTime 2 - (1#64 + BitVec.ofNat 64 (u.gangRank 2 g * g.stagger * 64))).toNat < 2 ^ 63) := by decide +kernel

/-- A read or a write of 64 bytes of window 0 of logical array 0 from this device. -/
def sampleAcc (w : Bool) : WinAcc :=
  { p := 3, seq := 1, ctx := 0, node := 0, array := 0, window := 0, gen := 0, off := 0, write := w, data := List.replicate 64 0x5A#8, poison := 0
    size := 64, pa := 0, admitted := false, va := 0, src := none, tag := 0, seqno := 0, ctxGen := 0 }

/-- The window it names, open to context 0 for reads and writes. -/
def sampleWindow (open_ : Bool) : Window := { Window.shut with isOpen := open_, record := bytesOf 64 (64 * 2 ^ 64 + 2 ^ 158 + 2 ^ 384) }

theorem witness_WindowArrivals : ∀ b : Bool, ∀ w : Bool, let s := { sampleArr (fun a => { a with wins := [(0, sampleWindow b)] }) with
      memst := { (sampleArr id).memst with winq := [sampleAcc w] } };
    s.memst.winq[0]? = some (sampleAcc w) ∧ s.isRemote (sampleAcc w) = false ∧ s.gateHeld (sampleAcc w) = false ∧ s.winHeld (sampleAcc w) = false ∧
      s.winBehind (s.memst.winq.take 0) (sampleAcc w) = false ∧ s.physOf 0 = some 3 ∧ (sampleAcc w).admitted = false ∧ (sampleAcc w).src = none ∧
      winCheck (s.window 3 0) (sampleAcc w) = (if b then none else some 1) ∧ (sampleAcc w).poison = 0 ∧
      (let acc : Accessor := ⟨0, some 0, if w then .write else .read, 3⟩;
        s.firstFault acc [(0, 64)] = none ∧ s.physRanges acc [(0, 64)] ≠ [] ∧
          (s.physRanges acc [(0, 64)]).any (fun r => s.uncommittedHit r.1 r.2) = false ∧
          ∀ r ∈ s.physRanges acc [(0, 64)], s.heldHit r.1 r.2 = false) := by decide +kernel

/-- A replay of a tile, which the given partner holds. -/
def sampleReplay (partner : Option Nat) (streaming failed : Bool) : Replay :=
  ⟨false, false, failed, partner, streaming, false, 0, false, none, false, 0, false⟩

/-- A held tile of no pass with that replay, its own hash and the given difference from it. -/
def sampleReplayed (r : Replay) (diff : Nat) : Tile :=
  let t := { Tile.free with state := 4, replay := some r }
  { t with hash := tileHash (replayTile t []).accs (replayTile t []).rows (replayTile t []).ownFlags + diff }

theorem witness_ReplayEvents :
    (let r := sampleReplay (some 4) false false;
      let t := { Tile.free with state := 4, replay := some r };
      let s := { sampleArr (fun a => { a with tiles := [t, Tile.free, Tile.free] }) with regs := (sampleArr id).regs };
      (s.arr 3).tile 0 = t ∧ t.replay = some r ∧ r.done = false ∧ r.streaming = false ∧ r.thirdStreaming = false ∧
        s.firstBad (t.held.map (fun h => (h.addr, h.len))) = none ∧ s.sourceSame 3 t = true ∧ s.partnerReady 4 = true ∧
        (∀ x ∈ [s.partnerFor 3 t r.resolving r.partner [], s.partnerFor 3 t true none r.partner.toList], x.isSome = true)) ∧
    ((sampleArr (fun a => { a with run := { a.run with running := true } })).partnerReady 3 = false) ∧
    (∀ d ∈ [0, 1], let r := sampleReplay (some 4) true false;
      let t := sampleReplayed r d;
      r.streaming = true ∧ r.thirdStreaming = false ∧ r.origFailed = false ∧ ((sampleArr id).arr 3).chainsRun t = false ∧
        (sampleArr id).firstBad (t.held.map (fun h => (h.addr, h.len))) = none ∧
        firstFail (replayTile t []).flags.inexact (addResidues (tileDeltas (replayTile t [])) []) = none ∧
        (tileHash (replayTile t []).accs (replayTile t []).rows (replayTile t []).ownFlags = t.hash ↔ d = 0)) ∧
    (∀ d ∈ [0, 1], let r := sampleReplay (some 4) true true;
      let t := sampleReplayed r d;
      r.origFailed = true ∧ r.injected = false ∧
        firstFail (replayTile t []).flags.inexact (addResidues (tileDeltas (replayTile t [])) []) = none ∧
        (tileHash (replayTile t []).accs (replayTile t []).rows (replayTile t []).ownFlags = t.hash ↔ d = 0)) ∧
    (∀ d ∈ [0, 1, 2], let t := sampleReplayed (sampleReplay none false false) (if d = 0 then 0 else 1);
      let h := tileHash (replayTile t []).accs (replayTile t []).rows (replayTile t []).ownFlags;
      let r := { sampleReplay (some 4) false false with done := true, third := some 5, thirdStreaming := true, hash := if d = 1 then h else h + 2 };
      r.thirdStreaming = true ∧ r.chains = false ∧ r.third = some 5 ∧ firstFail (replayTile t []).flags.inexact (addResidues (tileDeltas t) []) = none ∧
        (h = t.hash ↔ d = 0) ∧ (h = r.hash ↔ d = 1)) ∧
    ((sampleReplay none false false).done = false ∧ (sampleReplay none false false).partner = none) ∧
    (sample.freeSpare 17 = true ∧ sample.isPartner 17 = false) := by decide +kernel

/-- A packet from the router of site 0 to that of array 0. -/
def sampleHead : PacketHead := ⟨18, 0, false, 0, 0, 0⟩

/-- The sample device with field 0 and site 0 powered and the link of site 0 in a state. -/
def sampleTrunk (x : TrunkLink) : State :=
  { sample with
    regs := tblPut (tblPut (tblPut sample.regs (rPwrDom 324) 0x40000000#32) rGlbSiteA 0x4#32) rMmuHbmCap 0x40000000#32
    memst := { sample.memst with links := [(54, x)] } }

theorem crcBit_lt (c : Nat) (h : c < 2 ^ 32) : crcBit c < 2 ^ 32 := by
  have h2 : c / 2 < 2 ^ 32 := by omega
  unfold crcBit
  split
  · exact Nat.xor_lt_two_pow h2 (by decide)
  · exact h2

theorem crcByte_lt (c : Nat) (b : Byte) (h : c < 2 ^ 32) : crcByte c b < 2 ^ 32 := by
  have x : c ^^^ b.toNat < 2 ^ 32 := Nat.xor_lt_two_pow h (Nat.lt_trans b.isLt (by decide))
  exact crcBit_lt _ (crcBit_lt _ (crcBit_lt _ (crcBit_lt _ (crcBit_lt _ (crcBit_lt _ (crcBit_lt _ (crcBit_lt _ x)))))))

/-- R250: a check of a packet is one word. -/
theorem crc32c_lt (bs : List Byte) : crc32c bs < 2 ^ 32 := by
  have h : ∀ (l : List Byte) (c : Nat), c < 2 ^ 32 → l.foldl crcByte c < 2 ^ 32 := by
    intro l
    induction l with
    | nil => exact fun c h => h
    | cons b l ih => exact fun c h => ih _ (crcByte_lt c b h)
  exact Nat.xor_lt_two_pow (h bs _ (by decide)) (by decide)

/-- The two clauses of MemoryEvents about a packet's check: some word is it, and some word is not. -/
theorem witness_MemoryEvents_check (k : TrunkPacket) :
    (∃ crc : Word, crc.toNat = crc32c (trunkBytes k)) ∧ ∃ crc : Word, crc.toNat ≠ crc32c (trunkBytes k) := by
  have h := crc32c_lt (trunkBytes k)
  refine ⟨⟨BitVec.ofNat 32 (crc32c (trunkBytes k)), by simp; omega⟩, if crc32c (trunkBytes k) = 0 then 1#32 else 0#32, ?_⟩
  split
  · rename_i e; rw [e]; decide
  · rename_i e; exact fun x => e x.symm

/-- The route, the hop and the link of MemoryEvents' packet; the link of a site has no hash. -/
theorem witness_MemoryEvents_hop (k : TrunkPacket) : (∀ x ∈ [(⟨0, false⟩ : TrunkLink), ⟨7, false⟩, ⟨8, false⟩],
    (sampleTrunk x).routerOn 0 = true ∧ (sampleTrunk x).trunkRoute 18 0 = some [18, 0] ∧ hopBefore 0 [18, 0] = some 18 ∧
      ((sampleTrunk x).trunkLink 54).failed = false ∧ (x.attempts < 8 ∨ 8 ≤ x.attempts)) ∧ ∀ s : State, s.hopLink k 18 0 = 54 :=
  ⟨by decide +kernel, fun _ => rfl⟩

theorem witness_MemoryEvents :
    (let s := { sample with memst := { sample.memst with hbm := [(895, { HbmPc.reset with repairing := true })] } };
      (tblGet HbmPc.reset s.memst.hbm (64 * 13 + 63)).repairing = true) ∧
    (State.reset.routerOn 0 = false ∧
      (let s := { sampleTrunk ⟨0, false⟩ with memst := { sample.memst with links := (List.range 54).map (fun k => (k, ⟨0, true⟩)) } };
        s.routerOn 0 = true ∧ s.trunkRoute 0 1 = none ∧ meshRouter 0 = 0)) ∧
    (∀ n ∈ [0, 1], let s := { sampleTrunk ⟨0, false⟩ with
        memst := { (sampleTrunk ⟨1, false⟩).memst with corrLimit := if n = 0 then [] else [(2 * srcOf 4 0, 1)] } };
      (s.rateLimit (srcOf 4 0)).1 = if n = 0 then some 1 else none) ∧
    (let s := sampleArr id; s.inMedium 2 0 = true ∧ s.checkAt 0 = .clean ∧ 0 % 8 = 0 ∧ ∀ w ∈ s.memst.check.map (fun c => c.1 * 8), s.inMedium 2 w = false) ∧
    (let s := { sampleArr id with memst := { (sampleArr id).memst with check := [(5, .uncorrectable 3)] } };
      s.memst.check = [(5, .uncorrectable 3)] ∧ s.siteOff (8 * 5) = false ∧ s.inMedium 2 (8 * 5) = true) ∧
    (let r : InvReq := ⟨true, true, 0, 0, 0⟩;
      let s := { sample with memst := { sample.memst with inv := some r } }; s.memst.inv = some r ∧ s.invDone r = true) ∧
    (let s := { sampleArr id with
        mem := [(0x1000, 0x03#8), (0x1001, 0x20#8), (0x2000, 0x1D#8)]
        memst := sample.memst
        regs := tblPut (sampleArr id).regs (rMmuRoot 0) 0x1001#32 };
      s.rootOf 0 = some 0x1000 ∧ s.walk ⟨0, s.logOf 3, .read, 3⟩ 0x1234 0x1000 3 = .ok 0x1234 ∧
        (s.walkPath 0x1234 0x1000 3).getLast? = some (2, 0x2000, 0x1D) ∧ Nat.testBit 0x1D 0 = true ∧ Nat.testBit 0x1D 1 = false ∧
        pteMalformed 2 0x1D = false) ∧
    (let r : HostReq := ⟨1, 0, 0xE00000005000, [1, 0, 0x5000], false, false⟩;
      ∀ l ∈ [[], [r]], let x := (sample.setHport 0 { sample.hport 0 with atsOut := [(1, 5)], atsWait := l }).hport 0;
        x.atsOut.contains (1, 5) = true ∧ x.atsWait.filter (fun r => !r.refused && r.fn == 1 && r.page == 5) = l) := by
  decide +kernel

/-- A signal of +1 to counter 3 of core 0x205, and to counter 63 of the controller of logical array 0. -/
def sampleSignal (ctl : Bool) (ctx : Nat) : Signal := ⟨if ctl then 0x7F000000#32 else 0x03000205#32, 1, 0, ctx, 0⟩

theorem witness_SignalAndFlintEvents :
    (let s := { sample with signals := [sampleSignal false 0] };
      s.signals[0]? = some (sampleSignal false 0) ∧ sigTarget (sampleSignal false 0).target = .core 0x205 3 ∧ s.physOf 0 = some 3 ∧
        s.signalFirst 0 (sampleSignal false 0) = true ∧ s.residentAt 3 = some 0 ∧ s.signalHeld 3 = false) ∧
    (let s := { sample with signals := [sampleSignal true 0], brp := { sample.brp with remaps := [⟨0, 3, 17, 1⟩] } };
      s.signals[0]? = some (sampleSignal true 0) ∧ s.physOf (sigTarget (sampleSignal true 0).target).array = some 3 ∧ s.signalHeld 3 = true) ∧
    (sigTarget (sampleSignal true 0).target = .ctrl 0 63 ∧ { sample with signals := [sampleSignal true 0] }.signalFirst 0 (sampleSignal true 0) = true) ∧
    (let s := { sample with signals := [sampleSignal true 5] };
      s.signalHeld 3 = false ∧ s.residentAt 3 ≠ some 5 ∧ s.savedCtr 5 (2 ^ 20 + 0) 63 = 0#16 ∧ (0 : Int) ≤ ((0#16).toNat : Int) + 1 ∧ ((0#16).toNat : Int) + 1 < 2 ^ 15) ∧
    (let r : FlintReq := ⟨0x3FFFF, 15, 0#64, none, 0, 0, 0, 0⟩;
      let s := { sample with flint := ⟨[r], 0⟩ }; s.flint.reqs = [r] ∧ s.flint.gated = 0 ∧ r.mask < 2 ^ 18) ∧
    (let r : FlintReq := ⟨0x3FFFF, 15, 0#64, none, 0, 0, 0, 0⟩;
      let s := { sample with flint := ⟨[r], 0x3FFFF⟩ };
      s.flint.gated = r.mask ∧ r.cause = 15 ∧ ∀ p < 18, r.mask.testBit p = true → (s.arr p).brake = false) := by decide +kernel

/-- A device of node 5 whose time registers hold given values. -/
def sampleTime (ctl st fab : Word) (links : Tbl LinkTime) : State :=
  { sample with
    regs := tblPut (tblPut (tblPut (tblPut sample.regs rQtzCtl ctl) rQtzStatus st) rQtzFabCtl fab) rFabNode 0x80000005#32
    time := { sample.time with links := links } }

theorem witness_TimeEvents :
    (let s := { sample with time := { sample.time with islands := [(18, ⟨0, true, 0, 0⟩)] } };
      (s.island 18).locked = true ∧ (750 : Int).natAbs ≤ 750) ∧
    (let u := (sampleTime 0#32 0#32 0#32 []).clock 1#64;
      (u.refSample 0 (2000)).flag rQtzCtl 6 = false ∧ (u.refSample 0 2000).refSel = 0 ∧ ((u.refSample 0 2000).refclk 0).within 35 = false) ∧
    (sample.refclk 1).disq = false ∧ (sample.clock 1#64).nodeKnown = false ∧
    (let u := (sampleTime 0#32 0#32 0x10000#32 []).clock 1#64; u.nodeKnown = true ∧ u.timeRole = 1) ∧
    (let u := (sampleTime 0#32 0x20000000#32 0x20000#32 []).clock 1#64; u.nodeKnown = true ∧ u.timeRole = 2 ∧ u.fld rQtzStatus 29 28 = 2) ∧
    (let u := (sampleTime 0#32 0#32 0x20000#32 []).clock 1#64; u.timeRole = 2 ∧ u.fld rQtzStatus 29 28 ≠ 2) ∧
    ((sampleTime 0#32 0#32 0#32 []).clock 1#64).timeRole = 0 ∧
    (let s := { sample with regs := tblPut (tblPut sample.regs (rFabPortStatus 31) 0x30000000#32) rFabNode 0x80000005#32 };
      ((s.clock 1#64).clock 2#64).nodeKnown = true ∧ leAt (delayFrame 0x11 0 0 0 0) 0 1 = 0x11 ∧ ((s.clock 1#64).clock 2#64).linkUp 31 = true) ∧
    (let u := (sampleTime 0#32 0#32 0#32 [(31, { LinkTime.reset with asked := some (5, 100) })]).clock 1#64;
      u.nodeKnown = true ∧ (u.linkTime 31).asked = some (5, 100) ∧ leAt (delayFrame 0x12 5 0 0 0) 0 1 = 0x12 ∧ leAt (delayFrame 0x12 5 0 0 0) 3 1 = 5 % 256) ∧
    (let u := (sampleTime 0#32 0#32 0x20000#32 [(31, { LinkTime.reset with delay := some 0 })]).clock 1#64;
      u.nodeKnown = true ∧ u.timeRole = 2 ∧ leAt (bytesOf 64 0x10) 0 1 = 0x10 ∧ leAt (bytesOf 64 0x10) 4 2 = u.fld rQtzFabCtl 15 0 ∧ (u.linkTime 31).delay = some 0) ∧
    (let u := (sampleTime 0#32 0x20000000#32 0x20000#32 []).clock 67108864#64;
      u.timeRole = 2 ∧ u.fld rQtzStatus 29 28 ≠ 0 ∧ u.time.lastFrame + 8 * 8388608 ≤ u.now.toNat) ∧
    (∀ f ∈ [0, 255], let s := sampleArr (fun a => { a with freqCode := f, stretch := if f = 0 then 0#16 else 0x8000#16 });
      (s.arr 3).freqCode = f ∧ (f ≠ 0 → (s.arr 3).stretch ≠ 0#16)) := by decide +kernel

/-- The two clauses of TimeEvents about a time frame's port: another port is upstream, or this one is. -/
theorem witness_TimeEvents_upstream :
    ∀ other : Bool, let s := { sample with
        regs := tblPut (tblPut sample.regs (rFabPortStatus 30) 0x30000000#32) (rFabPortStatus 31) 0x30000000#32
        time := { sample.time with links := [(30, { LinkTime.reset with frame := if other then some (1, 0, false) else none }),
          (31, { LinkTime.reset with delay := some 0 })] } };
      let u := s.clock 1#64;
      let v := u.setLinkTime 31 { u.linkTime 31 with frame := some (Nat.min 255 (1 + 1), 0, false) };
      v.upstream = some (if other then (30, 1) else (31, 2)) := by decide +kernel

/-! A witness for each statement about registers. -/

/-- The sample device owned by physical function 0, with its power ceiling set. -/
def owned : State := { sample with regs := tblPut (tblPut sample.regs rMgtOwner 0xC0000000#32) rPwrTdp 12000#32 }

/-- The same device with what context 511's binding and a new partition need. -/
def unowned : State := { sample with regs := tblPut sample.regs rMgtOwner 0#32 }

/-- Whether a write is taken whole, as a value. -/
def takes (s : State) (req : Requester) (off v : Nat) (e : RegEffect) : Bool :=
  s.takesWrite req off && !(s.written req off v).ownerDrop && !(s.written req off v).lockDrop &&
    !((s.written req off v).acted == 0 && (s.written req off v).value == (s.reg off).toNat && v != (s.reg off).toNat) &&
    e.veto s req (s.written req off v).value (s.written req off v).acted == none && (e.keep s (s.written req off v).value).2 == none

theorem takes_accepts (s : State) (req : Requester) (off v : Nat) (e : RegEffect) : takes s req off v e = true ↔ s.accepts req off v e := by
  simp [takes, State.accepts, and_assoc]
  tauto

theorem witness_RegisterFieldRules : ∀ ty ∈ [Access.rw, .rwl, .w1c, .w1s, .ro, .rc, .wo], ∀ plat : Bool,
    let f : FieldSpec := ⟨31, 31, ty, 0, plat⟩;
    f.lo ≤ f.hi ∧ f.hi < 32 ∧ f.ty = ty := by decide

theorem witness_RegisterAccesses :
    ((findReg rQtzCtl).map (·.half) = some .single ∧ rQtzCtl ≠ rMgtClaimNode ∧ takes owned (.pf 0) rQtzCtl 0 (effectAt rQtzCtl) = true) ∧
    (owned.reaches (.pf 0) rQtzCtl = true ∧ owned.fld rBrpStatus 27 25 ≠ 3 ∧ rQtzCtl ≠ rBrpDbgData ∧ drawsFree rQtzCtl = false) ∧
    ((findReg (rMmuRoot 511)).map (·.half) = some .low ∧ (findReg (rMmuRoot 511 + 4)).map (·.half) = some .high ∧
      owned.reaches (.pf 0) (rMmuRoot 511) = true ∧ owned.reaches (.pf 0) (rMmuRoot 511 + 4) = true ∧ drawsFree (rMmuRoot 0) = false ∧
      halfAt (rMmuRoot 511) = some .low ∧ owned.takesWrite (.pf 0) (rMmuRoot 511) = true) ∧
    (rMmuRoot 511 ≠ rMgtClaimId ∧ tblFind { owned with wrLatch := [(latchKey (.pf 0) (rMmuRoot 511), 7#32)] }.wrLatch (latchKey (.pf 0) (rMmuRoot 511)) =
      some 7#32 ∧ tblFind owned.wrLatch (latchKey (.pf 0) (rMmuRoot 511)) = none ∧ tblFind owned.rdLatch (latchKey (.pf 0) (rMmuRoot 511)) = none) ∧
    (owned.liveFor (.pf 0) (rMmuRoot 511 + 4) < 2 ^ 32 ∧ (owned.read32 (.pf 0) (rMmuRoot 511)).1.reaches (.pf 0) (rMmuRoot 511 + 4) = true ∧
      (owned.read32 (.pf 0) (rMmuRoot 511)).1.fld rBrpStatus 27 25 ≠ 3) ∧
    owned.takesWrite .mgmtA 0x4000000 = false ∧
    (unowned.takesWrite (.pf 0) rMmuFaultResume = true ∧
      resumeReg.veto unowned (.pf 0) (unowned.written (.pf 0) rMmuFaultResume 0).value (unowned.written (.pf 0) rMmuFaultResume 0).acted = some 2) := by
  decide +kernel

/-- A device that physical function 0 owns and that has no partition. -/
def bare : State := { State.reset with regs := tblPut [] rMgtOwner 0xC0000000#32 }

theorem witness_RegisterCommands :
    (takes owned (.pf 0) rMmuInv 0x80000000 mmuInvReg = true ∧ takes owned (.pf 0) rQtzFlintInject 0x40020000 flintInject = true ∧
      takes owned (.pf 0) rQtzCtl 0 quartzCtl = true ∧ takes owned (.pf 0) rPwrCapGrant 3000 capGrantReg = true ∧ takes owned (.pf 0) rPwrRack 12000 rackReg = true ∧
      takes owned (.pf 0) rFabNode 5 fabNodeReg = true ∧ takes owned (.pf 0) rChkRdeCtl 1 rdeReg = true ∧ takes owned (.pf 0) rChkPyrCtl 0x80000000 pyrCtl = true) ∧
    (takes owned (.pf 0) rBrpReset 1 (brpReset true true) = true ∧ takes owned (.pf 0) rBrpRepCmd 0x80000001 repCmd = true ∧
      takes owned (.pf 0) rMgtClaimCtl 0x80000100 claimCtl = true ∧ takes owned (.pf 0) rMgtFwCtl 1 fwCtl = true ∧ takes owned (.pf 0) rBrpReset 2 (brpReset false true) = true ∧
      takes bare (.pf 0) rChkKakCtl 0x80000001 (kakCtl true) = true ∧ takes owned (.pf 0) (rPwrVmin 333) 0x80000000 (vminReg 333) = true ∧
      takes owned (.pf 0) (rFabPortCtl 31) 1 (fabPortCtl 31) = true) ∧
    (takes owned (.pf 0) rMmuFaultResume (2 ^ 31 + 511) resumeReg = true ∧ (owned.written (.pf 0) rMmuFaultResume (2 ^ 31 + 511)).acted = 2 ^ 31 + 511 ∧
      takes owned (.pf 0) rMmuFaultResume 511 resumeReg = true ∧ (owned.written (.pf 0) rMmuFaultResume 511).acted = 511) := by
  decide +kernel

/-- The owned device with HBM and a second logical array; context 511 enabled or not. -/
def bound (on : Bool) : State :=
  { owned with regs := tblPut (tblPut (tblPut owned.regs rMmuHbmCap 0x40000000#32) (rBrpMap 1) 0x80000004#32) (rDspCtxCtl 511) (if on then 0x40000003#32 else 0#32) }

theorem witness_ContextRegisters :
    (let s := bound false; let v := 0x43C00000;
      takes s (.pf 0) (rDspCtxCtl 511) v (ctxCtl 511) = true ∧ (s.written (.pf 0) (rDspCtxCtl 511) v).acted.testBit 31 = false ∧
        (s.holding (.pf 0) (rDspCtxCtl 511) v (ctxCtl 511)).flag (rDspCtxCtl 511) 30 = true ∧ s.flag (rDspCtxCtl 511) 30 = false ∧
        (s.holding (.pf 0) (rDspCtxCtl 511) v (ctxCtl 511)).bindCheck 511 = some 1) ∧
    (let s := bound false; let v := 0x40000000;
      takes s (.pf 0) (rDspCtxCtl 511) v (ctxCtl 511) = true ∧ (s.holding (.pf 0) (rDspCtxCtl 511) v (ctxCtl 511)).bindCheck 511 = none ∧
        (s.holding (.pf 0) (rDspCtxCtl 511) v (ctxCtl 511)).ctxState 511 = 0) ∧
    (let s := bound true; let v := 0;
      takes s (.pf 0) (rDspCtxCtl 511) v (ctxCtl 511) = true ∧ (s.written (.pf 0) (rDspCtxCtl 511) v).acted.testBit 31 = false ∧
        (s.holding (.pf 0) (rDspCtxCtl 511) v (ctxCtl 511)).flag (rDspCtxCtl 511) 30 = false ∧ s.flag (rDspCtxCtl 511) 30 = true) ∧
    (let s := bound true; let v := 0xC0000000;
      takes s (.pf 0) (rDspCtxCtl 511) v (ctxCtl 511) = true ∧ (s.written (.pf 0) (rDspCtxCtl 511) v).acted.testBit 31 = true ∧
        (s.holding (.pf 0) (rDspCtxCtl 511) v (ctxCtl 511)).flag (rDspCtxCtl 511) 30 = s.flag (rDspCtxCtl 511) 30) ∧
    ((bound true).ctxState 511 ≠ 6 ∧ takes (bound true) (.pf 0) (rCpCtl 511) 1 (cpCtl 511) = true ∧
      ((bound true).written (.pf 0) (rCpCtl 511) 1).acted.testBit 0 = true) ∧
    (∀ v ∈ [64, 65], let s := bound true; let d := s.holding (.pf 0) (rCpDoorbell 511) v (doorbellReg 511);
      takes s (.pf 0) (rCpDoorbell 511) v (doorbellReg 511) = true ∧ d.ctxState 511 ≠ 0 ∧ d.ctxState 511 ≠ 6 ∧
        (s.written (.pf 0) (rCpDoorbell 511) v).acted = v ∧ (v ≤ 64 → cnt32 v (d.headIdx 511) ≤ d.ringEntries 511 ∧ cnt32 v (d.fetchIdx 511) < 2 ^ 31) ∧
        (64 < v → d.ringEntries 511 < cnt32 v (d.headIdx 511))) ∧
    (∀ v ∈ [64, 65], let s := { bound true with regs := tblPut (bound true).regs (rDspCtxCtl 511) 0x40000006#32 };
      let d := s.holding (.pf 0) (rCpDoorbell 511) v (doorbellReg 511);
      takes s (.pf 0) (rCpDoorbell 511) v (doorbellReg 511) = true ∧ s.flag (rDspCtxCtl 511) 30 = true ∧ d.ctxState 511 = 6 ∧
        (s.written (.pf 0) (rCpDoorbell 511) v).acted = v ∧ (64 < v → d.ringEntries 511 < v) ∧ (v ≤ 64 → v ≤ d.ringEntries 511)) ∧
    (takes (bound true) (.pf 0) (ringRd 511) 0 (evtRdReg 511) = true ∧ takes (bound true) (.pf 0) (ringRd devRing) 0 (evtRdReg devRing) = true) ∧
    (let s := bound true; let p := s.holding (.pf 0) (rDspPartCtl 15) 0x80000100 (partCtl 15);
      takes s (.pf 0) (rDspPartCtl 15) 0x80000100 (partCtl 15) = true ∧ s.flag (rDspPartCtl 15) 31 = false ∧ p.flag (rDspPartCtl 15) 31 = true ∧
        (p.setReg (rDspPartCtl 15) (s.reg (rDspPartCtl 15))).partOk 15 (p.fld (rDspPartCtl 15) 11 8) (p.fld (rDspPartCtl 15) 2 0) = true) ∧
    (let s := { owned with regs := tblPut owned.regs (rDspCtxCtl 0) 0#32 }; let p := s.holding (.pf 0) (rDspPartCtl 0) 0 (partCtl 0);
      takes s (.pf 0) (rDspPartCtl 0) 0 (partCtl 0) = true ∧ p.flag (rDspPartCtl 0) 31 = false ∧
        ∀ d < 512, p.flag (rDspCtxCtl d) 30 = true → p.ctxPart d ≠ 0) := by
  decide +kernel

/-! A witness for each statement about the dispatcher, digests and repairs. -/

/-- A device whose tables map the first four gigabytes of context 0 to HBM, edge store, an aperture and the host window of its port. -/
def withTables (s : State) : State :=
  { s with
    mem := [(0x1000, 0x03#8), (0x1001, 0x20#8), (0x2000, 0x1D#8), (0x2008, 0x1D#8), (0x200D, 0x80#8), (0x2010, 0x1D#8), (0x2015, 0x90#8),
      (0x2018, 0x1D#8), (0x201D, 0xE0#8), (0x3005, 0x04#8)]
    regs := tblPut (tblPut (tblPut s.regs (rMmuRoot 0) 0x1001#32) (rMmuApt 0) 0x3001#32) (rDspCtxFunc 0) 0x80000000#32 }

/-- A record of severity 2. -/
def sampleRec : EvRec := { time := 0#64, cls := 255, code := 255, sev := 2, gen := 0, source := 65535, ctx := none, payload := 0 }

theorem witness_EventRecords :
    (sampleRec.cls < 256 ∧ sampleRec.code < 256 ∧ sampleRec.sev < 256 ∧ sampleRec.source < 65536 ∧ sampleRec.ctx.getD 0xFFFF < 65536) ∧
    (let s := withTables (sampleArr id);
      ∀ k ∈ [devRing, 0], (s.ring k).waiting = [] ∧ (s.ring k).blocked = false ∧ s.ringFill k < ringSize k ∧
        (match s.ringAddr k (s.reg (ringWr k)).toNat with | .ok pa => s.place pa == .hbm | _ => false) = true) ∧
    (let s := { sampleArr id with regs := tblPut (tblPut (sampleArr id).regs rDspDevEvt 0#32) (rDspDevEvt + 4) 0xE000#32 };
      (match s.ringAddr devRing (s.reg (ringWr devRing)).toNat with | .ok pa => (match s.place pa with | .host _ => true | _ => false) | _ => false) = true) ∧
    (∀ n ∈ [15, 16, 527, 528], let s := { sampleArr id with
        regs := tblPut (sampleArr id).regs (ringWr 511) (BitVec.ofNat 32 (ringSize 511))
        rings := [(511, { Ring.reset with waiting := List.replicate n sampleRec })] };
      ringSize 511 ≤ s.ringFill 511 ∧ (s.ring 511).waiting.length = n ∧ 511 ≠ devRing ∧ 2 ≤ sampleRec.sev ∧
        ¬(sampleRec.cls = 0x0C ∧ sampleRec.code = 0x9B)) := by decide +kernel

/-- Context 0 with commands and a tail, running. -/
def sampleCmds (l : List Cmd) (tail : Nat) : State := { withTables (sampleArr id) with ctxs := [(0, { CtxState.reset with cmds := l, tail := tail })] }

/-- The command of an operation at index 0, whose second word is given. -/
def sampleCmd (op a : Nat) (started : Bool) : Cmd := ⟨0, bytesOf 64 (op + a * 2 ^ 64), started, if op = 1 then [0] else [], [], false⟩

theorem witness_DispatcherCommands :
    (∀ op < 4, let s := sampleCmds [sampleCmd op 0 false] 1;
      s.cmdAt 0 0 = some (sampleCmd op 0 false, []) ∧ s.ctxState 0 = 3 ∧ cmdMayStart (sampleCmd op 0 false) [] = true ∧ (sampleCmd op 0 false).op = op) ∧
    ((sampleCmds [] 0).now - BitVec.ofNat 64 (leAt (sampleCmd 2 0 false).bytes 8 8)).toNat < 2 ^ 63 ∧
    2 ^ 63 ≤ ((sampleCmds [] 0).now - BitVec.ofNat 64 (leAt (sampleCmd 2 1 false).bytes 8 8)).toNat ∧
    (let s := sampleCmds [sampleCmd 2 1 true] 1; s.cmdAt 0 0 = some (sampleCmd 2 1 true, []) ∧ cmdMayStart (sampleCmd 2 1 true) [] = true ∧
      s.now.toNat < (1#64).toNat ∧ (1#64 - BitVec.ofNat 64 (leAt (sampleCmd 2 1 true).bytes 8 8)).toNat < 2 ^ 63) ∧
    (let f (a : Nat) : State := sampleCmds [sampleCmd 3 a false] 1;
      let tr (a : Nat) : Tr := (f a).access ⟨0, none, .write, 3⟩ (leAt (sampleCmd 3 a false).bytes 8 8);
      (∀ a ∈ [0, 0x40000000, 0x80000000, 0xC0000000], (f a).dspStalled 0 = false ∧ (sampleCmd 3 a false).index = (0#32).toNat) ∧
        tr 0 = .ok 0 ∧ (f 0).place 0 = .hbm ∧ (f 0).heldHit 0 8 = false ∧
        tr 0x40000000 = .ok 0x800000000000 ∧ (f 0x40000000).place 0x800000000000 = .edge 0 0 ∧
        ({ f 0x40000000 with arrays := [(3, { ArrayState.reset with tiles := [{ sampleHeld with held := [⟨0x800000000000, 8⟩] }] })] }).heldHit
          0x800000000000 8 = true ∧
        tr 0x80000000 = .ok 0x900000000000 ∧ (f 0x80000000).place 0x900000000000 = .aperture 0 0 ∧
        tr 0xC0000000 = .ok 0xE00000000000 ∧ (f 0xC0000000).place 0xE00000000000 = .host 0 ∧
        (match tr 0x100000000 with | .fault .. => true | .ok _ => false) = true) ∧
    (let s := { sampleCmds [sampleCmd 1 0 false] 1 with arrays := [] };
      s.physOf ((s.partRange (s.ctxPart 0)).1 + 0) = some 3 ∧ (sampleCmd 1 0 false).todo.contains 0 = true ∧ s.residentAt 3 = some 0 ∧
        (s.arr 3).ctrl.state = 0 ∧ s.stopping 3 = false ∧ s.brp.remaps.any (fun r => r.logical == (s.partRange (s.ctxPart 0)).1 + 0) = false) := by
  decide +kernel

theorem witness_DispatcherEvents :
    (let s := sampleCmds [] 1;
      s.ctxState 0 = 3 ∧ (s.ctx 0).fetchStopped = false ∧ s.fetchIdx 0 ≠ (s.ctx 0).tail ∧ cnt32 (s.fetchIdx 0) (s.headIdx 0) < 256 ∧
        s.dspStalled 0 = false ∧ s.access ⟨0, none, .read, 3⟩ (s.ringVa 0 (s.fetchIdx 0)) = .ok 0 ∧ (∀ w ∈ wordsOf 0 64, s.checkAt w = .clean) ∧
        cnt32 (s.fetchIdx 0 + 1) (s.headIdx 0) ≠ 256 ∧
        (s.setReg (rDspCtxFetch 0) 1#32).cmdCheck 0 (s.rdBytes 0 64) = none ∧
        (let s' := { s with mem := (0, 4#8) :: s.mem }; (s'.setReg (rDspCtxFetch 0) 1#32).cmdCheck 0 (s'.rdBytes 0 64) = some 0x90)) ∧
    (let k : Cmd := { sampleCmd 1 0 true with todo := [], running := [0] };
      let s := { sampleArr (fun a => { a with ctrl := { a.ctrl with ended := true } }) with ctxs := [(0, { CtxState.reset with cmds := [k], tail := 1 })] };
      let u := (s.drainStores 3).modCtrl 3 (fun k => { k with state := 0, ended := false });
      let c := ((s.drainStores 3).arr 3).ctrl;
      (s.drainStores 3).programDone 3 = true ∧ (s.arr 3).ctrl.ended = true ∧ u.cmdAt c.ctx c.cmdIndex = some (k, []) ∧
        u.flag (rChkCtxCtl c.ctx) 3 = false ∧ k.running = [(s.drainStores 3).rankOf c.ctx (((s.drainStores 3).logOf 3).getD 0)]) ∧
    ((sampleArr id).resident 0).isSome = true ∧ ((sampleArr id).part 0).outgoing = none ∧
    (∀ inn : Bool, let s := { sampleArr id with parts := [(0, if inn then { PartState.reset with incoming := some 0, restoring := [3] }
        else { PartState.reset with outgoing := some 0, saving := [3] })] };
      s.partAt 3 = some 0 ∧ s.stopped 3 = true ∧ (s.arr 3).runs = true ∧ (s.arr 3).ctrl.faulting = none ∧
        (if inn then (s.part 0).incoming = some 0 ∧ (s.part 0).restoring.contains 3 = true
          else (s.part 0).outgoing = some 0 ∧ (s.part 0).saving.contains 3 = true)) ∧
    (∀ l ∈ [[], [sampleSignal false 0]], let s := { sampleArr id with regs := tblPut (sampleArr id).regs (rDspCtxCtl 0) 0x40000006#32, signals := l };
      s.ctxState 0 = 6 ∧ s.ctxInFlight 0 = !l.isEmpty) ∧
    (sample.ring devRing).held99 = 0 ∧ (sample.ring devRing).held98 = 0 ∧
    ({ sample with rings := [(511, { Ring.reset with held99 := 1 })] }.ring 511).held99 ≠ 0 ∧
    ({ sample with rings := [(511, { Ring.reset with held98 := 1 })] }.ring 511).held98 ≠ 0 ∧
    (let s := { sampleArr (fun a => { a with ctrl := { a.ctrl with faulting := some (2, 7) } }) with
        parts := [(0, { PartState.reset with outgoing := some 0, saving := [3] })] };
      s.stopped 3 = true ∧ (s.arr 3).ctrl.faulting = some (2, 7) ∧ (s.ctxFault 0 2 7).stopped 3 = true) := by decide +kernel

/-- Context 0 with digests on, one peer and window 0 of logical array 0 as its digest window. -/
def sampleDigest (x : StepState) (step : Nat) : State :=
  { sampleArr (fun a => { a with
      ctrl := { a.ctrl with closed := [(1, 9)] }
      wins := [(0, { Window.shut with isOpen := true })] }) with
    regs := tblPut (sampleArr id).regs (rChkCtxCtl 0) 0x1008#32
    mem := if step = 0 then [] else [(step * 32, BitVec.ofNat 8 step)]
    integ := { sample.integ with steps := [(0, x)] } }

theorem witness_DigestEvents :
    (let s := sampleArr (fun a => { a with ctrl := { a.ctrl with closed := [(1, 9)] } });
      0 < (s.partRange (s.ctxPart 0)).2 ∧ s.ctxState 0 ≠ 0 ∧ s.ctxState 0 ≠ 6 ∧ s.flag (rChkCtxCtl 0) 3 = false ∧
        [9].length = (s.partRange (s.ctxPart 0)).2 ∧ (s.ctrlOf 0 0).closed.find? (fun d => d.1 == (s.reg (rChkCtxStep 0)).toNat + 1) = some (1, 9)) ∧
    (let s := sampleDigest StepState.reset 1;
      s.physOf 0 = some 3 ∧ s.flag (rChkCtxCtl 0) 3 = true ∧ (s.window 3 0).isOpen = true ∧ (s.window 3 0).ctx = 0 ∧ 0 < s.fld (rChkCtxCtl 0) 15 12 ∧
        s.access ⟨0, some 0, .read, 3⟩ (leAt (s.window 3 0).record 0 8 + 0 * 2048 + 1 * 32) = .ok 32 ∧ leAt (s.rdBytes 32 32) 0 4 % 64 = 1 ∧
        (s.reg (rChkCtxAgreed 0)).toNat < leAt (s.rdBytes 32 32) 0 4 ∧ s.integ.rde = none) ∧
    (let o : OwnStep := ⟨1, 9, none, 0, 0, 0⟩;
      let u := (sampleDigest { StepState.reset with own := [o] } 0).clock 64000000000#64;
      (u.steps 0).own.find? (fun o => ((u.steps 0).recOf 0 o.step).isNone && !(u.steps 0).silent.contains (0, o.step) &&
          decide (o.time + 64000000000 ≤ u.now.toNat)) = some o ∧ 0 < u.fld (rChkCtxCtl 0) 15 12 ∧ u.flag (rChkCtxCtl 0) 3 = true) ∧
    (let s := sampleDigest { StepState.reset with rewind := true } 0;
      (s.steps 0).rewind = true ∧ s.ctxState 0 ≠ 4 ∧
        ∀ p ∈ s.ctxArrays 0, s.residentAt p = some 0 → (s.arr p).atBoundary = true ∧ (s.arr p).run.running = false) ∧
    (let r : RdeRun := ⟨0, 0, 64, false, none⟩;
      let s := { withTables (sampleArr id) with integ := { sample.integ with rde := some r } };
      s.integ.rde = some r ∧ s.memst.stalled = [] ∧ s.access ⟨r.ctx, none, .read, 3⟩ (r.va + 64 * 0) = .ok 0 ∧ ∀ w ∈ wordsOf 0 64, s.checkAt w = .clean) ∧
    (let s := { sample with
        regs := tblPut sample.regs rChkRdeInterval 1#32
        integ := { sample.integ with rdeLast := some ⟨0, 0, 64, false, none⟩ } };
      s.integ.rdeLast = some ⟨0, 0, 64, false, none⟩ ∧ s.reg rChkRdeInterval ≠ 0#32 ∧ s.flag rChkRdeCtl 30 = false) := by decide +kernel

theorem witness_RepairEvents :
    (let r : PyrRun := ⟨17, none, 0, 0, false⟩;
      let s := { sample with integ := { sample.integ with pyr := [r] } };
      s.integ.pyr = [r] ∧ r.running = false ∧ s.logOf r.array = none ∧ s.isPartner r.array = false ∧
        s.fld rChkPyrVersion 31 16 ≤ s.fld rChkPyrVersion 15 0 ∧ s.brp.repair = false) ∧
    { sample with integ := { sample.integ with kak := some 7 } }.integ.kak = some 7 ∧
    (let s := { sample with brp := { sample.brp with module := some 17 } };
      s.brp.module = some 17 ∧ (inForce s.brp.log).filter (fun e => e.kind == 0x0B && nth 0 e.target 0 == 17) = []) ∧
    (16 ≤ 16 ∧ 16 < 17 ∧ sample.brp.seamSpares.contains (11, 255, 255) = false) ∧
    sample.flag rBrpMgb (9 * 1 + 8) = false ∧
    (let s := { sample with regs := tblPut sample.regs rBrpDsp 0x40000000#32 };
      s.flag rBrpDsp 30 = true ∧ s.flag rBrpDsp 31 = false ∧ s.brp.remaps = []) ∧
    sample.brp.hang.length < 2 ∧
    (let c := [(1, 2), (2, 1)];
      let s := { sample with brp := { sample.brp with hang := [[c], [c]] } };
      s.brp.hang = [[c], [c]] ∧ s.brp.declared = [] ∧ [c].any (sameCycle c) = true) ∧
    (let s := { sample with regs := tblPut sample.regs (rBrpWdog 0) 1#32 };
      s.fld (rBrpWdog 0) 15 0 ≠ 0 ∧ s.resident (s.ctxPart 0) = some 0) := by decide +kernel

/-! A witness for each statement about the fabric and the hosts. -/

/-- The sample device with given registers. -/
def withRegsOf (l : List (Nat × Word)) : State := { sampleArr id with regs := l.foldl (fun r x => tblPut r x.1 x.2) (sampleArr id).regs }

/-- Fabric port 31 up, in the given state code, on a device whose node is 5. -/
def sampleLink (st : Nat) (x : FabPortState) : State :=
  let s := withRegsOf [(rFabPortStatus 31, BitVec.ofNat 32 (st * 2 ^ 28)), (rFabNode, 0x80000005#32), (rFabRoute 6, 0x8000001F#32)]
  { s with fab := { s.fab with ports := [(31, x)] } }

/-- A packet of an operation to that device. -/
def samplePkt (op : Nat) : Pkt := ⟨op, 0, 5, 6, 0, 0, 0, 0, 0, 0, 0, 0, []⟩

/-- A transaction of node 6, sent at time 0. -/
def sampleTxn (tries : Nat) : FabTxn := ⟨0, 0, { sampleAcc false with node := 6 }, 0, 0, 31, some 0, tries, 0⟩

theorem witness_FabricTransactions :
    (sampleLink 3 FabPortState.reset).linkUp 31 = true ∧
    (((sampleLink 3 { FabPortState.reset with unacked := [⟨0, 0, [], 0⟩] }).clock 256000#64).fport 31).unacked = ⟨0, 0, [], 0⟩ :: [] ∧
    (∀ op ∈ [0x01, 0x02, 0x81, 0x82, 0x83], let s := sampleLink 4 FabPortState.reset;
      let pkt := (samplePkt op).bytes;
      let u := (s.bump64 (rFabPortRx 31) pkt.length).setFport 31 { (s.bump64 (rFabPortRx 31) pkt.length).fport 31 with idleSince := s.now.toNat };
      let v := { u with fab := { u.fab with txns := [sampleTxn 0] } };
      s.fstate 31 = 4 ∧ (pktOf pkt).2 = true ∧ (pktOf pkt).1.op = op ∧ u.nodeKnown = true ∧ (pktOf pkt).1.dest = u.ownNode ∧
        v.fab.txns.find? (fun t => t.slot == (pktOf pkt).1.tag % 8192 && t.gen % 8 == (pktOf pkt).1.tag / 8192 && t.acc.ctx == (pktOf pkt).1.ctx) =
          some (sampleTxn 0) ∧
        (pktOf pkt).1.ctxGen = u.ctxGen (pktOf pkt).1.ctx % 256 ∧ (sampleTxn 0).aryGen = v.fld (rBrpAryGen 3) 7 0 ∧ u.fab.txns = []) ∧
    (∀ n ∈ [1, 2], let s := sampleLink 3 FabPortState.reset;
      let c := ({ s with fab := { s.fab with txns := [sampleTxn n] } }).clock 0xFFFFFFFFFF#64;
      c.fab.txns.find? (fun x => x.slot == 0) = some (sampleTxn n) ∧ 0 + c.fld rFabTout 13 0 * 64000 ≤ c.now.toNat ∧ c.routeTo 6 = some 31) ∧
    ({ sampleArr id with fab := { (sampleArr id).fab with txns := [sampleTxn 0] } }.routeTo 6 = none) ∧
    (let c := ({ sampleArr id with fab := { (sampleArr id).fab with pairs := [⟨0, 6, 0, 1, 0, 0⟩] } }).clock 1280000000#64;
      c.fab.pairs[0]? = some ⟨0, 6, 0, 1, 0, 0⟩ ∧ 0 + 1280000000 ≤ c.now.toNat) := by decide +kernel

/-- A discovery frame: operation, hops, place, and bytes from 36 on as a number. -/
def sampleFrame (op hops at_ rest : Nat) : List Byte := bytesOf 64 (op + hops * 2 ^ 8 + at_ * 2 ^ 16 + rest * 2 ^ 288)

theorem witness_FabricPortEvents :
    (∀ st ∈ [1, 2, 3, 6, 7], (sampleLink st FabPortState.reset).fstate 31 = st) ∧
    (let s := sampleLink 3 FabPortState.reset;
      s.linkUp 31 = true ∧
      (∀ op ∈ [0x40, 0x41, 0x42], let f := sampleFrame op 16 16 (2 ^ 48 + (32767 : Nat) * 2 ^ 32);
        leAt (sliceBytes f 0 64) 0 1 = op ∧ leAt (sliceBytes f 0 64) 1 1 = 16 ∧ leAt (sliceBytes f 0 64) 2 1 = 16 ∧ s.discoveryLocked f = false ∧
          leAt f 42 1 = 1 ∧ leAt f 40 2 = 32767 ∧ leAt f 40 2 + leAt f 42 1 ≤ 32768) ∧
      leAt (sampleFrame 0x40 16 15 0) 2 1 < leAt (sampleFrame 0x40 16 15 0) 1 1 ∧
      leAt (sampleFrame 0x43 1 0 0) 0 1 = 0x43 ∧ leAt (sampleFrame 0x43 1 0 0) 2 1 = 0 ∧
      s.nodeKnown = true ∧ s.fab.aborts = [] ∧ leAt (sampleFrame 0x20 1 0 0) 4 4 = 0 ∧ leAt (sampleFrame 0x20 1 0 0) 1 1 ≤ 1) ∧
    (let c := (withRegsOf [(rFabSchedCtl 31, 0x80001000#32), (rFabSchedEnt 31 4095 + 4, 0xC0000100#32)]).clock 1600000#64;
      c.slotUsed 31 4095 = true ∧ (c.now - c.slotStart 31 4095 0).toNat < 2 ^ 63 ∧ (c.schedEnt 31 4095).testBit 62 = true ∧
        (c.now - (c.slotStart 31 4095 0 - 1600000#64)).toNat < 2 ^ 63) ∧
    (let c := (sampleLink 3 { FabPortState.reset with slot := some (7, 0) }).clock 1#64; (c.fport 31).slot = some (7, 0) ∧ c.slotUsed 31 7 = false) ∧
    (withRegsOf [(rFabPortCtl 31, 0x8#32)]).flag (rFabPortCtl 31) 3 = true ∧
    (let c := (withRegsOf [(rFabPortCtl 31, 0x10000#32)]).clock 640000#64;
      c.fld (rFabPortCtl 31) 23 16 ≠ 0 ∧ (c.fport 31).idleSince + c.fld (rFabPortCtl 31) 23 16 * 640000 ≤ c.now.toNat) ∧
    ((sampleLink 6 FabPortState.reset).fport 31).losWait = false ∧ ((sampleLink 6 FabPortState.reset).fport 31).wakeWait = false ∧
    ((sampleLink 7 FabPortState.reset).fport 31).stepUp = false ∧
    (let c := ({ sampleArr id with fab := { (sampleArr id).fab with aborts := [⟨0, 0, 0, 0⟩] } }).clock 640000000#64;
      c.fab.aborts[0]? = some ⟨0, 0, 0, 0⟩ ∧ 0 + 640000000 ≤ c.now.toNat) := by decide +kernel

/-- Host port 7 with a state of its own, whose function 511 is bound to context 0. -/
def sampleHost (x : HostPort) (l : List (Nat × Word)) : State := (withRegsOf l).setHport 7 x

theorem witness_HostPortEvents :
    (withRegsOf [(rHstStatus 7, 0#32)]).flag (rHstStatus 7) 31 = false ∧
    (let s := withRegsOf [(rBrpStatus, 0x02000000#32), (rGlbHostEn, 0x80#32)];
      (s.setFlag (rHstStatus 7) 31 false).hostLogic = true ∧ (s.setFlag (rHstStatus 7) 31 false).flag rGlbHostEn 7 = true ∧ s.hostLogic = true) ∧
    ((sampleHost { HostPort.reset with released := some 0 } []).hport 7).released ≠ none ∧ (0 < 6 ∧ 6 ≤ 6 ∧ 16 ∈ [1, 2, 4, 8, 16]) ∧
    (let x := (sampleHost { HostPort.reset with vfEnable := true, numVfs := 511 } []).hport 7; 511 ≠ 0 ∧ x.vfEnable = true ∧ 511 ≤ x.numVfs) ∧
    (let s := withRegsOf [(rHstUcie 0, 0x8000#32)];
      (List.range s.ioSites.length).find? (fun i => nth 18 s.ioSites i == nth 18 s.ioSites 0) = some 0 ∧ nth 18 s.ioSites 0 < 18 ∧
        s.flag (rHstUcie 0) 15 = true) := by decide +kernel

theorem witness_HostRequests :
    (let s := sampleHost { HostPort.reset with released := some 0 } [(rHstStatus 7, 0x40000000#32)];
      (s.hport 7).released = some 0 ∧ s.flag (rHstStatus 7) 30 = true ∧ (6399999999#64).toNat < 0 + 6400000000 ∧ 0 + 6400000000 ≤ (6400000000#64).toNat ∧
        s.functionOn 7 1 = false ∧ s.functionOn 7 0 = true ∧ 0 + 6400000000 ≤ (6400000000#64).toNat) ∧
    (0x3FFFFFC < 0x4000000 ∧ 0x3FFFFFC % 4 = 0 ∧ 0x1FFFFFC < 0x2000000 ∧ 0x1FFFFFC % 4 = 0 ∧ 0x7FFC < 0x8000) ∧
    (let s := sampleHost { HostPort.reset with vfEnable := true, numVfs := 511 } [(rDspCtxFunc 0, 0x800701FF#32)];
      s.functionOn 7 511 = true ∧ (s.boundTo 7 (some 511)).find? (fun c => s.flag (rDspCtxCtl c) 30) = some 0) ∧
    (sampleArr id).hostTarget 7 1 0 0 = .noBar ∧ (sampleArr id).hostTarget 7 0 0 0 = .reg (.pf 7) 0 ∧ (sampleArr id).hostTarget 7 0 0 0 ≠ .noBar := by
  decide +kernel

/-! A witness for each statement about power, bring-up and management. -/

/-- The sample device with registers and a power state. -/
def samplePower (l : List (Nat × Word)) (f : PowerState → PowerState) : State :=
  { withRegsOf l with power := f { (sampleArr id).power with down := 0 } }

theorem witness_InputPowerEvents :
    (39999 < 40000 ∧ 60000 < 60001 ∧ 35999 < 36000 ∧ 66000 < 66001) ∧ (samplePower [] id).power.down = 0 ∧
    (samplePower [] (fun p => { p with down := 2 })).power.down = 2 ∧ (withRegsOf [(rPwrMod, 0x00800000#32)]).flag rPwrMod 23 = true ∧
    (38000 < 38001 ∧ (samplePower [] (fun p => { p with current := 8 })).power.current ≠ 0 ∧ 36000 ≤ 36000) ∧
    (40000 < 40001 ∧ (samplePower [] id).flag rPwrStatus 23 = false) ∧
    (let s := samplePower [] (fun p => { p with brakeAt := some 0 }); s.power.brakeAt = some 0 ∧ 36000 ≤ 36000 ∧ 0 + 640000 ≤ (640000#64).toNat) ∧
    ((samplePower [] id).flag rPwrStatus 20 = false ∧ (samplePower [] id).power.down = 0) ∧ (samplePower [(rPwrStatus, 0x100000#32)] id).flag rPwrStatus 20 = true := by decide +kernel

theorem setpoint_le (s : State) (d code : Nat) : s.setpoint d code ≤ 180 := by
  unfold State.setpoint
  split
  · decide
  · split
    · decide
    · exact Nat.min_le_left _ _

theorem witness_DomainEvents :
    (let s := samplePower [] id; s.power.down = 0 ∧ s.dom 333 = 0 ∧ ¬(306 ≤ 333 ∧ 333 < 324 ∧ s.siteOn (333 - 306) = false)) ∧
    ((306 ≤ 323 ∧ 323 < 324) ∧ (samplePower [] id).siteOn (323 - 306) = false) ∧
    (let s := samplePower [(rPwrDom 333, 0x88000000#32), (rPwrCtl, 0#32)] (fun p => { p with latchAt := [(333, 0)] });
      tblFind s.power.latchAt 333 = some 0 ∧ s.dom 333 = 4 ∧ s.flag rPwrCtl 0 = false ∧ s.power.inService.contains 333 = false) ∧
    (let s := samplePower [(rPwrDom 333, 0x20B40000#32)] id;
      s.dom 333 = 1 ∧ s.fld (rPwrDom 333) 28 26 = 0 ∧ 2 * 4249 < codeVolts (s.fld (rPwrDom 333) 23 16) ∧ s.fld (rPwrDom 333) 28 26 < 3 ∧ ¬(333 < 288)) ∧
    (let s := samplePower [(rPwrDom 333, 0x88000000#32), (rPwrCtl, 1#32)] (fun p => { p with latchAt := [(333, 0)] });
      tblFind s.power.latchAt 333 = some 0 ∧ s.dom 333 = 4 ∧ s.flag rPwrCtl 0 = true ∧ s.fld (rPwrDom 333) 28 26 < 3 ∧
        0 + 640000000 * (s.fld (rPwrDom 333) 28 26 + 1) ≤ (1920000000#64).toNat ∧ s.power.inService.contains 333 = false) ∧
    (let s := samplePower [(rPwrDom 287, 0x40B40000#32)] id;
      s.dom 287 = 2 ∧ domMax 287 * 12 < 8401 * 10 ∧ 2 * 4249 < codeVolts (s.fld (rPwrDom 287) 23 16) ∧ 287 < 288 ∧ domMax 287 * 12 ≥ 8400 * 10 ∧
        codeVolts (s.fld (rPwrDom 287) 23 16) ≤ 2 * 4250) ∧
    (let s := samplePower [] id; s.logOf 17 = none ∧ s.freeSpare 17 = true ∧ s.isPartner 17 = false ∧ s.flag (rPwrAry 17) 4 = false) ∧
    (let t := { Tile.free with state := 4, replay := some (sampleReplay (some 17) false false) };
      let s := { sampleArr (fun a => { a with tiles := [t, Tile.free, Tile.free] }) with regs := tblPut (sampleArr id).regs (rPwrAry 17) 0x10#32 };
      s.isPartner 17 = true ∧ s.flag (rPwrAry 17) 4 = true) ∧
    (let s := { withRegsOf ((rPwrCtl, 0#32) :: (List.range 16).map (fun i => (rPwrDom (48 + i), 0x40000000#32))) with
        arrays := [(3, { ArrayState.reset with aq := [{ sampleEntry .swap with launch := some 1#64 }] })] };
      ((s.arr 3).aq ++ (s.arr 3).vq).find? (fun e => e.launch.isSome) = some { sampleEntry .swap with launch := some 1#64 } ∧
        s.flag rPwrCtl 1 = false ∧ ∀ i < 16, s.dom (16 * 3 + i) = 2) ∧
    (let s := samplePower [(rPwrVmin 333, 5#32)] id; 4 < s.fld (rPwrVmin 333) 15 0 ∧ s.fld (rPwrVmin 333) 15 0 ≤ 5 ∧ 288 ≤ 333) := by decide +kernel

/-- The clauses of DomainEvents about corrections, whose base is a value that the test tables give. -/
theorem witness_DomainEvents_correction :
    (∀ b ∈ [1, 20], let s := samplePower [(rPwrDom 287, BitVec.ofNat 32 (0x40000000 + b))] id;
      s.dom 287 = 2 ∧ tblFind s.time.stretchAt 287 = none ∧ tblFind s.time.cpmAt 287 = none ∧ s.fld (rPwrDom 287) 7 0 = b ∧
        tblGet 0 s.power.ofs (12 * 287 + 9) = 0) ∧
    (∀ s : State, ∀ base : Int, base = s.setpoint 287 (s.arr (287 / 16)).freqCode →
      base + 20 < base + ((BitVec.ofNat 8 20).toInt + 1) ∧
      (base - 6 - 0 ≤ base + ((BitVec.ofNat 8 1).toInt + -1) ∧ base + ((BitVec.ofNat 8 1).toInt + -1) ≤ base + 20 ∧
        base + ((BitVec.ofNat 8 1).toInt + -1) ≤ 180 ∧ 0 ≤ base + ((BitVec.ofNat 8 1).toInt + -1))) := by
  refine ⟨by decide +kernel, fun s base h => ?_⟩
  have a := setpoint_le s 287 (s.arr (287 / 16)).freqCode
  have b : (BitVec.ofNat 8 20).toInt = 20 := by decide
  have c : (BitVec.ofNat 8 1).toInt = 1 := by decide
  rw [b, c]
  omega

theorem witness_PowerLoopEvents :
    (samplePower [] (fun p => { p with down := 1 })).power.down ≠ 0 ∧ (samplePower [] id).power.down = 0 ∧ (samplePower [] id).resident 0 = some 0 ∧
    3 ∈ (samplePower [] id).ctxArrays 0 ∧
    (305 < 306 ∧ 1201 < 65536 ∧ 1200 < tempOf 1201 ∧ tempOf 65215 < -320 ∧ (samplePower [(rPwrTemp 305, 0#32)] id).fld (rPwrTemp 305) 15 0 ≠ 0x8000) ∧
    (-320 ≤ tempOf 65216 ∧ tempOf 1200 ≤ 1200 ∧ (samplePower [] (fun p => { p with down := 3 })).power.down = 3) ∧
    (let s := samplePower [] id; s.power.down ≠ 3 ∧ (s.sensorRead 305 880 false).hottest (List.range 306) = (305, 880) ∧ 880 ≤ tempOf 880 ∧ 0 < 1) := by
  decide +kernel

/-- A frame of pool 0 from node 6. -/
def samplePool (kind v : Nat) : List Byte := bytesOf 64 (kind + 6 * 2 ^ 16 + v * 2 ^ 96)

/-- A member of pool 0, whose other member is node 6, with loans. -/
def pooled (lent : Option Loan) (borrowed : List Loan) (slacks : List Slack) : State :=
  samplePower [(rPwrPoolCtl, 0x80000002#32), (rPwrPoolMem 0, 0x80000005#32), (rPwrPoolMem 1, 0x80000006#32), (rFabNode, 0x80000005#32),
    (rPwrPoolBounds, 0x2EE00BB8#32)] (fun p => { p with lent := lent, borrowed := borrowed, slacks := slacks })

theorem witness_PoolEvents :
    (samplePower [] id).flag rPwrPoolCtl 31 = false ∧ (pooled none [] []).flag rPwrPoolCtl 31 = true ∧ 1 ≠ 0 ∧
    (let s := pooled (some ⟨6, 100, 0, true⟩) [] [⟨5, 0, 65536, 0⟩];
      s.power.lent = some ⟨6, 100, 0, true⟩ ∧
        (s.power.slacks.filter (fun x => x.interval == s.now.toNat / 2 ^ 29)).find? (fun x => x.node == s.ownNode) = some ⟨5, 0, 65536, 0⟩) ∧
    (let s := pooled none [] [⟨5, 0, 65536, 0⟩, ⟨6, 0, 0, 9000⟩];
      let l := s.power.slacks.filter (fun x => x.interval == s.now.toNat / 2 ^ 29);
      let w := Nat.min (s.capNet - s.fld rPwrPoolBounds 15 0) (s.fld rPwrCapGrant 15 0 / 40);
      s.power.lent = none ∧ l.find? (fun x => x.node == s.ownNode) = some ⟨5, 0, 65536, 0⟩ ∧
        l.filter (fun x => x.node != s.ownNode && decide (w ≤ x.headroom)) = [⟨6, 0, 0, 9000⟩] ∧
        20 * median (l.map (fun x => x.slack)) + 65536 ≤ 20 * 65536 ∧ s.fld rPwrPoolBounds 15 0 + 50 ≤ s.capNet) ∧
    (∀ k ∈ [0x30, 0x31, 0x32, 0x33, 0x34, 0x35], (pooled none [] []).poolFrom k (samplePool k 1) = some 6) ∧
    (pooled none [⟨6, 100, 0, true⟩] []).power.borrowed.any (fun x => x.peer == 6) = true ∧
    ((pooled none [] []).power.borrowed.any (fun x => x.peer == 6) = false ∧ (pooled none [] []).power.borrowed.length < 8 ∧
      (pooled none [] []).capNet + leAt (samplePool 0x31 0) 12 4 ≤ 12000 ∧ (pooled none [] []).fld rPwrPoolBounds 31 16 = 12000 ∧
      12000 < (pooled none [] []).capNet + leAt (samplePool 0x31 12001) 12 4) ∧
    (let s := pooled (some ⟨6, 100, 0, false⟩) [] []; s.power.lent = some ⟨6, 100, 0, false⟩ ∧ 0 + 6400000000 ≤ (6400000000#64).toNat) ∧
    (let s := pooled none [⟨6, 100, 0, true⟩] [];
      s.power.borrowed.find? (fun x => x.peer == 6) = some ⟨6, 100, 0, true⟩ ∧ s.power.borrowed = [⟨6, 100, 0, true⟩] ∧ 0 ≤ (0#64).toNat) := by
  decide +kernel

/-- A stage that ends with a result. -/
def sampleStage (r : Nat) : StageEnd := ⟨r, 0, 0, 0, 0, [], 0, 0, 0, [], [], 0, 0, 0⟩

/-- What a stage that fails on no seam leaves before its outcome is acted on, at time 0. -/
def stageLeft (s : State) (st : Nat) (e : StageEnd) : State :=
  let u := (s.stageWork st e).1
  let rep := u.report st (Nat.min 3 (s.stageWork st e).2) 0 e
  let v := { u with brp := { u.brp with reports := tblPut u.brp.reports st rep } }.lifeAdd 0x02 rep
  { v with brp := { v.brp with began := 0 } }

/-- A lane of seam group (11, 255, 255). -/
def sampleLane (link : Option (Fin 54)) : SeamLane := ⟨11, 255, 255, 32, link⟩

theorem witness_BringupEvents :
    (samplePower [] (fun p => { p with down := 4 })).power.down = 4 ∧
    (let s := { sample with mgt := { sample.mgt with coldAt := some 0 } }; s.mgt.coldAt = some 0 ∧ 0 ≤ (0#64).toNat) ∧
    (∀ r ∈ [0, 2, 3, 4], let s := samplePower [(rBrpStatus, 0x30000000#32)] id;
      s.power.down = 0 ∧ s.fld rBrpStatus 31 28 = 3 ∧ s.fld rBrpStatus 27 25 = 0 ∧ s.fld rMgtStatus 31 28 ≠ 4 ∧ (s.stageWork 3 (sampleStage r)).2 = r) ∧
    (let s := samplePower [(rBrpStatus, 0xB0000000#32)] id;
      s.fld rBrpStatus 31 28 = 11 ∧ s.fld rBrpStatus 27 25 = 0 ∧ (s.stageWork 11 (sampleStage 0)).2 = 0) ∧
    (∀ st ∈ [1, 2], (samplePower [(rBrpStatus, BitVec.ofNat 32 (st * 2 ^ 25))] id).fld rBrpStatus 27 25 = st) ∧
    (let s := samplePower [(rBrpStatus, 0x10000000#32), (rMgtStatus, 0x40000000#32)] id; s.fld rMgtStatus 31 28 = 4 ∧ s.fld rBrpStatus 31 28 = 1) ∧
    (∀ st ∈ [6, 10], let s := samplePower [(rBrpStatus, BitVec.ofNat 32 (st * 2 ^ 28 + 3 * 2 ^ 25))] id;
      s.fld rBrpStatus 31 28 = st ∧ s.fld rBrpStatus 27 25 = 3 ∧ (s.stageWork st { sampleStage 0 with arrays := 2 ^ 18 - 1 }).2 < 3) ∧
    (let s := samplePower [(rBrpStatus, 0x10000000#32), (rMgtStatus, 0x10000000#32)] id;
      s.fld rMgtStatus 31 28 ≠ 4 ∧ (s.stageWork 1 (sampleStage 0)).2 < 3 ∧ (stageLeft s 1 { sampleStage 0 with detail := 6 }).fld rMgtStatus 31 28 = 4) ∧
    (∀ n ∈ [1, 2, 3], let s := samplePower [(rBrpStatus, 0x30000000#32), (rMgtStatus, BitVec.ofNat 32 (if n = 1 then 0x40000000 else if n = 2 then 0x18000000
        else 0x10000000))] id;
      let f := (stageLeft s 3 (sampleStage 3)).bringupFail 0 0;
      (f.fld rMgtStatus 31 28 = 4 ↔ n = 1) ∧ (f.flag rMgtStatus 27 = true ↔ n = 2)) ∧
    (let x := sampleLane none; let y := sampleLane (some 53);
      State.reset.brp.seamSpares.contains (seamKey x) = false ∧ seamKey y = seamKey x ∧ x.link = none ∧ y.link ≠ none) ∧
    (sample.fld rBrpStatus 22 20 < 4 ∧ 4 ≤ (withRegsOf [(rBrpStatus, 0x00400000#32)]).fld rBrpStatus 22 20) ∧
    (let s := { sampleArr id with integ := { (sampleArr id).integ with want := [(3, 1)] } }; (s.remapReady 3).isSome = true ∧ s.logOf 3 = some 0) ∧
    (let r : Remap := ⟨0, 3, 17, 1⟩;
      let s := { sampleArr id with brp := { (sampleArr id).brp with remaps := [r] } };
      s.brp.remaps.find? (fun r => r.src == 3) = some r ∧ r.why ≠ 2 ∧ 3 ≠ r.dst ∧ (s.arr r.dst).halted = false ∧ s.fld (rChkArray r.dst) 31 30 = 0) := by
  decide +kernel

/-- The device as management path A sees it: it has an endpoint and, if told so, owns the platform with ID 9. -/
def managed (own : Bool) (l : List (Nat × Word)) (f : MgtState → MgtState) : State :=
  let s := withRegsOf ([(rMgtI3cA, 0x80000000#32), (rMgtEid, 0x00080000#32), (rMgtOwner, if own then 0x90010000#32 else 0#32), (rMgtOwnerId, if own then 9#32 else 0#32)] ++ l)
  { s with mgt := f s.mgt }

theorem witness_OwnershipCommands :
    (managed false [] id).claimOk (pathOf .mgmtA) 0 9 = false ∧
    ((managed false [] id).claimOk (pathOf .mgmtA) 255 9 = true ∧ (managed false [] id).flag rMgtOwner 31 = false ∧
      (managed false [] id).handMatches (pathOf .mgmtA) 9 = false) ∧
    (let s := managed true [] id;
      s.flag rMgtOwner 31 = true ∧ s.ownerPath = pathOf .mgmtA ∧ s.reg64 rMgtOwnerId = 9 ∧ s.claimOk (pathOf .mgmtA) 1 9 = true ∧
        s.handMatches (pathOf .mgmtA) 9 = false ∧ s.takesMessage .mgmtA false = true ∧ s.isOwner .mgmtA = true) ∧
    ((managed false [] id).isOwner .mgmtA = false ∧ (1 ≤ 4 ∧ 4 ≤ 4 ∧ 9 % 2 ^ 64 ≠ 0)) ∧
    (State.reset.takesMessage .mgmtA false = false ∧ State.reset.takesMessage .mgmtA true = false) ∧
    (managed true [] id).mgt.lease ≤ (0#64).toNat ∧
    (managed true [] (fun m => { m with hand := some ⟨4, 0, 0, 9, 0⟩ })).mgt.hand = some ⟨4, 0, 0, 9, 0⟩ := by decide +kernel

/-- An update of management path A at a stage, to slot B. -/
def sampleUpdate (stage : Nat) : Update := ⟨pathOf .mgmtA, 1, stage, some 1⟩

/-- A boot pointer record with slot B in a state. -/
def sampleBoot (trial b : Nat) : BootRec := { BootRec.fromTest with trial := trial, stateB := b }

/-- The header of an image that holds components 1, 2 and 3, each 4096 bytes with its minimum version. -/
def sampleImage (m : Nat → Nat) : Tbl Byte :=
  (bytesOf 128 (0x4F4C5558 + 3 * 2 ^ 112 + 4096 * 2 ^ 128 + (1 + 4096 * 2 ^ 80 + m 1 * 2 ^ 16) * 2 ^ 192 +
    (2 + 4096 * 2 ^ 80 + m 2 * 2 ^ 16) * 2 ^ 448 + (3 + 4096 * 2 ^ 80 + m 3 * 2 ^ 16) * 2 ^ 704)).zipIdx.map (fun x => (x.2, x.1))

theorem witness_FirmwareCommands :
    ((managed false [] id).takesMessage .mgmtA true = true ∧ (managed false [] id).isOwner .mgmtA = false) ∧
    (let s := managed true [(rBrpStatus, 0x02000000#32)] id;
      s.takesMessage .mgmtA true = true ∧ s.isOwner .mgmtA = true ∧ s.updatesOpen = true ∧ s.mgt.update = none) ∧
    (∀ st ∈ [1, 3], let s := managed true [] (fun m => { m with update := some (sampleUpdate st) });
      s.mgt.update = some (sampleUpdate st) ∧ (sampleUpdate st).agent = pathOf .mgmtA ∧ (sampleUpdate st).stage = st ∧ (sampleUpdate st).comp.isSome = true ∧
        4096 ≤ 4096 ∧ 20 * 2 ^ 20 - 4096 + 4096 ≤ 20 * 2 ^ 20) ∧
    (let s := managed true [(rBrpStatus, 0x02000000#32)] (fun m => { m with recA := some (sampleBoot 255 3), recB := none });
      s.bootRec.slot (1 - s.bootRec.active) = 3 ∧ s.bootRec.trial = 255 ∧ s.updatesOpen = true ∧ s.confirm = none) ∧
    (let s := managed true [] id;
      s.updatesOpen = false ∧ s.updateAt .mgmtA 1 = false ∧ s.updateAt .mgmtA 3 = false ∧
        (managed true [] (fun m => { m with update := some (sampleUpdate 3) })).updateAt .mgmtA 3 = true ∧ s.compIn 1 4 = none) ∧
    (let s := managed true [(rBrpStatus, 0x02000000#32)] (fun m => { m with recA := some (sampleBoot 255 2), recB := none });
      s.fld rBrpStatus 27 25 = 1 ∧ [0, 1].find? (fun n => s.bootRec.slot n == 2) = some 1 ∧ s.imageDetail 1 true true = 6) ∧
    (let s := managed true [] (fun m =>
        { m with update := some (sampleUpdate 2), recA := some (sampleBoot 255 2), recB := none, slots := [(1, sampleImage (fun _ => 0))] });
      s.mgt.update.isSome = true ∧ [0, 1].find? (fun n => s.bootRec.slot n == 2) = some 1 ∧ s.imageDetail 1 true true = 0) ∧
    (let s := managed true [(rMgtStatus, 0x08000000#32), (rBrpStatus, 0x02000000#32)] (fun m =>
        { m with recA := some (sampleBoot 1 5), recB := none, trialFrom := some 0 });
      s.confirm.isSome = true ∧ s.mgt.trialFrom.isSome = true ∧ s.flag rMgtStatus 27 = true) ∧
    (let s := managed true [] id;
      s.takesMessage .mgmtA false = true ∧ (0x3FFFFFC < 0x4000000 ∧ 0x3FFFFFC % 4 = 0) ∧ (s.write32 .mgmtA rQtzCtl 0#32).2 = none ∧
        s.takesWrite .mgmtA rQtzCtl = true ∧ (let u := managed true [(rBrpStatus, 0x06000000#32)] id; (u.write32 .mgmtA rQtzCtl 0#32).2 = none ∧ u.takesWrite .mgmtA rQtzCtl = false) ∧ (s.write32 .mgmtA rPwrCapGrant 2999#32).2 = some 3 ∧ (0 < 60 ∧ 60 ≤ 60 ∧ 1 ≤ 1)) := by decide +kernel

theorem witness_ManagementQueries :
    (withRegsOf [(rMgtI3cB, 0x80000000#32)]).flag rMgtI3cB 31 = true ∧ (69 ≤ 260 ∧ 260 ≤ 260) ∧ (withRegsOf []).flag rMgtI3cB 31 = false ∧
    ((managed true [] id).reached .mgmtA = true ∧ (managed true [] id).reached .mgmtB = false) ∧
    (let s := { withRegsOf [] with brp := { (withRegsOf []).brp with slotId := 15 } }; s.brp.slotId = 15) ∧
    ((managed true [] id).spdm .mgmtA ≠ 2 ∧ ((managed true [] id).setSpdm .mgmtA 1).spdm .mgmtA ≠ 0 ∧ (managed true [] id).spdm .mgmtA = 0) ∧
    ((0x301 : Nat) ≠ 0x400 ∧ (334 : Nat) ≤ 334 ∧ 3 ∉ [0, 2, 5, 0x3F] ∧ (State.reset.takesMessage .mgmtB true = false)) ∧
    (let s := { withRegsOf [] with brp := { (withRegsOf []).brp with slotId := 3 } }; s.brp.slotId ≠ 15 ∧ (s.i3c 1).hotJoin = true) ∧ (0 < 255 ∧ 255 < 256 ∧ 0 < 254 ∧ 254 ≤ 254) ∧
    ((managed true [] id).takesMessage .mgmtA true = true ∧ (managed true [] id).takesMessage .mgmtA false = true) ∧
    ((managed true [] id).setSpdm .mgmtA 2).spdm .mgmtA = 2 ∧ (1 ≤ 8 ∧ 8 ≤ 8 ∧ 1 ≠ 0) ∧ (pdrs[0]?).isSome = true ∧ (305 < 306 ∧ 17 < 18) ∧
    (managed true [] id).isOwner .mgmtA = true ∧ (managed false [] id).isOwner .mgmtA = false := by decide +kernel

end Sys2Proof.Machine
end

/-!
What one field of a register takes from a write (00_scope R8, R9, R530): an equation for each access type, and O40.
-/
namespace Sys2Proof.Machine

/-- A field that is set to a number of its width reads as that number. -/
theorem bitsOf_setBits_of_lt {v hi lo x : Nat} (h : lo ≤ hi) (hx : x < 2 ^ (hi + 1 - lo)) : bitsOf (setBits v hi lo x) hi lo = x := by
  rw [bitsOf_setBits_same _ _ _ _ h, Nat.mod_eq_of_lt hx]

/-- The bits that stay when those of x are cleared from o. -/
theorem testBit_and_xor (o x i : Nat) : (o &&& (o ^^^ x)).testBit i = (o.testBit i && !x.testBit i) := by
  rw [Nat.testBit_and, Nat.testBit_xor]
  cases o.testBit i <;> cases x.testBit i <;> rfl

section
variable (old v : Nat) (owner locked : Bool) (w : Written) (f : FieldSpec)

theorem writeField_value_rw (ht : f.ty = .rw) (hm : (owner || !f.plat) = true) :
    (writeField old v owner locked w f).value = setBits w.value f.hi f.lo (bitsOf v f.hi f.lo) := by
  simp [writeField, ht, hm]

theorem writeField_value_rwl_unlocked (ht : f.ty = .rwl) (hm : (owner || !f.plat) = true) (hl : locked = false) :
    (writeField old v owner locked w f).value = setBits w.value f.hi f.lo (bitsOf v f.hi f.lo) := by
  simp [writeField, ht, hm, hl]

theorem writeField_rwl_locked (ht : f.ty = .rwl) (hm : (owner || !f.plat) = true) (hl : locked = true) :
    writeField old v owner locked w f = { w with lockDrop := w.lockDrop || bitsOf v f.hi f.lo != bitsOf old f.hi f.lo } := by
  simp [writeField, ht, hm, hl]

theorem writeField_value_w1c (ht : f.ty = .w1c) (hm : (owner || !f.plat) = true) :
    (writeField old v owner locked w f).value =
      setBits w.value f.hi f.lo (bitsOf old f.hi f.lo &&& (bitsOf old f.hi f.lo ^^^ bitsOf v f.hi f.lo)) := by
  simp [writeField, ht, hm]

theorem writeField_value_w1s (ht : f.ty = .w1s) (hm : (owner || !f.plat) = true) :
    (writeField old v owner locked w f).value = setBits w.value f.hi f.lo (bitsOf old f.hi f.lo ||| bitsOf v f.hi f.lo) := by
  simp [writeField, ht, hm]

/-- R8: software stores nothing in a field of type RO, RC or WO. -/
theorem writeField_value_unwritable (ht : f.ty = .ro ∨ f.ty = .rc ∨ f.ty = .wo) :
    (writeField old v owner locked w f).value = w.value := by
  obtain ht | ht | ht := ht
  · simp [writeField, ht]
  · simp [writeField, ht]
  · simp only [writeField, ht]; split <;> rfl

/-- R530: a field that the requester may not write takes no part in the write. -/
theorem writeField_not_owner (hm : (owner || !f.plat) = false) :
    (writeField old v owner locked w f).value = w.value ∧ (writeField old v owner locked w f).acted = w.acted := by
  cases ht : f.ty <;> simp [writeField, ht, hm]

/-- A write of a field stores in that field or nowhere. -/
theorem writeField_value_cases :
    (writeField old v owner locked w f).value = w.value ∨
      ∃ y, (writeField old v owner locked w f).value = setBits w.value f.hi f.lo y := by
  by_cases hm : (owner || !f.plat) = true
  · cases ht : f.ty with
    | ro => exact .inl (writeField_value_unwritable old v owner locked w f (.inl ht))
    | rc => exact .inl (writeField_value_unwritable old v owner locked w f (.inr (.inl ht)))
    | wo => exact .inl (writeField_value_unwritable old v owner locked w f (.inr (.inr ht)))
    | rw => exact .inr ⟨_, writeField_value_rw old v owner locked w f ht hm⟩
    | w1c => exact .inr ⟨_, writeField_value_w1c old v owner locked w f ht hm⟩
    | w1s => exact .inr ⟨_, writeField_value_w1s old v owner locked w f ht hm⟩
    | rwl =>
      cases hl : locked with
      | true => exact .inl (by rw [writeField_rwl_locked old v owner true w f ht hm rfl])
      | false => exact .inr ⟨_, writeField_value_rwl_unlocked old v owner false w f ht hm rfl⟩
  · exact .inl (writeField_not_owner old v owner locked w f (by simpa using hm)).1

end

/-- Settles O40: the equation of each access type, and the bits of a field that was set. -/
theorem registerFieldRules : Obligations.RegisterFieldRules := by
  unfold Obligations.RegisterFieldRules
  intro old v owner locked w f hf _
  have hx : bitsOf v f.hi f.lo < 2 ^ (f.hi + 1 - f.lo) := bitsOf_lt v f.hi f.lo
  have ho : bitsOf old f.hi f.lo < 2 ^ (f.hi + 1 - f.lo) := bitsOf_lt old f.hi f.lo
  refine ⟨fun ht hm => ?_, fun ht hm hl => ?_, fun ht hm hl => ?_, fun ht hm i => ?_, fun ht hm i => ?_,
    writeField_value_unwritable old v owner locked w f, writeField_not_owner old v owner locked w f, fun i hi => ?_⟩
  · rw [writeField_value_rw old v owner locked w f ht hm, bitsOf_setBits_of_lt hf hx]
  · rw [writeField_value_rwl_unlocked old v owner locked w f ht hm hl, bitsOf_setBits_of_lt hf hx]
  · rw [writeField_rwl_locked old v owner locked w f ht hm hl]
    exact ⟨rfl, fun h => by simp [h]⟩
  · rw [writeField_value_w1c old v owner locked w f ht hm, bitsOf_setBits_of_lt hf (Nat.lt_of_le_of_lt Nat.and_le_left ho),
      testBit_and_xor]
  · rw [writeField_value_w1s old v owner locked w f ht hm, bitsOf_setBits_of_lt hf (Nat.or_lt_two_pow ho hx), Nat.testBit_or]
  · obtain h | ⟨y, h⟩ := writeField_value_cases old v owner locked w f
    · rw [h]
    · rw [h, testBit_setBits _ _ _ _ _ hf, if_neg hi]

end Sys2Proof.Machine

/-!
Register accesses (00_scope R7, R8, R13, R14): what a write of 32 bits does and what a read gives, an equation for each half of a pair, and
O41.
-/
namespace Sys2Proof.Machine

theorem halfAt_of_findReg {off : Nat} {r : RegSpec} (h : findReg off = some r) : halfAt off = some r.half := by
  rw [halfAt, h]; rfl

/-! Writes of one register of 32 bits. -/

/-- R516: a path that does not take a write leaves the state. -/
theorem State.regWrite_not_taken {s : State} {req : Requester} {off : Nat} (v : Nat) (e : RegEffect) (h : s.takesWrite req off = false) :
    s.regWrite req off v e = s := by
  simp [State.regWrite, State.regWriteR, h]

/-- R545: a write that its register's own check refuses posts the event of the drop. -/
theorem State.regWrite_vetoed {s : State} {req : Requester} {off v : Nat} {e : RegEffect} {code : Nat} (h : s.takesWrite req off = true)
    (hd : ¬((s.written req off v).acted = 0 ∧ (s.written req off v).value = (s.reg off).toNat ∧ v ≠ (s.reg off).toNat))
    (hv : e.veto s req (s.written req off v).value (s.written req off v).acted = some code) :
    s.regWrite req off v e = s.regDrop req off code v := by
  rw [State.regWrite, State.regWriteR, if_pos h, State.commit, if_neg hd, hv]

/-- A write that is taken whole leaves its register's value and effect, and posts no event of a drop. -/
theorem State.regWriteR_accepted {s : State} {req : Requester} {off v : Nat} {e : RegEffect} (h : s.accepts req off v e) :
    s.regWriteR req off v e = (s.afterWrite req off v e, none) := by
  obtain ⟨ht, howner, hlock, hd, hveto, hkeep⟩ := h
  rw [State.regWriteR, if_pos ht, State.commit, if_neg hd, hveto]
  simp [hkeep, State.dropNote, howner, hlock, State.afterWrite, State.holding]

theorem State.regWrite_accepted {s : State} {req : Requester} {off v : Nat} {e : RegEffect} (h : s.accepts req off v e) :
    s.regWrite req off v e = s.afterWrite req off v e := by
  rw [State.regWrite, State.regWriteR_accepted h]

@[simp] theorem State.budgetNote_none (s : State) (off : Nat) : s.budgetNote off none = s := by
  cases h : findReg off <;> simp [State.budgetNote, h]

/-- R7: an accepted write of a register of 32 bits, but for MGT_CLAIM_NODE, which holds a value for each requester. -/
theorem State.write32_accepted {s : State} {req : Requester} {off : Nat} {v : Word} {r : RegSpec} (hr : findReg off = some r)
    (hh : r.half = .single) (hn : off ≠ rMgtClaimNode) (h : s.accepts req off v.toNat (effectAt off)) :
    s.write32 req off v = (s.afterWrite req off v.toNat (effectAt off), none) := by
  simp only [State.write32, hr, hh, if_neg hn, State.regWriteR_accepted h, State.budgetNote_none]

/-! The two halves of a pair (R13). -/

theorem State.loWrite_taken {s : State} {req : Requester} {lo : Nat} (v : Word) (h : s.takesWrite req lo = true) :
    s.loWrite req lo v = { s with wrLatch := tblPut s.wrLatch (latchKey req lo) v } := if_pos h

/-- The low half that a write to _HI commits: the latched one, else the live one. -/
def State.lowHalf (s : State) (req : Requester) (lo : Nat) : Nat :=
  ((tblFind s.wrLatch (latchKey req lo)).map BitVec.toNat).getD (s.liveFor req lo)

theorem State.lowHalf_latched {s : State} {req : Requester} {lo : Nat} {x : Word} (h : tblFind s.wrLatch (latchKey req lo) = some x) :
    s.lowHalf req lo = x.toNat := by
  simp [State.lowHalf, h]

theorem State.lowHalf_live {s : State} {req : Requester} {lo : Nat} (h : tblFind s.wrLatch (latchKey req lo) = none) :
    s.lowHalf req lo = s.liveFor req lo := by
  simp [State.lowHalf, h]

/-- R13: a write to _HI empties the latch and writes the pair whole. -/
theorem State.hiWrite_commits (s : State) (req : Requester) {lo : Nat} (v : Word) (h : lo ≠ rMgtClaimId) :
    s.hiWrite req lo v = { s with wrLatch := tblDel s.wrLatch (latchKey req lo) }.pairWriteR req lo (pairHome lo)
      (s.lowHalf req lo + 2 ^ 32 * v.toNat) (effectAt lo) := by
  cases hl : tblFind s.wrLatch (latchKey req lo) <;> simp only [State.hiWrite, State.lowHalf, hl, if_neg h] <;> rfl

/-! Reads. -/

theorem State.readDrawn_fixed (s : State) {off : Nat} {r : RegSpec} (hr : findReg off = some r) (hf : drawsFree r.base = false) :
    s.readDrawn off = s := by
  simp [State.readDrawn, hr, hf]

@[simp] theorem State.readDrawn_rdLatch (s : State) (off : Nat) : (s.readDrawn off).rdLatch = s.rdLatch := by
  unfold State.readDrawn
  split
  · split <;> rfl
  · rfl

section
variable {s : State} {req : Requester} {off : Nat} {r : RegSpec} (hreach : s.reaches req off = true) (hreset : s.fld rBrpStatus 27 25 ≠ 3)
  (hr : findReg off = some r)
include hreach hreset hr

/-- R8, R515: a read of a register of 32 bits. -/
theorem State.read32_single (hh : r.half = .single) :
    s.read32 req off = (((s.dbgRead off).clearRc off).readDrawn off, s.liveFor req off) := by
  simp [State.read32, hreach, hreset, hr, hh]

/-- R13: a read of _LO captures _HI. -/
theorem State.read32_low (hh : r.half = .low) :
    s.read32 req off =
      ({ s with rdLatch := tblPut s.rdLatch (latchKey req off) (BitVec.ofNat 32 (s.liveFor req (off + 4))) }.readDrawn off, s.liveFor req off) := by
  simp [State.read32, hreach, hreset, hr, hh]

/-- R13: a read of _HI gives what the requester's read of _LO captured. -/
theorem State.read32_high_captured (hh : r.half = .high) {x : Word} (hx : tblFind s.rdLatch (latchKey req (off - 4)) = some x) :
    s.read32 req off = (s, x.toNat) := by
  simp [State.read32, hreach, hreset, hr, hh, hx]

/-- R13: a read of _HI that no read of _LO preceded gives the live value. -/
theorem State.read32_high_live (hh : r.half = .high) (hx : tblFind s.rdLatch (latchKey req (off - 4)) = none) :
    s.read32 req off = (s, s.liveFor req off) := by
  simp [State.read32, hreach, hreset, hr, hh, hx]

end

theorem State.readAnswer_of_read32 {s t : State} {req : Requester} {off x : Nat} (h : s.read32 req off = (t, x)) :
    s.readAnswer req off = t.answer [x] := by
  rw [State.readAnswer, h]

/-- R8: a read of a register of 32 bits that shows no free value and is not BRP_DBG_DATA clears its RC fields, no more. -/
theorem State.readAnswer_single {s : State} {req : Requester} {off : Nat} {r : RegSpec} (hr : findReg off = some r) (hh : r.half = .single)
    (hreach : s.reaches req off = true) (hreset : s.fld rBrpStatus 27 25 ≠ 3) (hd : off ≠ rBrpDbgData) (hf : drawsFree r.base = false) :
    s.readAnswer req off =
      ((r.fields.filter (fun f => f.ty == .rc)).foldl (fun s f => s.setFld off f.hi f.lo 0) s).answer [s.liveFor req off] := by
  rw [State.readAnswer_of_read32 (State.read32_single hreach hreset hr hh), State.readDrawn_fixed _ hr hf]
  simp only [State.dbgRead, if_neg hd, State.clearRc, hr]

/-- R13: a requester that has read _LO reads as _HI what stood there then, whatever has changed but its latch. -/
theorem State.read32_pair_whole {s t : State} {req : Requester} {lo : Nat} {r h : RegSpec} (hr : findReg lo = some r) (hlow : r.half = .low)
    (hh : findReg (lo + 4) = some h) (hhigh : h.half = .high) (hreach : s.reaches req lo = true) (hreset : s.fld rBrpStatus 27 25 ≠ 3)
    (hlt : s.liveFor req (lo + 4) < 2 ^ 32) (hlatch : (s.read32 req lo).1.rdLatch = t.rdLatch) (htreach : t.reaches req (lo + 4) = true)
    (htreset : t.fld rBrpStatus 27 25 ≠ 3) : (t.read32 req (lo + 4)).2 = s.liveFor req (lo + 4) := by
  have hx : tblFind t.rdLatch (latchKey req (lo + 4 - 4)) = some (BitVec.ofNat 32 (s.liveFor req (lo + 4))) := by
    rw [← hlatch, State.read32_low hreach hreset hr hlow, Nat.add_sub_cancel]
    simp
  rw [State.read32_high_captured htreach htreset hh hhigh hx, BitVec.toNat_ofNat, Nat.mod_eq_of_lt hlt]

/-! The commands. -/

theorem exec_registerWrite_whole (req : Requester) (off : Nat) (v : Word) (s : State) :
    exec (.registerWrite req off 0xF#4 v) s = .next (s.write32 req off v).1 := rfl

theorem exec_registerWrite_partial (req : Requester) (off : Nat) {be : BitVec 4} (v : Word) (s : State) (h : be ≠ 0xF#4) :
    exec (.registerWrite req off be v) s = .next s := by
  rw [exec_registerWrite, execRegisterWrite, if_neg h]

theorem exec_loReadCapture_low {off : Nat} (req : Requester) (s : State) (h : halfAt off = some .low) :
    exec (.loReadCapture req off) s = .next (s.readAnswer req off) := by
  rw [exec_loReadCapture, execLoReadCapture, if_pos h]

theorem exec_loWriteLatch_low {off : Nat} (req : Requester) (v : Word) (s : State) (h : halfAt off = some .low) :
    exec (.loWriteLatch req off v) s = .next (s.loWrite req off v) := by
  rw [exec_loWriteLatch, execLoWriteLatch, if_pos h]

theorem exec_hiWriteCommit_high {off : Nat} (req : Requester) (v : Word) (s : State) (h : halfAt off = some .high) :
    exec (.hiWriteCommit req off v) s = .next (s.hiWrite req (off - 4) v).1 := by
  rw [exec_hiWriteCommit, execHiWriteCommit, if_pos h]

/-- R14: a write of 64 bits writes its low word, then its high word 4 bytes on. -/
theorem exec_host64bitAccess_write (req : Requester) (off : Nat) (d : DWord) (s : State) :
    exec (.host64bitAccess req off (some d)) s =
      .next ((s.write32 req off (d.setWidth 32)).1.write32 req (off + 4) ((d >>> 32).setWidth 32)).1 := by
  have hhi : BitVec.ofNat 32 (d.toNat / 2 ^ 32) = (d >>> 32).setWidth 32 := by
    rw [← BitVec.ofNat_toNat, BitVec.toNat_ushiftRight, Nat.shiftRight_eq_div_pow]
  rw [exec_host64bitAccess, execHost64bitAccess]
  simp only [BitVec.ofNat_toNat, hhi]

/-- Settles O41: each command goes through the one write or the one read of a register. -/
theorem registerAccesses : Obligations.RegisterAccesses := by
  unfold Obligations.RegisterAccesses
  refine ⟨fun s req off v => ⟨exec_registerWrite_whole req off v s, fun be h => exec_registerWrite_partial req off v s h,
    fun r hr hh hn ha => ?_, fun r hr hh hreach hreset hd hf => ?_, fun r hr hh hreach hreset hf => ?_, fun hh ht => ?_,
    fun hh hn x hx => ?_, fun hh hn hx => ?_, fun hh hreach hreset hx => ?_, fun d => exec_host64bitAccess_write req off d s, rfl⟩,
    fun s req lo r h hr hlow hh hhigh hreach _ hreset hlt t hlatch htreach htreset =>
      State.read32_pair_whole hr hlow hh hhigh hreach hreset hlt hlatch htreach htreset,
    fun s req off v e => ⟨State.regWrite_not_taken v e, fun code => State.regWrite_vetoed, State.regWrite_accepted⟩⟩
  · rw [exec_registerWrite_whole, State.write32_accepted hr hh hn ha]
  · rw [exec_rcRead, execRcRead, State.readAnswer_single hr hh hreach hreset hd hf]
  · rw [exec_loReadCapture_low req s (hh ▸ halfAt_of_findReg hr), State.readAnswer_of_read32 (State.read32_low hreach hreset hr hh),
      State.readDrawn_fixed _ hr hf]
  · rw [exec_loWriteLatch_low req v s hh, State.loWrite_taken v ht]
  · rw [exec_hiWriteCommit_high req v s hh, State.hiWrite_commits s req v hn, State.lowHalf_latched hx]
  · rw [exec_hiWriteCommit_high req v s hh, State.hiWrite_commits s req v hn, State.lowHalf_live hx]
  · obtain ⟨r, hr, hhigh⟩ := Option.map_eq_some_iff.mp hh
    exact State.read32_high_live hreach hreset hr hhigh hx

end Sys2Proof.Machine

/-!
The bytes of an event record and the place that a record takes (00_scope R15; 11_contexts R397 to R399), and O43.
-/
namespace Sys2Proof.Machine

/-! Bytes of a number, least significant first. -/

@[simp] theorem length_bytesOf (n v : Nat) : (bytesOf n v).length = n := by
  induction n generalizing v with
  | zero => rfl
  | succ n ih => rw [bytesOf, List.length_cons, ih]

theorem ofBytes_bytesOf (n v : Nat) : ofBytes (bytesOf n v) = v % 256 ^ n := by
  induction n generalizing v with
  | zero => rw [bytesOf, ofBytes, Nat.pow_zero, Nat.mod_one]
  | succ n ih => rw [Nat.pow_succ', Nat.mod_mul, bytesOf, ofBytes, ih, BitVec.toNat_ofNat]

theorem drop_bytesOf (o n v : Nat) : (bytesOf (o + n) v).drop o = bytesOf n (v / 256 ^ o) := by
  induction o generalizing v with
  | zero => simp
  | succ o ih => rw [Nat.add_right_comm, bytesOf, List.drop_succ_cons, ih, Nat.div_div_eq_div_mul, Nat.pow_succ']

theorem take_bytesOf (n m v : Nat) : (bytesOf (n + m) v).take n = bytesOf n v := by
  induction n generalizing v with
  | zero => rfl
  | succ n ih => rw [Nat.add_right_comm, bytesOf, List.take_succ_cons, ih, bytesOf]

/-- A little-endian field of a number's bytes. -/
theorem leAt_bytesOf {o n m : Nat} (h : o + n ≤ m) (v : Nat) : leAt (bytesOf m v) o n = v / 256 ^ o % 256 ^ n := by
  obtain ⟨k, rfl⟩ := Nat.exists_eq_add_of_le h
  rw [leAt, sliceBytes, Nat.add_assoc, drop_bytesOf, take_bytesOf, length_bytesOf, Nat.sub_self, List.replicate_zero, List.append_nil,
    ofBytes_bytesOf]

/-! The layout of a record (R15). -/

/-- The fields of a record from the class on, as one number: each field over those before it. -/
def EvRec.afterTime (r : EvRec) : Nat :=
  r.cls + 2 ^ 8 * (r.code + 2 ^ 8 * (r.sev + 2 ^ 8 * (r.gen % 256 + 2 ^ 8 * (r.source + 2 ^ 16 * (r.ctx.getD 0xFFFF +
    2 ^ 16 * (r.payload % 2 ^ 384))))))

theorem recBytes_eq (r : EvRec) : recBytes r = bytesOf 64 (r.time.toNat + 2 ^ 64 * r.afterTime) := by
  rw [recBytes, EvRec.afterTime]
  congr 1
  ring

/-! The place of a record (R397 to R399). -/

section
variable {s : State} {k : Nat} {r : EvRec}

/-- R397: a record goes into a ring that has room and holds nothing back, and raises the ring's peak. -/
theorem State.ringPut_written {pa : Nat} (hw : (s.ring k).waiting = []) (hb : (s.ring k).blocked = false)
    (hroom : s.ringFill k < ringSize k) (ha : s.ringAddr k (s.reg (ringWr k)).toNat = .ok pa) :
    s.ringPut k r =
      let u := (s.hostCopy k pa (recBytes r)).setReg (ringWr k) (BitVec.ofNat 32 ((s.reg (ringWr k)).toNat + 1))
      if u.fld (ringPeak k) 10 0 < u.ringFill k then u.setFld (ringPeak k) 10 0 (u.ringFill k) else u := by
  simp [State.ringPut, hw, hb, Nat.not_le.mpr hroom, State.ringWrite, ha]

theorem State.ringPut_held (h : ringSize k ≤ s.ringFill k) : s.ringPut k r = s.ringHold k r := if_pos (.inr (.inr h))

/-- R399: the overflow buffer holds 16 records. -/
theorem State.ringHold_buffered (h : (s.ring k).waiting.length < 16) :
    s.ringHold k r = s.setRing k { s.ring k with waiting := (s.ring k).waiting ++ [r] } := by
  simp [State.ringHold, h]

theorem EvRec.resetDone_iff (r : EvRec) : r.resetDone = true ↔ r.cls = 0x0C ∧ r.code = 0x9B := by
  simp [EvRec.resetDone]

/-- R399: the spill of a context's ring holds 512 records more, of severity 2 and 3, and that of a reset's end in any case. -/
theorem State.ringHold_spilled (hk : k ≠ devRing) (hfull : 16 ≤ (s.ring k).waiting.length)
    (h : ((s.ring k).waiting.length < 528 ∧ 2 ≤ r.sev) ∨ (r.cls = 0x0C ∧ r.code = 0x9B)) :
    s.ringHold k r = (s.setRing k { s.ring k with waiting := (s.ring k).waiting ++ [r] }).setFlag (rCpEvtStatus k) 2 true := by
  have hheld : (s.ring k).waiting.length < 16 ∨ (2 ≤ r.sev ∧ (s.ring k).waiting.length < 528) ∨ r.resetDone = true :=
    .inr (h.imp And.symm r.resetDone_iff.mpr)
  rw [State.ringHold, if_pos hheld, if_pos ⟨hfull, hk⟩]

/-- R399: a record of a context that finds no place is lost and counted. -/
theorem State.ringHold_lost (hk : k ≠ devRing) (hfull : 16 ≤ (s.ring k).waiting.length) (h : r.sev < 2 ∨ 528 ≤ (s.ring k).waiting.length)
    (hreset : ¬(r.cls = 0x0C ∧ r.code = 0x9B)) :
    s.ringHold k r =
      ((s.setRing k { s.ring k with lost := (s.ring k).lost + 1 }).setFlag (ringStatus k) 1 true).bump (rCpEvtLost k) 1 := by
  have hheld : ¬((s.ring k).waiting.length < 16 ∨ (2 ≤ r.sev ∧ (s.ring k).waiting.length < 528) ∨ r.resetDone = true) := by
    rw [r.resetDone_iff]
    omega
  rw [State.ringHold, if_neg hheld, if_neg hk]

end

/-- R15: where each field of a record stands. -/
theorem recBytes_layout (r : EvRec) (hcls : r.cls < 256) (hcode : r.code < 256) (hsev : r.sev < 256) (hsource : r.source < 65536)
    (hctx : r.ctx.getD 0xFFFF < 65536) :
    leAt (recBytes r) 0 8 = r.time.toNat ∧ leAt (recBytes r) 8 1 = r.cls ∧ leAt (recBytes r) 9 1 = r.code ∧ leAt (recBytes r) 10 1 = r.sev ∧
      leAt (recBytes r) 11 1 = r.gen % 256 ∧ leAt (recBytes r) 12 2 = r.source ∧ leAt (recBytes r) 14 2 = r.ctx.getD 0xFFFF ∧
      leAt (recBytes r) 16 48 = r.payload % 2 ^ 384 := by
  have htime : r.time.toNat < 2 ^ 64 := r.time.isLt
  simp only [recBytes_eq, EvRec.afterTime]
  refine ⟨?_, ?_, ?_, ?_, ?_, ?_, ?_, ?_⟩ <;> rw [leAt_bytesOf (by decide)] <;> omega

/-- Settles O43: the layout of R15, and the places in the order of R397 to R399. -/
theorem eventRecords : Obligations.EventRecords := by
  unfold Obligations.EventRecords
  refine ⟨fun r hcls hcode hsev hsource hctx => ⟨length_bytesOf 64 _, recBytes_layout r hcls hcode hsev hsource hctx⟩,
    fun s k r => ⟨fun pa hw hb hroom ha => State.ringPut_written hw hb hroom ha, fun hfull => ?_⟩⟩
  rw [State.ringPut_held hfull]
  exact ⟨State.ringHold_buffered, State.ringHold_spilled, State.ringHold_lost⟩

end Sys2Proof.Machine

/-!
Cold resets, the stages of bring-up, and remaps (14_bringup_repair R484 to R496, R502, R503; 16_package R554 to R557), and O57.
-/
namespace Sys2Proof.Machine

/-! A stop of every array: what a fault of one array leaves of every clock (R119, R557). -/

theorem State.modArr_gated (s : State) (p q : Nat) {f : ArrayState → ArrayState} (hf : ∀ a, (f a).gated = a.gated) :
    ((s.modArr p f).arr q).gated = (s.arr q).gated := by
  by_cases h : q = p
  · subst h; rw [State.arr_modArr_same, hf]
  · rw [State.arr_modArr_other _ _ h]

theorem State.dropReplays_gated (s : State) (p q : Nat) : ((s.dropReplays p).arr q).gated = (s.arr q).gated := by
  rw [State.dropReplays]
  refine List.foldlRecOn (motive := fun t => (State.arr t q).gated = (s.arr q).gated) _ _ rfl fun t ht i _ => ?_
  exact (t.modArr_gated i q (by intro; rfl)).trans ht

/-- R119: a fault of an array gates no clock and starts none. -/
theorem State.faultArr_gated (s : State) (p q : Nat) : ((s.faultArr p).arr q).gated = (s.arr q).gated := by
  rw [State.faultArr]
  refine List.foldlRecOn (motive := fun t => (State.arr t q).gated = (s.arr q).gated) _ _ ?_ fun t ht j _ => ht
  exact (State.modArr_gated _ p q (by intro; rfl)).trans (s.dropReplays_gated p q)

/-- Arrays stopped one after the other: each of them stands, and one that stood before still does. -/
theorem State.stopEach_gated {p : Nat} (l : List Nat) (s : State) (h : p ∈ l ∨ (s.arr p).gated = true) :
    ((l.foldl (fun s p => (s.faultArr p).modArr p (fun a => { a with gated := true })) s).arr p).gated = true := by
  induction l generalizing s with
  | nil => exact h.resolve_left List.not_mem_nil
  | cons q l ih =>
    refine ih _ ?_
    by_cases hq : p = q
    · subst hq; exact .inr (by rw [State.arr_modArr_same])
    · rw [State.arr_modArr_other _ _ hq, State.faultArr_gated]
      exact h.imp_left fun hp => (List.mem_cons.mp hp).resolve_left hq

theorem State.stopAll_gated (s : State) {p : Nat} (hp : p < 18) : (s.stopAll.arr p).gated = true :=
  State.stopEach_gated _ s (.inl (List.mem_range.mpr hp))

/-- R556, R557: a pulse of COLD_RST_L stops every array and takes the device down. -/
theorem execColdRstLAssert_stops (s : State) : ∃ u, execColdRstLAssert s = .next u ∧ u.power.down = 4 ∧ u.brp.ready = false ∧
    u.brp.thermTrip = false ∧ ∀ p < 18, (u.arr p).gated = true := by
  have hgated : ∀ p < 18, (s.stopAll.arr p).gated = true := fun p hp => s.stopAll_gated hp
  unfold execColdRstLAssert
  generalize s.stopAll = v at hgated ⊢
  exact ⟨_, rfl, rfl, rfl, rfl, hgated⟩

/-! Cold resets (R502, R554, R556). -/

/-- R502: a cold reset leaves of memory what lies on the hosts. -/
theorem State.coldReset_mem_host (s : State) : ∀ c ∈ s.coldReset.mem, ∃ off, s.place c.1 = .host off := by
  intro c hc
  have hhost : (match s.place c.1 with | .host _ => true | _ => false) = true := by
    unfold State.coldReset at hc
    split at hc <;> exact (List.mem_filter.mp hc).2
  split at hhost
  · exact ⟨_, ‹_›⟩
  · cases hhost

/-- R502: what stands through a cold reset, what it empties, and the memory that it leaves. The end of an ownership, which it enters in
the lifetime record, changes none of it. -/
theorem State.coldReset_leaves (s : State) :
    s.coldReset.fuses = s.fuses ∧ s.coldReset.mgt.slots = s.mgt.slots ∧ s.coldReset.mgt.recA = s.mgt.recA ∧
      s.coldReset.mgt.recB = s.mgt.recB ∧ s.coldReset.brp.log = s.brp.log ∧ s.coldReset.arrays = [] ∧ s.coldReset.cores = [] ∧
      s.coldReset.brp.badSites = s.brp.badSites ∧ s.coldReset.mgt.taken = s.mgt.taken ∧ s.coldReset.ctxs = [] ∧ s.coldReset.parts = [] ∧
      s.coldReset.rings = [] ∧ s.coldReset.now = 0#64 ∧ ∀ c ∈ s.coldReset.mem, ∃ off, s.place c.1 = .host off := by
  have hmem := s.coldReset_mem_host
  unfold State.coldReset at hmem ⊢
  dsimp only at hmem ⊢
  split at hmem
  · rw [if_pos ‹_›]
    exact ⟨rfl, rfl, rfl, rfl, rfl, rfl, rfl, rfl, rfl, rfl, rfl, rfl, rfl, hmem⟩
  · rw [if_neg ‹_›]
    exact ⟨rfl, rfl, rfl, rfl, rfl, rfl, rfl, rfl, rfl, rfl, rfl, rfl, rfl, hmem⟩

/-! The report of a stage (R488). -/

theorem leAt_append_left {a b : List Byte} {o n : Nat} (h : o + n ≤ a.length) : leAt (a ++ b) o n = leAt a o n := by
  have hdrop : (a ++ b).drop o = a.drop o ++ b := List.drop_append_of_le_length (by omega)
  have htake : (a.drop o ++ b).take n = (a.drop o).take n := List.take_append_of_le_length (by rw [List.length_drop]; omega)
  rw [leAt, leAt, sliceBytes, sliceBytes, hdrop, htake]

theorem leAt_append_right {a : List Byte} {o : Nat} (ha : a.length = o) (b : List Byte) (n : Nat) : leAt (a ++ b) o n = leAt b 0 n := by
  rw [leAt, leAt, sliceBytes, sliceBytes, List.drop_left' ha, List.drop_zero]

theorem leAt_cons_zero (b : Byte) (bs : List Byte) : leAt (b :: bs) 0 1 = b.toNat := by simp [leAt, sliceBytes, ofBytes]

theorem leAt_cons_succ (b : Byte) (bs : List Byte) (o n : Nat) : leAt (b :: bs) (o + 1) n = leAt bs o n := rfl

theorem length_flatMap_bytesOf (n : Nat) (l : List Nat) : (l.flatMap (bytesOf n)).length = n * l.length := by
  simp [List.length_flatMap, Nat.mul_comm]

/-- The data words of a report, of the stages that supply some. -/
def stageWords (e : StageEnd) (st : Nat) : List Nat :=
  if st = 3 ∨ st = 7 then (e.data ++ List.replicate 16 0).take 16 else List.replicate 16 0

theorem length_stageWords (e : StageEnd) (st : Nat) : (stageWords e st).length = 16 := by
  unfold stageWords
  split
  · rw [List.length_take_of_le (by rw [List.length_append, List.length_replicate]; omega)]
  · rw [List.length_replicate]

/-- A report up to the seam segments with a failed group. -/
def State.reportHead (s : State) (st r : Nat) (e : StageEnd) : List Byte :=
  [BitVec.ofNat 8 st, BitVec.ofNat 8 r, BitVec.ofNat 8 (s.fld rBrpStatus 24 23), BitVec.ofNat 8 (s.fld rBrpStatus 22 20)] ++
    bytesOf 4 e.micros ++ bytesOf 8 (if st < 4 then 0 else s.brp.began) ++ bytesOf 2 e.unit ++ bytesOf 2 e.detail ++
    bytesOf 4 e.location ++ s.repairTotals.flatMap (bytesOf 4) ++ (stageWords e st).flatMap (bytesOf 4) ++ bytesOf 4 e.arrays ++
    bytesOf 4 (packBits 18 (fun p => s.fld (rChkArray p) 31 30 == 3)) ++ bytesOf 4 e.dies ++
    bytesOf 4 (packBits 18 (fun k => s.offSites.contains k)) ++ bytesOf 4 e.ports

theorem State.length_reportHead (s : State) (st r : Nat) (e : StageEnd) : (s.reportHead st r e).length = 148 := by
  have htotals : s.repairTotals.length = 10 := rfl
  simp only [State.reportHead, List.length_append, length_bytesOf, length_flatMap_bytesOf, length_stageWords, htotals, List.length_cons,
    List.length_nil]

theorem State.reportHead_cons (s : State) (st r : Nat) (e : StageEnd) :
    ∃ bs, s.reportHead st r e = BitVec.ofNat 8 st :: BitVec.ofNat 8 r :: bs := ⟨_, rfl⟩

/-- A report without its check. -/
def State.reportBody (s : State) (st r segs : Nat) (e : StageEnd) : List Byte := s.reportHead st r e ++ bytesOf 2 segs ++ bytesOf 102 0

theorem State.length_reportBody (s : State) (st r segs : Nat) (e : StageEnd) : (s.reportBody st r segs e).length = 252 := by
  rw [State.reportBody, List.length_append, List.length_append, s.length_reportHead, length_bytesOf, length_bytesOf]

theorem State.report_eq (s : State) (st r segs : Nat) (e : StageEnd) :
    s.report st r segs e = s.reportBody st r segs e ++ bytesOf 4 (crc32c (s.reportBody st r segs e)) := rfl

/-- A field of a report among its first 148 bytes. -/
theorem State.leAt_report_head (s : State) (st r segs : Nat) (e : StageEnd) {o n : Nat} (h : o + n ≤ 148) :
    leAt (s.report st r segs e) o n = leAt (s.reportHead st r e) o n := by
  have hhead := s.length_reportHead st r e
  rw [s.report_eq, leAt_append_left (by rw [s.length_reportBody]; omega), State.reportBody, List.append_assoc, leAt_append_left (by omega)]

/-- R488: where the fields that each report has stand, and its check. -/
theorem State.report_layout (s : State) (st r segs : Nat) (e : StageEnd) :
    (s.report st r segs e).length = 256 ∧ leAt (s.report st r segs e) 252 4 = crc32c ((s.report st r segs e).take 252) ∧
      leAt (s.report st r segs e) 0 1 = st % 256 ∧ leAt (s.report st r segs e) 1 1 = r % 256 ∧
      leAt (s.report st r segs e) 148 2 = segs % 65536 := by
  have hbody := s.length_reportBody st r segs e
  obtain ⟨bs, hbs⟩ := s.reportHead_cons st r e
  refine ⟨?_, ?_, ?_, ?_, ?_⟩
  · rw [s.report_eq, List.length_append, hbody, length_bytesOf]
  · have hcrc := crc32c_lt (s.reportBody st r segs e)
    rw [s.report_eq, leAt_append_right hbody, List.take_left' hbody, leAt_bytesOf (by decide)]
    omega
  · rw [s.leAt_report_head _ _ _ _ (by decide), hbs, leAt_cons_zero, BitVec.toNat_ofNat]
  · rw [s.leAt_report_head _ _ _ _ (by decide), hbs, leAt_cons_succ, leAt_cons_zero, BitVec.toNat_ofNat]
  · rw [s.report_eq, leAt_append_left (by omega), State.reportBody, List.append_assoc, leAt_append_right (s.length_reportHead st r e),
      leAt_append_left (by rw [length_bytesOf]), leAt_bytesOf (by decide)]
    omega

/-! Seam training with one or two failed lanes of a group (R21, R484). -/

section
variable {s : State} {x y : SeamLane}

/-- R21: a lane that fails alone takes its group's spare. -/
theorem State.seamFails_one (hspare : s.brp.seamSpares.contains (seamKey x) = false) : s.seamFails [x] = [] := by
  simpa [State.seamFails] using hspare

/-- R484: the one failed lane of a group is mapped out: the stage passes with repair at best. -/
theorem State.seamsTrained_one (hspare : s.brp.seamSpares.contains (seamKey x) = false) (r : Nat) :
    (s.seamsTrained [x] r).2 = Nat.max 1 r := by
  simp [State.seamsTrained, State.seamFails_one hspare]

/-- R21: a group with two failed lanes fails, its spare used or not. -/
theorem State.seamFails_two (hxy : seamKey y = seamKey x) : s.seamFails [x, y] = [x] := by
  simp [State.seamFails, List.eraseDups_cons, hxy]

/-- R21: two failed lanes of a group of no trunk link's bundle fail the stage. -/
theorem State.seamsTrained_two_unlinked (hxy : seamKey y = seamKey x) (hx : x.link = none) (r : Nat) :
    (s.seamsTrained [x, y] r).2 = 3 := by
  simp [State.seamsTrained, State.seamFails_two hxy, hx]

/-- R21: two failed lanes of a group of a trunk link's bundle degrade the stage. -/
theorem State.seamsTrained_two_linked (hxy : seamKey y = seamKey x) (hx : x.link ≠ none) (r : Nat) :
    (s.seamsTrained [x, y] r).2 = Nat.max 2 r := by
  obtain ⟨k, hk⟩ := Option.ne_none_iff_exists'.mp hx
  simp [State.seamsTrained, State.seamFails_two hxy, hk, hxy]

end

/-! The end of a stage (R484, R488, R503, R537). -/

/-- The seam groups that a stage failed on: of stage 5 alone. -/
def State.stageBad (s : State) (e : StageEnd) : List SeamLane := if s.fld rBrpStatus 31 28 = 5 then s.seamFails e.lanes else []

/-- What a stage ended with, at the place of the first seam group that failed. -/
def locatedAt (bad : List SeamLane) (e : StageEnd) : StageEnd :=
  match bad with | y :: _ => { e with location := y.seg.val + 256 * y.bundle.toNat } | [] => e

/-- The work of a stage with its report, and the next stage's start: a stage 0 that fails writes no report. -/
def State.stageReported (u : State) (t : DWord) (st r : Nat) (bad : List SeamLane) (x : StageEnd) : State :=
  let rep := u.report st (Nat.min 3 r) (packBits 12 (fun g => bad.any (fun y => y.seg.val == g))) x
  let v := if st = 0 ∧ r = 3 then u else ({ u with brp := { u.brp with reports := tblPut u.brp.reports st rep } }).lifeAdd 0x02 rep
  { v with brp := { v.brp with began := t.toNat } }

/-- A failed stage: recovery mode stands, a trial boot restarts cold, and else MGT_STATUS shows the failure. -/
def State.stageFailed (w : State) (unit detail : Nat) : State :=
  let f := w.bringupFail unit detail
  if f.fld rMgtStatus 31 28 = 4 then f else if f.flag rMgtStatus 27 then f.trialFails else f.setFld rMgtStatus 31 28 5

/-- What follows a stage that passed: recovery mode stops at stage 1, stage 11 makes the device ready, and else a stage follows: after
a device reset (state 3) stages 10 and 11 alone. -/
def State.stagePassed (w : State) (st state : Nat) : State :=
  if st = 1 ∧ w.fld rMgtStatus 31 28 = 4 then w
  else if st = 11 then w.ready
  else w.setFld rBrpStatus 31 28 (if state = 3 then (if st = 6 then 10 else 11) else st + 1)

section
variable {s u : State} {t : DWord} {e : StageEnd} {r : Nat}

/-- R484: no stage ends on a device that is down, ready, failed, or in recovery mode. -/
theorem execBringupStageEnd_idle (h : s.power.down ≠ 0 ∨ s.fld rBrpStatus 27 25 = 1 ∨ s.fld rBrpStatus 27 25 = 2 ∨
    (s.fld rMgtStatus 31 28 = 4 ∧ s.fld rBrpStatus 31 28 = 1)) : execBringupStageEnd t e s = .next s := by
  have hidle : s.power.down ≠ 0 ∨ (!(s.fld rBrpStatus 27 25 = 0 ∨ s.fld rBrpStatus 27 25 = 3)) = true ∨
      (s.fld rMgtStatus 31 28 = 4 ∧ s.fld rBrpStatus 31 28 = 1) := by
    obtain h | h | h | h := h
    · exact .inl h
    · exact .inr (.inl (by rw [h]; rfl))
    · exact .inr (.inl (by rw [h]; rfl))
    · exact .inr (.inr h)
  exact congrArg Host.Outcome.next (if_pos hidle)

/-- R484: a stage that ends: its work, its report, and one of three continuations by its result. -/
theorem execBringupStageEnd_runs (hdown : s.power.down = 0) (hstate : s.fld rBrpStatus 27 25 = 0 ∨ s.fld rBrpStatus 27 25 = 3)
    (hrec : ¬(s.fld rMgtStatus 31 28 = 4 ∧ s.fld rBrpStatus 31 28 = 1))
    (hwork : s.stageWork (s.fld rBrpStatus 31 28) (locatedAt (s.stageBad e) e) = (u, r)) :
    let x := locatedAt (s.stageBad e) e
    let w := u.stageReported t (s.fld rBrpStatus 31 28) r (s.stageBad e) x
    execBringupStageEnd t e s = .next (if r = 3 then w.stageFailed x.unit x.detail else if 4 ≤ r then w.bringupRestart x.unit x.detail
      else w.stagePassed (s.fld rBrpStatus 31 28) (s.fld rBrpStatus 27 25)) := by
  have hrun : ¬(s.power.down ≠ 0 ∨ (!(s.fld rBrpStatus 27 25 = 0 ∨ s.fld rBrpStatus 27 25 = 3)) = true ∨
      (s.fld rMgtStatus 31 28 = 4 ∧ s.fld rBrpStatus 31 28 = 1)) := by simp [hdown, hstate, hrec]
  have hu : u = (s.stageWork (s.fld rBrpStatus 31 28) (locatedAt (s.stageBad e) e)).1 := by rw [hwork]
  have hr : r = (s.stageWork (s.fld rBrpStatus 31 28) (locatedAt (s.stageBad e) e)).2 := by rw [hwork]
  subst hu hr
  exact congrArg Host.Outcome.next (if_neg hrun)

end

section
variable {w : State} {unit detail st state : Nat}

theorem State.stageFailed_recovery (h : (w.bringupFail unit detail).fld rMgtStatus 31 28 = 4) :
    w.stageFailed unit detail = w.bringupFail unit detail := if_pos h

theorem State.stageFailed_trial (h : (w.bringupFail unit detail).fld rMgtStatus 31 28 ≠ 4)
    (ht : (w.bringupFail unit detail).flag rMgtStatus 27 = true) :
    w.stageFailed unit detail = (w.bringupFail unit detail).trialFails := (if_neg h).trans (if_pos ht)

theorem State.stageFailed_shown (h : (w.bringupFail unit detail).fld rMgtStatus 31 28 ≠ 4)
    (ht : (w.bringupFail unit detail).flag rMgtStatus 27 = false) :
    w.stageFailed unit detail = (w.bringupFail unit detail).setFld rMgtStatus 31 28 5 :=
  (if_neg h).trans (if_neg (Bool.eq_false_iff.mp ht))

theorem State.stagePassed_recovery (hst : st = 1) (h : w.fld rMgtStatus 31 28 = 4) : w.stagePassed st state = w := if_pos ⟨hst, h⟩

theorem State.stagePassed_last (hst : st = 11) : w.stagePassed st state = w.ready := (if_neg (by omega)).trans (if_pos hst)

theorem State.stagePassed_next (hst : st < 11) (h : ¬(st = 1 ∧ w.fld rMgtStatus 31 28 = 4)) (hstate : state = 0) :
    w.stagePassed st state = w.setFld rBrpStatus 31 28 (st + 1) := by
  rw [State.stagePassed, if_neg h, if_neg (by omega), if_neg (by omega)]

/-- R503: after a device reset, stage 10 follows stage 6. -/
theorem State.stagePassed_reset (hst : st = 6 ∨ st = 10) (hstate : state = 3) :
    w.stagePassed st state = w.setFld rBrpStatus 31 28 (if st = 6 then 10 else 11) := by
  rw [State.stagePassed, if_neg (by omega), if_neg (by omega), if_pos hstate]

end

/-! Restarts from stage 2 (R484). -/

section
variable {s : State} {unit detail : Nat}

theorem State.bringupRestart_again (h : s.fld rBrpStatus 22 20 < 4) :
    s.bringupRestart unit detail = ((s.setFld rBrpStatus 22 20 (s.fld rBrpStatus 22 20 + 1)).setFld rBrpStatus 31 28 2).brpEvent 0xA2 0
      (brpPayload (s.fld rBrpStatus 31 28) 0 unit detail 0 0xFF 0xFF) := if_neg (Nat.not_le.mpr h)

theorem State.bringupRestart_fifth (h : 4 ≤ s.fld rBrpStatus 22 20) : s.bringupRestart unit detail = s.bringupFail unit detail := if_pos h

end

/-! Remaps (R26, R353, R496). -/

theorem execRemapStart_ready {s : State} {p : ArrayId} {q n : Nat} (hq : s.remapReady p.val = some q) (hn : s.logOf p.val = some n) :
    let u := (s.wake q).arrayGen q
    execRemapStart p s = .next ({ u with brp := { u.brp with
      remaps := u.brp.remaps ++ [Remap.mk n p.val q ((tblFind u.integ.want p.val).getD 1)] } }.modArr p.val
        (fun a => { a with gated := true })) := by
  simp only [execRemapStart, hq, hn]

/-- R496: a remap that quarantines nothing, to a spare that is sound. -/
theorem execRemapMapSwitch_sound {s : State} {p : ArrayId} {r : Remap} (hr : s.brp.remaps.find? (fun r => r.src == p.val) = some r)
    (hwhy : r.why ≠ 2) (hhalted : (s.arr r.dst).halted = false) (hmode : s.fld (rChkArray r.dst) 31 30 = 0) :
    let u := ({ s with brp := { s.brp with remaps := s.brp.remaps.filter (fun x => x.src != p.val) } }.modArr p.val
      (fun a => { a with gated := decide (s.power.down ≠ 0) })).switchMap r
    execRemapMapSwitch p s = .next ((((({ u with integ := { u.integ with want := tblDel u.integ.want p.val } }.setFlag (rChkArray p.val) 28
      false).logAdd 0x03 5 0 [r.logical, r.dst]).runWaits p.val).showSpares)) := by
  have hsound : ((s.arr r.dst).halted || s.fld (rChkArray r.dst) 31 30 != 0) = false := by simp [hhalted, hmode]
  simp only [execRemapMapSwitch, hr, hsound, if_neg hwhy, Bool.false_eq_true, if_false]

/-- Settles O57: what a cold reset leaves, the starts of bring-up, the end of a stage by its result, the layout of a report, and remaps. -/
theorem bringupEvents : Obligations.BringupEvents := by
  unfold Obligations.BringupEvents
  intro s t e
  refine ⟨s.coldReset_leaves, exec_powerOn s, execColdRstLAssert_stops s, ?_, ?_,
    execBringupStageEnd_idle, ?_, fun x y hspare => ⟨State.seamFails_one hspare, State.seamsTrained_one hspare _, fun hxy =>
      ⟨State.seamFails_two hxy, fun hx => State.seamsTrained_two_unlinked hxy hx _,
        fun hx => State.seamsTrained_two_linked hxy hx _⟩⟩,
    State.bringupRestart_again, State.bringupRestart_fifth, fun st r g => s.report_layout st r g e,
    fun p q n hq hn => execRemapStart_ready hq hn, fun p r hr hwhy _ hhalted hmode => execRemapMapSwitch_sound hr hwhy hhalted hmode⟩
  · intro slotId recov hdown
    exact congrArg Host.Outcome.next (if_pos hdown)
  · intro x hx hdue
    rw [exec_coldResetDelayExpiry, execColdResetDelayExpiry, hx]
    exact congrArg Host.Outcome.next (if_pos hdue)
  · intro u st r hdown hst hstate hrec bad x hwork rep v w f
    subst hst
    have hruns : exec (.bringupStageEnd t e) s = .next (if r = 3 then w.stageFailed x.unit x.detail
        else if 4 ≤ r then w.bringupRestart x.unit x.detail
        else w.stagePassed (s.fld rBrpStatus 31 28) (s.fld rBrpStatus 27 25)) :=
      execBringupStageEnd_runs hdown hstate hrec hwork
    have hpassed (hr : r < 3) : exec (.bringupStageEnd t e) s = .next (w.stagePassed (s.fld rBrpStatus 31 28) (s.fld rBrpStatus 27 25)) := by
      rw [hruns, if_neg (by omega), if_neg (by omega)]
    have hfailed (hr : r = 3) : exec (.bringupStageEnd t e) s = .next (w.stageFailed x.unit x.detail) := by rw [hruns, if_pos hr]
    refine ⟨fun hr hlast hboot h0 => ?_, fun hr hreset h3 => ?_, fun hr h1 hboot => ?_, fun hr hlast => ?_, fun hr hf => ?_,
      fun hr hf ht => ?_, fun hr hf ht => ?_, fun hr => ?_⟩
    · rw [hpassed hr, State.stagePassed_next hlast hboot h0]
    · rw [hpassed hr, State.stagePassed_reset hreset h3]
    · rw [hpassed hr, State.stagePassed_recovery h1 hboot]
    · rw [hpassed hr, State.stagePassed_last hlast]
    · rw [hfailed hr, State.stageFailed_recovery hf]
    · rw [hfailed hr, State.stageFailed_trial hf ht]
    · rw [hfailed hr, State.stageFailed_shown hf ht]
    · rw [hruns, if_neg (by omega), if_pos hr]

end Sys2Proof.Machine

/-!
Reads of checked words touch no array (07_memory R236, R248): what a transfer's read leaves of the arrays.
-/
namespace Sys2Proof.Machine

@[simp] theorem State.post_arrays (s : State) (ctx : Option Nat) (copy : Bool) (cls code sev source payload : Nat) :
    (s.post ctx copy cls code sev source payload).arrays = s.arrays := (State.SameBody.post ..).arrays

@[simp] theorem State.postDev_arrays (s : State) (cls code sev source payload : Nat) :
    (s.postDev cls code sev source payload).arrays = s.arrays := (State.SameBody.postDev ..).arrays

@[simp] theorem State.brpEvent_arrays (s : State) (code sev payload : Nat) : (s.brpEvent code sev payload).arrays = s.arrays :=
  s.postDev_arrays ..

@[simp] theorem State.logAdd_arrays (s : State) (kind reason stage : Nat) (target : List Nat) :
    (s.logAdd kind reason stage target).arrays = s.arrays := by
  unfold State.logAdd
  extract_lets log e
  split
  · simp
  · rfl

@[simp] theorem State.markRetire_arrays (s : State) (pc : Nat) : (s.markRetire pc).arrays = s.arrays := by
  rw [State.markRetire]
  split <;> simp

@[simp] theorem State.hbmError_arrays (s : State) (pa : Nat) (unc : Bool) : (s.hbmError pa unc).arrays = s.arrays := by
  unfold State.hbmError
  extract_lets pc h now keep line put u v c
  have hput : ∀ x : HbmPc, (put s x).arrays = s.arrays := fun _ => rfl
  split
  · split
    · exact (State.markRetire_arrays ..).trans (hput _)
    · exact hput _
  · split
    · exact hput _
    · split
      · simp [hput]
      · exact (State.markRetire_arrays ..).trans (hput _)

@[simp] theorem State.bumpMem_arrays (s : State) (pa : Nat) (unc : Bool) : (s.bumpMem pa unc).arrays = s.arrays := by
  rw [State.bumpMem]
  split
  · split <;> simp
  · split <;> simp
  · simp
  · rfl

@[simp] theorem State.rateLimit_arrays (s : State) (unit : Nat) : (s.rateLimit unit).2.arrays = s.arrays := by
  rw [State.rateLimit]
  split <;> rfl

@[simp] theorem State.readCheck_arrays (s : State) (ctx : Option Nat) (pa : Nat) : (s.readCheck ctx pa).arrays = s.arrays := by
  rw [State.readCheck]
  split
  · rfl
  · rfl
  · extract_lets t
    have ht : (t.rateLimit (t.limitUnit pa)).2.arrays = s.arrays := by simp [t]
    generalize t.rateLimit (t.limitUnit pa) = r at ht ⊢
    obtain ⟨_ | n, u⟩ := r
    · exact ht
    · exact (State.post_arrays ..).trans ht
  · simp

@[simp] theorem State.readRanges_arrays (s : State) (ctx : Option Nat) (rs : List (Nat × Nat)) : (s.readRanges ctx rs).arrays = s.arrays := by
  rw [State.readRanges]
  refine List.foldlRecOn (motive := fun t : State => t.arrays = s.arrays) _ _ rfl fun t ht r _ => ?_
  rw [State.readChecks]
  exact List.foldlRecOn (motive := fun u : State => u.arrays = s.arrays) _ _ ht fun u hu w _ => (u.readCheck_arrays ctx w).trans hu

@[simp] theorem State.readRanges_arr (s : State) (ctx : Option Nat) (rs : List (Nat × Nat)) (p : Nat) :
    (s.readRanges ctx rs).arr p = s.arr p := by
  rw [State.arr, State.readRanges_arrays, ← State.arr]

end Sys2Proof.Machine

/-!
The entries of the array queue (03_array_mode R80 to R89, R91, R101 to R106, R128, R205, R210): what each event does once nothing holds the
array back, and O31.
-/
namespace Sys2Proof.Machine

/-- An array whose queue nothing holds back: its clock runs, no switch saves it, and no replay, restart, core-mode run, stream of rows or
stalled unit is in the way. -/
structure State.QueueFree (s : State) (p : Nat) : Prop where
  runs : (s.arr p).runs = true
  replay : s.replayOn p = false
  stopping : s.stopping p = false
  restarts : (s.arr p).restarts = []
  running : (s.arr p).run.running = false
  frozen : (s.arr p).run.frozen = false
  streams : (s.arr p).streams = false
  stalled : ∀ n, s.unitStalled p n = false

theorem ArrayState.not_streaming_of_mem {a : ArrayState} (h : a.streams = false) : ∀ t ∈ a.tiles, t.streaming = false := by
  simpa [ArrayState.streams] using h

theorem ArrayState.fp32Streams_of_not_streams {a : ArrayState} (h : a.streams = false) : a.fp32Streams = false := by
  have hstill := a.not_streaming_of_mem h
  rw [ArrayState.fp32Streams, List.any_eq_false]
  exact fun t ht => by simp [hstill t ht]

theorem ArrayState.northStreams_of_not_streams {a : ArrayState} (h : a.streams = false) : a.northStreams = false := by
  have hstill := a.not_streaming_of_mem h
  rw [ArrayState.northStreams, List.any_eq_false]
  exact fun t ht => by simp [hstill t ht]

/-! A transfer into a set ends (R77, R87, R232, R357). -/

/-- The sets of an array that a block has entered (R77, R87, R357). -/
def ArrayState.filled (a : ArrayState) (shadow : Bool) (f : Fmt) (b : Block) : ArrayState :=
  { a with
    feed := none
    active := if shadow then a.active else some b
    shadow := if shadow then some b else if f = .fp32 then none else a.shadow
    fp32Pair := if shadow then a.fp32Pair else f == .fp32
    ctrl := { a.ctrl with wdig := mix64 (a.ctrl.wdig ^^^ b.digest) } }

/-- R87: a load with no park slot whose words are good fills its set. -/
theorem State.loadDone_fills {s u : State} {p : Nat} {shadow : Bool} {dW : BitVec 512} {slot scale : Nat} {ph : List (Nat × Nat)}
    (hph : ph = s.physRanges (s.unitAcc p (s.arr p).ctrl.ctx .read) (blockRanges (descOf dW) (fmtOr (descOf dW).code)))
    (hu : u = s.readRanges (some (s.arr p).ctrl.ctx) ph) (hgood : u.firstBad ph = none) :
    s.loadDone p shadow dW false slot scale = (u.modArr p (fun a => a.filled shadow (fmtOr (descOf dW).code)
      (u.readBlock p a.ctrl.ctx a.ctrl.gen dW (fmtOr (descOf dW).code) ph))).advanceQ p := by
  subst hph hu
  simp only [State.loadDone, hgood, State.modArr, State.readRanges_arr, Bool.false_eq_true, if_false, Bool.false_and]
  simp [ArrayState.filled, wdigAdd]

/-- R232: a load that meets a bad word ends in poison. -/
theorem State.loadDone_poisoned {s u : State} {p : Nat} {shadow : Bool} {dW : BitVec 512} {slot scale pa : Nat} {ph : List (Nat × Nat)}
    (hph : ph = s.physRanges (s.unitAcc p (s.arr p).ctrl.ctx .read) (blockRanges (descOf dW) (fmtOr (descOf dW).code)))
    (hu : u = s.readRanges (some (s.arr p).ctrl.ctx) ph) (hbad : u.firstBad ph = some pa) :
    s.loadDone p shadow dW false slot scale = u.flintPoison p 1 1 0 pa := by
  subst hph hu
  simp only [State.loadDone, hbad]

theorem any_held_of_nil {l : List Tile} (h : ∀ t ∈ l, t.held = []) (f : Region → Bool) : l.any (fun t => t.held.any f) = false := by
  rw [List.any_eq_false]
  exact fun t ht => by simp [h t ht]

section
variable {p : ArrayId} {s : State} {e : QEntry} {es : List QEntry} (h : s.QueueFree p.val)

/-! Transfers into a set and unparks (R77, R87, R88, R91, R205). -/

/-- The state once a load or load.s has started: its sets are open, its park slot is empty, and the north feed serves it. -/
def State.loadStarted (s : State) (p : Nat) (e : QEntry) (shadow : Bool) (f : Fmt) (park : Bool) (slot : Nat) : State :=
  let u := (s.popAq p).modArr p (fun a => { (if shadow then a.openShadow else a.openActive f) with
    feed := some e, park := if park then tblDel a.park slot else a.park })
  (if park then u.setOcc p slot false else u).advanceQ p

include h in
theorem execNorthFeedTransferStart_load {shadow park : Bool} {dW : BitVec 512} {slot scale : Nat} (haq : (s.arr p.val).aq = e :: es)
    (hop : e.op = .load shadow dW park slot scale) (hfeed : (s.arr p.val).feed = none) :
    execNorthFeedTransferStart p s = .next (s.loadStart p.val e shadow dW park slot) := by
  simp [execNorthFeedTransferStart, haq, hop, hfeed, h.runs, h.running, h.replay, h.restarts]

include h in
theorem execNorthFeedTransferStart_unpark {slot scale : Nat} (haq : (s.arr p.val).aq = e :: es) (hop : e.op = .unpark slot scale)
    (hfeed : (s.arr p.val).feed = none) : execNorthFeedTransferStart p s = .next (s.unparkStart p.val e slot scale) := by
  simp [execNorthFeedTransferStart, haq, hop, hfeed, h.runs, h.running, h.replay, h.restarts]

include h in
/-- R87, R88: a load whose block can be read now starts. -/
theorem State.loadStart_starts {shadow park : Bool} {dW : BitVec 512} {slot : Nat}
    (hedge : s.firstEdgeFault p.val (s.unitAcc p.val (s.arr p.val).ctrl.ctx .read) (blockRanges (descOf dW) (fmtOr (descOf dW).code)) = none)
    (hfree : (s.physRanges (s.unitAcc p.val (s.arr p.val).ctrl.ctx .read) (blockRanges (descOf dW) (fmtOr (descOf dW).code))).any
      (fun r => s.uncommittedHit r.1 r.2) = false)
    (hheld : park = true → ∀ t ∈ s.tilesAt (slateBase ((s.logOf p.val).getD 0 * 65536)), t.held = []) :
    s.loadStart p.val e shadow dW park slot = s.loadStarted p.val e shadow (fmtOr (descOf dW).code) park slot := by
  have hidle : (if shadow then (s.arr p.val).fp32Streams else (s.arr p.val).streams) = false := by
    split
    · exact ArrayState.fp32Streams_of_not_streams h.streams
    · exact h.streams
  have hslot (f : Region → Bool) :
      (park && (s.tilesAt (slateBase ((s.logOf p.val).getD 0 * 65536))).any (fun t => t.held.any f)) = false :=
    Bool.and_eq_false_imp.mpr fun hpark => any_held_of_nil (hheld hpark) f
  rw [State.loadStart]
  simp only [hidle, ArrayState.northStreams_of_not_streams h.streams, h.stalled, hedge, hfree, hslot, Bool.false_eq_true, or_self, if_false]
  cases shadow <;> rfl

include h in
/-- R205: an unpark of the context's own slot starts once the slot's scales can be read. -/
theorem State.unparkStart_starts {slot scale : Nat} {b : Block} (hb : tblFind (s.arr p.val).park slot = some b)
    (howned : b.owned (s.arr p.val).ctrl = true)
    (hedge : s.firstEdgeFault p.val (s.unitAcc p.val (s.arr p.val).ctrl.ctx .read) (scaleRanges scale b) = none)
    (hfree : (s.physRanges (s.unitAcc p.val (s.arr p.val).ctrl.ctx .read) (scaleRanges scale b)).any
      (fun r => s.uncommittedHit r.1 r.2) = false) :
    s.unparkStart p.val e slot scale = ((s.popAq p.val).modArr p.val (fun a => { a.openShadow with feed := some e })).advanceQ p.val := by
  rw [State.unparkStart]
  simp [hb, howned, hedge, hfree, h.stalled, ArrayState.fp32Streams_of_not_streams h.streams, ArrayState.northStreams_of_not_streams h.streams]

include h in
/-- R91: an unpark of an empty slot, or of another owner's, takes the stationary-absent fault. -/
theorem State.unparkStart_absent {slot scale : Nat} (hb : ∀ b, tblFind (s.arr p.val).park slot = some b → b.owned (s.arr p.val).ctrl = false) :
    s.unparkStart p.val e slot scale = (s.popAq p.val).entryFault p.val e 0x85 3 (sA e.w0) 0 := by
  rw [State.unparkStart, if_neg (by simp [h.stalled, ArrayState.fp32Streams_of_not_streams h.streams,
    ArrayState.northStreams_of_not_streams h.streams])]
  cases hslot : tblFind (s.arr p.val).park slot with
  | none => rfl
  | some b => simp [hb b hslot]

include h in
theorem execNorthFeedTransferComplete_load {shadow park : Bool} {dW : BitVec 512} {slot scale : Nat} (hfeed : (s.arr p.val).feed = some e)
    (hop : e.op = .load shadow dW park slot scale) :
    execNorthFeedTransferComplete p s = .next (s.loadDone p.val shadow dW park slot scale) := by
  simp [execNorthFeedTransferComplete, hfeed, hop, h.runs]

include h in
theorem execNorthFeedTransferComplete_unpark {slot scale : Nat} (hfeed : (s.arr p.val).feed = some e) (hop : e.op = .unpark slot scale) :
    execNorthFeedTransferComplete p s = .next (s.unparkDone p.val slot scale) := by
  simp [execNorthFeedTransferComplete, hfeed, hop, h.runs]

/-! Swap tokens (R81, R89, R91, R206). -/

include h in
/-- R206: the sets change places. -/
theorem execSwapTokenStart_swaps {b : Block} (haq : (s.arr p.val).aq = e :: es) (hop : e.op = .swap)
    (hshadow : (s.arr p.val).fillsShadow = false) (hactive : (s.arr p.val).fillsActive = false) (hb : (s.arr p.val).shadow = some b)
    (hpair : (s.arr p.val).fp32Pair = false) (howned : b.owned (s.arr p.val).ctrl = true) :
    execSwapTokenStart p s =
      .next (((s.popAq p.val).modArr p.val (fun a => { a with active := a.shadow, shadow := a.active })).advanceQ p.val) := by
  simp [execSwapTokenStart, haq, hop, hshadow, hactive, hb, hpair, howned, h.runs, h.stopping, h.streams, h.running, h.replay, h.restarts]

include h in
/-- R91, R206: a swap with no block of its context to bring in takes its fault. -/
theorem execSwapTokenStart_faults (haq : (s.arr p.val).aq = e :: es) (hop : e.op = .swap)
    (hshadow : (s.arr p.val).fillsShadow = false) (hactive : (s.arr p.val).fillsActive = false)
    (hno : (s.arr p.val).shadow = none ∨ (s.arr p.val).fp32Pair = true ∨
      ∀ b, (s.arr p.val).shadow = some b → b.owned (s.arr p.val).ctrl = false) :
    execSwapTokenStart p s = .next ((s.popAq p.val).entryFault p.val e 0x85 2 0xFF 0) := by
  have hfault (b : Block) (hb : (s.arr p.val).shadow = some b) : ((s.arr p.val).fp32Pair || !b.owned (s.arr p.val).ctrl) = true := by
    obtain hnone | hpair | howned := hno
    · rw [hnone] at hb; cases hb
    · rw [hpair, Bool.true_or]
    · rw [howned b hb, Bool.not_false, Bool.or_true]
  cases hb : (s.arr p.val).shadow with
  | none => simp [execSwapTokenStart, haq, hop, hshadow, hactive, hb, h.runs, h.stopping, h.streams, h.running, h.replay, h.restarts]
  | some b =>
    simp [execSwapTokenStart, haq, hop, hshadow, hactive, hb, hfault b hb, h.runs, h.stopping, h.streams, h.running, h.replay, h.restarts]

/-! Passes (R80, R86, R87, R101, R104). -/

include h in
theorem execPassStart_pass {op : PassOp} (haq : (s.arr p.val).aq = e :: es) (hop : e.op = .pass op) (hlaunch : e.launch = none)
    (hfeed : op.trans = true → (s.arr p.val).feed = none) (hactive : (s.arr p.val).fillsActive = false)
    (hway : (s.arr p.val).otherWay op.trans = false) : execPassStart p s = .next (s.passStart p.val e op) := by
  have hnorth : (op.trans && (s.arr p.val).feed.isSome) = false :=
    Bool.and_eq_false_imp.mpr fun htrans => by rw [hfeed htrans]; rfl
  simp [execPassStart, haq, hop, hlaunch, hnorth, hactive, hway, h.runs, h.stopping, h.streams, h.running, h.replay, h.restarts, h.stalled]

end

section
variable {s : State} {p : Nat} {e : QEntry} {op : PassOp} {acc : Accessor} {rows : Nat}
  (hacc : acc = s.unitAcc p (s.arr p).ctrl.ctx .read)
  (htable : s.firstEdgeFault p acc ((descOf op.dA).tableRange 0) = none)
  (hrows : rows = Nat.min op.rows (s.actualLen acc (descOf op.dA) 0 0).2)
include hacc htable hrows

/-- R86: a pass with no row is skipped. -/
theorem State.passStart_skips (h0 : rows = 0) : s.passStart p e op = ((s.popAq p).lateCheck p e).advanceQ p := by
  subst hacc hrows
  simp only [State.passStart, htable, h0, if_true]

/-- R101: a pass waits for a slot. -/
theorem State.passStart_waits (h0 : rows ≠ 0) (hgroup : (s.arr p).groupSlot = none) (hslot : (s.arr p).freeSlot = none) :
    s.passStart p e op = s := by
  subst hacc hrows
  simp only [State.passStart, htable, if_neg h0, hgroup, hslot]

/-- R204, R208: a pass that a check of its start refuses. -/
theorem State.passStart_faults {i : Nat} {f : Nat × Nat × Nat} (h0 : rows ≠ 0) (hgroup : (s.arr p).groupSlot = none)
    (hslot : (s.arr p).freeSlot = some i) (hopen : ((s.arr p).tile i).openGroup = false) (hf : s.passStartFault p e op [] rows = some f) :
    s.passStart p e op = (s.popAq p).entryFault p e f.1 f.2.1 f.2.2 0 := by
  subst hacc hrows
  simp only [State.passStart, htable, if_neg h0, hgroup, hslot, hopen, Bool.false_eq_true, if_false, hf]

/-- R80, R104: a pass that its start's checks pass begins to stream in the free slot. -/
theorem State.passStart_streams {i cols : Nat} {b : Block} {inA inI dst : List (Nat × Nat)} (h0 : rows ≠ 0)
    (hgroup : (s.arr p).groupSlot = none) (hslot : (s.arr p).freeSlot = some i) (hopen : ((s.arr p).tile i).openGroup = false)
    (hb : (s.arr p).active = some b) (hf : s.passStartFault p e op [] rows = none) (hcols : cols = if op.trans then b.k else b.n)
    (hinA : inA = s.actRanges p (s.arr p).ctrl.ctx op rows)
    (hinI : inI = if op.drain.acc = 0 then [] else tileRanges (descOf op.drain.dI) .record rows cols)
    (hdst : dst = tileRanges (descOf op.drain.dO) op.drain.fmt rows cols)
    (hA : s.firstEdgeFault p acc inA = none) (hI : s.firstEdgeFault p acc inI = none)
    (hO : s.firstFault (s.unitAcc p (s.arr p).ctrl.ctx .write) dst = none)
    (hforeign : s.foreignUncommitted p (s.arr p).ctrl.ctx (s.physRanges acc (inA ++ inI)) = false) :
    s.passStart p e op = (s.softStart p).passStream p i e op b rows (s.physRanges acc (inA ++ inI))
      (s.physRanges (s.unitAcc p (s.arr p).ctrl.ctx .write) dst) := by
  subst hacc hrows hcols hinA hinI hdst
  simp only [State.passStart, htable, if_neg h0, hgroup, hslot, hopen, Bool.false_eq_true, if_false, hf, hb, List.foldl_nil, hA, hI, hO, hforeign]

end

/-! Gang configurations and core-mode runs (R128, R210). -/

theorem execGangCfgEffect_takes {p : ArrayId} {s : State} {e : QEntry} {es : List QEntry} {g : GangSet} (hruns : (s.arr p.val).runs = true)
    (haq : (s.arr p.val).aq = e :: es) (hop : e.op = .gangCfg g) (hidle : (s.arr p.val).arrayIdle = true) :
    execGangCfgEffect p s = .next (((s.popAq p.val).modCtrl p.val (fun c => { c with gangNow := g })).advanceQ p.val) := by
  simp [execGangCfgEffect, haq, hop, hidle, hruns]

/-- R126, R128: the cores of a logical array at the start of a run: an armed core starts, any other is halted. -/
def State.coresStarted (s : State) (n : Nat) (now : DWord) : State :=
  { s with cores := s.cores.map (fun (c : Nat × CoreState) => if c.1 / 65536 = n
      then (c.1, if c.2.armed then c.2.started now else { c.2 with status := 2 }) else c) }

/-- R128: the run at the head of the queue starts. -/
theorem execCoreRunStart_starts {p : ArrayId} {s : State} {e : QEntry} {es : List QEntry} {arg : Word} (h : s.QueueFree p.val)
    (haq : (s.arr p.val).aq = e :: es) (hop : e.op = .coreRun arg) (hlaunch : e.launch = none) (hfeed : (s.arr p.val).feed = none)
    (hgrid : ∀ x ∈ (s.arr p.val).tiles, x.state ≠ 1) :
    execCoreRunStart p s = .next ((((((s.popAq p.val).lateCheck p.val e).modArr p.val (fun a => { a with
      run := ⟨true, false, arg, a.ctrl.gen, a.ctrl.ctx, e.osn, false, false, e.seq, none⟩ })).coresStarted ((s.logOf p.val).getD 0)
      (s.localTime p.val)).setFlag (rAryCmStatus p.val) 31 true).advanceQ p.val) := by
  have hnone : (s.arr p.val).tiles.any (fun t => t.state == 1) = false := by
    simpa [List.any_eq_false] using hgrid
  simp [execCoreRunStart, haq, hop, hlaunch, hfeed, hnone, h.runs, h.stopping, h.running, h.frozen, h.restarts, h.replay, State.coresStarted]

/-- Settles O31: each event of the queue is an equation of its own for each case of the head entry. -/
theorem arrayQueueEvents : Obligations.ArrayQueueEvents := by
  unfold Obligations.ArrayQueueEvents
  intro p s e es hruns hreplay hstopping hrestarts hrunning hfrozen hstreams hstalled a acc n
  have h : s.QueueFree p.val := ⟨hruns, hreplay, hstopping, hrestarts, hrunning, hfrozen, hstreams, hstalled⟩
  refine ⟨?_, ?_, ?_, ?_, ?_, ?_, ?_, ?_⟩
  · intro shadow dW park slot scale haq hop hfeed f rs hedge hfree hheld u
    rw [exec_northFeedTransferStart, execNorthFeedTransferStart_load h haq hop hfeed, State.loadStart_starts h hedge hfree hheld]
    rfl
  · intro slot scale haq hop hfeed
    rw [exec_northFeedTransferStart, execNorthFeedTransferStart_unpark h haq hop hfeed]
    exact ⟨fun b hb howned hedge hfree => congrArg Host.Outcome.next (State.unparkStart_starts h hb howned hedge hfree),
      fun habsent => congrArg Host.Outcome.next (State.unparkStart_absent h habsent)⟩
  · intro shadow dW slot scale hfeed hop f ph u
    rw [exec_northFeedTransferComplete, execNorthFeedTransferComplete_load h hfeed hop]
    exact ⟨fun hgood => congrArg Host.Outcome.next (State.loadDone_fills rfl rfl hgood),
      fun pa hbad => congrArg Host.Outcome.next (State.loadDone_poisoned rfl rfl hbad)⟩
  · intro slot scale hfeed hop
    exact execNorthFeedTransferComplete_unpark h hfeed hop
  · intro haq hop hshadow hactive
    exact ⟨fun b hb hpair howned => execSwapTokenStart_swaps h haq hop hshadow hactive hb hpair howned,
      fun hno => execSwapTokenStart_faults h haq hop hshadow hactive hno⟩
  · intro op haq hop hlaunch hfeed hactive hway htable rows
    rw [exec_passStart, execPassStart_pass h haq hop hlaunch hfeed hactive hway]
    exact ⟨fun h0 => congrArg Host.Outcome.next (State.passStart_skips rfl htable rfl h0),
      fun i b h0 hgroup hslot hopen hb hf hA hI hO hforeign => congrArg Host.Outcome.next
        (State.passStart_streams rfl htable rfl h0 hgroup hslot hopen hb hf rfl rfl rfl rfl hA hI hO hforeign),
      fun i f h0 hgroup hslot hopen hf => congrArg Host.Outcome.next (State.passStart_faults rfl htable rfl h0 hgroup hslot hopen hf),
      fun h0 hgroup hslot => congrArg Host.Outcome.next (State.passStart_waits rfl htable rfl h0 hgroup hslot)⟩
  · intro g haq hop hidle
    exact execGangCfgEffect_takes hruns haq hop hidle
  · intro arg haq hop hlaunch hfeed hgrid u v w
    exact execCoreRunStart_starts h haq hop hlaunch hfeed hgrid

end Sys2Proof.Machine

/-!
Tiles (03_array_mode R80, R82, R101 to R106, R111, R114, R117 to R122): what each event of a tile does once its conditions hold, and O32.
-/
namespace Sys2Proof.Machine

/-! The last row enters the grid (R80, R82, R101, R103). -/

section
variable {p : ArrayId} {s : State} {slot : Fin 3} {upset : List (Nat × Nat × Nat)} {op : PassOp} {b : Block} {steps : List (PassOp × Block)}

/-- The state that a tile boundary leaves: the drained tile in its slot, and in its edge store when it is not staged. -/
def State.tileDrained (u : State) (p slot : Nat) (d : Tile × Option Nat) : State :=
  let v := u.setTile p slot { d.1 with poisoned := d.1.poisoned || d.2.isSome }
  if d.1.staged then v else v.drainOut p slot false

/-- A tile boundary that no feed and no chain holds back: a block step of an open group stays in the grid, any other tile leaves it once
fewer than two tiles drain. -/
theorem execTileBoundary_last {t : Tile} {u : State} {d : Tile × Option Nat} (hruns : (s.arr p.val).runs = true)
    (ht : t = (s.arr p.val).tile slot.val) (hu : u = (s.bump64 (rAryPassCnt p.val) 1).streamEnds p.val) (hd : d = u.drained p.val t upset)
    (hslot : (List.range 3).find? (fun i => ((s.arr p.val).tile i).streaming) = some slot.val)
    (hsteps : t.steps = steps ++ [(op, b)]) (hchain : (s.arr p.val).chainWaits t = false)
    (hfeed : op.wsrc = true → (s.arr p.val).feedsPending t.lastSeq = false) :
    execTileBoundary p upset s = .next (if op.trans && !op.gend then u.setTile p.val slot.val { t with openGroup := true }
      else if (s.arr p.val).drainsFull then s
      else match d.2 with
        | some x => (u.tileDrained p.val slot.val d).flintPoison p.val 1 1 0 x
        | none => u.tileDrained p.val slot.val d) := by
  subst ht hu hd
  have hlast : ((s.arr p.val).tile slot.val).steps.reverse.head? = some (op, b) := by rw [hsteps]; simp
  have hwest : (op.wsrc && (s.arr p.val).feedsPending ((s.arr p.val).tile slot.val).lastSeq) = false :=
    Bool.and_eq_false_imp.mpr hfeed
  simp only [execTileBoundary, hslot, hlast, hwest, hchain, hruns, Bool.or_self, Bool.not_true, Bool.false_eq_true, if_false]
  rfl

end

/-! Verdicts (R111, R114, R122). -/

section
variable {p : ArrayId} {s : State} {slot : Fin 3} {wit : List (Nat × Nat)}

/-- ARY_WIT_CTL's injected residue is taken, and the hash of a tile is shown (R344). -/
def State.hashShown (s : State) (p : Nat) (t : Tile) : State :=
  (if s.fld (rAryWitCtl p) 23 0 = 0 then s else s.setFld (rAryWitCtl p) 23 0 0).setReg64 (rAryTileHash p) (tileHash t.accs t.rows t.ownFlags)

/-- The differences of a tile that its verdict looks at, with an injected residue added. -/
def State.verdictDeltas (s : State) (p : Nat) (t : Tile) (wit : List (Nat × Nat)) : List Nat :=
  addResidues (addResidues (tileDeltas t) wit) (if s.fld (rAryWitCtl p) 23 0 = 0 then [] else [(0, s.fld (rAryWitCtl p) 23 0)])

/-- R111, R122: a tile whose rows agree passes, and its replay is wanted if it was selected. -/
theorem execTileVerdict_passes {t x : Tile} {u : State} (hruns : (s.arr p.val).runs = true) (ht : t = (s.arr p.val).tile slot.val)
    (hstate : t.state = 2) (hu : u = s.hashShown p.val t) (hx : x = { t with hash := tileHash t.accs t.rows t.ownFlags })
    (hpass : firstFail t.flags.inexact (s.verdictDeltas p.val t wit) = none) :
    execTileVerdict p slot wit s = .next (if t.anchorBad then (u.setTile p.val slot.val x).anchorFault p.val x
      else u.setTile p.val slot.val { x with
        state := 3, replay := if u.selected x then some (u.wantReplay p.val x false false false) else none }) := by
  subst ht hu hx
  rw [State.verdictDeltas] at hpass
  simp only [execTileVerdict, hstate, hruns, hpass, ne_eq, not_true_eq_false, Bool.not_true, Bool.false_eq_true, or_self, if_false]
  rfl

/-- R114, R122: a tile with a row that disagrees is held, its event is posted, and its replay resolves the disagreement. -/
theorem execTileVerdict_fails {t x : Tile} {v : State} {row delta : Nat} {injected : Bool} (hruns : (s.arr p.val).runs = true)
    (ht : t = (s.arr p.val).tile slot.val) (hstate : t.state = 2)
    (hinj : injected = (decide (s.fld (rAryWitCtl p.val) 23 0 ≠ 0) && (firstFail t.flags.inexact (addResidues (tileDeltas t) wit)).isNone))
    (hx : x = { t with hash := tileHash t.accs t.rows t.ownFlags, failRow := row, delta := delta, witFail := true })
    (hv : v = ((s.hashShown p.val t).witRegs p.val slot.val row delta).postWitness p.val slot.val (if injected then 3 else 1)
      (if injected then 0 else 2) x injected)
    (hfail : firstFail t.flags.inexact (s.verdictDeltas p.val t wit) = some (row, delta)) :
    execTileVerdict p slot wit s = .next (if t.anchorBad then (v.setTile p.val slot.val x).anchorFault p.val x
      else (v.setTile p.val slot.val { x with
        state := 4, replay := some (v.wantReplay p.val x true injected true) }).disagree p.val x) := by
  subst ht hinj hx hv
  rw [State.verdictDeltas] at hfail
  simp only [execTileVerdict, hstate, hruns, hfail, ne_eq, not_true_eq_false, Bool.not_true, Bool.false_eq_true, or_self, if_false]
  rfl

/-! Commits (R103, R105, R106). -/

/-- R106: the tile of a slot that has committed. -/
def Tile.retired (t : Tile) : Tile :=
  { t with state := 0, dest := [], held := [], steps := [], entry := none, accs := [], wit := [], init := [], upset := [], deps := [] }

/-- R105, R106: a checked tile that waits for nothing commits. -/
theorem execTileCommit_commits {t : Tile} (hruns : (s.arr p.val).runs = true) (ht : t = (s.arr p.val).tile slot.val) (hstate : t.state = 3)
    (hreplay : t.replay = none) (hanchor : t.anchorBad = false) (hgood : t.poisoned = false) (hdeps : (s.arr p.val).depsDone t = true)
    (hchain : (s.arr p.val).chainUnchecked t = false) :
    execTileCommit p slot s =
      .next ((((((if t.staged then s.drainOut p.val slot.val true else s).recordWit p.val t).setTile p.val slot.val t.retired).modArr p.val
        (fun a => { a with lastOsn := tblPut a.lastOsn t.ctx t.osn })).releaseChains p.val t.seq).advanceQ p.val) := by
  subst ht
  simp [execTileCommit, hstate, hreplay, hanchor, hgood, hdeps, hchain, hruns, Tile.retired]

/-! Aborts and restarts (R119, R120, R122). -/

/-- R119, R402: the grace time of a switch ends while a pass or a replay streams: both are aborted and counted. -/
theorem execPassGraceAbort_aborts {q c : Nat} (hq : s.partAt p.val = some q) (hc : (s.part q).outgoing = some c)
    (hsaving : (s.part q).saving.contains p.val = true)
    (hbusy : (s.arr p.val).tiles.any (fun t => t.state == 1) = true ∨ s.replayOn p.val = true) (hbrake : (s.arr p.val).brake = false) :
    execPassGraceAbort p s = .next ((((s.dropReplays p.val).modArr p.val abortArray).setPart q
      { s.part q with aborts := (s.part q).aborts + 1 }).bump (rDspCtxAborts c) 1) := by
  have hbusy : ((s.arr p.val).tiles.any (fun t => t.state == 1) || s.replayOn p.val) = true := by simpa using hbusy
  simp only [execPassGraceAbort, hq, hc, hsaving, hbusy, hbrake, Option.isSome_some, Bool.not_false, and_self, if_true, Option.getD_some]

/-- R120, R278: an array whose first waiting tile x may stream again in slot i. -/
structure State.RestartReady (s : State) (p : Nat) (x : Tile) (xs : List Tile) (i : Nat) : Prop where
  runs : (s.arr p).runs = true
  restarts : (s.arr p).restarts = x :: xs
  slot : (s.arr p).freeSlot = some i
  streams : (s.arr p).streams = false
  running : (s.arr p).run.running = false
  feed : (s.arr p).feed = none
  stopping : s.stopping p = false
  resident : s.residentAt p = some x.ctx
  ctrl : (s.arr p).ctrl.state = 1 ∨ (s.arr p).ctrl.faulting.isSome = true
  way : (s.arr p).otherWay x.transposed = false
  replay : s.replayOn p = false
  fed : x.wsrc = true → ∀ r ∈ (s.arr p).vec.reruns, (s.arr p).fedBy r.entry x = false
  deps : (s.arr p).depsDone { x with deps := x.deps.filter (fun d => d != x.seq) } = true

/-- The array with a waiting tile streaming again. -/
def ArrayState.restarted (a : ArrayState) (x : Tile) (xs : List Tile) (i : Nat) : ArrayState :=
  { (a.reloaded x).setTile i { x with state := 1, openGroup := false, poisoned := false } with restarts := xs }

theorem execTileRestart_ready {x : Tile} {xs : List Tile} {i : Nat} (h : s.RestartReady p.val x xs i) :
    execTileRestart p s = .next (match s.firstBad (x.held.map (fun r => (r.addr, r.len))) with
      | some pa => (s.modArr p.val (fun a => { a with restarts := xs })).heldPoison p.val x pa
      | none => (s.softStart p.val).setArr p.val (((s.softStart p.val).arr p.val).restarted x xs i)) := by
  have hctrl : (decide ((s.arr p.val).ctrl.state = 1) || (s.arr p.val).ctrl.faulting.isSome) = true := by simpa using h.ctrl
  have hfed : (x.wsrc && (s.arr p.val).vec.reruns.any (fun r => (s.arr p.val).fedBy r.entry x)) = false :=
    Bool.and_eq_false_imp.mpr fun hwest => List.any_eq_false.mpr fun r hr => Bool.eq_false_iff.mp (h.fed hwest r hr)
  simp only [execTileRestart, h.restarts, h.slot, h.runs, h.stopping, h.streams, h.running, h.feed, h.resident, hctrl, h.way, h.replay, hfed,
    h.deps, Option.isSome_none, Bool.not_true, ne_eq, not_true_eq_false, decide_false, Bool.or_self, Bool.false_eq_true, if_false]
  rfl

/-! Levels of a K-split reduction (R117, R118). -/

section
variable {r x : RedState} {dP dO dP' dO' : BitVec 512} {osn : Nat} {anchor anchor' : Int} {fmt fmt' : Fmt} {rnd rnd' : Rnd} {sat sat' : Bool}
  {g g' : GangSet} {level level' q rank : Nat} {replay replay' : Bool}

/-- R118: an array that takes no further level waits to send, or, as rank 0, holds the reduced output. -/
theorem execKsplitLevelArrival_last (hruns : (s.arr p.val).runs = true) (hr : (s.arr p.val).red = some r)
    (hop : r.entry.op = .reduce dP dO osn anchor fmt rnd sat g level replay) (hrank : rank = (s.logOf p.val).getD 0 % 2 ^ g.log2)
    (hlevel : sendLevel rank g.log2 ≤ r.level) :
    execKsplitLevelArrival p s = .next (if rank = 0 then (s.reducedTile p.val r).advanceQ p.val else s) := by
  subst hrank
  simp only [execKsplitLevelArrival, hruns, hr, hop, hlevel, Bool.not_true, Bool.false_eq_true, if_false, if_true]

/-- R117: the partner of a level that has reached its sending level is received. -/
theorem execKsplitLevelArrival_takes (hruns : (s.arr p.val).runs = true) (hr : (s.arr p.val).red = some r)
    (hop : r.entry.op = .reduce dP dO osn anchor fmt rnd sat g level replay) (hrank : rank = (s.logOf p.val).getD 0 % 2 ^ g.log2)
    (hlevel : r.level < sendLevel rank g.log2) (hq : s.gangMember p.val g.log2 (rank + 2 ^ r.level) = some q) (hx : (s.arr q).red = some x)
    (hqruns : (s.arr q).runs = true) (hxop : x.entry.op = .reduce dP' dO' osn anchor' fmt' rnd' sat' g' level' replay')
    (hxlevel : x.level = sendLevel (rank + 2 ^ r.level) g'.log2) :
    execKsplitLevelArrival p s = .next (s.levelTake p.val q r x dP anchor anchor' g rank) := by
  subst hrank
  simp only [execKsplitLevelArrival, hruns, hr, hop, Nat.not_le.mpr hlevel, hq, hx, hqruns, hxop, ← hxlevel, Bool.not_true, Bool.false_eq_true,
    ne_eq, not_true_eq_false, or_self, if_false]

end

end

theorem find_held_none {s : State} {ph : List (Nat × Nat)} (h : ∀ y ∈ ph, s.heldHit y.1 y.2 = false) :
    ph.find? (fun y => s.heldHit y.1 y.2) = none := by
  simpa [List.find?_eq_none] using h

section
variable {s : State} {p q rank : Nat} {r x : RedState} {dP : BitVec 512} {anchor anchor' : Int} {g : GangSet} {acc : Accessor}
  {rs ph : List (Nat × Nat)} (hacc : acc = s.unitAcc p (s.arr p).ctrl.ctx .write) (hrs : rs = recRanges (descOf g.region) x.tile)
  (hph : ph = s.physRanges acc rs) (hedge : s.firstEdgeFault p acc (rs ++ recRanges (descOf dP) r.tile) = none)
  (hfree : ∀ y ∈ ph, s.heldHit y.1 y.2 = false)
include hacc hrs hph hedge hfree

/-- R117, R118: records of the receiver's anchor are combined into its own; after the last level rank 0 holds the total. -/
theorem State.levelTake_combines (hanchor : wrapInt 4 anchor = wrapInt 4 anchor') :
    s.levelTake p q r x dP anchor anchor' g rank =
      let z := r.joined x (regionsOf ph)
      let v := (((s.modArr q (fun a => { a with red := none })).levelCombine p (s.arr p).ctrl.ctx (descOf dP) (descOf g.region) anchor r.tile
        x.tile).modArr p (fun a => { a with red := some z })).advanceQ q
      if rank = 0 ∧ z.level = g.log2 then (v.reducedTile p z).advanceQ p else v := by
  have hnone := find_held_none hfree
  subst hacc hrs hph
  simp only [State.levelTake, hedge, hnone, hanchor, ne_eq, not_true_eq_false, if_false]

/-- R60, R117: records of another anchor land in their region and raise the fault of the receiver's entry. -/
theorem State.levelTake_anchorFault (hanchor : wrapInt 4 anchor ≠ wrapInt 4 anchor') :
    s.levelTake p q r x dP anchor anchor' g rank =
      (((((s.modArr q (fun a => { a with red := none })).pokeRecs p (s.arr p).ctrl.ctx (descOf g.region) anchor' x.tile).modArr p
        (fun a => { a with red := none })).entryFault p r.entry 0x84 3 (bitsOf r.entry.w0.toNat 24 21) (descOf g.region).base).advanceQ q) := by
  have hnone := find_held_none hfree
  subst hacc hrs hph
  simp only [State.levelTake, hedge, hnone, hanchor, ne_eq, not_false_eq_true, if_true]

end

/-- Settles O32: each event of a tile is an equation of its own for each outcome. -/
theorem tileEvents : Obligations.TileEvents := by
  unfold Obligations.TileEvents
  intro p s slot hruns a t
  refine ⟨?_, ?_, ?_, ?_, ?_, ?_⟩
  · intro upset op b steps hslot hsteps hchain hfeed u d v w
    have hmore (hout : ¬(op.trans = true ∧ op.gend = false)) : ¬(op.trans && !op.gend) = true := by simpa using hout
    rw [exec_tileBoundary, execTileBoundary_last hruns rfl rfl rfl hslot hsteps hchain hfeed]
    refine ⟨fun htrans hgend => ?_, fun hout hfull => ?_, fun hout hroom => ⟨fun hgood => ?_, fun pa hbad => ?_⟩⟩
    · rw [if_pos (by simp [htrans, hgend])]
    · rw [if_neg (hmore hout), if_pos hfull]
    · rw [if_neg (hmore hout), if_neg (Bool.eq_false_iff.mp hroom), hgood]
      rfl
    · rw [if_neg (hmore hout), if_neg (Bool.eq_false_iff.mp hroom), hbad]
      rfl
  · intro wit hstate inj hash u clean ds
    refine ⟨fun hpass => ?_, fun row delta hfail => ?_⟩
    · exact execTileVerdict_passes hruns rfl hstate rfl rfl hpass
    · exact execTileVerdict_fails hruns rfl hstate rfl rfl rfl hfail
  · intro hstate hreplay hanchor hgood hdeps hchain u
    exact execTileCommit_commits hruns rfl hstate hreplay hanchor hgood hdeps hchain
  · intro q c hq hc hsaving hbusy hbrake
    exact execPassGraceAbort_aborts hq hc hsaving hbusy hbrake
  · intro x xs i hrestarts hslot hstreams hrunning hfeed hstopping hresident hctrl hway hreplay hfed hdeps
    have h : s.RestartReady p.val x xs i := ⟨hruns, hrestarts, hslot, hstreams, hrunning, hfeed, hstopping, hresident, hctrl, hway, hreplay,
      hfed, hdeps⟩
    rw [exec_tileRestart, execTileRestart_ready h]
    exact ⟨fun hgood => by rw [hgood]; rfl, fun pa hbad => by rw [hbad]⟩
  · intro r dP dO osn anchor fmt rnd sat g level replay hr hop rank
    refine ⟨fun hlevel => execKsplitLevelArrival_last hruns hr hop rfl hlevel, ?_⟩
    intro x dP' dO' anchor' fmt' rnd' sat' g' level' replay' q hlevel hq hx hqruns hxop hxlevel acc rs ph done hedge hfree
    rw [exec_ksplitLevelArrival, execKsplitLevelArrival_takes hruns hr hop rfl hlevel hq hx hqruns hxop hxlevel]
    exact ⟨fun hanchor => congrArg Host.Outcome.next (State.levelTake_combines rfl rfl rfl hedge hfree hanchor),
      fun hanchor => congrArg Host.Outcome.next (State.levelTake_anchorFault rfl rfl rfl hedge hfree hanchor)⟩

end Sys2Proof.Machine

/-!
The registers of a core and of a controller as bit vectors (04_core_mode R124; 06_control_isa R189): what a read gives after a write, and O6.
-/
namespace Sys2Proof.Machine

@[simp] theorem CoreState.c_zero (c : CoreState) : c.c 0 = 0#32 := rfl

/-- R124: a write to c0 is discarded. -/
@[simp] theorem CoreState.cset_zero (c : CoreState) (v : Nat) : c.cset 0 v = c := rfl

theorem CoreState.cset_of_ne {i : Nat} (c : CoreState) (v : Nat) (h : i ≠ 0) :
    c.cset i v = { c with cregs := tblPut c.cregs i (BitVec.ofNat 32 v) } := if_neg h

theorem CoreState.c_of_ne {i : Nat} (c : CoreState) (h : i ≠ 0) : c.c i = tblGet 0#32 c.cregs i := by
  simp [CoreState.c, CoreState.cget, h]

theorem CoreState.c_cset_same {i : Nat} (c : CoreState) (v : Nat) (h : i ≠ 0) : (c.cset i v).c i = BitVec.ofNat 32 v := by
  rw [CoreState.c_of_ne _ h, CoreState.cset_of_ne c v h, tblGet_put_same]

theorem CoreState.c_cset_other {i j : Nat} (c : CoreState) (v : Nat) (h : i ≠ j) : (c.cset i v).c j = c.c j := by
  by_cases hi : i = 0
  · rw [hi, CoreState.cset_zero]
  by_cases hj : j = 0
  · rw [hj, CoreState.c_zero, CoreState.c_zero]
  · rw [CoreState.c_of_ne _ hj, CoreState.c_of_ne _ hj, CoreState.cset_of_ne c v hi, tblGet_put_other h]

@[simp] theorem Ctrl.s_zero (c : Ctrl) : c.s 0 = 0#64 := rfl

@[simp] theorem Ctrl.sput_zero (c : Ctrl) (v : Nat) : c.sput 0 v = c := rfl

theorem Ctrl.sput_of_ne {i : Nat} (c : Ctrl) (v : Nat) (h : i ≠ 0) :
    c.sput i v = { c with sregs := tblPut c.sregs i (BitVec.ofNat 64 v) } := if_neg h

theorem Ctrl.s_of_ne {i : Nat} (c : Ctrl) (h : i ≠ 0) : c.s i = tblGet 0#64 c.sregs i := by
  simp [Ctrl.s, Ctrl.sget, h]

theorem Ctrl.s_sput_same {i : Nat} (c : Ctrl) (v : Nat) (h : i ≠ 0) : (c.sput i v).s i = BitVec.ofNat 64 v := by
  rw [Ctrl.s_of_ne _ h, Ctrl.sput_of_ne c v h, tblGet_put_same]

theorem Ctrl.s_sput_other {i j : Nat} (c : Ctrl) (v : Nat) (h : i ≠ j) : (c.sput i v).s j = c.s j := by
  by_cases hi : i = 0
  · rw [hi, Ctrl.sput_zero]
  by_cases hj : j = 0
  · rw [hj, Ctrl.s_zero, Ctrl.s_zero]
  · rw [Ctrl.s_of_ne _ hj, Ctrl.s_of_ne _ hj, Ctrl.sput_of_ne c v hi, tblGet_put_other h]

@[simp] theorem Ctrl.pget_zero (c : Ctrl) : c.pget 0 = true := rfl

@[simp] theorem Ctrl.pput_zero (c : Ctrl) (b : Bool) : c.pput 0 b = c := rfl

theorem b2n_testBit_zero (b : Bool) : (b2n b).testBit 0 = b := by cases b <;> rfl

/-- Predicate j after a write of predicate i, neither of them p0: the eight predicates are the bits of a byte. -/
theorem Ctrl.pget_pput {i j : Nat} (c : Ctrl) (b : Bool) (hi : i ≠ 0) (hj : j ≠ 0) :
    (c.pput i b).pget j = (decide (j < 8) && if j = i then b else c.pget j) := by
  have hp : (c.pput i b).pget j = (setBits c.preds.toNat i i (b2n b) % 2 ^ 8).testBit j := by
    rw [Ctrl.pput, if_neg hi, Ctrl.pget, if_neg hj, BitVec.toNat_ofNat]
  rw [hp, Nat.testBit_mod_two_pow, testBit_setBits _ _ _ _ _ (Nat.le_refl i), Ctrl.pget, if_neg hj]
  by_cases h : j = i
  · rw [if_pos (by omega), if_pos h, h, Nat.sub_self, b2n_testBit_zero]
  · rw [if_neg (by omega), if_neg h]

theorem Ctrl.pget_pput_same {i : Nat} (c : Ctrl) (b : Bool) (hi : i ≠ 0) (h8 : i < 8) : (c.pput i b).pget i = b := by
  simp [Ctrl.pget_pput c b hi hi, h8]

theorem Ctrl.pget_pput_other {i j : Nat} (c : Ctrl) (b : Bool) (h : i ≠ j) : (c.pput i b).pget j = c.pget j := by
  by_cases hi : i = 0
  · rw [hi, Ctrl.pput_zero]
  by_cases hj : j = 0
  · rw [hj, Ctrl.pget_zero, Ctrl.pget_zero]
  rw [Ctrl.pget_pput c b hi hj, if_neg (Ne.symm h)]
  by_cases h8 : j < 8
  · simp [h8]
  · have hbit : c.preds.toNat.testBit j = false :=
      Nat.testBit_eq_false_of_lt (Nat.lt_of_lt_of_le c.preds.isLt (Nat.pow_le_pow_right (by omega) (by omega)))
    simp [h8, Ctrl.pget, hj, hbit]

@[simp] theorem Ctrl.dget_dput_same (c : Ctrl) (i : Nat) (x : BitVec 512) : (c.dput i x).dget i = x := tblGet_put_same ..

theorem Ctrl.dget_dput_other {i j : Nat} (c : Ctrl) (x : BitVec 512) (h : i ≠ j) : (c.dput i x).dget j = c.dget j := tblGet_put_other h

/-- Settles O6: each register file is read after its write, register by register. -/
theorem registerFiles : Obligations.RegisterFiles := by
  unfold Obligations.RegisterFiles
  refine ⟨fun c d e v => ⟨CoreState.c_zero _, CoreState.cset_zero c v, CoreState.c_cset_same c v, CoreState.c_cset_other c v⟩,
    fun c d e v b x => ⟨Ctrl.s_zero _, Ctrl.sput_zero c v, Ctrl.s_sput_same c v, Ctrl.s_sput_other c v, Ctrl.pget_zero _, Ctrl.pput_zero c b,
      Ctrl.pget_pput_same c b, Ctrl.pget_pput_other c b, Ctrl.dget_dput_same c d x, Ctrl.dget_dput_other c x⟩⟩

/-! What a read gives as a number, and writes that agree modulo the width. -/

@[simp] theorem CoreState.c_toNat (c : CoreState) (i : Nat) : (c.c i).toNat = c.cget i := by
  by_cases h : i = 0
  · simp [h, CoreState.cget]
  · simp [CoreState.c_of_ne c h, CoreState.cget, h]

@[simp] theorem CoreState.v_toNat (c : CoreState) (i : Nat) : (c.v i).toNat = c.vget i := by
  simp [CoreState.v, CoreState.vget]

@[simp] theorem CoreState.a_toNat (c : CoreState) (i : Nat) : (c.a i).toNat = c.aget i := by
  simp [CoreState.a, CoreState.aget]

theorem CoreState.cset_ofNat (c : CoreState) (d v : Nat) : c.cset d (BitVec.ofNat 32 v).toNat = c.cset d v := by
  simp only [CoreState.cset, BitVec.ofNat_toNat, BitVec.setWidth_eq]

theorem CoreState.vset_ofNat (c : CoreState) (d v : Nat) : c.vset d (BitVec.ofNat 128 v).toNat = c.vset d v := by
  simp only [CoreState.vset, BitVec.ofNat_toNat, BitVec.setWidth_eq]

theorem CoreState.aset_ofNat (c : CoreState) (d v : Nat) : c.aset d (BitVec.ofNat 512 v).toNat = c.aset d v := by
  simp only [CoreState.aset, BitVec.ofNat_toNat, BitVec.setWidth_eq]

end Sys2Proof.Machine

/-!
The arithmetic of words and lanes: what the model computes on numbers, as operations on bit vectors of every width (04_core_mode R148, R149).
-/
namespace Sys2Proof.Machine

section
variable {n : Nat} (a b : BitVec n)

theorem toSigned_toNat : toSigned n a.toNat = a.toInt := by
  have hlt := a.isLt
  rw [toSigned, Nat.mod_eq_of_lt hlt, BitVec.toInt_eq_toNat_cond]
  cases n with
  | zero => simp [show a.toNat = 0 by omega]
  | succ k =>
    have hpow : (2 : Nat) ^ (k + 1) = 2 * 2 ^ k := by rw [Nat.pow_succ, Nat.mul_comm]
    rw [Nat.add_sub_cancel]
    by_cases h : 2 ^ k ≤ a.toNat
    · rw [if_pos h, if_neg (by omega)]; norm_cast
    · rw [if_neg h, if_pos (by omega)]

theorem wrapInt_eq_toNat (n : Nat) (x : Int) : wrapInt n x = (BitVec.ofInt n x).toNat := by
  rw [BitVec.toNat_ofInt, wrapInt]
  norm_cast

theorem ofNat_wrapInt (n : Nat) (x : Int) : BitVec.ofNat n (wrapInt n x) = BitVec.ofInt n x := by
  rw [wrapInt_eq_toNat, BitVec.ofNat_toNat, BitVec.setWidth_eq]

theorem ofNat_wrapInt_toInt : BitVec.ofNat n (wrapInt n a.toInt) = a := by rw [ofNat_wrapInt, BitVec.ofInt_toInt]

theorem signExt_toNat (m : Nat) : signExt n m a.toNat = (a.signExtend m).toNat := by
  rw [signExt, toSigned_toNat, wrapInt_eq_toNat]; rfl

theorem ofNat_toNat_self : BitVec.ofNat n a.toNat = a := by rw [BitVec.ofNat_toNat, BitVec.setWidth_eq]

theorem ofNat_toNat_add : BitVec.ofNat n (a.toNat + b.toNat) = a + b := by
  rw [BitVec.ofNat_add, ofNat_toNat_self, ofNat_toNat_self]

theorem ofNat_toNat_sub : BitVec.ofNat n (a.toNat + (2 ^ n - b.toNat)) = a - b := by
  rw [BitVec.sub_def, Nat.add_comm]

theorem ofNat_toNat_mul : BitVec.ofNat n (a.toNat * b.toNat) = a * b := by
  rw [BitVec.ofNat_mul, ofNat_toNat_self, ofNat_toNat_self]

theorem ofNat_toNat_and : BitVec.ofNat n (a.toNat &&& b.toNat) = a &&& b := by rw [← BitVec.toNat_and, ofNat_toNat_self]

theorem ofNat_toNat_or : BitVec.ofNat n (a.toNat ||| b.toNat) = a ||| b := by rw [← BitVec.toNat_or, ofNat_toNat_self]

theorem ofNat_toNat_xor : BitVec.ofNat n (a.toNat ^^^ b.toNat) = a ^^^ b := by rw [← BitVec.toNat_xor, ofNat_toNat_self]

theorem notW_toNat : notW n a.toNat = (~~~a).toNat := by rw [notW, Nat.mod_eq_of_lt a.isLt, BitVec.toNat_not]

theorem ofNat_toNat_andn : BitVec.ofNat n (a.toNat &&& notW n b.toNat) = a &&& ~~~b := by rw [notW_toNat, ofNat_toNat_and]

theorem ofNat_toNat_shl (k : Nat) : BitVec.ofNat n (a.toNat <<< k) = a <<< k := by
  refine BitVec.eq_of_toNat_eq ?_
  rw [BitVec.toNat_ofNat, BitVec.toNat_shiftLeft]

theorem ofNat_toNat_shr (k : Nat) : BitVec.ofNat n (a.toNat >>> k) = a >>> k := by
  rw [← BitVec.toNat_ushiftRight, ofNat_toNat_self]

theorem ofNat_sraW (k : Nat) : BitVec.ofNat n (sraW n a.toNat k) = a.sshiftRight k := by
  rw [sraW, toSigned_toNat, ← ofNat_wrapInt_toInt (a.sshiftRight k), BitVec.toInt_sshiftRight, Int.shiftRight_eq_div_pow]
  norm_cast

theorem ofNat_sMin : BitVec.ofNat n (sMin n a.toNat b.toNat) = if a.sle b then a else b := by
  simp only [sMin, toSigned_toNat, BitVec.sle, decide_eq_true_eq]
  split <;> exact ofNat_toNat_self _

theorem ofNat_sMax : BitVec.ofNat n (sMax n a.toNat b.toNat) = if a.sle b then b else a := by
  simp only [sMax, toSigned_toNat, BitVec.sle, decide_eq_true_eq]
  split <;> exact ofNat_toNat_self _

theorem ofNat_toNat_min : BitVec.ofNat n (Nat.min a.toNat b.toNat) = if a.ule b then a else b := by
  simp only [BitVec.ule, decide_eq_true_eq]
  change BitVec.ofNat n (min a.toNat b.toNat) = _
  rw [min_def]
  split <;> exact ofNat_toNat_self _

theorem ofNat_toNat_max : BitVec.ofNat n (Nat.max a.toNat b.toNat) = if a.ule b then b else a := by
  simp only [BitVec.ule, decide_eq_true_eq]
  change BitVec.ofNat n (max a.toNat b.toNat) = _
  rw [max_def]
  split <;> exact ofNat_toNat_self _

theorem decide_toSigned_lt : decide (toSigned n a.toNat < toSigned n b.toNat) = a.slt b := by
  rw [toSigned_toNat, toSigned_toNat]; rfl

theorem decide_toSigned_le : decide (toSigned n a.toNat ≤ toSigned n b.toNat) = a.sle b := by
  rw [toSigned_toNat, toSigned_toNat]; rfl

theorem toNat_beq : (a.toNat == b.toNat) = (a == b) := by
  rw [Bool.eq_iff_iff, beq_iff_eq, beq_iff_eq, BitVec.toNat_inj]

theorem toNat_bne : (a.toNat != b.toNat) = (a != b) := by
  rw [bne, bne, toNat_beq]

theorem ofNat_b2n (n : Nat) (c : Bool) : BitVec.ofNat n (b2n c) = flagOf n c := by cases c <;> rfl

theorem ofNat_clampInt (x : Int) :
    BitVec.ofNat n (wrapInt n (clampInt (-(2 : Int) ^ (n - 1)) ((2 : Int) ^ (n - 1) - 1) x)) = saturate n x := by
  have hpos : (0 : Int) < 2 ^ (n - 1) := by positivity
  rw [ofNat_wrapInt, saturate, clampInt]
  congr 1
  split
  · omega
  · split <;> omega

/-- A number and its remainder modulo the width are the same bits. -/
theorem ofNat_mod_width (n v : Nat) : BitVec.ofNat n (v % 2 ^ n) = BitVec.ofNat n v :=
  BitVec.eq_of_toNat_eq (by rw [BitVec.toNat_ofNat, BitVec.toNat_ofNat, Nat.mod_mod])

theorem ofNat_natAbs_toInt : BitVec.ofNat n a.toInt.natAbs = if a.slt 0#n then 0#n - a else a := by
  rw [← BitVec.ofInt_natCast, BitVec.slt, BitVec.toInt_zero]
  by_cases h : a.toInt < 0
  · rw [if_pos (decide_eq_true h), Int.ofNat_natAbs_of_nonpos h.le, BitVec.ofInt_neg, BitVec.ofInt_toInt, BitVec.zero_sub]
  · rw [if_neg (by simpa using h), Int.natAbs_of_nonneg (Int.not_lt.mp h), BitVec.ofInt_toInt]

end

/-! Leading zeros and set bits. -/

theorem clz_eq_takeWhile (n v : Nat) : clz n v = ((List.range n).takeWhile (fun i => !v.testBit (n - 1 - i))).length := by
  induction n with
  | zero => rfl
  | succ n ih =>
    rw [clz, List.range_succ_eq_map, List.takeWhile_cons, Nat.add_sub_cancel, Nat.sub_zero]
    cases v.testBit n with
    | true => rfl
    | false =>
      have hstep : (fun i => !v.testBit (n - i)) ∘ Nat.succ = fun i => !v.testBit (n - 1 - i) := by
        funext i
        simp only [Function.comp_apply, Nat.succ_eq_add_one]
        rw [show n - (i + 1) = n - 1 - i by omega]
      simp only [Bool.not_false, if_true, Bool.false_eq_true, if_false, List.length_cons, List.takeWhile_map, List.length_map, hstep, ih]
      exact Nat.add_comm ..

theorem takeWhile_congr_mem {α : Type} {p q : α → Bool} {l : List α} (h : ∀ x ∈ l, p x = q x) : l.takeWhile p = l.takeWhile q := by
  induction l with
  | nil => rfl
  | cons x l ih =>
    rw [List.takeWhile_cons, List.takeWhile_cons, h x List.mem_cons_self, ih (fun y hy => h y (List.mem_cons_of_mem x hy))]

theorem clz_toNat {n : Nat} (a : BitVec n) : clz n a.toNat = zerosOf a := by
  rw [clz_eq_takeWhile, zerosOf]
  refine congrArg List.length (takeWhile_congr_mem fun i hi => ?_)
  rw [BitVec.getMsbD_eq_getLsbD, BitVec.testBit_toNat, decide_eq_true (List.mem_range.mp hi), Bool.true_and]

theorem popCount_eq_filter (n v : Nat) : popCount n v = ((List.range n).filter (fun i => v.testBit i)).length := by
  induction n generalizing v with
  | zero => rfl
  | succ n ih =>
    have hstep : (fun i => v.testBit i) ∘ Nat.succ = fun i => (v / 2).testBit i := by
      funext i
      rw [Function.comp_apply, Nat.testBit_succ]
    rw [popCount, ih, List.range_succ_eq_map, List.filter_cons, List.filter_map, hstep]
    cases h : v.testBit 0 with
    | true =>
      rw [Nat.testBit_zero, decide_eq_true_eq] at h
      simp only [if_true, List.length_cons, List.length_map]; omega
    | false =>
      rw [Nat.testBit_zero, decide_eq_false_iff_not] at h
      simp only [Bool.false_eq_true, if_false, List.length_map]; omega

theorem popCount_toNat {n : Nat} (a : BitVec n) : popCount n a.toNat = onesOf a := popCount_eq_filter n a.toNat

end Sys2Proof.Machine

/-!
What a core that stands before a word of format R, I, L or B does (04_core_mode, Instruction formats): the word names its instruction, its zero
fields are zero, and the instruction's effect follows.
-/
namespace Sys2Proof.Machine

/-- An instruction inside a core that falls through, performed by a core that stands before its word. -/
theorem exec_inside {i : Instr} {s₀ s : State} {core : CoreId} {w : Word} {mask mtch must0 : Nat} {body : Word → CoreState → CoreOut}
    {c : CoreState} (h : s.coreAt core w) (hi : exec i s₀ = .next (coreInstr core w mask mtch must0 body s))
    (hm : w.toNat &&& mask = mtch) (h0 : w.toNat &&& must0 = 0) (hb : body w (s.core core.toNat) = .ok (coreNext c)) :
    exec i s₀ = .next (s.coreDone core c) := by
  rw [hi, coreInstr_at h hm h0 hb]; rfl

/-- The values that the fields of format R take. -/
abbrev FieldsR (op d a b e sz fn : Nat) : Prop := op < 32 ∧ d < 16 ∧ a < 16 ∧ b < 16 ∧ e < 16 ∧ sz < 8 ∧ fn < 256

section
variable {op d a b e sz fn : Nat} (hf : FieldsR op d a b e sz fn)
include hf

/-- The bits that name an instruction of format R. -/
theorem wordR_opcode : (wordR op d a b e sz fn).toNat &&& 0xF80000FF = op * 2 ^ 27 + fn := by
  obtain ⟨ho, hd, ha, hb, he, hs, hf⟩ := hf
  rw [wordR_and _ ho hd ha hb he hs hf]
  norm_num [and_31 ho, and_255 hf]

theorem fD_wordR : fD (wordR op d a b e sz fn) = d := by
  obtain ⟨ho, hd, ha, hb, he, hs, hf⟩ := hf
  exact (wordR_fields ho hd ha hb he hs hf).1

theorem fA_wordR : fA (wordR op d a b e sz fn) = a := by
  obtain ⟨ho, hd, ha, hb, he, hs, hf⟩ := hf
  exact (wordR_fields ho hd ha hb he hs hf).2.1

theorem fB_wordR : fB (wordR op d a b e sz fn) = b := by
  obtain ⟨ho, hd, ha, hb, he, hs, hf⟩ := hf
  exact (wordR_fields ho hd ha hb he hs hf).2.2.1

theorem fE_wordR : fE (wordR op d a b e sz fn) = e := by
  obtain ⟨ho, hd, ha, hb, he, hs, hf⟩ := hf
  exact (wordR_fields ho hd ha hb he hs hf).2.2.2.1

theorem fSz_wordR : fSz (wordR op d a b e sz fn) = sz := by
  obtain ⟨ho, hd, ha, hb, he, hs, hf⟩ := hf
  exact (wordR_fields ho hd ha hb he hs hf).2.2.2.2.1

theorem fFn_wordR : fFn (wordR op d a b e sz fn) = fn := by
  obtain ⟨ho, hd, ha, hb, he, hs, hf⟩ := hf
  exact (wordR_fields ho hd ha hb he hs hf).2.2.2.2.2

/-- An instruction of format R inside a core, by its op and fn. -/
theorem exec_wordR {i : Instr} {s₀ s : State} {core : CoreId} {must0 : Nat} {body : Word → CoreState → CoreOut} {c : CoreState}
    (h : s.coreAt core (wordR op d a b e sz fn))
    (hi : exec i s₀ = .next (coreInstr core (wordR op d a b e sz fn) 0xF80000FF (op * 2 ^ 27 + fn) must0 body s))
    (h0 : (wordR op d a b e sz fn).toNat &&& must0 = 0) (hb : body (wordR op d a b e sz fn) (s.core core.toNat) = .ok (coreNext c)) :
    exec i s₀ = .next (s.coreDone core c) :=
  exec_inside h hi (wordR_opcode hf) h0 hb

end

/-! The scalar instructions (R148). -/

theorem setC_eq {w : Word} {c : CoreState} {d v : Nat} {x : Word} (hd : fD w = d) (hx : BitVec.ofNat 32 v = x) :
    setC w c v = .ok (coreNext (c.cset d x.toNat)) := by
  rw [setC, hd, ← hx, CoreState.cset_ofNat]

/-- R148: each scalar instruction of two registers, as the model computes it on numbers. -/
theorem coreBinary_exec : ∀ r ∈ coreBinary, ∃ f : Nat → Nat → Nat,
    (∀ core w s, exec (r.1 core w) s = .next (coreInstr core w 0xF80000FF (0x01 * 2 ^ 27 + r.2.1) 0x00007F00 (cBin f) s)) ∧
      ∀ a b : Word, BitVec.ofNat 32 (f a.toNat b.toNat) = r.2.2 a b := by
  simp only [coreBinary, List.forall_mem_cons]
  refine ⟨⟨_, fun _ _ _ => rfl, ofNat_toNat_add⟩, ⟨_, fun _ _ _ => rfl, ofNat_toNat_sub⟩, ⟨_, fun _ _ _ => rfl, ofNat_toNat_and⟩,
    ⟨_, fun _ _ _ => rfl, ofNat_toNat_or⟩, ⟨_, fun _ _ _ => rfl, ofNat_toNat_xor⟩, ⟨_, fun _ _ _ => rfl, ofNat_toNat_andn⟩,
    ⟨_, fun _ _ _ => rfl, fun a b => ofNat_toNat_shl a _⟩, ⟨_, fun _ _ _ => rfl, fun a b => ofNat_toNat_shr a _⟩,
    ⟨_, fun _ _ _ => rfl, fun a b => ofNat_sraW a _⟩, ⟨_, fun _ _ _ => rfl, ofNat_sMin⟩, ⟨_, fun _ _ _ => rfl, ofNat_sMax⟩,
    ⟨_, fun _ _ _ => rfl, ofNat_toNat_min⟩, ⟨_, fun _ _ _ => rfl, ofNat_toNat_max⟩, ⟨_, fun _ _ _ => rfl, ofNat_toNat_mul⟩,
    ⟨_, fun _ _ _ => rfl, fun _ _ => rfl⟩, ⟨_, fun _ _ _ => rfl, fun a b => ?_⟩, ⟨_, fun _ _ _ => rfl, fun _ _ => ofNat_b2n 32 _⟩,
    ⟨_, fun _ _ _ => rfl, fun a b => ?_⟩, ⟨_, fun _ _ _ => rfl, fun a b => ?_⟩, nofun⟩
  · rw [decide_toSigned_lt, ofNat_b2n]
  · rw [toNat_beq, ofNat_b2n]
  · rw [toNat_bne, ofNat_b2n]

/-- R148: each scalar instruction of one register. -/
theorem coreUnary_exec : ∀ r ∈ coreUnary, ∃ f : Nat → Nat,
    (∀ core w s, exec (r.1 core w) s = .next (coreInstr core w 0xF80000FF (0x01 * 2 ^ 27 + r.2.1) 0x0007FF00 (cBin (fun a _ => f a)) s)) ∧
      ∀ a : Word, BitVec.ofNat 32 (f a.toNat) = r.2.2 a := by
  simp only [coreUnary, List.forall_mem_cons]
  refine ⟨⟨_, fun _ _ _ => rfl, fun a => ?_⟩, ⟨_, fun _ _ _ => rfl, fun a => ?_⟩, nofun⟩
  · rw [clz_toNat]
  · rw [popCount_toNat]

/-- R148: each scalar instruction with an immediate. -/
theorem coreImmediate_exec : ∀ r ∈ coreImmediate, ∃ f : Nat → Nat → Nat,
    (∀ core w s, exec (r.1 core w) s = .next (coreInstr core w 0xF8078000 (0x02 * 2 ^ 27 + r.2.1 * 2 ^ 15) 0 (cImm f) s)) ∧
      ∀ a b : Word, BitVec.ofNat 32 (f a.toNat b.toNat) = r.2.2 a b := by
  simp only [coreImmediate, List.forall_mem_cons]
  refine ⟨⟨_, fun _ _ _ => rfl, ofNat_toNat_add⟩, ⟨_, fun _ _ _ => rfl, ofNat_toNat_and⟩, ⟨_, fun _ _ _ => rfl, ofNat_toNat_or⟩,
    ⟨_, fun _ _ _ => rfl, ofNat_toNat_xor⟩, ⟨_, fun _ _ _ => rfl, fun a b => ofNat_toNat_shl a _⟩,
    ⟨_, fun _ _ _ => rfl, fun a b => ofNat_toNat_shr a _⟩, ⟨_, fun _ _ _ => rfl, fun a b => ofNat_sraW a _⟩,
    ⟨_, fun _ _ _ => rfl, fun a b => ?_⟩, ⟨_, fun _ _ _ => rfl, fun _ _ => ofNat_b2n 32 _⟩, ⟨_, fun _ _ _ => rfl, fun a b => ?_⟩, nofun⟩
  · rw [decide_toSigned_lt, ofNat_b2n]
  · rw [toNat_beq, ofNat_b2n]

theorem coreBinary_fn : ∀ r ∈ coreBinary, r.2.1 < 256 := by decide
theorem coreUnary_fn : ∀ r ∈ coreUnary, r.2.1 < 256 := by decide
theorem coreImmediate_fn : ∀ r ∈ coreImmediate, r.2.1 < 16 := by decide

/-! The words of format I and L. -/

theorem wordI_opcode {op d a fn : Nat} {imm : BitVec 15} (ho : op < 32) (hd : d < 16) (ha : a < 16) (hf : fn < 16) :
    (wordI op d a fn imm).toNat &&& 0xF8078000 = op * 2 ^ 27 + fn * 2 ^ 15 := by
  rw [wordI_and _ ho hd ha hf]
  norm_num [and_31 ho, and_15 hf]

theorem fImm15_wordI {op d a fn : Nat} {imm : BitVec 15} (ho : op < 32) (hd : d < 16) (ha : a < 16) (hf : fn < 16) :
    fImm15 (wordI op d a fn imm) = (imm.signExtend 32).toNat := by
  rw [fImm15, (wordI_fields ho hd ha hf).2.2, signExt_toNat]

theorem wordL_opcode {op d : Nat} {imm : BitVec 23} (ho : op < 32) (hd : d < 16) : (wordL op d imm).toNat &&& 0xF8000000 = op * 2 ^ 27 := by
  rw [wordL_and _ ho hd]
  norm_num [and_31 ho]

/-- A mask over bits that a number does not reach. -/
theorem and_mul_two_pow_of_lt {k x : Nat} (m : Nat) (hx : x < 2 ^ k) : x &&& m * 2 ^ k = 0 := by
  have h := and_split k 0 x m 0 hx (Nat.two_pow_pos k)
  rw [Nat.zero_mul, Nat.zero_add, Nat.add_zero] at h
  rw [h]; simp

/-- The upper half of a word replaced. -/
theorem setBits_upper_half (v : Word) (x : BitVec 16) : setBits v.toNat 31 16 x.toNat = (x ++ v.setWidth 16).toNat := by
  have hv := v.isLt
  have hx := x.isLt
  rw [setBits_eq, BitVec.toNat_append, BitVec.toNat_setWidth, ← Nat.shiftLeft_add_eq_or_of_lt (Nat.mod_lt _ (Nat.two_pow_pos 16)),
    Nat.shiftLeft_eq]
  omega

theorem CoreState.cget_eq_zero (c : CoreState) (i : Nat) : c.cget i = 0 ↔ c.c i = 0#32 := by
  rw [← CoreState.c_toNat, BitVec.toNat_eq]; rfl

section
variable {core : CoreId} {s : State} {d a b e : Nat}

theorem exec_coreBinary {r : (CoreId → Word → Instr) × Nat × (Word → Word → Word)} (hr : r ∈ coreBinary) (hd : d < 16) (ha : a < 16)
    (hb : b < 16) (h : s.coreAt core (wordR 0x01 d a b 0 0 r.2.1)) :
    exec (r.1 core (wordR 0x01 d a b 0 0 r.2.1)) s =
      .next (s.coreDone core ((s.core core.toNat).cset d (r.2.2 ((s.core core.toNat).c a) ((s.core core.toNat).c b)).toNat)) := by
  have hfn := coreBinary_fn r hr
  have hf : FieldsR 0x01 d a b 0 0 r.2.1 := by omega
  obtain ⟨f, hexec, hop⟩ := coreBinary_exec r hr
  refine exec_wordR hf h (hexec ..) (by simp (disch := omega) [wordR_and]) ?_
  rw [cBin, fA_wordR hf, fB_wordR hf, ← CoreState.c_toNat, ← CoreState.c_toNat]
  exact setC_eq (fD_wordR hf) (hop _ _)

theorem exec_coreUnary {r : (CoreId → Word → Instr) × Nat × (Word → Word)} (hr : r ∈ coreUnary) (hd : d < 16) (ha : a < 16)
    (h : s.coreAt core (wordR 0x01 d a 0 0 0 r.2.1)) :
    exec (r.1 core (wordR 0x01 d a 0 0 0 r.2.1)) s =
      .next (s.coreDone core ((s.core core.toNat).cset d (r.2.2 ((s.core core.toNat).c a)).toNat)) := by
  have hfn := coreUnary_fn r hr
  have hf : FieldsR 0x01 d a 0 0 0 r.2.1 := by omega
  obtain ⟨f, hexec, hop⟩ := coreUnary_exec r hr
  refine exec_wordR hf h (hexec ..) (by simp (disch := omega) [wordR_and]) ?_
  rw [cBin, fA_wordR hf, ← CoreState.c_toNat]
  exact setC_eq (fD_wordR hf) (hop _)

theorem exec_coreImmediate {r : (CoreId → Word → Instr) × Nat × (Word → Word → Word)} (hr : r ∈ coreImmediate) {imm : BitVec 15}
    (hd : d < 16) (ha : a < 16) (h : s.coreAt core (wordI 0x02 d a r.2.1 imm)) :
    exec (r.1 core (wordI 0x02 d a r.2.1 imm)) s =
      .next (s.coreDone core ((s.core core.toNat).cset d (r.2.2 ((s.core core.toNat).c a) (imm.signExtend 32)).toNat)) := by
  have hfn := coreImmediate_fn r hr
  have ho : 0x02 < 32 := by omega
  obtain ⟨f, hexec, hop⟩ := coreImmediate_exec r hr
  obtain ⟨hD, hA, -⟩ := wordI_fields (imm := imm) ho hd ha hfn
  refine exec_inside h (hexec ..) (wordI_opcode ho hd ha hfn) (Nat.and_zero _) ?_
  rw [cImm, hA, fImm15_wordI ho hd ha hfn, ← CoreState.c_toNat]
  exact setC_eq hD (hop _ _)

theorem exec_li {imm : BitVec 23} (hd : d < 16) (h : s.coreAt core (wordL 0x03 d imm)) :
    exec (.gexaCLi core (wordL 0x03 d imm)) s = .next (s.coreDone core ((s.core core.toNat).cset d (imm.signExtend 32).toNat)) := by
  have ho : 0x03 < 32 := by omega
  obtain ⟨hD, hI⟩ := wordL_fields (imm := imm) ho hd
  refine exec_inside h (exec_gexaCLi ..) (wordL_opcode ho hd) (Nat.and_zero _) ?_
  rw [hI, signExt_toNat]
  exact setC_eq hD (ofNat_toNat_self _)

theorem exec_lih {x : BitVec 16} (hd : d < 16) (h : s.coreAt core (wordL 0x04 d (x.setWidth 23))) :
    exec (.gexaCLih core (wordL 0x04 d (x.setWidth 23))) s =
      .next (s.coreDone core ((s.core core.toNat).cset d (x ++ ((s.core core.toNat).c d).setWidth 16).toNat)) := by
  have ho : 0x04 < 32 := by omega
  have hx : (x.setWidth 23).toNat = x.toNat := by rw [BitVec.toNat_setWidth]; have := x.isLt; omega
  obtain ⟨hD, -⟩ := wordL_fields (imm := x.setWidth 23) ho hd
  have h0 : (wordL 0x04 d (x.setWidth 23)).toNat &&& 0x007F0000 = 0 := by
    rw [wordL_and _ ho hd, hx]
    have hmask := and_mul_two_pow_of_lt 0x7F x.isLt
    norm_num at hmask ⊢
    exact hmask
  have hI : bitsOf (wordL 0x04 d (x.setWidth 23)).toNat 15 0 = x.toNat := by
    rw [wordL_toNat ho hd, hx, bitsOf, Nat.shiftRight_zero]
    have := x.isLt
    omega
  refine exec_inside h (exec_gexaCLih ..) (wordL_opcode ho hd) h0 ?_
  rw [hI, hD, ← CoreState.c_toNat, setBits_upper_half]
  exact setC_eq hD (ofNat_toNat_self _)

theorem exec_sel (hd : d < 16) (ha : a < 16) (hb : b < 16) (he : e < 16) (h : s.coreAt core (wordR 0x05 d a b e 0 0)) :
    exec (.gexaCSel core (wordR 0x05 d a b e 0 0)) s =
      .next (s.coreDone core ((s.core core.toNat).cset d ((s.core core.toNat).cget (if (s.core core.toNat).c e ≠ 0#32 then a else b)))) := by
  have hf : FieldsR 0x05 d a b e 0 0 := by omega
  refine exec_wordR hf h (exec_gexaCSel ..) (by simp (disch := omega) [wordR_and]) ?_
  rw [fE_wordR hf, fA_wordR hf, fB_wordR hf, ← apply_ite, setC, fD_wordR hf]
  simp only [ne_eq, CoreState.cget_eq_zero]

end

/-- Settles O4: each table's rows compute their operation, and each instruction writes it to cd. -/
theorem coreScalarResults : Obligations.CoreScalarResults := by
  unfold Obligations.CoreScalarResults
  exact ⟨fun r hr core s d a b hd ha hb h => exec_coreBinary hr hd ha hb h,
    ⟨fun r hr core s d a hd ha h => exec_coreUnary hr hd ha h, fun core s d imm hd h => exec_li hd h, fun core s d x hd h => exec_lih hd h,
      fun core s d a b e hd ha hb he h => exec_sel hd ha hb he h⟩,
    fun r hr core s d a imm hd ha h => exec_coreImmediate hr hd ha h⟩

end Sys2Proof.Machine

/-!
Branches, loops, nop and halt of a core (04_core_mode R148, R149, R144), and O5.
-/
namespace Sys2Proof.Machine

/-- The fields of format B that a branch leaves zero: those of the registers that it does not name, and [15:6]. -/
def branchZeros (namesA namesB : Bool) : Nat := (if namesA then 0 else 0x07800000) + (if namesB then 0 else 0x00780000) + 0xFFC0

theorem wordB_branchZeros {op a b cond t : Nat} {namesA namesB : Bool} (ho : op < 32) (ha : a < (if namesA then 16 else 1))
    (hb : b < (if namesB then 16 else 1)) (hc : cond < 8) (ht : t < 64) : (wordB op a b cond t).toNat &&& branchZeros namesA namesB = 0 := by
  have ha' : a < 16 := by split at ha <;> omega
  have hb' : b < 16 := by split at hb <;> omega
  have htarget : t &&& 0xFFC0 = 0 := and_mul_two_pow_of_lt (k := 6) 0x3FF ht
  rw [wordB_and _ ho ha' hb' hc ht]
  cases namesA <;> cases namesB <;> simp_all [branchZeros]

theorem wordB_opcode {op a b cond t : Nat} (ho : op < 32) (ha : a < 16) (hb : b < 16) (hc : cond < 8) (ht : t < 64) :
    (wordB op a b cond t).toNat &&& 0xF8070000 = op * 2 ^ 27 + cond * 2 ^ 16 := by
  rw [wordB_and _ ho ha hb hc ht]
  norm_num [and_31 ho, and_7 hc]

theorem coreBranches_cond : ∀ r ∈ coreBranches, r.2.1 < 8 := by decide

/-- R148: each branch, with its condition as the model computes it on numbers. -/
theorem coreBranches_exec : ∀ r ∈ coreBranches, ∃ f : Nat → Nat → Bool,
    (∀ core w s, exec (r.1 core w) s =
      .next (coreInstr core w 0xF8070000 (0x06 * 2 ^ 27 + r.2.1 * 2 ^ 16) (branchZeros r.2.2.1 r.2.2.2.1) (cBranch f) s)) ∧
      ∀ a b : Word, f a.toNat b.toNat = r.2.2.2.2 a b := by
  simp only [coreBranches, List.forall_mem_cons]
  exact ⟨⟨_, fun _ _ _ => rfl, fun _ _ => rfl⟩, ⟨_, fun _ _ _ => rfl, fun a _ => toNat_beq a 0#32⟩, ⟨_, fun _ _ _ => rfl, fun a _ => toNat_bne a 0#32⟩,
    ⟨_, fun _ _ _ => rfl, decide_toSigned_lt⟩, ⟨_, fun _ _ _ => rfl, fun a b => decide_toSigned_le b a⟩, ⟨_, fun _ _ _ => rfl, fun _ _ => rfl⟩,
    ⟨_, fun _ _ _ => rfl, fun _ _ => rfl⟩, ⟨_, fun _ _ _ => rfl, toNat_beq⟩, nofun⟩

theorem cBranch_eq {f : Nat → Nat → Bool} {w : Word} {c : CoreState} {a b t : Nat} (ha : fD w = a) (hb : fA w = b) (ht : bitsOf w.toNat 5 0 = t)
    (hprog : t < c.prog.length) :
    cBranch f w c = .ok (if f (c.cget a) (c.cget b) then coreJump c t else coreNext c) := by
  rw [cBranch, ha, hb, ht, if_pos hprog]
  split <;> rfl

theorem cLoop_eq {w : Word} {c : CoreState} {a t : Nat} (ha : fD w = a) (ht : bitsOf w.toNat 5 0 = t) (hpc : c.pc < t) (hprog : t < c.prog.length)
    (hloops : c.loops.length < 2) (hin : ∀ l ∈ c.loops, t ≤ l.stop) :
    cLoop w c = .ok (if c.c a = 0#32 then { c with pc := (fallThrough t c.loops).1, loops := (fallThrough t c.loops).2 }
      else { c with pc := c.pc + 1, loops := ⟨c.pc + 1, t, c.cget a⟩ :: c.loops }) := by
  have hany : ¬ (c.loops.any fun l => decide (l.stop < t)) = true := by simpa using hin
  rw [cLoop, ha, ht, if_neg (by omega), if_neg (by omega), if_neg (by omega), if_neg hany]
  simp only [CoreState.cget_eq_zero]
  split <;> rfl

/-! Where the body of the innermost loop ends (R149). -/

section
variable {c : CoreState} {l : LoopLvl} {ls : List LoopLvl} (hl : c.loops = l :: ls)
include hl

theorem coreNext_inside_loop (h : c.pc ≠ l.stop) : coreNext c = { c with pc := c.pc + 1 } := by
  simp only [coreNext, hl, fallThrough, if_neg h]

theorem coreNext_loop_again (h : c.pc = l.stop) (hleft : 1 < l.left) :
    coreNext c = { c with pc := l.start, loops := { l with left := l.left - 1 } :: ls } := by
  simp only [coreNext, hl, fallThrough, if_pos h, if_pos hleft]

theorem coreNext_loop_over (h : c.pc = l.stop) (hleft : l.left ≤ 1) : coreNext c = coreNext { c with loops := ls } := by
  simp only [coreNext, hl, fallThrough, if_pos h, if_neg (Nat.not_lt.mpr hleft)]

end

/-- R144: a core that may still issue the instruction of a fault's cycle performs it, and then issues no more. -/
theorem coreGate_late {s : State} {core : CoreId} {w : Word} {mask mtch must0 : Nat} {k : CoreState → State}
    (hi : s.coreIssues core.toNat = true) (hl : s.coreLate core.toNat = true) (hpc : (s.core core.toNat).pc < (s.core core.toNat).prog.length)
    (hw : nth 0#32 (s.core core.toNat).prog (s.core core.toNat).pc = w) (hm : w.toNat &&& mask = mtch) (h0 : w.toNat &&& must0 = 0) :
    coreGate core w mask mtch must0 s k = (k (s.core core.toNat)).coreSettled core.toNat := by
  simp [coreGate, hi, hl, Nat.not_le.2 hpc, hw, hm, h0]

section
variable {core : CoreId} {s : State} {a b t : Nat}

theorem exec_coreBranch {r : (CoreId → Word → Instr) × Nat × Bool × Bool × (Word → Word → Bool)} (hr : r ∈ coreBranches)
    (ha : a < (if r.2.2.1 then 16 else 1)) (hb : b < (if r.2.2.2.1 then 16 else 1)) (ht : t < 64) (hprog : t < (s.core core.toNat).prog.length)
    (h : s.coreAt core (wordB 0x06 a b r.2.1 t)) :
    exec (r.1 core (wordB 0x06 a b r.2.1 t)) s =
      .next (if r.2.2.2.2 ((s.core core.toNat).c a) ((s.core core.toNat).c b)
        then s.setCore core.toNat (coreJump (s.core core.toNat) t) else s.coreDone core (s.core core.toNat)) := by
  have ha' : a < 16 := by split at ha <;> omega
  have hb' : b < 16 := by split at hb <;> omega
  have ho : 0x06 < 32 := by omega
  have hc := coreBranches_cond r hr
  obtain ⟨hD, hA, hT⟩ := wordB_fields ho ha' hb' hc ht
  obtain ⟨f, hexec, hf⟩ := coreBranches_exec r hr
  rw [hexec, coreInstr_at h (wordB_opcode ho ha' hb' hc ht) (wordB_branchZeros ho ha hb hc ht) (cBranch_eq hD hA hT hprog),
    ← CoreState.c_toNat, ← CoreState.c_toNat, hf, apply_ite (s.setCore core.toNat)]
  rfl

theorem exec_nop (h : s.coreAt core (wordR 0 0 0 0 0 0 0)) :
    exec (.gexaCNop core (wordR 0 0 0 0 0 0 0)) s = .next (s.coreDone core (s.core core.toNat)) :=
  exec_inside h (exec_gexaCNop ..) (by decide) (by decide) rfl

theorem exec_halt (h : s.coreAt core (wordR 0 0 0 0 0 0 1)) :
    exec (.gexaCHalt core (wordR 0 0 0 0 0 0 1)) s = .next (s.setCore core.toNat { coreNext (s.core core.toNat) with status := 2 }) := by
  rw [exec_gexaCHalt, execGexaCHalt, coreInstr_at h (by decide) (by decide) rfl]

theorem exec_loop (ha : a < 16) (ht : t < 64) (h : s.coreAt core (wordB 0x07 a 0 0 t)) (hpc : (s.core core.toNat).pc < t)
    (hprog : t < (s.core core.toNat).prog.length) (hloops : (s.core core.toNat).loops.length < 2)
    (hin : ∀ l ∈ (s.core core.toNat).loops, t ≤ l.stop) :
    exec (.gexaCLoop core (wordB 0x07 a 0 0 t)) s = .next (s.setCore core.toNat
      (if (s.core core.toNat).c a = 0#32
        then { s.core core.toNat with pc := (fallThrough t (s.core core.toNat).loops).1, loops := (fallThrough t (s.core core.toNat).loops).2 }
        else { s.core core.toNat with
          pc := (s.core core.toNat).pc + 1
          loops := ⟨(s.core core.toNat).pc + 1, t, (s.core core.toNat).cget a⟩ :: (s.core core.toNat).loops })) := by
  have ho : 0x07 < 32 := by omega
  obtain ⟨hD, -, hT⟩ := wordB_fields (b := 0) (cond := 0) ho ha (by omega) (by omega) ht
  have h0 := wordB_branchZeros (b := 0) (cond := 0) (namesA := true) (namesB := false) ho (by simpa using ha) (by simp) (by omega) ht
  rw [exec_gexaCLoop, execGexaCLoop]
  exact congrArg Host.Outcome.next
    (coreInstr_at h (wordB_opcode ho ha (by omega) (by omega) ht) h0 (cLoop_eq hD hT hpc hprog hloops hin))

theorem exec_nop_late (hi : s.coreIssues core.toNat = true) (hl : s.coreLate core.toNat = true)
    (hpc : (s.core core.toNat).pc < (s.core core.toNat).prog.length)
    (hw : nth 0#32 (s.core core.toNat).prog (s.core core.toNat).pc = wordR 0 0 0 0 0 0 0) :
    exec (.gexaCNop core (wordR 0 0 0 0 0 0 0)) s = .next ((s.coreDone core (s.core core.toNat)).coreSettled core.toNat) := by
  rw [exec_gexaCNop, execGexaCNop, coreInstr, coreGate_late hi hl hpc hw (by decide) (by decide)]
  rfl

end

/-- Settles O5: one lemma for each kind of control instruction, and one for each way a loop body ends. -/
theorem coreControlResults : Obligations.CoreControlResults := by
  unfold Obligations.CoreControlResults
  exact ⟨fun r hr core s a b t ha hb ht hprog h => exec_coreBranch hr ha hb ht hprog h,
    fun core s => ⟨exec_nop, exec_halt, fun a t ha ht h hpc hprog hloops hin => exec_loop ha ht h hpc hprog hloops hin⟩,
    fun c l ls hl => ⟨coreNext_inside_loop hl, coreNext_loop_again hl, coreNext_loop_over hl⟩,
    fun core s hi hl hpc hw => exec_nop_late hi hl hpc hw⟩

end Sys2Proof.Machine

/-!
The lanes of a register (04_core_mode R149): a value built from its lanes has those lanes, and each lane operation of vop, vops, vcmp and vsel.
-/
namespace Sys2Proof.Machine

theorem lane_toNat {n w : Nat} (x : BitVec w) (i : Nat) : (lane n x i).toNat = x.toNat / 2 ^ (n * i) % 2 ^ n := by
  rw [lane, BitVec.toNat_setWidth, BitVec.toNat_ushiftRight, Nat.shiftRight_eq_div_pow]

/-- The model's lane of a register's number is the lane of its bits. -/
theorem laneOf_toNat {n w : Nat} (hn : 0 < n) (x : BitVec w) (i : Nat) : laneOf n x.toNat i = (lane n x i).toNat := by
  rw [lane_toNat, laneOf, bitsOf, Nat.shiftRight_eq_div_pow, show n * i + n - 1 + 1 - n * i = n by omega]

theorem laneOf_vget {n : Nat} (hn : 0 < n) (c : CoreState) (r i : Nat) : laneOf n (c.vget r) i = (lane n (c.v r) i).toNat := by
  rw [← CoreState.v_toNat, laneOf_toNat hn]

theorem laneOf_aget {n : Nat} (hn : 0 < n) (c : CoreState) (r i : Nat) : laneOf n (c.aget r) i = (lane n (c.a r) i).toNat := by
  rw [← CoreState.a_toNat, laneOf_toNat hn]

theorem ofLanes_lt (n : Nat) (l : List Nat) : ofLanes n l < 2 ^ (n * l.length) := by
  induction l with
  | nil => exact Nat.one_pos
  | cons x xs ih =>
    have hx : x % 2 ^ n < 2 ^ n := Nat.mod_lt _ (Nat.two_pow_pos n)
    calc x % 2 ^ n + 2 ^ n * ofLanes n xs
      _ < 2 ^ n * (ofLanes n xs + 1) := by rw [Nat.mul_add]; omega
      _ ≤ 2 ^ n * 2 ^ (n * xs.length) := Nat.mul_le_mul_left _ ih
      _ = 2 ^ (n * (x :: xs).length) := by rw [← Nat.pow_add, List.length_cons]; congr 1; ring

theorem ofLanes_div_mod (n : Nat) {l : List Nat} {i : Nat} (hi : i < l.length) : ofLanes n l / 2 ^ (n * i) % 2 ^ n = l[i] % 2 ^ n := by
  induction l generalizing i with
  | nil => exact absurd hi (Nat.not_lt_zero i)
  | cons x xs ih =>
    cases i with
    | zero => rw [Nat.mul_zero, Nat.pow_zero, Nat.div_one, ofLanes, Nat.add_mul_mod_self_left, Nat.mod_mod]; rfl
    | succ i =>
      have hdrop : ofLanes n (x :: xs) / 2 ^ n = ofLanes n xs := by
        rw [ofLanes, Nat.add_mul_div_left _ _ (Nat.two_pow_pos n), Nat.div_eq_of_lt (Nat.mod_lt _ (Nat.two_pow_pos n)), Nat.zero_add]
      rw [Nat.mul_succ, Nat.add_comm, Nat.pow_add, ← Nat.div_div_eq_div_mul, hdrop, ih (Nat.lt_of_succ_lt_succ hi)]
      rfl

/-- A register value built from its lanes has those lanes. -/
theorem lane_ofLanes {n w i : Nat} {l : List Nat} (hi : i < l.length) (hw : n * l.length ≤ w) :
    lane n (BitVec.ofNat w (ofLanes n l)) i = BitVec.ofNat n l[i] := by
  refine BitVec.eq_of_toNat_eq ?_
  have hlt : ofLanes n l < 2 ^ w := Nat.lt_of_lt_of_le (ofLanes_lt n l) (Nat.pow_le_pow_right Nat.two_pos hw)
  rw [lane_toNat, BitVec.toNat_ofNat, Nat.mod_eq_of_lt hlt, ofLanes_div_mod n hi, BitVec.toNat_ofNat]

theorem lane_ofLanes_range {n w k i : Nat} (f : Nat → Nat) (hi : i < k) (hw : n * k ≤ w) :
    lane n (BitVec.ofNat w (ofLanes n ((List.range k).map f))) i = BitVec.ofNat n (f i) := by
  rw [lane_ofLanes (by simpa using hi) (by simpa using hw), List.getElem_map, List.getElem_range]

theorem laneWidth_of_lt {sz : Nat} (h : sz < 2) : laneWidth sz = some (8 * (sz + 1)) := by
  match sz, h with
  | 0, _ => rfl
  | 1, _ => rfl

theorem laneCount_of_lt {sz : Nat} (h : sz < 2) : laneCount (8 * (sz + 1)) = 16 / (sz + 1) := by
  match sz, h with
  | 0, _ => rfl
  | 1, _ => rfl

theorem lanes_fit (sz : Nat) : 8 * (sz + 1) * (16 / (sz + 1)) ≤ 128 := by
  have := Nat.mul_div_le 16 (sz + 1)
  rw [Nat.mul_assoc]; omega

/-- An instruction whose result in vd is built lane by lane. -/
theorem exec_lanes {i : Instr} {s₀ s : State} {core : CoreId} {c : CoreState} {d n k : Nat} {f : Nat → Nat} {g : Nat → BitVec n} (hk : n * k ≤ 128)
    (hi : exec i s₀ = .next (s.coreDone core (c.vset d (ofLanes n ((List.range k).map f))))) (hf : ∀ j < k, BitVec.ofNat n (f j) = g j) :
    ∃ x : BitVec 128, exec i s₀ = .next (s.coreDone core (c.vset d x.toNat)) ∧ ∀ j < k, lane n x j = g j :=
  ⟨BitVec.ofNat 128 (ofLanes n ((List.range k).map f)), by rw [hi, CoreState.vset_ofNat],
    fun j hj => by rw [lane_ofLanes_range f hj hk, hf j hj]⟩

/-- The same for an accumulator. -/
theorem exec_accLanes {i : Instr} {s : State} {core : CoreId} {c : CoreState} {d : Nat} {f : Nat → Nat} {g : Nat → Word}
    (hi : exec i s = .next (s.coreDone core (c.aset d (ofLanes 32 ((List.range 16).map f))))) (hf : ∀ j < 16, BitVec.ofNat 32 (f j) = g j) :
    ∃ x : BitVec 512, exec i s = .next (s.coreDone core (c.aset d x.toNat)) ∧ ∀ j < 16, lane 32 x j = g j :=
  ⟨BitVec.ofNat 512 (ofLanes 32 ((List.range 16).map f)), by rw [hi, CoreState.aset_ofNat],
    fun j hj => by rw [lane_ofLanes_range f hj (by norm_num), hf j hj]⟩

/-! vop and vops (R149). -/

/-- R149: each lane operation, as the model computes it on numbers. -/
theorem coreLanes_exec : ∀ r ∈ coreLanes,
    (∀ core w s, exec (r.1 core w) s = .next (coreInstr core w 0xF80000FF (0x0A * 2 ^ 27 + r.2.2.1) 0x04447800 (cVop r.2.2.1) s)) ∧
    (∀ core w s, exec (r.2.1 core w) s = .next (coreInstr core w 0xF80000FF (0x0B * 2 ^ 27 + r.2.2.1) 0x04407800 (cVops r.2.2.1) s)) ∧
    ∀ (n : Nat) (a b : BitVec n), BitVec.ofNat n (vopLane r.2.2.1 n a.toNat b.toNat) = r.2.2.2 n a b := by
  simp only [coreLanes, List.forall_mem_cons]
  refine ⟨⟨fun _ _ _ => rfl, fun _ _ _ => rfl, fun n a b => ?add⟩, ⟨fun _ _ _ => rfl, fun _ _ _ => rfl, fun n a b => ?sub⟩,
    ⟨fun _ _ _ => rfl, fun _ _ _ => rfl, fun n a b => ?adds⟩, ⟨fun _ _ _ => rfl, fun _ _ _ => rfl, fun n a b => ?subs⟩,
    ⟨fun _ _ _ => rfl, fun _ _ _ => rfl, fun n => ofNat_sMin⟩, ⟨fun _ _ _ => rfl, fun _ _ _ => rfl, fun n => ofNat_sMax⟩,
    ⟨fun _ _ _ => rfl, fun _ _ _ => rfl, fun n => ofNat_toNat_min⟩, ⟨fun _ _ _ => rfl, fun _ _ _ => rfl, fun n => ofNat_toNat_max⟩,
    ⟨fun _ _ _ => rfl, fun _ _ _ => rfl, fun n => ofNat_toNat_and⟩, ⟨fun _ _ _ => rfl, fun _ _ _ => rfl, fun n => ofNat_toNat_or⟩,
    ⟨fun _ _ _ => rfl, fun _ _ _ => rfl, fun n => ofNat_toNat_xor⟩, ⟨fun _ _ _ => rfl, fun _ _ _ => rfl, fun n a b => ?shl⟩,
    ⟨fun _ _ _ => rfl, fun _ _ _ => rfl, fun n a b => ofNat_toNat_shr a _⟩, ⟨fun _ _ _ => rfl, fun _ _ _ => rfl, fun n a b => ofNat_sraW a _⟩,
    ⟨fun _ _ _ => rfl, fun _ _ _ => rfl, fun n a b => ?abs⟩, ⟨fun _ _ _ => rfl, fun _ _ _ => rfl, fun n a b => ?mul⟩, nofun⟩
  case add => exact (ofNat_mod_width n _).trans (ofNat_toNat_add a b)
  case sub => exact (ofNat_mod_width n _).trans (ofNat_toNat_sub a b)
  case adds => simp only [vopLane, toSigned_toNat, ofNat_clampInt]
  case subs => simp only [vopLane, toSigned_toNat, ofNat_clampInt]
  case shl => exact (ofNat_mod_width n _).trans (ofNat_toNat_shl a _)
  case abs => simp only [vopLane, toSigned_toNat, ofNat_mod_width, ofNat_natAbs_toInt]
  case mul => exact (ofNat_mod_width n _).trans (ofNat_toNat_mul a b)

theorem coreLanes_fn : ∀ r ∈ coreLanes, r.2.2.1 < 256 := by decide

theorem cget_mod (c : CoreState) (b n : Nat) : c.cget b % 2 ^ n = ((c.c b).setWidth n).toNat := by
  rw [BitVec.toNat_setWidth, CoreState.c_toNat]

/-! The lane instructions at a word of format R. -/

section
variable {op d a b e sz fn : Nat} (hf : FieldsR op d a b e sz fn) (hsz : sz < 2) (c : CoreState)
include hf hsz

theorem cVop_wordR (k : Nat) : cVop k (wordR op d a b e sz fn) c = .ok (coreNext (c.vset d (ofLanes (8 * (sz + 1)) ((List.range (16 / (sz + 1))).map
    (fun i => vopLane k (8 * (sz + 1)) (laneOf (8 * (sz + 1)) (c.vget a) i) (laneOf (8 * (sz + 1)) (c.vget b) i)))))) := by
  rw [cVop, fSz_wordR hf, laneWidth_of_lt hsz]
  simp only [setV, fD_wordR hf, fA_wordR hf, fB_wordR hf, laneCount_of_lt hsz]

theorem cVops_wordR (k : Nat) : cVops k (wordR op d a b e sz fn) c = .ok (coreNext (c.vset d (ofLanes (8 * (sz + 1)) ((List.range (16 / (sz + 1))).map
    (fun i => vopLane k (8 * (sz + 1)) (laneOf (8 * (sz + 1)) (c.vget a) i) (c.cget b % 2 ^ (8 * (sz + 1)))))))) := by
  rw [cVops, fSz_wordR hf, laneWidth_of_lt hsz]
  simp only [setV, fD_wordR hf, fA_wordR hf, fB_wordR hf, laneCount_of_lt hsz]

theorem cVcmp_wordR_vector (k : Nat) (h7 : fn.testBit 7 = false) (hb : b < 8) : cVcmp k (wordR op d a b e sz fn) c =
    .ok (coreNext (c.vset d (ofLanes (8 * (sz + 1)) ((List.range (16 / (sz + 1))).map (fun i =>
      maskLane (8 * (sz + 1)) (vcmpLane k (8 * (sz + 1)) (laneOf (8 * (sz + 1)) (c.vget a) i) (laneOf (8 * (sz + 1)) (c.vget b) i))))))) := by
  rw [cVcmp, fSz_wordR hf, laneWidth_of_lt hsz]
  simp only [setV, fD_wordR hf, fA_wordR hf, fB_wordR hf, fFn_wordR hf, h7, laneCount_of_lt hsz]
  simp [Nat.not_lt.mpr (Nat.le_of_lt_succ hb)]

theorem cVcmp_wordR_scalar (k : Nat) (h7 : fn.testBit 7 = true) : cVcmp k (wordR op d a b e sz fn) c =
    .ok (coreNext (c.vset d (ofLanes (8 * (sz + 1)) ((List.range (16 / (sz + 1))).map (fun i =>
      maskLane (8 * (sz + 1)) (vcmpLane k (8 * (sz + 1)) (laneOf (8 * (sz + 1)) (c.vget a) i) (c.cget b % 2 ^ (8 * (sz + 1))))))))) := by
  rw [cVcmp, fSz_wordR hf, laneWidth_of_lt hsz]
  simp only [setV, fD_wordR hf, fA_wordR hf, fB_wordR hf, fFn_wordR hf, h7, laneCount_of_lt hsz]
  simp

theorem cVsel_wordR : cVsel (wordR op d a b e sz fn) c = .ok (coreNext (c.vset d (ofLanes (8 * (sz + 1)) ((List.range (16 / (sz + 1))).map
    (fun i => if laneOf (8 * (sz + 1)) (c.vget e) i ≠ 0 then laneOf (8 * (sz + 1)) (c.vget a) i else laneOf (8 * (sz + 1)) (c.vget b) i))))) := by
  rw [cVsel, fSz_wordR hf, laneWidth_of_lt hsz]
  simp only [setV, fD_wordR hf, fA_wordR hf, fB_wordR hf, fE_wordR hf, laneCount_of_lt hsz]

end

/-- Settles O7: each row of the table computes its operation in every lane. -/
theorem coreLaneResults : Obligations.CoreLaneResults := by
  unfold Obligations.CoreLaneResults
  intro r hr core s d a b sz hd ha hsz
  have hfn := coreLanes_fn r hr
  obtain ⟨hvop, hvops, hop⟩ := coreLanes_exec r hr
  refine ⟨fun hb h => ?_, fun hb h => ?_⟩
  · have hf : FieldsR 0x0A d a b 0 sz r.2.2.1 := by omega
    refine exec_lanes (lanes_fit sz)
      (exec_wordR hf h (hvop ..) (by simp (disch := omega) [wordR_and, and_8]) (cVop_wordR hf hsz _ _)) fun j _ => ?_
    rw [laneOf_vget (by omega), laneOf_vget (by omega), hop]
  · have hf : FieldsR 0x0B d a b 0 sz r.2.2.1 := by omega
    refine exec_lanes (lanes_fit sz)
      (exec_wordR hf h (hvops ..) (by simp (disch := omega) [wordR_and, and_8]) (cVops_wordR hf hsz _ _)) fun j _ => ?_
    rw [laneOf_vget (by omega), cget_mod, hop]

/-! vcmp and vsel (R149). -/

/-- R149: each relation, as the model computes it on numbers. -/
theorem coreCompares_exec : ∀ r ∈ coreCompares,
    (∀ core w s, exec (r.1 core w) s = .next (coreInstr core w 0xF800007F (0x0C * 2 ^ 27 + r.2.1) 0x04407800 (cVcmp r.2.1) s)) ∧
    ∀ (n : Nat) (a b : BitVec n), vcmpLane r.2.1 n a.toNat b.toNat = r.2.2 n a b := by
  simp only [coreCompares, List.forall_mem_cons]
  exact ⟨⟨fun _ _ _ => rfl, fun n => toNat_beq⟩, ⟨fun _ _ _ => rfl, fun n => toNat_bne⟩, ⟨fun _ _ _ => rfl, fun n => decide_toSigned_lt⟩,
    ⟨fun _ _ _ => rfl, fun n => decide_toSigned_le⟩, ⟨fun _ _ _ => rfl, fun n a b => decide_toSigned_lt b a⟩,
    ⟨fun _ _ _ => rfl, fun n a b => decide_toSigned_le b a⟩, ⟨fun _ _ _ => rfl, fun _ _ _ => rfl⟩, ⟨fun _ _ _ => rfl, fun _ _ _ => rfl⟩,
    ⟨fun _ _ _ => rfl, fun _ _ _ => rfl⟩, ⟨fun _ _ _ => rfl, fun _ _ _ => rfl⟩, nofun⟩

theorem coreCompares_fn : ∀ r ∈ coreCompares, r.2.1 < 16 := by decide

theorem ofNat_maskLane (n : Nat) (b : Bool) : BitVec.ofNat n (maskLane n b) = if b then BitVec.allOnes n else 0 := by
  cases b
  · rfl
  · exact BitVec.eq_of_toNat_eq (by simp [maskLane])

/-- The bits that name a vcmp: op and fn[6:0]. -/
theorem wordR_opcode_vcmp {op d a b e sz fn : Nat} (hf : FieldsR op d a b e sz fn) :
    (wordR op d a b e sz fn).toNat &&& 0xF800007F = op * 2 ^ 27 + fn % 2 ^ 7 := by
  obtain ⟨ho, hd, ha, hb, he, hs, hf⟩ := hf
  rw [wordR_and _ ho hd ha hb he hs hf]
  norm_num [and_31 ho]
  exact Nat.and_two_pow_sub_one_eq_mod fn 7

theorem laneOf_vget_eq_zero {n : Nat} (hn : 0 < n) (c : CoreState) (r i : Nat) : laneOf n (c.vget r) i = 0 ↔ lane n (c.v r) i = 0 := by
  rw [laneOf_vget hn, BitVec.toNat_eq]; rfl

section
variable {core : CoreId} {s : State} {d a b e sz : Nat}

theorem exec_vcmp_vector {r : (CoreId → Word → Instr) × Nat × ((n : Nat) → BitVec n → BitVec n → Bool)} (hr : r ∈ coreCompares) (hd : d < 8)
    (ha : a < 8) (hb : b < 8) (hsz : sz < 2) (h : s.coreAt core (wordR 0x0C d a b 0 sz r.2.1)) :
    ∃ x : BitVec 128, exec (r.1 core (wordR 0x0C d a b 0 sz r.2.1)) s = .next (s.coreDone core ((s.core core.toNat).vset d x.toNat)) ∧
      ∀ i < 16 / (sz + 1), lane (8 * (sz + 1)) x i =
        if r.2.2 _ (lane (8 * (sz + 1)) ((s.core core.toNat).v a) i) (lane (8 * (sz + 1)) ((s.core core.toNat).v b) i)
        then BitVec.allOnes _ else 0 := by
  have hfn := coreCompares_fn r hr
  have hf : FieldsR 0x0C d a b 0 sz r.2.1 := by omega
  have hm := wordR_opcode_vcmp hf
  rw [Nat.mod_eq_of_lt (show r.2.1 < 2 ^ 7 by omega)] at hm
  obtain ⟨hexec, hop⟩ := coreCompares_exec r hr
  have h7 : r.2.1.testBit 7 = false := Nat.testBit_eq_false_of_lt (by omega)
  refine exec_lanes (lanes_fit sz)
    (exec_inside h (hexec ..) hm (by simp (disch := omega) [wordR_and, and_8]) (cVcmp_wordR_vector hf hsz _ _ h7 hb)) fun j _ => ?_
  rw [laneOf_vget (by omega), laneOf_vget (by omega), hop, ofNat_maskLane]

theorem exec_vcmp_scalar {r : (CoreId → Word → Instr) × Nat × ((n : Nat) → BitVec n → BitVec n → Bool)} (hr : r ∈ coreCompares) (hd : d < 8)
    (ha : a < 8) (hb : b < 16) (hsz : sz < 2) (h : s.coreAt core (wordR 0x0C d a b 0 sz (0x80 + r.2.1))) :
    ∃ x : BitVec 128, exec (r.1 core (wordR 0x0C d a b 0 sz (0x80 + r.2.1))) s = .next (s.coreDone core ((s.core core.toNat).vset d x.toNat)) ∧
      ∀ i < 16 / (sz + 1), lane (8 * (sz + 1)) x i =
        if r.2.2 _ (lane (8 * (sz + 1)) ((s.core core.toNat).v a) i) (((s.core core.toNat).c b).setWidth _) then BitVec.allOnes _ else 0 := by
  have hfn := coreCompares_fn r hr
  have hf : FieldsR 0x0C d a b 0 sz (0x80 + r.2.1) := by omega
  have hm := wordR_opcode_vcmp hf
  rw [show (0x80 + r.2.1) % 2 ^ 7 = r.2.1 by omega] at hm
  obtain ⟨hexec, hop⟩ := coreCompares_exec r hr
  have h7 : (0x80 + r.2.1).testBit 7 = true := by rw [Nat.testBit_two_pow_add_eq r.2.1 7, Nat.testBit_eq_false_of_lt (by omega)]; rfl
  refine exec_lanes (lanes_fit sz)
    (exec_inside h (hexec ..) hm (by simp (disch := omega) [wordR_and, and_8]) (cVcmp_wordR_scalar hf hsz _ _ h7)) fun j _ => ?_
  rw [laneOf_vget (by omega), cget_mod, hop, ofNat_maskLane]

theorem exec_vsel_lanes (hd : d < 8) (ha : a < 8) (hb : b < 8) (he : e < 8) (hsz : sz < 2) (h : s.coreAt core (wordR 0x0D d a b e sz 0)) :
    ∃ x : BitVec 128, exec (.vsel core (wordR 0x0D d a b e sz 0)) s = .next (s.coreDone core ((s.core core.toNat).vset d x.toNat)) ∧
      ∀ i < 16 / (sz + 1), lane (8 * (sz + 1)) x i =
        if lane (8 * (sz + 1)) ((s.core core.toNat).v e) i ≠ 0 then lane (8 * (sz + 1)) ((s.core core.toNat).v a) i
        else lane (8 * (sz + 1)) ((s.core core.toNat).v b) i := by
  have hf : FieldsR 0x0D d a b e sz 0 := by omega
  refine exec_lanes (lanes_fit sz)
    (exec_wordR hf h (exec_vsel ..) (by simp (disch := omega) [wordR_and, and_8]) (cVsel_wordR hf hsz _)) fun j _ => ?_
  have hn : 0 < 8 * (sz + 1) := by omega
  simp only [ne_eq, laneOf_vget_eq_zero hn]
  simp only [apply_ite (BitVec.ofNat (8 * (sz + 1))), laneOf_vget hn, ofNat_toNat_self]

end

/-- Settles O8: each row of the table is its relation in every lane, and vsel picks lane by lane. -/
theorem coreCompareResults : Obligations.CoreCompareResults := by
  unfold Obligations.CoreCompareResults
  exact ⟨fun r hr core s d a b sz hd ha hsz => ⟨fun hb h => exec_vcmp_vector hr hd ha hb hsz h, fun hb h => exec_vcmp_scalar hr hd ha hb hsz h⟩,
    fun core s d a b e sz hd ha hb he hsz h => exec_vsel_lanes hd ha hb he hsz h⟩

end Sys2Proof.Machine

/-!
The accumulator instructions of a core (04_core_mode R148, R149), and O9.
-/
namespace Sys2Proof.Machine

/-! Lists by index, and lanes replaced in a register. -/

theorem nth_eq_getD {α : Type} (d : α) (l : List α) (i : Nat) : nth d l i = l.getD i d := by
  induction l generalizing i with
  | nil => cases i <;> rfl
  | cons x xs ih =>
    cases i with
    | zero => rfl
    | succ i => rw [nth, ih]; rfl

theorem nth_eq_getElem {α : Type} (d : α) {l : List α} {i : Nat} (h : i < l.length) : nth d l i = l[i] := by
  rw [nth_eq_getD, List.getD_eq_getElem l d h]

theorem nth_map_range {α : Type} (d : α) (f : Nat → α) {k i : Nat} (h : i < k) : nth d ((List.range k).map f) i = f i := by
  rw [nth_eq_getElem d (by simpa using h), List.getElem_map, List.getElem_range]

/-- Lanes from `o` on replaced by those of a list, the others kept. -/
theorem lane_putLanes {n k o i : Nat} {w : Nat} (hn : 0 < n) (v : BitVec w) (xs : List Nat) (hi : i < k) (hw : n * k ≤ w) :
    lane n (BitVec.ofNat w (putLanes n k v.toNat o xs)) i =
      if o ≤ i ∧ i < o + xs.length then BitVec.ofNat n (nth 0 xs (i - o)) else lane n v i := by
  rw [putLanes, lane_ofLanes_range _ hi hw, laneOf_toNat hn, apply_ite (BitVec.ofNat n), ofNat_toNat_self]

/-- An instruction that replaces lanes of ad. -/
theorem exec_putLanes {i : Instr} {s : State} {core : CoreId} {c : CoreState} {d o : Nat} {xs : List Nat}
    (hi : exec i s = .next (s.coreDone core (c.aset d (putLanes 32 16 (c.aget d) o xs)))) :
    ∃ x : BitVec 512, exec i s = .next (s.coreDone core (c.aset d x.toNat)) ∧
      ∀ j < 16, lane 32 x j = if o ≤ j ∧ j < o + xs.length then BitVec.ofNat 32 (nth 0 xs (j - o)) else lane 32 (c.a d) j :=
  ⟨BitVec.ofNat 512 (putLanes 32 16 (c.a d).toNat o xs), by rw [hi, CoreState.aset_ofNat, CoreState.a_toNat],
    fun j hj => lane_putLanes (by norm_num) (c.a d) xs hj (by norm_num)⟩

/-- The same for eight lanes from lane 0 on. -/
theorem exec_putLowLanes {i : Instr} {s : State} {core : CoreId} {c : CoreState} {d : Nat} {f : Nat → Nat} {g : Nat → Word}
    (hi : exec i s = .next (s.coreDone core (c.aset d (putLanes 32 16 (c.aget d) 0 ((List.range 8).map f)))))
    (hf : ∀ j < 8, BitVec.ofNat 32 (f j) = g j) :
    ∃ x : BitVec 512, exec i s = .next (s.coreDone core (c.aset d x.toNat)) ∧
      (∀ j < 8, lane 32 x j = g j) ∧ ∀ j < 16, 8 ≤ j → lane 32 x j = lane 32 (c.a d) j := by
  obtain ⟨x, hx, hlane⟩ := exec_putLanes hi
  rw [List.length_map, List.length_range] at hlane
  refine ⟨x, hx, fun j hj => ?_, fun j hj h8 => ?_⟩
  · rw [hlane j (by omega), if_pos (by omega), Nat.sub_zero, nth_map_range 0 f hj, hf j hj]
  · rw [hlane j hj, if_neg (by omega)]

/-- A product of two lanes added to a number, in 32 bits. -/
theorem ofNat_mulAdd {n : Nat} (hn : 0 < n) (c : CoreState) (a b i old : Nat) :
    BitVec.ofNat 32 (wrapInt 32 (toSigned n (laneOf n (c.vget a) i) * toSigned n (laneOf n (c.vget b) i) + (old : Int))) =
      (lane n (c.v a) i).signExtend 32 * (lane n (c.v b) i).signExtend 32 + BitVec.ofNat 32 old := by
  rw [ofNat_wrapInt, laneOf_vget hn, laneOf_vget hn, toSigned_toNat, toSigned_toNat, BitVec.ofInt_add, BitVec.ofInt_mul, BitVec.ofInt_natCast]
  rfl

/-- What vmac adds and vmul does not. -/
theorem ofNat_kept (c : CoreState) (keep : Bool) (d i : Nat) :
    BitVec.ofNat 32 (if keep then laneOf 32 (c.aget d) i else 0) = if keep then lane 32 (c.a d) i else 0 := by
  cases keep with
  | true => exact (congrArg _ (laneOf_aget (by norm_num) c d i)).trans (ofNat_toNat_self _)
  | false => rfl

theorem exec_vmacVmul (keep : Bool) (core : CoreId) (w : Word) (s : State) :
    exec (if keep then .vmac core w else .vmul core w) s =
      .next (coreInstr core w 0xF80000FF (0x0E * 2 ^ 27 + if keep then 0 else 1) 0x06447800 (cVmac keep) s) := by
  cases keep <;> rfl

section
variable {op d a b e fn : Nat} {c : CoreState} (keep : Bool)

theorem cVmac_bytes (hf : FieldsR op d a b e 0 fn) : cVmac keep (wordR op d a b e 0 fn) c =
    .ok (coreNext (c.aset d (ofLanes 32 ((List.range 16).map (fun i => wrapInt 32 (toSigned 8 (laneOf 8 (c.vget a) i)
      * toSigned 8 (laneOf 8 (c.vget b) i) + ((if keep then laneOf 32 (c.aget d) i else 0 : Nat) : Int))))))) := by
  rw [cVmac, fSz_wordR hf, fD_wordR hf, fA_wordR hf, fB_wordR hf]
  rfl

theorem cVmac_halves (hf : FieldsR op d a b e 1 fn) : cVmac keep (wordR op d a b e 1 fn) c =
    .ok (coreNext (c.aset d (putLanes 32 16 (c.aget d) 0 ((List.range 8).map (fun i => wrapInt 32 (toSigned 16 (laneOf 16 (c.vget a) i)
      * toSigned 16 (laneOf 16 (c.vget b) i) + ((if keep then laneOf 32 (c.aget d) i else 0 : Nat) : Int))))))) := by
  rw [cVmac, fSz_wordR hf, fD_wordR hf, fA_wordR hf, fB_wordR hf]
  rfl

end

/-- The sum of the lanes as numbers is their sum in 32 bits. -/
theorem ofNat_foldl_add {w : Nat} (l : List Nat) (z : Nat) :
    BitVec.ofNat w (l.foldl (fun a x => a + x) z) = (l.map (BitVec.ofNat w)).foldl (fun x y => x + y) (BitVec.ofNat w z) := by
  induction l generalizing z with
  | nil => rfl
  | cons x xs ih => rw [List.foldl_cons, ih, BitVec.ofNat_add]; rfl

section
variable {core : CoreId} {s : State} {d a b : Nat}

theorem exec_vmacVmul_bytes (keep : Bool) (hd : d < 4) (ha : a < 8) (hb : b < 8)
    (h : s.coreAt core (wordR 0x0E d a b 0 0 (if keep then 0 else 1))) : ∃ x : BitVec 512,
    exec (if keep then .vmac core (wordR 0x0E d a b 0 0 (if keep then 0 else 1)) else .vmul core (wordR 0x0E d a b 0 0 (if keep then 0 else 1))) s =
      .next (s.coreDone core ((s.core core.toNat).aset d x.toNat)) ∧
    ∀ i < 16, lane 32 x i = (lane 8 ((s.core core.toNat).v a) i).signExtend 32 * (lane 8 ((s.core core.toNat).v b) i).signExtend 32
      + if keep then lane 32 ((s.core core.toNat).a d) i else 0 := by
  have hf : FieldsR 0x0E d a b 0 0 (if keep then 0 else 1) := by split <;> omega
  refine exec_accLanes (exec_wordR hf h (exec_vmacVmul keep ..) ?_ (cVmac_bytes keep hf)) fun j _ => ?_
  · cases keep <;> simp (disch := omega) [wordR_and, and_8, and_12]
  · rw [ofNat_mulAdd (by norm_num), ofNat_kept]

theorem exec_vmacVmul_halves (keep : Bool) (hd : d < 4) (ha : a < 8) (hb : b < 8)
    (h : s.coreAt core (wordR 0x0E d a b 0 1 (if keep then 0 else 1))) : ∃ x : BitVec 512,
    exec (if keep then .vmac core (wordR 0x0E d a b 0 1 (if keep then 0 else 1)) else .vmul core (wordR 0x0E d a b 0 1 (if keep then 0 else 1))) s =
      .next (s.coreDone core ((s.core core.toNat).aset d x.toNat)) ∧
    (∀ i < 8, lane 32 x i = (lane 16 ((s.core core.toNat).v a) i).signExtend 32 * (lane 16 ((s.core core.toNat).v b) i).signExtend 32
      + if keep then lane 32 ((s.core core.toNat).a d) i else 0) ∧
    ∀ i < 16, 8 ≤ i → lane 32 x i = lane 32 ((s.core core.toNat).a d) i := by
  have hf : FieldsR 0x0E d a b 0 1 (if keep then 0 else 1) := by split <;> omega
  refine exec_putLowLanes (exec_wordR hf h (exec_vmacVmul keep ..) ?_ (cVmac_halves keep hf)) fun j _ => ?_
  · cases keep <;> simp (disch := omega) [wordR_and, and_8, and_12]
  · rw [ofNat_mulAdd (by norm_num), ofNat_kept]

theorem exec_aclr_zero (hd : d < 4) (h : s.coreAt core (wordR 0x0F d 0 0 0 0 0)) :
    exec (.aclr core (wordR 0x0F d 0 0 0 0 0)) s = .next (s.coreDone core ((s.core core.toNat).aset d 0)) := by
  have hf : FieldsR 0x0F d 0 0 0 0 0 := by omega
  refine exec_wordR hf h (exec_aclr ..) (by simp (disch := omega) [wordR_and, and_12]) ?_
  rw [fD_wordR hf]

theorem exec_aget_lane (hd : d < 16) (ha : a < 4) (hb : b < 16) (h : s.coreAt core (wordR 0x0F d a b 0 0 1)) :
    exec (.aget core (wordR 0x0F d a b 0 0 1)) s = .next (s.coreDone core
      ((s.core core.toNat).cset d (lane 32 ((s.core core.toNat).a a) (((s.core core.toNat).c b).toNat % 16)).toNat)) := by
  have hf : FieldsR 0x0F d a b 0 0 1 := by omega
  refine exec_wordR hf h (exec_aget ..) (by simp (disch := omega) [wordR_and, and_12]) ?_
  rw [fA_wordR hf, fB_wordR hf, laneOf_aget (by norm_num), CoreState.c_toNat]
  exact setC_eq (fD_wordR hf) (ofNat_toNat_self _)

theorem exec_aput_lane (hd : d < 4) (ha : a < 16) (hb : b < 16) (h : s.coreAt core (wordR 0x0F d a b 0 0 2)) : ∃ x : BitVec 512,
    exec (.aput core (wordR 0x0F d a b 0 0 2)) s = .next (s.coreDone core ((s.core core.toNat).aset d x.toNat)) ∧
    ∀ i < 16, lane 32 x i =
      if i = ((s.core core.toNat).c b).toNat % 16 then (s.core core.toNat).c a else lane 32 ((s.core core.toNat).a d) i := by
  have hf : FieldsR 0x0F d a b 0 0 2 := by omega
  obtain ⟨x, hx, hlane⟩ := exec_putLanes (c := s.core core.toNat) (d := d) (o := (s.core core.toNat).cget b % 16)
    (xs := [(s.core core.toNat).cget a])
    (exec_wordR hf h (exec_aput ..) (by simp (disch := omega) [wordR_and, and_12]) (by rw [fD_wordR hf, fA_wordR hf, fB_wordR hf]))
  refine ⟨x, hx, fun i hi => ?_⟩
  rw [hlane i hi, CoreState.c_toNat, List.length_singleton]
  by_cases hb : i = (s.core core.toNat).cget b % 16
  · rw [if_pos (by omega), if_pos hb, hb, Nat.sub_self, nth, ← CoreState.c_toNat, ofNat_toNat_self]
  · rw [if_neg (by omega), if_neg hb]

theorem exec_aaddAsub (sub : Bool) (core : CoreId) (w : Word) (s : State) : exec (if sub then .asub core w else .aadd core w) s =
    .next (coreInstr core w 0xF80000FF (0x0F * 2 ^ 27 + if sub then 4 else 3) 0x06667F00 (cAccBin sub) s) := by
  cases sub <;> rfl

theorem ofNat_addSub (sub : Bool) (x y : Word) :
    BitVec.ofNat 32 (vopLane (if sub then 1 else 0) 32 x.toNat y.toNat) = if sub then x - y else x + y := by
  cases sub
  · exact (ofNat_mod_width 32 _).trans (ofNat_toNat_add x y)
  · exact (ofNat_mod_width 32 _).trans (ofNat_toNat_sub x y)

theorem exec_aaddAsub_lanes (sub : Bool) (hd : d < 4) (ha : a < 4) (hb : b < 4)
    (h : s.coreAt core (wordR 0x0F d a b 0 0 (if sub then 4 else 3))) : ∃ x : BitVec 512,
    exec (if sub then .asub core (wordR 0x0F d a b 0 0 (if sub then 4 else 3)) else .aadd core (wordR 0x0F d a b 0 0 (if sub then 4 else 3))) s =
      .next (s.coreDone core ((s.core core.toNat).aset d x.toNat)) ∧
    ∀ i < 16, lane 32 x i = if sub then lane 32 ((s.core core.toNat).a a) i - lane 32 ((s.core core.toNat).a b) i
      else lane 32 ((s.core core.toNat).a a) i + lane 32 ((s.core core.toNat).a b) i := by
  have hf : FieldsR 0x0F d a b 0 0 (if sub then 4 else 3) := by split <;> omega
  refine exec_accLanes (exec_wordR hf h (exec_aaddAsub sub ..) ?_ (by rw [cAccBin, fD_wordR hf, fA_wordR hf, fB_wordR hf])) fun j _ => ?_
  · cases sub <;> simp (disch := omega) [wordR_and, and_12]
  · rw [laneOf_aget (by norm_num), laneOf_aget (by norm_num), ofNat_addSub]

theorem exec_aiota_lanes (hd : d < 4) (ha : a < 16) (h : s.coreAt core (wordR 0x0F d a 0 0 0 5)) : ∃ x : BitVec 512,
    exec (.aiota core (wordR 0x0F d a 0 0 0 5)) s = .next (s.coreDone core ((s.core core.toNat).aset d x.toNat)) ∧
    ∀ i < 16, lane 32 x i = (s.core core.toNat).c a + BitVec.ofNat 32 i := by
  have hf : FieldsR 0x0F d a 0 0 0 5 := by omega
  refine exec_accLanes (exec_wordR hf h (exec_aiota ..) (by simp (disch := omega) [wordR_and, and_12]) (by rw [fD_wordR hf, fA_wordR hf]))
    fun j _ => ?_
  rw [BitVec.ofNat_add, ← CoreState.c_toNat, ofNat_toNat_self]

theorem exec_anarrow (hi : Bool) (core : CoreId) (w : Word) (s : State) : exec (if hi then .anarrowHi core w else .anarrowLo core w) s =
    .next (coreInstr core w 0xF80000FF (0x0F * 2 ^ 27 + if hi then 7 else 6) 0x0467FF00 (cNarrow (if hi then 8 else 0)) s) := by
  cases hi <;> rfl

theorem exec_anarrow_lanes (hi : Bool) (hd : d < 8) (ha : a < 4) (h : s.coreAt core (wordR 0x0F d a 0 0 0 (if hi then 7 else 6))) :
    ∃ x : BitVec 128,
    exec (if hi then .anarrowHi core (wordR 0x0F d a 0 0 0 (if hi then 7 else 6)) else .anarrowLo core (wordR 0x0F d a 0 0 0 (if hi then 7 else 6)))
      s = .next (s.coreDone core ((s.core core.toNat).vset d x.toNat)) ∧
    ∀ i < 8, lane 16 x i = saturate 16 (lane 32 ((s.core core.toNat).a a) (if hi then i + 8 else i)).toInt := by
  have hf : FieldsR 0x0F d a 0 0 0 (if hi then 7 else 6) := by split <;> omega
  refine exec_lanes (n := 16) (by norm_num) (exec_wordR hf h (exec_anarrow hi ..) ?_ (by rw [cNarrow, setV, fD_wordR hf, fA_wordR hf]))
    fun j _ => ?_
  · cases hi <;> simp (disch := omega) [wordR_and, and_8, and_12]
  · rw [laneOf_aget (by norm_num), toSigned_toNat, ← ofNat_clampInt]
    cases hi <;> rfl

theorem exec_awiden_lanes (hd : d < 4) (ha : a < 8) (h : s.coreAt core (wordR 0x0F d a 0 0 0 8)) : ∃ x : BitVec 512,
    exec (.awiden core (wordR 0x0F d a 0 0 0 8)) s = .next (s.coreDone core ((s.core core.toNat).aset d x.toNat)) ∧
    (∀ i < 8, lane 32 x i = (lane 16 ((s.core core.toNat).v a) i).setWidth 32) ∧
    ∀ i < 16, 8 ≤ i → lane 32 x i = lane 32 ((s.core core.toNat).a d) i := by
  have hf : FieldsR 0x0F d a 0 0 0 8 := by omega
  refine exec_putLowLanes (exec_wordR hf h (exec_awiden ..) (by simp (disch := omega) [wordR_and, and_8, and_12])
    (by rw [fD_wordR hf, fA_wordR hf, lanesOf])) fun j _ => ?_
  rw [laneOf_vget (by norm_num), BitVec.ofNat_toNat]

theorem exec_asum_lanes (hd : d < 16) (ha : a < 4) (h : s.coreAt core (wordR 0x0F d a 0 0 0 9)) :
    exec (.asum core (wordR 0x0F d a 0 0 0 9)) s = .next (s.coreDone core ((s.core core.toNat).cset d
      (((List.range 16).map (fun i => lane 32 ((s.core core.toNat).a a) i)).foldl (fun x y => x + y) 0#32).toNat)) := by
  have hf : FieldsR 0x0F d a 0 0 0 9 := by omega
  have hlanes : (lanesOf 32 16 ((s.core core.toNat).aget a)).map (BitVec.ofNat 32) =
      (List.range 16).map (fun i => lane 32 ((s.core core.toNat).a a) i) := by
    rw [lanesOf, List.map_map]
    exact List.map_congr_left fun i _ => by rw [Function.comp_apply, laneOf_aget (by norm_num), ofNat_toNat_self]
  refine exec_wordR hf h (exec_asum ..) (by simp (disch := omega) [wordR_and, and_12]) ?_
  rw [fA_wordR hf]
  exact setC_eq (fD_wordR hf) (by rw [ofNat_foldl_add, hlanes])

end

/-- Settles O9: one lemma for each accumulator instruction. -/
theorem coreAccumulatorResults : Obligations.CoreAccumulatorResults := by
  unfold Obligations.CoreAccumulatorResults
  intro core s d a b ha hb
  exact ⟨fun ha' hb' hd keep w hw h => by subst hw; exact exec_vmacVmul_bytes keep hd ha' hb' h,
    fun ha' hb' hd keep w hw h => by subst hw; exact exec_vmacVmul_halves keep hd ha' hb' h, fun hd h => exec_aclr_zero hd h,
    fun hd ha' h => exec_aget_lane hd ha' hb h, fun hd h => exec_aput_lane hd ha hb h,
    fun hd ha' hb' sub w hw h => by subst hw; exact exec_aaddAsub_lanes sub hd ha' hb' h, fun hd h => exec_aiota_lanes hd ha h,
    fun hd ha' hi w hw h => by subst hw; exact exec_anarrow_lanes hi hd ha' h, fun hd ha' h => exec_awiden_lanes hd ha' h,
    fun hd ha' h => exec_asum_lanes hd ha' h⟩

end Sys2Proof.Machine

/-!
vperm and vred (04_core_mode R149): the lanes that vperm moves, the reductions of the lanes of a register, and O10.
-/
namespace Sys2Proof.Machine

theorem State.drawn_coreAt {s : State} {core : CoreId} {w : Word} (h : s.coreAt core w) : s.drawn.coreAt core w := h

section
variable {op d a b e sz fn : Nat} (hf : FieldsR op d a b e sz fn) (hsz : sz < 2) (c : CoreState)
include hf hsz

theorem cVperm_wordR (f : Nat → Nat → Nat → Nat) : cVperm f (wordR op d a b e sz fn) c =
    .ok (coreNext (c.vset d (ofLanes (8 * (sz + 1)) ((List.range (16 / (sz + 1))).map (fun i => f (8 * (sz + 1)) (16 / (sz + 1)) i))))) := by
  rw [cVperm, fSz_wordR hf, laneWidth_of_lt hsz]
  simp only [setV, fD_wordR hf, laneCount_of_lt hsz]

theorem cVred_wordR (k : Nat) : cVred k (wordR op d a b e sz fn) c =
    .ok (coreNext (c.cset d (vredVal k (8 * (sz + 1)) (lanesOf (8 * (sz + 1)) (16 / (sz + 1)) (c.vget a))))) := by
  rw [cVred, fSz_wordR hf, laneWidth_of_lt hsz]
  simp only [setC, fD_wordR hf, fA_wordR hf, laneCount_of_lt hsz]

end

section
variable {core : CoreId} {s : State} {d a b e sz : Nat}

theorem exec_vperm_lanes (hd : d < 8) (ha : a < 8) (hb : b < 8) (hsz : sz < 2) (h : s.coreAt core (wordR 0x12 d a b 0 sz 0)) :
    ∃ x : BitVec 128, exec (.vpermPerm core (wordR 0x12 d a b 0 sz 0)) s = .next (s.coreDone core ((s.core core.toNat).vset d x.toNat)) ∧
      ∀ i < 16 / (sz + 1), lane (8 * (sz + 1)) x i = lane (8 * (sz + 1)) ((s.core core.toNat).v a)
        ((lane (8 * (sz + 1)) ((s.core core.toNat).v b) i).toNat % (16 / (sz + 1))) := by
  have hf : FieldsR 0x12 d a b 0 sz 0 := by omega
  refine exec_lanes (lanes_fit sz)
    (exec_wordR hf h (exec_vpermPerm ..) (by simp (disch := omega) [wordR_and, and_8]) (cVperm_wordR hf hsz _ _)) fun j _ => ?_
  rw [fA_wordR hf, fB_wordR hf, laneOf_vget (by omega), laneOf_vget (by omega), ofNat_toNat_self]

theorem exec_bcast_lanes (hd : d < 8) (ha : a < 8) (he : e < 16 / (sz + 1)) (hsz : sz < 2) (h : s.coreAt core (wordR 0x12 d a 0 e sz 1)) :
    ∃ x : BitVec 128, exec (.vpermBcast core (wordR 0x12 d a 0 e sz 1)) s = .next (s.drawn.coreDone core ((s.core core.toNat).vset d x.toNat)) ∧
      ∀ i < 16 / (sz + 1), lane (8 * (sz + 1)) x i = lane (8 * (sz + 1)) ((s.core core.toNat).v a) e := by
  have he' : e < 16 := Nat.lt_of_lt_of_le he (Nat.div_le_self _ _)
  have hf : FieldsR 0x12 d a 0 e sz 1 := by omega
  refine exec_lanes (lanes_fit sz) (exec_wordR hf (State.drawn_coreAt h) (exec_vpermBcast ..) (by simp (disch := omega) [wordR_and, and_8])
    (cVperm_wordR hf hsz _ _)) fun j _ => ?_
  rw [fE_wordR hf, fA_wordR hf, if_pos he, laneOf_vget (by omega), ofNat_toNat_self]
  rfl

/-- A lane number beyond the register's lanes: every lane takes the same free value. -/
theorem exec_bcast_open (hd : d < 8) (ha : a < 8) (he : 8 ≤ e) (he' : e < 16) (h : s.coreAt core (wordR 0x12 d a 0 e 1 1)) :
    ∃ x : BitVec 128, ∃ y : BitVec 16,
      exec (.vpermBcast core (wordR 0x12 d a 0 e 1 1)) s = .next (s.drawn.coreDone core ((s.core core.toNat).vset d x.toNat)) ∧
      ∀ i < 8, lane 16 x i = y := by
  have hf : FieldsR 0x12 d a 0 e 1 1 := by omega
  obtain ⟨x, hx, hlane⟩ := exec_lanes (g := fun _ => BitVec.ofNat 16 (s.free % 2 ^ 16)) (lanes_fit 1)
    (exec_wordR hf (State.drawn_coreAt h) (exec_vpermBcast ..) (by simp (disch := omega) [wordR_and, and_8])
      (cVperm_wordR hf (by omega) _ _)) fun j _ => by rw [fE_wordR hf, if_neg (by omega)]
  exact ⟨x, _, hx, hlane⟩

theorem exec_vpermUp_lanes (hd : d < 8) (ha : a < 8) (he : e < 16) (hsz : sz < 2) (h : s.coreAt core (wordR 0x12 d a 0 e sz 2)) :
    ∃ x : BitVec 128, exec (.vpermUp core (wordR 0x12 d a 0 e sz 2)) s = .next (s.coreDone core ((s.core core.toNat).vset d x.toNat)) ∧
      ∀ i < 16 / (sz + 1), lane (8 * (sz + 1)) x i = if i < e then 0 else lane (8 * (sz + 1)) ((s.core core.toNat).v a) (i - e) := by
  have hf : FieldsR 0x12 d a 0 e sz 2 := by omega
  refine exec_lanes (lanes_fit sz)
    (exec_wordR hf h (exec_vpermUp ..) (by simp (disch := omega) [wordR_and, and_8]) (cVperm_wordR hf hsz _ _)) fun j _ => ?_
  rw [fA_wordR hf, fE_wordR hf, laneOf_vget (by omega), apply_ite (BitVec.ofNat _), ofNat_toNat_self]
  rfl

theorem exec_vpermDown_lanes (hd : d < 8) (ha : a < 8) (he : e < 16) (hsz : sz < 2) (h : s.coreAt core (wordR 0x12 d a 0 e sz 3)) :
    ∃ x : BitVec 128, exec (.vpermDown core (wordR 0x12 d a 0 e sz 3)) s = .next (s.coreDone core ((s.core core.toNat).vset d x.toNat)) ∧
      ∀ i < 16 / (sz + 1), lane (8 * (sz + 1)) x i =
        if i + e < 16 / (sz + 1) then lane (8 * (sz + 1)) ((s.core core.toNat).v a) (i + e) else 0 := by
  have hf : FieldsR 0x12 d a 0 e sz 3 := by omega
  refine exec_lanes (lanes_fit sz)
    (exec_wordR hf h (exec_vpermDown ..) (by simp (disch := omega) [wordR_and, and_8]) (cVperm_wordR hf hsz _ _)) fun j _ => ?_
  rw [fA_wordR hf, fE_wordR hf, laneOf_vget (by omega), apply_ite (BitVec.ofNat _), ofNat_toNat_self]
  rfl

theorem exec_splat_lanes (hd : d < 8) (ha : a < 16) (hsz : sz < 2) (h : s.coreAt core (wordR 0x12 d a 0 0 sz 4)) :
    ∃ x : BitVec 128, exec (.vpermSplat core (wordR 0x12 d a 0 0 sz 4)) s = .next (s.coreDone core ((s.core core.toNat).vset d x.toNat)) ∧
      ∀ i < 16 / (sz + 1), lane (8 * (sz + 1)) x i = ((s.core core.toNat).c a).setWidth _ := by
  have hf : FieldsR 0x12 d a 0 0 sz 4 := by omega
  refine exec_lanes (lanes_fit sz)
    (exec_wordR hf h (exec_vpermSplat ..) (by simp (disch := omega) [wordR_and, and_8]) (cVperm_wordR hf hsz _ _)) fun j _ => ?_
  rw [fA_wordR hf, cget_mod, ofNat_toNat_self]

end

/-! Reductions of a list of lanes (R149). -/

theorem lanesOf_vget {n : Nat} (hn : 0 < n) (c : CoreState) (r : Nat) : lanesOf n (128 / n) (c.vget r) = (lanesList n (c.v r)).map BitVec.toNat := by
  rw [lanesOf, lanesList, List.map_map]
  exact List.map_congr_left fun i _ => laneOf_vget hn c r i

theorem lanesList_ne_nil {n : Nat} (hn : 0 < n) (h : n ≤ 128) (x : BitVec 128) : lanesList n x ≠ [] := by
  intro hnil
  have hlen := congrArg List.length hnil
  rw [lanesList, List.length_map, List.length_range, List.length_nil] at hlen
  have := Nat.div_pos h hn
  omega

/-- The first index that meets a test, or the length, in the two spellings. -/
theorem findIdx?_getD_length {α : Type} (p : α → Bool) (l : List α) : (l.findIdx? p).getD l.length = l.findIdx p := by
  rw [List.findIdx?_eq_guard_findIdx_lt, Option.guard]
  have hle := List.findIdx_le_length (p := p) (xs := l)
  by_cases h : l.findIdx p < l.length
  · rw [if_pos (by simpa using h)]; rfl
  · rw [if_neg (by simpa using h)]; exact Nat.le_antisymm (Nat.not_lt.mp h) hle

theorem findIdx_congr_mem {α : Type} {p q : α → Bool} {l : List α} (h : ∀ x ∈ l, p x = q x) : l.findIdx p = l.findIdx q := by
  induction l with
  | nil => rfl
  | cons x xs ih =>
    rw [List.findIdx_cons, List.findIdx_cons, h x List.mem_cons_self, ih fun y hy => h y (List.mem_cons_of_mem x hy)]

section
variable {n : Nat} (l : List (BitVec n))

theorem foldl_max_le (k z : Nat) (l : List Nat) : l.foldl max z ≤ k ↔ z ≤ k ∧ ∀ x ∈ l, x ≤ k := by
  induction l generalizing z with
  | nil => simp
  | cons x xs ih => rw [List.foldl_cons, ih, Nat.max_le]; simp [and_assoc]

/-- A lane equals the greatest lane where no lane is greater. -/
theorem beq_foldl_max {x : BitVec n} (hx : x ∈ l) : (x.toNat == (l.map BitVec.toNat).foldl max 0) = l.all (fun y => y.ule x) := by
  have hle := (foldl_max_le _ 0 (l.map BitVec.toNat)).mp (Nat.le_refl _)
  have hge : x.toNat ≤ (l.map BitVec.toNat).foldl max 0 := hle.2 _ (List.mem_map_of_mem hx)
  rw [Bool.eq_iff_iff, beq_iff_eq, List.all_eq_true]
  constructor
  · intro h y hy
    rw [BitVec.ule, decide_eq_true_eq, h]
    exact hle.2 _ (List.mem_map_of_mem hy)
  · intro h
    refine Nat.le_antisymm hge ((foldl_max_le _ _ _).mpr ⟨Nat.zero_le _, fun y hy => ?_⟩)
    obtain ⟨z, hz, rfl⟩ := List.mem_map.mp hy
    simpa [BitVec.ule] using h z hz

theorem vredVal_sum : BitVec.ofNat 32 (vredVal 4 n (l.map BitVec.toNat)) = BitVec.ofInt 32 ((l.map (fun x => x.toInt)).foldl (fun a x => a + x) 0) := by
  simp only [vredVal, ofNat_wrapInt, List.foldl_map, toSigned_toNat]

theorem vredVal_minu (hl : l ≠ []) : vredVal 3 n (l.map BitVec.toNat) = (l.map (fun x => x.toNat)).foldl min (2 ^ n - 1) := by
  cases l with
  | nil => exact absurd rfl hl
  | cons x xs =>
    have hx : x.toNat ≤ 2 ^ n - 1 := Nat.le_sub_one_of_lt x.isLt
    change (xs.map BitVec.toNat).foldl min (min x.toNat x.toNat) = (xs.map BitVec.toNat).foldl min (min (2 ^ n - 1) x.toNat)
    rw [Nat.min_self, Nat.min_eq_right hx]

theorem vredVal_argmaxu : vredVal 5 n (l.map BitVec.toNat) = l.findIdx (fun x => l.all (fun y => y.ule x)) := by
  have h : vredVal 5 n (l.map BitVec.toNat) = (l.map BitVec.toNat).findIdx (fun x => x == (l.map BitVec.toNat).foldl max 0) :=
    findIdx?_getD_length ..
  rw [h, List.findIdx_map]
  exact findIdx_congr_mem fun x hx => beq_foldl_max l hx

theorem foldl_count (l : List Nat) (z : Nat) : l.foldl (fun a x => if x = 0 then a else a + 1) z = z + (l.filter (fun x => x != 0)).length := by
  induction l generalizing z with
  | nil => rfl
  | cons x xs ih =>
    rw [List.foldl_cons, ih, List.filter_cons]
    by_cases h : x = 0
    · simp [h]
    · simp [h]; omega

theorem toNat_bne_zero (x : BitVec n) : (x.toNat != 0) = (x != 0#n) := toNat_bne x 0#n

theorem vredVal_cnt : vredVal 6 n (l.map BitVec.toNat) = (l.filter (fun x => x != 0#n)).length := by
  have h : vredVal 6 n (l.map BitVec.toNat) = 0 + ((l.map BitVec.toNat).filter (fun x => x != 0)).length := foldl_count ..
  rw [h, Nat.zero_add, List.filter_map, List.length_map]
  simp only [Function.comp_def, toNat_bne_zero]

theorem vredVal_first : vredVal 7 n (l.map BitVec.toNat) = l.findIdx (fun x => x != 0#n) := by
  have h : vredVal 7 n (l.map BitVec.toNat) = (l.map BitVec.toNat).findIdx (fun x => x != 0) := findIdx?_getD_length ..
  rw [h, List.findIdx_map]
  simp only [Function.comp_def, toNat_bne_zero]

end

/-- R149: each reduction, as the model computes it on numbers. -/
theorem coreReduce_exec : ∀ r ∈ coreReduce,
    (∀ core w s, exec (r.1 core w) s = .next (coreInstr core w 0xF80000FF (0x13 * 2 ^ 27 + r.2.1) 0x0047F800 (cVred r.2.1) s)) ∧
    ∀ (n : Nat) (l : List (BitVec n)), l ≠ [] → BitVec.ofNat 32 (vredVal r.2.1 n (l.map BitVec.toNat)) = r.2.2 n l := by
  simp only [coreReduce, List.forall_mem_cons]
  exact ⟨⟨fun _ _ _ => rfl, fun n l _ => vredVal_sum l⟩, ⟨fun _ _ _ => rfl, fun _ _ _ => rfl⟩,
    ⟨fun _ _ _ => rfl, fun n l hl => congrArg _ (vredVal_minu l hl)⟩, ⟨fun _ _ _ => rfl, fun n l _ => congrArg _ (vredVal_argmaxu l)⟩,
    ⟨fun _ _ _ => rfl, fun n l _ => congrArg _ (vredVal_cnt l)⟩, ⟨fun _ _ _ => rfl, fun n l _ => congrArg _ (vredVal_first l)⟩, nofun⟩

theorem coreReduce_fn : ∀ r ∈ coreReduce, r.2.1 < 256 := by decide

/-- A fold that keeps the one of two values that comes first in an order gives a value of the list that comes before every other. -/
theorem foldl_choice {α : Type} {R : α → α → Prop} {f : α → α → α} (hrefl : ∀ x, R x x) (htrans : ∀ x y z, R x y → R y z → R x z)
    (hf : ∀ x y, (f x y = x ∨ f x y = y) ∧ R (f x y) x ∧ R (f x y) y) (l : List α) (z : α) :
    l.foldl f z ∈ z :: l ∧ ∀ y ∈ z :: l, R (l.foldl f z) y := by
  induction l generalizing z with
  | nil => exact ⟨List.mem_cons_self, fun y hy => by rw [List.mem_singleton.mp hy]; exact hrefl z⟩
  | cons x xs ih =>
    obtain ⟨hmem, hle⟩ := ih (f z x)
    obtain ⟨hpick, hz, hx⟩ := hf z x
    rw [List.foldl_cons]
    refine ⟨?_, fun y hy => ?_⟩
    · obtain h | h := List.mem_cons.mp hmem
      · obtain e | e := hpick
        · rw [h, e]; exact List.mem_cons_self
        · rw [h, e]; exact List.mem_cons_of_mem _ List.mem_cons_self
      · exact List.mem_cons_of_mem _ (List.mem_cons_of_mem _ h)
    · have hfirst := hle (f z x) List.mem_cons_self
      obtain rfl | hy := List.mem_cons.mp hy
      · exact htrans _ _ _ hfirst hz
      · obtain rfl | hy := List.mem_cons.mp hy
        · exact htrans _ _ _ hfirst hx
        · exact hle y (List.mem_cons_of_mem _ hy)

/-- The order of vred.mins and vred.maxs: which of two lanes goes before the other. -/
def signedFirst (n : Nat) (least : Bool) (x y : BitVec n) : Bool := if least then x.sle y else y.sle x

/-- The one of two lanes that goes first. -/
def signedPick (n : Nat) (least : Bool) (x y : BitVec n) : BitVec n := if x.sle y = least then x else y

theorem signedPick_first {n : Nat} (least : Bool) (x y : BitVec n) :
    (signedPick n least x y = x ∨ signedPick n least x y = y) ∧ signedFirst n least (signedPick n least x y) x = true ∧
      signedFirst n least (signedPick n least x y) y = true := by
  cases least <;> simp only [signedPick, signedFirst, BitVec.sle] <;> split <;> simp_all <;> omega

theorem signedFirst_trans {n : Nat} (least : Bool) (x y z : BitVec n) (hxy : signedFirst n least x y = true) (hyz : signedFirst n least y z = true) :
    signedFirst n least x z = true := by
  cases least <;> simp_all [signedFirst, BitVec.sle] <;> omega

theorem signedFirst_refl {n : Nat} (least : Bool) (x : BitVec n) : signedFirst n least x x = true := by
  cases least <;> simp [signedFirst, BitVec.sle]

theorem toNat_signedPick {n : Nat} (least : Bool) (x y : BitVec n) :
    (if least then sMin n x.toNat y.toNat else sMax n x.toNat y.toNat) = (signedPick n least x y).toNat := by
  simp only [sMin, sMax, toSigned_toNat, signedPick, BitVec.sle]
  cases least <;> by_cases h : x.toInt ≤ y.toInt <;> simp [h]

theorem vredVal_signed_eq {n : Nat} (least : Bool) (z : BitVec n) (zs : List (BitVec n)) :
    vredVal (if least then 1 else 0) n ((z :: zs).map BitVec.toNat) = signExt n 32 ((z :: zs).foldl (signedPick n least) z).toNat := by
  have hfold : ∀ f : Nat → Nat → Nat, (∀ x y : BitVec n, f x.toNat y.toNat = (signedPick n least x y).toNat) →
      ((z :: zs).map BitVec.toNat).foldl f z.toNat = ((z :: zs).foldl (signedPick n least) z).toNat := fun f hf => by
    rw [List.foldl_map_hom hf]
  cases least with
  | true => exact congrArg (signExt n 32) (hfold _ (toNat_signedPick true))
  | false => exact congrArg (signExt n 32) (hfold _ (toNat_signedPick false))

/-- R149: the signed extremes: the extension of a lane that no lane goes before. -/
theorem vredVal_signed {n : Nat} (least : Bool) {l : List (BitVec n)} (hl : l ≠ []) : ∃ x ∈ l,
    vredVal (if least then 1 else 0) n (l.map BitVec.toNat) = (x.signExtend 32).toNat ∧ ∀ y ∈ l, signedFirst n least x y = true := by
  cases l with
  | nil => exact absurd rfl hl
  | cons z zs =>
    obtain ⟨hmem, hfirst⟩ := foldl_choice (signedFirst_refl least) (signedFirst_trans least) (signedPick_first least) (z :: zs) z
    refine ⟨(z :: zs).foldl (signedPick n least) z, ?_, ?_, fun y hy => hfirst y (List.mem_cons_of_mem _ hy)⟩
    · obtain h | h := List.mem_cons.mp hmem
      · rw [h]; exact List.mem_cons_self
      · exact h
    · rw [← signExt_toNat, vredVal_signed_eq]

theorem exec_vredSigned (least : Bool) (core : CoreId) (w : Word) (s : State) : exec (if least then .vredMins core w else .vredMaxs core w) s =
    .next (coreInstr core w 0xF80000FF (0x13 * 2 ^ 27 + if least then 1 else 0) 0x0047F800 (cVred (if least then 1 else 0)) s) := by
  cases least <;> rfl

section
variable {core : CoreId} {s : State} {d a sz : Nat}

theorem lanesOf_wordR {c : CoreState} (hsz : sz < 2) :
    lanesOf (8 * (sz + 1)) (16 / (sz + 1)) (c.vget a) = (lanesList (8 * (sz + 1)) (c.v a)).map BitVec.toNat := by
  rw [← laneCount_of_lt hsz]
  exact lanesOf_vget (by omega) c a

theorem exec_vred {r : (CoreId → Word → Instr) × Nat × ((n : Nat) → List (BitVec n) → Word)} (hr : r ∈ coreReduce) (hd : d < 16) (ha : a < 8)
    (hsz : sz < 2) (h : s.coreAt core (wordR 0x13 d a 0 0 sz r.2.1)) : exec (r.1 core (wordR 0x13 d a 0 0 sz r.2.1)) s =
      .next (s.coreDone core ((s.core core.toNat).cset d (r.2.2 _ (lanesList (8 * (sz + 1)) ((s.core core.toNat).v a))).toNat)) := by
  have hfn := coreReduce_fn r hr
  have hf : FieldsR 0x13 d a 0 0 sz r.2.1 := by omega
  obtain ⟨hexec, hop⟩ := coreReduce_exec r hr
  refine exec_wordR hf h (hexec ..) (by simp (disch := omega) [wordR_and, and_8]) ?_
  rw [cVred_wordR hf hsz, lanesOf_wordR hsz, ← hop _ _ (lanesList_ne_nil (by omega) (by omega) _), CoreState.cset_ofNat]

theorem exec_vred_signed (least : Bool) (hd : d < 16) (ha : a < 8) (hsz : sz < 2)
    (h : s.coreAt core (wordR 0x13 d a 0 0 sz (if least then 1 else 0))) : ∃ x : BitVec (8 * (sz + 1)),
    exec (if least then .vredMins core (wordR 0x13 d a 0 0 sz (if least then 1 else 0))
      else .vredMaxs core (wordR 0x13 d a 0 0 sz (if least then 1 else 0))) s =
      .next (s.coreDone core ((s.core core.toNat).cset d (x.signExtend 32).toNat)) ∧
    x ∈ lanesList (8 * (sz + 1)) ((s.core core.toNat).v a) ∧
    ∀ y ∈ lanesList (8 * (sz + 1)) ((s.core core.toNat).v a), if least then x.sle y else y.sle x := by
  have hf : FieldsR 0x13 d a 0 0 sz (if least then 1 else 0) := by split <;> omega
  obtain ⟨x, hx, hval, hfirst⟩ :=
    vredVal_signed least (lanesList_ne_nil (n := 8 * (sz + 1)) (by omega) (by omega) ((s.core core.toNat).v a))
  refine ⟨x, exec_wordR hf h (exec_vredSigned least ..) ?_ ?_, hx, fun y hy => ?_⟩
  · cases least <;> simp (disch := omega) [wordR_and, and_8]
  · rw [cVred_wordR hf hsz, lanesOf_wordR hsz, hval]
  · have := hfirst y hy
    cases least <;> simpa [signedFirst] using this

end

/-- Settles O10: one lemma for each form of vperm, the table of reductions, and the signed extremes. -/
theorem coreMovesAndReductions : Obligations.CoreMovesAndReductions := by
  unfold Obligations.CoreMovesAndReductions
  exact ⟨fun core s d a b e sz hd hsz => ⟨fun ha hb h => exec_vperm_lanes hd ha hb hsz h, fun ha he h => exec_bcast_lanes hd ha he hsz h,
      fun ha he he' h => exec_bcast_open hd ha he he' h, fun ha he h => exec_vpermUp_lanes hd ha he hsz h,
      fun ha he h => exec_vpermDown_lanes hd ha he hsz h, fun ha h => exec_splat_lanes hd ha hsz h⟩,
    fun core s d a sz hd ha hsz => ⟨fun r hr h => exec_vred hr hd ha hsz h,
      fun least w hw h => by subst hw; exact exec_vred_signed least hd ha hsz h⟩⟩

end Sys2Proof.Machine

/-!
The sort order of keyed lanes, vcx and vsrt (04_core_mode R150), and O12.
-/
namespace Sys2Proof.Machine

/-- R150: the number that a key is compared as: signed with fn[0]. -/
def sortKey (flags lw n : Nat) : Int := if flags.testBit 0 then toSigned lw n else n

theorem sortLt_eq (flags lw a b : Nat) :
    (if flags.testBit 0 then decide (toSigned lw a < toSigned lw b) else decide (a < b)) = decide (sortKey flags lw a < sortKey flags lw b) := by
  unfold sortKey
  split
  · rfl
  · norm_cast

/-- R150: what ranks before what: keys in the direction of fn[2], then payloads with fn[1]. -/
theorem ranksBefore_iff (flags lw : Nat) (x y : Nat × Nat) : ranksBefore flags lw x y = true ↔
    if flags.testBit 2 then sortKey flags lw y.1 < sortKey flags lw x.1 ∨ (flags.testBit 1 = true ∧ x.1 = y.1 ∧ x.2 < y.2)
    else sortKey flags lw x.1 < sortKey flags lw y.1 ∨ (flags.testBit 1 = true ∧ x.1 = y.1 ∧ y.2 < x.2) := by
  simp only [ranksBefore, sortLt_eq]
  split <;> simp [and_assoc]

theorem ranksBefore_keys (flags lw : Nat) (x y : Nat × Nat) (hkv : flags.testBit 1 = false) : ranksBefore flags lw x y = true ↔
    if flags.testBit 2 then sortKey flags lw y.1 < sortKey flags lw x.1 else sortKey flags lw x.1 < sortKey flags lw y.1 := by
  simp [ranksBefore_iff, hkv]

theorem ranksBefore_pairs (flags lw : Nat) (x y : Nat × Nat) (hkv : flags.testBit 1 = true) : ranksBefore flags lw x y = true ↔
    if flags.testBit 2 then sortKey flags lw y.1 < sortKey flags lw x.1 ∨ (x.1 = y.1 ∧ x.2 < y.2)
    else sortKey flags lw x.1 < sortKey flags lw y.1 ∨ (x.1 = y.1 ∧ y.2 < x.2) := by
  simp [ranksBefore_iff, hkv]

theorem toSigned_inj {n a b : Nat} (ha : a < 2 ^ n) (hb : b < 2 ^ n) (h : toSigned n a = toSigned n b) : a = b := by
  have hcast : ∀ x < 2 ^ n, toSigned n x = (BitVec.ofNat n x).toInt := fun x hx => by
    rw [← toSigned_toNat, BitVec.toNat_ofNat, Nat.mod_eq_of_lt hx]
  rw [hcast a ha, hcast b hb, BitVec.toInt_inj] at h
  simpa [BitVec.toNat_ofNat, Nat.mod_eq_of_lt ha, Nat.mod_eq_of_lt hb] using congrArg BitVec.toNat h

/-- Keys of a lane's width that compare equal are equal. -/
theorem sortKey_inj {flags n a b : Nat} (ha : a < 2 ^ n) (hb : b < 2 ^ n) (h : sortKey flags n a = sortKey flags n b) : a = b := by
  unfold sortKey at h
  split at h
  · exact toSigned_inj ha hb h
  · exact_mod_cast h

/-- The place of a keyed lane in the ranking: its key, then its payload with fn[1], each so that the smaller goes first. -/
def rankOf (flags lw : Nat) (x : Nat × Nat) : ℤ ×ₗ ℤ :=
  toLex (if flags.testBit 2 then (-sortKey flags lw x.1, if flags.testBit 1 then (x.2 : Int) else 0)
    else (sortKey flags lw x.1, if flags.testBit 1 then -(x.2 : Int) else 0))

section
variable {flags lw : Nat} {x y z : Nat × Nat}

/-- On keys of a lane's width the ranking is the order of the places, which is linear. -/
theorem ranksBefore_iff_rankOf (hx : x.1 < 2 ^ lw) (hy : y.1 < 2 ^ lw) :
    ranksBefore flags lw x y = true ↔ rankOf flags lw x < rankOf flags lw y := by
  have hkey : sortKey flags lw x.1 = sortKey flags lw y.1 ↔ x.1 = y.1 := ⟨sortKey_inj hx hy, fun h => by rw [h]⟩
  rw [ranksBefore_iff, rankOf, rankOf, Prod.Lex.toLex_lt_toLex]
  cases flags.testBit 2 <;> cases flags.testBit 1 <;> simp [hkey]

theorem rankOf_inj (hkv : flags.testBit 1 = true) (hx : x.1 < 2 ^ lw) (hy : y.1 < 2 ^ lw) (h : rankOf flags lw x = rankOf flags lw y) : x = y := by
  have hpair := toLex.injective h
  simp only [hkv, if_true] at hpair
  have hkey : sortKey flags lw x.1 = sortKey flags lw y.1 ∧ x.2 = y.2 := by
    split at hpair <;> simpa using hpair
  exact Prod.ext (sortKey_inj hx hy hkey.1) hkey.2

theorem ranksBefore_total (hkv : flags.testBit 1 = true) (hx : x.1 < 2 ^ lw) (hy : y.1 < 2 ^ lw) :
    ranksBefore flags lw x y = true ∨ ranksBefore flags lw y x = true ∨ x = y := by
  rw [ranksBefore_iff_rankOf hx hy, ranksBefore_iff_rankOf hy hx]
  obtain h | h | h := lt_trichotomy (rankOf flags lw x) (rankOf flags lw y)
  · exact .inl h
  · exact .inr (.inr (rankOf_inj hkv hx hy h))
  · exact .inr (.inl h)

theorem ranksBefore_asymm (hx : x.1 < 2 ^ lw) (hy : y.1 < 2 ^ lw) : ¬(ranksBefore flags lw x y = true ∧ ranksBefore flags lw y x = true) := by
  rw [ranksBefore_iff_rankOf hx hy, ranksBefore_iff_rankOf hy hx]
  exact fun h => lt_asymm h.1 h.2

theorem ranksBefore_trans (hx : x.1 < 2 ^ lw) (hy : y.1 < 2 ^ lw) (hz : z.1 < 2 ^ lw) (hxy : ranksBefore flags lw x y = true)
    (hyz : ranksBefore flags lw y z = true) : ranksBefore flags lw x z = true := by
  rw [ranksBefore_iff_rankOf hx hy] at hxy
  rw [ranksBefore_iff_rankOf hy hz] at hyz
  exact (ranksBefore_iff_rankOf hx hz).mpr (hxy.trans hyz)

end

/-! Insertion sort by the ranking. -/

/-- A list of keyed lanes whose keys have the width of a lane. -/
def KeysFit (lw : Nat) (l : List (Nat × Nat)) : Prop := ∀ x ∈ l, x.1 < 2 ^ lw

/-- A list in which no lane ranks before an earlier one. -/
def Ranked (flags lw : Nat) (l : List (Nat × Nat)) : Prop := l.Pairwise (fun x y => ¬ ranksBefore flags lw y x = true)

section
variable {flags lw : Nat}

theorem rankInsert_perm (x : Nat × Nat) (l : List (Nat × Nat)) : (rankInsert flags lw x l).Perm (x :: l) := by
  induction l with
  | nil => exact .refl _
  | cons y ys ih =>
    rw [rankInsert]
    split
    · exact .refl _
    · exact (ih.cons y).trans (.swap x y ys)

theorem rankInsert_ranked {x : Nat × Nat} {l : List (Nat × Nat)} (hx : x.1 < 2 ^ lw) (hl : KeysFit lw l) (h : Ranked flags lw l) :
    Ranked flags lw (rankInsert flags lw x l) := by
  induction l with
  | nil => exact List.pairwise_singleton _ _
  | cons y ys ih =>
    have hy : y.1 < 2 ^ lw := hl y List.mem_cons_self
    have hys : KeysFit lw ys := fun z hz => hl z (List.mem_cons_of_mem y hz)
    obtain ⟨hfirst, hrest⟩ := List.pairwise_cons.mp h
    rw [rankInsert]
    split
    case isTrue hxy =>
      refine List.pairwise_cons.mpr ⟨fun z hz hzx => ?_, h⟩
      obtain rfl | hz := List.mem_cons.mp hz
      · exact ranksBefore_asymm hx hy ⟨hxy, hzx⟩
      · exact hfirst z hz (ranksBefore_trans (hys z hz) hx hy hzx hxy)
    case isFalse hxy =>
      refine List.pairwise_cons.mpr ⟨fun z hz => ?_, ih hys hrest⟩
      obtain rfl | hz := List.mem_cons.mp ((rankInsert_perm x ys).mem_iff.mp hz)
      · exact hxy
      · exact hfirst z hz

theorem foldl_rankInsert {l acc : List (Nat × Nat)} (hl : KeysFit lw l) (hacc : KeysFit lw acc) (h : Ranked flags lw acc) :
    (l.foldl (fun acc x => rankInsert flags lw x acc) acc).Perm (l ++ acc) ∧
      Ranked flags lw (l.foldl (fun acc x => rankInsert flags lw x acc) acc) := by
  induction l generalizing acc with
  | nil => exact ⟨.refl _, h⟩
  | cons x xs ih =>
    have hx : x.1 < 2 ^ lw := hl x List.mem_cons_self
    have hins : KeysFit lw (rankInsert flags lw x acc) := fun y hy => by
      obtain rfl | hy := List.mem_cons.mp ((rankInsert_perm x acc).mem_iff.mp hy)
      · exact hx
      · exact hacc y hy
    obtain ⟨hperm, hranked⟩ := ih (fun y hy => hl y (List.mem_cons_of_mem x hy)) hins (rankInsert_ranked hx hacc h)
    refine ⟨hperm.trans ?_, hranked⟩
    calc (xs ++ rankInsert flags lw x acc).Perm (xs ++ x :: acc) := (rankInsert_perm x acc).append_left xs
      _ |>.Perm (x :: xs ++ acc) := List.perm_middle

theorem rankSort_perm {l : List (Nat × Nat)} (hl : KeysFit lw l) : (rankSort flags lw l).Perm l := by
  have h := (foldl_rankInsert (flags := flags) hl (acc := []) (by simp [KeysFit]) .nil).1
  rwa [List.append_nil] at h

theorem rankSort_ranked {l : List (Nat × Nat)} (hl : KeysFit lw l) : Ranked flags lw (rankSort flags lw l) :=
  (foldl_rankInsert hl (by simp [KeysFit]) .nil).2

end

/-! The keyed lanes of a vector register (R125, R150). -/

theorem laneOf_lt {n : Nat} (hn : 0 < n) (v i : Nat) : laneOf n v i < 2 ^ n := by
  have h := bitsOf_lt v (n * i + n - 1) (n * i)
  rwa [show n * i + n - 1 + 1 - n * i = n by omega] at h

theorem keyedLanes_fit {lw : Nat} (hlw : 0 < lw) (c : CoreState) (kv : Bool) (v : Nat) : KeysFit lw (keyedLanes c kv lw v) := by
  have hkeys : ∀ k ∈ lanesOf lw (laneCount lw) (c.vget v), k < 2 ^ lw := fun k hk => by
    obtain ⟨i, -, rfl⟩ := List.mem_map.mp hk
    exact laneOf_lt hlw _ i
  intro x hx
  unfold keyedLanes at hx
  split at hx
  · exact hkeys _ (List.of_mem_zip hx).1
  · obtain ⟨k, hk, rfl⟩ := List.mem_map.mp hx
    exact hkeys k hk

/-- kv works on lanes of 16 bits only. -/
theorem keyedLanes_length {sz : Nat} (hsz : sz < 2) (c : CoreState) {kv : Bool} (hkv : kv = true → sz = 1) (v : Nat) :
    (keyedLanes c kv (8 * (sz + 1)) v).length = 16 / (sz + 1) := by
  have hlanes : (lanesOf (8 * (sz + 1)) (laneCount (8 * (sz + 1))) (c.vget v)).length = 16 / (sz + 1) := by
    rw [lanesOf, List.length_map, List.length_range, laneCount_of_lt hsz]
  cases kv with
  | false => simpa [keyedLanes] using hlanes
  | true =>
    obtain rfl := hkv rfl
    simp [keyedLanes, payloadLanes, hlanes]

/-- The sort flags are fn[2:0]. -/
theorem flags_testBit {k i : Nat} (f : Nat) (hk : k % 8 = 0) (hi : i < 3) : (k + f).testBit i = f.testBit i := by
  have h8 : (k + f) % 2 ^ 3 = f % 2 ^ 3 := by omega
  have := congrArg (fun n => n.testBit i) h8
  simpa only [Nat.testBit_mod_two_pow, hi, decide_true, Bool.true_and] using this

theorem ranksBefore_flags {k : Nat} (f lw : Nat) (hk : k % 8 = 0) (x y : Nat × Nat) : ranksBefore (k + f) lw x y = ranksBefore f lw x y := by
  simp only [ranksBefore, flags_testBit f hk (show 0 < 3 by omega), flags_testBit f hk (show 1 < 3 by omega),
    flags_testBit f hk (show 2 < 3 by omega)]

theorem halfClean_flags {k : Nat} (f lw e : Nat) (hk : k % 8 = 0) (l : List (Nat × Nat)) : halfClean (k + f) lw e l = halfClean f lw e l := by
  simp only [halfClean, ranksBefore_flags f lw hk]

theorem sortWidth_eq {w : Word} {sz fn : Nat} (hS : fSz w = sz) (hF : fFn w = fn) (hsz : sz < 2) (hkv : fn.testBit 1 = true → sz = 1) :
    sortWidth w = some (8 * (sz + 1)) := by
  rw [sortWidth, hS, hF]
  match sz, hsz with
  | 0, _ =>
    have h : fn.testBit 1 = false := Bool.eq_false_iff.mpr fun h => absurd (hkv h) (by decide)
    simp [laneWidth, h]
  | 1, _ => rfl

/-- R150: two keyed lanes in rank order, the first kept where neither ranks before the other. -/
def rankPair (f lw : Nat) (p : (Nat × Nat) × (Nat × Nat)) : (Nat × Nat) × (Nat × Nat) :=
  if ranksBefore f lw p.2 p.1 then (p.2, p.1) else p

/-- The lanes of two registers, lane by lane in rank order. -/
def rankedPairs (f lw : Nat) (l m : List (Nat × Nat)) : List ((Nat × Nat) × (Nat × Nat)) := (l.zip m).map (rankPair f lw)

theorem rankedPairs_length {f lw n : Nat} {l m : List (Nat × Nat)} (hl : l.length = n) (hm : m.length = n) : (rankedPairs f lw l m).length = n := by
  rw [rankedPairs, List.length_map, List.length_zip, hl, hm, Nat.min_self]

theorem rankedPairs_getElem? {f lw i : Nat} {l m : List (Nat × Nat)} {p q : Nat × Nat} (hp : l[i]? = some p) (hq : m[i]? = some q) :
    (((rankedPairs f lw l m).map Prod.fst)[i]?, ((rankedPairs f lw l m).map Prod.snd)[i]?) =
      if ranksBefore f lw q p = true then (some q, some p) else (some p, some q) := by
  have hz : (l.zip m)[i]? = some (p, q) := by rw [List.zip, List.getElem?_zipWith, hp, hq]
  simp only [rankedPairs, List.getElem?_map, hz, Option.map_some, rankPair]
  split <;> rfl

/-- The opcode of vcx, which names no fn. -/
theorem wordR_opcode_alone {op d a b e sz fn : Nat} (hf : FieldsR op d a b e sz fn) :
    (wordR op d a b e sz fn).toNat &&& 0xF8000000 = op * 2 ^ 27 := by
  obtain ⟨ho, hd, ha, hb, he, hs, hf⟩ := hf
  rw [wordR_and _ ho hd ha hb he hs hf]
  norm_num [and_31 ho]

theorem and_248 {x : Nat} (h : x < 8) : x &&& 248 = 0 := and_mul_two_pow_of_lt (k := 3) 31 h

/-- The opcode of a form of vsrt: fn[7:4] beside op. -/
theorem wordR_opcode_vsrt {op d a b e sz form f : Nat} (hf : FieldsR op d a b e sz (form * 2 ^ 4 + f)) (h8 : f < 8) :
    (wordR op d a b e sz (form * 2 ^ 4 + f)).toNat &&& 0xF80000F0 = op * 2 ^ 27 + form * 2 ^ 4 := by
  obtain ⟨ho, hd, ha, hb, he, hs, hf⟩ := hf
  have hform : (form * 2 ^ 4 + f) &&& 0xF0 = form * 2 ^ 4 := by
    rw [and_peel form _ (by omega)]
    norm_num [and_15 (show form < 16 by omega)]
  rw [wordR_and _ ho hd ha hb he hs hf]
  norm_num [and_31 ho] at hform ⊢
  exact hform

/-- fn[3] of a form of vsrt is zero. -/
theorem and_8_form {form f : Nat} (h8 : f < 8) : (form * 2 ^ 4 + f) &&& 8 = 0 := by
  rw [and_peel form _ (by omega)]
  norm_num [and_8 h8]

section
variable {core : CoreId} {s : State} {d a sz f e : Nat}

theorem exec_vcx_lanes (hd : d < 8) (ha : a < 8) (hsz : sz < 2) (h8 : f < 8) (hkv : f.testBit 1 = true → sz = 1)
    (h : s.coreAt core (wordR 0x10 d a 0 0 sz f)) : ∃ x y : List (Nat × Nat),
      exec (.vcx core (wordR 0x10 d a 0 0 sz f)) s = .next (s.coreDone core
        (setKeyed (setKeyed (s.core core.toNat) (f.testBit 1) (8 * (sz + 1)) d x) (f.testBit 1) (8 * (sz + 1)) a y)) ∧
      x.length = 16 / (sz + 1) ∧ y.length = 16 / (sz + 1) ∧
      ∀ i < 16 / (sz + 1), ∀ p q, (keyedLanes (s.core core.toNat) (f.testBit 1) (8 * (sz + 1)) d)[i]? = some p →
        (keyedLanes (s.core core.toNat) (f.testBit 1) (8 * (sz + 1)) a)[i]? = some q →
        (x[i]?, y[i]?) = if ranksBefore f (8 * (sz + 1)) q p = true then (some q, some p) else (some p, some q) := by
  have hf : FieldsR 0x10 d a 0 0 sz f := by omega
  have hlen : ∀ r, (keyedLanes (s.core core.toNat) (f.testBit 1) (8 * (sz + 1)) r).length = 16 / (sz + 1) := keyedLanes_length hsz _ hkv
  refine ⟨_, _, exec_inside h (exec_vcx ..) (wordR_opcode_alone hf) (by simp (disch := omega) [wordR_and, and_8, and_248]) ?_,
    (List.length_map ..).trans (rankedPairs_length (f := f) (lw := 8 * (sz + 1)) (hlen d) (hlen a)),
    (List.length_map ..).trans (rankedPairs_length (f := f) (lw := 8 * (sz + 1)) (hlen d) (hlen a)), fun i _ p q => rankedPairs_getElem?⟩
  rw [cVcx, sortWidth_eq (fSz_wordR hf) (fFn_wordR hf) hsz hkv]
  simp only [fD_wordR hf, fA_wordR hf, fFn_wordR hf]
  rfl

/-- A form of vsrt at its word: the keyed lanes of va go through the form into vd. -/
theorem cVsrt_wordR {form : Nat} (g : Nat → List (Nat × Nat) → List (Nat × Nat)) (hf : FieldsR 0x11 d a 0 e sz (form * 2 ^ 4 + f)) (hsz : sz < 2)
    (hkv : f.testBit 1 = true → sz = 1) (c : CoreState) : cVsrt g (wordR 0x11 d a 0 e sz (form * 2 ^ 4 + f)) c =
      .ok (coreNext (setKeyed c (f.testBit 1) (8 * (sz + 1)) d (g (8 * (sz + 1)) (keyedLanes c (f.testBit 1) (8 * (sz + 1)) a)))) := by
  have hbit : (form * 2 ^ 4 + f).testBit 1 = f.testBit 1 := flags_testBit f (by omega) (by omega)
  rw [cVsrt, sortWidth_eq (fSz_wordR hf) (fFn_wordR hf) hsz (by rwa [hbit])]
  simp only [fD_wordR hf, fA_wordR hf, fFn_wordR hf, hbit]

theorem exec_vsrtSort_lanes (hd : d < 8) (ha : a < 8) (hsz : sz < 2) (h8 : f < 8) (hkv : f.testBit 1 = true → sz = 1)
    (h : s.coreAt core (wordR 0x11 d a 0 0 sz f)) : ∃ l,
      exec (.vsrtSort core (wordR 0x11 d a 0 0 sz f)) s =
        .next (s.coreDone core (setKeyed (s.core core.toNat) (f.testBit 1) (8 * (sz + 1)) d l)) ∧
      l.Perm (keyedLanes (s.core core.toNat) (f.testBit 1) (8 * (sz + 1)) a) ∧
      l.Pairwise (fun x y => ¬ ranksBefore f (8 * (sz + 1)) y x = true) := by
  have hfit := keyedLanes_fit (lw := 8 * (sz + 1)) (by omega) (s.core core.toNat) (f.testBit 1) a
  have hf : FieldsR 0x11 d a 0 0 sz (0 * 2 ^ 4 + f) := by omega
  have hm := wordR_opcode_vsrt hf h8
  have hbody := cVsrt_wordR (fun lw l => rankSort f lw l) hf hsz hkv (s.core core.toNat)
  have hfn := fFn_wordR hf
  rw [Nat.zero_mul, Nat.zero_add] at hm hbody hfn
  refine ⟨_, exec_inside h (exec_vsrtSort ..) hm (by simp (disch := omega) [wordR_and, and_8]) ?_, rankSort_perm hfit, rankSort_ranked hfit⟩
  rw [hfn]
  exact hbody

theorem exec_vsrtRev_lanes (hd : d < 8) (ha : a < 8) (hsz : sz < 2) (h8 : f < 8) (hkv : f.testBit 1 = true → sz = 1)
    (h : s.coreAt core (wordR 0x11 d a 0 0 sz (0x20 + f))) : exec (.vsrtRev core (wordR 0x11 d a 0 0 sz (0x20 + f))) s =
      .next (s.coreDone core (setKeyed (s.core core.toNat) (f.testBit 1) (8 * (sz + 1)) d
        (keyedLanes (s.core core.toNat) (f.testBit 1) (8 * (sz + 1)) a).reverse)) := by
  have hf : FieldsR 0x11 d a 0 0 sz (2 * 2 ^ 4 + f) := by omega
  refine exec_inside h (exec_vsrtRev ..) (wordR_opcode_vsrt hf h8) ?_ (cVsrt_wordR _ hf hsz hkv _)
  have h0 := and_8_form (form := 2) h8
  norm_num at h0
  simp (disch := omega) [wordR_and, and_8, h0]

theorem exec_vsrtStep_lanes (hd : d < 8) (ha : a < 8) (hsz : sz < 2) (h8 : f < 8) (hkv : f.testBit 1 = true → sz = 1) (he : e ≤ 3 - sz)
    (h : s.coreAt core (wordR 0x11 d a 0 e sz (0x10 + f))) : exec (.vsrtStep core (wordR 0x11 d a 0 e sz (0x10 + f))) s =
      .next (s.coreDone core (setKeyed (s.core core.toNat) (f.testBit 1) (8 * (sz + 1)) d
        (halfClean f (8 * (sz + 1)) e (keyedLanes (s.core core.toNat) (f.testBit 1) (8 * (sz + 1)) a)))) := by
  rw [show 0x10 + f = 1 * 2 ^ 4 + f from rfl] at h ⊢
  have hf : FieldsR 0x11 d a 0 e sz (1 * 2 ^ 4 + f) := by omega
  refine exec_inside h (exec_vsrtStep ..) (wordR_opcode_vsrt hf h8) ?_ ?_
  · have h0 := and_8_form (form := 1) h8
    norm_num at h0
    simp (disch := omega) [wordR_and, and_8, h0]
  · have hbody := cVsrt_wordR (fun lw l => halfClean (1 * 2 ^ 4 + f) lw e l) hf hsz hkv (s.core core.toNat)
    rw [halfClean_flags f _ e (by decide)] at hbody
    have hfits : ¬((sz = 1 ∧ 2 < e) ∨ 3 < e) := by omega
    rw [cVsrtStep, fSz_wordR hf, fE_wordR hf, fFn_wordR hf, if_neg hfits]
    exact hbody

end

/-- Settles O12: the ranking is the linear order of the places, and each sort instruction puts its lanes in it. -/
theorem coreSortResults : Obligations.CoreSortResults := by
  unfold Obligations.CoreSortResults
  exact ⟨fun flags lw x y => ⟨ranksBefore_keys flags lw x y, ranksBefore_pairs flags lw x y⟩,
    fun flags lw x y z hkv _ hx hy hz => ⟨ranksBefore_total hkv hx hy, ranksBefore_asymm hx hy, ranksBefore_trans hx hy hz⟩,
    fun core s d a sz f e hd ha hsz h8 hkv => ⟨fun h => exec_vcx_lanes hd ha hsz h8 hkv h, fun h => exec_vsrtSort_lanes hd ha hsz h8 hkv h,
      fun h => exec_vsrtRev_lanes hd ha hsz h8 hkv h, fun he h => exec_vsrtStep_lanes hd ha hsz h8 hkv he h⟩⟩

end Sys2Proof.Machine

/-!
Slate loads and stores of a core, and the system values (04_core_mode R133, R135, R146, R148, R149), and O13 and O15.
-/
namespace Sys2Proof.Machine

/-! Reads of clean words (07_memory R236). -/

theorem State.readCheck_clean {s : State} {w : Nat} (ctx : Option Nat) (h : s.checkAt w = .clean) : s.readCheck ctx w = s := by
  rw [State.readCheck, h]

/-- A read of clean words finds nothing. -/
theorem State.readChecks_clean {s : State} {pa n : Nat} (ctx : Option Nat) (h : ∀ w ∈ wordsOf pa n, s.checkAt w = .clean) :
    s.readChecks ctx pa n = s := by
  rw [State.readChecks]
  exact List.foldlRecOn (motive := fun u : State => u = s) _ _ rfl fun u hu w hw => by rw [hu, State.readCheck_clean ctx (h w hw)]

theorem State.badIn_clean {s : State} {pa n : Nat} (h : ∀ w ∈ wordsOf pa n, s.checkAt w = .clean) : s.badIn pa n = false := by
  rw [State.badIn, List.any_eq_false]
  intro w hw
  rw [h w hw]
  decide

/-! Instructions that reach beyond the core. -/

/-- An instruction that a core standing before its word performs on the state. -/
theorem exec_gate {i : Instr} {s : State} {core : CoreId} {w : Word} {mask mtch must0 : Nat} {k : CoreState → State} (h : s.coreAt core w)
    (hi : exec i s = .next (coreGate core w mask mtch must0 s k)) (hm : w.toNat &&& mask = mtch) (h0 : w.toNat &&& must0 = 0) :
    exec i s = .next (k (s.core core.toNat)) := by
  rw [hi, coreGate_at h hm h0]

/-! The words of format M. -/

/-- The fields of format M that an access leaves zero: the high bits of d where its registers are fewer than 16, and [14:12]. -/
def slateZeros (regs : Nat) : Nat := (16 - regs) * 2 ^ 23 + 0x7000

section
variable {op d a kind inc off : Nat} (ho : op < 32) (hd : d < 16) (ha : a < 16) (hk : kind < 8) (hi : inc < 2) (hoff : off < 4096)
include ho hd ha hk hi hoff

theorem wordM_opcode : (wordM op d a kind inc off).toNat &&& 0xF8070000 = op * 2 ^ 27 + kind * 2 ^ 16 := by
  rw [wordM_and _ ho hd ha hk hi hoff]
  norm_num [and_31 ho, and_7 hk]

theorem wordM_slateZeros {regs : Nat} (hregs : regs = 16 ∨ regs = 8 ∨ regs = 4) (hd' : d < regs) :
    (wordM op d a kind inc off).toNat &&& slateZeros regs = 0 := by
  have hlow : off &&& 0x7000 = 0 := and_mul_two_pow_of_lt (k := 12) 7 hoff
  rw [wordM_and _ ho hd ha hk hi hoff]
  obtain rfl | rfl | rfl := hregs
  · norm_num [slateZeros, hlow]
  · norm_num [slateZeros, hlow, and_8 hd']
  · norm_num [slateZeros, hlow, and_12 hd']

theorem slateAddr_wordM (c : CoreState) : slateAddr c (wordM op d a kind inc off) = slateAt c a off := by
  obtain ⟨-, hA, hO, -⟩ := wordM_fields ho hd ha hk hi hoff
  rw [slateAddr, hA, hO, slateAt, BitVec.toNat_add, BitVec.toNat_ofNat, CoreState.c_toNat, Nat.mod_eq_of_lt (show off < 2 ^ 32 by omega)]

theorem wordM_inc : (wordM op d a kind inc off).toNat.testBit 15 = decide (inc = 1) := by
  obtain ⟨-, -, -, hI⟩ := wordM_fields ho hd ha hk hi hoff
  rw [Nat.testBit_eq_decide_div_mod_eq, hI]

theorem slateInc_wordM (size : Nat) (c : CoreState) : slateInc (wordM op d a kind inc off) size c = afterInc c a inc size := by
  obtain ⟨-, hA, -, -⟩ := wordM_fields ho hd ha hk hi hoff
  rw [slateInc, wordM_inc ho hd ha hk hi hoff, hA, afterInc]
  simp only [decide_eq_true_eq]

end

/-- R133: each kind of access: its instructions, its size and its data registers. -/
theorem coreSlate_exec : ∀ r ∈ coreSlate,
    (∀ core w s, exec (r.1 core w) s =
      .next (coreGate core w 0xF8070000 (0x08 * 2 ^ 27 + r.2.2.1 * 2 ^ 16) (slateZeros r.2.2.2.2) s (slateLoad r.2.2.1 core w s))) ∧
    (∀ core w s, exec (r.2.1 core w) s =
      .next (coreGate core w 0xF8070000 (0x09 * 2 ^ 27 + r.2.2.1 * 2 ^ 16) (slateZeros r.2.2.2.2) s (slateStore r.2.2.1 core w s))) ∧
    slateSize r.2.2.1 = r.2.2.2.1 ∧ r.2.2.1 < 8 ∧ (r.2.2.2.2 = 16 ∨ r.2.2.2.2 = 8 ∨ r.2.2.2.2 = 4) := by
  simp only [coreSlate, List.forall_mem_cons]
  exact ⟨⟨fun _ _ _ => rfl, fun _ _ _ => rfl, rfl, by decide, by decide⟩, ⟨fun _ _ _ => rfl, fun _ _ _ => rfl, rfl, by decide, by decide⟩,
    ⟨fun _ _ _ => rfl, fun _ _ _ => rfl, rfl, by decide, by decide⟩, ⟨fun _ _ _ => rfl, fun _ _ _ => rfl, rfl, by decide, by decide⟩,
    ⟨fun _ _ _ => rfl, fun _ _ _ => rfl, rfl, by decide, by decide⟩, ⟨fun _ _ _ => rfl, fun _ _ _ => rfl, rfl, by decide, by decide⟩,
    ⟨fun _ _ _ => rfl, fun _ _ _ => rfl, rfl, by decide, by decide⟩, nofun⟩

/-! What an access of the core-mode region does (R133, R146). -/

theorem slateBad_fits {s : State} {core : CoreId} {size a : Nat} (h : s.slateFits core size a) : slateBad (s.coreRegion core.toNat) size a = none := by
  obtain ⟨hin, halign⟩ := h
  rw [slateBad, if_neg (Nat.not_lt.mpr hin), if_neg (by simpa using halign)]

theorem slateBad_beyond {region size a : Nat} (h : region < a + size) : slateBad region size a = some 0x02 := if_pos h

theorem slateBad_misaligned {region size a : Nat} (h : a + size ≤ region) (ha : a % size ≠ 0) : slateBad region size a = some 0x03 := by
  rw [slateBad, if_neg (Nat.not_lt.mpr h), if_pos ha]

section
variable {kind : Nat} {core : CoreId} {w : Word} {s : State} {c : CoreState}

theorem slateLoad_bad {cause : Nat} (h : slateBad (s.coreRegion core.toNat) (slateSize kind) (slateAddr c w) = some cause) :
    slateLoad kind core w s c = s.coreFault core.toNat cause (slateAddr c w) w := by
  simp only [slateLoad, h]

theorem slateStore_bad {cause : Nat} (h : slateBad (s.coreRegion core.toNat) (slateSize kind) (slateAddr c w) = some cause) :
    slateStore kind core w s c = s.coreFault core.toNat cause (slateAddr c w) w := by
  simp only [slateStore, h]

theorem slateStore_fits (h : s.slateFits core (slateSize kind) (slateAddr c w)) : slateStore kind core w s c =
    (s.store (some (s.coreCtx core.toNat)) (s.slatePa core.toNat (slateAddr c w)) (bytesOf (slateSize kind) (slateStored kind (fD w) c))).setCore
      core.toNat (coreNext (slateInc w (slateSize kind) (slateTouch (slateAddr c w) (slateSize kind) c))) := by
  simp only [slateStore, slateBad_fits h]

variable (hfits : s.slateFits core (slateSize kind) (slateAddr c w))
  (hclean : ∀ x ∈ wordsOf (s.slatePa core.toNat (slateAddr c w)) (slateSize kind), s.checkAt x = .clean)
include hfits hclean

/-- A load of clean words, by whether its data register is its own raised base. -/
theorem slateLoad_clean : slateLoad kind core w s c =
    if kind < 3 ∧ w.toNat.testBit 15 ∧ fD w = fA w then s.drawn.setCore core.toNat (coreNext ((slateLoaded kind (fD w)
      (s.slateRead core.toNat c (slateAddr c w) (slateSize kind)) (slateInc w (slateSize kind) c)).cset (fD w) (s.free % 2 ^ 32)))
    else (if c.fills.any (SlateOp.meets (slateAddr c w) (slateSize kind)) then s.drawn else s).setCore core.toNat (coreNext (slateLoaded kind (fD w)
      (s.slateRead core.toNat c (slateAddr c w) (slateSize kind)) (slateInc w (slateSize kind) c))) := by
  simp only [slateLoad, slateBad_fits hfits, State.readChecks_clean _ hclean, State.badIn_clean hclean, Bool.false_eq_true, if_false]

end

theorem State.slateRead_no_fill {s : State} {id : Nat} {c : CoreState} {a size : Nat} (h : c.fills.any (SlateOp.meets a size) = false) :
    s.slateRead id c a size = s.rdLe (s.slatePa id a) size := by
  rw [State.slateRead, if_neg (by simp [h])]

theorem State.slateRead_fill {s : State} {id : Nat} {c : CoreState} {a size : Nat} (h : c.fills.any (SlateOp.meets a size) = true) :
    s.slateRead id c a size = ofBytes ((List.range size).map (fun k => match c.fills.find? (SlateOp.meets (a + k) 1) with
      | none => s.byte (s.slatePa id a + k)
      | some f => if (s.freeAt ((a + k) / 8)).testBit 0 then s.fillByte id f (a + k) else s.byte (s.slatePa id a + k))) := if_pos h

theorem tblPut_tblPut {α : Type} (t : Tbl α) (i : Nat) (x y : α) : tblPut (tblPut t i x) i y = tblPut t i y := by
  induction t with
  | nil => simp [tblPut]
  | cons e t ih =>
    obtain ⟨k, v⟩ := e
    simp only [tblPut]
    split
    · simp [tblPut]
    · split
      · simp [tblPut]
      · rename_i hlt hne
        simp only [tblPut, if_neg hlt, if_neg hne, ih]

/-- The later write of a register stands. -/
theorem CoreState.cset_cset (c : CoreState) (d x y : Nat) : (c.cset d x).cset d y = c.cset d y := by
  by_cases h : d = 0
  · simp only [h, CoreState.cset_zero]
  · simp only [CoreState.cset_of_ne _ _ h, tblPut_tblPut]

theorem slateLoaded_scalar {kind : Nat} (h : kind < 3) (d v : Nat) (c : CoreState) : slateLoaded kind d v c = c.cset d v := by
  match kind, h with
  | 0, _ => rfl
  | 1, _ => rfl
  | 2, _ => rfl

section
variable {core : CoreId} {s : State} {d a inc off : Nat} {r : (CoreId → Word → Instr) × (CoreId → Word → Instr) × Nat × Nat × Nat}
  (hr : r ∈ coreSlate) (hd : d < r.2.2.2.2) (ha : a < 16) (hinc : inc < 2) (hoff : off < 4096)
include hr hd ha hinc hoff

/-- A load at its word is the load of its kind. -/
theorem exec_slateLoad (h : s.coreAt core (wordM 0x08 d a r.2.2.1 inc off)) : exec (r.1 core (wordM 0x08 d a r.2.2.1 inc off)) s =
    .next (slateLoad r.2.2.1 core (wordM 0x08 d a r.2.2.1 inc off) s (s.core core.toNat)) := by
  obtain ⟨hexec, -, -, hk, hregs⟩ := coreSlate_exec r hr
  have hd' : d < 16 := by omega
  exact exec_gate h (hexec ..) (wordM_opcode (by omega) hd' ha hk hinc hoff) (wordM_slateZeros (by omega) hd' ha hk hinc hoff hregs hd)

theorem exec_slateStore (h : s.coreAt core (wordM 0x09 d a r.2.2.1 inc off)) : exec (r.2.1 core (wordM 0x09 d a r.2.2.1 inc off)) s =
    .next (slateStore r.2.2.1 core (wordM 0x09 d a r.2.2.1 inc off) s (s.core core.toNat)) := by
  obtain ⟨-, hexec, -, hk, hregs⟩ := coreSlate_exec r hr
  have hd' : d < 16 := by omega
  exact exec_gate h (hexec ..) (wordM_opcode (by omega) hd' ha hk hinc hoff) (wordM_slateZeros (by omega) hd' ha hk hinc hoff hregs hd)

/-- A load of clean words at its word. -/
theorem exec_slateLoad_clean (h : s.coreAt core (wordM 0x08 d a r.2.2.1 inc off))
    (hfits : s.slateFits core r.2.2.2.1 (slateAt (s.core core.toNat) a off))
    (hclean : ∀ w ∈ wordsOf (s.slatePa core.toNat (slateAt (s.core core.toNat) a off)) r.2.2.2.1, s.checkAt w = .clean) :
    exec (r.1 core (wordM 0x08 d a r.2.2.1 inc off)) s = .next (if r.2.2.1 < 3 ∧ inc = 1 ∧ d = a
      then s.drawn.coreDone core ((slateLoaded r.2.2.1 d (s.slateRead core.toNat (s.core core.toNat) (slateAt (s.core core.toNat) a off) r.2.2.2.1)
        (afterInc (s.core core.toNat) a inc r.2.2.2.1)).cset d (s.free % 2 ^ 32))
      else (if (s.core core.toNat).fills.any (SlateOp.meets (slateAt (s.core core.toNat) a off) r.2.2.2.1) then s.drawn else s).coreDone core
        (slateLoaded r.2.2.1 d (s.slateRead core.toNat (s.core core.toNat) (slateAt (s.core core.toNat) a off) r.2.2.2.1)
          (afterInc (s.core core.toNat) a inc r.2.2.2.1))) := by
  obtain ⟨-, -, hsize, hk, -⟩ := coreSlate_exec r hr
  have hd' : d < 16 := by obtain ⟨-, -, -, -, hregs⟩ := coreSlate_exec r hr; omega
  have ho : 0x08 < 32 := by omega
  obtain ⟨hD, hA, -, -⟩ := wordM_fields ho hd' ha hk hinc hoff
  have haddr := slateAddr_wordM ho hd' ha hk hinc hoff (s.core core.toNat)
  rw [exec_slateLoad hr hd ha hinc hoff h, slateLoad_clean (by rwa [haddr, hsize]) (by rwa [haddr, hsize]), haddr, hsize, hD, hA,
    wordM_inc ho hd' ha hk hinc hoff, slateInc_wordM ho hd' ha hk hinc hoff]
  simp only [decide_eq_true_eq]
  rfl

theorem exec_slateStore_fits (h : s.coreAt core (wordM 0x09 d a r.2.2.1 inc off))
    (hfits : s.slateFits core r.2.2.2.1 (slateAt (s.core core.toNat) a off)) :
    exec (r.2.1 core (wordM 0x09 d a r.2.2.1 inc off)) s = .next
      ((s.store (some (s.coreCtx core.toNat)) (s.slatePa core.toNat (slateAt (s.core core.toNat) a off))
        (bytesOf r.2.2.2.1 (slateStored r.2.2.1 d (s.core core.toNat)))).coreDone core
        (afterInc (slateTouch (slateAt (s.core core.toNat) a off) r.2.2.2.1 (s.core core.toNat)) a inc r.2.2.2.1)) := by
  obtain ⟨-, -, hsize, hk, -⟩ := coreSlate_exec r hr
  have hd' : d < 16 := by obtain ⟨-, -, -, -, hregs⟩ := coreSlate_exec r hr; omega
  have ho : 0x09 < 32 := by omega
  obtain ⟨hD, -, -, -⟩ := wordM_fields ho hd' ha hk hinc hoff
  have haddr := slateAddr_wordM ho hd' ha hk hinc hoff (s.core core.toNat)
  rw [exec_slateStore hr hd ha hinc hoff h, slateStore_fits (by rwa [haddr, hsize]), haddr, hsize, hD, slateInc_wordM ho hd' ha hk hinc hoff]
  rfl

theorem exec_slateLoad_bad {cause : Nat} (h : s.coreAt core (wordM 0x08 d a r.2.2.1 inc off))
    (hbad : slateBad (s.coreRegion core.toNat) r.2.2.2.1 (slateAt (s.core core.toNat) a off) = some cause) :
    exec (r.1 core (wordM 0x08 d a r.2.2.1 inc off)) s =
      .next (s.coreFault core.toNat cause (slateAt (s.core core.toNat) a off) (wordM 0x08 d a r.2.2.1 inc off)) := by
  obtain ⟨-, -, hsize, hk, hregs⟩ := coreSlate_exec r hr
  have haddr := slateAddr_wordM (show 0x08 < 32 by omega) (show d < 16 by omega) ha hk hinc hoff (s.core core.toNat)
  rw [exec_slateLoad hr hd ha hinc hoff h, slateLoad_bad (by rwa [haddr, hsize]), haddr]

theorem exec_slateStore_bad {cause : Nat} (h : s.coreAt core (wordM 0x09 d a r.2.2.1 inc off))
    (hbad : slateBad (s.coreRegion core.toNat) r.2.2.2.1 (slateAt (s.core core.toNat) a off) = some cause) :
    exec (r.2.1 core (wordM 0x09 d a r.2.2.1 inc off)) s =
      .next (s.coreFault core.toNat cause (slateAt (s.core core.toNat) a off) (wordM 0x09 d a r.2.2.1 inc off)) := by
  obtain ⟨-, -, hsize, hk, hregs⟩ := coreSlate_exec r hr
  have haddr := slateAddr_wordM (show 0x09 < 32 by omega) (show d < 16 by omega) ha hk hinc hoff (s.core core.toNat)
  rw [exec_slateStore hr hd ha hinc hoff h, slateStore_bad (by rwa [haddr, hsize]), haddr]

end

/-- Settles O13: a load of clean words in its three cases, a store, and the two faults of each. -/
theorem coreSlateAccesses : Obligations.CoreSlateAccesses := by
  unfold Obligations.CoreSlateAccesses
  refine ⟨fun r hr core s d a inc off hd ha hinc hoff h hfits hclean => ?_,
    fun r hr core s d a inc off hd ha hinc hoff h hfits => exec_slateStore_fits hr hd ha hinc hoff h hfits,
    fun r hr core s d a inc off hd ha hinc hoff => ⟨fun h hx => exec_slateLoad_bad hr hd ha hinc hoff h (slateBad_beyond hx),
      fun h hx hm => exec_slateLoad_bad hr hd ha hinc hoff h (slateBad_misaligned hx hm),
      fun h hx => exec_slateStore_bad hr hd ha hinc hoff h (slateBad_beyond hx),
      fun h hx hm => exec_slateStore_bad hr hd ha hinc hoff h (slateBad_misaligned hx hm)⟩⟩
  have hload := exec_slateLoad_clean hr hd ha hinc hoff h hfits hclean
  refine ⟨fun hown hfill => ?_, fun hown hfill => ⟨fun j => (s.freeAt j).testBit 0, ?_⟩, fun hown => ?_⟩
  · rw [hload, if_neg hown, hfill, State.slateRead_no_fill hfill]
    rfl
  · rw [hload, if_neg hown, hfill, State.slateRead_fill hfill]
    rfl
  · rw [if_pos hown] at hload
    obtain ⟨hk, hi, rfl⟩ := hown
    refine ⟨_, hload, fun v => ?_⟩
    rw [slateLoaded_scalar hk, CoreState.cset_cset, CoreState.cset_cset, afterInc, if_pos hi, CoreState.cset_cset]

/-! System values (R148). -/

section
variable {core : CoreId} {s : State} {d i : Nat} (hd : d < 16) (hi : i < 2 ^ 15) (h : s.coreAt core (wordI 0x1A d 0 0 (BitVec.ofNat 15 i)))
include hd hi h

/-- sysr at its word: the value goes to cd, and the free draw of index 6 and the capture of index 4 beside it. -/
theorem exec_sysr : exec (.gexaCSysr core (wordI 0x1A d 0 0 (BitVec.ofNat 15 i))) s = .next ((if i = 6 then s.drawn else s).coreDone core
    (if i = 4 then { (s.core core.toNat).cset d (sysValue s core.toNat (s.core core.toNat) i) with
      timeHi := BitVec.ofNat 32 ((s.localTime (s.corePhys core.toNat)).toNat / 2 ^ 32) }
    else (s.core core.toNat).cset d (sysValue s core.toNat (s.core core.toNat) i))) := by
  have ho : 0x1A < 32 := by omega
  obtain ⟨hD, -, hI⟩ := wordI_fields (imm := BitVec.ofNat 15 i) ho hd (show 0 < 16 by omega) (show 0 < 16 by omega)
  rw [BitVec.toNat_ofNat, Nat.mod_eq_of_lt hi] at hI
  have h0 : (wordI 0x1A d 0 0 (BitVec.ofNat 15 i)).toNat &&& 0x00780000 = 0 := by
    rw [wordI_and _ ho hd (by omega) (by omega)]
    norm_num
  have hm := wordI_opcode (imm := BitVec.ofNat 15 i) ho hd (show 0 < 16 by omega) (show 0 < 16 by omega)
  refine (exec_gate h (exec_gexaCSysr ..) hm h0).trans ?_
  rw [coreSysr, hD, hI]
  rfl

theorem exec_sysr_value {v : Nat} (h4 : i ≠ 4) (h6 : i ≠ 6) (hv : sysValue s core.toNat (s.core core.toNat) i = v) :
    exec (.gexaCSysr core (wordI 0x1A d 0 0 (BitVec.ofNat 15 i))) s = .next (s.coreDone core ((s.core core.toNat).cset d v)) := by
  rw [exec_sysr hd hi h, if_neg h6, if_neg h4, hv]

end

theorem sysValue_counter (s : State) (id : Nat) (c : CoreState) (k : Nat) (hk : k < 4) : sysValue s id c (k + 12) = (c.kget k).toNat := by
  match k, hk with
  | 0, _ => rfl
  | 1, _ => rfl
  | 2, _ => rfl
  | 3, _ => rfl

/-- An index beyond the table reads 0. -/
theorem sysValue_unused (s : State) (id : Nat) (c : CoreState) {i : Nat} (h : i = 10 ∨ i = 11 ∨ 16 ≤ i) : sysValue s id c i = 0 := by
  obtain rfl | rfl | h := h
  · rfl
  · rfl
  · obtain ⟨k, rfl⟩ := Nat.exists_eq_add_of_le' h
    rfl

/-- Settles O15: each index of the table reads its value. -/
theorem coreSystemValues : Obligations.CoreSystemValues := by
  unfold Obligations.CoreSystemValues
  intro core s d i hd hi h
  have hvalue {v : Nat} (h4 : i ≠ 4) (h6 : i ≠ 6) (hv : sysValue s core.toNat (s.core core.toNat) i = v) := exec_sysr_value hd hi h h4 h6 hv
  refine ⟨fun e => ?_, fun e => ?_, fun e => ?_, fun e => ?_, fun e => ?_, fun e => ?_, fun e => ?_, fun e => ?_, fun e => ?_, fun e => ?_,
    fun h12 h16 => ?_, fun e => hvalue (by omega) (by omega) (sysValue_unused s _ _ e)⟩
  case refine_5 => rw [exec_sysr hd hi h, if_neg (by omega), if_pos e, e]; rfl
  case refine_7 => exact ⟨_, by rw [exec_sysr hd hi h, if_pos e, if_neg (by omega)]⟩
  case refine_11 =>
    refine hvalue (by omega) (by omega) ?_
    rw [← sysValue_counter s _ _ (i - 12) (by omega), Nat.sub_add_cancel h12]
  all_goals exact hvalue (by omega) (by omega) (by rw [e]; rfl)

end Sys2Proof.Machine

/-!
What a core puts into the mesh: send, put.v, put.a and get (04_core_mode R138, R139, R148, R152, R153), and O16.
-/
namespace Sys2Proof.Machine

theorem coreSend_eq {core : CoreId} {w : Word} {s : State} {c : CoreState} {d t tag : Nat} (hD : fD w = d) (hA : c.cget (fA w) = t) (hF : fFn w = tag)
    (hreach : s.reachesCore core t) (hruns : s.meshRuns (s.coreCtx core.toNat) t = true) (hroom : c.sends.length < 4) :
    coreSend core w s c =
      (s.coreDone core { c with sends := c.sends ++ [⟨t, tag, c.v d, true⟩] }).inject (.send core.toNat t tag (c.v d)) := by
  unfold State.reachesCore at hreach
  simp only [coreSend, hA, hreach, hruns, Bool.and_self, Bool.not_true, Bool.false_eq_true, if_false, if_neg (Nat.not_le.mpr hroom), hD, hF]
  rfl

/-- The fields that a put or a get reads beside those of format R. -/
theorem bitsOf_wordR {op d a b e sz fn : Nat} (hf : FieldsR op d a b e sz fn) : bitsOf (wordR op d a b e sz fn).toNat 13 12 = e / 2 % 4 ∧
    bitsOf (wordR op d a b e sz fn).toNat 6 5 = fn / 32 % 4 ∧ bitsOf (wordR op d a b e sz fn).toNat 4 0 = fn % 32 := by
  obtain ⟨ho, hd, ha, hb, he, hs, hf⟩ := hf
  simp only [bitsOf, Nat.shiftRight_eq_div_pow]
  rw [wordR_toNat ho hd ha hb he hs hf]
  omega

/-- The opcode of a put: op and e[3]. -/
theorem wordR_opcode_put {op d a b e sz fn : Nat} (hf : FieldsR op d a b e sz fn) :
    (wordR op d a b e sz fn).toNat &&& 0xF8004000 = op * 2 ^ 27 + (e &&& 8) * 2 ^ 11 := by
  obtain ⟨ho, hd, ha, hb, he, hs, hf⟩ := hf
  rw [wordR_and _ ho hd ha hb he hs hf]
  norm_num [and_31 ho]

/-- R152: the completion that e[2:1] and fn of a put name. -/
def PutNames (kind fn : Nat) (done : Completion) : Prop :=
  (kind = 0 ∧ fn = 0 ∧ done = .none) ∨ (kind = 1 ∧ fn < 4 ∧ done = .counter fn) ∨ (kind = 2 ∧ fn < 256 ∧ done = .notify fn)

theorem putDone_eq {w : Word} {kind fn : Nat} {done : Completion} (hK : bitsOf w.toNat 13 12 = kind) (hF : fFn w = fn) (h : PutNames kind fn done) :
    putDone w = some done := by
  obtain ⟨rfl, rfl, rfl⟩ | ⟨rfl, hfn, rfl⟩ | ⟨rfl, -, rfl⟩ := h
  · simp only [putDone, hK, hF, if_true]
  · simp only [putDone, hK, hF, if_pos hfn]
  · simp only [putDone, hK, hF]

theorem PutNames.kind_lt {kind fn : Nat} {done : Completion} (h : PutNames kind fn done) : kind < 3 ∧ fn < 256 := by
  obtain ⟨rfl, rfl, -⟩ | ⟨rfl, hfn, -⟩ | ⟨rfl, hfn, -⟩ := h <;> omega

/-- Message i of a put of n messages of 16 bytes. -/
def putMsg (core : CoreId) (t off n : Nat) (x : Nat → BitVec 128) (done : Completion) (i : Nat) : MeshMsg :=
  .put core.toNat t (off + 16 * i) (x i) (i + 1 == n) (if i + 1 = n then done else .none)

theorem corePutTo_eq {n src : Nat} {core : CoreId} {w : Word} {s : State} {c : CoreState} {t off : Nat} {done : Completion}
    (hA : c.cget (fA w) = t) (hB : c.cget (fB w) = off) (hdone : putDone w = some done) (hreach : s.reachesCore core t)
    (hfits : s.slateFits core (16 * n) off) : corePutTo n src core w s c =
      (List.range n).foldl (fun s i => s.inject (putMsg core t off n (fun i => BitVec.ofNat 128 (laneOf 128 src i)) done i))
        (s.coreDone core { c with putsOut := c.putsOut + n }) := by
  unfold State.reachesCore at hreach
  simp only [corePutTo, hA, hB, hdone, hreach, Bool.not_true, Bool.false_eq_true, if_false, slateBad_fits hfits]
  rfl

theorem and_8_putA {kind : Nat} (h : kind < 3) : (8 + 2 * kind) &&& 8 = 8 := by interval_cases kind <;> rfl

theorem and_9_get {kind : Nat} (h : kind < 3) : 2 * kind &&& 9 = 0 := by interval_cases kind <;> rfl

theorem lane_self {n : Nat} (x : BitVec n) : lane n x 0 = x := by simp [lane]

theorem ofNat_laneOf_vget (c : CoreState) (r : Nat) : BitVec.ofNat 128 (laneOf 128 (c.vget r) 0) = c.v r := by
  rw [laneOf_vget (by norm_num), ofNat_toNat_self, lane_self]

theorem ofNat_laneOf_aget (c : CoreState) (r i : Nat) : BitVec.ofNat 128 (laneOf 128 (c.aget r) i) = lane 128 (c.a r) i := by
  rw [laneOf_aget (by norm_num), ofNat_toNat_self]

/-- R152: the completion that e[2:1], d and fn of a get name. -/
def GetNames (c : CoreState) (kind k d : Nat) (done : Completion) : Prop :=
  (kind = 0 ∧ k = 0 ∧ d = 0 ∧ done = .none) ∨ (kind = 1 ∧ k < 4 ∧ d = 0 ∧ done = .counter k) ∨
    (kind = 2 ∧ k = 0 ∧ done = .notify (c.cget d % 256))

theorem getDone_eq {w : Word} {c : CoreState} {kind k d : Nat} {done : Completion} (hK : bitsOf w.toNat 13 12 = kind)
    (hk : bitsOf w.toNat 6 5 = k) (hD : fD w = d) (h : GetNames c kind k d done) : getDone w c = some done := by
  obtain ⟨rfl, rfl, rfl, rfl⟩ | ⟨rfl, -, rfl, rfl⟩ | ⟨rfl, rfl, rfl⟩ := h <;> simp [getDone, hK, hk, hD]

theorem coreGet_eq {core : CoreId} {w : Word} {s : State} {c : CoreState} {t o len : Nat} {done : Completion} (hA : c.cget (fA w) = t)
    (hB : c.cget (fB w) = o) (hL : bitsOf w.toNat 4 0 + 1 = len) (hdone : getDone w c = some done) (hreach : s.reachesCore core t)
    (hrem : o % 2 ^ 12 % 16 = 0) (hloc : o / 2 ^ 16 % 2 ^ 12 % 16 = 0) (hremIn : o % 2 ^ 12 + 16 * len ≤ s.coreRegion core.toNat)
    (hlocIn : o / 2 ^ 16 % 2 ^ 12 + 16 * len ≤ s.coreRegion core.toNat) : coreGet core w s c =
      (s.coreDone core { c with getsOut := c.getsOut + len }).inject (.getReq core.toNat t (o % 2 ^ 12) (o / 2 ^ 16 % 2 ^ 12) len done) := by
  have hlow : bitsOf o 11 0 = o % 2 ^ 12 := rfl
  have hhigh : bitsOf o 27 16 = o / 2 ^ 16 % 2 ^ 12 := by rw [bitsOf, Nat.shiftRight_eq_div_pow]
  unfold State.reachesCore at hreach
  simp only [coreGet, hA, hB, hL, hdone, hreach, hlow, hhigh, Bool.not_true, Bool.false_eq_true, if_false]
  rw [if_neg (Nat.not_lt.mpr hremIn), if_neg (Nat.not_lt.mpr hlocIn), if_neg (not_not.mpr hrem), if_neg (not_not.mpr hloc)]
  rfl

section
variable {core : CoreId} {s : State} {d a b : Nat} (ha : a < 16) (hb : b < 16)

include ha in
theorem exec_send_message {tag : Nat} (htag : tag < 256) (hd : d < 8) (h : s.coreAt core (wordR 0x14 d a 0 0 0 tag))
    (hreach : s.reachesCore core ((s.core core.toNat).cget a)) (hruns : s.meshRuns (s.coreCtx core.toNat) ((s.core core.toNat).cget a) = true)
    (hroom : (s.core core.toNat).sends.length < 4) : exec (.send core (wordR 0x14 d a 0 0 0 tag)) s = .next
      ((s.coreDone core { s.core core.toNat with
        sends := (s.core core.toNat).sends ++ [⟨(s.core core.toNat).cget a, tag, (s.core core.toNat).v d, true⟩] }).inject
        (.send core.toNat ((s.core core.toNat).cget a) tag ((s.core core.toNat).v d))) := by
  have hf : FieldsR 0x14 d a 0 0 0 tag := by omega
  refine (exec_gate h (exec_send ..) (wordR_opcode_alone hf) (by simp (disch := omega) [wordR_and, and_8])).trans ?_
  rw [coreSend_eq (fD_wordR hf) (by rw [fA_wordR hf]) (fFn_wordR hf) hreach hruns hroom]

include ha hb

section
variable {kind fn : Nat} {done : Completion} (hdone : PutNames kind fn done) (hreach : s.reachesCore core ((s.core core.toNat).cget a))
include hdone hreach

theorem exec_putV_message (hd : d < 8) (h : s.coreAt core (wordR 0x15 d a b (2 * kind) 0 fn))
    (hfits : s.slateFits core 16 ((s.core core.toNat).cget b)) : exec (.putV core (wordR 0x15 d a b (2 * kind) 0 fn)) s = .next
      ((s.coreDone core { s.core core.toNat with putsOut := (s.core core.toNat).putsOut + 1 }).inject
        (.put core.toNat ((s.core core.toNat).cget a) ((s.core core.toNat).cget b) ((s.core core.toNat).v d) true done)) := by
  obtain ⟨hkind, hfn⟩ := hdone.kind_lt
  have hf : FieldsR 0x15 d a b (2 * kind) 0 fn := by omega
  have hm := wordR_opcode_put hf
  rw [and_8 (by omega)] at hm
  obtain ⟨hK, -, -⟩ := bitsOf_wordR hf
  refine (exec_gate h (exec_putV ..) hm (by simp (disch := omega) [wordR_and, and_8])).trans (congrArg Host.Outcome.next ?_)
  rw [fD_wordR hf, corePutTo_eq (by rw [fA_wordR hf]) (by rw [fB_wordR hf]) (putDone_eq (hK.trans (by omega)) (fFn_wordR hf) hdone) hreach hfits,
    ← ofNat_laneOf_vget]
  rfl

theorem exec_putA_messages (hd : d < 4) (h : s.coreAt core (wordR 0x15 d a b (8 + 2 * kind) 0 fn))
    (hfits : s.slateFits core 64 ((s.core core.toNat).cget b)) : exec (.putA core (wordR 0x15 d a b (8 + 2 * kind) 0 fn)) s = .next
      ((((((s.coreDone core { s.core core.toNat with putsOut := (s.core core.toNat).putsOut + 4 }).inject
        (.put core.toNat ((s.core core.toNat).cget a) ((s.core core.toNat).cget b) (lane 128 ((s.core core.toNat).a d) 0) false .none)).inject
        (.put core.toNat ((s.core core.toNat).cget a) ((s.core core.toNat).cget b + 16) (lane 128 ((s.core core.toNat).a d) 1) false .none)).inject
        (.put core.toNat ((s.core core.toNat).cget a) ((s.core core.toNat).cget b + 32) (lane 128 ((s.core core.toNat).a d) 2) false .none)).inject
        (.put core.toNat ((s.core core.toNat).cget a) ((s.core core.toNat).cget b + 48) (lane 128 ((s.core core.toNat).a d) 3) true done))) := by
  obtain ⟨hkind, hfn⟩ := hdone.kind_lt
  have hf : FieldsR 0x15 d a b (8 + 2 * kind) 0 fn := by omega
  have hm := wordR_opcode_put hf
  rw [and_8_putA hkind] at hm
  have h0 : (8 + 2 * kind) % 2 = 0 := by omega
  obtain ⟨hK, -, -⟩ := bitsOf_wordR hf
  refine (exec_gate h (exec_putA ..) hm (by simp (disch := omega) [wordR_and, and_12, h0])).trans (congrArg Host.Outcome.next ?_)
  rw [fD_wordR hf, corePutTo_eq (by rw [fA_wordR hf]) (by rw [fB_wordR hf]) (putDone_eq (hK.trans (by omega)) (fFn_wordR hf) hdone) hreach hfits]
  simp only [ofNat_laneOf_aget]
  rfl

end

theorem exec_get_message {kind k len : Nat} {done : Completion} (hl : 1 ≤ len) (hl' : len ≤ 32) (hd : d < 16)
    (hdone : GetNames (s.core core.toNat) kind k d done) (h : s.coreAt core (wordR 0x16 d a b (2 * kind) 0 (k * 32 + (len - 1))))
    (hreach : s.reachesCore core ((s.core core.toNat).cget a)) (hrem : (s.core core.toNat).cget b % 2 ^ 12 % 16 = 0)
    (hloc : (s.core core.toNat).cget b / 2 ^ 16 % 2 ^ 12 % 16 = 0)
    (hremIn : (s.core core.toNat).cget b % 2 ^ 12 + 16 * len ≤ s.coreRegion core.toNat)
    (hlocIn : (s.core core.toNat).cget b / 2 ^ 16 % 2 ^ 12 + 16 * len ≤ s.coreRegion core.toNat) :
    exec (.get core (wordR 0x16 d a b (2 * kind) 0 (k * 32 + (len - 1)))) s = .next
      ((s.coreDone core { s.core core.toNat with getsOut := (s.core core.toNat).getsOut + len }).inject
        (.getReq core.toNat ((s.core core.toNat).cget a) ((s.core core.toNat).cget b % 2 ^ 12) ((s.core core.toNat).cget b / 2 ^ 16 % 2 ^ 12)
          len done)) := by
  have hbounds : kind < 3 ∧ k < 4 := by
    obtain ⟨rfl, rfl, -⟩ | ⟨rfl, hk, -⟩ | ⟨rfl, rfl, -⟩ := hdone <;> omega
  obtain ⟨hkind, hk⟩ := hbounds
  have hf : FieldsR 0x16 d a b (2 * kind) 0 (k * 32 + (len - 1)) := by omega
  have h128 : (k * 32 + (len - 1)) &&& 128 = 0 := and_mul_two_pow_of_lt (k := 7) 1 (by omega)
  obtain ⟨hK, hk', hL⟩ := bitsOf_wordR hf
  refine (exec_gate h (exec_get ..) (wordR_opcode_alone hf) (by simp (disch := omega) [wordR_and, and_9_get hkind, h128])).trans
    (congrArg Host.Outcome.next ?_)
  exact coreGet_eq (by rw [fA_wordR hf]) (by rw [fB_wordR hf]) (by rw [hL]; omega)
    (getDone_eq (hK.trans (by omega)) (hk'.trans (by omega)) (fD_wordR hf) hdone) hreach hrem hloc hremIn hlocIn

end

/-- Settles O16: one lemma for each kind of message. -/
theorem coreMeshSends : Obligations.CoreMeshSends := by
  unfold Obligations.CoreMeshSends
  intro core s d a b ha hb
  exact ⟨fun tag htag hd h hreach hruns hroom => exec_send_message ha htag hd h hreach hruns hroom,
    fun kind fn done hdone hreach => ⟨fun hd h hfits => exec_putV_message ha hb hdone hreach hd h hfits,
      fun hd h hfits => exec_putA_messages ha hb hdone hreach hd h hfits⟩,
    fun kind k len done hl hl' hd hdone h hreach hrem hloc hremIn hlocIn =>
      exec_get_message ha hb hl hl' hd hdone h hreach hrem hloc hremIn hlocIn⟩

end Sys2Proof.Machine

/-!
Fills and copies, the receive queue, signals, waits, fences and traps of a core (04_core_mode R135, R140, R143, R146, R148, R149, R153), and O17.
-/
namespace Sys2Proof.Machine

/-! sfill and scopy (R135, R153). -/

/-- R153: fn[4:2] of a fill or a copy, and the counter that it names. -/
def FillNames (k : Nat) (sg : Option Nat) : Prop := (k = 0 ∧ sg = none) ∨ (∃ j < 4, k = 16 + 4 * j ∧ sg = some j)

/-- The counter that a word of sfill or scopy names. -/
def fillSignal (w : Word) : Option Nat := if w.toNat.testBit 4 then some (bitsOf w.toNat 3 2) else none

theorem fillSignal_wordR {op d a b e sz fn : Nat} (hf : FieldsR op d a b e sz fn) :
    fillSignal (wordR op d a b e sz fn) = if fn / 16 % 2 = 1 then some (fn / 4 % 4) else none := by
  obtain ⟨ho, hd, ha, hb, he, hs, hf⟩ := hf
  have hbit : (wordR op d a b e sz fn).toNat / 2 ^ 4 % 2 = fn / 16 % 2 := by rw [wordR_toNat ho hd ha hb he hs hf]; omega
  have hk : bitsOf (wordR op d a b e sz fn).toNat 3 2 = fn / 4 % 4 := by
    rw [bitsOf, Nat.shiftRight_eq_div_pow, wordR_toNat ho hd ha hb he hs hf]; omega
  rw [fillSignal, Nat.testBit_eq_decide_div_mod_eq, hbit, hk]
  simp only [decide_eq_true_eq]

theorem FillNames.lt {k : Nat} {sg : Option Nat} (h : FillNames k sg) : k < 32 ∧ k % 4 = 0 := by
  obtain ⟨rfl, -⟩ | ⟨j, hj, rfl, -⟩ := h <;> omega

theorem FillNames.signal {k r : Nat} {sg : Option Nat} (h : FillNames k sg) (hr : r < 4) :
    (if (k + r) / 16 % 2 = 1 then some ((k + r) / 4 % 4) else none) = sg := by
  obtain ⟨rfl, rfl⟩ | ⟨j, hj, rfl, rfl⟩ := h
  · rw [if_neg (by omega)]
  · rw [if_pos (by omega)]
    congr 1
    omega

/-- The opcode of a fill or a copy: op and fn[1:0]. -/
theorem wordR_opcode_fill {op d a b e sz fn : Nat} (hf : FieldsR op d a b e sz fn) :
    (wordR op d a b e sz fn).toNat &&& 0xF8000003 = op * 2 ^ 27 + fn % 2 ^ 2 := by
  obtain ⟨ho, hd, ha, hb, he, hs, hf⟩ := hf
  rw [wordR_and _ ho hd ha hb he hs hf]
  norm_num [and_31 ho]
  exact Nat.and_two_pow_sub_one_eq_mod fn 2

theorem coreFill_eq {copySrc : Option Nat} {dst value len : Nat} {core : CoreId} {w : Word} {s : State} {c : CoreState} {sg : Option Nat}
    (hB : c.cget (fB w) = len) (hsig : fillSignal w = sg) (hdst : dst + len ≤ s.coreRegion core.toNat)
    (hsrc : copySrc.getD dst + len ≤ s.coreRegion core.toNat) (hdst8 : dst % 8 = 0) (hsrc8 : copySrc.getD dst % 8 = 0) (hlen8 : len % 8 = 0) :
    coreFill copySrc dst value core w s c =
      s.coreDone core { c with fills := c.fills ++ [⟨dst, len, copySrc, BitVec.ofNat 64 value, sg, []⟩] } := by
  unfold fillSignal at hsig
  simp only [coreFill, hB, hsig, hdst8, hsrc8, hlen8, ne_eq, not_true_eq_false, if_false, if_neg (Nat.not_lt.mpr hdst), if_neg (Nat.not_lt.mpr hsrc)]
  rfl

section
variable {core : CoreId} {s : State} {d a b k : Nat} {sg : Option Nat} (ha : a < 16) (hb : b < 16) (hk : FillNames k sg)
  (hlen8 : (s.core core.toNat).cget b % 8 = 0) (hin : (s.core core.toNat).cget a + (s.core core.toNat).cget b ≤ s.coreRegion core.toNat)
include ha hb hk hlen8 hin

theorem exec_sfill_begins (hd : d < 8) (h : s.coreAt core (wordR 0x1C d a b 0 0 k)) (hfits : s.slateFits core 8 ((s.core core.toNat).cget a)) :
    exec (.sfill core (wordR 0x1C d a b 0 0 k)) s = .next (s.coreDone core { s.core core.toNat with
      fills := (s.core core.toNat).fills ++
        [⟨(s.core core.toNat).cget a, (s.core core.toNat).cget b, none, ((s.core core.toNat).v d).setWidth 64, sg, []⟩] }) := by
  obtain ⟨hk32, hk4⟩ := hk.lt
  have hf : FieldsR 0x1C d a b 0 0 k := by omega
  have hm := wordR_opcode_fill hf
  rw [show k % 2 ^ 2 = 0 by omega] at hm
  have h0 : k &&& 224 = 0 := and_mul_two_pow_of_lt (k := 5) 7 hk32
  have hv : BitVec.ofNat 64 ((s.core core.toNat).vget d) = ((s.core core.toNat).v d).setWidth 64 := by rw [← CoreState.v_toNat]; rfl
  obtain ⟨-, halign⟩ := hfits
  refine (exec_gate h (exec_sfill ..) hm (by simp (disch := omega) [wordR_and, and_8, h0])).trans (congrArg Host.Outcome.next ?_)
  rw [fA_wordR hf, fD_wordR hf, ← hv]
  exact coreFill_eq (by rw [fB_wordR hf]) ((fillSignal_wordR hf).trans (hk.signal (r := 0) (by omega))) hin hin halign halign hlen8

theorem exec_scopy_begins (hd : d < 16) (h : s.coreAt core (wordR 0x1C d a b 0 0 (k + 1))) (ha8 : (s.core core.toNat).cget a % 8 = 0)
    (hd8 : (s.core core.toNat).cget d % 8 = 0) (hdst : (s.core core.toNat).cget d + (s.core core.toNat).cget b ≤ s.coreRegion core.toNat) :
    exec (.scopy core (wordR 0x1C d a b 0 0 (k + 1))) s = .next (s.coreDone core { s.core core.toNat with
      fills := (s.core core.toNat).fills ++
        [⟨(s.core core.toNat).cget d, (s.core core.toNat).cget b, some ((s.core core.toNat).cget a), 0, sg, []⟩] }) := by
  obtain ⟨hk32, hk4⟩ := hk.lt
  have hf : FieldsR 0x1C d a b 0 0 (k + 1) := by omega
  have hm := wordR_opcode_fill hf
  rw [show (k + 1) % 2 ^ 2 = 1 by omega] at hm
  have h0 : k + 1 &&& 224 = 0 := and_mul_two_pow_of_lt (k := 5) 7 (by omega)
  refine (exec_gate h (exec_scopy ..) hm (by simp (disch := omega) [wordR_and, h0])).trans (congrArg Host.Outcome.next ?_)
  rw [fA_wordR hf, fD_wordR hf]
  exact coreFill_eq (by rw [fB_wordR hf]) ((fillSignal_wordR hf).trans (hk.signal (r := 1) (by omega))) hdst hin hd8 ha8 hlen8

end

/-! The receive queue (R140). -/

section
variable {core : CoreId} {s : State} {d : Nat} (hd : d < 8)
include hd

theorem exec_recv_takes {ce : Nat} (hce : ce < 16) (h : s.coreAt core (wordR 0x17 d 0 0 ce 0 0)) :
    exec (.recv core (wordR 0x17 d 0 0 ce 0 0)) s = .next (match (s.core core.toNat).rx with
      | [] => s.setCore core.toNat { s.core core.toNat with block := .recv d ce }
      | x :: xs => s.coreDone core ((({ s.core core.toNat with rx := xs }).vset d x.data.toNat).cset ce x.header.toNat)) := by
  have hf : FieldsR 0x17 d 0 0 ce 0 0 := by omega
  refine (exec_gate h (exec_recv ..) (wordR_opcode hf) (by simp (disch := omega) [wordR_and, and_8])).trans (congrArg Host.Outcome.next ?_)
  rw [coreRecv, fD_wordR hf, fE_wordR hf]
  rfl

theorem exec_recvN_takes {ce : Nat} (hce : ce < 16) (h : s.coreAt core (wordR 0x17 d 0 0 ce 0 1)) :
    exec (.recvN core (wordR 0x17 d 0 0 ce 0 1)) s = .next (match (s.core core.toNat).rx with
      | [] => s.coreDone core ((s.core core.toNat).cset ce 0xFFFFFFFF)
      | x :: xs => s.coreDone core ((({ s.core core.toNat with rx := xs }).vset d x.data.toNat).cset ce x.header.toNat)) := by
  have hf : FieldsR 0x17 d 0 0 ce 0 1 := by omega
  refine (exec_gate h (exec_recvN ..) (wordR_opcode hf) (by simp (disch := omega) [wordR_and, and_8])).trans (congrArg Host.Outcome.next ?_)
  rw [coreRecvN, fD_wordR hf, fE_wordR hf]
  rfl

/-- recv.t at its word is the search for its tag. -/
theorem exec_recvT_search {tag : Nat} (htag : tag < 256) (h : s.coreAt core (wordR 0x17 d 0 (tag / 16) (tag % 16) 0 2)) :
    exec (.recvT core (wordR 0x17 d 0 (tag / 16) (tag % 16) 0 2)) s = .next (match (s.core core.toNat).rx.find? (rxTagged tag) with
      | none => s.setCore core.toNat { s.core core.toNat with block := .recvT tag d 0 }
      | some x => s.coreDone core (({ s.core core.toNat with rx := removeFirst (rxTagged tag) (s.core core.toNat).rx }).vset d x.data.toNat)) := by
  have hf : FieldsR 0x17 d 0 (tag / 16) (tag % 16) 0 2 := by omega
  have hT : bitsOf (wordR 0x17 d 0 (tag / 16) (tag % 16) 0 2).toNat 18 11 = tag := by
    obtain ⟨ho, hd, ha, hb, he, hs, hf⟩ := hf
    rw [bitsOf, Nat.shiftRight_eq_div_pow, wordR_toNat ho hd ha hb he hs hf]
    omega
  refine (exec_gate h (exec_recvT ..) (wordR_opcode hf) (by simp (disch := omega) [wordR_and, and_8])).trans (congrArg Host.Outcome.next ?_)
  rw [coreRecvT, hT, fD_wordR hf]
  rfl

end

/-! Signals, waits, fences and traps (R143, R146, R148). -/

theorem wordSig_eq (a : Nat) (imm : BitVec 16) : wordSig a imm = wordL 0x18 a (imm.setWidth 23) := by
  rw [wordSig, wordL, BitVec.toNat_setWidth, Nat.mod_eq_of_lt (show imm.toNat < 2 ^ 23 by have := imm.isLt; omega)]

theorem wordWait_eq {k thr : Nat} (hthr : thr < 2 ^ 15) : wordWait k thr = wordL 0x19 (4 * k) (BitVec.ofNat 23 thr) := by
  have hx : (BitVec.ofNat 23 thr).toNat = thr := by rw [BitVec.toNat_ofNat]; omega
  have hk : 4 * k * 2 ^ 23 = k * 2 ^ 25 := by omega
  rw [wordWait, wordL, hx, hk]

section
variable {core : CoreId} {s : State}

theorem coreSig_eq {w : Word} {c : CoreState} {a : Nat} {imm : BitVec 16} (hD : fD w = a) (hI : bitsOf w.toNat 15 0 = imm.toNat)
    (hallow : s.sigAllowed (s.coreCtx core.toNat) (sigTarget (c.c a)) = true) : coreSig core w s c =
      (s.coreDone core c).sendSignal (s.coreCtx core.toNat) (c.c a) imm.toInt (sigSrc 0 false core.toNat) := by
  unfold CoreState.c at hallow ⊢
  simp only [coreSig, hD, hI, hallow, Bool.not_true, Bool.false_eq_true, if_false, toSigned_toNat]
  rfl

theorem exec_sig_sends {a : Nat} {imm : BitVec 16} (ha : a < 16) (h : s.coreAt core (wordSig a imm))
    (hallow : s.sigAllowed (s.coreCtx core.toNat) (sigTarget ((s.core core.toNat).c a)) = true) : exec (.gexaCSig core (wordSig a imm)) s =
      .next ((s.coreDone core (s.core core.toNat)).sendSignal (s.coreCtx core.toNat) ((s.core core.toNat).c a) imm.toInt
        (sigSrc 0 false core.toNat)) := by
  rw [wordSig_eq] at h ⊢
  have ho : 0x18 < 32 := by omega
  have hx : (imm.setWidth 23).toNat = imm.toNat := by rw [BitVec.toNat_setWidth]; have := imm.isLt; omega
  obtain ⟨hD, -⟩ := wordL_fields (imm := imm.setWidth 23) ho ha
  have h0 : (wordL 0x18 a (imm.setWidth 23)).toNat &&& 0x007F0000 = 0 := by
    rw [wordL_and _ ho ha, hx]
    have hmask := and_mul_two_pow_of_lt 0x7F imm.isLt
    norm_num at hmask ⊢
    exact hmask
  have hI : bitsOf (wordL 0x18 a (imm.setWidth 23)).toNat 15 0 = imm.toNat := by
    rw [wordL_toNat ho ha, hx, bitsOf, Nat.shiftRight_zero]
    have := imm.isLt
    omega
  exact (exec_gate h (exec_gexaCSig ..) (wordL_opcode ho ha) h0).trans (congrArg Host.Outcome.next (coreSig_eq hD hI hallow))

theorem coreWait_eq {w : Word} {c : CoreState} {k thr : Nat} (hK : bitsOf w.toNat 26 25 = k) (hT : bitsOf w.toNat 14 0 = thr) (hthr : 0 < thr) :
    coreWait core w s c = if thr ≤ (c.kget k).toNat then s.coreDone core (c.kset k (c.kget k - BitVec.ofNat 16 thr))
      else s.setCore core.toNat { c with block := .wait k thr } := by
  simp only [coreWait, hK, hT, if_neg (Nat.ne_of_gt hthr)]
  rfl

theorem exec_wait_counter {k thr : Nat} (hk : k < 4) (hpos : 0 < thr) (hthr : thr < 2 ^ 15) (h : s.coreAt core (wordWait k thr)) :
    exec (.gexaCWait core (wordWait k thr)) s = .next (if thr ≤ ((s.core core.toNat).kget k).toNat
      then s.coreDone core ((s.core core.toNat).kset k ((s.core core.toNat).kget k - BitVec.ofNat 16 thr))
      else s.setCore core.toNat { s.core core.toNat with block := .wait k thr }) := by
  rw [wordWait_eq hthr] at h ⊢
  have ho : 0x19 < 32 := by omega
  have hd : 4 * k < 16 := by omega
  have hx : (BitVec.ofNat 23 thr).toNat = thr := by rw [BitVec.toNat_ofNat]; omega
  have h0 : (wordL 0x19 (4 * k) (BitVec.ofNat 23 thr)).toNat &&& 0x01FF8000 = 0 := by
    rw [wordL_and _ ho hd, hx]
    have hmask := and_mul_two_pow_of_lt 0xFF hthr
    have hlow : 4 * k &&& 3 = 0 := by rw [Nat.and_two_pow_sub_one_eq_mod (4 * k) 2]; omega
    norm_num at hmask ⊢
    exact ⟨hlow, hmask⟩
  have hK : bitsOf (wordL 0x19 (4 * k) (BitVec.ofNat 23 thr)).toNat 26 25 = k := by
    rw [wordL_toNat ho hd, hx, bitsOf, Nat.shiftRight_eq_div_pow]
    omega
  have hT : bitsOf (wordL 0x19 (4 * k) (BitVec.ofNat 23 thr)).toNat 14 0 = thr := by
    rw [wordL_toNat ho hd, hx, bitsOf, Nat.shiftRight_zero]
    omega
  exact (exec_gate h (exec_gexaCWait ..) (wordL_opcode ho hd) h0).trans (congrArg Host.Outcome.next (coreWait_eq hK hT hpos))

theorem coreFenceClear_iff (c : CoreState) : coreFenceClear c = true ↔ c.putsOut = 0 ∧ c.sends = [] := by
  simp [coreFenceClear]

theorem exec_fence_waits (h : s.coreAt core (wordR 0 0 0 0 0 0 2)) : exec (.gexaCFence core (wordR 0 0 0 0 0 0 2)) s = .next
    (if (s.core core.toNat).putsOut = 0 ∧ (s.core core.toNat).sends = [] then s.coreDone core (s.core core.toNat)
      else s.setCore core.toNat { s.core core.toNat with block := .fence }) := by
  refine (exec_gate h (exec_gexaCFence ..) (by decide) (by decide)).trans (congrArg Host.Outcome.next ?_)
  simp only [coreFenceClear_iff]
  exact apply_ite ..

theorem exec_trap_faults {e : Nat} (he : e < 16) (h : s.coreAt core (wordR 0 0 0 0 e 0 3)) : exec (.gexaCTrap core (wordR 0 0 0 0 e 0 3)) s =
    .next (s.coreFault core.toNat 0x07 e (wordR 0 0 0 0 e 0 3)) := by
  have hf : FieldsR 0 0 0 0 e 0 3 := by omega
  refine (exec_gate h (exec_gexaCTrap ..) (wordR_opcode hf) (by simp (disch := omega) [wordR_and])).trans (congrArg Host.Outcome.next ?_)
  rw [corePut, fE_wordR hf]

end

/-- Settles O17: one lemma for each instruction. -/
theorem coreSyncResults : Obligations.CoreSyncResults := by
  unfold Obligations.CoreSyncResults
  intro core s d a b ha hb
  refine ⟨fun k sg hk => ⟨fun hd h hfits hlen8 hin => exec_sfill_begins ha hb hk hlen8 hin hd h hfits,
      fun hd h ha8 hd8 hlen8 hin hdst => exec_scopy_begins ha hb hk hlen8 hin hd h ha8 hd8 hdst⟩,
    fun ce hce hd h => exec_recv_takes hd hce h, fun ce hce hd h => exec_recvN_takes hd hce h,
    fun tag htag hd h => ⟨fun hnone => ?_, fun x hsome => ?_⟩, fun imm h hallow => exec_sig_sends ha h hallow,
    fun k thr hk hpos hthr h => exec_wait_counter hk hpos hthr h, exec_fence_waits, fun e he h => exec_trap_faults he h⟩
  · rw [exec_recvT_search hd htag h, hnone]
  · rw [exec_recvT_search hd htag h, hsome]

end Sys2Proof.Machine

/-!
What ends a core's wait, and what the mesh delivers (04_core_mode R135, R138 to R141, R293), and O18.
-/
namespace Sys2Proof.Machine

/-! What ends a core's wait. -/

section
variable {core : CoreId} {s : State}

theorem exec_fence_released (hb : (s.core core.toNat).block = .fence) (hputs : (s.core core.toNat).putsOut = 0)
    (hsends : (s.core core.toNat).sends = []) :
    exec (.coreFenceRelease core) s = .next (s.coreDone core { s.core core.toNat with block := .no }) := by
  rw [exec_coreFenceRelease, execCoreFenceRelease]
  exact congrArg Host.Outcome.next (if_pos ⟨hb, (coreFenceClear_iff _).mpr ⟨hputs, hsends⟩⟩)

theorem exec_recv_satisfied {vd ce : Nat} {x : RxEntry} {xs : List RxEntry} (hb : (s.core core.toNat).block = .recv vd ce)
    (hrx : (s.core core.toNat).rx = x :: xs) : exec (.recvSatisfied core) s =
      .next (s.coreDone core ((({ s.core core.toNat with rx := xs, block := .no }).vset vd x.data.toNat).cset ce x.header.toNat)) := by
  simp only [exec_recvSatisfied, execRecvSatisfied, hb, hrx]
  rfl

theorem exec_recvT_satisfied {tag vd ce : Nat} {x : RxEntry} (hb : (s.core core.toNat).block = .recvT tag vd ce)
    (hrx : (s.core core.toNat).rx.find? (rxTagged tag) = some x) : exec (.recvSatisfied core) s = .next (s.coreDone core
      ((({ s.core core.toNat with rx := removeFirst (rxTagged tag) (s.core core.toNat).rx, block := .no }).vset vd x.data.toNat).cset ce
        x.header.toNat)) := by
  simp only [exec_recvSatisfied, execRecvSatisfied, hb, hrx]
  rfl

theorem exec_wait_satisfied {k thr : Nat} (hb : (s.core core.toNat).block = .wait k thr) (hk : thr ≤ ((s.core core.toNat).kget k).toNat) :
    exec (.waitSatisfied (.core core)) s = .next (s.coreDone core
      { (s.core core.toNat).kset k ((s.core core.toNat).kget k - BitVec.ofNat 16 thr) with block := .no }) := by
  simp only [exec_waitSatisfied, execWaitSatisfied, coreWaitDone, hb, if_pos hk]
  rfl

theorem exec_send_retried {slot : Nat} {x : SendSlot} (hx : (s.core core.toNat).sends[slot]? = some x) (hw : x.waiting = false)
    (hrun : (s.core core.toNat).status ≠ 4) : exec (.sendRetry core slot) s =
      .next ((s.setCore core.toNat { s.core core.toNat with sends := (s.core core.toNat).sends.set slot { x with waiting := true } }).inject
        (.send core.toNat x.target x.tag x.data)) := by
  simp only [exec_sendRetry, execSendRetry, hx, hw, hrun, Bool.false_eq_true, or_self, if_false]

theorem exec_notification_released {tag src : Nat} {r : List (Nat × Nat)} (hheld : (s.core core.toNat).heldNote = (tag, src) :: r)
    (hroom : (s.core core.toNat).rx.length < 16) : exec (.notificationRelease core) s = .next (s.setCore core.toNat
      { s.core core.toNat with rx := (s.core core.toNat).rx ++ [⟨rxHeader tag true src, 0#128⟩], heldNote := r }) := by
  simp only [exec_notificationRelease, execNotificationRelease, hheld, if_pos hroom]

section
variable {f : SlateOp} {fs : List SlateOp} (hfills : (s.core core.toNat).fills = f :: fs) (hfill : f.copySrc = none) (hsig : f.signal = none)
include hfills hfill hsig

/-- A fill without a signal leaves its value. -/
theorem exec_fill_complete_kept (hstored : f.stored = []) : exec (.slateFillComplete core) s = .next
    ((s.setCore core.toNat { s.core core.toNat with fills := fs }).store (some (s.coreCtx core.toNat)) (s.slatePa core.toNat f.dst)
      (List.replicate (f.len / 8) (bytesOf 8 f.value.toNat)).flatten) := by
  simp only [exec_slateFillComplete, execSlateFillComplete, hfills, hfill, hsig, State.fillLeaves, if_pos hstored]
  rfl

/-- A fill without a signal into whose range words have been stored: the open draw says which of them stay. -/
theorem exec_fill_complete_stored (hstored : f.stored ≠ []) : exec (.slateFillComplete core) s = .next
    ((s.setCore core.toNat { s.core core.toNat with fills := fs }).drawn.store (some (s.coreCtx core.toNat)) (s.slatePa core.toNat f.dst)
      ((List.range f.len).map (fun k => if f.stored.contains (k / 8) && (s.freeAt (k / 8)).testBit 0 then s.byte (s.slatePa core.toNat f.dst + k)
        else nth 0#8 (List.replicate (f.len / 8) (bytesOf 8 f.value.toNat)).flatten k))) := by
  simp only [exec_slateFillComplete, execSlateFillComplete, hfills, hfill, hsig, State.fillLeaves, if_neg hstored]
  rfl

end

end

/-! What the mesh delivers. -/

theorem mem_wordsOf {a n w : Nat} : w ∈ wordsOf a n ↔ 0 < n ∧ a / 8 * 8 ≤ w ∧ w < a + n ∧ w % 8 = 0 := by
  rw [wordsOf]
  split
  · simp_all
  · simp only [List.mem_map, List.mem_range]
    constructor
    · rintro ⟨i, hi, rfl⟩
      omega
    · rintro ⟨hn, hlow, hhigh, h8⟩
      exact ⟨w / 8 - a / 8, by omega, by omega⟩

/-- A range that lies in another touches only words that the other touches. -/
theorem wordsOf_subset {a n pa len : Nat} (hlow : pa ≤ a) (hhigh : a + n ≤ pa + len) : wordsOf a n ⊆ wordsOf pa len := by
  intro w hw
  rw [mem_wordsOf] at hw ⊢
  omega

/-- What messages put into the mesh one by one, each made from what the others leave unchanged, add to it. -/
theorem mesh_foldl_inject {g : State → Nat → MeshMsg} (hg : ∀ s m i, g (s.inject m) i = g s i) (l : List Nat) (t : State) :
    (l.foldl (fun t i => t.inject (g t i)) t).mesh = t.mesh ++ l.map (g t) := by
  induction l generalizing t with
  | nil => simp
  | cons i l ih =>
    rw [List.foldl_cons, ih, List.map_congr_left fun j _ => hg t (g t i) j, State.inject, List.append_assoc]
    rfl

/-- The reply that carries unit i of a get. -/
def getReplyOf (src dst loc len pa : Nat) (done : Completion) (t : State) (i : Nat) : MeshMsg :=
  .getReply dst src (loc + 16 * i) (BitVec.ofNat 128 (t.rdLe (pa + 16 * i) 16)) (t.badIn (pa + 16 * i) 16) (i + 1 == len)
    (if i + 1 = len then done else .none)

theorem getReplyOf_inject (src dst loc len pa : Nat) (done : Completion) (t : State) (m : MeshMsg) (i : Nat) :
    getReplyOf src dst loc len pa done (t.inject m) i = getReplyOf src dst loc len pa done t i := rfl

section
variable {s t : State} {n src dst tag off : Nat} {x : BitVec 128}

theorem exec_send_arrives (h : s.meshTake n = some (.send src dst tag x, t)) : exec (.meshSendArrival n) s = .next
    (if (t.core dst).rx.length < 12
      then (t.setCore dst { t.core dst with rx := (t.core dst).rx ++ [⟨rxHeader tag false src, x⟩] }).inject (.sendAck dst src tag x)
      else t.inject (.refusal dst src tag x)) := by
  simp only [exec_meshSendArrival, execMeshSendArrival, h]

theorem exec_send_refused (h : s.meshTake n = some (.refusal src dst tag x, t)) : exec (.meshSendRefusal n) s =
    .next (t.setCore dst { t.core dst with sends := markRefused src tag x (t.core dst).sends }) := by
  simp only [exec_meshSendRefusal, execMeshSendRefusal, h]

theorem exec_send_acknowledged (h : s.meshTake n = some (.sendAck src dst tag x, t)) : exec (.sendAcknowledgement n) s = .next (t.setCore dst
    { t.core dst with
      sends := removeFirst (fun y => y.target == src && y.tag == tag && y.data == x && y.waiting) (t.core dst).sends }) := by
  simp only [exec_sendAcknowledgement, execSendAcknowledgement, h]

theorem exec_put_arrives {last : Bool} {done : Completion} (h : s.meshTake n = some (.put src dst off x last done, t))
    (hheld : (t.core dst).heldNote = []) : exec (.meshPutArrival n) s =
      .next (((t.store (some (t.coreCtx src)) (slateBase dst + (t.slAlloc (t.coreCtx src)).1 + off) (bytesOf 16 x.toNat)).putLanded
        src).complete dst src done) := by
  simp only [exec_meshPutArrival, execMeshPutArrival, h, hheld, ne_eq, not_true_eq_false, if_false]

theorem exec_get_reply {last : Bool} {done : Completion} (h : s.meshTake n = some (.getReply src dst off x false last done, t)) :
    exec (.meshGetReply n) s =
      .next (((t.setCore dst { t.core dst with getsOut := (t.core dst).getsOut - 1 }).store
        (some ((t.setCore dst { t.core dst with getsOut := (t.core dst).getsOut - 1 }).coreCtx dst))
        ((t.setCore dst { t.core dst with getsOut := (t.core dst).getsOut - 1 }).slatePa dst off) (bytesOf 16 x.toNat)).complete dst src done) := by
  simp only [exec_meshGetReply, execMeshGetReply, h, Bool.false_eq_true, if_false]

theorem exec_get_request {rem loc len : Nat} {done : Completion} (h : s.meshTake n = some (.getReq src dst rem loc len done, t))
    (hheld : (t.core dst).heldNote = [])
    (hclean : ∀ w ∈ wordsOf (slateBase dst + (t.slAlloc (t.coreCtx src)).1 + rem) (16 * len), t.checkAt w = .clean) :
    exec (.meshGetRequest n) s = .next ((List.range len).foldl (fun u i =>
      u.inject (getReplyOf src dst loc len (slateBase dst + (t.slAlloc (t.coreCtx src)).1 + rem) done u i)) t) := by
  simp only [exec_meshGetRequest, execMeshGetRequest, h, hheld, ne_eq, not_true_eq_false, if_false, State.readChecks_clean _ hclean,
    State.badIn_clean hclean, Bool.false_eq_true]
  rfl

/-- Every unit of a get of clean words is read clean. -/
theorem getReplyOf_clean {loc len pa i : Nat} {done : Completion} (hi : i < len) (hclean : ∀ w ∈ wordsOf pa (16 * len), t.checkAt w = .clean) :
    getReplyOf src dst loc len pa done t i = .getReply dst src (loc + 16 * i) (BitVec.ofNat 128 (t.rdLe (pa + 16 * i) 16)) false (i + 1 == len)
      (if i + 1 = len then done else .none) := by
  have hsub : wordsOf (pa + 16 * i) 16 ⊆ wordsOf pa (16 * len) := wordsOf_subset (by omega) (by omega)
  rw [getReplyOf, State.badIn_clean fun w hw => hclean w (hsub hw)]

end

/-- Settles O18: one lemma for each wait that ends and for each message that arrives. -/
theorem coreMeshEvents : Obligations.CoreMeshEvents := by
  unfold Obligations.CoreMeshEvents
  refine ⟨fun core s => ⟨exec_fence_released, fun vd ce x xs => exec_recv_satisfied, fun k thr => exec_wait_satisfied,
      fun tag vd ce x => exec_recvT_satisfied, fun slot x => exec_send_retried, fun tag src r => exec_notification_released,
      fun f fs hfills hfill hsig => ⟨exec_fill_complete_kept hfills hfill hsig,
        fun hstored => ⟨fun j => (s.freeAt j).testBit 0, exec_fill_complete_stored hfills hfill hsig hstored⟩⟩⟩,
    fun s t n src dst tag off x => ⟨exec_send_arrives, exec_send_refused, exec_send_acknowledged, fun last done => exec_put_arrives,
      fun last done => exec_get_reply, fun rem loc len done h hheld hclean => ⟨_, exec_get_request h hheld hclean, ?_⟩⟩⟩
  rw [mesh_foldl_inject (getReplyOf_inject src dst loc len _ done)]
  congr 1
  exact List.map_congr_left fun i hi => getReplyOf_clean (List.mem_range.mp hi) hclean

end Sys2Proof.Machine

/-!
Core-mode runs end, and what a controller or a queue waits for arrives (04_core_mode R130, R144, R145; 05_controller R192, R196, R210, R219;
08_time R318), and O34.
-/
namespace Sys2Proof.Machine

section
variable {p : ArrayId} {s : State}

/-! The end of a run (R130, R145). -/

/-- A run that has drained: what its end records, step by step. -/
theorem exec_run_ends (hruns : (s.arr p.val).runs = true) (hrun : (s.arr p.val).run.running = true) (hfrozen : (s.arr p.val).run.frozen = false)
    (hdrained : s.runDrained ((s.logOf p.val).getD 0) = true) :
    let a := s.arr p.val
    let n := (s.logOf p.val).getD 0
    let u := if s.flag (rChkCtxCtl a.run.ctx) 4 then s.setReg64 (rAryCmDigest p.val) (s.runDigest n a.run.ctx) else s
    let v := { u with cores := u.cores.map (fun (c : Nat × CoreState) => if c.1 / 65536 = n then (c.1, { c.2 with rx := [], heldNote := [] }) else c) }
    let w := (v.postCoreFault p.val).modArr p.val (fun a => { a with run := { a.run with running := false, report := none } })
    let x := (w.setFlag (rAryCmStatus p.val) 31 false).setFld (rAryCmStatus p.val) 29 28
      (if a.run.faulted then 2 else if a.run.stopped then 3 else 1)
    let y := if (s.coresOf n).any (fun c => !c.2.rx.isEmpty || !c.2.heldNote.isEmpty) then x.setFlag (rAryCmStatus p.val) 27 true else x
    exec (.coreRunEnd p) s = .next (((y.bump (rAryCmRuns p.val) 1).settleFault p.val).advanceQ p.val) := by
  have hends : ¬ (!(s.arr p.val).run.running || (s.arr p.val).run.frozen || !(s.arr p.val).runs
      || !s.runDrained ((s.logOf p.val).getD 0)) = true := by
    rw [hruns, hrun, hfrozen, hdrained]; decide
  rw [exec_coreRunEnd, execCoreRunEnd]
  exact congrArg Host.Outcome.next (if_neg hends)

/-- A run that has not drained when the grace time is over. -/
theorem exec_run_freezes {q : Nat} (hpart : s.partAt p.val = some q) (hrun : (s.arr p.val).run.running = true)
    (hfrozen : (s.arr p.val).run.frozen = false) (hsaving : (s.part q).saving.contains p.val = true)
    (hdrained : s.runDrained ((s.logOf p.val).getD 0) = false) :
    let n := (s.logOf p.val).getD 0
    let u := { s with cores := s.cores.map (fun (c : Nat × CoreState) => if c.1 / 65536 = n ∧ c.2.status = 1 then
      (c.1, { c.2 with status := 4, block := .no }) else c) }
    exec (.coreRunFreeze p) s = .next (((u.setPart q { s.part q with full := true }).modArr p.val (fun a => { a with
      run := { a.run with frozen := true } })).setFlag (rAryCmStatus p.val) 30 true) := by
  simp only [exec_coreRunFreeze, execCoreRunFreeze, hpart, hrun, hfrozen, hsaving, hdrained, Bool.not_true, Bool.or_self, Bool.false_eq_true, if_false]
  rfl

/-! Data and lines that a controller waits for (R192, R196, R268). -/

section
variable {va size dest : Nat} {desc : Bool}

/-- A load whose data a controller waits for is performed again. -/
theorem exec_load_again (hruns : (s.arr p.val).runs = true) (hblocked : (s.arr p.val).ctrl.blocked = .loadData va size dest desc)
    (hstate : (s.arr p.val).ctrl.state = 1) :
    exec (.loadDataReturn p) s = .next (s.ctrlLoad p.val (s.pcWord p.val) va size dest desc true) := by
  simp only [exec_loadDataReturn, execLoadDataReturn, hblocked, hstate, hruns, and_self, if_true]

theorem State.ctrlLoad_ok {u : State} {p : Nat} {w : Word} {again : Bool} {bs : List Byte} (halign : va % size = 0)
    (hread : s.ctrlRead p va size = .ok bs u) :
    s.ctrlLoad p w va size dest desc again = (u.modCtrl p (fun c => { c.loaded desc dest bs with blocked := .no })).ctrlNext p 4 := by
  rw [State.ctrlLoad, if_neg (not_not.mpr halign), hread]

/-- A change of a controller is what it makes of the controller as it stands. -/
theorem State.modCtrl_congr {f g : Ctrl → Ctrl} {p : Nat} (h : f (s.arr p).ctrl = g (s.arr p).ctrl) : s.modCtrl p f = s.modCtrl p g := by
  simp only [State.modCtrl, State.modArr, h]

/-- R268: data from a window are there once no access of the controller is in progress. -/
theorem State.ctrlLoad_window {p pa entry off : Nat} {w : Word} (halign : va % size = 0) (hread : s.ctrlRead p va size = .wait)
    (hpa : s.access (s.ctrlAcc p (s.arr p).ctrl.ctx .read) va = .ok pa) (hplace : s.place pa = .aperture entry off)
    (hgood : s.badIn ((s.arr p).ctrl.ctx * 2 ^ 48 + pa) size = false) :
    s.ctrlLoad p w va size dest desc true = if s.windowsOf p 0 = []
      then (s.modCtrl p (fun c => { c.loaded desc dest (s.rdPhys (s.arr p).ctrl.ctx pa size) with blocked := .no })).ctrlNext p 4 else s := by
  simp only [State.ctrlLoad, if_neg (not_not.mpr halign), hread, hpa, hplace, hgood, Bool.false_eq_true, if_false, if_true]
  exact congrArg (fun u : State => if s.windowsOf p 0 = [] then u.ctrlNext p 4 else s) (State.modCtrl_congr rfl)

end

theorem exec_record_arrives {va : Nat} (hruns : (s.arr p.val).runs = true) (hblocked : (s.arr p.val).ctrl.blocked = .record va)
    (hstate : (s.arr p.val).ctrl.state = 1) : exec (.loadDataReturn p) s = .next (if (s.windowsOf p.val 0).all (fun x => x.write)
      then (s.modCtrl p.val (fun c => { c with blocked := .no, recGot := some va })).advanceQ p.val else s) := by
  simp only [exec_loadDataReturn, execLoadDataReturn, hblocked, hstate, hruns, true_and]

theorem exec_line_filled {bs : List Byte} {u : State} (hissues : s.ctrlIssues p.val = true)
    (hline : s.fetchLine p.val ((s.arr p.val).ctrl.pc.toNat / 64) = .ok bs u) : exec (.fetchLineFill p) s = .next u := by
  simp only [exec_fetchLineFill, execFetchLineFill, hissues, hline, Bool.not_true, Bool.false_eq_true, if_false]

/-! Times that are reached (R219, R318). -/

theorem qtzReached_iff (now t : DWord) : qtzReached now t = true ↔ (now - t).toNat < 2 ^ 63 := decide_eq_true_iff

section
variable {t x : DWord}

theorem exec_wait_until_reached (hblocked : ((s.clock t).arr p.val).ctrl.blocked = .untilTime x) (hstate : ((s.clock t).arr p.val).ctrl.state = 1)
    (hruns : ((s.clock t).arr p.val).runs = true) (hreached : ((s.clock t).localTime p.val - x).toNat < 2 ^ 63) :
    exec (.waitUntilRelease p t) s = .next (((s.clock t).modCtrl p.val (fun c => { c with dcache := [], blocked := .no })).ctrlNext p.val
      ((s.clock t).instrLen p.val)) := by
  simp only [exec_waitUntilRelease, execWaitUntilRelease, hblocked, hstate, hruns, (qtzReached_iff _ _).mpr hreached, and_self, if_true]
  rfl

/-- R318: when a member of a gang launches. -/
def launchInstant (x : DWord) (g : GangSet) (rank : Nat) : DWord := if g.log2 = 0 then x else launchPoint x rank g.stagger

section
variable {q : Fin 3} {e : QEntry} {g : GangSet} {rank : Nat} (hhead : ((s.clock t).arr p.val).head q.val = some e) (hlaunch : e.launch = some x)
  (hgang : (s.clock t).launchGang p.val e = (g, rank)) (hhalted : ((s.clock t).arr p.val).halted = false)
  (hgated : ((s.clock t).arr p.val).gated = false)
include hhead hlaunch hgang hhalted hgated

/-- What the launch time of the head of a queue does, by whether it is reached. -/
theorem exec_launch_time : exec (.launchTimeReached p q t) s = .next (
    if !qtzReached ((s.clock t).localTime p.val) (launchInstant x g rank) then s.clock t
    else if ((s.clock t).arr p.val).brake then (s.clock t).modHead p.val q.val (fun e => { e with late := (3 :: e.late).eraseDups })
    else if !((s.clock t).arr p.val).qtzLocked then (s.clock t).modHead p.val q.val (fun e => { e with late := (4 :: e.late).eraseDups })
    else if g.log2 ≠ 0 ∧ !(s.clock t).gangAgrees p.val g then (s.clock t).gangFault p.val q.val g
    else (s.clock t).modHead p.val q.val (fun e => { e with launch := none, due := some (launchInstant x g rank, rank) })) := by
  simp only [exec_launchTimeReached, execLaunchTimeReached, hhead, hlaunch, hgang, hhalted, hgated, Bool.false_eq_true, or_false]
  rfl

theorem exec_launch_early (h : 2 ^ 63 ≤ ((s.clock t).localTime p.val - launchInstant x g rank).toNat) :
    exec (.launchTimeReached p q t) s = .next (s.clock t) := by
  have hnot : qtzReached ((s.clock t).localTime p.val) (launchInstant x g rank) = false := decide_eq_false (Nat.not_lt.mpr h)
  simp only [exec_launch_time hhead hlaunch hgang hhalted hgated, hnot, Bool.not_false, if_true]

variable (hreached : ((s.clock t).localTime p.val - launchInstant x g rank).toNat < 2 ^ 63)
include hreached

theorem exec_launch_braked (hbrake : ((s.clock t).arr p.val).brake = true) : exec (.launchTimeReached p q t) s =
    .next ((s.clock t).modHead p.val q.val (fun e => { e with late := (3 :: e.late).eraseDups })) := by
  simp only [exec_launch_time hhead hlaunch hgang hhalted hgated, (qtzReached_iff _ _).mpr hreached, hbrake, Bool.not_true, Bool.false_eq_true,
    if_false, if_true]

variable (hbrake : ((s.clock t).arr p.val).brake = false)
include hbrake

theorem exec_launch_unlocked (hlocked : ((s.clock t).arr p.val).qtzLocked = false) : exec (.launchTimeReached p q t) s =
    .next ((s.clock t).modHead p.val q.val (fun e => { e with late := (4 :: e.late).eraseDups })) := by
  simp only [exec_launch_time hhead hlaunch hgang hhalted hgated, (qtzReached_iff _ _).mpr hreached, hbrake, hlocked, Bool.not_true, Bool.not_false,
    Bool.false_eq_true, if_false, if_true]

variable (hlocked : ((s.clock t).arr p.val).qtzLocked = true)
include hlocked

theorem exec_launch_taken (hagree : g.log2 = 0 ∨ (s.clock t).gangAgrees p.val g = true) : exec (.launchTimeReached p q t) s =
    .next ((s.clock t).modHead p.val q.val (fun e => { e with launch := none, due := some (launchInstant x g rank, rank) })) := by
  have hok : ¬ (g.log2 ≠ 0 ∧ (!(s.clock t).gangAgrees p.val g) = true) := by
    rintro ⟨hlog, hnot⟩
    obtain hlog' | hagree := hagree
    · exact hlog hlog'
    · rw [hagree] at hnot
      exact absurd hnot (by decide)
  simp only [exec_launch_time hhead hlaunch hgang hhalted hgated, (qtzReached_iff _ _).mpr hreached, hbrake, hlocked, if_neg hok, Bool.not_true,
    Bool.false_eq_true, if_false]

theorem exec_launch_gang_faults (hlog : g.log2 ≠ 0) (hagree : (s.clock t).gangAgrees p.val g = false) : exec (.launchTimeReached p q t) s =
    .next ((s.clock t).gangFault p.val q.val g) := by
  simp only [exec_launch_time hhead hlaunch hgang hhalted hgated, (qtzReached_iff _ _).mpr hreached, hbrake, hlocked, hagree, hlog, ne_eq,
    not_false_eq_true, Bool.not_true, Bool.not_false, Bool.false_eq_true, and_self, if_false, if_true]

end

end

end

/-- Settles O34: the end and the freeze of a run, then one lemma for each thing waited for. -/
theorem waitingUnitEvents : Obligations.WaitingUnitEvents := by
  intro p s
  refine ⟨exec_run_ends, fun q => exec_run_freezes, fun va size dest desc hruns hblocked hstate halign => ⟨fun bs u hread => ?_,
    fun pa entry off hread hpa hplace hgood => ?_⟩, fun va => exec_record_arrives, fun bs u => exec_line_filled,
    fun t x => exec_wait_until_reached, ?_⟩
  · rw [exec_load_again hruns hblocked hstate, State.ctrlLoad_ok halign hread]
  · rw [exec_load_again hruns hblocked hstate, State.ctrlLoad_window halign hread hpa hplace hgood]
  · intro t x q e u b g rank t1 hhead hlaunch hhalted hgated
    have hgang : (s.clock t).launchGang p.val e = (g, rank) := by
      simp only [State.launchGang, State.launchGangOf, g, rank]
      cases e.op <;> rfl
    exact ⟨exec_launch_early hhead hlaunch hgang hhalted hgated, fun hreached => ⟨exec_launch_braked hhead hlaunch hgang hhalted hgated hreached,
      exec_launch_unlocked hhead hlaunch hgang hhalted hgated hreached, exec_launch_taken hhead hlaunch hgang hhalted hgated hreached,
      exec_launch_gang_faults hhead hlaunch hgang hhalted hgated hreached⟩⟩

end Sys2Proof.Machine

/-!
Chains and DMA transfers (03_array_mode R104; 05_vector_engine R161, R164, R167, R168, R181 to R185; 06_control_isa R214, R215): what a start
refuses, what it waits for and what a completion leaves, and O33.
-/
namespace Sys2Proof.Machine

/-! A chain leaves its queue (R160, R164, R181). -/

/-- R164: the tile on the array that a chain of a drain mode attaches to. -/
def ArrayState.chainTile (a : ArrayState) (e : QEntry) (op : ChainOp) : Option Tile :=
  if op.fromDrain then a.tiles.find? (fun t => t.state != 0 && t.state != 5 && a.attachesTo e t) else none

theorem ArrayState.chainTile_of_not_fromDrain {a : ArrayState} {e : QEntry} {op : ChainOp} (h : op.fromDrain = false) :
    a.chainTile e op = none := if_neg (Bool.eq_false_iff.mp h)

/-- R181: a chain that has started, with the tile it is attached to. -/
def QEntry.chainRun (e : QEntry) (ctx : Nat) (tile : Option Tile) : ChainRun :=
  { entry := e, ctx := ctx, attached := tile.map (fun t => t.seq), staged := [], coord := tile.bind Tile.bases }

section
variable {p : ArrayId} {s : State} {e : QEntry} {es : List QEntry} {op : ChainOp}

/-- R181: a chain at the head of the queue begins when no other chain runs or runs again. -/
theorem execChainStart_head (hruns : (s.arr p.val).runs = true) (hstalled : ∀ n, s.unitStalled p.val n = false) (hvq : (s.arr p.val).vq = e :: es)
    (hop : e.op = .chain op) (hrunning : (s.arr p.val).vec.running = none) (hreruns : (s.arr p.val).vec.reruns = [])
    (hstopping : s.stopping p.val = false) : execChainStart p s = .next (s.chainBegin p.val e op) := by
  simp only [execChainStart, hruns, hstalled, hvq, hop, hrunning, hreruns, hstopping, Option.isSome_none, List.isEmpty_nil, Bool.not_true,
    Bool.or_self, Bool.false_eq_true, if_false]

end

section
variable {p : Nat} {s : State} {e : QEntry} {op : ChainOp} {j : Nat}

theorem State.chainBegin_noRecord (h : op.record = []) :
    s.chainBegin p e op = s.chainRefuse p e (s.arr p).ctrl.ctx 7 0xFF op.recVa := if_pos h

variable (hrecord : op.record ≠ [])
include hrecord

theorem State.chainBegin_illegal (hj : chainIllegal op.record = some j) :
    s.chainBegin p e op = s.chainRefuse p e (s.arr p).ctrl.ctx 1 j 0 := by
  simp only [State.chainBegin, if_neg hrecord, hj]

variable (hlegal : chainIllegal op.record = none)
include hlegal

theorem State.chainBegin_formatFault (hj : op.formatFault = some j) :
    s.chainBegin p e op = s.chainRefuse p e (s.arr p).ctrl.ctx 2 j 0 := by
  simp only [State.chainBegin, if_neg hrecord, hlegal, hj]

variable (hformat : op.formatFault = none)
include hformat

theorem State.chainBegin_shapeFault (hj : op.shapeFault = some j) :
    s.chainBegin p e op = s.chainRefuse p e (s.arr p).ctrl.ctx 3 j 0 := by
  simp only [State.chainBegin, if_neg hrecord, hlegal, hformat, hj]

variable (hshape : op.shapeFault = none)
include hshape

/-- R164: a chain of a drain mode waits for its tile. -/
theorem State.chainBegin_waits (hdrain : op.fromDrain = true) (htile : (s.arr p).chainTile e op = none) : s.chainBegin p e op = s := by
  rw [ArrayState.chainTile, if_pos hdrain] at htile
  simp only [State.chainBegin, if_neg hrecord, hlegal, hformat, hshape, htile, hdrain, Option.isNone_none, and_self, if_true]

/-- R164: a tile whose drain is not what the chain takes is refused. -/
theorem State.chainBegin_misfit {t : Tile} (htile : (s.arr p).chainTile e op = some t) (hfits : drainFits op t = false) :
    s.chainBegin p e op = s.chainRefuse p e (s.arr p).ctrl.ctx 6 0xFF 0 := by
  rw [ArrayState.chainTile] at htile
  simp only [State.chainBegin, if_neg hrecord, hlegal, hformat, hshape, htile, hfits, Option.isNone_some, Bool.false_eq_true, and_false,
    Bool.not_false, if_false, if_true]

/-- R104, R181: a chain that attaches to what it takes, and whose data can be read and written, starts. -/
theorem State.chainBegin_starts
    (hattach : op.fromDrain = true → ∃ t, (s.arr p).chainTile e op = some t ∧ drainFits op t = true)
    (hread : s.firstStall (s.vecAcc p (s.arr p).ctrl.ctx .read) (s.chainReads (s.vecAcc p (s.arr p).ctrl.ctx .read) op) = none)
    (hwrite : s.firstStall (s.vecAcc p (s.arr p).ctrl.ctx .write) (s.chainWrites (s.vecAcc p (s.arr p).ctrl.ctx .read) op) = none)
    (hfree : s.chainBlocked p (s.arr p).ctrl.ctx op = false) :
    s.chainBegin p e op = (s.modArr p (fun a => { a with vq := a.vq.drop 1 })).modArr p (fun a => { a with vec := { a.vec with
      running := some (e.chainRun (s.arr p).ctrl.ctx ((s.arr p).chainTile e op)), frozen := false, races := [], lastSeq := e.seq } }) := by
  cases hdrain : op.fromDrain with
  | false =>
    rw [ArrayState.chainTile_of_not_fromDrain hdrain]
    simp only [State.chainBegin, if_neg hrecord, hlegal, hformat, hshape, hdrain, hread, hwrite, hfree, Bool.false_eq_true, false_and,
      if_false]
    rfl
  | true =>
    obtain ⟨t, htile, hfits⟩ := hattach hdrain
    rw [htile]
    rw [ArrayState.chainTile] at htile
    simp only [State.chainBegin, if_neg hrecord, hlegal, hformat, hshape, htile, hfits, hread, hwrite, hfree, Option.isNone_some,
      Bool.false_eq_true, and_false, Bool.not_true, if_false]
    rfl

end

/-! A chain completes (R183, R184). -/

section
variable {p : ArrayId} {s : State} {r : ChainRun} {op : ChainOp} {upset : List (Nat × Nat)} (hruns : (s.arr p.val).runs = true)
  (hstalled : ∀ n, s.unitStalled p.val n = false) (hrunning : (s.arr p.val).vec.running = some r) (hop : r.entry.op = .chain op)
include hruns hstalled hrunning hop

theorem execChainComplete_ends (hfrozen : (s.arr p.val).vec.frozen = false) (hsent : r.sent = false)
    (hattached : (s.arr p.val).attachedReady r = true) (hfeed : (s.arr p.val).feedReady r op = true)
    (hread : s.firstStall (s.vecAcc p.val r.ctx .read) (s.chainReads (s.vecAcc p.val r.ctx .read) op) = none)
    (hwrite : s.firstStall (s.vecAcc p.val r.ctx .write) (s.chainWrites (s.vecAcc p.val r.ctx .read) op) = none) :
    execChainComplete ⟨p, upset⟩ s = .next ((s.chainEnd p.val r op upset).advanceQ p.val) := by
  simp only [execChainComplete, hruns, hstalled, hrunning, hop, hfrozen, hsent, hattached, hfeed, hread, hwrite, Bool.not_true, Bool.or_self,
    Bool.false_eq_true, if_false]

/-- R183: a chain all of whose writes have left finishes once no window access of it is in flight. -/
theorem execChainComplete_sent (hfrozen : (s.arr p.val).vec.frozen = false) (hsent : r.sent = true) :
    execChainComplete ⟨p, upset⟩ s =
      .next (if s.windowsOf p.val r.entry.seq = [] then (s.chainFinish p.val r op).advanceQ p.val else s) := by
  simp only [execChainComplete, hruns, hstalled, hrunning, hop, hfrozen, hsent, List.isEmpty_iff, Bool.not_true, Bool.or_self,
    Bool.false_eq_true, if_false, if_true]

/-- R184: a stopped chain ends with status stopped if its context has faulted. -/
theorem execChainComplete_frozen (hfrozen : (s.arr p.val).vec.frozen = true) :
    execChainComplete ⟨p, upset⟩ s = .next (if s.ctxState r.ctx = 5 then s.chainOver p.val r op 4 0 else s) := by
  simp only [execChainComplete, hruns, hstalled, hrunning, hop, hfrozen, Bool.not_true, Bool.or_self, Bool.false_eq_true, if_false, if_true]

end

/-! A chain runs again (R168, R184, R185, R355). -/

/-- The chain that has run again, with what this execution gave; it agrees with a second execution of the same hash (R355). -/
def ChainRun.ranAgain (r : ChainRun) (upset : List (Nat × Nat)) (o : ChainAcc) : ChainRun :=
  { r with upset := upset, prog := o.prog, hash := o.hash, sent := true, ended := true
           checked := match r.second with | some (_, h) => h == o.hash | none => false }

/-- The state in which a chain runs again: what it reads has been checked, and it has left the list of those that wait. -/
def State.rerunTaken (s : State) (p : Nat) (r : ChainRun) (rs : List ChainRun) (op : ChainOp) : State :=
  (s.readRanges (some r.ctx) (s.physRanges (s.vecAcc p r.ctx .read) (s.chainReads (s.vecAcc p r.ctx .read) op))).modArr p
    (fun a => { a with vec := { a.vec with reruns := rs } })

/-- The state once the second run of a chain is over: only a run whose completion was not final completes it (R184). -/
def State.rerunOver (u : State) (p : Nat) (r : ChainRun) (op : ChainOp) (upset : List (Nat × Nat)) (o : ChainAcc) : State :=
  let v := u.chainPerform p (r.ranAgain upset o) op o.writes
  if r.ended then v.settleFault p else v.chainFinish p (r.ranAgain upset o) op

/-- R168, R355: the hash of a chain that ran again settles the tile that it is attached to on the array a. -/
def State.rerunCompared (w : State) (p : Nat) (a : ArrayState) (r : ChainRun) : State :=
  match (List.range 3).find? (fun i => r.attached == some (a.tile i).seq && (a.tile i).state != 0) with
  | some i => w.chainDisagree p i
  | none => w

section
variable {p : ArrayId} {s u : State} {r : ChainRun} {rs : List ChainRun} {op : ChainOp} {upset : List (Nat × Nat)} {o : ChainAcc}

/-- A chain whose tile and inputs are there runs again: it poisons the pass that it feeds, or it is performed. -/
theorem execChainRerun_ready (hruns : (s.arr p.val).runs = true) (hreruns : (s.arr p.val).vec.reruns = r :: rs) (hop : r.entry.op = .chain op)
    (hrunning : (s.arr p.val).vec.running = none) (hfrozen : (s.arr p.val).vec.frozen = false) (hstopping : s.stopping p.val = false)
    (hattached : (s.arr p.val).attachedReady r = true) (hdeps : (s.arr p.val).depsDone { Tile.free with deps := r.after } = true)
    (hu : u = s.rerunTaken p.val r rs op) (ho : o = u.chainAcc p.val { r with upset := upset } op op.rowCount) :
    execChainRerun ⟨p, upset⟩ s = .next (
      if op.dst = 1 ∧ o.prog.firstBad.isSome = true then u.chainFlint p.val { r with upset := upset }
        ((s.firstBad (s.physRanges (s.vecAcc p.val r.ctx .read) (s.chainReads (s.vecAcc p.val r.ctx .read) op))).getD 0)
      else (u.rerunOver p.val r op upset o).rerunCompared p.val (s.arr p.val) r) := by
  subst hu ho
  simp only [execChainRerun, hruns, hreruns, hop, hrunning, hfrozen, hstopping, hattached, hdeps, Option.isSome_none, Bool.not_true,
    Bool.or_self, Bool.false_eq_true, if_false]
  rfl

end

/-! A transfer starts (R104, R214, R215). -/

/-- R214: the reads of a transfer through windows are sent. -/
def State.dmaSendReads (s : State) (p : Nat) (e : QEntry) (ctx : Nat) (ph : List (Nat × Nat)) : State :=
  ph.foldl (fun u r => match u.place r.1 with
    | .aperture .. => u.sendWindows p e.seq ctx 0 r.1 false [] false r.2
    | _ => u) s

section
variable {p : ArrayId} {s : State} {e : QEntry} {es : List QEntry} {o : DmaOp}

/-- R214: a transfer at the head of the queue begins while fewer than 8 are in progress. -/
theorem execDmaStart_head (hruns : (s.arr p.val).runs = true) (hstalled : ∀ n, s.unitStalled p.val n = false) (hdq : (s.arr p.val).dq = e :: es)
    (hop : e.op = .dma o) (hroom : (s.arr p.val).dmas.length < 8) (hlaunch : e.launch = none) (hstopping : s.stopping p.val = false) :
    execDmaStart p s = .next (s.dmaBegin p.val e o) := by
  simp only [execDmaStart, hruns, hstalled, hdq, hop, decide_eq_false (Nat.not_le.mpr hroom), hlaunch, hstopping, Option.isSome_none,
    Bool.not_true, Bool.or_self, Bool.false_eq_true, if_false]

end

section
variable {p : Nat} {s : State} {e : QEntry} {o : DmaOp}

theorem State.dmaBegin_fault {n : Nat} (hn : o.startFault = some n) :
    s.dmaBegin p e o = (s.modArr p (fun a => { a with dq := a.dq.drop 1 })).entryFault p e 0x89 n (bitsOf e.w0.toNat 24 21) 0 := by
  simp only [State.dmaBegin, hn]

variable (hsound : o.startFault = none) (hread : s.firstFault (s.unitAcc p (s.arr p).ctrl.ctx .read) o.reads = none)
  (hwrite : s.firstFault (s.unitAcc p (s.arr p).ctrl.ctx .write) (descOf o.dD).dmaRanges = none)
include hsound hread hwrite

/-- R104: a transfer of uncommitted outputs waits. -/
theorem State.dmaBegin_waits (hwaits : s.dmaWaits p (s.arr p).ctrl.ctx o = true) : s.dmaBegin p e o = s := by
  simp only [State.dmaBegin, hsound, hread, hwrite, hwaits, if_true]

theorem State.dmaBegin_starts (hfree : s.dmaWaits p (s.arr p).ctrl.ctx o = false) :
    s.dmaBegin p e o = (((s.modArr p (fun a => { a with dq := a.dq.drop 1 })).lateCheck p e).modArr p
      (fun a => { a with dmas := a.dmas ++ [e] })).dmaSendReads p e (s.arr p).ctrl.ctx
        (s.physRanges (s.unitAcc p (s.arr p).ctrl.ctx .read) o.reads) := by
  simp only [State.dmaBegin, hsound, hread, hwrite, hfree, Bool.false_eq_true, if_false]
  rfl

end

/-! A transfer completes (R214). -/

theorem ArrayState.runs_iff {a : ArrayState} : a.runs = true ↔ a.halted = false ∧ a.gated = false ∧ a.brake = false := by
  simp only [ArrayState.runs, Bool.and_eq_true, Bool.not_eq_true', and_assoc]

section
variable {p : ArrayId} {s : State} {e : QEntry} {o : DmaOp} {n : Nat} (hruns : (s.arr p.val).runs = true)
  (hstalled : ∀ n, s.unitStalled p.val n = false) (he : (s.arr p.val).dmas[n]? = some e) (hop : e.op = .dma o)
  (hwindows : s.windowsOf p.val e.seq = [])
include hruns hstalled he hop hwindows

/-- R214: a transfer whose writes have all been acknowledged ends. -/
theorem execDmaComplete_sent (hsent : (s.arr p.val).dmaSent.contains e.seq = true) :
    execDmaComplete p n s = .next ((s.dmaEnd p.val e o).advanceQ p.val) := by
  obtain ⟨-, hgated, hbrake⟩ := ArrayState.runs_iff.mp hruns
  simp only [execDmaComplete, hgated, hbrake, hstalled, he, hop, hwindows, hsent,
    List.isEmpty_nil, Bool.not_true, Bool.or_self, Bool.false_eq_true, if_false, if_true]

/-- R214: a transfer whose reads have arrived is performed, and ends at once if no write of it went through a window. -/
theorem execDmaComplete_performs (hsent : (s.arr p.val).dmaSent.contains e.seq = false)
    (hread : s.firstFault (s.unitAcc p.val (s.arr p.val).ctrl.ctx .read) o.reads = none)
    (hwrite : s.firstFault (s.unitAcc p.val (s.arr p.val).ctrl.ctx .write) (descOf o.dD).dmaRanges = none) :
    execDmaComplete p n s = .next (if ((s.dmaPerform p.val e o).windowsOf p.val e.seq).isEmpty
      then ((s.dmaPerform p.val e o).dmaEnd p.val e o).advanceQ p.val else s.dmaPerform p.val e o) := by
  obtain ⟨-, hgated, hbrake⟩ := ArrayState.runs_iff.mp hruns
  simp only [execDmaComplete, hgated, hbrake, hstalled, he, hop, hwindows, hsent,
    hread, hwrite, List.isEmpty_nil, Bool.not_true, Bool.or_self, Bool.false_eq_true, if_false]

end

/-- Settles O33: each start and completion of a chain or a transfer is an equation of its own for each outcome. -/
theorem engineEvents : Obligations.EngineEvents := by
  unfold Obligations.EngineEvents
  intro p s e es hruns hstalled a ctx acc accW vacc
  refine ⟨?_, ?_, ?_, ?_, ?_⟩
  · intro op hvq hop hrunning hreruns hstopping refuses tile
    have hbegin {t : State} (ht : s.chainBegin p.val e op = t) : exec (.chainStart p) s = .next t := by
      rw [exec_chainStart, execChainStart_head hruns hstalled hvq hop hrunning hreruns hstopping, ht]
    refine ⟨fun hempty => hbegin (State.chainBegin_noRecord hempty),
      fun j hrecord hj => hbegin (State.chainBegin_illegal hrecord hj), fun hrecord hlegal =>
        ⟨fun j hj => hbegin (State.chainBegin_formatFault hrecord hlegal hj),
          fun j hformat hj => hbegin (State.chainBegin_shapeFault hrecord hlegal hformat hj), fun hformat hshape => ?_⟩⟩
    exact ⟨fun hdrain htile => hbegin (State.chainBegin_waits hrecord hlegal hformat hshape hdrain htile),
      fun t htile hfits => hbegin (State.chainBegin_misfit hrecord hlegal hformat hshape htile hfits),
      fun hattach hread hwrite hfree => hbegin (State.chainBegin_starts hrecord hlegal hformat hshape hattach hread hwrite hfree)⟩
  · intro r op upset hrunning hop racc
    exact ⟨execChainComplete_ends hruns hstalled hrunning hop, execChainComplete_sent hruns hstalled hrunning hop,
      execChainComplete_frozen hruns hstalled hrunning hop⟩
  · intro r rs op upset hreruns hop hrunning hfrozen hstopping hattached hdeps racc ph u o x
    rw [exec_chainRerun, execChainRerun_ready hruns hreruns hop hrunning hfrozen hstopping hattached hdeps rfl rfl]
    exact ⟨fun hbad => congrArg Host.Outcome.next (if_pos hbad), fun hgood => congrArg Host.Outcome.next (if_neg hgood)⟩
  · intro o hdq hop hroom hlaunch hstopping pop
    rw [exec_dmaStart, execDmaStart_head hruns hstalled hdq hop hroom hlaunch hstopping]
    exact ⟨fun n hn => congrArg Host.Outcome.next (State.dmaBegin_fault hn), fun hsound hread hwrite =>
      ⟨fun hwaits => congrArg Host.Outcome.next (State.dmaBegin_waits hsound hread hwrite hwaits),
        fun hfree => congrArg Host.Outcome.next (State.dmaBegin_starts hsound hread hwrite hfree)⟩⟩
  · intro n o he hop hwindows
    exact ⟨execDmaComplete_sent hruns hstalled he hop hwindows, execDmaComplete_performs hruns hstalled he hop hwindows⟩

end Sys2Proof.Machine

/-!
What a controller that stands before its word does (06_control_isa R191 to R195): the fields of the word, the bits that name its instruction, its
zero fields, and the instruction's effect.
-/
namespace Sys2Proof.Machine

/-! Masks by their fields. -/

/-- The bits of a number under a mask of one field. -/
theorem and_field (x n lo : Nat) : x &&& (2 ^ n - 1) * 2 ^ lo = x / 2 ^ lo % 2 ^ n * 2 ^ lo := by
  rw [and_cut lo, Nat.mul_div_cancel _ (Nat.two_pow_pos lo), Nat.mul_mod_left, Nat.and_zero, Nat.and_two_pow_sub_one_eq_mod, Nat.add_zero]

/-- A mask of fields, each with its lowest bit and its number of bits. -/
def maskOf (l : List (Nat × Nat)) : Nat := l.foldr (fun f m => (2 ^ f.2 - 1) * 2 ^ f.1 ||| m) 0

/-- A number has no bit of a mask exactly when its fields under the mask are zero. -/
theorem and_maskOf_iff {x : Nat} {l : List (Nat × Nat)} : x &&& maskOf l = 0 ↔ ∀ f ∈ l, x / 2 ^ f.1 % 2 ^ f.2 = 0 := by
  induction l with
  | nil => simp [maskOf]
  | cons f l ih =>
    change x &&& ((2 ^ f.2 - 1) * 2 ^ f.1 ||| maskOf l) = 0 ↔ _
    rw [Nat.and_or_distrib_left, Nat.or_eq_zero_iff, ih, and_field, List.forall_mem_cons, Nat.mul_eq_zero, or_iff_left (Nat.two_pow_pos f.1).ne']

theorem and_maskOf {x : Nat} {l : List (Nat × Nat)} (h : ∀ f ∈ l, x / 2 ^ f.1 % 2 ^ f.2 = 0) : x &&& maskOf l = 0 := and_maskOf_iff.mpr h

/-- The bits that name an instruction of a controller: its major, and one more field. -/
theorem and_opcode {x n lo : Nat} (hx : x < 2 ^ 32) (h : lo + n ≤ 26) :
    x &&& 63 * 2 ^ 26 + (2 ^ n - 1) * 2 ^ lo = x / 2 ^ 26 * 2 ^ 26 + x / 2 ^ lo % 2 ^ n * 2 ^ lo := by
  have hlow : (2 ^ n - 1) * 2 ^ lo < 2 ^ 26 := calc
    (2 ^ n - 1) * 2 ^ lo < 2 ^ n * 2 ^ lo := Nat.mul_lt_mul_of_pos_right (Nat.sub_one_lt (Nat.two_pow_pos n).ne') (Nat.two_pow_pos lo)
    _ = 2 ^ (lo + n) := by rw [← Nat.pow_add, Nat.add_comm]
    _ ≤ 2 ^ 26 := Nat.pow_le_pow_right Nat.two_pos h
  have hmajor : x / 2 ^ 26 &&& 63 = x / 2 ^ 26 := by rw [Nat.and_two_pow_sub_one_eq_mod _ 6]; omega
  have hfield : x % 2 ^ 26 / 2 ^ lo % 2 ^ n = x / 2 ^ lo % 2 ^ n := by
    rw [show 26 = lo + n + (26 - (lo + n)) by omega, Nat.pow_add, Nat.pow_add, Nat.mul_assoc, Nat.mod_mul_right_div_self, Nat.mod_mul_right_mod]
  calc x &&& 63 * 2 ^ 26 + (2 ^ n - 1) * 2 ^ lo
    _ = (x / 2 ^ 26 * 2 ^ 26 + x % 2 ^ 26) &&& (63 * 2 ^ 26 + (2 ^ n - 1) * 2 ^ lo) := by rw [Nat.div_add_mod']
    _ = (x / 2 ^ 26 &&& 63) * 2 ^ 26 + (x % 2 ^ 26 &&& (2 ^ n - 1) * 2 ^ lo) := and_split 26 _ _ _ _ (Nat.mod_lt _ (Nat.two_pow_pos 26)) hlow
    _ = _ := by rw [hmajor, and_field, hfield]

/-- A field that holds the whole of a number. -/
theorem bitsOf_low {x hi : Nat} (h : x < 2 ^ (hi + 1)) : bitsOf x hi 0 = x := by
  rw [bitsOf, Nat.shiftRight_zero, Nat.sub_zero, Nat.mod_eq_of_lt h]

/-- A field of one bit. -/
theorem testBit_of_field {x k : Nat} {b : Bool} (h : x / 2 ^ k % 2 = b.toNat) : x.testBit k = b := by
  rw [Nat.testBit_eq_decide_div_mod_eq, h]; cases b <;> rfl

/-! The base format. -/

/-- The values that the fields of the base format take. -/
abbrev FieldsG (major d a b fn : Nat) : Prop := major < 64 ∧ d < 32 ∧ a < 32 ∧ b < 32 ∧ fn < 2048

section
variable {major d a b fn : Nat} (hf : FieldsG major d a b fn)
include hf

theorem FieldsG.toNat : (wordG major d a b fn).toNat = major * 2 ^ 26 + d * 2 ^ 21 + a * 2 ^ 16 + b * 2 ^ 11 + fn := by
  obtain ⟨hm, hd, ha, hb, hf⟩ := hf
  exact wordG_toNat hm hd ha hb hf

theorem sD_wordG : sD (wordG major d a b fn) = d := by
  obtain ⟨hm, hd, ha, hb, hf⟩ := hf
  exact (wordG_fields hm hd ha hb hf).1

theorem sA_wordG : sA (wordG major d a b fn) = a := by
  obtain ⟨hm, hd, ha, hb, hf⟩ := hf
  exact (wordG_fields hm hd ha hb hf).2.1

theorem sB_wordG : sB (wordG major d a b fn) = b := by
  obtain ⟨hm, hd, ha, hb, hf⟩ := hf
  exact (wordG_fields hm hd ha hb hf).2.2.1

theorem sFn_wordG : sFn (wordG major d a b fn) = fn := by
  obtain ⟨hm, hd, ha, hb, hf⟩ := hf
  exact (wordG_fields hm hd ha hb hf).2.2.2

/-- A field of the base format inside fn. -/
theorem bitsOf_wordG {hi lo : Nat} (h : hi < 11) : bitsOf (wordG major d a b fn).toNat hi lo = bitsOf fn hi lo := by
  refine Nat.eq_of_testBit_eq fun i => ?_
  have hcut : (wordG major d a b fn).toNat = 2 ^ 11 * (major * 2 ^ 15 + d * 2 ^ 10 + a * 2 ^ 5 + b) + fn := by rw [hf.toNat]; omega
  rw [testBit_bitsOf, testBit_bitsOf, hcut]
  by_cases hi' : i < hi + 1 - lo
  · rw [Nat.testBit_two_pow_mul_add _ hf.2.2.2.2, if_pos (by omega)]
  · simp [hi']

/-- The bits that name an instruction of the base format by its major. -/
theorem wordG_major : (wordG major d a b fn).toNat &&& 0xFC000000 = major * 2 ^ 26 := by
  have h := and_opcode (n := 0) (lo := 0) (wordG major d a b fn).isLt (by omega)
  rw [hf.toNat] at h ⊢
  exact h.trans (by omega)

/-- The same by its major and fn. -/
theorem wordG_major_fn : (wordG major d a b fn).toNat &&& 0xFC0007FF = major * 2 ^ 26 + fn := by
  have h := and_opcode (n := 11) (lo := 0) (wordG major d a b fn).isLt (by omega)
  rw [hf.toNat] at h ⊢
  exact h.trans (by omega)

end

theorem sImm_wordG {major d a b : Nat} (imm : BitVec 11) (hf : FieldsG major d a b imm.toNat) :
    sImm (wordG major d a b imm.toNat) = (imm.signExtend 64).toNat := by
  rw [sImm, bitsOf_wordG hf (by omega), bitsOf_low imm.isLt, signExt_toNat]

/-- A field below srcA, in the wider forms of the base format. -/
theorem wordG_low {major d x : Nat} : wordG major d 0 0 x = wordG major d (x / 2 ^ 16) (x / 2 ^ 11 % 32) (x % 2 ^ 11) := by
  exact congrArg (BitVec.ofNat 32) (by omega)

/-! Registers of a controller as numbers. -/

@[simp] theorem Ctrl.s_toNat (c : Ctrl) (i : Nat) : (c.s i).toNat = c.sget i := by
  by_cases h : i = 0
  · simp [h, Ctrl.sget]
  · simp [Ctrl.s_of_ne c h, Ctrl.sget, h]

theorem Ctrl.sput_congr (c : Ctrl) (d : Nat) {v : Nat} {x : DWord} (h : BitVec.ofNat 64 v = x) : c.sput d v = c.sput d x.toNat := by
  simp only [Ctrl.sput, ← h, BitVec.ofNat_toNat, BitVec.setWidth_eq]

/-! What a controller that stands before a word does. -/

section
variable {i : Instr} {s t : State} {p : ArrayId} {w w0 w1 : Word} {mask mtch range0 must0 : Nat}

/-- An instruction that a controller standing before its word performs on the state. -/
theorem exec_ctrlGate {k : State → State} (h : s.ctrlAt p w t)
    (hi : exec i s = .next (ctrlGate p w none ctrlKnown mask mtch range0 must0 s k))
    (hm : w.toNat &&& mask = mtch) (h0 : w.toNat &&& must0 = 0) (h1 : w.toNat &&& range0 = 0) : exec i s = .next (k t) := by
  rw [hi, ctrlGate_at h hm h0 h1]

/-- The same for an instruction of two words. -/
theorem exec_ctrlGate2 {k : State → State} (h : s.ctrlAt2 p w0 w1 t)
    (hi : exec i s = .next (ctrlGate p w0 (some w1) ctrlKnown mask mtch range0 must0 s k))
    (hm : w0.toNat &&& mask = mtch) (h0 : w0.toNat &&& must0 = 0) (h1 : w0.toNat &&& range0 = 0) : exec i s = .next (k t) := by
  rw [hi, ctrlGate_at2 h hm h0 h1]

/-- R193: a word that names an instruction and has a bit set that must be 0. -/
theorem ctrlGate_reserved {k : State → State} (h : s.ctrlAt p w t) (hm : w.toNat &&& mask = mtch) (h0 : w.toNat &&& must0 ≠ 0) :
    ctrlGate p w none ctrlKnown mask mtch range0 must0 s k = t.issueFault p.val 0x80 3 w 0#32 0xFF 0 0 := by
  obtain ⟨hissues, hpc, bs, hfetch, hbs⟩ := h
  simp [ctrlGate, hissues, hpc, hfetch, hbs, hm, h0]

/-- The same for an instruction of two words. -/
theorem ctrlGate_reserved2 {k : State → State} (h : s.ctrlAt2 p w0 w1 t) (hm : w0.toNat &&& mask = mtch) (h0 : w0.toNat &&& must0 ≠ 0) :
    ctrlGate p w0 (some w1) ctrlKnown mask mtch range0 must0 s k = t.issueFault p.val 0x80 3 w0 w1 0xFF 0 0 := by
  obtain ⟨u, ⟨hissues, hpc, bs, hfetch, hbs⟩, cs, hfetch1, hcs⟩ := h
  simp [ctrlGate, hissues, hpc, hfetch, hbs, hfetch1, hcs, hm, h0]

/-- A base instruction's change of the controller, then its retirement. -/
theorem State.ctrlSet_eq {f : Ctrl → Ctrl} {c : Ctrl} (h : f (t.ac p) = c) : t.ctrlSet p.val f = t.ctrlDone p c :=
  congrArg (fun u : State => u.ctrlNext p.val 4) (State.modCtrl_congr h)

/-- An instruction that changes only the controller's registers. -/
theorem exec_ctrlInstr {body : Word → Ctrl → Ctrl} {c : Ctrl} (h : s.ctrlAt p w t)
    (hi : exec i s = .next (ctrlInstr p w mask mtch range0 must0 body s))
    (hm : w.toNat &&& mask = mtch) (h0 : w.toNat &&& must0 = 0) (h1 : w.toNat &&& range0 = 0) (hb : body w (t.ac p) = c) :
    exec i s = .next (t.ctrlDone p c) := by
  rw [hi, ctrlInstr_at h hm h0 h1, State.ctrlSet_eq hb]

end

end Sys2Proof.Machine

/-!
The scalar, predicate, comparison and branch instructions of a controller (06_control_isa R195), and O19 to O21.
-/
namespace Sys2Proof.Machine

/-- R195: each instruction of two scalar registers, as the model computes it on numbers. -/
theorem ctrlBinary_exec : ∀ r ∈ ctrlBinary, ∃ f : Nat → Nat → Nat,
    (∀ p w s, exec (r.1 p w) s = .next (ctrlInstr p w 0xFC0007FF (1 * 2 ^ 26 + r.2.1) 0 0 (sBin f) s)) ∧
      ∀ a b : DWord, BitVec.ofNat 64 (f a.toNat b.toNat) = r.2.2 a b := by
  simp only [ctrlBinary, List.forall_mem_cons]
  refine ⟨⟨_, fun _ _ _ => rfl, ofNat_toNat_add⟩, ⟨_, fun _ _ _ => rfl, ofNat_toNat_sub⟩, ⟨_, fun _ _ _ => rfl, ofNat_toNat_and⟩,
    ⟨_, fun _ _ _ => rfl, ofNat_toNat_or⟩, ⟨_, fun _ _ _ => rfl, ofNat_toNat_xor⟩, ⟨_, fun _ _ _ => rfl, ofNat_toNat_andn⟩,
    ⟨_, fun _ _ _ => rfl, fun a b => ofNat_toNat_shl a _⟩, ⟨_, fun _ _ _ => rfl, fun a b => ofNat_toNat_shr a _⟩,
    ⟨_, fun _ _ _ => rfl, fun a b => ofNat_sraW a _⟩, ⟨_, fun _ _ _ => rfl, ofNat_sMin⟩, ⟨_, fun _ _ _ => rfl, ofNat_sMax⟩,
    ⟨_, fun _ _ _ => rfl, ofNat_toNat_min⟩, ⟨_, fun _ _ _ => rfl, ofNat_toNat_max⟩, ⟨_, fun _ _ _ => rfl, ofNat_toNat_mul⟩,
    ⟨_, fun _ _ _ => rfl, fun _ _ => rfl⟩, ⟨_, fun _ _ _ => rfl, fun a b => ?divu⟩, ⟨_, fun _ _ _ => rfl, fun a b => ?remu⟩, nofun⟩
  case divu =>
    by_cases h : b = 0#64
    · subst h; rfl
    · have hb : b.toNat ≠ 0 := fun h0 => h (BitVec.eq_of_toNat_eq h0)
      rw [if_neg h, if_neg hb]
  case remu =>
    by_cases h : b = 0#64
    · subst h; exact ofNat_toNat_self a
    · have hb : b.toNat ≠ 0 := fun h0 => h (BitVec.eq_of_toNat_eq h0)
      rw [if_neg h, if_neg hb]

/-- R195: each instruction of one scalar register. -/
theorem ctrlUnary_exec : ∀ r ∈ ctrlUnary, ∃ f : Nat → Nat,
    (∀ p w s, exec (r.1 p w) s = .next (ctrlInstr p w 0xFC0007FF (1 * 2 ^ 26 + r.2.1) 0 0x0000F800 (sBin (fun a _ => f a)) s)) ∧
      ∀ a : DWord, f a.toNat = r.2.2 a := by
  simp only [ctrlUnary, List.forall_mem_cons]
  exact ⟨⟨_, fun _ _ _ => rfl, clz_toNat⟩, ⟨_, fun _ _ _ => rfl, popCount_toNat⟩, nofun⟩

/-- R195: each instruction of a scalar register and an immediate. -/
theorem ctrlImmediate_exec : ∀ r ∈ ctrlImmediate, ∃ f : Nat → Nat → Nat,
    (∀ p w s, exec (r.1 p w) s = .next (ctrlInstr p w 0xFC000000 (r.2.1 * 2 ^ 26) 0 0x0000F800 (sImmOp f) s)) ∧
      ∀ a b : DWord, BitVec.ofNat 64 (f a.toNat b.toNat) = r.2.2 a b := by
  simp only [ctrlImmediate, List.forall_mem_cons]
  exact ⟨⟨_, fun _ _ _ => rfl, ofNat_toNat_add⟩, ⟨_, fun _ _ _ => rfl, ofNat_toNat_and⟩, ⟨_, fun _ _ _ => rfl, ofNat_toNat_or⟩,
    ⟨_, fun _ _ _ => rfl, ofNat_toNat_xor⟩, nofun⟩

/-- R195: each shift by a constant. -/
theorem ctrlShifts_exec : ∀ r ∈ ctrlShifts, ∃ f : Nat → Nat → Nat,
    (∀ p w s, exec (r.1 p w) s = .next (ctrlInstr p w 0xFC0000C0 (6 * 2 ^ 26 + r.2.1 * 2 ^ 6) 0 0x0000FF00 (sShift f) s)) ∧
      ∀ (a : DWord) (n : Nat), BitVec.ofNat 64 (f a.toNat n) = r.2.2 a n := by
  simp only [ctrlShifts, List.forall_mem_cons]
  exact ⟨⟨_, fun _ _ _ => rfl, ofNat_toNat_shl⟩, ⟨_, fun _ _ _ => rfl, ofNat_toNat_shr⟩, ⟨_, fun _ _ _ => rfl, ofNat_sraW⟩, nofun⟩

/-- R195: each operation of two predicates. -/
theorem ctrlPredicates_exec : ∀ r ∈ ctrlPredicates, ∃ f : Bool → Bool → Bool,
    (∀ p w s, exec (r.1 p w) s = .next (ctrlInstr p w 0xFC000700 (11 * 2 ^ 26 + r.2.1 * 2 ^ 8) 0x0318C000 0x000000FF (sPred f) s)) ∧
      ∀ a b, f a b = r.2.2 a b := by
  simp only [ctrlPredicates, List.forall_mem_cons]
  exact ⟨⟨_, fun _ _ _ => rfl, fun _ _ => rfl⟩, ⟨_, fun _ _ _ => rfl, fun _ _ => rfl⟩, ⟨_, fun _ _ _ => rfl, by decide⟩,
    ⟨_, fun _ _ _ => rfl, fun _ _ => rfl⟩, nofun⟩

theorem ctrlBinary_fn : ∀ r ∈ ctrlBinary, r.2.1 < 2048 := by decide
theorem ctrlUnary_fn : ∀ r ∈ ctrlUnary, r.2.1 < 2048 := by decide
theorem ctrlImmediate_major : ∀ r ∈ ctrlImmediate, r.2.1 < 64 := by decide
theorem ctrlShifts_kind : ∀ r ∈ ctrlShifts, r.2.1 < 4 := by decide
theorem ctrlPredicates_fn : ∀ r ∈ ctrlPredicates, r.2.1 < 8 := by decide

section
variable {p : ArrayId} {s t : State} {d a b : Nat}

theorem exec_ctrlBinary {r : (ArrayId → Word → Instr) × Nat × (DWord → DWord → DWord)} (hr : r ∈ ctrlBinary) (hd : d < 32) (ha : a < 32)
    (hb : b < 32) (h : s.ctrlAt p (wordG 1 d a b r.2.1) t) :
    exec (r.1 p (wordG 1 d a b r.2.1)) s = .next (t.ctrlDone p ((t.ac p).sput d (r.2.2 ((t.ac p).s a) ((t.ac p).s b)).toNat)) := by
  have hfn := ctrlBinary_fn r hr
  have hf : FieldsG 1 d a b r.2.1 := by omega
  obtain ⟨f, hexec, hop⟩ := ctrlBinary_exec r hr
  refine exec_ctrlInstr h (hexec ..) (wordG_major_fn hf) (Nat.and_zero _) (Nat.and_zero _) ?_
  rw [sBin, sD_wordG hf, sA_wordG hf, sB_wordG hf, ← Ctrl.s_toNat, ← Ctrl.s_toNat]
  exact Ctrl.sput_congr _ _ (hop _ _)

theorem exec_ctrlUnary {r : (ArrayId → Word → Instr) × Nat × (DWord → Nat)} (hr : r ∈ ctrlUnary) (hd : d < 32) (ha : a < 32)
    (h : s.ctrlAt p (wordG 1 d a 0 r.2.1) t) :
    exec (r.1 p (wordG 1 d a 0 r.2.1)) s = .next (t.ctrlDone p ((t.ac p).sput d (r.2.2 ((t.ac p).s a)))) := by
  have hfn := ctrlUnary_fn r hr
  have hf : FieldsG 1 d a 0 r.2.1 := by omega
  obtain ⟨f, hexec, hop⟩ := ctrlUnary_exec r hr
  refine exec_ctrlInstr h (hexec ..) (wordG_major_fn hf) (by simp (disch := omega) [wordG_and]) (Nat.and_zero _) ?_
  rw [sBin, sD_wordG hf, sA_wordG hf, ← Ctrl.s_toNat, hop]

end

/-- Settles O19: each table's rows compute their operation and write it to sd. -/
theorem ctrlBinaryResults : Obligations.CtrlBinaryResults := by
  unfold Obligations.CtrlBinaryResults
  exact ⟨fun r hr p s t d a b hd ha hb h => exec_ctrlBinary hr hd ha hb h, fun r hr p s t d a hd ha h => exec_ctrlUnary hr hd ha h⟩

section
variable {p : ArrayId} {s t : State} {d a b : Nat}

theorem exec_ctrlImmediate {r : (ArrayId → Word → Instr) × Nat × (DWord → DWord → DWord)} (hr : r ∈ ctrlImmediate) {imm : BitVec 11}
    (hd : d < 32) (ha : a < 32) (h : s.ctrlAt p (wordG r.2.1 d a 0 imm.toNat) t) :
    exec (r.1 p (wordG r.2.1 d a 0 imm.toNat)) s =
      .next (t.ctrlDone p ((t.ac p).sput d (r.2.2 ((t.ac p).s a) (imm.signExtend 64)).toNat)) := by
  have hmajor := ctrlImmediate_major r hr
  have hf : FieldsG r.2.1 d a 0 imm.toNat := by omega
  obtain ⟨f, hexec, hop⟩ := ctrlImmediate_exec r hr
  refine exec_ctrlInstr h (hexec ..) (wordG_major hf) (by simp (disch := omega) [wordG_and]) (Nat.and_zero _) ?_
  rw [sImmOp, sD_wordG hf, sA_wordG hf, sImm_wordG imm hf, ← Ctrl.s_toNat]
  exact Ctrl.sput_congr _ _ (hop _ _)

theorem exec_ctrlShift {r : (ArrayId → Word → Instr) × Nat × (DWord → Nat → DWord)} (hr : r ∈ ctrlShifts) {n : Nat}
    (hd : d < 32) (ha : a < 32) (hn : n < 64) (h : s.ctrlAt p (wordG 6 d a 0 (64 * r.2.1 + n)) t) :
    exec (r.1 p (wordG 6 d a 0 (64 * r.2.1 + n))) s = .next (t.ctrlDone p ((t.ac p).sput d (r.2.2 ((t.ac p).s a) n).toNat)) := by
  have hkind := ctrlShifts_kind r hr
  have hf : FieldsG 6 d a 0 (64 * r.2.1 + n) := by omega
  obtain ⟨f, hexec, hop⟩ := ctrlShifts_exec r hr
  have hopcode := and_opcode (n := 2) (lo := 6) (wordG 6 d a 0 (64 * r.2.1 + n)).isLt (by omega)
  have hzero : (wordG 6 d a 0 (64 * r.2.1 + n)).toNat &&& maskOf [(8, 8)] = 0 := and_maskOf (by rw [hf.toNat]; simp; omega)
  have hn : bitsOf (64 * r.2.1 + n) 5 0 = n := by rw [bitsOf, Nat.shiftRight_zero]; omega
  refine exec_ctrlInstr h (hexec ..) (hopcode.trans (by rw [hf.toNat]; omega)) hzero (Nat.and_zero _) ?_
  rw [sShift, sD_wordG hf, sA_wordG hf, bitsOf_wordG hf (by omega), hn, ← Ctrl.s_toNat]
  exact Ctrl.sput_congr _ _ (hop _ _)

theorem exec_ctrlLi {imm : BitVec 21} (hd : d < 32) (h : s.ctrlAt p (wordG 7 d 0 0 imm.toNat) t) :
    exec (.gexaSLi p (wordG 7 d 0 0 imm.toNat)) s = .next (t.ctrlDone p ((t.ac p).sput d (imm.signExtend 64).toNat)) := by
  have hlt := imm.isLt
  have himm : bitsOf (wordG 7 d 0 0 imm.toNat).toNat 20 0 = imm.toNat := by
    rw [wordG, BitVec.toNat_ofNat, bitsOf, Nat.shiftRight_zero]; omega
  rw [wordG_low] at h himm ⊢
  have hf : FieldsG 7 d (imm.toNat / 2 ^ 16) (imm.toNat / 2 ^ 11 % 32) (imm.toNat % 2 ^ 11) := by omega
  refine exec_ctrlInstr h (exec_gexaSLi ..) (wordG_major hf) (Nat.and_zero _) (Nat.and_zero _) ?_
  rw [sD_wordG hf, himm, signExt_toNat]

theorem exec_ctrlShlor {x : BitVec 16} (hd : d < 32) (h : s.ctrlAt p (wordG 8 d 0 0 x.toNat) t) :
    exec (.shlor p (wordG 8 d 0 0 x.toNat)) s = .next (t.ctrlDone p ((t.ac p).sput d (((t.ac p).s d).setWidth 48 ++ x).toNat)) := by
  have hlt := x.isLt
  have hx : bitsOf (wordG 8 d 0 0 x.toNat).toNat 15 0 = x.toNat := by
    rw [wordG, BitVec.toNat_ofNat, bitsOf, Nat.shiftRight_zero]; omega
  have hzero : (wordG 8 d 0 0 x.toNat).toNat &&& maskOf [(16, 5)] = 0 :=
    and_maskOf (by rw [wordG, BitVec.toNat_ofNat]; simp; omega)
  rw [wordG_low] at h hx hzero ⊢
  have hf : FieldsG 8 d (x.toNat / 2 ^ 16) (x.toNat / 2 ^ 11 % 32) (x.toNat % 2 ^ 11) := by omega
  refine exec_ctrlInstr h (exec_shlor ..) (wordG_major hf) hzero (Nat.and_zero _) ?_
  rw [sD_wordG hf, hx, ← Ctrl.s_toNat]
  refine Ctrl.sput_congr _ _ (BitVec.eq_of_toNat_eq ?_)
  rw [BitVec.toNat_ofNat, BitVec.toNat_append, BitVec.toNat_setWidth, ← Nat.shiftLeft_add_eq_or_of_lt hlt, ← Nat.shiftLeft_add_eq_or_of_lt hlt,
    Nat.shiftLeft_eq, Nat.shiftLeft_eq]
  omega

theorem exec_ctrlPredicate {r : (ArrayId → Word → Instr) × Nat × (Bool → Bool → Bool)} (hr : r ∈ ctrlPredicates) (hd : d < 8) (ha : a < 8)
    (hb : b < 8) (h : s.ctrlAt p (wordG 11 d a b (256 * r.2.1)) t) :
    exec (r.1 p (wordG 11 d a b (256 * r.2.1))) s = .next (t.ctrlDone p ((t.ac p).pput d (r.2.2 ((t.ac p).pget a) ((t.ac p).pget b)))) := by
  have hfn := ctrlPredicates_fn r hr
  have hf : FieldsG 11 d a b (256 * r.2.1) := by omega
  obtain ⟨f, hexec, hop⟩ := ctrlPredicates_exec r hr
  have hopcode := and_opcode (n := 3) (lo := 8) (wordG 11 d a b (256 * r.2.1)).isLt (by omega)
  have hzero : (wordG 11 d a b (256 * r.2.1)).toNat &&& maskOf [(0, 8)] = 0 := and_maskOf (by rw [hf.toNat]; simp; omega)
  have hrange : (wordG 11 d a b (256 * r.2.1)).toNat &&& maskOf [(24, 2), (19, 2), (14, 2)] = 0 :=
    and_maskOf (by rw [hf.toNat]; simp; omega)
  refine exec_ctrlInstr h (hexec ..) (hopcode.trans (by rw [hf.toNat]; omega)) hzero hrange ?_
  rw [sPred, sD_wordG hf, sA_wordG hf, sB_wordG hf, hop]

theorem exec_pnot_reads (hd : d < 8) (ha : a < 8) (h : s.ctrlAt p (wordG 11 d a 0 0x400) t) :
    exec (.pnot p (wordG 11 d a 0 0x400)) s = .next (t.ctrlDone p ((t.ac p).pput d (!(t.ac p).pget a))) := by
  have hf : FieldsG 11 d a 0 0x400 := by omega
  refine exec_ctrlInstr h (exec_pnot ..) (by simp (disch := omega) [wordG_and]) (by simp (disch := omega) [wordG_and])
    (by simp (disch := omega) [wordG_and, and_24 hd, and_24 ha]) ?_
  rw [sPred, sD_wordG hf, sA_wordG hf]

theorem exec_pnz_reads (hd : d < 8) (ha : a < 32) (h : s.ctrlAt p (wordG 11 d a 0 0x500) t) :
    exec (.pnz p (wordG 11 d a 0 0x500)) s = .next (t.ctrlDone p ((t.ac p).pput d ((t.ac p).s a != 0#64))) := by
  have hf : FieldsG 11 d a 0 0x500 := by omega
  refine exec_ctrlInstr h (exec_pnz ..) (by simp (disch := omega) [wordG_and]) (by simp (disch := omega) [wordG_and])
    (by simp (disch := omega) [wordG_and, and_24 hd]) ?_
  rw [sD_wordG hf, sA_wordG hf, ← toNat_bne, Ctrl.s_toNat]; rfl

theorem exec_ctrlSel {q : Nat} (hd : d < 32) (ha : a < 32) (hb : b < 32) (hq : q < 8) (h : s.ctrlAt p (wordG 12 d a b q) t) :
    exec (.gexaSSel p (wordG 12 d a b q)) s = .next (t.ctrlDone p ((t.ac p).sput d ((t.ac p).sget (if (t.ac p).pget q then a else b)))) := by
  have hf : FieldsG 12 d a b q := by omega
  have hzero : (wordG 12 d a b q).toNat &&& maskOf [(3, 8)] = 0 := and_maskOf (by rw [hf.toNat]; simp; omega)
  have hbits : bitsOf q 2 0 = q := bitsOf_low hq
  refine exec_ctrlInstr h (exec_gexaSSel ..) (wordG_major hf) hzero (Nat.and_zero _) ?_
  rw [sD_wordG hf, sA_wordG hf, sB_wordG hf, bitsOf_wordG hf (by omega), hbits, ← apply_ite]

/-- R195: the conditions of cmp and cmpi, as the model computes them on numbers. -/
theorem sCond_eq {k : Nat} {f : DWord → DWord → Bool} (hk : ctrlConditions[k]? = some f) (x y : DWord) :
    sCond k x.toNat y.toNat = some (f x y) := by
  obtain ⟨hlt, rfl⟩ := List.getElem?_eq_some_iff.mp hk
  match k, hlt with
  | 0, _ => exact congrArg some (toNat_beq x y)
  | 1, _ => exact congrArg some (toNat_bne x y)
  | 2, _ => exact congrArg some (decide_toSigned_lt x y)
  | 3, _ => exact congrArg some (decide_toSigned_le y x)
  | 4, _ => rfl
  | 5, _ => rfl
  | 6, _ => exact congrArg some (toNat_bne (x &&& y) 0#64)

theorem ctrlConditions_lt {k : Nat} {f : DWord → DWord → Bool} (hk : ctrlConditions[k]? = some f) : k < 7 :=
  (List.getElem?_eq_some_iff.mp hk).1

theorem exec_cmp_into {k : Nat} {f : DWord → DWord → Bool} (hd : d < 8) (ha : a < 32) (hb : b < 32) (hk : ctrlConditions[k]? = some f)
    (h : s.ctrlAt p (wordG 9 d a b k) t) :
    exec (.cmp p (wordG 9 d a b k)) s = .next (t.ctrlDone p ((t.ac p).pput d (f ((t.ac p).s a) ((t.ac p).s b)))) := by
  have hlt := ctrlConditions_lt hk
  have hf : FieldsG 9 d a b k := by omega
  have hzero : (wordG 9 d a b k).toNat &&& maskOf [(4, 7)] = 0 := and_maskOf (by rw [hf.toNat]; simp; omega)
  have hbits : bitsOf k 3 0 = k := bitsOf_low (by omega)
  have hrange : (wordG 9 d a b k).toNat &&& 0x03000000 = 0 := by simp (disch := omega) [wordG_and, and_24 hd]
  rw [exec_ctrlGate h (exec_cmp ..) (wordG_major hf) hzero hrange]
  have hcond := sCond_eq hk ((t.ac p).s a) ((t.ac p).s b)
  rw [Ctrl.s_toNat, Ctrl.s_toNat] at hcond
  simp only [sA_wordG hf, sB_wordG hf, bitsOf_wordG hf (show 3 < 11 by omega), hbits]
  rw [show sCond k ((t.arr p.val).ctrl.sget a) ((t.arr p.val).ctrl.sget b) = _ from hcond, sCmp, sD_wordG hf]
  exact congrArg _ (State.ctrlSet_eq rfl)

theorem exec_cmpi_into {k : Nat} {f : DWord → DWord → Bool} {imm : BitVec 8} (hd : d < 8) (ha : a < 32) (hk : ctrlConditions[k]? = some f)
    (h : s.ctrlAt p (wordG 10 d a 0 (256 * k + imm.toNat)) t) :
    exec (.cmpi p (wordG 10 d a 0 (256 * k + imm.toNat))) s =
      .next (t.ctrlDone p ((t.ac p).pput d (f ((t.ac p).s a) (imm.signExtend 64)))) := by
  have hlt := ctrlConditions_lt hk
  have himm := imm.isLt
  have hf : FieldsG 10 d a 0 (256 * k + imm.toNat) := by omega
  have hcode : bitsOf (256 * k + imm.toNat) 10 8 = k := by rw [bitsOf, Nat.shiftRight_eq_div_pow]; omega
  have hlow : bitsOf (256 * k + imm.toNat) 7 0 = imm.toNat := by rw [bitsOf, Nat.shiftRight_zero]; omega
  rw [exec_ctrlGate h (exec_cmpi ..) (wordG_major hf) (by simp (disch := omega) [wordG_and])
    (by simp (disch := omega) [wordG_and, and_24 hd])]
  have hcond := sCond_eq hk ((t.ac p).s a) (imm.signExtend 64)
  rw [Ctrl.s_toNat, ← signExt_toNat] at hcond
  simp only [sA_wordG hf, bitsOf_wordG hf (show 10 < 11 by omega), bitsOf_wordG hf (show 7 < 11 by omega), hcode, hlow]
  rw [show sCond k ((t.arr p.val).ctrl.sget a) _ = _ from hcond, sCmp, sD_wordG hf]
  exact congrArg _ (State.ctrlSet_eq rfl)

theorem exec_ctrlNop (h : s.ctrlAt p (wordG 0 0 0 0 0) t) : exec (.gexaSNop p (wordG 0 0 0 0 0)) s = .next (t.ctrlDone p (t.ac p)) :=
  exec_ctrlInstr h (exec_gexaSNop ..) (by decide) (by decide) (by decide) rfl

end

/-- Settles O20: one lemma for each instruction or table. -/
theorem ctrlImmediateResults : Obligations.CtrlImmediateResults := by
  unfold Obligations.CtrlImmediateResults
  intro p s t d a b hd ha hb c
  exact ⟨fun r hr imm h => exec_ctrlImmediate hr hd ha h, fun r hr n hn h => exec_ctrlShift hr hd ha hn h, fun imm h => exec_ctrlLi hd h,
    fun x h => exec_ctrlShlor hd h, fun r hr hd ha hb h => exec_ctrlPredicate hr hd ha hb h, exec_pnot_reads, fun hd h => exec_pnz_reads hd ha h,
    fun q hq h => exec_ctrlSel hd ha hb hq h, fun k f hd hk h => exec_cmp_into hd ha hb hk h, fun k f imm hd hk h => exec_cmpi_into hd ha hk h,
    exec_ctrlNop⟩

/-! Branches and calls. -/

/-- An address moved by a signed number of words. -/
theorem ofInt_words {n : Nat} (pc : BitVec 48) (off : BitVec n) :
    BitVec.ofInt 48 ((pc.toNat : Int) + 4 * off.toInt) = pc + 4#48 * off.signExtend 48 := by
  rw [BitVec.ofInt_add, BitVec.ofInt_mul, BitVec.ofInt_natCast, ofNat_toNat_self]; rfl

section
variable {p : ArrayId} {s t : State} {d a : Nat}

theorem exec_br_taken {q : Nat} {neg : Bool} {off : BitVec 22} {w : Word} (hq : q < 8)
    (hw : w = BitVec.ofNat 32 (0x0D * 2 ^ 26 + q * 2 ^ 23 + neg.toNat * 2 ^ 22 + off.toNat)) (h : s.ctrlAt p w t) :
    exec (.br p w) s = .next (if (t.ac p).pget q ^^ neg
      then t.ctrlJump p.val ((t.ac p).pc + 4#48 * off.signExtend 48).toNat else t.ctrlNext p.val 4) := by
  have hoff := off.isLt
  have hneg : neg.toNat < 2 := neg.toNat_lt
  have hw : w.toNat = 0x0D * 2 ^ 26 + q * 2 ^ 23 + neg.toNat * 2 ^ 22 + off.toNat := by rw [hw, BitVec.toNat_ofNat]; omega
  have hq : bitsOf w.toNat 25 23 = q := by rw [bitsOf, Nat.shiftRight_eq_div_pow]; omega
  have ho : bitsOf w.toNat 21 0 = off.toNat := by rw [bitsOf, Nat.shiftRight_zero]; omega
  have hn : w.toNat.testBit 22 = neg := testBit_of_field (by omega)
  have hopcode := and_opcode (n := 0) (lo := 0) w.isLt (by omega)
  rw [exec_ctrlGate h (exec_br ..) (hopcode.trans (by omega)) (Nat.and_zero _) (Nat.and_zero _)]
  simp only [hq, ho, hn, toSigned_toNat, wrapInt_eq_toNat, ofInt_words]
  rfl

/-- R195, R281: a call leaves PC + 4 in sd and goes to its target; at attn's entry the routine begins. -/
theorem State.ctrlCall_eq (t : State) (p : ArrayId) (d : Nat) {n : Nat} {target : BitVec 48} (hn : BitVec.ofNat 48 n = target) :
    t.ctrlCall p.val d n =
      (let v := (t.modCtrl p.val (fun c => c.sput d (c.pc + 4#48).toNat)).ctrlJump p.val target.toNat
      if v.attnEntry p.val target.toNat then
        (v.modCtrl p.val (fun c => { c with attn := some ⟨c.sget 1, none, c.sget d % 2 ^ 48, 0, 0, [], []⟩ })).advanceQ p.val
      else v) := by
  have hmod : n % 2 ^ 48 = target.toNat := by rw [← hn, BitVec.toNat_ofNat]
  have hjump (u : State) : u.ctrlJump p.val n = u.ctrlJump p.val target.toNat := by
    simp only [State.ctrlJump, hn, ofNat_toNat_self]
  have hret : t.modCtrl p.val (fun c => c.sput d (((t.arr p.val).ctrl.pc.toNat + 4) % 2 ^ 48)) =
      t.modCtrl p.val (fun c => c.sput d (c.pc + 4#48).toNat) := State.modCtrl_congr rfl
  simp only [State.ctrlCall, hmod, hjump, hret]

theorem exec_jal_calls {off : BitVec 21} (hd : d < 32) (h : s.ctrlAt p (wordG 14 d 0 0 off.toNat) t) :
    exec (.jal p (wordG 14 d 0 0 off.toNat)) s =
      .next (t.ctrlCall p.val d ((t.ac p).pc + 4#48 * off.signExtend 48).toNat) := by
  have hlt := off.isLt
  have hoff : bitsOf (wordG 14 d 0 0 off.toNat).toNat 20 0 = off.toNat := by
    rw [wordG, BitVec.toNat_ofNat, bitsOf, Nat.shiftRight_zero]; omega
  rw [wordG_low] at h hoff ⊢
  have hf : FieldsG 14 d (off.toNat / 2 ^ 16) (off.toNat / 2 ^ 11 % 32) (off.toNat % 2 ^ 11) := by omega
  rw [exec_ctrlGate h (exec_jal ..) (wordG_major hf) (Nat.and_zero _) (Nat.and_zero _)]
  simp only [sD_wordG hf, hoff, toSigned_toNat, wrapInt_eq_toNat, ofInt_words]
  rfl

theorem exec_jalr_calls {off : BitVec 11} (hd : d < 32) (ha : a < 32) (h : s.ctrlAt p (wordG 15 d a 0 off.toNat) t) :
    exec (.jalr p (wordG 15 d a 0 off.toNat)) s = .next (t.ctrlCall p.val d ((t.ac p).sget a + (off.signExtend 64).toNat)) := by
  have hf : FieldsG 15 d a 0 off.toNat := by omega
  rw [exec_ctrlGate h (exec_jalr ..) (wordG_major hf) (by simp (disch := omega) [wordG_and]) (Nat.and_zero _),
    sD_wordG hf, sA_wordG hf, sImm_wordG off hf]
  rfl

/-- The low bits of a sign extension are a sign extension. -/
theorem setWidth_signExtend_48 {n : Nat} (off : BitVec n) : (off.signExtend 64).setWidth 48 = off.signExtend 48 :=
  BitVec.eq_of_getLsbD_eq fun i hi => by
    rw [BitVec.getLsbD_setWidth, BitVec.getLsbD_signExtend, BitVec.getLsbD_signExtend, decide_eq_true hi, decide_eq_true (show i < 64 by omega),
      Bool.true_and]

theorem ofNat_sget_add_imm (c : Ctrl) (a : Nat) (off : BitVec 11) :
    BitVec.ofNat 48 (c.sget a + (off.signExtend 64).toNat) = (c.s a).setWidth 48 + off.signExtend 48 := by
  rw [BitVec.ofNat_add, ← Ctrl.s_toNat, BitVec.ofNat_toNat, BitVec.ofNat_toNat, setWidth_signExtend_48]

end

/-- Settles O21: a branch goes to its target or on; a call is the same call for each kind of target. -/
theorem ctrlBranchResults : Obligations.CtrlBranchResults := by
  unfold Obligations.CtrlBranchResults
  intro p s t d a hd ha c
  refine ⟨fun q hq neg off => exec_br_taken hq rfl, fun off h => ?_, fun off h => ?_⟩
  · rw [exec_jal_calls hd h, State.ctrlCall_eq t p d (ofNat_toNat_self _)]
  · rw [exec_jalr_calls hd ha h, State.ctrlCall_eq t p d (ofNat_sget_add_imm (t.ac p) a off)]

end Sys2Proof.Machine

/-!
The fields of descriptor registers (06_control_isa R199, R202), and O22.
-/
namespace Sys2Proof.Machine

/-- A field of a number, as a shift of its bits. -/
theorem bitsOf_toNat {w : Nat} (x : BitVec w) (hi lo : Nat) : bitsOf x.toNat hi lo = ((x >>> lo).setWidth (hi + 1 - lo)).toNat := by
  rw [bitsOf, BitVec.toNat_setWidth, BitVec.toNat_ushiftRight]

/-- A bit of a register after a field was set. -/
theorem getLsbD_setBits {w hi lo i : Nat} (x : BitVec w) (v : Nat) (h : lo ≤ hi) (hw : i < w) :
    (BitVec.ofNat w (setBits x.toNat hi lo v)).getLsbD i = if lo ≤ i ∧ i ≤ hi then v.testBit (i - lo) else x.getLsbD i := by
  rw [BitVec.getLsbD_ofNat, decide_eq_true hw, Bool.true_and, testBit_setBits _ _ _ _ _ h, BitVec.testBit_toNat]

/-- R202: the selectors: the field each names, inside a descriptor and no wider than a scalar register. -/
theorem ctrlSelectors_field : ∀ r ∈ ctrlSelectors,
    descField r.1 = some r.2 ∧ r.1 < 2048 ∧ r.2.2.1 ≤ r.2.1 ∧ r.2.1 < 512 ∧ r.2.1 < r.2.2.1 + 64 := by decide

section
variable {p : ArrayId} {s t : State} {d a : Nat}

theorem exec_dset_field {f hi lo : Nat} {sg : Bool} (hsel : (f, hi, lo, sg) ∈ ctrlSelectors) (hd : d < 16) (ha : a < 32)
    (h : s.ctrlAt p (wordG 0x16 d a 0 f) t) : exec (.dset p (wordG 0x16 d a 0 f)) s =
      .next (t.ctrlDone p ((t.ac p).dput d (BitVec.ofNat 512 (setBits ((t.ac p).dget d).toNat hi lo ((t.ac p).sget a))))) := by
  obtain ⟨hfield, hfn, -⟩ := ctrlSelectors_field _ hsel
  have hf : FieldsG 0x16 d a 0 f := by omega
  rw [exec_ctrlGate h (exec_dset ..) (wordG_major hf) (by simp (disch := omega) [wordG_and]) (by simp (disch := omega) [wordG_and, and_16 hd])]
  simp only [sFn_wordG hf, sD_wordG hf, sA_wordG hf, hfield]
  exact congrArg _ (State.ctrlSet_eq rfl)

theorem exec_dget_field {f hi lo : Nat} {sg : Bool} (hsel : (f, hi, lo, sg) ∈ ctrlSelectors) (hd : d < 32) (ha : a < 16)
    (h : s.ctrlAt p (wordG 0x17 d a 0 f) t) : exec (.dget p (wordG 0x17 d a 0 f)) s =
      .next (t.ctrlDone p ((t.ac p).sput d (if sg then signExt (hi + 1 - lo) 64 (bitsOf ((t.ac p).dget a).toNat hi lo)
        else bitsOf ((t.ac p).dget a).toNat hi lo))) := by
  obtain ⟨hfield, hfn, -⟩ := ctrlSelectors_field _ hsel
  have hf : FieldsG 0x17 d a 0 f := by omega
  rw [exec_ctrlGate h (exec_dget ..) (wordG_major hf) (by simp (disch := omega) [wordG_and]) (by simp (disch := omega) [wordG_and, and_16 ha])]
  simp only [sFn_wordG hf, sD_wordG hf, sA_wordG hf, hfield]
  exact congrArg _ (State.ctrlSet_eq rfl)

theorem exec_dadv_base {off : BitVec 11} (hd : d < 16) (ha : a < 32) (h : s.ctrlAt p (wordG 0x18 d a 0 off.toNat) t) :
    exec (.dadv p (wordG 0x18 d a 0 off.toNat)) s = .next (t.ctrlDone p ((t.ac p).dput d (BitVec.ofNat 512 (setBits ((t.ac p).dget d).toNat 47 0
      (bitsOf ((t.ac p).dget d).toNat 47 0 + (t.ac p).sget a + (off.signExtend 64).toNat))))) := by
  have hf : FieldsG 0x18 d a 0 off.toNat := by omega
  refine exec_ctrlInstr h (exec_dadv ..) (wordG_major hf) (by simp (disch := omega) [wordG_and])
    (by simp (disch := omega) [wordG_and, and_16 hd]) ?_
  rw [sD_wordG hf, sA_wordG hf, sImm_wordG off hf]

end

/-- A field as a scalar register shows it: its bits, then copies of its sign, or zeros. -/
theorem getLsbD_field {hi lo i : Nat} (x : BitVec 512) (sg : Bool) (h : lo ≤ hi) (hw : hi < lo + 64) (hi64 : i < 64) :
    (BitVec.ofNat 64 (if sg then signExt (hi + 1 - lo) 64 (bitsOf x.toNat hi lo) else bitsOf x.toNat hi lo)).getLsbD i =
      if lo + i ≤ hi then x.getLsbD (lo + i) else sg && x.getLsbD hi := by
  cases sg with
  | false =>
    rw [if_neg Bool.false_ne_true, BitVec.getLsbD_ofNat, decide_eq_true hi64, testBit_bitsOf, BitVec.testBit_toNat, Bool.true_and, Bool.false_and]
    by_cases hin : lo + i ≤ hi
    · rw [if_pos hin, decide_eq_true (by omega), Bool.true_and]
    · rw [if_neg hin, decide_eq_false (by omega), Bool.false_and]
  | true =>
    have hmsb : ((x >>> lo).setWidth (hi + 1 - lo)).msb = x.getLsbD hi := by
      rw [BitVec.msb_eq_getLsbD_last, BitVec.getLsbD_setWidth, BitVec.getLsbD_ushiftRight, decide_eq_true (by omega), Bool.true_and,
        show lo + (hi + 1 - lo - 1) = hi by omega]
    rw [if_pos rfl, bitsOf_toNat, signExt_toNat, ofNat_toNat_self, BitVec.getLsbD_signExtend, decide_eq_true hi64, Bool.true_and, hmsb,
      BitVec.getLsbD_setWidth, BitVec.getLsbD_ushiftRight, Bool.true_and]
    by_cases hin : lo + i ≤ hi
    · rw [if_pos hin, if_pos (by omega), decide_eq_true (by omega), Bool.true_and]
    · rw [if_neg hin, if_neg (by omega)]

/-- Settles O22: each instruction's register value, and then its bits. -/
theorem ctrlDescriptorFields : Obligations.CtrlDescriptorFields := by
  unfold Obligations.CtrlDescriptorFields
  intro p s t d a hd ha c
  refine ⟨fun f hi lo sg hsel hd h => ⟨_, exec_dset_field hsel hd ha h, fun i hi512 => ?dset⟩, fun f hi lo sg hsel ha h => ?dget,
    fun off hd h => ⟨_, exec_dadv_base hd ha h, ?base, ?rest⟩⟩
  case dset =>
    obtain ⟨-, -, hle, -⟩ := ctrlSelectors_field _ hsel
    rw [getLsbD_setBits _ _ hle hi512, ← Ctrl.s_toNat, BitVec.testBit_toNat]
  case dget =>
    obtain ⟨-, -, hle, -, hw⟩ := ctrlSelectors_field _ hsel
    exact ⟨_, (exec_dget_field hsel hd ha h).trans (by rw [Ctrl.sput_congr _ _ rfl]), fun i hi64 => getLsbD_field _ _ hle hw hi64⟩
  case base =>
    calc (BitVec.ofNat 512 (setBits (c.dget d).toNat 47 0 (bitsOf (c.dget d).toNat 47 0 + c.sget a + (off.signExtend 64).toNat))).setWidth 48
      _ = BitVec.ofNat 48 (bitsOf (c.dget d).toNat 47 0 + (c.sget a + (off.signExtend 64).toNat)) :=
        BitVec.eq_of_getLsbD_eq fun i hi => by
          rw [BitVec.getLsbD_setWidth, getLsbD_setBits _ _ (Nat.zero_le _) (by omega), if_pos (by omega), BitVec.getLsbD_ofNat, Nat.sub_zero, Nat.add_assoc]
      _ = (c.dget d).setWidth 48 + (c.s a).setWidth 48 + off.signExtend 48 := by
        rw [BitVec.ofNat_add, ofNat_sget_add_imm, bitsOf_toNat, BitVec.ushiftRight_zero, ofNat_toNat_self, BitVec.add_assoc]
  case rest =>
    refine BitVec.eq_of_getLsbD_eq fun i hi => ?_
    rw [BitVec.getLsbD_ushiftRight, BitVec.getLsbD_ushiftRight]
    by_cases hin : 48 + i < 512
    · rw [getLsbD_setBits _ _ (Nat.zero_le _) hin, if_neg (by omega)]
    · rw [BitVec.getLsbD_of_ge _ _ (by omega), BitVec.getLsbD_of_ge _ _ (by omega)]

end Sys2Proof.Machine

/-!
Loads and stores of a controller, and what its reads give (06_control_isa R196, R197, R202, R225), and O23 and O24.
-/
namespace Sys2Proof.Machine

section
variable {s u : State} {p : ArrayId} {w : Word} {va size dest pa v : Nat} {bs : List Byte}

/-- R196: an access that is not aligned is a data-access fault. -/
theorem State.ctrlLoad_misaligned {desc again : Bool} (halign : va % size ≠ 0) :
    s.ctrlLoad p.val w va size dest desc again = s.issueFault p.val 0x87 1 w 0#32 0xFF 0 va := if_pos halign

theorem State.ctrlStore_misaligned (halign : va % size ≠ 0) :
    s.ctrlStore p.val w va size v = s.issueFault p.val 0x87 1 w 0#32 0xFF 0 va := if_pos halign

/-- R196: a load whose bytes are at hand. -/
theorem State.ctrlLoad_done {desc again : Bool} (halign : va % size = 0) (hread : s.ctrlRead p.val va size = .ok bs u) :
    s.ctrlLoad p.val w va size dest desc again = u.ctrlDone p { (u.ac p).loaded desc dest bs with blocked := .no } := by
  rw [State.ctrlLoad_ok halign hread]
  exact State.ctrlSet_eq rfl

/-- R197, R225: a store is posted where the store buffer has a place, and stalls otherwise. -/
theorem State.ctrlStore_posts (halign : va % size = 0) (hpa : s.accessN (s.ctrlAcc p.val (s.ac p).ctx .write) va size = .ok pa) :
    s.ctrlStore p.val w va size v = if (s.ac p).stores.length < 16
      then s.ctrlDone p ((s.ac p).posted va pa (bytesOf size v)) else s.stallIssue p.val 7 := by
  rw [State.ctrlStore, if_neg (not_not.mpr halign)]
  have hctrl : s.accessN (s.ctrlAcc p.val (s.arr p.val).ctrl.ctx .write) va size = .ok pa := hpa
  simp only [hctrl]
  by_cases hroom : (s.ac p).stores.length < 16
  · rw [if_pos hroom]
    exact (if_neg (Nat.not_le.mpr hroom)).trans (State.ctrlSet_eq rfl)
  · rw [if_neg hroom]
    exact if_pos (Nat.le_of_not_lt hroom)

end

/-- R195: the scalar accesses: load, store, their majors, and their size in bytes. -/
noncomputable def ctrlAccesses : List ((ArrayId → Word → Instr) × (ArrayId → Word → Instr) × Nat × Nat × Nat) :=
  [(.gexaSLdD, .gexaSStD, 0x10, 0x12, 8), (.gexaSLdW, .gexaSStW, 0x11, 0x13, 4)]

theorem ctrlAccesses_exec : ∀ r ∈ ctrlAccesses,
    (∀ p w s, exec (r.1 p w) s = .next (ctrlGate p w none ctrlKnown 0xFC000000 (r.2.2.1 * 2 ^ 26) 0 0x0000F800 s (fun s =>
      s.ctrlLoad p.val w (((s.ac p).sget (sA w) + sImm w) % 2 ^ 64) r.2.2.2.2 (sD w) false false))) ∧
    (∀ p w s, exec (r.2.1 p w) s = .next (ctrlGate p w none ctrlKnown 0xFC000000 (r.2.2.2.1 * 2 ^ 26) 0 0x0000F800 s (fun s =>
      s.ctrlStore p.val w (((s.ac p).sget (sA w) + sImm w) % 2 ^ 64) r.2.2.2.2 ((s.ac p).sget (sD w))))) ∧
    r.2.2.1 < 64 ∧ r.2.2.2.1 < 64 := by
  simp only [ctrlAccesses, List.forall_mem_cons]
  exact ⟨⟨fun _ _ _ => rfl, fun _ _ _ => rfl, by decide, by decide⟩, ⟨fun _ _ _ => rfl, fun _ _ _ => rfl, by decide, by decide⟩, nofun⟩

theorem sget_add_imm (c : Ctrl) (a : Nat) (x : DWord) : (c.sget a + x.toNat) % 2 ^ 64 = (c.s a + x).toNat := by
  rw [BitVec.toNat_add, Ctrl.s_toNat]

theorem sget_add_lines (c : Ctrl) (a : Nat) (x : DWord) : (c.sget a + 64 * x.toNat) % 2 ^ 64 = (c.s a + 64#64 * x).toNat := by
  rw [BitVec.toNat_add, BitVec.toNat_mul, Ctrl.s_toNat, Nat.add_mod_mod]; rfl

section
variable {p : ArrayId} {s t : State} {d a : Nat} {off : BitVec 11}

/-- R195, R196: a scalar load, by its address. -/
theorem exec_ctrlLoad {r : (ArrayId → Word → Instr) × (ArrayId → Word → Instr) × Nat × Nat × Nat} (hr : r ∈ ctrlAccesses) (hd : d < 32)
    (ha : a < 32) (h : s.ctrlAt p (wordG r.2.2.1 d a 0 off.toNat) t) : exec (r.1 p (wordG r.2.2.1 d a 0 off.toNat)) s =
      .next (t.ctrlLoad p.val (wordG r.2.2.1 d a 0 off.toNat) ((t.ac p).s a + off.signExtend 64).toNat r.2.2.2.2 d false false) := by
  obtain ⟨hexec, -, hmajor, -⟩ := ctrlAccesses_exec r hr
  have hf : FieldsG r.2.2.1 d a 0 off.toNat := by omega
  rw [exec_ctrlGate h (hexec ..) (wordG_major hf) (by simp (disch := omega) [wordG_and]) (Nat.and_zero _), sD_wordG hf, sA_wordG hf,
    sImm_wordG off hf, sget_add_imm]

/-- R195, R197: a scalar store, by its address. -/
theorem exec_ctrlStore {r : (ArrayId → Word → Instr) × (ArrayId → Word → Instr) × Nat × Nat × Nat} (hr : r ∈ ctrlAccesses) (hd : d < 32)
    (ha : a < 32) (h : s.ctrlAt p (wordG r.2.2.2.1 d a 0 off.toNat) t) : exec (r.2.1 p (wordG r.2.2.2.1 d a 0 off.toNat)) s =
      .next (t.ctrlStore p.val (wordG r.2.2.2.1 d a 0 off.toNat) ((t.ac p).s a + off.signExtend 64).toNat r.2.2.2.2 ((t.ac p).sget d)) := by
  obtain ⟨-, hexec, -, hmajor⟩ := ctrlAccesses_exec r hr
  have hf : FieldsG r.2.2.2.1 d a 0 off.toNat := by omega
  rw [exec_ctrlGate h (hexec ..) (wordG_major hf) (by simp (disch := omega) [wordG_and]) (Nat.and_zero _), sD_wordG hf, sA_wordG hf,
    sImm_wordG off hf, sget_add_imm]

/-- R202: a descriptor load, by its address. -/
theorem exec_dld_line (hd : d < 16) (ha : a < 32) (h : s.ctrlAt p (wordG 0x14 d a 0 off.toNat) t) :
    exec (.dld p (wordG 0x14 d a 0 off.toNat)) s =
      .next (t.ctrlLoad p.val (wordG 0x14 d a 0 off.toNat) ((t.ac p).s a + 64#64 * off.signExtend 64).toNat 64 d true false) := by
  have hf : FieldsG 0x14 d a 0 off.toNat := by omega
  rw [exec_ctrlGate (k := fun u => u.ctrlLoad p.val (wordG 0x14 d a 0 off.toNat)
      (((u.ac p).sget (sA (wordG 0x14 d a 0 off.toNat)) + 64 * sImm (wordG 0x14 d a 0 off.toNat)) % 2 ^ 64) 64 (sD (wordG 0x14 d a 0 off.toNat)) true false)
      h rfl (wordG_major hf) (by simp (disch := omega) [wordG_and]) (by simp (disch := omega) [wordG_and, and_16 hd]),
    sD_wordG hf, sA_wordG hf, sImm_wordG off hf, sget_add_lines]

/-- R202: a descriptor store, by its address. -/
theorem exec_dst_line (hd : d < 16) (ha : a < 32) (h : s.ctrlAt p (wordG 0x15 d a 0 off.toNat) t) :
    exec (.dst p (wordG 0x15 d a 0 off.toNat)) s =
      .next (t.ctrlStore p.val (wordG 0x15 d a 0 off.toNat) ((t.ac p).s a + 64#64 * off.signExtend 64).toNat 64 ((t.ac p).dget d).toNat) := by
  have hf : FieldsG 0x15 d a 0 off.toNat := by omega
  rw [exec_ctrlGate (k := fun u => u.ctrlStore p.val (wordG 0x15 d a 0 off.toNat)
      (((u.ac p).sget (sA (wordG 0x15 d a 0 off.toNat)) + 64 * sImm (wordG 0x15 d a 0 off.toNat)) % 2 ^ 64) 64 ((u.ac p).dget (sD (wordG 0x15 d a 0 off.toNat))).toNat)
      h rfl (wordG_major hf) (by simp (disch := omega) [wordG_and]) (by simp (disch := omega) [wordG_and, and_16 hd]),
    sD_wordG hf, sA_wordG hf, sImm_wordG off hf, sget_add_lines]

end

/-- Settles O23: each access by its address, and then its outcome by its alignment. -/
theorem ctrlLoadsAndStores : Obligations.CtrlLoadsAndStores := by
  unfold Obligations.CtrlLoadsAndStores
  intro p s t d a off hd ha c va line
  refine ⟨fun r hr => ?_, fun hd h halign bs u hread => ?_, fun hd h halign pa hpa => ?_, fun hd h halign => ?_, fun hd h halign => ?_⟩
  · refine ⟨fun h halign bs u hread => ?_, fun h halign => ?_, fun h halign pa hpa => ?_, fun h halign => ?_⟩
    · rw [exec_ctrlLoad hr hd ha h, State.ctrlLoad_done halign hread]; rfl
    · rw [exec_ctrlLoad hr hd ha h, State.ctrlLoad_misaligned halign]; rfl
    · rw [exec_ctrlStore hr hd ha h, State.ctrlStore_posts halign hpa]
    · rw [exec_ctrlStore hr hd ha h, State.ctrlStore_misaligned halign]; rfl
  · rw [exec_dld_line hd ha h, State.ctrlLoad_done halign hread]; rfl
  · rw [exec_dst_line hd ha h, State.ctrlStore_posts halign hpa]
  · rw [exec_dld_line hd ha h, State.ctrlLoad_misaligned halign]; rfl
  · rw [exec_dst_line hd ha h, State.ctrlStore_misaligned halign]; rfl

/-! What the store buffer shows of a range (R197). -/

/-- R197: a posted store covers an address. -/
def PostedStore.covers (x : PostedStore) (a : Nat) : Prop := x.va ≤ a ∧ a < x.va + x.data.length

/-- R197: the bytes of a range with one posted store over them. -/
def overlayStore (va : Nat) (bs : List Byte) (x : PostedStore) : List Byte :=
  (List.range bs.length).map (fun i => if x.va ≤ va + i ∧ va + i < x.va + x.data.length then nth 0#8 x.data (va + i - x.va) else nth 0#8 bs i)

theorem overlayStores_eq_foldl (va : Nat) (bs : List Byte) (ps : List PostedStore) : overlayStores va bs ps = ps.foldl (overlayStore va) bs := rfl

@[simp] theorem length_overlayStore (va : Nat) (bs : List Byte) (x : PostedStore) : (overlayStore va bs x).length = bs.length := by
  simp [overlayStore]

@[simp] theorem length_overlayStores (va : Nat) (bs : List Byte) (ps : List PostedStore) : (overlayStores va bs ps).length = bs.length := by
  rw [overlayStores_eq_foldl]
  induction ps generalizing bs with
  | nil => rfl
  | cons x ps ih => rw [List.foldl_cons, ih, length_overlayStore]

section
variable {va i : Nat} {bs : List Byte} (hi : i < bs.length)
include hi

theorem nth_overlayStore_covered {x : PostedStore} (h : x.covers (va + i)) : nth 0#8 (overlayStore va bs x) i = nth 0#8 x.data (va + i - x.va) := by
  rw [overlayStore, nth_map_range _ _ hi]
  exact if_pos h

theorem nth_overlayStore_uncovered {x : PostedStore} (h : ¬x.covers (va + i)) : nth 0#8 (overlayStore va bs x) i = nth 0#8 bs i := by
  rw [overlayStore, nth_map_range _ _ hi]
  exact if_neg h

/-- R197: a byte that no posted store covers shows as it is. -/
theorem nth_overlayStores_uncovered {ps : List PostedStore} (h : ∀ x ∈ ps, ¬x.covers (va + i)) :
    nth 0#8 (overlayStores va bs ps) i = nth 0#8 bs i := by
  rw [overlayStores_eq_foldl]
  induction ps generalizing bs with
  | nil => rfl
  | cons x ps ih =>
    obtain ⟨hx, hps⟩ := List.forall_mem_cons.mp h
    rw [List.foldl_cons, ih (by rwa [length_overlayStore]) hps, nth_overlayStore_uncovered hi hx]

/-- R197: the newest posted store that covers a byte gives it. -/
theorem nth_overlayStores_newest {older newer : List PostedStore} {x : PostedStore} (hx : x.covers (va + i))
    (hnewer : ∀ y ∈ newer, ¬y.covers (va + i)) :
    nth 0#8 (overlayStores va bs (older ++ x :: newer)) i = nth 0#8 x.data (va + i - x.va) := by
  have hsplit : overlayStores va bs (older ++ x :: newer) = overlayStores va (overlayStore va (overlayStores va bs older) x) newer := by
    simp only [overlayStores_eq_foldl, List.foldl_append, List.foldl_cons]
  rw [hsplit, nth_overlayStores_uncovered (by simpa using hi) hnewer, nth_overlayStore_covered (by simpa using hi) hx]

end

@[simp] theorem State.length_rdBytes (s : State) (a n : Nat) : (s.rdBytes a n).length = n := by
  induction n generalizing a with
  | zero => rfl
  | succ n ih => rw [State.rdBytes, List.length_cons, ih]

theorem State.nth_rdBytes (s : State) (a : Nat) {n i : Nat} (h : i < n) : nth 0#8 (s.rdBytes a n) i = s.byte (a + i) := by
  induction n generalizing a i with
  | zero => exact absurd h (Nat.not_lt_zero i)
  | succ n ih =>
    cases i with
    | zero => rfl
    | succ i =>
      rw [State.rdBytes, nth, ih (a + 1) (Nat.lt_of_succ_lt_succ h), show a + 1 + i = a + (i + 1) by omega]

theorem sliceBytes_inside {bs : List Byte} {o n : Nat} (h : o + n ≤ bs.length) : sliceBytes bs o n = (bs.drop o).take n := by
  have hlen : ((bs.drop o).take n).length = n := by rw [List.length_take, List.length_drop]; omega
  simp [sliceBytes, hlen]

theorem nth_sliceBytes {bs : List Byte} {o n i : Nat} (h : o + n ≤ bs.length) (hi : i < n) : nth 0#8 (sliceBytes bs o n) i = nth 0#8 bs (o + i) := by
  rw [sliceBytes_inside h, nth_eq_getElem _ (by rw [List.length_take, List.length_drop]; omega), nth_eq_getElem _ (by omega), List.getElem_take,
    List.getElem_drop]

/-- R196: a line put into the data cache of a controller. -/
def State.lineFilled (s : State) (p line : Nat) (bs : List Byte) : State :=
  s.modCtrl p (fun c => { c with dcache := cachePut 4 line bs c.dcache })

/-- R196, R197: a controller's read of clean HBM bytes succeeds and leaves memory; each of its bytes is that of memory with the posted stores
over it, whether the read goes past the data cache or fills a line of it. -/
theorem State.ctrlRead_overlays {s : State} {p va n pa : Nat} (hline : va % 64 + n ≤ 64) (hmod : va % 64 = pa % 64)
    (hpa : s.accessN (s.ctrlAcc p (s.arr p).ctrl.ctx .read) va n = .ok pa) (hplace : s.place pa = .hbm) (hheld : s.uncommittedHit pa n = false)
    (hmiss : cacheGet (va / 64) (s.arr p).ctrl.dcache = none) (hclean : ∀ w ∈ wordsOf (pa - pa % 64) 64, s.checkAt w = .clean) :
    ∃ bs u, s.ctrlRead p va n = .ok bs u ∧ u.mem = s.mem ∧ bs.length = n ∧ ∀ i < n, ∃ b q m j, b + j = va + i ∧ q + j = pa + i ∧ j < m ∧
      nth 0#8 bs i = nth 0#8 (overlayStores b (s.rdBytes q m) (s.arr p).ctrl.stores) j := by
  cases hnc : s.pageNc (s.ctrlAcc p (s.arr p).ctrl.ctx .read) va with
  | true =>
    have hwords : ∀ w ∈ wordsOf pa n, s.checkAt w = .clean := fun w hw => hclean w (wordsOf_subset (by omega) (by omega) hw)
    refine ⟨overlayStores va (s.rdBytes pa n) (s.arr p).ctrl.stores, s, ?_, rfl, by simp, fun i hi => ⟨va, pa, n, i, rfl, rfl, hi, rfl⟩⟩
    simp only [State.ctrlRead, hpa, hplace, hheld, hnc, State.readChecks_clean _ hwords, State.badIn_clean hwords, Bool.false_eq_true, if_false, if_true]
  | false =>
    have hbase : pa - va % 64 = pa - pa % 64 := by rw [hmod]
    let line := overlayStores (va / 64 * 64) (s.rdBytes (pa - pa % 64) 64) (s.arr p).ctrl.stores
    have hline : va % 64 + n ≤ line.length := by simpa [line] using hline
    refine ⟨sliceBytes line (va % 64) n, s.lineFilled p (va / 64) line, ?_, rfl, ?_,
      fun i hi => ⟨va / 64 * 64, pa - pa % 64, 64, va % 64 + i, by omega, by omega, by omega, nth_sliceBytes hline hi⟩⟩
    · simp only [State.ctrlRead, hpa, hplace, hheld, hnc, hmiss, hbase, State.readChecks_clean _ hclean, State.badIn_clean hclean,
        Bool.false_eq_true, if_false, State.lineFilled, line]
    · rw [sliceBytes_inside hline, List.length_take, List.length_drop]; omega

/-- Settles O24: by the newest posted store over each byte. -/
theorem ctrlReadForwards : Obligations.CtrlReadForwards := by
  unfold Obligations.CtrlReadForwards
  intro s p va n pa _ hline hmod hpa hplace hheld hmiss hclean covers
  obtain ⟨bs, u, hread, hmem, hlen, hbytes⟩ := State.ctrlRead_overlays hline hmod hpa hplace hheld hmiss hclean
  refine ⟨bs, u, hread, hmem, hlen, fun i hi => ?_⟩
  obtain ⟨b, q, m, j, hva, hq, hj, hbyte⟩ := hbytes i hi
  have hin : j < (s.rdBytes q m).length := by rwa [State.length_rdBytes]
  refine ⟨fun hnone => ?_, fun older x newer hstores hx hnewer => ?_⟩
  · rw [hbyte, nth_overlayStores_uncovered hin (by rwa [hva]), State.nth_rdBytes s q hj, hq]
  · rw [hbyte, hstores, nth_overlayStores_newest hin (by rwa [hva]) (by rwa [hva]), hva]

end Sys2Proof.Machine

/-!
System values and time of a controller (06_control_isa R189, R195, R219), and O25.
-/
namespace Sys2Proof.Machine

/-- R195: the system values by index. -/
theorem State.sysVal_eq (t : State) (p : Nat) {i : Nat} (h7 : i ≠ 7) : t.sysVal p i = ((ctrlSystem t p).getD i none).getD 0 := by
  match i, h7 with
  | 0, _ | 1, _ | 2, _ | 3, _ | 4, _ | 5, _ | 6, _ | 8, _ | 9, _ | 10, _ | 11, _ | 12, _ | 13, _ | 14, _ => rfl
  | _ + 15, _ => rfl

/-- R309, R219: issue blocks until local Quartz reaches a time. -/
theorem State.waitUntil_eq (t : State) (p n : Nat) (x : DWord) : t.waitUntil p n x = if (t.localTime p - x).toNat < 2 ^ 63
    then (t.modCtrl p Ctrl.dropData).ctrlNext p n else t.modCtrl p (fun c => { c with blocked := .untilTime x }) := by
  rw [State.waitUntil]
  simp only [qtzReached_iff]

/-- R219, R220: a launch time less than 16,384 ticks ahead is late. -/
theorem State.launchAt_eq (t : State) (p n : Nat) (x : DWord) : t.launchAt p n x = (t.modCtrl p (fun c => { c with
    launch := some x
    launchLate := if (x - (t.localTime p + 16384#64)).toNat < 2 ^ 63 then [] else [1] })).ctrlNext p n := by
  have hlate : (if !qtzReached x (t.localTime p + 16384#64) then [1] else []) =
      if (x - (t.localTime p + 16384#64)).toNat < 2 ^ 63 then [] else [1] := by
    simp only [Bool.not_eq_true', ← Bool.not_eq_true, qtzReached_iff, ite_not]
  exact congrArg (fun l => (t.modCtrl p (fun c => { c with launch := some x, launchLate := l })).ctrlNext p n) hlate

section
variable {p : ArrayId} {s t : State} {d a : Nat}

theorem exec_ctrlSysr {i : Nat} (hd : d < 32) (hi : i < 2 ^ 11) (h : s.ctrlAt p (wordG 0x22 d 0 0 i) t) :
    exec (.gexaSSysr p (wordG 0x22 d 0 0 i)) s =
      .next ((if i = 7 then t.drawn else t).ctrlDone p ((t.ac p).sput d (t.sysVal p.val i))) := by
  have hf : FieldsG 0x22 d 0 0 i := by omega
  have hdrawn : (if i = 7 then t.drawn else t).ac p = t.ac p := by split <;> rfl
  rw [exec_ctrlGate h (exec_gexaSSysr ..) (wordG_major hf) (by simp (disch := omega) [wordG_and]) (Nat.and_zero _)]
  simp only [sFn_wordG hf, sD_wordG hf]
  exact congrArg _ (State.ctrlSet_eq (by rw [hdrawn]))

theorem exec_now_reads (hd : d < 32) (h : s.ctrlAt p (wordG 0x1D d 0 0 0) t) :
    exec (.now p (wordG 0x1D d 0 0 0)) s = .next (t.ctrlDone p ((t.ac p).sput d (t.localTime p.val).toNat)) := by
  have hf : FieldsG 0x1D d 0 0 0 := by omega
  rw [exec_ctrlGate h (exec_now ..) (wordG_major_fn hf) (by simp (disch := omega) [wordG_and]) (Nat.and_zero _), sD_wordG hf]
  exact congrArg _ (State.ctrlSet_eq rfl)

theorem exec_waitUntil_short (ha : a < 32) (h : s.ctrlAt p (wordG 0x1D 0 a 0 1) t) :
    exec (.waitUntil p (wordG 0x1D 0 a 0 1)) s = .next (t.waitUntil p.val 4 ((t.ac p).s a)) := by
  have hf : FieldsG 0x1D 0 a 0 1 := by omega
  rw [exec_ctrlGate h (exec_waitUntil ..) (wordG_major_fn hf) (by simp (disch := omega) [wordG_and]) (Nat.and_zero _), sA_wordG hf]
  rfl

theorem exec_launchAt_short (ha : a < 32) (h : s.ctrlAt p (wordG 0x1D 0 a 0 2) t) :
    exec (.launchAt p (wordG 0x1D 0 a 0 2)) s = .next (t.launchAt p.val 4 ((t.ac p).s a)) := by
  have hf : FieldsG 0x1D 0 a 0 2 := by omega
  rw [exec_ctrlGate h (exec_launchAt ..) (wordG_major_fn hf) (by simp (disch := omega) [wordG_and]) (Nat.and_zero _), sA_wordG hf]
  rfl

theorem exec_waitUntil_long {off : Word} (ha : a < 32) (h : s.ctrlAt2 p (wordG 0x3D 0 a 0 1) off t) :
    exec (.waitUntilOff p (wordG 0x3D 0 a 0 1) off) s = .next (t.waitUntil p.val 8 ((t.ac p).s a + off.signExtend 64)) := by
  have hf : FieldsG 0x3D 0 a 0 1 := by omega
  rw [exec_ctrlGate2 h (exec_waitUntilOff ..) (by simp (disch := omega) [wordG_and]) (by simp (disch := omega) [wordG_and]) (Nat.and_zero _),
    State.offTime, sA_wordG hf]
  rfl

theorem exec_launchAt_long {off : Word} (ha : a < 32) (h : s.ctrlAt2 p (wordG 0x3D 0 a 0 0) off t) :
    exec (.launchAtOff p (wordG 0x3D 0 a 0 0) off) s = .next (t.launchAt p.val 8 ((t.ac p).s a + off.signExtend 64)) := by
  have hf : FieldsG 0x3D 0 a 0 0 := by omega
  rw [exec_ctrlGate2 h (exec_launchAtOff ..) (by simp (disch := omega) [wordG_and]) (by simp (disch := omega) [wordG_and]) (Nat.and_zero _),
    State.offTime, sA_wordG hf]
  rfl

end

/-- Settles O25: the table of system values, and one lemma for each time instruction. -/
theorem ctrlTimeResults : Obligations.CtrlTimeResults := by
  unfold Obligations.CtrlTimeResults
  intro p s t d a hd ha c waits launches
  refine ⟨fun i hi h h7 => ?_, fun h => ⟨_, exec_ctrlSysr hd (by decide) h⟩, exec_now_reads hd, fun h => ?_, fun h => ?_, fun off h => ?_,
    fun off h => ?_⟩
  · rw [exec_ctrlSysr hd hi h, if_neg h7, State.sysVal_eq t p.val h7]
  · rw [exec_waitUntil_short ha h, State.waitUntil_eq]
  · rw [exec_launchAt_short ha h, State.launchAt_eq]
  · rw [exec_waitUntil_long ha h, State.waitUntil_eq]
  · rw [exec_launchAt_long ha h, State.launchAt_eq]

end Sys2Proof.Machine

/-!
Signals, counters and waits of a controller (06_control_isa R217, R218; 09_sync_time R293), and O26.
-/
namespace Sys2Proof.Machine

theorem failIf_eq_none {c : Bool} {code detail reg : Nat} (h : c = false) : failIf c code detail reg = none := by rw [h]; rfl

/-- An instruction none of whose checks at issue fails goes on. -/
theorem State.checked_pass {s : State} {p : Nat} {w0 w1 : Word} {cs : List IssueCheck} {k : State → State} (h : ∀ c ∈ cs, c = none) :
    s.checked p w0 w1 cs k = k s := by
  have hnone : cs.find? (fun c => c.isSome) = none := List.find?_eq_none.mpr fun c hc => by simp [h c hc]
  rw [State.checked, hnone]

theorem thrCheck_eq_none {thr : Nat} (h : 0 < thr) : ∀ c ∈ [thrCheck thr], c = none := by
  rw [List.forall_mem_singleton]
  exact failIf_eq_none (beq_eq_false_iff_ne.mpr (Nat.ne_of_gt h))

theorem toSigned_eq_toInt (n v : Nat) : toSigned n v = (BitVec.ofNat n v).toInt := by
  rw [← toSigned_toNat, BitVec.toNat_ofNat, toSigned, toSigned, Nat.mod_mod]

/-- The low bits of a scalar register. -/
theorem Ctrl.setWidth_s (c : Ctrl) (i n : Nat) : (c.s i).setWidth n = BitVec.ofNat n (c.sget i) := by
  rw [← Ctrl.s_toNat, BitVec.ofNat_toNat]

section
variable {p : ArrayId} {s t : State} {d a b k thr : Nat}

/-- R217: a signal to a counter that the context may reach. -/
theorem exec_ctrlSig {fn : Nat} {inc : Int} (ha : a < 32) (hb : b < 32) (hfn : fn < 2048) (hone : b = 0 ∨ fn = 0)
    (hinc : (if b = 0 then toSigned 11 fn else toSigned 16 ((t.ac p).sget b)) = inc) (h : s.ctrlAt p (wordG 0x1A 0 a b fn) t)
    (hallowed : t.sigAllowed (t.ac p).ctx (sigTarget (((t.ac p).s a).setWidth 32)) = true) :
    exec (.gexaSSig p (wordG 0x1A 0 a b fn)) s = .next ((t.ctrlNext p.val 4).sendSignal (t.ac p).ctx (((t.ac p).s a).setWidth 32) inc
      (sigSrc 1 false ((t.logOf p.val).getD 0 * 65536))) := by
  have hf : FieldsG 0x1A 0 a b fn := by omega
  have hreserved : ¬(b ≠ 0 ∧ fn ≠ 0) := by omega
  rw [exec_ctrlGate h (exec_gexaSSig ..) (wordG_major hf) (by simp (disch := omega) [wordG_and]) (Nat.and_zero _)]
  rw [Ctrl.setWidth_s] at hallowed ⊢
  subst hinc
  simp only [State.ac] at hallowed
  simp only [sA_wordG hf, sB_wordG hf, sFn_wordG hf, if_neg hreserved, hallowed, if_true]
  rfl

/-- R218: wait at a counter that has reached its threshold, or not. -/
theorem exec_ctrlWait {w : Word} (hk : k < 64) (hpos : 0 < thr) (hthr : thr < 2 ^ 15)
    (hw : w = BitVec.ofNat 32 (0x1B * 2 ^ 26 + k * 2 ^ 20 + thr)) (h : s.ctrlAt p w t) :
    exec (.gexaSWait p w) s = .next (if thr ≤ (t.arr p.val).ctr k
      then ((t.modArr p.val (fun a => a.ctrSub k thr)).modCtrl p.val Ctrl.dropData).ctrlNext p.val 4
      else t.modCtrl p.val (fun c => { c with blocked := .wait k thr })) := by
  have hw : w.toNat = 0x1B * 2 ^ 26 + k * 2 ^ 20 + thr := by rw [hw, BitVec.toNat_ofNat]; omega
  have hcounter : bitsOf w.toNat 25 20 = k := by rw [bitsOf, Nat.shiftRight_eq_div_pow]; omega
  have hthreshold : bitsOf w.toNat 14 0 = thr := by rw [bitsOf, Nat.shiftRight_zero]; omega
  have hopcode := and_opcode (n := 0) (lo := 0) w.isLt (by omega)
  have hzero : w.toNat &&& maskOf [(15, 5)] = 0 := and_maskOf (by simp; omega)
  rw [exec_ctrlGate h (exec_gexaSWait ..) (hopcode.trans (by omega)) hzero (Nat.and_zero _)]
  simp only [hcounter, hthreshold, State.checked_pass (thrCheck_eq_none hpos)]

theorem exec_cntRd_reads {w : Word} (hd : d < 32) (hk : k < 64) (hw : w = BitVec.ofNat 32 (0x1C * 2 ^ 26 + d * 2 ^ 21 + k * 2 ^ 15))
    (h : s.ctrlAt p w t) : exec (.cntRd p w) s = .next (t.ctrlDone p ((t.ac p).sput d ((t.arr p.val).ctr k))) := by
  have hw : w.toNat = 0x1C * 2 ^ 26 + d * 2 ^ 21 + k * 2 ^ 15 := by rw [hw, BitVec.toNat_ofNat]; omega
  have hcounter : bitsOf w.toNat 20 15 = k := by rw [bitsOf, Nat.shiftRight_eq_div_pow]; omega
  have hdest : sD w = d := by rw [sD, bitsOf, Nat.shiftRight_eq_div_pow]; omega
  have hopcode := and_opcode (n := 0) (lo := 0) w.isLt (by omega)
  have hzero : w.toNat &&& maskOf [(0, 15)] = 0 := and_maskOf (by simp; omega)
  rw [exec_ctrlGate h (exec_cntRd ..) (hopcode.trans (by omega)) hzero (Nat.and_zero _)]
  simp only [hcounter, hdest]
  exact congrArg _ (State.ctrlSet_eq rfl)

theorem exec_qwait_enters {q : Nat} {w : Word} (hq : q < 3) (hk : k < 64) (hpos : 0 < thr) (hthr : thr < 2 ^ 15)
    (hw : w = BitVec.ofNat 32 (0x21 * 2 ^ 26 + k * 2 ^ 20 + q * 2 ^ 18 + thr)) (h : s.ctrlAt p w t) :
    exec (.qwait p w) s = .next (t.enqueue p.val q w 0 4 0 false (.qwait k thr)) := by
  have hw : w.toNat = 0x21 * 2 ^ 26 + k * 2 ^ 20 + q * 2 ^ 18 + thr := by rw [hw, BitVec.toNat_ofNat]; omega
  have hcounter : bitsOf w.toNat 25 20 = k := by rw [bitsOf, Nat.shiftRight_eq_div_pow]; omega
  have hqueue : bitsOf w.toNat 19 18 = q := by rw [bitsOf, Nat.shiftRight_eq_div_pow]; omega
  have hthreshold : bitsOf w.toNat 14 0 = thr := by rw [bitsOf, Nat.shiftRight_zero]; omega
  have hopcode := and_opcode (n := 0) (lo := 0) w.isLt (by omega)
  have hzero : w.toNat &&& maskOf [(15, 3)] = 0 := and_maskOf (by simp; omega)
  have hchecks : ∀ c ∈ [failIf (q == 3) 0x80 2 0xFF, thrCheck thr], c = none :=
    List.forall_mem_cons.mpr ⟨failIf_eq_none (beq_eq_false_iff_ne.mpr (by omega)), thrCheck_eq_none hpos⟩
  rw [exec_ctrlGate h (exec_qwait ..) (hopcode.trans (by omega)) hzero (Nat.and_zero _)]
  simp only [hcounter, hqueue, hthreshold, State.checked_pass hchecks]

/-- R293: a blocked wait ends when its counter has reached its threshold. -/
theorem exec_ctrlWait_satisfied (hblocked : (s.arr p.val).ctrl.blocked = .wait k thr) (hstate : (s.arr p.val).ctrl.state = 1)
    (hruns : (s.arr p.val).runs = true) (hctr : thr ≤ (s.arr p.val).ctr k) : exec (.waitSatisfied (.ctrl p)) s =
      .next (((s.modArr p.val (fun a => a.ctrSub k thr)).modCtrl p.val (fun c => { c.dropData with blocked := .no })).ctrlNext p.val 4) := by
  simp only [exec_waitSatisfied, execWaitSatisfied, State.ctrlWaitDone, hblocked, hstate, hruns, hctr, and_self, if_true]

/-- R218, R293: a qwait at the head of its queue ends when its counter has reached its threshold, earlier waiters counted. -/
theorem exec_qwait_satisfied {q : Fin 3} {e : QEntry} {es : List QEntry} (hqueue : (s.arr p.val).queue q.val = e :: es)
    (hop : e.op = .qwait k thr) (hruns : (s.arr p.val).runs = true) (hctr : thr + (s.arr p.val).takenBefore q.val k ≤ (s.arr p.val).ctr k) :
    exec (.qwaitSatisfied p q) s = .next ((s.setArr p.val (((s.arr p.val).ctrSub k thr).setQueue q.val es)).advanceQ p.val) := by
  simp only [exec_qwaitSatisfied, execQwaitSatisfied, hqueue, hop, hruns, hctr, and_self, if_true]

end

/-- Settles O26: one lemma for each instruction, and one for each wait that ends. -/
theorem ctrlSyncResults : Obligations.CtrlSyncResults := by
  unfold Obligations.CtrlSyncResults
  intro p s t d a b k thr hd ha hb hk hpos hthr c src
  refine ⟨fun imm h hallowed => ?_, fun hb0 h hallowed => ?_, exec_ctrlWait hk hpos hthr rfl, exec_cntRd_reads hd hk rfl,
    fun q hq => exec_qwait_enters hq hk hpos hthr rfl, exec_ctrlWait_satisfied, fun q e es => exec_qwait_satisfied⟩
  · exact exec_ctrlSig ha (by omega) imm.isLt (.inl rfl) (toSigned_toNat imm) h hallowed
  · refine exec_ctrlSig ha hb (by omega) (.inr rfl) ?_ h hallowed
    rw [if_neg hb0, toSigned_eq_toInt, Ctrl.setWidth_s]

end Sys2Proof.Machine

/-!
Check, context and ordering instructions of a controller (06_control_isa R197, R221 to R223), and O27.
-/
namespace Sys2Proof.Machine

section
variable {p : ArrayId} {s t : State} {a : Nat}

theorem exec_chkMode_sets (ha : a < 32) (h : s.ctrlAt p (wordG 0x1F 0 a 0 0) t) : exec (.chkMode p (wordG 0x1F 0 a 0 0)) s =
    .next (t.ctrlDone p { t.ac p with
      chkLevel := (((t.ac p).s a).setWidth 2).toNat, chkNext := (t.ac p).chkNext || ((t.ac p).s a).getLsbD 2 }) := by
  have hf : FieldsG 0x1F 0 a 0 0 := by omega
  rw [exec_ctrlGate h (exec_chkMode ..) (by simp (disch := omega) [wordG_and]) (by simp (disch := omega) [wordG_and]) (Nat.and_zero _),
    BitVec.toNat_setWidth, ← BitVec.testBit_toNat, Ctrl.s_toNat]
  simp only [sA_wordG hf]
  exact congrArg _ (State.ctrlSet_eq rfl)

/-- R221: chk.commit ends at once when the controller's work has committed, and blocks otherwise. -/
theorem exec_chkCommit_ends (h : s.ctrlAt p (wordG 0x1F 0 0 0 1) t) : exec (.chkCommit p (wordG 0x1F 0 0 0 1)) s =
    .next (if (t.arr p.val).allCommitted then t.ctrlDone p { t.ac p with blocked := .no }
      else t.modCtrl p.val (fun c => { c with blocked := .commit false })) := by
  have hdone : t.commitDone p.val false = (t.arr p.val).allCommitted := Bool.and_true _
  have hend : t.commitEnd p.val false = t.ctrlDone p { t.ac p with blocked := .no } := State.ctrlSet_eq rfl
  rw [exec_ctrlGate h (exec_chkCommit ..) (by decide) (by decide) (by decide), State.chkCommit, hdone, hend]

theorem State.commitDone_step_iff (t : State) (p : Nat) : t.commitDone p true = true ↔
    (t.arr p).allCommitted = true ∧ t.lagFull (t.arr p).ctrl.ctx = false := by
  rw [State.commitDone, Bool.and_eq_true, Bool.true_and, Bool.not_eq_true']

/-- R221, R362: chk.commit.step closes the step besides, and waits for room for it. -/
theorem exec_chkCommitStep_ends (h : s.ctrlAt p (wordG 0x1F 0 0 0 2) t) : exec (.chkCommitStep p (wordG 0x1F 0 0 0 2)) s =
    .next (if (t.arr p.val).allCommitted = true ∧ t.lagFull (t.ac p).ctx = false
      then t.ctrlDone p { t.ac p with
        blocked := .no, closed := (t.ac p).closed ++ [((t.ac p).step, (t.ac p).wdig)], wdig := 0, step := (t.ac p).step + 1 }
      else t.modCtrl p.val (fun c => { c with blocked := .commit true })) := by
  have hend : t.commitEnd p.val true = t.ctrlDone p { t.ac p with
      blocked := .no, closed := (t.ac p).closed ++ [((t.ac p).step, (t.ac p).wdig)], wdig := 0, step := (t.ac p).step + 1 } := State.ctrlSet_eq rfl
  rw [exec_ctrlGate h (exec_chkCommitStep ..) (by decide) (by decide) (by decide), State.chkCommit, hend]
  simp only [State.commitDone_step_iff]
  rfl

theorem exec_chkCommit_released {step : Bool} (hblocked : (s.arr p.val).ctrl.blocked = .commit step)
    (hstate : (s.arr p.val).ctrl.state = 1) (hruns : (s.arr p.val).runs = true) (hdone : s.commitDone p.val step = true) :
    exec (.chkCommitRelease p) s = .next (s.commitEnd p.val step) := by
  simp only [exec_chkCommitRelease, execChkCommitRelease, hblocked, hstate, hruns, hdone, and_self, if_true]

/-- An instruction without operands that only changes the controller. -/
theorem exec_ctrlPlain {i : Instr} {w : Word} {mask mtch range0 must0 : Nat} {f : Ctrl → Ctrl} {c : Ctrl} (h : s.ctrlAt p w t)
    (hi : exec i s = .next (ctrlGate p w none ctrlKnown mask mtch range0 must0 s (fun s => s.ctrlSet p.val f)))
    (hm : w.toNat &&& mask = mtch) (h0 : w.toNat &&& must0 = 0) (h1 : w.toNat &&& range0 = 0) (hc : f (t.ac p) = c) :
    exec i s = .next (t.ctrlDone p c) := by
  rw [exec_ctrlGate h hi hm h0 h1, State.ctrlSet_eq hc]

/-- R222: fault raises its code, and with a bit of srcB set it is an illegal instruction. -/
theorem exec_softFault_raises {code b : Nat} {w : Word} (hcode : code < 2 ^ 10) (hb : b < 32)
    (hw : w = BitVec.ofNat 32 (code * 2 ^ 16 + b * 2 ^ 11 + 3)) (h : s.ctrlAt p w t) :
    exec (.softFault p w) s = .next (if b = 0 then t.issueFault p.val 0x8C 0 w 0 0xFF (code * 32) 0
      else t.issueFault p.val 0x80 3 w 0 0xFF 0 0) := by
  have hw : w.toNat = code * 2 ^ 16 + b * 2 ^ 11 + 3 := by rw [hw, BitVec.toNat_ofNat]; omega
  have hopcode : w.toNat &&& 0xFC0007FF = 0x00000003 := (and_opcode (n := 11) (lo := 0) w.isLt (by omega)).trans (by omega)
  have hsrcB : w.toNat &&& 0x0000F800 = b * 2 ^ 11 := (and_field w.toNat 5 11).trans (by omega)
  by_cases hb0 : b = 0
  · have hbits : bitsOf w.toNat 25 11 = code * 32 := by rw [bitsOf, Nat.shiftRight_eq_div_pow]; omega
    rw [if_pos hb0, exec_ctrlGate h (exec_softFault ..) hopcode (hsrcB.trans (by omega)) (Nat.and_zero _), hbits]
  · rw [if_neg hb0, exec_softFault, execSoftFault, ctrlGate_reserved h hopcode (by omega)]
    rfl

/-- R223: the fences, with their kind. -/
noncomputable def ctrlFences : List ((ArrayId → Word → Instr) × Nat) :=
  [(.fenceSt, 0x10), (.fenceArr, 0x11), (.fenceVec, 0x12), (.fenceDma, 0x13), (.fenceAll, 0x15)]

theorem ctrlFences_exec : ∀ r ∈ ctrlFences,
    (∀ p w s, exec (r.1 p w) s = .next (ctrlGate p w none ctrlKnown 0xFC0007FF r.2 0 0x03FFF800 s (fun s => s.fence p.val r.2))) ∧
      r.2 < 2048 := by
  simp only [ctrlFences, List.forall_mem_cons]
  exact ⟨⟨fun _ _ _ => rfl, by decide⟩, ⟨fun _ _ _ => rfl, by decide⟩, ⟨fun _ _ _ => rfl, by decide⟩, ⟨fun _ _ _ => rfl, by decide⟩,
    ⟨fun _ _ _ => rfl, by decide⟩, nofun⟩

theorem exec_ctrlFence {r : (ArrayId → Word → Instr) × Nat} (hr : r ∈ ctrlFences) (h : s.ctrlAt p (wordG 0 0 0 0 r.2) t) :
    exec (r.1 p (wordG 0 0 0 0 r.2)) s = .next (t.fence p.val r.2) := by
  obtain ⟨hexec, hkind⟩ := ctrlFences_exec r hr
  have hf : FieldsG 0 0 0 0 r.2 := by omega
  exact exec_ctrlGate h (hexec ..) ((wordG_major_fn hf).trans (by omega)) (by simp (disch := omega) [wordG_and]) (Nat.and_zero _)

/-- R223: every fence but fence.st drops the data cache as it ends. -/
theorem State.fenceEnd_eq (u : State) (p : ArrayId) (kind : Nat) : u.fenceEnd p.val kind = u.ctrlDone p
    (if kind = 0x10 then { u.ac p with blocked := .no } else { u.ac p with blocked := .no, dcache := [] }) := State.ctrlSet_eq rfl

theorem exec_fence_ends {kind : Nat} (hblocked : (s.arr p.val).ctrl.blocked = .fence kind) (hstate : (s.arr p.val).ctrl.state = 1)
    (hruns : (s.arr p.val).runs = true) (hholds : s.fenceHolds p.val kind = true) :
    exec (.fenceRelease p) s = .next (s.fenceEnd p.val kind) := by
  simp only [exec_fenceRelease, execFenceRelease, hblocked, hstate, hruns, hholds, and_self, if_true]

end

/-- Settles O27: one lemma for each instruction, and one for each wait that ends. -/
theorem ctrlCheckAndOrder : Obligations.CtrlCheckAndOrder := by
  unfold Obligations.CtrlCheckAndOrder
  intro p s t a ha c
  refine ⟨exec_chkMode_sets ha, exec_chkCommit_ends, exec_chkCommitStep_ends, fun step => exec_chkCommit_released,
    fun h => exec_ctrlPlain h (exec_yieldArray ..) (by decide) (by decide) (by decide) rfl,
    fun h => exec_ctrlPlain h (exec_endProgram ..) (by decide) (by decide) (by decide) rfl, fun code hcode => ?fault,
    fun code hcode b hpos hb => ?reserved, fun r hr h => ?fence, fun k => exec_fence_ends,
    fun h => exec_ctrlPlain h (exec_fenceI ..) (by decide) (by decide) (by decide) rfl,
    fun h => exec_ctrlPlain h (exec_cinv ..) (by decide) (by decide) (by decide) rfl⟩
  case fault => exact fun h => (exec_softFault_raises (b := 0) hcode (by decide) (congrArg (BitVec.ofNat 32) (by omega)) h).trans (by rw [if_pos rfl])
  case reserved => exact fun h => (exec_softFault_raises hcode hb rfl h).trans (by rw [if_neg (by omega)])
  case fence =>
    rw [exec_ctrlFence hr h, State.fence]
    simp only [State.fenceEnd_eq]

end Sys2Proof.Machine

/-!
The instructions that enter the array queue (06_control_isa R191, R204 to R212, R219, R224, R225): their checks, their operands, and the queue; O28.
-/
namespace Sys2Proof.Machine

/-! Checks at issue that pass (R201, R204, R205). -/

theorem failAt_eq_none {c : Bool} {code detail reg addr : Nat} (h : c = false) : failAt c code detail reg addr = none := by rw [h]; rfl

theorem fmtCheck_eq_none {code reg : Nat} {role : Fmt → Bool} (h : (fmtOfCode code).any role = true) : fmtCheck code role reg = none := by
  unfold fmtCheck
  cases hf : fmtOfCode code with
  | none => rw [hf] at h; exact absurd h Bool.false_ne_true
  | some f => rw [hf] at h; exact if_pos h

theorem fmtOfCode_any {code : Nat} {role : Fmt → Bool} (hsome : (fmtOfCode code).isSome = true) (hrole : role (fmtOr code) = true) :
    (fmtOfCode code).any role = true := by
  obtain ⟨f, hf⟩ := Option.isSome_iff_exists.mp hsome
  rw [fmtOr, hf] at hrole
  rw [hf]
  exact hrole

theorem descCheck_eq_none {d : Desc} {layout reg : Nat} (hfmt : d.fmt.isSome = true) (hfault : d.fault = none) (hlayout : d.layout = layout) :
    ∀ c ∈ descCheck d layout reg, c = none := by
  simp only [descCheck, List.forall_mem_cons, hfault]
  refine ⟨failIf_eq_none ?_, trivial, failIf_eq_none (decide_eq_false (not_not.mpr hlayout)), nofun⟩
  rw [← Option.not_isSome, hfmt]; rfl

theorem descCheck_of_goodDesc {d : BitVec 512} {layout : Nat} (reg : Nat) (h : goodDesc d layout) :
    ∀ c ∈ descCheck (descOf d) layout reg, c = none := by
  obtain ⟨hfmt, hfault, hlayout, -⟩ := h
  exact descCheck_eq_none hfmt hfault hlayout

theorem State.parkChecks_eq_none {s : State} {ctx slot scale reg : Nat} (hlow : (s.parkAlloc ctx).1 ≤ slot)
    (hhigh : slot < (s.parkAlloc ctx).1 + (s.parkAlloc ctx).2) (halign : scale % 64 = 0) : ∀ c ∈ s.parkChecks ctx slot scale reg, c = none := by
  simp only [State.parkChecks, List.forall_mem_cons]
  exact ⟨failIf_eq_none (decide_eq_false (by omega)), failAt_eq_none (decide_eq_false (not_not.mpr halign)), nofun⟩

/-! Fields of a scalar register. -/

theorem Ctrl.bitsOf_sget (c : Ctrl) (i hi lo : Nat) : bitsOf (c.sget i) hi lo = ((c.s i >>> lo).setWidth (hi + 1 - lo)).toNat := by
  rw [← Ctrl.s_toNat, bitsOf_toNat]

theorem Ctrl.bitsOf_sget_low (c : Ctrl) (i hi : Nat) : bitsOf (c.sget i) hi 0 = ((c.s i).setWidth (hi + 1)).toNat := by
  rw [Ctrl.bitsOf_sget, BitVec.ushiftRight_zero, Nat.sub_zero]

/-! Entering a queue (R191, R219, R224, R225). -/

/-- What an instruction that enters a queue leaves in its array. -/
def ArrayState.entered (a : ArrayState) (q : Nat) (w0 w1 : Word) (osn : Nat) (launchable : Bool) (op : QOp) : ArrayState :=
  let a := a.usedBy q
  { a.setQueue q (a.queue q ++ [{
      seq := a.ctrl.seq + 1, pc := a.ctrl.pc.toNat, w0 := w0, w1 := w1, osn := osn
      launch := if launchable then a.ctrl.launch else none, late := if launchable then a.ctrl.launchLate else [], op := op }]) with
    ctrl := { a.ctrl with
      seq := a.ctrl.seq + 1, launch := if launchable then none else a.ctrl.launch
      launchLate := if launchable then [] else a.ctrl.launchLate } }

section
variable {t : State} {p : ArrayId} {q len osn : Nat} {w0 w1 : Word} {launchable : Bool} {op : QOp}

/-- R224: once its posted stores are performed, an instruction goes on. -/
theorem State.afterStores_done {k : State → State} (hstate : ((t.drainStores p.val).arr p.val).ctrl.state = 1)
    (hstores : (t.drainStores p.val).storesDone p.val = true) : t.afterStores p.val k = k (t.drainStores p.val) := by
  rw [State.afterStores, if_neg (not_not.mpr hstate), hstores, Bool.not_true, if_neg Bool.false_ne_true]

/-- R224: an instruction whose controller's stores are performed goes on to its queue. -/
theorem State.enqueue_after_stores (hstate : ((t.drainStores p.val).ac p).state = 1) (hstores : (t.drainStores p.val).storesDone p.val = true) :
    t.enqueue p.val q w0 w1 len osn launchable op = (t.drainStores p.val).withRoom p.val q
      (fun u => ((u.modArr p.val (fun a => a.entered q w0 w1 osn launchable op)).ctrlNext p.val len).advanceQ p.val) := by
  rw [State.enqueue, State.enqueueWith, State.afterStores_done hstate hstores]
  simp only [State.modArr, ArrayState.entered, ArrayState.setQueue_ctrl, id]

/-- R191, R219: in a queue with room an instruction is appended. -/
theorem State.enqueue_enters (h : t.queueRoom p q) : t.enqueue p.val q w0 w1 len osn launchable op =
    (((t.drainStores p.val).modArr p.val (fun a => a.entered q w0 w1 osn launchable op)).ctrlNext p.val len).advanceQ p.val := by
  obtain ⟨hstate, hstores, hroom⟩ := h
  rw [State.enqueue_after_stores hstate hstores, State.withRoom, if_neg (Nat.not_le.mpr hroom)]

/-- R225: a full queue stalls an instruction. -/
theorem State.enqueue_stalls (hstate : ((t.drainStores p.val).ac p).state = 1) (hstores : (t.drainStores p.val).storesDone p.val = true)
    (hfull : queueBound q ≤ (((t.drainStores p.val).arr p.val).queue q).length) :
    t.enqueue p.val q w0 w1 len osn launchable op = (t.drainStores p.val).stallIssue p.val (q + 1) := by
  rw [State.enqueue_after_stores hstate hstores, State.withRoom, if_pos hfull]

end

/-! load, unpark, swap and the core-mode commands. -/

section
variable {p : ArrayId} {s t : State} {r a : Nat}

/-- R205: load and load.s go on to their checks. -/
theorem exec_load_issues {shadow park : Bool} {w : Word} (hr : r < 16) (ha : a < 32)
    (hw : w = wordG 0x20 r a 0 (shadow.toNat * 2 ^ 8 + park.toNat * 2 ^ 7)) (h : s.ctrlAt p w t) :
    exec (if shadow then .loadS p w else .loadBlock p w) s = .next (t.issueLoad p.val w shadow) := by
  have hs := shadow.toNat_lt
  have hp := park.toNat_lt
  have hf : FieldsG 0x20 r a 0 (shadow.toNat * 2 ^ 8 + park.toNat * 2 ^ 7) := by omega
  have hopcode : w.toNat &&& 0xFC000700 = 0x80000000 + shadow.toNat * 2 ^ 8 :=
    (and_opcode (n := 3) (lo := 8) w.isLt (by omega)).trans (by rw [hw, hf.toNat]; omega)
  have hzero : w.toNat &&& maskOf [(11, 5), (0, 7)] = 0 := and_maskOf (by rw [hw, hf.toNat]; simp; omega)
  have hrange : w.toNat &&& maskOf [(25, 1)] = 0 := and_maskOf (by rw [hw, hf.toNat]; simp; omega)
  cases shadow with
  | false => exact exec_ctrlGate h (exec_loadBlock ..) hopcode hzero hrange
  | true => exact exec_ctrlGate h (exec_loadS ..) hopcode hzero hrange

/-- R205: a load that no check refuses enters the array queue. -/
theorem State.issueLoad_enters {shadow park : Bool} {w : Word} {slot scale : Nat} (hr : bitsOf w.toNat 24 21 = r) (ha : sA w = a)
    (hpark : w.toNat.testBit 7 = park) (hslot : bitsOf ((t.ac p).sget a) 7 0 = slot) (hscale : bitsOf ((t.ac p).sget a) 55 8 = scale)
    (hdesc : goodDesc ((t.ac p).dget r) 1) (hrole : fmtOperand (fmtOr (descOf ((t.ac p).dget r)).code) = true)
    (hfp32 : shadow = true → (descOf ((t.ac p).dget r)).fmt ≠ some .fp32) (hblock : blockDims (descOf ((t.ac p).dget r)) = true)
    (hfits : park = true → (t.parkAlloc (t.ac p).ctx).1 ≤ slot ∧ slot < (t.parkAlloc (t.ac p).ctx).1 + (t.parkAlloc (t.ac p).ctx).2 ∧ scale % 64 = 0) :
    t.issueLoad p.val w shadow = t.enqueue p.val 0 w 0 4 0 false (.load shadow ((t.ac p).dget r) park slot scale) := by
  obtain ⟨hfmt, hfault, hlayout, hflat⟩ := hdesc
  have hshadow : (shadow && decide ((descOf ((t.ac p).dget r)).fmt = some .fp32)) = false := by
    cases shadow with
    | false => rfl
    | true => exact decide_eq_false (hfp32 rfl)
  have hpassed : ∀ c ∈ (if park then t.parkChecks (t.ac p).ctx slot scale a else []), c = none := by
    cases park with
    | false => exact nofun
    | true =>
      obtain ⟨hlow, hhigh, halign⟩ := hfits rfl
      exact State.parkChecks_eq_none hlow hhigh halign
  unfold State.issueLoad
  rw [State.checked_pass]
  · simp only [hr, ha, hpark]
    rw [← hslot, ← hscale]
    rfl
  · simp only [hr, ha, hpark, List.forall_mem_append, List.forall_mem_cons]
    subst hslot hscale
    exact ⟨⟨descCheck_eq_none hfmt hfault hlayout, fmtCheck_eq_none (fmtOfCode_any hfmt hrole), failIf_eq_none hshadow,
      failIf_eq_none (by rw [Bool.not_eq_false']; exact hflat), failIf_eq_none (by rw [Bool.not_eq_false']; exact hblock), nofun⟩, hpassed⟩

theorem exec_unpark_enters {slot scale : Nat} (ha : a < 32) (h : s.ctrlAt p (wordG 0x20 0 a 0 0x200) t)
    (hslot : bitsOf ((t.ac p).sget a) 7 0 = slot) (hscale : bitsOf ((t.ac p).sget a) 55 8 = scale)
    (hlow : (t.parkAlloc (t.ac p).ctx).1 ≤ slot) (hhigh : slot < (t.parkAlloc (t.ac p).ctx).1 + (t.parkAlloc (t.ac p).ctx).2)
    (halign : scale % 64 = 0) : exec (.unpark p (wordG 0x20 0 a 0 0x200)) s =
      .next (t.enqueue p.val 0 (wordG 0x20 0 a 0 0x200) 0 4 0 false (.unpark slot scale)) := by
  have hf : FieldsG 0x20 0 a 0 0x200 := by omega
  subst hslot hscale
  rw [exec_ctrlGate h (exec_unpark ..) (by simp (disch := omega) [wordG_and]) (by simp (disch := omega) [wordG_and])
    (by simp (disch := omega) [wordG_and])]
  simp only [sA_wordG hf]
  exact congrArg _ (State.checked_pass (State.parkChecks_eq_none hlow hhigh halign))

theorem exec_swap_enters (h : s.ctrlAt p (wordG 0x19 0 0 0 0) t) : exec (.swapSets p (wordG 0x19 0 0 0 0)) s =
    .next (t.enqueue p.val 0 (wordG 0x19 0 0 0 0) 0 4 0 false .swap) :=
  exec_ctrlGate h (exec_swapSets ..) (by decide) (by decide) (by decide)

/-- R212: core.load of a program that fits in a rectangle of cores. -/
theorem exec_coreLoad_enters {n r0 r1 c0 c1 : Nat} {w1 : Word} (ha : a < 32) (hpos : 1 ≤ n) (hn : n ≤ 64) (hr : r0 ≤ r1) (hr1 : r1 < 256)
    (hc : c0 ≤ c1) (hc1 : c1 < 256) (hslate : (t.slAlloc (t.ac p).ctx).2 ≠ 0) (halign : (t.ac p).sget a % 4 = 0)
    (hw1 : w1 = BitVec.ofNat 32 (r0 + r1 * 2 ^ 8 + c0 * 2 ^ 16 + c1 * 2 ^ 24)) (h : s.ctrlAt2 p (wordG 0x3E 0 a 0 n) w1 t) :
    exec (.coreLoad p (wordG 0x3E 0 a 0 n) w1) s =
      .next (t.enqueue p.val 0 (wordG 0x3E 0 a 0 n) w1 8 0 false (.coreLoad ((t.ac p).sget a) n r0 r1 c0 c1)) := by
  have hf : FieldsG 0x3E 0 a 0 n := by omega
  have hw1 : w1.toNat = r0 + r1 * 2 ^ 8 + c0 * 2 ^ 16 + c1 * 2 ^ 24 := by rw [hw1, BitVec.toNat_ofNat]; omega
  have hbits : bitsOf w1.toNat 7 0 = r0 ∧ bitsOf w1.toNat 15 8 = r1 ∧ bitsOf w1.toNat 23 16 = c0 ∧ bitsOf w1.toNat 31 24 = c1 := by
    simp only [bitsOf, Nat.shiftRight_eq_div_pow]; omega
  obtain ⟨hr0b, hr1b, hc0b, hc1b⟩ := hbits
  have hwords : bitsOf (wordG 0x3E 0 a 0 n).toNat 6 0 = n := by rw [bitsOf_wordG hf (by omega), bitsOf_low (by omega)]
  have hzero : (wordG 0x3E 0 a 0 n).toNat &&& maskOf [(21, 5), (11, 5), (7, 4)] = 0 := and_maskOf (by rw [hf.toNat]; simp; omega)
  have hrect : (decide (r1 < r0 ∨ c1 < c0 ∨ n = 0 ∨ 64 < n) || (t.slAlloc (t.ac p).ctx).2 == 0) = false := by
    rw [Bool.or_eq_false_iff, decide_eq_false_iff_not, beq_eq_false_iff_ne]
    exact ⟨by omega, hslate⟩
  rw [exec_ctrlGate2 h (exec_coreLoad ..) (wordG_major hf) hzero (Nat.and_zero _)]
  simp only [sA_wordG hf, hwords, hr0b, hr1b, hc0b, hc1b]
  refine congrArg _ (State.checked_pass ?_)
  simp only [List.forall_mem_cons]
  exact ⟨failIf_eq_none hrect, failAt_eq_none (decide_eq_false (not_not.mpr halign)), nofun⟩

theorem exec_coreRun_enters (ha : a < 32) (h : s.ctrlAt p (wordG 0x19 0 a 0 2) t) : exec (.coreRun p (wordG 0x19 0 a 0 2)) s =
    .next (t.enqueue p.val 0 (wordG 0x19 0 a 0 2) 0 4 0 true (.coreRun (((t.ac p).s a).setWidth 32))) := by
  have hf : FieldsG 0x19 0 a 0 2 := by omega
  rw [exec_ctrlGate h (exec_coreRun ..) (wordG_major_fn hf) (by simp (disch := omega) [wordG_and]) (Nat.and_zero _), sA_wordG hf,
    Ctrl.setWidth_s]
  rfl

/-- R144, R212: core.stop stops a run, and without a run does nothing. -/
theorem exec_coreStop_stops (h : s.ctrlAt p (wordG 0x19 0 0 0 3) t) : exec (.coreStop p (wordG 0x19 0 0 0 3)) s =
    .next (if (t.arr p.val).run.running
      then ((t.ctrlNext p.val 4).modArr p.val (fun a => { a with run := { a.run with stopped := true } })).stopRun p.val false
      else t.ctrlNext p.val 4) := by
  have hrun : ((t.ctrlNext p.val 4).arr p.val).run = (t.arr p.val).run := by
    rw [State.ctrlNext, State.bump64_arr, State.modCtrl, State.arr_modArr_same]
  rw [exec_ctrlGate h (exec_coreStop ..) (by decide) (by decide) (by decide)]
  simp only [hrun]

end

/-- Settles O28: one lemma for each instruction, and the two ways an instruction finds its queue. -/
theorem arrayCommandsIssue : Obligations.ArrayCommandsIssue := by
  unfold Obligations.ArrayCommandsIssue
  intro p s t r a hr ha c slot scale parkFits
  have hslot : bitsOf ((t.ac p).sget a) 7 0 = slot := Ctrl.bitsOf_sget_low _ _ _
  have hscale : bitsOf ((t.ac p).sget a) 55 8 = scale := Ctrl.bitsOf_sget _ _ _ _
  refine ⟨fun shadow park => ?load, fun h hfits => ?unpark, exec_swap_enters, fun n r0 r1 c0 c1 hpos hn hr hr1 hc hc1 hslate halign => ?coreLoad,
    exec_coreRun_enters ha, fun h hrun => ?stop, fun h hrun => ?idle, fun q w0 w1 len osn launchable op => ⟨State.enqueue_enters, ?full⟩⟩
  case load =>
    intro w h hdesc hrole hfp32 hblock hfits
    have hw : w = wordG 0x20 r a 0 (shadow.toNat * 2 ^ 8 + park.toNat * 2 ^ 7) := congrArg (BitVec.ofNat 32) (by omega)
    have hs := shadow.toNat_lt
    have hp := park.toNat_lt
    have hf : FieldsG 0x20 r a 0 (shadow.toNat * 2 ^ 8 + park.toNat * 2 ^ 7) := by omega
    have hreg : bitsOf w.toNat 24 21 = r := by rw [hw, hf.toNat, bitsOf, Nat.shiftRight_eq_div_pow]; omega
    have hpark : w.toNat.testBit 7 = park := testBit_of_field (by rw [hw, hf.toNat]; omega)
    rw [exec_load_issues hr ha hw h,
      State.issueLoad_enters hreg (by rw [hw, sA_wordG hf]) hpark hslot hscale hdesc hrole hfp32 hblock hfits]
  case unpark =>
    obtain ⟨hlow, hhigh, halign⟩ := hfits
    exact exec_unpark_enters ha h hslot hscale hlow hhigh halign
  case coreLoad =>
    rw [Ctrl.s_toNat] at halign ⊢
    exact exec_coreLoad_enters ha hpos hn hr hr1 hc hc1 hslate halign rfl
  case stop => rw [exec_coreStop_stops h, if_pos hrun]
  case idle => rw [exec_coreStop_stops h, hrun, if_neg Bool.false_ne_true]
  case full => exact State.enqueue_stalls

end Sys2Proof.Machine

/-!
drain, pass, gang.cfg and reduce (06_control_isa R201, R207 to R211), and O29.
-/
namespace Sys2Proof.Machine

theorem forall_eq_none_of_all {cs : List IssueCheck} (h : cs.all (·.isNone) = true) : ∀ c ∈ cs, c = none :=
  fun c hc => Option.isNone_iff_eq_none.mp (List.all_eq_true.mp h c hc)

/-- R207: an accumulator mode of 0 takes no input descriptor. -/
theorem drainChecks_unused (fmt rnd acc rO rI : Nat) (dO : Desc) (x : BitVec 512) :
    drainChecks fmt rnd acc dO (descOf (if acc = 0 then 0#512 else x)) rO rI = drainChecks fmt rnd acc dO (descOf x) rO rI := by
  by_cases h : acc = 0
  · simp only [drainChecks, if_pos h]
  · simp only [if_neg h]

section
variable {p : ArrayId} {s t : State} {a b x : Nat} {w0 w1 : Word}

/-- R207: a drain configuration that no check refuses. -/
theorem exec_drain_enters {rI fmt rnd acc : Nat} {sat chain : Bool} (hb : b < 16) (hrI : rI < 16) (hfmt : fmt < 32) (hrnd : rnd < 3)
    (hacc : acc < 3) (hunused : acc = 0 → rI = 0) (hw0 : w0 = BitVec.ofNat 32 (0x39 * 2 ^ 26 + b * 2 ^ 21 + rI * 2 ^ 17))
    (hw1 : w1 = BitVec.ofNat 32 (fmt + rnd * 2 ^ 5 + sat.toNat * 2 ^ 7 + acc * 2 ^ 8 + chain.toNat * 2 ^ 10)) (h : s.ctrlAt2 p w0 w1 t)
    (hchecks : (drainChecks fmt rnd acc (descOf ((t.ac p).dget b)) (descOf ((t.ac p).dget rI)) b rI).all (·.isNone) = true) :
    exec (.drain p w0 w1) s = .next (t.enqueueWith p.val 0 w0 w1 8 0 false .drainCfg (fun k => { k with drain := some ⟨(t.ac p).dget b,
      if acc = 0 then 0#512 else (t.ac p).dget rI, fmtOr fmt, rndOr rnd, sat, acc, chain, b, if acc = 0 then 0xFF else rI⟩ })) := by
  have hs := sat.toNat_lt
  have hc := chain.toNat_lt
  have hw0 : w0.toNat = 0x39 * 2 ^ 26 + b * 2 ^ 21 + rI * 2 ^ 17 := by rw [hw0, BitVec.toNat_ofNat]; omega
  have hw1 : w1.toNat = fmt + rnd * 2 ^ 5 + sat.toNat * 2 ^ 7 + acc * 2 ^ 8 + chain.toNat * 2 ^ 10 := by rw [hw1, BitVec.toNat_ofNat]; omega
  have hbits : bitsOf w0.toNat 24 21 = b ∧ bitsOf w0.toNat 20 17 = rI ∧ bitsOf w1.toNat 4 0 = fmt ∧ bitsOf w1.toNat 6 5 = rnd ∧
      bitsOf w1.toNat 9 8 = acc ∧ bitsOf w1.toNat 31 11 = 0 := by
    simp only [bitsOf, Nat.shiftRight_eq_div_pow]; omega
  obtain ⟨hdO, hdI, hfmtb, hrndb, haccb, hreserved⟩ := hbits
  have hsat : w1.toNat.testBit 7 = sat := testBit_of_field (by omega)
  have hchain : w1.toNat.testBit 10 = chain := testBit_of_field (by omega)
  have hopcode : w0.toNat &&& 0xFC000000 = 0xE4000000 := (and_opcode (n := 0) (lo := 0) w0.isLt (by omega)).trans (by omega)
  have hzero : w0.toNat &&& maskOf [(0, 17)] = 0 := and_maskOf (by simp; omega)
  have hrange : w0.toNat &&& maskOf [(25, 1)] = 0 := and_maskOf (by simp; omega)
  rw [exec_ctrlGate2 h (exec_drain ..) hopcode hzero hrange]
  simp only [hdO, hdI, hfmtb, hrndb, haccb, hsat, hchain, hreserved]
  refine congrArg _ (State.checked_pass ?_)
  rw [drainChecks_unused]
  simp only [List.forall_mem_append, List.forall_mem_cons]
  refine ⟨⟨failIf_eq_none ?_, failIf_eq_none (beq_eq_false_iff_ne.mpr (by omega)), nofun⟩, forall_eq_none_of_all hchecks⟩
  by_cases h0 : acc = 0
  · rw [hunused h0]; simp
  · simp [h0]

/-- The fields of the two words of a pass. -/
structure PassFields (w0 w1 : Word) (x a b phase fa fw : Nat) (wsrc gend : Bool) (anchor : BitVec 10) : Prop where
  extent : sD w0 = x
  base : sA w0 = a
  desc : bitsOf w0.toNat 15 12 = b
  source : w0.toNat.testBit 10 = wsrc
  groupEnd : w0.toNat.testBit 9 = gend
  phase : bitsOf w1.toNat 31 24 = phase
  actFmt : bitsOf w1.toNat 23 19 = fa
  weightFmt : bitsOf w1.toNat 18 14 = fw
  anchor : bitsOf w1.toNat 9 0 = anchor.toNat
  reserved : bitsOf w1.toNat 13 10 = 0

theorem passFields {phase fa fw : Nat} {trans wsrc gend : Bool} {anchor : BitVec 10} (hx : x < 32) (ha : a < 32) (hb : b < 16)
    (hphase : phase < 256) (hfa : fa < 32) (hfw : fw < 32)
    (hw0 : w0.toNat = 0x38 * 2 ^ 26 + x * 2 ^ 21 + a * 2 ^ 16 + b * 2 ^ 12 + trans.toNat * 2 ^ 11 + wsrc.toNat * 2 ^ 10 + gend.toNat * 2 ^ 9)
    (hw1 : w1.toNat = phase * 2 ^ 24 + fa * 2 ^ 19 + fw * 2 ^ 14 + anchor.toNat) : PassFields w0 w1 x a b phase fa fw wsrc gend anchor := by
  have ht := trans.toNat_lt
  have hs := wsrc.toNat_lt
  have hg := gend.toNat_lt
  have hanchor := anchor.isLt
  have hbits : sD w0 = x ∧ sA w0 = a ∧ bitsOf w0.toNat 15 12 = b ∧ bitsOf w1.toNat 31 24 = phase ∧ bitsOf w1.toNat 23 19 = fa ∧
      bitsOf w1.toNat 18 14 = fw ∧ bitsOf w1.toNat 9 0 = anchor.toNat ∧ bitsOf w1.toNat 13 10 = 0 := by
    simp only [sD, sA, bitsOf, Nat.shiftRight_eq_div_pow]; omega
  obtain ⟨hxb, hab, hbb, hphaseb, hfab, hfwb, hanchorb, hreserved⟩ := hbits
  exact ⟨hxb, hab, hbb, testBit_of_field (by omega), testBit_of_field (by omega), hphaseb, hfab, hfwb, hanchorb, hreserved⟩

/-- R208: the word of a pass names pass or pass.t. -/
theorem exec_pass_issues {trans wsrc gend : Bool} (hx : x < 32) (ha : a < 32) (hb : b < 16) (hgend : gend = true → trans = true)
    (hw0 : w0.toNat = 0x38 * 2 ^ 26 + x * 2 ^ 21 + a * 2 ^ 16 + b * 2 ^ 12 + trans.toNat * 2 ^ 11 + wsrc.toNat * 2 ^ 10 + gend.toNat * 2 ^ 9)
    (h : s.ctrlAt2 p w0 w1 t) : exec (if trans then .passT p w0 w1 else .pass p w0 w1) s = .next (t.issuePass p.val w0 w1 trans) := by
  have ht := trans.toNat_lt
  have hs := wsrc.toNat_lt
  have hg := gend.toNat_lt
  have hopcode : w0.toNat &&& 0xFC000800 = 0xE0000000 + trans.toNat * 2 ^ 11 := (and_opcode (n := 1) (lo := 11) w0.isLt (by omega)).trans (by omega)
  cases trans with
  | true =>
    have hzero : w0.toNat &&& maskOf [(0, 9)] = 0 := and_maskOf (by simp; omega)
    exact exec_ctrlGate2 h (exec_passT ..) hopcode hzero (Nat.and_zero _)
  | false =>
    have hg0 : gend.toNat = 0 := by rw [Bool.eq_false_iff.mpr (fun hg => Bool.false_ne_true (hgend hg))]; rfl
    have hzero : w0.toNat &&& maskOf [(0, 10)] = 0 := and_maskOf (by simp; omega)
    exact exec_ctrlGate2 h (exec_pass ..) hopcode hzero (Nat.and_zero _)

theorem maxRows_le (trans : Bool) (f : Fmt) : maxRows trans f ≤ 4096 := by
  unfold maxRows
  split
  · exact (Nat.div_le_self ..).trans (by decide)
  · exact Nat.le_refl _

theorem passDrainCheck_eq_none {d : DrainSet} {split : Nat} (h : split = 3 → d.fmt = .record) : passDrainCheck (some d) split = none := by
  refine failIf_eq_none ?_
  by_cases h3 : split = 3
  · simp [h h3]
  · simp [h3]

theorem sumTo_eq_sum (n : Nat) (f : Nat → Nat) : sumTo n f = ((List.range n).map f).sum := by
  rw [sumTo, List.sum_eq_foldl, List.foldl_map]

/-- R209: the rows of a member of a gang. -/
def GangSet.share (g : GangSet) (m i : Nat) : Nat := if g.split = 1 then memberRows m (2 ^ g.log2) i else m

/-- R191, R208, R209: what a pass captures at issue, by the fields of its words: m rows and the bases of the whole, of which it takes its
member's. -/
def State.passOp (t : State) (p : ArrayId) (d : DrainSet) (x a b phase fa fw : Nat) (trans wsrc gend : Bool) (anchor : BitVec 10) : PassOp :=
  let c := t.ac p
  let g := c.gang
  let m := bitsOf (c.sget x) 47 32 + 1
  let m0 := bitsOf (c.sget a) 31 0
  let n0 := bitsOf (c.sget a) 63 32
  let rank := t.gangRank p.val g
  let base := if g.split = 1 then m0 + memberBase m (2 ^ g.log2) rank else m0
  let col := if g.split = 2 then n0 + 256 * rank else n0
  let level := t.effLevel p.val c.ctx c.chkLevel
  { osn := bitsOf (c.sget x) 31 0, rows := g.share m rank, m0 := base, n0 := col, dA := c.dget b, trans := trans, wsrc := wsrc, gend := gend
    phase := phase, fa := fmtOr fa, fw := fmtOr fw, anchor := anchor.toInt, drain := d, gang := g, rank := rank, level := level
    replay := t.replaySelected c.ctx level (bitsOf (c.sget x) 31 0) base col c.chkNext }

/-- R208, R209: a pass that no check refuses enters the array queue. -/
theorem State.issuePass_enters {phase fa fw : Nat} {trans wsrc gend : Bool} {anchor : BitVec 10} {d : DrainSet}
    (hfields : PassFields w0 w1 x a b phase fa fw wsrc gend anchor) (hdrain : (t.ac p).drain = some d)
    (hfa : (fmtOfCode fa).any fmtOperand = true) (hfw : (fmtOfCode fw).any fmtOperand = true) (hpair : pairAllowed (fmtOr fa) (fmtOr fw) = true)
    (hdesc : goodDesc ((t.ac p).dget b) 0) (hmx : fmtMx (fmtOr fa) = true → (descOf ((t.ac p).dget b)).mxAxis = 0)
    (hrows : (t.ac p).gang.share (bitsOf ((t.ac p).sget x) 47 32 + 1) (t.gangRank p.val (t.ac p).gang) ≤ maxRows trans (fmtOr fw))
    (hbase : bitsOf ((t.ac p).sget a) 31 0 + (bitsOf ((t.ac p).sget x) 47 32 + 1) ≤ 2 ^ 32) (hrecord : (t.ac p).gang.split = 3 → d.fmt = .record) :
    t.issuePass p.val w0 w1 trans = t.enqueueWith p.val 0 w0 w1 8 (t.passOp p d x a b phase fa fw trans wsrc gend anchor).osn true
      (.pass (t.passOp p d x a b phase fa fw trans wsrc gend anchor)) (fun k => { k with chkNext := false }) := by
  obtain ⟨hx, ha, hb, hsource, hend, hphase, hfab, hfwb, hanchor, hreserved⟩ := hfields
  obtain ⟨hfmt, hfault, hlayout, hflat⟩ := hdesc
  have hbounded := hrows.trans (maxRows_le trans (fmtOr fw))
  have haxis : (fmtMx (fmtOr fa) && (descOf ((t.ac p).dget b)).mxAxis != 0) = false := by
    cases hc : fmtMx (fmtOr fa) with
    | false => rfl
    | true => rw [hmx hc]; rfl
  have hdrain : (t.arr p.val).ctrl.drain = some d := hdrain
  unfold State.issuePass
  simp only [hx, ha, hb, hsource, hend, hphase, hfab, hfwb, hanchor, hreserved, toSigned_toNat, hdrain]
  refine State.checked_pass ?_
  simp only [List.forall_mem_append, List.forall_mem_cons]
  exact ⟨⟨⟨failIf_eq_none rfl, fmtCheck_eq_none hfa, fmtCheck_eq_none hfw, failIf_eq_none (by rw [Bool.not_eq_false']; exact hpair), nofun⟩,
      descCheck_eq_none hfmt hfault hlayout⟩,
    failIf_eq_none (by rw [Bool.not_eq_false']; exact hflat), failIf_eq_none haxis,
    failIf_eq_none (Bool.and_eq_false_imp.mpr fun _ => decide_eq_false (Nat.not_lt.mpr hbounded)),
    failIf_eq_none (decide_eq_false (Nat.not_lt.mpr hrows)), failIf_eq_none (decide_eq_false (Nat.not_lt.mpr hbase)),
    passDrainCheck_eq_none hrecord, nofun⟩

/-- R201, R210: a K split names a region for records. -/
theorem regionChecks_eq_none {g : GangSet} {reg : Nat} (h : g.split = 3 → (descOf g.region).fault = none ∧ (descOf g.region).layout = 0 ∧
    (descOf g.region).code = 0x11) : ∀ c ∈ regionChecks g reg, c = none := by
  unfold regionChecks
  split
  next h3 =>
    obtain ⟨hfault, hlayout, hcode⟩ := h h3
    have hfmt : (descOf g.region).fmt.isSome = true := by rw [Desc.fmt, hcode]; rfl
    rw [List.forall_mem_append, List.forall_mem_singleton]
    exact ⟨descCheck_eq_none hfmt hfault hlayout, failIf_eq_none (by rw [hcode]; rfl)⟩
  next => exact nofun

/-- R210: a gang configuration that no check refuses. -/
theorem exec_gangCfg_enters {k split stagger : Nat} (ha : a < 32) (hb : b < 16) (hk : k ≤ 4) (hsplit : split < 4) (hstagger : stagger < 256)
    (hv : (t.ac p).sget a = k + split * 16 + stagger * 256) (hinside : t.gangInside (t.ac p).ctx p.val k = true)
    (hregion : split = 3 → (descOf ((t.ac p).dget b)).fault = none ∧ (descOf ((t.ac p).dget b)).layout = 0 ∧
      (descOf ((t.ac p).dget b)).code = 0x11) (h : s.ctrlAt p (wordG 0x19 b a 0 1) t) :
    exec (.gangCfg p (wordG 0x19 b a 0 1)) s = .next (t.enqueueWith p.val 0 (wordG 0x19 b a 0 1) 0 4 0 false
      (.gangCfg ⟨k, split, stagger, (t.ac p).dget b⟩) (fun k' => { k' with gang := ⟨k, split, stagger, (t.ac p).dget b⟩ })) := by
  have hf : FieldsG 0x19 b a 0 1 := by omega
  have hbits : bitsOf ((t.ac p).sget a) 2 0 = k ∧ bitsOf ((t.ac p).sget a) 5 4 = split ∧ bitsOf ((t.ac p).sget a) 15 8 = stagger := by
    simp only [bitsOf, Nat.shiftRight_eq_div_pow, hv]; omega
  obtain ⟨hkb, hsplitb, hstaggerb⟩ := hbits
  have hclear (i : Nat) (hi : (t.ac p).sget a / 2 ^ i % 2 = 0) : ((t.ac p).sget a).testBit i = false := testBit_of_field hi
  have hreserved : (decide ((t.ac p).sget a / 65536 ≠ 0) || ((t.ac p).sget a).testBit 3 || ((t.ac p).sget a).testBit 6 ||
      ((t.ac p).sget a).testBit 7 || decide (4 < k)) = false := by
    rw [hclear 3 (by omega), hclear 6 (by omega), hclear 7 (by omega), decide_eq_false (by omega), decide_eq_false (by omega)]; rfl
  simp only [State.ac] at hkb hsplitb hstaggerb
  rw [exec_ctrlGate h (exec_gangCfg ..) (wordG_major_fn hf) (by simp (disch := omega) [wordG_and])
    (by simp (disch := omega) [wordG_and, and_16 hb])]
  simp only [sA_wordG hf, sD_wordG hf, hkb, hsplitb, hstaggerb]
  refine congrArg _ (State.checked_pass ?_)
  rw [List.forall_mem_append, List.forall_mem_cons, List.forall_mem_singleton]
  exact ⟨⟨failIf_eq_none hreserved, failIf_eq_none (by rw [Bool.not_eq_false']; exact hinside)⟩, regionChecks_eq_none hregion⟩

/-- R211: the checks of the output descriptor of a reduction, which rank 0 makes. -/
theorem reduceOutput_eq_none {dO dP : Desc} {rank fmt reg : Nat}
    (h : rank = 0 → (dO.fmt.isSome = true ∧ dO.fault = none ∧ dO.layout = 0 ∧ flatDims dO = true) ∧ dO.code = fmt ∧
      dP.extOf 0 ≤ dO.extOf 0 ∧ dP.extOf 1 ≤ dO.extOf 1 ∧ (fmtMx (fmtOr fmt) = true → dO.mxAxis = 0)) :
    ∀ c ∈ (if rank = 0 then
      descCheck dO 0 reg ++ [failIf (!flatDims dO || decide (dO.extOf 0 < dP.extOf 0) || decide (dO.extOf 1 < dP.extOf 1)) 0x83 3 reg,
        failIf (dO.code != fmt) 0x82 6 reg, failIf (fmtMx (fmtOr fmt) && dO.mxAxis != 0) 0x82 5 reg]
      else []), c = none := by
  split
  next h0 =>
    obtain ⟨⟨hfmt, hfault, hlayout, hflat⟩, hcode, hext0, hext1, haxis⟩ := h h0
    have hmx : (fmtMx (fmtOr fmt) && dO.mxAxis != 0) = false := by
      cases hc : fmtMx (fmtOr fmt) with
      | false => rfl
      | true => rw [haxis hc]; rfl
    have hshape : (!flatDims dO || decide (dO.extOf 0 < dP.extOf 0) || decide (dO.extOf 1 < dP.extOf 1)) = false := by
      rw [hflat, decide_eq_false (Nat.not_lt.mpr hext0), decide_eq_false (Nat.not_lt.mpr hext1)]; rfl
    simp only [List.forall_mem_append, List.forall_mem_cons]
    exact ⟨descCheck_eq_none hfmt hfault hlayout, failIf_eq_none hshape, failIf_eq_none (by rw [hcode]; exact bne_self_eq_false ..),
      failIf_eq_none hmx, nofun⟩
  next => exact nofun

/-- R211: a reduction that no check refuses. -/
theorem exec_reduce_enters {rO fmt rnd : Nat} {sat : Bool} {anchor : BitVec 10} (hx : x < 32) (hb : b < 16) (hrO : rO < 16) (hrnd : rnd < 3)
    (hfmt : fmt < 32) (hrole : (fmtOfCode fmt).any fmtDrain = true) (hsplit : (t.ac p).gang.split = 3) (hlog : (t.ac p).gang.log2 ≠ 0)
    (hdesc : goodDesc ((t.ac p).dget b) 0) (hcode : (descOf ((t.ac p).dget b)).code = 0x11)
    (hregion : t.regionFits p.val (t.ac p).gang (descOf ((t.ac p).dget b)) = true)
    (hout : t.gangRank p.val (t.ac p).gang = 0 → goodDesc ((t.ac p).dget rO) 0 ∧ (descOf ((t.ac p).dget rO)).code = fmt ∧
      (descOf ((t.ac p).dget b)).extOf 0 ≤ (descOf ((t.ac p).dget rO)).extOf 0 ∧
      (descOf ((t.ac p).dget b)).extOf 1 ≤ (descOf ((t.ac p).dget rO)).extOf 1 ∧
      (fmtMx (fmtOr fmt) = true → (descOf ((t.ac p).dget rO)).mxAxis = 0))
    (hw0 : w0 = BitVec.ofNat 32 (0x3A * 2 ^ 26 + b * 2 ^ 21 + x * 2 ^ 16 + rO * 2 ^ 12))
    (hw1 : w1 = BitVec.ofNat 32 (anchor.toNat + fmt * 2 ^ 10 + rnd * 2 ^ 15 + sat.toNat * 2 ^ 17)) (h : s.ctrlAt2 p w0 w1 t) :
    exec (.reduceTree p w0 w1) s = .next (t.enqueueWith p.val 0 w0 w1 8 (bitsOf ((t.ac p).sget x) 31 0) false
      (.reduce ((t.ac p).dget b) ((t.ac p).dget rO) (bitsOf ((t.ac p).sget x) 31 0) anchor.toInt (fmtOr fmt) (rndOr rnd) sat (t.ac p).gang
        (t.effLevel p.val (t.ac p).ctx (t.ac p).chkLevel) (t.ac p).chkNext) (fun k => { k with chkNext := false })) := by
  have hs := sat.toNat_lt
  have hanchor := anchor.isLt
  have hw0 : w0.toNat = 0x3A * 2 ^ 26 + b * 2 ^ 21 + x * 2 ^ 16 + rO * 2 ^ 12 := by rw [hw0, BitVec.toNat_ofNat]; omega
  have hw1 : w1.toNat = anchor.toNat + fmt * 2 ^ 10 + rnd * 2 ^ 15 + sat.toNat * 2 ^ 17 := by rw [hw1, BitVec.toNat_ofNat]; omega
  have hbits : bitsOf w0.toNat 24 21 = b ∧ sA w0 = x ∧ bitsOf w0.toNat 15 12 = rO ∧ bitsOf w1.toNat 14 10 = fmt ∧ bitsOf w1.toNat 16 15 = rnd ∧
      bitsOf w1.toNat 9 0 = anchor.toNat ∧ bitsOf w1.toNat 31 18 = 0 := by
    simp only [sA, bitsOf, Nat.shiftRight_eq_div_pow]; omega
  obtain ⟨hbb, hxb, hrOb, hfmtb, hrndb, hanchorb, hreserved⟩ := hbits
  have hsat : w1.toNat.testBit 17 = sat := testBit_of_field (by omega)
  have hopcode : w0.toNat &&& 0xFC000000 = 0xE8000000 := (and_opcode (n := 0) (lo := 0) w0.isLt (by omega)).trans (by omega)
  have hzero : w0.toNat &&& maskOf [(25, 1), (0, 12)] = 0 := and_maskOf (by simp; omega)
  have hgang : ((t.ac p).gang.split != 3 || (t.ac p).gang.log2 == 0) = false := by
    rw [hsplit, beq_eq_false_iff_ne.mpr hlog]; rfl
  obtain ⟨hsome, hfault, hlayout, hflat⟩ := hdesc
  rw [exec_ctrlGate2 h (exec_reduceTree ..) hopcode hzero (Nat.and_zero _)]
  simp only [hbb, hxb, hrOb, hfmtb, hrndb, hanchorb, hreserved, hsat, toSigned_toNat]
  refine congrArg _ (State.checked_pass ?_)
  simp only [List.forall_mem_append, List.forall_mem_cons]
  exact ⟨⟨⟨⟨failIf_eq_none rfl, failIf_eq_none hgang, fmtCheck_eq_none hrole, failIf_eq_none (beq_eq_false_iff_ne.mpr (by omega)), nofun⟩,
      descCheck_eq_none hsome hfault hlayout⟩,
    failIf_eq_none (by rw [bne_eq_false_iff_eq]; exact hcode), failIf_eq_none (by rw [Bool.not_eq_false']; exact hflat),
      failAt_eq_none (by rw [Bool.not_eq_false']; exact hregion), nofun⟩,
    reduceOutput_eq_none hout⟩

end

/-- Settles O29: one lemma for each instruction. -/
theorem arrayPassesIssue : Obligations.ArrayPassesIssue := by
  unfold Obligations.ArrayPassesIssue
  intro p s t a x b ha hx hb _ c
  have hosn : bitsOf ((t.ac p).sget x) 31 0 = ((c.s x).setWidth 32).toNat := Ctrl.bitsOf_sget_low _ _ _
  refine ⟨fun rI fmt rnd acc sat chain hrI hfmt hrnd hacc hunused => ?drain,
    fun trans wsrc gend phase fa fw anchor d hphase hfa hfw hgend hdrain => ?pass,
    fun k split stagger hk hsplit hstagger hv hinside hregion h => ?gang,
    fun rO fmt rnd sat anchor hrO hrnd hfmt hrole hsplit hlog hdesc hcode hregion hout => ?reduce⟩
  case drain =>
    intro w0 w1 h hchecks
    exact exec_drain_enters hb hrI hfmt hrnd hacc hunused rfl rfl h hchecks
  case pass =>
    intro w0 w1 n rank m share m0 h hfaRole hfwRole hpair hdesc hmx hrows hbase hrecord
    have ht := trans.toNat_lt
    have hs := wsrc.toNat_lt
    have hg := gend.toNat_lt
    have hanchor := anchor.isLt
    have hw0 : w0.toNat = 0x38 * 2 ^ 26 + x * 2 ^ 21 + a * 2 ^ 16 + b * 2 ^ 12 + trans.toNat * 2 ^ 11 + wsrc.toNat * 2 ^ 10 + gend.toNat * 2 ^ 9 := by
      rw [BitVec.toNat_ofNat]; omega
    have hw1 : w1.toNat = phase * 2 ^ 24 + fa * 2 ^ 19 + fw * 2 ^ 14 + anchor.toNat := by rw [BitVec.toNat_ofNat]; omega
    have hm : bitsOf ((t.ac p).sget x) 47 32 + 1 = m := congrArg (· + 1) (Ctrl.bitsOf_sget _ _ _ _)
    have hm0 : bitsOf ((t.ac p).sget a) 31 0 = m0 := Ctrl.bitsOf_sget_low _ _ _
    have hn0 : bitsOf ((t.ac p).sget a) 63 32 = ((c.s a >>> 32).setWidth 32).toNat := Ctrl.bitsOf_sget _ _ _ _
    refine ⟨t.passOp p d x a b phase fa fw trans wsrc gend anchor, ?_, hosn, ?rows, ?m0, ?n0, rfl, rfl, rfl, rfl, rfl, rfl, rfl, rfl, rfl, rfl, rfl⟩
    · rw [exec_pass_issues hx ha hb hgend hw0 h, State.issuePass_enters (passFields hx ha hb hphase hfa hfw hw0 hw1) hdrain hfaRole hfwRole hpair
        hdesc hmx (by rw [hm]; exact hrows) (by rw [hm, hm0]; exact hbase) hrecord]
    case rows => simp only [State.passOp, hm]; rfl
    case m0 =>
      simp only [State.passOp, hm, hm0]
      by_cases h1 : (t.ac p).gang.split = 1
      · have hshare : share = memberRows m (2 ^ (t.ac p).gang.log2) := funext fun i => if_pos h1
        rw [if_pos h1, if_pos h1, memberBase, sumTo_eq_sum, hshare]
        rfl
      · rw [if_neg h1, if_neg h1]
    case n0 => simp only [State.passOp, hn0]; split <;> rfl
  case gang =>
    rw [Ctrl.s_toNat] at hv
    exact exec_gangCfg_enters ha hb hk hsplit hstagger hv hinside hregion h
  case reduce =>
    intro w0 w1 h
    exact ⟨_, _, (exec_reduce_enters hx hb hrO hrnd hfmt hrole hsplit hlog hdesc hcode hregion hout rfl rfl h).trans (by rw [hosn])⟩

end Sys2Proof.Machine

/-!
vc, dma, the window instructions and chk.release (06_control_isa R193, R213 to R216, R221; 07_memory R270), and O30.
-/
namespace Sys2Proof.Machine

theorem Ctrl.sget_mod (c : Ctrl) (i n : Nat) : c.sget i % 2 ^ n = ((c.s i).setWidth n).toNat := by
  rw [BitVec.toNat_setWidth, Ctrl.s_toNat]

section
variable {p : ArrayId} {s t u : State} {d a b n : Nat} {bs : List Byte}

/-- R213: a chain whose record is read enters the vector queue. -/
theorem exec_vc_enters {anchor : BitVec 10} {phase va comp osn : Nat} {w1 : Word} (hd : d < 32) (ha : a < 32) (hb : b < 32) (hphase : phase < 256)
    (hva : (t.ac p).sget d % 2 ^ 48 = va) (hcomp : (t.ac p).sget b % 2 ^ 48 = comp) (hosn : (t.ac p).sget a % 2 ^ 32 = osn)
    (hva64 : va % 64 = 0) (hcomp32 : comp % 32 = 0) (hroom : (t.arr p.val).vq.length < 16) (hread : t.recordRead p.val va 64 = .ok bs u)
    (hw1 : w1 = BitVec.ofNat 32 (anchor.toNat + phase * 2 ^ 10)) (h : s.ctrlAt2 p (wordG 0x3B d a b 0) w1 t) :
    exec (.vcChain p (wordG 0x3B d a b 0) w1) s = .next (u.enqueue p.val 1 (wordG 0x3B d a b 0) w1 8 osn false
      (.chain ((t.ac p).chainOp bs va (if b = 0 then none else some comp) osn w1))) := by
  have hanchor := anchor.isLt
  have hf : FieldsG 0x3B d a b 0 := by omega
  have hreserved : bitsOf w1.toNat 31 18 = 0 := by rw [hw1, BitVec.toNat_ofNat, bitsOf, Nat.shiftRight_eq_div_pow]; omega
  have hnotFull : ¬queueBound 1 ≤ ((t.arr p.val).queue 1).length := Nat.not_le.mpr hroom
  simp only [State.ac] at hva hcomp hosn
  rw [exec_ctrlGate2 h (exec_vcChain ..) (wordG_major hf) (by simp (disch := omega) [wordG_and]) (Nat.and_zero _)]
  simp only [sD_wordG hf, sA_wordG hf, sB_wordG hf, hva, hcomp, hosn, hreserved]
  refine congrArg _ ((State.checked_pass ?_).trans ?_)
  · simp only [List.forall_mem_cons]
    exact ⟨failIf_eq_none rfl, failAt_eq_none (decide_eq_false (not_not.mpr hva64)),
      failAt_eq_none (by rw [decide_eq_false (not_not.mpr hcomp32)]; rfl), nofun⟩
  · rw [State.withRoom, if_neg hnotFull, hread]
    rfl

/-! dma (R214, R215). -/

/-- R214, R215: the kinds of dma. -/
noncomputable def ctrlDmas : List ((ArrayId → Word → Word → Instr) × Nat) := [(.dmaCopy, 0), (.dmaFill, 1), (.dmaGather, 2), (.dmaScatter, 3)]

/-- R214, R215: the fields that a kind of dma leaves zero: the value, the source, the index. -/
def dmaZeros (kind : Nat) : List (Nat × Nat) :=
  [(25, 1), (0, 5)] ++ (if kind = 1 then [(17, 4)] else [(8, 5)]) ++ (if kind < 2 then [(13, 4)] else [])

theorem ctrlDmas_exec : ∀ r ∈ ctrlDmas,
    (∀ p w0 w1 s, exec (r.1 p w0 w1) s = .next (ctrlGate p w0 (some w1) ctrlKnown 0xFC0000E0 (0x3C * 2 ^ 26 + r.2 * 2 ^ 5) 0
      (maskOf (dmaZeros r.2)) s (fun s => s.issueDma p.val w0 w1 r.2))) ∧ r.2 < 4 := by
  simp only [ctrlDmas, List.forall_mem_cons]
  exact ⟨⟨fun _ _ _ _ => rfl, by decide⟩, ⟨fun _ _ _ _ => rfl, by decide⟩, ⟨fun _ _ _ _ => rfl, by decide⟩, ⟨fun _ _ _ _ => rfl, by decide⟩, nofun⟩

/-- R214, R215: the checks of a descriptor of a transfer. -/
theorem dmaCheck_eq_none {d : Desc} {reg : Nat} (h : d.fmt.isSome = true ∧ d.fault = none) : ∀ c ∈ [failIf d.fmt.isNone 0x82 1 reg,
    (match d.fault with | some n => some (0x88, n, reg, if n = 4 then d.table else 0) | none => none)], c = none := by
  obtain ⟨hfmt, hfault⟩ := h
  simp only [List.forall_mem_cons, hfault]
  exact ⟨failIf_eq_none (by rw [← Option.not_isSome, hfmt]; rfl), trivial, nofun⟩

/-- The fields of the words of a transfer. -/
theorem dmaFields {kind rD rS rX k : Nat} {sig : Bool} {inc : BitVec 16} {w0 w1 : Word} (hkind : kind < 4) (hrD : rD < 16) (hrS : rS < 16)
    (hrX : rX < 16) (ha : a < 32) (hk : k < 64)
    (hw0 : w0.toNat = 0x3C * 2 ^ 26 + rD * 2 ^ 21 + rS * 2 ^ 17 + rX * 2 ^ 13 + a * 2 ^ 8 + kind * 2 ^ 5)
    (hw1 : w1 = BitVec.ofNat 32 (k + sig.toNat * 2 ^ 6 + inc.toNat * 2 ^ 7)) :
    bitsOf w0.toNat 24 21 = rD ∧ bitsOf w0.toNat 20 17 = rS ∧ bitsOf w0.toNat 16 13 = rX ∧ bitsOf w0.toNat 12 8 = a ∧
      bitsOf w1.toNat 31 23 = 0 ∧ bitsOf w1.toNat 5 0 = k ∧ bitsOf w1.toNat 22 7 = inc.toNat ∧ w1.toNat.testBit 6 = sig := by
  have hinc := inc.isLt
  have hsig := sig.toNat_lt
  have hw1 : w1.toNat = k + sig.toNat * 2 ^ 6 + inc.toNat * 2 ^ 7 := by rw [hw1, BitVec.toNat_ofNat]; omega
  refine ⟨?_, ?_, ?_, ?_, ?_, ?_, ?_, testBit_of_field (by omega)⟩ <;> (simp only [bitsOf, Nat.shiftRight_eq_div_pow]; omega)

/-- R214, R215: a transfer that no check refuses enters the DMA queue. -/
theorem State.issueDma_enters {kind rD rS rX k : Nat} {sig : Bool} {inc : BitVec 16} {w0 w1 : Word}
    (hfields : bitsOf w0.toNat 24 21 = rD ∧ bitsOf w0.toNat 20 17 = rS ∧ bitsOf w0.toNat 16 13 = rX ∧ bitsOf w0.toNat 12 8 = a ∧
      bitsOf w1.toNat 31 23 = 0 ∧ bitsOf w1.toNat 5 0 = k ∧ bitsOf w1.toNat 22 7 = inc.toNat ∧ w1.toNat.testBit 6 = sig)
    (hD : (descOf ((t.ac p).dget rD)).fmt.isSome = true ∧ (descOf ((t.ac p).dget rD)).fault = none)
    (hS : kind ≠ 1 → (descOf ((t.ac p).dget rS)).fmt.isSome = true ∧ (descOf ((t.ac p).dget rS)).fault = none)
    (hX : 2 ≤ kind → (descOf ((t.ac p).dget rX)).fmt.isSome = true ∧ (descOf ((t.ac p).dget rX)).fault = none) :
    t.issueDma p.val w0 w1 kind = t.enqueue p.val 2 w0 w1 8 0 true
      (.dma ⟨kind, (t.ac p).dget rD, (t.ac p).dget rS, (t.ac p).dget rX, (t.ac p).s a, sig, k, inc⟩) := by
  obtain ⟨hrD, hrS, hrX, ha, hreserved, hk, hinc, hsig⟩ := hfields
  unfold State.issueDma
  simp only [hrD, hrS, hrX, ha, hreserved, hk, hinc, hsig, BitVec.ofNat_toNat, BitVec.setWidth_eq]
  refine State.checked_pass ?_
  simp only [List.forall_mem_append]
  refine ⟨⟨⟨?_, dmaCheck_eq_none hD⟩, ?source⟩, ?index⟩
  · rw [List.forall_mem_singleton]; exact failIf_eq_none rfl
  case source =>
    split
    · exact nofun
    · next hkind => exact dmaCheck_eq_none (hS hkind)
  case index =>
    split
    · next hkind => exact dmaCheck_eq_none (hX hkind)
    · exact nofun

/-- R193: the zero fields of a kind of dma are zero when no unused field is set. -/
theorem and_dmaZeros {kind rD rS rX x : Nat} (hkind : kind < 4) (hrD : rD < 16) (hrS : rS < 16) (hrX : rX < 16) (ha : a < 32)
    (hx : x = 0x3C * 2 ^ 26 + rD * 2 ^ 21 + rS * 2 ^ 17 + rX * 2 ^ 13 + a * 2 ^ 8 + kind * 2 ^ 5) :
    x &&& maskOf (dmaZeros kind) = 0 ↔ ¬((kind ≠ 1 ∧ a ≠ 0) ∨ (kind = 1 ∧ rS ≠ 0) ∨ (kind < 2 ∧ rX ≠ 0)) := by
  rw [and_maskOf_iff, dmaZeros]
  by_cases hfill : kind = 1
  · simp [hfill]; omega
  · by_cases hcopy : kind < 2
    · simp [hfill, hcopy]; omega
    · simp [hfill, hcopy]; omega

theorem exec_dma_issues {r : (ArrayId → Word → Word → Instr) × Nat} {rD rS rX : Nat} {w0 w1 : Word} (hr : r ∈ ctrlDmas) (hrD : rD < 16)
    (hrS : rS < 16) (hrX : rX < 16) (ha : a < 32)
    (hw0 : w0.toNat = 0x3C * 2 ^ 26 + rD * 2 ^ 21 + rS * 2 ^ 17 + rX * 2 ^ 13 + a * 2 ^ 8 + r.2 * 2 ^ 5) (h : s.ctrlAt2 p w0 w1 t) :
    exec (r.1 p w0 w1) s = .next (if (r.2 ≠ 1 ∧ a ≠ 0) ∨ (r.2 = 1 ∧ rS ≠ 0) ∨ (r.2 < 2 ∧ rX ≠ 0)
      then t.issueFault p.val 0x80 3 w0 w1 0xFF 0 0 else t.issueDma p.val w0 w1 r.2) := by
  obtain ⟨hexec, hkind⟩ := ctrlDmas_exec r hr
  have hopcode : w0.toNat &&& 0xFC0000E0 = 0x3C * 2 ^ 26 + r.2 * 2 ^ 5 := (and_opcode (n := 3) (lo := 5) w0.isLt (by omega)).trans (by omega)
  have hzero := and_dmaZeros hkind hrD hrS hrX ha hw0
  by_cases hunused : (r.2 ≠ 1 ∧ a ≠ 0) ∨ (r.2 = 1 ∧ rS ≠ 0) ∨ (r.2 < 2 ∧ rX ≠ 0)
  · rw [if_pos hunused, hexec, ctrlGate_reserved2 h hopcode (fun h0 => hzero.mp h0 hunused)]
  · rw [if_neg hunused, exec_ctrlGate2 h (hexec ..) hopcode (hzero.mpr hunused) (Nat.and_zero _)]

/-! The window instructions (R216, R266 to R270). -/

/-- The bits that name a window instruction. -/
theorem wordG_window {k : Nat} (hf : FieldsG 0x1E d a b (k * 256 + n)) (hn : n < 64) :
    (wordG 0x1E d a b (k * 256 + n)).toNat &&& 0xFC000700 = 0x78000000 + k * 256 :=
  (and_opcode (n := 3) (lo := 8) (wordG 0x1E d a b (k * 256 + n)).isLt (by omega)).trans (by rw [hf.toNat]; omega)

/-- The window that a window instruction names. -/
theorem windowOf_wordG {k : Nat} (hf : FieldsG 0x1E d a b (k * 256 + n)) (hn : n < 64) :
    bitsOf (wordG 0x1E d a b (k * 256 + n)).toNat 5 0 = n := by
  rw [bitsOf_wordG hf (by omega), bitsOf, Nat.shiftRight_zero]; omega

@[simp] theorem State.window_setWindow_same (t : State) (i n : Nat) (x : Window) : (t.setWindow i n x).window i n = x := by
  rw [State.window, State.setWindow, State.arr_modArr_same, tblGet_put_same]

/-- win.open goes on to the window, once its record's address is aligned. -/
theorem exec_winOpen_issues {va : Nat} (ha : a < 32) (hn : n < 64) (hva : (t.ac p).sget a % 2 ^ 48 = va) (hva64 : va % 64 = 0)
    (h : s.ctrlAt p (wordG 0x1E 0 a 0 n) t) : exec (.winOpen p (wordG 0x1E 0 a 0 n)) s = .next (
      if (t.window p.val n).closing then t
      else match t.recordRead p.val va 64 with
        | .ok bs u => (u.winOpen p.val n bs).ctrlNext p.val 4
        | .bad d x u => u.issueFault p.val 0x87 d (wordG 0x1E 0 a 0 n) 0 0xFF 0 x
        | .tr e => t.ctrlStall p.val 1 va .read e
        | .wait => t.recordAsk p.val va 64) := by
  have hzero : 0 * 256 + n = n := by omega
  have hf : FieldsG 0x1E 0 a 0 (0 * 256 + n) := by omega
  have hopcode := wordG_window hf hn
  have hwindow := windowOf_wordG hf hn
  rw [hzero] at hf hopcode hwindow
  have hreserved : (wordG 0x1E 0 a 0 n).toNat &&& maskOf [(21, 5), (11, 5), (6, 2)] = 0 := and_maskOf (by rw [hf.toNat]; simp; omega)
  simp only [State.ac] at hva
  rw [exec_ctrlGate h (exec_winOpen ..) hopcode hreserved (Nat.and_zero _)]
  simp only [sA_wordG hf, hwindow, hva]
  exact congrArg _ (State.checked_pass (by
    rw [List.forall_mem_singleton]; exact failAt_eq_none (decide_eq_false (not_not.mpr hva64))))

/-- R216, R267: a window that is not open is opened from a valid record. -/
theorem State.winOpen_opens (hbs : winRecordOk bs = true) (hshut : (u.window p.val n).isOpen = false) :
    u.winOpen p.val n bs = u.setWindow p.val n { u.window p.val n with
      isOpen := true, closing := false, gen := ((u.window p.val n).gen + 1) % 65536, ctx := (u.ac p).ctx, record := bs, counter := 0 } := by
  rw [State.winOpen, if_neg (by simp [hshut]), if_neg (by simp [hbs])]
  rfl

/-- R269: an open window or a record that is not valid is refused, in an event. -/
theorem State.winOpen_refuses (h : winRecordOk bs = false ∨ (u.window p.val n).isOpen = true) :
    u.winOpen p.val n bs = u.postCtx (u.ac p).ctx 0x0D (if (u.window p.val n).isOpen then 6 else 7) 2 (srcOf 1 p.val)
      (winPayload n ((u.logOf p.val).getD 0) 0 (u.ac p).ctx 0 (u.window p.val n).gen 0 0 0) := by
  rw [State.winOpen]
  by_cases hopen : (u.window p.val n).isOpen = true
  · rw [if_pos hopen, if_pos hopen]
    rfl
  · rw [if_neg hopen, if_neg hopen, if_pos (by simp [h.resolve_right hopen])]
    rfl

theorem State.winClose_open (h : (t.window p.val n).isOpen = true) : t.winClose p.val n =
    t.setWindow p.val n { t.window p.val n with isOpen := false, closing := t.winAdmitted p.val n } := if_pos h

theorem State.winClose_shut (h : (t.window p.val n).isOpen = false) : t.winClose p.val n = t := if_neg (by rw [h]; exact Bool.false_ne_true)

/-- R270: after win.close, a window that closes holds its controller. -/
theorem exec_winClose_ends (hn : n < 64) (h : s.ctrlAt p (wordG 0x1E 0 0 0 (0x100 + n)) t) :
    exec (.winClose p (wordG 0x1E 0 0 0 (0x100 + n))) s = .next (if ((t.winClose p.val n).window p.val n).closing
      then (t.winClose p.val n).modCtrl p.val (fun k => { k with blocked := .closing n }) else (t.winClose p.val n).ctrlNext p.val 4) := by
  have hf : FieldsG 0x1E 0 0 0 (1 * 256 + n) := by omega
  have hreserved : (wordG 0x1E 0 0 0 (1 * 256 + n)).toNat &&& maskOf [(16, 10), (11, 5), (6, 2)] = 0 := and_maskOf (by rw [hf.toNat]; simp; omega)
  rw [exec_ctrlGate h (exec_winClose ..) (wordG_window hf hn) hreserved (Nat.and_zero _)]
  simp only [windowOf_wordG hf hn]

/-- The zero fields of win.ctr and win.gen. -/
theorem wordG_and_windowRead {k : Nat} (hf : FieldsG 0x1E d 0 0 (k * 256 + n)) (hn : n < 64) :
    (wordG 0x1E d 0 0 (k * 256 + n)).toNat &&& maskOf [(16, 5), (11, 5), (6, 2)] = 0 := and_maskOf (by rw [hf.toNat]; simp; omega)

theorem exec_winCtr_reads (hd : d < 32) (hn : n < 64) (h : s.ctrlAt p (wordG 0x1E d 0 0 (0x200 + n)) t) :
    exec (.winCtr p (wordG 0x1E d 0 0 (0x200 + n))) s = .next (t.ctrlDone p ((t.ac p).sput d (t.window p.val n).counter)) := by
  have hf : FieldsG 0x1E d 0 0 (2 * 256 + n) := by omega
  rw [exec_ctrlGate h (exec_winCtr ..) (wordG_window hf hn) (wordG_and_windowRead hf hn) (Nat.and_zero _)]
  simp only [sD_wordG hf, windowOf_wordG hf hn]
  exact congrArg _ (State.ctrlSet_eq rfl)

theorem exec_winGen_reads (hd : d < 32) (hn : n < 64) (h : s.ctrlAt p (wordG 0x1E d 0 0 (0x300 + n)) t) :
    exec (.winGen p (wordG 0x1E d 0 0 (0x300 + n))) s = .next (t.ctrlDone p ((t.ac p).sput d (t.window p.val n).gen)) := by
  have hf : FieldsG 0x1E d 0 0 (3 * 256 + n) := by omega
  rw [exec_ctrlGate h (exec_winGen ..) (wordG_window hf hn) (wordG_and_windowRead hf hn) (Nat.and_zero _)]
  simp only [sD_wordG hf, windowOf_wordG hf hn]
  exact congrArg _ (State.ctrlSet_eq rfl)

/-- R270: the close of a window without admitted accesses completes, and the controller that waits for it goes on. -/
theorem exec_winCloseComplete_ends {n : Fin 64} (hclosing : (t.window p.val n.val).closing = true) (hadmitted : t.winAdmitted p.val n.val = false) :
    let u := t.setWindow p.val n.val { t.window p.val n.val with closing := false }
    exec (.winCloseComplete p n) t =
      .next (if (t.ac p).blocked = .closing n.val then u.ctrlDone p { t.ac p with blocked := .no } else u) := by
  have hctrl : ((t.setWindow p.val n.val { t.window p.val n.val with closing := false }).arr p.val).ctrl = t.ac p := by
    rw [State.setWindow, State.arr_modArr_same]
    rfl
  rw [exec_winCloseComplete, execWinCloseComplete]
  simp only [hclosing, hadmitted, Bool.not_false, Bool.and_self, if_true, hctrl]
  rw [State.ctrlSet_eq (f := fun c => { c with blocked := .no }) (congrArg (fun c : Ctrl => { c with blocked := .no }) hctrl)]

/-! chk.release (R221). -/

/-- R221: the tile in disagreement of a launch of the controller's own context. -/
def ArrayState.heldTile (a : ArrayState) (osn : Nat) : Option Tile :=
  a.tiles.find? (fun x => x.unresolved && x.state == 4 && x.osn == osn && x.ctx == a.ctrl.ctx)

theorem exec_chkRelease_finds {osn : Nat} (hd : d < 32) (ha : a < 32) (hosn : (t.ac p).sget a % 2 ^ 32 = osn)
    (h : s.ctrlAt p (wordG 0x1F d a 0 3) t) : exec (.chkRelease p (wordG 0x1F d a 0 3)) s = .next (
      ((t.arr p.val).heldTile osn).elim (t.ctrlDone p ((t.ac p).sput d 0)) (fun x =>
        (t.setArr p.val (releaseTiles (t.arr p.val) x.seq).1).ctrlSet p.val (fun c => c.sput d (releaseTiles (t.arr p.val) x.seq).2))) := by
  have hf : FieldsG 0x1F d a 0 3 := by omega
  have hopcode : (wordG 0x1F d a 0 3).toNat &&& 0xFC000007 = 0x7C000003 :=
    (and_opcode (n := 3) (lo := 0) (wordG 0x1F d a 0 3).isLt (by omega)).trans (by rw [hf.toNat]; omega)
  have hreserved : (wordG 0x1F d a 0 3).toNat &&& maskOf [(3, 13)] = 0 := and_maskOf (by rw [hf.toNat]; simp; omega)
  simp only [State.ac] at hosn
  rw [exec_ctrlGate h (exec_chkRelease ..) hopcode hreserved (Nat.and_zero _)]
  simp only [sA_wordG hf, sD_wordG hf, hosn, ArrayState.heldTile]
  cases (t.arr p.val).tiles.find? (fun x => x.unresolved && x.state == 4 && x.osn == osn && x.ctx == (t.arr p.val).ctrl.ctx) with
  | none => exact congrArg _ (State.ctrlSet_eq rfl)
  | some x => rfl

end

/-- Settles O30: one lemma for each instruction, and one for the close that completes. -/
theorem engineCommandsIssue : Obligations.EngineCommandsIssue := by
  unfold Obligations.EngineCommandsIssue
  intro p s t d a b hd ha hb c
  refine ⟨fun anchor phase bs u hphase hva64 hcomp32 hroom hread => ?vc, fun r hr rD rS rX k sig inc hrD hrS hrX hk => ?dma,
    fun n hn hva64 h hclosing => ?waits, fun n hn bs u hva64 hread h hclosing => ?opens, fun n hn h hopen => ?closes, fun n hn h hshut => ?closed,
    fun n hn => exec_winCtr_reads hd hn, fun n hn => exec_winGen_reads hd hn, fun h => ?release, fun n => exec_winCloseComplete_ends⟩
  case vc =>
    intro w1 h
    exact exec_vc_enters hd ha hb hphase (Ctrl.sget_mod ..) (Ctrl.sget_mod ..) (Ctrl.sget_mod ..) hva64 hcomp32 hroom hread rfl h
  case dma =>
    intro good w0 w1 unused
    obtain ⟨-, hkind⟩ := ctrlDmas_exec r hr
    have hw0 : w0.toNat = 0x3C * 2 ^ 26 + rD * 2 ^ 21 + rS * 2 ^ 17 + rX * 2 ^ 13 + a * 2 ^ 8 + r.2 * 2 ^ 5 := by
      rw [BitVec.toNat_ofNat]; omega
    refine ⟨fun h hunused => ?_, fun h hunused hD hS hX => ?_⟩
    · rw [exec_dma_issues hr hrD hrS hrX ha hw0 h, if_pos hunused]
    · rw [exec_dma_issues hr hrD hrS hrX ha hw0 h, if_neg hunused,
        State.issueDma_enters (dmaFields hkind hrD hrS hrX ha hk hw0 rfl) hD hS hX]
  case waits => rw [exec_winOpen_issues ha hn (Ctrl.sget_mod ..) hva64 h, if_pos hclosing]
  case opens =>
    have hexec : exec (.winOpen p (wordG 0x1E 0 a 0 n)) s = .next ((u.winOpen p.val n bs).ctrlNext p.val 4) := by
      rw [exec_winOpen_issues ha hn (Ctrl.sget_mod ..) hva64 h, hclosing, if_neg Bool.false_ne_true, hread]
    exact ⟨fun hbs hshut => by rw [hexec, State.winOpen_opens hbs hshut], fun hrefused => by rw [hexec, State.winOpen_refuses hrefused]⟩
  case closes =>
    intro shut
    rw [exec_winClose_ends hn h, State.winClose_open hopen, State.window_setWindow_same]
  case closed => rw [exec_winClose_ends hn h, State.winClose_shut hshut]
  case release =>
    intro held
    rw [exec_chkRelease_finds hd ha (Ctrl.sget_mod ..) h]
    have hheld : (t.arr p.val).heldTile ((c.s a).setWidth 32).toNat = (t.arr p.val).tiles.find? held := rfl
    rw [hheld]
    exact ⟨fun hnone => by rw [hnone]; rfl, fun x hsome => by rw [hsome]; rfl⟩

end Sys2Proof.Machine

/-!
Every step goes on (95_what_each_step_holds; 07_memory R233, R256). A command is built from shared operations, each of which keeps the queue,
the fuses and the canonical form of memory (Laws/Keep and its files); so each family of commands splits along the branches of its commands
down to those operations, the two gates cover every instruction, and O3 follows.
-/
namespace Sys2Proof.Machine

/-- A command answers a next state that keeps the queue and the fuses, and keeps a memory in its canonical form. -/
def KeepsState (i : Instr) : Prop := ∀ s, Out.Keeps s (exec i s)

/-- Accesses of registers through the one write and the one read (00_scope R7 to R14). -/
theorem registerAccesses_keep :
    (∀ req off be v, KeepsState (.registerWrite req off be v)) ∧ (∀ req lo, KeepsState (.loReadCapture req lo)) ∧
    (∀ req lo v, KeepsState (.loWriteLatch req lo v)) ∧ (∀ req hi v, KeepsState (.hiWriteCommit req hi v)) ∧
    (∀ req off write, KeepsState (.host64bitAccess req off write)) ∧
    (∀ h fn bar off n fbe lbe, KeepsState (.hostInboundRead h fn bar off n fbe lbe)) ∧ (∀ req off, KeepsState (.readRegister req off)) ∧
    (∀ req off v, KeepsState (.writeRegister req off v)) ∧ (∀ req off, KeepsState (.rcRead req off)) := by
  and_intros
  all_goals
    intros
    refine fun s => Out.keeps_next ?_
    with_reducible repeat' first
      | apply State.Keeps.refl | apply State.write32_keeps | apply State.readAnswer_keeps | apply State.loWrite_keeps | apply State.hiWrite_keeps
      | apply State.read32_keeps | apply State.answer_keeps | apply State.hostRead_keeps | apply State.notice_keeps
      | apply State.badMessage_keeps | split | dsimp only

/-- A host write of one or two words; the byte enables say which of them are written. -/
theorem hostInboundWrite_keeps (h fn bar off data fbe lbe ep) : KeepsState (.hostInboundWrite h fn bar off data fbe lbe ep) := by
  intro s
  rw [exec_hostInboundWrite, execHostInboundWrite]
  refine Out.keeps_next (.ite ?_ fun _ => State.poisonedTlp_keeps _ _ _ _ (.refl s))
  rcases data with _ | ⟨v, _ | ⟨w, _ | ⟨x, data⟩⟩⟩
  · exact .refl s
  · exact .ite (.refl s) (State.hostPut_keeps _ _ _ _ _ _)
  · exact .ite (.ite (.refl s) (State.hostPut_keeps _ _ _ _ _ _)) (State.hostPut_keeps _ _ _ _ _ _)
  · exact State.hostEvent_keeps _ _ _ _ _ _ _ (.refl s)

/-- Messages on the mesh: what is taken from the net is no part of memory (04_core_mode R152, R153). -/
theorem meshMessages_keep :
    (∀ n, KeepsState (.meshSendArrival n)) ∧ (∀ n, KeepsState (.meshSendRefusal n)) ∧ (∀ n, KeepsState (.sendAcknowledgement n)) ∧
    (∀ n, KeepsState (.meshPutArrival n)) ∧ (∀ n, KeepsState (.meshGetRequest n)) ∧ (∀ n, KeepsState (.meshGetReply n)) := by
  and_intros
  all_goals
    intros
    refine fun s => Out.keeps_next ?_
    with_reducible repeat' first
      | exact State.meshTake_keeps _ _ (.refl s) _ _ ‹_› | apply State.Keeps.refl | apply State.setCore_keeps | apply State.inject_keeps
      | apply State.store_keeps | apply State.putLanded_keeps | apply State.complete_keeps | apply State.readChecks_keeps
      | apply State.corePoison_keeps | apply State.Keeps.foldl | intro _ | split | dsimp only

/-- Runs of core mode, and what happens to a core that waits. -/
theorem coreEvents_keep :
    (∀ p, KeepsState (.coreRunStart p)) ∧ (∀ p, KeepsState (.coreRunEnd p)) ∧ (∀ p, KeepsState (.coreRunFreeze p)) ∧
    (∀ core slot, KeepsState (.sendRetry core slot)) ∧ (∀ core, KeepsState (.notificationRelease core)) ∧
    (∀ core, KeepsState (.slateFillComplete core)) ∧ (∀ core, KeepsState (.recvSatisfied core)) ∧ (∀ unit, KeepsState (.waitSatisfied unit)) ∧
    (∀ core, KeepsState (.coreFenceRelease core)) ∧ (∀ core w, KeepsState (.gexaCFence core w)) ∧ (∀ core w, KeepsState (.vpermBcast core w)) := by
  and_intros
  all_goals
    intros
    refine fun s => Out.keeps_next ?_
    with_reducible repeat' first
      | apply State.Keeps.refl | apply State.popAq_keeps | apply State.lateCheck_keeps | apply State.modArr_keeps | apply State.setFlag_keeps
      | apply State.advanceQ_keeps | apply State.setReg64_keeps | apply State.postCoreFault_keeps | apply State.setFld_keeps
      | apply State.bump_keeps | apply State.settleFault_keeps | apply State.setPart_keeps | apply State.setCore_keeps | apply State.inject_keeps
      | apply State.addCore_keeps | apply State.drawn_keeps | apply State.store_keeps | apply State.readChecks_keeps
      | apply State.corePoison_keeps | apply coreWaitDone_keeps | apply State.ctrlWaitDone_keeps | apply coreGate_keeps | apply coreInstr_keeps
      | fail_if_no_progress apply State.Keeps.mk' | intro _ | split | dsimp only

/-- Instructions of a controller with checks or a record of their own. -/
theorem ctrlIssues_keep :
    (∀ p w, KeepsState (.unpark p w)) ∧ (∀ p w0 w1, KeepsState (.drain p w0 w1)) ∧ (∀ p w, KeepsState (.gangCfg p w)) ∧
    (∀ p w0 w1, KeepsState (.reduceTree p w0 w1)) ∧ (∀ p w0 w1, KeepsState (.coreLoad p w0 w1)) ∧ (∀ p w, KeepsState (.coreStop p w)) ∧
    (∀ p w, KeepsState (.br p w)) ∧ (∀ p w, KeepsState (.gexaSSysr p w)) ∧ (∀ p w, KeepsState (.dset p w)) ∧ (∀ p w, KeepsState (.dget p w)) ∧
    (∀ p w, KeepsState (.winClose p w)) ∧ (∀ p w, KeepsState (.gexaSSig p w)) ∧ (∀ p w, KeepsState (.gexaSWait p w)) ∧
    (∀ p w, KeepsState (.qwait p w)) ∧ (∀ p w, KeepsState (.chkRelease p w)) ∧ (∀ p w0 w1, KeepsState (.vcChain p w0 w1)) ∧
    (∀ p w, KeepsState (.winOpen p w)) := by
  and_intros
  all_goals
    intros
    refine fun s => Out.keeps_next ?_
    with_reducible repeat' first
      | assumption | apply State.Keeps.refl | exact CtrlRead.keeps_ok ‹_› (State.recordRead_keeps _ _ _ _ ‹_›)
      | exact CtrlRead.keeps_bad ‹_› (State.recordRead_keeps _ _ _ _ ‹_›) | apply State.withRoom_keeps | apply State.ctrlStall_keeps
      | apply State.recordAsk_keeps | apply State.winOpen_keeps | apply ctrlGate_keeps | apply State.checked_keeps | apply State.enqueue_keeps
      | apply State.enqueueWith_keeps | apply State.ctrlNext_keeps | apply State.modArr_keeps | apply State.stopRun_keeps
      | apply State.ctrlJump_keeps | apply State.drawn_keeps | apply State.ctrlSet_keeps | apply State.issueFault_keeps
      | apply State.winClose_keeps | apply State.modCtrl_keeps | apply State.sendSignal_keeps | apply State.postCounter_keeps
      | apply State.stopIssue_keeps | apply State.setArr_keeps | intro _ | split | dsimp only

/-- What ends the wait of a controller, and its program. -/
theorem ctrlEvents_keep :
    (∀ p, KeepsState (.loadDataReturn p)) ∧ (∀ p w, KeepsState (.winCloseComplete p w)) ∧ (∀ p, KeepsState (.chkCommitRelease p)) ∧
    (∀ p, KeepsState (.programEndReport p)) ∧ (∀ p, KeepsState (.fenceRelease p)) ∧ (∀ p t, KeepsState (.waitUntilRelease p t)) ∧
    (∀ p q t, KeepsState (.launchTimeReached p q t)) ∧ (∀ p, KeepsState (.fetchLineFill p)) := by
  and_intros
  all_goals
    intros
    refine fun s => Out.keeps_next ?_
    with_reducible repeat' first
      | apply State.Keeps.refl | exact CtrlRead.keeps_ok ‹_› (State.fetchLine_keeps _ _ _ (.refl s))
      | exact CtrlRead.keeps_bad ‹_› (State.fetchLine_keeps _ _ _ (.refl s)) | apply State.issueFault_keeps | apply State.ctrlStall_keeps
      | apply State.ctrlLoad_keeps | apply State.modCtrl_keeps | apply State.advanceQ_keeps | apply State.setWindow_keeps
      | apply State.ctrlSet_keeps | apply State.commitEnd_keeps | apply State.drainStores_keeps | apply State.cmdFault_keeps
      | apply State.setCtx_keeps | apply State.cmdEnd_keeps | apply State.dispatch_keeps | apply State.fenceEnd_keeps | apply State.clock_keeps
      | apply State.ctrlNext_keeps | apply State.modHead_keeps | apply State.gangFault_keeps | split | dsimp only

/-- Entries of an array queue start and end (03_array_mode R80 to R89). -/
theorem arrayEvents_keep :
    (∀ p, KeepsState (.gangCfgEffect p)) ∧ (∀ p, KeepsState (.northFeedTransferStart p)) ∧ (∀ p, KeepsState (.northFeedTransferComplete p)) ∧
    (∀ p, KeepsState (.swapTokenStart p)) ∧ (∀ p, KeepsState (.passStart p)) ∧ (∀ p, KeepsState (.passGraceAbort p)) ∧
    (∀ p, KeepsState (.tileRestart p)) ∧ (∀ p, KeepsState (.ksplitLevelArrival p)) ∧ (∀ p q, KeepsState (.qwaitSatisfied p q)) := by
  and_intros
  all_goals
    intros
    refine fun s => Out.keeps_next ?_
    with_reducible repeat' first
      | apply State.Keeps.refl | apply State.popAq_keeps | apply State.modCtrl_keeps | apply State.advanceQ_keeps | apply State.loadStart_keeps
      | apply State.unparkStart_keeps | apply State.loadDone_keeps | apply State.unparkDone_keeps | apply State.entryFault_keeps
      | apply State.modArr_keeps | apply State.passStart_keeps | apply State.dropReplays_keeps | apply State.setPart_keeps
      | apply State.bump_keeps | apply State.heldPoison_keeps | apply State.softStart_keeps | apply State.setArr_keeps
      | apply State.reducedTile_keeps | apply State.levelTake_keeps | split | dsimp only

/-- Tiles end, are judged and commit. -/
theorem tileEvents_keep :
    (∀ p upset, KeepsState (.tileBoundary p upset)) ∧ (∀ p slot wit, KeepsState (.tileVerdict p slot wit)) ∧
    (∀ p slot, KeepsState (.tileCommit p slot)) := by
  and_intros
  all_goals
    intros
    refine fun s => Out.keeps_next ?_
    with_reducible repeat' first
      | apply State.Keeps.refl | apply State.bump64_keeps | apply State.streamEnds_keeps | apply State.setTile_keeps | apply State.drainOut_keeps
      | apply State.flintPoison_keeps | apply State.setFld_keeps | apply State.setReg64_keeps | apply State.anchorFault_keeps
      | apply State.witRegs_keeps | apply State.postWitness_keeps | apply State.disagree_keeps | apply State.recordWit_keeps
      | apply State.modArr_keeps | apply State.releaseChains_keeps | apply State.advanceQ_keeps | split | dsimp only

/-- Chains and transfers (05_vector_engine; 06_control_isa R210 to R213). -/
theorem engineEvents_keep :
    (∀ p, KeepsState (.chainStart p)) ∧ (∀ e, KeepsState (.chainComplete e)) ∧ (∀ e, KeepsState (.chainRerun e)) ∧
    (∀ p, KeepsState (.dmaStart p)) ∧ (∀ p n, KeepsState (.dmaComplete p n)) := by
  and_intros
  all_goals
    intros
    refine fun s => Out.keeps_next ?_
    with_reducible repeat' first
      | apply State.Keeps.refl | apply State.chainBegin_keeps | apply State.chainOver_keeps | apply State.chainFinish_keeps
      | apply State.advanceQ_keeps | apply State.stallTr_keeps | apply State.chainEnd_keeps | apply State.readRanges_keeps
      | apply State.modArr_keeps | apply State.chainFlint_keeps | apply State.chainPerform_keeps | apply State.settleFault_keeps
      | apply State.chainDisagree_keeps | apply State.dmaBegin_keeps | apply State.dmaEnd_keeps | apply State.dmaPerform_keeps | split
      | dsimp only

/-- Memory and translation (07_memory R245 to R275). -/
theorem memoryEvents_keep :
    (∀ site pc, KeepsState (.hbmLaneRepair site pc)) ∧ (∀ site x, KeepsState (.hbmLaneRepairComplete site x)) ∧
    (∀ m f, KeepsState (.scrubPass m f)) ∧ KeepsState .mmuInvComplete ∧ (∀ w va, KeepsState (.pageWalkComplete w va)) ∧
    (∀ h fn page pages, KeepsState (.atsInvalidation h fn page pages)) ∧ (∀ h fn page ok, KeepsState (.atsTranslationCompletion h fn page ok)) ∧
    (∀ n, KeepsState (.windowAccessArrival n)) ∧ (∀ h poison data pa r crc, KeepsState (.trunkPacketReceive h poison data pa r crc)) := by
  and_intros
  all_goals
    intros
    refine fun s => Out.keeps_next ?_
    with_reducible repeat' first
      | assumption | apply State.Keeps.refl | exact State.Keeps.of_snd ‹_› (State.rateLimit_keeps _ _ (State.setLink_keeps _ _ _ (.refl s)))
      | apply State.poison_keeps | apply State.setLink_keeps | apply State.trunkLand_keeps | apply State.failLink_keeps | apply State.modPc_keeps
      | apply State.logAdd_keeps | apply State.postDev_keeps | apply State.scrubStacks_keeps | apply State.setCheck_keeps
      | apply State.scrubWord_keeps | apply State.setFlag_keeps | apply State.readChecks_keeps | apply State.cacheWalk_keeps
      | apply State.bump_keeps | apply State.emit_keeps | apply State.setHport_keeps | apply State.hostReq_keeps | apply State.stallUnit_keeps
      | apply State.winArrive_keeps | fail_if_no_progress apply State.Keeps.mk' | apply State.Keeps.foldl | intro _ | split | dsimp only

/-- Signals, Flint and the beat of the islands (09_sync_time R292 to R308). -/
theorem signalEvents_keep :
    (∀ n also bad, KeepsState (.signalArrival n also bad)) ∧ (∀ n, KeepsState (.signalDivert n)) ∧ KeepsState .flintGating ∧
    KeepsState .flintHaltRelease ∧ (∀ offs, KeepsState (.quartzBeat offs)) ∧ KeepsState .treeDelayCalibration ∧
    (∀ p, KeepsState (.clockMeshFault p)) := by
  and_intros
  all_goals
    intros
    refine fun s => Out.keeps_next ?_
    with_reducible repeat' first
      | assumption | apply State.Keeps.refl | apply State.signalsDone_keeps | apply State.signalBad_keeps | apply State.addCore_keeps
      | apply State.addCtrl_keeps | apply State.setSavedCtr_keeps | apply State.postCounter_keeps | apply State.ctxFault_keeps
      | apply State.bump_keeps | apply State.setFld_keeps | apply State.setReg64_keeps | apply State.modArr_keeps | apply State.faultArr_keeps
      | apply State.flintEvent_keeps | apply State.flintAfter_keeps | apply State.setIsland_keeps | apply State.islandBeat_keeps
      | apply State.islandMiss_keeps | apply State.lockSummary_keeps | fail_if_no_progress apply State.Keeps.mk' | apply State.flintRaise_keeps
      | apply State.Keeps.foldl | intro _ | split | dsimp only

/-- Quartz time: references, and frames between devices. -/
theorem timeEvents_keep :
    (∀ t a b, KeepsState (.refSample t a b)) ∧ (∀ ref, KeepsState (.refClockAbsent ref)) ∧ (∀ t, KeepsState (.timeFrameSend t)) ∧
    (∀ port frame rx, KeepsState (.timeFrameReceive port frame rx)) ∧ (∀ t, KeepsState (.delayExchangeStart t)) ∧
    (∀ port frame t2 t3, KeepsState (.delayRequestReceive port frame t2 t3)) ∧
    (∀ port frame t4, KeepsState (.delayResponseReceive port frame t4)) ∧ (∀ t, KeepsState (.fabricTimeLost t)) := by
  and_intros
  all_goals
    intros
    refine fun s => Out.keeps_next ?_
    with_reducible repeat' first
      | assumption | apply State.Keeps.refl | apply State.clock_keeps | apply State.refSample_keeps | apply State.bump64_keeps
      | apply State.refSelect_keeps | apply State.fabErrGrows_keeps | apply State.slewFlag_keeps | apply State.setRefclk_keeps
      | apply State.refDisq_keeps | apply State.timingSend_keeps | apply State.timingDropped_keeps | apply State.setLinkTime_keeps
      | apply State.setFld_keeps | apply State.setFlag_keeps | apply State.drawn_keeps | apply State.setReg_keeps | apply State.servoStep_keeps
      | apply State.postDev_keeps | fail_if_no_progress apply State.Keeps.mk' | apply State.Keeps.foldl | intro _ | split | dsimp only

/-- Clocks of an array. -/
theorem clockEvents_keep :
    (∀ p, KeepsState (.freqCodeStep p)) ∧ (∀ p strip, KeepsState (.stripDroop p strip)) ∧ (∀ p, KeepsState (.droopRecovery p)) ∧
    (∀ p, KeepsState (.fllUnfreeze p)) ∧ (∀ d up, KeepsState (.cpmAdjust d up)) := by
  and_intros
  all_goals
    intros
    refine fun s => Out.keeps_next ?_
    with_reducible repeat' first
      | apply State.Keeps.refl | apply State.modArr_keeps | apply State.setFlag_keeps | apply State.setArr_keeps | apply State.bump64_keeps
      | apply State.clkShow_keeps | apply State.setFld_keeps | fail_if_no_progress apply State.Keeps.mk' | split | dsimp only

/-- Replays and their verdicts (10_integrity R345 to R355). -/
theorem replayEvents_keep :
    (∀ p slot, KeepsState (.partnerWaitExpiry p slot)) ∧ (∀ p slot, KeepsState (.replayStart p slot)) ∧
    (∀ p slot upset f, KeepsState (.replayComplete p slot upset f)) ∧ (∀ p, KeepsState (.strikeWindowExpiry p)) ∧
    (∀ p, KeepsState (.spareRetentionReturn p)) := by
  and_intros
  all_goals
    intros
    refine fun s => Out.keeps_next ?_
    with_reducible repeat' first
      | apply State.Keeps.refl | apply State.postReplay_keeps | apply State.unresolve_keeps | apply State.setTile_keeps
      | apply State.heldPoison_keeps | apply State.disagree_keeps | apply State.fillRing_keeps | apply State.softStart_keeps
      | apply State.bump64_keeps | apply State.bump_keeps | apply State.lifeCount_keeps | apply State.witRegs_keeps
      | apply State.postWitness_keeps | apply State.streamEnds_keeps | apply State.thirdChains_keeps | apply State.secondChains_keeps
      | apply State.thirdReplay_keeps | apply State.chainDisagree_keeps | apply State.firstReplay_keeps | apply State.setFld_keeps
      | apply State.retain_keeps | fail_if_no_progress apply State.Keeps.mk' | split | dsimp only

/-- Digests of steps and regions (10_integrity R358 to R363). -/
theorem digestEvents_keep :
    (∀ c, KeepsState (.stepDigestForm c)) ∧ (∀ c peer slot, KeepsState (.digestRecordArrival c peer slot)) ∧
    (∀ c peer t, KeepsState (.peerDigestTimeout c peer t)) ∧ (∀ c, KeepsState (.contextRewind c)) ∧ KeepsState .regionDigestComplete ∧
    KeepsState .regionDigestInterval := by
  and_intros
  all_goals
    intros
    refine fun s => Out.keeps_next ?_
    with_reducible repeat' first
      | apply State.Keeps.refl | apply State.modCtrlOf_keeps | apply State.setReg64_keeps | apply State.setReg_keeps | apply State.setSteps_keeps
      | apply State.stepReady_keeps | apply State.compareStep_keeps | apply State.agree_keeps | apply State.clock_keeps
      | apply State.postCtx_keeps | apply State.modArr_keeps | apply State.setCtx_keeps | apply State.showUnagreed_keeps
      | apply State.dispatch_keeps | apply State.stallUnit_keeps | apply State.readChecks_keeps | apply State.setFlag_keeps
      | apply State.rdeStart_keeps | fail_if_no_progress apply State.Keeps.mk' | apply State.Keeps.foldl | intro _ | split | dsimp only

/-- The dispatcher: commands, switches and rings (11_contexts). -/
theorem contextEvents_keep :
    (∀ c expired, KeepsState (.resetTransferWaitEnd c expired)) ∧ (∀ req c v, KeepsState (.doorbell req c v)) ∧
    (∀ c, KeepsState (.commandFetch c)) ∧ (∀ c index, KeepsState (.cmdNop c index)) ∧ (∀ c index rank, KeepsState (.cmdRun c index rank)) ∧
    (∀ c index, KeepsState (.cmdTime c index)) ∧ (∀ c index t, KeepsState (.cmdTimeExpiry c index t)) ∧
    (∀ c index, KeepsState (.cmdWrite c index)) ∧ (∀ q, KeepsState (.quantumExpiry q)) ∧ (∀ p, KeepsState (.switchSaveComplete p)) ∧
    (∀ p, KeepsState (.switchRestoreComplete p)) ∧ (∀ req ring v, KeepsState (.evtRdWrite req ring v)) ∧
    (∀ ring cmd, KeepsState (.watermarkHoldoffExpiry ring cmd)) := by
  and_intros
  all_goals
    intros
    refine fun s => Out.keeps_next ?_
    with_reducible repeat' first
      | apply State.Keeps.refl | apply State.ctxResetEnd_keeps | apply State.dispatch_keeps | apply State.abandon_keeps
      | apply State.regWrite_keeps | apply doorbellReg_keeps | apply State.unboundDrop_keeps | apply State.dspStall_keeps
      | apply State.readChecks_keeps | apply State.setReg_keeps | apply State.cmdFault_keeps | apply State.setCtx_keeps
      | apply State.cmdCrossing_keeps | apply State.cmdEnd_keeps | apply State.wrBytes_keeps | apply State.setArr_keeps | apply State.clock_keeps
      | apply State.hostWrite_keeps | apply State.heldRefuse_keeps | apply State.store_keeps | apply State.setPart_keeps
      | apply State.schedule_keeps | apply State.ctxFault_keeps | apply State.saveCounters_keeps | apply State.saveArray_keeps
      | apply State.switchEnd_keeps | apply State.restoreArray_keeps | apply evtRdReg_keeps | apply State.setRing_keeps
      | apply State.ringPost_keeps | apply State.ringPut_keeps | apply State.msix_keeps | split | dsimp only

/-- Host ports (12_host_fabric). -/
theorem hostEvents_keep :
    (∀ h, KeepsState (.hostPerstAssert h)) ∧ (∀ h t, KeepsState (.hostPerstDeassert h t)) ∧ (∀ h, KeepsState (.hostHotReset h)) ∧
    (∀ h speed width, KeepsState (.hostLinkUp h speed width)) ∧ (∀ h fn, KeepsState (.vfFlr h fn)) ∧
    (∀ h fn write item v t, KeepsState (.hostConfigRequest h fn write item v t)) ∧
    (∀ h fn off len data status ep, KeepsState (.hostReadCompletion h fn off len data status ep)) ∧
    (∀ h fn off len, KeepsState (.hostCompletionTimeout h fn off len)) ∧ (∀ h, KeepsState (.correctableLinkError h)) ∧
    (∀ k m, KeepsState (.ucieModuleRetire k m)) ∧ (∀ h, KeepsState (.pfFlr h)) := by
  and_intros
  all_goals
    intros
    refine fun s => Out.keeps_next ?_
    with_reducible repeat' first
      | apply State.Keeps.refl | apply State.hostPortReset_keeps | apply State.setFlag_keeps | apply State.hostEvent_keeps
      | apply State.hostPortFaults_keeps | apply State.dispatch_keeps | apply State.setHport_keeps | apply State.setFld_keeps
      | apply State.vfFlr_keeps | apply State.answer_keeps | apply State.cfgWrite_keeps | apply State.drawn_keeps | apply State.poison_keeps
      | apply State.bump_keeps | apply State.wrBytes_keeps | apply State.bump64_keeps | apply State.poisonedTlp_keeps
      | apply State.lifeCount_keeps | apply State.pfFlr_keeps | apply State.logAdd_keeps | apply State.ucieEvent_keeps | split | dsimp only

/-- Packets and frames of the fabric (12_host_fabric R421 to R428). -/
theorem fabricPackets_keep :
    (∀ port pkt, KeepsState (.fabricWindowWrite port pkt)) ∧ (∀ port pkt, KeepsState (.fabricWindowRead port pkt)) ∧
    (∀ port pkt, KeepsState (.fabricWriteAck port pkt)) ∧ (∀ port pkt, KeepsState (.fabricReadData port pkt)) ∧
    (∀ port pkt, KeepsState (.fabricRefusal port pkt)) ∧ (∀ slot t, KeepsState (.transactionTimeout slot t)) ∧
    (∀ n t, KeepsState (.pairStateExpiry n t)) ∧ (∀ port frame, KeepsState (.discoveryAssign port frame)) ∧
    (∀ port frame, KeepsState (.discoveryRouteWrite port frame)) ∧ (∀ port frame, KeepsState (.discoveryResponse port frame)) ∧
    (∀ port frame, KeepsState (.jobAbortFrame port frame)) ∧ (∀ n t, KeepsState (.abortRecordExpiry n t)) ∧
    (∀ port frame, KeepsState (.discoveryQuery port frame)) := by
  and_intros
  all_goals
    intros
    refine fun s => Out.keeps_next ?_
    with_reducible repeat' first
      | assumption | apply State.Keeps.refl | apply State.fabIn_keeps | apply State.fabArrive_keeps | apply State.fabResponse_keeps
      | apply State.winDone_keeps | apply State.winReturn_keeps | apply State.refusedAt_keeps | apply State.digestRefused_keeps
      | apply State.clock_keeps | apply State.txnFail_keeps | apply State.reissue_keeps | apply State.discover_keeps
      | apply State.assignNode_keeps | apply State.setReg_keeps | apply State.emit_keeps | apply State.portSend_keeps
      | apply State.linkEvent_keeps | apply State.postCtx_keeps | apply State.ctxFault_keeps | fail_if_no_progress apply State.Keeps.mk'
      | apply State.Keeps.foldl | intro _ | split | dsimp only

/-- Links of the fabric. -/
theorem fabricLinks_keep :
    (∀ port flit corrected uncorrectable, KeepsState (.flitReceive port flit corrected uncorrectable)) ∧
    (∀ port t, KeepsState (.flitReplayTimeout port t)) ∧
    (∀ port lanes lowRate peer peerPort, KeepsState (.fabricLinkTrained port lanes lowRate peer peerPort)) ∧
    (∀ port e cycle t, KeepsState (.scheduleSlotStart port e cycle t)) ∧ (∀ port t, KeepsState (.scheduleSlotEnd port t)) ∧
    (∀ port good, KeepsState (.fabricDegrade port good)) ∧ (∀ port t, KeepsState (.lowrateIdleEntry port t)) ∧
    (∀ port, KeepsState (.railStepComplete port)) ∧ (∀ port e cycle t, KeepsState (.wakeSlotLead port e cycle t)) ∧
    (∀ port lanes, KeepsState (.portWakeComplete port lanes)) ∧ (∀ port, KeepsState (.fabricLos port)) ∧
    (∀ port, KeepsState (.fabricSignalDetect port)) := by
  and_intros
  all_goals
    intros
    refine fun s => Out.keeps_next ?_
    with_reducible repeat' first
      | apply State.Keeps.refl | apply State.bump64_keeps | apply State.bump_keeps | apply State.linkEventLimited_keeps
      | apply State.setFport_keeps | apply State.ackFlit_keeps | apply State.wakePort_keeps | apply State.replay_keeps
      | apply State.portPump_keeps | apply State.clock_keeps | apply State.setFld_keeps | apply State.setFlag_keeps
      | apply State.linkTimeReset_keeps | apply State.linkEvent_keeps | apply State.fabPump_keeps | apply State.linkDown_keeps
      | apply State.lowRate_keeps | apply State.losDown_keeps | split | dsimp only

/-- Input power (13_power). -/
theorem inputPowerEvents_keep :
    (∀ mv cur, KeepsState (.inputUndervoltageWarn mv cur)) ∧ (∀ mv cur, KeepsState (.powerFail mv cur)) ∧
    (∀ mv cur, KeepsState (.inputOvervoltageWarn mv cur)) ∧ (∀ mv cur, KeepsState (.overvoltageShutdown mv cur)) ∧
    (∀ slotId recov, KeepsState (.inputRecovery slotId recov)) ∧ (∀ m, KeepsState (.moduleIsolate m)) ∧
    (∀ mv cur, KeepsState (.currentLimitSample mv cur)) ∧ (∀ mv cur, KeepsState (.hardBrake mv cur)) ∧
    (∀ mv cur t, KeepsState (.hardBrakeRelease mv cur t)) ∧ (∀ p, KeepsState (.prepositionStart p)) := by
  and_intros
  all_goals
    intros
    refine fun s => Out.keeps_next ?_
    with_reducible repeat' first
      | assumption | apply State.Keeps.refl | apply State.inputSample_keeps | apply State.inputEvent_keeps | apply State.powerDown_keeps
      | apply State.coldReset_keeps | apply State.stageZero_keeps | apply State.setFlag_keeps | apply State.setFld_keeps
      | apply State.logAdd_keeps | apply State.capUpdate_keeps | apply State.modArr_keeps | apply State.onceMs_keeps | apply State.bump64_keeps
      | fail_if_no_progress apply State.Keeps.mk' | apply State.Keeps.foldl | intro _ | split | dsimp only

/-- Power domains (13_power). -/
theorem domainEvents_keep :
    (∀ d, KeepsState (.domainSoftStart d)) ∧ (∀ d mv ma inLimit t, KeepsState (.softStartCheck d mv ma inLimit t)) ∧
    (∀ d, KeepsState (.domainRampComplete d)) ∧ (∀ d t, KeepsState (.domainRetry d t)) ∧
    (∀ d mv ma t, KeepsState (.domainOvercurrent d mv ma t)) ∧ (∀ p, KeepsState (.retentionEntry p)) ∧ (∀ p, KeepsState (.retentionWake p)) ∧
    (∀ d v t, KeepsState (.domainVminExcursion d v t)) := by
  and_intros
  all_goals
    intros
    refine fun s => Out.keeps_next ?_
    with_reducible repeat' first
      | assumption | apply State.Keeps.refl | apply State.setDom_keeps | apply State.setFld_keeps | apply State.domEvent_keeps
      | apply State.persistentShort_keeps | apply State.suspect_keeps | apply State.arrayPowerFault_keeps | apply State.edgeLost_keeps
      | apply State.linkDown_keeps | apply State.hostPortReset_keeps | apply State.hostPortFaults_keeps | apply State.faultArr_keeps
      | apply State.ctxFault_keeps | apply State.autoReset_keeps | apply State.retain_keeps | apply State.wake_keeps | apply State.setReg64_keeps
      | apply State.lifeCount_keeps | apply State.onceMs_keeps | fail_if_no_progress apply State.Keeps.mk' | apply State.Keeps.foldl | intro _
      | split | dsimp only

/-- The power cap and the temperatures (13_power). -/
theorem powerLoopEvents_keep :
    (∀ obs droops stretched, KeepsState (.capLoop obs droops stretched)) ∧ KeepsState .throtReqAssert ∧ KeepsState .throtReqDeassert ∧
    (∀ readings, KeepsState (.thermalSample readings)) ∧ KeepsState .dailyOffsetUpdate ∧
    (∀ e arrays traffic dev, KeepsState (.energyAttribution e arrays traffic dev)) := by
  and_intros
  all_goals
    intros
    refine fun s => Out.keeps_next ?_
    with_reducible repeat' first
      | assumption | apply State.Keeps.refl | apply State.setProfile_keeps | apply State.thermLoop_keeps | apply State.boostCount_keeps
      | apply State.postDev_keeps | apply State.setFlag_keeps | apply State.capUpdate_keeps | apply State.setFld_keeps
      | apply State.loopPart_keeps | apply State.bump64_keeps | apply State.rackChange_keeps | apply State.inputEvent_keeps
      | apply State.sensorRead_keeps | apply State.thermTripNow_keeps | apply State.thermArray_keeps | apply State.thermSite_keeps
      | apply State.offsetOf_keeps | apply State.lifeAdd_keeps | apply State.setReg_keeps | apply State.energyAdd_keeps
      | fail_if_no_progress apply State.Keeps.mk' | apply State.Keeps.foldl | intro _ | split | dsimp only

/-- Loans of power between devices (13_power). -/
theorem poolEvents_keep :
    (∀ stalled resident, KeepsState (.poolIntervalBoundary stalled resident)) ∧ KeepsState .poolLoanDecision ∧
    (∀ frame, KeepsState (.poolSlackFrame frame)) ∧ (∀ frame, KeepsState (.poolLoanFrame frame)) ∧
    (∀ frame, KeepsState (.poolAcceptFrame frame)) ∧ (∀ frame, KeepsState (.poolRefuseFrame frame)) ∧
    (∀ frame, KeepsState (.poolRecallFrame frame)) ∧ (∀ frame, KeepsState (.poolReleaseFrame frame)) ∧ (∀ t, KeepsState (.poolLeaseEnd t)) ∧
    (∀ t, KeepsState (.poolLenderTimeout t)) := by
  and_intros
  all_goals
    intros
    refine fun s => Out.keeps_next ?_
    with_reducible repeat' first
      | assumption | apply State.Keeps.refl | apply State.setFld_keeps | apply State.slackPut_keeps | apply State.poolSend_keeps
      | apply State.setLent_keeps | apply State.setBorrowed_keeps | apply State.loanEvent_keeps | apply State.loanBack_keeps
      | apply State.Keeps.foldl | intro _ | split | dsimp only

/-- Power-on and bring-up (14_bringup_repair). -/
theorem bringupEvents_keep :
    KeepsState .powerOn ∧ KeepsState .coldRstLAssert ∧ (∀ slotId recov, KeepsState (.coldRstLDeassert slotId recov)) ∧
    (∀ t e, KeepsState (.bringupStageEnd t e)) ∧ (∀ t, KeepsState (.coldResetDelayExpiry t)) ∧ KeepsState .lifetimeFlush := by
  and_intros
  all_goals
    intros
    refine fun s => Out.keeps_next ?_
    with_reducible repeat' first
      | apply State.Keeps.refl | apply State.coldReset_keeps | apply State.stopAll_keeps | apply State.stageZero_keeps
      | apply State.stageWork_keeps | apply State.lifeAdd_keeps | apply State.bringupFail_keeps | apply State.trialFails_keeps
      | apply State.setFld_keeps | apply State.bringupRestart_keeps | apply State.ready_keeps | apply State.coldRestart_keeps
      | apply State.bandMinute_keeps | apply State.lifeFlush_keeps | fail_if_no_progress apply State.Keeps.mk' | apply State.Keeps.foldl | split
      | dsimp only

/-- Remaps, tests and repairs (14_bringup_repair). -/
theorem repairEvents_keep :
    (∀ p, KeepsState (.remapStart p)) ∧ (∀ p, KeepsState (.remapMapSwitch p)) ∧ (∀ sigOk, KeepsState (.pyriteRunStart sigOk)) ∧
    (∀ result fails row col repairs, KeepsState (.pyriteRunEnd result fails row col repairs)) ∧
    (∀ mismatch, KeepsState (.knownAnswerComplete mismatch)) ∧
    (∀ seg bundle group lane errs link, KeepsState (.seamLaneMonitor seg bundle group lane errs link)) ∧
    (∀ bus field, KeepsState (.mgmtBusRetire bus field)) ∧ (∀ t, KeepsState (.dispatcherHeartbeat t)) ∧
    (∀ reported t, KeepsState (.dispatcherFailover reported t)) ∧ (∀ pass, KeepsState (.moduleTestComplete pass)) ∧
    (∀ cycles, KeepsState (.hangSample cycles)) ∧ (∀ c, KeepsState (.watchdogExpiry c)) := by
  and_intros
  all_goals
    intros
    refine fun s => Out.keeps_next ?_
    with_reducible repeat' first
      | assumption | apply State.Keeps.refl | apply State.wake_keeps | apply State.arrayGen_keeps | apply State.modArr_keeps
      | apply State.switchMap_keeps | apply State.setFlag_keeps | apply State.setFld_keeps | apply State.bump_keeps | apply State.postDev_keeps
      | apply State.stripsOff_keeps | apply State.queuePyrite_keeps | apply State.logAdd_keeps | apply State.runWaits_keeps
      | apply State.showSpares_keeps | apply State.showPyr_keeps | apply State.testEvent_keeps | apply State.testStrips_keeps
      | apply State.applyRepair_keeps | apply State.brpEvent_keeps | apply State.retireArray_keeps | apply State.pyrPass_keeps
      | apply State.stripsOn_keeps | apply State.lifeCount_keeps | apply State.repairRun_keeps | apply State.suspect_keeps
      | apply State.retireLink_keeps | apply State.autoReset_keeps | apply State.clock_keeps | apply State.dispatch_keeps
      | apply State.repairEnd_keeps | apply State.capUpdate_keeps | apply State.declareHang_keeps | apply State.postCtx_keeps
      | apply State.ctxFault_keeps | fail_if_no_progress apply State.Keeps.mk' | apply State.Keeps.foldl | intro _ | split | dsimp only

/-- Common command codes of the I3C bus (15_management R518). -/
theorem i3cCommands_keep :
    (∀ t addr, KeepsState (.entdaa t addr)) ∧ (∀ t, KeepsState (.rstdaa t)) ∧ (∀ t ibi hotJoin, KeepsState (.enec t ibi hotJoin)) ∧
    (∀ t ibi hotJoin, KeepsState (.disec t ibi hotJoin)) ∧ (∀ t, KeepsState (.getpid t)) ∧ (∀ t, KeepsState (.getbcr t)) ∧
    (∀ t, KeepsState (.getdcr t)) ∧ (∀ t, KeepsState (.getstatus t)) ∧ (∀ t, KeepsState (.getmrl t)) ∧ (∀ t n, KeepsState (.setmrl t n)) ∧
    (∀ t, KeepsState (.getmwl t)) ∧ (∀ t n, KeepsState (.setmwl t n)) ∧ (∀ t, KeepsState (.getmxds t)) ∧
    (∀ t action, KeepsState (.rstact t action)) ∧ (∀ t, KeepsState (.i3cHotJoin t)) := by
  and_intros
  all_goals
    intros
    refine fun s => Out.keeps_next ?_
    with_reducible repeat' first
      | apply State.Keeps.refl | apply State.setFlag_keeps | apply State.setFld_keeps | apply State.setI3c_keeps | apply State.addrEvent_keeps
      | apply State.drawn_keeps | apply State.ownerEnds_keeps | apply State.answer_keeps | apply State.emit_keeps | split

/-- MCTP and PLDM messages (15_management). -/
theorem endpointMessages_keep :
    (∀ req eid, KeepsState (.setEndpointId req eid)) ∧ (∀ req, KeepsState (.getEndpointId req)) ∧ KeepsState .getMctpVersionSupport ∧
    (∀ req tid, KeepsState (.setTid req tid)) ∧ (∀ req ty, KeepsState (.getPldmCommands req ty)) ∧
    (∀ req ty, KeepsState (.getPldmVersion req ty)) ∧ (∀ req n, KeepsState (.getPdr req n)) ∧ (∀ req id, KeepsState (.getSensorReading req id)) ∧
    (∀ req id, KeepsState (.getStateSensorReadings req id)) ∧ (∀ req id v, KeepsState (.setNumericEffecterValue req id v)) ∧
    (∀ req id, KeepsState (.getNumericEffecterValue req id)) ∧ (∀ req, KeepsState (.setEventReceiver req)) ∧
    (∀ req n, KeepsState (.eventMessageBufferSize req n)) ∧ (∀ req space first count, KeepsState (.readLifetime req space first count)) := by
  and_intros
  all_goals
    intros
    refine fun s => Out.keeps_next ?_
    with_reducible repeat' first
      | apply State.Keeps.refl | apply State.answer_keeps | apply State.notice_keeps | apply State.setFld_keeps | apply State.drawn_keeps
      | apply State.badMessage_keeps | apply State.pldmRefuse_keeps | apply State.regWrite_keeps | apply capGrantReg_keeps | apply rackReg_keeps
      | fail_if_no_progress apply State.Keeps.mk' | split | dsimp only

/-- SPDM messages (15_management). -/
theorem securityMessages_keep :
    (∀ req, KeepsState (.getVersion req)) ∧ (∀ req ecdsaP384 sha384, KeepsState (.negotiateAlgorithms req ecdsaP384 sha384)) ∧
    (∀ req slot off len, KeepsState (.getCertificate req slot off len)) ∧ (∀ req nonce, KeepsState (.challenge req nonce)) ∧
    (∀ req idx nonce, KeepsState (.getMeasurements req idx nonce)) := by
  and_intros
  all_goals
    intros
    refine fun s => Out.keeps_next ?_
    with_reducible repeat' first
      | apply State.Keeps.refl | apply State.notice_keeps | apply State.setSpdm_keeps | apply State.answer_keeps | split | dsimp only

/-- Firmware update and the trial of an image (15_management). -/
theorem firmwareMessages_keep :
    (∀ req, KeepsState (.requestUpdate req)) ∧ (∀ req, KeepsState (.passComponentTable req)) ∧ (∀ req id, KeepsState (.updateComponent req id)) ∧
    (∀ req off data, KeepsState (.firmwareDataResponse req off data)) ∧ (∀ req last, KeepsState (.transferComplete req last)) ∧
    (∀ sig hash, KeepsState (.fwVerifyComplete sig hash)) ∧ (∀ req, KeepsState (.verifyComplete req)) ∧
    (∀ req, KeepsState (.cancelUpdateComponent req)) ∧ (∀ req, KeepsState (.cancelUpdate req)) ∧ (∀ req, KeepsState (.coldReset req)) ∧
    KeepsState .trialWindowExpiry ∧ (∀ req, KeepsState (.activateFirmware req)) ∧ (∀ req, KeepsState (.confirmFirmware req)) := by
  and_intros
  all_goals
    intros
    refine fun s => Out.keeps_next ?_
    with_reducible repeat' first
      | assumption | exact State.activate_keeps _ (.refl s) _ ‹_› | exact State.confirm_keeps _ (.refl s) _ ‹_› | apply State.Keeps.refl
      | apply State.notice_keeps | apply State.pldmRefuse_keeps | apply State.answer_keeps | apply State.bootWrite_keeps
      | apply State.fwEvent_keeps | apply State.updateStep_keeps | apply State.emit_keeps | apply State.takeOver_keeps
      | apply State.updateCancel_keeps | apply State.trialFails_keeps | fail_if_no_progress apply State.Keeps.mk' | intro _ | split | dsimp only

/-- Ownership (15_management R525). -/
theorem ownershipMessages_keep :
    (∀ req prio id, KeepsState (.claimOwnership req prio id)) ∧ (∀ t, KeepsState (.leaseLapse t)) ∧ (∀ t, KeepsState (.handoverExpiry t)) ∧
    (∀ req kind path node id, KeepsState (.handOver req kind path node id)) ∧ (∀ req id, KeepsState (.releaseOwnership req id)) := by
  and_intros
  all_goals
    intros
    refine fun s => Out.keeps_next ?_
    with_reducible repeat' first
      | apply State.Keeps.refl | apply State.handOver_keeps | apply State.release_keeps | apply State.pldmRefuse_keeps | dsimp only
      | apply State.notice_keeps | apply State.claim_keeps | apply State.answer_keeps | apply State.ownerClear_keeps | apply State.mgtEvent_keeps
      | apply State.ownerEntry_keeps | apply State.setFlag_keeps | fail_if_no_progress apply State.Keeps.mk' | split

/-! The shapes that many commands share: behind the gate of a core, behind that of a controller, the write of a register, and an answer. -/

section
variable {s : State}

theorem Out.Keeps.coreGate {core : CoreId} {w : Word} {mask mtch must0 : Nat} {k : CoreState → State} (hk : ∀ c, State.Keeps s (k c)) :
    Out.Keeps s (.next (Machine.coreGate core w mask mtch must0 s k)) := coreGate_keeps _ _ _ _ _ _ _ (.refl s) hk

theorem Out.Keeps.ctrlGate {p : ArrayId} {w0 : Word} {w1 : Option Word} {known : Word → Bool} {mask mtch range0 must0 : Nat} {k : State → State}
    (hk : ∀ t, State.Keeps s t → State.Keeps s (k t)) : Out.Keeps s (.next (Machine.ctrlGate p w0 w1 known mask mtch range0 must0 s k)) :=
  ctrlGate_keeps _ _ _ _ _ _ _ _ _ _ (.refl s) hk

theorem Out.Keeps.regWrite {req : Requester} {off v : Nat} {e : RegEffect} (he : e.Keeps) : Out.Keeps s (.next (s.regWrite req off v e)) :=
  State.regWrite_keeps _ _ _ _ _ (.refl s) he

theorem Out.Keeps.answered {req : Requester} {basic : Bool} {d : List Nat} :
    Out.Keeps s (.next (if s.takesMessage req basic then (s.answer d).notice req else s)) :=
  State.Keeps.ite (.refl s) fun h => State.notice_keeps _ _ (State.answer_keeps _ _ h)

end

/-- Every command keeps: the instructions that only compute by their gate, every other command by the lemma of its family. -/
theorem exec_keeps (i : Instr) : KeepsState i := by
  cases i with
  | gexaCNop | gexaCHalt | gexaCTrap | gexaCAdd | gexaCSub | gexaCAnd | gexaCOr | gexaCXor | gexaCAndn | gexaCShl | gexaCShr | gexaCSra
  | gexaCMin | gexaCMax | gexaCMinu | gexaCMaxu | gexaCMul | gexaCMulhu | gexaCSlt | gexaCSltu | gexaCSeq | gexaCSne | gexaCClz | gexaCPopc
  | gexaCAddi | gexaCAndi | gexaCOri | gexaCXori | gexaCShli | gexaCShri | gexaCSrai | gexaCSlti | gexaCSltui | gexaCSeqi | gexaCLi | gexaCLih
  | gexaCSel | gexaCB | gexaCBz | gexaCBnz | gexaCBlt | gexaCBge | gexaCBltu | gexaCBgeu | gexaCBeq | gexaCLoop | vopAdd | vopSub | vopAdds
  | vopSubs | vopMin | vopMax | vopMinu | vopMaxu | vopAnd | vopOr | vopXor | vopShl | vopShr | vopSra | vopAbs | vopMul | vopsAdd | vopsSub
  | vopsAdds | vopsSubs | vopsMin | vopsMax | vopsMinu | vopsMaxu | vopsAnd | vopsOr | vopsXor | vopsShl | vopsShr | vopsSra | vopsAbs | vopsMul
  | vcmpEq | vcmpNe | vcmpLt | vcmpLe | vcmpGt | vcmpGe | vcmpLtu | vcmpLeu | vcmpGtu | vcmpGeu | vsel | vmac | vmul | aclr | aget | aput | aadd
  | asub | aiota | anarrowLo | anarrowHi | awiden | asum | vcx | vsrtSort | vsrtStep | vsrtRev | vpermPerm | vpermUp | vpermDown | vpermSplat
  | vredMaxs | vredMins | vredMaxu | vredMinu | vredSum | vredArgmaxu | vredCnt | vredFirst | vcvtKey | vcvtUnkey | vcvtE4Lo | vcvtE4Hi
  | vcvtE5Lo | vcvtE5Hi | vcvtSxLo | vcvtSxHi | vcvtBfE4 => exact fun s => coreInstr_keeps (hk := .refl s) ..
  | gexaCSysr => exact fun s => .coreGate fun _ => coreSysr_keeps (hk := .refl s) ..
  | gexaCLdW | gexaCLdHu | gexaCLdBu | gexaCLdV | gexaCLdAl | gexaCLdAh | gexaCLdA =>
    exact fun s => .coreGate fun _ => slateLoad_keeps (hk := .refl s) ..
  | gexaCStW | gexaCStH | gexaCStB | gexaCStV | gexaCStAl | gexaCStAh | gexaCStA =>
    exact fun s => .coreGate fun _ => slateStore_keeps (hk := .refl s) ..
  | sfill | scopy => exact fun s => .coreGate fun _ => coreFill_keeps (hk := .refl s) ..
  | send => exact fun s => .coreGate fun _ => coreSend_keeps (hk := .refl s) ..
  | putV | putA => exact fun s => .coreGate fun _ => corePutTo_keeps (hk := .refl s) ..
  | get => exact fun s => .coreGate fun _ => coreGet_keeps (hk := .refl s) ..
  | recv => exact fun s => .coreGate fun _ => coreRecv_keeps (hk := .refl s) ..
  | recvN => exact fun s => .coreGate fun _ => coreRecvN_keeps (hk := .refl s) ..
  | recvT => exact fun s => .coreGate fun _ => coreRecvT_keeps (hk := .refl s) ..
  | gexaCSig => exact fun s => .coreGate fun _ => coreSig_keeps (hk := .refl s) ..
  | gexaCWait => exact fun s => .coreGate fun _ => coreWait_keeps (hk := .refl s) ..
  | gexaSAdd | gexaSSub | gexaSAnd | gexaSOr | gexaSXor | gexaSAndn | gexaSShl | gexaSShr | gexaSSra | gexaSMin | gexaSMax | gexaSMinu
  | gexaSMaxu | gexaSMul | gexaSMulhu | gexaSDivu | gexaSRemu | gexaSClz | gexaSPopc | gexaSAddi | gexaSAndi | gexaSOri | gexaSXori | gexaSShli
  | gexaSShri | gexaSSrai | gexaSLi | shlor | pand | predOr | pxor | pandn | pnot | pnz | gexaSSel | dadv | gexaSNop =>
    exact fun s => ctrlInstr_keeps (hk := .refl s) ..
  | loadBlock | loadS => exact fun _ => .ctrlGate fun _ h => State.issueLoad_keeps (hk := h) ..
  | swapSets | coreRun => exact fun _ => .ctrlGate fun _ h => State.enqueue_keeps (hk := h) ..
  | pass | passT => exact fun _ => .ctrlGate fun _ h => State.issuePass_keeps (hk := h) ..
  | cmp | cmpi => exact fun _ => .ctrlGate fun _ h => sCmp_keeps (hk := h) ..
  | jal | jalr => exact fun _ => .ctrlGate fun _ h => State.ctrlCall_keeps (hk := h) ..
  | gexaSLdD | gexaSLdW | dld => exact fun _ => .ctrlGate fun _ h => State.ctrlLoad_keeps (hk := h) ..
  | gexaSStD | gexaSStW | dst => exact fun _ => .ctrlGate fun _ h => State.ctrlStore_keeps (hk := h) ..
  | dmaCopy | dmaFill | dmaGather | dmaScatter => exact fun _ => .ctrlGate fun _ h => State.issueDma_keeps (hk := h) ..
  | winCtr | winGen | cntRd | now | chkMode | yieldArray | endProgram | fenceI | cinv =>
    exact fun _ => .ctrlGate fun _ h => State.ctrlSet_keeps (hk := h) ..
  | waitUntil | waitUntilOff => exact fun _ => .ctrlGate fun _ h => State.waitUntil_keeps (hk := h) ..
  | launchAt | launchAtOff => exact fun _ => .ctrlGate fun _ h => State.launchAt_keeps (hk := h) ..
  | chkCommit | chkCommitStep => exact fun _ => .ctrlGate fun _ h => State.chkCommit_keeps (hk := h) ..
  | softFault => exact fun _ => .ctrlGate fun _ h => State.issueFault_keeps (hk := h) ..
  | fenceSt | fenceArr | fenceVec | fenceDma | fenceAll => exact fun _ => .ctrlGate fun _ h => State.fence_keeps (hk := h) ..
  | mmuInv => exact fun _ => .regWrite mmuInvReg_keeps
  | mmuFaultResumeRetry | mmuFaultResumeAbort => exact fun _ => .regWrite resumeReg_keeps
  | flintInject => exact fun _ => .regWrite flintInject_keeps
  | quartzStep | refSelectRequest => exact fun _ => .regWrite quartzCtl_keeps
  | regionDigestGo => exact fun _ => .regWrite rdeReg_keeps
  | pyriteQueue => exact fun _ => .regWrite pyrCtl_keeps
  | knownAnswerStart => exact fun _ => .regWrite (kakCtl_keeps _)
  | contextEnable | contextDisable | contextReset => exact fun _ => .regWrite (ctxCtl_keeps _)
  | cpResetRequest => exact fun _ => .regWrite (cpCtl_keeps _)
  | partitionCreate | partitionDestroy => exact fun _ => .regWrite (partCtl_keeps _)
  | fabNodeWrite => exact fun _ => .regWrite fabNodeReg_keeps
  | lowrateReq | wakeReq => exact fun _ => .regWrite (fabPortCtl_keeps _)
  | capGrantWrite => exact fun _ => .regWrite capGrantReg_keeps
  | rackReq => exact fun _ => .regWrite rackReg_keeps
  | vminClear => exact fun _ => .regWrite (vminReg_keeps _)
  | deviceReset | fieldReset | arrayReset => exact fun _ => .regWrite (brpReset_keeps _ _)
  | repairSetShiftMap | repairSetRowMap | repairRetireArray | repairRevoke | repairTestModule => exact fun _ => .regWrite repCmd_keeps
  | claimCtlClaim | claimCtlRelease | claimCtlHandOver => exact fun _ => .regWrite claimCtl_keeps
  | fwCtlConfirm | fwCtlActivate | fwCtlCancel | fwCtlColdReq => exact fun _ => .regWrite fwCtl_keeps
  | getMessageTypeSupport | getEndpointUuid => exact fun s => State.answer_keeps (hk := .refl s) ..
  | getTid | getPldmTypes | getPdrRepositoryInfo | queryDeviceIdentifiers | getFirmwareParameters | getStatus | getOwner | getCapabilities
  | getDigests =>
    exact fun _ => .answered
  | _ =>
    simp only [registerAccesses_keep, meshMessages_keep, coreEvents_keep, ctrlIssues_keep, ctrlEvents_keep, arrayEvents_keep, tileEvents_keep,
      engineEvents_keep, memoryEvents_keep, signalEvents_keep, timeEvents_keep, clockEvents_keep, replayEvents_keep, digestEvents_keep,
      contextEvents_keep, hostEvents_keep, fabricPackets_keep, fabricLinks_keep, inputPowerEvents_keep, domainEvents_keep, powerLoopEvents_keep,
      poolEvents_keep, bringupEvents_keep, repairEvents_keep, i3cCommands_keep, endpointMessages_keep, securityMessages_keep,
      firmwareMessages_keep, ownershipMessages_keep, hostInboundWrite_keeps]

theorem Out.Keeps.exists_next {o : State} {out : Host.Outcome State Fault Refusal} (h : Out.Keeps o out) :
    ∃ t, out = .next t ∧ State.Keeps o t := by
  cases out with
  | next t => exact ⟨t, rfl, h⟩
  | fault _ => exact h.elim
  | refused _ => exact h.elim

/-- Settles O3: the command at the front of the queue keeps, and so does the idle step of an empty queue. -/
theorem stepGoesOnAndKeepsMemory : Obligations.StepGoesOnAndKeepsMemory := by
  unfold Obligations.StepGoesOnAndKeepsMemory
  intro s hwf
  cases hp : s.pending with
  | nil =>
    have hk := State.idle_keeps s (.refl s)
    exact ⟨s.idle, by rw [step, hp], hk.mem hwf, hk.fuses, by rw [hk.pending, hp]; rfl⟩
  | cons c rest =>
    obtain ⟨t, ht, hk⟩ := (exec_keeps c { s with pending := rest }).exists_next
    exact ⟨t, by rw [step, hp]; exact ht, hk.mem hwf, hk.fuses, hk.pending⟩

end Sys2Proof.Machine

/-!
What a store writes (07_memory R232, R233): the bytes of a memory in canonical form after bytes are put into it, and O14.
-/
namespace Sys2Proof.Machine

/-! Tables whose keys rise. -/

theorem Memory.above.keys {b : Nat} {m : List Host.Cell} (h : Memory.above b m) : Tbl.above b m := by
  induction m generalizing b with
  | nil => trivial
  | cons c m ih => exact ⟨h.1, ih h.2.2⟩

/-- Deleting a key leaves nothing there, and every other key as it was. -/
theorem tblFind_del {α : Type} {b : Nat} {t : Tbl α} (h : Tbl.above b t) (i j : Nat) :
    tblFind (tblDel t i) j = if j = i then none else tblFind t j := by
  induction t generalizing b with
  | nil => simp [tblDel, tblFind]
  | cons e t ih =>
    obtain ⟨k, v⟩ := e
    obtain ⟨-, hrest⟩ := h
    obtain hik | rfl | hki := Nat.lt_trichotomy i k
    · rw [tblDel, if_pos hik]
      split_ifs with hji
      · rw [hji, tblFind, if_neg (by omega), if_pos hik]
      · rfl
    · rw [tblDel, if_neg (Nat.lt_irrefl i), if_pos rfl]
      split_ifs with hji
      · exact tblFind_above hrest (by omega)
      · rw [tblFind, if_neg (by omega)]
        split_ifs with hlt
        · exact tblFind_above hrest (by omega)
        · rfl
    · rw [tblDel, if_neg (by omega), if_neg (by omega)]
      rw [tblFind, tblFind, ih hrest]
      by_cases hji : j = i
      · rw [if_pos hji, if_pos hji, if_neg (by omega), if_neg (by omega)]
      · rw [if_neg hji, if_neg hji]

/-- One byte stored in a memory in canonical form is read back, and no other byte changes. -/
theorem Memory.get_set {m : List Host.Cell} (h : Memory.wf m = true) (i j : Nat) (x : Byte) :
    tblGet 0#8 (tblSet 0#8 m i x) j = if j = i then x else tblGet 0#8 m j := by
  rw [tblSet]
  split_ifs with hx hji hji
  · rw [tblGet, tblFind_del ((Memory.wf_iff_above m).mp h).keys, if_pos hji, hx]; rfl
  · rw [tblGet, tblFind_del ((Memory.wf_iff_above m).mp h).keys, if_neg hji]; rfl
  · rw [hji, tblGet_put_same]
  · exact tblGet_put_other (Ne.symm hji)

/-- Bytes stored in a memory in canonical form are read back, and no other byte changes. -/
theorem Memory.get_memPut {m : List Host.Cell} (h : Memory.wf m = true) (pa : Nat) (bs : List Byte) (a : Nat) :
    tblGet 0#8 (memPut m pa bs) a = if pa ≤ a ∧ a < pa + bs.length then nth 0#8 bs (a - pa) else tblGet 0#8 m a := by
  induction bs generalizing m pa with
  | nil => rw [memPut, if_neg (by simp)]
  | cons b bs ih =>
    rw [memPut, ih (Memory.wf_set m pa b h), Memory.get_set h, List.length_cons]
    obtain hlt | rfl | hgt := Nat.lt_trichotomy a pa
    · rw [if_neg (by omega), if_neg (by omega), if_neg (by omega)]
    · rw [if_neg (by omega), if_pos rfl, if_pos (by omega), Nat.sub_self, nth]
    · rw [show a - pa = (a - (pa + 1)) + 1 by omega, nth, if_neg (show a ≠ pa by omega)]
      exact if_congr (by omega) rfl rfl

theorem State.wrBytes_byte {s : State} (h : Memory.wf s.mem = true) (pa : Nat) (bs : List Byte) (a : Nat) :
    (s.wrBytes pa bs).byte a = if pa ≤ a ∧ a < pa + bs.length then nth 0#8 bs (a - pa) else s.byte a :=
  Memory.get_memPut h pa bs a

/-! Stores. -/

/-- The words that a store of n bytes writes only in part (R233). -/
def partWords (pa n : Nat) : List Nat := (wordsOf pa n).filter (fun w => !(decide (pa ≤ w) && decide (w + 8 ≤ pa + n)))

/-- R233: the words that a store writes in part are read first; where none of them is bad, the store is that and the bytes. -/
theorem State.store_sound {s : State} (ctx : Option Nat) {pa : Nat} {bs : List Byte}
    (h : ∀ w ∈ partWords pa bs.length, (s.checkAt w).bad = false) :
    s.store ctx pa bs = ((partWords pa bs.length).foldl (fun s w => s.readCheck ctx w) s).wrBytes pa bs := by
  have hbad : (partWords pa bs.length).filter (fun w => (s.checkAt w).bad) = [] := by
    rw [List.filter_eq_nil_iff]
    exact fun w hw => by simp [h w hw]
  exact congrArg (List.foldl _ _) hbad

/-- Settles O14: the reads of the partial words keep the canonical form, and clean words report nothing. -/
theorem storeWritesItsBytes : Obligations.StoreWritesItsBytes := by
  unfold Obligations.StoreWritesItsBytes
  intro s ctx pa bs hwf part u hbad
  have hstore : s.store ctx pa bs = u.wrBytes pa bs := State.store_sound ctx hbad
  have hkeeps : State.Keeps s u := State.Keeps.foldl (.refl s) fun t w ht => State.readCheck_keeps t ctx w ht
  have hbytes : ∀ a, (s.store ctx pa bs).byte a = if pa ≤ a ∧ a < pa + bs.length then nth 0#8 bs (a - pa) else u.byte a :=
    fun a => by rw [hstore, State.wrBytes_byte (hkeeps.mem hwf)]
  refine ⟨hbytes, fun hclean a => ?_⟩
  have hu : u = s :=
    List.foldlRecOn (motive := fun t : State => t = s) _ _ rfl fun t ht w hw => by rw [ht, State.readCheck_clean ctx (hclean w hw)]
  rw [hbytes, hu]

end Sys2Proof.Machine

/-!
Accesses of this device's queues at their windows (07_memory R252, R266 to R270), and O35.
-/
namespace Sys2Proof.Machine

/-! What an admitted access works on (R266, R269). -/

/-- The context of a window moves the bytes of an access. -/
def Window.accessor (x : Window) (a : WinAcc) : Accessor := ⟨x.ctx, some a.array, if a.write then .write else .read, 3⟩

/-- The virtual address of an access, in the context of its window. -/
def Window.vaOf (x : Window) (a : WinAcc) : Nat := leAt x.record 0 8 + a.off

/-- The physical ranges of an access. -/
def State.winRanges (s : State) (x : Window) (a : WinAcc) : List (Nat × Nat) := s.physRanges (x.accessor a) [(x.vaOf a, a.size)]

/-- The bytes of a write go into its ranges one after the other. -/
def State.storeRanges (s : State) (ctx : Option Nat) (rs : List (Nat × Nat)) (bs : List Byte) : State :=
  (rs.foldl (fun (st : State × List Byte) r => (st.1.store ctx r.1 (st.2.take r.2), st.2.drop r.2)) (s, bs)).1

/-- What follows a write where the flags of the window say so: its producer counter rises (bit 1), its signal is sent (bit 2). -/
def State.winNotes (s : State) (q : Nat) (x : Window) (a : WinAcc) : State :=
  let v := if (leAt x.record 48 1).testBit 1 then
      s.setWindow q a.window { s.window q a.window with counter := ((s.window q a.window).counter + 1) % 2 ^ 32 } else s
  if (leAt x.record 48 1).testBit 2 then v.addCtrl q (leAt x.record 49 1) 1 (sigSrc 4 false (a.array * 65536)) else v

/-! The arrival. -/

section
variable {s : State} {n q : Nat} {a : WinAcc} {x : Window}

/-- R252: an access in flight that nothing holds back arrives at the array that backs its logical array. -/
theorem exec_windowAccessArrival_arrives (hn : s.memst.winq[n]? = some a) (hremote : s.isRemote a = false) (hgate : s.gateHeld a = false)
    (hheld : s.winHeld a = false) (hbehind : s.winBehind (s.memst.winq.take n) a = false) :
    exec (.windowAccessArrival n) s = .next (s.winArrive a) := by
  rw [exec_windowAccessArrival, execWindowAccessArrival, hn]
  simp only [hremote, hgate, hheld, hbehind, Bool.or_self, Bool.false_eq_true, if_false]

/-- R269: an access of this device that its window has not admitted yet is checked. -/
theorem State.winArrive_checked (hq : s.physOf a.array = some q) (hnew : a.admitted = false) (hsrc : a.src = none) :
    s.winArrive a = (winCheck (s.window q a.window) a).elim (s.winPerform q (s.window q a.window) a)
      (s.winRefuse (some q) (s.window q a.window) a 0x0D) := by
  simp only [State.winArrive, hq, hnew, hsrc, Option.isSome_none, Bool.and_false, Bool.false_and, Bool.false_eq_true, if_false]
  cases winCheck (s.window q a.window) a <;> rfl

variable (hsrc : a.src = none)
include hsrc

/-- R269: the refusal of an access of this device by a check of its window. -/
theorem State.winRefuse_local (code : Nat) : s.winRefuse (some q) x a 0x0D code =
    (((((if x.isOpen = true ∨ x.gen ≠ 0 then
          s.postCtx x.ctx 0x0D code 2 (srcOf 1 q) (winPayload a.window a.array 0 a.ctx a.gen x.gen 0 a.off a.size) else s).bump
        (rAryWinRefused q) 1).postCtx a.ctx 0x0D code 2 (srcOf 1 a.p) (winPayload a.window a.array 0 a.ctx a.gen x.gen 1 a.off a.size)).winDone
        a true).digestRefused a) := by
  simp [State.winRefuse, State.refusedAt, hsrc]

/-- R269: a read of this device that is admitted gives its reader the bytes of its ranges and which of their words are bad. -/
theorem State.winPerform_read (hread : a.write = false) (hfault : s.firstFault (x.accessor a) [(x.vaOf a, a.size)] = none)
    (hcommitted : (s.winRanges x a).any (fun r => s.uncommittedHit r.1 r.2) = false) :
    s.winPerform q x a =
      let u := s.readRanges (some x.ctx) (s.winRanges x a)
      u.winReturn a ((s.winRanges x a).flatMap (fun r => u.rdBytes r.1 r.2)) (packBits (wordsOf (x.vaOf a) a.size).length
        (fun i => (u.physRanges (x.accessor a) (maskRanges (x.vaOf a) a.size (2 ^ i))).any (fun r => u.badIn r.1 r.2))) := by
  simp only [State.winRanges, Window.accessor, Window.vaOf, hread, Bool.false_eq_true, if_false] at hfault hcommitted ⊢
  simp only [State.winPerform, hread, hfault, hcommitted, hsrc, Bool.false_eq_true, if_false]

/-- R269: a write of this device that is admitted stores its bytes, then does what its window says follows a write. -/
theorem State.winPerform_write (hwrite : a.write = true) (hclean : a.poison = 0)
    (hfault : s.firstFault (x.accessor a) [(x.vaOf a, a.size)] = none) (hfree : (s.winRanges x a).any (fun r => s.heldHit r.1 r.2) = false) :
    s.winPerform q x a = ((s.storeRanges (some x.ctx) (s.winRanges x a) a.data).winNotes q x a).winDone a false := by
  simp only [State.winRanges, Window.accessor, Window.vaOf, hwrite, if_true] at hfault hfree ⊢
  simp only [State.winPerform, State.pairRecord, State.fabRespond, hwrite, hclean, hfault, hfree, hsrc, if_true, Bool.false_eq_true, if_false,
    ne_eq, not_true_eq_false, decide_false]
  rfl

end

/-- Settles O35: the arrival, then the check of the window, then the refusal, the read or the write. -/
theorem windowArrivals : Obligations.WindowArrivals := by
  unfold Obligations.WindowArrivals
  intro s n q a hn hremote hgate hheld hbehind hq hnew hsrc x va acc rs told
  have harrive : exec (.windowAccessArrival n) s = .next ((winCheck x a).elim (s.winPerform q x a) (s.winRefuse (some q) x a 0x0D)) := by
    rw [exec_windowAccessArrival_arrives hn hremote hgate hheld hbehind, State.winArrive_checked hq hnew hsrc]
  refine ⟨fun code hcode => ?_, fun hcheck => ?_, fun hcheck hread hfault hcommitted => ?_, fun hcheck hwrite hclean hfault hfree => ?_⟩
  · rw [harrive, hcode]
    exact congrArg _ (State.winRefuse_local hsrc code)
  · rw [harrive, hcheck]; rfl
  · rw [harrive, hcheck]
    exact congrArg _ (State.winPerform_read hsrc hread hfault hcommitted)
  · rw [harrive, hcheck]
    have hnone : (s.winRanges x a).any (fun r => s.heldHit r.1 r.2) = false := List.any_eq_false.mpr fun r hr => by simp [hfree r hr]
    exact congrArg _ (State.winPerform_write hsrc hwrite hclean hfault hnone)

end Sys2Proof.Machine

/-!
HBM repair, trunk links, scrub, page walks, invalidation and ATS (07_memory R245, R252 to R254, R261 to R265, R274, R275), and O37.
-/
namespace Sys2Proof.Machine

/-! Trunk packets (R252 to R254). -/

/-- R253: the packet that a head and its data make. -/
def packetOf (h : PacketHead) (poison : BitVec 32) (data : List Byte) (pa : Nat) : TrunkPacket :=
  ⟨h.src, h.dst, h.rsp, h.ctx, h.gen, h.seq, poison, data, pa⟩

section
variable {s : State} {h : PacketHead} {poison : BitVec 32} {data : List Byte} {pa : Nat} {r : RouterId} {crc : Word}

theorem exec_trunkPacketReceive_off (hon : s.routerOn r.val = false) : exec (.trunkPacketReceive h poison data pa r crc) s = .next s := by
  simp only [exec_trunkPacketReceive, execTrunkPacketReceive, hon, Bool.not_false, if_true]

variable (hon : s.routerOn r.val = true)
include hon

theorem exec_trunkPacketReceive_no_path (hroute : s.trunkRoute h.src.val h.dst.val = none) (hsrc : r.val = meshRouter h.src.val) :
    exec (.trunkPacketReceive h poison data pa r crc) s =
      .next ((s.poison pa data.length).postDev 0x01 0x21 2 (srcOf 4 (routerField r.val)) (linkPayload 0 1)) := by
  simp only [exec_trunkPacketReceive, execTrunkPacketReceive, hon, hroute, ← hsrc, Bool.not_true, Bool.false_eq_true, if_false, ne_eq,
    not_true_eq_false]

variable {path : List Nat} {a l : Nat} (hroute : s.trunkRoute h.src.val h.dst.val = some path) (hhop : hopBefore r.val path = some a)
  (hl : s.hopLink (packetOf h poison data pa) a r.val = l) (hlink : (s.trunkLink l).failed = false)
include hroute hhop hl hlink

/-- R254: a packet whose check holds lands, and its link counts its attempts afresh. -/
theorem exec_trunkPacketReceive_lands (hcrc : crc.toNat = crc32c (trunkBytes (packetOf h poison data pa))) :
    exec (.trunkPacketReceive h poison data pa r crc) s =
      .next ((s.setLink l { s.trunkLink l with attempts := 0 }).trunkLand (packetOf h poison data pa) r) := by
  simp only [packetOf] at hl hcrc
  simp only [exec_trunkPacketReceive, execTrunkPacketReceive, hon, hroute, hhop, hl, hlink, hcrc, Bool.not_true, Bool.false_eq_true, if_false,
    if_true, packetOf]

variable (hcrc : crc.toNat ≠ crc32c (trunkBytes (packetOf h poison data pa)))
include hcrc

/-- R254: a packet whose check fails is asked for again, at most 8 times; a report of it goes with the limit on reports. -/
theorem exec_trunkPacketReceive_replays (hn : (s.trunkLink l).attempts < 8) {c : Option Nat} {u : State}
    (hu : (s.setLink l { s.trunkLink l with attempts := (s.trunkLink l).attempts + 1 }).rateLimit (srcOf 4 (routerField r.val)) = (c, u)) :
    exec (.trunkPacketReceive h poison data pa r crc) s = .next
      (c.elim u (fun c => u.postDev 0x01 0x20 1 (srcOf 4 (routerField r.val)) (linkPayload l c))) := by
  simp only [packetOf, hlink] at hl hcrc hu
  simp only [exec_trunkPacketReceive, execTrunkPacketReceive, hon, hroute, hhop, hl, hlink, hcrc, hn, hu, Bool.not_true, Bool.false_eq_true,
    if_false, if_true]
  cases c <;> rfl

/-- R254: after 8 replays the packet goes on poisoned while its link fails. -/
theorem exec_trunkPacketReceive_fails (hn : 8 ≤ (s.trunkLink l).attempts) : exec (.trunkPacketReceive h poison data pa r crc) s =
    .next (((s.failLink l (routerField r.val)).poison pa data.length).postDev 0x01 0x21 2 (srcOf 4 (routerField r.val)) (linkPayload l 1)) := by
  simp only [packetOf] at hl hcrc
  simp only [exec_trunkPacketReceive, execTrunkPacketReceive, hon, hroute, hhop, hl, hlink, hcrc, Nat.not_lt.mpr hn, Bool.not_true,
    Bool.false_eq_true, if_false]

end

/-! HBM lanes and scrub (R245, R274). -/

section
variable {s : State} {m : Fin 3}

theorem exec_hbmLaneRepairComplete_repairing {site : SiteId} {x : HbmLane}
    (h : (tblGet HbmPc.reset s.memst.hbm (64 * site.val + x.pc.val)).repairing = true) : exec (.hbmLaneRepairComplete site x) s =
      .next (((s.modPc (64 * site.val + x.pc.val) (fun h => { h with repairing := false })).logAdd 0x06 6 0
        [site.val, x.pc.val / 2, x.lane.toNat]).postDev 0x01 0x40 1 (srcOf 5 site.val) (payloadOf [(25, 1, 2), (26, 2, x.pc.val), (28, 4, 1)])) := by
  simp only [exec_hbmLaneRepairComplete, execHbmLaneRepairComplete, h, if_true]

theorem State.scrubStacks_nil (s : State) : s.scrubStacks [] [] = s := rfl

/-- An upset that a pass over a medium without another word that is not clean meets after it has read the words stays. -/
theorem exec_scrubPass_upset {pa : Nat} {syn : BitVec 8} (hin : s.inMedium m.val pa = true) (hclean : s.checkAt pa = .clean)
    (hwords : ∀ w ∈ s.memst.check.map (fun c => c.1 * 8), s.inMedium m.val w = false) :
    exec (.scrubPass m ⟨[(pa, syn, false)], [], []⟩) s = .next (s.setCheck pa (Check.ofSyn syn.toNat)) := by
  have hnone : (s.memst.check.map (fun c => c.1 * 8)).filter (fun w => s.inMedium m.val w) = [] :=
    List.filter_eq_nil_iff.mpr fun w hw => by simp [hwords w hw]
  rw [exec_scrubPass, execScrubPass]
  simp [State.scrubStacks_nil, hin, hclean, hnone]

/-- R274: the one word that is not clean, which no correction saves, is poisoned in place and reported. -/
theorem exec_scrubPass_uncorrectable {w : Nat} {syn : Nat} (hcheck : s.memst.check = [(w, .uncorrectable syn)])
    (hon : s.siteOff (8 * w) = false) (hin : s.inMedium m.val (8 * w) = true) : exec (.scrubPass m ⟨[], [], []⟩) s =
      .next (((s.setCheck (8 * w) .poisoned).bumpMem (8 * w) true).postDev 0x01 0x13 2 (s.memSource (8 * w)) (s.memPayload (8 * w) syn 1)) := by
  have hword : s.checkAt (8 * w) = .uncorrectable syn := by
    rw [State.checkAt, hon, hcheck, Nat.mul_div_cancel_left w (by decide)]
    simp [tblGet, tblFind]
  rw [exec_scrubPass, execScrubPass]
  simp [State.scrubStacks_nil, hcheck, Nat.mul_comm w 8, hin, State.scrubWord, hword]

end

/-! Invalidation and walks (R257, R261 to R263). -/

section
variable {s : State}

theorem exec_mmuInvComplete_done {r : InvReq} (hr : s.memst.inv = some r) (hdone : s.invDone r = true) :
    exec .mmuInvComplete s = .next ({ s with memst := { s.memst with inv := none } }.setFlag rMmuInvStatus 0 false) := by
  simp only [exec_mmuInvComplete, execMmuInvComplete, hr, hdone, if_true]

/-- R261, R262: a walk that reaches a leaf by which some access is permitted reads its words and caches the leaf. -/
theorem exec_pageWalkComplete_leaf {w : WalkFor} {va : BitVec 48} {root level ea e pa : Nat} {kind : AccKind} (hroot : s.rootOf w.ctx.val = some root)
    (hkind : kind ∈ [AccKind.read, .write, .fetch]) (hwalk : s.walk ⟨w.ctx.val, s.logOf w.array.val, kind, 3⟩ va.toNat root 3 = .ok pa)
    (hleaf : (s.walkPath va.toNat root 3).getLast? = some (level, ea, e)) (hvalid : e.testBit 0 = true) (htable : e.testBit 1 = false)
    (hform : pteMalformed level e = false) : exec (.pageWalkComplete w va) s = .next (((s.walkPath va.toNat root 3).foldl (fun u x =>
      if u.walkAllowed w.ctx.val x.2.1 = true then u.readChecks (some w.ctx.val) x.2.1 8 else u) s).cacheWalk w.array.val w.micro.val w.ctx.val
        va.toNat (s.walkPath va.toNat root 3) level e) := by
  simp only [exec_pageWalkComplete, execPageWalkComplete, hroot, hleaf, hvalid, htable, hform, Bool.not_true, Bool.or_self, Bool.false_eq_true,
    if_false]
  rw [if_neg]
  intro hall
  have hthis := List.all_eq_true.mp hall _ (List.mem_map_of_mem hkind)
  rw [hwalk] at hthis
  exact Bool.false_ne_true hthis

end

/-! ATS (R264, R265, R275). -/

section
variable {s : State} {h : HostPortId} {fn page : Nat}

/-- R264: the request waits at its port for the translation of a page of a function. -/
def HostReq.waitsFor (fn page : Nat) (r : HostReq) : Bool := !r.refused && r.fn == fn && r.page == page

variable (hout : (s.hport h.val).atsOut.contains (fn, page) = true)
include hout

/-- R264: the host translates the page: it is cached, and the requests that wait for it leave. -/
theorem exec_atsTranslationCompletion_translated : exec (.atsTranslationCompletion h fn page true) s =
    let x := s.hport h.val
    let u := s.setHport h.val { x with
      atsOut := x.atsOut.filter (fun e => e != (fn, page)), atsWait := x.atsWait.filter (fun r => !r.waitsFor fn page) }
    .next ((x.atsWait.filter (fun r => r.waitsFor fn page)).foldl (fun v r => v.hostReq h.val r)
      { u with memst := { u.memst with atc := tblPut u.memst.atc h.val (((fn, page) :: tblGet [] u.memst.atc h.val).take 8192) } }) := by
  simp only [exec_atsTranslationCompletion, execAtsTranslationCompletion, hout, Bool.not_true, Bool.false_eq_true, if_false, if_true]
  rfl

/-- R265: the host refuses the page: the requests that wait for it stand refused, and each context of theirs has an access stalled. -/
theorem exec_atsTranslationCompletion_refused : exec (.atsTranslationCompletion h fn page false) s =
    let x := s.hport h.val
    let go := x.atsWait.filter (fun r => r.waitsFor fn page)
    .next ((go.map (fun r => r.ctx)).eraseDups.foldl (fun u c => (go.find? (fun r => r.ctx == c)).elim u (fun r =>
        u.stallUnit c 8 h.val r.va .write 2 0xFF (hostWindow h.val (nth 0 r.msg 2)) 0))
      (s.setHport h.val { x with
        atsOut := x.atsOut.filter (fun e => e != (fn, page))
        atsWait := x.atsWait.map (fun r => if r.waitsFor fn page then { r with refused := true } else r) })) := by
  simp only [exec_atsTranslationCompletion, execAtsTranslationCompletion, hout, Bool.not_true, Bool.false_eq_true, if_false, HostReq.waitsFor]
  refine congrArg Host.Outcome.next (congrArg (fun f => List.foldl f _ _) (funext fun u => funext fun c => ?_))
  split
  next hfind => rw [hfind]; rfl
  next hfind => rw [hfind]; rfl

theorem exec_atsTranslationCompletion_refused_none (hnone : (s.hport h.val).atsWait.filter (fun r => r.waitsFor fn page) = []) :
    exec (.atsTranslationCompletion h fn page false) s = .next (s.setHport h.val { s.hport h.val with
      atsOut := (s.hport h.val).atsOut.filter (fun e => e != (fn, page)) }) := by
  have hsame : (s.hport h.val).atsWait.map (fun r => if r.waitsFor fn page then { r with refused := true } else r) = (s.hport h.val).atsWait :=
    (List.map_congr_left fun r hr => if_neg (List.filter_eq_nil_iff.mp hnone r hr)).trans (List.map_id _)
  rw [exec_atsTranslationCompletion_refused hout]
  simp only [hnone, hsame]
  rfl

theorem exec_atsTranslationCompletion_refused_one {r : HostReq} (hone : (s.hport h.val).atsWait.filter (fun r => r.waitsFor fn page) = [r]) :
    exec (.atsTranslationCompletion h fn page false) s = .next ((s.setHport h.val { s.hport h.val with
        atsOut := (s.hport h.val).atsOut.filter (fun e => e != (fn, page))
        atsWait := (s.hport h.val).atsWait.map (fun r => if r.waitsFor fn page then { r with refused := true } else r) }).stallUnit r.ctx 8 h.val
      r.va .write 2 0xFF (hostWindow h.val (nth 0 r.msg 2)) 0) := by
  have hfind : [r].find? (fun y => y.ctx == r.ctx) = some r := by simp
  have hctxs : ([r].map (fun y => y.ctx)).eraseDups = [r.ctx] := rfl
  rw [exec_atsTranslationCompletion_refused hout]
  simp only [hone, hctxs, List.foldl_cons, List.foldl_nil, hfind, Option.elim_some]

end

/-- Settles O37: one lemma for each command, and one for each way that a packet goes on. -/
theorem memoryEvents : Obligations.MemoryEvents := by
  unfold Obligations.MemoryEvents
  intro s
  refine ⟨fun _ _ => rfl, fun _ _ => exec_hbmLaneRepairComplete_repairing, fun h poison data pa r crc => ?trunk,
    fun _ _ _ => exec_scrubPass_upset, fun _ _ _ => exec_scrubPass_uncorrectable, fun _ => exec_mmuInvComplete_done,
    fun _ _ _ _ _ _ _ _ => exec_pageWalkComplete_leaf, fun _ _ _ _ => rfl, fun h fn page hout => ?ats⟩
  case trunk =>
    intro k field
    refine ⟨exec_trunkPacketReceive_off, exec_trunkPacketReceive_no_path, ?_⟩
    intro path a hon hroute hhop l n hlink
    exact ⟨exec_trunkPacketReceive_lands hon hroute hhop rfl hlink, fun hcrc hn =>
      ⟨fun c u => exec_trunkPacketReceive_replays hon hroute hhop rfl hlink hcrc hn,
        fun u => exec_trunkPacketReceive_replays hon hroute hhop rfl hlink hcrc hn⟩,
      exec_trunkPacketReceive_fails hon hroute hhop rfl hlink⟩
  case ats =>
    intro x hit u
    refine ⟨exec_atsTranslationCompletion_translated hout, fun hnone => ?_, fun r hone => ?_⟩
    · exact exec_atsTranslationCompletion_refused_none hout hnone
    · exact exec_atsTranslationCompletion_refused_one hout hone

end Sys2Proof.Machine

/-!
Register commands that are written whole (07_memory R263, R265 and the chapters of the other registers): the write of its register that
each command is, and O42.
-/
namespace Sys2Proof.Machine

/-- A command that is the write of a register has the register's effect once the write is accepted. -/
theorem exec_regWrite_accepted {i : Instr} {s : State} {req : Requester} {off v : Nat} {e : RegEffect}
    (hi : exec i s = .next (s.regWrite req off v e)) (h : s.accepts req off v e) : exec i s = .next (s.afterWrite req off v e) := by
  rw [hi, State.regWrite_accepted h]

/-- R265: what a write of MMU_FAULT_RESUME does: bit 31 chooses retry or abort for the context of bits 8:0. -/
theorem resumeReg_act (s : State) (req : Requester) (old acted : Nat) : resumeReg.act s req old acted =
    if acted.testBit 31 then s.resumeRetry (bitsOf acted 8 0) else s.resumeAbort (bitsOf acted 8 0) := rfl

section
variable {s : State} {req : Requester} {off v c : Nat} (hc : c < 512)
include hc

theorem State.afterWrite_resume_retry (h : (s.written req off v).acted = 2 ^ 31 + c) :
    s.afterWrite req off v resumeReg = (s.holding req off v resumeReg).resumeRetry c := by
  have hbit : (2 ^ 31 + c).testBit 31 = true := by rw [Nat.testBit_two_pow_add_eq, Nat.testBit_lt_two_pow (by omega)]; rfl
  have hctx : bitsOf (2 ^ 31 + c) 8 0 = c := by rw [bitsOf]; omega
  rw [State.afterWrite, resumeReg_act, h, if_pos hbit, hctx]

theorem State.afterWrite_resume_abort (h : (s.written req off v).acted = c) :
    s.afterWrite req off v resumeReg = (s.holding req off v resumeReg).resumeAbort c := by
  have hbit : c.testBit 31 = false := Nat.testBit_lt_two_pow (by omega)
  rw [State.afterWrite, resumeReg_act, h, hbit, if_neg Bool.false_ne_true, bitsOf_low (show c < 2 ^ (8 + 1) by omega)]

end

/-- Settles O42: each command is the write of its register, which does what an accepted write does. -/
theorem registerCommands : Obligations.RegisterCommands := by
  unfold Obligations.RegisterCommands
  intro s req v
  refine ⟨?whole, fun mesh test h => ⟨exec_regWrite_accepted rfl h, exec_regWrite_accepted rfl h⟩,
    fun ok h => exec_regWrite_accepted rfl h, fun d h => exec_regWrite_accepted rfl h,
    fun f h => ⟨exec_regWrite_accepted rfl h, exec_regWrite_accepted rfl h⟩, fun c h hacted => ?retry, fun c h hacted => ?abort⟩
  case whole =>
    simp only [List.forall_mem_cons]
    refine ⟨?_, ?_, ?_, ?_, ?_, ?_, ?_, ?_, ?_, ?_, ?_, ?_, ?_, ?_, ?_, ?_, ?_, ?_, ?_, ?_, ?_, ?_, nofun⟩
    all_goals exact fun h => exec_regWrite_accepted rfl h
  case retry => rw [exec_regWrite_accepted rfl h, State.afterWrite_resume_retry c.isLt hacted]
  case abort => rw [exec_regWrite_accepted rfl h, State.afterWrite_resume_abort c.isLt hacted]

end Sys2Proof.Machine

/-!
Folds that leave what they do not write, and the changes that a mask of arrays makes: used by the statements about the Flint halt and about
power domains.
-/
namespace Sys2Proof.Machine

/-- What no step of a fold changes stands after it. -/
theorem foldl_unchanged {α β γ : Type} {f : β → α → β} (g : β → γ) (hf : ∀ t x, g (f t x) = g t) (l : List α) (t : β) :
    g (l.foldl f t) = g t :=
  List.foldlRecOn (motive := fun u => g u = g t) l f rfl fun u hu x _ => (hf u x).trans hu

/-- A change of the first n physical arrays that a mask names, in the order of their numbers. -/
def State.modMasked (s : State) (m n : Nat) (f : ArrayState → ArrayState) : State :=
  (List.range n).foldl (fun s p => if m.testBit p then s.modArr p f else s) s

section
variable (s : State) (m n : Nat) (f : ArrayState → ArrayState)

theorem State.modMasked_succ : s.modMasked m (n + 1) f = if m.testBit n then (s.modMasked m n f).modArr n f else s.modMasked m n f := by
  rw [State.modMasked, List.range_succ, List.foldl_append]; rfl

theorem State.modMasked_arr (p : Nat) : (s.modMasked m n f).arr p = if p < n ∧ m.testBit p = true then f (s.arr p) else s.arr p := by
  induction n with
  | zero => rfl
  | succ n ih =>
    rw [State.modMasked_succ]
    by_cases hpn : p = n
    · subst hpn
      rw [if_neg (by omega)] at ih
      cases hm : m.testBit p <;> simp [ih]
    · have hlt : p < n + 1 ↔ p < n := by omega
      simp only [hlt]
      rw [← ih]
      split
      · exact State.arr_modArr_other _ _ hpn
      · rfl

/-- What the change of an array leaves stands. -/
theorem State.modMasked_unchanged {γ : Type} (g : State → γ) (hg : ∀ t p, g (State.modArr t p f) = g t) : g (s.modMasked m n f) = g s := by
  refine foldl_unchanged g (fun t p => ?_) _ s
  split
  · exact hg t p
  · rfl

@[simp] theorem State.modMasked_flint : (s.modMasked m n f).flint = s.flint := s.modMasked_unchanged m n f State.flint fun _ _ => rfl

@[simp] theorem State.modMasked_fld (off hi lo : Nat) : (s.modMasked m n f).fld off hi lo = s.fld off hi lo :=
  s.modMasked_unchanged m n f (fun t => t.fld off hi lo) fun _ _ => rfl

end

end Sys2Proof.Machine

/-!
Signals that arrive or are diverted, and the Flint halt (09_sync_time R292 to R298, R305 to R308, R336), and O38.
-/
namespace Sys2Proof.Machine

/-! Signals (R292, R294, R296). -/

theorem counterFits_iff (v : BitVec 16) (inc : Int) :
    counterFits v inc = true ↔ 0 ≤ (v.toNat : Int) + inc ∧ (v.toNat : Int) + inc < 2 ^ 15 := by
  rw [counterFits, Bool.and_eq_true, decide_eq_true_eq, decide_eq_true_eq]
  omega

/-- R294: a signal that has left the net is added to the counter that it names. -/
def State.signalAdded (s : State) (p : Nat) (x : Signal) : State :=
  match sigTarget x.target with
  | .core id k => (s.signalsDone [x]).addCore id k x.inc x.src
  | .ctrl _ k => (s.signalsDone [x]).addCtrl p k x.inc x.src
  | .bad => s.signalsDone [x]

section
variable {s : State} {n p : Nat} {x : Signal}

theorem State.signalsAt_alone (hx : s.signals[n]? = some x) : s.signalsAt n [] = some (x, [x]) := by
  rw [State.signalsAt, hx]; rfl

variable (hx : s.signals[n]? = some x) (hp : s.physOf (sigTarget x.target).array = some p)
include hx hp

/-- R296: a signal for an array that is being remapped stays on the net. -/
theorem exec_signalArrival_held (hheld : s.signalHeld p = true) : exec (.signalArrival n [] none) s = .next s := by
  simp only [exec_signalArrival, execSignalArrival, State.signalsAt_alone hx, hp, hheld, or_true, if_true, ite_self]

theorem exec_signalDivert_held (hheld : s.signalHeld p = true) : exec (.signalDivert n) s = .next s := by
  simp only [exec_signalDivert, execSignalDivert, hx, hp, hheld, or_true, if_true]

variable (hfirst : s.signalFirst n x = true) (hheld : s.signalHeld p = false)
include hfirst hheld

/-- R292: a signal of the resident context that passes none of its source reaches its counter. -/
theorem exec_signalArrival_reaches (hres : s.residentAt p = some x.ctx) : exec (.signalArrival n [] none) s = .next (s.signalAdded p x) := by
  simp only [exec_signalArrival, execSignalArrival, State.signalsAt_alone hx, hp, hfirst, hheld, hres, Bool.not_true, Bool.false_eq_true, if_false,
    ne_eq, not_true_eq_false, or_self, combine]
  cases ht : sigTarget x.target <;> simp only [State.signalAdded, ht]

/-- R296: a signal of a context that is not resident is added to the counter that is saved for it, where the sum fits. -/
theorem exec_signalDivert_adds {a k : Nat} (ht : sigTarget x.target = .ctrl a k) (hres : s.residentAt p ≠ some x.ctx)
    (hfits : counterFits (s.savedCtr x.ctx (2 ^ 20 + a) k) x.inc = true) : exec (.signalDivert n) s =
      .next ((s.signalsDone [x]).setSavedCtr x.ctx (2 ^ 20 + a) k (counterSum (s.savedCtr x.ctx (2 ^ 20 + a) k) x.inc)) := by
  have hsaved : (s.signalsDone [x]).savedCtr x.ctx (2 ^ 20 + a) k = s.savedCtr x.ctx (2 ^ 20 + a) k := rfl
  rw [ht] at hp
  simp only [exec_signalDivert, execSignalDivert, hx, hp, hfirst, hheld, hres, ht, hsaved, hfits, Bool.not_true, Bool.false_eq_true, or_self,
    if_false, if_true]

end

/-! The Flint halt (R305 to R308). -/

@[simp] theorem State.dropReplays_flint (s : State) (p : Nat) : (s.dropReplays p).flint = s.flint := by
  rw [State.dropReplays]
  refine foldl_unchanged State.flint (fun t q => ?_) _ s
  rfl

@[simp] theorem State.faultArr_flint (s : State) (p : Nat) : (s.faultArr p).flint = s.flint := by
  have hpark := foldl_unchanged State.flint (f := fun t j => State.setOcc t p j false) fun _ _ => rfl
  rw [State.faultArr, hpark, State.modArr_flint, State.dropReplays_flint]

/-- R308: what the halted arrays lose before they go on. -/
def State.faultMasked (s : State) (m : Nat) : State := (List.range 18).foldl (fun s p => if m.testBit p then s.faultArr p else s) s

@[simp] theorem State.faultMasked_flint (s : State) (m : Nat) : (s.faultMasked m).flint = s.flint := by
  refine foldl_unchanged State.flint (fun t p => ?_) _ s
  split
  · exact t.faultArr_flint p
  · rfl

/-- R306: the registers that record a halt of a request: its count, its cause, its arrays and its time. -/
def State.flintRecorded (s : State) (r : FlintReq) : State :=
  (((s.bump rQtzFlintCnt 1).setFld rQtzFlintStatus 31 28 r.cause).setFld rQtzFlintStatus 17 0 r.mask).setReg64 rQtzFlintTime r.time.toNat

theorem State.flintRecorded_cause (s : State) (r : FlintReq) : (s.flintRecorded r).fld rQtzFlintStatus 31 28 = r.cause % 16 := by
  rw [State.flintRecorded, State.fld, State.reg_setReg64_other _ _ (by decide) (by decide), ← State.fld,
    State.fld_setFld_bits _ _ _ _ _ _ _ (by decide) (by decide) (by decide), State.fld_setFld_same _ _ _ _ _ (by decide) (by decide)]
  rfl

theorem State.flintRecorded_mask (s : State) {r : FlintReq} (hmask : r.mask < 2 ^ 18) : (s.flintRecorded r).fld rQtzFlintStatus 17 0 = r.mask := by
  rw [State.flintRecorded, State.fld, State.reg_setReg64_other _ _ (by decide) (by decide), ← State.fld,
    State.fld_setFld_same _ _ _ _ _ (by decide) (by decide), Nat.mod_eq_of_lt hmask]

section
variable {s : State} {r : FlintReq} (hreqs : s.flint.reqs = [r])
include hreqs

/-- R306: the first halt of one request is recorded, and the arrays of its mask stop. -/
theorem exec_flintGating_one (hgated : s.flint.gated = 0) : exec .flintGating s =
    let u := (s.flintRecorded r).modMasked r.mask 18 (fun a => { a with halted := true })
    .next { u with flint := { u.flint with gated := r.mask } } := by
  have hlead : s.flint.lead = some r := by rw [FlintState.lead, hreqs]; rfl
  have hmask : s.flint.mask = r.mask := by rw [FlintState.mask, hreqs]; exact Nat.zero_or r.mask
  simp only [exec_flintGating, execFlintGating, hlead, hmask, hgated, if_true]
  rfl

/-- R307, R308: an injected halt of one request ends with the arrays of its mask released, and neither an event nor a consequence. -/
theorem exec_flintHaltRelease_one (hgated : s.flint.gated = r.mask) (hcause : r.cause = 15)
    (hbrake : ∀ p < 18, r.mask.testBit p = true → (s.arr p).brake = false) : exec .flintHaltRelease s =
      .next { (s.faultMasked r.mask).modMasked r.mask 18 (fun a => { a with halted := false }) with flint := ⟨[], 0⟩ } := by
  have hbraked : (List.range 18).any (fun p => r.mask.testBit p && (s.arr p).brake) = false := by
    refine List.any_eq_false.mpr fun p hp => ?_
    cases hm : r.mask.testBit p with
    | false => simp
    | true => simp [hbrake p (List.mem_range.mp hp) hm]
  have hsilent : ∀ t : State, t.flintEvent r = t := fun t => if_pos hcause
  have hafter : ∀ t : State, t.flintAfter r = t := fun t => by
    rw [State.flintAfter, if_neg (by omega), if_neg (by omega)]
  have hflint : ((s.faultMasked r.mask).modMasked r.mask 18 (fun a => { a with halted := false })).flint.reqs = [r] := by simp [hreqs]
  simp only [State.modMasked, State.faultMasked] at hflint
  simp only [exec_flintHaltRelease, execFlintHaltRelease, hgated, hreqs, hbraked, Nat.and_self, List.filter_cons, List.filter_nil, beq_self_eq_true,
    bne_self_eq_false, List.isEmpty_cons, Bool.false_eq_true, or_self, if_true, if_false, List.foldl_cons, List.foldl_nil, hsilent, hafter, hflint,
    State.modMasked, State.faultMasked]

end

/-- Settles O38: signals by whether their target can take them, then the halt and its release. -/
theorem signalAndFlintEvents : Obligations.SignalAndFlintEvents := by
  unfold Obligations.SignalAndFlintEvents
  intro s n x
  refine ⟨fun p id k hx ht hp hfirst hres hheld => ?core,
    fun p hx hp hheld => ⟨exec_signalArrival_held hx hp hheld, exec_signalDivert_held hx hp hheld⟩,
    fun p a k hx ht hp hfirst hres hheld => ?ctrl, fun p a k v hx ht hp hfirst hheld hres hv hlow hhigh => ?divert,
    fun r hreqs hgated hmask => ?gating, fun r hreqs hgated hcause _ hbrake => ?release, fun _ => rfl, fun _ _ => rfl⟩
  case core =>
    rw [exec_signalArrival_reaches hx hp hfirst hheld hres, State.signalAdded, ht]; rfl
  case ctrl =>
    rw [exec_signalArrival_reaches hx hp hfirst hheld hres, State.signalAdded, ht]; rfl
  case divert =>
    subst hv
    have harray : (sigTarget x.target).array = a := by rw [ht]; rfl
    exact exec_signalDivert_adds hx (harray ▸ hp) hfirst hheld ht hres ((counterFits_iff _ _).mpr ⟨hlow, hhigh⟩)
  case gating =>
    refine ⟨_, exec_flintGating_one hreqs hgated, rfl, fun p hp hbit => ?_, ?_, ?_⟩
    · exact congrArg ArrayState.halted ((State.modMasked_arr _ _ _ _ p).trans (if_pos ⟨hp, hbit⟩))
    · exact (State.modMasked_fld ..).trans (s.flintRecorded_cause r)
    · exact (State.modMasked_fld ..).trans (s.flintRecorded_mask hmask)
  case release =>
    refine ⟨_, exec_flintHaltRelease_one hreqs hgated hcause hbrake, rfl, fun p hp hbit => ?_⟩
    exact congrArg ArrayState.halted ((State.modMasked_arr _ _ _ _ p).trans (if_pos ⟨hp, hbit⟩))

end Sys2Proof.Machine

/-!
Correction beats, frequency references, fabric time and array clocks (09_sync_time R309 to R316, R322 to R335; 12_host_fabric R427, R433),
and O39.
-/
namespace Sys2Proof.Machine

/-! The Quartz master (R309). -/

theorem State.clock_now_le (s : State) (t : DWord) : s.now.toNat ≤ (s.clock t).now.toNat ∧ t.toNat ≤ (s.clock t).now.toNat := by
  rw [State.clock]
  split
  case isTrue h => exact ⟨h.le, le_refl _⟩
  case isFalse h => exact ⟨le_refl _, not_lt.mp h⟩

/-! Islands (R312 to R316). -/

@[simp] theorem State.island_setIsland_same (s : State) (i : Nat) (x : Island) : (s.setIsland i x).island i = x := by
  have htime : (s.setIsland i x).time.islands = tblPut s.time.islands i x := by
    rw [State.setIsland]
    split <;> rfl
  rw [State.island, htime, tblGet_put_same]

theorem clampInt_eq {lo hi x : Int} (h : lo ≤ hi) : clampInt lo hi x = max lo (min hi x) := by
  rw [clampInt]
  split
  · omega
  · split <;> omega

/-- R313, R315: a locked island that measures at most 750 ps stays locked, and slews at most 8 ns. -/
theorem State.islandBeat_locked {s : State} {i : Nat} {o : Int} (hlocked : (s.island i).locked = true) (ho : o.natAbs ≤ 750) :
    (s.islandBeat i o).island i = { s.island i with
      offset := o - clampInt (-8000) 8000 o, good := if o.natAbs ≤ 500 then (s.island i).good + 1 else 0, missing := 0 } := by
  simp only [State.islandBeat, hlocked, Nat.not_lt.mpr ho, and_false, Bool.not_true, Bool.false_eq_true, false_and, Bool.false_and, if_false,
    State.island_setIsland_same]

/-! References (R322 to R326). -/

@[simp] theorem State.refclk_setRefclk_same (s : State) (i : Nat) (r : RefState) : (s.setRefclk i r).refclk i = r := tblGet_put_same ..

theorem State.refSelect_manual {s : State} (h : s.flag rQtzCtl 6 = false) : s.refSelect = s := by
  rw [State.refSelect, h]; rfl

/-- R326: with each sample the part of the master's rate that is still to be removed falls by at most 1 ppm. -/
def State.slewed (s : State) : State := { s with time := { s.time with slew := s.time.slew - clampInt (-100) 100 s.time.slew } }

/-- R325, R326: a sample that leaves the average of the selected reference beyond 35 ppm enters no correction; without auto_switch the
source stays. -/
theorem exec_refSample_beyond {s : State} {t : DWord} {x : Int} (hctl : ((s.clock t).refSample 0 x).flag rQtzCtl 6 = false)
    (hsel : ((s.clock t).refSample 0 x).refSel = 0) (hbeyond : (((s.clock t).refSample 0 x).refclk 0).within 35 = false) :
    exec (.refSample t (some x) none) s = .next ((s.clock t).refSample 0 x).slewed.fabErrGrows.slewFlag := by
  have hmanual : ((s.clock t).refSample 0 x).slewed.refSelect = ((s.clock t).refSample 0 x).slewed := State.refSelect_manual hctl
  simp only [State.slewed] at hmanual
  simp only [exec_refSample, execRefSample, hsel, hbeyond, hmanual, State.slewed, if_true, Bool.false_eq_true, if_false,
    show ¬ (0 : Nat) = 2 by decide]

/-- R324: a reference is disqualified after its disqualification, whether it was before or not. -/
theorem State.refDisq_disq (s : State) (i : Nat) : ((s.refDisq i).refclk i).disq = true := by
  cases h : (s.refclk i).disq with
  | true => rw [State.refDisq, if_pos h, h]
  | false =>
    have htime : (s.refDisq i).time.refs = tblPut s.time.refs i { s.refclk i with disq := true, back := 0, backN := 0 } := by
      rw [State.refDisq, h, if_neg Bool.false_ne_true, State.refEvent, State.postDev_time]; rfl
    rw [State.refclk, htime, tblGet_put_same]

/-! Time frames that are sent (R327, R328). -/

/-- A time frame goes out on some ports, and the next one has the next number. -/
def State.framesSent (s : State) (ports : List Nat) (f : List Byte) : State :=
  let v := ports.foldl (fun s p => s.timingSend p f) s
  { v with time := { v.time with frameSeq := v.time.frameSeq + 1 } }

section
variable {s u : State} {t : DWord} (hu : u = s.clock t)
include hu

theorem exec_timeFrameSend_leader (hnode : u.nodeKnown = true) (hrole : u.timeRole = 1) : exec (.timeFrameSend t) s =
    .next (u.framesSent u.upPorts (timeFrame u.degradedBit 0 u.time.frameSeq u.ownNode u.ownNode u.now.toNat)) := by
  subst hu
  simp only [exec_timeFrameSend, execTimeFrameSend, hnode, hrole, true_or, and_self, if_true, beq_self_eq_true, Bool.true_or, List.filter_true]
  rfl

theorem exec_timeFrameSend_follower (hnode : u.nodeKnown = true) (hrole : u.timeRole = 2) (hjoined : u.fld rQtzStatus 29 28 = 2) :
    exec (.timeFrameSend t) s = .next (u.framesSent (u.upPorts.filter (fun p => p != u.fld rQtzFabStatus 23 19))
      (timeFrame (u.flag rQtzFabStatus 18) (u.fld rQtzFabStatus 31 24) u.time.frameSeq (u.fld rQtzFabCtl 15 0) u.ownNode u.now.toNat)) := by
  subst hu
  have hnot : ((2 : Nat) == 1) = false := rfl
  simp only [exec_timeFrameSend, execTimeFrameSend, hnode, hrole, hjoined, beq_self_eq_true, and_self, or_true, if_true, hnot, Bool.false_or,
    show ¬ (2 : Nat) = 1 by decide, if_false]
  rfl

/-- R327, R427: a device without a node, without a role, or that has not joined, sends no time frame. -/
theorem exec_timeFrameSend_silent (h : u.nodeKnown = false ∨ u.timeRole = 0 ∨ (u.timeRole = 2 ∧ u.fld rQtzStatus 29 28 ≠ 2)) :
    exec (.timeFrameSend t) s = .next u := by
  subst hu
  rw [exec_timeFrameSend, execTimeFrameSend]
  refine congrArg Host.Outcome.next (if_neg ?_)
  rintro ⟨hnode, hrole⟩
  obtain hn | h0 | ⟨h2, hjoined⟩ := h
  · exact Bool.false_ne_true (hn.symm.trans hnode)
  · omega
  · obtain h1 | ⟨-, hj⟩ := hrole
    · omega
    · exact hjoined (eq_of_beq hj)

end

/-! Delay exchanges, and what comes before a node is assigned (R328, R427, R433). -/

section
variable {s : State} {t : DWord} {port : FabPort} {frame : List Byte}

theorem exec_delayExchangeStart_asks (hnode : (s.clock t).nodeKnown = true) : exec (.delayExchangeStart t) s =
    .next ((s.clock t).upPorts.foldl (fun s p =>
      (s.setLinkTime p { s.linkTime p with seq := ((s.linkTime p).seq + 1) % 256, asked := some ((s.linkTime p).seq, s.now.toNat) }).timingSend p
        (delayFrame 0x11 (s.linkTime p).seq s.ownNode s.now.toNat 0)) (s.clock t)) := by
  simp only [exec_delayExchangeStart, execDelayExchangeStart, hnode, Bool.not_true, Bool.false_eq_true, if_false]

theorem exec_delayRequestReceive_answers {t3 : DWord} (hnode : ((s.clock t).clock t3).nodeKnown = true) (hkind : leAt frame 0 1 = 0x11)
    (hup : ((s.clock t).clock t3).linkUp port.val = true) : exec (.delayRequestReceive port frame t t3) s =
      .next (((s.clock t).clock t3).timingSend port.val (delayFrame 0x12 (leAt frame 3 1) ((s.clock t).clock t3).ownNode t.toNat t3.toNat)) := by
  simp only [exec_delayRequestReceive, execDelayRequestReceive, hnode, hkind, hup, Bool.not_true, Bool.false_eq_true, if_false, and_self, if_true]

/-- R433: the response to the exchange in progress gives the delay of the link. -/
theorem exec_delayResponseReceive_measures {seq t1 : Nat} (hnode : (s.clock t).nodeKnown = true)
    (hasked : ((s.clock t).linkTime port.val).asked = some (seq, t1)) (hkind : leAt frame 0 1 = 0x12) (hseq : leAt frame 3 1 = seq % 256) :
    exec (.delayResponseReceive port frame t) s = .next ((s.clock t).setLinkTime port.val { (s.clock t).linkTime port.val with
      delay := some ((((t.toNat : Int) - t1) - ((leAt frame 16 8 : Int) - leAt frame 8 8)) / 2), asked := none }) := by
  simp only [exec_delayResponseReceive, execDelayResponseReceive, hnode, hasked, hkind, hseq, Bool.not_true, Bool.false_eq_true, if_false,
    and_self, if_true]

section
variable (hnode : (s.clock t).nodeKnown = false)
include hnode

theorem exec_delayExchangeStart_silent : exec (.delayExchangeStart t) s = .next (s.clock t) := by
  simp only [exec_delayExchangeStart, execDelayExchangeStart, hnode, Bool.not_false, if_true]

theorem exec_delayResponseReceive_dropped : exec (.delayResponseReceive port frame t) s = .next ((s.clock t).timingDropped port.val) := by
  simp only [exec_delayResponseReceive, execDelayResponseReceive, hnode, Bool.not_false, if_true]

theorem exec_timeFrameReceive_dropped : exec (.timeFrameReceive port frame t) s = .next ((s.clock t).timingDropped port.val) := by
  simp only [exec_timeFrameReceive, execTimeFrameReceive, hnode, Bool.not_false, if_true]

end

/-! Time frames that arrive, and fabric time that is lost (R328 to R331). -/

@[simp] theorem State.servoStep_lastFrame (s : State) (o : Int) : (s.servoStep o).time.lastFrame = s.time.lastFrame := by
  unfold State.servoStep
  dsimp only
  repeat' split
  all_goals simp

/-- R328: what a port's latest time frame from its leader says is kept. -/
def State.frameHeard (s : State) (f : Nat) (frame : List Byte) : State :=
  s.setLinkTime f { s.linkTime f with frame := some (Nat.min 255 (leAt frame 2 1 + 1), leAt frame 4 2, (leAt frame 1 1).testBit 0) }

section
variable {d : Int} (hnode : (s.clock t).nodeKnown = true) (hkind : leAt frame 0 1 = 0x10) (hrole : (s.clock t).timeRole = 2)
  (hleader : leAt frame 4 2 = (s.clock t).fld rQtzFabCtl 15 0) (hdelay : ((s.clock t).linkTime port.val).delay = some d)
include hnode hkind hrole hleader hdelay

/-- R328: a frame on a port that is not the upstream one is kept, and moves no time. -/
theorem exec_timeFrameReceive_other {q h : Nat} (hup : ((s.clock t).frameHeard port.val frame).upstream = some (q, h)) (hq : q ≠ port.val) :
    exec (.timeFrameReceive port frame t) s = .next ((s.clock t).frameHeard port.val frame) := by
  simp only [State.frameHeard, hdelay] at hup ⊢
  simp only [exec_timeFrameReceive, execTimeFrameReceive, hnode, hkind, hrole, ← hleader, hdelay, bitOf, hup, hq, Bool.not_true, Bool.false_eq_true,
    ne_eq, not_true_eq_false, not_false_eq_true, or_self, if_false, if_true]

/-- R329, R331: a frame on the upstream port is the last one heard. -/
theorem exec_timeFrameReceive_upstream {h : Nat} (hup : ((s.clock t).frameHeard port.val frame).upstream = some (port.val, h)) :
    ∃ w, exec (.timeFrameReceive port frame t) s = .next w ∧ w.time.lastFrame = (s.clock t).now.toNat := by
  simp only [State.frameHeard, hdelay] at hup
  simp only [exec_timeFrameReceive, execTimeFrameReceive, hnode, hkind, hrole, ← hleader, hdelay, bitOf, hup, Bool.not_true, Bool.false_eq_true,
    ne_eq, not_true_eq_false, or_self, if_false]
  exact ⟨_, rfl, State.servoStep_lastFrame ..⟩

end

theorem exec_fabricTimeLost_no_follower (hrole : (s.clock t).timeRole ≠ 2) : exec (.fabricTimeLost t) s = .next (s.clock t) := by
  simp only [exec_fabricTimeLost, execFabricTimeLost, ne_eq, hrole, not_false_eq_true, true_or, if_true]

/-- R331: eight frames missing: what the ports heard is dropped, and the loss is shown and posted. -/
theorem exec_fabricTimeLost_lost (hrole : (s.clock t).timeRole = 2) (hst : (s.clock t).fld rQtzStatus 29 28 ≠ 0)
    (hlate : (s.clock t).time.lastFrame + 8 * 8388608 ≤ (s.clock t).now.toNat) : exec (.fabricTimeLost t) s =
      let u := s.clock t
      .next ((({ u with time := { u.time with links := u.time.links.map (fun (e : Nat × LinkTime) => (e.1, { e.2 with frame := none })) } }.setFld
        rQtzStatus 29 28 0).slewFlag).postDev 0x09 0x0A 0 (srcOf 7 0) (timePayload 0xFF 0 0 0 (u.fld rQtzFabCtl 15 0)
          (signExt 32 64 (u.reg rQtzFabOfs).toNat) 0)) := by
  rw [exec_fabricTimeLost, execFabricTimeLost]
  exact congrArg Host.Outcome.next (if_neg (by omega))

end

/-! Array clocks (R332 to R334). -/

@[simp] theorem State.clkShow_arr (s : State) (p q : Nat) : (s.clkShow p).arr q = s.arr q := rfl

section
variable {s : State} {p : ArrayId}

/-- R333, R334: the droop of a strip stretches its clock and freezes the frequency-locked loop. -/
theorem exec_stripDroop_stretches {strip : Fin 16} (hcode : (s.arr p.val).freqCode ≠ 0) : ∃ v, exec (.stripDroop p strip) s = .next v ∧
    (v.arr p.val).stretch = (s.arr p.val).stretch ||| (1#16 <<< strip.val) ∧ (v.arr p.val).fllFrozen = true := by
  simp only [exec_stripDroop, execStripDroop, if_neg hcode]
  refine ⟨_, rfl, ?_⟩
  rw [State.clkShow_arr]
  exact ⟨congrArg ArrayState.stretch (State.arr_setArr_same ..), congrArg ArrayState.fllFrozen (State.arr_setArr_same ..)⟩

theorem exec_stripDroop_slow {strip : Fin 16} (hcode : (s.arr p.val).freqCode = 0) : exec (.stripDroop p strip) s = .next s := by
  simp only [exec_stripDroop, execStripDroop, hcode, if_true]

theorem exec_droopRecovery_ends (hstretch : (s.arr p.val).stretch ≠ 0#16) : ∃ v, exec (.droopRecovery p) s = .next v ∧
    (v.arr p.val).stretch = 0#16 := by
  simp only [exec_droopRecovery, execDroopRecovery, if_neg hstretch]
  refine ⟨_, rfl, ?_⟩
  rw [State.clkShow_arr]
  exact congrArg ArrayState.stretch (State.arr_setArr_same ..)

theorem exec_fllUnfreeze_resumes (hstretch : (s.arr p.val).stretch = 0#16) : exec (.fllUnfreeze p) s =
    .next ((s.modArr p.val (fun a => { a with fllFrozen := false })).clkShow p.val) := by
  simp only [exec_fllUnfreeze, execFllUnfreeze, hstretch, if_true]

end

/-- Settles O39: a lemma for each command and each of its cases; commands whose whole effect is their definition close by it. -/
theorem timeEvents : Obligations.TimeEvents := by
  unfold Obligations.TimeEvents
  intro s t u
  refine ⟨s.clock_now_le t, fun _ => rfl, fun i o _ hlocked ho => ?beat, rfl, fun x => exec_refSample_beyond, fun i _ => ⟨rfl, ?absent, ?disq⟩,
    exec_timeFrameSend_leader rfl, exec_timeFrameSend_follower rfl, exec_timeFrameSend_silent rfl, exec_delayExchangeStart_asks,
    fun _ _ _ => exec_delayRequestReceive_answers, fun _ _ _ _ => exec_delayResponseReceive_measures, fun port frame hnode => ?unassigned,
    fun port frame d hnode hkind hrole hleader hdelay => ?frame, exec_fabricTimeLost_no_follower, exec_fabricTimeLost_lost, fun _ => rfl,
    fun _ _ => exec_stripDroop_stretches, fun _ _ => exec_stripDroop_slow, fun _ => exec_droopRecovery_ends, fun _ => exec_fllUnfreeze_resumes,
    fun _ _ => ⟨rfl, rfl⟩⟩
  case beat => rw [State.islandBeat_locked hlocked ho, clampInt_eq (by decide)]
  case absent => rw [State.refclk_setRefclk_same]
  case disq => rw [State.refclk_setRefclk_same]; exact State.refDisq_disq ..
  case unassigned =>
    exact ⟨exec_delayExchangeStart_silent hnode, exec_delayResponseReceive_dropped hnode, exec_timeFrameReceive_dropped hnode⟩
  case frame =>
    exact ⟨fun q h => exec_timeFrameReceive_other hnode hkind hrole hleader hdelay,
      fun h => exec_timeFrameReceive_upstream hnode hkind hrole hleader hdelay⟩

end Sys2Proof.Machine

/-!
Power domains: ramps and their checks, latch-off and retries, retention, and setpoints that move (13_power R449 to R457, R461, R477;
09_sync_time R335), and O54.
-/
namespace Sys2Proof.Machine

/-! Ramps (R454, R455). -/

section
variable {s : State} {d : DomainId}

theorem exec_domainSoftStart_site_off (hlow : 306 ≤ d.val) (hhigh : d.val < 324) (hsite : s.siteOn (d.val - 306) = false) :
    exec (.domainSoftStart d) s = .next s := by
  simp only [exec_domainSoftStart, execDomainSoftStart, hlow, hhigh, hsite, Bool.not_false, and_self, or_true, if_true]

/-- R454: a domain that is off ramps, with no retry behind it, to the setpoint of its array's code. -/
theorem exec_domainSoftStart_ramps (hdown : s.power.down = 0) (hdom : s.dom d.val = 0)
    (hsite : ¬(306 ≤ d.val ∧ d.val < 324 ∧ s.siteOn (d.val - 306) = false)) : exec (.domainSoftStart d) s =
      let u := (s.setDom d.val 1).setFld (rPwrDom d.val) 28 26 0
      .next (u.setFld (rPwrDom d.val) 23 16 (u.setpoint d.val (if d.val < 306 then (u.arr (domArray d.val)).freqCode else 0))) := by
  simp only [exec_domainSoftStart, execDomainSoftStart, hdown, hdom, hsite, Bool.not_eq_true', ne_eq, not_true_eq_false, or_self, if_false]

variable {mv ma : Nat} {t : DWord}

theorem exec_softStartCheck_passes (hdom : s.dom d.val = 1) (hn : s.fld (rPwrDom d.val) 28 26 = 0) :
    exec (.softStartCheck d mv ma false t) s = .next s := by
  simp only [exec_softStartCheck, execSoftStartCheck, hdom, hn, ne_eq, not_true_eq_false, Bool.false_eq_true, false_and, if_false, if_true]

/-- R455: a short found at a ramp's check latches the domain off; its first latch is the one that counts. -/
def State.shortLatched (s : State) (d mv ma : Nat) (t : DWord) : State :=
  let u := (s.setDom d 4).domEvent 0x07 2 d (s.fld (rPwrDom d) 28 26) mv ma (domArray d) 0xFF
  { u with power := { u.power with latchAt := tblPut u.power.latchAt d ((tblFind u.power.latchAt d).getD t.toNat) } }

theorem exec_softStartCheck_short (hdom : s.dom d.val = 1) (hlow : 2 * mv < codeVolts (s.fld (rPwrDom d.val) 23 16))
    (hn : s.fld (rPwrDom d.val) 28 26 < 3) : exec (.softStartCheck d mv ma true t) s =
      .next (if (s.shortLatched d.val mv ma t).flag rPwrCtl 0 then s.shortLatched d.val mv ma t
        else (s.shortLatched d.val mv ma t).persistentShort d.val mv ma) := by
  simp only [exec_softStartCheck, execSoftStartCheck, hdom, hlow, Nat.not_le.mpr hn, ne_eq, not_true_eq_false, and_self, or_false, if_false, if_true]
  change Host.Outcome.next (if (!(s.shortLatched d.val mv ma t).flag rPwrCtl 0) = true then (s.shortLatched d.val mv ma t).persistentShort d.val mv ma
    else s.shortLatched d.val mv ma t) = _
  cases (s.shortLatched d.val mv ma t).flag rPwrCtl 0 <;> rfl

/-- R454: a ramp that is complete runs at its setpoint, where its array is not in retention. -/
theorem exec_domainRampComplete_runs (hdom : s.dom d.val = 1) (hret : ¬(d.val < 288 ∧ ((s.setDom d.val 2).setFld (rPwrDom d.val) 15 8
    ((s.setDom d.val 2).fld (rPwrDom d.val) 23 16)).flag (rPwrAry (d.val / 16)) 4 = true)) : exec (.domainRampComplete d) s =
      .next ((s.setDom d.val 2).setFld (rPwrDom d.val) 15 8 ((s.setDom d.val 2).fld (rPwrDom d.val) 23 16)) := by
  have hkept : (s.setDom d.val 2).fld (rPwrDom d.val) 23 16 = s.fld (rPwrDom d.val) 23 16 :=
    State.fld_setFld_bits _ _ _ _ _ _ _ (by decide) (by decide) (by decide)
  rw [hkept] at hret ⊢
  simp only [exec_domainRampComplete, execDomainRampComplete, hdom, ne_eq, not_true_eq_false, hret, if_false]

/-! Latched-off domains (R455, R456). -/

section
variable {first : Nat} (hfirst : tblFind s.power.latchAt d.val = some first) (hdom : s.dom d.val = 4)
  (hservice : s.power.inService.contains d.val = true → s.unbacked d.val = true)
include hfirst hdom hservice

/-- What a latched-off domain that is free to try again does by the retries behind it. -/
theorem exec_domainRetry_free : exec (.domainRetry d t) s = .next (if s.flag rPwrCtl 0 = false then s.persistentShort d.val 0 0
    else if 3 ≤ s.fld (rPwrDom d.val) 28 26 ∨ t.toNat < first + 640000000 * (s.fld (rPwrDom d.val) 28 26 + 1) then s
    else (s.setDom d.val 1).setFld (rPwrDom d.val) 28 26 (s.fld (rPwrDom d.val) 28 26 + 1)) := by
  have hfree : ¬(s.dom d.val ≠ 4 ∨ (s.power.inService.contains d.val = true ∧ s.unbacked d.val = false)) := by
    rintro (hne | ⟨hin, hbacked⟩)
    · exact hne hdom
    · exact Bool.false_ne_true (hbacked.symm.trans (hservice hin))
  simp only [exec_domainRetry, execDomainRetry, hfirst, Bool.not_eq_true', if_neg hfree]

theorem exec_domainRetry_again (hauto : s.flag rPwrCtl 0 = true) (hn : s.fld (rPwrDom d.val) 28 26 < 3)
    (ht : first + 640000000 * (s.fld (rPwrDom d.val) 28 26 + 1) ≤ t.toNat) : exec (.domainRetry d t) s =
      .next ((s.setDom d.val 1).setFld (rPwrDom d.val) 28 26 (s.fld (rPwrDom d.val) 28 26 + 1)) := by
  rw [exec_domainRetry_free hfirst hdom hservice, if_neg (by simp [hauto]), if_neg (by omega)]

theorem exec_domainRetry_persists (hauto : s.flag rPwrCtl 0 = false) : exec (.domainRetry d t) s = .next (s.persistentShort d.val 0 0) := by
  rw [exec_domainRetry_free hfirst hdom hservice, if_pos hauto]

end

/-- R456: a domain latches off in service. -/
def State.serviceLatched (s : State) (d : Nat) (t : DWord) : State :=
  let u := (s.setDom d 4).setFld (rPwrDom d) 28 26 0
  { u with power := { u.power with
    latchAt := tblPut u.power.latchAt d t.toNat, inService := d :: u.power.inService.filter (fun x => x != d) } }

/-- R456: an over-current or an under-voltage of a strip latches it off and stops its array. -/
theorem exec_domainOvercurrent_strip (hdom : s.dom d.val = 2)
    (hbad : domMax d.val * 12 < ma * 10 ∨ 2 * mv < codeVolts (s.fld (rPwrDom d.val) 23 16)) (hd : d.val < 288) :
    exec (.domainOvercurrent d mv ma t) s = .next (((s.serviceLatched d.val t).domEvent 0x0A 2 d.val 0 mv ma (d.val / 16)
      (((s.serviceLatched d.val t).spareFor (d.val / 16)).getD 0xFF)).arrayPowerFault (d.val / 16)) := by
  have htrip : (decide (domMax d.val * 12 < ma * 10) || decide (2 * mv < codeVolts (s.fld (rPwrDom d.val) 23 16))) = true := by
    rwa [Bool.or_eq_true, decide_eq_true_eq, decide_eq_true_eq]
  have harray : domArray d.val = d.val / 16 := if_pos hd
  have hknown : d.val / 16 ≠ 255 := by omega
  have hsev : ¬ 324 ≤ d.val := by omega
  simp only [exec_domainOvercurrent, execDomainOvercurrent, hdom, htrip, hd, harray, hknown, hsev, ne_eq, not_true_eq_false, Bool.not_true,
    Bool.false_eq_true, or_self, if_false, if_true]
  rfl

theorem exec_domainOvercurrent_within (hcur : domMax d.val * 12 ≥ ma * 10) (hvolt : codeVolts (s.fld (rPwrDom d.val) 23 16) ≤ 2 * mv) :
    exec (.domainOvercurrent d mv ma t) s = .next s := by
  simp only [exec_domainOvercurrent, execDomainOvercurrent, Nat.not_lt.mpr hcur, Nat.not_lt.mpr hvolt, decide_false, Bool.or_self, Bool.not_false,
    or_true, if_true]

end

/-! Retention (R457). -/

section
variable {s : State} {p : ArrayId}

/-- R457: a free spare that is no partner enters retention. -/
theorem exec_retentionEntry_spare (hlog : s.logOf p.val = none) (hfree : s.freeSpare p.val = true) (hpartner : s.isPartner p.val = false)
    (hawake : s.flag (rPwrAry p.val) 4 = false) : exec (.retentionEntry p) s = .next (s.retain p.val) := by
  simp only [exec_retentionEntry, execRetentionEntry, hlog, hfree, hpartner, hawake, Bool.not_false, Bool.and_self, and_self, if_true]

/-- R457: an array that a replay claims leaves retention. -/
theorem exec_retentionWake_partner (hpartner : s.isPartner p.val = true) (hret : s.flag (rPwrAry p.val) 4 = true) :
    exec (.retentionWake p) s = .next (s.wake p.val) := by
  simp only [exec_retentionWake, execRetentionWake, hpartner, hret, Bool.true_or, and_self, if_true]

end

/-! Setpoints before an announced launch (R461). -/

/-- R461: the first n strips of an array that run raise their setpoints by a droop offset, up to code 180. -/
def State.stripsRaised (s : State) (p dv n : Nat) : State :=
  (List.range n).foldl (fun s i => if s.dom (16 * p + i) = 2 then
    s.setFld (rPwrDom (16 * p + i)) 23 16 (Nat.min 180 (s.fld (rPwrDom (16 * p + i)) 23 16 + dv)) else s) s

section
variable (s : State) (p dv n : Nat)

theorem State.stripsRaised_succ : s.stripsRaised p dv (n + 1) =
    let u := s.stripsRaised p dv n
    if u.dom (16 * p + n) = 2 then u.setFld (rPwrDom (16 * p + n)) 23 16 (Nat.min 180 (u.fld (rPwrDom (16 * p + n)) 23 16 + dv)) else u := by
  rw [State.stripsRaised, List.range_succ, List.foldl_append]; rfl

theorem State.stripsRaised_power : (s.stripsRaised p dv n).power = s.power := by
  refine foldl_unchanged State.power (fun t i => ?_) _ s
  split <;> rfl

/-- R451: a setpoint is not the state of its domain. -/
theorem State.dom_setFld_setpoint (d e x : Nat) : (s.setFld (rPwrDom d) 23 16 x).dom e = s.dom e := by
  by_cases h : e = d
  · subst h; exact s.fld_setFld_bits _ _ _ _ _ _ (by decide) (by decide) (by decide)
  · exact s.fld_setFld_reg _ _ _ _ _ (by simp only [rPwrDom]; omega)

theorem State.stripsRaised_dom (e : Nat) : (s.stripsRaised p dv n).dom e = s.dom e := by
  refine foldl_unchanged (fun t => t.dom e) (fun t i => ?_) _ s
  split
  · exact t.dom_setFld_setpoint ..
  · rfl

variable {n} (hdom : ∀ i < 16, s.dom (16 * p + i) = 2)
include hdom

theorem State.stripsRaised_setpoint (hn : n ≤ 16) (i : Nat) : (s.stripsRaised p dv n).fld (rPwrDom (16 * p + i)) 23 16 =
    if i < n then Nat.min 180 (s.fld (rPwrDom (16 * p + i)) 23 16 + dv) else s.fld (rPwrDom (16 * p + i)) 23 16 := by
  induction n with
  | zero => rfl
  | succ n ih =>
    have ih := ih (by omega)
    rw [State.stripsRaised_succ]
    dsimp only
    rw [if_pos ((s.stripsRaised_dom ..).trans (hdom n (by omega)))]
    by_cases hi : i = n
    · subst hi
      have hle : Nat.min 180 (s.fld (rPwrDom (16 * p + i)) 23 16 + dv) ≤ 180 := Nat.min_le_left ..
      rw [State.fld_setFld_same _ _ _ _ _ (by decide) (by decide), ih, if_neg (by omega), if_pos (by omega), Nat.mod_eq_of_lt (by omega)]
    · rw [State.fld_setFld_reg _ _ _ _ _ _ (by simp only [rPwrDom]; omega), ih]
      simp only [show i < n + 1 ↔ i < n by omega]

end

/-- R461, R468: what an announced launch notes of itself, for what is learnt after it. -/
def State.prepOf (s : State) (p : Nat) (e : QEntry) : Prep :=
  ⟨p, (s.arr p).ctrl.ctx, e.phaseKey (s.arr p), match e.launch with | some t => t.toNat | none => 0⟩

/-- The launch is noted. -/
def State.prepNoted (s : State) (x : Prep) : State := { s with power := { s.power with prep := s.power.prep ++ [x] } }

/-- R462: an array whose code is too high for the step of its start begins lower, and shows that it climbs back. -/
def State.startLowered (s : State) (p f0 code : Nat) : State :=
  if f0 < code then (s.modArr p (fun a => { a with freqCode := f0 })).setFlag (rPwrAry p) 3 true else s

theorem State.startLowered_power (s : State) (p f0 code : Nat) : (s.startLowered p f0 code).power = s.power := by
  rw [State.startLowered]
  split <;> rfl

theorem State.startLowered_setpoint (s : State) {p : Nat} (hp : p < 18) (f0 code d : Nat) :
    (s.startLowered p f0 code).fld (rPwrDom d) 23 16 = s.fld (rPwrDom d) 23 16 := by
  rw [State.startLowered]
  split
  · exact State.fld_setFld_reg _ _ _ _ _ _ (by simp only [rPwrDom, rPwrAry]; omega)
  · rfl

/-- R461, R462: without prediction an announced launch raises no setpoint, is noted, and may start at a lower code. -/
theorem exec_prepositionStart_unpredicted {s : State} {p : ArrayId} {e : QEntry}
    (hfind : ((s.arr p.val).aq ++ (s.arr p.val).vq).find? (fun e => e.launch.isSome) = some e) (hctl : s.flag rPwrCtl 1 = false) :
    ∃ f0, exec (.prepositionStart p) s =
      .next (((s.stripsRaised p.val 0 16).prepNoted (s.prepOf p.val e)).startLowered p.val f0 (s.arr p.val).freqCode) := by
  simp only [exec_prepositionStart, execPrepositionStart, hfind, hctl, Bool.false_eq_true, if_false]
  exact ⟨_, rfl⟩

/-- R461: what that leaves of the setpoints of an array whose strips all run, and of the notes. -/
theorem exec_prepositionStart_setpoints {s : State} {p : ArrayId} {e : QEntry}
    (hfind : ((s.arr p.val).aq ++ (s.arr p.val).vq).find? (fun e => e.launch.isSome) = some e) (hctl : s.flag rPwrCtl 1 = false)
    (hdom : ∀ i < 16, s.dom (16 * p.val + i) = 2) : ∃ u, exec (.prepositionStart p) s = .next u ∧
      (∀ i < 16, u.fld (rPwrDom (16 * p.val + i)) 23 16 = Nat.min 180 (s.fld (rPwrDom (16 * p.val + i)) 23 16)) ∧
      u.power.prep = s.power.prep ++ [s.prepOf p.val e] := by
  obtain ⟨f0, hexec⟩ := exec_prepositionStart_unpredicted hfind hctl
  refine ⟨_, hexec, fun i hi => ?_, ?_⟩
  · rw [State.startLowered_setpoint _ p.isLt]
    exact (s.stripsRaised_setpoint p.val 0 hdom (le_refl 16) i).trans (if_pos hi)
  · rw [State.startLowered_power]
    exact congrArg (fun x : PowerState => x.prep ++ [s.prepOf p.val e]) (s.stripsRaised_power p.val 0 16)

/-! Corrections by a critical-path monitor (R335, R452). -/

/-- R335: bits 7:0 of PWR_DOM hold the correction as a signed number. -/
theorem signed_byte (x : Nat) (h : x < 256) : (if x < 128 then (x : Int) else (x : Int) - 256) = (BitVec.ofNat 8 x).toInt := by
  rw [BitVec.toInt_eq_toNat_cond, BitVec.toNat_ofNat, Nat.mod_eq_of_lt h]
  split <;> split <;> omega

section
variable {s : State} {d : Fin 288} {up : Bool} {ofs base : Int} (hdom : s.dom d.val = 2) (hstretch : tblFind s.time.stretchAt d.val = none)
  (hcpm : tblFind s.time.cpmAt d.val = none) (hofs : (BitVec.ofNat 8 (s.fld (rPwrDom d.val) 7 0)).toInt + (if up then 1 else -1) = ofs)
  (hbase : (s.setpoint d.val (s.arr (d.val / 16)).freqCode : Int) = base)
include hdom hstretch hcpm hofs hbase

/-- R335: a step that would leave the bounds of the strip is not taken. -/
theorem exec_cpmAdjust_beyond
    (h : base + ofs < base - 6 - tblGet 0 s.power.ofs (12 * d.val + 9) ∨ base + 20 < base + ofs ∨ 180 < base + ofs) :
    exec (.cpmAdjust d up) s = .next s := by
  rw [← signed_byte (s.fld (rPwrDom d.val) 7 0) (bitsOf_lt _ 7 0)] at hofs
  simp only [exec_cpmAdjust, execCpmAdjust, hdom, hstretch, hcpm, hofs, hbase, bne_self_eq_false, Bool.or_self, Bool.false_eq_true, if_false,
    h, if_true]

/-- R335: a step inside the bounds moves the setpoint, and bits 7:0 show the new correction. -/
theorem exec_cpmAdjust_moves (hlow : base - 6 - tblGet 0 s.power.ofs (12 * d.val + 9) ≤ base + ofs) (hhigh : base + ofs ≤ base + 20)
    (hmax : base + ofs ≤ 180) (hpos : 0 ≤ base + ofs) : ∃ u, exec (.cpmAdjust d up) s = .next u ∧
      u.fld (rPwrDom d.val) 23 16 = (base + ofs).toNat ∧ (BitVec.ofNat 8 (u.fld (rPwrDom d.val) 7 0)).toInt = ofs.bmod 256 := by
  have hin : ¬(base + ofs < base - 6 - tblGet 0 s.power.ofs (12 * d.val + 9) ∨ base + 20 < base + ofs ∨ 180 < base + ofs) := by omega
  rw [← signed_byte (s.fld (rPwrDom d.val) 7 0) (bitsOf_lt _ 7 0)] at hofs
  simp only [exec_cpmAdjust, execCpmAdjust, hdom, hstretch, hcpm, hofs, hbase, bne_self_eq_false, Bool.or_self, Bool.false_eq_true, if_false, hin]
  refine ⟨_, rfl, ?_, ?_⟩
  · exact (State.fld_setFld_same _ _ _ _ _ (by decide) (by decide)).trans (Nat.mod_eq_of_lt (by omega))
  · have hshown : ((s.setFld (rPwrDom d.val) 7 0 (wrapInt 8 ofs)).setFld (rPwrDom d.val) 23 16 (base + ofs).toNat).fld (rPwrDom d.val) 7 0 =
        wrapInt 8 ofs := by
      rw [State.fld_setFld_bits _ _ _ _ _ _ _ (by decide) (by decide) (by decide), State.fld_setFld_same _ _ _ _ _ (by decide) (by decide)]
      exact Nat.mod_eq_of_lt (by rw [wrapInt]; omega)
    exact (congrArg (fun x => (BitVec.ofNat 8 x).toInt) hshown).trans (by rw [ofNat_wrapInt, BitVec.toInt_ofInt])

end

/-! Minimum voltages (R477). -/

section
variable {s : State} {d : DomainId} {v : Nat} {t : DWord} (hd : 288 ≤ d.val)
include hd

theorem exec_domainVminExcursion_lower (h : v < s.fld (rPwrVmin d.val) 15 0) : exec (.domainVminExcursion d v t) s =
    .next ((s.setFld (rPwrVmin d.val) 15 0 v).setReg64 (rPwrVminTime d.val) t.toNat) := by
  simp only [exec_domainVminExcursion, execDomainVminExcursion, h, hd, if_true]

theorem exec_domainVminExcursion_known (h : s.fld (rPwrVmin d.val) 15 0 ≤ v) : exec (.domainVminExcursion d v t) s = .next s := by
  simp only [exec_domainVminExcursion, execDomainVminExcursion, Nat.not_lt.mpr h, hd, if_true, if_false]

end

/-- Settles O54: one lemma for each command and each of its cases. -/
theorem domainEvents : Obligations.DomainEvents := by
  unfold Obligations.DomainEvents
  intro s d mv ma t r
  refine ⟨exec_domainSoftStart_site_off, exec_domainSoftStart_ramps, exec_softStartCheck_passes, exec_softStartCheck_short,
    exec_domainRampComplete_runs, fun first hfirst hdom hauto hn ht hservice => exec_domainRetry_again hfirst hdom hservice hauto hn ht,
    fun first hfirst hdom hauto hservice => exec_domainRetry_persists hfirst hdom hservice hauto, exec_domainOvercurrent_strip,
    exec_domainOvercurrent_within, fun _ => exec_retentionEntry_spare, fun _ => exec_retentionWake_partner,
    fun _ _ => exec_prepositionStart_setpoints, fun d up hdom hstretch hcpm => ?correction,
    fun v => ⟨fun h hd => exec_domainVminExcursion_lower hd h, fun h hd => exec_domainVminExcursion_known hd h⟩⟩
  case correction =>
    exact ⟨exec_cpmAdjust_beyond hdom hstretch hcpm rfl rfl, exec_cpmAdjust_moves hdom hstretch hcpm rfl rfl⟩

end Sys2Proof.Machine

/-!
Step digests, peers' records, rewinds and region digests (10_integrity R358 to R363), and O47.
-/
namespace Sys2Proof.Machine

/-! The step digest (R358). -/

@[simp] theorem State.modCtrlOf_flag (s : State) (c rank : Nat) (f : Ctrl → Ctrl) (off i : Nat) :
    (s.modCtrlOf c rank f).flag off i = s.flag off i := by
  rw [State.modCtrlOf]
  split
  · rfl
  · split
    · split <;> rfl
    · rfl

/-- R358: the ranks' records of a closed step leave their controllers. -/
def State.stepTaken (s : State) (c n step : Nat) : State :=
  (List.range n).foldl (fun s r => s.modCtrlOf c r (fun k => { k with closed := k.closed.filter (fun d => d.1 != step) })) s

@[simp] theorem State.stepTaken_flag (s : State) (c n step off i : Nat) : (s.stepTaken c n step).flag off i = s.flag off i :=
  foldl_unchanged (fun t => State.flag t off i) (fun t _ => t.modCtrlOf_flag ..) _ s

/-- What every rank has closed for the step is the list of the ranks' digests. -/
theorem State.closed_digests {s : State} {c n step : Nat} {ds : List Nat} (hlen : ds.length = n)
    (h : ∀ r < n, ∃ k, (s.ctrlOf c r).closed.find? (fun d => d.1 == step) = some (k, ds.getD r 0)) :
    (List.range n).map (fun r => ((s.ctrlOf c r).closed.find? (fun d => d.1 == step)).map Prod.snd) = ds.map some := by
  refine List.ext_getElem (by simp [hlen]) fun r hr _ => ?_
  rw [List.length_map, List.length_range] at hr
  obtain ⟨k, hk⟩ := h r hr
  simp [hk, hlen, hr]

/-- R358: without digests of peers the step digest forms once every rank has closed the step. -/
theorem exec_stepDigestForm_forms {s : State} {c : CtxId} {n step : Nat} {ds : List Nat} (hn : (s.partRange (s.ctxPart c.val)).2 = n)
    (hstep : (s.reg (rChkCtxStep c.val)).toNat + 1 = step) (hpos : 0 < n) (hlive : s.ctxState c.val ≠ 0) (hreset : s.ctxState c.val ≠ 6)
    (hflag : s.flag (rChkCtxCtl c.val) 3 = false) (hlen : ds.length = n)
    (h : ∀ r < n, ∃ k, (s.ctrlOf c.val r).closed.find? (fun d => d.1 == step) = some (k, ds.getD r 0)) : exec (.stepDigestForm c) s =
      .next (((s.stepTaken c.val n step).setReg64 (rChkCtxWdig c.val) (stepDigest step ds)).setReg (rChkCtxStep c.val) (BitVec.ofNat 32 step)) := by
  have hall : (ds.map some).any Option.isNone = false := by simp
  have hds : (ds.map some).filterMap id = ds := by simp
  have hshown : (((s.stepTaken c.val n step).setReg64 (rChkCtxWdig c.val) (stepDigest step ds)).setReg (rChkCtxStep c.val)
      (BitVec.ofNat 32 step)).flag (rChkCtxCtl c.val) 3 = false := by
    have hne : rChkCtxCtl c.val ≠ rChkCtxStep c.val ∧ rChkCtxCtl c.val ≠ rChkCtxWdig c.val ∧ rChkCtxCtl c.val ≠ rChkCtxWdig c.val + 4 := by
      simp only [rChkCtxCtl, rChkCtxStep, rChkCtxWdig]; omega
    obtain ⟨hstepReg, hlow, hhigh⟩ := hne
    rw [State.flag, State.reg_setReg_other _ _ hstepReg, State.reg_setReg64_other _ _ hlow hhigh]
    exact (State.stepTaken_flag ..).trans hflag
  simp only [State.stepTaken] at hshown ⊢
  simp only [exec_stepDigestForm, execStepDigestForm, hn, hstep, State.closed_digests hlen h, hall, hds, hlive, hreset, hflag, hshown, hpos.ne',
    Bool.false_and, Bool.false_eq_true, or_self, Bool.not_false, if_false, if_true]

/-! Records of peers (R361, R362). -/

/-- R361: the record that a peer's line holds. -/
def peerRecOf (peer : Nat) (bs : List Byte) : PeerRec :=
  ⟨peer, leAt bs 0 4, leAt bs 8 8, if (leAt bs 24 1).testBit 0 then some (leAt bs 16 8) else none, (leAt bs 24 1).testBit 1⟩

/-- R362: the record joins those of the context. -/
def State.recTaken (s : State) (c : Nat) (r : PeerRec) : State :=
  s.setSteps c { s.steps c with recs := (s.steps c).recs ++ [r] }

/-- R362: a peer's record of a step that is not agreed yet is compared with the device's own. -/
theorem exec_digestRecordArrival_compares {s : State} {c : CtxId} {peer : Fin 8} {slot : Fin 64} {p pa n : Nat} {x : Window} {bs : List Byte}
    (hn : s.fld (rChkCtxDwin c.val) 19 16 = n) (hx : s.window p (s.fld (rChkCtxDwin c.val) 5 0) = x) (hbs : s.rdBytes pa 32 = bs)
    (hp : s.physOf n = some p) (hflag : s.flag (rChkCtxCtl c.val) 3 = true) (hopen : x.isOpen = true) (hctx : x.ctx = c.val)
    (hpeer : peer.val < s.fld (rChkCtxCtl c.val) 15 12)
    (hpa : s.access ⟨c.val, some n, .read, 3⟩ (leAt x.record 0 8 + peer.val * 2048 + slot.val * 32) = .ok pa)
    (hslot : leAt bs 0 4 % 64 = slot.val) (hnew : (s.reg (rChkCtxAgreed c.val)).toNat < leAt bs 0 4) (hrde : s.integ.rde = none) :
    exec (.digestRecordArrival c peer slot) s =
      let v := (s.recTaken c.val (peerRecOf peer.val bs)).compareStep c.val peer.val (leAt bs 0 4)
      .next (v.agree c.val ((v.steps c.val).own.length + 1)) := by
  simp only [exec_digestRecordArrival, execDigestRecordArrival, hn, hx, hbs, hp, hflag, hopen, hctx, Nat.not_le.mpr hpeer, hpa, hslot,
    Nat.not_le.mpr hnew, Bool.not_true, Bool.false_eq_true, ne_eq, not_true_eq_false, or_self, if_false]
  simp only [State.setSteps, hrde, Bool.false_eq_true, if_false, State.recTaken, peerRecOf]

/-- R362: a peer whose record has not arrived 1 s after the device's own is reported once. -/
theorem exec_peerDigestTimeout_silent {s u : State} {c : CtxId} {peer : Fin 8} {t : DWord} {o : OwnStep} (hu : s.clock t = u)
    (ho : (u.steps c.val).own.find? (fun o => ((u.steps c.val).recOf peer.val o.step).isNone &&
      !(u.steps c.val).silent.contains (peer.val, o.step) && decide (o.time + 64000000000 ≤ u.now.toNat)) = some o)
    (hpeer : peer.val < u.fld (rChkCtxCtl c.val) 15 12) (hflag : u.flag (rChkCtxCtl c.val) 3 = true) :
    ∃ node ctx, exec (.peerDigestTimeout c peer t) s =
      .next ((u.setSteps c.val { u.steps c.val with silent := (u.steps c.val).silent ++ [(peer.val, o.step)] }).postCtx
        c.val 0x05 0x0B 0 (srcOf 7 0) (digestPayload o.step o.w 0 node ctx o.replays)) := by
  simp only [exec_peerDigestTimeout, execPeerDigestTimeout, hu, ho, Nat.not_le.mpr hpeer, hflag, Bool.not_true, Bool.false_eq_true, or_self,
    if_false]
  exact ⟨_, _, rfl⟩

/-! Rewinds (R363). -/

theorem State.showUnagreed_reg (s : State) (c : Nat) {off : Nat} (h : off ≠ rChkCtxStatus c) : (s.showUnagreed c).reg off = s.reg off :=
  State.reg_setFld_other _ _ _ _ h

theorem State.showUnagreed_steps (s : State) (c i : Nat) : (s.showUnagreed c).steps i = s.steps i := rfl

/-- The arrays on which the context stands. -/
def State.residentArrays (s : State) (c : Nat) : List Nat := (s.ctxArrays c).filter (fun p => s.residentAt p == some c)

theorem State.residentArrays_idle {s : State} {c : Nat}
    (h : ∀ p ∈ s.ctxArrays c, s.residentAt p = some c → (s.arr p).atBoundary = true ∧ (s.arr p).run.running = false) :
    (s.residentArrays c).any (fun p => !(s.arr p).atBoundary || (s.arr p).run.running) = false := by
  refine List.any_eq_false.mpr fun p hp => ?_
  obtain ⟨hmem, hres⟩ := List.mem_filter.mp hp
  obtain ⟨hboundary, hrun⟩ := h p hmem (eq_of_beq hres)
  simp [hboundary, hrun]

/-- What the device notes of a context that rewinds, once its arrays are emptied. -/
def State.rewoundTo (v : State) (c agreed : Nat) (k : CtxState) (x : StepState) : State :=
  ((((v.setCtx c k).setReg (rDspCtxFetch c) ((v.setCtx c k).reg (rDspCtxRewind c))).setReg (rChkCtxStep c)
    (BitVec.ofNat 32 agreed)).setSteps c x).showUnagreed c

section
variable (v : State) (c agreed : Nat) (k : CtxState) (x : StepState)

theorem State.rewoundTo_fetch : (v.rewoundTo c agreed k x).reg (rDspCtxFetch c) = v.reg (rDspCtxRewind c) := by
  have hstatus : rDspCtxFetch c ≠ rChkCtxStatus c := by simp only [rDspCtxFetch, rChkCtxStatus]; omega
  have hstep : rDspCtxFetch c ≠ rChkCtxStep c := by simp only [rDspCtxFetch, rChkCtxStep]; omega
  rw [State.rewoundTo, State.showUnagreed_reg _ _ hstatus, State.setSteps_reg, State.reg_setReg_other _ _ hstep, State.reg_setReg_same,
    State.setCtx_reg]

theorem State.rewoundTo_step : (v.rewoundTo c agreed k x).reg (rChkCtxStep c) = BitVec.ofNat 32 agreed := by
  have hne : rChkCtxStep c ≠ rChkCtxStatus c := by simp only [rChkCtxStep, rChkCtxStatus]; omega
  rw [State.rewoundTo, State.showUnagreed_reg _ _ hne, State.setSteps_reg, State.reg_setReg_same]

theorem State.rewoundTo_ctx : (v.rewoundTo c agreed k x).ctx c = k := State.ctx_setCtx_same v c k

theorem State.rewoundTo_steps : (v.rewoundTo c agreed k x).steps c = x := by
  rw [State.rewoundTo, State.showUnagreed_steps, State.steps_setSteps_same]

end

/-- R363: a context that rewinds goes back to its agreed step, with no command and no step of its own. -/
theorem exec_contextRewind_rewinds {s : State} {c : CtxId} (hrewind : (s.steps c.val).rewind = true) (hstate : s.ctxState c.val ≠ 4)
    (hidle : ∀ p ∈ s.ctxArrays c.val, s.residentAt p = some c.val → (s.arr p).atBoundary = true ∧ (s.arr p).run.running = false) :
    ∃ (v : State) (k : CtxState) (x : StepState),
      exec (.contextRewind c) s = .next (v.rewoundTo c.val (s.reg (rChkCtxAgreed c.val)).toNat k x).dispatch ∧
      v.reg (rDspCtxRewind c.val) = s.reg (rDspCtxRewind c.val) ∧ k.cmds = [] ∧ x.own = [] ∧ x.rewind = false := by
  have harrays := State.residentArrays_idle hidle
  rw [State.residentArrays] at harrays
  simp only [exec_contextRewind, execContextRewind, hrewind, hstate, harrays, Bool.not_true, Bool.false_eq_true, or_self, if_false]
  refine ⟨_, _, _, rfl, ?_, rfl, rfl, rfl⟩
  refine foldl_unchanged (fun t => State.reg t (rDspCtxRewind c.val)) (fun t p => ?_) _ s
  exact State.modArr_reg ..

/-! Region digests (R359). -/

/-- The sum over lines, each step of which wraps, is the sum that wraps once. -/
theorem foldl_add_mod {α : Type} (m : Nat) (f : α → Nat) (l : List α) (h : Nat) :
    l.foldl (fun h x => (h + f x) % m) (h % m) = (h + (l.map f).sum) % m := by
  induction l generalizing h with
  | nil => simp
  | cons x l ih => simp only [List.foldl_cons, List.map_cons, List.sum_cons, Nat.mod_add_mod, ih, Nat.add_assoc]

theorem State.regionSum_eq (s : State) (lines : List (Nat × Nat)) :
    s.regionSum lines = (lines.map (fun l => lineHash l.1 (s.rdBytes l.2 64))).sum % 2 ^ 64 := by
  have hsum := foldl_add_mod (2 ^ 64) (fun l : Nat × Nat => lineHash l.1 (s.rdBytes l.2 64)) lines 0
  rwa [Nat.zero_mod, Nat.zero_add] at hsum

/-- Reads of clean lines leave the state. -/
theorem State.readLines_clean {s : State} {ctx : Option Nat} {lines : List (Nat × Nat)}
    (h : ∀ l ∈ lines, ∀ w ∈ wordsOf l.2 64, s.checkAt w = .clean) : lines.foldl (fun s l => s.readChecks ctx l.2 64) s = s := by
  induction lines with
  | nil => rfl
  | cons l ls ih =>
    rw [List.foldl_cons, State.readChecks_clean _ (h l (List.mem_cons_self ..))]
    exact ih fun m hm => h m (List.mem_cons_of_mem l hm)

/-- The lines of a region, each with the physical address of its 64 bytes. -/
def regionLines (n : Nat) (pas : List Nat) : List (Nat × Nat) := (List.range n).map (fun i => (64 * i, pas.getD i 0))

section
variable {s : State} {r : RdeRun} {pas : List Nat} {n : Nat} (hn : r.len / 64 = n)
  (h : ∀ i < n, s.access ⟨r.ctx, none, .read, 3⟩ (r.va + 64 * i) = .ok (pas.getD i 0) ∧ ∀ w ∈ wordsOf (pas.getD i 0) 64, s.checkAt w = .clean)
include h

theorem regionLines_clean : ∀ l ∈ regionLines n pas, ∀ w ∈ wordsOf l.2 64, s.checkAt w = .clean := by
  intro l hl
  obtain ⟨i, hi, rfl⟩ := List.mem_map.mp hl
  exact (h i (List.mem_range.mp hi)).2

theorem State.regionAccess_ok : (List.range n).map (fun i => (64 * i, s.access ⟨r.ctx, none, .read, 3⟩ (r.va + 64 * i))) =
    (regionLines n pas).map (fun l => (l.1, Tr.ok l.2)) := by
  rw [regionLines, List.map_map]
  exact List.map_congr_left fun i hi => by rw [(h i (List.mem_range.mp hi)).1]; rfl

include hn

/-- R359: a region digest of clean memory that no step waits for goes to RDE_RES. -/
theorem exec_regionDigestComplete_clean (hr : s.integ.rde = some r) (hwait : r.waitStep = false) (hstep : r.forStep = none)
    (hstall : s.memst.stalled = []) : exec .regionDigestComplete s =
      .next (({ s with integ := { s.integ with rde := none } }.setFlag rChkRdeCtl 30 false).setReg64 rChkRdeRes
        (mix64 (s.regionSum (regionLines n pas) ^^^ r.len))) := by
  have hclean := regionLines_clean h
  have hbad : (regionLines n pas).any (fun l => s.badIn l.2 64) = false :=
    List.any_eq_false.mpr fun l hl => by simp [State.badIn_clean (hclean l hl)]
  have hnone : (regionLines n pas).find? (fun _ => false) = none := by simp
  simp only [exec_regionDigestComplete, execRegionDigestComplete, hr, hwait, hstep, hstall, hn, State.regionAccess_ok h, List.any_nil,
    Bool.false_eq_true, or_self, if_false, List.find?_map, hnone, Option.map_none, List.filterMap_map, Function.comp_def, Prod.mk.eta, List.filterMap_some,
    State.readLines_clean hclean, hbad]

end

/-- Settles O47: one lemma for each command. -/
theorem digestEvents : Obligations.DigestEvents := by
  unfold Obligations.DigestEvents
  intro s c
  refine ⟨fun ds => exec_stepDigestForm_forms rfl rfl, fun peer slot p pa => exec_digestRecordArrival_compares rfl rfl rfl,
    fun peer t o => exec_peerDigestTimeout_silent rfl, fun hrewind hstate hidle => ?rewind, fun r pas hr hwait hstep hstall _ h => ?region,
    fun r hr hinterval hflag => ?interval⟩
  case rewind =>
    obtain ⟨v, k, x, hexec, hreg, hcmds, hown, hdone⟩ := exec_contextRewind_rewinds hrewind hstate hidle
    refine ⟨_, hexec, ?_, ?_, ?_, ?_, ?_⟩
    · rw [State.rewoundTo_fetch, hreg]
    · rw [State.rewoundTo_step]
    · rw [State.rewoundTo_ctx, hcmds]
    · rw [State.rewoundTo_steps, hown]
    · rw [State.rewoundTo_steps, hdone]
  case region =>
    rw [exec_regionDigestComplete_clean rfl h hr hwait hstep hstall, State.regionSum_eq, regionLines, List.map_map]
    rfl
  case interval =>
    simp only [exec_regionDigestInterval, execRegionDigestInterval, hr, ne_eq, hinterval, hflag, not_false_eq_true, Bool.not_false, and_self, if_true]

end Sys2Proof.Machine

/-!
Replays, their verdicts and strikes (10_integrity R345 to R355), and O36.
-/
namespace Sys2Proof.Machine

/-! Partners (R345 to R348). -/

/-- R345, R351: the partner of the execution that comes next: of the third, which the first partner does not run, once the second is done. -/
def State.nextPartner (s : State) (p : Nat) (t : Tile) (r : Replay) : Option Nat :=
  if r.done = true then s.partnerFor p t true r.third r.partner.toList else s.partnerFor p t r.resolving r.partner []

/-- A partner is chosen for the execution that comes next. -/
def Replay.chosen (r : Replay) (q : Nat) : Replay := if r.done = true then { r with third := some q } else { r with partner := some q }

/-- The execution that comes next has begun on its partner. -/
def Replay.begun (r : Replay) (q : Nat) : Replay :=
  if r.done = true then { r with third := some q, thirdStreaming := true } else { r with partner := some q, streaming := true }

/-- No execution of the replay runs. -/
def Replay.stopped (r : Replay) : Replay := { r with streaming := false, thirdStreaming := false }

/-- The partner of the execution that waits for one. -/
def Replay.nextChosen (r : Replay) : Option Nat := if r.done = true then r.third else r.partner

section
variable {p : ArrayId} {s : State} {slot : Fin 3} {t : Tile} {r : Replay} (ht : (s.arr p.val).tile slot.val = t) (hr : t.replay = some r)
include ht hr

section
variable (hstate : t.state = 3 ∨ t.state = 4)
include hstate

section
variable {q : Nat} (hq : s.nextPartner p.val t r = some q) (hstream : r.streaming = false) (hthird : r.thirdStreaming = false)
include hq hstream hthird

/-- R348: a partner that is not at a boundary free of other work keeps the execution waiting. -/
theorem exec_replayStart_waits (hready : s.partnerReady q = false) :
    exec (.replayStart p slot) s = .next (s.setTile p.val slot.val { t with replay := some (r.chosen q) }) := by
  have hlive : ¬(t.state ≠ 3 ∧ t.state ≠ 4) := by omega
  rw [State.nextPartner] at hq
  -- The model lists the arrays that the third execution avoids by a match on the first partner.
  cases hpartner : r.partner <;> simp only [hpartner, Option.toList] at hq <;>
    simp only [exec_replayStart, execReplayStart, ht, hr, hpartner, hq, hstream, hthird, hlive, hready, Replay.chosen, Bool.false_eq_true,
      Bool.not_false, or_self, if_false, if_true]

/-- R346, R348: with its inputs and its stationary source intact an execution begins on a partner that is ready. -/
theorem exec_replayStart_starts (hready : s.partnerReady q = true) (hclean : s.firstBad (t.held.map (fun h => (h.addr, h.len))) = none)
    (hsame : s.sourceSame p.val t = true) : exec (.replayStart p slot) s =
      .next ((((((s.fillRing q t).softStart q).setTile p.val slot.val { t with replay := some (r.begun q) }).bump64 rChkReplays 1).bump
        (rChkCtxReplays t.ctx) 1).lifeCount (466 + p.val) 1) := by
  have hlive : ¬(t.state ≠ 3 ∧ t.state ≠ 4) := by omega
  rw [State.nextPartner] at hq
  cases hpartner : r.partner <;> simp only [hpartner, Option.toList] at hq <;>
    simp only [exec_replayStart, execReplayStart, ht, hr, hpartner, hq, hstream, hthird, hlive, hready, hclean, hsame, Replay.begun,
      Bool.false_eq_true, Bool.not_true, or_self, if_false]

end

/-- R345: a tile for which no partner qualifies in time is unresolved. -/
theorem exec_partnerWaitExpiry_unresolves (hnone : r.nextChosen = none) : exec (.partnerWaitExpiry p slot) s =
    .next ((s.postReplay (some t.ctx) 0x07 2 p.val t 0 r.hash 0xFF 0 r.partner).unresolve p.val slot.val t [] r.hash 0xFF 0 r.partner 0 t.hash) := by
  have hlive : ¬(t.state ≠ 3 ∧ t.state ≠ 4) := by omega
  have hwaits : (if r.done = true then r.third.isNone else r.partner.isNone) = true := by
    rw [← apply_ite Option.isNone, ← Replay.nextChosen, hnone]; rfl
  simp only [exec_partnerWaitExpiry, execPartnerWaitExpiry, ht, hr, hwaits, hlive, Bool.not_true, Bool.false_eq_true, or_self, if_false]

end

/-! Verdicts (R350 to R355). -/

section
variable {upset : List (Nat × Nat × Nat)} {f : ReplayFaults} {q h : Nat} {u : State} {tr : Tile}
  (hchains : (s.arr p.val).chainsRun t = false) (hclean : s.firstBad (t.held.map (fun h => (h.addr, h.len))) = none)
  (htr : replayTile t upset = tr) (hh : tileHash tr.accs tr.rows tr.ownFlags = h)
  (hu : (s.streamEnds q).secondChains p.val slot.val q t { tr with hash := h } f.chains = u)
  (hwit : firstFail tr.flags.inexact (addResidues (tileDeltas tr) f.wit) = none)

section
variable (hstream : r.streaming = true) (hthird : r.thirdStreaming = false) (hq : r.partner = some q)
include hchains hclean htr hh hu hwit hstream hthird hq

/-- R350: a replay whose own verdict is good ends, and is settled with the original. -/
theorem exec_replayComplete_first : exec (.replayComplete p slot upset f) s = .next ((u.firstReplay p.val slot.val q t { tr with hash := h }
    r.stopped h true).chainDisagree p.val slot.val) := by
  simp only [exec_replayComplete, execReplayComplete, ht, hr, hstream, hthird, hchains, hclean, htr, hh, hwit, hq, hu, Replay.stopped,
    Option.getD_some, Option.isNone_none, Bool.not_true, Bool.not_false, Bool.false_eq_true, false_and, or_self, if_false]

end

section
variable (hthird : r.thirdStreaming = true) (hnochains : r.chains = false) (hq : r.third = some q)
include hchains hclean htr hh hu hwit hthird hnochains hq

/-- R351: a third execution whose own verdict is good ends, and settles the disagreement. -/
theorem exec_replayComplete_third : exec (.replayComplete p slot upset f) s = .next ((u.thirdReplay p.val slot.val q t { tr with hash := h }
    r.stopped h true).chainDisagree p.val slot.val) := by
  simp only [exec_replayComplete, execReplayComplete, ht, hr, hthird, hnochains, hchains, hclean, htr, hh, hwit, hq, hu, Replay.stopped,
    Option.getD_some, Option.isNone_none, Bool.not_true, Bool.false_eq_true, and_false, or_self, if_false, if_true]

end
end
end

/-- R351: the tile keeps the hash of its first replay, and needs a third execution on a partner other than q. -/
def State.needsThird (s : State) (p i q : Nat) (t : Tile) (r : Replay) (h : Nat) : State :=
  s.setTile p i { t with replay := some { r with
    resolving := true, streaming := false, thirdStreaming := false, done := true, hash := h, pass := true
    third := s.partnerFor p t true none [q], since := s.now.toNat } }

section
variable {s : State} {p i q : Nat} {t tr : Tile} {r : Replay} {h : Nat}

/-! The rows of R351 for the original O and the first replay R. -/

theorem State.firstReplay_agrees (ho : r.origFailed = false) (hsame : h = t.hash) : s.firstReplay p i q t tr r.stopped h true =
    s.settleOriginal p i q t := by
  simp [State.firstReplay, Replay.stopped, ho, hsame]

theorem State.firstReplay_disagrees (ho : r.origFailed = false) (hdiff : h ≠ t.hash) : s.firstReplay p i q t tr r.stopped h true =
    ((s.disagree p t).postReplay (some t.ctx) 0x01 2 p t 0 h 0xFF 0 (some q)).needsThird p i q t r h := by
  simp [State.firstReplay, Replay.stopped, State.needsThird, ho, hdiff]

theorem State.firstReplay_overrules (ho : r.origFailed = true) (hinj : r.injected = false) (hdiff : h ≠ t.hash) :
    s.firstReplay p i q t tr r.stopped h true =
      ((s.settleReplay p i t { tr with replayedOn := some q } h).resolved p t 0x02 h 0xFF 0 (some q)).strike p := by
  simp [State.firstReplay, Replay.stopped, ho, hinj, hdiff]

theorem State.firstReplay_confirms (ho : r.origFailed = true) (hinj : r.injected = false) (hsame : h = t.hash) :
    s.firstReplay p i q t tr r.stopped h true = ((s.wpathFault p i t).settleOriginal p i q t).resolved p t 0x03 h 0xFF 0 (some q) := by
  simp [State.firstReplay, Replay.stopped, ho, hinj, hsame]

/-! The rows of R351 for the third execution T on q3. -/

variable {q3 : Nat} (hq : r.partner = some q)
include hq

theorem State.thirdReplay_original (hsame : h = t.hash) : s.thirdReplay p i q3 t tr r.stopped h true =
    ((s.strike q).settleOriginal p i q t).resolved p t 0x03 r.hash q3 h (some q) := by
  simp [State.thirdReplay, Replay.stopped, hq, hsame]

theorem State.thirdReplay_replay (hdiff : h ≠ t.hash) (hsame : h = r.hash) : s.thirdReplay p i q3 t tr r.stopped h true =
    ((s.settleReplay p i t { tr with replayedOn := some q } h).resolved p t 0x02 r.hash q3 h (some q)).strike p := by
  subst hsame
  simp [State.thirdReplay, Replay.stopped, hq, hdiff]

theorem State.thirdReplay_none (hdiff : h ≠ t.hash) (hdiff' : h ≠ r.hash) : s.thirdReplay p i q3 t tr r.stopped h true =
    (s.overwrite p i t tr h).unresolve p i t [p, q, q3] r.hash q3 h (some q) 0 t.hash := by
  simp [State.thirdReplay, Replay.stopped, hq, hdiff, hdiff']

end

/-- Settles O36: one lemma for each command, and one for each row of the table of R351. -/
theorem replayEvents : Obligations.ReplayEvents := by
  unfold Obligations.ReplayEvents
  intro p s slot t r ht hr
  refine ⟨fun q hq hstream hthird hstate => ⟨fun hready hclean hsame => ?_, fun hready => ?_⟩, ?first, ?third,
    fun hnone hstate => ?_, rfl, fun q hfree hpartner => ?_⟩
  case first =>
    intro q upset f hstream hthird hq hchains hclean tr h u hwit
    have hend := exec_replayComplete_first (tr := tr) (h := h) (u := u) ht hr hchains hclean rfl rfl rfl hwit hstream hthird hq
    refine ⟨fun ho hsame => ?_, fun ho hinj hdiff => ?_, fun ho hinj hsame => ?_, fun ho hdiff => ?_⟩
    · rw [hend, State.firstReplay_agrees ho hsame]
    · rw [hend, State.firstReplay_overrules ho hinj hdiff]
    · rw [hend, State.firstReplay_confirms ho hinj hsame]
    · rw [hend, State.firstReplay_disagrees ho hdiff]; rfl
  case third =>
    intro q q3 upset f hthird hnochains hq hq3 hchains hclean tt h u hwit
    have hend := exec_replayComplete_third (tr := tt) (h := h) (u := u) ht hr hchains hclean rfl rfl rfl hwit hthird hnochains hq3
    refine ⟨fun hsame => ?_, fun hdiff hsame => ?_, fun hdiff hdiff' => ?_⟩
    · rw [hend, State.thirdReplay_original hq hsame]
    · rw [hend, State.thirdReplay_replay hq hdiff hsame]
    · rw [hend, State.thirdReplay_none hq hdiff hdiff']
  · exact exec_replayStart_starts ht hr hstate hq hstream hthird hready hclean hsame
  · exact exec_replayStart_waits ht hr hstate hq hstream hthird hready
  · exact exec_partnerWaitExpiry_unresolves ht hr hstate hnone
  · simp only [exec_spareRetentionReturn, execSpareRetentionReturn, hfree, hpartner, Bool.not_false, Bool.and_self, if_true]

end Sys2Proof.Machine

/-!
Test runs, known answers, seam lanes, buses, the standby dispatcher, hangs and watchdogs (10_integrity R366 to R368, 14_bringup_repair R498
to R501, R506 to R509), and O48.
-/
namespace Sys2Proof.Machine

/-! What the end of a test run leaves of the queue of runs and of a waiting repair command (R366, R367, R501). -/

/-- The test runs that the device holds, and whether a repair command waits. -/
def State.runsAndRepair (s : State) : List PyrRun × Bool := (s.integ.pyr, s.brp.repair)

theorem State.SameBody.runsAndRepair {s t : State} (h : s.SameBody t) : t.runsAndRepair = s.runsAndRepair := by
  rw [State.runsAndRepair, h.integ, h.brp]; rfl

section
variable (s : State)

@[simp] theorem State.setFld_runsAndRepair (off hi lo x : Nat) : (s.setFld off hi lo x).runsAndRepair = s.runsAndRepair :=
  (State.SameBody.setFld ..).runsAndRepair

@[simp] theorem State.setFlag_runsAndRepair (off i : Nat) (b : Bool) : (s.setFlag off i b).runsAndRepair = s.runsAndRepair :=
  (State.SameBody.setFlag ..).runsAndRepair

@[simp] theorem State.lifeCount_runsAndRepair (w n : Nat) : (s.lifeCount w n).runsAndRepair = s.runsAndRepair :=
  (State.SameBody.life ..).runsAndRepair

@[simp] theorem State.postDev_runsAndRepair (cls code sev source payload : Nat) :
    (s.postDev cls code sev source payload).runsAndRepair = s.runsAndRepair := (State.SameBody.postDev ..).runsAndRepair

@[simp] theorem State.brpEvent_runsAndRepair (code sev payload : Nat) : (s.brpEvent code sev payload).runsAndRepair = s.runsAndRepair :=
  s.postDev_runsAndRepair ..

@[simp] theorem State.testEvent_runsAndRepair (code sev result unit strip kind version fails row col : Nat) :
    (s.testEvent code sev result unit strip kind version fails row col).runsAndRepair = s.runsAndRepair := s.postDev_runsAndRepair ..

@[simp] theorem State.logAdd_runsAndRepair (kind reason stage : Nat) (target : List Nat) :
    (s.logAdd kind reason stage target).runsAndRepair = s.runsAndRepair := by
  unfold State.logAdd
  extract_lets log e
  split
  · simp
  · rfl

@[simp] theorem State.showPyr_runsAndRepair : s.showPyr.runsAndRepair = s.runsAndRepair :=
  foldl_unchanged State.runsAndRepair (fun t _ => t.setFlag_runsAndRepair ..) _ _

@[simp] theorem State.showSpares_runsAndRepair : s.showSpares.runsAndRepair = s.runsAndRepair :=
  foldl_unchanged State.runsAndRepair (fun t _ => t.setFlag_runsAndRepair ..) _ _

@[simp] theorem State.applyRepair_runsAndRepair (kind : Nat) (target : List Nat) :
    (s.applyRepair kind target).runsAndRepair = s.runsAndRepair := by
  unfold State.applyRepair
  split
  · rfl
  · rfl
  · rfl
  · dsimp only
    split <;> rfl
  · split <;> rfl
  · rfl
  · split <;> rfl
  · rfl

@[simp] theorem State.retireArray_runsAndRepair (p reason stage : Nat) : (s.retireArray p reason stage).runsAndRepair = s.runsAndRepair := by
  rw [State.retireArray, State.showSpares_runsAndRepair]
  refine (foldl_unchanged State.runsAndRepair (fun t d => ?_) _ _).trans ((s.setFld ..).logAdd_runsAndRepair ..)
  split <;> rfl

@[simp] theorem State.pyrPass_runsAndRepair (p : Nat) : (s.pyrPass p).runsAndRepair = s.runsAndRepair := by
  rw [State.pyrPass]
  split <;> rfl

@[simp] theorem State.stripsOff_runsAndRepair (p : Nat) : (s.stripsOff p).runsAndRepair = s.runsAndRepair := by
  refine foldl_unchanged State.runsAndRepair (fun t i => ?_) _ s
  dsimp only
  split <;> rfl

@[simp] theorem State.stripsOn_runsAndRepair (p : Nat) : (s.stripsOn p).runsAndRepair = s.runsAndRepair := by
  rw [State.stripsOn]
  split
  · simp
  · refine foldl_unchanged State.runsAndRepair (fun t i => ?_) _ s
    split <;> rfl

end

/-- R367: the log entries and the events of the repairs that a run makes. -/
theorem State.repairsMade_runsAndRepair (s : State) (made : List (Nat × List Nat)) (ev : State → Nat × List Nat → Nat) :
    (made.foldl (fun s (x : Nat × List Nat) => ((s.logAdd x.1 2 0 x.2).applyRepair x.1 x.2).brpEvent 0xA3 1 (ev s x)) s).runsAndRepair =
      s.runsAndRepair :=
  foldl_unchanged State.runsAndRepair (fun t x => by simp) _ s

section
variable {s : State} {r : PyrRun}

/-- R366: a queued run whose array backs no logical array and is no partner starts when the set is signed and not older than the floor. -/
theorem exec_pyriteRunStart_starts (hpyr : s.integ.pyr = [r]) (hrun : r.running = false) (hlog : s.logOf r.array = none)
    (hpartner : s.isPartner r.array = false) (hver : s.fld rChkPyrVersion 31 16 ≤ s.fld rChkPyrVersion 15 0) : exec (.pyriteRunStart true) s =
      .next ((({ s with integ := { s.integ with pyr := [{ r with running := true }] } }.showPyr).setFld rChkPyrStatus 31 30 2).testStrips r) := by
  simp [exec_pyriteRunStart, execPyriteRunStart, hpyr, hrun, hlog, hpartner, Nat.not_lt.mpr hver, removeFirst]

/-- R367, R501: the run that ends leaves the queue, and a repair command that waits is tried again. -/
theorem exec_pyriteRunEnd_ends (hpyr : s.integ.pyr = [r]) (hrun : r.running = true) (result : Fin 3) (fails row col : Nat)
    (repairs : List (Nat × List Nat)) : ∃ w : State, exec (.pyriteRunEnd result fails row col repairs) s =
      .next (if w.brp.repair = true then w.repairRun else w) ∧ w.runsAndRepair = ([], s.brp.repair) := by
  have hfind : s.integ.pyr.find? PyrRun.running = some r := by simp [hpyr, hrun]
  have hgone : s.integ.pyr.filter (fun x => !x.running) = [] := by simp [hpyr, hrun]
  rw [exec_pyriteRunEnd, execPyriteRunEnd, hfind]
  simp only [hgone]
  refine ⟨_, rfl, ?_⟩
  simp only [apply_ite State.runsAndRepair, State.testEvent_runsAndRepair, State.lifeCount_runsAndRepair, State.setFld_runsAndRepair,
    State.showSpares_runsAndRepair, State.stripsOn_runsAndRepair, State.retireArray_runsAndRepair, State.pyrPass_runsAndRepair, ite_self]
  refine (State.repairsMade_runsAndRepair _ _ _).trans ?_
  rw [State.showPyr_runsAndRepair]
  rfl

/-- R367: when no repair command waits, no run is left behind the only one. -/
theorem exec_pyriteRunEnd_leaves (hpyr : s.integ.pyr = [r]) (hrun : r.running = true) (result : Fin 3) (fails row col : Nat)
    (repairs : List (Nat × List Nat)) : ∃ v, exec (.pyriteRunEnd result fails row col repairs) s = .next v ∧
      (s.brp.repair = false → v.integ.pyr = []) := by
  obtain ⟨w, hexec, hkeeps⟩ := exec_pyriteRunEnd_ends hpyr hrun result fails row col repairs
  obtain ⟨hruns, hwaits⟩ := Prod.mk.inj hkeeps
  refine ⟨_, hexec, fun hrepair => ?_⟩
  rw [if_neg (by simp [hwaits, hrepair]), hruns]

end

/-- R368: known answers that all match. -/
theorem exec_knownAnswerComplete_matches {s : State} {k : Nat} (hkak : s.integ.kak = some k) : exec (.knownAnswerComplete none) s =
    .next (({ s with integ := { s.integ with kak := none } }.setFld rChkKakStatus 31 30 3).setFld rChkKakStatus 29 28 0) := by
  simp only [exec_knownAnswerComplete, execKnownAnswerComplete, hkak, Option.isNone_some, Bool.false_eq_true, if_false]

/-! Tests of power modules (R501). -/

section
variable {s : State} {m : Nat} (hm : s.brp.module = some m)
include hm

theorem exec_moduleTestComplete_fails :
    exec (.moduleTestComplete false) s = .next ({ s with brp := { s.brp with module := none } }.repairEnd 1) := by
  simp only [exec_moduleTestComplete, execModuleTestComplete, hm, Bool.not_false, Bool.false_eq_true, if_false, if_true]

/-- R501: a module that passes and that no entry of the repair log holds off returns to service. -/
theorem exec_moduleTestComplete_passes {u : State} (hu : { s with brp := { s.brp with module := none } }.repairEnd 0 = u)
    (hlog : (inForce s.brp.log).filter (fun e => e.kind == 0x0B && nth 0 e.target 0 == m) = []) : exec (.moduleTestComplete true) s =
      .next (((u.setFlag rPwrMod m true).setFld rPwrStatus 19 15 ((u.setFlag rPwrMod m true).fld rPwrStatus 19 15 - 1)).capUpdate) := by
  have hkept : u.brp.log = s.brp.log := by rw [← hu]; rfl
  have hstatus : (u.setFlag rPwrMod m true).fld rPwrStatus 19 15 = u.fld rPwrStatus 19 15 := State.fld_setFld_reg _ _ _ _ _ _ (by decide)
  simp only [exec_moduleTestComplete, execModuleTestComplete, hm, hu, hkept, hlog, hstatus, Bool.not_true, Bool.false_eq_true, if_false,
    if_true, List.foldl_nil]

end

/-! Seam lanes and the management buses (R498, R499). -/

section
variable {s : State} {seg : Fin 12} {bundle group : BitVec 8} {lane : Fin 33} {errs : Nat} {link : Option (Fin 54)}

theorem exec_seamLaneMonitor_within (h : errs ≤ 16) : exec (.seamLaneMonitor seg bundle group lane errs link) s = .next s := by
  simp only [exec_seamLaneMonitor, execSeamLaneMonitor, h, if_true]

/-- R498: a lane with too many errors is mapped to the unused spare lane of its group. -/
theorem exec_seamLaneMonitor_spare (h : 16 < errs) (hspare : s.brp.seamSpares.contains (seg.val, bundle.toNat, group.toNat) = false) :
    exec (.seamLaneMonitor seg bundle group lane errs link) s =
      let x := [seg.val, bundle.toNat, group.toNat, lane.val]
      .next ((((s.logAdd 0x05 6 0 x).applyRepair 0x05 x).lifeCount (812 + seg.val) 1).brpEvent 0xAC 1
        (brpPayload 0 0 0xFFFF (seg.val + 256 * bundle.toNat) s.logNext 0xFF 0xFF)) := by
  simp only [exec_seamLaneMonitor, execSeamLaneMonitor, Nat.not_le.mpr h, seamKey, seamTarget, hspare, Bool.not_false, if_false, if_true]

end

/-- R499: a bus is retired for a field once. -/
theorem exec_mgmtBusRetire_retires {s : State} {bus : Fin 2} {field : Fin 9} (h : s.flag rBrpMgb (9 * bus.val + field.val) = false) :
    exec (.mgmtBusRetire bus field) s =
      let u := (s.setFlag rBrpMgb (9 * bus.val + field.val) true).logAdd 0x10 6 0 [bus.val, field.val]
      .next (u.brpEvent 0xA9 (if u.flag rBrpMgb (9 * (1 - bus.val) + field.val) then 3 else 1)
        (brpPayload 0 0 (srcOf 4 field.val) bus.val s.logNext 0xFF 0xFF)) := by
  simp only [exec_mgmtBusRetire, execMgmtBusRetire, h, Bool.false_eq_true, if_false]

/-! The standby dispatcher (R500). -/

section
variable (s : State) (t : DWord)

@[simp] theorem State.clock_brp : (s.clock t).brp = s.brp := by
  rw [State.clock]
  split <;> rfl

@[simp] theorem State.clock_flag (off i : Nat) : (s.clock t).flag off i = s.flag off i := by
  rw [State.clock]
  split <;> rfl

theorem exec_dispatcherHeartbeat_beats :
    exec (.dispatcherHeartbeat t) s = .next { s.clock t with brp := { s.brp with beat := (s.clock t).now.toNat } } := by
  simp only [exec_dispatcherHeartbeat, execDispatcherHeartbeat, State.clock_brp]

end

/-- R500: the standby dispatcher, in lockstep and not active yet, takes over from a primary that reports its failure. -/
theorem exec_dispatcherFailover_reported {s : State} {t : DWord} {u : State} (hready : s.flag rBrpDsp 30 = true)
    (hactive : s.flag rBrpDsp 31 = false) (hremaps : s.brp.remaps = [])
    (hu : (((s.clock t).setFlag rBrpDsp 31 true).setFlag rBrpDsp 30 false).setFlag rBrpStatus 18 true = u) :
    exec (.dispatcherFailover true t) s = .next (((u.setFld rBrpDsp 15 0 (satAdd 16 (u.fld rBrpDsp 15 0) 1)).postDev 0x0C 0xA8 1 (srcOf 8 1)
      (brpPayload 0 0 (srcOf 8 0) 0 0 0xFF 0xFF)).dispatch) := by
  have hnone : u.brp.remaps = [] := by rw [← hu]; simp [hremaps]
  simp only [exec_dispatcherFailover, execDispatcherFailover, State.clock_flag, hready, hactive, hu, State.setFld_brp, hnone, List.foldl_nil,
    Bool.not_true, Bool.true_or, Bool.false_eq_true, or_self, if_false]

/-! Hangs and watchdogs (R506 to R509). -/

section
variable {s : State}

/-- R507: a hang shows in three samples in a row. -/
theorem exec_hangSample_early (cycles : List (List (Nat × Nat))) (h : s.brp.hang.length < 2) :
    exec (.hangSample cycles) s = .next { s with brp := { s.brp with hang := (cycles :: s.brp.hang).take 2 } } := by
  have hnone : ∀ f : List (Nat × Nat) → Bool, cycles.filter (fun c => decide (2 ≤ s.brp.hang.length) && f c) = [] := by
    simp [Nat.not_le.mpr h]
  simp only [exec_hangSample, execHangSample, Bool.and_assoc, hnone, List.foldl_nil]

theorem exec_hangSample_declares {c : List (Nat × Nat)} {a b : List (List (Nat × Nat))} (hhang : s.brp.hang = [a, b])
    (hnew : s.brp.declared = []) (ha : a.any (sameCycle c) = true) (hb : b.any (sameCycle c) = true) :
    exec (.hangSample [c]) s = .next (({ s with brp := { s.brp with hang := [[c], a] } } : State).declareHang c) := by
  simp [exec_hangSample, execHangSample, hhang, hnew, ha, hb]

/-- R509: the watchdog of a resident context expires. -/
theorem exec_watchdogExpiry_resident {c : CtxId} {limit : Nat} {u : State} (hlimit : s.fld (rBrpWdog c.val) 15 0 = limit) (hon : limit ≠ 0)
    (hres : s.resident (s.ctxPart c.val) = some c.val)
    (hu : (s.bump rBrpWdogCnt 1).postCtx c.val 0x0A 0x02 2 (srcOf 7 0) (hangPayload [] limit) = u) :
    exec (.watchdogExpiry c) s = .next (if u.flag (rBrpWdog c.val) 31 then u.ctxFault c.val 0x0A 0x02 else u) := by
  simp only [exec_watchdogExpiry, execWatchdogExpiry, hlimit, hon, hres, hu, ne_eq, not_true_eq_false, or_self, if_false]

end

/-- Settles O48: one lemma for each command and each of its cases. -/
theorem repairEvents : Obligations.RepairEvents := by
  unfold Obligations.RepairEvents
  intro s t
  refine ⟨fun r => exec_pyriteRunStart_starts, fun r result fails row col repairs hpyr hrun =>
      exec_pyriteRunEnd_leaves hpyr hrun result fails row col repairs,
    fun k => exec_knownAnswerComplete_matches, fun m => exec_moduleTestComplete_fails, fun m hm hlog => exec_moduleTestComplete_passes hm rfl hlog,
    fun seg bundle group lane errs link => exec_seamLaneMonitor_within, fun seg bundle group lane errs link => exec_seamLaneMonitor_spare,
    fun bus field => exec_mgmtBusRetire_retires, exec_dispatcherHeartbeat_beats s t, fun hready hactive hremaps =>
      exec_dispatcherFailover_reported hready hactive hremaps rfl,
    exec_hangSample_early, fun c a b => exec_hangSample_declares, fun c hon hres => exec_watchdogExpiry_resident rfl hon hres rfl⟩

end Sys2Proof.Machine

/-!
Registers of contexts and partitions (11_contexts R375 to R379, R386, R395 to R397): the effect of each register's write by its cases, and
O44.
-/
namespace Sys2Proof.Machine

/-! A context's control register: the binding's checks, the stop and the reset (R376, R377, R395). -/

section
variable {s : State} {req : Requester} {c old acted : Nat}

/-- R376: a binding that fails a check is refused. -/
theorem State.ctxEnable_refused {n : Nat} (h : s.bindCheck c = some n) :
    s.ctxEnable c = (s.setFlag (rDspCtxCtl c) 30 false).postDev 0x0C 0x94 0 s.dspSource (dspPayload 0 0 n 0 0 0) := by
  rw [State.ctxEnable, h]

/-- R375, R376: a binding that passes its checks makes a free context ready. -/
theorem State.ctxEnable_ready (h : s.bindCheck c = none) (hfree : s.ctxState c = 0) : s.ctxEnable c = s.setCtxState c 1 := by
  simp only [State.ctxEnable, h, hfree, if_true]

/-- R395: a reset of a context that does not reset stops it. -/
theorem State.ctxReset_starts (h : s.ctxState c ≠ 6) : s.ctxReset c =
    ((s.ctxStop c).setCtx c { (s.ctxStop c).ctx c with fetchStopped := true, resetTail := 0 }).setCtxState c 6 := if_neg h

theorem ctxCtl_act_enables (hold : old.testBit 30 = false) (hnew : s.flag (rDspCtxCtl c) 30 = true) (hreset : acted.testBit 31 = false) :
    (ctxCtl c).act s req old acted = (s.ctxEnable c).dispatch := by
  simp [ctxCtl, hold, hnew, hreset]

theorem ctxCtl_act_disables (hold : old.testBit 30 = true) (hnew : s.flag (rDspCtxCtl c) 30 = false) (hreset : acted.testBit 31 = false) :
    (ctxCtl c).act s req old acted = (s.ctxReset c).dispatch := by
  simp [ctxCtl, hold, hnew, hreset]

theorem ctxCtl_act_resets (hsame : s.flag (rDspCtxCtl c) 30 = old.testBit 30) (hreset : acted.testBit 31 = true) :
    (ctxCtl c).act s req old acted = (s.ctxReset c).dispatch := by
  simp [ctxCtl, hsame, hreset]

/-- R395: the tenant's request for a reset. -/
theorem cpCtl_act_resets (h : acted.testBit 0 = true) : (cpCtl c).act s req old acted = (s.ctxReset c).dispatch := if_pos h

end

/-! The doorbell (R379, R401). -/

section
variable {s : State} {req : Requester} {c old t : Nat}

section
variable (hbound : s.ctxState c ≠ 0) (hreset : s.ctxState c ≠ 6)
include hbound hreset

/-- R379: a tail within the ring and not behind the fetch index is taken. -/
theorem doorbellReg_act_taken (hroom : cnt32 t (s.headIdx c) ≤ s.ringEntries c) (hahead : cnt32 t (s.fetchIdx c) < 2 ^ 31) :
    (doorbellReg c).act s req old t = (s.setCtx c { s.ctx c with tail := t }).dispatch := by
  simp only [doorbellReg, hbound, hreset, Nat.not_lt.mpr hroom, Nat.not_le.mpr hahead, or_self, if_false]

/-- R379: a tail beyond the ring is refused. -/
theorem doorbellReg_act_refused (hfull : s.ringEntries c < cnt32 t (s.headIdx c)) :
    (doorbellReg c).act s req old t = s.postCtx c 0x0C 0x92 0 s.dspSource (dspPayload t 0 0 0 0 0) := by
  simp only [doorbellReg, hbound, hreset, hfull, true_or, if_true, if_false]

end

/-- R401: a tail written during a reset stands after it. -/
theorem doorbellReg_act_resetting (hreset : s.ctxState c = 6) : (doorbellReg c).act s req old t =
    if s.ringEntries c < t then s.postCtx c 0x0C 0x92 0 s.dspSource (dspPayload t 0 0 0 0 0)
    else s.setCtx c { s.ctx c with resetTail := t } := by
  simp [doorbellReg, hreset]

end

/-- R378, R379: a doorbell that a function of an enabled context may ring is the write of its register. -/
theorem exec_doorbell_accepted {s : State} {req : Requester} {c : CtxId} {v : Word} (hon : s.flag (rDspCtxCtl c.val) 30 = true)
    (h : s.accepts req (rCpDoorbell c.val) v.toNat (doorbellReg c.val)) :
    exec (.doorbell req c v) s = .next (s.afterWrite req (rCpDoorbell c.val) v.toNat (doorbellReg c.val)) := by
  obtain ⟨htakes, _⟩ := id h
  have hreach : s.reaches req (rCpDoorbell c.val) = true := (Bool.and_eq_true_iff.mp htakes).1
  refine exec_regWrite_accepted ?_ h
  cases req with
  | vf h fn => exact congrArg _ (if_pos ⟨hreach, hon⟩)
  | _ => rfl

/-! A partition's register (R386). -/

section
variable {s : State} {req : Requester} {q : Nat}

/-- R386: a partition that is free is created where its block may stand. -/
theorem partCtl_act_creates {old : Word} (hold : old.toNat.testBit 31 = false) (hnew : s.flag (rDspPartCtl q) 31 = true)
    (hok : (s.setReg (rDspPartCtl q) old).partOk q (s.fld (rDspPartCtl q) 11 8) (s.fld (rDspPartCtl q) 2 0) = true) (acted : Nat) :
    (partCtl q).act s req old.toNat acted = s.setFld (rDspPartCtl q) 25 16 0x3FF := by
  simp only [State.flag, State.fld] at hnew hok
  simp only [partCtl, hold, hnew, BitVec.ofNat_toNat, BitVec.setWidth_eq, hok, Bool.false_eq_true, and_false, false_and, if_false, if_true]

/-- R386: a partition to which no enabled context is bound is destroyed. -/
theorem partCtl_act_destroys (hnew : s.flag (rDspPartCtl q) 31 = false)
    (hunused : ∀ d < 512, s.flag (rDspCtxCtl d) 30 = true → s.ctxPart d ≠ q) (old acted : Nat) :
    (partCtl q).act s req old acted = s.setPart q PartState.reset := by
  have hnone : (List.range 512).any (fun c => s.flag (rDspCtxCtl c) 30 && s.ctxPart c == q) = false := by
    simpa using hunused
  rw [State.flag] at hnew
  simp only [partCtl, hnew, hnone, Bool.false_eq_true, and_false, if_false]

end

/-- Settles O44: one lemma for each register and each case of its effect. -/
theorem contextRegisters : Obligations.ContextRegisters := by
  unfold Obligations.ContextRegisters
  intro s req c v
  refine ⟨fun h hreset hnew hold => ⟨fun n hcheck => ?refused, fun hcheck hfree => ?ready⟩, fun h hreset hnew hold => ?disable,
    fun h hreset hsame => ?reset, fun x => State.ctxReset_starts, fun h hreset => ?request, fun h hon hbound hlive hacted => ?doorbell,
    fun h hon hreset hacted => ?resetting, fun ring h => exec_regWrite_accepted rfl h, fun q h => ⟨fun hold hnew hok => ?create,
    fun hnew hunused => ?destroy⟩⟩
  case refused => rw [exec_regWrite_accepted rfl h, State.afterWrite, ctxCtl_act_enables hold hnew hreset, State.ctxEnable_refused hcheck]
  case ready => rw [exec_regWrite_accepted rfl h, State.afterWrite, ctxCtl_act_enables hold hnew hreset, State.ctxEnable_ready hcheck hfree]
  case disable => rw [exec_regWrite_accepted rfl h, State.afterWrite, ctxCtl_act_disables hold hnew hreset]
  case reset => rw [exec_regWrite_accepted rfl h, State.afterWrite, ctxCtl_act_resets hsame hreset]
  case request => rw [exec_regWrite_accepted rfl h, State.afterWrite, cpCtl_act_resets hreset]
  case doorbell =>
    rw [exec_doorbell_accepted hon h, State.afterWrite, hacted]
    exact ⟨fun hroom hahead => congrArg _ (doorbellReg_act_taken hbound hlive hroom hahead),
      fun hfull => congrArg _ (doorbellReg_act_refused hbound hlive hfull)⟩
  case resetting => rw [exec_doorbell_accepted hon h, State.afterWrite, hacted, doorbellReg_act_resetting hreset]
  case create => rw [exec_regWrite_accepted rfl h, State.afterWrite, partCtl_act_creates hold hnew hok]
  case destroy => rw [exec_regWrite_accepted rfl h, State.afterWrite, partCtl_act_destroys hnew hunused]

end Sys2Proof.Machine

/-!
Commands of a ring: their start in order and their completion (11_contexts R380 to R385), and O45.
-/
namespace Sys2Proof.Machine

/-- R383: a command that may start has not completed. -/
theorem not_done_of_cmdMayStart {k : Cmd} {before : List Cmd} (h : cmdMayStart k before = true) : k.done = false := by
  obtain ⟨hopen, _⟩ := Bool.and_eq_true_iff.mp h
  exact Bool.not_eq_eq_eq_not.mp hopen

theorem State.clock_forward {s : State} {t : DWord} (h : s.now.toNat < t.toNat) : s.clock t = { s with now := t } := if_pos h

section
variable {s : State} {c : CtxId} {index : Word} {k : Cmd} {before : List Cmd} (hat : s.cmdAt c.val index.toNat = some (k, before))
  (hstart : cmdMayStart k before = true)
include hat hstart

/-- R309, R383: a time command that waits completes when Quartz reaches its time. -/
theorem exec_cmdTimeExpiry_reached {t : DWord} (ht : s.now.toNat < t.toNat) (hop : k.op = 2) (hwaits : k.started = true)
    (hreached : (t - BitVec.ofNat 64 (leAt k.bytes 8 8)).toNat < 2 ^ 63) :
    exec (.cmdTimeExpiry c index t) s = .next (({ s with now := t } : State).cmdEnd c.val index.toNat) := by
  have hat' : ({ s with now := t } : State).cmdAt c.val index.toNat = some (k, before) := hat
  simp only [exec_cmdTimeExpiry, execCmdTimeExpiry, State.clock_forward ht, hat', hop, hwaits, not_done_of_cmdMayStart hstart,
    (qtzReached_iff _ _).mpr hreached, Bool.not_false, and_self, if_true]

/-- R382, R190: the controller of an array as a run starts its program there: what it keeps are its steps and its issue order. -/
def Ctrl.launched (o : Ctrl) (k : Cmd) (c gen : Nat) (now : DWord) : Ctrl :=
  { Ctrl.reset with
    state := 1, pc := BitVec.ofNat 48 (leAt k.bytes 8 8), ctx := c, gen := gen, step := o.step, stepAt := o.step
    wdig := o.wdig, closed := o.closed, seq := o.seq, startTime := now, cmdIndex := k.index }

/-- R382, R383: a run starts its program on an array of its mask that is at rest, has no stop request and is not being remapped. -/
theorem exec_cmdRun_starts {rank : Fin 16} {p n : Nat} (hn : (s.partRange (s.ctxPart c.val)).1 + rank.val = n) (hp : s.physOf n = some p)
    (hop : k.op = 1) (htodo : k.todo.contains rank.val = true) (hres : s.residentAt p = some c.val) (hrest : (s.arr p).ctrl.state = 0)
    (hstop : s.stopping p = false) (hremap : s.brp.remaps.any (fun r => r.logical == n) = false)
    (hearlier : before.any (fun j => j.todo.contains rank.val || j.running.contains rank.val) = false) :
    ∃ t, exec (.cmdRun c index rank) s = .next t ∧ t.arr p =
      { s.arr p with usedCtrl := true, ctrl := (s.arr p).ctrl.launched k c.val (s.ctxGen c.val) (s.localTime p) } := by
  simp only [exec_cmdRun, execCmdRun, hat, hn, hp, hop, hstart, htodo, hres, hrest, hstop, hremap, hearlier, ne_eq, not_true_eq_false,
    Bool.not_true, Bool.false_eq_true, or_self, if_false]
  exact ⟨_, rfl, by rw [State.setCtx_arr, State.arr_setArr_same]; rfl⟩

variable (hstate : s.ctxState c.val = 3)
include hstate

/-- R383: a nop completes as it starts. -/
theorem exec_cmdNop_completes (hop : k.op = 0) : exec (.cmdNop c index) s = .next (s.cmdEnd c.val index.toNat) := by
  simp only [exec_cmdNop, execCmdNop, hat, hstart, hstate, hop, and_self, if_true]

section
variable (hop : k.op = 2) (hnew : k.started = false)
include hop hnew

/-- R309, R383: a time command whose time has been reached completes as it starts. -/
theorem exec_cmdTime_reached (hreached : (s.now - BitVec.ofNat 64 (leAt k.bytes 8 8)).toNat < 2 ^ 63) :
    exec (.cmdTime c index) s = .next (s.cmdEnd c.val index.toNat) := by
  simp only [exec_cmdTime, execCmdTime, hat, hstart, hstate, hop, hnew, (qtzReached_iff _ _).mpr hreached, Bool.not_false, and_self, if_true]

/-- R383: a time command whose time is still to come waits. -/
theorem exec_cmdTime_waits (hlater : 2 ^ 63 ≤ (s.now - BitVec.ofNat 64 (leAt k.bytes 8 8)).toNat) : exec (.cmdTime c index) s =
    .next (s.setCtx c.val
      { s.ctx c.val with cmds := (s.ctx c.val).cmds.map (fun j => if j.index = index.toNat then { j with started := true } else j) }) := by
  have hnot : qtzReached s.now (BitVec.ofNat 64 (leAt k.bytes 8 8)) = false := decide_eq_false (Nat.not_lt.mpr hlater)
  simp only [exec_cmdTime, execCmdTime, hat, hstart, hstate, hop, hnew, hnot, Bool.not_false, Bool.false_eq_true, and_self, if_true, if_false]

end

section
variable (hop : k.op = 3) (hidle : s.dspStalled c.val = false)
include hop hidle

/-- R265: a write whose address does not translate stalls. -/
theorem exec_cmdWrite_stalls {code level entry epa : Nat}
    (htr : s.access ⟨c.val, none, .write, 3⟩ (leAt k.bytes 8 8) = .fault code level entry epa) :
    exec (.cmdWrite c index) s = .next (s.dspStall c.val (leAt k.bytes 8 8) code k.index .write) := by
  simp only [exec_cmdWrite, execCmdWrite, hat, hstart, hstate, hop, hidle, htr, Bool.not_false, and_self, if_true]

section
variable {pa : Nat} (htr : s.access ⟨c.val, none, .write, 3⟩ (leAt k.bytes 8 8) = .ok pa)
include htr

/-- R383, R384: a write to a window is a command fault. -/
theorem exec_cmdWrite_window {i o : Nat} (hplace : s.place pa = .aperture i o) :
    exec (.cmdWrite c index) s = .next (s.cmdFault c.val 0x90 k.index k.tag (leAt k.bytes 8 8)) := by
  simp only [exec_cmdWrite, execCmdWrite, hat, hstart, hstate, hop, hidle, htr, hplace, Bool.not_false, and_self, if_true]

/-- R383: a write to the host leaves through its port. -/
theorem exec_cmdWrite_host {off : Nat} (hplace : s.place pa = .host off) : exec (.cmdWrite c index) s =
    .next ((s.hostWrite c.val (leAt k.bytes 8 8) off (sliceBytes k.bytes 16 8) false).cmdEnd c.val k.index) := by
  simp only [exec_cmdWrite, execCmdWrite, hat, hstart, hstate, hop, hidle, htr, hplace, Bool.not_false, and_self, if_true]

/-- R383: a write to memory of the device stores its word, but not where a range is held. -/
theorem exec_cmdWrite_memory (hwindow : ∀ i o, s.place pa ≠ .aperture i o) (hhost : ∀ off, s.place pa ≠ .host off) :
    exec (.cmdWrite c index) s = .next (if s.heldHit pa 8 = true then s.heldRefuse c.val 12 18 (leAt k.bytes 8 8) pa
      else (s.store (some c.val) pa (sliceBytes k.bytes 16 8)).cmdEnd c.val k.index) := by
  cases hplace : s.place pa with
  | aperture i o => exact absurd hplace (hwindow i o)
  | host off => exact absurd hplace (hhost off)
  | _ => simp only [exec_cmdWrite, execCmdWrite, hat, hstart, hstate, hop, hidle, htr, hplace, Bool.not_false, and_self, if_true]

end

end

end

/-- Settles O45: one lemma for each command and each of its outcomes. -/
theorem dispatcherCommands : Obligations.DispatcherCommands := by
  unfold Obligations.DispatcherCommands
  intro s c index k before hat hstate hstart
  refine ⟨exec_cmdNop_completes hat hstart hstate, exec_cmdTime_reached hat hstart hstate, exec_cmdTime_waits hat hstart hstate,
    fun t => exec_cmdTimeExpiry_reached hat hstart, fun hop hindex hidle => ?write,
    fun rank p hp hop htodo hres hrest hstop hremap hearlier => ?run⟩
  case write =>
    rw [← hindex]
    refine ⟨fun pa htr hwindow hhost hfree => ?_, fun pa off htr => exec_cmdWrite_host hat hstart hstate hop hidle htr,
      fun pa i o htr => exec_cmdWrite_window hat hstart hstate hop hidle htr, fun pa htr hheld hwindow hhost => ?_,
      fun code level entry epa => exec_cmdWrite_stalls hat hstart hstate hop hidle⟩
    · rw [exec_cmdWrite_memory hat hstart hstate hop hidle htr hwindow hhost, if_neg (Bool.eq_false_iff.mp hfree)]
      rfl
    · rw [exec_cmdWrite_memory hat hstart hstate hop hidle htr hwindow hhost, if_pos hheld]
  case run =>
    obtain ⟨t, hexec, harr⟩ := exec_cmdRun_starts hat hstart rfl hp hop htodo hres hrest hstop hremap hearlier
    refine ⟨t, hexec, ?_⟩
    rw [harr]
    exact ⟨rfl, rfl, rfl, rfl, rfl, rfl, rfl, rfl, rfl, rfl, rfl⟩

end Sys2Proof.Machine

/-!
The dispatcher's events: command fetch, program ends, quanta, switches, the wait of a reset and watermark limits (11_contexts R380 to R398),
and O46.
-/
namespace Sys2Proof.Machine

/-! Command fetch (R380, R381, R384). -/

/-- R380: a fetch moves the fetch index on, and leaves the head. -/
theorem State.headIdx_fetched (s : State) (c : Nat) (v : Word) : (s.setReg (rDspCtxFetch c) v).headIdx c = s.headIdx c := by
  have hne : rCpRingHead c ≠ rDspCtxFetch c := by simp only [rCpRingHead, rDspCtxFetch]; omega
  rw [State.headIdx, State.reg_setReg_other _ _ hne, State.headIdx]

/-- R381, R382: the command that an entry of the ring holds, with the arrays of its mask where it is a run. -/
def fetchedCmd (index : Nat) (bs : List Byte) : Cmd :=
  ⟨index, bs, false, if leAt bs 0 1 = 1 then (List.range 16).filter (fun i => (leAt bs 2 2).testBit i) else [], [], false⟩

section
variable {s u : State} {c : CtxId} {f pa : Nat} {bs : List Byte} (hf : s.fetchIdx c.val = f)
  (hu : s.setReg (rDspCtxFetch c.val) (BitVec.ofNat 32 (f + 1)) = u) (hbs : s.rdBytes pa 64 = bs) (hstate : s.ctxState c.val = 3)
  (hgoes : (s.ctx c.val).fetchStopped = false) (hnew : f ≠ (s.ctx c.val).tail) (hroom : cnt32 f (s.headIdx c.val) < 256)
  (hidle : s.dspStalled c.val = false) (hpa : s.access ⟨c.val, none, .read, 3⟩ (s.ringVa c.val f) = .ok pa)
  (hclean : ∀ w ∈ wordsOf pa 64, s.checkAt w = .clean)
include hf hu hbs hstate hgoes hnew hroom hidle hpa hclean

/-- R384: a command that breaks its layout, or whose mask leaves the partition, is a command fault. -/
theorem exec_commandFetch_refused {code : Nat} (hcheck : u.cmdCheck c.val bs = some code) :
    exec (.commandFetch c) s = .next (u.cmdFault c.val code f (leAt bs 4 4) 0) := by
  simp only [exec_commandFetch, execCommandFetch, hf, hstate, hgoes, hnew, Nat.not_le.mpr hroom, hidle, hpa, State.readChecks_clean _ hclean,
    State.badIn_clean hclean, hbs, hu, hcheck, OfNat.ofNat_ne_zero, Nat.reduceEqDiff, Bool.false_eq_true, or_self, if_false]

/-- R380: a command that its checks take joins those that the context has fetched. -/
theorem exec_commandFetch_taken (hcheck : u.cmdCheck c.val bs = none) (hbound : cnt32 (f + 1) (s.headIdx c.val) ≠ 256) :
    exec (.commandFetch c) s =
      .next (u.setCtx c.val { s.ctx c.val with cmds := (s.ctx c.val).cmds ++ [fetchedCmd f bs] }).dispatch := by
  have hhead : ∀ x, (u.setCtx c.val x).headIdx c.val = s.headIdx c.val := fun _ => hu ▸ s.headIdx_fetched c.val _
  simp only [exec_commandFetch, execCommandFetch, hf, hstate, hgoes, hnew, Nat.not_le.mpr hroom, hidle, hpa, State.readChecks_clean _ hclean,
    State.badIn_clean hclean, hbs, hu, hcheck, hhead, hbound, OfNat.ofNat_ne_zero, Nat.reduceEqDiff, Bool.false_eq_true, or_self, if_false,
    fetchedCmd]

end

/-! Program ends (R222, R383). -/

/-- R383: the end of a program on the last array of its run completes the command. -/
theorem exec_programEndReport_completes {s d u : State} {p : ArrayId} {k : Ctrl} {m : Cmd} {before : List Cmd}
    (hd : s.drainStores p.val = d) (hk : (d.arr p.val).ctrl = k)
    (hu : d.modCtrl p.val (fun k => { k with state := 0, ended := false }) = u) (hdone : d.programDone p.val = true)
    (hended : (s.arr p.val).ctrl.ended = true) (hat : u.cmdAt k.ctx k.cmdIndex = some (m, before))
    (hflag : u.flag (rChkCtxCtl k.ctx) 3 = false) (htodo : m.todo = [])
    (hlast : m.running = [d.rankOf k.ctx ((d.logOf p.val).getD 0)]) : exec (.programEndReport p) s =
      .next ((u.setCtx k.ctx
        { u.ctx k.ctx with cmds := (u.ctx k.ctx).cmds.map (fun j => if j.index = m.index then { j with running := [] } else j) }).cmdEnd
          k.ctx m.index) := by
  have hnone : m.running.filter (fun r => r != d.rankOf k.ctx ((d.logOf p.val).getD 0)) = [] := by simp [hlast]
  simp only [exec_programEndReport, execProgramEndReport, hended, hd, hdone, hk, hu, hat, hflag, hnone, htodo, Bool.not_true, Bool.false_eq_true,
    false_and, if_true, if_false, List.isEmpty_nil, and_self]

/-! Quanta and switches (R387 to R391). -/

/-- R388: a quantum that ends marks its partition, and the next context is scheduled. -/
theorem exec_quantumExpiry_ends {s : State} {q : Fin 16} (hres : (s.resident q.val).isSome = true) (hout : (s.part q.val).outgoing = none) :
    exec (.quantumExpiry q) s = .next ((s.setPart q.val { s.part q.val with sliced := true }).schedule q.val) := by
  have hsome : (s.resident q.val).isNone = false := Option.isNone_eq_false_iff.mpr hres
  simp only [exec_quantumExpiry, execQuantumExpiry, hsome, hout, Option.isSome_none, Bool.false_eq_true, or_self, if_false]

/-- R230, R394: the outgoing context takes the fault that its stopped controller waits with. -/
def State.faultTaken (s : State) (p o : Nat) : State :=
  match (s.arr p).ctrl.faulting with
  | some f => s.ctxFault o f.1 f.2
  | none => s

/-- R298, R390: an array of the outgoing context is saved; of one that is faulted or resets, the counters alone. -/
def State.arraySaved (s : State) (q p o : Nat) : State :=
  if s.ctxState o = 5 ∨ s.ctxState o = 6 then s.saveCounters p else s.saveArray q p o

section
variable {s : State} {p : ArrayId} {q o : Nat} (hq : s.partAt p.val = some q) (hstop : s.stopped p.val = true)
  (hruns : (s.arr p.val).runs = true)
include hq hstop hruns

/-- R389 to R391: an array that has stopped is saved and is ready for the incoming context. -/
theorem exec_switchSaveComplete_saves (hout : (s.part q).outgoing = some o) (hsaving : (s.part q).saving.contains p.val = true)
    (hstill : (s.faultTaken p.val o).stopped p.val = true) : exec (.switchSaveComplete p) s =
      let u := (s.faultTaken p.val o).arraySaved q p.val o
      .next ((u.setPart q { u.part q with
        saving := (u.part q).saving.filter (fun r => r != p.val)
        restoring := if (u.part q).incoming.isSome then (u.part q).restoring ++ [p.val] else (u.part q).restoring }).switchEnd q) := by
  have hgoes : ¬(!(s.faultTaken p.val o).stopped p.val) = true := by rw [hstill]; exact Bool.false_ne_true
  simp only [exec_switchSaveComplete, execSwitchSaveComplete, hq, hout, hsaving, hstop, hruns, Bool.not_true, Bool.false_eq_true, or_self,
    if_false]
  exact congrArg _ (if_neg hgoes)

/-- R391: an array of the incoming context that is free of other work is restored. -/
theorem exec_switchRestoreComplete_restores (hin : (s.part q).incoming = some o) (hrestoring : (s.part q).restoring.contains p.val = true) :
    exec (.switchRestoreComplete p) s =
      let u := s.restoreArray p.val o
      .next ((u.setPart q { u.part q with restoring := (u.part q).restoring.filter (fun r => r != p.val) }).switchEnd q).dispatch := by
  simp only [exec_switchRestoreComplete, execSwitchRestoreComplete, hq, hin, hrestoring, hstop, hruns, Bool.not_true, Bool.false_eq_true,
    or_self, if_false]

end

/-! The wait of a reset (R395). -/

section
variable {s : State} {c : CtxId} (hreset : s.ctxState c.val = 6)
include hreset

/-- R395: a reset ends once nothing of its context is in flight. -/
theorem exec_resetTransferWaitEnd_idle (hidle : s.ctxInFlight c.val = false) (b : Bool) :
    exec (.resetTransferWaitEnd c b) s = .next (s.ctxResetEnd c.val).dispatch := by
  simp only [exec_resetTransferWaitEnd, execResetTransferWaitEnd, hreset, hidle, ne_eq, not_true_eq_false, Bool.not_false, if_true, if_false]

/-- R395: what is in flight is abandoned when the wait has run out, and waited for until then. -/
theorem exec_resetTransferWaitEnd_inFlight (hbusy : s.ctxInFlight c.val = true) (b : Bool) :
    exec (.resetTransferWaitEnd c b) s = .next (if b = true then ((s.abandon c.val).ctxResetEnd c.val).dispatch else s) := by
  simp only [exec_resetTransferWaitEnd, execResetTransferWaitEnd, hreset, hbusy, ne_eq, not_true_eq_false, Bool.not_true, Bool.false_eq_true,
    if_false]

end

/-! The limits of the watermark events (R398). -/

/-- The ring that a limit belongs to: of a context, or of the device. -/
def limitedRing (ring : Option CtxId) : Nat :=
  match ring with
  | some c => c.val
  | none => devRing

section
variable {s : State} {ring : Option CtxId} {k : Nat} (hk : limitedRing ring = k)
include hk

theorem exec_watermarkHoldoffExpiry_fill (h : (s.ring k).held98 = 0) :
    exec (.watermarkHoldoffExpiry ring false) s = .next (s.setRing k { s.ring k with hold98 := false }) := by
  subst hk
  exact congrArg _ ((if_neg Bool.false_ne_true).trans (if_pos h))

theorem exec_watermarkHoldoffExpiry_cmd (h : (s.ring k).held99 = 0) :
    exec (.watermarkHoldoffExpiry ring true) s = .next (s.setRing k { s.ring k with hold99 := false }) := by
  subst hk
  exact congrArg _ ((if_pos rfl).trans (if_pos h))

/-- R398: one event covers the crossings of the fill that were held back. -/
theorem exec_watermarkHoldoffExpiry_fill_held (h : (s.ring k).held98 ≠ 0) : exec (.watermarkHoldoffExpiry ring false) s =
    .next (((s.setRing k { s.ring k with held98 := 0 }).ringPut k (crossRec s k 0x98 (s.ring k).held98 (s.ringFill k))).msix k
      (if k = devRing then 3 else 0)) := by
  subst hk
  exact congrArg _ ((if_neg Bool.false_ne_true).trans (if_neg h))

/-- R398: one event covers the crossings of the commands' bound that were held back. -/
theorem exec_watermarkHoldoffExpiry_cmd_held (h : (s.ring k).held99 ≠ 0) : exec (.watermarkHoldoffExpiry ring true) s =
    .next ((s.setRing k { s.ring k with held99 := 0 }).ringPost k (crossRec s k 0x99 (s.ring k).held99 256)) := by
  subst hk
  exact congrArg _ ((if_pos rfl).trans (if_neg h))

end

/-- Settles O46: one lemma for each event and each of its outcomes. -/
theorem dispatcherEvents : Obligations.DispatcherEvents := by
  unfold Obligations.DispatcherEvents
  intro s c
  refine ⟨fun pa hstate hgoes hnew hroom hidle hpa hclean =>
      ⟨fun code => exec_commandFetch_refused rfl rfl rfl hstate hgoes hnew hroom hidle hpa hclean,
        exec_commandFetch_taken rfl rfl rfl hstate hgoes hnew hroom hidle hpa hclean⟩,
    fun p hdone hended m before hat hflag htodo => exec_programEndReport_completes rfl rfl rfl hdone hended hat hflag htodo,
    fun q => exec_quantumExpiry_ends,
    fun p q o hq hout hsaving hstop hruns => exec_switchSaveComplete_saves hq hstop hruns hout hsaving,
    fun p q o hq hin hrestoring hstop hruns => exec_switchRestoreComplete_restores hq hstop hruns hin hrestoring,
    exec_resetTransferWaitEnd_idle, fun hreset hbusy => ⟨exec_resetTransferWaitEnd_inFlight hreset hbusy true,
      exec_resetTransferWaitEnd_inFlight hreset hbusy false⟩,
    fun ring => ⟨exec_watermarkHoldoffExpiry_cmd rfl, exec_watermarkHoldoffExpiry_fill rfl, exec_watermarkHoldoffExpiry_fill_held rfl,
      exec_watermarkHoldoffExpiry_cmd_held rfl⟩⟩

end Sys2Proof.Machine

/-!
The Evoif fabric's flits and transactions (12_host_fabric R417 to R424, R429), and O49.
-/
namespace Sys2Proof.Machine

/-! Flits (R417 to R420). -/

section
variable {s : State} {port : FabPort}

/-- R420: a flit that FEC cannot correct is counted, and asks for a replay unless one is awaited already. -/
theorem exec_flitReceive_uncorrectable {flit : FlitIn} {u : State} (hup : s.linkUp port.val = true)
    (hu : ((s.bump64 (rFabPortFecCw port.val) 0).bump (rFabPortFecUnc port.val) 1).linkEventLimited port.val 5 1 = u) :
    exec (.flitReceive port flit 0 true) s = .next (if (u.fport port.val).discarding then u
      else (u.setFport port.val { u.fport port.val with discarding := true }).ackFlit port.val 0 0 true) := by
  simp only [exec_flitReceive, execFlitReceive, hup, hu, Bool.not_true, Bool.false_and, Bool.not_false, Bool.false_eq_true, if_true, if_false]

/-- R420: the oldest unacknowledged flit is replayed, with those after it, once it has waited 4 µs. -/
theorem exec_flitReplayTimeout_waiting {t : DWord} {x : TxFlit} {xs : List TxFlit} (h : ((s.clock t).fport port.val).unacked = x :: xs) :
    exec (.flitReplayTimeout port t) s =
      .next (if x.time + 256000 ≤ (s.clock t).now.toNat then (s.clock t).replay port.val else s.clock t) := by
  simp only [exec_flitReplayTimeout, execFlitReplayTimeout, h]

end

/-! A transaction packet that is for this device (R421, R422, R427, R429). -/

/-- R436, R444: a packet of n bytes is counted at its port, whose idle time starts again. -/
def State.packetCounted (s : State) (f n : Nat) : State :=
  (s.bump64 (rFabPortRx f) n).setFport f { s.fport f with idleSince := s.now.toNat }

section
variable {s u : State} {port : FabPort} {pkt : List Byte} {k : Pkt} (hstate : s.fstate port.val = 3 ∨ s.fstate port.val = 4)
  (hpkt : pktOf pkt = (k, true)) (hu : s.packetCounted port.val pkt.length = u) (hnode : u.nodeKnown = true) (hdest : k.dest = u.ownNode)
include hstate hpkt hu hnode hdest

/-- R421: a packet with a good CRC that is addressed to this device is acted on. -/
theorem State.fabIn_here {op : Nat} (hop : k.op = op) (act : State → Pkt → State) : s.fabIn port.val pkt op act = act u k := by
  have hruns : ¬(s.fstate port.val ≠ 3 ∧ s.fstate port.val ≠ 4) := by omega
  rw [State.packetCounted] at hu
  simp only [State.fabIn, hruns, hpkt, hu, hnode, hdest, hop, Bool.not_true, Bool.false_eq_true, ne_eq, not_true_eq_false, if_true, if_false]

/-- R422: a window write enters as an access from its source. -/
theorem exec_fabricWindowWrite_arrives (hop : k.op = 0x01) :
    exec (.fabricWindowWrite port pkt) s = .next (u.fabArrive (k.access true)) :=
  congrArg Host.Outcome.next (State.fabIn_here hstate hpkt hu hnode hdest hop _)

theorem exec_fabricWindowRead_arrives (hop : k.op = 0x02) :
    exec (.fabricWindowRead port pkt) s = .next (u.fabArrive (k.access false)) :=
  congrArg Host.Outcome.next (State.fabIn_here hstate hpkt hu hnode hdest hop _)

end

/-! Responses (R422, R424). -/

/-- R424: the transaction that a response answers: its slot and generation make the tag, and its context is the response's. -/
def Pkt.answers (k : Pkt) (t : FabTxn) : Bool := t.slot == k.tag % 8192 && t.gen % 8 == k.tag / 8192 && t.acc.ctx == k.ctx

/-- The transaction leaves its slot. -/
def State.txnTaken (s : State) (t : FabTxn) : State :=
  { s with fab := { s.fab with txns := s.fab.txns.filter (fun x => x.slot != t.slot) } }

section
variable {u : State} {k : Pkt} (hctx : k.ctxGen = u.ctxGen k.ctx % 256)
include hctx

/-- R424, R505: a response whose transaction is pending ends it; neither its context nor its array has been reset since. -/
theorem State.fabResponse_found {v : State} {t : FabTxn} (hfind : u.fab.txns.find? k.answers = some t) (hv : u.txnTaken t = v)
    (hary : t.aryGen = v.fld (rBrpAryGen t.acc.p) 7 0) (f : Nat) (act : State → FabTxn → State) :
    u.fabResponse f k act = ((act v t).portOut t.port).fabPump := by
  unfold Pkt.answers at hfind
  rw [State.txnTaken] at hv
  simp only [State.fabResponse, hfind, hctx, hv, hary, ne_eq, not_true_eq_false, if_true, if_false]

/-- R424: a response that no transaction waits for is late: dropped, counted and reported. -/
theorem State.fabResponse_late (hnone : u.fab.txns = []) (f : Nat) (act : State → FabTxn → State) :
    u.fabResponse f k act = (u.bump rFabLate 1).postDev 0x06 0x0A 0 (u.portSource f)
      (fabPayload f 0 k.src k.seqStatus k.tag (bitsOf k.waddr 45 36) 1) := by
  simp only [State.fabResponse, hnone, List.find?_nil, hctx, ne_eq, not_true_eq_false, if_false]

section
variable {s : State} {port : FabPort} {pkt : List Byte} (hstate : s.fstate port.val = 3 ∨ s.fstate port.val = 4)
  (hpkt : pktOf pkt = (k, true)) (hu : s.packetCounted port.val pkt.length = u) (hnode : u.nodeKnown = true) (hdest : k.dest = u.ownNode)
include hstate hpkt hu hnode hdest

theorem exec_fabricWriteAck_late (hop : k.op = 0x81) (hnone : u.fab.txns = []) :
    exec (.fabricWriteAck port pkt) s = .next ((u.bump rFabLate 1).postDev 0x06 0x0A 0 (u.portSource port.val)
      (fabPayload port.val 0 k.src k.seqStatus k.tag (bitsOf k.waddr 45 36) 1)) := by
  rw [exec_fabricWriteAck, execFabricWriteAck, State.fabIn_here hstate hpkt hu hnode hdest hop, State.fabResponse_late hctx hnone]

section
variable {v : State} {t : FabTxn} (hfind : u.fab.txns.find? k.answers = some t) (hv : u.txnTaken t = v)
  (hary : t.aryGen = v.fld (rBrpAryGen t.acc.p) 7 0)
include hfind hv hary

/-- R422: a write acknowledgement completes its request. -/
theorem exec_fabricWriteAck_completes (hop : k.op = 0x81) :
    exec (.fabricWriteAck port pkt) s = .next (((v.winDone t.acc false).portOut t.port).fabPump) := by
  rw [exec_fabricWriteAck, execFabricWriteAck, State.fabIn_here hstate hpkt hu hnode hdest hop,
    State.fabResponse_found hctx hfind hv hary]

/-- R422: the data of a read return to the access that asked for them. -/
theorem exec_fabricReadData_returns (hop : k.op = 0x82) :
    exec (.fabricReadData port pkt) s = .next (((v.winReturn t.acc (k.data.take t.acc.size)
      (wordMask t.acc.off t.acc.size k.poison)).portOut t.port).fabPump) := by
  rw [exec_fabricReadData, execFabricReadData, State.fabIn_here hstate hpkt hu hnode hdest hop, State.fabResponse_found hctx hfind hv hary]

/-- R269, R422: a refusal is reported with the owner's class and code, and its access ends with an error. -/
theorem exec_fabricRefusal_ends (hop : k.op = 0x83) :
    exec (.fabricRefusal port pkt) s = .next (((((v.refusedAt t.acc (winPayload t.acc.window t.acc.array t.acc.node t.acc.ctx
      t.acc.gen 0 1 t.acc.off t.acc.size) (k.seqStatus / 256 % 256) (k.seqStatus % 256) true).winDone t.acc true).digestRefused t.acc).portOut
        t.port).fabPump) := by
  rw [exec_fabricRefusal, execFabricRefusal, State.fabIn_here hstate hpkt hu hnode hdest hop, State.fabResponse_found hctx hfind hv hary]

end

end

end

/-! The timer of a transaction, and the state kept for a pair (R423, R424). -/

section
variable {s c : State} {slot : Fin 8192} {t : DWord} {x : FabTxn} {sentAt : Nat} (hc : s.clock t = c)
  (hfind : c.fab.txns.find? (fun x => x.slot == slot.val) = some x) (hsent : x.sent = some sentAt)
  (hexpired : sentAt + c.fld rFabTout 13 0 * 64000 ≤ c.now.toNat)
include hc hfind hsent hexpired

/-- R424: after two reissues the transaction fails with timeout. -/
theorem exec_transactionTimeout_fails (htries : 2 ≤ x.tries) : exec (.transactionTimeout slot t) s = .next (c.txnFail x 7) := by
  simp only [exec_transactionTimeout, execTransactionTimeout, hc, hfind, hsent, Nat.not_lt.mpr hexpired, htries, if_true, if_false]

section
variable (htries : x.tries < 2)
include htries

theorem exec_transactionTimeout_unroutable (hroute : c.routeTo x.acc.node = none) :
    exec (.transactionTimeout slot t) s = .next (c.txnFail x 8) := by
  simp only [exec_transactionTimeout, execTransactionTimeout, hc, hfind, hsent, Nat.not_lt.mpr hexpired, Nat.not_le.mpr htries, hroute,
    if_false]

/-- R424: before that it is tried again on the route to its node. -/
theorem exec_transactionTimeout_reissues {g : Nat} (hroute : c.routeTo x.acc.node = some g) :
    exec (.transactionTimeout slot t) s = .next (c.reissue x g) := by
  simp only [exec_transactionTimeout, execTransactionTimeout, hc, hfind, hsent, Nat.not_lt.mpr hexpired, Nat.not_le.mpr htries, hroute,
    if_false]

end

end

/-- R423: a pair's state is dropped 20 ms after its last write. -/
theorem exec_pairStateExpiry_drops {s c : State} {n : Nat} {t : DWord} {x : FabPair} (hc : s.clock t = c) (hpair : c.fab.pairs[n]? = some x)
    (hexpired : x.time + 1280000000 ≤ c.now.toNat) : exec (.pairStateExpiry n t) s =
      .next { c with fab := { c.fab with pairs := c.fab.pairs.filter (fun y => y != x) } } := by
  simp only [exec_pairStateExpiry, execPairStateExpiry, hc, hpair, hexpired, if_true]

/-- Settles O49: one lemma for each packet that is for this device, and one for each end of a wait. -/
theorem fabricTransactions : Obligations.FabricTransactions := by
  unfold Obligations.FabricTransactions
  intro s port pkt k f u
  refine ⟨fun flit hup => exec_flitReceive_uncorrectable hup rfl, fun t x xs => exec_flitReplayTimeout_waiting,
    fun hstate hpkt hnode hdest => ⟨exec_fabricWindowWrite_arrives hstate hpkt rfl hnode hdest,
      exec_fabricWindowRead_arrives hstate hpkt rfl hnode hdest, fun t hfind hctx => ?response,
      fun hop hnone hctx => exec_fabricWriteAck_late hctx hstate hpkt rfl hnode hdest hop hnone⟩,
    fun slot t x sentAt g => ?timeout, fun n t x => exec_pairStateExpiry_drops rfl⟩
  case response =>
    exact fun hary => ⟨exec_fabricWriteAck_completes hctx hstate hpkt rfl hnode hdest hfind rfl hary,
      exec_fabricReadData_returns hctx hstate hpkt rfl hnode hdest hfind rfl hary,
      exec_fabricRefusal_ends hctx hstate hpkt rfl hnode hdest hfind rfl hary⟩
  case timeout =>
    exact fun hfind hsent hexpired => ⟨exec_transactionTimeout_fails rfl hfind hsent hexpired,
      exec_transactionTimeout_unroutable rfl hfind hsent hexpired,
      fun htries => exec_transactionTimeout_reissues rfl hfind hsent hexpired htries⟩

end Sys2Proof.Machine

/-!
Fabric ports (12_host_fabric R427 to R438, R440): training, discovery, schedules, low rate and job aborts, and O50.
-/
namespace Sys2Proof.Machine

section
variable {s : State} {port : FabPort}

/-! Training, degraded ports and loss of signal (R419, R420, R435, R438). -/

/-- R419: a port whose eight lanes have all trained is up at full rate, with the credits of its channels. -/
theorem exec_fabricLinkTrained_full (hstate : s.fstate port.val = 2) (peer : BitVec 16) (peerPort : FabPort) {v w : State}
    (hv : (((s.setFlag (rFabPortStatus port.val) 15 false).setFld (rFabPortStatus port.val) 31 28 3).setFld (rFabPortStatus port.val) 23 16
      0xFF).setFlag (rFabPortStatus port.val) 14 false = v)
    (hw : (v.setFld (rFabPortPeer port.val) 20 16 peerPort.val).setFld (rFabPortPeer port.val) 15 0 peer.toNat = w) :
    exec (.fabricLinkTrained port 0xFF#8 false peer peerPort) s = .next ((((w.setFport port.val { FabPortState.reset with
      credits := [512, 512, 16, 32], idleSince := w.now.toNat, limits := (w.fport port.val).limits }).linkTimeReset port.val).linkEvent port.val
        1 0 0 1).fabPump.portPump port.val) := by
  simp only [exec_fabricLinkTrained, execFabricLinkTrained, hstate, BitVec.reduceToNat, hv, hw, ne_eq, not_true_eq_false, Bool.false_eq_true,
    false_and, if_true, if_false]

/-- R435: a port none of whose lanes has trained goes down. -/
theorem exec_fabricLinkTrained_none (hstate : s.fstate port.val = 2) (peer : BitVec 16) (peerPort : FabPort) :
    exec (.fabricLinkTrained port 0#8 false peer peerPort) s = .next (s.linkDown port.val 3 1) := by
  simp [exec_fabricLinkTrained, execFabricLinkTrained, hstate]

/-- R435: a port that may degrade runs on the group of lanes that is good. -/
theorem exec_fabricDegrade_half (hstate : s.fstate port.val = 3) (hmay : s.flag (rFabPortCtl port.val) 3 = true) (good : Fin 2) :
    exec (.fabricDegrade port good) s =
      .next ((((s.setFld (rFabPortStatus port.val) 31 28 4).setFld (rFabPortStatus port.val) 23 16
        (if good.val = 0 then 0x0F else 0xF0)).linkTimeReset port.val).linkEvent port.val 2 1 0 1) := by
  simp only [exec_fabricDegrade, execFabricDegrade, hstate, hmay, ne_eq, not_true_eq_false, if_true, if_false]

/-- A port at full rate has its link up. -/
theorem State.linkUp_full {f : Nat} (h : s.fstate f = 3) : s.linkUp f = true := by
  rw [State.linkUp, h]; rfl

/-- R438: a port at full rate that loses its signal goes down and watches for it. -/
theorem exec_fabricLos_down (hstate : s.fstate port.val = 3) :
    exec (.fabricLos port) s = .next ((s.linkDown port.val 1 1).setFlag (rFabPortStatus port.val) 14 true) := by
  simp only [exec_fabricLos, execFabricLos, State.linkUp_full hstate, hstate, Nat.reduceEqDiff, false_and, or_self, if_true, if_false]
  rfl

theorem exec_fabricSignalDetect_trains (hstate : s.fstate port.val = 1) : exec (.fabricSignalDetect port) s =
    .next ((s.setFld (rFabPortStatus port.val) 31 28 2).setFlag (rFabPortStatus port.val) 14 false) := by
  simp only [exec_fabricSignalDetect, execFabricSignalDetect, hstate, if_true]

end

/-! Discovery frames (R427, R428). -/

/-- R428: the response that the last hop of a frame sends back: kind 0x43, the status, and the data from byte 40 on. -/
def State.discoveryAnswer (s : State) (f : Nat) (bs : List Byte) (status : Nat) (data : List Byte) : State :=
  let r := putBytes (putBytes bs 0 (bytesOf 1 0x43)) 3 (bytesOf 1 status)
  s.portSend f 3 none none (if data = [] then r else putBytes r 40 data)

section
variable {s : State} {port : FabPort} {frame bs : List Byte} {kind : Nat} (hbs : sliceBytes frame 0 64 = bs) (hup : s.linkUp port.val = true)
include hbs hup

section
variable (hkind : leAt bs 0 1 = kind) (hhops : 0 < leAt bs 1 1) (hmax : leAt bs 1 1 ≤ 16)
include hkind hhops hmax

/-- R428: a frame at its last hop is acted on and answered. -/
theorem State.discover_lastHop (hlast : leAt bs 2 1 = leAt bs 1 1) (act : State → State × Nat × List Byte) :
    s.discover port.val kind frame act = (act s).1.discoveryAnswer port.val bs (act s).2.1 (act s).2.2 := by
  simp only [State.discover, hbs, hup, hkind, hlast, Nat.pos_iff_ne_zero.mp hhops, Nat.not_lt.mpr hmax, Nat.lt_irrefl, Bool.not_true,
    Bool.false_eq_true, ne_eq, not_true_eq_false, or_self, if_false, State.discoveryAnswer]

/-- R428: before that it goes on along its path, with the port it came in at recorded. -/
theorem State.discover_forwarded (hptr : leAt bs 2 1 < leAt bs 1 1) (act : State → State × Nat × List Byte) :
    s.discover port.val kind frame act = s.portSend (leAt bs (4 + leAt bs 2 1) 1 % 32) 3 none none
      (putBytes (putBytes bs (20 + leAt bs 2 1) (bytesOf 1 port.val)) 2 (bytesOf 1 (leAt bs 2 1 + 1))) := by
  simp only [State.discover, hbs, hup, hkind, hptr, Nat.pos_iff_ne_zero.mp hhops, Nat.not_lt.mpr hmax, Nat.not_lt.mpr hptr.le, Bool.not_true,
    Bool.false_eq_true, ne_eq, not_true_eq_false, or_self, if_true, if_false]

section
variable (hlast : leAt bs 2 1 = leAt bs 1 1) (hopen : s.discoveryLocked frame = false)
include hlast hopen

/-- R427: an assign frame that the lock does not refuse assigns the node. -/
theorem exec_discoveryAssign_assigns (hassign : kind = 0x41) : exec (.discoveryAssign port frame) s =
    .next ((s.assignNode port.val (some (leAt frame 36 2)) (leAt frame 38 2) (s.reg rFabNode).toNat).discoveryAnswer port.val bs 0 []) := by
  subst hassign
  simp only [exec_discoveryAssign, execDiscoveryAssign, State.discover_lastHop hbs hup hkind hhops hmax hlast, hopen, Bool.false_eq_true, if_false]

/-- R428, R429: a route-write frame sets one to four routes, whose reserved bits stay 0. -/
theorem exec_discoveryRouteWrite_sets (hwrite : kind = 0x42) (hsome : 0 < leAt frame 42 1) (hfour : leAt frame 42 1 ≤ 4)
    (hfits : leAt frame 40 2 + leAt frame 42 1 ≤ 32768) : exec (.discoveryRouteWrite port frame) s =
      .next (((List.range (leAt frame 42 1)).foldl (fun s i =>
        s.setReg (rFabRoute (leAt frame 40 2 + i)) (BitVec.ofNat 32 (leAt frame (44 + 4 * i) 4) &&& 0xE0001F1F#32)) s).discoveryAnswer
          port.val bs 0 []) := by
  subst hwrite
  simp only [exec_discoveryRouteWrite, execDiscoveryRouteWrite, State.discover_lastHop hbs hup hkind hhops hmax hlast, hopen,
    Nat.pos_iff_ne_zero.mp hsome, Nat.not_lt.mpr hfour, Nat.not_lt.mpr hfits, Bool.false_eq_true, or_self, if_false]

end

end

/-- R428: a response that is back where its path began is delivered. -/
theorem exec_discoveryResponse_delivered (hkind : leAt bs 0 1 = 0x43) (hptr : leAt bs 2 1 = 0) :
    exec (.discoveryResponse port frame) s = .next (s.emit "discovery" (bs.map BitVec.toNat)) := by
  simp only [exec_discoveryResponse, execDiscoveryResponse, hbs, hup, hkind, hptr, Bool.not_true, Bool.false_eq_true, ne_eq,
    not_true_eq_false, Nat.not_lt_zero, or_self, if_false]

end

/-! Schedules (R431, R432, R437). -/

section
variable {s c : State} {port : FabPort} {t : DWord} (hc : s.clock t = c)
include hc

section
variable {e : Fin 4096} {cycle : Nat} (hused : c.slotUsed port.val e.val = true)
include hused

/-- R432: a slot that has started is taken, unless it lies more than its length in the past. -/
theorem exec_scheduleSlotStart_reached (hreached : (c.now - c.slotStart port.val e.val cycle).toNat < 2 ^ 63) :
    exec (.scheduleSlotStart port e cycle t) s =
      .next (if bitsOf (c.schedEnt port.val e.val) 55 40 * 64 < (c.now - c.slotStart port.val e.val cycle).toNat
        then c.bump (rFabSchedSkip port.val) 1
        else (c.setFport port.val { c.fport port.val with slot := some (e.val, cycle) }).portPump port.val) := by
  simp only [exec_scheduleSlotStart, execScheduleSlotStart, hc, hused, (qtzReached_iff _ _).mpr hreached, Bool.not_true, Bool.false_eq_true,
    or_self, if_false]

/-- R437: a port starts to wake 25 µs before a wake slot. -/
theorem exec_wakeSlotLead_wakes (hwake : (c.schedEnt port.val e.val).testBit 62 = true)
    (hreached : (c.now - (c.slotStart port.val e.val cycle - 1600000#64)).toNat < 2 ^ 63) :
    exec (.wakeSlotLead port e cycle t) s = .next (c.wakePort port.val) := by
  simp only [exec_wakeSlotLead, execWakeSlotLead, hc, hused, hwake, (qtzReached_iff _ _).mpr hreached, and_self, if_true]

end

/-- R432: a slot whose entry is no longer in use ends. -/
theorem exec_scheduleSlotEnd_unused {e n : Nat} (hslot : (c.fport port.val).slot = some (e, n)) (hunused : c.slotUsed port.val e = false) :
    exec (.scheduleSlotEnd port t) s = .next ((c.setFport port.val { c.fport port.val with slot := none }).portPump port.val) := by
  simp only [exec_scheduleSlotEnd, execScheduleSlotEnd, hc, hslot, hunused, Bool.not_false, or_true, if_true]

/-! Low-rate idle (R436, R437). -/

/-- R436: a port that has been idle for its time enters low-rate idle. -/
theorem exec_lowrateIdleEntry_idle (hon : c.fld (rFabPortCtl port.val) 23 16 ≠ 0)
    (hidle : (c.fport port.val).idleSince + c.fld (rFabPortCtl port.val) 23 16 * 640000 ≤ c.now.toNat) :
    exec (.lowrateIdleEntry port t) s = .next (c.lowRate port.val) := by
  simp only [exec_lowrateIdleEntry, execLowrateIdleEntry, hc, hon, Nat.not_lt.mpr hidle, or_self, if_false]

end

section
variable {s : State} {port : FabPort}

/-- R436: a step down that nothing waits for ends in low-rate idle. -/
theorem exec_railStepComplete_idle (hstate : s.fstate port.val = 6) (hlos : (s.fport port.val).losWait = false)
    (hwake : (s.fport port.val).wakeWait = false) : exec (.railStepComplete port) s =
      .next (((s.setFld (rFabPortStatus port.val) 31 28 5).setFlag (rFabPortStatus port.val) 15 true).linkEvent port.val 0x0F 0 0 1) := by
  simp only [exec_railStepComplete, execRailStepComplete, hstate, hlos, hwake, Bool.false_eq_true, if_true, if_false]

/-- R437: a port whose eight lanes have retrained is back at full rate. -/
theorem exec_portWakeComplete_full (hstate : s.fstate port.val = 7) (hstep : (s.fport port.val).stepUp = false) :
    exec (.portWakeComplete port 0xFF#8) s =
      .next ((((((s.setFld (rFabPortStatus port.val) 31 28 3).setFld (rFabPortStatus port.val) 23 16 0xFF).setFport port.val
        { s.fport port.val with idleSince := s.now.toNat }).linkTimeReset port.val).linkEvent port.val 0x10 0 0 1).portPump port.val).fabPump := by
  simp only [exec_portWakeComplete, execPortWakeComplete, hstate, hstep, BitVec.reduceToNat, State.setFld_fport, State.setFld_now, ne_eq,
    not_true_eq_false, Bool.false_eq_true, or_self, false_and, if_true, if_false]

end

/-! Job aborts (R440). -/

/-- R440: a first frame of no job, at its last hop, is recorded; it is not forwarded and faults no context. -/
theorem exec_jobAbortFrame_recorded {s : State} {port : FabPort} {frame bs : List Byte} (hbs : sliceBytes frame 0 64 = bs)
    (hup : s.linkUp port.val = true) (hkind : leAt bs 0 1 = 0x20) (hnode : s.nodeKnown = true) (hhops : leAt bs 1 1 ≤ 1)
    (hnone : s.fab.aborts = []) (hjob : leAt bs 4 4 = 0) : exec (.jobAbortFrame port frame) s =
      .next { s with fab := { s.fab with aborts := [⟨leAt bs 2 2, leAt bs 4 4, leAt bs 8 4, s.now.toNat⟩] } } := by
  simp only [exec_jobAbortFrame, execJobAbortFrame, hbs, hup, hkind, hnode, hnone, hjob, Nat.not_lt.mpr hhops, List.any_nil, List.nil_append,
    List.length_singleton, Nat.reduceLT, Bool.not_true, Bool.false_eq_true, ne_eq, not_true_eq_false, false_and, and_false, or_self, if_false,
    List.foldl_fixed]

/-- R440: a record is forgotten after 10 ms. -/
theorem exec_abortRecordExpiry_forgets {s c : State} {n : Nat} {t : DWord} {r : AbortRec} (hc : s.clock t = c)
    (hrec : c.fab.aborts[n]? = some r) (hexpired : r.time + 640000000 ≤ c.now.toNat) : exec (.abortRecordExpiry n t) s =
      .next { c with fab := { c.fab with aborts := c.fab.aborts.filter (fun x => x != r) } } := by
  simp only [exec_abortRecordExpiry, execAbortRecordExpiry, hc, hrec, hexpired, if_true]

/-- Settles O50: one lemma for each event and each of its outcomes. -/
theorem fabricPortEvents : Obligations.FabricPortEvents := by
  unfold Obligations.FabricPortEvents
  intro s port frame t f bs c answer
  refine ⟨fun hstate peer peerPort => exec_fabricLinkTrained_full hstate peer peerPort rfl rfl, exec_fabricLinkTrained_none,
    fun hup hkind hhops hmax hlast => congrArg Host.Outcome.next (State.discover_lastHop rfl hup hkind hhops hmax hlast _),
    fun hup hkind hhops hmax hptr => congrArg Host.Outcome.next (State.discover_forwarded rfl hup hkind hhops hmax hptr _),
    fun hup hkind hhops hmax hlast hopen => exec_discoveryAssign_assigns rfl hup hkind hhops hmax hlast hopen rfl,
    fun hup hkind hhops hmax hlast hopen => exec_discoveryRouteWrite_sets rfl hup hkind hhops hmax hlast hopen rfl,
    exec_discoveryResponse_delivered rfl, fun e cycle => exec_scheduleSlotStart_reached rfl, fun e n => exec_scheduleSlotEnd_unused rfl,
    fun good hstate hmay => exec_fabricDegrade_half hstate hmay good, exec_lowrateIdleEntry_idle rfl, exec_railStepComplete_idle,
    fun e cycle => exec_wakeSlotLead_wakes rfl, exec_portWakeComplete_full, exec_fabricLos_down, exec_fabricSignalDetect_trains,
    exec_jobAbortFrame_recorded rfl, fun n r => exec_abortRecordExpiry_forgets rfl⟩

end Sys2Proof.Machine

/-!
Requests of a host (12_host_fabric R407 to R409, R412 to R414): configuration requests, what a memory request reaches, and O52.
-/
namespace Sys2Proof.Machine

/-! Which functions of a port there are, and what an offset in a base address register reaches (R408, R409). -/

section
variable {s : State} {h fn off : Nat}

/-- R408: a port has its physical function, and while VF Enable is set its first NumVFs virtual functions. -/
theorem State.functionOn_iff : s.functionOn h fn = true ↔ fn = 0 ∨ ((s.hport h).vfEnable = true ∧ fn ≤ (s.hport h).numVfs) := by
  simp [State.functionOn]

@[simp] theorem State.functionOn_zero : s.functionOn h 0 = true := rfl

/-- R409: base address register 0 of the physical function is the register file. -/
theorem State.hostTarget_registers (hoff : off < 0x4000000) : s.hostTarget h 0 0 off = .reg (.pf h) off := by
  simp [State.hostTarget, hoff]

/-- R409: base address register 2 of the physical function holds the pages of the contexts. -/
theorem State.hostTarget_pages (hoff : off < 0x2000000) : s.hostTarget h 0 2 off = .reg (.pf h) (0x4000000 + off) := by
  simp [State.hostTarget, hoff]

/-- R378, R409: a virtual function reaches the page of the enabled context that is bound to it. -/
theorem State.hostTarget_vf (hoff : off < 0x8000) (hvf : fn ≠ 0) (hon : s.functionOn h fn = true) {c : Nat}
    (hbound : (s.boundTo h (some fn)).find? (fun c => s.flag (rDspCtxCtl c) 30) = some c) :
    s.hostTarget h fn 0 off = .reg (.vf h fn) (0x4000000 + 0x10000 * c + off) := by
  simp only [State.hostTarget, hon, hvf, hoff, hbound, Bool.not_true, Bool.false_eq_true, and_self, if_true, if_false]

end

/-! Configuration requests (R407, R414). -/

section
variable {s : State} {h : HostPortId} {fn : Fin 512} {item : CfgItem} {v : Word} {t : DWord} {r : Nat}
  (hrel : (s.hport h.val).released = some r) (hlink : s.flag (rHstStatus h.val) 30 = true)
include hrel hlink

/-- R414: for 100 ms after PERST_L was released the answer is Request Retry Status. -/
theorem exec_hostConfigRequest_early (hearly : t.toNat < r + 6400000000) (write : Bool) :
    exec (.hostConfigRequest h fn write item v t) s = .next (s.answer [1]) := by
  simp only [exec_hostConfigRequest, execHostConfigRequest, hrel, hlink, hearly, Bool.not_true, Bool.false_eq_true, if_true, if_false]

section
variable (hlate : r + 6400000000 ≤ t.toNat)
include hlate

/-- R408: a request of a function that the port does not have is unsupported. -/
theorem exec_hostConfigRequest_absent (hoff : s.functionOn h.val fn.val = false) (write : Bool) :
    exec (.hostConfigRequest h fn write item v t) s = .next (s.answer [2]) := by
  simp only [exec_hostConfigRequest, execHostConfigRequest, hrel, hlink, Nat.not_lt.mpr hlate, hoff, Bool.not_true, Bool.not_false,
    Bool.false_eq_true, if_true, if_false]

section
variable (hon : s.functionOn h.val fn.val = true)
include hon

theorem exec_hostConfigRequest_write :
    exec (.hostConfigRequest h fn true item v t) s = .next ((s.cfgWrite h.val fn.val item v.toNat).answer [0]) := by
  simp only [exec_hostConfigRequest, execHostConfigRequest, hrel, hlink, Nat.not_lt.mpr hlate, hon, Bool.not_true, Bool.false_eq_true, if_true,
    if_false]

theorem exec_hostConfigRequest_read (hgiven : ∀ off, item ≠ .other off) :
    exec (.hostConfigRequest h fn false item v t) s = .next (s.answer [0, s.cfgRead h.val fn.val item]) := by
  simp only [exec_hostConfigRequest, execHostConfigRequest, hrel, hlink, Nat.not_lt.mpr hlate, hon, Bool.not_true, Bool.false_eq_true, if_false]

/-- A register of configuration space that the spec does not give reads as an open value. -/
theorem exec_hostConfigRequest_read_other (off : Nat) :
    exec (.hostConfigRequest h fn false (.other off) v t) s = .next (s.drawn.answer [0, s.free % 2 ^ 32]) := by
  simp only [exec_hostConfigRequest, execHostConfigRequest, hrel, hlink, Nat.not_lt.mpr hlate, hon, Bool.not_true, Bool.false_eq_true, if_false]

end

end

end

/-! Memory requests (R409, R412, R413). -/

/-- R7, R413: a write of one dword is taken with every byte enabled, and dropped otherwise. -/
theorem exec_hostInboundWrite_dword (s : State) (h : HostPortId) (fn : Fin 512) (bar : Fin 6) (off : Nat) (v : Word) (fbe lbe : BitVec 4) :
    exec (.hostInboundWrite h fn bar off [v] fbe lbe false) s =
      .next (if fbe = 0xF#4 then s.hostPut h.val fn.val bar.val (off / 4 * 4) v else s) := rfl

theorem div_mul_four_of_aligned {off : Nat} (h : off % 4 = 0) : off / 4 * 4 = off := Nat.div_mul_cancel (Nat.dvd_of_mod_eq_zero h)

section
variable {s : State} {h : HostPortId} {fn : Fin 512} {bar : Fin 6} {off : Nat} {fbe lbe : BitVec 4} (halign : off % 4 = 0)
include halign

/-- R413: a read of no base address register is an Unsupported Request. -/
theorem exec_hostInboundRead_noBar (hbar : s.hostTarget h.val fn.val bar.val off = .noBar) (n : Nat) :
    exec (.hostInboundRead h fn bar off n fbe lbe) s = .next (s.answer [1]) := by
  simp only [exec_hostInboundRead, execHostInboundRead, div_mul_four_of_aligned halign, hbar, if_true]

/-- R413: a read of more than two dwords is a Completer Abort. -/
theorem exec_hostInboundRead_long (hbar : s.hostTarget h.val fn.val bar.val off ≠ .noBar) {n : Nat} (hlong : 2 < n) :
    exec (.hostInboundRead h fn bar off n fbe lbe) s = .next (s.answer [4]) := by
  simp only [exec_hostInboundRead, execHostInboundRead, div_mul_four_of_aligned halign, hbar, hlong, if_true, if_false]

/-- R413: a write of more than two dwords is dropped and reported. -/
theorem exec_hostInboundWrite_long {data : List Word} (hlong : 3 ≤ data.length) :
    exec (.hostInboundWrite h fn bar off data fbe lbe false) s = .next (s.hostEvent h.val 0x0C 0 fn.val off 1) := by
  match data, hlong with
  | _ :: _ :: _ :: _, _ => simp only [exec_hostInboundWrite, execHostInboundWrite, div_mul_four_of_aligned halign, Bool.false_eq_true, if_false]

section
variable {req : Requester} {o : Nat} (hreg : s.hostTarget h.val fn.val bar.val off = .reg req o)
include hreg

/-- R7, R413: a read of a register gives the bytes that it asks for. -/
theorem exec_hostInboundRead_register : exec (.hostInboundRead h fn bar off 1 fbe lbe) s =
    .next ((s.read32 req o).1.answer [0, byteMask fbe (s.read32 req o).2]) := by
  have hread : s.hostRead h.val fn.val bar.val off = s.read32 req o := by rw [State.hostRead, hreg]
  simp only [exec_hostInboundRead, execHostInboundRead, div_mul_four_of_aligned halign, hreg, hread, reduceCtorEq, Nat.reduceLT, le_refl,
    if_true, if_false]

theorem exec_hostInboundWrite_register (v : Word) :
    exec (.hostInboundWrite h fn bar off [v] 0xF#4 lbe false) s = .next (s.write32 req o v).1 := by
  rw [exec_hostInboundWrite_dword, div_mul_four_of_aligned halign, if_pos rfl, State.hostPut, hreg]

end

end

section
variable {s : State} {h : HostPortId} {fn : Fin 512} {bar : Fin 6} {off : Nat} {fbe lbe : BitVec 4}

/-- R412: a poisoned write of any size is reported, and nothing of it is written. -/
theorem exec_hostInboundWrite_poisoned (data : List Word) :
    exec (.hostInboundWrite h fn bar off data fbe lbe true) s = .next (s.poisonedTlp h.val 0 none) := by
  rw [exec_hostInboundWrite, execHostInboundWrite, if_pos rfl]

end

/-- Settles O52: the functions of a port, what an offset reaches, and one lemma for each outcome of a request. -/
theorem hostRequests : Obligations.HostRequests := by
  unfold Obligations.HostRequests
  intro s h fn
  refine ⟨fun write item v t r hrel hlink => ⟨fun hearly => exec_hostConfigRequest_early hrel hlink hearly write,
      fun hlate hoff => exec_hostConfigRequest_absent hrel hlink hlate hoff write, exec_hostConfigRequest_write hrel hlink,
      fun hgiven hlate hon => exec_hostConfigRequest_read hrel hlink hgiven hlate hon,
      fun off hlate hon => exec_hostConfigRequest_read_other hrel hlink hlate hon off⟩,
    State.functionOn_iff, rfl, fun off hoff _ => State.hostTarget_registers hoff, fun off hoff _ => State.hostTarget_pages hoff,
    fun off hoff hvf hon c => State.hostTarget_vf hoff hvf hon, fun bar off fbe lbe halign => ?_⟩
  exact ⟨fun n hbar => exec_hostInboundRead_noBar halign hbar n, fun n hbar => exec_hostInboundRead_long halign hbar,
    fun req o hreg => ⟨exec_hostInboundRead_register halign hreg, exec_hostInboundWrite_register halign hreg,
      fun v hbe => by rw [exec_hostInboundWrite_dword, if_neg hbe]⟩,
    fun data => exec_hostInboundWrite_long halign, exec_hostInboundWrite_poisoned⟩

end Sys2Proof.Machine

/-!
Host ports (12_host_fabric R406 to R415, R443): resets, the link, and reported errors, and O51.
-/
namespace Sys2Proof.Machine

section
variable {s : State} {h : HostPortId}

/-! Resets of a port and of its functions, and its link (R406, R408, R414, R415). -/

/-- R408, R415: PERST_L that is asserted resets the port, which takes its VF budget. -/
theorem exec_hostPerstAssert_resets (hoff : s.flag (rHstStatus h.val) 31 = false) : exec (.hostPerstAssert h) s =
    .next ((((s.hostPortReset h.val none (some (s.fld (rHstVfBudget h.val) 8 0))).setFlag (rHstStatus h.val) 31 true).hostEvent h.val 3 2 0 0
      1).hostPortFaults h.val).dispatch := by
  simp only [exec_hostPerstAssert, execHostPerstAssert, hoff, Bool.false_eq_true, if_false]

/-- R414: the release of PERST_L is taken once the port's logic runs and the port is enabled. -/
theorem exec_hostPerstDeassert_releases {u : State} {t : DWord} (hu : s.setFlag (rHstStatus h.val) 31 false = u) (hlogic : u.hostLogic = true)
    (hen : u.flag rGlbHostEn h.val = true) :
    exec (.hostPerstDeassert h t) s = .next (u.setHport h.val { u.hport h.val with released := some t.toNat }) := by
  simp only [exec_hostPerstDeassert, execHostPerstDeassert, hu, hlogic, hen, and_self, if_true]

/-- R406, R414: a link that trains to a rate and a width of the port is up. -/
theorem exec_hostLinkUp_trained {speed width : Nat} {u v : State} (hrel : (s.hport h.val).released ≠ none) (hlogic : s.hostLogic = true)
    (hspeed : 0 < speed) (hmax : speed ≤ 6) (hwidth : width ∈ [1, 2, 4, 8, 16])
    (hv : ((s.setFlag (rHstStatus h.val) 30 true).setFlag (rHstStatus h.val) 29 (speed == 6)).setFld (rHstStatus h.val) 27 24 speed = v)
    (hu : v.setFld (rHstStatus h.val) 20 16 width = u) : exec (.hostLinkUp h speed width) s =
      .next ((u.setHport h.val { u.hport h.val with trained := true }).hostEvent h.val 1 0 0 0 1) := by
  have hlegal : [1, 2, 4, 8, 16].contains width = true := List.contains_iff_mem.mpr hwidth
  have hport : v.hport h.val = u.hport h.val := by rw [← hu, State.setFld_hport]
  simp only [exec_hostLinkUp, execHostLinkUp, hrel, hlogic, Nat.pos_iff_ne_zero.mp hspeed, Nat.not_lt.mpr hmax, hlegal, hv, hu, hport,
    Bool.not_true, Bool.false_eq_true, or_self, if_false]

/-- R395, R415: a function-level reset of a virtual function resets it and the contexts bound to it. -/
theorem exec_vfFlr_resets {fn : Fin 512} {u : State} (hvf : fn.val ≠ 0) (hon : s.functionOn h.val fn.val = true)
    (hu : (s.functionReset h.val fn.val).hostEvent h.val 4 0 fn.val 0 1 = u) :
    exec (.vfFlr h fn) s = .next ((u.boundTo h.val (some fn.val)).foldl State.ctxReset u).dispatch := by
  simp only [exec_vfFlr, execVfFlr, hvf, hon, State.vfFlr, hu, ne_eq, not_false_eq_true, and_self, if_true]

/-! Errors that a read or a link reports (R412, R443). -/

section
variable {fn : Fin 512} {off len : Nat} {data : List Byte}

/-- R412: a completion that came whole fills what was read. -/
theorem exec_hostReadCompletion_whole : exec (.hostReadCompletion h fn off len data 0 false) s =
    .next ((s.wrBytes (hostWindow h.val off) (data.take len)).bump64 (rHstRx h.val) (data.take len).length) := by
  simp only [exec_hostReadCompletion, execHostReadCompletion, Fin.val_zero, ne_eq, not_true_eq_false, Bool.false_eq_true, if_false]

/-- R412: what a read that failed was to fill is poisoned. -/
theorem exec_hostReadCompletion_failed {status : Fin 3} (hstatus : status ≠ 0) (ep : Bool) :
    exec (.hostReadCompletion h fn off len data status ep) s =
      .next (((s.poison (hostWindow h.val off) len).bump (rHstCplErr h.val) 1).hostEvent h.val 6 2 fn.val off 1) := by
  simp only [exec_hostReadCompletion, execHostReadCompletion, Fin.val_ne_zero_iff.mpr hstatus, ne_eq, not_false_eq_true, if_true]

end

/-- R19, R443, R490: a module in service that fails lane repair is retired at the I/O die of its site. -/
theorem exec_ucieModuleRetire_retires {k : SiteId} {m : Fin 16} {i : Nat}
    (hsite : (List.range s.ioSites.length).find? (fun i => nth 18 s.ioSites i == k.val) = some i) (hon : s.flag (rHstUcie i) m.val = true) :
    exec (.ucieModuleRetire k m) s =
      .next ((((s.setFlag (rHstUcie i) m.val false).setFlag (rHstUcie i) (16 + m.val) true).logAdd 0x0D 6 0 [k.val, m.val]).ucieEvent i k.val) := by
  simp only [exec_ucieModuleRetire, execUcieModuleRetire, hsite, hon, Bool.not_true, Bool.false_eq_true, if_false]

end

/-- Settles O51: one lemma for each event that has cases; the others are what their definitions say. -/
theorem hostPortEvents : Obligations.HostPortEvents := by
  unfold Obligations.HostPortEvents
  intro s h t
  refine ⟨exec_hostPerstAssert_resets, exec_hostPerstDeassert_releases rfl, exec_hostHotReset h s,
    fun speed width hrel hlogic hspeed hmax hwidth => exec_hostLinkUp_trained hrel hlogic hspeed hmax hwidth rfl rfl,
    fun fn hvf hen hnum => exec_vfFlr_resets hvf (State.functionOn_iff.mpr (.inr ⟨hen, hnum⟩)) rfl, exec_pfFlr h s,
    fun fn off len data => ⟨exec_hostReadCompletion_whole, fun status => exec_hostReadCompletion_failed,
      exec_hostCompletionTimeout h fn off len s⟩,
    exec_correctableLinkError h s, fun k m i => exec_ucieModuleRetire_retires⟩

end Sys2Proof.Machine

/-!
One step (95_what_each_step_holds), and the device right after reset (R484, R502): the reset values of the control registers of contexts
and partitions come from the register map, where one row alone covers their offsets.
-/
namespace Sys2Proof.Machine

/-- Settles O1: by the queue, empty or not. -/
theorem stepRunsFront : Obligations.StepRunsFront := by
  unfold Obligations.StepRunsFront
  refine ⟨fun c s rest h => ?_, fun s h => ?_⟩ <;> rw [step, h]

/-! Where a register row lies. -/

/-- How far the repeats of a row reach beyond its first offset. -/
def dimsReach : List (Nat × Nat) → Nat
  | [] => 0
  | (n, st) :: ds => (n - 1) * st + dimsReach ds

theorem le_dimsReach_of_dimsHit {ds : List (Nat × Nat)} {x : Nat} (h : dimsHit ds x = true) : x ≤ dimsReach ds := by
  induction ds generalizing x with
  | nil => exact Nat.le_of_eq (eq_of_beq h)
  | cons d ds ih =>
    obtain ⟨n, st⟩ := d
    obtain ⟨hn, hrest⟩ := (Bool.and_eq_true _ _).mp h
    have hquot : st * (x / st) ≤ (n - 1) * st := by
      rw [Nat.mul_comm]; exact Nat.mul_le_mul_right st (Nat.le_sub_one_of_lt (of_decide_eq_true hn))
    have := Nat.div_add_mod x st
    have := ih hrest
    rw [dimsReach]; omega

/-- A row lies outside a range of offsets. -/
def RegSpec.outside (r : RegSpec) (lo hi : Nat) : Bool := decide (r.base + dimsReach r.dims < lo) || decide (hi < r.base)

theorem RegSpec.outside_misses {r : RegSpec} {lo hi off : Nat} (h : r.outside lo hi = true) (hlo : lo ≤ off) (hhi : off ≤ hi) :
    specHit r off = false := by
  refine Bool.eq_false_iff.mpr fun hit => ?_
  obtain ⟨hbase, hdims⟩ := (Bool.and_eq_true _ _).mp hit
  have := le_dimsReach_of_dimsHit hdims
  have := of_decide_eq_true hbase
  rw [RegSpec.outside, Bool.or_eq_true, decide_eq_true_eq, decide_eq_true_eq] at h
  omega

/-- A row beside another in the same block of n repeats at a stride: it does not start where the block does. -/
def RegSpec.beside (r : RegSpec) (start n st : Nat) : Bool := r.dims == [(n, st)] && decide (start < r.base) && decide (r.base < start + st)

theorem RegSpec.beside_misses {r : RegSpec} {start n st : Nat} (h : r.beside start n st = true) (k : Nat) :
    specHit r (start + st * k) = false := by
  refine Bool.eq_false_iff.mpr fun hit => ?_
  rw [RegSpec.beside, Bool.and_eq_true, Bool.and_eq_true, beq_iff_eq, decide_eq_true_eq, decide_eq_true_eq] at h
  obtain ⟨⟨hdims, hlow⟩, hhigh⟩ := h
  obtain ⟨hbase, hrep⟩ := (Bool.and_eq_true _ _).mp hit
  rw [hdims] at hrep
  have hmod : (start + st * k - r.base) % st = 0 := eq_of_beq ((Bool.and_eq_true _ _).mp hrep).2
  obtain ⟨j, hj⟩ := Nat.dvd_of_mod_eq_zero hmod
  have hle := of_decide_eq_true hbase
  have hk : st * k = st * j + (r.base - start) := by omega
  have hcase : k ≤ j ∨ j + 1 ≤ k := by omega
  rcases hcase with hkj | hjk
  · have := Nat.mul_le_mul_left st hkj; omega
  · have := Nat.mul_le_mul_left st hjk; rw [Nat.mul_add] at this; omega

/-- A row whose reset value is that of its fields, this one. -/
def RegSpec.resetsTo (r : RegSpec) (x : Nat) : Bool :=
  r.base != rHstVfBudget 0 && r.base != rHstId 0 && r.base != rHstUcie 0 && fieldsReset r.fields == x

/-- No other row than one with this reset value lies at the start of a block's elements. -/
def blockAlone (start n st x : Nat) : Bool :=
  regMap.all fun r => r.outside start (start + st * (n - 1)) || r.beside start n st || r.resetsTo x

/-- The reset value of the first register of an element of such a block, beyond the registers whose reset value comes from fuses. -/
theorem regReset_of_blockAlone {start n st x k : Nat} (f : Fuses) (h : blockAlone start n st x = true) (hk : k < n)
    (hstart : rPwrMod < start) : regReset f (start + st * k) = 0#32 ∨ regReset f (start + st * k) = BitVec.ofNat 32 x := by
  have hend : st * k ≤ st * (n - 1) := Nat.mul_le_mul_left st (Nat.le_sub_one_of_lt hk)
  simp only [rPwrMod] at hstart
  rw [regReset, if_neg (by simp only [rPwrTdp, rPwrCapGrant, rPwrCapEff]; omega), if_neg (by simp only [rPwrMod]; omega)]
  cases hrow : findReg (start + st * k) with
  | none => exact .inl rfl
  | some r =>
    have hit : specHit r (start + st * k) = true := List.find?_some (p := fun r => specHit r (start + st * k)) hrow
    have hall := List.all_eq_true.mp h r (List.mem_of_find?_eq_some hrow)
    rw [Bool.or_eq_true, Bool.or_eq_true] at hall
    obtain (hout | hbeside) | hreset := hall
    · exact absurd hit (by rw [RegSpec.outside_misses hout (by omega) (by omega)]; exact Bool.false_ne_true)
    · exact absurd hit (by rw [RegSpec.beside_misses hbeside k]; exact Bool.false_ne_true)
    · simp only [RegSpec.resetsTo, Bool.and_eq_true, bne_iff_ne, beq_iff_eq] at hreset
      obtain ⟨⟨⟨hbudget, hid⟩, hucie⟩, hfields⟩ := hreset
      exact .inr (by simp only [hbudget, hid, hucie, hfields, if_false])

/-- R403: DSP_CTX_CTL resets to no partition, disabled and unbound. -/
theorem dspCtxCtl_alone : blockAlone 0x80000 512 0x100 0x1C000000 = true := by decide +kernel

/-- R404: DSP_PART_CTL resets to no resident and no outgoing context, and no partition. -/
theorem dspPartCtl_alone : blockAlone 0xA0000 16 0x20 0x3FF0000 = true := by decide +kernel

/-- R404: no partition exists right after reset. -/
theorem reset_no_partition {q : Nat} (hq : q < 16) : State.reset.flag (rDspPartCtl q) 31 = false := by
  have hreg : State.reset.reg (rDspPartCtl q) = regReset Fuses.hx1mB (rDspPartCtl q) := rfl
  rw [State.flag, hreg]
  obtain h | h := regReset_of_blockAlone Fuses.hx1mB dspPartCtl_alone hq (by decide) <;> rw [h] <;> decide

/-- R403: no context is enabled right after reset. -/
theorem reset_ctx_disabled {c : Nat} (hc : c < 512) : State.reset.flag (rDspCtxCtl c) 30 = false ∧ State.reset.ctxState c = 0 := by
  have hreg : State.reset.reg (rDspCtxCtl c) = regReset Fuses.hx1mB (rDspCtxCtl c) := rfl
  rw [State.flag, State.ctxState, State.fld, hreg]
  obtain h | h := regReset_of_blockAlone Fuses.hx1mB dspCtxCtl_alone hc (by decide) <;> rw [h] <;> decide

/-- R514: bring-up stands before stage 0 right after reset. -/
theorem reset_brpStatus : State.reset.fld rBrpStatus 31 28 = 0 ∧ State.reset.fld rBrpStatus 27 25 = 0 := by decide +kernel

/-- A register that no table lists reads 0. -/
theorem reset_sget (i : Nat) : (State.reset.arr 0).ctrl.sget i = 0 := by
  rw [Ctrl.sget]; split <;> rfl

/-- Settles O2: control registers by the register map, the rest by tables that list nothing. -/
theorem resetState : Obligations.ResetState := by
  unfold Obligations.ResetState
  obtain ⟨hstage, hstatus⟩ := reset_brpStatus
  exact ⟨rfl, rfl, hstage, hstatus, fun _ => reset_ctx_disabled, fun _ => reset_no_partition, fun _ _ => ⟨rfl, rfl, rfl, rfl⟩,
    fun i _ => reset_sget i, fun _ _ => rfl, fun _ => ⟨rfl, rfl⟩⟩

end Sys2Proof.Machine

/-!
Messages of the management paths (15_management R518, R521, R530), and ownership by the PLDM commands (R525 to R528): claims, releases,
handovers, and the lapse of a lease.
-/
namespace Sys2Proof.Machine

/-! A message by its path. -/

section
variable {s : State} {req : Requester} {basic : Bool} (f : State → State)

/-- R521: a message of a path that takes it does its work, and its answer may raise an in-band interrupt. -/
theorem State.message_taken (h : s.takesMessage req basic = true) : s.message req basic f = .next ((f s).notice req) :=
  congrArg Host.Outcome.next (if_pos h)

/-- R518: a message of a path that does not take it does nothing. -/
theorem State.message_untaken (h : s.takesMessage req basic = false) : s.message req basic f = .next s :=
  congrArg Host.Outcome.next (if_neg (ne_true_of_eq_false h))

end

/-! Claims (R525 to R527). -/

section
variable {s : State} {req : Requester} {prio id : Nat}

/-- R525: the conditions of a claim. -/
theorem State.claimOk_iff : s.claimOk (pathOf req) prio id = true ↔ 1 ≤ reqKind req ∧ reqKind req ≤ 4 ∧ 1 ≤ prio ∧ prio ≤ 255 ∧ id ≠ 0 ∧
    (s.flag rMgtOwner 31 = false ∨ (s.ownerPath = pathOf req ∧ s.reg64 rMgtOwnerId = id) ∨ s.fld rMgtOwner 23 16 < prio ∨
      (s.fld rMgtOwner 23 16 = prio ∧ s.reg64 rMgtOwnerId < id) ∨ s.handMatches (pathOf req) id = true) := by
  simp only [State.claimOk, Bool.and_eq_true, Bool.or_eq_true, decide_eq_true_eq, beq_iff_eq, Bool.not_eq_true', and_assoc, or_assoc]
  rfl

theorem State.claim_refused (h : s.claimOk (pathOf req) prio id = false) :
    s.claim req prio id = (s.mgtEvent 0x08 (pathOf req) id prio 0, 2) := by
  simp only [State.claim, h, Bool.not_false, if_true]

/-- R547: the registers name a requester as owner. -/
def State.ownerShown (s : State) (req : Requester) (prio id : Nat) : State :=
  (s.setReg rMgtOwner (BitVec.ofNat 32 (2 ^ 31 + reqKind req * 2 ^ 28 + reqPath req * 2 ^ 24 + prio * 65536 + reqNode req))).setReg64
    rMgtOwnerId id

/-- R526: a lease of 30 s begins, and this handover is pending. -/
def State.leaseBegun (s : State) (hand : Option Handover) : State :=
  { s with mgt := { s.mgt with lease := s.now.toNat + leaseTicks, hand := hand } }.setFlag rMgtLease 31 hand.isSome

/-- R525: a claim of a device without an owner. -/
theorem State.claim_first (hok : s.claimOk (pathOf req) prio id = true) (hfree : s.flag rMgtOwner 31 = false)
    (hhand : s.handMatches (pathOf req) id = false) : s.claim req prio id =
      ((((s.ownerShown req prio id).leaseBegun none).mgtEvent 0x05 (pathOf req) id prio 0).ownerEntry (pathOf req) prio id 0, 1) := by
  simp only [State.claim, hok, hfree, hhand, Bool.not_true, Bool.false_and, Bool.false_eq_true, false_and, and_false, if_false]
  rfl

/-- R526: the owner's own claim renews its lease and keeps its priority. -/
theorem State.claim_renews (hok : s.claimOk (pathOf req) prio id = true) (hheld : s.flag rMgtOwner 31 = true)
    (hpath : s.ownerPath = pathOf req) (hid : s.reg64 rMgtOwnerId = id) (hhand : s.handMatches (pathOf req) id = false) :
    s.claim req prio id = ((s.ownerShown req (s.fld rMgtOwner 23 16) id).leaseBegun s.mgt.hand, 1) := by
  simp only [State.claim, hok, hheld, hpath, hid, hhand, beq_self_eq_true, Bool.not_true, Bool.and_self, Bool.false_eq_true, ne_eq,
    not_true_eq_false, and_false, false_and, if_false, if_true]
  rfl

@[simp] theorem State.leaseBegun_fld (s : State) (hand : Option Handover) {off : Nat} (hi lo : Nat) (h : off ≠ rMgtLease) :
    (s.leaseBegun hand).fld off hi lo = s.fld off hi lo := State.fld_setFld_reg _ _ _ _ _ _ h

/-- R547: what the owner's register shows of its priority. -/
theorem State.ownerShown_prio {t : State} (hpath : t.ownerPath = pathOf req) (hand : Option Handover) (hprio : prio < 256) :
    ((s.ownerShown req prio id).leaseBegun hand).fld rMgtOwner 23 16 = prio := by
  obtain ⟨hkind, hindex, hnode⟩ : t.fld rMgtOwner 30 28 = reqKind req ∧ t.fld rMgtOwner 27 24 = reqPath req ∧
      t.fld rMgtOwner 15 0 = reqNode req := by simpa only [State.ownerPath, pathOf, Prod.mk.injEq] using hpath
  have hkindlt : reqKind req < 8 := hkind ▸ bitsOf_lt _ 30 28
  have hindexlt : reqPath req < 16 := hindex ▸ bitsOf_lt _ 27 24
  have hnodelt : reqNode req < 65536 := hnode ▸ bitsOf_lt _ 15 0
  rw [State.leaseBegun_fld _ _ _ _ (by decide), State.ownerShown, State.fld, State.reg_setReg64_other _ _ (by decide) (by decide),
    State.reg_setReg_same, BitVec.toNat_ofNat, bitsOf, Nat.shiftRight_eq_div_pow]
  omega

/-- R526: a renewal in full. -/
theorem State.claim_renewed (hheld : s.flag rMgtOwner 31 = true) (hpath : s.ownerPath = pathOf req) (hid : s.reg64 rMgtOwnerId = id)
    (hok : s.claimOk (pathOf req) prio id = true) (hhand : s.handMatches (pathOf req) id = false) : (s.claim req prio id).2 = 1 ∧
      (s.claim req prio id).1.mgt.lease = s.now.toNat + 30 * 64000000000 ∧ (s.claim req prio id).1.mgt.hand = s.mgt.hand ∧
      (s.claim req prio id).1.fld rMgtOwner 23 16 = s.fld rMgtOwner 23 16 := by
  rw [State.claim_renews hok hheld hpath hid hhand]
  exact ⟨rfl, rfl, rfl, State.ownerShown_prio hpath _ (bitsOf_lt _ 23 16)⟩

end

/-! The commands of a path that takes messages. -/

section
variable {s : State} {req : Requester} (htakes : s.takesMessage req false = true)
include htakes

theorem exec_claimOwnership_taken (prio id : Nat) : let x := s.claim req prio (id % 2 ^ 64)
    exec (.claimOwnership req prio id) s =
      .next ((x.1.answer [0, x.2, x.1.fld rMgtOwner 30 28, x.1.fld rMgtOwner 23 16, x.1.reg64 rMgtOwnerId]).notice req) := by
  rw [exec_claimOwnership, execClaimOwnership, State.message_taken _ htakes]

variable {id : Nat}

/-- R527: the owner releases under its own ID. -/
theorem exec_releaseOwnership_owner (hown : s.isOwner req = true) (hid : s.reg64 rMgtOwnerId = id) : exec (.releaseOwnership req id) s =
    .next ((((s.ownerClear.mgtEvent 0x06 (pathOf req) id (s.fld rMgtOwner 23 16) 0).ownerEntry (0, 0, 0) 0 0 3).answer [0, 1]).notice req) := by
  rw [exec_releaseOwnership, execReleaseOwnership, State.message_taken _ htakes]
  simp only [State.release, hown, hid, and_self, if_true]

theorem exec_releaseOwnership_other (h : s.isOwner req = false ∨ s.reg64 rMgtOwnerId ≠ id) :
    exec (.releaseOwnership req id) s = .next ((s.pldmRefuse req id).notice req) := by
  have hnot : ¬(s.isOwner req = true ∧ s.reg64 rMgtOwnerId = id) := fun ⟨hown, hid⟩ => by simp [hown, hid] at h
  rw [exec_releaseOwnership, execReleaseOwnership, State.message_taken _ htakes]
  simp only [State.release, if_neg hnot, OfNat.ofNat_ne_one, if_false]

variable {kind path node : Nat}

/-- R527: the owner names a successor, which has 5 s to claim. -/
theorem exec_handOver_owner (hown : s.isOwner req = true) (hlow : 1 ≤ kind) (hhigh : kind ≤ 4) (hid : id % 2 ^ 64 ≠ 0) :
    exec (.handOver req kind path node id) s =
      .next ((({ s with mgt := { s.mgt with hand := some ⟨kind, path, node, id % 2 ^ 64, s.now.toNat + 5 * 64000000000⟩ } }.setFlag rMgtLease 31
        true).answer [0, 3]).notice req) := by
  rw [exec_handOver, execHandOver, State.message_taken _ htakes]
  simp only [State.handOver, hown, hlow, hhigh, hid, ne_eq, not_false_eq_true, and_self, if_true]
  rfl

theorem exec_handOver_other (h : s.isOwner req = false ∨ kind = 0 ∨ 4 < kind ∨ id % 2 ^ 64 = 0) :
    exec (.handOver req kind path node id) s = .next ((s.pldmRefuse req id).notice req) := by
  have hnot : ¬(s.isOwner req = true ∧ 1 ≤ kind ∧ kind ≤ 4 ∧ id % 2 ^ 64 ≠ 0) := by
    rintro ⟨hown, hlow, hhigh, hid⟩
    rw [hown] at h
    rcases h with h | h | h | h
    · exact absurd h (by decide)
    all_goals omega
  rw [exec_handOver, execHandOver, State.message_taken _ htakes]
  simp only [State.handOver, if_neg hnot, Nat.reduceEqDiff, if_false]

theorem exec_getOwner_taken : exec (.getOwner req) s =
    .next ((s.answer [0, (s.reg rMgtOwner).toNat, s.reg64 rMgtOwnerId, s.leaseMs]).notice req) := by
  rw [exec_getOwner, execGetOwner, State.message_taken _ htakes]

end

/-- R518: the ownership commands of a path that takes no messages. -/
theorem exec_ownership_untaken {s : State} {req : Requester} (h : s.takesMessage req false = false) (prio id kind path node : Nat) :
    ∀ c ∈ [Instr.claimOwnership req prio id, .releaseOwnership req id, .handOver req kind path node id, .getOwner req],
      exec c s = .next s := by
  simp only [List.forall_mem_cons, exec_claimOwnership, execClaimOwnership, exec_releaseOwnership, execReleaseOwnership, exec_handOver,
    execHandOver, exec_getOwner, execGetOwner, State.message_untaken _ h, List.not_mem_nil, false_implies, implies_true, and_self]

/-! What ends by itself (R526, R527). -/

section
variable {s : State} {t : DWord}

theorem exec_leaseLapse_lapses (hheld : s.flag rMgtOwner 31 = true) (ht : s.mgt.lease ≤ t.toNat) : exec (.leaseLapse t) s =
    .next ((s.ownerClear.mgtEvent 0x07 s.ownerPath (s.reg64 rMgtOwnerId) (s.fld rMgtOwner 23 16) 0).ownerEntry (0, 0, 0) 0 0 4) := by
  simp only [exec_leaseLapse, execLeaseLapse, hheld, ht, and_self, if_true]

theorem exec_handoverExpiry_expires {h : Handover} (hhand : s.mgt.hand = some h) (ht : h.deadline ≤ t.toNat) :
    exec (.handoverExpiry t) s = .next ({ s with mgt := { s.mgt with hand := none } }.setFlag rMgtLease 31 false) := by
  simp only [exec_handoverExpiry, execHandoverExpiry, hhand, ht, if_true]

end

/-- Settles O58: a claim by its outcome, and one lemma for each command and each of its outcomes. -/
theorem ownershipCommands : Obligations.OwnershipCommands := by
  unfold Obligations.OwnershipCommands
  intro s req
  exact ⟨fun _ _ => State.claimOk_iff, fun _ _ => State.claim_refused, fun _ _ => State.claim_first, fun _ _ => State.claim_renewed,
    fun prio id kind path node h => exec_ownership_untaken h prio id kind path node,
    fun h => ⟨exec_claimOwnership_taken h, fun _ => exec_releaseOwnership_owner h, fun _ => exec_releaseOwnership_other h,
      fun _ _ _ _ => ⟨exec_handOver_owner h, exec_handOver_other h⟩, exec_getOwner_taken h⟩,
    fun _ => exec_leaseLapse_lapses, fun _ _ => exec_handoverExpiry_expires⟩

end Sys2Proof.Machine

/-!
Power pools (13_power R470, R471): slack at each interval, and loans from their offer to their end.
-/
namespace Sys2Proof.Machine

/-! Slack (R470). -/

section
variable {s : State}

theorem exec_poolIntervalBoundary_off (h : s.flag rPwrPoolCtl 31 = false) (stalled resident : Nat) :
    exec (.poolIntervalBoundary stalled resident) s = .next s := by
  simp only [exec_poolIntervalBoundary, execPoolIntervalBoundary, h, Bool.not_false, if_true]

/-- R470: a member of a pool notes its own slack and sends it to every other member. -/
theorem exec_poolIntervalBoundary_sends (h : s.flag rPwrPoolCtl 31 = true) {stalled resident v : Nat} {w u : State}
    (hv : (if resident = 0 then 65536 else Nat.min 65536 (stalled * 65536 / resident)) = v)
    (hw : s.setFld rPwrPoolSlack 15 0 (Nat.min 65535 v) = w) (hu : w.slackPut ⟨w.ownNode, w.now.toNat / 2 ^ 29, v, 0⟩ = u) :
    exec (.poolIntervalBoundary stalled resident) s = .next (u.poolPeers.foldl (fun s n => s.poolSend n 0x30 v 0) u) := by
  simp only [exec_poolIntervalBoundary, execPoolIntervalBoundary, h, Bool.not_true, Bool.false_eq_true, if_false, hv, hw, hu]

theorem exec_poolLoanDecision_off (h : s.flag rPwrPoolCtl 31 = false) : exec .poolLoanDecision s = .next s := by
  simp only [exec_poolLoanDecision, execPoolLoanDecision, h, Bool.not_false, if_true]

end

/-! The lender's decision (R471). -/

/-- R471: the slacks of the interval that is running. -/
def State.slacksNow (s : State) : List Slack := s.power.slacks.filter (fun x => x.interval == s.now.toNat / 2 ^ 29)

section
variable {s : State} {own : Slack} (hon : s.flag rPwrPoolCtl 31 = true) (hown : s.slacksNow.find? (fun x => x.node == s.ownNode) = some own)
include hon hown

/-- R471: a loan that stands is renewed while its lender has slack and room. -/
theorem exec_poolLoanDecision_renews {x : Loan} (hlent : s.power.lent = some x)
    (hkeep : 20 * median (s.slacksNow.map (fun x => x.slack)) + 65536 ≤ 20 * own.slack ∧ s.fld rPwrPoolBounds 15 0 + 50 ≤ s.capNet + x.watts ∧
      s.fld rPwrPoolBounds 15 0 ≤ s.capNet) : exec .poolLoanDecision s =
      .next ((s.setLent (some { x with lease := s.now.toNat + 64000000000 })).poolSend x.peer 0x31 x.watts (s.now.toNat + 64000000000)) := by
  obtain ⟨hslack, hroom, hlow⟩ := hkeep
  rw [State.slacksNow] at hown hslack
  simp only [exec_poolLoanDecision, execPoolLoanDecision, hon, hown, hlent, hslack, hroom, hlow, decide_true, Bool.and_self, Bool.not_true,
    Bool.false_eq_true, and_self, if_false, if_true]

/-- R471: else it is recalled. -/
theorem exec_poolLoanDecision_recalls {x : Loan} (hlent : s.power.lent = some x)
    (hkeep : ¬(20 * median (s.slacksNow.map (fun x => x.slack)) + 65536 ≤ 20 * own.slack ∧
      s.fld rPwrPoolBounds 15 0 + 50 ≤ s.capNet + x.watts ∧ s.fld rPwrPoolBounds 15 0 ≤ s.capNet)) :
    exec .poolLoanDecision s = .next (s.poolSend x.peer 0x34 x.watts 0) := by
  rw [State.slacksNow] at hown hkeep
  simp only [exec_poolLoanDecision, execPoolLoanDecision, hon, hown, hlent, Bool.and_eq_true, decide_eq_true_eq, and_assoc, if_neg hkeep,
    Bool.not_true, Bool.false_eq_true, if_false]

/-- R471: a member with slack and room lends to the one member that has the headroom. -/
theorem exec_poolLoanDecision_lends {b : Slack} {w : Nat} (hlent : s.power.lent = none)
    (hw : Nat.min (s.capNet - s.fld rPwrPoolBounds 15 0) (s.fld rPwrCapGrant 15 0 / 40) = w)
    (hcand : s.slacksNow.filter (fun x => x.node != s.ownNode && decide (w ≤ x.headroom)) = [b])
    (hslack : 20 * median (s.slacksNow.map (fun x => x.slack)) + 65536 ≤ 20 * own.slack) (hroom : s.fld rPwrPoolBounds 15 0 + 50 ≤ s.capNet) :
    exec .poolLoanDecision s =
      .next ((s.setLent (some ⟨b.node, w, s.now.toNat + 64000000000, false⟩)).poolSend b.node 0x31 w (s.now.toNat + 64000000000)) := by
  rw [State.slacksNow] at hown hcand hslack
  simp only [exec_poolLoanDecision, execPoolLoanDecision, hon, hown, hlent, hw, hcand, hslack, hroom, List.foldl_cons, List.foldl_nil,
    Nat.add_zero, decide_true, Bool.and_self, Bool.not_true, Bool.false_eq_true, if_false, if_true]

end

/-! Frames that arrive (R471). -/

section
variable {s : State} {f : List Byte} {n : Nat}

theorem exec_poolSlackFrame_notes (hfrom : s.poolFrom 0x30 f = some n) :
    exec (.poolSlackFrame f) s = .next (s.slackPut ⟨n, leAt f 8 4, leAt f 12 4, leAt f 28 4⟩) := by
  simp only [exec_poolSlackFrame, execPoolSlackFrame, hfrom]

section
variable (hfrom : s.poolFrom 0x31 f = some n)
include hfrom

/-- R471: a loan that stands is renewed. -/
theorem exec_poolLoanFrame_renews (hknown : s.power.borrowed.any (fun x => x.peer == n) = true) : exec (.poolLoanFrame f) s =
    .next ((s.setBorrowed (s.power.borrowed.map (fun (x : Loan) => if x.peer = n then { x with lease := leAt f 16 8 } else x))).poolSend n 0x32
      (leAt f 12 4) (leAt f 16 8)) := by
  simp only [exec_poolLoanFrame, execPoolLoanFrame, hfrom, hknown, if_true]

variable (hnew : s.power.borrowed.any (fun x => x.peer == n) = false)
include hnew

/-- R471: a new loan is accepted while fewer than eight stand and the cap stays within the pool's bound. -/
theorem exec_poolLoanFrame_accepts (hfew : s.power.borrowed.length < 8) (hcap : s.capNet + leAt f 12 4 ≤ s.fld rPwrPoolBounds 31 16) :
    exec (.poolLoanFrame f) s = .next (((s.setBorrowed (s.power.borrowed ++ [⟨n, leAt f 12 4, leAt f 16 8, true⟩])).loanEvent 0x0D
      (leAt f 12 4) n).poolSend n 0x32 (leAt f 12 4) (leAt f 16 8)) := by
  simp only [exec_poolLoanFrame, execPoolLoanFrame, hfrom, hnew, hfew, hcap, Bool.false_eq_true, and_self, if_false, if_true]

theorem exec_poolLoanFrame_refuses (h : 8 ≤ s.power.borrowed.length ∨ s.fld rPwrPoolBounds 31 16 < s.capNet + leAt f 12 4) :
    exec (.poolLoanFrame f) s = .next (s.poolSend n 0x33 (leAt f 12 4) 0) := by
  have hnot : ¬(s.power.borrowed.length < 8 ∧ s.capNet + leAt f 12 4 ≤ s.fld rPwrPoolBounds 31 16) := by omega
  simp only [exec_poolLoanFrame, execPoolLoanFrame, hfrom, hnew, if_neg hnot, Bool.false_eq_true, if_false]

end

section
variable {x : Loan} (hlent : s.power.lent = some x) (hpeer : x.peer = n)
include hlent hpeer

theorem exec_poolAcceptFrame_confirms (hfrom : s.poolFrom 0x32 f = some n) (hok : x.ok = false) :
    exec (.poolAcceptFrame f) s = .next ((s.setLent (some { x with ok := true })).loanEvent 0x0D x.watts n) := by
  simp only [exec_poolAcceptFrame, execPoolAcceptFrame, hfrom, hlent, hpeer, hok, Bool.not_false, and_self, if_true]

/-- R471: the loan lent to a member ends with that member's word. -/
theorem State.loanBack_ends : s.loanBack n = s.setLent none := by
  simp only [State.loanBack, hlent, hpeer, if_true]

theorem exec_poolRefuseFrame_ends (hfrom : s.poolFrom 0x33 f = some n) : exec (.poolRefuseFrame f) s = .next (s.setLent none) := by
  simp only [exec_poolRefuseFrame, execPoolRefuseFrame, hfrom, State.loanBack_ends hlent hpeer]

theorem exec_poolReleaseFrame_ends (hfrom : s.poolFrom 0x35 f = some n) : exec (.poolReleaseFrame f) s = .next (s.setLent none) := by
  simp only [exec_poolReleaseFrame, execPoolReleaseFrame, hfrom, State.loanBack_ends hlent hpeer]

end

/-- R471: a recalled loan is dropped and released. -/
theorem exec_poolRecallFrame_releases {x : Loan} (hfrom : s.poolFrom 0x34 f = some n)
    (hfind : s.power.borrowed.find? (fun x => x.peer == n) = some x) : exec (.poolRecallFrame f) s =
      .next ((s.setBorrowed (s.power.borrowed.filter (fun y => y.peer != n))).poolSend n 0x35 x.watts 0) := by
  simp only [exec_poolRecallFrame, execPoolRecallFrame, hfrom, hfind]

end

/-! Loans that end by time (R471). -/

section
variable {s : State} {x : Loan} {t : DWord}

theorem exec_poolLeaseEnd_drops (hone : s.power.borrowed = [x]) (ht : x.lease ≤ t.toNat) : exec (.poolLeaseEnd t) s =
    .next (((s.setBorrowed []).loanEvent 0x0E x.watts x.peer).poolSend x.peer 0x35 x.watts 0) := by
  simp only [exec_poolLeaseEnd, execPoolLeaseEnd, hone, ht, Nat.not_lt.mpr ht, decide_true, decide_false, List.filter_cons, List.filter_nil,
    List.isEmpty_cons, List.foldl_cons, List.foldl_nil, Bool.false_eq_true, if_true, if_false]

theorem exec_poolLenderTimeout_ends (hlent : s.power.lent = some x) (ht : x.lease + 6400000000 ≤ t.toNat) :
    exec (.poolLenderTimeout t) s = .next ((s.setLent none).loanEvent 0x0E x.watts x.peer) := by
  simp only [exec_poolLenderTimeout, execPoolLenderTimeout, hlent, ht, if_true]

end

/-- Settles O56: one lemma for each event and each of its outcomes. -/
theorem poolEvents : Obligations.PoolEvents := by
  unfold Obligations.PoolEvents
  intro s f n
  exact ⟨fun stalled resident h => exec_poolIntervalBoundary_off h stalled resident,
    fun _ _ h => exec_poolIntervalBoundary_sends h rfl rfl rfl, exec_poolLoanDecision_off,
    fun _ _ hon hlent hown => ⟨exec_poolLoanDecision_renews hon hown hlent, exec_poolLoanDecision_recalls hon hown hlent⟩,
    fun _ _ hon hlent hown => exec_poolLoanDecision_lends hon hown hlent rfl, exec_poolSlackFrame_notes,
    fun hfrom => ⟨exec_poolLoanFrame_renews hfrom, exec_poolLoanFrame_accepts hfrom, exec_poolLoanFrame_refuses hfrom⟩,
    fun _ hfrom hlent hpeer => exec_poolAcceptFrame_confirms hlent hpeer hfrom,
    fun _ hfrom hlent hpeer => exec_poolRefuseFrame_ends hlent hpeer hfrom, fun _ => exec_poolRecallFrame_releases,
    fun _ hfrom hlent hpeer => exec_poolReleaseFrame_ends hlent hpeer hfrom,
    fun _ _ => exec_poolLeaseEnd_drops, fun _ _ => exec_poolLenderTimeout_ends⟩

end Sys2Proof.Machine

/-!
Firmware updates (15_management R522, R531 to R538): the boot pointer that a write leaves, the commands of an update by whose they are and
the stage they find, verification, and the trial from its confirmation to the end of its window.
-/
namespace Sys2Proof.Machine

/-! The boot pointer (R532). -/

@[simp] theorem State.showBoot_mgt (s : State) : s.showBoot.mgt = s.mgt := by
  simp only [State.showBoot, State.setFld_mgt, State.setReg_mgt, State.setFlag_mgt]

@[simp] theorem State.fwEvent_mgt (s : State) (code sev slot detail : Nat) : (s.fwEvent code sev slot detail).mgt = s.mgt := s.postDev_mgt ..

theorem State.bootRec_of_mgt {s t : State} (h : t.mgt = s.mgt) : t.bootRec = s.bootRec := by
  rw [State.bootRec, State.bootRec, h]

/-- R532: the record that was written is the one in force, under the next sequence number. -/
theorem State.bootRec_bootWrite (s : State) (r : BootRec) : (s.bootWrite r).bootRec = { r with seq := s.bootRec.seq + 1 } := by
  simp only [State.bootWrite]
  rw [State.bootRec_of_mgt (State.showBoot_mgt _)]
  cases ha : s.mgt.recA with
  | none => cases hb : s.mgt.recB <;> simp [State.bootRec, State.lifeAdd, ha, hb]
  | some a =>
    cases hb : s.mgt.recB with
    | none => simp [State.bootRec, State.lifeAdd, ha, hb]
    | some b => by_cases hlt : a.seq < b.seq <;> simp [State.bootRec, State.lifeAdd, ha, hb, hlt]

@[simp] theorem BootRec.setSlot_active (r : BootRec) (n x : Nat) : (r.setSlot n x).active = r.active := by unfold BootRec.setSlot; split <;> rfl
@[simp] theorem BootRec.setSlot_trial (r : BootRec) (n x : Nat) : (r.setSlot n x).trial = r.trial := by unfold BootRec.setSlot; split <;> rfl

theorem BootRec.slot_setSlot_same {n : Nat} (r : BootRec) (x : Nat) : (r.setSlot n x).slot n = x := by
  unfold BootRec.slot BootRec.setSlot; split <;> rfl

/-- R531: of the two slots, setting one leaves the other. -/
theorem BootRec.slot_setSlot_other {n : Nat} (hn : n < 2) (r : BootRec) (x : Nat) : (r.setSlot (1 - n) x).slot n = r.slot n := by
  obtain rfl | rfl : n = 0 ∨ n = 1 := by omega
  all_goals rfl

/-! The commands of an update by their stage (R535). -/

section
variable {s : State} {req : Requester} {stage : Nat}

theorem State.updateAt_of_update {u : Update} (hu : s.mgt.update = some u) (hagent : u.agent = pathOf req) (hstage : u.stage = stage) :
    s.updateAt req stage = true := by
  simp only [State.updateAt, hu, hagent, hstage, beq_self_eq_true, Bool.and_self]

variable (f : State → State)

theorem State.updateStep_other (hown : s.isOwner req = false) : s.updateStep req stage f = s.pldmRefuse req 0 := by
  simp only [State.updateStep, hown, Bool.not_false, if_true]

theorem State.updateStep_early (hown : s.isOwner req = true) (hat : s.updateAt req stage = false) : s.updateStep req stage f = s.answer [4] := by
  simp only [State.updateStep, hown, hat, Bool.not_true, Bool.false_eq_true, if_false]

theorem State.updateStep_found (hown : s.isOwner req = true) (hat : s.updateAt req stage = true) : s.updateStep req stage f = f s := by
  simp only [State.updateStep, hown, hat, Bool.not_true, Bool.false_eq_true, if_false, if_true]

end

/-- R518: the commands of an update on a path that takes no messages. -/
theorem exec_update_untaken {s : State} {req : Requester} (h : s.takesMessage req true = false) (id off : Nat) (data : List Byte) (last : Bool) :
    ∀ c ∈ [Instr.requestUpdate req, .passComponentTable req, .updateComponent req id, .firmwareDataResponse req off data,
      .transferComplete req last, .verifyComplete req, .cancelUpdateComponent req, .activateFirmware req, .getStatus req, .cancelUpdate req],
      exec c s = .next s := by
  simp only [List.forall_mem_cons, exec_requestUpdate, execRequestUpdate, exec_passComponentTable, execPassComponentTable, exec_updateComponent,
    execUpdateComponent, exec_firmwareDataResponse, execFirmwareDataResponse, exec_transferComplete, execTransferComplete, exec_verifyComplete,
    execVerifyComplete, exec_cancelUpdateComponent, execCancelUpdateComponent, exec_activateFirmware, execActivateFirmware, exec_getStatus,
    execGetStatus, exec_cancelUpdate, execCancelUpdate, State.message_untaken _ h, List.not_mem_nil, false_implies, implies_true, and_self]

section
variable {s : State} {req : Requester} (htakes : s.takesMessage req true = true)
include htakes

/-- R530: the commands of an update by another than the owner are refused. -/
theorem exec_update_other (hown : s.isOwner req = false) (id off : Nat) (data : List Byte) (last : Bool) :
    ∀ c ∈ [Instr.requestUpdate req, .passComponentTable req, .updateComponent req id, .firmwareDataResponse req off data,
      .transferComplete req last, .verifyComplete req, .cancelUpdateComponent req, .activateFirmware req, .cancelUpdate req],
      exec c s = .next ((s.pldmRefuse req 0).notice req) := by
  simp only [List.forall_mem_cons, exec_requestUpdate, execRequestUpdate, exec_passComponentTable, execPassComponentTable, exec_updateComponent,
    execUpdateComponent, exec_firmwareDataResponse, execFirmwareDataResponse, exec_transferComplete, execTransferComplete, exec_verifyComplete,
    execVerifyComplete, exec_cancelUpdateComponent, execCancelUpdateComponent, exec_activateFirmware, execActivateFirmware, exec_cancelUpdate,
    execCancelUpdate, State.message_taken _ htakes, State.updateStep_other _ hown, hown, Bool.not_false, if_true, List.not_mem_nil,
    false_implies, implies_true, and_self]

theorem exec_getStatus_taken : exec (.getStatus req) s = .next ((s.answer [0, s.fld rMgtStatus 23 20]).notice req) := by
  rw [exec_getStatus, execGetStatus, State.message_taken _ htakes]

variable (hown : s.isOwner req = true)
include hown

/-- R535: an update begins: the slot that is not active is emptied and stands in state 1. -/
theorem exec_requestUpdate_begins (hopen : s.updatesOpen = true) (hnone : s.mgt.update = none) {u : State}
    (hu : { s with mgt := { s.mgt with
      update := some ⟨pathOf req, 1 - s.bootRec.active, 1, none⟩, slots := tblPut s.mgt.slots (1 - s.bootRec.active) [] } } = u) :
    exec (.requestUpdate req) s = .next ((((u.bootWrite (u.bootRec.setSlot (1 - s.bootRec.active) 1)).fwEvent 0x01 0 (1 - s.bootRec.active)
      0).answer [0]).notice req) := by
  rw [exec_requestUpdate, execRequestUpdate, State.message_taken _ htakes]
  simp only [hown, hopen, hnone, hu, Option.isSome_none, Bool.not_true, Bool.false_eq_true, or_self, if_false]

theorem exec_requestUpdate_closed (h : s.updatesOpen = false ∨ s.mgt.update.isSome = true) :
    exec (.requestUpdate req) s = .next ((s.answer [4]).notice req) := by
  rw [exec_requestUpdate, execRequestUpdate, State.message_taken _ htakes]
  simp only [hown, Bool.not_true, Bool.false_eq_true, if_false, Bool.not_eq_true', h, if_true]

/-- R535: the commands of a download outside of one are refused. -/
theorem exec_download_early (hat : s.updateAt req 1 = false) (id off : Nat) (data : List Byte) (last : Bool) :
    ∀ c ∈ [Instr.passComponentTable req, .updateComponent req id, .firmwareDataResponse req off data, .transferComplete req last,
      .cancelUpdateComponent req], exec c s = .next ((s.answer [4]).notice req) := by
  simp only [List.forall_mem_cons, exec_passComponentTable, execPassComponentTable, exec_updateComponent, execUpdateComponent,
    exec_firmwareDataResponse, execFirmwareDataResponse, exec_transferComplete, execTransferComplete, exec_cancelUpdateComponent,
    execCancelUpdateComponent, State.message_taken _ htakes, State.updateStep_early _ hown hat, List.not_mem_nil, false_implies, implies_true,
    and_self]

/-! A download (R535). -/

section
variable (hat : s.updateAt req 1 = true)
include hat

theorem exec_passComponentTable_found : exec (.passComponentTable req) s = .next ((s.answer [0]).notice req) := by
  rw [exec_passComponentTable, execPassComponentTable, State.message_taken _ htakes, State.updateStep_found _ hown hat]

variable {u : Update} (hu : s.mgt.update = some u)
include hu

theorem exec_updateComponent_found (id : Nat) : exec (.updateComponent req id) s =
    .next (((({ s with mgt := { s.mgt with update := some { u with comp := some id } } }).emit "pldm" [0x15, 0, 4096]).answer [0]).notice req) := by
  rw [exec_updateComponent, execUpdateComponent, State.message_taken _ htakes, State.updateStep_found _ hown hat]
  simp only [hu]

variable {off : Nat} {data : List Byte}

theorem exec_firmwareDataResponse_stores (hcomp : u.comp.isSome = true) (hlen : data.length ≤ 4096) (hend : off + data.length ≤ 20 * 2 ^ 20)
    {new : List (Nat × Byte)}
    (hnew : new = (List.range data.length).foldl (fun t i => tblSet 0#8 t (off + i) (nth 0#8 data i)) (tblGet [] s.mgt.slots u.slot)) :
    exec (.firmwareDataResponse req off data) s = .next ((({ s with mgt := { s.mgt with slots := tblPut s.mgt.slots u.slot new } }.emit "pldm"
      [0x15, off + data.length, 4096]).answer [0]).notice req) := by
  have hfits : ¬(u.comp.isNone = true ∨ 4096 < data.length ∨ 20 * 2 ^ 20 < off + data.length) := by
    rw [Option.isNone_eq_false_iff.mpr hcomp]
    rintro (h | h | h)
    · exact absurd h (by decide)
    all_goals omega
  rw [exec_firmwareDataResponse, execFirmwareDataResponse, State.message_taken _ htakes, State.updateStep_found _ hown hat]
  simp only [hu, if_neg hfits, hnew]

theorem exec_firmwareDataResponse_refuses (h : u.comp.isSome = false ∨ 4096 < data.length ∨ 20 * 2 ^ 20 < off + data.length) :
    exec (.firmwareDataResponse req off data) s = .next ((s.answer [2]).notice req) := by
  rw [← Option.not_isNone, Bool.not_eq_false'] at h
  rw [exec_firmwareDataResponse, execFirmwareDataResponse, State.message_taken _ htakes, State.updateStep_found _ hown hat]
  simp only [hu, if_pos h]

theorem exec_transferComplete_more : exec (.transferComplete req false) s =
    .next ((({ s with mgt := { s.mgt with update := some { u with comp := none } } }).answer [0]).notice req) := by
  rw [exec_transferComplete, execTransferComplete, State.message_taken _ htakes, State.updateStep_found _ hown hat]
  simp only [hu, Bool.not_false, if_true]

/-- R535: with the last component the slot stands in state 2. -/
theorem exec_transferComplete_last {v : State} (hv : { s with mgt := { s.mgt with update := some { u with stage := 2, comp := none } } } = v) :
    exec (.transferComplete req true) s =
      .next (((((v.takeOver u.slot).bootWrite (v.bootRec.setSlot u.slot 2)).fwEvent 0x02 0 u.slot 0).answer [0]).notice req) := by
  rw [exec_transferComplete, execTransferComplete, State.message_taken _ htakes, State.updateStep_found _ hown hat]
  simp only [hu, hv, Bool.not_true, Bool.false_eq_true, if_false]

theorem exec_cancelUpdateComponent_found : exec (.cancelUpdateComponent req) s =
    .next ((({ s with mgt := { s.mgt with update := some { u with comp := none } } }).answer [0]).notice req) := by
  rw [exec_cancelUpdateComponent, execCancelUpdateComponent, State.message_taken _ htakes, State.updateStep_found _ hown hat]
  simp only [hu]

end

/-! The end of an update (R535). -/

theorem exec_verifyComplete_found (hat : s.updateAt req 3 = true) :
    exec (.verifyComplete req) s = .next (((s.emit "pldm" [0x18, 0]).answer [0]).notice req) := by
  rw [exec_verifyComplete, execVerifyComplete, State.message_taken _ htakes, State.updateStep_found _ hown hat]

theorem exec_verifyComplete_early (hat : s.updateAt req 3 = false) : exec (.verifyComplete req) s = .next ((s.answer [4]).notice req) := by
  rw [exec_verifyComplete, execVerifyComplete, State.message_taken _ htakes, State.updateStep_early _ hown hat]

/-- R535: activation sets the trial in one write of the boot pointer. -/
theorem exec_activateFirmware_activates (hslot : s.bootRec.slot (1 - s.bootRec.active) = 3) (htrial : s.bootRec.trial = 255)
    (hopen : s.updatesOpen = true) : exec (.activateFirmware req) s =
      .next (((({ s with mgt := { s.mgt with update := none } }.bootWrite ({ s.bootRec with trial := 1 - s.bootRec.active, trials := 0 }.setSlot
        (1 - s.bootRec.active) 5)).fwEvent 0x05 0 (1 - s.bootRec.active) 0).answer [0]).notice req) := by
  rw [exec_activateFirmware, execActivateFirmware, State.message_taken _ htakes]
  simp only [hown, State.activate, hslot, htrial, hopen, Bool.not_true, Bool.false_eq_true, and_self, if_false, if_true]

theorem exec_activateFirmware_refuses
    (h : s.bootRec.slot (1 - s.bootRec.active) ≠ 3 ∨ s.bootRec.trial ≠ 255 ∨ s.updatesOpen = false) :
    exec (.activateFirmware req) s = .next ((s.answer [4]).notice req) := by
  have hnot : ¬(s.bootRec.slot (1 - s.bootRec.active) = 3 ∧ s.bootRec.trial = 255 ∧ s.updatesOpen = true) := by
    rintro ⟨hslot, htrial, hopen⟩
    simp [hslot, htrial, hopen] at h
  rw [exec_activateFirmware, execActivateFirmware, State.message_taken _ htakes]
  simp only [hown, State.activate, if_neg hnot, Bool.not_true, Bool.false_eq_true, if_false]

theorem exec_cancelUpdate_owner : exec (.cancelUpdate req) s = .next ((s.updateCancel.answer [0]).notice req) := by
  rw [exec_cancelUpdate, execCancelUpdate, State.message_taken _ htakes]
  simp only [hown, Bool.not_true, Bool.false_eq_true, if_false]

end

/-! Components that an image lacks (R533). -/

/-- R533: a component 4 that the image of a slot lacks has the version of the other slot's. -/
theorem State.compVersion_takeOver (s : State) {slot : Nat} (h : s.compIn slot 4 = none) :
    (s.takeOver slot).compVersion slot 4 = s.compVersion (1 - slot) 4 := by
  have hkept : (s.takeOver slot).compIn slot 4 = none := h
  rw [State.compVersion, hkept]
  simp only [State.takeOver, List.foldl_cons, List.foldl_nil]
  exact (tblGet_put_other (by omega)).trans (tblGet_put_same ..)

/-! Verification (R534, R535). -/

section
variable {s : State} {n : Nat} {sig hash : Bool} (hfind : [0, 1].find? (fun n => s.bootRec.slot n == 2) = some n)
  (hgo : s.mgt.update.isSome = true ∨ s.fld rBrpStatus 27 25 = 1 ∨ s.fld rMgtStatus 31 28 = 4)
include hfind hgo

theorem exec_fwVerifyComplete_found : exec (.fwVerifyComplete sig hash) s = .next (
    if s.imageDetail n sig hash = 0 then
      let u : State := { s with mgt := { s.mgt with update := s.mgt.update.map (fun (u : Update) => { u with stage := 3 }) } }
      ((u.bootWrite ((s.bootRec.setSlot n 3).setImage n (u.imageAt n 4 4) (u.imageAt n 8 4))).fwEvent 0x03 0 n 0).emit "pldm" [0x17, 0]
    else
      (({ s with mgt := { s.mgt with update := none } }.bootWrite (s.bootRec.setSlot n 6)).fwEvent 0x04 1 n (s.imageDetail n sig hash)).emit "pldm"
        [0x17, s.imageDetail n sig hash]) := by
  have hnot : ¬(s.mgt.update.isNone = true ∧ s.fld rBrpStatus 27 25 ≠ 1 ∧ s.fld rMgtStatus 31 28 ≠ 4) := by
    rintro ⟨hnone, hready, hrecovery⟩
    rw [Option.isNone_iff_eq_none] at hnone
    simp [hnone, hready, hrecovery] at hgo
  simp only [exec_fwVerifyComplete, execFwVerifyComplete, hfind, if_neg hnot]

/-- R534: an image that passes stands in state 3, with its versions. -/
theorem exec_fwVerifyComplete_passes (h : s.imageDetail n sig hash = 0) {u : State}
    (hu : { s with mgt := { s.mgt with update := s.mgt.update.map (fun (u : Update) => { u with stage := 3 }) } } = u) :
    exec (.fwVerifyComplete sig hash) s = .next (((u.bootWrite ((s.bootRec.setSlot n 3).setImage n (u.imageAt n 4 4) (u.imageAt n 8
      4))).fwEvent 0x03 0 n 0).emit "pldm" [0x17, 0]) := by
  subst hu
  rw [exec_fwVerifyComplete_found hfind hgo, if_pos h]

/-- R534: one that fails stands in state 6, and its update is over. -/
theorem exec_fwVerifyComplete_fails (h : s.imageDetail n sig hash ≠ 0) : exec (.fwVerifyComplete sig hash) s =
    .next ((({ s with mgt := { s.mgt with update := none } }.bootWrite (s.bootRec.setSlot n 6)).fwEvent 0x04 1 n (s.imageDetail n sig
      hash)).emit "pldm" [0x17, s.imageDetail n sig hash]) := by
  rw [exec_fwVerifyComplete_found hfind hgo, if_neg h]

end

/-! The trial (R537, R538). -/

section
variable {s : State}

theorem State.confirm_eq_none : s.confirm = none ↔
    s.flag rMgtStatus 27 = false ∨ s.bootRec.trial = 255 ∨ s.fld rBrpStatus 27 25 ≠ 1 := by
  simp only [State.confirm, Bool.not_eq_true', ite_eq_left_iff, reduceCtorEq, imp_false, not_not]

/-- R537: the boot pointer after a trial is confirmed. -/
theorem State.confirm_bootRec {t : State} (h : s.confirm = some t) : t.bootRec.active = s.bootRec.trial ∧ t.bootRec.trial = 255 ∧
    (s.bootRec.trial < 2 → t.bootRec.slot s.bootRec.trial = 4) := by
  simp only [State.confirm, Option.ite_none_left_eq_some, Option.some.injEq] at h
  obtain ⟨-, rfl⟩ := h
  have hmgt : ∀ u : State, ((u.fwEvent 0x07 0 s.bootRec.trial 0).lifeCount 8 1).bootRec = u.bootRec := fun u =>
    State.bootRec_of_mgt (u.fwEvent_mgt ..)
  rw [hmgt, State.bootRec_bootWrite]
  refine ⟨by simp, by simp, fun htrial => ?_⟩
  exact (BootRec.slot_setSlot_other htrial _ _).trans (BootRec.slot_setSlot_same _ _)

theorem exec_trialWindowExpiry_fails (hfrom : s.mgt.trialFrom.isSome = true) (hrun : s.flag rMgtStatus 27 = true) :
    exec .trialWindowExpiry s = .next s.trialFails := by
  simp only [exec_trialWindowExpiry, execTrialWindowExpiry, hfrom, hrun, and_self, if_true]

end

/-- R518, R536: the commands of the device's own PLDM type on a path that takes no messages. -/
theorem exec_oem_untaken {s : State} {req : Requester} (h : s.takesMessage req false = false) (off : Nat) (v : Word) (space first count : Nat) :
    ∀ c ∈ [Instr.confirmFirmware req, .coldReset req, .readRegister req off, .writeRegister req off v, .readLifetime req space first count],
      exec c s = .next s := by
  simp only [List.forall_mem_cons, exec_confirmFirmware, execConfirmFirmware, exec_coldReset, execColdReset, exec_readRegister,
    execReadRegister, exec_writeRegister, execWriteRegister, exec_readLifetime, execReadLifetime, State.message_untaken _ h, List.not_mem_nil,
    false_implies, implies_true, and_self]

section
variable {s : State} {req : Requester} (htakes : s.takesMessage req false = true)
include htakes

theorem exec_confirm_other (hown : s.isOwner req = false) : exec (.confirmFirmware req) s = .next ((s.pldmRefuse req 0).notice req) ∧
    exec (.coldReset req) s = .next ((s.pldmRefuse req 0).notice req) := by
  simp only [exec_confirmFirmware, execConfirmFirmware, exec_coldReset, execColdReset, State.message_taken _ htakes, hown, Bool.not_false,
    if_true, and_self]

section
variable (hown : s.isOwner req = true)
include hown

theorem exec_confirmFirmware_none (hconfirm : s.confirm = none) : exec (.confirmFirmware req) s = .next ((s.answer [4]).notice req) := by
  rw [exec_confirmFirmware, execConfirmFirmware, State.message_taken _ htakes]
  simp only [hown, hconfirm, Bool.not_true, Bool.false_eq_true, if_false]

theorem exec_confirmFirmware_confirms {t : State} (hconfirm : s.confirm = some t) :
    exec (.confirmFirmware req) s = .next ((t.answer [0, 0]).notice req) := by
  rw [exec_confirmFirmware, execConfirmFirmware, State.message_taken _ htakes]
  simp only [hown, hconfirm, Bool.not_true, Bool.false_eq_true, if_false]

/-- R522: a cold reset follows the answer by 10 ms. -/
theorem exec_coldReset_owner : exec (.coldReset req) s =
    .next (({ s with mgt := { s.mgt with coldAt := some (s.now.toNat + 640000000) } }.answer [0, 0]).notice req) := by
  rw [exec_coldReset, execColdReset, State.message_taken _ htakes]
  simp only [hown, Bool.not_true, Bool.false_eq_true, if_false]

end

/-! Registers and the lifetime record by message (R522). -/

section
variable {off : Nat} {v : Word}

section
variable (hoff : off < 0x4000000) (halign : off % 4 = 0)
include hoff halign

theorem exec_readRegister_reads :
    exec (.readRegister req off) s = .next (((s.read32 req off).1.answer [0, (s.read32 req off).2]).notice req) := by
  rw [exec_readRegister, execReadRegister, State.message_taken _ htakes, if_neg (by omega)]

/-- R522: the answer says whether the write was taken, and of one that a check turned down why. -/
theorem exec_writeRegister_answers :
    ((s.write32 req off v).2 = none → s.takesWrite req off = true →
      exec (.writeRegister req off v) s = .next (((s.write32 req off v).1.answer [0, 0, 0]).notice req)) ∧
    ((s.write32 req off v).2 = none → s.takesWrite req off = false →
      exec (.writeRegister req off v) s = .next (((s.write32 req off v).1.answer [0, 1, 0]).notice req)) ∧
    (∀ code, (s.write32 req off v).2 = some code →
      exec (.writeRegister req off v) s = .next (((s.write32 req off v).1.answer [0, 1, code]).notice req)) := by
  have hin : ¬(0x4000000 ≤ off ∨ off % 4 ≠ 0) := by omega
  simp only [exec_writeRegister, execWriteRegister, State.message_taken _ htakes, if_neg hin]
  refine ⟨fun hnone htaken => ?_, fun hnone htaken => ?_, fun code hcode => ?_⟩
  · simp only [hnone, htaken, Bool.not_true, b2n, Bool.false_eq_true, if_false]
  · simp only [hnone, htaken, Bool.not_false, b2n, if_true]
  · simp only [hcode]

end

theorem exec_register_refused (h : 0x4000000 ≤ off ∨ off % 4 ≠ 0) :
    exec (.readRegister req off) s = .next ((s.badMessage req 2).notice req) ∧
      exec (.writeRegister req off v) s = .next ((s.badMessage req 2).notice req) := by
  rw [exec_readRegister, execReadRegister, exec_writeRegister, execWriteRegister, State.message_taken _ htakes, State.message_taken _ htakes,
    if_pos h, if_pos h]
  exact ⟨rfl, rfl⟩

end

section
variable {space first count : Nat}

theorem exec_readLifetime_reads (hpos : 0 < count) (hmax : count ≤ 60) (hspace : space ≤ 1) : exec (.readLifetime req space first count) s =
    .next ((s.answer (0 :: (List.range count).map (fun i => s.lifeWord space (first + i)))).notice req) := by
  rw [exec_readLifetime, execReadLifetime, State.message_taken _ htakes, if_neg (by omega)]

theorem exec_readLifetime_refused (h : count = 0 ∨ 60 < count ∨ 1 < space) :
    exec (.readLifetime req space first count) s = .next ((s.badMessage req 2).notice req) := by
  rw [exec_readLifetime, execReadLifetime, State.message_taken _ htakes, if_pos h]

end

end

/-- Settles O59: one lemma for each command and each of its outcomes. -/
theorem firmwareCommands : Obligations.FirmwareCommands := by
  unfold Obligations.FirmwareCommands
  intro s req
  refine ⟨fun h => ⟨exec_update_other h, fun hown hopen hnone => exec_requestUpdate_begins h hown hopen hnone rfl, exec_requestUpdate_closed h,
      exec_download_early h, fun u hown hu hagent hstage => ?download, exec_verifyComplete_found h, exec_verifyComplete_early h,
      exec_activateFirmware_activates h, exec_activateFirmware_refuses h, exec_cancelUpdate_owner h, exec_getStatus_taken h⟩,
    exec_update_untaken, exec_oem_untaken, fun id => ⟨rfl, fun _ => s.compVersion_takeOver⟩,
    fun n _ _ hfind hgo => ⟨fun h => exec_fwVerifyComplete_passes hfind hgo h rfl, exec_fwVerifyComplete_fails hfind hgo⟩,
    fun h => ⟨exec_confirm_other h, exec_confirmFirmware_none h, fun hown _ => exec_confirmFirmware_confirms h hown, exec_coldReset_owner h,
      fun _ => exec_readRegister_reads h, fun _ _ => exec_writeRegister_answers h, fun _ _ => exec_register_refused h,
      fun _ _ _ => exec_readLifetime_reads h, fun _ _ _ => exec_readLifetime_refused h⟩,
    ⟨State.confirm_eq_none, fun _ => State.confirm_bootRec⟩, exec_trialWindowExpiry_fails⟩
  case download =>
    have hat := State.updateAt_of_update hu hagent hstage
    exact ⟨exec_passComponentTable_found h hown hat, exec_updateComponent_found h hown hat hu,
      fun off data hcomp hlen hend => ⟨_, exec_firmwareDataResponse_stores h hown hat hu hcomp hlen hend rfl, rfl⟩,
      fun off data => exec_firmwareDataResponse_refuses h hown hat hu, exec_transferComplete_more h hown hat hu,
      exec_transferComplete_last h hown hat hu rfl, exec_cancelUpdateComponent_found h hown hat hu⟩

end Sys2Proof.Machine

/-!
The management interfaces (15_management R517 to R524): common command codes of the I3C targets, MCTP control messages, and the queries of
PLDM and SPDM with what they set.
-/
namespace Sys2Proof.Machine

/-! Common command codes of a target (R517 to R520). -/

section
variable {s : State} {t : Fin 2}

/-- R518: a direct code to a target with a dynamic address. -/
theorem State.direct_addressed {i : Nat} (f : State → State) (h : s.flag (rI3c i) 31 = true) : s.direct i f = .next (f s) :=
  congrArg Host.Outcome.next (if_pos h)

/-- R518: a target without a dynamic address acknowledges no direct code. -/
theorem State.direct_unaddressed {i : Nat} (f : State → State) (h : s.flag (rI3c i) 31 = false) : s.direct i f = .next (s.answer []) :=
  congrArg Host.Outcome.next (if_neg (ne_true_of_eq_false h))

/-- R519, R520: the answers of a target with a dynamic address. -/
theorem exec_getCodes_addressed (h : s.flag (rI3c t.val) 31 = true) :
    exec (.getpid t) s = .next (s.answer [0x02A7 * 2 ^ 33 + 0x0A71 * 2 ^ 16 + s.brp.slotId * 2 ^ 12 + t.val * 2 ^ 11 + s.fld (rI3c t.val) 10 0]) ∧
    exec (.getbcr t) s = .next (s.answer [0x07]) ∧ exec (.getdcr t) s = .next (s.answer [0xCC]) ∧
    exec (.getstatus t) s = .next (s.drawn.answer [s.free % 65536]) ∧ exec (.getmxds t) s = .next (s.answer [0, 0]) ∧
    exec (.getmrl t) s = .next (s.answer [(s.i3c t.val).mrl]) ∧ exec (.getmwl t) s = .next (s.answer [(s.i3c t.val).mwl]) := by
  simp only [exec_getpid, execGetpid, State.provisionedId, exec_getbcr, execGetbcr, exec_getdcr, execGetdcr, exec_getstatus, execGetstatus,
    exec_getmxds, execGetmxds, exec_getmrl, execGetmrl, exec_getmwl, execGetmwl, State.direct_addressed _ h, and_self]

theorem exec_getCodes_unaddressed (h : s.flag (rI3c t.val) 31 = false) :
    ∀ c ∈ [Instr.getpid t, .getbcr t, .getdcr t, .getstatus t, .getmxds t, .getmrl t, .getmwl t], exec c s = .next (s.answer []) := by
  simp only [List.forall_mem_cons, exec_getpid, execGetpid, exec_getbcr, execGetbcr, exec_getdcr, execGetdcr, exec_getstatus, execGetstatus,
    exec_getmxds, execGetmxds, exec_getmrl, execGetmrl, exec_getmwl, execGetmwl, State.direct_unaddressed _ h, List.not_mem_nil,
    false_implies, implies_true, and_self]

/-- R520: the limits of the length of a read and of a write are 69 to 260 bytes. -/
theorem exec_setLimits {n : Nat} (hlow : 69 ≤ n) (hhigh : n ≤ 260) :
    exec (.setmrl t n) s = .next (s.setI3c t.val { s.i3c t.val with mrl := n }) ∧
      exec (.setmwl t n) s = .next (s.setI3c t.val { s.i3c t.val with mwl := n }) := by
  simp only [exec_setmrl, execSetmrl, exec_setmwl, execSetmwl, hlow, hhigh, and_self, if_true]

theorem exec_setLimits_beyond {n : Nat} (h : n < 69 ∨ 260 < n) : exec (.setmrl t n) s = .next s ∧ exec (.setmwl t n) s = .next s := by
  have hnot : ¬(69 ≤ n ∧ n ≤ 260) := by omega
  simp only [exec_setmrl, execSetmrl, exec_setmwl, execSetmwl, if_neg hnot, and_self]

theorem exec_entdaa_addressed (h : s.flag (rI3c t.val) 31 = true) (a : Fin 128) : exec (.entdaa t a) s = .next s := by
  simp only [exec_entdaa, execEntdaa, h, if_true]

theorem exec_entdaa_joins (h : s.flag (rI3c t.val) 31 = false) (a : Fin 128) : exec (.entdaa t a) s =
    .next ((((s.setFlag (rI3c t.val) 31 true).setFld (rI3c t.val) 30 24 a.val).setI3c t.val { s.i3c t.val with joined := true }).addrEvent t.val
      a.val) := by
  simp only [exec_entdaa, execEntdaa, h, Bool.false_eq_true, if_false]

/-- R518, R519: RSTDAA drops the address; a target without a strapped slot draws the random part of its ID again. -/
theorem exec_rstdaa_drops {u : State} (hu : (s.setFlag (rI3c t.val) 31 false).setFld (rI3c t.val) 30 24 0 = u) :
    (s.brp.slotId ≠ 15 → exec (.rstdaa t) s = .next ((u.addrEvent t.val 0).ownerEnds (t.val + 1) 0)) ∧
    (s.brp.slotId = 15 → exec (.rstdaa t) s =
      .next (((u.drawn.setFld (rI3c t.val) 10 0 (u.free % 2048)).addrEvent t.val 0).ownerEnds (t.val + 1) 0)) := by
  have hslot : u.brp.slotId = s.brp.slotId := by rw [← hu]; rfl
  rw [exec_rstdaa, execRstdaa, hu]
  dsimp only
  rw [hslot]
  exact ⟨fun h => by rw [if_neg h], fun h => by rw [if_pos h]⟩

theorem exec_rstact_resets : exec (.rstact t 1) s =
    .next ((s.setI3c t.val { I3cTarget.reset with joined := (s.i3c t.val).joined }).setFlag (rI3c t.val) 19 false) := by
  simp only [exec_rstact, execRstact, if_true]

theorem exec_rstact_nothing {a : Nat} (h : a ≠ 1) : exec (.rstact t a) s = .next s := by
  simp only [exec_rstact, execRstact, h, if_false]

theorem exec_i3cHotJoin_requests (haddr : s.flag (rI3c t.val) 31 = false) (hjoin : (s.i3c t.val).hotJoin = true) :
    exec (.i3cHotJoin t) s = .next (s.emit "i3c-hot-join" [t.val]) := by
  simp only [exec_i3cHotJoin, execI3cHotJoin, haddr, hjoin, Bool.not_false, Bool.and_self, if_true]

theorem exec_i3cHotJoin_silent (h : s.flag (rI3c t.val) 31 = true ∨ (s.i3c t.val).hotJoin = false) : exec (.i3cHotJoin t) s = .next s := by
  have hnot : (!s.flag (rI3c t.val) 31 && (s.i3c t.val).hotJoin) = false := by
    rcases h with h | h <;> simp [h]
  simp only [exec_i3cHotJoin, execI3cHotJoin, hnot, Bool.false_eq_true, if_false]

end

/-! MCTP control messages (R518, R521). -/

section
variable {s : State} {req : Requester} {eid : Nat}

/-- R518: the paths that carry MCTP control messages. -/
theorem State.reached_iff : s.reached req = true ↔
    (req = .mgmtA ∧ s.flag rMgtI3cA 31 = true) ∨ (req = .mgmtB ∧ s.flag rMgtI3cB 31 = true) ∨ ∃ n, req = .fabric n := by
  cases req <;> simp [State.reached]

theorem exec_setEndpointId_unreached (h : s.reached req = false) : exec (.setEndpointId req eid) s = .next s := by
  simp only [exec_setEndpointId, execSetEndpointId, h, Bool.not_false, if_true]

theorem exec_setEndpointId_refused (h : s.reached req = true) (heid : eid = 0 ∨ 255 < eid) :
    exec (.setEndpointId req eid) s = .next ((s.answer [2]).notice req) := by
  simp only [exec_setEndpointId, execSetEndpointId, h, heid, Bool.not_true, Bool.false_eq_true, if_false, if_true]

/-- R521: the EID of each path. -/
theorem exec_setEndpointId_sets (hpos : 0 < eid) (hlt : eid < 256) :
    (s.flag rMgtI3cA 31 = true → exec (.setEndpointId .mgmtA eid) s = .next (((s.setFld rMgtEid 23 16 eid).answer [0, eid]).notice .mgmtA)) ∧
    (s.flag rMgtI3cB 31 = true → exec (.setEndpointId .mgmtB eid) s = .next (((s.setFld rMgtEid 15 8 eid).answer [0, eid]).notice .mgmtB)) ∧
    ∀ n, exec (.setEndpointId (.fabric n) eid) s = .next ((s.setFld rMgtEid 7 0 eid).answer [0, eid]) := by
  have heid : ¬(eid = 0 ∨ 255 < eid) := by omega
  refine ⟨fun h => ?_, fun h => ?_, fun n => ?_⟩
  · simp only [exec_setEndpointId, execSetEndpointId, State.reached, h, if_neg heid, Bool.not_true, Bool.false_eq_true, if_false]
  · simp only [exec_setEndpointId, execSetEndpointId, State.reached, h, if_neg heid, Bool.not_true, Bool.false_eq_true, if_false]
  · simp only [exec_setEndpointId, execSetEndpointId, State.reached, if_neg heid, Bool.not_true, Bool.false_eq_true, if_false]

theorem exec_getEndpointId_unreached (h : s.reached req = false) : exec (.getEndpointId req) s = .next s := by
  simp only [exec_getEndpointId, execGetEndpointId, h, Bool.false_eq_true, if_false]

theorem exec_getEndpointId_reached (h : s.reached req = true) :
    exec (.getEndpointId req) s = .next ((s.answer [0, s.eidOf req]).notice req) := by
  simp only [exec_getEndpointId, execGetEndpointId, h, if_true]

end

/-! PLDM base and SPDM, which a path takes in recovery mode too (R522, R524). -/

section
variable {s : State} {req : Requester} (htakes : s.takesMessage req true = true)
include htakes

theorem exec_setTid_sets {n : Nat} (hpos : 0 < n) (hmax : n ≤ 254) :
    exec (.setTid req n) s = .next (({ s with mgt := { s.mgt with tid := n } }.answer [0]).notice req) := by
  rw [exec_setTid, execSetTid, State.message_taken _ htakes, if_neg (by omega)]

theorem exec_setTid_refused {n : Nat} (h : n = 0 ∨ 254 < n) : exec (.setTid req n) s = .next ((s.answer [2]).notice req) := by
  rw [exec_setTid, execSetTid, State.message_taken _ htakes, if_pos h]

/-- R522: a PLDM type that the device has. -/
theorem exec_pldmType_known {ty : Nat} (h : ty ∈ [0, 2, 5, 0x3F]) :
    exec (.getPldmCommands req ty) s = .next ((s.answer (0 :: pldmCommands ty)).notice req) ∧
      exec (.getPldmVersion req ty) s = .next ((s.drawn.answer [0, s.free % 2 ^ 32]).notice req) := by
  have hsome : (pldmCommands ty).isEmpty = false := by
    simp only [List.mem_cons, List.not_mem_nil, or_false] at h
    rcases h with rfl | rfl | rfl | rfl <;> rfl
  simp only [exec_getPldmCommands, execGetPldmCommands, exec_getPldmVersion, execGetPldmVersion, State.message_taken _ htakes, hsome,
    Bool.false_eq_true, if_false, and_self]

theorem exec_pldmType_unknown {ty : Nat} (h : ty ∉ [0, 2, 5, 0x3F]) :
    exec (.getPldmCommands req ty) s = .next ((s.badMessage req 2).notice req) ∧
      exec (.getPldmVersion req ty) s = .next ((s.badMessage req 2).notice req) := by
  have hnone : (pldmCommands ty).isEmpty = true := by
    unfold pldmCommands
    split
    case h_5 => rfl
    all_goals exact absurd (by decide) h
  simp only [exec_getPldmCommands, execGetPldmCommands, exec_getPldmVersion, execGetPldmVersion, State.message_taken _ htakes, hnone, if_true,
    and_self]

/-- R524: ECDSA P-384 with SHA-384, after the version. -/
theorem exec_negotiateAlgorithms_agrees {e h : Bool} (hall : s.spdm req ≠ 0 ∧ e = true ∧ h = true) :
    exec (.negotiateAlgorithms req e h) s = .next (((s.setSpdm req 2).answer [1, 1]).notice req) := by
  obtain ⟨hspdm, he, hh⟩ := hall
  rw [exec_negotiateAlgorithms, execNegotiateAlgorithms, State.message_taken _ htakes, if_pos ⟨he, hh, hspdm⟩]

theorem exec_negotiateAlgorithms_refused {e h : Bool} (hany : s.spdm req = 0 ∨ e = false ∨ h = false) :
    exec (.negotiateAlgorithms req e h) s = .next ((s.answer []).notice req) := by
  have hnot : ¬(e = true ∧ h = true ∧ s.spdm req ≠ 0) := by
    rintro ⟨rfl, rfl, hspdm⟩
    simp [hspdm] at hany
  rw [exec_negotiateAlgorithms, execNegotiateAlgorithms, State.message_taken _ htakes, if_neg hnot]

theorem exec_getCertificate_part (off len : Nat) :
    ∃ l, exec (.getCertificate req 0 off len) s = .next ((s.answer l).notice req) ∧ l.length = len ∧ ∀ b ∈ l, b < 256 := by
  rw [exec_getCertificate, execGetCertificate, State.message_taken _ htakes, if_pos rfl]
  exact ⟨_, rfl, by rw [List.length_map, List.length_range], List.forall_mem_map.mpr fun _ _ => Nat.mod_lt _ (by decide)⟩

theorem exec_getCertificate_empty {slot : Nat} (h : slot ≠ 0) (off len : Nat) :
    exec (.getCertificate req slot off len) s = .next ((s.answer []).notice req) := by
  rw [exec_getCertificate, execGetCertificate, State.message_taken _ htakes, if_neg h]

theorem exec_challenge_early (h : s.spdm req ≠ 2) (n : Nat) : exec (.challenge req n) s = .next ((s.answer []).notice req) := by
  rw [exec_challenge, execChallenge, State.message_taken _ htakes, if_neg h]

theorem exec_challenge_signs (h : s.spdm req = 2) (n : Nat) :
    ∃ l, exec (.challenge req n) s = .next ((s.answer l).notice req) ∧ l.length = 2 := by
  rw [exec_challenge, execChallenge, State.message_taken _ htakes, if_pos h]
  exact ⟨_, rfl, rfl⟩

theorem exec_getMeasurements_refused {i : Nat} (h : s.spdm req ≠ 2 ∨ i = 0 ∨ 8 < i) (n : Nat) :
    exec (.getMeasurements req i n) s = .next ((s.answer []).notice req) := by
  rw [exec_getMeasurements, execGetMeasurements, State.message_taken _ htakes, if_pos h]

/-- R524: a measurement block with its signature. -/
theorem exec_getMeasurements_signs {i : Nat} (h : s.spdm req = 2) (hpos : 1 ≤ i) (hmax : i ≤ 8) (n : Nat) :
    ∃ l, exec (.getMeasurements req i n) s = .next ((s.answer (s.measurement i ++ l)).notice req) ∧ l.length = 2 := by
  rw [exec_getMeasurements, execGetMeasurements, State.message_taken _ htakes, if_neg (by omega)]
  exact ⟨_, rfl, rfl⟩

/-- R524: the digest of the chain of slot 0 is a SHA-384 value. -/
theorem exec_getDigests_hash : ∃ v, exec (.getDigests req) s = .next ((s.answer [0, v]).notice req) ∧ v < 2 ^ 384 := by
  rw [exec_getDigests, execGetDigests, State.message_taken _ htakes]
  exact ⟨_, rfl, Nat.mod_lt _ (by positivity)⟩

/-- R522, R524: the queries that always have one answer. -/
theorem exec_queries_basic :
    exec (.getTid req) s = .next ((s.answer [0, s.mgt.tid]).notice req) ∧
    exec (.getPldmTypes req) s = .next ((s.answer [0, 0, 2, 5, 0x3F]).notice req) ∧
    exec (.queryDeviceIdentifiers req) s = .next ((s.answer [0, (s.reg (rHstId 0)).toNat / 65536, s.fuses.serial.toNat]).notice req) ∧
    exec (.getFirmwareParameters req) s =
      .next ((s.answer [0, s.bootRec.ver s.bootRec.active, s.bootRec.ver (1 - s.bootRec.active)]).notice req) ∧
    exec (.getVersion req) s = .next (((s.setSpdm req 1).answer [0x13]).notice req) ∧
    exec (.getCapabilities req) s = .next ((s.answer [7]).notice req) := by
  simp only [exec_getTid, execGetTid, exec_getPldmTypes, execGetPldmTypes, exec_queryDeviceIdentifiers, execQueryDeviceIdentifiers,
    exec_getFirmwareParameters, execGetFirmwareParameters, exec_getVersion, execGetVersion, exec_getCapabilities, execGetCapabilities,
    State.message_taken _ htakes, and_self]

end

/-- R518: these queries on a path that takes no messages. -/
theorem exec_queries_untaken {s : State} {req : Requester} (htakes : s.takesMessage req true = false) (n : Nat) (e h : Bool)
    (slot off len i : Nat) :
    ∀ c ∈ [Instr.getTid req, .setTid req n, .getPldmTypes req, .getPldmCommands req n, .getPldmVersion req n, .queryDeviceIdentifiers req,
      .getFirmwareParameters req, .getVersion req, .getCapabilities req, .negotiateAlgorithms req e h, .getDigests req,
      .getCertificate req slot off len, .challenge req n, .getMeasurements req i n], exec c s = .next s := by
  simp only [List.forall_mem_cons, exec_getTid, execGetTid, exec_setTid, execSetTid, exec_getPldmTypes, execGetPldmTypes,
    exec_getPldmCommands, execGetPldmCommands, exec_getPldmVersion, execGetPldmVersion, exec_queryDeviceIdentifiers,
    execQueryDeviceIdentifiers, exec_getFirmwareParameters, execGetFirmwareParameters, exec_getVersion, execGetVersion,
    exec_getCapabilities, execGetCapabilities, exec_negotiateAlgorithms, execNegotiateAlgorithms, exec_getDigests, execGetDigests,
    exec_getCertificate, execGetCertificate, exec_challenge, execChallenge, exec_getMeasurements, execGetMeasurements,
    State.message_untaken _ htakes, List.not_mem_nil, false_implies, implies_true, and_self]

/-! PLDM monitoring (R523). -/

/-- R523: the records: five numeric sensors, the temperature sensors, the arrays, three more state sensors and two effecters. -/
theorem length_pdrs : pdrs.length = 334 := by
  simp only [pdrs, List.length_append, List.length_map, List.length_range, List.length_cons, List.length_nil]

section
variable {s : State}

theorem State.numericSensor_temp {k : Nat} (hk : k < 306) : s.numericSensor (0x100 + k) = some (s.fld (rPwrTemp k) 15 0) := by
  rw [State.numericSensor, if_neg (by omega), if_neg (by omega), if_neg (by omega), if_neg (by omega), if_neg (by omega),
    if_pos (by omega), Nat.add_sub_cancel_left]

theorem State.numericSensor_unknown {id : Nat} (h : id = 0 ∨ (5 < id ∧ id < 0x100) ∨ 0x232 ≤ id) : s.numericSensor id = none := by
  rw [State.numericSensor, if_neg (by omega), if_neg (by omega), if_neg (by omega), if_neg (by omega), if_neg (by omega), if_neg (by omega)]

theorem State.stateSensor_array {p : Nat} (hp : p < 18) : s.stateSensor (0x200 + p) =
    some [if s.fld (rChkArray p) 31 30 = 0 then (if (s.logOf p).isSome then 0 else 1) else s.fld (rChkArray p) 31 30 + 1] := by
  rw [State.stateSensor, if_pos (by omega), Nat.add_sub_cancel_left]

theorem State.stateSensor_unknown {id : Nat} (h : id < 0x200 ∨ (0x212 ≤ id ∧ id < 0x300) ∨ 0x303 ≤ id) : s.stateSensor id = none := by
  rw [State.stateSensor, if_neg (by omega), if_neg (by omega), if_neg (by omega), if_neg (by omega)]

end

section
variable {s : State} {req : Requester} (htakes : s.takesMessage req false = true)
include htakes

theorem exec_getPdr_record {n : Nat} {y : Nat × Nat} (h : pdrs[n]? = some y) :
    exec (.getPdr req n) s = .next ((s.answer [0, y.1, y.2]).notice req) := by
  rw [exec_getPdr, execGetPdr, State.message_taken _ htakes, h]

theorem exec_getPdr_beyond {n : Nat} (h : 334 ≤ n) : exec (.getPdr req n) s = .next ((s.badMessage req 0x80).notice req) := by
  rw [exec_getPdr, execGetPdr, State.message_taken _ htakes, List.getElem?_eq_none (length_pdrs.le.trans h)]

theorem exec_getSensorReading_known {id v : Nat} (h : s.numericSensor id = some v) :
    exec (.getSensorReading req id) s = .next ((s.answer [0, v]).notice req) := by
  rw [exec_getSensorReading, execGetSensorReading, State.message_taken _ htakes, h]

theorem exec_getSensorReading_unknown {id : Nat} (h : s.numericSensor id = none) :
    exec (.getSensorReading req id) s = .next ((s.badMessage req 0x80).notice req) := by
  rw [exec_getSensorReading, execGetSensorReading, State.message_taken _ htakes, h]

/-- R523: the device's own numeric sensors. -/
theorem exec_getSensorReading_device : ∀ r ∈ [(1, s.fld rPwrInP 15 0), (2, s.fld rPwrInV 15 0), (3, s.fld rPwrInI 15 0),
    (4, s.fld rPwrCapEff 15 0), (5, s.fld rPwrThermMax 15 0)],
    exec (.getSensorReading req r.1) s = .next ((s.answer [0, r.2]).notice req) := by
  simp only [List.forall_mem_cons]
  exact ⟨exec_getSensorReading_known htakes rfl, exec_getSensorReading_known htakes rfl, exec_getSensorReading_known htakes rfl,
    exec_getSensorReading_known htakes rfl, exec_getSensorReading_known htakes rfl, fun _ h => absurd h List.not_mem_nil⟩

theorem exec_getStateSensorReadings_known {id : Nat} {v : List Nat} (h : s.stateSensor id = some v) :
    exec (.getStateSensorReadings req id) s = .next ((s.answer (0 :: v)).notice req) := by
  rw [exec_getStateSensorReadings, execGetStateSensorReadings, State.message_taken _ htakes, h]

theorem exec_getStateSensorReadings_unknown {id : Nat} (h : s.stateSensor id = none) :
    exec (.getStateSensorReadings req id) s = .next ((s.badMessage req 0x80).notice req) := by
  rw [exec_getStateSensorReadings, execGetStateSensorReadings, State.message_taken _ htakes, h]

/-- R523, R530: the owner sets the granted cap or the rack floor, as a write of their registers does. -/
theorem exec_setNumericEffecterValue_owner (hown : s.isOwner req = true) (v : Nat) :
    exec (.setNumericEffecterValue req 0x400 v) s =
      .next (((s.regWrite req rPwrCapGrant (v % 2 ^ 32) capGrantReg).answer [0]).notice req) ∧
    exec (.setNumericEffecterValue req 0x401 v) s =
      .next (((s.regWrite req rPwrRack (setBits (s.reg rPwrRack).toNat 15 0 (v % 65536)) rackReg).answer [0]).notice req) := by
  simp only [exec_setNumericEffecterValue, execSetNumericEffecterValue, State.message_taken _ htakes, hown, ne_eq, not_true_eq_false, and_false,
    false_and, Bool.not_true, Bool.false_eq_true, Nat.reduceEqDiff, if_false, if_true, and_self]

theorem exec_setNumericEffecterValue_other (hown : s.isOwner req = false) (v : Nat) :
    ∀ id ∈ [0x400, 0x401], exec (.setNumericEffecterValue req id v) s = .next ((s.pldmRefuse req v).notice req) := by
  simp only [List.forall_mem_cons, exec_setNumericEffecterValue, execSetNumericEffecterValue, State.message_taken _ htakes, hown, ne_eq,
    not_true_eq_false, and_false, false_and, Bool.not_false, if_false, if_true, List.not_mem_nil, false_implies, implies_true, and_self]

theorem exec_effecter_unknown {id : Nat} (hgrant : id ≠ 0x400) (hrack : id ≠ 0x401) (v : Nat) :
    exec (.setNumericEffecterValue req id v) s = .next ((s.badMessage req 0x80).notice req) ∧
      exec (.getNumericEffecterValue req id) s = .next ((s.badMessage req 0x80).notice req) := by
  simp only [exec_setNumericEffecterValue, execSetNumericEffecterValue, exec_getNumericEffecterValue, execGetNumericEffecterValue,
    State.message_taken _ htakes, hgrant, hrack, ne_eq, not_false_eq_true, and_self, if_true, if_false]

/-- R523: the queries of monitoring that always have one answer. -/
theorem exec_queries_monitoring :
    exec (.getPdrRepositoryInfo req) s = .next ((s.answer [0, 334]).notice req) ∧
    exec (.getNumericEffecterValue req 0x400) s = .next ((s.answer [0, s.fld rPwrCapGrant 15 0]).notice req) ∧
    exec (.getNumericEffecterValue req 0x401) s = .next ((s.answer [0, s.fld rPwrRack 15 0]).notice req) ∧
    exec (.setEventReceiver req) s = .next (({ s with mgt := { s.mgt with receiver := some (pathOf req) } }.answer [0]).notice req) := by
  simp only [exec_getPdrRepositoryInfo, execGetPdrRepositoryInfo, length_pdrs, exec_getNumericEffecterValue, execGetNumericEffecterValue,
    exec_setEventReceiver, execSetEventReceiver, State.message_taken _ htakes, Nat.reduceEqDiff, if_true, if_false, and_self]

theorem exec_eventMessageBufferSize_sets (n : Nat) : exec (.eventMessageBufferSize req n) s =
    .next (({ s with mgt := { s.mgt with bufSize := n } }.answer [0, n]).notice req) := by
  rw [exec_eventMessageBufferSize, execEventMessageBufferSize, State.message_taken _ htakes]

end

/-- R518, R536: monitoring on a path that takes no messages. -/
theorem exec_monitoring_untaken {s : State} {req : Requester} (h : s.takesMessage req false = false) (n v : Nat) :
    ∀ c ∈ [Instr.getPdrRepositoryInfo req, .getPdr req n, .getSensorReading req n, .getStateSensorReadings req n,
      .setNumericEffecterValue req n v, .getNumericEffecterValue req n, .setEventReceiver req, .eventMessageBufferSize req n],
      exec c s = .next s := by
  simp only [List.forall_mem_cons, exec_getPdrRepositoryInfo, execGetPdrRepositoryInfo, exec_getPdr, execGetPdr, exec_getSensorReading,
    execGetSensorReading, exec_getStateSensorReadings, execGetStateSensorReadings, exec_setNumericEffecterValue, execSetNumericEffecterValue,
    exec_getNumericEffecterValue, execGetNumericEffecterValue, exec_setEventReceiver, execSetEventReceiver, exec_eventMessageBufferSize,
    execEventMessageBufferSize, State.message_untaken _ h, List.not_mem_nil, false_implies, implies_true, and_self]

/-- Settles O60: one lemma for each command and each of its outcomes, by the interface it belongs to. -/
theorem managementQueries : Obligations.ManagementQueries := by
  unfold Obligations.ManagementQueries
  intro s req t
  refine ⟨exec_getCodes_addressed, exec_getCodes_unaddressed, fun n => ⟨exec_setLimits, exec_setLimits_beyond⟩,
    fun a => ⟨fun h => exec_entdaa_addressed h a, fun h => exec_entdaa_joins h a⟩, exec_rstdaa_drops rfl,
    fun i h => ⟨exec_enec t i h s, exec_disec t i h s⟩, ⟨exec_rstact_resets, fun _ => exec_rstact_nothing⟩,
    ⟨exec_i3cHotJoin_requests, exec_i3cHotJoin_silent⟩,
    fun eid => ⟨exec_setEndpointId_unreached, exec_setEndpointId_refused, exec_setEndpointId_sets⟩, ?endpoint, State.reached_iff,
    fun h => ?basic, exec_queries_untaken, fun h => ?monitoring, exec_monitoring_untaken⟩
  case endpoint =>
    exact ⟨exec_getEndpointId_unreached, fun h => exec_getEndpointId_reached h, fun h => exec_getEndpointId_reached h,
      fun n => exec_getEndpointId_reached rfl, exec_getMessageTypeSupport s, exec_getMctpVersionSupport s,
      ⟨_, exec_getEndpointUuid s, Nat.mod_lt _ (Nat.two_pow_pos _)⟩⟩
  case basic =>
    obtain ⟨htid, htypes, hdevice, hparams, hversion, hcaps⟩ := exec_queries_basic h
    exact ⟨htid, fun n => ⟨exec_setTid_sets h, exec_setTid_refused h⟩, htypes, fun _ => exec_pldmType_known h, fun _ => exec_pldmType_unknown h,
      hdevice, hparams, hversion, hcaps, fun _ _ => ⟨exec_negotiateAlgorithms_agrees h, exec_negotiateAlgorithms_refused h⟩,
      exec_getDigests_hash h, exec_getCertificate_part h,
      fun _ off len hslot => exec_getCertificate_empty h hslot off len,
      fun n i hspdm => ⟨exec_challenge_early h hspdm n, exec_getMeasurements_refused h (.inl hspdm) n⟩,
      fun hspdm n => ⟨exec_challenge_signs h hspdm n, fun _ hpos hmax => exec_getMeasurements_signs h hspdm hpos hmax n,
        fun _ hi => exec_getMeasurements_refused h (.inr hi) n⟩⟩
  case monitoring =>
    obtain ⟨hinfo, hgrant, hrack, hreceiver⟩ := exec_queries_monitoring h
    exact ⟨hinfo, fun _ _ => exec_getPdr_record h, fun _ => exec_getPdr_beyond h, exec_getSensorReading_device h,
      fun _ hk => exec_getSensorReading_known h (State.numericSensor_temp hk),
      fun _ hid => exec_getSensorReading_unknown h (State.numericSensor_unknown hid),
      fun _ hp => exec_getStateSensorReadings_known h (State.stateSensor_array hp), exec_getStateSensorReadings_known h rfl,
      exec_getStateSensorReadings_known h rfl, exec_getStateSensorReadings_known h rfl,
      fun _ hid => exec_getStateSensorReadings_unknown h (State.stateSensor_unknown hid),
      fun v hown => exec_setNumericEffecterValue_owner h hown v, fun v hown => exec_setNumericEffecterValue_other h hown v, ⟨hgrant, hrack⟩,
      fun _ v hne hne' => exec_effecter_unknown h hne hne' v, hreceiver, exec_eventMessageBufferSize_sets h⟩

end Sys2Proof.Machine

/-!
Input power (13_power R447, R448, R458, R459, R463, R466, R483, R557): what an input sample shows, power fail and shutdown, the current limit,
the hard brake, and the rack's request to throttle.
-/
namespace Sys2Proof.Machine

/-! A state with another power part, or with another bring-up part as well: its registers and its arrays stand. -/

def State.withPower (s : State) (p : PowerState) : State := { s with power := p }

def State.withDown (s : State) (p : PowerState) (b : BrpState) : State := { s with power := p, brp := b }

section
variable (s : State) (p : PowerState) (b : BrpState)

@[simp] theorem State.withPower_power : (s.withPower p).power = p := rfl
@[simp] theorem State.withPower_now : (s.withPower p).now = s.now := rfl
@[simp] theorem State.withPower_arr (i : Nat) : (s.withPower p).arr i = s.arr i := rfl
@[simp] theorem State.withPower_reg (off : Nat) : (s.withPower p).reg off = s.reg off := rfl
@[simp] theorem State.withPower_reg64 (off : Nat) : (s.withPower p).reg64 off = s.reg64 off := rfl
@[simp] theorem State.withPower_fld (off hi lo : Nat) : (s.withPower p).fld off hi lo = s.fld off hi lo := rfl
@[simp] theorem State.withPower_flag (off i : Nat) : (s.withPower p).flag off i = s.flag off i := rfl
@[simp] theorem State.withDown_power : (s.withDown p b).power = p := rfl
@[simp] theorem State.withDown_brp : (s.withDown p b).brp = b := rfl
@[simp] theorem State.withDown_dom (d : Nat) : (s.withDown p b).dom d = s.dom d := rfl

end

theorem State.arr_setFlag (s : State) (off i : Nat) (b : Bool) (p : Nat) : (s.setFlag off i b).arr p = s.arr p := rfl

/-! The power domains (R451). -/

theorem State.dom_setDom_same (s : State) (d x : Nat) : (s.setDom d x).dom d = x % 8 := s.fld_setFld_same _ _ _ _ (by decide) (by decide)

theorem State.dom_setDom_other (s : State) {d e : Nat} (x : Nat) (h : e ≠ d) : (s.setDom d x).dom e = s.dom e :=
  s.fld_setFld_reg _ _ _ _ _ (by simp only [rPwrDom]; omega)

/-- R448, R473: the first n domains are off, but those that are retired. -/
def State.firstOff (s : State) (n : Nat) : State :=
  (List.range n).foldl (fun s d => if s.dom d = 5 then s else (s.setDom d 0).setFld (rPwrDom d) 23 16 0) s

theorem State.firstOff_succ (s : State) (n : Nat) : s.firstOff (n + 1) =
    if (s.firstOff n).dom n = 5 then s.firstOff n else ((s.firstOff n).setDom n 0).setFld (rPwrDom n) 23 16 0 := by
  rw [State.firstOff, List.range_succ, List.foldl_append]; rfl

theorem State.firstOff_dom (s : State) (n d : Nat) : (s.firstOff n).dom d = if d < n ∧ s.dom d ≠ 5 then 0 else s.dom d := by
  induction n with
  | zero => rfl
  | succ n ih =>
    rw [State.firstOff_succ]
    by_cases hd : d = n
    · subst hd
      rw [if_neg (by omega)] at ih
      rw [ih]
      by_cases h5 : s.dom d = 5
      · rw [if_pos h5, ih, if_neg (by simp [h5])]
      · rw [if_neg h5, State.dom_setFld_setpoint, State.dom_setDom_same, if_pos ⟨Nat.lt_succ_self d, h5⟩]
    · simp only [show d < n + 1 ↔ d < n by omega]
      rw [← ih]
      split
      · rfl
      · rw [State.dom_setFld_setpoint, State.dom_setDom_other _ _ hd]

/-- R448: what every domain is off leaves of each. -/
theorem State.domainsOff_dom (s : State) {d : Nat} (hd : d < 334) : s.domainsOff.dom d = if s.dom d = 5 then 5 else 0 := by
  refine (s.firstOff_dom 334 d).trans ?_
  by_cases h5 : s.dom d = 5
  · simp [h5]
  · simp [h5, hd]

theorem State.domainsOff_dom_or (s : State) {d : Nat} (hd : d < 334) : s.domainsOff.dom d = 0 ∨ s.domainsOff.dom d = 5 := by
  rw [s.domainsOff_dom hd]
  split
  · exact .inr rfl
  · exact .inl rfl

/-! Every array changed alike. -/

/-- Every array of the device changed alike. -/
def State.modEach (s : State) (f : ArrayState → ArrayState) : State := (List.range 18).foldl (fun s p => s.modArr p f) s

theorem foldl_modArr_arr (f : ArrayState → ArrayState) (s : State) (n p : Nat) :
    ((List.range n).foldl (fun s q => s.modArr q f) s).arr p = if p < n then f (s.arr p) else s.arr p := by
  induction n with
  | zero => rfl
  | succ n ih =>
    rw [List.range_succ, List.foldl_append, List.foldl_cons, List.foldl_nil]
    by_cases hp : p = n
    · subst hp
      rw [State.arr_modArr_same, ih, if_neg (Nat.lt_irrefl p), if_pos (Nat.lt_succ_self p)]
    · rw [State.arr_modArr_other _ _ hp, ih]
      simp only [show p < n + 1 ↔ p < n by omega]

section
variable (s : State) (f : ArrayState → ArrayState)

theorem State.modEach_arr {p : Nat} (hp : p < 18) : (s.modEach f).arr p = f (s.arr p) :=
  (foldl_modArr_arr f s 18 p).trans (if_pos hp)

theorem State.modEach_unchanged {γ : Type} (g : State → γ) (hg : ∀ t p, g (State.modArr t p f) = g t) : g (s.modEach f) = g s :=
  foldl_unchanged g hg _ s

@[simp] theorem State.modEach_power : (s.modEach f).power = s.power := s.modEach_unchanged f State.power fun _ _ => rfl
@[simp] theorem State.modEach_reg (off : Nat) : (s.modEach f).reg off = s.reg off :=
  s.modEach_unchanged f (fun t => t.reg off) fun _ _ => rfl
@[simp] theorem State.modEach_flag (off i : Nat) : (s.modEach f).flag off i = s.flag off i :=
  s.modEach_unchanged f (fun t => t.flag off i) fun _ _ => rfl

end

/-! An input sample (R483). -/

section
variable (s : State) (mv cur : Nat)

/-- R483: the registers of a sample: the input's voltage, its current and the two warnings of the status. -/
def State.sampleShown : State :=
  (((s.setFld rPwrInV 15 0 (Nat.min 65535 mv)).setFld rPwrInI 15 0 (Nat.min 65535 cur)).setFlag rPwrStatus 22 (decide (mv < 40000))).setFlag
    rPwrStatus 21 (decide (60000 < mv))

theorem State.inputSample_eq : s.inputSample mv cur =
    (s.sampleShown mv cur).withPower { s.power with hist := ((mv, cur) :: s.power.hist).take 16 } := rfl

@[simp] theorem State.inputSample_down : (s.inputSample mv cur).power.down = s.power.down := rfl
@[simp] theorem State.inputSample_current : (s.inputSample mv cur).power.current = s.power.current := rfl
@[simp] theorem State.inputSample_brakeAt : (s.inputSample mv cur).power.brakeAt = s.power.brakeAt := rfl
@[simp] theorem State.inputSample_now : (s.inputSample mv cur).now = s.now := rfl
@[simp] theorem State.inputSample_arr (p : Nat) : (s.inputSample mv cur).arr p = s.arr p := rfl

/-- R483: a sample leaves every other register. -/
theorem State.inputSample_reg {off : Nat} (hv : off ≠ rPwrInV) (hi : off ≠ rPwrInI) (hs : off ≠ rPwrStatus) :
    (s.inputSample mv cur).reg off = s.reg off := by
  rw [State.inputSample_eq, State.withPower_reg, State.sampleShown, State.reg_setFlag_other _ _ _ hs, State.reg_setFlag_other _ _ _ hs,
    State.reg_setFld_other _ _ _ _ hi, State.reg_setFld_other _ _ _ _ hv]

/-- R483: of the status a sample sets the two bits that warn of the voltage. -/
theorem State.inputSample_flag (i : Nat) : (s.inputSample mv cur).flag rPwrStatus i =
    if i = 21 then decide (60000 < mv) else if i = 22 then decide (mv < 40000) else s.flag rPwrStatus i := by
  rw [State.inputSample_eq, State.withPower_flag, State.sampleShown, State.flag_setFlag _ _ _ _ _ (by decide),
    State.flag_setFlag _ _ _ _ _ (by decide), State.flag_setFld_reg _ _ _ _ _ (by decide), State.flag_setFld_reg _ _ _ _ _ (by decide)]

theorem State.inputSample_inV : (s.inputSample mv cur).fld rPwrInV 15 0 = Nat.min 65535 mv := by
  have hle : Nat.min 65535 mv ≤ 65535 := Nat.min_le_left ..
  rw [State.inputSample_eq, State.withPower_fld, State.sampleShown, State.setFlag, State.fld_setFld_reg _ _ _ _ _ _ (by decide), State.setFlag,
    State.fld_setFld_reg _ _ _ _ _ _ (by decide), State.fld_setFld_reg _ _ _ _ _ _ (by decide),
    State.fld_setFld_same _ _ _ _ _ (by decide) (by decide), Nat.mod_eq_of_lt (by omega)]

theorem State.inputSample_inI : (s.inputSample mv cur).fld rPwrInI 15 0 = Nat.min 65535 cur := by
  have hle : Nat.min 65535 cur ≤ 65535 := Nat.min_le_left ..
  rw [State.inputSample_eq, State.withPower_fld, State.sampleShown, State.setFlag, State.fld_setFld_reg _ _ _ _ _ _ (by decide), State.setFlag,
    State.fld_setFld_reg _ _ _ _ _ _ (by decide), State.fld_setFld_same _ _ _ _ _ (by decide) (by decide), Nat.mod_eq_of_lt (by omega)]

end

/-! Power fail and shutdown (R448). -/

/-- R448: a power fail or a shutdown stops the arrays and is recorded with the last samples. -/
def State.failRecorded (s : State) (code mv cur : Nat) : State :=
  let u := (s.inputSample mv cur).stopAll.inputEvent code 2 0xFF 0 mv cur 0 0 0
  let h := u.power.hist ++ List.replicate 16 (0, 0)
  ((u.lifeAdd 0x06 ((h.take 16).flatMap (fun (x : Nat × Nat) => bytesOf 2 x.1 ++ bytesOf 2 x.2))).lifeCount 5 1).lifeFlush

/-- R448: the device is down for one cause, its domains off. -/
def State.downFor (u : State) (kind : Nat) : State :=
  u.domainsOff.withDown { u.domainsOff.power with down := kind } { u.domainsOff.brp with ready := false, pwrFail := true }

theorem State.downFor_leaves (u : State) (kind : Nat) : (u.downFor kind).power.down = kind ∧ (u.downFor kind).brp.pwrFail = true ∧
    (u.downFor kind).brp.ready = false ∧ ∀ d < 334, (u.downFor kind).dom d = 0 ∨ (u.downFor kind).dom d = 5 := by
  refine ⟨rfl, rfl, rfl, fun d hd => ?_⟩
  rw [State.downFor, State.withDown_dom]
  exact u.domainsOff_dom_or hd

/-- R448: the device goes down for one cause, its arrays stopped and its domains off. -/
theorem State.powerDown_down {s : State} (hup : s.power.down = 0) (kind code mv cur : Nat) :
    (s.powerDown kind code mv cur).power.down = kind ∧ (s.powerDown kind code mv cur).brp.pwrFail = true ∧
      (s.powerDown kind code mv cur).brp.ready = false ∧
      ∀ d < 334, (s.powerDown kind code mv cur).dom d = 0 ∨ (s.powerDown kind code mv cur).dom d = 5 := by
  have hrun : ¬(s.power.down = 1 ∨ s.power.down = 2 ∨ s.power.down = 3) := by omega
  have heq : s.powerDown kind code mv cur = (s.failRecorded code mv cur).downFor kind := by
    simp only [State.powerDown, if_neg hrun]
    rfl
  exact heq ▸ (s.failRecorded code mv cur).downFor_leaves kind

section
variable {s : State} {mv cur : Nat}

theorem exec_powerFail_down (hup : s.power.down = 0) (hlow : mv < 36000) : ∃ t, exec (.powerFail mv cur) s = .next t ∧ t.power.down = 1 ∧
    t.brp.pwrFail = true ∧ t.brp.ready = false ∧ ∀ d < 334, t.dom d = 0 ∨ t.dom d = 5 :=
  ⟨s.powerDown 1 0x03 mv cur, by rw [exec_powerFail, execPowerFail, if_pos hlow], State.powerDown_down hup ..⟩

theorem exec_overvoltageShutdown_down (hup : s.power.down = 0) (hhigh : 66000 < mv) : ∃ t, exec (.overvoltageShutdown mv cur) s = .next t ∧
    t.power.down = 2 ∧ t.brp.pwrFail = true ∧ t.brp.ready = false ∧ ∀ d < 334, t.dom d = 0 ∨ t.dom d = 5 :=
  ⟨s.powerDown 2 0x05 mv cur, by rw [exec_overvoltageShutdown, execOvervoltageShutdown, if_pos hhigh], State.powerDown_down hup ..⟩

theorem exec_inputUndervoltageWarn_low (hlow : mv < 40000) :
    exec (.inputUndervoltageWarn mv cur) s = .next ((s.inputSample mv cur).inputEvent 0x02 0 0xFF 0 mv cur 0 0 0) := by
  rw [exec_inputUndervoltageWarn, execInputUndervoltageWarn, if_pos hlow]

theorem exec_inputOvervoltageWarn_high (hhigh : 60000 < mv) :
    exec (.inputOvervoltageWarn mv cur) s = .next ((s.inputSample mv cur).inputEvent 0x04 0 0xFF 0 mv cur 0 0 0) := by
  rw [exec_inputOvervoltageWarn, execInputOvervoltageWarn, if_pos hhigh]

theorem exec_inputRecovery_restarts (slotId : Fin 16) (recov : Bool) (hdown : s.power.down = 1 ∨ s.power.down = 2) :
    exec (.inputRecovery slotId recov) s = .next (s.coldReset.stageZero slotId.val recov) := by
  rw [exec_inputRecovery, execInputRecovery, if_pos hdown]

/-- R447: a module that is in service is isolated and counted, and the cap follows. -/
theorem exec_moduleIsolate_isolates {m : Fin 24} (hon : s.flag rPwrMod m.val = true) {v : State}
    (hv : (((s.setFlag rPwrMod m.val false).setFld rPwrStatus 19 15 (s.fld rPwrStatus 19 15 + 1)).logAdd 0x0B 3 0 [m.val]).capUpdate = v) :
    exec (.moduleIsolate m) s = .next (v.inputEvent 0x0B 1 m.val 0 (v.fld rPwrInV 15 0) (v.fld rPwrInI 15 0) (s.fld rPwrCapEff 15 0)
      (v.fld rPwrCapEff 15 0) 0) := by
  have hstatus : (s.setFlag rPwrMod m.val false).fld rPwrStatus 19 15 = s.fld rPwrStatus 19 15 := s.fld_setFld_reg _ _ _ _ _ (by decide)
  simp only [exec_moduleIsolate, execModuleIsolate, hon, hv, Bool.not_true, Bool.false_eq_true, if_false]

end

/-! The current limit (R458). -/

section
variable {s : State} {mv cur : Nat}

/-- R458: one more step of the limit. -/
def State.limited (u : State) : State :=
  ((u.withPower { u.power with current := Nat.min 176 (u.power.current + 8) }).setFlag rPwrStatus 25 true).modEach
    (fun a => { a with targetCode := a.targetCode - 8 })

theorem exec_currentLimitSample_limits (h : 38000 < cur ∨ (s.power.current ≠ 0 ∧ 36000 ≤ cur)) :
    exec (.currentLimitSample mv cur) s = .next (s.inputSample mv cur).limited := by
  have hover : 38000 < cur ∨ ((s.inputSample mv cur).power.current ≠ 0 ∧ 36000 ≤ cur) := h
  simp only [exec_currentLimitSample, execCurrentLimitSample, if_pos hover]
  rfl

/-- R458: a step of the limit is shown, and every array's code falls by 8. -/
theorem State.limited_leaves (u : State) : u.limited.power.current = Nat.min 176 (u.power.current + 8) ∧ u.limited.flag rPwrStatus 25 = true ∧
    ∀ p < 18, (u.limited.arr p).targetCode = (u.arr p).targetCode - 8 := by
  refine ⟨?_, ?_, fun p hp => ?_⟩
  · rw [State.limited, State.modEach_power, State.setFlag_power, State.withPower_power]
  · rw [State.limited, State.modEach_flag, State.flag_setFlag _ _ _ _ _ (by decide), if_pos rfl]
  · rw [State.limited, State.modEach_arr _ _ hp, State.arr_setFlag, State.withPower_arr]

/-- R458: below 360 A the limit is lifted. -/
theorem exec_currentLimitSample_lifts (h : cur < 36000) : exec (.currentLimitSample mv cur) s =
    .next { s.inputSample mv cur with power := { (s.inputSample mv cur).power with current := 0 } } := by
  have hnot : ¬(38000 < cur ∨ ((s.inputSample mv cur).power.current ≠ 0 ∧ 36000 ≤ cur)) := by omega
  simp only [exec_currentLimitSample, execCurrentLimitSample, if_neg hnot]

end

/-! The hard brake (R458, R459). -/

/-- R458: a brake begins: every array's clock is gated, and its code falls by 16. -/
def State.braked (u : State) : State :=
  let v := u.setFlag rPwrStatus 23 true
  (v.withPower { v.power with brakeAt := some v.now.toNat, brakeLoop := true }).modEach
    (fun a => { a with brake := true, targetCode := a.targetCode - 16 })

/-- R459: a brake that began at b ends at t, and its time is counted. -/
def State.brakeEnded (u : State) (b : Nat) (t : DWord) : State :=
  let v := ((u.modEach (fun a => { a with brake := false })).setFlag rPwrStatus 23 false).bump64 (rPwrThr 1) ((t.toNat - b) / 64000)
  v.withPower { v.power with brakeAt := none }

section
variable {s : State} {mv cur : Nat}

theorem exec_hardBrake_brakes (hcur : 40000 < cur) (hfree : s.flag rPwrStatus 23 = false) {v : State} (hv : (s.inputSample mv cur).braked = v) :
    exec (.hardBrake mv cur) s = .next (if (v.onceMs 6).1 then (v.onceMs 6).2.inputEvent 0x06 0 0xFF 0 mv cur 0 0 0 else (v.onceMs 6).2) := by
  have hshown : (s.inputSample mv cur).flag rPwrStatus 23 = false := (s.inputSample_flag mv cur 23).trans hfree
  have hnot : ¬(cur ≤ 40000 ∨ (s.inputSample mv cur).flag rPwrStatus 23 = true) := by
    rw [hshown]
    rintro (hle | hset)
    · omega
    · exact Bool.false_ne_true hset
  simp only [State.braked, State.withPower, State.modEach] at hv
  simp only [exec_hardBrake, execHardBrake, if_neg hnot, hv]

/-- R458: what a brake leaves. -/
theorem State.braked_leaves (u : State) : u.braked.flag rPwrStatus 23 = true ∧ u.braked.power.brakeAt = some u.now.toNat ∧
    ∀ p < 18, (u.braked.arr p).brake = true ∧ (u.braked.arr p).targetCode = (u.arr p).targetCode - 16 := by
  refine ⟨?_, ?_, fun p hp => ?_⟩
  · rw [State.braked, State.modEach_flag, State.withPower_flag, State.flag_setFlag _ _ _ _ _ (by decide), if_pos rfl]
  · rw [State.braked, State.modEach_power, State.withPower_power, State.setFlag_now]
  · rw [State.braked, State.modEach_arr _ _ hp, State.withPower_arr, State.arr_setFlag]
    exact ⟨rfl, rfl⟩

theorem exec_hardBrakeRelease_ends {b : Nat} {t : DWord} (hat : s.power.brakeAt = some b) (hcur : cur ≤ 36000) (ht : b + 640000 ≤ t.toNat) :
    exec (.hardBrakeRelease mv cur t) s = .next ((s.inputSample mv cur).brakeEnded b t) := by
  have hat' : (s.inputSample mv cur).power.brakeAt = some b := hat
  have hnot : ¬(36000 < cur ∨ t.toNat < b + 640000) := by omega
  simp only [exec_hardBrakeRelease, execHardBrakeRelease, hat', if_neg hnot]
  rfl

/-- R459: what the end of a brake leaves. -/
theorem State.brakeEnded_leaves (u : State) (b : Nat) (t : DWord) : (u.brakeEnded b t).power.brakeAt = none ∧
    (u.brakeEnded b t).flag rPwrStatus 23 = false ∧ (∀ p < 18, ((u.brakeEnded b t).arr p).brake = false) ∧
    (u.brakeEnded b t).reg64 (rPwrThr 1) = (u.reg64 (rPwrThr 1) + (t.toNat - b) / 64000) % 2 ^ 64 := by
  refine ⟨by rw [State.brakeEnded, State.withPower_power], ?_, fun p hp => ?_, ?_⟩
  · rw [State.brakeEnded, State.withPower_flag, State.flag, State.reg_bump64_other _ _ (by decide) (by decide), ← State.flag,
      State.flag_setFlag _ _ _ _ _ (by decide), if_pos rfl]
  · rw [State.brakeEnded, State.withPower_arr, State.bump64_arr, State.arr_setFlag, State.modEach_arr _ _ hp]
  · have hreg : ∀ off, off ≠ rPwrStatus → ((u.modEach (fun a => { a with brake := false })).setFlag rPwrStatus 23 false).reg off = u.reg off :=
      fun off h => (State.reg_setFlag_other _ _ _ h).trans (State.modEach_reg ..)
    rw [State.brakeEnded, State.withPower_reg64, State.bump64, State.reg64_setReg64, Nat.mod_mod, State.reg64, hreg _ (by decide),
      hreg _ (by decide), State.reg64]

end

/-! The rack's request (R463, R466, R557). -/

section
variable {s : State}

/-- R463: the cap in force. -/
theorem State.capEff_eq : s.capEff = if s.rackOn then min (min s.capNet s.capMax) (s.fld rPwrRack 15 0) else min s.capNet s.capMax := rfl

/-- R557: while the device is down the request is recorded only. -/
theorem exec_throtReqAssert_down (h : s.power.down ≠ 0) : exec .throtReqAssert s = .next { s with power := { s.power with pinReq := true } } := by
  rw [exec_throtReqAssert, execThrotReqAssert]
  exact congrArg Host.Outcome.next (if_pos (.inr h))

theorem exec_throtReqAssert_lowers (hfree : s.flag rPwrStatus 20 = false) (hup : s.power.down = 0) {v : State}
    (hv : s.setFlag rPwrStatus 20 true = v) :
    exec .throtReqAssert s = .next ({ v with power := { v.power with pinReq := true } }.rackChange true) := by
  have hnot : ¬(s.flag rPwrStatus 20 = true ∨ s.power.down ≠ 0) := by simp [hfree, hup]
  subst hv
  rw [exec_throtReqAssert, execThrotReqAssert]
  exact congrArg Host.Outcome.next (if_neg hnot)

theorem exec_throtReqDeassert_releases (hheld : s.flag rPwrStatus 20 = true) {v w : State} (hv : s.setFlag rPwrStatus 20 false = v)
    (hw : { v with power := { v.power with pinReq := false } } = w) :
    exec .throtReqDeassert s = .next (w.inputEvent 0x10 0 0xFF 0 0 0 (s.fld rPwrCapEff 15 0) w.capEff 0) := by
  have hheld' : ({ s with power := { s.power with pinReq := false } } : State).flag rPwrStatus 20 = true := hheld
  subst hv hw
  simp only [exec_throtReqDeassert, execThrotReqDeassert, hheld', Bool.not_true, Bool.false_eq_true, if_false]
  rfl

end

/-- Settles O53: what a sample shows, and one lemma for each event and each of its outcomes. -/
theorem inputPowerEvents : Obligations.InputPowerEvents := by
  unfold Obligations.InputPowerEvents
  intro s mv cur
  refine ⟨⟨s.inputSample_inV mv cur, s.inputSample_inI mv cur, s.inputSample_flag mv cur 22, s.inputSample_flag mv cur 21⟩,
    exec_inputUndervoltageWarn_low, exec_inputOvervoltageWarn_high, fun d => s.domainsOff_dom, exec_powerFail_down,
    exec_overvoltageShutdown_down, exec_inputRecovery_restarts, fun m hon => exec_moduleIsolate_isolates hon rfl,
    fun h => ⟨_, exec_currentLimitSample_limits h, (s.inputSample mv cur).limited_leaves⟩, exec_currentLimitSample_lifts,
    fun hcur hfree => ?brake, fun t b hat hcur ht => ?release,
    State.capEff_eq, exec_throtReqAssert_down, fun hfree hup => exec_throtReqAssert_lowers hfree hup rfl,
    fun hheld => exec_throtReqDeassert_releases hheld rfl rfl⟩
  case brake =>
    obtain ⟨hflag, hat, harrays⟩ := (s.inputSample mv cur).braked_leaves
    exact ⟨_, hflag, hat, harrays, exec_hardBrake_brakes hcur hfree rfl⟩
  case release =>
    obtain ⟨hat', hflag, harrays, hcount⟩ := (s.inputSample mv cur).brakeEnded_leaves b t
    refine ⟨_, exec_hardBrakeRelease_ends hat hcur ht, hat', hflag, harrays, hcount.trans ?_⟩
    rw [State.reg64, s.inputSample_reg mv cur (by decide) (by decide) (by decide), s.inputSample_reg mv cur (by decide) (by decide) (by decide)]
    rfl

end Sys2Proof.Machine

/-!
The power loops (13_power R453, R458, R464, R465, R468, R472, R473, R476, R478; 15_management R540 to R542): the cap loop and the codes that
partitions take from it, phase profiles, temperatures and the trip, the energy of a millisecond, and the periodic writes of the offsets and of
the lifetime record.
-/
namespace Sys2Proof.Machine

/-! The cap loop (R453, R458, R464, R465, R476). -/

section
variable (s : State)

/-- R453: strips that take setpoints change fields of registers only. -/
theorem State.stripsUnlessRaised_unchanged {γ : Type} (g : State → γ) (hg : ∀ t off hi lo x, g (State.setFld t off hi lo x) = g t)
    (p code : Nat) : g (s.stripsUnlessRaised p code) = g s := by
  rw [State.stripsUnlessRaised]
  split
  · rfl
  · refine foldl_unchanged g (fun t i => ?_) _ s
    split
    · exact hg ..
    · rfl

theorem State.capUpdate_power : s.capUpdate.power = s.power := by
  simp only [State.capUpdate]
  split
  · rfl
  · rw [State.inputEvent_power, State.setFld_power, State.setReg_power]

/-- R464, R476: an array of a partition takes the partition's code, with what limits it shown. -/
def State.codeTaken (want cap code : Nat) (s : State) (p : Nat) : State :=
  let rs := (s.reasonCodes p want cap).filter (fun x => decide (x.2 < want))
  let lowest := rs.find? (fun x => rs.all (fun y => decide (x.2 ≤ y.2)))
  let s := ((s.setFld (rPwrAry p) 23 16 code).setFld (rPwrAry p) 31 24 (s.arr p).freqCode).setFld (rPwrAry p) 15 8 (s.aryMax p)
  let s := s.setFld (rPwrAry p) 7 5 (match lowest with | some x => x.1 | none => 7)
  let s := rs.foldl (fun s x => s.setFlag rPwrStatus (24 + x.1) true) s
  let climbing := s.flag (rPwrAry p) 3 && decide ((s.arr p).freqCode < code)
  ((s.modArr p (fun a => { a with targetCode := code })).setFlag (rPwrAry p) 3 climbing).stripsUnlessRaised p (Nat.max code (s.arr p).freqCode)

theorem State.codeTaken_power (want cap code p : Nat) : (s.codeTaken want cap code p).power = s.power := by
  rw [State.codeTaken, State.stripsUnlessRaised_unchanged _ State.power fun _ _ _ _ _ => rfl, State.setFlag_power, State.modArr_power,
    foldl_unchanged State.power fun _ _ => State.setFlag_power ..]
  rfl

theorem State.codeTaken_targetCode (want cap code p j : Nat) :
    ((s.codeTaken want cap code p).arr j).targetCode = if j = p then code else (s.arr j).targetCode := by
  rw [State.codeTaken, State.stripsUnlessRaised_unchanged _ (fun t => (t.arr j).targetCode) fun _ _ _ _ _ => rfl, State.arr_setFlag]
  by_cases hj : j = p
  · subst hj
    rw [State.arr_modArr_same, if_pos rfl]
  · rw [State.arr_modArr_other _ _ hj, if_neg hj, foldl_unchanged (fun t => (State.arr t j)) fun _ _ => State.arr_setFlag ..]
    rfl

theorem foldl_codeTaken_targetCode (want cap code j : Nat) (ps : List Nat) :
    ((ps.foldl (State.codeTaken want cap code) s).arr j).targetCode = if j ∈ ps then code else (s.arr j).targetCode := by
  induction ps generalizing s with
  | nil => rfl
  | cons p ps ih =>
    rw [List.foldl_cons, ih, State.codeTaken_targetCode]
    by_cases hj : j = p
    · simp [hj]
    · simp [hj]

/-- R465: every array of a partition takes the lowest code that any reason of any of them requires. -/
theorem State.loopPart_resident {s : State} {q c : Nat} (hres : s.resident q = some c) (share : Nat) :
    let want := s.fld (rPwrPartCfg q) 23 16
    let cap := (List.range (min want 176 + 1)).foldl (fun m k => if s.partPower q k ≤ share then k else m) 0
    let code := (s.ctxArrays c).foldl (fun m p => (s.reasonCodes p want cap).foldl (fun m x => min m x.2) m) want
    s.loopPart q share =
      (s.ctxArrays c).foldl (State.codeTaken want cap code) ((s.setFld (rPwrPartStatus q) 31 24 code).setFld (rPwrPartStatus q) 15 0 share) := by
  intro want cap code
  rw [State.loopPart, hres]
  rfl

theorem State.loopPart_power (q share : Nat) : (s.loopPart q share).power = s.power := by
  cases hres : s.resident q with
  | none => rw [State.loopPart, hres]
  | some c =>
    rw [State.loopPart_resident hres, foldl_unchanged State.power fun _ _ => State.codeTaken_power ..]
    rfl

end

/-- R458: no part of the loop begins or ends a brake; from the next loop on a brake that stands counts. -/
theorem exec_capLoop_up {s : State} (hup : s.power.down = 0) (obs : List (Nat × Nat × Nat × Nat)) (droops : List (Nat × Nat)) (stretched : Nat) :
    ∃ t, exec (.capLoop obs droops stretched) s = .next t ∧ t.power.brakeLoop = s.power.brakeAt.isSome := by
  have hrun : ¬(s.power.down ≠ 0) := by omega
  rw [exec_capLoop, execCapLoop, if_neg hrun]
  extract_lets observed learned _ kept lim looped boosted capped cleared shared stretch sited counted _
  refine ⟨_, rfl, congrArg Option.isSome ?_⟩
  have hobserved : observed.power.brakeAt = s.power.brakeAt := by
    refine foldl_unchanged (fun t => t.power.brakeAt) (fun t o => ?_) _ s
    split <;> rfl
  have hlearned : learned.power.brakeAt = observed.power.brakeAt := by
    refine foldl_unchanged (fun t => t.power.brakeAt) (fun t d => ?_) _ observed
    split
    · split <;> rfl
    · rfl
  have hlooped : looped.power.brakeAt = kept.power.brakeAt := by
    refine foldl_unchanged (fun t => t.power.brakeAt) (fun t p => ?_) _ kept
    rfl
  have hboosted : boosted.power.brakeAt = looped.power.brakeAt := by
    refine foldl_unchanged (fun t => t.power.brakeAt) (fun t p => ?_) _ looped
    simp only [State.setFlag_power]
    split
    · rw [State.postDev_power]
    · rfl
  have hshared : shared.power.brakeAt = cleared.power.brakeAt := by
    refine foldl_unchanged (fun t => t.power.brakeAt) (fun t g => ?_) _ cleared
    rw [State.loopPart_power]
  have hstretch : stretch.power.brakeAt = shared.power.brakeAt := by
    simp only [stretch]
    split <;> rfl
  have hsited : sited.power.brakeAt = stretch.power.brakeAt := by
    simp only [sited]
    split <;> rfl
  have hcounted : counted.power.brakeAt = sited.power.brakeAt := by
    refine foldl_unchanged (fun t => t.power.brakeAt) (fun t n => ?_) _ sited
    split <;> rfl
  have hkept : kept.power.brakeAt = learned.power.brakeAt := rfl
  have hcapped : capped.power = boosted.power := boosted.capUpdate_power
  have hcleared : cleared.power = capped.power := capped.setFld_power ..
  calc counted.power.brakeAt = cleared.power.brakeAt := by rw [hcounted, hsited, hstretch, hshared]
    _ = kept.power.brakeAt := by rw [hcleared, hcapped, hboosted, hlooped]
    _ = s.power.brakeAt := by rw [hkept, hlearned, hobserved]

theorem exec_capLoop_down {s : State} (hdown : s.power.down ≠ 0) (obs : List (Nat × Nat × Nat × Nat)) (droops : List (Nat × Nat))
    (stretched : Nat) : exec (.capLoop obs droops stretched) s = .next s := by
  rw [exec_capLoop, execCapLoop]
  exact congrArg Host.Outcome.next (if_pos hdown)

/-! Temperatures (R472, R473). -/

section
variable {s : State} {k v : Nat}

/-- R472: a reading out of range fails its sensor. -/
theorem State.sensorRead_failed (hout : tempOf v < -320 ∨ 1200 < tempOf v) (hnew : s.fld (rPwrTemp k) 15 0 ≠ 0x8000) (stuck : Bool) :
    s.sensorRead k v stuck = (s.setFld (rPwrTemp k) 15 0 0x8000).thermEvent 0x06 1 k v (if k < 288 then k / 16 else 0xFF) 0 := by
  rw [State.sensorRead, if_pos (by tauto), if_neg hnew]

/-- R472: a reading in range is shown. -/
theorem State.sensorRead_shown (hv : v < 65536) (hlo : -320 ≤ tempOf v) (hhi : tempOf v ≤ 1200) :
    (s.sensorRead k v false).fld (rPwrTemp k) 15 0 = v := by
  have hshown : (s.setFld (rPwrTemp k) 15 0 v).fld (rPwrTemp k) 15 0 = v :=
    (s.fld_setFld_same _ _ _ _ (by decide) (by decide)).trans (Nat.mod_eq_of_lt hv)
  have hin : ¬(tempOf v < -320 ∨ 1200 < tempOf v ∨ false = true) := by
    rintro (hlow | hhigh | hstuck)
    · omega
    · omega
    · exact Bool.false_ne_true hstuck
  simp only [State.sensorRead, if_neg hin]
  split
  · rw [State.fld_setFld_bits _ _ _ _ _ _ _ (by decide) (by decide) (by decide), hshown]
  · exact hshown

theorem State.hottest_congr {t : State} (ht : ∀ k, t.fld (rPwrTemp k) 15 0 = s.fld (rPwrTemp k) 15 0) (ks : List Nat) :
    t.hottest ks = s.hottest ks := by simp only [State.hottest, ht]

/-- R472: the device is as hot as its hottest working sensor; the sensor that stands for it is a sensor. -/
theorem State.deviceTemp_hot {x : Int} (hhot : s.hottest (List.range 306) = (k, v)) (hk : k < 306) (hv : x ≤ tempOf v) :
    s.deviceTemp.1 ≠ 0x1FF ∧ x ≤ s.deviceTemp.2 := by
  have hworks : k ≠ 0x1FF := by omega
  rw [State.deviceTemp, hhot]
  refine List.foldlRecOn (motive := fun m : Nat × Int => m.1 ≠ 0x1FF ∧ x ≤ m.2) _ _ ⟨hworks, ?_⟩ fun m hm p hp => ?_
  · rw [if_neg hworks]
    exact hv
  · obtain ⟨hsensor, hleast⟩ := hm
    split
    case isFalse => exact ⟨hsensor, hleast⟩
    case isTrue hless =>
      refine ⟨?_, by dsimp only; omega⟩
      cases hfind : ((List.range 16).map (fun i => 16 * p + i)).find? (fun k => s.fld (rPwrTemp k) 15 0 == 0x8000) with
      | none => exact hsensor
      | some j =>
        have hmem := List.mem_of_find?_eq_some hfind
        simp only [List.mem_map, List.mem_range] at hmem hp
        obtain ⟨i, hi, rfl⟩ := hmem
        simp only [Option.getD_some]
        omega

end

/-- R473: the device has tripped, its domains off. -/
def State.tripped (u : State) : State :=
  u.domainsOff.withDown { u.domainsOff.power with down := 3 } { u.domainsOff.brp with thermTrip := true, ready := false }

theorem State.tripped_leaves (u : State) : u.tripped.power.down = 3 ∧ u.tripped.brp.thermTrip = true ∧ u.tripped.brp.ready = false ∧
    ∀ d < 334, u.tripped.dom d = 0 ∨ u.tripped.dom d = 5 := by
  refine ⟨rfl, rfl, rfl, fun d hd => ?_⟩
  rw [State.tripped, State.withDown_dom]
  exact u.domainsOff_dom_or hd

/-- R473: what a trip leaves. -/
theorem State.thermTripNow_leaves (s : State) (k v : Nat) : (s.thermTripNow k v).power.down = 3 ∧ (s.thermTripNow k v).brp.thermTrip = true ∧
    (s.thermTripNow k v).brp.ready = false ∧ ∀ d < 334, (s.thermTripNow k v).dom d = 0 ∨ (s.thermTripNow k v).dom d = 5 :=
  State.tripped_leaves _

/-- R472: the hottest sensor and its reading are shown. -/
def State.maxShown (s : State) (k v : Nat) : State := (s.setFld rPwrThermMax 24 16 k).setFld rPwrThermMax 15 0 v

theorem State.maxShown_temp (s : State) (k v j : Nat) : (s.maxShown k v).fld (rPwrTemp j) 15 0 = s.fld (rPwrTemp j) 15 0 := by
  have hreg : rPwrTemp j ≠ rPwrThermMax := by simp only [rPwrTemp, rPwrThermMax]; omega
  rw [State.maxShown, State.fld_setFld_reg _ _ _ _ _ _ hreg, State.fld_setFld_reg _ _ _ _ _ _ hreg]

theorem exec_thermalSample_down {s : State} (hdown : s.power.down = 3) (readings : List (Nat × Nat × Bool)) :
    exec (.thermalSample readings) s = .next s := by
  rw [exec_thermalSample, execThermalSample]
  exact congrArg Host.Outcome.next (if_pos hdown)

/-- R473: one reading that makes the device too hot trips it. -/
theorem exec_thermalSample_trips {s x : State} {k v : Nat} (hup : s.power.down ≠ 3) (hk : k < 306) (hv : v < 65536)
    (hhot : (s.sensorRead k v false).hottest (List.range 306) = (k, v)) (hlimit : 880 ≤ tempOf v)
    (hx : (s.sensorRead k v false).maxShown k v = x) :
    exec (.thermalSample [(k, v, false)]) s = .next (x.thermTripNow x.deviceTemp.1 (x.deviceTemp.2 % 65536).toNat) := by
  have hworks : k ≠ 0x1FF := by omega
  have hshown : x.hottest (List.range 306) = (k, v) := by rw [← hx, State.hottest_congr (State.maxShown_temp _ k v), hhot]
  have htrip := State.deviceTemp_hot hshown hk hlimit
  rw [State.maxShown] at hx
  simp only [exec_thermalSample, execThermalSample, if_neg hup, List.foldl_cons, List.foldl_nil, if_pos hk, Nat.mod_eq_of_lt hv, hhot,
    if_neg hworks, hx, if_pos htrip]

/-! The energy of a millisecond (R478). -/

section
variable (s : State)

theorem State.energyAdd_reg {off o : Nat} (h : o ≠ off) (h4 : o ≠ off + 4) (num den e : Nat) : (s.energyAdd off num den e).reg o = s.reg o :=
  (State.reg_bump64_other _ _ h h4).trans rfl

/-- R478: the input's energy is counted, and its average power and the scale of the shares are shown. -/
def State.energyShown (e dev : Nat) : State :=
  ((s.bump64 rPwrEnergyIn e).setFld rPwrInP 15 0 (min 65535 (e / 1000))).setReg rPwrScale (BitVec.ofNat 32 (min 0xFFFFFFFF (e * 65536 / dev)))

theorem State.energyShown_inP (e dev : Nat) : (s.energyShown e dev).fld rPwrInP 15 0 = min 65535 (e / 1000) := by
  have hle : min 65535 (e / 1000) < 2 ^ (15 + 1 - 0) := by omega
  rw [State.energyShown, State.fld, State.reg_setReg_other _ _ (by decide), ← State.fld, State.fld_setFld_same _ _ _ _ _ (by decide) (by decide),
    Nat.mod_eq_of_lt hle]

/-- R478: a millisecond in which only the device's own energy is modelled gives all of it to the device. -/
theorem exec_energyAttribution_own {s u : State} {e dev : Nat} (hdev : 0 < dev)
    (hu : (s.energyShown e dev).energyAdd rPwrEnergyDev dev dev e = u) :
    exec (.energyAttribution e [] [] dev) s = .next (u.withPower { u.power with attr := 0 }) := by
  have hnot : ¬(dev = 0) := by omega
  have hattr : e * 0 / dev / 1000 = 0 := by rw [Nat.mul_zero, Nat.zero_div, Nat.zero_div]
  subst hu
  simp only [exec_energyAttribution, execEnergyAttribution, List.map_nil, List.foldl_nil, Nat.zero_add, if_neg hnot, hattr]
  rfl

end

/-! Profiles (R468). -/

section
variable (p : Profile) (ratio step : Nat)

theorem Profile.observe_seen (hseen : p.count ≠ 0) : (p.observe ratio step).ratio = min 255 ((3 * p.ratio + ratio) / 4) := by
  simp only [Profile.observe, if_neg hseen, Nat.min_eq_min]

theorem Profile.observe_first (hfirst : p.count = 0) : (p.observe ratio step).ratio = min 255 ratio := by
  simp only [Profile.observe, if_pos hfirst, Nat.min_eq_min]

end

/-! The periodic writes (R453, R540 to R542). -/

section
variable (s : State)

/-- R453: the offsets in force stand: the new ones are kept apart. -/
theorem State.offsetOf_ofs (d : Nat) : (s.offsetOf d).power.ofs = s.power.ofs := by
  simp only [State.offsetOf]
  split
  · rfl
  · refine foldl_unchanged (fun t => t.power.ofs) (fun t i => ?_) _ s
    split
    · rw [State.postDev_power]
    · rfl

theorem exec_dailyOffsetUpdate_writes : ∃ t, exec .dailyOffsetUpdate s = .next t ∧ t.power.adj = [] ∧ t.power.ofs = s.power.ofs := by
  rw [exec_dailyOffsetUpdate, execDailyOffsetUpdate]
  extract_lets offset shown power cleared
  refine ⟨_, rfl, ?_, ?_⟩
  · rw [State.lifeAdd_power]
  · have hoffset : offset.power.ofs = s.power.ofs := by
      refine foldl_unchanged (fun t => t.power.ofs) (fun t d => ?_) _ s
      rw [State.offsetOf_ofs]
    have hshown : shown.power.ofs = offset.power.ofs := by
      refine foldl_unchanged (fun t => t.power.ofs) (fun t d => ?_) _ offset
      rfl
    rw [State.lifeAdd_power]
    simp only [cleared, power]
    rw [hshown, hoffset]

theorem State.lifeWrite_secs (e : LifeEntry) : (s.lifeWrite e).life.secs = s.life.secs := by
  rw [State.lifeWrite]
  exact (apply_ite (fun t : State => t.life.secs) _ _ _).trans (ite_self _)

theorem State.lifeWrite_buf (e : LifeEntry) : (s.lifeWrite e).life.buf = s.life.buf := by
  rw [State.lifeWrite]
  exact (apply_ite (fun t : State => t.life.buf) _ _ _).trans (ite_self _)

/-- R541: a flush empties the buffer. -/
theorem State.lifeFlush_buf : s.lifeFlush.life.buf = [] := by
  have hwritten (es : List LifeEntry) (u : State) : (es.foldl State.lifeWrite u).life.buf = u.life.buf := by
    refine foldl_unchanged (fun t => t.life.buf) (fun t e => ?_) es u
    rw [State.lifeWrite_buf]
  simp only [State.lifeFlush]
  split <;> exact hwritten ..

theorem State.lifeFlush_secs : s.lifeFlush.life.secs = s.life.secs := by
  have hwritten (es : List LifeEntry) (u : State) : (es.foldl State.lifeWrite u).life.secs = u.life.secs := by
    refine foldl_unchanged (fun t => t.life.secs) (fun t e => ?_) es u
    rw [State.lifeWrite_secs]
  simp only [State.lifeFlush]
  split <;> exact hwritten ..

/-- R540: a minute of powered time is counted, and the buffered entries are written. -/
theorem exec_lifetimeFlush_flushes :
    ∃ t, exec .lifetimeFlush s = .next t ∧ t.life.secs = s.life.secs + 60 ∧ t.life.buf = [] := by
  rw [exec_lifetimeFlush, execLifetimeFlush]
  extract_lets old new banded ctr _ counted shown
  refine ⟨_, rfl, ?_, State.lifeFlush_buf _⟩
  have hshown : shown.life = counted.life := by
    simp only [shown]
    split
    · rfl
    · rw [State.setFld_life]
  rw [State.lifeFlush_secs, hshown]

end

/-- Settles O55: each event by its lemma; the brake flag and the records by what no pass of a fold changes. -/
theorem powerLoopEvents : Obligations.PowerLoopEvents := by
  unfold Obligations.PowerLoopEvents
  intro s
  refine ⟨fun obs droops n hdown => exec_capLoop_down hdown obs droops n, fun obs droops n hup => exec_capLoop_up hup obs droops n, ?codes,
    fun p ratio step => ⟨rfl, rfl, p.observe_seen ratio step, p.observe_first ratio step⟩,
    fun k v _ _ hout hnew stuck => State.sensorRead_failed hout hnew stuck, fun k v _ hv hlo hhi => State.sensorRead_shown hv hlo hhi,
    fun readings hdown => exec_thermalSample_down hdown readings,
    fun k v hup hk hv hhot hlimit _ => ⟨_, exec_thermalSample_trips hup hk hv hhot hlimit rfl, State.thermTripNow_leaves ..⟩, ?energy,
    exec_dailyOffsetUpdate_writes s, exec_lifetimeFlush_flushes s⟩
  case codes =>
    intro q share c hres want cap code p hp
    rw [State.loopPart_resident hres, foldl_codeTaken_targetCode]
    exact if_pos hp
  case energy =>
    intro e dev hdev
    refine ⟨_, exec_energyAttribution_own hdev rfl, ?_, ?_, rfl⟩
    · rw [State.withPower_fld, State.fld, State.energyAdd_reg _ (by decide) (by decide), ← State.fld, State.energyShown_inP]
    · rw [State.withPower_reg, State.energyAdd_reg _ (by decide) (by decide), State.energyShown, State.reg_setReg_same]

end Sys2Proof.Machine
